-- ==== Sys2Proof/Machine/Regs.lean ====
section
/-! DEFINITION. The register map: every register and every named field of the spec's register tables, with its
place, access, reset value and reset domain (17_register_map.md R536 to R543 and the table of each chapter). -/
namespace Sys2Proof.Machine

/-- Reset domain of a register (17_register_map.md R543). -/
inductive Dom where
  | engine | warm | cold | cellar
deriving DecidableEq, Repr

/-- Access of a register field (17_register_map.md R537). -/
inductive Acc where
  | ro | rw | w1c | w1s | wo | rc
deriving DecidableEq, Repr

/-- Every register (or array of like registers) of the map. -/
inductive Rg where
  | LE_PROFILE | LE_TX_CTRL | LE_CDC_CTRL | LE_EQ_CR_CTRL | LE_SIG_THR | LE_STATUS | LE_STATUS_EV | LE_CD_EST
  | LE_FO_EST | LE_MARGIN | LE_SNR | LE_FEC_CTRL | LE_FEC_STATUS | LE_FEC_EV | LE_FEC_WIN0 | LE_FEC_WIN1
  | LE_FEC_WIN2 | LE_FEC_WIN3 | LE_FEC_TEST | LE_FRM_CTRL | LE_FRM_STATUS | LE_FRM_EV | LE_FRM_OHB | LE_PM_BIP
  | LE_PM_BEI | LE_PM_EB | LE_PM_FEB | LE_PM_SEC | LE_PM_LEN | PERF_PM_SYNC | PERF_PM_OFFSET | CLI_PORT_CFG
  | CLI_PORT_ODU_RATE | CLI_PORT_STATUS | FAB_POOL_STATUS | FAB_EV | FAB_GRP_CTRL | FAB_GRP_STATUS | FAB_TRIB_CFG | FAB_TRIB_STATUS
  | PLACE_CTRL | PLACE_STEP_THR | PLACE_STEP_TIME | PLACE_GUARD | PLACE_EV | PLACE_ENG_STATUS | PLACE_ENG_RX | PLACE_TRIB_POL
  | PLACE_TRIB_STATUS | PAIR_CTRL | PAIR_STATUS | PAIR_LEVEL | PAIR_EV | PAIR_MATCH | PAIR_SKEW | PAIR_BRIDGE
  | TIM_SEL_CTRL | TIM_REF_CFG | TIM_REF_STATUS | TIM_DPLL0_CTRL | TIM_DPLL0_FWORD | TIM_DPLL0_STATUS | TIM_DPLL_CTRL | TIM_DPLL_PSTEP
  | TIM_DPLL_STATUS | TIM_TOD_SEC_HI | TIM_TOD_SEC_LO | TIM_TOD_NS | TIM_TT_CTRL | TIM_TT_THETA | TIM_TT_DTAU | TIM_TT_STATUS
  | TIM_TT_CFG | TIM_TT_NU | TIM_EV | TIM_PORT_DPLL | CIPH_ENG_CTRL | CIPH_ENG_DAUTH_LO | CIPH_ENG_DAUTH_HI | CIPH_EV
  | CIPH_TRIBMAP | CIPH_LOCK_CTRL | CIPH_LOCK_STATUS | HOST_RCTX_BASE_LO | HOST_RCTX_BASE_HI | HOST_RCTX_CFG | HOST_RCTX_LINK | HOST_RCTX_IRQ
  | HOST_RCTX_STATE | HOST_RCTX_IDX | HOST_LINK | HOST_EV | HOST_OHB_BIND | HK_CTRL | HK_STATUS | HK_EV
  | HK_CH_CFG | HK_CH_FLT | HK_CH_DITH | HK_CH_RAW | HK_CH_VAL | HK_CH_DITH_I | HK_CH_DITH_Q | HK_CH_STATUS
  | HK_SEQ | HK_INJ | HK_DET_CFG | HK_DET_HI | HK_DET_LO | HK_DET_VAL | HK_AOUT_CTRL | HK_AOUT_STATUS
  | HK_ALM_CTRL | HK_I3C_CTRL | HK_I3C_STATUS | HK_I3C_TGT_PID_LO | HK_I3C_TGT_PID_HI | HK_I3C_TGT_INFO | HK_LIN | CAL_CTRL
  | CAL_EV | CAL_LAST_REJ | CAL_ENG_STATUS | CAL_HK_STATUS | PWR_STATUS | PWR_WAKE_CFG | PWR_WAKE_SRC | PWR_WAKE_TX
  | PWR_PAD | PWR_RAIL | PWR_CEL_CTRL | PWR_CEL_STATUS | PWR_CEL_RTC_LO | PWR_CEL_RTC_HI | PWR_CEL_ALARM_LO | PWR_CEL_ALARM_HI
  | PWR_CEL_LOG_IDX | PWR_CEL_LOG_D | SEC_STATE | SEC_LC_CTRL | SEC_TRAP_CTRL | SEC_EV | SEC_SHELF_STATUS | SEC_SHELF_SEQ_A
  | SEC_SHELF_SEQ_B | SEC_TRAP_NONCE | SEC_MEAS | SEC_TRAP_MBOX | SEC_IDPUB | PERF_INV_CTRL | PERF_TLM_CTRL | PERF_HK_MASK
  | PERF_EVT_ROUTE | PERF_EV | PERF_CNT_SEL | PERF_CNT_LO | PERF_CNT_HI | PERF_WRAP | SYS_ID | SYS_DEVID_LO
  | SYS_DEVID_HI | SYS_FW | SYS_MODE | SYS_RESET | SYS_RST_STATUS | SYS_IRQ_STATUS | SYS_IRQ_MASK | SYS_EV
  | SYS_SCRATCH
deriving DecidableEq, Repr

/-- Place of a register: byte address of instance 0, bytes from one instance to the next, instances, domain. -/
structure RgInfo where
  base : Nat
  stride : Nat
  count : Nat
  dom : Dom

/-- The register map, from the address lines of the register tables. -/
def Rg.info : Rg → RgInfo
  | .LE_PROFILE => ⟨0x100000, 0x100000, 4, .warm⟩
  | .LE_TX_CTRL => ⟨0x100010, 0x100000, 4, .engine⟩
  | .LE_CDC_CTRL => ⟨0x100020, 0x100000, 4, .engine⟩
  | .LE_EQ_CR_CTRL => ⟨0x100024, 0x100000, 4, .engine⟩
  | .LE_SIG_THR => ⟨0x10002C, 0x100000, 4, .engine⟩
  | .LE_STATUS => ⟨0x100040, 0x100000, 4, .engine⟩
  | .LE_STATUS_EV => ⟨0x100044, 0x100000, 4, .engine⟩
  | .LE_CD_EST => ⟨0x100050, 0x100000, 4, .engine⟩
  | .LE_FO_EST => ⟨0x100054, 0x100000, 4, .engine⟩
  | .LE_MARGIN => ⟨0x100058, 0x100000, 4, .engine⟩
  | .LE_SNR => ⟨0x10005C, 0x100000, 4, .engine⟩
  | .LE_FEC_CTRL => ⟨0x100100, 0x100000, 4, .warm⟩
  | .LE_FEC_STATUS => ⟨0x100104, 0x100000, 4, .engine⟩
  | .LE_FEC_EV => ⟨0x100108, 0x100000, 4, .engine⟩
  | .LE_FEC_WIN0 => ⟨0x100110, 0x100000, 4, .engine⟩
  | .LE_FEC_WIN1 => ⟨0x100114, 0x100000, 4, .engine⟩
  | .LE_FEC_WIN2 => ⟨0x100118, 0x100000, 4, .engine⟩
  | .LE_FEC_WIN3 => ⟨0x10011C, 0x100000, 4, .engine⟩
  | .LE_FEC_TEST => ⟨0x100120, 0x100000, 4, .engine⟩
  | .LE_FRM_CTRL => ⟨0x100200, 0x100000, 4, .warm⟩
  | .LE_FRM_STATUS => ⟨0x100204, 0x100000, 4, .engine⟩
  | .LE_FRM_EV => ⟨0x100208, 0x100000, 4, .engine⟩
  | .LE_FRM_OHB => ⟨0x10020C, 0x100000, 4, .engine⟩
  | .LE_PM_BIP => ⟨0x100210, 0x100000, 4, .engine⟩
  | .LE_PM_BEI => ⟨0x100214, 0x100000, 4, .engine⟩
  | .LE_PM_EB => ⟨0x100218, 0x100000, 4, .engine⟩
  | .LE_PM_FEB => ⟨0x10021C, 0x100000, 4, .engine⟩
  | .LE_PM_SEC => ⟨0x100220, 0x100000, 4, .engine⟩
  | .LE_PM_LEN => ⟨0x100224, 0x100000, 4, .engine⟩
  | .PERF_PM_SYNC => ⟨0x60F00, 0x4, 1, .warm⟩
  | .PERF_PM_OFFSET => ⟨0x60F04, 0x4, 1, .warm⟩
  | .CLI_PORT_CFG => ⟨0xB0000, 0x10, 64, .warm⟩
  | .CLI_PORT_ODU_RATE => ⟨0xB0004, 0x10, 64, .warm⟩
  | .CLI_PORT_STATUS => ⟨0xB0008, 0x10, 64, .warm⟩
  | .FAB_POOL_STATUS => ⟨0xA0000, 0x4, 1, .warm⟩
  | .FAB_EV => ⟨0xA0004, 0x4, 1, .warm⟩
  | .FAB_GRP_CTRL => ⟨0xA0400, 0x8, 64, .warm⟩
  | .FAB_GRP_STATUS => ⟨0xA0404, 0x8, 64, .warm⟩
  | .FAB_TRIB_CFG => ⟨0xA1000, 0x8, 1024, .warm⟩
  | .FAB_TRIB_STATUS => ⟨0xA1004, 0x8, 1024, .warm⟩
  | .PLACE_CTRL => ⟨0x90000, 0x4, 1, .warm⟩
  | .PLACE_STEP_THR => ⟨0x90004, 0x4, 1, .warm⟩
  | .PLACE_STEP_TIME => ⟨0x90008, 0x4, 1, .warm⟩
  | .PLACE_GUARD => ⟨0x9000C, 0x4, 1, .warm⟩
  | .PLACE_EV => ⟨0x90010, 0x4, 1, .warm⟩
  | .PLACE_ENG_STATUS => ⟨0x90020, 0x4, 4, .warm⟩
  | .PLACE_ENG_RX => ⟨0x90030, 0x4, 4, .warm⟩
  | .PLACE_TRIB_POL => ⟨0x91000, 0x4, 1024, .warm⟩
  | .PLACE_TRIB_STATUS => ⟨0x92000, 0x4, 1024, .warm⟩
  | .PAIR_CTRL => ⟨0x80000, 0x4, 1, .warm⟩
  | .PAIR_STATUS => ⟨0x80004, 0x4, 1, .warm⟩
  | .PAIR_LEVEL => ⟨0x80008, 0x4, 1, .warm⟩
  | .PAIR_EV => ⟨0x8000C, 0x4, 1, .warm⟩
  | .PAIR_MATCH => ⟨0x80010, 0x4, 1, .warm⟩
  | .PAIR_SKEW => ⟨0x80020, 0x4, 4, .warm⟩
  | .PAIR_BRIDGE => ⟨0x80100, 0x4, 32, .warm⟩
  | .TIM_SEL_CTRL => ⟨0x30000, 0x4, 1, .warm⟩
  | .TIM_REF_CFG => ⟨0x30100, 0x8, 12, .warm⟩
  | .TIM_REF_STATUS => ⟨0x30104, 0x8, 12, .warm⟩
  | .TIM_DPLL0_CTRL => ⟨0x30200, 0x4, 1, .warm⟩
  | .TIM_DPLL0_FWORD => ⟨0x30204, 0x4, 1, .warm⟩
  | .TIM_DPLL0_STATUS => ⟨0x30208, 0x4, 1, .warm⟩
  | .TIM_DPLL_CTRL => ⟨0x30210, 0x10, 5, .warm⟩
  | .TIM_DPLL_PSTEP => ⟨0x30214, 0x10, 5, .warm⟩
  | .TIM_DPLL_STATUS => ⟨0x30218, 0x10, 5, .warm⟩
  | .TIM_TOD_SEC_HI => ⟨0x30300, 0x4, 1, .warm⟩
  | .TIM_TOD_SEC_LO => ⟨0x30304, 0x4, 1, .warm⟩
  | .TIM_TOD_NS => ⟨0x30308, 0x4, 1, .warm⟩
  | .TIM_TT_CTRL => ⟨0x30400, 0x4, 1, .warm⟩
  | .TIM_TT_THETA => ⟨0x30404, 0x4, 1, .warm⟩
  | .TIM_TT_DTAU => ⟨0x30408, 0x4, 1, .warm⟩
  | .TIM_TT_STATUS => ⟨0x3040C, 0x4, 1, .warm⟩
  | .TIM_TT_CFG => ⟨0x30420, 0x8, 4, .warm⟩
  | .TIM_TT_NU => ⟨0x30424, 0x8, 4, .warm⟩
  | .TIM_EV => ⟨0x30500, 0x4, 1, .warm⟩
  | .TIM_PORT_DPLL => ⟨0x30600, 0x4, 8, .warm⟩
  | .CIPH_ENG_CTRL => ⟨0xC0000, 0x10, 4, .warm⟩
  | .CIPH_ENG_DAUTH_LO => ⟨0xC0008, 0x10, 4, .engine⟩
  | .CIPH_ENG_DAUTH_HI => ⟨0xC000C, 0x10, 4, .engine⟩
  | .CIPH_EV => ⟨0xC0100, 0x4, 1, .warm⟩
  | .CIPH_TRIBMAP => ⟨0xC0400, 0x4, 256, .warm⟩
  | .CIPH_LOCK_CTRL => ⟨0xC1000, 0x400, 64, .warm⟩
  | .CIPH_LOCK_STATUS => ⟨0xC1004, 0x400, 64, .warm⟩
  | .HOST_RCTX_BASE_LO => ⟨0x800000, 0x20, 65536, .warm⟩
  | .HOST_RCTX_BASE_HI => ⟨0x800004, 0x20, 65536, .warm⟩
  | .HOST_RCTX_CFG => ⟨0x800008, 0x20, 65536, .warm⟩
  | .HOST_RCTX_LINK => ⟨0x80000C, 0x20, 65536, .warm⟩
  | .HOST_RCTX_IRQ => ⟨0x800010, 0x20, 65536, .warm⟩
  | .HOST_RCTX_STATE => ⟨0x800014, 0x20, 65536, .warm⟩
  | .HOST_RCTX_IDX => ⟨0x800018, 0x20, 65536, .warm⟩
  | .HOST_LINK => ⟨0x70000, 0x4, 1, .warm⟩
  | .HOST_EV => ⟨0x70004, 0x4, 1, .warm⟩
  | .HOST_OHB_BIND => ⟨0x70010, 0x4, 4, .warm⟩
  | .HK_CTRL => ⟨0x40000, 0x4, 1, .warm⟩
  | .HK_STATUS => ⟨0x40004, 0x4, 1, .warm⟩
  | .HK_EV => ⟨0x40008, 0x4, 1, .warm⟩
  | .HK_CH_CFG => ⟨0x40100, 0x20, 32, .warm⟩
  | .HK_CH_FLT => ⟨0x40104, 0x20, 32, .warm⟩
  | .HK_CH_DITH => ⟨0x40108, 0x20, 32, .warm⟩
  | .HK_CH_RAW => ⟨0x4010C, 0x20, 32, .warm⟩
  | .HK_CH_VAL => ⟨0x40110, 0x20, 32, .warm⟩
  | .HK_CH_DITH_I => ⟨0x40114, 0x20, 32, .warm⟩
  | .HK_CH_DITH_Q => ⟨0x40118, 0x20, 32, .warm⟩
  | .HK_CH_STATUS => ⟨0x4011C, 0x20, 32, .warm⟩
  | .HK_SEQ => ⟨0x40500, 0x4, 32, .warm⟩
  | .HK_INJ => ⟨0x40580, 0x4, 4, .warm⟩
  | .HK_DET_CFG => ⟨0x40600, 0x10, 8, .warm⟩
  | .HK_DET_HI => ⟨0x40604, 0x10, 8, .warm⟩
  | .HK_DET_LO => ⟨0x40608, 0x10, 8, .warm⟩
  | .HK_DET_VAL => ⟨0x4060C, 0x10, 8, .warm⟩
  | .HK_AOUT_CTRL => ⟨0x40700, 0x8, 4, .warm⟩
  | .HK_AOUT_STATUS => ⟨0x40704, 0x8, 4, .warm⟩
  | .HK_ALM_CTRL => ⟨0x40740, 0x4, 1, .warm⟩
  | .HK_I3C_CTRL => ⟨0x40800, 0x4, 1, .warm⟩
  | .HK_I3C_STATUS => ⟨0x40804, 0x4, 1, .warm⟩
  | .HK_I3C_TGT_PID_LO => ⟨0x40900, 0x10, 16, .warm⟩
  | .HK_I3C_TGT_PID_HI => ⟨0x40904, 0x10, 16, .warm⟩
  | .HK_I3C_TGT_INFO => ⟨0x40908, 0x10, 16, .warm⟩
  | .HK_LIN => ⟨0x42000, 0x4, 2048, .warm⟩
  | .CAL_CTRL => ⟨0x50000, 0x4, 1, .warm⟩
  | .CAL_EV => ⟨0x50004, 0x4, 1, .warm⟩
  | .CAL_LAST_REJ => ⟨0x50008, 0x4, 1, .warm⟩
  | .CAL_ENG_STATUS => ⟨0x50010, 0x4, 4, .warm⟩
  | .CAL_HK_STATUS => ⟨0x50020, 0x4, 1, .warm⟩
  | .PWR_STATUS => ⟨0x20000, 0x4, 1, .warm⟩
  | .PWR_WAKE_CFG => ⟨0x20004, 0x4, 1, .warm⟩
  | .PWR_WAKE_SRC => ⟨0x20008, 0x4, 1, .warm⟩
  | .PWR_WAKE_TX => ⟨0x2000C, 0x4, 1, .warm⟩
  | .PWR_PAD => ⟨0x20010, 0x4, 1, .warm⟩
  | .PWR_RAIL => ⟨0x20014, 0x4, 1, .warm⟩
  | .PWR_CEL_CTRL => ⟨0x20100, 0x4, 1, .cellar⟩
  | .PWR_CEL_STATUS => ⟨0x20104, 0x4, 1, .cellar⟩
  | .PWR_CEL_RTC_LO => ⟨0x20108, 0x4, 1, .cellar⟩
  | .PWR_CEL_RTC_HI => ⟨0x2010C, 0x4, 1, .cellar⟩
  | .PWR_CEL_ALARM_LO => ⟨0x20110, 0x4, 1, .cellar⟩
  | .PWR_CEL_ALARM_HI => ⟨0x20114, 0x4, 1, .cellar⟩
  | .PWR_CEL_LOG_IDX => ⟨0x20118, 0x4, 1, .cellar⟩
  | .PWR_CEL_LOG_D => ⟨0x2011C, 0x4, 3, .cellar⟩
  | .SEC_STATE => ⟨0x10000, 0x4, 1, .warm⟩
  | .SEC_LC_CTRL => ⟨0x10004, 0x4, 1, .warm⟩
  | .SEC_TRAP_CTRL => ⟨0x10008, 0x4, 1, .warm⟩
  | .SEC_EV => ⟨0x1000C, 0x4, 1, .warm⟩
  | .SEC_SHELF_STATUS => ⟨0x10010, 0x4, 1, .warm⟩
  | .SEC_SHELF_SEQ_A => ⟨0x10014, 0x4, 1, .warm⟩
  | .SEC_SHELF_SEQ_B => ⟨0x10018, 0x4, 1, .warm⟩
  | .SEC_TRAP_NONCE => ⟨0x10020, 0x4, 8, .warm⟩
  | .SEC_MEAS => ⟨0x10040, 0x4, 48, .warm⟩
  | .SEC_TRAP_MBOX => ⟨0x10100, 0x4, 64, .warm⟩
  | .SEC_IDPUB => ⟨0x10200, 0x4, 24, .warm⟩
  | .PERF_INV_CTRL => ⟨0x60000, 0x4, 1, .warm⟩
  | .PERF_TLM_CTRL => ⟨0x60004, 0x4, 1, .warm⟩
  | .PERF_HK_MASK => ⟨0x60008, 0x4, 1, .warm⟩
  | .PERF_EVT_ROUTE => ⟨0x60010, 0x4, 4, .warm⟩
  | .PERF_EV => ⟨0x60030, 0x4, 1, .warm⟩
  | .PERF_CNT_SEL => ⟨0x60040, 0x4, 1, .warm⟩
  | .PERF_CNT_LO => ⟨0x60044, 0x4, 1, .warm⟩
  | .PERF_CNT_HI => ⟨0x60048, 0x4, 1, .warm⟩
  | .PERF_WRAP => ⟨0x60100, 0x4, 24, .warm⟩
  | .SYS_ID => ⟨0x0, 0x4, 1, .cold⟩
  | .SYS_DEVID_LO => ⟨0x4, 0x4, 1, .cold⟩
  | .SYS_DEVID_HI => ⟨0x8, 0x4, 1, .cold⟩
  | .SYS_FW => ⟨0xC, 0x4, 1, .warm⟩
  | .SYS_MODE => ⟨0x10, 0x4, 1, .warm⟩
  | .SYS_RESET => ⟨0x20, 0x4, 1, .warm⟩
  | .SYS_RST_STATUS => ⟨0x24, 0x4, 1, .cold⟩
  | .SYS_IRQ_STATUS => ⟨0x30, 0x4, 1, .warm⟩
  | .SYS_IRQ_MASK => ⟨0x34, 0x4, 1, .warm⟩
  | .SYS_EV => ⟨0x38, 0x4, 1, .warm⟩
  | .SYS_SCRATCH => ⟨0x3C, 0x4, 1, .warm⟩

/-- Registers, part 0. -/
def Rg.all0 : List Rg := [
  .LE_PROFILE, .LE_TX_CTRL, .LE_CDC_CTRL, .LE_EQ_CR_CTRL, .LE_SIG_THR, .LE_STATUS,
  .LE_STATUS_EV, .LE_CD_EST, .LE_FO_EST, .LE_MARGIN, .LE_SNR, .LE_FEC_CTRL,
  .LE_FEC_STATUS, .LE_FEC_EV, .LE_FEC_WIN0, .LE_FEC_WIN1, .LE_FEC_WIN2, .LE_FEC_WIN3,
  .LE_FEC_TEST, .LE_FRM_CTRL, .LE_FRM_STATUS, .LE_FRM_EV, .LE_FRM_OHB, .LE_PM_BIP,
  .LE_PM_BEI, .LE_PM_EB, .LE_PM_FEB, .LE_PM_SEC, .LE_PM_LEN, .PERF_PM_SYNC,
  .PERF_PM_OFFSET, .CLI_PORT_CFG]

/-- Registers, part 1. -/
def Rg.all1 : List Rg := [
  .CLI_PORT_ODU_RATE, .CLI_PORT_STATUS, .FAB_POOL_STATUS, .FAB_EV, .FAB_GRP_CTRL, .FAB_GRP_STATUS,
  .FAB_TRIB_CFG, .FAB_TRIB_STATUS, .PLACE_CTRL, .PLACE_STEP_THR, .PLACE_STEP_TIME, .PLACE_GUARD,
  .PLACE_EV, .PLACE_ENG_STATUS, .PLACE_ENG_RX, .PLACE_TRIB_POL, .PLACE_TRIB_STATUS, .PAIR_CTRL,
  .PAIR_STATUS, .PAIR_LEVEL, .PAIR_EV, .PAIR_MATCH, .PAIR_SKEW, .PAIR_BRIDGE,
  .TIM_SEL_CTRL, .TIM_REF_CFG, .TIM_REF_STATUS, .TIM_DPLL0_CTRL, .TIM_DPLL0_FWORD, .TIM_DPLL0_STATUS,
  .TIM_DPLL_CTRL, .TIM_DPLL_PSTEP]

/-- Registers, part 2. -/
def Rg.all2 : List Rg := [
  .TIM_DPLL_STATUS, .TIM_TOD_SEC_HI, .TIM_TOD_SEC_LO, .TIM_TOD_NS, .TIM_TT_CTRL, .TIM_TT_THETA,
  .TIM_TT_DTAU, .TIM_TT_STATUS, .TIM_TT_CFG, .TIM_TT_NU, .TIM_EV, .TIM_PORT_DPLL,
  .CIPH_ENG_CTRL, .CIPH_ENG_DAUTH_LO, .CIPH_ENG_DAUTH_HI, .CIPH_EV, .CIPH_TRIBMAP, .CIPH_LOCK_CTRL,
  .CIPH_LOCK_STATUS, .HOST_RCTX_BASE_LO, .HOST_RCTX_BASE_HI, .HOST_RCTX_CFG, .HOST_RCTX_LINK, .HOST_RCTX_IRQ,
  .HOST_RCTX_STATE, .HOST_RCTX_IDX, .HOST_LINK, .HOST_EV, .HOST_OHB_BIND, .HK_CTRL,
  .HK_STATUS, .HK_EV]

/-- Registers, part 3. -/
def Rg.all3 : List Rg := [
  .HK_CH_CFG, .HK_CH_FLT, .HK_CH_DITH, .HK_CH_RAW, .HK_CH_VAL, .HK_CH_DITH_I,
  .HK_CH_DITH_Q, .HK_CH_STATUS, .HK_SEQ, .HK_INJ, .HK_DET_CFG, .HK_DET_HI,
  .HK_DET_LO, .HK_DET_VAL, .HK_AOUT_CTRL, .HK_AOUT_STATUS, .HK_ALM_CTRL, .HK_I3C_CTRL,
  .HK_I3C_STATUS, .HK_I3C_TGT_PID_LO, .HK_I3C_TGT_PID_HI, .HK_I3C_TGT_INFO, .HK_LIN, .CAL_CTRL,
  .CAL_EV, .CAL_LAST_REJ, .CAL_ENG_STATUS, .CAL_HK_STATUS, .PWR_STATUS, .PWR_WAKE_CFG,
  .PWR_WAKE_SRC, .PWR_WAKE_TX]

/-- Registers, part 4. -/
def Rg.all4 : List Rg := [
  .PWR_PAD, .PWR_RAIL, .PWR_CEL_CTRL, .PWR_CEL_STATUS, .PWR_CEL_RTC_LO, .PWR_CEL_RTC_HI,
  .PWR_CEL_ALARM_LO, .PWR_CEL_ALARM_HI, .PWR_CEL_LOG_IDX, .PWR_CEL_LOG_D, .SEC_STATE, .SEC_LC_CTRL,
  .SEC_TRAP_CTRL, .SEC_EV, .SEC_SHELF_STATUS, .SEC_SHELF_SEQ_A, .SEC_SHELF_SEQ_B, .SEC_TRAP_NONCE,
  .SEC_MEAS, .SEC_TRAP_MBOX, .SEC_IDPUB, .PERF_INV_CTRL, .PERF_TLM_CTRL, .PERF_HK_MASK,
  .PERF_EVT_ROUTE, .PERF_EV, .PERF_CNT_SEL, .PERF_CNT_LO, .PERF_CNT_HI, .PERF_WRAP,
  .SYS_ID, .SYS_DEVID_LO]

/-- Registers, part 5. -/
def Rg.all5 : List Rg := [
  .SYS_DEVID_HI, .SYS_FW, .SYS_MODE, .SYS_RESET, .SYS_RST_STATUS, .SYS_IRQ_STATUS,
  .SYS_IRQ_MASK, .SYS_EV, .SYS_SCRATCH]

/-- Every register. -/
def Rg.all : List Rg := Rg.all0 ++ Rg.all1 ++ Rg.all2 ++ Rg.all3 ++ Rg.all4 ++ Rg.all5

/-- Every named register field: the register's name, an underscore, the field's name. -/
inductive Fld where
  | LE_PROFILE_prof_staged | LE_PROFILE_prof_active | LE_PROFILE_rate_active | LE_TX_CTRL_rolloff
  | LE_TX_CTRL_preemph_en | LE_TX_CTRL_tx_mute | LE_TX_CTRL_tx_active | LE_TX_CTRL_lb_mode
  | LE_CDC_CTRL_cd_mode | LE_CDC_CTRL_cd_window | LE_CDC_CTRL_cd_hint | LE_EQ_CR_CTRL_mu_acq
  | LE_EQ_CR_CTRL_mu_trk | LE_EQ_CR_CTRL_freeze | LE_EQ_CR_CTRL_cpr_bw | LE_EQ_CR_CTRL_fo_range
  | LE_SIG_THR_sig_on | LE_SIG_THR_sig_off | LE_SIG_THR_snr_unlock | LE_STATUS_acq_state
  | LE_STATUS_sig_present | LE_STATUS_dsp_lock | LE_STATUS_cd_hint_err | LE_STATUS_est_converged
  | LE_STATUS_pilot_on | LE_STATUS_clip | LE_STATUS_EV_lock_gained | LE_STATUS_EV_lock_lost
  | LE_STATUS_EV_sig_lost | LE_STATUS_EV_clip_seen | LE_STATUS_EV_acq_fail | LE_CD_EST_cd_est
  | LE_CD_EST_cd_valid | LE_FO_EST_fo_est | LE_FO_EST_dgd_est | LE_FO_EST_fo_valid
  | LE_MARGIN_snr_margin | LE_MARGIN_gmi_margin | LE_MARGIN_margin_valid | LE_SNR_snr_est
  | LE_SNR_snr_req | LE_FEC_CTRL_rate_staged | LE_FEC_CTRL_rate_active | LE_FEC_CTRL_fec_test
  | LE_FEC_CTRL_iter_max | LE_FEC_CTRL_unc_set | LE_FEC_STATUS_fec_excess | LE_FEC_STATUS_test_sync
  | LE_FEC_STATUS_decoding | LE_FEC_EV_excess_set | LE_FEC_EV_excess_clr | LE_FEC_EV_unc_seen
  | LE_FEC_EV_test_err_seen | LE_FEC_WIN0_ber_pre | LE_FEC_WIN0_iter_mean | LE_FEC_WIN0_fec_valid
  | LE_FEC_WIN1_inner_unsolved | LE_FEC_WIN1_iter_peak | LE_FEC_WIN2_unc_cw | LE_FEC_WIN3_outer_corr
  | LE_FEC_TEST_test_err | LE_FRM_CTRL_fmt_max | LE_FRM_CTRL_ohb_gcc_en | LE_FRM_CTRL_ohb_mfc_en
  | LE_FRM_CTRL_force_ais | LE_FRM_CTRL_force_rdi | LE_FRM_STATUS_in_frame | LE_FRM_STATUS_dlos
  | LE_FRM_STATUS_dlof | LE_FRM_STATUS_dais | LE_FRM_STATUS_drdi | LE_FRM_STATUS_dbdeg
  | LE_FRM_STATUS_fmt_far | LE_FRM_STATUS_fmt_tx | LE_FRM_STATUS_rate_rx | LE_FRM_EV_defect_chg
  | LE_FRM_EV_mk_mismatch | LE_FRM_EV_fmt_limit | LE_FRM_EV_prot_ack_lost | LE_FRM_EV_prot_conflict
  | LE_FRM_EV_gcc_drop | LE_FRM_OHB_ohb_len | LE_PM_BIP_bip_err | LE_PM_BEI_bei_err
  | LE_PM_EB_eb | LE_PM_FEB_feb | LE_PM_SEC_es | LE_PM_SEC_ses
  | LE_PM_SEC_fes | LE_PM_SEC_fses | LE_PM_SEC_uas | LE_PM_SEC_uas_edge
  | LE_PM_SEC_irregular | LE_PM_SEC_traceable | LE_PM_SEC_defect_sec | LE_PM_SEC_pm_seq
  | LE_PM_LEN_pm_len | PERF_PM_SYNC_pm_sync_en | PERF_PM_SYNC_pm_sync_refused | PERF_PM_SYNC_pm_sync_ignored
  | PERF_PM_OFFSET_pm_offset | CLI_PORT_CFG_type_staged | CLI_PORT_CFG_width | CLI_PORT_CFG_lane_mode
  | CLI_PORT_CFG_flexe_head | CLI_PORT_CFG_type_active | CLI_PORT_ODU_RATE_odu_rate | CLI_PORT_STATUS_rx_sig
  | CLI_PORT_STATUS_rx_lock | CLI_PORT_STATUS_rx_hiber | CLI_PORT_STATUS_rx_lf | CLI_PORT_STATUS_rx_rf
  | CLI_PORT_STATUS_fx_ok | CLI_PORT_STATUS_tx_on | FAB_POOL_STATUS_bins_free | FAB_EV_trib_stale
  | FAB_EV_skew_chg | FAB_EV_align_lost | FAB_EV_eth_oversize | FAB_EV_gmp_loss
  | FAB_EV_frame_drop | FAB_EV_alloc_refused | FAB_GRP_CTRL_bins_req | FAB_GRP_CTRL_member_mask
  | FAB_GRP_CTRL_grp_gen | FAB_GRP_STATUS_bins_held | FAB_GRP_STATUS_alloc_err | FAB_GRP_STATUS_dskew
  | FAB_GRP_STATUS_aligned | FAB_GRP_STATUS_skew_meas | FAB_TRIB_CFG_src_kind | FAB_TRIB_CFG_src_port
  | FAB_TRIB_CFG_fx_client_id | FAB_TRIB_CFG_carrier | FAB_TRIB_STATUS_slots_req | FAB_TRIB_STATUS_trib_gen
  | FAB_TRIB_STATUS_active | FAB_TRIB_STATUS_sf | FAB_TRIB_STATUS_sd | FAB_TRIB_STATUS_adapt_ok
  | PLACE_CTRL_step_en | PLACE_CTRL_shed_en | PLACE_CTRL_chan_timeout | PLACE_STEP_THR_dn_thr
  | PLACE_STEP_THR_up_thr | PLACE_STEP_THR_dn_dwell | PLACE_STEP_TIME_up_dwell | PLACE_STEP_TIME_hold
  | PLACE_GUARD_ber_guard | PLACE_GUARD_iter_guard | PLACE_EV_refused | PLACE_EV_shed
  | PLACE_EV_step | PLACE_EV_step_blocked | PLACE_EV_floor | PLACE_EV_resync
  | PLACE_EV_chan_lost | PLACE_EV_timeout | PLACE_EV_range | PLACE_EV_mirror_diff
  | PLACE_ENG_STATUS_tx_gen | PLACE_ENG_STATUS_sw_state | PLACE_ENG_STATUS_chan_up | PLACE_ENG_STATUS_tx_rate
  | PLACE_ENG_STATUS_pin_cause | PLACE_ENG_RX_rx_gen | PLACE_ENG_RX_ready_gen | PLACE_ENG_RX_ready_valid
  | PLACE_ENG_RX_rx_mismatch | PLACE_TRIB_POL_pin_mode | PLACE_TRIB_POL_grp_en | PLACE_TRIB_POL_eng_mask
  | PLACE_TRIB_POL_prio | PLACE_TRIB_POL_div_tag | PLACE_TRIB_POL_pin_slot | PLACE_TRIB_POL_grp
  | PLACE_TRIB_STATUS_place_state | PLACE_TRIB_STATUS_cause | PLACE_TRIB_STATUS_eng_used | PLACE_TRIB_STATUS_slots_held
  | PAIR_CTRL_pair_en | PAIR_CTRL_tx_suspect_en | PAIR_CTRL_lane_en | PAIR_STATUS_link_state
  | PAIR_STATUS_peer_alive | PAIR_STATUS_ready | PAIR_STATUS_faulted | PAIR_STATUS_lockout
  | PAIR_STATUS_refuse_cause | PAIR_STATUS_lanes_up | PAIR_STATUS_bridged_slots | PAIR_LEVEL_fl_run
  | PAIR_LEVEL_fl_floor | PAIR_LEVEL_peer_fl_run | PAIR_LEVEL_fl_agreed | PAIR_EV_hb_lost
  | PAIR_EV_link_down | PAIR_EV_alive_fault | PAIR_EV_takeover | PAIR_EV_refused
  | PAIR_EV_mirror_fail | PAIR_EV_bridge_drop | PAIR_EV_sel | PAIR_EV_unprot_fault
  | PAIR_EV_far_switched | PAIR_EV_far_unprot | PAIR_MATCH_df | PAIR_SKEW_sfm_skew
  | PAIR_BRIDGE_trib | PAIR_BRIDGE_tap | PAIR_BRIDGE_en | PAIR_BRIDGE_admitted
  | PAIR_BRIDGE_selected | TIM_SEL_CTRL_revertive | TIM_SEL_CTRL_wtr | TIM_SEL_CTRL_hold_limit
  | TIM_REF_CFG_prio | TIM_REF_CFG_qual_sw | TIM_REF_CFG_use_adv | TIM_REF_CFG_pps_en
  | TIM_REF_CFG_freq_code | TIM_REF_CFG_src_port | TIM_REF_CFG_in_delay | TIM_REF_STATUS_qualified
  | TIM_REF_STATUS_wtr_run | TIM_REF_STATUS_qual_eff | TIM_REF_STATUS_fail | TIM_REF_STATUS_offset
  | TIM_DPLL0_CTRL_loop_open | TIM_DPLL0_CTRL_fbw | TIM_DPLL0_CTRL_tbw | TIM_DPLL0_CTRL_lock_thr
  | TIM_DPLL0_CTRL_step_thr | TIM_DPLL0_FWORD_fword | TIM_DPLL0_STATUS_d0_state | TIM_DPLL0_STATUS_freq_src
  | TIM_DPLL0_STATUS_time_src | TIM_DPLL0_STATUS_tod_trace | TIM_DPLL0_STATUS_model_ready | TIM_DPLL0_STATUS_time_err
  | TIM_DPLL_CTRL_ref_sel | TIM_DPLL_CTRL_en | TIM_DPLL_CTRL_fbw | TIM_DPLL_PSTEP_pstep
  | TIM_DPLL_STATUS_dk_state | TIM_DPLL_STATUS_step_busy | TIM_TOD_SEC_HI_sec_hi | TIM_TOD_SEC_HI_tod_set
  | TIM_TOD_SEC_LO_sec_lo | TIM_TOD_NS_ns | TIM_TT_CTRL_tt_engine | TIM_TT_CTRL_tt_en
  | TIM_TT_CTRL_asym_fixed | TIM_TT_THETA_theta | TIM_TT_DTAU_dtau | TIM_TT_STATUS_tt_rx_ok
  | TIM_TT_STATUS_cd_hold | TIM_TT_STATUS_far_qual | TIM_TT_STATUS_far_trace | TIM_TT_STATUS_samples
  | TIM_TT_CFG_tx_ext | TIM_TT_CFG_rx_ext | TIM_TT_NU_nu_tx | TIM_EV_ref_chg
  | TIM_EV_sel_chg | TIM_EV_tod_step | TIM_EV_tod_wrap | TIM_EV_hold_enter
  | TIM_EV_hold_expired | TIM_EV_tx_clamp | TIM_EV_priv_drop | TIM_EV_tt_lost
  | TIM_PORT_DPLL_port_dpll0 | TIM_PORT_DPLL_port_dpll1 | TIM_PORT_DPLL_port_dpll2 | TIM_PORT_DPLL_port_dpll3
  | TIM_PORT_DPLL_port_dpll4 | TIM_PORT_DPLL_port_dpll5 | TIM_PORT_DPLL_port_dpll6 | TIM_PORT_DPLL_port_dpll7
  | CIPH_ENG_CTRL_use_staged | CIPH_ENG_CTRL_use_active | CIPH_ENG_CTRL_end_sel | CIPH_ENG_CTRL_kp_flip
  | CIPH_ENG_CTRL_kp_pend | CIPH_ENG_CTRL_tx_kp | CIPH_ENG_CTRL_rx_kp | CIPH_ENG_CTRL_mb
  | CIPH_ENG_CTRL_auth_set | CIPH_ENG_CTRL_auth_clr | CIPH_ENG_DAUTH_LO_dauth_lo | CIPH_ENG_DAUTH_HI_dauth_hi
  | CIPH_EV_auth_set | CIPH_EV_auth_clr | CIPH_EV_kp_refused | CIPH_EV_end_clash
  | CIPH_EV_ent_fail | CIPH_EV_halted | CIPH_EV_halt_seen | CIPH_TRIBMAP_locker0
  | CIPH_TRIBMAP_locker1 | CIPH_TRIBMAP_locker2 | CIPH_TRIBMAP_locker3 | CIPH_TRIBMAP_bind_en0
  | CIPH_TRIBMAP_bind_en1 | CIPH_TRIBMAP_bind_en2 | CIPH_TRIBMAP_bind_en3 | CIPH_LOCK_CTRL_lock_en
  | CIPH_LOCK_CTRL_key_ring | CIPH_LOCK_STATUS_lgen | CIPH_LOCK_STATUS_cur_phase | CIPH_LOCK_STATUS_cur_valid
  | CIPH_LOCK_STATUS_nxt_valid | CIPH_LOCK_STATUS_cur_kgen | CIPH_LOCK_STATUS_nxt_kgen | HOST_RCTX_BASE_LO_base_lo
  | HOST_RCTX_BASE_HI_base_hi | HOST_RCTX_CFG_en | HOST_RCTX_CFG_kind | HOST_RCTX_CFG_class
  | HOST_RCTX_CFG_log2size | HOST_RCTX_CFG_priv | HOST_RCTX_CFG_gen | HOST_RCTX_LINK_cq
  | HOST_RCTX_IRQ_vector | HOST_RCTX_IRQ_mod_cnt | HOST_RCTX_IRQ_mod_time | HOST_RCTX_STATE_state
  | HOST_RCTX_STATE_err | HOST_RCTX_IDX_host_idx | HOST_RCTX_IDX_dev_idx | HOST_LINK_speed
  | HOST_LINK_width | HOST_LINK_flit | HOST_LINK_link_up | HOST_EV_db_bad
  | HOST_EV_ring_err | HOST_EV_evt_drop | HOST_EV_stale_cpl | HOST_EV_ctx_bad
  | HOST_EV_link_down | HOST_EV_acc_bad | HOST_OHB_BIND_tx_ring | HOST_OHB_BIND_rx_ring
  | HK_CTRL_seq_loop | HK_CTRL_seq_go | HK_CTRL_inj_go | HK_CTRL_sync_now
  | HK_CTRL_seq_stop | HK_CTRL_compat_en | HK_CTRL_start_pin_en | HK_CTRL_urg_pin_en
  | HK_CTRL_sync_pin_en | HK_CTRL_reg_len | HK_CTRL_inj_len | HK_STATUS_seq_run
  | HK_STATUS_inj_run | HK_STATUS_cur_slot | HK_STATUS_idle | HK_STATUS_continuous
  | HK_EV_start_ign | HK_EV_urg_ign | HK_EV_sync_seen | HK_EV_clamp_seen
  | HK_EV_exc_fault | HK_EV_aout_fault | HK_EV_alm_fault | HK_EV_det_alarm
  | HK_EV_lin_done | HK_EV_i3c_done | HK_EV_i3c_leave | HK_EV_i3c_fail
  | HK_EV_i3c_full | HK_CH_CFG_en | HK_CH_CFG_in_mode | HK_CH_CFG_gain
  | HK_CH_CFG_exc_mode | HK_CH_CFG_exc_level | HK_CH_CFG_chg_cap | HK_CH_CFG_chg_rst_len
  | HK_CH_CFG_chg_rst | HK_CH_CFG_lin_en | HK_CH_CFG_lin_commit | HK_CH_FLT_order
  | HK_CH_FLT_dec | HK_CH_FLT_avg_m | HK_CH_FLT_settle_ext | HK_CH_DITH_dith_freq
  | HK_CH_DITH_dith_dec | HK_CH_DITH_dith_en | HK_CH_DITH_dith_bad | HK_CH_RAW_code
  | HK_CH_RAW_settling | HK_CH_RAW_clamp | HK_CH_RAW_chg_rst | HK_CH_RAW_exc
  | HK_CH_RAW_inj | HK_CH_RAW_seq | HK_CH_VAL_value | HK_CH_DITH_I_dith_i
  | HK_CH_DITH_Q_dith_q | HK_CH_STATUS_clamp_live | HK_CH_STATUS_exc_fault | HK_CH_STATUS_rst_closed
  | HK_CH_STATUS_exc_meas | HK_SEQ_chan | HK_INJ_chan | HK_SEQ_count
  | HK_INJ_count | HK_DET_CFG_chan | HK_DET_CFG_kind | HK_DET_CFG_alm_en
  | HK_DET_CFG_window | HK_DET_CFG_decay | HK_DET_CFG_in_alarm | HK_DET_HI_hi
  | HK_DET_LO_lo | HK_DET_VAL_result | HK_AOUT_CTRL_code | HK_AOUT_CTRL_en
  | HK_AOUT_CTRL_ref_sel | HK_AOUT_STATUS_driving | HK_AOUT_STATUS_ilim | HK_AOUT_STATUS_ov
  | HK_AOUT_STATUS_wired | HK_AOUT_STATUS_wired_with | HK_ALM_CTRL_alm_force | HK_ALM_CTRL_alm_asserted
  | HK_ALM_CTRL_alm_short | HK_ALM_CTRL_alm_stuck | HK_I3C_CTRL_i3c_en | HK_I3C_CTRL_rescan
  | HK_I3C_CTRL_hj_en | HK_I3C_STATUS_disc_state | HK_I3C_STATUS_restarts | HK_I3C_STATUS_present_mask
  | HK_I3C_TGT_PID_LO_pid_lo | HK_I3C_TGT_PID_HI_pid_hi | HK_I3C_TGT_PID_HI_bcr | HK_I3C_TGT_PID_HI_dcr
  | HK_I3C_TGT_INFO_addr | HK_I3C_TGT_INFO_present | HK_I3C_TGT_INFO_gen | HK_LIN_y
  | CAL_CTRL_bg_en | CAL_CTRL_pilot_en | CAL_CTRL_cal_force | CAL_CTRL_pilot_wait
  | CAL_EV_reject | CAL_EV_stuck | CAL_EV_ref_fault | CAL_EV_pilot_req
  | CAL_EV_pilot_fail | CAL_EV_est_stuck | CAL_EV_force_done | CAL_LAST_REJ_item
  | CAL_LAST_REJ_engine | CAL_LAST_REJ_reason | CAL_LAST_REJ_index | CAL_LAST_REJ_run
  | CAL_ENG_STATUS_conv | CAL_ENG_STATUS_stuck | CAL_ENG_STATUS_pilot_tx | CAL_ENG_STATUS_pilot_rx
  | CAL_ENG_STATUS_requesting | CAL_HK_STATUS_conv | CAL_HK_STATUS_stuck | CAL_HK_STATUS_ref_fault
  | CAL_HK_STATUS_ref_diff | PWR_STATUS_state | PWR_STATUS_busy | PWR_WAKE_CFG_line_mode
  | PWR_WAKE_CFG_client_mode | PWR_WAKE_CFG_pin_en | PWR_WAKE_SRC_line | PWR_WAKE_SRC_client
  | PWR_WAKE_SRC_pin | PWR_WAKE_SRC_host | PWR_WAKE_SRC_rtc | PWR_WAKE_SRC_tamper
  | PWR_WAKE_SRC_port | PWR_WAKE_TX_wake_eng | PWR_WAKE_TX_wake_port | PWR_WAKE_TX_wake_port_en
  | PWR_PAD_held | PWR_PAD_pad_release | PWR_PAD_rel_early | PWR_RAIL_rail_ok
  | PWR_CEL_CTRL_tamper_en | PWR_CEL_CTRL_tamper_wake | PWR_CEL_CTRL_rtc_wake | PWR_CEL_CTRL_cel_ack
  | PWR_CEL_STATUS_cel_busy | PWR_CEL_STATUS_cel_valid | PWR_CEL_STATUS_on_bat | PWR_CEL_STATUS_rtc_wrap
  | PWR_CEL_STATUS_log_count | PWR_CEL_STATUS_log_lost | PWR_CEL_STATUS_vbat | PWR_CEL_RTC_LO_rtc_lo
  | PWR_CEL_RTC_HI_rtc_hi | PWR_CEL_ALARM_LO_alarm_lo | PWR_CEL_ALARM_HI_alarm_hi | PWR_CEL_LOG_IDX_index
  | PWR_CEL_LOG_D_data | SEC_STATE_lc_state | SEC_STATE_dbg_level | SEC_STATE_dbg_port
  | SEC_STATE_host_priv | SEC_STATE_boot_fail | SEC_STATE_kek_valid | SEC_STATE_rb_floor
  | SEC_STATE_session_s | SEC_LC_CTRL_lc_req | SEC_LC_CTRL_rb_raise | SEC_LC_CTRL_lc_err
  | SEC_TRAP_CTRL_submit | SEC_TRAP_CTRL_close | SEC_TRAP_CTRL_nonce_req | SEC_TRAP_CTRL_busy
  | SEC_TRAP_CTRL_result | SEC_EV_trap_open | SEC_EV_trap_close | SEC_EV_trap_refused
  | SEC_EV_lc_change | SEC_EV_shelf_commit | SEC_EV_shelf_bad | SEC_EV_shelf_none
  | SEC_EV_boot_fail | SEC_EV_pair_key_fail | SEC_EV_tamper_purge | SEC_SHELF_STATUS_a_valid
  | SEC_SHELF_STATUS_b_valid | SEC_SHELF_STATUS_cur | SEC_SHELF_STATUS_none | SEC_SHELF_STATUS_staged
  | SEC_SHELF_STATUS_run_level | SEC_SHELF_STATUS_cur_schema | SEC_SHELF_SEQ_A_seq | SEC_SHELF_SEQ_B_seq
  | SEC_TRAP_NONCE_nonce | SEC_MEAS_meas | SEC_TRAP_MBOX_data | SEC_IDPUB_pub
  | PERF_INV_CTRL_snap_now | PERF_INV_CTRL_pm_snap_en | PERF_INV_CTRL_hk_flush | PERF_INV_CTRL_ev_limit
  | PERF_INV_CTRL_snap_period | PERF_TLM_CTRL_cnt_ring | PERF_TLM_CTRL_hk_ring | PERF_HK_MASK_hk_mask
  | PERF_EVT_ROUTE_ring | PERF_EVT_ROUTE_en | PERF_EV_ev | PERF_CNT_SEL_index
  | PERF_CNT_LO_value_lo | PERF_CNT_HI_value_hi | PERF_CNT_HI_wrap_cnt | PERF_CNT_HI_valid
  | PERF_WRAP_wrap | SYS_ID_part_code | SYS_ID_engines | SYS_ID_stepping
  | SYS_ID_family | SYS_DEVID_LO_devid_lo | SYS_DEVID_HI_devid_hi | SYS_FW_fw_version
  | SYS_FW_fw_bank | SYS_MODE_mode | SYS_MODE_role | SYS_MODE_busy
  | SYS_MODE_last_tag | SYS_RESET_warm | SYS_RESET_eng_rst | SYS_RST_STATUS_boot_ready
  | SYS_RST_STATUS_por | SYS_RST_STATUS_pin | SYS_RST_STATUS_sw_warm | SYS_IRQ_STATUS_blk
  | SYS_IRQ_STATUS_ciph | SYS_IRQ_STATUS_eng | SYS_IRQ_MASK_en | SYS_EV_mode_chg
  | SYS_EV_rst_refused | SYS_EV_priv_drop | SYS_SCRATCH_scratch
deriving DecidableEq, Repr

/-- A field: its register, lowest bit, width, access and reset value (0 where the table gives none, log 6). -/
structure FldInfo where
  rg : Rg
  lo : Nat
  w : Nat
  acc : Acc
  rst : Nat

/-- The fields, from the register tables. -/
def Fld.info : Fld → FldInfo
  | .LE_PROFILE_prof_staged => ⟨.LE_PROFILE, 0, 4, .rw, 0⟩
  | .LE_PROFILE_prof_active => ⟨.LE_PROFILE, 8, 4, .ro, 0⟩
  | .LE_PROFILE_rate_active => ⟨.LE_PROFILE, 16, 5, .ro, 0⟩
  | .LE_TX_CTRL_rolloff => ⟨.LE_TX_CTRL, 0, 2, .rw, 1⟩
  | .LE_TX_CTRL_preemph_en => ⟨.LE_TX_CTRL, 2, 1, .rw, 1⟩
  | .LE_TX_CTRL_tx_mute => ⟨.LE_TX_CTRL, 3, 1, .rw, 0⟩
  | .LE_TX_CTRL_tx_active => ⟨.LE_TX_CTRL, 4, 1, .ro, 0⟩
  | .LE_TX_CTRL_lb_mode => ⟨.LE_TX_CTRL, 5, 2, .rw, 0⟩
  | .LE_CDC_CTRL_cd_mode => ⟨.LE_CDC_CTRL, 0, 2, .rw, 0⟩
  | .LE_CDC_CTRL_cd_window => ⟨.LE_CDC_CTRL, 4, 4, .rw, 4⟩
  | .LE_CDC_CTRL_cd_hint => ⟨.LE_CDC_CTRL, 8, 24, .rw, 0⟩
  | .LE_EQ_CR_CTRL_mu_acq => ⟨.LE_EQ_CR_CTRL, 0, 4, .rw, 6⟩
  | .LE_EQ_CR_CTRL_mu_trk => ⟨.LE_EQ_CR_CTRL, 4, 4, .rw, 9⟩
  | .LE_EQ_CR_CTRL_freeze => ⟨.LE_EQ_CR_CTRL, 8, 1, .rw, 0⟩
  | .LE_EQ_CR_CTRL_cpr_bw => ⟨.LE_EQ_CR_CTRL, 9, 3, .rw, 3⟩
  | .LE_EQ_CR_CTRL_fo_range => ⟨.LE_EQ_CR_CTRL, 16, 7, .rw, 50⟩
  | .LE_SIG_THR_sig_on => ⟨.LE_SIG_THR, 0, 8, .rw, 72⟩
  | .LE_SIG_THR_sig_off => ⟨.LE_SIG_THR, 8, 8, .rw, 84⟩
  | .LE_SIG_THR_snr_unlock => ⟨.LE_SIG_THR, 16, 8, .rw, 12⟩
  | .LE_STATUS_acq_state => ⟨.LE_STATUS, 0, 3, .ro, 0⟩
  | .LE_STATUS_sig_present => ⟨.LE_STATUS, 3, 1, .ro, 0⟩
  | .LE_STATUS_dsp_lock => ⟨.LE_STATUS, 4, 1, .ro, 0⟩
  | .LE_STATUS_cd_hint_err => ⟨.LE_STATUS, 5, 1, .ro, 0⟩
  | .LE_STATUS_est_converged => ⟨.LE_STATUS, 6, 1, .ro, 0⟩
  | .LE_STATUS_pilot_on => ⟨.LE_STATUS, 7, 1, .ro, 0⟩
  | .LE_STATUS_clip => ⟨.LE_STATUS, 8, 1, .ro, 0⟩
  | .LE_STATUS_EV_lock_gained => ⟨.LE_STATUS_EV, 0, 1, .w1c, 0⟩
  | .LE_STATUS_EV_lock_lost => ⟨.LE_STATUS_EV, 1, 1, .w1c, 0⟩
  | .LE_STATUS_EV_sig_lost => ⟨.LE_STATUS_EV, 2, 1, .w1c, 0⟩
  | .LE_STATUS_EV_clip_seen => ⟨.LE_STATUS_EV, 3, 1, .w1c, 0⟩
  | .LE_STATUS_EV_acq_fail => ⟨.LE_STATUS_EV, 4, 1, .w1c, 0⟩
  | .LE_CD_EST_cd_est => ⟨.LE_CD_EST, 0, 24, .ro, 0⟩
  | .LE_CD_EST_cd_valid => ⟨.LE_CD_EST, 31, 1, .ro, 0⟩
  | .LE_FO_EST_fo_est => ⟨.LE_FO_EST, 0, 16, .ro, 0⟩
  | .LE_FO_EST_dgd_est => ⟨.LE_FO_EST, 16, 8, .ro, 0⟩
  | .LE_FO_EST_fo_valid => ⟨.LE_FO_EST, 31, 1, .ro, 0⟩
  | .LE_MARGIN_snr_margin => ⟨.LE_MARGIN, 0, 16, .ro, 0⟩
  | .LE_MARGIN_gmi_margin => ⟨.LE_MARGIN, 16, 15, .ro, 0⟩
  | .LE_MARGIN_margin_valid => ⟨.LE_MARGIN, 31, 1, .ro, 0⟩
  | .LE_SNR_snr_est => ⟨.LE_SNR, 0, 16, .ro, 0⟩
  | .LE_SNR_snr_req => ⟨.LE_SNR, 16, 16, .ro, 0⟩
  | .LE_FEC_CTRL_rate_staged => ⟨.LE_FEC_CTRL, 0, 2, .rw, 0⟩
  | .LE_FEC_CTRL_rate_active => ⟨.LE_FEC_CTRL, 2, 2, .ro, 0⟩
  | .LE_FEC_CTRL_fec_test => ⟨.LE_FEC_CTRL, 4, 1, .rw, 0⟩
  | .LE_FEC_CTRL_iter_max => ⟨.LE_FEC_CTRL, 8, 7, .rw, 64⟩
  | .LE_FEC_CTRL_unc_set => ⟨.LE_FEC_CTRL, 16, 4, .rw, 4⟩
  | .LE_FEC_STATUS_fec_excess => ⟨.LE_FEC_STATUS, 0, 1, .ro, 0⟩
  | .LE_FEC_STATUS_test_sync => ⟨.LE_FEC_STATUS, 1, 1, .ro, 0⟩
  | .LE_FEC_STATUS_decoding => ⟨.LE_FEC_STATUS, 2, 1, .ro, 0⟩
  | .LE_FEC_EV_excess_set => ⟨.LE_FEC_EV, 0, 1, .w1c, 0⟩
  | .LE_FEC_EV_excess_clr => ⟨.LE_FEC_EV, 1, 1, .w1c, 0⟩
  | .LE_FEC_EV_unc_seen => ⟨.LE_FEC_EV, 2, 1, .w1c, 0⟩
  | .LE_FEC_EV_test_err_seen => ⟨.LE_FEC_EV, 3, 1, .w1c, 0⟩
  | .LE_FEC_WIN0_ber_pre => ⟨.LE_FEC_WIN0, 0, 16, .ro, 65535⟩
  | .LE_FEC_WIN0_iter_mean => ⟨.LE_FEC_WIN0, 16, 11, .ro, 0⟩
  | .LE_FEC_WIN0_fec_valid => ⟨.LE_FEC_WIN0, 31, 1, .ro, 0⟩
  | .LE_FEC_WIN1_inner_unsolved => ⟨.LE_FEC_WIN1, 0, 20, .ro, 0⟩
  | .LE_FEC_WIN1_iter_peak => ⟨.LE_FEC_WIN1, 20, 7, .ro, 0⟩
  | .LE_FEC_WIN2_unc_cw => ⟨.LE_FEC_WIN2, 0, 24, .ro, 0⟩
  | .LE_FEC_WIN3_outer_corr => ⟨.LE_FEC_WIN3, 0, 32, .ro, 0⟩
  | .LE_FEC_TEST_test_err => ⟨.LE_FEC_TEST, 0, 32, .rc, 0⟩
  | .LE_FRM_CTRL_fmt_max => ⟨.LE_FRM_CTRL, 0, 3, .rw, 3⟩
  | .LE_FRM_CTRL_ohb_gcc_en => ⟨.LE_FRM_CTRL, 3, 1, .rw, 0⟩
  | .LE_FRM_CTRL_ohb_mfc_en => ⟨.LE_FRM_CTRL, 4, 1, .rw, 0⟩
  | .LE_FRM_CTRL_force_ais => ⟨.LE_FRM_CTRL, 5, 1, .rw, 0⟩
  | .LE_FRM_CTRL_force_rdi => ⟨.LE_FRM_CTRL, 6, 1, .rw, 0⟩
  | .LE_FRM_STATUS_in_frame => ⟨.LE_FRM_STATUS, 0, 1, .ro, 0⟩
  | .LE_FRM_STATUS_dlos => ⟨.LE_FRM_STATUS, 1, 1, .ro, 0⟩
  | .LE_FRM_STATUS_dlof => ⟨.LE_FRM_STATUS, 2, 1, .ro, 0⟩
  | .LE_FRM_STATUS_dais => ⟨.LE_FRM_STATUS, 3, 1, .ro, 0⟩
  | .LE_FRM_STATUS_drdi => ⟨.LE_FRM_STATUS, 4, 1, .ro, 0⟩
  | .LE_FRM_STATUS_dbdeg => ⟨.LE_FRM_STATUS, 5, 1, .ro, 0⟩
  | .LE_FRM_STATUS_fmt_far => ⟨.LE_FRM_STATUS, 8, 3, .ro, 0⟩
  | .LE_FRM_STATUS_fmt_tx => ⟨.LE_FRM_STATUS, 11, 3, .ro, 0⟩
  | .LE_FRM_STATUS_rate_rx => ⟨.LE_FRM_STATUS, 16, 5, .ro, 0⟩
  | .LE_FRM_EV_defect_chg => ⟨.LE_FRM_EV, 0, 1, .w1c, 0⟩
  | .LE_FRM_EV_mk_mismatch => ⟨.LE_FRM_EV, 1, 1, .w1c, 0⟩
  | .LE_FRM_EV_fmt_limit => ⟨.LE_FRM_EV, 2, 1, .w1c, 0⟩
  | .LE_FRM_EV_prot_ack_lost => ⟨.LE_FRM_EV, 3, 1, .w1c, 0⟩
  | .LE_FRM_EV_prot_conflict => ⟨.LE_FRM_EV, 4, 1, .w1c, 0⟩
  | .LE_FRM_EV_gcc_drop => ⟨.LE_FRM_EV, 5, 1, .w1c, 0⟩
  | .LE_FRM_OHB_ohb_len => ⟨.LE_FRM_OHB, 0, 12, .ro, 0⟩
  | .LE_PM_BIP_bip_err => ⟨.LE_PM_BIP, 0, 32, .ro, 0⟩
  | .LE_PM_BEI_bei_err => ⟨.LE_PM_BEI, 0, 32, .ro, 0⟩
  | .LE_PM_EB_eb => ⟨.LE_PM_EB, 0, 32, .ro, 0⟩
  | .LE_PM_FEB_feb => ⟨.LE_PM_FEB, 0, 32, .ro, 0⟩
  | .LE_PM_SEC_es => ⟨.LE_PM_SEC, 0, 1, .ro, 0⟩
  | .LE_PM_SEC_ses => ⟨.LE_PM_SEC, 1, 1, .ro, 0⟩
  | .LE_PM_SEC_fes => ⟨.LE_PM_SEC, 2, 1, .ro, 0⟩
  | .LE_PM_SEC_fses => ⟨.LE_PM_SEC, 3, 1, .ro, 0⟩
  | .LE_PM_SEC_uas => ⟨.LE_PM_SEC, 4, 1, .ro, 0⟩
  | .LE_PM_SEC_uas_edge => ⟨.LE_PM_SEC, 5, 1, .ro, 0⟩
  | .LE_PM_SEC_irregular => ⟨.LE_PM_SEC, 6, 1, .ro, 0⟩
  | .LE_PM_SEC_traceable => ⟨.LE_PM_SEC, 7, 1, .ro, 0⟩
  | .LE_PM_SEC_defect_sec => ⟨.LE_PM_SEC, 8, 4, .ro, 0⟩
  | .LE_PM_SEC_pm_seq => ⟨.LE_PM_SEC, 24, 8, .ro, 0⟩
  | .LE_PM_LEN_pm_len => ⟨.LE_PM_LEN, 0, 21, .ro, 0⟩
  | .PERF_PM_SYNC_pm_sync_en => ⟨.PERF_PM_SYNC, 0, 1, .rw, 0⟩
  | .PERF_PM_SYNC_pm_sync_refused => ⟨.PERF_PM_SYNC, 1, 1, .w1c, 0⟩
  | .PERF_PM_SYNC_pm_sync_ignored => ⟨.PERF_PM_SYNC, 16, 16, .ro, 0⟩
  | .PERF_PM_OFFSET_pm_offset => ⟨.PERF_PM_OFFSET, 0, 32, .ro, 0⟩
  | .CLI_PORT_CFG_type_staged => ⟨.CLI_PORT_CFG, 0, 4, .rw, 0⟩
  | .CLI_PORT_CFG_width => ⟨.CLI_PORT_CFG, 4, 2, .rw, 0⟩
  | .CLI_PORT_CFG_lane_mode => ⟨.CLI_PORT_CFG, 6, 2, .rw, 0⟩
  | .CLI_PORT_CFG_flexe_head => ⟨.CLI_PORT_CFG, 8, 6, .rw, 0⟩
  | .CLI_PORT_CFG_type_active => ⟨.CLI_PORT_CFG, 16, 4, .ro, 0⟩
  | .CLI_PORT_ODU_RATE_odu_rate => ⟨.CLI_PORT_ODU_RATE, 0, 32, .rw, 0⟩
  | .CLI_PORT_STATUS_rx_sig => ⟨.CLI_PORT_STATUS, 0, 1, .ro, 0⟩
  | .CLI_PORT_STATUS_rx_lock => ⟨.CLI_PORT_STATUS, 1, 1, .ro, 0⟩
  | .CLI_PORT_STATUS_rx_hiber => ⟨.CLI_PORT_STATUS, 2, 1, .ro, 0⟩
  | .CLI_PORT_STATUS_rx_lf => ⟨.CLI_PORT_STATUS, 3, 1, .ro, 0⟩
  | .CLI_PORT_STATUS_rx_rf => ⟨.CLI_PORT_STATUS, 4, 1, .ro, 0⟩
  | .CLI_PORT_STATUS_fx_ok => ⟨.CLI_PORT_STATUS, 5, 1, .ro, 0⟩
  | .CLI_PORT_STATUS_tx_on => ⟨.CLI_PORT_STATUS, 6, 1, .ro, 0⟩
  | .FAB_POOL_STATUS_bins_free => ⟨.FAB_POOL_STATUS, 0, 9, .ro, 384⟩
  | .FAB_EV_trib_stale => ⟨.FAB_EV, 0, 1, .w1c, 0⟩
  | .FAB_EV_skew_chg => ⟨.FAB_EV, 1, 1, .w1c, 0⟩
  | .FAB_EV_align_lost => ⟨.FAB_EV, 2, 1, .w1c, 0⟩
  | .FAB_EV_eth_oversize => ⟨.FAB_EV, 3, 1, .w1c, 0⟩
  | .FAB_EV_gmp_loss => ⟨.FAB_EV, 4, 1, .w1c, 0⟩
  | .FAB_EV_frame_drop => ⟨.FAB_EV, 5, 1, .w1c, 0⟩
  | .FAB_EV_alloc_refused => ⟨.FAB_EV, 6, 1, .w1c, 0⟩
  | .FAB_GRP_CTRL_bins_req => ⟨.FAB_GRP_CTRL, 0, 9, .rw, 0⟩
  | .FAB_GRP_CTRL_member_mask => ⟨.FAB_GRP_CTRL, 12, 4, .rw, 0⟩
  | .FAB_GRP_CTRL_grp_gen => ⟨.FAB_GRP_CTRL, 16, 8, .ro, 0⟩
  | .FAB_GRP_STATUS_bins_held => ⟨.FAB_GRP_STATUS, 0, 9, .ro, 0⟩
  | .FAB_GRP_STATUS_alloc_err => ⟨.FAB_GRP_STATUS, 9, 2, .ro, 0⟩
  | .FAB_GRP_STATUS_dskew => ⟨.FAB_GRP_STATUS, 11, 1, .ro, 0⟩
  | .FAB_GRP_STATUS_aligned => ⟨.FAB_GRP_STATUS, 12, 1, .ro, 0⟩
  | .FAB_GRP_STATUS_skew_meas => ⟨.FAB_GRP_STATUS, 16, 16, .ro, 0⟩
  | .FAB_TRIB_CFG_src_kind => ⟨.FAB_TRIB_CFG, 0, 2, .rw, 0⟩
  | .FAB_TRIB_CFG_src_port => ⟨.FAB_TRIB_CFG, 2, 6, .rw, 0⟩
  | .FAB_TRIB_CFG_fx_client_id => ⟨.FAB_TRIB_CFG, 8, 16, .rw, 0⟩
  | .FAB_TRIB_CFG_carrier => ⟨.FAB_TRIB_CFG, 24, 7, .rw, 0⟩
  | .FAB_TRIB_STATUS_slots_req => ⟨.FAB_TRIB_STATUS, 0, 9, .ro, 0⟩
  | .FAB_TRIB_STATUS_trib_gen => ⟨.FAB_TRIB_STATUS, 16, 8, .ro, 0⟩
  | .FAB_TRIB_STATUS_active => ⟨.FAB_TRIB_STATUS, 24, 1, .ro, 0⟩
  | .FAB_TRIB_STATUS_sf => ⟨.FAB_TRIB_STATUS, 25, 1, .ro, 0⟩
  | .FAB_TRIB_STATUS_sd => ⟨.FAB_TRIB_STATUS, 26, 1, .ro, 0⟩
  | .FAB_TRIB_STATUS_adapt_ok => ⟨.FAB_TRIB_STATUS, 27, 1, .ro, 0⟩
  | .PLACE_CTRL_step_en => ⟨.PLACE_CTRL, 0, 1, .rw, 1⟩
  | .PLACE_CTRL_shed_en => ⟨.PLACE_CTRL, 1, 1, .rw, 0⟩
  | .PLACE_CTRL_chan_timeout => ⟨.PLACE_CTRL, 8, 8, .rw, 20⟩
  | .PLACE_STEP_THR_dn_thr => ⟨.PLACE_STEP_THR, 0, 8, .rw, 10⟩
  | .PLACE_STEP_THR_up_thr => ⟨.PLACE_STEP_THR, 8, 8, .rw, 30⟩
  | .PLACE_STEP_THR_dn_dwell => ⟨.PLACE_STEP_THR, 16, 8, .rw, 10⟩
  | .PLACE_STEP_TIME_up_dwell => ⟨.PLACE_STEP_TIME, 0, 16, .rw, 6000⟩
  | .PLACE_STEP_TIME_hold => ⟨.PLACE_STEP_TIME, 16, 16, .rw, 300⟩
  | .PLACE_GUARD_ber_guard => ⟨.PLACE_GUARD, 0, 16, .rw, 6959⟩
  | .PLACE_GUARD_iter_guard => ⟨.PLACE_GUARD, 16, 11, .rw, 400⟩
  | .PLACE_EV_refused => ⟨.PLACE_EV, 0, 1, .w1c, 0⟩
  | .PLACE_EV_shed => ⟨.PLACE_EV, 1, 1, .w1c, 0⟩
  | .PLACE_EV_step => ⟨.PLACE_EV, 2, 1, .w1c, 0⟩
  | .PLACE_EV_step_blocked => ⟨.PLACE_EV, 3, 1, .w1c, 0⟩
  | .PLACE_EV_floor => ⟨.PLACE_EV, 4, 1, .w1c, 0⟩
  | .PLACE_EV_resync => ⟨.PLACE_EV, 5, 1, .w1c, 0⟩
  | .PLACE_EV_chan_lost => ⟨.PLACE_EV, 6, 1, .w1c, 0⟩
  | .PLACE_EV_timeout => ⟨.PLACE_EV, 7, 1, .w1c, 0⟩
  | .PLACE_EV_range => ⟨.PLACE_EV, 8, 1, .w1c, 0⟩
  | .PLACE_EV_mirror_diff => ⟨.PLACE_EV, 9, 1, .w1c, 0⟩
  | .PLACE_ENG_STATUS_tx_gen => ⟨.PLACE_ENG_STATUS, 0, 12, .ro, 0⟩
  | .PLACE_ENG_STATUS_sw_state => ⟨.PLACE_ENG_STATUS, 12, 3, .ro, 0⟩
  | .PLACE_ENG_STATUS_chan_up => ⟨.PLACE_ENG_STATUS, 15, 1, .ro, 0⟩
  | .PLACE_ENG_STATUS_tx_rate => ⟨.PLACE_ENG_STATUS, 16, 5, .ro, 0⟩
  | .PLACE_ENG_STATUS_pin_cause => ⟨.PLACE_ENG_STATUS, 21, 3, .ro, 0⟩
  | .PLACE_ENG_RX_rx_gen => ⟨.PLACE_ENG_RX, 0, 12, .ro, 0⟩
  | .PLACE_ENG_RX_ready_gen => ⟨.PLACE_ENG_RX, 12, 12, .ro, 0⟩
  | .PLACE_ENG_RX_ready_valid => ⟨.PLACE_ENG_RX, 24, 1, .ro, 0⟩
  | .PLACE_ENG_RX_rx_mismatch => ⟨.PLACE_ENG_RX, 25, 1, .ro, 0⟩
  | .PLACE_TRIB_POL_pin_mode => ⟨.PLACE_TRIB_POL, 0, 2, .rw, 0⟩
  | .PLACE_TRIB_POL_grp_en => ⟨.PLACE_TRIB_POL, 2, 1, .rw, 0⟩
  | .PLACE_TRIB_POL_eng_mask => ⟨.PLACE_TRIB_POL, 4, 4, .rw, 15⟩
  | .PLACE_TRIB_POL_prio => ⟨.PLACE_TRIB_POL, 8, 3, .rw, 0⟩
  | .PLACE_TRIB_POL_div_tag => ⟨.PLACE_TRIB_POL, 12, 4, .rw, 0⟩
  | .PLACE_TRIB_POL_pin_slot => ⟨.PLACE_TRIB_POL, 16, 9, .rw, 0⟩
  | .PLACE_TRIB_POL_grp => ⟨.PLACE_TRIB_POL, 26, 6, .rw, 0⟩
  | .PLACE_TRIB_STATUS_place_state => ⟨.PLACE_TRIB_STATUS, 0, 2, .ro, 0⟩
  | .PLACE_TRIB_STATUS_cause => ⟨.PLACE_TRIB_STATUS, 2, 4, .ro, 0⟩
  | .PLACE_TRIB_STATUS_eng_used => ⟨.PLACE_TRIB_STATUS, 6, 4, .ro, 0⟩
  | .PLACE_TRIB_STATUS_slots_held => ⟨.PLACE_TRIB_STATUS, 10, 9, .ro, 0⟩
  | .PAIR_CTRL_pair_en => ⟨.PAIR_CTRL, 0, 1, .rw, 0⟩
  | .PAIR_CTRL_tx_suspect_en => ⟨.PAIR_CTRL, 1, 1, .rw, 1⟩
  | .PAIR_CTRL_lane_en => ⟨.PAIR_CTRL, 8, 8, .rw, 255⟩
  | .PAIR_STATUS_link_state => ⟨.PAIR_STATUS, 0, 2, .ro, 0⟩
  | .PAIR_STATUS_peer_alive => ⟨.PAIR_STATUS, 2, 1, .ro, 0⟩
  | .PAIR_STATUS_ready => ⟨.PAIR_STATUS, 3, 1, .ro, 0⟩
  | .PAIR_STATUS_faulted => ⟨.PAIR_STATUS, 4, 1, .w1c, 0⟩
  | .PAIR_STATUS_lockout => ⟨.PAIR_STATUS, 5, 1, .ro, 0⟩
  | .PAIR_STATUS_refuse_cause => ⟨.PAIR_STATUS, 6, 2, .ro, 0⟩
  | .PAIR_STATUS_lanes_up => ⟨.PAIR_STATUS, 8, 8, .ro, 0⟩
  | .PAIR_STATUS_bridged_slots => ⟨.PAIR_STATUS, 16, 9, .ro, 0⟩
  | .PAIR_LEVEL_fl_run => ⟨.PAIR_LEVEL, 0, 8, .ro, 0⟩
  | .PAIR_LEVEL_fl_floor => ⟨.PAIR_LEVEL, 8, 8, .ro, 0⟩
  | .PAIR_LEVEL_peer_fl_run => ⟨.PAIR_LEVEL, 16, 8, .ro, 0⟩
  | .PAIR_LEVEL_fl_agreed => ⟨.PAIR_LEVEL, 24, 8, .ro, 0⟩
  | .PAIR_EV_hb_lost => ⟨.PAIR_EV, 0, 1, .w1c, 0⟩
  | .PAIR_EV_link_down => ⟨.PAIR_EV, 1, 1, .w1c, 0⟩
  | .PAIR_EV_alive_fault => ⟨.PAIR_EV, 2, 1, .w1c, 0⟩
  | .PAIR_EV_takeover => ⟨.PAIR_EV, 3, 1, .w1c, 0⟩
  | .PAIR_EV_refused => ⟨.PAIR_EV, 4, 1, .w1c, 0⟩
  | .PAIR_EV_mirror_fail => ⟨.PAIR_EV, 5, 1, .w1c, 0⟩
  | .PAIR_EV_bridge_drop => ⟨.PAIR_EV, 6, 1, .w1c, 0⟩
  | .PAIR_EV_sel => ⟨.PAIR_EV, 7, 1, .w1c, 0⟩
  | .PAIR_EV_unprot_fault => ⟨.PAIR_EV, 8, 1, .w1c, 0⟩
  | .PAIR_EV_far_switched => ⟨.PAIR_EV, 9, 1, .w1c, 0⟩
  | .PAIR_EV_far_unprot => ⟨.PAIR_EV, 10, 1, .w1c, 0⟩
  | .PAIR_MATCH_df => ⟨.PAIR_MATCH, 0, 32, .ro, 0⟩
  | .PAIR_SKEW_sfm_skew => ⟨.PAIR_SKEW, 0, 16, .ro, 0⟩
  | .PAIR_BRIDGE_trib => ⟨.PAIR_BRIDGE, 0, 10, .rw, 0⟩
  | .PAIR_BRIDGE_tap => ⟨.PAIR_BRIDGE, 10, 1, .rw, 0⟩
  | .PAIR_BRIDGE_en => ⟨.PAIR_BRIDGE, 11, 1, .rw, 0⟩
  | .PAIR_BRIDGE_admitted => ⟨.PAIR_BRIDGE, 12, 1, .ro, 0⟩
  | .PAIR_BRIDGE_selected => ⟨.PAIR_BRIDGE, 13, 1, .ro, 0⟩
  | .TIM_SEL_CTRL_revertive => ⟨.TIM_SEL_CTRL, 0, 1, .rw, 0⟩
  | .TIM_SEL_CTRL_wtr => ⟨.TIM_SEL_CTRL, 8, 12, .rw, 300⟩
  | .TIM_SEL_CTRL_hold_limit => ⟨.TIM_SEL_CTRL, 20, 12, .rw, 1080⟩
  | .TIM_REF_CFG_prio => ⟨.TIM_REF_CFG, 0, 4, .rw, 0⟩
  | .TIM_REF_CFG_qual_sw => ⟨.TIM_REF_CFG, 4, 4, .rw, 15⟩
  | .TIM_REF_CFG_use_adv => ⟨.TIM_REF_CFG, 8, 1, .rw, 1⟩
  | .TIM_REF_CFG_pps_en => ⟨.TIM_REF_CFG, 9, 1, .rw, 0⟩
  | .TIM_REF_CFG_freq_code => ⟨.TIM_REF_CFG, 10, 2, .rw, 0⟩
  | .TIM_REF_CFG_src_port => ⟨.TIM_REF_CFG, 12, 6, .rw, 0⟩
  | .TIM_REF_CFG_in_delay => ⟨.TIM_REF_CFG, 18, 14, .rw, 0⟩
  | .TIM_REF_STATUS_qualified => ⟨.TIM_REF_STATUS, 0, 1, .ro, 0⟩
  | .TIM_REF_STATUS_wtr_run => ⟨.TIM_REF_STATUS, 1, 1, .ro, 0⟩
  | .TIM_REF_STATUS_qual_eff => ⟨.TIM_REF_STATUS, 2, 4, .ro, 15⟩
  | .TIM_REF_STATUS_fail => ⟨.TIM_REF_STATUS, 6, 2, .ro, 0⟩
  | .TIM_REF_STATUS_offset => ⟨.TIM_REF_STATUS, 8, 24, .ro, 0⟩
  | .TIM_DPLL0_CTRL_loop_open => ⟨.TIM_DPLL0_CTRL, 0, 1, .rw, 0⟩
  | .TIM_DPLL0_CTRL_fbw => ⟨.TIM_DPLL0_CTRL, 1, 2, .rw, 1⟩
  | .TIM_DPLL0_CTRL_tbw => ⟨.TIM_DPLL0_CTRL, 3, 2, .rw, 1⟩
  | .TIM_DPLL0_CTRL_lock_thr => ⟨.TIM_DPLL0_CTRL, 8, 8, .rw, 20⟩
  | .TIM_DPLL0_CTRL_step_thr => ⟨.TIM_DPLL0_CTRL, 16, 16, .rw, 100⟩
  | .TIM_DPLL0_FWORD_fword => ⟨.TIM_DPLL0_FWORD, 0, 32, .rw, 0⟩
  | .TIM_DPLL0_STATUS_d0_state => ⟨.TIM_DPLL0_STATUS, 0, 3, .ro, 0⟩
  | .TIM_DPLL0_STATUS_freq_src => ⟨.TIM_DPLL0_STATUS, 3, 4, .ro, 15⟩
  | .TIM_DPLL0_STATUS_time_src => ⟨.TIM_DPLL0_STATUS, 7, 4, .ro, 15⟩
  | .TIM_DPLL0_STATUS_tod_trace => ⟨.TIM_DPLL0_STATUS, 11, 2, .ro, 0⟩
  | .TIM_DPLL0_STATUS_model_ready => ⟨.TIM_DPLL0_STATUS, 13, 1, .ro, 0⟩
  | .TIM_DPLL0_STATUS_time_err => ⟨.TIM_DPLL0_STATUS, 16, 16, .ro, 0⟩
  | .TIM_DPLL_CTRL_ref_sel => ⟨.TIM_DPLL_CTRL, 0, 4, .rw, 15⟩
  | .TIM_DPLL_CTRL_en => ⟨.TIM_DPLL_CTRL, 4, 1, .rw, 0⟩
  | .TIM_DPLL_CTRL_fbw => ⟨.TIM_DPLL_CTRL, 5, 2, .rw, 1⟩
  | .TIM_DPLL_PSTEP_pstep => ⟨.TIM_DPLL_PSTEP, 0, 32, .wo, 0⟩
  | .TIM_DPLL_STATUS_dk_state => ⟨.TIM_DPLL_STATUS, 0, 3, .ro, 0⟩
  | .TIM_DPLL_STATUS_step_busy => ⟨.TIM_DPLL_STATUS, 3, 1, .ro, 0⟩
  | .TIM_TOD_SEC_HI_sec_hi => ⟨.TIM_TOD_SEC_HI, 0, 16, .rw, 0⟩
  | .TIM_TOD_SEC_HI_tod_set => ⟨.TIM_TOD_SEC_HI, 31, 1, .wo, 0⟩
  | .TIM_TOD_SEC_LO_sec_lo => ⟨.TIM_TOD_SEC_LO, 0, 32, .rw, 0⟩
  | .TIM_TOD_NS_ns => ⟨.TIM_TOD_NS, 0, 30, .ro, 0⟩
  | .TIM_TT_CTRL_tt_engine => ⟨.TIM_TT_CTRL, 0, 2, .rw, 0⟩
  | .TIM_TT_CTRL_tt_en => ⟨.TIM_TT_CTRL, 2, 1, .rw, 0⟩
  | .TIM_TT_CTRL_asym_fixed => ⟨.TIM_TT_CTRL, 8, 24, .rw, 0⟩
  | .TIM_TT_THETA_theta => ⟨.TIM_TT_THETA, 0, 32, .ro, 0⟩
  | .TIM_TT_DTAU_dtau => ⟨.TIM_TT_DTAU, 0, 32, .ro, 0⟩
  | .TIM_TT_STATUS_tt_rx_ok => ⟨.TIM_TT_STATUS, 0, 1, .ro, 0⟩
  | .TIM_TT_STATUS_cd_hold => ⟨.TIM_TT_STATUS, 1, 1, .ro, 0⟩
  | .TIM_TT_STATUS_far_qual => ⟨.TIM_TT_STATUS, 2, 4, .ro, 15⟩
  | .TIM_TT_STATUS_far_trace => ⟨.TIM_TT_STATUS, 6, 2, .ro, 0⟩
  | .TIM_TT_STATUS_samples => ⟨.TIM_TT_STATUS, 16, 16, .ro, 0⟩
  | .TIM_TT_CFG_tx_ext => ⟨.TIM_TT_CFG, 0, 16, .rw, 0⟩
  | .TIM_TT_CFG_rx_ext => ⟨.TIM_TT_CFG, 16, 16, .rw, 0⟩
  | .TIM_TT_NU_nu_tx => ⟨.TIM_TT_NU, 0, 32, .rw, 0⟩
  | .TIM_EV_ref_chg => ⟨.TIM_EV, 0, 1, .w1c, 0⟩
  | .TIM_EV_sel_chg => ⟨.TIM_EV, 1, 1, .w1c, 0⟩
  | .TIM_EV_tod_step => ⟨.TIM_EV, 2, 1, .w1c, 0⟩
  | .TIM_EV_tod_wrap => ⟨.TIM_EV, 3, 1, .w1c, 0⟩
  | .TIM_EV_hold_enter => ⟨.TIM_EV, 4, 1, .w1c, 0⟩
  | .TIM_EV_hold_expired => ⟨.TIM_EV, 5, 1, .w1c, 0⟩
  | .TIM_EV_tx_clamp => ⟨.TIM_EV, 6, 1, .w1c, 0⟩
  | .TIM_EV_priv_drop => ⟨.TIM_EV, 7, 1, .w1c, 0⟩
  | .TIM_EV_tt_lost => ⟨.TIM_EV, 8, 1, .w1c, 0⟩
  | .TIM_PORT_DPLL_port_dpll0 => ⟨.TIM_PORT_DPLL, 0, 3, .rw, 0⟩
  | .TIM_PORT_DPLL_port_dpll1 => ⟨.TIM_PORT_DPLL, 4, 3, .rw, 0⟩
  | .TIM_PORT_DPLL_port_dpll2 => ⟨.TIM_PORT_DPLL, 8, 3, .rw, 0⟩
  | .TIM_PORT_DPLL_port_dpll3 => ⟨.TIM_PORT_DPLL, 12, 3, .rw, 0⟩
  | .TIM_PORT_DPLL_port_dpll4 => ⟨.TIM_PORT_DPLL, 16, 3, .rw, 0⟩
  | .TIM_PORT_DPLL_port_dpll5 => ⟨.TIM_PORT_DPLL, 20, 3, .rw, 0⟩
  | .TIM_PORT_DPLL_port_dpll6 => ⟨.TIM_PORT_DPLL, 24, 3, .rw, 0⟩
  | .TIM_PORT_DPLL_port_dpll7 => ⟨.TIM_PORT_DPLL, 28, 3, .rw, 0⟩
  | .CIPH_ENG_CTRL_use_staged => ⟨.CIPH_ENG_CTRL, 0, 2, .rw, 0⟩
  | .CIPH_ENG_CTRL_use_active => ⟨.CIPH_ENG_CTRL, 2, 2, .ro, 0⟩
  | .CIPH_ENG_CTRL_end_sel => ⟨.CIPH_ENG_CTRL, 4, 1, .rw, 0⟩
  | .CIPH_ENG_CTRL_kp_flip => ⟨.CIPH_ENG_CTRL, 5, 1, .w1s, 0⟩
  | .CIPH_ENG_CTRL_kp_pend => ⟨.CIPH_ENG_CTRL, 6, 1, .ro, 0⟩
  | .CIPH_ENG_CTRL_tx_kp => ⟨.CIPH_ENG_CTRL, 7, 1, .ro, 0⟩
  | .CIPH_ENG_CTRL_rx_kp => ⟨.CIPH_ENG_CTRL, 8, 1, .ro, 0⟩
  | .CIPH_ENG_CTRL_mb => ⟨.CIPH_ENG_CTRL, 9, 1, .ro, 0⟩
  | .CIPH_ENG_CTRL_auth_set => ⟨.CIPH_ENG_CTRL, 12, 4, .rw, 3⟩
  | .CIPH_ENG_CTRL_auth_clr => ⟨.CIPH_ENG_CTRL, 16, 4, .rw, 3⟩
  | .CIPH_ENG_DAUTH_LO_dauth_lo => ⟨.CIPH_ENG_DAUTH_LO, 0, 32, .ro, 0⟩
  | .CIPH_ENG_DAUTH_HI_dauth_hi => ⟨.CIPH_ENG_DAUTH_HI, 0, 32, .ro, 0⟩
  | .CIPH_EV_auth_set => ⟨.CIPH_EV, 0, 1, .w1c, 0⟩
  | .CIPH_EV_auth_clr => ⟨.CIPH_EV, 1, 1, .w1c, 0⟩
  | .CIPH_EV_kp_refused => ⟨.CIPH_EV, 2, 1, .w1c, 0⟩
  | .CIPH_EV_end_clash => ⟨.CIPH_EV, 3, 1, .w1c, 0⟩
  | .CIPH_EV_ent_fail => ⟨.CIPH_EV, 4, 1, .w1c, 0⟩
  | .CIPH_EV_halted => ⟨.CIPH_EV, 5, 1, .ro, 0⟩
  | .CIPH_EV_halt_seen => ⟨.CIPH_EV, 6, 1, .w1c, 0⟩
  | .CIPH_TRIBMAP_locker0 => ⟨.CIPH_TRIBMAP, 0, 6, .rw, 0⟩
  | .CIPH_TRIBMAP_locker1 => ⟨.CIPH_TRIBMAP, 8, 6, .rw, 0⟩
  | .CIPH_TRIBMAP_locker2 => ⟨.CIPH_TRIBMAP, 16, 6, .rw, 0⟩
  | .CIPH_TRIBMAP_locker3 => ⟨.CIPH_TRIBMAP, 24, 6, .rw, 0⟩
  | .CIPH_TRIBMAP_bind_en0 => ⟨.CIPH_TRIBMAP, 7, 1, .rw, 0⟩
  | .CIPH_TRIBMAP_bind_en1 => ⟨.CIPH_TRIBMAP, 15, 1, .rw, 0⟩
  | .CIPH_TRIBMAP_bind_en2 => ⟨.CIPH_TRIBMAP, 23, 1, .rw, 0⟩
  | .CIPH_TRIBMAP_bind_en3 => ⟨.CIPH_TRIBMAP, 31, 1, .rw, 0⟩
  | .CIPH_LOCK_CTRL_lock_en => ⟨.CIPH_LOCK_CTRL, 0, 1, .rw, 0⟩
  | .CIPH_LOCK_CTRL_key_ring => ⟨.CIPH_LOCK_CTRL, 16, 16, .rw, 0⟩
  | .CIPH_LOCK_STATUS_lgen => ⟨.CIPH_LOCK_STATUS, 0, 8, .ro, 0⟩
  | .CIPH_LOCK_STATUS_cur_phase => ⟨.CIPH_LOCK_STATUS, 8, 1, .ro, 0⟩
  | .CIPH_LOCK_STATUS_cur_valid => ⟨.CIPH_LOCK_STATUS, 9, 1, .ro, 0⟩
  | .CIPH_LOCK_STATUS_nxt_valid => ⟨.CIPH_LOCK_STATUS, 10, 1, .ro, 0⟩
  | .CIPH_LOCK_STATUS_cur_kgen => ⟨.CIPH_LOCK_STATUS, 16, 8, .ro, 0⟩
  | .CIPH_LOCK_STATUS_nxt_kgen => ⟨.CIPH_LOCK_STATUS, 24, 8, .ro, 0⟩
  | .HOST_RCTX_BASE_LO_base_lo => ⟨.HOST_RCTX_BASE_LO, 12, 20, .rw, 0⟩
  | .HOST_RCTX_BASE_HI_base_hi => ⟨.HOST_RCTX_BASE_HI, 0, 32, .rw, 0⟩
  | .HOST_RCTX_CFG_en => ⟨.HOST_RCTX_CFG, 0, 1, .rw, 0⟩
  | .HOST_RCTX_CFG_kind => ⟨.HOST_RCTX_CFG, 1, 1, .rw, 0⟩
  | .HOST_RCTX_CFG_class => ⟨.HOST_RCTX_CFG, 2, 3, .rw, 0⟩
  | .HOST_RCTX_CFG_log2size => ⟨.HOST_RCTX_CFG, 5, 4, .rw, 0⟩
  | .HOST_RCTX_CFG_priv => ⟨.HOST_RCTX_CFG, 9, 1, .rw, 0⟩
  | .HOST_RCTX_CFG_gen => ⟨.HOST_RCTX_CFG, 16, 8, .rw, 0⟩
  | .HOST_RCTX_LINK_cq => ⟨.HOST_RCTX_LINK, 0, 16, .rw, 0⟩
  | .HOST_RCTX_IRQ_vector => ⟨.HOST_RCTX_IRQ, 0, 8, .rw, 0⟩
  | .HOST_RCTX_IRQ_mod_cnt => ⟨.HOST_RCTX_IRQ, 8, 8, .rw, 1⟩
  | .HOST_RCTX_IRQ_mod_time => ⟨.HOST_RCTX_IRQ, 16, 16, .rw, 0⟩
  | .HOST_RCTX_STATE_state => ⟨.HOST_RCTX_STATE, 0, 2, .ro, 0⟩
  | .HOST_RCTX_STATE_err => ⟨.HOST_RCTX_STATE, 8, 4, .ro, 0⟩
  | .HOST_RCTX_IDX_host_idx => ⟨.HOST_RCTX_IDX, 0, 16, .ro, 0⟩
  | .HOST_RCTX_IDX_dev_idx => ⟨.HOST_RCTX_IDX, 16, 16, .ro, 0⟩
  | .HOST_LINK_speed => ⟨.HOST_LINK, 0, 3, .ro, 0⟩
  | .HOST_LINK_width => ⟨.HOST_LINK, 3, 4, .ro, 0⟩
  | .HOST_LINK_flit => ⟨.HOST_LINK, 7, 1, .ro, 0⟩
  | .HOST_LINK_link_up => ⟨.HOST_LINK, 8, 1, .ro, 0⟩
  | .HOST_EV_db_bad => ⟨.HOST_EV, 0, 1, .w1c, 0⟩
  | .HOST_EV_ring_err => ⟨.HOST_EV, 1, 1, .w1c, 0⟩
  | .HOST_EV_evt_drop => ⟨.HOST_EV, 2, 1, .w1c, 0⟩
  | .HOST_EV_stale_cpl => ⟨.HOST_EV, 3, 1, .w1c, 0⟩
  | .HOST_EV_ctx_bad => ⟨.HOST_EV, 4, 1, .w1c, 0⟩
  | .HOST_EV_link_down => ⟨.HOST_EV, 5, 1, .w1c, 0⟩
  | .HOST_EV_acc_bad => ⟨.HOST_EV, 6, 1, .w1c, 0⟩
  | .HOST_OHB_BIND_tx_ring => ⟨.HOST_OHB_BIND, 0, 16, .rw, 65535⟩
  | .HOST_OHB_BIND_rx_ring => ⟨.HOST_OHB_BIND, 16, 16, .rw, 65535⟩
  | .HK_CTRL_seq_loop => ⟨.HK_CTRL, 0, 1, .rw, 0⟩
  | .HK_CTRL_seq_go => ⟨.HK_CTRL, 1, 1, .w1s, 0⟩
  | .HK_CTRL_inj_go => ⟨.HK_CTRL, 2, 1, .w1s, 0⟩
  | .HK_CTRL_sync_now => ⟨.HK_CTRL, 3, 1, .w1s, 0⟩
  | .HK_CTRL_seq_stop => ⟨.HK_CTRL, 4, 1, .w1s, 0⟩
  | .HK_CTRL_compat_en => ⟨.HK_CTRL, 5, 1, .rw, 0⟩
  | .HK_CTRL_start_pin_en => ⟨.HK_CTRL, 6, 1, .rw, 0⟩
  | .HK_CTRL_urg_pin_en => ⟨.HK_CTRL, 7, 1, .rw, 0⟩
  | .HK_CTRL_sync_pin_en => ⟨.HK_CTRL, 8, 1, .rw, 0⟩
  | .HK_CTRL_reg_len => ⟨.HK_CTRL, 9, 5, .rw, 0⟩
  | .HK_CTRL_inj_len => ⟨.HK_CTRL, 14, 2, .rw, 0⟩
  | .HK_STATUS_seq_run => ⟨.HK_STATUS, 0, 1, .ro, 0⟩
  | .HK_STATUS_inj_run => ⟨.HK_STATUS, 1, 1, .ro, 0⟩
  | .HK_STATUS_cur_slot => ⟨.HK_STATUS, 2, 5, .ro, 0⟩
  | .HK_STATUS_idle => ⟨.HK_STATUS, 7, 1, .ro, 1⟩
  | .HK_STATUS_continuous => ⟨.HK_STATUS, 8, 1, .ro, 0⟩
  | .HK_EV_start_ign => ⟨.HK_EV, 0, 1, .w1c, 0⟩
  | .HK_EV_urg_ign => ⟨.HK_EV, 1, 1, .w1c, 0⟩
  | .HK_EV_sync_seen => ⟨.HK_EV, 2, 1, .w1c, 0⟩
  | .HK_EV_clamp_seen => ⟨.HK_EV, 3, 1, .w1c, 0⟩
  | .HK_EV_exc_fault => ⟨.HK_EV, 4, 1, .w1c, 0⟩
  | .HK_EV_aout_fault => ⟨.HK_EV, 5, 1, .w1c, 0⟩
  | .HK_EV_alm_fault => ⟨.HK_EV, 6, 1, .w1c, 0⟩
  | .HK_EV_det_alarm => ⟨.HK_EV, 7, 1, .w1c, 0⟩
  | .HK_EV_lin_done => ⟨.HK_EV, 8, 1, .w1c, 0⟩
  | .HK_EV_i3c_done => ⟨.HK_EV, 9, 1, .w1c, 0⟩
  | .HK_EV_i3c_leave => ⟨.HK_EV, 10, 1, .w1c, 0⟩
  | .HK_EV_i3c_fail => ⟨.HK_EV, 11, 1, .w1c, 0⟩
  | .HK_EV_i3c_full => ⟨.HK_EV, 12, 1, .w1c, 0⟩
  | .HK_CH_CFG_en => ⟨.HK_CH_CFG, 0, 1, .rw, 0⟩
  | .HK_CH_CFG_in_mode => ⟨.HK_CH_CFG, 1, 1, .rw, 0⟩
  | .HK_CH_CFG_gain => ⟨.HK_CH_CFG, 2, 3, .rw, 0⟩
  | .HK_CH_CFG_exc_mode => ⟨.HK_CH_CFG, 5, 2, .rw, 0⟩
  | .HK_CH_CFG_exc_level => ⟨.HK_CH_CFG, 7, 8, .rw, 0⟩
  | .HK_CH_CFG_chg_cap => ⟨.HK_CH_CFG, 15, 2, .rw, 0⟩
  | .HK_CH_CFG_chg_rst_len => ⟨.HK_CH_CFG, 17, 4, .rw, 0⟩
  | .HK_CH_CFG_chg_rst => ⟨.HK_CH_CFG, 21, 1, .w1s, 0⟩
  | .HK_CH_CFG_lin_en => ⟨.HK_CH_CFG, 22, 1, .rw, 0⟩
  | .HK_CH_CFG_lin_commit => ⟨.HK_CH_CFG, 23, 1, .w1s, 0⟩
  | .HK_CH_FLT_order => ⟨.HK_CH_FLT, 0, 2, .rw, 2⟩
  | .HK_CH_FLT_dec => ⟨.HK_CH_FLT, 2, 3, .rw, 4⟩
  | .HK_CH_FLT_avg_m => ⟨.HK_CH_FLT, 6, 10, .rw, 0⟩
  | .HK_CH_FLT_settle_ext => ⟨.HK_CH_FLT, 16, 8, .rw, 0⟩
  | .HK_CH_DITH_dith_freq => ⟨.HK_CH_DITH, 0, 16, .rw, 0⟩
  | .HK_CH_DITH_dith_dec => ⟨.HK_CH_DITH, 16, 2, .rw, 0⟩
  | .HK_CH_DITH_dith_en => ⟨.HK_CH_DITH, 18, 1, .rw, 0⟩
  | .HK_CH_DITH_dith_bad => ⟨.HK_CH_DITH, 19, 1, .ro, 0⟩
  | .HK_CH_RAW_code => ⟨.HK_CH_RAW, 0, 24, .ro, 0⟩
  | .HK_CH_RAW_settling => ⟨.HK_CH_RAW, 24, 1, .ro, 0⟩
  | .HK_CH_RAW_clamp => ⟨.HK_CH_RAW, 25, 1, .ro, 0⟩
  | .HK_CH_RAW_chg_rst => ⟨.HK_CH_RAW, 26, 1, .ro, 0⟩
  | .HK_CH_RAW_exc => ⟨.HK_CH_RAW, 27, 1, .ro, 0⟩
  | .HK_CH_RAW_inj => ⟨.HK_CH_RAW, 28, 1, .ro, 0⟩
  | .HK_CH_RAW_seq => ⟨.HK_CH_RAW, 29, 3, .ro, 0⟩
  | .HK_CH_VAL_value => ⟨.HK_CH_VAL, 0, 32, .ro, 0⟩
  | .HK_CH_DITH_I_dith_i => ⟨.HK_CH_DITH_I, 0, 24, .ro, 0⟩
  | .HK_CH_DITH_Q_dith_q => ⟨.HK_CH_DITH_Q, 0, 24, .ro, 0⟩
  | .HK_CH_STATUS_clamp_live => ⟨.HK_CH_STATUS, 0, 1, .ro, 0⟩
  | .HK_CH_STATUS_exc_fault => ⟨.HK_CH_STATUS, 1, 1, .ro, 0⟩
  | .HK_CH_STATUS_rst_closed => ⟨.HK_CH_STATUS, 2, 1, .ro, 0⟩
  | .HK_CH_STATUS_exc_meas => ⟨.HK_CH_STATUS, 16, 16, .ro, 0⟩
  | .HK_SEQ_chan => ⟨.HK_SEQ, 0, 6, .rw, 63⟩
  | .HK_INJ_chan => ⟨.HK_INJ, 0, 6, .rw, 63⟩
  | .HK_SEQ_count => ⟨.HK_SEQ, 8, 16, .rw, 1⟩
  | .HK_INJ_count => ⟨.HK_INJ, 8, 16, .rw, 1⟩
  | .HK_DET_CFG_chan => ⟨.HK_DET_CFG, 0, 5, .rw, 0⟩
  | .HK_DET_CFG_kind => ⟨.HK_DET_CFG, 5, 2, .rw, 0⟩
  | .HK_DET_CFG_alm_en => ⟨.HK_DET_CFG, 7, 1, .rw, 0⟩
  | .HK_DET_CFG_window => ⟨.HK_DET_CFG, 8, 16, .rw, 1⟩
  | .HK_DET_CFG_decay => ⟨.HK_DET_CFG, 24, 4, .rw, 0⟩
  | .HK_DET_CFG_in_alarm => ⟨.HK_DET_CFG, 28, 1, .ro, 0⟩
  | .HK_DET_HI_hi => ⟨.HK_DET_HI, 0, 32, .rw, 2147483647⟩
  | .HK_DET_LO_lo => ⟨.HK_DET_LO, 0, 32, .rw, 2147483648⟩
  | .HK_DET_VAL_result => ⟨.HK_DET_VAL, 0, 32, .ro, 0⟩
  | .HK_AOUT_CTRL_code => ⟨.HK_AOUT_CTRL, 0, 16, .rw, 0⟩
  | .HK_AOUT_CTRL_en => ⟨.HK_AOUT_CTRL, 16, 1, .rw, 0⟩
  | .HK_AOUT_CTRL_ref_sel => ⟨.HK_AOUT_CTRL, 17, 1, .rw, 0⟩
  | .HK_AOUT_STATUS_driving => ⟨.HK_AOUT_STATUS, 0, 1, .ro, 0⟩
  | .HK_AOUT_STATUS_ilim => ⟨.HK_AOUT_STATUS, 1, 1, .ro, 0⟩
  | .HK_AOUT_STATUS_ov => ⟨.HK_AOUT_STATUS, 2, 1, .ro, 0⟩
  | .HK_AOUT_STATUS_wired => ⟨.HK_AOUT_STATUS, 3, 1, .ro, 0⟩
  | .HK_AOUT_STATUS_wired_with => ⟨.HK_AOUT_STATUS, 4, 2, .ro, 0⟩
  | .HK_ALM_CTRL_alm_force => ⟨.HK_ALM_CTRL, 0, 1, .rw, 0⟩
  | .HK_ALM_CTRL_alm_asserted => ⟨.HK_ALM_CTRL, 1, 1, .ro, 0⟩
  | .HK_ALM_CTRL_alm_short => ⟨.HK_ALM_CTRL, 2, 1, .ro, 0⟩
  | .HK_ALM_CTRL_alm_stuck => ⟨.HK_ALM_CTRL, 3, 1, .ro, 0⟩
  | .HK_I3C_CTRL_i3c_en => ⟨.HK_I3C_CTRL, 0, 1, .rw, 0⟩
  | .HK_I3C_CTRL_rescan => ⟨.HK_I3C_CTRL, 1, 1, .w1s, 0⟩
  | .HK_I3C_CTRL_hj_en => ⟨.HK_I3C_CTRL, 2, 1, .rw, 1⟩
  | .HK_I3C_STATUS_disc_state => ⟨.HK_I3C_STATUS, 0, 3, .ro, 0⟩
  | .HK_I3C_STATUS_restarts => ⟨.HK_I3C_STATUS, 3, 4, .ro, 0⟩
  | .HK_I3C_STATUS_present_mask => ⟨.HK_I3C_STATUS, 8, 16, .ro, 0⟩
  | .HK_I3C_TGT_PID_LO_pid_lo => ⟨.HK_I3C_TGT_PID_LO, 0, 32, .ro, 0⟩
  | .HK_I3C_TGT_PID_HI_pid_hi => ⟨.HK_I3C_TGT_PID_HI, 0, 16, .ro, 0⟩
  | .HK_I3C_TGT_PID_HI_bcr => ⟨.HK_I3C_TGT_PID_HI, 16, 8, .ro, 0⟩
  | .HK_I3C_TGT_PID_HI_dcr => ⟨.HK_I3C_TGT_PID_HI, 24, 8, .ro, 0⟩
  | .HK_I3C_TGT_INFO_addr => ⟨.HK_I3C_TGT_INFO, 0, 7, .ro, 0⟩
  | .HK_I3C_TGT_INFO_present => ⟨.HK_I3C_TGT_INFO, 7, 1, .ro, 0⟩
  | .HK_I3C_TGT_INFO_gen => ⟨.HK_I3C_TGT_INFO, 8, 8, .ro, 0⟩
  | .HK_LIN_y => ⟨.HK_LIN, 0, 32, .rw, 0⟩
  | .CAL_CTRL_bg_en => ⟨.CAL_CTRL, 0, 1, .rw, 1⟩
  | .CAL_CTRL_pilot_en => ⟨.CAL_CTRL, 1, 1, .rw, 1⟩
  | .CAL_CTRL_cal_force => ⟨.CAL_CTRL, 2, 1, .w1s, 0⟩
  | .CAL_CTRL_pilot_wait => ⟨.CAL_CTRL, 8, 8, .rw, 30⟩
  | .CAL_EV_reject => ⟨.CAL_EV, 0, 1, .w1c, 0⟩
  | .CAL_EV_stuck => ⟨.CAL_EV, 1, 1, .w1c, 0⟩
  | .CAL_EV_ref_fault => ⟨.CAL_EV, 2, 1, .w1c, 0⟩
  | .CAL_EV_pilot_req => ⟨.CAL_EV, 3, 1, .w1c, 0⟩
  | .CAL_EV_pilot_fail => ⟨.CAL_EV, 4, 1, .w1c, 0⟩
  | .CAL_EV_est_stuck => ⟨.CAL_EV, 5, 1, .w1c, 0⟩
  | .CAL_EV_force_done => ⟨.CAL_EV, 6, 1, .w1c, 0⟩
  | .CAL_LAST_REJ_item => ⟨.CAL_LAST_REJ, 0, 4, .ro, 0⟩
  | .CAL_LAST_REJ_engine => ⟨.CAL_LAST_REJ, 4, 2, .ro, 0⟩
  | .CAL_LAST_REJ_reason => ⟨.CAL_LAST_REJ, 6, 1, .ro, 0⟩
  | .CAL_LAST_REJ_index => ⟨.CAL_LAST_REJ, 8, 8, .ro, 0⟩
  | .CAL_LAST_REJ_run => ⟨.CAL_LAST_REJ, 16, 16, .ro, 0⟩
  | .CAL_ENG_STATUS_conv => ⟨.CAL_ENG_STATUS, 0, 8, .ro, 0⟩
  | .CAL_ENG_STATUS_stuck => ⟨.CAL_ENG_STATUS, 8, 8, .ro, 0⟩
  | .CAL_ENG_STATUS_pilot_tx => ⟨.CAL_ENG_STATUS, 16, 2, .ro, 0⟩
  | .CAL_ENG_STATUS_pilot_rx => ⟨.CAL_ENG_STATUS, 18, 2, .ro, 0⟩
  | .CAL_ENG_STATUS_requesting => ⟨.CAL_ENG_STATUS, 20, 1, .ro, 0⟩
  | .CAL_HK_STATUS_conv => ⟨.CAL_HK_STATUS, 0, 4, .ro, 0⟩
  | .CAL_HK_STATUS_stuck => ⟨.CAL_HK_STATUS, 4, 4, .ro, 0⟩
  | .CAL_HK_STATUS_ref_fault => ⟨.CAL_HK_STATUS, 8, 1, .ro, 0⟩
  | .CAL_HK_STATUS_ref_diff => ⟨.CAL_HK_STATUS, 16, 16, .ro, 0⟩
  | .PWR_STATUS_state => ⟨.PWR_STATUS, 0, 3, .ro, 0⟩
  | .PWR_STATUS_busy => ⟨.PWR_STATUS, 3, 1, .ro, 0⟩
  | .PWR_WAKE_CFG_line_mode => ⟨.PWR_WAKE_CFG, 0, 8, .rw, 0⟩
  | .PWR_WAKE_CFG_client_mode => ⟨.PWR_WAKE_CFG, 8, 2, .rw, 0⟩
  | .PWR_WAKE_CFG_pin_en => ⟨.PWR_WAKE_CFG, 10, 1, .rw, 1⟩
  | .PWR_WAKE_SRC_line => ⟨.PWR_WAKE_SRC, 0, 4, .w1c, 0⟩
  | .PWR_WAKE_SRC_client => ⟨.PWR_WAKE_SRC, 4, 1, .w1c, 0⟩
  | .PWR_WAKE_SRC_pin => ⟨.PWR_WAKE_SRC, 5, 1, .w1c, 0⟩
  | .PWR_WAKE_SRC_host => ⟨.PWR_WAKE_SRC, 6, 1, .w1c, 0⟩
  | .PWR_WAKE_SRC_rtc => ⟨.PWR_WAKE_SRC, 7, 1, .w1c, 0⟩
  | .PWR_WAKE_SRC_tamper => ⟨.PWR_WAKE_SRC, 8, 1, .w1c, 0⟩
  | .PWR_WAKE_SRC_port => ⟨.PWR_WAKE_SRC, 16, 6, .ro, 0⟩
  | .PWR_WAKE_TX_wake_eng => ⟨.PWR_WAKE_TX, 0, 4, .rw, 0⟩
  | .PWR_WAKE_TX_wake_port => ⟨.PWR_WAKE_TX, 4, 6, .rw, 0⟩
  | .PWR_WAKE_TX_wake_port_en => ⟨.PWR_WAKE_TX, 10, 1, .rw, 0⟩
  | .PWR_PAD_held => ⟨.PWR_PAD, 0, 6, .ro, 0⟩
  | .PWR_PAD_pad_release => ⟨.PWR_PAD, 8, 6, .w1s, 0⟩
  | .PWR_PAD_rel_early => ⟨.PWR_PAD, 14, 1, .w1c, 0⟩
  | .PWR_RAIL_rail_ok => ⟨.PWR_RAIL, 0, 7, .ro, 127⟩
  | .PWR_CEL_CTRL_tamper_en => ⟨.PWR_CEL_CTRL, 0, 1, .rw, 0⟩
  | .PWR_CEL_CTRL_tamper_wake => ⟨.PWR_CEL_CTRL, 1, 1, .rw, 0⟩
  | .PWR_CEL_CTRL_rtc_wake => ⟨.PWR_CEL_CTRL, 2, 1, .rw, 0⟩
  | .PWR_CEL_CTRL_cel_ack => ⟨.PWR_CEL_CTRL, 3, 1, .w1s, 0⟩
  | .PWR_CEL_STATUS_cel_busy => ⟨.PWR_CEL_STATUS, 0, 1, .ro, 0⟩
  | .PWR_CEL_STATUS_cel_valid => ⟨.PWR_CEL_STATUS, 1, 1, .ro, 0⟩
  | .PWR_CEL_STATUS_on_bat => ⟨.PWR_CEL_STATUS, 2, 1, .ro, 0⟩
  | .PWR_CEL_STATUS_rtc_wrap => ⟨.PWR_CEL_STATUS, 3, 1, .w1c, 0⟩
  | .PWR_CEL_STATUS_log_count => ⟨.PWR_CEL_STATUS, 4, 7, .ro, 0⟩
  | .PWR_CEL_STATUS_log_lost => ⟨.PWR_CEL_STATUS, 16, 8, .ro, 0⟩
  | .PWR_CEL_STATUS_vbat => ⟨.PWR_CEL_STATUS, 24, 8, .ro, 0⟩
  | .PWR_CEL_RTC_LO_rtc_lo => ⟨.PWR_CEL_RTC_LO, 0, 32, .ro, 0⟩
  | .PWR_CEL_RTC_HI_rtc_hi => ⟨.PWR_CEL_RTC_HI, 0, 15, .ro, 0⟩
  | .PWR_CEL_ALARM_LO_alarm_lo => ⟨.PWR_CEL_ALARM_LO, 0, 32, .rw, 0⟩
  | .PWR_CEL_ALARM_HI_alarm_hi => ⟨.PWR_CEL_ALARM_HI, 0, 15, .rw, 0⟩
  | .PWR_CEL_LOG_IDX_index => ⟨.PWR_CEL_LOG_IDX, 0, 6, .rw, 0⟩
  | .PWR_CEL_LOG_D_data => ⟨.PWR_CEL_LOG_D, 0, 32, .ro, 0⟩
  | .SEC_STATE_lc_state => ⟨.SEC_STATE, 0, 2, .ro, 0⟩
  | .SEC_STATE_dbg_level => ⟨.SEC_STATE, 2, 2, .ro, 0⟩
  | .SEC_STATE_dbg_port => ⟨.SEC_STATE, 4, 1, .ro, 0⟩
  | .SEC_STATE_host_priv => ⟨.SEC_STATE, 5, 1, .w1c, 0⟩
  | .SEC_STATE_boot_fail => ⟨.SEC_STATE, 6, 1, .ro, 0⟩
  | .SEC_STATE_kek_valid => ⟨.SEC_STATE, 7, 1, .ro, 0⟩
  | .SEC_STATE_rb_floor => ⟨.SEC_STATE, 8, 8, .ro, 0⟩
  | .SEC_STATE_session_s => ⟨.SEC_STATE, 16, 16, .ro, 0⟩
  | .SEC_LC_CTRL_lc_req => ⟨.SEC_LC_CTRL, 0, 2, .wo, 0⟩
  | .SEC_LC_CTRL_rb_raise => ⟨.SEC_LC_CTRL, 2, 1, .w1s, 0⟩
  | .SEC_LC_CTRL_lc_err => ⟨.SEC_LC_CTRL, 3, 1, .w1c, 0⟩
  | .SEC_TRAP_CTRL_submit => ⟨.SEC_TRAP_CTRL, 0, 1, .w1s, 0⟩
  | .SEC_TRAP_CTRL_close => ⟨.SEC_TRAP_CTRL, 1, 1, .w1s, 0⟩
  | .SEC_TRAP_CTRL_nonce_req => ⟨.SEC_TRAP_CTRL, 2, 1, .w1s, 0⟩
  | .SEC_TRAP_CTRL_busy => ⟨.SEC_TRAP_CTRL, 3, 1, .ro, 0⟩
  | .SEC_TRAP_CTRL_result => ⟨.SEC_TRAP_CTRL, 4, 4, .ro, 0⟩
  | .SEC_EV_trap_open => ⟨.SEC_EV, 0, 1, .w1c, 0⟩
  | .SEC_EV_trap_close => ⟨.SEC_EV, 1, 1, .w1c, 0⟩
  | .SEC_EV_trap_refused => ⟨.SEC_EV, 2, 1, .w1c, 0⟩
  | .SEC_EV_lc_change => ⟨.SEC_EV, 3, 1, .w1c, 0⟩
  | .SEC_EV_shelf_commit => ⟨.SEC_EV, 4, 1, .w1c, 0⟩
  | .SEC_EV_shelf_bad => ⟨.SEC_EV, 5, 1, .w1c, 0⟩
  | .SEC_EV_shelf_none => ⟨.SEC_EV, 6, 1, .w1c, 0⟩
  | .SEC_EV_boot_fail => ⟨.SEC_EV, 7, 1, .w1c, 0⟩
  | .SEC_EV_pair_key_fail => ⟨.SEC_EV, 8, 1, .w1c, 0⟩
  | .SEC_EV_tamper_purge => ⟨.SEC_EV, 9, 1, .w1c, 0⟩
  | .SEC_SHELF_STATUS_a_valid => ⟨.SEC_SHELF_STATUS, 0, 1, .ro, 0⟩
  | .SEC_SHELF_STATUS_b_valid => ⟨.SEC_SHELF_STATUS, 1, 1, .ro, 0⟩
  | .SEC_SHELF_STATUS_cur => ⟨.SEC_SHELF_STATUS, 2, 1, .ro, 0⟩
  | .SEC_SHELF_STATUS_none => ⟨.SEC_SHELF_STATUS, 3, 1, .ro, 0⟩
  | .SEC_SHELF_STATUS_staged => ⟨.SEC_SHELF_STATUS, 4, 1, .ro, 0⟩
  | .SEC_SHELF_STATUS_run_level => ⟨.SEC_SHELF_STATUS, 8, 8, .ro, 0⟩
  | .SEC_SHELF_STATUS_cur_schema => ⟨.SEC_SHELF_STATUS, 16, 8, .ro, 0⟩
  | .SEC_SHELF_SEQ_A_seq => ⟨.SEC_SHELF_SEQ_A, 0, 32, .ro, 0⟩
  | .SEC_SHELF_SEQ_B_seq => ⟨.SEC_SHELF_SEQ_B, 0, 32, .ro, 0⟩
  | .SEC_TRAP_NONCE_nonce => ⟨.SEC_TRAP_NONCE, 0, 32, .ro, 0⟩
  | .SEC_MEAS_meas => ⟨.SEC_MEAS, 0, 32, .ro, 0⟩
  | .SEC_TRAP_MBOX_data => ⟨.SEC_TRAP_MBOX, 0, 32, .rw, 0⟩
  | .SEC_IDPUB_pub => ⟨.SEC_IDPUB, 0, 32, .ro, 0⟩
  | .PERF_INV_CTRL_snap_now => ⟨.PERF_INV_CTRL, 0, 1, .w1s, 0⟩
  | .PERF_INV_CTRL_pm_snap_en => ⟨.PERF_INV_CTRL, 1, 1, .rw, 1⟩
  | .PERF_INV_CTRL_hk_flush => ⟨.PERF_INV_CTRL, 2, 6, .rw, 10⟩
  | .PERF_INV_CTRL_ev_limit => ⟨.PERF_INV_CTRL, 8, 8, .rw, 16⟩
  | .PERF_INV_CTRL_snap_period => ⟨.PERF_INV_CTRL, 16, 16, .rw, 0⟩
  | .PERF_TLM_CTRL_cnt_ring => ⟨.PERF_TLM_CTRL, 0, 16, .rw, 65535⟩
  | .PERF_TLM_CTRL_hk_ring => ⟨.PERF_TLM_CTRL, 16, 16, .rw, 65535⟩
  | .PERF_HK_MASK_hk_mask => ⟨.PERF_HK_MASK, 0, 32, .rw, 0⟩
  | .PERF_EVT_ROUTE_ring => ⟨.PERF_EVT_ROUTE, 0, 16, .rw, 0⟩
  | .PERF_EVT_ROUTE_en => ⟨.PERF_EVT_ROUTE, 16, 1, .rw, 0⟩
  | .PERF_EV_ev => ⟨.PERF_EV, 0, 14, .w1c, 0⟩
  | .PERF_CNT_SEL_index => ⟨.PERF_CNT_SEL, 0, 10, .rw, 0⟩
  | .PERF_CNT_LO_value_lo => ⟨.PERF_CNT_LO, 0, 32, .ro, 0⟩
  | .PERF_CNT_HI_value_hi => ⟨.PERF_CNT_HI, 0, 16, .ro, 0⟩
  | .PERF_CNT_HI_wrap_cnt => ⟨.PERF_CNT_HI, 16, 2, .ro, 0⟩
  | .PERF_CNT_HI_valid => ⟨.PERF_CNT_HI, 18, 1, .ro, 0⟩
  | .PERF_WRAP_wrap => ⟨.PERF_WRAP, 0, 32, .w1c, 0⟩
  | .SYS_ID_part_code => ⟨.SYS_ID, 0, 8, .ro, 0⟩
  | .SYS_ID_engines => ⟨.SYS_ID, 8, 4, .ro, 0⟩
  | .SYS_ID_stepping => ⟨.SYS_ID, 12, 4, .ro, 0⟩
  | .SYS_ID_family => ⟨.SYS_ID, 16, 16, .ro, 24176⟩
  | .SYS_DEVID_LO_devid_lo => ⟨.SYS_DEVID_LO, 0, 32, .ro, 0⟩
  | .SYS_DEVID_HI_devid_hi => ⟨.SYS_DEVID_HI, 0, 32, .ro, 0⟩
  | .SYS_FW_fw_version => ⟨.SYS_FW, 0, 16, .ro, 0⟩
  | .SYS_FW_fw_bank => ⟨.SYS_FW, 16, 1, .ro, 0⟩
  | .SYS_MODE_mode => ⟨.SYS_MODE, 0, 4, .ro, 0⟩
  | .SYS_MODE_role => ⟨.SYS_MODE, 4, 2, .ro, 0⟩
  | .SYS_MODE_busy => ⟨.SYS_MODE, 6, 1, .ro, 0⟩
  | .SYS_MODE_last_tag => ⟨.SYS_MODE, 16, 16, .ro, 0⟩
  | .SYS_RESET_warm => ⟨.SYS_RESET, 0, 1, .w1s, 0⟩
  | .SYS_RESET_eng_rst => ⟨.SYS_RESET, 4, 4, .w1s, 0⟩
  | .SYS_RST_STATUS_boot_ready => ⟨.SYS_RST_STATUS, 0, 1, .ro, 0⟩
  | .SYS_RST_STATUS_por => ⟨.SYS_RST_STATUS, 1, 1, .w1c, 1⟩
  | .SYS_RST_STATUS_pin => ⟨.SYS_RST_STATUS, 2, 1, .w1c, 0⟩
  | .SYS_RST_STATUS_sw_warm => ⟨.SYS_RST_STATUS, 3, 1, .w1c, 0⟩
  | .SYS_IRQ_STATUS_blk => ⟨.SYS_IRQ_STATUS, 0, 11, .ro, 0⟩
  | .SYS_IRQ_STATUS_ciph => ⟨.SYS_IRQ_STATUS, 12, 1, .ro, 0⟩
  | .SYS_IRQ_STATUS_eng => ⟨.SYS_IRQ_STATUS, 16, 4, .ro, 0⟩
  | .SYS_IRQ_MASK_en => ⟨.SYS_IRQ_MASK, 0, 20, .rw, 0⟩
  | .SYS_EV_mode_chg => ⟨.SYS_EV, 0, 1, .w1c, 0⟩
  | .SYS_EV_rst_refused => ⟨.SYS_EV, 1, 1, .w1c, 0⟩
  | .SYS_EV_priv_drop => ⟨.SYS_EV, 2, 1, .w1c, 0⟩
  | .SYS_SCRATCH_scratch => ⟨.SYS_SCRATCH, 0, 32, .rw, 0⟩

/-- The named fields of a register, low bit first. -/
def Rg.fields : Rg → List Fld
  | .LE_PROFILE => [.LE_PROFILE_prof_staged, .LE_PROFILE_prof_active, .LE_PROFILE_rate_active]
  | .LE_TX_CTRL => [.LE_TX_CTRL_rolloff, .LE_TX_CTRL_preemph_en, .LE_TX_CTRL_tx_mute, .LE_TX_CTRL_tx_active, .LE_TX_CTRL_lb_mode]
  | .LE_CDC_CTRL => [.LE_CDC_CTRL_cd_mode, .LE_CDC_CTRL_cd_window, .LE_CDC_CTRL_cd_hint]
  | .LE_EQ_CR_CTRL => [.LE_EQ_CR_CTRL_mu_acq, .LE_EQ_CR_CTRL_mu_trk, .LE_EQ_CR_CTRL_freeze, .LE_EQ_CR_CTRL_cpr_bw, .LE_EQ_CR_CTRL_fo_range]
  | .LE_SIG_THR => [.LE_SIG_THR_sig_on, .LE_SIG_THR_sig_off, .LE_SIG_THR_snr_unlock]
  | .LE_STATUS => [.LE_STATUS_acq_state, .LE_STATUS_sig_present, .LE_STATUS_dsp_lock, .LE_STATUS_cd_hint_err, .LE_STATUS_est_converged, .LE_STATUS_pilot_on, .LE_STATUS_clip]
  | .LE_STATUS_EV => [.LE_STATUS_EV_lock_gained, .LE_STATUS_EV_lock_lost, .LE_STATUS_EV_sig_lost, .LE_STATUS_EV_clip_seen, .LE_STATUS_EV_acq_fail]
  | .LE_CD_EST => [.LE_CD_EST_cd_est, .LE_CD_EST_cd_valid]
  | .LE_FO_EST => [.LE_FO_EST_fo_est, .LE_FO_EST_dgd_est, .LE_FO_EST_fo_valid]
  | .LE_MARGIN => [.LE_MARGIN_snr_margin, .LE_MARGIN_gmi_margin, .LE_MARGIN_margin_valid]
  | .LE_SNR => [.LE_SNR_snr_est, .LE_SNR_snr_req]
  | .LE_FEC_CTRL => [.LE_FEC_CTRL_rate_staged, .LE_FEC_CTRL_rate_active, .LE_FEC_CTRL_fec_test, .LE_FEC_CTRL_iter_max, .LE_FEC_CTRL_unc_set]
  | .LE_FEC_STATUS => [.LE_FEC_STATUS_fec_excess, .LE_FEC_STATUS_test_sync, .LE_FEC_STATUS_decoding]
  | .LE_FEC_EV => [.LE_FEC_EV_excess_set, .LE_FEC_EV_excess_clr, .LE_FEC_EV_unc_seen, .LE_FEC_EV_test_err_seen]
  | .LE_FEC_WIN0 => [.LE_FEC_WIN0_ber_pre, .LE_FEC_WIN0_iter_mean, .LE_FEC_WIN0_fec_valid]
  | .LE_FEC_WIN1 => [.LE_FEC_WIN1_inner_unsolved, .LE_FEC_WIN1_iter_peak]
  | .LE_FEC_WIN2 => [.LE_FEC_WIN2_unc_cw]
  | .LE_FEC_WIN3 => [.LE_FEC_WIN3_outer_corr]
  | .LE_FEC_TEST => [.LE_FEC_TEST_test_err]
  | .LE_FRM_CTRL => [.LE_FRM_CTRL_fmt_max, .LE_FRM_CTRL_ohb_gcc_en, .LE_FRM_CTRL_ohb_mfc_en, .LE_FRM_CTRL_force_ais, .LE_FRM_CTRL_force_rdi]
  | .LE_FRM_STATUS => [.LE_FRM_STATUS_in_frame, .LE_FRM_STATUS_dlos, .LE_FRM_STATUS_dlof, .LE_FRM_STATUS_dais, .LE_FRM_STATUS_drdi, .LE_FRM_STATUS_dbdeg, .LE_FRM_STATUS_fmt_far, .LE_FRM_STATUS_fmt_tx, .LE_FRM_STATUS_rate_rx]
  | .LE_FRM_EV => [.LE_FRM_EV_defect_chg, .LE_FRM_EV_mk_mismatch, .LE_FRM_EV_fmt_limit, .LE_FRM_EV_prot_ack_lost, .LE_FRM_EV_prot_conflict, .LE_FRM_EV_gcc_drop]
  | .LE_FRM_OHB => [.LE_FRM_OHB_ohb_len]
  | .LE_PM_BIP => [.LE_PM_BIP_bip_err]
  | .LE_PM_BEI => [.LE_PM_BEI_bei_err]
  | .LE_PM_EB => [.LE_PM_EB_eb]
  | .LE_PM_FEB => [.LE_PM_FEB_feb]
  | .LE_PM_SEC => [.LE_PM_SEC_es, .LE_PM_SEC_ses, .LE_PM_SEC_fes, .LE_PM_SEC_fses, .LE_PM_SEC_uas, .LE_PM_SEC_uas_edge, .LE_PM_SEC_irregular, .LE_PM_SEC_traceable, .LE_PM_SEC_defect_sec, .LE_PM_SEC_pm_seq]
  | .LE_PM_LEN => [.LE_PM_LEN_pm_len]
  | .PERF_PM_SYNC => [.PERF_PM_SYNC_pm_sync_en, .PERF_PM_SYNC_pm_sync_refused, .PERF_PM_SYNC_pm_sync_ignored]
  | .PERF_PM_OFFSET => [.PERF_PM_OFFSET_pm_offset]
  | .CLI_PORT_CFG => [.CLI_PORT_CFG_type_staged, .CLI_PORT_CFG_width, .CLI_PORT_CFG_lane_mode, .CLI_PORT_CFG_flexe_head, .CLI_PORT_CFG_type_active]
  | .CLI_PORT_ODU_RATE => [.CLI_PORT_ODU_RATE_odu_rate]
  | .CLI_PORT_STATUS => [.CLI_PORT_STATUS_rx_sig, .CLI_PORT_STATUS_rx_lock, .CLI_PORT_STATUS_rx_hiber, .CLI_PORT_STATUS_rx_lf, .CLI_PORT_STATUS_rx_rf, .CLI_PORT_STATUS_fx_ok, .CLI_PORT_STATUS_tx_on]
  | .FAB_POOL_STATUS => [.FAB_POOL_STATUS_bins_free]
  | .FAB_EV => [.FAB_EV_trib_stale, .FAB_EV_skew_chg, .FAB_EV_align_lost, .FAB_EV_eth_oversize, .FAB_EV_gmp_loss, .FAB_EV_frame_drop, .FAB_EV_alloc_refused]
  | .FAB_GRP_CTRL => [.FAB_GRP_CTRL_bins_req, .FAB_GRP_CTRL_member_mask, .FAB_GRP_CTRL_grp_gen]
  | .FAB_GRP_STATUS => [.FAB_GRP_STATUS_bins_held, .FAB_GRP_STATUS_alloc_err, .FAB_GRP_STATUS_dskew, .FAB_GRP_STATUS_aligned, .FAB_GRP_STATUS_skew_meas]
  | .FAB_TRIB_CFG => [.FAB_TRIB_CFG_src_kind, .FAB_TRIB_CFG_src_port, .FAB_TRIB_CFG_fx_client_id, .FAB_TRIB_CFG_carrier]
  | .FAB_TRIB_STATUS => [.FAB_TRIB_STATUS_slots_req, .FAB_TRIB_STATUS_trib_gen, .FAB_TRIB_STATUS_active, .FAB_TRIB_STATUS_sf, .FAB_TRIB_STATUS_sd, .FAB_TRIB_STATUS_adapt_ok]
  | .PLACE_CTRL => [.PLACE_CTRL_step_en, .PLACE_CTRL_shed_en, .PLACE_CTRL_chan_timeout]
  | .PLACE_STEP_THR => [.PLACE_STEP_THR_dn_thr, .PLACE_STEP_THR_up_thr, .PLACE_STEP_THR_dn_dwell]
  | .PLACE_STEP_TIME => [.PLACE_STEP_TIME_up_dwell, .PLACE_STEP_TIME_hold]
  | .PLACE_GUARD => [.PLACE_GUARD_ber_guard, .PLACE_GUARD_iter_guard]
  | .PLACE_EV => [.PLACE_EV_refused, .PLACE_EV_shed, .PLACE_EV_step, .PLACE_EV_step_blocked, .PLACE_EV_floor, .PLACE_EV_resync, .PLACE_EV_chan_lost, .PLACE_EV_timeout, .PLACE_EV_range, .PLACE_EV_mirror_diff]
  | .PLACE_ENG_STATUS => [.PLACE_ENG_STATUS_tx_gen, .PLACE_ENG_STATUS_sw_state, .PLACE_ENG_STATUS_chan_up, .PLACE_ENG_STATUS_tx_rate, .PLACE_ENG_STATUS_pin_cause]
  | .PLACE_ENG_RX => [.PLACE_ENG_RX_rx_gen, .PLACE_ENG_RX_ready_gen, .PLACE_ENG_RX_ready_valid, .PLACE_ENG_RX_rx_mismatch]
  | .PLACE_TRIB_POL => [.PLACE_TRIB_POL_pin_mode, .PLACE_TRIB_POL_grp_en, .PLACE_TRIB_POL_eng_mask, .PLACE_TRIB_POL_prio, .PLACE_TRIB_POL_div_tag, .PLACE_TRIB_POL_pin_slot, .PLACE_TRIB_POL_grp]
  | .PLACE_TRIB_STATUS => [.PLACE_TRIB_STATUS_place_state, .PLACE_TRIB_STATUS_cause, .PLACE_TRIB_STATUS_eng_used, .PLACE_TRIB_STATUS_slots_held]
  | .PAIR_CTRL => [.PAIR_CTRL_pair_en, .PAIR_CTRL_tx_suspect_en, .PAIR_CTRL_lane_en]
  | .PAIR_STATUS => [.PAIR_STATUS_link_state, .PAIR_STATUS_peer_alive, .PAIR_STATUS_ready, .PAIR_STATUS_faulted, .PAIR_STATUS_lockout, .PAIR_STATUS_refuse_cause, .PAIR_STATUS_lanes_up, .PAIR_STATUS_bridged_slots]
  | .PAIR_LEVEL => [.PAIR_LEVEL_fl_run, .PAIR_LEVEL_fl_floor, .PAIR_LEVEL_peer_fl_run, .PAIR_LEVEL_fl_agreed]
  | .PAIR_EV => [.PAIR_EV_hb_lost, .PAIR_EV_link_down, .PAIR_EV_alive_fault, .PAIR_EV_takeover, .PAIR_EV_refused, .PAIR_EV_mirror_fail, .PAIR_EV_bridge_drop, .PAIR_EV_sel, .PAIR_EV_unprot_fault, .PAIR_EV_far_switched, .PAIR_EV_far_unprot]
  | .PAIR_MATCH => [.PAIR_MATCH_df]
  | .PAIR_SKEW => [.PAIR_SKEW_sfm_skew]
  | .PAIR_BRIDGE => [.PAIR_BRIDGE_trib, .PAIR_BRIDGE_tap, .PAIR_BRIDGE_en, .PAIR_BRIDGE_admitted, .PAIR_BRIDGE_selected]
  | .TIM_SEL_CTRL => [.TIM_SEL_CTRL_revertive, .TIM_SEL_CTRL_wtr, .TIM_SEL_CTRL_hold_limit]
  | .TIM_REF_CFG => [.TIM_REF_CFG_prio, .TIM_REF_CFG_qual_sw, .TIM_REF_CFG_use_adv, .TIM_REF_CFG_pps_en, .TIM_REF_CFG_freq_code, .TIM_REF_CFG_src_port, .TIM_REF_CFG_in_delay]
  | .TIM_REF_STATUS => [.TIM_REF_STATUS_qualified, .TIM_REF_STATUS_wtr_run, .TIM_REF_STATUS_qual_eff, .TIM_REF_STATUS_fail, .TIM_REF_STATUS_offset]
  | .TIM_DPLL0_CTRL => [.TIM_DPLL0_CTRL_loop_open, .TIM_DPLL0_CTRL_fbw, .TIM_DPLL0_CTRL_tbw, .TIM_DPLL0_CTRL_lock_thr, .TIM_DPLL0_CTRL_step_thr]
  | .TIM_DPLL0_FWORD => [.TIM_DPLL0_FWORD_fword]
  | .TIM_DPLL0_STATUS => [.TIM_DPLL0_STATUS_d0_state, .TIM_DPLL0_STATUS_freq_src, .TIM_DPLL0_STATUS_time_src, .TIM_DPLL0_STATUS_tod_trace, .TIM_DPLL0_STATUS_model_ready, .TIM_DPLL0_STATUS_time_err]
  | .TIM_DPLL_CTRL => [.TIM_DPLL_CTRL_ref_sel, .TIM_DPLL_CTRL_en, .TIM_DPLL_CTRL_fbw]
  | .TIM_DPLL_PSTEP => [.TIM_DPLL_PSTEP_pstep]
  | .TIM_DPLL_STATUS => [.TIM_DPLL_STATUS_dk_state, .TIM_DPLL_STATUS_step_busy]
  | .TIM_TOD_SEC_HI => [.TIM_TOD_SEC_HI_sec_hi, .TIM_TOD_SEC_HI_tod_set]
  | .TIM_TOD_SEC_LO => [.TIM_TOD_SEC_LO_sec_lo]
  | .TIM_TOD_NS => [.TIM_TOD_NS_ns]
  | .TIM_TT_CTRL => [.TIM_TT_CTRL_tt_engine, .TIM_TT_CTRL_tt_en, .TIM_TT_CTRL_asym_fixed]
  | .TIM_TT_THETA => [.TIM_TT_THETA_theta]
  | .TIM_TT_DTAU => [.TIM_TT_DTAU_dtau]
  | .TIM_TT_STATUS => [.TIM_TT_STATUS_tt_rx_ok, .TIM_TT_STATUS_cd_hold, .TIM_TT_STATUS_far_qual, .TIM_TT_STATUS_far_trace, .TIM_TT_STATUS_samples]
  | .TIM_TT_CFG => [.TIM_TT_CFG_tx_ext, .TIM_TT_CFG_rx_ext]
  | .TIM_TT_NU => [.TIM_TT_NU_nu_tx]
  | .TIM_EV => [.TIM_EV_ref_chg, .TIM_EV_sel_chg, .TIM_EV_tod_step, .TIM_EV_tod_wrap, .TIM_EV_hold_enter, .TIM_EV_hold_expired, .TIM_EV_tx_clamp, .TIM_EV_priv_drop, .TIM_EV_tt_lost]
  | .TIM_PORT_DPLL => [.TIM_PORT_DPLL_port_dpll0, .TIM_PORT_DPLL_port_dpll1, .TIM_PORT_DPLL_port_dpll2, .TIM_PORT_DPLL_port_dpll3, .TIM_PORT_DPLL_port_dpll4, .TIM_PORT_DPLL_port_dpll5, .TIM_PORT_DPLL_port_dpll6, .TIM_PORT_DPLL_port_dpll7]
  | .CIPH_ENG_CTRL => [.CIPH_ENG_CTRL_use_staged, .CIPH_ENG_CTRL_use_active, .CIPH_ENG_CTRL_end_sel, .CIPH_ENG_CTRL_kp_flip, .CIPH_ENG_CTRL_kp_pend, .CIPH_ENG_CTRL_tx_kp, .CIPH_ENG_CTRL_rx_kp, .CIPH_ENG_CTRL_mb, .CIPH_ENG_CTRL_auth_set, .CIPH_ENG_CTRL_auth_clr]
  | .CIPH_ENG_DAUTH_LO => [.CIPH_ENG_DAUTH_LO_dauth_lo]
  | .CIPH_ENG_DAUTH_HI => [.CIPH_ENG_DAUTH_HI_dauth_hi]
  | .CIPH_EV => [.CIPH_EV_auth_set, .CIPH_EV_auth_clr, .CIPH_EV_kp_refused, .CIPH_EV_end_clash, .CIPH_EV_ent_fail, .CIPH_EV_halted, .CIPH_EV_halt_seen]
  | .CIPH_TRIBMAP => [.CIPH_TRIBMAP_locker0, .CIPH_TRIBMAP_bind_en0, .CIPH_TRIBMAP_locker1, .CIPH_TRIBMAP_bind_en1, .CIPH_TRIBMAP_locker2, .CIPH_TRIBMAP_bind_en2, .CIPH_TRIBMAP_locker3, .CIPH_TRIBMAP_bind_en3]
  | .CIPH_LOCK_CTRL => [.CIPH_LOCK_CTRL_lock_en, .CIPH_LOCK_CTRL_key_ring]
  | .CIPH_LOCK_STATUS => [.CIPH_LOCK_STATUS_lgen, .CIPH_LOCK_STATUS_cur_phase, .CIPH_LOCK_STATUS_cur_valid, .CIPH_LOCK_STATUS_nxt_valid, .CIPH_LOCK_STATUS_cur_kgen, .CIPH_LOCK_STATUS_nxt_kgen]
  | .HOST_RCTX_BASE_LO => [.HOST_RCTX_BASE_LO_base_lo]
  | .HOST_RCTX_BASE_HI => [.HOST_RCTX_BASE_HI_base_hi]
  | .HOST_RCTX_CFG => [.HOST_RCTX_CFG_en, .HOST_RCTX_CFG_kind, .HOST_RCTX_CFG_class, .HOST_RCTX_CFG_log2size, .HOST_RCTX_CFG_priv, .HOST_RCTX_CFG_gen]
  | .HOST_RCTX_LINK => [.HOST_RCTX_LINK_cq]
  | .HOST_RCTX_IRQ => [.HOST_RCTX_IRQ_vector, .HOST_RCTX_IRQ_mod_cnt, .HOST_RCTX_IRQ_mod_time]
  | .HOST_RCTX_STATE => [.HOST_RCTX_STATE_state, .HOST_RCTX_STATE_err]
  | .HOST_RCTX_IDX => [.HOST_RCTX_IDX_host_idx, .HOST_RCTX_IDX_dev_idx]
  | .HOST_LINK => [.HOST_LINK_speed, .HOST_LINK_width, .HOST_LINK_flit, .HOST_LINK_link_up]
  | .HOST_EV => [.HOST_EV_db_bad, .HOST_EV_ring_err, .HOST_EV_evt_drop, .HOST_EV_stale_cpl, .HOST_EV_ctx_bad, .HOST_EV_link_down, .HOST_EV_acc_bad]
  | .HOST_OHB_BIND => [.HOST_OHB_BIND_tx_ring, .HOST_OHB_BIND_rx_ring]
  | .HK_CTRL => [.HK_CTRL_seq_loop, .HK_CTRL_seq_go, .HK_CTRL_inj_go, .HK_CTRL_sync_now, .HK_CTRL_seq_stop, .HK_CTRL_compat_en, .HK_CTRL_start_pin_en, .HK_CTRL_urg_pin_en, .HK_CTRL_sync_pin_en, .HK_CTRL_reg_len, .HK_CTRL_inj_len]
  | .HK_STATUS => [.HK_STATUS_seq_run, .HK_STATUS_inj_run, .HK_STATUS_cur_slot, .HK_STATUS_idle, .HK_STATUS_continuous]
  | .HK_EV => [.HK_EV_start_ign, .HK_EV_urg_ign, .HK_EV_sync_seen, .HK_EV_clamp_seen, .HK_EV_exc_fault, .HK_EV_aout_fault, .HK_EV_alm_fault, .HK_EV_det_alarm, .HK_EV_lin_done, .HK_EV_i3c_done, .HK_EV_i3c_leave, .HK_EV_i3c_fail, .HK_EV_i3c_full]
  | .HK_CH_CFG => [.HK_CH_CFG_en, .HK_CH_CFG_in_mode, .HK_CH_CFG_gain, .HK_CH_CFG_exc_mode, .HK_CH_CFG_exc_level, .HK_CH_CFG_chg_cap, .HK_CH_CFG_chg_rst_len, .HK_CH_CFG_chg_rst, .HK_CH_CFG_lin_en, .HK_CH_CFG_lin_commit]
  | .HK_CH_FLT => [.HK_CH_FLT_order, .HK_CH_FLT_dec, .HK_CH_FLT_avg_m, .HK_CH_FLT_settle_ext]
  | .HK_CH_DITH => [.HK_CH_DITH_dith_freq, .HK_CH_DITH_dith_dec, .HK_CH_DITH_dith_en, .HK_CH_DITH_dith_bad]
  | .HK_CH_RAW => [.HK_CH_RAW_code, .HK_CH_RAW_settling, .HK_CH_RAW_clamp, .HK_CH_RAW_chg_rst, .HK_CH_RAW_exc, .HK_CH_RAW_inj, .HK_CH_RAW_seq]
  | .HK_CH_VAL => [.HK_CH_VAL_value]
  | .HK_CH_DITH_I => [.HK_CH_DITH_I_dith_i]
  | .HK_CH_DITH_Q => [.HK_CH_DITH_Q_dith_q]
  | .HK_CH_STATUS => [.HK_CH_STATUS_clamp_live, .HK_CH_STATUS_exc_fault, .HK_CH_STATUS_rst_closed, .HK_CH_STATUS_exc_meas]
  | .HK_SEQ => [.HK_SEQ_chan, .HK_SEQ_count]
  | .HK_INJ => [.HK_INJ_chan, .HK_INJ_count]
  | .HK_DET_CFG => [.HK_DET_CFG_chan, .HK_DET_CFG_kind, .HK_DET_CFG_alm_en, .HK_DET_CFG_window, .HK_DET_CFG_decay, .HK_DET_CFG_in_alarm]
  | .HK_DET_HI => [.HK_DET_HI_hi]
  | .HK_DET_LO => [.HK_DET_LO_lo]
  | .HK_DET_VAL => [.HK_DET_VAL_result]
  | .HK_AOUT_CTRL => [.HK_AOUT_CTRL_code, .HK_AOUT_CTRL_en, .HK_AOUT_CTRL_ref_sel]
  | .HK_AOUT_STATUS => [.HK_AOUT_STATUS_driving, .HK_AOUT_STATUS_ilim, .HK_AOUT_STATUS_ov, .HK_AOUT_STATUS_wired, .HK_AOUT_STATUS_wired_with]
  | .HK_ALM_CTRL => [.HK_ALM_CTRL_alm_force, .HK_ALM_CTRL_alm_asserted, .HK_ALM_CTRL_alm_short, .HK_ALM_CTRL_alm_stuck]
  | .HK_I3C_CTRL => [.HK_I3C_CTRL_i3c_en, .HK_I3C_CTRL_rescan, .HK_I3C_CTRL_hj_en]
  | .HK_I3C_STATUS => [.HK_I3C_STATUS_disc_state, .HK_I3C_STATUS_restarts, .HK_I3C_STATUS_present_mask]
  | .HK_I3C_TGT_PID_LO => [.HK_I3C_TGT_PID_LO_pid_lo]
  | .HK_I3C_TGT_PID_HI => [.HK_I3C_TGT_PID_HI_pid_hi, .HK_I3C_TGT_PID_HI_bcr, .HK_I3C_TGT_PID_HI_dcr]
  | .HK_I3C_TGT_INFO => [.HK_I3C_TGT_INFO_addr, .HK_I3C_TGT_INFO_present, .HK_I3C_TGT_INFO_gen]
  | .HK_LIN => [.HK_LIN_y]
  | .CAL_CTRL => [.CAL_CTRL_bg_en, .CAL_CTRL_pilot_en, .CAL_CTRL_cal_force, .CAL_CTRL_pilot_wait]
  | .CAL_EV => [.CAL_EV_reject, .CAL_EV_stuck, .CAL_EV_ref_fault, .CAL_EV_pilot_req, .CAL_EV_pilot_fail, .CAL_EV_est_stuck, .CAL_EV_force_done]
  | .CAL_LAST_REJ => [.CAL_LAST_REJ_item, .CAL_LAST_REJ_engine, .CAL_LAST_REJ_reason, .CAL_LAST_REJ_index, .CAL_LAST_REJ_run]
  | .CAL_ENG_STATUS => [.CAL_ENG_STATUS_conv, .CAL_ENG_STATUS_stuck, .CAL_ENG_STATUS_pilot_tx, .CAL_ENG_STATUS_pilot_rx, .CAL_ENG_STATUS_requesting]
  | .CAL_HK_STATUS => [.CAL_HK_STATUS_conv, .CAL_HK_STATUS_stuck, .CAL_HK_STATUS_ref_fault, .CAL_HK_STATUS_ref_diff]
  | .PWR_STATUS => [.PWR_STATUS_state, .PWR_STATUS_busy]
  | .PWR_WAKE_CFG => [.PWR_WAKE_CFG_line_mode, .PWR_WAKE_CFG_client_mode, .PWR_WAKE_CFG_pin_en]
  | .PWR_WAKE_SRC => [.PWR_WAKE_SRC_line, .PWR_WAKE_SRC_client, .PWR_WAKE_SRC_pin, .PWR_WAKE_SRC_host, .PWR_WAKE_SRC_rtc, .PWR_WAKE_SRC_tamper, .PWR_WAKE_SRC_port]
  | .PWR_WAKE_TX => [.PWR_WAKE_TX_wake_eng, .PWR_WAKE_TX_wake_port, .PWR_WAKE_TX_wake_port_en]
  | .PWR_PAD => [.PWR_PAD_held, .PWR_PAD_pad_release, .PWR_PAD_rel_early]
  | .PWR_RAIL => [.PWR_RAIL_rail_ok]
  | .PWR_CEL_CTRL => [.PWR_CEL_CTRL_tamper_en, .PWR_CEL_CTRL_tamper_wake, .PWR_CEL_CTRL_rtc_wake, .PWR_CEL_CTRL_cel_ack]
  | .PWR_CEL_STATUS => [.PWR_CEL_STATUS_cel_busy, .PWR_CEL_STATUS_cel_valid, .PWR_CEL_STATUS_on_bat, .PWR_CEL_STATUS_rtc_wrap, .PWR_CEL_STATUS_log_count, .PWR_CEL_STATUS_log_lost, .PWR_CEL_STATUS_vbat]
  | .PWR_CEL_RTC_LO => [.PWR_CEL_RTC_LO_rtc_lo]
  | .PWR_CEL_RTC_HI => [.PWR_CEL_RTC_HI_rtc_hi]
  | .PWR_CEL_ALARM_LO => [.PWR_CEL_ALARM_LO_alarm_lo]
  | .PWR_CEL_ALARM_HI => [.PWR_CEL_ALARM_HI_alarm_hi]
  | .PWR_CEL_LOG_IDX => [.PWR_CEL_LOG_IDX_index]
  | .PWR_CEL_LOG_D => [.PWR_CEL_LOG_D_data]
  | .SEC_STATE => [.SEC_STATE_lc_state, .SEC_STATE_dbg_level, .SEC_STATE_dbg_port, .SEC_STATE_host_priv, .SEC_STATE_boot_fail, .SEC_STATE_kek_valid, .SEC_STATE_rb_floor, .SEC_STATE_session_s]
  | .SEC_LC_CTRL => [.SEC_LC_CTRL_lc_req, .SEC_LC_CTRL_rb_raise, .SEC_LC_CTRL_lc_err]
  | .SEC_TRAP_CTRL => [.SEC_TRAP_CTRL_submit, .SEC_TRAP_CTRL_close, .SEC_TRAP_CTRL_nonce_req, .SEC_TRAP_CTRL_busy, .SEC_TRAP_CTRL_result]
  | .SEC_EV => [.SEC_EV_trap_open, .SEC_EV_trap_close, .SEC_EV_trap_refused, .SEC_EV_lc_change, .SEC_EV_shelf_commit, .SEC_EV_shelf_bad, .SEC_EV_shelf_none, .SEC_EV_boot_fail, .SEC_EV_pair_key_fail, .SEC_EV_tamper_purge]
  | .SEC_SHELF_STATUS => [.SEC_SHELF_STATUS_a_valid, .SEC_SHELF_STATUS_b_valid, .SEC_SHELF_STATUS_cur, .SEC_SHELF_STATUS_none, .SEC_SHELF_STATUS_staged, .SEC_SHELF_STATUS_run_level, .SEC_SHELF_STATUS_cur_schema]
  | .SEC_SHELF_SEQ_A => [.SEC_SHELF_SEQ_A_seq]
  | .SEC_SHELF_SEQ_B => [.SEC_SHELF_SEQ_B_seq]
  | .SEC_TRAP_NONCE => [.SEC_TRAP_NONCE_nonce]
  | .SEC_MEAS => [.SEC_MEAS_meas]
  | .SEC_TRAP_MBOX => [.SEC_TRAP_MBOX_data]
  | .SEC_IDPUB => [.SEC_IDPUB_pub]
  | .PERF_INV_CTRL => [.PERF_INV_CTRL_snap_now, .PERF_INV_CTRL_pm_snap_en, .PERF_INV_CTRL_hk_flush, .PERF_INV_CTRL_ev_limit, .PERF_INV_CTRL_snap_period]
  | .PERF_TLM_CTRL => [.PERF_TLM_CTRL_cnt_ring, .PERF_TLM_CTRL_hk_ring]
  | .PERF_HK_MASK => [.PERF_HK_MASK_hk_mask]
  | .PERF_EVT_ROUTE => [.PERF_EVT_ROUTE_ring, .PERF_EVT_ROUTE_en]
  | .PERF_EV => [.PERF_EV_ev]
  | .PERF_CNT_SEL => [.PERF_CNT_SEL_index]
  | .PERF_CNT_LO => [.PERF_CNT_LO_value_lo]
  | .PERF_CNT_HI => [.PERF_CNT_HI_value_hi, .PERF_CNT_HI_wrap_cnt, .PERF_CNT_HI_valid]
  | .PERF_WRAP => [.PERF_WRAP_wrap]
  | .SYS_ID => [.SYS_ID_part_code, .SYS_ID_engines, .SYS_ID_stepping, .SYS_ID_family]
  | .SYS_DEVID_LO => [.SYS_DEVID_LO_devid_lo]
  | .SYS_DEVID_HI => [.SYS_DEVID_HI_devid_hi]
  | .SYS_FW => [.SYS_FW_fw_version, .SYS_FW_fw_bank]
  | .SYS_MODE => [.SYS_MODE_mode, .SYS_MODE_role, .SYS_MODE_busy, .SYS_MODE_last_tag]
  | .SYS_RESET => [.SYS_RESET_warm, .SYS_RESET_eng_rst]
  | .SYS_RST_STATUS => [.SYS_RST_STATUS_boot_ready, .SYS_RST_STATUS_por, .SYS_RST_STATUS_pin, .SYS_RST_STATUS_sw_warm]
  | .SYS_IRQ_STATUS => [.SYS_IRQ_STATUS_blk, .SYS_IRQ_STATUS_ciph, .SYS_IRQ_STATUS_eng]
  | .SYS_IRQ_MASK => [.SYS_IRQ_MASK_en]
  | .SYS_EV => [.SYS_EV_mode_chg, .SYS_EV_rst_refused, .SYS_EV_priv_drop]
  | .SYS_SCRATCH => [.SYS_SCRATCH_scratch]

end Sys2Proof.Machine
end

