-- ==== Sys2Proof/Word.lean ====
section
/-! DEFINITION. The plain words of the model. -/
namespace Sys2Proof

/-- One byte. -/
abbrev Byte := BitVec 8

/-- Truncate a number to `w` bits. -/
def lowBits (w n : Nat) : Nat := n % 2 ^ w

end Sys2Proof
end

