-- ==== Sys2Proof/Machine/Kinds.lean ====
section
/-! DEFINITION. The plain data types of the block: names of resources, entries of queues, and the operands that
carry what the outside world did (the opcode table gives no operands: log entry 8). -/
namespace Sys2Proof

/-- The two parts (00_scope.md R1). -/
inductive Part where
  | skv9600 | skv4800
deriving DecidableEq, Repr

/-- Who asks for a register access (15_security_and_config.md R499, 17_register_map.md R536). -/
inductive Requester where
  | host | test | ctl
deriving DecidableEq, Repr

/-- Engine number 0-3 (00_scope.md R10). -/
abbrev Eng := Fin 4
/-- Client port number (00_scope.md R10). -/
abbrev PortId := Fin 64
/-- Tributary number (00_scope.md R10). -/
abbrev TribId := Fin 1024
/-- Concatenated group number (06_tributary_mapping.md R218). -/
abbrev GrpId := Fin 64
/-- Locker number (10_cipher.md R362). -/
abbrev LockId := Fin 64
/-- Ring number (11_host_rings.md R380). -/
abbrev RingId := Fin 65536
/-- Housekeeping channel number (12_housekeeping.md R411). -/
abbrev HkChId := Fin 32
/-- Pair-link lane number (08_pair_protection.md R267). -/
abbrev LaneId := Fin 8
/-- Reference input number (00_scope.md R11). -/
abbrev RefId := Fin 12
/-- Bridge entry number (08_pair_protection.md R291). -/
abbrev BridgeId := Fin 32
/-- Analog output number (12_housekeeping.md R434). -/
abbrev AoutId := Fin 4

/-- A stage of the placement path (16_counters_and_events.md R530: 0 mapper, 1 fabric, 2 framer, 3 cipher). -/
inductive MapStage where
  | mapper | fabric | framer | cipher
deriving DecidableEq, Repr

/-- What a transmit stage reports of its map shadow (01_architecture.md R25, 07_placement.md R249). -/
inductive StageRep where
  | loaded | range | applied | mismatch
deriving DecidableEq, Repr

/-- Alignment state of the receive framer (05_line_framing.md R163). -/
inductive RxState where
  | oof | cand | inFrame
deriving DecidableEq, Repr

/-- Block delineation state of the demapper (06_tributary_mapping.md R210). -/
inductive DlmState where
  | hunt | presync | sync
deriving DecidableEq, Repr

/-- One slot of a placement map (07_placement.md R244): assigned or not, tributary, its generation (R200). -/
structure SlotEntry where
  on : Bool := false
  trib : Nat := 0
  gen : Nat := 0
deriving DecidableEq, Repr

/-- Level of an analog output (12_housekeeping.md R434; 13_calibration.md R445): `part` / 6,553,600,000 of AOUT_REF (`vdd` false) or of
VDD_HK, and `ofs` × 0.1 mV. -/
structure AoutLevel where
  vdd : Bool := false
  part : Int := 0
  ofs : Int := 0
deriving DecidableEq, Repr

/-- A boundary-applied active setting (01_architecture.md R22, 13_calibration.md R451). -/
inductive ShadowKey where
  | rolloff | endSel | kpFlip | pilot
  | trim (item idx : Nat)
deriving DecidableEq, Repr

/-- A descriptor as fetched (11_host_rings.md R391), with the tags of R385. -/
structure Desc where
  /-- Ring number of the SQ. -/
  sq : Nat := 0
  sqGen : Nat := 0
  cq : Nat := 0
  cqGen : Nat := 0
  /-- Count of the descriptor in its SQ. -/
  idx : Nat := 0
  opcode : Nat := 0
  irq : Bool := false
  tag : Nat := 0
  len : Nat := 0
  addr : Nat := 0
  bufSize : Nat := 0
  param0 : Nat := 0
  param1 : Nat := 0
  /-- Bytes 32 to 63. -/
  cls : List Byte := []
  /-- Outcome of the checks of R392 that do not change while it waits: the status it is to end in, 9 for a no-op (R393), 0 when it
  passes. -/
  chk : Nat := 0
deriving DecidableEq, Repr

/-- A completion waiting for its CQ (11_host_rings.md R400). -/
structure Cpl where
  d : Desc := {}
  status : Nat := 0
  noop : Bool := false
  trunc : Bool := false
  detail : Nat := 0
  moved : Nat := 0
  /-- The ToD the rule fixes for the entry (R397), none: when the entry is written. -/
  tod : Option Nat := none
deriving DecidableEq, Repr

/-- An OHB_TX block waiting for its superframe, and whether a word of it carries the uncorrectable mark (11_host_rings.md R396;
16_counters_and_events.md R531). -/
structure OhbBlock where
  d : Desc := {}
  data : List Byte := []
  tod : Nat := 0
  bad : Bool := false
deriving DecidableEq, Repr

/-- A step down as planned (07_placement.md R259): the new rate and slot table of its engine, the slots that make
switches add first (engine, slot, tributary), the tributaries in a move, those shed, those whose move was abandoned with
cause SKEW, and whether a shortfall remains. -/
structure StepPlan where
  rate : Nat := 0
  make : List (Nat × Nat × Nat) := []
  moved : List Nat := []
  shed : List Nat := []
  skew : List Nat := []
  blocked : Bool := false
deriving DecidableEq, Repr

/-- A received frame as it is handed to the partner engine in REGENERATOR (06_tributary_mapping.md R229, 07 R247,
10_cipher.md R361). -/
structure RegenFrame where
  fn : Nat := 0
  rate : Nat := 0
  /-- MAP field, bytes 11 and 12. -/
  map : List Byte := []
  kp : Nat := 0
  /-- Payload area: plain and descrambled, or as received in TRANSIT. -/
  pay : List Byte := []
  /-- Bytes 30 to 53 (TRANSIT). -/
  cf : List Byte := []
  gcc : List Byte := []
  gccValid : Bool := false
deriving DecidableEq, Repr

/-- The MAP field of one of frames 0-2 (05_line_framing.md R166). -/
structure MkSeen where
  valid : Bool := false
  mark : Bool := false
  gen : Nat := 0
deriving DecidableEq, Repr

/-- What the transmit filters of a lane hold of what went before: the last 64 symbol levels, the last 64 filtered samples and the last
16 samples after the skew corrections (03_line_engine.md R82). -/
structure TxLane where
  lev : List Int := []
  smp : List Int := []
  pre : List Int := []
deriving DecidableEq, Repr

/-- What arrives of a bridged copy (08_pair_protection.md R291, R292): its signal-fail flag and container bytes of it, for tap LINE of a GMP
tributary one container frame. -/
structure CopyObs where
  sf : Bool := false
  bytes : List Byte := []
deriving DecidableEq, Repr

/-- A finished per-superframe block (05_line_framing.md R173). -/
structure RxBlock where
  data : List Byte := []
  bad : Bool := false
  tod : Nat := 0
deriving DecidableEq, Repr

/-- What the previous superframe announced for a locker (10_cipher.md R358). -/
structure ScNext where
  sc : Nat := 0
  mb : Bool := false
  fin : Bool := false
  eng : Nat := 0
deriving DecidableEq, Repr

/-- A received frame between the framer at V3 and the cipher at V6: three frames are read ahead (05_line_framing.md R166).
Its number, level and rate as read at V3, its overhead from byte 9 on, its payload area, and what carries the
uncorrectable mark. -/
structure RxPend where
  fn : Nat := 0
  lvl : Nat := 1
  rate : Nat := 0
  oh : List Byte := []
  ohMark : Bool := false
  pay : List Byte := []
  payMark : Bool := false
  /-- Receive SFM time of its superframe. -/
  tod : Nat := 0
  /-- Which bytes of the payload area carry the mark, where not all of a marked one do (04_nurnauri_fec.md R134). -/
  marks : List Bool := []
  /-- Pilots of its superframe, those that it shows until they are decided: 0 none, 1 REQ, 2 ANS (13_calibration.md R457). -/
  pil : Nat := 0
deriving DecidableEq, Repr

/-- Port settings in force (06_tributary_mapping.md R194, R195, R215): width code, lane mode, FlexE head, ODU rate. -/
structure PortCfg where
  width : Nat := 0
  lane : Nat := 0
  head : Nat := 0
  odu : Nat := 0
deriving DecidableEq, Repr

/-- Tributary settings in force (06_tributary_mapping.md R196): source kind, port, FlexE client, carrier. -/
structure TribCfg where
  kind : Nat := 0
  port : Nat := 0
  fx : Nat := 0
  carrier : Nat := 0
deriving DecidableEq, Repr

/-- A flash command in execution (11_host_rings.md R405). -/
structure FlashOp where
  d : Desc := {}
  /-- Bytes to program (FLASH_WRITE). -/
  data : List Byte := []
  /-- A PCIe error ended the read of the host buffer (R395). -/
  err : Bool := false
  /-- A disable of its ring stops it at its next boundary (R383). -/
  stop : Bool := false
deriving DecidableEq, Repr

/-- An I3C transfer in execution (12_housekeeping.md R440). -/
structure I3cOp where
  d : Desc := {}
  data : List Byte := []
  /-- A disable of its ring stops it after the byte in progress (11 R383). -/
  stop : Bool := false
deriving DecidableEq, Repr

/-- A remembered command: its request tag, status and detail (02_modes.md R38). -/
structure Remembered where
  tag : Nat := 0
  status : Nat := 0
  detail : Nat := 0
deriving DecidableEq, Repr

/-- A port as staged: client type code and settings (02_modes.md R37). -/
structure PortPlan where
  typ : Nat := 0
  cfg : PortCfg := {}
deriving DecidableEq, Repr

/-- A tributary as staged: source and carrier, and the locker of its binding (02_modes.md R37; 10_cipher.md R364). -/
structure TribPlan where
  cfg : TribCfg := {}
  bind : Option Nat := none
deriving DecidableEq, Repr

/-- The staged settings of a target combination (02_modes.md R36, R37): profile, cipher use and code rate by engine, with
the last two 0 where they count for nothing; the ports and the tributaries that are not OUT. -/
structure Staged where
  prof : List Nat := [0, 0, 0, 0]
  use : List Nat := [0, 0, 0, 0]
  rate : List Nat := [0, 0, 0, 0]
  ports : Machine.SMap PortPlan := []
  tribs : Machine.SMap TribPlan := []
deriving DecidableEq, Repr

/-- A mode transition in progress (02_modes.md R63, R67): its descriptor (none when a shelf, a mirror or a wake asks for
it), its parameter word, the engines that have not committed, and the staged settings as they stood when it was
accepted. -/
structure Transition where
  d : Option Desc := none
  par : Nat := 0
  left : List Nat := []
  st : Staged := {}
deriving DecidableEq, Repr

/-- A MIR or BULK cell as it is received: its bytes, and the generations that it carries of the tributaries it names, for which
R305 lays out no field (08_pair_protection.md R284, log entry 99). -/
structure MirCell where
  bytes : List Byte := []
  gens : List (Nat × Nat) := []
deriving DecidableEq, Repr

/-- A MIR cell not yet acknowledged (08_pair_protection.md R280). -/
structure MirOut where
  seq : Nat := 0
  cell : List Byte := []
  /-- The generations that it carries (R284). -/
  gens : List (Nat × Nat) := []
  sends : Nat := 0
  /-- A MACK has named it, though an earlier one is still missing. -/
  got : Bool := false
deriving DecidableEq, Repr

/-- A CMD cell not yet acknowledged (08_pair_protection.md R303). -/
structure CmdOut where
  d : Option Desc := none
  cell : List Byte := []
  sends : Nat := 0
deriving DecidableEq, Repr

/-- A stamp of a superframe (09_timing.md R338). -/
structure Stamp where
  psc : Nat := 0
  tod : Nat := 0
deriving DecidableEq, Repr

/-- A housekeeping word (12_housekeeping.md R430). -/
structure HkWord where
  val : Int := 0
  di : Int := 0
  dq : Int := 0
deriving DecidableEq, Repr

/-- A counter walk (16_counters_and_events.md R521). -/
structure Walk where
  t0 : Nat := 0
  cause : Nat := 0
  trace : Nat := 0
  cnt : Machine.SMap Nat := []
  wrapc : Machine.SMap Nat := []
deriving DecidableEq, Repr

/-- A position in the decoder's window (04_nurnauri_fec.md R125 to R127): its 5-bit inputs, the three 5-bit messages of
each bit, its hard decisions, whether every input is zero, whether it is frozen, and the updates it has received. -/
structure FecPos where
  llr : List Int := []
  msg : List Int := []
  hard : List Bool := []
  zero : Bool := false
  frozen : Bool := false
  iters : Nat := 0
deriving DecidableEq, Repr

/-- What leaves the block (the model's own record, log entry 4). -/
inductive Out where
  /-- An MSI-X message (11_host_rings.md R403). -/
  | msix (v : Nat)
  /-- A 32-byte ring entry written to host memory at a slot (R400). -/
  | entry (ring slot : Nat) (bytes : List Byte)
  /-- What a read of the bus returned (R376). -/
  | rdData (v : Nat)
  /-- Bytes written to a host buffer (R397, R405). -/
  | dma (addr : Nat) (bytes : List Byte)
  /-- A cell of the pair link (08_pair_protection.md R270), and the lane it is sent on. -/
  | cell (lane : Nat) (bytes : List Byte)
  /-- A cell that names tributaries, with the generation of each (08_pair_protection.md R284). -/
  | genCell (lane : Nat) (bytes : List Byte) (gens : List (Nat × Nat))
  /-- A rising edge of PPS_OUT (09_timing.md R323), with its ToD. -/
  | pps (tod : Nat)
  /-- A frame sent on the line by an engine, before shaping (05_line_framing.md R152). -/
  | frame (eng : Nat) (bytes : List Byte)
  /-- A position sent on the line: amplitude bits and sign bits of its symbols, and the roll-off, pre-emphasis and skew
  corrections its samples pass; the last operand is what the lanes' DACs receive, a pair of sub-DAC words for each sample
  (03_line_engine.md R82, 05_line_framing.md R156, log entries 81 and 191). -/
  | symbols (eng : Nat) (amp sign : List Bool) (rolloff : Nat) (preemph : Bool) (skew : List Int) (dac : List (List Nat))
  /-- A sync block of the FEC test: the pattern that its sign bits carry on each polarization, and what the lanes' DACs receive
  (04_nurnauri_fec.md R146; 03_line_engine.md R82). -/
  | sync (eng : Nat) (bits : List Bool) (dac : List (List Nat))
  /-- What an engine sends on an interoperable profile: the coded bits and what the lanes' DACs receive (05_line_framing.md
  R150; 03_line_engine.md R82). -/
  | interop (eng : Nat) (bits : List Bool) (dac : List (List Nat))
  /-- A frame sent to the client of a tributary: preamble, SFD and frame, whether it ends with an error block, and the least
  number of idle bytes that follow it (06_tributary_mapping.md R211). -/
  | client (trib : Nat) (bytes : List Byte) (err : Bool) (gap : Nat)
  /-- ODU-AIS sent to the client of a tributary with the port's framing kept (06_tributary_mapping.md R230). -/
  | oduAis (trib : Nat)
  /-- An ordered set sent for a FlexE client that no tributary is bound to: head port and client (R216). -/
  | fxOset (head id os : Nat)
  /-- FlexE overhead of a group as it changes: its head port, whether calendar B is in use, CR and CA, and what the section and
  the shim-to-shim management channels carry (R215). -/
  | fxOh (head : Nat) (calB cr ca : Bool) (mgmt : Nat × Nat)
  /-- A fine-tuning command to the optical subassembly of an engine, through the I3C controller, in MHz
  (08_pair_protection.md R287). -/
  | tune (eng : Nat) (mhz : Int)
  /-- The wake pattern sent 3 times by an engine: the code that all four DACs are driven at in each 1 ms bit
  (14_power_and_cellar.md R470, R471). -/
  | wakeLine (eng : Nat) (codes : List Nat)
  /-- The wake pattern sent 3 times on the first lane of a port: in each 1 ms bit PRBS31 (true) or electrical idle (R470,
  R471). -/
  | wakeClient (port : Nat) (prbs31 : List Bool)
  /-- Bytes written to a target on the I3C bus: its address (12_housekeeping.md R440). -/
  | i3c (addr : Nat) (bytes : List Byte)
  /-- A bridged copy sent to the ACTIVE: bridge entry, the lanes its slots are striped over, container bytes, its signal-fail
  flag, and whether words of it were lost or repeated on the way (08 R273, R291, R292; 01_architecture.md R19). -/
  | copy (entry : Nat) (lanes : List Nat) (bytes : List Byte) (sf mark : Bool)
  /-- What the UART sends: a line of the boot log or a fault record, by its event code (11_host_rings.md R407). -/
  | uart (boot : Bool) (code : Nat)
  /-- An ordered set sent to the client continuously (R211, R230). -/
  | oset (trib : Nat) (os : Nat)
  /-- The request tag echoed in a completion: ring and slot of its entry (02_modes.md R36, 08_pair_protection.md R302). -/
  | echo (ring slot tag : Nat)
  /-- The client bytes of one container of a GMP tributary as its GMP word places them (06_tributary_mapping.md R214). -/
  | odu (trib : Nat) (bytes : List Byte)
deriving DecidableEq, Repr

/-- What the mapper measured and took of one GMP client for the next container frame (06_tributary_mapping.md R212,
R213): client bytes cm, phase cnd, and the client bytes of this container frame. -/
structure GmpMeas where
  trib : Nat := 0
  cm : Nat := 0
  cnd : Nat := 0
  data : List Byte := []
deriving DecidableEq, Repr
/-- A received frame at the expected spacing (05_line_framing.md R163): bit errors of its FAW, bytes 4 to 8 of its header
as hard decisions, its overhead from byte 9 on and its payload area after the decoder with the mark of 04 R134, the time at
which its first symbol reached the ADC, a phase slip the header shows (03 R100), and how many of its pilot positions decide to REQ and to
ANS (13 R457). On an interoperable frame the alignment, the multiframe count 0, the remote defect, the FCC bytes, the
payload and, on FlexO, the GID, PID and MAP fields of its instances and its overhead CRC are used (R177, R178). -/
structure RxFrameObs where
  faw : Nat := 0
  hdr : List Byte := []
  oh : List Byte := []
  ohMark : Bool := false
  pay : List Byte := []
  payMark : Bool := false
  tod : Nat := 0
  slip : Option Nat := none
  pilReq : Nat := 0
  pilAns : Nat := 0
  aligned : Bool := false
  mf0 : Bool := false
  rdi : Bool := false
  fcc : List Byte := []
  ids : List Nat := []
  crcOk : Bool := true
deriving DecidableEq, Repr
/-- Why a LOCKED engine unlocks (03_line_engine.md R101). -/
inductive UnlockObs where
  /-- Every snr_inst of 1 ms; the largest, 0.01 dB. -/
  | lowSnr (snrMax : Int)
  /-- Timing frequency error, ppb. -/
  | timing (ppb : Int)
  | sigLost
deriving DecidableEq, Repr
/-- What the DSP measured in one 10 ms computation (03_line_engine.md R107, R110, R112, R113, R98). -/
structure MarginObs where
  /-- SNR per polarization, 0.01 dB. -/
  snr : Nat := 0
  /-- GMI, 2^-10 bit. -/
  gmi : Nat := 0
  /-- The variance between successive windows is below 0.05 dB (R110). -/
  conv : Bool := false
  /-- Dispersion tracked since acquisition, ps/nm (R93). -/
  cdTrack : Int := 0
  /-- Carrier offset, MHz. -/
  fo : Int := 0
  /-- DGD, 0.5 ps. -/
  dgd : Nat := 0
deriving DecidableEq, Repr
/-- How an outer codeword ended (04_nurnauri_fec.md R130), or an FEC block of R145. -/
inductive CwOut where
  | clean | corrected (bits : Nat) | uncorrectable
deriving DecidableEq, Repr

/-- A position time (04_nurnauri_fec.md R125): the log-likelihood ratios of the position that enters the decoder as the
oldest leaves it, bit by bit as log entry 81 names the bits, and the position-updates that the 2 of each CORE cycle
make in it (R126). On an interoperable profile: the input of one FEC block (R145). -/
structure PosObs where
  llr : List Int := []
  updates : Nat := 0
deriving DecidableEq, Repr
/-- What the demapper finds at the next header position (06_tributary_mapping.md R204, R210): the 3 header bytes as sent on
the wire, their mark, the payload bytes that follow and whether one of them is marked, whether the egress FIFO can take the
start of a frame (R211), and, where a header fails, whether a later byte position is searched. -/
structure BlkObs where
  hdr : List Byte := []
  mark : Bool := false
  pay : List Byte := []
  payMark : Bool := false
  full : Bool := false
deriving DecidableEq, Repr
/-- What a client port loses (06_tributary_mapping.md R230). -/
inductive ClientObs where
  | sig | lock | hiber | group
deriving DecidableEq, Repr
/-- What the proof of the peer's identity showed (15_security_and_config.md R503): its identity number, the public half of its
identity key, the OWNER anchor that endorses it, whether its lifecycle is PROVISIONED or SEALED, and whether the proof passed. -/
structure PeerId where
  devid : Nat := 0
  pub : List Byte := []
  owner : List Byte := []
  keyed : Bool := false
  proved : Bool := false
deriving DecidableEq, Repr
/-- What has failed here only for 20 us (08_pair_protection.md R296). -/
inductive YieldObs where
  | eng (n : Fin 4)
  | port (p : Fin 64)
deriving DecidableEq, Repr
/-- How a reference fails (09_timing.md R318, R340). -/
inductive RefFault where
  /-- prio = 0, or a quality of DNU. -/
  | quality
  /-- Offset from XO_IN, ppb, over 100 ms. -/
  | freq (ppb : Int)
  /-- Edges, samples, blocks, lock or a valid line reference are missing. -/
  | activity
deriving DecidableEq, Repr
/-- The holdover model as learned (09_timing.md R333). -/
structure ModelObs where
  /-- Mean frequency over the last 1,000 s, 10^-13, where it was formed over time that no TOD_SECOND stands for; none: the block's own. -/
  mean : Option Int := none
  /-- Linear drift, 10^-18 per second; the same. -/
  drift : Option Int := none
deriving DecidableEq, Repr
/-- What the read of a data buffer gave (11_host_rings.md R395): bytes, and whether a PCIe error ended it. -/
structure BufRead where
  bytes : List Byte := []
  err : Bool := false
deriving DecidableEq, Repr
/-- What a descriptor fetch gave (11_host_rings.md R395). -/
inductive FetchObs where
  | ok (bytes : List Byte)
  | error
deriving DecidableEq, Repr
/-- The flash command of an SQ ends: `n` of its bytes or units were done (11_host_rings.md R405). -/
structure FlashEnd where
  sq : Fin 65536 := 0
  n : Nat := 0
deriving DecidableEq, Repr
/-- A mask bit as the host writes it: of a vector, or of the whole function (11_host_rings.md R404). -/
structure MsixMask where
  v : Option (Fin 256) := none
  mask : Bool := false
deriving DecidableEq, Repr
/-- An HK_SYNC command: at the pin or by a write; `early`: within the settling time with which the slot in progress starts
(12_housekeeping.md R417, R426). -/
structure SyncObs where
  pin : Bool := false
  early : Bool := false
deriving DecidableEq, Repr
/-- The clamp of a channel releases; `early`: before the first sample of the next word's window (12_housekeeping.md R416). -/
structure ClampEnd where
  chan : Fin 32 := 0
  early : Bool := false
deriving DecidableEq, Repr
/-- The target that a round addressed: its provisioned ID; and, as a mask, the indexes that by then have been free for 1 s
(12_housekeeping.md R439). -/
structure I3cWho where
  pid : Nat := 0
  aged : Nat := 0
deriving DecidableEq, Repr
/-- The tamper inputs seen low, as a mask, and for how many RTC ticks (14_power_and_cellar.md R478). -/
structure TamperSeen where
  inputs : Nat := 0
  ticks : Nat := 0
deriving DecidableEq, Repr
/-- How the I3C transfer of an SQ ended on the bus (12_housekeeping.md R440). -/
structure I3cRes where
  sq : Fin 65536 := 0
  /-- The target NACKed its address. -/
  nack : Bool := false
  /-- Bytes written to the target. -/
  sent : Nat := 0
  /-- Bytes read from the target. -/
  got : List Byte := []
deriving DecidableEq, Repr
/-- A word of a channel (12_housekeeping.md R412, R422 to R424): the modulator samples of its window, in code units; or a settled
input, in 10^-12 V or, in charge mode, 10^-24 C; or the code as the averager delivers it; with the ToD of its last sample (R430). -/
structure HkObs where
  code : Int := 0
  volt : Option Int := none
  samples : Option (List Int) := none
  tod : Nat := 0
deriving DecidableEq, Repr
/-- What the boot ROM reads of a flash bank (15_security_and_config.md R504): whether its header carries a valid VENDOR
signature, its version, fl_run, fl_floor and rollback index, and the bytes of header and digest that are measured. -/
structure BankObs where
  signed : Bool := false
  version : Nat := 0
  flRun : Nat := 0
  flFloor : Nat := 0
  rb : Byte := 0
  bytes : List Byte := []
deriving DecidableEq, Repr
/-- What the boot ROM finds: its own digest and the two banks (15_security_and_config.md R504, R506). -/
structure BootObs where
  rom : List Byte := []
  bank0 : BankObs := {}
  bank1 : BankObs := {}
deriving DecidableEq, Repr
/-- An SRAM array with counters (16_counters_and_events.md R517): the FEC windows and CD buffers of an engine, the deskew
pool, the ring contexts, the client and mapper FIFOs, control-core memory, prefetch and OHB staging, the retention
arrays. -/
inductive SramArr where
  | fec (n : Fin 4)
  | pool | ringCtx | fifos | ctlMem | staging | retention
deriving DecidableEq, Repr
/-- Where a parity check fails (16_counters_and_events.md R532): a bit of a register, a datapath stage of an engine, or one
of another block. -/
inductive ParityObs where
  | reg (addr bit : Nat)
  | engine (n : Fin 4) (stage : Nat)
  | stage (block stage : Nat)
deriving DecidableEq, Repr


end Sys2Proof
end

