-- ==== Sys2Proof/Syntax.lean ====
section
/-! DEFINITION. The commands of the block: one constructor per row of spec/opcode_table.json, in its order but for POWER_EXIT_DONE and CEL_ACK, which stand last. -/
namespace Sys2Proof

/-- A command. The operands carry what the outside world did (log entry 8). -/
inductive Instr where
  | regWrite (rq : Requester) (addr : Nat) (val : Nat)
  | cellarRegWrite (rq : Requester) (addr : Nat) (val : Nat)
  | cellarWriteDone
  | crossingSlip (x : Fin 17) (who : Nat)
  | txSfm (n : Eng) (tod : Nat)
  | txFrame (n : Eng) (gmp : List GmpMeas)
  | idleShadowApply (n : Eng)
  | markerApplyNotFraming (n : Eng)
  | mapStageReport (n : Eng) (st : MapStage) (rep : StageRep)
  | rxFawFound (n : Eng) (errs : Nat) (rot : Nat) (fn : Nat)
  | rxFrame (n : Eng) (f : RxFrameObs)
  | dlofDeclare (n : Eng)
  | dlofClear (n : Eng)
  | protNr (n : Eng)
  | protTxSuspect (n : Eng)
  | protSwitched (n : Eng)
  | protUnprotected (n : Eng)
  | protBadCode (n : Eng)
  | protAckTimeout (n : Eng)
  | gccBlockReceive (n : Eng) (mfc : Bool)
  | pmBoundary (tod : Nat)
  | pmSyncEdge (tod : Nat)
  | sigWindow (n : Eng) (pwr : Int)
  | clipWindow (n : Eng) (clipped : List Nat) (samples : Nat)
  | acqCdSearchEnd (n : Eng) (tone : List Nat)
  | acqClkLock (n : Eng) (ppb : Int)
  | acqClkTimeout (n : Eng)
  | acqEqConverge (n : Eng)
  | acqEqTimeout (n : Eng)
  | acqCarLock (n : Eng) (fo : Int) (snrMin : Int)
  | acqCarTimeout (n : Eng)
  | acqUnlock (n : Eng) (why : UnlockObs)
  | acqHoldRelock (n : Eng) (fo : Int) (snrMin : Int)
  | acqHoldTimeout (n : Eng)
  | marginCompute (n : Eng) (m : MarginObs)
  | marginReport (n : Eng)
  | pilotWaitExpire (n : Eng)
  | positionDecode (n : Eng) (p : PosObs)
  | fecWindowEnd (n : Eng)
  | fecReadingReport (n : Eng)
  | testSyncBlock (n : Eng) (differ : List Nat)
  | fecTestWrite (n : Eng) (v : Bool)
  | ethIngressFrame (t : TribId) (frame : List Byte) (pcsErr : Bool)
  | ethOsetChange (t : TribId) (os : Option Nat)
  | osetRepeat (t : TribId)
  | dlmBlockHeader (t : TribId) (b : BlkObs)
  | egressOsetTimeout (t : TribId)
  | gmpWordRx (t : TribId) (word : Nat) (mark : Bool)
  | flexeCalendarSwitch (head : PortId) (rates : List (Nat × Nat))
  | groupTagRx (g : GrpId) (n : Eng) (tag : Nat) (mark : Bool) (join : Bool)
  | binsReqWrite (g : GrpId) (bins : Nat)
  | skewMeasure (g : GrpId) (skewNs : Nat)
  | dskewDeclare (g : GrpId) (held : Nat)
  | dskewClear (g : GrpId)
  | clientRxFault (p : PortId) (why : ClientObs)
  | placeBlockRx (n : Eng) (blk : List Byte) (mark : Bool)
  | placeChanDown (n : Eng)
  | placeRxShadowLoaded (n : Eng)
  | swStart (n : Eng)
  | swReadyTimeout (n : Eng)
  | swSwitchTimeout (n : Eng)
  | peerAliveLost
  | peerAliveGained
  | pairLaneDown (k : LaneId)
  | pairLaneUp (k : LaneId)
  | hbTick
  | hbRx (cell : List Byte) (id : PeerId)
  | hbLost
  | pairEnWrite (v : Bool)
  | mirRx (cell : MirCell)
  | mackRx (cell : List Byte)
  | mirResend (seq : Nat)
  | bulkRx (cell : MirCell)
  | cmdClear (cell : List Byte)
  | cmdLockout (cell : List Byte)
  | cmdForce (cell : List Byte)
  | cmdManual (cell : List Byte)
  | cmdRelinquish (cell : List Byte)
  | cackRx (cell : List Byte)
  | cmdResend
  | timeCellTick (tod : Nat)
  | timeCellRx (cell : List Byte) (tod : Nat)
  | dyingRx (cell : List Byte)
  | laserMatchTick
  | bridgeSelect (k : BridgeId) (copy : CopyObs)
  | bridgeRestore (k : BridgeId)
  | compareYield (why : YieldObs)
  | readyHoldEnd
  | txSuspectStart (n : Eng)
  | pairSwitchClear (r : RingId)
  | pairSwitchLockout (r : RingId)
  | pairSwitchForce (r : RingId)
  | pairSwitchManual (r : RingId)
  | todSecond
  | todSet (secHi : Nat)
  | ppsEdge (i : Fin 2) (tod : Nat)
  | refFail (i : RefId) (why : RefFault)
  | refQualify (i : RefId) (ppb : Int) (secs : Nat)
  | d0Lock (k : Fin 6)
  | d0Unlock (k : Fin 6)
  | loopOpenWrite (rq : Requester) (v : Bool)
  | todPhaseStep (e : Int)
  | dpllPstep (k : Fin 5) (ps : Int)
  | pstepDone (k : Fin 5)
  | modelReady (m : ModelObs)
  | modelSave (m : ModelObs)
  | traceAcquire (e : Int)
  | holdExpire
  | ttBlockRx (n : Eng) (blk : List Byte) (mark : Bool)
  | cdHoldExpire
  | ttDiscardEnd
  | kpFlip (n : Eng)
  | keyLoad (r : RingId) (data : BufRead)
  | keyErase (r : RingId)
  | keyPromote (r : RingId)
  | lockerRelease (rq : Requester) (l : LockId)
  | entropyReseed (pass : Bool)
  | entropyTestFail
  | cipherHalt
  | badAccess (bar : Fin 6) (write : Bool) (addr : Nat) (size : Nat)
  | ringEnable (rq : Requester) (r : RingId) (cfg : Nat)
  | ringDisable (r : RingId) (cfg : Nat)
  | ringQuiesced (r : RingId)
  | sqDoorbell (off : Nat) (word : Nat)
  | cqDoorbell (off : Nat) (word : Nat)
  | descFetch (r : RingId) (res : FetchObs)
  | nop (r : RingId)
  | modeSet (r : RingId)
  | modeSetComplete
  | heldModeResume
  | powerSet (r : RingId)
  | powerEntryDone (rtc : Nat) (tod : Nat)
  | shelfWrite (r : RingId) (data : BufRead) (fails : Nat)
  | shelfCommit (r : RingId) (fails : Nat)
  | flashRead (r : RingId)
  | flashWrite (r : RingId) (data : BufRead)
  | flashErase (r : RingId)
  | flashOpDone (e : FlashEnd)
  | flashTimeout
  | i3cXfer (r : RingId) (data : BufRead)
  | i3cXferDone (res : I3cRes)
  | i3cXferTimeout
  | ohbTx (r : RingId) (data : BufRead)
  | rxBuf (r : RingId)
  | timeSample (r : RingId)
  | completionWrite (cq : RingId)
  | evtOverflow (r : RingId)
  | msixModTimer (cq : RingId)
  | msixUnmask (m : MsixMask)
  | pcieLinkDown
  | pcieHotReset
  | pcieFlr
  | hkSlotEnd
  | hkWord (c : HkChId) (w : HkObs)
  | hkStartReq (pin : Bool)
  | hkUrgentReq (pin : Bool)
  | hkSyncCmd (o : SyncObs)
  | hkSeqStop
  | hkFilterWrite (c : HkChId) (cfg : Nat) (flt : Nat)
  | hkChgRst (c : HkChId)
  | hkChgRstEnd (c : HkChId)
  | hkClamp (c : HkChId)
  | hkClampRelease (e : ClampEnd)
  | hkExcMonitor (c : HkChId) (meas : Nat) (limit : Bool)
  | hkLinCommit (c : HkChId)
  | hkCompatEnable
  | hkRawRead (c : HkChId)
  | aoutOvervolt (k : AoutId)
  | aoutIlim (k : AoutId)
  | aoutWired (a : AoutId) (b : AoutId)
  | almShort
  | almStuck
  | hkOutputRetry (ok : List Bool) (back : List Bool)
  | i3cEnable
  | i3cDisable
  | i3cEntdaaRoundEnd (who : I3cWho) (bcr : Nat) (dcr : Nat)
  | i3cNoTarget
  | i3cRoundAbort
  | i3cTableFull
  | i3cHotJoin
  | i3cSettleTimeout
  | i3cRescan
  | i3cStatusPoll (ack : List Bool)
  | calRefCompare (diff : Int)
  | calEstimate (item : Nat) (n : Eng) (idx : Nat) (est : Int)
  | calForce
  | pilotFailTimeout (n : Eng)
  | wakeLine (n : Eng) (seen : List Bool)
  | wakeClient (p : PortId) (seen : List Bool)
  | wakePin
  | wakeRtc (rtc : Nat)
  | wakeTxSend (val : Nat)
  | wakeTxEnd
  | padRelease (grps : Nat)
  | rtcWrap
  | vbatSample (mv : Nat) (rtc : Nat)
  | tamperAssert (seen : TamperSeen) (rtc : Nat)
  | cellAlarmReport
  | cellarPowerLoss
  | mothballTodLoad (rtc : Nat)
  | railFail (seen : List (Nat × Nat)) (rtc : Nat)
  | vddIoUp
  | vddSramUp
  | coldResetRelease
  | railStartTimeout (rails : Nat) (rtc : Nat)
  | railRetry
  | resetPin (ns : Nat)
  | warmReset (rq : Requester)
  | engineReset (rq : Requester) (mask : Nat)
  | bootComplete (obs : BootObs)
  | lcReqProvision (rq : Requester)
  | lcReqSeal (rq : Requester)
  | lcReqReturn (rq : Requester)
  | lcTransitionDone
  | nonceReq (pcie : Bool)
  | nonceExpire (pcie : Bool)
  | credentialSubmit (pcie : Bool) (both : Bool)
  | credentialVerified
  | trapClose (pcie : Bool)
  | sessionExpire
  | hostPrivDrop
  | rbRaise (rq : Requester)
  | snapNow (tod : Nat)
  | snapPeriod (tod : Nat)
  | walkEnd (tod : Nat)
  | hkRecordFlush
  | counterLatch (val : Nat)
  | testErrRead (rq : Requester) (n : Eng)
  | todNsRead (tod : Nat)
  | rtcLoRead (rtc : Nat)
  | sramScrub (arr : SramArr) (word : Nat) (bits : Nat)
  | parityScan (p : ParityObs)
  | lockstepMismatch
  | controlRestartDone
  | clockLoss (pll : Nat)
  | laneTxFault (lane : PortId)
  | txMonitorFault (n : Eng)
  | cellarSupplyChangeover (vddIoMv : Nat)
  | pcieLinkUp (speed : Nat) (width : Nat) (flit : Bool)
  | clientRxRecover (p : PortId)
  | keyReservedOp (r : RingId)
  | pairSwitchReserved (r : RingId)
  | badCellRx (cell : List Byte) (uncorr : Bool)
  | postResetLosCheck (n : Eng)
  | powerExitDone
  | celAck
deriving DecidableEq, Repr

end Sys2Proof
end

