-- ==== Sys2Proof/Decode.lean ====
section
/-! DEFINITION. Commands spelled by words of the opcode table. -/
namespace Sys2Proof

/-- The command a word spells by the table's bits. spec/opcode_table.json gives no row any bits (each row's "fixed" is
absent and "fields" empty), so no word spells a command. -/
def decodeTableWord (_nbits _w : Nat) : Option Instr := none

end Sys2Proof
end

