-- ==== Sys2Proof/Machine/Bits.lean ====
section
/-! DEFINITION. Bytes, bit fields and the cyclic redundancy checks of 00_scope.md R567 and R568. -/
namespace Sys2Proof.Machine

/-- A field of `w` bits at bit `lo`. -/
def fieldOf (n lo w : Nat) : Nat := n / 2 ^ lo % 2 ^ w

/-- A truth value as one bit. -/
def b2n (b : Bool) : Nat := if b then 1 else 0

/-- A number as `k` bytes, least significant first (R9). -/
def leBytes : Nat → Nat → List Byte
  | 0, _ => []
  | k + 1, n => BitVec.ofNat 8 n :: leBytes k (n / 256)

/-- A number as `k` bytes, most significant first. -/
def beBytes (k n : Nat) : List Byte := (leBytes k n).reverse

/-- Bytes read least significant first. -/
def fromLE : List Byte → Nat
  | [] => 0
  | b :: bs => b.toNat + 256 * fromLE bs

/-- Bytes read most significant first. -/
def fromBE (bs : List Byte) : Nat := bs.foldl (fun a b => a * 256 + b.toNat) 0

/-- `len` bytes from `pos` on. -/
def slice (bs : List Byte) (pos len : Nat) : List Byte := (bs.drop pos).take len

/-- Byte `i`, zero beyond the end. -/
def byteAt (bs : List Byte) (i : Nat) : Nat := (bs[i]?.getD 0).toNat

/-- A list cut or padded with zero bytes to a length. -/
def padTo (n : Nat) (bs : List Byte) : List Byte := bs.take n ++ List.replicate (n - bs.length) 0

/-- The `w` bits of a number, highest first. -/
def bitsHigh : Nat → Nat → List Bool
  | 0, _ => []
  | w + 1, n => n.testBit w :: bitsHigh w n

/-- The bits of a span of bytes, each from bit 7 to bit 0 (R567). -/
def bitsOfBytes (bs : List Byte) : List Bool := bs.flatMap (fun b => bitsHigh 8 b.toNat)

/-- One bit into a CRC register of `w` bits (R567). -/
def crcStep (w poly r : Nat) (b : Bool) : Nat :=
  let r' := r * 2 % 2 ^ w
  if xor (r.testBit (w - 1)) b then r' ^^^ poly else r'

/-- A CRC without reflection or final complement (R567); `poly` is without its leading term. -/
def crcBits (w poly init : Nat) (bs : List Bool) : Nat := bs.foldl (crcStep w poly) init

/-- One byte, bit 0 first, into the reflected CRC-32 register (R568). -/
def crc32Byte (r b : Nat) : Nat :=
  (List.range 8).foldl (fun a _ => if a % 2 = 1 then (a / 2) ^^^ 0xEDB88320 else a / 2) (r ^^^ b)

/-- The FCS of IEEE 802.3 over a span of bytes (R568). -/
def crc32 (bs : List Byte) : Nat := (bs.foldl (fun r b => crc32Byte r b.toNat) 0xFFFFFFFF) ^^^ 0xFFFFFFFF

/-- An integer as a two's complement number of `w` bits. -/
def toTwos (w : Nat) (x : Int) : Nat := (x % (2 ^ w : Nat)).toNat

/-- A two's complement number of `w` bits as an integer. -/
def ofTwos (w n : Nat) : Int := if n % 2 ^ w < 2 ^ (w - 1) then (n % 2 ^ w : Nat) else (n % 2 ^ w : Nat) - (2 ^ w : Nat)

/-- An integer held to a range. -/
def clampInt (lo hi x : Int) : Int := if x < lo then lo else if hi < x then hi else x

/-- A natural number as an integer held from 0 and to `2^w - 1`. -/
def satNat (w n : Nat) : Nat := if n < 2 ^ w then n else 2 ^ w - 1

/-- An instant in 2^-16 ns measured with the 25 ps resolution of the event crossing (01_architecture.md R18), to the nearest
multiple of 25 ps, the later where two are equally near (log entry 167). -/
def stamp25 (t : Nat) : Nat := (t * 10 + 8192) / 16384 * 16384 / 10

/-- The integers below `n`, rising. -/
def upTo (n : Nat) : List Nat := List.range n

end Sys2Proof.Machine
end

