-- ==== Sys2Proof/Machine/Profile.lean ====
section
/-! DEFINITION. The line profiles and what follows from a profile and a rate (03_line_engine.md R73, R76, R78, R89,
R91, R108; 05_line_framing.md R151, R185). -/
namespace Sys2Proof.Machine

/-- The profile is one of LP-N08 to LP-N24. -/
def isLpn (p : Nat) : Bool := decide (4 ≤ p) && decide (p ≤ 8)

/-- The profile is LP-OZ4 or LP-OZ8. -/
def isOz (p : Nat) : Bool := p == 2 || p == 3

/-- Symbol rate in 10 MBd (R73). -/
def baud : Nat → Nat
  | 1 => 5984 | 2 => 6014 | 3 => 11820 | 4 => 15000 | 5 => 15000 | 6 => 20000 | 7 => 25000 | 8 => 30000 | _ => 0

/-- Coded bits m of the constellation (R76). -/
def mBits : Nat → Nat
  | 5 => 6 | 6 => 6 | 7 => 6 | 8 => 6 | _ => 4

/-- Lowest, nominal and highest net rate in 100 Gb/s (R73, R78). -/
def rateRange : Nat → Nat × Nat × Nat
  | 1 => (4, 4, 4) | 2 => (4, 4, 4) | 3 => (8, 8, 8) | 4 => (6, 8, 9) | 5 => (9, 12, 13) | 6 => (12, 16, 18)
  | 7 => (15, 20, 22) | 8 => (17, 24, 24) | _ => (0, 0, 0)

/-- Nominal net rate in 100 Gb/s. -/
def nomRate (p : Nat) : Nat := (rateRange p).2.1

/-- A rate is one the profile can run (R78, R80). -/
def rateOk (p r : Nat) : Bool := decide ((rateRange p).1 ≤ r) && decide (r ≤ (rateRange p).2.2)

/-- Active slots at a rate (R79). -/
def activeSlots (r : Nat) : Nat := 20 * r

/-- Slots at nominal (R73). -/
def nomSlots (p : Nat) : Nat := activeSlots (nomRate p)

/-- CD range in ps/nm (R89). -/
def cdRange : Nat → Nat
  | 8 => 50000 | 7 => 72000 | 6 => 112500 | _ => 200000

/-- Hypothesis `k` of the search grid times 199, in ps/nm (R91). -/
def gridTimes199 (p k : Nat) : Int := 2 * cdRange p * k - 199 * cdRange p

/-- Hypothesis `k` of the search grid, rounded to 1 ps/nm (log entry 12). -/
def gridCd (p k : Nat) : Int := (2 * gridTimes199 p k + 199) / 398

/-- Hypotheses a HINT search tests: those in the window, or the one nearest the hint, of two equally near the one
nearer zero (R91). -/
def hintGrid (p : Nat) (hint : Int) (window : Nat) : List Nat :=
  let far := fun k => (gridTimes199 p k - 199 * hint).natAbs
  let l := (upTo 200).filter (fun k => decide (far k ≤ 199000 * max 1 window))
  if l.isEmpty then
    let best := (upTo 200).foldl (fun b k =>
      if far k < far b || (far k == far b && decide ((gridTimes199 p k).natAbs < (gridTimes199 p b).natAbs)) then k else b) 0
    [best]
  else l

/-- 100 × snr_req for rates 1 to 31 in 100 Gb/s: round(1000 log10(2^I - 1) + 170), I = 50.625 r / B (R76, R108). -/
def snrReqTable : Nat → List Int
  | 15000 => [-409, -54, 177, 360, 517, 657, 787, 910, 1028, 1142, 1253, 1362, 1470, 1576, 1681, 1785, 1889, 1992,
      2095, 2198, 2300, 2403, 2505, 2607, 2709, 2811, 2912, 3014, 3116, 3218, 3319]
  | 20000 => [-547, -206, 11, 177, 317, 441, 553, 657, 756, 849, 940, 1028, 1114, 1198, 1281, 1362, 1443, 1523,
      1602, 1681, 1759, 1837, 1915, 1992, 2070, 2147, 2224, 2300, 2377, 2454, 2530]
  | 25000 => [-652, -319, -111, 47, 177, 291, 393, 487, 574, 657, 736, 812, 886, 958, 1028, 1097, 1164, 1231, 1297,
      1362, 1427, 1491, 1554, 1618, 1681, 1743, 1806, 1868, 1930, 1992, 2054]
  | _ => [-736, -409, -206, -54, 70, 177, 273, 360, 441, 517, 588, 657, 723, 787, 849, 910, 970, 1028, 1085, 1142,
      1198, 1253, 1308, 1362, 1416, 1470, 1523, 1576, 1628, 1681, 1733]

/-- The same while the received superframes carry pilots: I × 240/239 in place of I (13_calibration.md R458). -/
def snrReqPilots : Nat → List Int
  | 15000 => [-407, -52, 180, 363, 520, 661, 791, 914, 1032, 1147, 1258, 1368, 1475, 1582, 1687, 1792, 1896, 2000, 2103,
      2206, 2309, 2412, 2515, 2617, 2719, 2822, 2924, 3026, 3128, 3230, 3332]
  | 20000 => [-545, -204, 13, 180, 320, 444, 556, 661, 759, 853, 944, 1032, 1118, 1203, 1286, 1368, 1449, 1529, 1608, 1687,
      1766, 1844, 1922, 2000, 2078, 2155, 2232, 2309, 2386, 2463, 2540]
  | 25000 => [-650, -317, -109, 49, 180, 294, 396, 490, 578, 661, 740, 816, 890, 962, 1032, 1101, 1169, 1236, 1302, 1368,
      1432, 1497, 1561, 1624, 1687, 1750, 1813, 1876, 1938, 2000, 2062]
  | _ => [-734, -407, -204, -52, 73, 180, 276, 363, 444, 520, 592, 661, 727, 791, 853, 914, 974, 1032, 1090, 1147,
      1203, 1258, 1313, 1368, 1422, 1475, 1529, 1582, 1635, 1687, 1740]

/-- snr_req in 0.01 dB where the formula gives one (R108, 13_calibration.md R458); none at rate 0 of an LP-N profile. -/
def snrReq (p r : Nat) (pil : Bool) : Option Int :=
  if p == 1 then some 1530
  else if isOz p then some 1410
  else if r == 0 then none
  else ((if pil then snrReqPilots else snrReqTable) (baud p))[r - 1]?

/-- gmi_req in 2^-10 bit, rounded (R108, 13_calibration.md R458): I + 0.15, or 3.55 and 3.45 bit. -/
def gmiReq (p r : Nat) (pil : Bool) : Int :=
  if p == 1 then 3635
  else if isOz p then 3533
  else
    let (a, b) := if pil then (240, 239) else (1, 1)
    ((2 * (r * 5062500 * a * 1024 + 153600 * baud p * b) + baud p * 1000 * b) / (2 * baud p * 1000 * b) : Nat)

/-- Positions in a Vosko frame (R151). -/
def posPerFrame : Nat → Nat
  | 8 => 6 | 7 => 5 | 6 => 4 | 5 => 3 | 4 => 2 | _ => 0

/-- round(-log10(corr / exam) × 4096), 0xFFFF for zero errors or a ratio of 10^-16 or less (04 R137). The code counts
the numbers m whose half point lies below the value, which compares exact powers; a tie cannot occur. -/
def berCode (corr exam : Nat) : Nat :=
  if corr == 0 || corr * 10 ^ 16 ≤ exam then 0xFFFF
  else
    let above := fun m => decide (corr ^ 8192 * 10 ^ (2 * m + 1) < exam ^ 8192)
    [32768, 16384, 8192, 4096, 2048, 1024, 512, 256, 128, 64, 32, 16, 8, 4, 2, 1].foldl
      (fun n b => if above (n + b - 1) then n + b else n) 0

end Sys2Proof.Machine
end

