-- ==== Sys2Proof/Config.lean ====
section
/-! DEFINITION. What the spec leaves open: constants without a body, so that no proof can see a value of them. -/
namespace Sys2Proof

/-- A random number of the DRBG, 256 bits (10_cipher.md R369), at the n-th use (log entry 5). -/
opaque Config.freeRandom : Nat → BitVec 256

/-- What a flash byte holds after it was programmed without having been erased (11_host_rings.md R405 asks that the
target be erased and states no result otherwise), at the n-th use. -/
opaque Config.freeByte : Nat → BitVec 8

/-- The required SNR of 03_line_engine.md R108 at a received rate of 0, where the formula takes the logarithm of 0 and
the spec states no result, at the n-th use. -/
opaque Config.freeSnrReq : Nat → BitVec 16

/-- Duration in 0.1 ns of one FEC block of an interoperable profile, by profile code: 04_nurnauri_fec.md R145 leaves its
size to the outside specification (log entry 15). -/
opaque Config.fecBlock : Nat → BitVec 32

/-- The three edges of each coded bit of a position, by code rate, edge and bit: how many positions on a parity check lies
that takes the bit, and which check of that position it is. 04_nurnauri_fec.md R121, R123: degree 3, coupling memory 2, and
fixed in silicon, the same in both parts (log entries 81, 189). -/
opaque Config.fecEdge : Nat → Nat → Nat → Nat × Nat

/-- The messages of a position after an update, by code rate and the inputs and messages of the positions from two before to
two after it: 04_nurnauri_fec.md R125 to R127 give their width and which are recomputed and state no rule for their values (log
entry 81). -/
opaque Config.fecMessages : Nat → List (List Int × List Int) → List Int

/-- The polynomial that GF(2^12) of 04_nurnauri_fec.md R122 is built on, without its leading term: it is not stated
(log entry 190). -/
opaque Config.fieldPoly : BitVec 12

/-- The matcher of 03_line_engine.md R77 by profile and rate, and whether pilots take their symbols: the data bits of a frame
after its header, from the information bits after the header. How it maps bits is not stated (log entry 81). -/
opaque Config.shape : Nat → Nat → Bool → List Bool → List Bool

/-- The blocks of the dematcher of 03_line_engine.md R77 by profile and rate, and whether pilots take their symbols: the data bits
that each takes and the information bits that it gives (log entry 81). -/
opaque Config.shapeBlocks : Nat → Nat → Bool → List (Nat × Nat)

/-- The information bits of one block of the dematcher from its data bits, by profile and rate (log entry 81). -/
opaque Config.dematch : Nat → Nat → List Bool → List Bool

/-- The samples that the symbol levels of a lane give, filtered with a root-raised-cosine pulse of a roll-off in 0.01 (03_line_engine.md
R82), by the levels sent before, at most 64, and those sent now; the samples of a lane delayed by the skew corrections of items 6 and 7, by
the samples before, at most 64, and those of now; and tap 0 to 16 of the pre-emphasis filter of a lane, in units of
2^-14, by engine, lane and tap, from the measured DAC response. How fine the pulse and the delay are is not stated (log entry
191). -/
opaque Config.rrcFilter : Nat → List Int → List Int → List Int
opaque Config.skewShift : List Int → Nat → List Int → List Int → List Int
opaque Config.preTap : Nat → Nat → Nat → Int

/-- Symbol levels of the four lanes of a run of coded bits of an interoperable profile, by profile: its mapping lies outside this
specification (log entry 36). -/
opaque Config.interopLevels : Nat → List Bool → List (List Int)

/-- The amplitude bits of an amplitude, the lower one alone on 16QAM (13_calibration.md R454; log entry 81). -/
opaque Config.ampLabel : Nat → BitVec 2

/-- The reliabilities of the last FEC blocks of an interoperable profile, newest first, after the bit order and de-interleaving of
its specification (04_nurnauri_fec.md R144), which lies outside this one (log entry 15). -/
opaque Config.deinterleave : Nat → List (List Int) → List (List Int)

/-- One soft-decision pass over the Hamming code of CFEC, and one iteration over its staircase code, on the blocks held
(04_nurnauri_fec.md R144; log entry 15). -/
opaque Config.hammingSoft : List (List Int) → List (List Int)
opaque Config.staircase : List (List Int) → List (List Int)

/-- One soft-decision and one hard-decision iteration of oFEC on the blocks held (04_nurnauri_fec.md R144; log entry 15). -/
opaque Config.ofecSoft : List (List Int) → List (List Int)
opaque Config.ofecHard : List (List Int) → List (List Int)

/-- What the specification of an interoperable code says of the oldest block that it can finish, by profile, the inputs and the blocks
after the last iteration: its data bits, whether it is correctable, its corrected bits, its bits examined, and those of the
corrected ones that an outer code corrected (04_nurnauri_fec.md R144, R145; log entry 15). -/
opaque Config.interopVerdict : Nat → List (List Int) → List (List Int) → List Bool × Bool × Nat × Nat × Nat

/-- The parity that the staircase code and then the Hamming code of CFEC, and the parity that oFEC, add to the bits of a frame, by
the frames coded before it, newest first; and the order in which a profile's specification sends the coded bits
(04_nurnauri_fec.md R144; log entry 15). -/
opaque Config.staircaseEnc : List (List Bool) → List Bool → List Bool
opaque Config.hammingEnc : List Bool → List Bool
opaque Config.ofecEnc : List (List Bool) → List Bool → List Bool
opaque Config.interleave : Nat → List Bool → List Bool

/-- What the receiver of an interoperable profile reads from the bits of a frame that the own transmitter made (NEAR_DIG,
03_line_engine.md R116): payload, FCC bytes, GID, PID and MAP fields, and the remote defect (log entry 36). -/
opaque Config.interopRead : Nat → List Bool → List Byte × List Byte × List Nat × Bool

/-- What an engine sends as one frame of an interoperable profile (05_line_framing.md R150, R177; 06_tributary_mapping.md R217), by
profile, frame number from the start of the multiframe, the client bytes of each instance with whether local fault is
sent in their place, what they are of each instance (an ordered set, or the length of a frame and whether it is errored), the
remote defect, and the FCC bytes of the multiframe: its format and code lie outside this specification (log entry 36). The bits are
those before the code of that profile (04_nurnauri_fec.md R144). -/
opaque Config.interopFrame : Nat → Nat → List (List Byte × Bool) → List (List (Option Nat × Nat × Bool)) → Bool → List Byte → List Bool

/-- What the section and the shim-to-shim management channels of a FlexE group carry while they are not used: the value is that of the
OIF agreement, outside this specification (06_tributary_mapping.md R215; log entry 194). -/
opaque Config.fxUnused : BitVec 64 × BitVec 64

/-- The client bytes of each instance in the payload of a received interoperable frame, by profile (log entry 36). -/
opaque Config.interopClients : Nat → List Byte → List (List Byte)

/-- The GID, PID and MAP fields of the configured FlexO instances, by profile and the instances that carry a client (log entry
36). -/
opaque Config.flexoIds : Nat → List Nat → List Nat

/-- Coefficient i, from 1 on, in 2^-24, of the low-pass of a dither stage at a setting of dith_dec, the newest product at 0; 12_housekeeping.md
R425 states the band of the filter, and not its coefficients (log entry 201). -/
opaque Config.ditherTap : Nat → Nat → BitVec 24

/-- By how many units of 2^-16 ns the time path moves ToD toward a time error in one second, at a setting of tbw, at the n-th use;
09_timing.md R326 states the bandwidth and the bound of 10 ns, and not the loop (log entry 175). -/
opaque Config.timeLoop : Nat → Nat → Int → Nat

/-- Other values of up to 128 bits that the spec leaves unstated, at the n-th use; each use names its log entry. -/
opaque Config.freeWord : Nat → BitVec 128

/-- Byte of the trail trace identifier an engine sends, by engine × 64 + byte: 05_line_framing.md R160 gives its place
and no register or rule gives its content (log entry 28). -/
opaque Config.trailTrace : Nat → BitVec 8

/-- FCC bytes that one FlexO multiframe carries over all instances, by profile code: 11_host_rings.md R396 leaves the size
to the outside specification and bounds it by 2,048 (log entry 29). -/
opaque Config.fccBytes : Nat → BitVec 11

end Sys2Proof
end

