-- ==== Sys2Proof/Machine/State.lean ====
section
/-! DEFINITION. The state of the block as plain data, and the state right after reset. Every register field of the
map has its home in `State.regs`; the other structures hold the state the chapters describe beside the registers. -/
namespace Sys2Proof.Machine

/-- Why a step stops. No command of this block stops it, so no meaning answers a fault; the type is the host's slot. -/
inductive Fault where
  /-- Raised by no command: a stop the spec never calls for (safe, since it is never taken). -/
  | none
deriving DecidableEq, Repr

/-- Why a command has no meaning. -/
inductive Refusal where
  /-- Raised by an arm of exec for a command that has no meaning yet, by its mnemonic (safe: nothing is claimed). -/
  | notModelled (mnemonic : String)
deriving DecidableEq, Repr

/-- What the die holds in fuses (no reset touches it). -/
structure Fuses where
  /-- which of the two parts this die is (DESIGN CHOICE 1) (00_scope.md R1, R548). -/
  part : Part := .skv9600
  /-- silicon stepping, 4 bits (DESIGN CHOICE 1) (17_register_map.md R548). -/
  stepping : Nat := 1
  /-- 64-bit identity number (DESIGN CHOICE 1) (15_security_and_config.md R492). -/
  devid : Nat := 1
  /-- private half of the identity key, which no path reads (DESIGN CHOICE 44) (15_security_and_config.md R492). -/
  idPriv : Nat := 1
  /-- lifecycle code, first fused copy (BLANK as shipped, R489) (15_security_and_config.md R491). -/
  lc0 : Nat := 0
  /-- lifecycle code, second fused copy (15_security_and_config.md R491). -/
  lc1 : Nat := 0
  /-- lifecycle code, third fused copy (15_security_and_config.md R491). -/
  lc2 : Nat := 0
  /-- VENDOR anchor public key, x then y, 768 bits (DESIGN CHOICE 1) (15_security_and_config.md R489, R494). -/
  vendor : Nat := 0xAA87CA22BE8B05378EB1C71EF320AD746E1D3B628BA79B9859F741E082542A385502F25DBF55296C3A545E3872760AB73617DE4A96262C6F5D9E98BF9292DC29F8F41DBD289A147CE9DA3113B5F0B8C00A60B1CE1D7E819D7A431D7C90EA0E5F
  /-- OWNER anchor public key, none when BLANK (15_security_and_config.md R489, R492). -/
  owner : Option (List Byte) := none
  /-- 256-bit key-encryption key, none when BLANK or RETURNED (15_security_and_config.md R489, R492). -/
  kek : Option Nat := none
  /-- fused rollback floor, 0-255 (DESIGN CHOICE 1) (15_security_and_config.md R506). -/
  rbFloor : Nat := 0
  /-- factory value of every trim instance, key item*1024+instance (DESIGN CHOICE 1: 0) (13_calibration.md R445). -/
  factory : SMap Int := []
  /-- bytes of the QSPI flash; an unlisted byte reads 0xFF, erased (DESIGN CHOICE 2) (11_host_rings.md R405). -/
  flash : List Host.Cell := []
  /-- flash size in bytes by SFDP (DESIGN CHOICE 2) (11_host_rings.md R405). -/
  flashSize : Nat := 268435456
  /-- smallest erase unit SFDP lists (DESIGN CHOICE 2) (11_host_rings.md R405). -/
  eraseUnit : Nat := 4096
deriving DecidableEq, Repr

/-- Levels of the control balls and of the held pads. -/
structure Pins where
  /-- ball PAIR_ACT (08_pair_protection.md R267). -/
  pairAct : Bool := false
  /-- PAIR_ALIVE_OUT toggles; the reset that State.reset is has just been released and boot has not run (R559: low, not toggling) (08_pair_protection.md R268). -/
  aliveOut : Bool := false
  /-- ball PWR_MAIN_EN; high in RUN (14_power_and_cellar.md R464). -/
  mainEn : Bool := true
  /-- engine n's DACs are driven by its transmitter; they hold mid-scale, code 0x80, otherwise (03_line_engine.md R84). -/
  dacOn : SMap Bool := []
  /-- frequency of the clock on ball CLK_OUTk against nominal, 10^-13 (09_timing.md R323). -/
  clkOut : SMap Int := []
  /-- frequency of the CLTX clock of each port against nominal, 10^-13 (09_timing.md R323, R331). -/
  cltx : SMap Int := []
  /-- every SerDes forced to electrical idle by a rail failure (14_power_and_cellar.md R485). -/
  serdesIdle : Bool := false
  /-- level that analog output k drives, none while it is high impedance (12_housekeeping.md R434). -/
  aout : SMap (Option AoutLevel) := []
  /-- TAMPER1, TAMPER0 asserted, 2 bits (14_power_and_cellar.md R479). -/
  tamper : Nat := 0
  /-- well spaced rising edges seen on PAIR_ALIVE_IN (08_pair_protection.md R268). -/
  pairAlive : Nat := 0
deriving DecidableEq, Repr

/-- One boundary-applied value waiting for its SFM (R22). -/
structure Shadow where
  /-- which active setting it will become (01_architecture.md R22). -/
  what : ShadowKey := .rolloff
  /-- the value (01_architecture.md R22). -/
  val : Int := 0
  /-- target PSC in a pair (08_pair_protection.md R282). -/
  target : Option Nat := none
deriving DecidableEq, Repr

/-- One placement map of an engine. -/
structure Slots where
  /-- generation, 12 bits (07_placement.md R242). -/
  gen : Nat := 0
  /-- net rate in 100 Gb/s, 5 bits (07_placement.md R244). -/
  rate : Nat := 0
  /-- slot 0-479 -> tributary and its generation; an unlisted slot is unassigned (07_placement.md R244). -/
  tab : SMap SlotEntry := []
deriving DecidableEq, Repr

/-- Acquisition and readings of one engine beside its registers. -/
structure EngAcq where
  /-- consecutive windows at or above sig_on (03_line_engine.md R86). -/
  sigHi : Nat := 0
  /-- consecutive windows below sig_off (03_line_engine.md R86). -/
  sigLo : Nat := 0
  /-- cd_mode loaded at the entry into the search (03_line_engine.md R101, R104). -/
  cdMode : Nat := 0
  /-- cd_hint loaded there (03_line_engine.md R101, R104). -/
  cdHint : Int := 0
  /-- cd_window loaded there (03_line_engine.md R91, R104). -/
  cdWin : Nat := 4
  /-- compensated dispersion, ps/nm (03_line_engine.md R91, R112). -/
  cdApplied : Int := 0
  /-- mu_acq in use (03_line_engine.md R104). -/
  muAcq : Nat := 6
  /-- fo_range in use (03_line_engine.md R99, R104). -/
  foRange : Nat := 50
  /-- tracking criterion in use (else the acquisition criterion) (03_line_engine.md R96, R101). -/
  trackCrit : Bool := false
  /-- CD, taps, timing and carrier estimates are frozen (03_line_engine.md R101). -/
  frozen : Bool := false
  /-- carrier offset as acquired and tracked, MHz (03_line_engine.md R99). -/
  fo : Int := 0
  /-- the last 10 SNR computations, newest first (03_line_engine.md R107). -/
  snrHist : List Int := []
  /-- the last 10 GMI computations, newest first (03_line_engine.md R107). -/
  gmiHist : List Int := []
  /-- computations since the last restart of the 100 ms window, stops at 10 (03_line_engine.md R109). -/
  winCnt : Nat := 0
  /-- gmi_est in 2^-10 bit (03_line_engine.md R107). -/
  gmiEst : Int := 0
  /-- a passing header was read since the machine left IDLE (03_line_engine.md R108). -/
  hdrRead : Bool := false
  /-- rotation and X/Y order found by the framer, 0-7 (05_line_framing.md R163). -/
  xymRot : Nat := 0
  /-- the 1 ms check after an ENGINE reset is still due (05_line_framing.md R572). -/
  postReset : Bool := false
  /-- the window in progress began before a threshold was written (03_line_engine.md R86). -/
  sigSkip : Bool := false
  /-- dispersion tracked since acquisition, ps/nm (03_line_engine.md R93). -/
  cdTrack : Int := 0
deriving DecidableEq, Repr

/-- FEC of one engine beside its registers. -/
structure EngFec where
  /-- positions encoded since the encoder started afresh, modulo 64 (04_nurnauri_fec.md R121, R146). -/
  encPos : Nat := 0
  /-- coded bits of the last two positions encoded, newest first; none listed: all-zero (04_nurnauri_fec.md R121). -/
  encPrev : List (List Bool) := []
  /-- PRBS31 register of the test stream sent (04_nurnauri_fec.md R146). -/
  txPrbs : Nat := 0x7FFFFFFF
  /-- positions in the decoder's window, oldest first, at most 64 (04_nurnauri_fec.md R125). -/
  win : List FecPos := []
  /-- the two positions that left it last, newest first; none listed: zero reliability (04_nurnauri_fec.md R121, R132). -/
  old : List FecPos := []
  /-- place in the window at which the sweep goes on (04_nurnauri_fec.md R126). -/
  sweep : Nat := 0
  /-- the update engines are clock-gated (04_nurnauri_fec.md R128). -/
  gated : Bool := false
  /-- data passed since the last received frame carried the uncorrectable mark (04_nurnauri_fec.md R134). -/
  marked : Bool := false
  /-- words on the way to the decoder were lost, repeated or in error since the last received frame (01_architecture.md R20). -/
  slipped : Bool := false
  /-- memory of the transmit filters, by lane (03_line_engine.md R82). -/
  lanes : SMap TxLane := []
  /-- positions decoded for the frames that wait: data bits and the marks of the 8 codewords, oldest first (04_nurnauri_fec.md R131, R134). -/
  outQ : List (List Bool × List Bool) := []
  /-- positions of the window that entered it before those of the frames that wait (04_nurnauri_fec.md R125). -/
  skip : Nat := 0
  /-- coded positions that NEAR_DIG hands to the own receive DSP, oldest first, at most 24 (03_line_engine.md R116). -/
  loopPos : List (List Bool) := []
  /-- readings of a window that has ended, until the computation of the same 10 ms shows them (04_nurnauri_fec.md R137, R139). -/
  staged : Option (List Nat) := none
  /-- the last computation closed its window itself: its FEC_WINDOW_END is still to come (04_nurnauri_fec.md R137). -/
  ended : Bool := false
  /-- decoder restarts (mod 2^32) (04_nurnauri_fec.md R132). -/
  restarts : Nat := 0
  /-- start-up positions still to come (04_nurnauri_fec.md R132). -/
  startup : Nat := 64
  /-- positions decoded in this window (04_nurnauri_fec.md R137). -/
  posDec : Nat := 0
  /-- codewords or FEC blocks decoded in this window (04_nurnauri_fec.md R136). -/
  cwDec : Nat := 0
  /-- corrected coded bits in this window (04_nurnauri_fec.md R137). -/
  corr : Nat := 0
  /-- coded bits examined in this window (04_nurnauri_fec.md R137). -/
  exam : Nat := 0
  /-- sum of the iteration counts in this window (04_nurnauri_fec.md R137). -/
  iterSum : Nat := 0
  /-- largest iteration count in this window (04_nurnauri_fec.md R137). -/
  iterPk : Nat := 0
  /-- inner-unsolved positions in this window (04_nurnauri_fec.md R137). -/
  unsolved : Nat := 0
  /-- uncorrectable codewords in this window (04_nurnauri_fec.md R137). -/
  unc : Nat := 0
  /-- bits corrected by the outer code in this window (04_nurnauri_fec.md R137). -/
  outer : Nat := 0
  /-- unc_set in force in this window, 2-8 (04_nurnauri_fec.md R136, R149). -/
  uncSet : Nat := 4
  /-- something in this window makes it invalid (04_nurnauri_fec.md R138). -/
  spoiled : Bool := true
  /-- consecutive valid windows above the set level (04_nurnauri_fec.md R136). -/
  setRun : Nat := 0
  /-- consecutive valid windows at or below the clear level (04_nurnauri_fec.md R136). -/
  clrRun : Nat := 0
  /-- PRBS31 register of the checker (04_nurnauri_fec.md R146). -/
  prbs : Nat := 0x7FFFFFFF
  /-- consecutive sync blocks matched (04_nurnauri_fec.md R146). -/
  hit : Nat := 0
  /-- consecutive sync blocks missed (04_nurnauri_fec.md R146). -/
  miss : Nat := 0
deriving DecidableEq, Repr

/-- One message being encrypted (one locker of one engine, one superframe). -/
structure CipherTx where
  /-- locker (10_cipher.md R347). -/
  locker : Nat := 0
  /-- key of the slot chosen, none when the slot is empty (10_cipher.md R357). -/
  key : Option Nat := none
  /-- kgen of the slot used (10_cipher.md R350). -/
  kgen : Nat := 0
  /-- SC of the message (10_cipher.md R353). -/
  sc : Nat := 0
  /-- 96-bit IV (10_cipher.md R354). -/
  iv : Nat := 0
  /-- 16 bytes of additional data (10_cipher.md R354). -/
  aad : List Byte := []
  /-- ciphertext so far (10_cipher.md R347). -/
  ct : List Byte := []
  /-- a frame of the message is marked invalid or uncorrectable (10_cipher.md R359). -/
  bad : Bool := false
  /-- receive side: 0 decrypted, 1 no key, 2 END clashes, 3 no SC known (10_cipher.md R359). -/
  kind : Nat := 0
  /-- receive side: phase of the slot used (10_cipher.md R357). -/
  phase : Nat := 0
  /-- receive side: 4 ENG + 2 MB + END of the message (10_cipher.md R359). -/
  who : Nat := 0
deriving DecidableEq, Repr

/-- A protection message. -/
structure ProtMsg where
  /-- request code (05_line_framing.md R168). -/
  code : Nat := 0
  /-- sequence number (05_line_framing.md R168). -/
  seq : Nat := 0
  /-- argument (05_line_framing.md R168). -/
  arg : Nat := 0
deriving DecidableEq, Repr

/-- Transmit framer, mapper and cipher of one engine. -/
structure EngTx where
  /-- the transmitter runs and its frame grid stands (framing, R24) (03_line_engine.md R83). -/
  on : Bool := false
  /-- number of the next frame, 0-255 (05_line_framing.md R155). -/
  fn : Nat := 0
  /-- pair superframe count, 32 bits (08_pair_protection.md R281). -/
  psc : Nat := 0
  /-- format level sent (05_line_framing.md R174). -/
  lvl : Nat := 0
  /-- roll-off in force (03_line_engine.md R82, R22). -/
  rolloff : Nat := 1
  /-- end_sel in force (10_cipher.md R356). -/
  endSel : Bool := false
  /-- an accepted far FMT_MAX waits for the next SFM (05_line_framing.md R174). -/
  fmtPend : Option Nat := none
  /-- FMT_MAX sent in this superframe (05_line_framing.md R174, R192). -/
  fmtAdv : Nat := 1
  /-- BIP8 over the payload of the previous frame (05_line_framing.md R159). -/
  bipPrev : Nat := 0
  /-- BEI owed to the next transmitted frame (05_line_framing.md R182). -/
  beiSum : Nat := 0
  /-- message sent (05_line_framing.md R169). -/
  prot : ProtMsg := {}
  /-- its ack has arrived (05_line_framing.md R171). -/
  protAcked : Bool := true
  /-- PROT_ACK_LOST was raised for it (05_line_framing.md R171). -/
  ackLost : Bool := false
  /-- ack field sent (05_line_framing.md R170). -/
  ackOut : Nat := 0
  /-- SFMs up to which SWITCHED is still sent: 8 whole superframes and what is left of the one running at takeover (08_pair_protection.md R306). -/
  swLeft : Nat := 0
  /-- UNPROTECTED is sent (08_pair_protection.md R306). -/
  unprotTx : Bool := false
  /-- TX_SUSPECT is sent (08_pair_protection.md R306). -/
  suspect : Bool := false
  /-- this superframe is a switch superframe (05_line_framing.md R165). -/
  mkNow : Bool := false
  /-- a marker has reached the framer: its generation, and in a pair its target PSC (01_architecture.md R569). -/
  marker : Option (Nat × Option Nat) := none
  /-- the SFM of the superframe whose frame 0 comes next has been sent (05_line_framing.md R155). -/
  sfm : Bool := false
  /-- the first superframe after framing resumes is a switch superframe (01_architecture.md R570). -/
  mkResume : Bool := false
  /-- GCC0 block of this superframe (05_line_framing.md R172). -/
  gcc : List Byte := []
  /-- GCC_VALID of this superframe (05_line_framing.md R160). -/
  gccValid : Bool := false
  /-- time-transfer block of this superframe (09_timing.md R337). -/
  tt : List Byte := []
  /-- OHB_TX blocks waiting, oldest first (11_host_rings.md R396). -/
  ohb : List OhbBlock := []
  /-- transmit map in force (07_placement.md R242). -/
  map : Slots := {}
  /-- next map in the transmit shadows (01_architecture.md R25). -/
  next : Option Slots := none
  /-- messages of this superframe (10_cipher.md R347). -/
  msgs : List CipherTx := []
  /-- messages of the previous superframe (for TAG and KGEN) (10_cipher.md R350). -/
  prev : List CipherTx := []
  /-- frames that NEAR_DIG hands to the own receive DSP, oldest first, at most 4 (03_line_engine.md R116). -/
  loopQ : List (List Byte) := []
  /-- the same on an interoperable profile: whether the frame has multiframe count 0, and its bits (03_line_engine.md R116). -/
  loopI : List (Bool × List Bool) := []
  /-- map that a local transmit stage keeps which mismatched alone, by stage; unlisted: the map in force (01_architecture.md R27). -/
  kept : SMap (Option Slots) := []
  /-- transmit map in force before the last switch (01_architecture.md R27). -/
  mapOld : Slots := {}
  /-- frames handed over by the receiving engine, oldest first (06_tributary_mapping.md R229). -/
  regenQ : List RegenFrame := []
  /-- last frame handed over (06_tributary_mapping.md R229). -/
  regenLast : RegenFrame := {}
  /-- words of the transmit slot streams or samples were lost or repeated since the last frame (01_architecture.md R19, R20). -/
  slip : Bool := false
  /-- D_reg of the last anchoring (06_tributary_mapping.md R229). -/
  dReg : Nat := 0
  /-- boundary-applied values waiting (01_architecture.md R22). -/
  shadows : List Shadow := []
  /-- the transmit clock steer is clamped (09_timing.md R332). -/
  clamped : Bool := false
  /-- frequency of the transmit sample clock against nominal, 10^-13 (09_timing.md R332). -/
  freq : Int := 0
  /-- trim of the transmit clock in SHADOW, 10^-13 (08_pair_protection.md R288, 09_timing.md R332). -/
  steer : Int := 0
  /-- the wake pattern is being sent (14_power_and_cellar.md R471). -/
  wakePat : Bool := false
deriving DecidableEq, Repr

/-- Receive framer, overhead and cipher of one engine. -/
structure EngRx where
  /-- alignment state (05_line_framing.md R163). -/
  st : RxState := .oof
  /-- FN of the last frame (05_line_framing.md R163). -/
  fn : Nat := 0
  /-- consecutive frames that are not good (05_line_framing.md R163). -/
  bad : Nat := 0
  /-- level of the previous frame (05_line_framing.md R158). -/
  lvl : Nat := 1
  /-- in_frame has been 0 for 3 ms (05_line_framing.md R179). -/
  lossRun : Bool := false
  /-- frames of the run toward a change of dAIS (05_line_framing.md R179). -/
  aisRun : Nat := 0
  /-- frames of the run toward a change of dRDI (05_line_framing.md R179). -/
  rdiRun : Nat := 0
  /-- frames of the run toward a change of dBDEG (05_line_framing.md R179). -/
  bdegRun : Nat := 0
  /-- BIP8 computed over the payload of the previous frame (05_line_framing.md R159). -/
  bip : Nat := 0
  /-- that BIP8 is there to compare with (05_line_framing.md R159). -/
  bipOk : Bool := false
  /-- MAP fields of frames 0-2 of this superframe (05_line_framing.md R166). -/
  mks : List MkSeen := []
  /-- KP of frames 0-2 without the uncorrectable mark (10_cipher.md R357). -/
  kps : List Nat := []
  /-- frames read ahead at V3, oldest first, at most 3 (05_line_framing.md R166). -/
  look : List RxPend := []
  /-- frames read at V3 whose positions are still in the decoder, oldest first (01_architecture.md R14). -/
  wait : List RxPend := []
  /-- pilots shown by frames 0-2 (13_calibration.md R457). -/
  pils : List Nat := []
  /-- a late marker of this superframe has been counted (05_line_framing.md R167). -/
  mkCounted : Bool := false
  /-- trail trace of this superframe so far (05_line_framing.md R160). -/
  tti : List Byte := []
  /-- candidate trail trace (05_line_framing.md R161). -/
  ttiCand : List Byte := []
  /-- superframes it has arrived in (05_line_framing.md R161). -/
  ttiRun : Nat := 0
  /-- accepted trail trace (05_line_framing.md R161). -/
  ttiAcc : List Byte := []
  /-- candidate FMT_MAX (05_line_framing.md R161). -/
  fmtCand : Nat := 0
  /-- superframes it has arrived in (05_line_framing.md R161). -/
  fmtRun : Nat := 0
  /-- far FMT_MAX held, 0 none (05_line_framing.md R174). -/
  fmtFar : Nat := 0
  /-- candidate PROT bytes (05_line_framing.md R169). -/
  protCand : List Byte := []
  /-- frames it has arrived in (05_line_framing.md R169). -/
  protRun : Nat := 0
  /-- last accepted message (05_line_framing.md R170). -/
  protLast : Option ProtMsg := none
  /-- messages delivered to the pair logic, oldest first (05_line_framing.md R169). -/
  protQ : List ProtMsg := []
  /-- GCC0 bytes of this superframe so far (05_line_framing.md R173). -/
  gcc : List Byte := []
  /-- a frame of the block carried the mark or was lost (05_line_framing.md R173). -/
  gccBad : Bool := false
  /-- GCC_VALID received in this superframe (05_line_framing.md R173). -/
  gccValid : Bool := false
  /-- MFC bytes of this superframe so far (05_line_framing.md R173). -/
  mfc : List Byte := []
  /-- finished GCC0 block (05_line_framing.md R173). -/
  gccDone : Option RxBlock := none
  /-- finished MFC block (05_line_framing.md R173). -/
  mfcDone : Option RxBlock := none
  /-- received placement-channel block on its way to the Storekeeper (01_architecture.md R12). -/
  placeDone : Option RxBlock := none
  /-- a byte of the time-transfer block of this superframe carried the mark (09_timing.md R338). -/
  ttBad : Bool := false
  /-- received time-transfer block on its way to timing (01_architecture.md R12). -/
  ttDone : Option RxBlock := none
  /-- superframes since the last used time-transfer block, stops at 8 (09_timing.md R340). -/
  ttAge : Nat := 8
  /-- receive SFM time of this superframe (05_line_framing.md R164). -/
  sfmTod : Nat := 0
  /-- receive map in force (07_placement.md R248). -/
  map : Slots := {}
  /-- receive next map (07_placement.md R248). -/
  next : Option Slots := none
  /-- MAN slot table being loaded into the receive shadows (07_placement.md R248). -/
  loading : Option Slots := none
  /-- rate of the superframe being received (03_line_engine.md R81). -/
  rate : Nat := 0
  /-- a passing header gave it (03_line_engine.md R81). -/
  gotRate : Bool := false
  /-- the GID, PID and MAP fields last received match the configured instances (05_line_framing.md R177). -/
  idOk : Bool := true
  /-- per locker: SC_NEXT received in this superframe for the next (10_cipher.md R358). -/
  scNext : SMap (Option ScNext) := []
  /-- per locker: SC_NEXT received in the previous superframe (10_cipher.md R358). -/
  scUse : SMap (Option ScNext) := []
  /-- per locker: SC, MB, END and ENG of the last superframe (10_cipher.md R358). -/
  scPrev : SMap (Option ScNext) := []
  /-- messages of this superframe (10_cipher.md R359). -/
  msgs : List CipherTx := []
  /-- messages of the previous superframe, to be judged (10_cipher.md R359). -/
  prev : List CipherTx := []
  /-- consecutive FAIL messages, by locker (10_cipher.md R360). -/
  failRun : SMap Nat := []
  /-- consecutive PASS messages, by locker (10_cipher.md R360). -/
  passRun : SMap Nat := []
  /-- the messages of the superframe in which the engine entered frame are not formed yet (10_cipher.md R358). -/
  midway : Bool := false
  /-- pilots of the superframe, as pilot_rx (13_calibration.md R457). -/
  pilots : Nat := 0
  /-- superframes since REQ was received, stops at 8 (13_calibration.md R456). -/
  sinceReq : Nat := 8
deriving DecidableEq, Repr

/-- Performance counts of one engine in the interval in progress (R185). -/
structure EngPm where
  /-- BIP8 violations (05_line_framing.md R185). -/
  bip : Nat := 0
  /-- sum of received BEI (05_line_framing.md R185). -/
  bei : Nat := 0
  /-- errored blocks (05_line_framing.md R185). -/
  eb : Nat := 0
  /-- far-end errored blocks (05_line_framing.md R185). -/
  feb : Nat := 0
  /-- defects declared at any time in the interval, as defect_sec (05_line_framing.md R192). -/
  defs : Nat := 0
  /-- consecutive intervals with ses (05_line_framing.md R185). -/
  sesRun : Nat := 0
  /-- consecutive intervals without ses (05_line_framing.md R185). -/
  okRun : Nat := 0
  /-- unavailable time (05_line_framing.md R185). -/
  unav : Bool := false
deriving DecidableEq, Repr

/-- The Storekeeper's own record of one engine. -/
structure EngSk where
  /-- generation last given out (07_placement.md R242). -/
  genLast : Nat := 0
  /-- next transmit map announced in MAN (07_placement.md R244). -/
  man : Option Slots := none
  /-- work of the map being switched: 0 placement, 1 step down, 2 step up, 3 resynchronisation (07_placement.md R249, R261). -/
  work : Nat := 0
  /-- slots booked for the share of a group demand whose other members have taken theirs: slot and tributary (07_placement.md R239, R261). -/
  book : List (Nat × Nat) := []
  /-- step down whose make switches are under way (07_placement.md R252, R259). -/
  plan : Option StepPlan := none
  /-- -1 a step down is wanted, 1 a step up (07_placement.md R256, R257). -/
  want : Int := 0
  /-- local transmit stages that reported the shadow loaded (01_architecture.md R25). -/
  loaded : List MapStage := []
  /-- local transmit stages that reported the map applied (07_placement.md R249). -/
  applied : List MapStage := []
  /-- RXF of the last valid block (07_placement.md R244). -/
  rxf : Nat := 0
  /-- READY of the last valid block, 16 bits (07_placement.md R244). -/
  farReady : Nat := 0
  /-- DONE of the last valid block, 16 bits (07_placement.md R244). -/
  farDone : Option Nat := none
  /-- a marker is outstanding (01_architecture.md R28). -/
  markerOut : Bool := false
  /-- its generation (01_architecture.md R28). -/
  mkGen : Nat := 0
  /-- local transmit stages that have reported it applied or mismatched (01_architecture.md R28). -/
  mkRep : List MapStage := []
  /-- the far end has reported it applied or mismatched (01_architecture.md R28). -/
  mkFar : Bool := false
  /-- its mismatches at the local stages have been counted (01_architecture.md R27). -/
  mkCnt : Bool := false
  /-- bytes 0 to 19 of the last valid block (08_pair_protection.md R305). -/
  lastBlk : List Byte := []
  /-- consecutive valid blocks, stops at 8 (07_placement.md R245). -/
  okRun : Nat := 0
  /-- last RSEQ received (07_placement.md R255). -/
  rseq : Option Nat := none
  /-- RSEQ sent (07_placement.md R244). -/
  ownRseq : Nat := 0
  /-- LEn_MARGIN as reported to the Storekeeper (03_line_engine.md R111). -/
  ownMargin : Nat := 0
  /-- LEn_FEC_WIN0 as reported to the Storekeeper (04_nurnauri_fec.md R139). -/
  ownWin0 : Nat := 0xFFFF
  /-- LEn_FEC_WIN1 to LEn_FEC_WIN3 as reported to the Storekeeper (04_nurnauri_fec.md R139). -/
  ownWin : List Nat := []
  /-- consecutive readings below dn_thr (07_placement.md R256). -/
  snrDwell : Nat := 0
  /-- consecutive readings with gmi_margin < 0 (07_placement.md R256). -/
  gmiDwell : Nat := 0
  /-- consecutive readings of the decoder trigger (07_placement.md R256). -/
  decDwell : Nat := 0
  /-- consecutive readings that allow a step up (07_placement.md R257). -/
  upDwell : Nat := 0
  /-- readings since the last step (07_placement.md R257). -/
  hold : Nat := 0
  /-- PLACE_FLOOR was raised for this condition (07_placement.md R260). -/
  floored : Bool := false
  /-- the first work when the level sent returns to 3 is a resynchronisation (05_line_framing.md R175). -/
  resync : Bool := false
  /-- in SHADOW: the next map of the ACTIVE is to be a resynchronisation (07_placement.md R250, R263). -/
  expect : Bool := false
deriving DecidableEq, Repr

/-- One line engine LEn. -/
structure Engine where
  /-- acquisition (03_line_engine.md R101). -/
  acq : EngAcq := {}
  /-- FEC (04_nurnauri_fec.md R136). -/
  fec : EngFec := {}
  /-- transmit side (05_line_framing.md R151). -/
  tx : EngTx := {}
  /-- receive side (05_line_framing.md R163). -/
  rx : EngRx := {}
  /-- performance counts (05_line_framing.md R185). -/
  pm : EngPm := {}
  /-- Storekeeper (07_placement.md R249). -/
  sk : EngSk := {}
deriving DecidableEq, Repr

/-- One client port. -/
structure Port where
  /-- settings in force (type, width, lane mode, FlexE head, ODU rate) (02_modes.md R37). -/
  cfg : PortCfg := {}
  /-- local fault or ODU-AIS is sent toward the line (06_tributary_mapping.md R230). -/
  txLf : Bool := false
  /-- CLTX divider offset from nominal, ppb (09_timing.md R331). -/
  ratio : Int := 0
  /-- words of the client receive stream were lost or repeated since the last frame (01_architecture.md R19, R20). -/
  slip : Bool := false
  /-- calendar in use of a FlexE group, kept at its head: rate of each client, Gb/s (06_tributary_mapping.md R215). -/
  cal : SMap Nat := []
  /-- the other calendar of the group (06_tributary_mapping.md R215). -/
  calNext : SMap Nat := []
  /-- calendar B is in use (else A): the C bits that CR and CA agreed on (06_tributary_mapping.md R215). -/
  calB : Bool := false
deriving DecidableEq, Repr

/-- One tributary. -/
structure Trib where
  /-- settings in force (source, FlexE client, carrier) (02_modes.md R37). -/
  cfg : TribCfg := {}
  /-- locker binding in force (10_cipher.md R364). -/
  bind : Option Nat := none
  /-- container bytes waiting: blocks ready to be sent, oldest first (06_tributary_mapping.md R204). -/
  q : List Byte := []
  /-- ordered set being repeated toward the line (06_tributary_mapping.md R206). -/
  oset : Option Nat := none
  /-- block delineation state (06_tributary_mapping.md R210). -/
  dlm : DlmState := .hunt
  /-- the frame in progress is errored (06_tributary_mapping.md R210). -/
  err : Bool := false
  /-- cm of the last GMP word sent, 0 none yet (06_tributary_mapping.md R213). -/
  cmTx : Nat := 0
  /-- cm of the previous frame received (06_tributary_mapping.md R214). -/
  cmRx : Nat := 0
  /-- cnd of the previous frame received (06_tributary_mapping.md R214). -/
  cndRx : Nat := 0
  /-- consecutive GMP words that failed (06_tributary_mapping.md R214). -/
  gmpBad : Nat := 0
  /-- consecutive good GMP words while in gmp_loss (06_tributary_mapping.md R214). -/
  gmpGood : Nat := 0
  /-- gmp_loss (06_tributary_mapping.md R214). -/
  gmpLoss : Bool := false
  /-- FlexE client rate, Gb/s, from the calendar in use (06_tributary_mapping.md R216). -/
  fxRate : Nat := 0
  /-- PLACE_TRIBn_POL as the tributary was placed (07_placement.md R236). -/
  pol : Nat := 0
  /-- group that carries it as placed (06_tributary_mapping.md R218). -/
  grp : Option Nat := none
  /-- phase of the nominal cm sent with ODU-AIS, 10^-7 bit (06_tributary_mapping.md R230). -/
  gmpAcc : Nat := 0
  /-- bytes of the frame in progress at egress (06_tributary_mapping.md R211). -/
  frm : List Byte := []
  /-- container bytes received and not yet demapped, oldest first, each with the mark of the stages before (06_tributary_mapping.md R210, R213). -/
  rxQ : List (Byte × Bool) := []
  /-- lengths of the container frames of a GMP tributary received and not yet demapped, oldest first (06_tributary_mapping.md R202, R214). -/
  rxLen : List Nat := []
  /-- client bits that its GMP words placed since the divider began to follow them (06_tributary_mapping.md R214). -/
  gmpSum : Nat := 0
  /-- container frames of those words (06_tributary_mapping.md R214). -/
  gmpCnt : Nat := 0
  /-- what waits for the mapping of an interoperable profile, oldest first: an ordered set, or the length of a frame and whether it is errored (06_tributary_mapping.md R217). -/
  ozSeq : List (Option Nat × Nat × Bool) := []
  /-- the frame in progress is dropped (06_tributary_mapping.md R211). -/
  drop : Bool := false
  /-- interoperable engine that carries it on one of its instances (02_modes.md R44). -/
  oz : Option Nat := none
  /-- last ordered set received from the line (06_tributary_mapping.md R211). -/
  rxOset : Option Nat := none
  /-- FlexO instance of an interoperable engine that carries it (02_modes.md R44). -/
  ozInst : Nat := 0
  /-- words of its receive slot stream were lost or repeated since the last word taken (01_architecture.md R19, R20). -/
  slip : Bool := false
  /-- displaced or shed: unplaced although maps in force still give it slots (05_line_framing.md R175, 07_placement.md R241, R259). -/
  unpl : Bool := false
deriving DecidableEq, Repr

/-- Group tag record of one member engine. -/
structure Member where
  /-- last GF number read (06_tributary_mapping.md R222). -/
  last : Option Nat := none
  /-- consecutive good tags (06_tributary_mapping.md R222). -/
  good : Nat := 0
  /-- consecutive bad tags (06_tributary_mapping.md R222). -/
  bad : Nat := 0
  /-- aligned (06_tributary_mapping.md R222). -/
  ok : Bool := false
deriving DecidableEq, Repr

/-- One concatenated group. -/
structure Grp where
  /-- member engines (06_tributary_mapping.md R222). -/
  mem : SMap Member := []
  /-- next GF number to send, 24 bits (06_tributary_mapping.md R220). -/
  gf : Nat := 0
  /-- GF numbers and shares formed and not yet sent, oldest first, by member engine (06_tributary_mapping.md R219). -/
  share : SMap (List (Nat × List Byte)) := []
  /-- GF numbers and shares received and not yet joined, oldest first, by member engine (06_tributary_mapping.md R221, R222). -/
  rxShare : SMap (List (Nat × List (Byte × Bool))) := []
  /-- GF number of the last share received, by member engine (06_tributary_mapping.md R220, R222). -/
  rxGf : SMap (Option Nat) := []
  /-- skew_meas has stayed low (06_tributary_mapping.md R227). -/
  low : Bool := false
deriving DecidableEq, Repr

/-- One key slot of a locker. -/
structure KeySlot where
  /-- the 256-bit key, none when empty (10_cipher.md R362). -/
  key : Option Nat := none
  /-- key generation (10_cipher.md R362). -/
  kgen : Nat := 0
  /-- last SC accepted under this key + 1, by ENG, MB and END of the sender: 4 eng + 2 mb + end (10_cipher.md R359). -/
  last : SMap Nat := []
deriving DecidableEq, Repr

/-- One cipher locker beside its registers. -/
structure Locker where
  /-- slot CUR (10_cipher.md R362). -/
  cur : KeySlot := {}
  /-- slot NXT (10_cipher.md R362). -/
  nxt : KeySlot := {}
  /-- SC for each engine, 48 bits (10_cipher.md R353). -/
  sc : SMap Nat := []
deriving DecidableEq, Repr

/-- One ring beside its context registers. -/
structure RingSt where
  /-- descriptors fetched, not yet started, oldest first (11_host_rings.md R388). -/
  fetched : List Desc := []
  /-- RX_BUF buffers posted, oldest first (11_host_rings.md R397). -/
  rxq : List Desc := []
  /-- completions of this SQ that wait for an earlier count (11_host_rings.md R394). -/
  held : List Cpl := []
  /-- count of the next descriptor of this SQ to complete, 16 bits (11_host_rings.md R394). -/
  nextCpl : Nat := 0
  /-- entries waiting to be written to this CQ, oldest first (11_host_rings.md R400). -/
  cplq : List Cpl := []
  /-- event records dropped since the last overflow record (11_host_rings.md R400). -/
  dropped : Nat := 0
  /-- entries written since the last message of this CQ (11_host_rings.md R403). -/
  pend : Nat := 0
  /-- enabled by a PCIe request (11_host_rings.md R392). -/
  byPcie : Bool := false
deriving DecidableEq, Repr

/-- Host interface beside its registers. -/
structure HostSt where
  /-- gen of the last successful enable + 1 by ring; unlisted: none (COLD domain) (17_register_map.md R546). -/
  genRec : SMap Nat := []
  /-- flash commands in execution, of different SQs (11_host_rings.md R394, R405). -/
  flashOps : List FlashOp := []
  /-- I3C transfers in execution, of different SQs (11_host_rings.md R394, 12_housekeeping.md R440). -/
  i3cOps : List I3cOp := []
  /-- MSI-X function mask (11_host_rings.md R404). -/
  maskAll : Bool := false
  /-- vectors whose mask bit is 0 (a vector is masked at reset, PRESUMED 3) (11_host_rings.md R404). -/
  unmasked : SMap Bool := []
  /-- pending bits (11_host_rings.md R404). -/
  msixPend : SMap Bool := []
  /-- MSI-X table address and data words, entry v word w at 4v + w (DESIGN CHOICE 0) (11_host_rings.md R375). -/
  msixTab : SMap Nat := []
  /-- place of the SQ last served in the round in progress, 0: none yet (11_host_rings.md R390). -/
  turn : Nat := 0
  /-- seq of the last TIME_SAMPLE accepted (11_host_rings.md R398). -/
  ref10Seq : Option Nat := none
deriving DecidableEq, Repr

/-- Mode transitions. -/
structure ModeSt where
  /-- the last 8 MODE_SET, newest first (02_modes.md R38). -/
  mem : List Remembered := []
  /-- the last 8 POWER_SET, newest first (14_power_and_cellar.md R465). -/
  pwrMem : List Remembered := []
  /-- the last 8 PAIR_SWITCH, newest first (08_pair_protection.md R302). -/
  swMem : List Remembered := []
  /-- the transition in progress (02_modes.md R63). -/
  tr : Option Transition := none
  /-- a mode is held and no traffic flows (02_modes.md R71). -/
  held : Bool := false
  /-- a held mode waits to be resumed after a wake (02_modes.md R71). -/
  resume : Bool := false
  /-- every unplaced demand is to be tried again (07_placement.md R241). -/
  retry : Bool := false
deriving DecidableEq, Repr

/-- What the last valid HB cell said. -/
structure Peer where
  /-- a valid HB has arrived (08_pair_protection.md R271). -/
  seen : Bool := false
  /-- role of the peer (08_pair_protection.md R271). -/
  role : Nat := 0
  /-- mode of the peer (08_pair_protection.md R271). -/
  mode : Nat := 0
  /-- hb_seq (08_pair_protection.md R271). -/
  seq : Nat := 0
  /-- part code (08_pair_protection.md R271). -/
  variant : Nat := 0
  /-- fl_run (08_pair_protection.md R271). -/
  flRun : Nat := 0
  /-- fl_floor (08_pair_protection.md R271). -/
  flFloor : Nat := 0
  /-- health (08_pair_protection.md R271). -/
  health : Nat := 0
  /-- mir_ack (08_pair_protection.md R271). -/
  mirAck : Nat := 0
  /-- cmd_ack (08_pair_protection.md R271). -/
  cmdAck : Nat := 0
  /-- eng_ok (08_pair_protection.md R271). -/
  engOk : Nat := 0
  /-- port_ok, 64 bits (08_pair_protection.md R271). -/
  portOk : Nat := 0
  /-- fo_est of LE0-LE3 (08_pair_protection.md R271). -/
  fo : List Int := []
deriving DecidableEq, Repr

/-- Pair link beside its registers. -/
structure PairSt where
  /-- hb_seq of the next tick (08_pair_protection.md R271). -/
  hbSeq : Nat := 0
  /-- hb_lost (08_pair_protection.md R272). -/
  hbLost : Bool := true
  /-- consecutive 2 us periods with a valid HB (08_pair_protection.md R272). -/
  hbRun : Nat := 0
  /-- the peer (08_pair_protection.md R271). -/
  peer : Peer := {}
  /-- member bit of this member (10_cipher.md R355). -/
  pos : Nat := 0
  /-- identity number of the peer (10_cipher.md R355). -/
  peerDevid : Nat := 0
  /-- OWNER anchor of the peer (15_security_and_config.md R503). -/
  peerOwner : List Byte := []
  /-- pair transport key (15_security_and_config.md R503). -/
  key : Option Nat := none
  /-- mir_seq of the next MIR (starts at 1, DESIGN CHOICE) (08_pair_protection.md R278). -/
  mirSeq : Nat := 1
  /-- unacknowledged MIR cells, oldest first (08_pair_protection.md R280). -/
  mirOut : List MirOut := []
  /-- highest mir_seq applied in order (08_pair_protection.md R279). -/
  mirIn : Nat := 0
  /-- MIR cells received after a gap, by mir_seq (08_pair_protection.md R279). -/
  mirHeld : SMap MirCell := []
  /-- mode of the ACTIVE as mirrored (08_pair_protection.md R297, R305). -/
  mirMode : Nat := 0
  /-- role of the ACTIVE as mirrored (08_pair_protection.md R305). -/
  mirRole : Nat := 1
  /-- bytes of an unfinished change record (08_pair_protection.md R305). -/
  mirBuf : List Byte := []
  /-- target PSC of the record being assembled (08_pair_protection.md R282). -/
  mirTgt : Nat := 0
  /-- engine of the record being assembled (08_pair_protection.md R278). -/
  mirEng : Nat := 255
  /-- the mirror is applied (08_pair_protection.md R289). -/
  loaded : Bool := false
  /-- ready was cleared by a late message (08_pair_protection.md R283). -/
  late : Bool := false
  /-- BULK image received so far (08_pair_protection.md R304). -/
  bulkRx : List Byte := []
  /-- next fragment expected (08_pair_protection.md R304). -/
  bulkNext : Nat := 0
  /-- a BULK load is being sent (08_pair_protection.md R280). -/
  bulkTx : Bool := false
  /-- base_seq of the load (08_pair_protection.md R304). -/
  bulkBase : Nat := 0
  /-- cmd_seq of the next CMD (starts at 1, DESIGN CHOICE) (08_pair_protection.md R303). -/
  cmdSeq : Nat := 1
  /-- unacknowledged CMD (08_pair_protection.md R303). -/
  cmdOut : Option CmdOut := none
  /-- cmd_seq last accepted (08_pair_protection.md R303). -/
  cmdIn : Option Nat := none
  /-- result of that CMD (08_pair_protection.md R303). -/
  cmdRes : Nat := 0
  /-- FORCE in force (08_pair_protection.md R293). -/
  force : Bool := false
  /-- ready is kept 0 after FORCE or MANUAL (08_pair_protection.md R301). -/
  hold1s : Bool := false
  /-- a valid DYING has been received (08_pair_protection.md R294). -/
  dying : Bool := false
  /-- DYING has been sent (08_pair_protection.md R268). -/
  dyingTx : Bool := false
  /-- engines whose df_n is valid (08_pair_protection.md R287). -/
  dfV : Nat := 0
  /-- fine tuning commanded so far, MHz, by engine (08_pair_protection.md R287). -/
  tune : SMap Int := []
  /-- cell_id of the next TIME cell (09_timing.md R345). -/
  cellId : Nat := 0
  /-- cell_id and departure time of the last TIME cells sent, newest first, at most 8 (09_timing.md R345). -/
  deps : List (Nat × Nat) := []
  /-- cell_id of the newest TIME cell of the peer (09_timing.md R345). -/
  peerCell : Nat := 0
  /-- its arrival time (09_timing.md R345). -/
  peerArr : Nat := 0
  /-- engine of the next TIME cell (09_timing.md R345). -/
  tcEng : Nat := 0
  /-- transmit SFM time by engine (09_timing.md R345). -/
  txSfm : SMap Nat := []
  /-- PSC of that SFM by engine (09_timing.md R345). -/
  sfmPsc : SMap Nat := []
  /-- the keys of each locker as last mirrored (08_pair_protection.md R289). -/
  mirLock : SMap Locker := []
  /-- engines whose transmit map the image being applied has given (08_pair_protection.md R304, R305). -/
  bulkMaps : List Nat := []
  /-- 2 us ticks for which a mirror message has been outstanding, stops at 8 (08_pair_protection.md R289). -/
  gap : Nat := 0
  /-- engines whose PSC has been set since the entry to SHADOW (08_pair_protection.md R281). -/
  pscSet : SMap Bool := []
  /-- cause of faulted: 1 COMPARE, 2 TX, 3 LOCAL, 4 takeover by R294 (08_pair_protection.md R301, R304). -/
  cause : Nat := 0
  /-- ticks since the image was last sent (08_pair_protection.md R304). -/
  bulkTick : Nat := 0
  /-- mir_seq + 1 of the last MIR cell of the map last mirrored, by engine (07_placement.md R263). -/
  mapSeq : SMap Nat := []
  /-- the mirrored register fields as the mirror gives them, by field code (02_modes.md R57). -/
  mirRegs : SMap Nat := []
  /-- words of the bridged payload were lost or repeated since the last copy taken (01_architecture.md R19, R20). -/
  slip : Bool := false
  /-- bytes of the copies in use that the mapper takes, by bridge entry (08_pair_protection.md R292). -/
  copyQ : SMap (List Byte) := []
  /-- policies and groups as placed that the image being received carries (08_pair_protection.md R304, R305). -/
  bulkPlaced : List (Nat × Nat) := []
  /-- times the image under way has been sent (08_pair_protection.md R273). -/
  bulkSends : Nat := 0
  /-- entries in use that do not fit (08_pair_protection.md R291). -/
  bridgeOut : SMap Bool := []
  /-- the fault for which this member last yielded with cause LOCAL, where it can stand on: 0 a clock, 1 the transmit path of an engine, 2 a client transmit lane (08_pair_protection.md R301, R308). -/
  fault : Option (Nat × Nat) := none
  /-- local-only failures of this SHADOW that have stood for 20 us (08_pair_protection.md R307). -/
  shFault : List YieldObs := []
  /-- next maps computed from the mirrored inputs and not yet compared: engine, map, work (07_placement.md R263). -/
  mirPass : List (Nat × Slots × Nat) := []
deriving DecidableEq, Repr

/-- One reference input beside its registers. -/
structure RefSt where
  /-- qualified since the last WARM reset (09_timing.md R319). -/
  ever : Bool := false
  /-- measured offset, ppb (09_timing.md R318). -/
  freq : Int := 0
  /-- last PPS time error, 25 ps units (09_timing.md R316). -/
  phase : Int := 0
  /-- quality advertised by the far end or the samples (09_timing.md R315). -/
  adv : Nat := 15
  /-- the time-transfer channel is received on this engine (REF6-REF9) (09_timing.md R315). -/
  rxOk : Bool := false
  /-- what slews and steps had moved ToD by when the time error of this input was last measured, 2^-16 ns (09_timing.md R326). -/
  movedAt : Int := 0
  /-- last REF10 offset, 2^-16 ns (09_timing.md R317). -/
  sample : Int := 0
deriving DecidableEq, Repr

/-- One of DPLL1-DPLL5 beside its registers. -/
structure DpllSt where
  /-- by how much completed phase steps have moved the output, ps (09_timing.md R330). -/
  phase : Int := 0
  /-- phase step remainder, ps (09_timing.md R330). -/
  rem : Int := 0
  /-- last 1 s average, 10^-13 (09_timing.md R329). -/
  freq : Int := 0
  /-- ToD up to which the movement of the output phase stands in the remainder (09_timing.md R330). -/
  since : Nat := 0
deriving DecidableEq, Repr

/-- The holdover model. -/
structure Model where
  /-- the model is valid (09_timing.md R333). -/
  valid : Bool := false
  /-- mean frequency, 10^-13 (09_timing.md R333). -/
  mean : Int := 0
  /-- drift, 10^-18 per second (09_timing.md R333). -/
  drift : Int := 0
deriving DecidableEq, Repr

/-- Timing beside its registers. -/
structure TimSt where
  /-- time of day in 2^-16 ns, below 2^48 s (48-bit seconds, 30-bit ns, 16-bit fraction) (09_timing.md R310). -/
  tod : Nat := 0
  /-- seconds captured by tod_set (09_timing.md R314). -/
  setPend : Option Nat := none
  /-- seconds latched by a read of TIM_TOD_NS (09_timing.md R346). -/
  latched : Nat := 0
  /-- the seconds registers return a latched value (09_timing.md R346). -/
  hasLatch : Bool := false
  /-- reference inputs (09_timing.md R315). -/
  ref : SMap RefSt := []
  /-- DPLL1-DPLL5, by k (09_timing.md R329). -/
  dpll : SMap DpllSt := []
  /-- output frequency of DPLL0 against XO_IN nominal, 10^-13 (09_timing.md R324). -/
  freq0 : Int := 0
  /-- last 1 s average of DPLL0 (09_timing.md R324). -/
  avg0 : Option Int := none
  /-- by how much slews and steps have moved ToD, 2^-16 ns (09_timing.md R326, R327). -/
  moved : Int := 0
  /-- the output still moves to the input that freq_src changed to (09_timing.md R325). -/
  build : Bool := false
  /-- by how much the time path slews ToD over the second in progress, 2^-16 ns (09_timing.md R326). -/
  slew : Int := 0
  /-- model being learned (09_timing.md R333). -/
  model : Model := {}
  /-- frequency of DPLL0 in each of the last 1,000 s of learning, newest first, 10^-13 (09_timing.md R333). -/
  hist : List Int := []
  /-- means of the runs of 1,000 s learned over up to 7 days, newest first, at most 604 (09_timing.md R333). -/
  blocks : List Int := []
  /-- seconds of learning without a break (09_timing.md R333). -/
  learnS : Nat := 0
  /-- REF11's last 1 s mean of theta, 2^-16 ns (09_timing.md R340). -/
  theta : Int := 0
  /-- seconds since entry to HOLDOVER (09_timing.md R334). -/
  entry : Nat := 0
  /-- hold timer, seconds (09_timing.md R336). -/
  holdS : Nat := 0
  /-- samples of this second, 2 theta in 2^-16 ns (09_timing.md R340). -/
  samples : List Int := []
  /-- delta tau in use, 2^-16 ns (09_timing.md R341). -/
  dtau : Int := 0
  /-- NU_TX of the far end, MHz (09_timing.md R337). -/
  farNu : Nat := 0
  /-- CD_RX of the far end (09_timing.md R337). -/
  farCd : Int := 0
  /-- its validity (09_timing.md R337). -/
  farCdV : Bool := false
  /-- an odd block has been received (09_timing.md R340). -/
  oddSeen : Bool := false
  /-- last dispersion pair valid at both ends (09_timing.md R341). -/
  cdGood : Option (Int × Int) := none
  /-- REF11 discards its samples (09_timing.md R342). -/
  discard : Bool := false
  /-- last 64 transmit stamps, by engine (09_timing.md R338). -/
  txSt : SMap (List Stamp) := []
  /-- last 64 receive stamps, by engine (09_timing.md R338). -/
  rxSt : SMap (List Stamp) := []
  /-- instant of the last PM boundary (05_line_framing.md R187). -/
  pmPrev : Nat := 0
  /-- last PM_SYNC edge acted on (05_line_framing.md R191). -/
  pmEdge : Option Nat := none
  /-- ToD right after the step that fell in the interval in progress (05_line_framing.md R187). -/
  stepAt : Option Nat := none
deriving DecidableEq, Repr

/-- One housekeeping channel beside its registers. -/
structure HkCh where
  /-- active linearization bank, point k -> y (12_housekeeping.md R429). -/
  lin : SMap Int := []
  /-- a lin_commit waits (12_housekeeping.md R429). -/
  linPend : Bool := false
  /-- sinc outputs still SETTLING (12_housekeeping.md R427). -/
  settle : Nat := 0
  /-- words since the last decimator reset, mod 8 (12_housekeeping.md R430). -/
  seq : Nat := 0
  /-- consecutive bad excitation readings (12_housekeeping.md R414). -/
  excBad : Nat := 0
  /-- consecutive good readings (12_housekeeping.md R414). -/
  excGood : Nat := 0
  /-- the clamp has conducted since the last word or decimator reset (12_housekeeping.md R416). -/
  clampWin : Bool := false
  /-- further words whose windows reach back to where the clamp conducted (12_housekeeping.md R416). -/
  clampTail : Nat := 0
  /-- gain of the slot in progress (12_housekeeping.md R417). -/
  gainUse : Nat := 0
  /-- sinc order N of the slot in progress (12_housekeeping.md R417). -/
  nUse : Nat := 3
  /-- averager length M of the slot in progress (12_housekeeping.md R417). -/
  mUse : Nat := 1
  /-- decimation D of the slot in progress (12_housekeeping.md R417). -/
  dUse : Nat := 256
  /-- C_f of the slot in progress in pF, 1 in voltage mode (12_housekeeping.md R411, R417). -/
  capUse : Nat := 1
  /-- products of the last 4E sinc outputs with the tone's cosine and sine, newest first (12_housekeeping.md R425). -/
  mix : List (Int × Int) := []
  /-- sinc outputs since the decimator reset at which the tone restarted (12_housekeeping.md R425). -/
  ncoN : Nat := 0
  /-- sinc outputs until the dither stage holds none that is SETTLING (12_housekeeping.md R427). -/
  dLeft : Nat := 0
  /-- VAL and the dither registers hold what a read of RAW latched (12_housekeeping.md R430). -/
  latched : Bool := false
  /-- last word delivered (12_housekeeping.md R430). -/
  word : HkWord := {}
  /-- new settings wait for the slot to run again (12_housekeeping.md R421). -/
  apply : Bool := false
deriving DecidableEq, Repr

/-- One detector beside its registers. -/
structure Det where
  /-- words used in this window (12_housekeeping.md R431). -/
  n : Nat := 0
  /-- largest |value| so far (12_housekeeping.md R431). -/
  peak : Int := 0
  /-- sum of squares so far (12_housekeeping.md R431). -/
  sq : Nat := 0
  /-- envelope (12_housekeeping.md R431). -/
  env : Int := 0
  /-- words since the last result out of range (12_housekeeping.md R431). -/
  clean : Nat := 0
deriving DecidableEq, Repr

/-- One I3C target beside its registers. -/
structure I3cTgt where
  /-- 100 ms polls since the index became free, stops at 10 (12_housekeeping.md R439). -/
  freed : Nat := 10
  /-- consecutive GETSTATUS NACKs (12_housekeeping.md R438). -/
  nacks : Nat := 0
deriving DecidableEq, Repr

/-- Housekeeping beside its registers. -/
structure HkSt where
  /-- channels (12_housekeeping.md R411). -/
  ch : SMap HkCh := []
  /-- detectors (12_housekeeping.md R431). -/
  det : SMap Det := []
  /-- I3C targets (12_housekeeping.md R439). -/
  tgt : SMap I3cTgt := []
  /-- a regular sequence is running (12_housekeeping.md R418). -/
  reg : Bool := false
  /-- an injected sequence is running (12_housekeeping.md R419). -/
  inj : Bool := false
  /-- slot in progress of the sequence running (12_housekeeping.md R417). -/
  slot : Nat := 0
  /-- words the slot still delivers (12_housekeeping.md R417). -/
  left : Nat := 0
  /-- regular slot cut by the injected sequence (12_housekeeping.md R419). -/
  cut : Option Nat := none
  /-- a start is held (12_housekeeping.md R420). -/
  startHeld : Bool := false
  /-- seq_stop acts at the end of the slot (12_housekeeping.md R420). -/
  stopReq : Bool := false
  /-- the pass-end idle slot is in progress (12_housekeeping.md R418). -/
  endIdle : Bool := false
  /-- channel of the SKV-3200 rotation (12_housekeeping.md R433). -/
  compatCh : Nat := 0
  /-- next calibration point (13_calibration.md R447). -/
  calPt : Nat := 0
  /-- a calibration slot is in progress (13_calibration.md R447). -/
  calSlot : Bool := false
  /-- item and instance of the point that the last calibration slot has measured, until its estimate (13_calibration.md R447). -/
  calDone : Option (Nat × Nat) := none
  /-- hot-join is enabled on the bus (12_housekeeping.md R438). -/
  hjOn : Bool := false
deriving DecidableEq, Repr

/-- Calibration beside its registers. -/
structure CalSt where
  /-- active trims, difference from the factory value, key 65536 engine + 1024 item + instance, engine 0 for housekeeping items (13_calibration.md R445). -/
  act : SMap Int := []
  /-- last estimate of each instance (13_calibration.md R448). -/
  last : SMap Int := []
  /-- consecutive close estimates of each instance (13_calibration.md R448). -/
  conv : SMap Nat := []
  /-- consecutive rejects of each instance (13_calibration.md R450). -/
  rej : SMap Nat := []
  /-- housekeeping trims waiting for an idle slot or filter frame (13_calibration.md R452, R453). -/
  hkPend : List (Nat × Int) := [] 
  /-- consecutive comparisons beyond 1.0 % (13_calibration.md R444). -/
  refRun : Nat := 0
  /-- CAL_FORCE_DONE is still to be raised (13_calibration.md R461). -/
  forceWait : Bool := false
  /-- items still in a forced calibration, 16 engine + item (engine 4: housekeeping) (13_calibration.md R461). -/
  force : List Nat := []
  /-- pilots have arrived for the request, by engine (13_calibration.md R459). -/
  pilotSeen : SMap Bool := []
  /-- CAL_EST_STUCK was raised in this lock, by engine (13_calibration.md R460). -/
  estStuck : SMap Bool := []
deriving DecidableEq, Repr

/-- Power controller beside its registers. -/
structure PwrSt where
  /-- power state being entered (14_power_and_cellar.md R466). -/
  entry : Option Nat := none
  /-- power state being left (14_power_and_cellar.md R466). -/
  exitFrom : Option Nat := none
  /-- a wake was latched during an entry (14_power_and_cellar.md R472). -/
  wakeLat : Bool := false
  /-- the rail-failure sequence has run (14_power_and_cellar.md R485). -/
  failed : Bool := false
  /-- failed starts (18_pins_and_electrical.md R556). -/
  tries : Nat := 0
  /-- stage of a power-up: 0 none, 1 VDD_IO in range, 2 VDD_SRAM in range (18_pins_and_electrical.md R555). -/
  up : Nat := 0
  /-- RESET_N began it (18_pins_and_electrical.md R557). -/
  upPin : Bool := false
  /-- RTC count at which VDD_SRAM left in OFF (18_pins_and_electrical.md R558). -/
  sramOff : Option Nat := none
  /-- an exit from MOTHBALL is still to load ToD (14_power_and_cellar.md R483). -/
  todDue : Bool := false
  /-- SEC_TAMPER_PURGE is due at the next RUN (15_security_and_config.md R502). -/
  tamperPurge : Bool := false
  /-- register writes waiting for their clock in NAP: requester, address, word, oldest first (17_register_map.md R542). -/
  clockQ : List (Requester × Nat × Nat) := []
deriving DecidableEq, Repr

/-- One entry of the cellar alarm log. -/
structure LogEntry where
  /-- RTC count (14_power_and_cellar.md R478). -/
  rtc : Nat := 0
  /-- from VBAT_CELLAR alone (14_power_and_cellar.md R478). -/
  onBat : Bool := false
  /-- reported (14_power_and_cellar.md R478). -/
  reported : Bool := false
  /-- code (14_power_and_cellar.md R478). -/
  code : Nat := 0
  /-- argument (14_power_and_cellar.md R478). -/
  arg : Nat := 0
deriving DecidableEq, Repr

/-- The cellar beside its registers. -/
structure CelSt where
  /-- RTC, 47 bits (14_power_and_cellar.md R477). -/
  rtc : Nat := 0
  /-- alarm log, oldest first, at most 64 (14_power_and_cellar.md R478). -/
  log : List LogEntry := []
  /-- holdover model (14_power_and_cellar.md R476). -/
  model : Model := {}
  /-- MOTHBALL entry record C_e, T_e (14_power_and_cellar.md R482). -/
  entryRec : Option (Nat × Nat) := none
  /-- register writes crossing X16: address and value, oldest first (01_architecture.md R21). -/
  pend : List (Nat × Nat) := []
  /-- addresses written since cel_busy rose (01_architecture.md R21). -/
  busyAt : List Nat := []
deriving DecidableEq, Repr

/-- The trapdoor beside its registers. -/
structure Trap where
  /-- valid nonce of the PCIe port (15_security_and_config.md R496). -/
  nonceP : Option (List Byte) := none
  /-- valid nonce of the test port (15_security_and_config.md R496). -/
  nonceT : Option (List Byte) := none
  /-- mailbox of the test port (15_security_and_config.md R494). -/
  mboxT : List Byte := []
  /-- credential being verified: from PCIe?, bytes, its nonce was the valid one (15_security_and_config.md R497). -/
  pend : Option (Bool × List Byte × Bool) := none
  /-- port that holds the session: PCIe? (15_security_and_config.md R497). -/
  session : Option Bool := none
  /-- lc_req 3 is enabled by a RETURN credential (15_security_and_config.md R496). -/
  ret : Bool := false
deriving DecidableEq, Repr

/-- Security beside its registers. -/
structure SecSt where
  /-- trapdoor (15_security_and_config.md R493). -/
  trap : Trap := {}
  /-- accepted lifecycle transition: new code and provisioning block (15_security_and_config.md R490). -/
  lcPend : Option (Nat × List Byte) := none
  /-- staged shelf header bytes, none when no staging begun (15_security_and_config.md R512). -/
  stage : Option (List Byte) := none
  /-- end of the previous SHELF_WRITE (15_security_and_config.md R512). -/
  stageEnd : Nat := 0
  /-- rollback index of the running image (15_security_and_config.md R506). -/
  runRb : Nat := 0
  /-- a reseed has passed in a halt, which ends at the next SFM (10_cipher.md R370). -/
  haltOver : Bool := false
  /-- the last reseed of the DRBG passed (10_cipher.md R370). -/
  reseedOk : Bool := true
  /-- control-core memory and trace buffer words (15_security_and_config.md R498). -/
  dbgMem : SMap Nat := []
  /-- the control cores are restarting (16_counters_and_events.md R533). -/
  restart : Bool := false
deriving DecidableEq, Repr

/-- Counters, events and the inventory reader beside their registers. -/
structure PerfSt where
  /-- ev_seq, 16 bits (16_counters_and_events.md R526). -/
  evSeq : Nat := 0
  /-- rec_seq of counter snapshots, 16 bits (16_counters_and_events.md R523). -/
  recSeq : Nat := 0
  /-- rec_seq of housekeeping records, 16 bits (16_counters_and_events.md R524). -/
  hkSeq : Nat := 0
  /-- walk in progress (16_counters_and_events.md R521). -/
  walk : Option Walk := none
  /-- causes of the held walk (16_counters_and_events.md R522). -/
  heldWalk : Option Nat := none
  /-- records written this second by code*65536+object (16_counters_and_events.md R529). -/
  evCnt : SMap Nat := []
  /-- records suppressed this second by code*65536+object, with the severity of the last one (16_counters_and_events.md R529). -/
  evSup : SMap (Nat × Nat) := []
  /-- words of the housekeeping record being gathered (16_counters_and_events.md R524). -/
  hkBuf : List Byte := []
  /-- number of those words (16_counters_and_events.md R524). -/
  hkN : Nat := 0
  /-- bits of RO fields in parity error: address, bit, value of the register then, register index (16_counters_and_events.md R532). -/
  flips : List (Nat × Nat × Nat × Nat) := []
deriving DecidableEq, Repr

/-- The whole block. -/
structure State where
  /-- fuses and flash (15_security_and_config.md R489). -/
  fuse : Fuses := {}
  /-- control balls (18_pins_and_electrical.md R551). -/
  pin : Pins := {}
  /-- every register field, by code; unlisted fields read their reset value (17_register_map.md R536). -/
  regs : SMap Nat := []
  /-- the 768 counters, 48 bits each (16_counters_and_events.md R517). -/
  cnt : SMap Nat := []
  /-- wrap_cnt of each counter, 2 bits (16_counters_and_events.md R520). -/
  wrapc : SMap Nat := []
  /-- engines LE0-LE3 (00_scope.md R10). -/
  eng : SMap Engine := []
  /-- ports P00-P63 (00_scope.md R10). -/
  port : SMap Port := []
  /-- tributaries T0000-T1023 (00_scope.md R10). -/
  trib : SMap Trib := []
  /-- groups G00-G63 (06_tributary_mapping.md R218). -/
  grp : SMap Grp := []
  /-- deskew bins 0-383: holding group + 1, unlisted: free (06_tributary_mapping.md R223). -/
  bins : SMap Nat := []
  /-- lockers L00-L63 (10_cipher.md R362). -/
  lock : SMap Locker := []
  /-- rings 0-65535 (11_host_rings.md R380). -/
  ring : SMap RingSt := []
  /-- host interface (11_host_rings.md R380). -/
  host : HostSt := {}
  /-- mode transitions (02_modes.md R63). -/
  mode : ModeSt := {}
  /-- pair link (08_pair_protection.md R274). -/
  pair : PairSt := {}
  /-- timing (09_timing.md R310). -/
  tim : TimSt := {}
  /-- housekeeping (12_housekeeping.md R418). -/
  hk : HkSt := {}
  /-- calibration (13_calibration.md R445). -/
  cal : CalSt := {}
  /-- power controller (14_power_and_cellar.md R464). -/
  pwr : PwrSt := {}
  /-- cellar (14_power_and_cellar.md R476). -/
  cel : CelSt := {}
  /-- security (15_security_and_config.md R489). -/
  sec : SecSt := {}
  /-- counters and events (16_counters_and_events.md R521). -/
  perf : PerfSt := {}
  /-- what the block has sent out, newest first (DESIGN CHOICE 4) (model's own field). -/
  out : List Out := []
  /-- counter of free values used so far (DESIGN CHOICE 5) (model's own field). -/
  free : Nat := 0
  /-- counters as each change since the walk in progress began left them: number, value, wrap_cnt, newest first (16_counters_and_events.md R521). -/
  wlog : List (Nat × Nat × Nat) := []
  /-- commands waiting, first in first out (the task's own form) (model's own field). -/
  pending : List Instr := []
deriving DecidableEq, Repr

/-- The block right after a COLD reset has been released and before boot has run: every field at the value the spec
states, or the value the assumption log names (each field's default above; log entries 1 to 7). -/
def State.reset : State := {}

end Sys2Proof.Machine
end

