-- ==== Sys2Proof/Machine/Ops.lean ====
section
/-! DEFINITION. The named operations over registers, counters, events, interrupt vectors and rings, which every
meaning uses. Taking an exception is no part of a block; raising an event is its counterpart (16 R525 to R530). -/
namespace Sys2Proof.Machine

/-! ### Registers -/

/-- The key of instance `i` of a field in `State.regs`. -/
def Fld.key (f : Fld) (i : Nat) : Nat := i * 1024 + f.ctorIdx

/-- Read instance `i` of a field as it is held. -/
def State.rd (s : State) (f : Fld) (i : Nat := 0) : Nat := SMap.get f.info.rst s.regs (f.key i)

/-- Write instance `i` of a field, cut to its width. -/
def State.wr (s : State) (f : Fld) (i v : Nat) : State :=
  { s with regs := SMap.set f.info.rst s.regs (f.key i) (v % 2 ^ f.info.w) }

/-- Read a field as a truth value. -/
def State.on (s : State) (f : Fld) (i : Nat := 0) : Bool := s.rd f i != 0

/-- Read a two's complement field. -/
def State.rdInt (s : State) (f : Fld) (i : Nat := 0) : Int := ofTwos f.info.w (s.rd f i)

/-- Write a two's complement field. -/
def State.wrInt (s : State) (f : Fld) (i : Nat) (v : Int) : State := s.wr f i (toTwos f.info.w v)

/-- Write several fields. -/
def State.wrs (s : State) (l : List (Fld × Nat × Nat)) : State := l.foldl (fun t (f, i, v) => t.wr f i v) s

/-- The value of a register as its fields hold it. -/
def State.regVal (s : State) (r : Rg) (i : Nat) : Nat :=
  r.fields.foldl (fun a f => a + s.rd f i * 2 ^ f.info.lo) 0

/-- Return every field of a register domain to its reset value (17_register_map.md R543). -/
def keepRegs (m : SMap Nat) (keep : Nat → Bool) : SMap Nat := m.filter (fun kv => keep kv.1)

/-! ### Resources (00_scope.md R1 to R3) -/

/-- Engines of the part. -/
def State.engines (s : State) : Nat := match s.fuse.part with | .skv9600 => 4 | .skv4800 => 2
/-- Client ports of the part. -/
def State.ports (s : State) : Nat := match s.fuse.part with | .skv9600 => 64 | .skv4800 => 32
/-- Engine `n` is on the part. -/
def State.hasEng (s : State) (n : Nat) : Bool := decide (n < s.engines)
/-- Port `p` is on the part. -/
def State.hasPort (s : State) (p : Nat) : Bool := decide (p < s.ports)
/-- Reference input `i` is on the part: REF8 and REF9 are the absent engines' (R3). -/
def State.hasRef (s : State) (i : Nat) : Bool := s.fuse.part == .skv9600 || (i != 8 && i != 9)
/-- The part code of SYS_ID (17_register_map.md R548). -/
def State.partCode (s : State) : Nat := match s.fuse.part with | .skv9600 => 1 | .skv4800 => 2

/-! ### Tables of instances -/

def State.engOf (s : State) (n : Nat) : Engine := SMap.get {} s.eng n
def State.setEng (s : State) (n : Nat) (e : Engine) : State := { s with eng := SMap.set {} s.eng n e }
def State.modEng (s : State) (n : Nat) (g : Engine → Engine) : State := s.setEng n (g (s.engOf n))
def State.modAcq (s : State) (n : Nat) (g : EngAcq → EngAcq) : State := s.modEng n (fun e => { e with acq := g e.acq })
def State.modFec (s : State) (n : Nat) (g : EngFec → EngFec) : State := s.modEng n (fun e => { e with fec := g e.fec })
def State.modTx (s : State) (n : Nat) (g : EngTx → EngTx) : State := s.modEng n (fun e => { e with tx := g e.tx })
def State.modRx (s : State) (n : Nat) (g : EngRx → EngRx) : State := s.modEng n (fun e => { e with rx := g e.rx })
def State.modPm (s : State) (n : Nat) (g : EngPm → EngPm) : State := s.modEng n (fun e => { e with pm := g e.pm })
def State.modSk (s : State) (n : Nat) (g : EngSk → EngSk) : State := s.modEng n (fun e => { e with sk := g e.sk })
def State.acqOf (s : State) (n : Nat) : EngAcq := (s.engOf n).acq
def State.fecOf (s : State) (n : Nat) : EngFec := (s.engOf n).fec
def State.txOf (s : State) (n : Nat) : EngTx := (s.engOf n).tx
def State.rxOf (s : State) (n : Nat) : EngRx := (s.engOf n).rx
def State.pmOf (s : State) (n : Nat) : EngPm := (s.engOf n).pm
def State.skOf (s : State) (n : Nat) : EngSk := (s.engOf n).sk
def State.portOf (s : State) (p : Nat) : Port := SMap.get {} s.port p
def State.modPort (s : State) (p : Nat) (g : Port → Port) : State := { s with port := SMap.mod {} s.port p g }
def State.tribOf (s : State) (t : Nat) : Trib := SMap.get {} s.trib t
def State.modTrib (s : State) (t : Nat) (g : Trib → Trib) : State := { s with trib := SMap.mod {} s.trib t g }
def State.grpOf (s : State) (g : Nat) : Grp := SMap.get {} s.grp g
def State.modGrp (s : State) (k : Nat) (g : Grp → Grp) : State := { s with grp := SMap.mod {} s.grp k g }
def State.lockOf (s : State) (l : Nat) : Locker := SMap.get {} s.lock l
def State.modLock (s : State) (l : Nat) (g : Locker → Locker) : State := { s with lock := SMap.mod {} s.lock l g }
def State.ringOf (s : State) (r : Nat) : RingSt := SMap.get {} s.ring r
def State.modRing (s : State) (r : Nat) (g : RingSt → RingSt) : State := { s with ring := SMap.mod {} s.ring r g }
def State.modPair (s : State) (g : PairSt → PairSt) : State := { s with pair := g s.pair }
def State.modPeer (s : State) (g : Peer → Peer) : State := s.modPair (fun p => { p with peer := g p.peer })

/-- Pad group `g` is held (14_power_and_cellar.md R474). -/
def State.padHeld (s : State) (g : Nat) : Bool := (s.rd .PWR_PAD_held).testBit g

/-- Power state (14_power_and_cellar.md R464): 0 RUN, 1 TRIM, 2 NAP, 3 MOTHBALL, 4 OFF. -/
def State.powerNow (s : State) : Nat := s.rd .PWR_STATUS_state

/-- No register can be reached: in MOTHBALL, in OFF and after a rail failure (17_register_map.md R542; 14 R485). -/
def State.hostUnreachable (s : State) : Bool := decide (3 ≤ s.powerNow) || s.pwr.failed

/-- Group of the pads that something leaves by (14_power_and_cellar.md R474); a group beyond the table is never held. -/
def outGroup : Out → Nat
  | .frame _ _ | .symbols .. | .sync .. | .interop .. | .wakeLine .. => 0
  | .client .. | .oset _ _ | .oduAis _ | .fxOset .. | .odu .. | .fxOh .. | .wakeClient .. => 1
  | .cell _ _ | .genCell .. | .copy .. => 2
  | .tune .. | .uart .. | .i3c .. => 4
  | .pps _ => 3
  | _ => 6

/-- Record something that leaves the block, newest first (log entry 4); nothing leaves by a pad that is held
(14_power_and_cellar.md R474). -/
def State.emit (s : State) (o : Out) : State := if s.padHeld (outGroup o) then s else { s with out := o :: s.out }

/-- Take the next free value's number (log entry 5). -/
def State.tick (s : State) : State := { s with free := s.free + 1 }

/-! ### Interrupts (17_register_map.md R549, R550; 11_host_rings.md R403, R404) -/

/-- The W1C event bits that a status bit of SYS_IRQ_STATUS stands for (17_register_map.md R549); bits from 16 on are the engines. -/
def evFields : Nat → List Fld
  | 0 => [.SYS_EV_mode_chg, .SYS_EV_rst_refused, .SYS_EV_priv_drop]
  | 1 => [.SEC_EV_trap_open, .SEC_EV_trap_close, .SEC_EV_trap_refused, .SEC_EV_lc_change, .SEC_EV_shelf_commit,
    .SEC_EV_shelf_bad, .SEC_EV_shelf_none, .SEC_EV_boot_fail, .SEC_EV_pair_key_fail, .SEC_EV_tamper_purge]
  | 2 => [.PWR_WAKE_SRC_line, .PWR_WAKE_SRC_client, .PWR_WAKE_SRC_pin, .PWR_WAKE_SRC_host, .PWR_WAKE_SRC_rtc,
    .PWR_WAKE_SRC_tamper, .PWR_PAD_rel_early]
  | 3 => [.TIM_EV_ref_chg, .TIM_EV_sel_chg, .TIM_EV_tod_step, .TIM_EV_tod_wrap, .TIM_EV_hold_enter,
    .TIM_EV_hold_expired, .TIM_EV_tx_clamp, .TIM_EV_priv_drop, .TIM_EV_tt_lost]
  | 4 => [.HK_EV_start_ign, .HK_EV_urg_ign, .HK_EV_sync_seen, .HK_EV_clamp_seen, .HK_EV_exc_fault,
    .HK_EV_aout_fault, .HK_EV_alm_fault, .HK_EV_det_alarm, .HK_EV_lin_done, .HK_EV_i3c_done,
    .HK_EV_i3c_leave, .HK_EV_i3c_fail, .HK_EV_i3c_full]
  | 5 => [.CAL_EV_reject, .CAL_EV_stuck, .CAL_EV_ref_fault, .CAL_EV_pilot_req, .CAL_EV_pilot_fail,
    .CAL_EV_est_stuck, .CAL_EV_force_done]
  | 6 => [.PERF_PM_SYNC_pm_sync_refused, .PERF_EV_ev]
  | 7 => [.HOST_EV_db_bad, .HOST_EV_ring_err, .HOST_EV_evt_drop, .HOST_EV_stale_cpl, .HOST_EV_ctx_bad,
    .HOST_EV_link_down, .HOST_EV_acc_bad]
  | 8 => [.PAIR_EV_hb_lost, .PAIR_EV_link_down, .PAIR_EV_alive_fault, .PAIR_EV_takeover, .PAIR_EV_refused,
    .PAIR_EV_mirror_fail, .PAIR_EV_bridge_drop, .PAIR_EV_sel, .PAIR_EV_unprot_fault, .PAIR_EV_far_switched,
    .PAIR_EV_far_unprot]
  | 9 => [.PLACE_EV_refused, .PLACE_EV_shed, .PLACE_EV_step, .PLACE_EV_step_blocked, .PLACE_EV_floor,
    .PLACE_EV_resync, .PLACE_EV_chan_lost, .PLACE_EV_timeout, .PLACE_EV_range, .PLACE_EV_mirror_diff]
  | 10 => [.FAB_EV_trib_stale, .FAB_EV_skew_chg, .FAB_EV_align_lost, .FAB_EV_eth_oversize, .FAB_EV_gmp_loss,
    .FAB_EV_frame_drop, .FAB_EV_alloc_refused]
  | 12 => [.CIPH_EV_auth_set, .CIPH_EV_auth_clr, .CIPH_EV_kp_refused, .CIPH_EV_end_clash, .CIPH_EV_ent_fail,
    .CIPH_EV_halt_seen]
  | b => if 16 ≤ b then [.LE_STATUS_EV_lock_gained, .LE_STATUS_EV_lock_lost, .LE_STATUS_EV_sig_lost, .LE_STATUS_EV_clip_seen, .LE_STATUS_EV_acq_fail,
    .LE_FEC_EV_excess_set, .LE_FEC_EV_excess_clr, .LE_FEC_EV_unc_seen, .LE_FEC_EV_test_err_seen, .LE_FRM_EV_defect_chg,
    .LE_FRM_EV_mk_mismatch, .LE_FRM_EV_fmt_limit, .LE_FRM_EV_prot_ack_lost, .LE_FRM_EV_prot_conflict, .LE_FRM_EV_gcc_drop] else []

/-- The status bit of the block that a field's register lies in (R548). -/
def Fld.irqBit (f : Fld) (i : Nat) : Nat :=
  if 0x100000 ≤ f.info.rg.info.base then 16 + i else f.info.rg.info.base / 65536

/-- A bit of SYS_IRQ_STATUS (R549). -/
def State.irqBit (s : State) (b : Nat) : Bool := (evFields b).any (fun f => s.on f (if 16 ≤ b then b - 16 else 0))

/-- SYS_IRQ_STATUS, read live (R549). -/
def State.irqStatus (s : State) : Nat := (upTo 20).foldl (fun a b => a + b2n (s.irqBit b) * 2 ^ b) 0

/-- Send an MSI-X vector, or set its pending bit while it or the function is masked (R404); no message is sent while
the link is down (R408). -/
def State.sendVector (s : State) (v : Nat) : State :=
  if s.host.maskAll || !SMap.get false s.host.unmasked v then
    { s with host := { s.host with msixPend := SMap.set false s.host.msixPend v true } }
  else if s.on .HOST_LINK_link_up then s.emit (.msix v)
  else s

/-- Set a W1C event bit; vector 0 is sent when an unmasked status bit rises by it (R550). -/
def State.setEv (s : State) (f : Fld) (i : Nat) (v : Nat := 1) : State :=
  let b := f.irqBit i
  let t := s.wr f i v
  if !s.irqBit b && t.irqBit b && (s.rd .SYS_IRQ_MASK_en).testBit b then t.sendVector 0 else t

/-! ### Counters (16_counters_and_events.md R517 to R520) -/

/-- Counter of engine `n` at an offset. -/
def cEng (n off : Nat) : Nat := 32 * n + off
/-- Counter of port `p` at an offset. -/
def cPort (p off : Nat) : Nat := 128 + 6 * p + off

/-- The counter counts on this part (R517, R519). -/
def State.cntValid (s : State) (k : Nat) : Bool :=
  if k < 128 then decide (k % 32 ≤ 24) && s.hasEng (k / 32)
  else if k < 512 then s.hasPort ((k - 128) / 6)
  else decide (k ≤ 553) && k != 537

/-- The value of a counter. -/
def State.cntOf (s : State) (k : Nat) : Nat := SMap.get 0 s.cnt k

/-- Adding `n` takes the counter past its top (R520). -/
def State.wraps (s : State) (k n : Nat) : Bool := s.cntValid k && decide (2 ^ 48 ≤ s.cntOf k + n)

/-- A walk in progress sees what a change leaves of some counters (R521). -/
def State.noteCnt (s : State) (l : List Nat) : State :=
  { s with wlog := if s.perf.walk.isSome then l.map (fun k => (k, s.cntOf k, SMap.get 0 s.wrapc k % 4)) ++ s.wlog else s.wlog }

/-- Add to a counter, with the wrap state of R520 but without the event. -/
def State.bump (s : State) (k n : Nat) : State :=
  if !s.cntValid k then s
  else
    let t := { s with cnt := SMap.set 0 s.cnt k ((s.cntOf k + n) % 2 ^ 48) }
    let t := if s.wraps k n then
        { t with wrapc := SMap.mod 0 t.wrapc k (fun c => (c + 1) % 4) }.wr .PERF_WRAP_wrap (k / 32)
          (t.rd .PERF_WRAP_wrap (k / 32) ||| 2 ^ (k % 32))
      else t
    t.noteCnt [k]

/-! ### Ring entries (11_host_rings.md R400 to R404) -/

/-- ToD in the 88-bit format of 09_timing.md R337: seconds, nanoseconds, fraction in 2^-10 ns. -/
def stamp88 (tod : Nat) : Nat :=
  tod / (1000000000 * 65536) % 2 ^ 48 * 2 ^ 40 + tod / 65536 % 1000000000 * 2 ^ 10 + tod % 65536 / 64

/-- The ToD in 2^-16 ns that an 88-bit stamp names. -/
def ofStamp88 (n : Nat) : Nat := (n / 2 ^ 40 * 1000000000 + n / 2 ^ 10 % 2 ^ 30) * 65536 + n % 1024 * 64

/-- Entries of a ring (R379). -/
def State.ringSize (s : State) (r : Nat) : Nat := 2 ^ s.rd .HOST_RCTX_CFG_log2size r
/-- The ring is ACTIVE (R380). -/
def State.ringActive (s : State) (r : Nat) : Bool := s.rd .HOST_RCTX_STATE_state r == 1
/-- The ring is an ACTIVE SQ of a class. -/
def State.activeSq (s : State) (r cls : Nat) : Bool :=
  s.ringActive r && s.rd .HOST_RCTX_CFG_kind r == 0 && s.rd .HOST_RCTX_CFG_class r == cls
/-- The ring is an SQ of a class that is ACTIVE, or in ERROR, where what was fetched before executes normally (R383, R395). -/
def State.liveSq (s : State) (r cls : Nat) : Bool :=
  (s.ringActive r || s.rd .HOST_RCTX_STATE_state r == 3) && s.rd .HOST_RCTX_CFG_kind r == 0 && s.rd .HOST_RCTX_CFG_class r == cls
/-- The ring is an ACTIVE CQ of a class. -/
def State.activeCq (s : State) (r cls : Nat) : Bool :=
  s.ringActive r && s.rd .HOST_RCTX_CFG_kind r == 1 && s.rd .HOST_RCTX_CFG_class r == cls
/-- Occupancy of a CQ: entries written and not yet released. -/
def State.cqOcc (s : State) (r : Nat) : Nat :=
  (s.rd .HOST_RCTX_IDX_dev_idx r + 65536 - s.rd .HOST_RCTX_IDX_host_idx r) % 65536
/-- The CQ has no free slot (R400). -/
def State.cqFull (s : State) (r : Nat) : Bool := s.cqOcc r == s.ringSize r

/-- Phase byte of the entry of device count `p` (R401). -/
def phaseByte (p log2 : Nat) : Nat := if p.testBit log2 then 0 else 0x80

/-- Send the message of a CQ and start its moderation anew (R403). -/
def State.cqMessage (s : State) (r : Nat) : State :=
  (s.modRing r (fun q => { q with pend := 0 })).sendVector (s.rd .HOST_RCTX_IRQ_vector r)

/-- Write one 32-byte entry: 3 bytes, the phase byte, 28 more bytes; then the message of R403 if it is due. -/
def State.writeEntry (s : State) (r : Nat) (head tail : List Byte) (now : Bool) : State :=
  let p := s.rd .HOST_RCTX_IDX_dev_idx r
  let t := (s.emit (.entry r (p % s.ringSize r)
      (head ++ [BitVec.ofNat 8 (phaseByte p (s.rd .HOST_RCTX_CFG_log2size r))] ++ tail))).wr .HOST_RCTX_IDX_dev_idx r (p + 1)
  let t := t.modRing r (fun q => { q with pend := q.pend + 1 })
  if now || decide (max 1 (s.rd .HOST_RCTX_IRQ_mod_cnt r) ≤ (t.ringOf r).pend) then t.cqMessage r else t

/-! ### Events (16_counters_and_events.md R525 to R530) -/

/-- The PERF catalogue (R530). -/
inductive PerfEv where
  | evtOverflow | crossingSlip | modeRefused | markerMismatch | sramCe | sramUe | parityErr | lockstepFault
  | clockLoss | cellAlarm | counterWrap | tlmNobuf | pmSyncRefused | laneTxFault
deriving DecidableEq, Repr

/-- An event: of the register bit that it sets, or of the PERF catalogue. -/
inductive Ev where
  | reg (f : Fld) (i : Nat)
  | perf (p : PerfEv)
deriving DecidableEq, Repr

/-- Object, argument, detail word and, where the event's severity depends on more than its name, its severity. -/
structure EvArg where
  obj : Nat := 0xFFFF
  arg : Option Nat := none
  detail : Nat := 0
  sev : Option Nat := none

/-- Code of an event (R525). -/
def Ev.code : Ev → Nat
  | .perf p => 0x0600 + p.ctorIdx
  | .reg f _ =>
    let b := f.info.rg.info.base
    let n := if f.info.rg = .LE_FEC_EV then 1 else if f.info.rg = .LE_FRM_EV then 2 else 0
    (if 0x100000 ≤ b then 0x10 else b / 65536) * 256 + n * 32 + f.info.lo

/-- Events of severity CRITICAL (R527). -/
def criticalEvs : List Fld :=
  [.CAL_EV_ref_fault, .CIPH_EV_halt_seen, .PAIR_EV_takeover, .PAIR_EV_hb_lost, .PAIR_EV_unprot_fault,
   .SEC_EV_tamper_purge, .SEC_EV_boot_fail]
/-- Events of severity MAJOR (R527). -/
def majorEvs : List Fld :=
  [.LE_STATUS_EV_lock_lost, .LE_FEC_EV_excess_set, .CIPH_EV_auth_set, .CIPH_EV_ent_fail, .TIM_EV_hold_enter,
   .TIM_EV_hold_expired, .PLACE_EV_shed, .PLACE_EV_timeout, .PAIR_EV_link_down, .PAIR_EV_alive_fault,
   .PAIR_EV_mirror_fail, .PAIR_EV_far_switched, .HOST_EV_ring_err, .HK_EV_exc_fault, .HK_EV_aout_fault,
   .HK_EV_alm_fault, .HK_EV_det_alarm, .SEC_EV_pair_key_fail]
/-- Events of severity INFO (R527). -/
def infoEvs : List Fld :=
  [.LE_STATUS_EV_lock_gained, .LE_FEC_EV_excess_clr, .CIPH_EV_auth_clr, .TIM_EV_sel_chg, .PLACE_EV_step,
   .SEC_EV_trap_open, .SEC_EV_trap_close, .SEC_EV_shelf_commit, .HK_EV_i3c_done]

/-- Severity of an event by its name (R527): 0 INFO, 1 MINOR, 2 MAJOR, 3 CRITICAL. -/
def Ev.sev : Ev → Nat
  | .perf .sramUe | .perf .lockstepFault | .perf .clockLoss => 3
  | .perf .parityErr | .perf .crossingSlip | .perf .laneTxFault => 2
  | .perf .counterWrap | .perf .sramCe => 0
  | .perf _ => 1
  | .reg f _ => if criticalEvs.contains f then 3 else if majorEvs.contains f then 2 else if infoEvs.contains f then 0 else 1

/-- Set the register bit of an event. -/
def State.evBit (s : State) : Ev → State
  | .reg f i => s.setEv f i (s.rd f i ||| 1)
  | .perf p => s.setEv .PERF_EV_ev 0 (s.rd .PERF_EV_ev ||| 2 ^ p.ctorIdx)

/-- The argument of an event's record: its own, or the event register's value after the bit is set (R526). -/
def State.evArg (s : State) (e : Ev) (a : EvArg) : Nat :=
  match a.arg, e with
  | some x, _ => x
  | none, .reg f i => s.regVal f.info.rg i
  | none, .perf _ => 0

/-- Bytes 4 to 31 of an event record after its object (R526). -/
def evTail (obj seq arg detail tod : Nat) : List Byte :=
  leBytes 2 obj ++ leBytes 2 seq ++ leBytes 8 arg ++ leBytes 4 detail ++ leBytes 11 (stamp88 tod) ++ [0]

/-- First bytes of an event record (R526). -/
def evHead (code sev : Nat) (summary : Bool) : List Byte :=
  leBytes 2 code ++ leBytes 1 (sev + 4 * b2n (decide (2 ≤ sev)) + 8 * b2n summary)

/-- Key of a pair of code and object in the suppression counts (R529). -/
def evKey (code obj : Nat) : Nat := code * 65536 + obj

/-- The EVT ring an event of a severity is written to (R528). -/
def State.evRoute (s : State) (sev : Nat) : Option Nat :=
  let r := s.rd .PERF_EVT_ROUTE_ring sev
  if s.on .PERF_EVT_ROUTE_en sev && s.activeCq r 1 then some r else none

/-- The route of a severity names an EVT CQ that has been disabled: the record that would go there is discarded and counted as stale
(R383, R408), while the ring is QUIESCING or the link is down (log entry 200). -/
def State.evGone (s : State) (sev : Nat) : Bool :=
  let r := s.rd .PERF_EVT_ROUTE_ring sev
  let st := s.rd .HOST_RCTX_STATE_state r
  s.on .PERF_EVT_ROUTE_en sev && s.rd .HOST_RCTX_CFG_kind r == 1 && s.rd .HOST_RCTX_CFG_class r == 1
    && (st == 2 || (st == 0 && !s.on .HOST_LINK_link_up))

/-- Raise an event (R525 to R530): its bit, ev_seq, and its record unless it has no route, is suppressed, or its ring
is full. The first argument bounds how often a counter that wraps by it raises COUNTER_WRAP in turn; no more than three
can follow one another, since each is of another counter. -/
def State.raiseN : Nat → State → Ev → EvArg → State
  | 0, s, _, _ => s
  | fuel + 1, s, e, a =>
    let count := fun (t : State) (k : Nat) =>
      let u := t.bump k 1
      if t.wraps k 1 then State.raiseN fuel u (.perf .counterWrap) { obj := k } else u
    let sev := a.sev.getD e.sev
    let seq := s.perf.evSeq
    let s := s.evBit e
    let s := { s with perf := { s.perf with evSeq := (seq + 1) % 65536 } }
    match s.evRoute sev with
    | none => if s.evGone sev then count (s.setEv .HOST_EV_stale_cpl 0) 522 else s
    | some r =>
      let key := evKey e.code a.obj
      if sev != 3 && decide (max 1 (s.rd .PERF_INV_CTRL_ev_limit) ≤ SMap.get 0 s.perf.evCnt key) then
        count { s with perf := { s.perf with evSup := SMap.mod (0, 0) s.perf.evSup key (fun x => (x.1 + 1, sev)) } } 536
      else
        if s.cqFull r || (s.ringOf r).dropped != 0 then
          count ((s.modRing r (fun q => { q with dropped := q.dropped + 1 })).setEv .HOST_EV_evt_drop 0) 523
        else
          let s := { s with perf := { s.perf with evCnt := SMap.mod 0 s.perf.evCnt key (· + 1) } }
          s.writeEntry r (evHead e.code sev false)
            (evTail a.obj seq (s.evArg e a) a.detail s.tim.tod) (decide (2 ≤ sev))

/-- Raise an event. -/
def State.raise (s : State) (e : Ev) (a : EvArg := {}) : State := State.raiseN 4 s e a

/-- Raise an event of a register bit. -/
def State.raiseReg (s : State) (f : Fld) (i : Nat := 0) (a : EvArg := {}) : State := s.raise (.reg f i) a

/-- Add to a counter; a wrap raises COUNTER_WRAP (R520). -/
def State.count (s : State) (k : Nat) (n : Nat := 1) : State :=
  let t := s.bump k n
  if s.wraps k n then t.raise (.perf .counterWrap) { obj := k } else t

/-- Raise an event and count it, both in one cycle: their records stand in the order of their codes, COUNTER_WRAP's being 0x060A
(R520, R528). -/
def State.raiseCount (s : State) (e : Ev) (a : EvArg) (k : Nat) (n : Nat := 1) : State :=
  if e.code < 0x060A then (s.raise e a).count k n else (s.count k n).raise e a

/-! ### Completions (11_host_rings.md R385, R394, R400) -/

/-- Bytes 0 to 2 of a completion. -/
def cplHead (d : Desc) : List Byte := leBytes 2 d.sq ++ leBytes 1 d.sqGen

/-- Bytes 4 to 31 of a completion (R400). -/
def cplTail (c : Cpl) (tod : Nat) : List Byte :=
  leBytes 2 c.d.tag ++ leBytes 2 c.d.idx ++ leBytes 1 c.status ++ leBytes 1 c.d.opcode
    ++ leBytes 1 (b2n c.noop + 2 * b2n c.trunc) ++ [0] ++ leBytes 4 c.detail ++ leBytes 3 c.moved ++ [0]
    ++ leBytes 11 (stamp88 tod) ++ [0]

/-- Discard a completion as stale (R385). -/
def State.stale (s : State) : State := (s.setEv .HOST_EV_stale_cpl 0).count 522

/-- Move the completions of an SQ whose turn has come to its CQ's queue, in count order (R394). -/
def State.flushCpl : Nat → State → Nat → State
  | 0, s, _ => s
  | fuel + 1, s, r =>
    let q := s.ringOf r
    match q.held.find? (fun c => c.d.idx == q.nextCpl) with
    | none => s
    | some c =>
      let s := s.modRing r (fun q => { q with held := q.held.erase c,
                                              nextCpl := (q.nextCpl + 1) % 65536 })
      State.flushCpl fuel (s.modRing c.d.cq (fun q => { q with cplq := q.cplq ++ [c] })) r

/-- A descriptor ends: its completion waits for its turn in the SQ and then for its CQ. -/
def State.complete (s : State) (c : Cpl) : State :=
  let s := s.modRing c.d.sq (fun q => { q with held := q.held ++ [c] })
  State.flushCpl (s.ringOf c.d.sq).held.length s c.d.sq

/-- Complete a descriptor with a status and a detail word. -/
def State.done (s : State) (d : Desc) (status : Nat := 0) (detail : Nat := 0) (moved : Nat := 0) : State :=
  s.complete { d := d, status := status, detail := detail, moved := moved }

/-- Complete a descriptor REFUSED (R402). -/
def State.refuse (s : State) (d : Desc) (detail : Nat) : State := s.done d 1 detail

/-- Place of a class in a round: OHB, TIME, KEY, CMD, TLM (R390). -/
def classRank : Nat → Nat
  | 2 => 0
  | 5 => 1
  | 4 => 2
  | 0 => 3
  | _ => 4

/-- Place of an SQ in a round: by class, then by number; 0 is the start of a round (R390). -/
def State.roundPlace (s : State) (r : Nat) : Nat := classRank (s.rd .HOST_RCTX_CFG_class r) * 65536 + r + 1

/-- An SQ has a descriptor ready: on CMD and KEY SQs only when every earlier one has completed (R390, R394), and not while the
ring's CQ is full (R400). -/
def State.sqReady (s : State) (r : Nat) : Bool :=
  match (s.ringOf r).fetched with
  | [] => false
  | d :: _ =>
    let cls := s.rd .HOST_RCTX_CFG_class r
    !s.cqFull d.cq && ((cls != 0 && cls != 4) || d.idx == (s.ringOf r).nextCpl)

/-- Places of the SQs with a descriptor ready. -/
def State.readyPlaces (s : State) : List Nat :=
  ((s.ring.map (·.1)).filter (fun r => s.sqReady r)).map (fun r => s.roundPlace r)

/-- The SQ is the next to be served: it stands behind the one last served in the round and no other that does stands before
it, or none does, and it is the first of the next round (R390). -/
def State.servedNext (s : State) (r : Nat) : Bool :=
  let p := s.roundPlace r
  let l := s.readyPlaces
  let rest := l.filter (fun q => decide (s.host.turn < q))
  (if rest.isEmpty then l else rest).all (fun q => decide (p ≤ q)) && (rest.isEmpty || decide (s.host.turn < p))

/-- Opcodes marked Priv (R391). -/
def privOpcodes : List Nat := [4, 5, 7, 8]

/-- How a descriptor ends when its turn comes without acting: the status of the first check of R392 that it fails, 9 for a no-op (R393),
0 where it acts; after a failed boot the host is privileged for the FLASH commands (15_security_and_config.md R505). -/
def State.descEnd (s : State) (d : Desc) : Nat :=
  if d.chk == 3 || d.chk == 4 then d.chk
  else if privOpcodes.contains d.opcode && !s.on .SEC_STATE_boot_fail
      && (!s.on .HOST_RCTX_CFG_priv d.sq || ((s.ringOf d.sq).byPcie && !s.on .SEC_STATE_host_priv)) then 5
  else d.chk

/-- The fetched descriptor of ring `r`, if it is ready, passes its checks, has the given opcode, and the ring is served next
(R390, R392, R394, R400). -/
def State.headDesc (s : State) (r opcode : Nat) : Option Desc :=
  match (s.ringOf r).fetched with
  | [] => none
  | d :: _ =>
    if d.opcode == opcode && s.sqReady r && s.servedNext r && s.descEnd d == 0 then some d else none

/-- Serve a ring: its head descriptor is taken, and the round stands at its place (R390). -/
def State.popDesc (s : State) (r : Nat) : State :=
  let t := s.modRing r (fun q => { q with fetched := q.fetched.drop 1 })
  { t with host := { t.host with turn := s.roundPlace r } }

/-- The SQ that is served next (R390). -/
def State.servedRing (s : State) : Option Nat := (s.ring.map (·.1)).find? (fun r => s.sqReady r && s.servedNext r)

/-- A descriptor that does not act completes in its turn (R390, R392, R393). -/
def State.endUnacted (s : State) (d : Desc) (e : Nat) : State :=
  let t := s.popDesc d.sq
  if e == 9 then t.complete { d := d, noop := true } else t.done d e

/-- Descriptors that do not act are served in the rounds until one that acts, or none, stands next, at most `k` of them. -/
def State.drain : Nat → State → State
  | 0, s => s
  | k + 1, s =>
    match s.servedRing with
    | none => s
    | some r =>
      match (s.ringOf r).fetched with
      | [] => s
      | d :: _ =>
        let e := s.descEnd d
        if e == 0 then s else State.drain k (s.endUnacted d e)

/-- Every descriptor that does not act and whose turn it is has been served. -/
def State.drained (s : State) : State := s.drain ((s.ring.map (fun kv => kv.2.fetched.length)).foldl (· + ·) 0)

/-- The state in which a command for ring `r` finds the rounds: where its descriptor does not stand next, those that do not act are
served first (R390). -/
def State.settle (s : State) (r opcode : Nat) : State := if (s.headDesc r opcode).isSome then s else s.drained

/-! ### Outcome -/

/-- A command ends in a next state. -/
def ok (s : State) : Host.Outcome State Fault Refusal := .next s

end Sys2Proof.Machine
end

