-- ==== Sys2Proof/Machine/RingOps.lean ====
section
/-! DEFINITION. Shared operations on rings: enable, disable, doorbell, fetch, posted buffers (11_host_rings.md). -/
namespace Sys2Proof.Machine

/-- The privileged requester (15_security_and_config.md R499). -/
def State.privileged (s : State) : Requester → Bool
  | .ctl => true
  | .test => s.rd .SEC_STATE_dbg_level == 2 && s.rd .SEC_STATE_dbg_port == 0
  | .host => s.on .SEC_STATE_host_priv

/-- Rings whose context field holds a given value other than its reset value, in rising number. -/
def State.ringsWith (s : State) (f : Fld) (v : Nat) : List Nat :=
  s.regs.filterMap (fun kv => if kv.1 % 1024 == f.ctorIdx && kv.2 == v then some (kv.1 / 1024) else none)

/-- Fields of a written CFG word (R380). -/
def cfgFields : List Fld :=
  [.HOST_RCTX_CFG_kind, .HOST_RCTX_CFG_class, .HOST_RCTX_CFG_log2size, .HOST_RCTX_CFG_priv, .HOST_RCTX_CFG_gen]

/-- A field's part of a register word. -/
def Fld.part (f : Fld) (w : Nat) : Nat := fieldOf w f.info.lo f.info.w

/-- The first check of an enable that fails, 0 when all pass (R382). -/
def State.enableErr (s : State) (rq : Requester) (r : Nat) : Nat :=
  let log2 := s.rd .HOST_RCTX_CFG_log2size r
  let cls := s.rd .HOST_RCTX_CFG_class r
  let kind := s.rd .HOST_RCTX_CFG_kind r
  if log2 < 6 || 15 < log2 then 1
  else if 6 ≤ cls || (kind == 0 && cls == 1) then 2
  else if kind == 0 && !s.activeCq (s.rd .HOST_RCTX_LINK_cq r) cls then 3
  else if SMap.get 0 s.host.genRec r == s.rd .HOST_RCTX_CFG_gen r + 1 then 4
  else if s.on .HOST_RCTX_CFG_priv r && !s.privileged rq then 5
  else if kind == 1 && s.rd .HOST_RCTX_IRQ_vector r == 0 then 6
  else 0

/-- A write of CFG that sets en to 1 (R381, R382). -/
def State.ringEnable (s : State) (rq : Requester) (r cfg : Nat) : State :=
  if s.rd .HOST_RCTX_STATE_state r != 0 then s.raiseReg .HOST_EV_ctx_bad 0 { obj := r }
  else
    let s := cfgFields.foldl (fun t f => t.wr f r (f.part cfg)) s
    let e := s.enableErr rq r
    if e != 0 then ((s.wr .HOST_RCTX_CFG_en r 0).wr .HOST_RCTX_STATE_err r e).raiseReg .HOST_EV_ctx_bad 0 { obj := r }
    else
      let s := s.wrs [(.HOST_RCTX_CFG_en, r, 1), (.HOST_RCTX_STATE_state, r, 1), (.HOST_RCTX_STATE_err, r, 0),
        (.HOST_RCTX_IDX_host_idx, r, 0), (.HOST_RCTX_IDX_dev_idx, r, 0)]
      let s := { s with host := { s.host with genRec := SMap.set 0 s.host.genRec r (s.rd .HOST_RCTX_CFG_gen r + 1) } }
      s.modRing r (fun _ => { byPcie := rq == .host })

/-- Complete every descriptor of a list ABORTED (R383). -/
def State.abortAll (s : State) (l : List Desc) : State := l.foldl (fun t d => t.done d 7) s

/-- An SQ enters ERROR (R384). -/
def State.ringError (s : State) (r err : Nat) : State :=
  ((s.wr .HOST_RCTX_STATE_state r 3).wr .HOST_RCTX_STATE_err r err).raiseReg .HOST_EV_ring_err 0 { obj := r }

/-- Discard every entry waiting for a CQ (R383). -/
def State.dropCplq (s : State) (r : Nat) : State :=
  let n := (s.ringOf r).cplq.length
  let s := s.modRing r (fun q => { q with cplq := [] })
  (List.replicate n ()).foldl (fun t _ => t.stale) s

/-- The OHB_TX blocks of a ring that still wait for their superframe have not started, and are aborted (R383, log entry 228). -/
def State.ohbAbort (s : State) (r : Nat) : State :=
  (upTo 4).foldl (fun t n =>
    let (own, rest) := (t.txOf n).ohb.partition (fun b => b.d.sq == r)
    (t.modTx n (fun x => { x with ohb := rest })).abortAll (own.map (·.d))) s

/-- An ACTIVE or ERROR ring goes to QUIESCING (R383). -/
def State.ringQuiesce (s : State) (r : Nat) : State :=
  let s := (s.wr .HOST_RCTX_CFG_en r 0).wr .HOST_RCTX_STATE_state r 2
  if s.rd .HOST_RCTX_CFG_kind r == 0 then
    let q := s.ringOf r
    let s := s.modRing r (fun q => { q with fetched := [], rxq := [] })
    let s := (s.ohbAbort r).abortAll (q.rxq ++ q.fetched)
    { s with host := { s.host with
      flashOps := s.host.flashOps.map (fun o => if o.d.sq == r then { o with stop := true } else o),
      i3cOps := s.host.i3cOps.map (fun o => if o.d.sq == r then { o with stop := true } else o) } }
  else
    let s := s.dropCplq r
    ((s.ringsWith .HOST_RCTX_STATE_state 1).filter (fun k =>
      s.rd .HOST_RCTX_CFG_kind k == 0 && s.rd .HOST_RCTX_LINK_cq k == r)).foldl (fun t k => t.ringError k 8) s

/-- A write of CFG that leaves or sets en to 0 (R381, R383). -/
def State.ringDisable (s : State) (r cfg : Nat) : State :=
  let st := s.rd .HOST_RCTX_STATE_state r
  if st == 1 || st == 3 then
    let s := if cfgFields.all (fun f => s.rd f r == f.part cfg) then s else s.raiseReg .HOST_EV_ctx_bad 0 { obj := r }
    s.ringQuiesce r
  else if st == 2 then s.raiseReg .HOST_EV_ctx_bad 0 { obj := r }
  else cfgFields.foldl (fun t f => t.wr f r (f.part cfg)) s

/-- A write of CFG, whichever way it sets en (R381 to R383). -/
def State.ringCfgWrite (s : State) (rq : Requester) (r cfg : Nat) : State :=
  if cfg % 2 = 1 then s.ringEnable rq r cfg else s.ringDisable r cfg

/-- No completion of the ring is outstanding (R383). -/
def State.ringDrained (s : State) (r : Nat) : Bool :=
  if s.rd .HOST_RCTX_CFG_kind r == 0 then
    (s.ringOf r).nextCpl == s.rd .HOST_RCTX_IDX_dev_idx r
      && ((s.ringOf (s.rd .HOST_RCTX_LINK_cq r)).cplq.all (fun c => c.d.sq != r))
  else (s.ringOf r).cplq.isEmpty

/-- Count an access of the wrong size, alignment or place (R376). -/
def State.accBad (s : State) : State := s.raiseCount (.reg .HOST_EV_acc_bad 0) {} 520

/-- A doorbell write (R386, R387); none has an effect before boot_ready or where nothing can be reached (17_register_map.md R542, R545). -/
def State.doorbell (s : State) (off word : Nat) : State :=
  let r := off / 4
  let idx := word % 65536
  let size := s.ringSize r
  let dev := s.rd .HOST_RCTX_IDX_dev_idx r
  let far := if s.rd .HOST_RCTX_CFG_kind r == 0 then (idx + 65536 - dev) % 65536 else (dev + 65536 - idx) % 65536
  if s.hostUnreachable || !s.on .SYS_RST_STATUS_boot_ready then s
  else if off % 4 != 0 || decide (0x40000 ≤ off) then s.accBad
  else if s.ringActive r && word / 65536 == r
      && decide ((idx + 65536 - s.rd .HOST_RCTX_IDX_host_idx r) % 65536 ≤ size) && decide (far ≤ size) then
    s.wr .HOST_RCTX_IDX_host_idx r idx
  else s.raiseCount (.reg .HOST_EV_db_bad 0) { obj := r } 521

/-- What a read of a doorbell returns: the ring number in [31:16] and dev_idx in [15:0] (R389). -/
def State.doorbellRead (s : State) (off : Nat) : Nat := off / 4 * 2 ^ 16 + s.rd .HOST_RCTX_IDX_dev_idx (off / 4) % 2 ^ 16

/-- Opcodes a ring class accepts (R378, R391). -/
def classOpcodes : Nat → List Nat
  | 0 => [0, 1, 2, 3, 4, 5, 6, 7, 8, 9]
  | 2 => [0x20, 0x21]
  | 3 => [0x21]
  | 4 => [0x30]
  | 5 => [0x40]
  | _ => []

/-- Opcodes that a ring accepts now: after a failed boot only NOP and the FLASH commands (15_security_and_config.md
R505). -/
def State.accepts (s : State) (cls opcode : Nat) : Bool :=
  (classOpcodes cls).contains opcode && (!s.on .SEC_STATE_boot_fail || [0, 6, 7, 8].contains opcode)

/-- Largest len of an opcode (R391); of KEY, by its op (10_cipher.md R365); of SHELF_WRITE, a shelf (15 R508). -/
def largestLen (opcode param0 : Nat) : Nat :=
  if opcode == 4 then 1048576
  else if opcode == 6 || opcode == 7 || opcode == 0x21 then 0xFFFFFE
  else if opcode == 9 then 4096
  else if opcode == 0x20 then 2048
  else if opcode == 0x30 && param0 % 16 == 1 then 40
  else 0

/-- A descriptor as the 64 bytes of R391 lay it out. -/
def State.parseDesc (s : State) (r : Nat) (b : List Byte) : Desc :=
  let cq := s.rd .HOST_RCTX_LINK_cq r
  { sq := r, sqGen := s.rd .HOST_RCTX_CFG_gen r, cq := cq, cqGen := s.rd .HOST_RCTX_CFG_gen cq,
    idx := s.rd .HOST_RCTX_IDX_dev_idx r, opcode := byteAt b 0, irq := byteAt b 1 % 2 == 1,
    tag := fromLE (slice b 2 2), len := fromLE (slice b 4 3), addr := fromLE (slice b 8 8),
    bufSize := fromLE (slice b 16 3), param0 := fromLE (slice b 20 4), param1 := fromLE (slice b 24 8),
    cls := padTo 32 (slice b 32 32) }

/-- A must-be-0 bit or byte is not 0 (R391, R398). -/
def mbzBad (cls : Nat) (b : List Byte) : Bool :=
  decide (2 ≤ byteAt b 1) || byteAt b 7 != 0 || byteAt b 19 != 0
    || (if cls == 5 then
          byteAt b 43 != 0 || decide (16 ≤ byteAt b 52) || byteAt b 53 != 0 || (slice b 56 8).any (· != 0)
        else (slice b 32 32).any (· != 0))

/-- Outcome of the checks of a descriptor that do not change while it waits, in the order of R392; whether its opcode has privilege
is checked when its turn comes (R393, R499). -/
def State.descChk (s : State) (cls : Nat) (b : List Byte) (d : Desc) : Nat :=
  if mbzBad cls b then 3
  else if !s.accepts cls d.opcode then 4
  else if d.len == 0xFFFFFF || decide (d.bufSize < d.len) || decide (largestLen d.opcode d.param0 < d.len) then 2
  else if d.len == 0 && largestLen d.opcode d.param0 != 0 then 9
  else 0

/-- The descriptor fetched as 64 bytes, with the outcome of its checks. -/
def State.checkedDesc (s : State) (r : Nat) (b : List Byte) : Desc :=
  { s.parseDesc r b with chk := s.descChk (s.rd .HOST_RCTX_CFG_class r) b (s.parseDesc r b) }

/-- The SQ may fetch (R388): ACTIVE, a count below the doorbell, at most 16 prefetched and not started, the posted buffers among them
(R383), its CQ not full (R400). -/
def State.mayFetch (s : State) (r : Nat) : Bool :=
  s.ringActive r && s.rd .HOST_RCTX_CFG_kind r == 0
    && s.rd .HOST_RCTX_IDX_dev_idx r != s.rd .HOST_RCTX_IDX_host_idx r
    && decide ((s.ringOf r).fetched.length + (s.ringOf r).rxq.length < 16) && !s.cqFull (s.rd .HOST_RCTX_LINK_cq r)

/-- A descriptor fetch ends; the descriptors that fail their checks end in their turn (R388, R390 to R395). -/
def State.descFetch (s : State) (r : Nat) : FetchObs → State
  | .error =>
    let d := { s.parseDesc r [] with opcode := 0, tag := 0, irq := false }
    ((s.wr .HOST_RCTX_IDX_dev_idx r (d.idx + 1)).ringError r 7).done d 6
  | .ok b =>
    let d := s.checkedDesc r b
    ((s.wr .HOST_RCTX_IDX_dev_idx r (d.idx + 1)).modRing r (fun q => { q with fetched := q.fetched ++ [d] })).drained

/-- The oldest buffer posted on an SQ, unless the ring's CQ is full (R397, R400). -/
def State.postedBuf (s : State) (r : Nat) : Option Desc :=
  match (s.ringOf r).rxq with
  | [] => none
  | d :: _ => if s.cqFull d.cq then none else some d

/-- Fill the oldest posted buffer with a block or record and complete it (R397, 16 R523). -/
def State.fillBuf (s : State) (d : Desc) (bytes : List Byte) (detail : Nat) (tod : Option Nat) : State :=
  let s := s.modRing d.sq (fun q => { q with rxq := q.rxq.drop 1 })
  let n := min bytes.length d.len
  (s.emit (.dma d.addr (bytes.take n))).complete
    { d := d, trunc := decide (d.len < bytes.length), detail := detail, moved := n, tod := tod }

/-- Every ring follows R383 and what waits to be written is discarded (R408); the SQs go first, so that none of them is
ACTIVE when its CQ goes (log entry 180). The MSI-X table returns to its reset, every vector masked and none pending
(log entry 3), and no message is sent. -/
def State.linkLoss (s : State) : State :=
  let live := (s.ringsWith .HOST_RCTX_STATE_state 1 ++ s.ringsWith .HOST_RCTX_STATE_state 3).mergeSort (· ≤ ·)
  let s := { s with host := { s.host with maskAll := false, unmasked := [], msixPend := [], msixTab := [] } }
  let (sqs, cqs) := live.partition (fun r => s.rd .HOST_RCTX_CFG_kind r == 0)
  let s := (sqs ++ cqs).foldl (fun t r => t.ringQuiesce r) s
  let s := (upTo 4).foldl (fun t n =>
    let q := (t.txOf n).ohb
    (t.modTx n (fun x => { x with ohb := [] })).abortAll (q.map (·.d))) s
  let s := ((s.ring.filter (fun kv => !kv.2.cplq.isEmpty)).map (·.1)).foldl (fun t r => t.dropCplq r) s
  s.raiseReg .HOST_EV_link_down 0

/-- Send the pending messages that may now be sent (R404); that of vector 0 is sent no more where no unmasked status bit reads 1
(17_register_map.md R550). -/
def State.flushMsix (s : State) : State :=
  if s.host.maskAll || !s.on .HOST_LINK_link_up then s
  else
    let l := (s.host.msixPend.filter (fun kv => kv.2 && SMap.get false s.host.unmasked kv.1)).map (·.1)
    l.foldl (fun t v =>
      let u := { t with host := { t.host with msixPend := SMap.set false t.host.msixPend v false } }
      if v == 0 && t.irqStatus &&& t.rd .SYS_IRQ_MASK_en == 0 then u else u.emit (.msix v)) s

end Sys2Proof.Machine
end

