-- ==== Sys2Proof/Machine/FabOps.lean ====
section
/-! DEFINITION. Shared operations on ports, tributaries, groups and placement maps, and the conditions of a tributary
(06_tributary_mapping.md R193 to R230; 07_placement.md R241, R264). -/
namespace Sys2Proof.Machine

/-! ### Maps -/

/-- Slots of a map that name a tributary, ascending. -/
def Slots.held (m : Slots) (t : Nat) : List Nat :=
  (m.tab.filter (fun kv => kv.2.on && kv.2.trib == t)).map (·.1)

/-- Tributaries of a map, ascending. -/
def Slots.tribs (m : Slots) : List Nat :=
  ((m.tab.filter (fun kv => kv.2.on)).map (·.2.trib)).dedup.mergeSort (· ≤ ·)

/-- Active slots of a map that are free, ascending (03_line_engine.md R79). -/
def Slots.free (m : Slots) : List Nat :=
  (upTo (activeSlots m.rate)).filter (fun k => !(SMap.get {} m.tab k).on)

/-- Give slots to a tributary. -/
def Slots.give (m : Slots) (t gen : Nat) (l : List Nat) : Slots :=
  { m with tab := l.foldl (fun x k => SMap.set {} x k { on := true, trib := t, gen := gen }) m.tab }

/-- Take a tributary out of a map. -/
def Slots.drop (m : Slots) (t : Nat) : Slots := { m with tab := m.tab.filter (fun kv => kv.2.trib != t) }

/-- Limit a map to the active slots of a rate (05_line_framing.md R175). -/
def Slots.cut (m : Slots) (rate : Nat) : Slots :=
  { m with rate := rate, tab := m.tab.filter (fun kv => decide (kv.1 < activeSlots rate)) }

/-! ### Ports and tributaries -/

/-- Client type in force of a port (R195). -/
def State.typeOf (s : State) (p : Nat) : Nat := s.rd .CLI_PORT_CFG_type_active p
/-- A tributary is in service. -/
def State.tribOn (s : State) (t : Nat) : Bool := s.on .FAB_TRIB_STATUS_active t
/-- Generation of a tributary (R200). -/
def State.tribGen (s : State) (t : Nat) : Nat := s.rd .FAB_TRIB_STATUS_trib_gen t
/-- Slots a tributary asks for (R197). -/
def State.slotsReq (s : State) (t : Nat) : Nat := s.rd .FAB_TRIB_STATUS_slots_req t
/-- Tributaries in service, ascending. -/
def State.activeTribs (s : State) : List Nat := s.ringsWith .FAB_TRIB_STATUS_active 1
/-- Source port of a tributary, or the head port of its FlexE group (16_counters_and_events.md R518). -/
def State.srcPort (s : State) (t : Nat) : Nat := (s.tribOf t).cfg.port
/-- The tributary is carried by the GMP adaptation (R195). -/
def State.isGmp (s : State) (t : Nat) : Bool := (s.tribOf t).cfg.kind == 1 && decide (7 ≤ s.typeOf (s.srcPort t))

/-- Nominal rate of the client of a GMP tributary, kb/s (R198, R199). -/
def State.gmpRate (s : State) (t : Nat) : Nat :=
  let p := s.srcPort t
  if s.typeOf p == 7 then 104794446 else (s.portOf p).cfg.odu

/-- Tributary of a slot: none for an unassigned slot, a stale entry (R200), or one whose tributary is not in service. -/
def State.slotTrib (s : State) (m : Slots) (k : Nat) : Option Nat :=
  let e := SMap.get {} m.tab k
  if e.on && e.gen == s.tribGen e.trib && s.tribOn e.trib && decide (k < activeSlots m.rate) then some e.trib else none

/-- The tributaries of the stale entries of a map (R200). -/
def State.staleIn (s : State) (m : Slots) : List Nat :=
  (m.tab.filter (fun kv => kv.2.on && kv.2.gen != s.tribGen kv.2.trib)).map (fun kv => kv.2.trib)

/-- Count stale entries of a map that comes to hold them, by their tributaries (R200, log entry 30). -/
def State.countStale (s : State) (l : List Nat) : State :=
  if l.isEmpty then s
  else l.eraseDups.foldl (fun u t => u.raiseReg .FAB_EV_trib_stale 0 { obj := t }) (s.count 512 l.length)

/-- The map that a local transmit stage of engine `n` uses: the one in force, or the one before it where the stage mismatched the marker
alone (01_architecture.md R27). -/
def State.stMap (s : State) (n : Nat) (st : MapStage) : Slots :=
  (SMap.get none (s.txOf n).kept st.ctorIdx).getD (s.txOf n).map

/-- Slots that a map gives a tributary now. -/
def State.slotsIn (s : State) (m : Slots) (t : Nat) : List Nat := (m.held t).filter (fun k => s.slotTrib m k == some t)

/-- Engines whose map in force gives a tributary slots, ascending; `rx` chooses the receive maps. -/
def State.mapEngs (s : State) (rx : Bool) (t : Nat) : List Nat :=
  (upTo s.engines).filter (fun n =>
    let m := if rx then (s.rxOf n).map else (s.txOf n).map
    (m.held t).any (fun k => s.slotTrib m k == some t))

/-- Engines that carry a tributary toward the client: of its receive maps, or its interoperable engine (02 R44). -/
def State.carryEngs (s : State) (t : Nat) : List Nat :=
  match (s.tribOf t).oz with
  | some e => [e]
  | none => s.mapEngs true t

/-- Group that carries a tributary, as it was placed: by its policy in MUXPONDER, by its carrier otherwise
(R218, 07 R235). -/
def State.tribGrp (s : State) (t : Nat) : Option Nat := (s.tribOf t).grp

/-- Tributary carried on a group, of those in service. -/
def State.grpTrib (s : State) (g : Nat) : Option Nat := s.activeTribs.find? (fun t => s.tribGrp t == some g)

/-- Members of a group in one direction: engines on which the map in force gives it slots (R218). -/
def State.grpMembers (s : State) (rx : Bool) (g : Nat) : List Nat :=
  match s.grpTrib g with
  | none => []
  | some t => s.mapEngs rx t

/-- The group is in a map in force, of either direction (R223). -/
def State.grpInMap (s : State) (g : Nat) : Bool := !(s.grpMembers false g).isEmpty || !(s.grpMembers true g).isEmpty

/-- S of a group in bytes per GF, of a direction (R226). -/
def State.grpSize (s : State) (rx : Bool) (g : Nat) : Nat :=
  match s.grpTrib g with
  | none => 0
  | some t => 36 * ((upTo s.engines).map (fun n =>
      let m := if rx then (s.rxOf n).map else (s.txOf n).map
      ((m.held t).filter (fun k => s.slotTrib m k == some t)).length)).sum

/-- Bytes the bins of a group may hold for a size S: bins_held × 65,536 − 2 S (R226, R227). -/
def State.grpRoom (s : State) (g size : Nat) : Int := (s.rd .FAB_GRP_STATUS_bins_held g * 65536 : Nat) - (2 * size : Nat)

/-- A skew in ns is at most 0.9 × skew_max for a size S, where skew_max = room × 57.6 ns / S (R226, R227; 07 R252). -/
def State.skewFits (s : State) (g skewNs size : Nat) : Bool :=
  decide (size ≠ 0) && decide ((skewNs * size * 100 : Nat) ≤ 5184 * s.grpRoom g size)

/-- Show whether every member of a group is aligned; an engine that is no member keeps no alignment (R222). -/
def State.alignShow (s : State) (g : Nat) : State :=
  let l := s.grpMembers true g
  let s := s.modGrp g (fun x => { x with mem := x.mem.filter (fun kv => l.contains kv.1) })
  s.wr .FAB_GRP_STATUS_aligned g (b2n (!l.isEmpty && l.all (fun n => (SMap.get {} (s.grpOf g).mem n).ok)))

/-! ### Conditions of a tributary (R230, 07 R241, 10 R360) -/

/-- Signal fail of engine `n`: dLOS, dLOF or dAIS (05_line_framing.md R181). -/
def State.sigFail (s : State) (n : Nat) : Bool :=
  s.on .LE_FRM_STATUS_dlos n || s.on .LE_FRM_STATUS_dlof n || s.on .LE_FRM_STATUS_dais n

/-- dAUTH is declared for an engine and a locker (10_cipher.md R360). -/
def State.dauth (s : State) (n l : Nat) : Bool :=
  if l < 32 then (s.rd .CIPH_ENG_DAUTH_LO_dauth_lo n).testBit l else (s.rd .CIPH_ENG_DAUTH_HI_dauth_hi n).testBit (l - 32)

/-- The Storekeeper acts: in MUXPONDER, or in SHADOW with a mirrored MUXPONDER (07_placement.md R233). -/
def State.skActs (s : State) : Bool :=
  s.rd .SYS_MODE_mode == 2 || (s.rd .SYS_MODE_mode == 5 && s.pair.mirMode == 2)

/-- A demand of the Storekeeper that is not placed: it holds no slot of a transmit map, or was displaced or shed
(07_placement.md R240, R241). -/
def State.unplaced (s : State) (t : Nat) : Bool :=
  s.skActs && (s.tribOf t).oz.isNone && ((s.tribOf t).unpl || (s.mapEngs false t).isEmpty)

/-- The tributary is in signal fail. -/
def State.tribSf (s : State) (t : Nat) : Bool :=
  let l := s.carryEngs t
  l.isEmpty || s.unplaced t || l.any (fun n => s.sigFail n)
    || l.any (fun n => match (s.tribOf t).bind with | some k => s.dauth n k | none => false)
    || (match s.tribGrp t with
        | some g => s.on .FAB_GRP_STATUS_dskew g || !s.on .FAB_GRP_STATUS_aligned g
        | none => false)
    || (s.tribOf t).gmpLoss

/-- The tributary is in signal degrade. -/
def State.tribSd (s : State) (t : Nat) : Bool := (s.carryEngs t).any (fun n => s.on .LE_FEC_STATUS_fec_excess n)

/-- Local fault as an OSET payload: O code 0 and three data bytes (R204, log entry 31). -/
def lfOset : Nat := 1

/-- The port of a tributary transmits toward the client. -/
def State.tribTx (s : State) (t : Nat) : Bool := s.on .CLI_PORT_STATUS_tx_on (s.srcPort t)

/-- Send something toward the client of a tributary, if its port transmits. -/
def State.toClient (s : State) (t : Nat) (o : Out) : State := if s.tribTx t then s.emit o else s

/-- End the frame in progress toward the client of a tributary: preamble and SFD before it, an error block at the end of an
errored one, and a gap of at least 12 bytes after it (R210, R211; log entry 169). -/
def State.endFrame (s : State) (t : Nat) (err : Bool) : State :=
  let x := s.tribOf t
  let s := if x.drop || (x.frm.isEmpty && !x.err) then s
    else s.toClient t (.client t (List.replicate 7 0x55 ++ 0xD5 :: x.frm) (err || x.err) 12)
  s.modTrib t (fun x => { x with frm := [], err := false, drop := false })

/-- The demapper of a tributary loses its blocks (R210). -/
def State.dlmHunt (s : State) (t : Nat) : State :=
  ((s.endFrame t true).modTrib t (fun x => { x with dlm := .hunt })).wr .FAB_TRIB_STATUS_adapt_ok t 0

/-- The peer's copy, tapped after deskew, takes the place of the own receive container (08_pair_protection.md R292). -/
def State.lineCopy (s : State) (t : Nat) : Bool :=
  (upTo 32).any (fun k => s.on .PAIR_BRIDGE_selected k && s.rd .PAIR_BRIDGE_trib k == t && s.on .PAIR_BRIDGE_tap k)

/-- What the client of a tributary in signal fail is sent: ODU-AIS, or local fault, with the demapper without blocks (R210, R230). -/
def State.sfOut (s : State) (t : Nat) : State :=
  if s.isGmp t then s.toClient t (.oduAis t) else (s.dlmHunt t).toClient t (.oset t lfOset)

/-- Bring the signal fail and signal degrade of a tributary up to date (R230); the container bytes received are invalid in signal
fail. While the peer's copy stands in for them, the demapper runs on it and the client is served from it (08_pair_protection.md
R292). -/
def State.tribRefresh (s : State) (t : Nat) : State :=
  let s := match s.tribGrp t with
    | some g => s.alignShow g
    | none => s
  let sf := s.tribSf t
  let was := s.on .FAB_TRIB_STATUS_sf t
  let s := (s.wr .FAB_TRIB_STATUS_sf t (b2n sf)).wr .FAB_TRIB_STATUS_sd t (b2n (s.tribSd t))
  if sf && !was then
    let s := s.modTrib t (fun x => { x with rxQ := [], rxLen := [] })
    if s.lineCopy t then s else s.sfOut t
  else s

/-- Bring every tributary in service up to date. -/
def State.fabRefresh (s : State) : State := s.activeTribs.foldl (fun t k => t.tribRefresh k) s

/-! ### Placement status (07_placement.md R264) -/

/-- Show the placement of a tributary. -/
def State.placeShow (s : State) (t st cause : Nat) : State :=
  let slots := ((upTo s.engines).map (fun n => ((s.txOf n).map.held t).length)).sum
  let used := ((upTo s.engines).filter (fun n => !((s.txOf n).map.held t).isEmpty)).foldl (fun a n => a + 2 ^ n) 0
  let (slots, used) := match (s.tribOf t).oz with
    | some e => (1, 2 ^ e)
    | none => (slots, used)
  s.wrs [(.PLACE_TRIB_STATUS_place_state, t, st), (.PLACE_TRIB_STATUS_cause, t, cause),
    (.PLACE_TRIB_STATUS_eng_used, t, used), (.PLACE_TRIB_STATUS_slots_held, t, satNat 9 slots)]

/-- A demand was refused or shed and waits to be tried again (07_placement.md R240, R241). -/
def State.isRefused (s : State) (t : Nat) : Bool :=
  s.rd .PLACE_TRIB_STATUS_cause t != 0 && s.rd .PLACE_TRIB_STATUS_place_state t % 3 == 0

/-- The demand of a tributary has changed: it is a new demand, refused or not before (07_placement.md R238, R262). -/
def State.demandNew (s : State) (t : Nat) : State :=
  if s.isRefused t then s.placeShow t 0 0
  else if s.rd .PLACE_TRIB_STATUS_place_state t == 1 then s.wr .PLACE_TRIB_STATUS_cause t 0
  else s

/-- pin_cause of an engine (07_placement.md R234): the lowest cause that holds. -/
def State.pinCause (s : State) (n : Nat) : Nat :=
  let p := s.rd .LE_PROFILE_prof_active n
  if p == 0 then 0
  else if !isLpn p then 1
  else if s.rd .LE_FRM_STATUS_fmt_tx n < 3 then 2
  else if s.on .LE_FRM_CTRL_ohb_gcc_en n then 3
  else if !s.on .PLACE_ENG_STATUS_chan_up n then 4
  else if s.rd .PLACE_ENG_STATUS_sw_state n == 3 then 5
  else 0

/-- Bring pin_cause up to date; an engine that becomes unpinned lets every unplaced demand be tried again
(07_placement.md R234, R241). -/
def State.pinRefresh (s : State) (n : Nat) : State :=
  let c := s.pinCause n
  let s := if s.rd .PLACE_ENG_STATUS_pin_cause n != 0 && c == 0 then { s with mode := { s.mode with retry := true } } else s
  s.wr .PLACE_ENG_STATUS_pin_cause n c

end Sys2Proof.Machine
end

