-- ==== Sys2Proof/Machine/PerfOps.lean ====
section
/-! DEFINITION. Shared operations of the inventory reader and of telemetry records (16_counters_and_events.md). -/
namespace Sys2Proof.Machine

/-- Begin a walk, or merge its cause into the held walk (R522). -/
def State.startWalk (s : State) (t0 cause : Nat) : State :=
  match s.perf.walk with
  | some _ => { s with perf := { s.perf with heldWalk := some ((s.perf.heldWalk.getD 0) ||| cause) } }
  | none =>
    { s with perf := { s.perf with walk := some (Walk.mk t0 cause (s.rd .TIM_DPLL0_STATUS_tod_trace) s.cnt s.wrapc) }, wlog := [] }

/-- How many of the changes since the walk began counter `k` is latched after: free values that rise with the counter's number, since a
walk latches in index order while the commands come in between (R521; log entry 11). -/
def State.latchInstant (s : State) (k : Nat) : Nat :=
  let n := s.wlog.length
  if n == 0 then 0
  else (upTo (k + 1)).foldl (fun i j => i + (Config.freeWord (s.free + j)).toNat % (n - i + 1)) 0

/-- Counter `k` and its wrap_cnt as a walk latched them: what the last change before the latch left, or what they were at the start
(R521). -/
def State.latchedAt (s : State) (w : Walk) (k : Nat) : Nat × Nat :=
  match (s.wlog.drop (s.wlog.length - s.latchInstant k)).find? (fun e => e.1 == k) with
  | some e => e.2
  | none => (SMap.get 0 w.cnt k, SMap.get 0 w.wrapc k % 4)

/-- Entry `k` of a counter snapshot; a counter that does not count reads 0 (R519, R523). -/
def State.snapEntry (s : State) (w : Walk) (k : Nat) : List Byte :=
  leBytes 8 (if s.cntValid k then (s.latchedAt w k).1 + (s.latchedAt w k).2 * 2 ^ 48 + 2 ^ 50 else 0)

/-- A counter snapshot (R523). -/
def State.snapRecord (s : State) (w : Walk) : List Byte :=
  leBytes 2 0 ++ leBytes 2 s.perf.recSeq ++ leBytes 1 w.cause ++ leBytes 1 w.trace ++ leBytes 2 768
    ++ leBytes 11 (stamp88 w.t0) ++ List.replicate 13 0 ++ (upTo 768).flatMap (s.snapEntry w)

/-- A record for a TLM ring that finds no buffer (R523, R524). -/
def State.tlmNobuf (s : State) (ring kind : Nat) : State :=
  s.raiseCount (.perf .tlmNobuf) { obj := ring, arg := some kind } 535

/-- The buffer posted on the TLM SQ a register names, if it names an ACTIVE TLM SQ (R523, R524). -/
def State.tlmBuf (s : State) (ring : Nat) : Option Desc := if s.activeSq ring 3 then s.postedBuf ring else none

/-- Write a counter snapshot to the ring that cnt_ring names, or drop it (R523). -/
def State.writeSnap (s : State) (w : Walk) : State :=
  let ring := s.rd .PERF_TLM_CTRL_cnt_ring
  let rec0 := s.snapRecord w
  let s := { s with perf := { s.perf with recSeq := (s.perf.recSeq + 1) % 65536 }, free := s.free + 768 }
  if ring == 0xFFFF then s
  else match s.tlmBuf ring with
    | none => s.tlmNobuf ring 0
    | some d => s.fillBuf d rec0 0 none

/-- Words of a housekeeping record that a buffer of `len` bytes takes (R524). -/
def hkWords (len : Nat) : Nat := len / 32 - 1

/-- Write the housekeeping record being gathered; with hk_ring 0xFFFF none is made (R524). -/
def State.writeHkRecord (s : State) : State :=
  let ring := s.rd .PERF_TLM_CTRL_hk_ring
  if s.perf.hkN == 0 then s
  else if ring == 0xFFFF then { s with perf := { s.perf with hkBuf := [], hkN := 0 } }
  else
    let bytes := leBytes 2 1 ++ leBytes 2 s.perf.hkSeq ++ leBytes 4 s.perf.hkN ++ List.replicate 24 0 ++ s.perf.hkBuf
    let n := s.perf.hkN
    let s := { s with perf := { s.perf with hkSeq := (s.perf.hkSeq + 1) % 65536, hkBuf := [], hkN := 0 } }
    match s.tlmBuf ring with
    | none => (List.replicate n ()).foldl (fun t _ => t.tlmNobuf ring 1) s
    | some d => s.fillBuf d bytes 1 none

/-- A housekeeping word joins the record being gathered, which is written when its buffer is full (R524). -/
def State.hkTelemetry (s : State) (ch : Nat) (word : List Byte) : State :=
  let ring := s.rd .PERF_TLM_CTRL_hk_ring
  if ring == 0xFFFF || !(s.rd .PERF_HK_MASK_hk_mask).testBit ch then s
  else match s.tlmBuf ring with
    | none => s.tlmNobuf ring 1
    | some d =>
      if hkWords d.len == 0 then s.tlmNobuf ring 1
      else
        let s := { s with perf := { s.perf with hkBuf := s.perf.hkBuf ++ word, hkN := s.perf.hkN + 1 } }
        if hkWords d.len ≤ s.perf.hkN then s.writeHkRecord else s

/-- Latch a counter for LO and HI (R535). -/
def State.latchCounter (s : State) (val : Nat) : State :=
  let k := val % 1024
  let v := if s.cntValid k then s.cntOf k else 0
  s.wrs [(.PERF_CNT_SEL_index, 0, k), (.PERF_CNT_LO_value_lo, 0, v % 2 ^ 32), (.PERF_CNT_HI_value_hi, 0, v / 2 ^ 32),
    (.PERF_CNT_HI_wrap_cnt, 0, SMap.get 0 s.wrapc k), (.PERF_CNT_HI_valid, 0, b2n (s.cntValid k))]

/-- A summary record (R529): it carries the ev_seq of the last event raised and does not advance the count (R526). -/
def State.summary (s : State) (code obj n sev : Nat) : State :=
  match s.evRoute sev with
  | none => s
  | some r =>
    if s.cqFull r || (s.ringOf r).dropped != 0 then
      ((s.modRing r (fun q => { q with dropped := q.dropped + 1 })).setEv .HOST_EV_evt_drop 0).count 523
    else
      s.writeEntry r (evHead code sev true) (evTail obj ((s.perf.evSeq + 65535) % 65536) n 0 s.tim.tod) (decide (2 ≤ sev))

/-- One summary record for each pair whose records were suppressed in the second that ends (R529). -/
def State.summaries (s : State) : State :=
  s.perf.evSup.foldl (fun t kv => t.summary (kv.1 / 65536) (kv.1 % 65536) kv.2.1 kv.2.2)
    { s with perf := { s.perf with evCnt := [], evSup := [] } }

end Sys2Proof.Machine
end

