-- ==== Sys2Proof/Machine/CalItems.lean ====
section
/-! DEFINITION. The trim items, their estimators, and a forced calibration (13_calibration.md R445 to R448, R461). -/
namespace Sys2Proof.Machine

/-- Range about the factory value and step limit of an item in units of its resolution, and its instances (R445); of
HK_OFS in codes, rounded down. -/
def trimItem : Nat → Nat × Nat × Nat
  | 0 => (2048, 128, 256)
  | 1 => (5000, 200, 256)
  | 2 => (300, 10, 256)
  | 3 => (100, 10, 2)
  | 4 => (400, 20, 1)
  | 5 => (200, 10, 8)
  | 6 => (100, 10, 2)
  | 7 => (400, 20, 1)
  | 8 => (83886, 4194, 8)
  | 9 => (20000, 500, 8)
  | 10 => (200, 10, 4)
  | 11 => (2000, 100, 4)
  | _ => (0, 0, 0)

/-- The least whole number of units that is not below an item's step limit, which is 4,194.304 codes for HK_OFS (R445, R448). -/
def stepCeil (item : Nat) : Nat := (trimItem item).2.1 + b2n (item == 8)

/-- Key of a trim in the calibration tables. -/
def trimKey (item n idx : Nat) : Nat := n * 65536 + item * 1024 + idx

/-- A regular sequence that contains a calibration slot runs; one that runs continuously has no idle slot (R446, R447;
12_housekeeping.md R418). -/
def State.calSlots (s : State) : Bool :=
  s.hk.reg && !(s.on .HK_CTRL_seq_loop && s.rd .HK_CTRL_reg_len == 0) && (upTo (s.rd .HK_CTRL_reg_len + 1)).any (fun k =>
    decide (32 ≤ s.rd .HK_SEQ_chan k) && decide (44 ≤ s.rd .HK_SEQ_count k))

/-- Instances of an item that are estimated: of the analog outputs those enabled (R445, R447). -/
def State.itemInst (s : State) (item : Nat) : List Nat :=
  (upTo (trimItem item).2.2).filter (fun i => decide (item < 10) || s.on .HK_AOUT_CTRL_en i)

/-- Item and instance of the calibration point that is next: at each gain the 0 V point and that of 0.8 of full scale, then each enabled
output at its two codes (R447). -/
def State.calPoint (s : State) : Nat × Nat :=
  let outs := (upTo 4).filter (fun k => s.on .HK_AOUT_CTRL_en k)
  let p := s.hk.calPt % (16 + 2 * outs.length)
  if p < 16 then (8 + p % 2, p / 2) else (10 + p % 2, outs.getD ((p - 16) / 2) 0)

/-- An estimate of an instance is there: of a housekeeping item, one of the point that a whole calibration slot has just measured
(R447). -/
def State.estDue (s : State) (item idx : Nat) : Bool := decide (item < 8) || s.hk.calDone == some (item, idx)

/-- The estimator of an item runs (R446, R447). -/
def State.estRuns (s : State) (item n : Nat) : Bool :=
  s.on .CAL_CTRL_bg_en && (if item < 8 then s.hasEng n && s.on .LE_PROFILE_prof_active n else true)
    && (if item < 3 then s.on .LE_STATUS_sig_present n
        else if item < 5 then s.on .LE_STATUS_dsp_lock n
        else if item < 8 then s.on .LE_TX_CTRL_tx_active n
        else s.calSlots && !(s.itemInst item).isEmpty)

/-- Every instance of an item that is estimated has converged (R448; log entry 185). -/
def State.itemConv (s : State) (item n : Nat) : Bool :=
  !(s.itemInst item).isEmpty && (s.itemInst item).all (fun i => SMap.get 0 s.cal.conv (trimKey item n i) == 3)

/-- Key of an item in the list of a forced calibration. -/
def forceKey (item n : Nat) : Nat := 16 * (if item < 8 then n else 4) + item

/-- The item is in a forced calibration (R461). -/
def State.forced (s : State) (item n : Nat) : Bool := s.cal.force.contains (forceKey item n)

/-- Items of a forced calibration leave it when they converge; it is done when no estimator that runs is left in it, those of engine
`n` and of the items `stop` being about to stop, and an item whose estimator does not run stays without the step check until it
converges (R461). -/
def State.forceCheck (s : State) (n : Nat := 0) (stop : List Nat := []) : State :=
  if s.cal.force.isEmpty then s
  else
    let left := s.cal.force.filter (fun k => !s.itemConv (k % 16) (if k % 16 < 8 then k / 16 else 0))
    let s := { s with cal := { s.cal with force := left } }
    let runs := left.any (fun k => s.estRuns (k % 16) (k / 16) && !(k / 16 == n && stop.contains (k % 16)))
    if runs || !s.cal.forceWait then s
    else { s with cal := { s.cal with forceWait := false } }.raiseReg .CAL_EV_force_done

end Sys2Proof.Machine
end

