-- ==== Sys2Proof/Machine/EngOps.lean ====
section
/-! DEFINITION. Shared operations on a line engine: service, transmitter, defects, acquisition, decoder, placement
channel (03_line_engine.md, 04_nurnauri_fec.md, 05_line_framing.md, 07_placement.md). -/
namespace Sys2Proof.Machine

/-! ### Mode and service -/

/-- Mode code in force (02_modes.md R33): 0 SETUP, 1 TRANSPONDER, 2 MUXPONDER, 3 REGENERATOR, 4 MAINTENANCE, 5 SHADOW. -/
def State.modeNow (s : State) : Nat := s.rd .SYS_MODE_mode
/-- Role code in force: 0 UNPAIRED, 1 ACTIVE, 2 STANDBY. -/
def State.role (s : State) : Nat := s.rd .SYS_MODE_role
/-- Power state RUN or TRIM (14_power_and_cellar.md R464); not after a rail failure, which leaves the device down until a
COLD reset (14_power_and_cellar.md R485). -/
def State.awake (s : State) : Bool := decide (s.rd .PWR_STATUS_state ≤ 1) && !s.pwr.failed
/-- Profile in force of engine `n`. -/
def State.prof (s : State) (n : Nat) : Nat := s.rd .LE_PROFILE_prof_active n
/-- Engine `n` is in service. -/
def State.inService (s : State) (n : Nat) : Bool := s.prof n != 0
/-- Engine `n` is in service on an LP-N profile. -/
def State.lpn (s : State) (n : Nat) : Bool := isLpn (s.prof n)
/-- The other engine of the REGENERATOR pair (01_architecture.md R15). -/
def partner (n : Nat) : Nat := n + 1 - 2 * (n % 2)
/-- FEC test runs on engine `n` (04_nurnauri_fec.md R146). -/
def State.fecTest (s : State) (n : Nat) : Bool :=
  s.modeNow == 4 && s.inService n && s.on .LE_FEC_CTRL_fec_test n

/-! ### Format level (05_line_framing.md R174, R175) -/

/-- fmt_max as it acts (R192): 0 acts as 1, 4 to 7 as 3. -/
def State.fmtMax (s : State) (n : Nat) : Nat := max 1 (min 3 (s.rd .LE_FRM_CTRL_fmt_max n))

/-- The level a start of the transmitter gives (R174). -/
def State.fmtFor (s : State) (n : Nat) : Nat :=
  let far := (s.rxOf n).fmtFar
  if far == 0 then 1 else min (s.fmtMax n) far

/-- Take a level to send; with cipher ON a level below 3 raises FMT_LIMIT (R175). -/
def State.setLevel (s : State) (n lvl : Nat) : State :=
  let changed := (s.txOf n).lvl != lvl
  let s := ((s.modTx n (fun x => { x with lvl := lvl })).wr .LE_FRM_STATUS_fmt_tx n lvl).pinRefresh n
  if changed && decide (lvl < 3) && s.rd .CIPH_ENG_CTRL_use_active n == 1 then
    s.raiseReg .LE_FRM_EV_fmt_limit n { obj := n }
  else s

/-- The far FMT_MAX is dropped; the level sent and an acceptance that waits for its SFM stay (R174). -/
def State.dropFmtFar (s : State) (n : Nat) : State :=
  (s.modRx n (fun x => { x with fmtFar := 0, fmtRun := 0 })).wr .LE_FRM_STATUS_fmt_far n 0

/-! ### Estimators that stop (13_calibration.md R446, R448) -/

/-- The estimators of some items of an engine stop: the items are no longer converged (R448), and a forced calibration that waited
for them alone is done (R461). -/
def State.calStop (s : State) (n : Nat) (items : List Nat) : State :=
  let s := { s with cal := { s.cal with
    conv := s.cal.conv.filter (fun kv => !(kv.1 / 65536 == n && items.contains (kv.1 % 65536 / 1024))) } }
  (s.wr .CAL_ENG_STATUS_conv n ((upTo 8).foldl (fun a c =>
    a + (if (s.rd .CAL_ENG_STATUS_conv n).testBit c && !items.contains c then 2 ^ c else 0)) 0)).forceCheck n items

/-! ### Transmitter (03_line_engine.md R83, R84) -/

/-- The shares of group frames that wait for engine `n` are dropped: they were cut for frames it does not send
(06_tributary_mapping.md R219, R221). -/
def State.shareDrop (s : State) (n : Nat) : State :=
  (s.grp.map (·.1)).foldl (fun t g => t.modGrp g (fun x => { x with share := x.share.filter (fun e => e.1 != n) })) s

/-- The transmitter of engine `n` is to be active (R83): not in a held mode nor while the wake pattern is sent
(14_power_and_cellar.md R471); in SHADOW it sends under 08_pair_protection.md R286. -/
def State.txWanted (s : State) (n : Nat) : Bool :=
  s.inService n && decide (1 ≤ s.modeNow) && s.awake && !s.on .LE_TX_CTRL_tx_mute n && !s.mode.held && !(s.txOf n).wakePat

/-- An anchoring of the partner's transmitter in REGENERATOR (06_tributary_mapping.md R229): a new D_reg of at most 12 us,
a fresh encoder, and nothing handed over yet. How D_reg follows from the profile and the dispersion is not stated: a free
value, in ns (log entry 37). -/
def State.anchor (s : State) (n : Nat) : State :=
  ((s.modTx n (fun x => { x with dReg := (Config.freeWord s.free).toNat % 12001, regenQ := [] })).modFec n
    (fun x => { x with encPos := 0, encPrev := [] })).tick

/-- A loopback of MAINTENANCE is in force on engine `n` (03_line_engine.md R116): 1 NEAR_DIG, 2 FAR_SYM; 3 acts as NONE. -/
def State.loopback (s : State) (n : Nat) : Nat := if s.modeNow == 4 then s.rd .LE_TX_CTRL_lb_mode n % 3 else 0

/-- The DACs of engine `n` are driven while its transmitter is active, and hold mid-scale otherwise and in NEAR_DIG
(03_line_engine.md R84, R116). -/
def State.dacShow (s : State) (n : Nat) : State :=
  { s with pin := { s.pin with dacOn := SMap.set false s.pin.dacOn n (s.on .LE_TX_CTRL_tx_active n && s.loopback n != 1 && !s.padHeld 0) } }

/-- The transmitter starts: a new frame grid, a fresh encoder, the level of R174 (04 R121, 05 R151). -/
def State.txStart (s : State) (n : Nat) : State :=
  let s := (s.wr .LE_TX_CTRL_tx_active n 1).dacShow n
  let s := s.modFec n (fun x => { x with encPos := 0, encPrev := [], txPrbs := 0x7FFFFFFF, lanes := [] })
  if s.fecTest n then s
  else
    let s := s.modTx n (fun x => { x with on := true, fn := 0, sfm := false, lvl := 0, fmtPend := none, mkNow := false, loopQ := [] })
    let s := (if s.modeNow == 3 then s.anchor n else s).shareDrop n
    if s.lpn n then s.setLevel n (s.fmtFor n) else s

/-- The transmitter stops: the DACs hold mid-scale, no SFM is sent (R84). fmt_tx keeps the last level meanwhile (log entry 208). -/
def State.txStop (s : State) (n : Nat) : State :=
  let s := (s.wr .LE_TX_CTRL_tx_active n 0).dacShow n
  ((s.modTx n (fun x => { x with on := false, loopQ := [] })).shareDrop n).calStop n [5, 6, 7]

/-- Bring the transmitter of engine `n` to what R83 asks. -/
def State.txRefresh (s : State) (n : Nat) : State :=
  let want := s.txWanted n
  if want && !s.on .LE_TX_CTRL_tx_active n then s.txStart n
  else if !want && s.on .LE_TX_CTRL_tx_active n then s.txStop n
  else s.dacShow n

/-! ### Defects (05_line_framing.md R179 to R183) -/

/-- The defects with their place in defect_sec. -/
inductive Defect where
  | los | lof | ais | rdi | bdeg
deriving DecidableEq, Repr

/-- Status field of a defect. -/
def Defect.fld : Defect → Fld
  | .los => .LE_FRM_STATUS_dlos
  | .lof => .LE_FRM_STATUS_dlof
  | .ais => .LE_FRM_STATUS_dais
  | .rdi => .LE_FRM_STATUS_drdi
  | .bdeg => .LE_FRM_STATUS_dbdeg

/-- Declare or clear a defect: its bit, defect_chg, and the record of the interval (R179, R181, R192; 16 R527). -/
def State.setDefect (s : State) (n : Nat) (d : Defect) (v : Bool) : State :=
  if s.on d.fld n == v then s
  else
    let s := s.wr d.fld n (b2n v)
    let s := if v then s.modPm n (fun x => { x with defs := x.defs ||| 2 ^ d.ctorIdx }) else s
    let major := v && decide (d.ctorIdx ≤ 2)
    let s := if d.ctorIdx ≤ 2 then s.fabRefresh else s
    s.raiseReg .LE_FRM_EV_defect_chg n { obj := n, sev := some (if major then 2 else 1) }

/-- dRDI and dBDEG are cleared and their runs start afresh (R180). -/
def State.clearBack (s : State) (n : Nat) : State :=
  ((s.modRx n (fun x => { x with rdiRun := 0, bdegRun := 0 })).setDefect n .rdi false).setDefect n .bdeg false

/-- dAIS, dRDI and dBDEG are cleared and their runs start afresh (R180). -/
def State.clearOverheadDefects (s : State) (n : Nat) : State :=
  ((s.modRx n (fun x => { x with aisRun := 0 })).setDefect n .ais false).clearBack n

/-- The placement channel of engine `n` falls, which raises PLACE_CHAN_LOST (07_placement.md R245). -/
def State.chanDown (s : State) (n : Nat) : State :=
  let s := s.modSk n (fun k => { k with okRun := 0 })
  if !s.on .PLACE_ENG_STATUS_chan_up n then s
  else
    ((s.wr .PLACE_ENG_STATUS_chan_up n 0).pinRefresh n).raiseReg .PLACE_EV_chan_lost 0 { obj := n }

/-- dLOF is declared (R179, R180), which takes the placement channel down (07 R245). -/
def State.declareLof (s : State) (n : Nat) : State :=
  ((s.setDefect n .lof true).clearOverheadDefects n).chanDown n

/-- dLOS is declared (R179, R180). -/
def State.declareLos (s : State) (n : Nat) : State :=
  ((s.setDefect n .los true).clearOverheadDefects n).chanDown n

/-- dLOS clears; dLOF follows at once if in_frame has been 0 for 3 ms (R180). -/
def State.clearLos (s : State) (n : Nat) : State :=
  if !s.on .LE_FRM_STATUS_dlos n then s
  else
    let s := s.setDefect n .los false
    if (s.rxOf n).lossRun && !s.on .LE_FRM_STATUS_in_frame n then s.declareLof n else s

/-- Every defect of an engine that leaves service or is reset starts clear. -/
def State.clearDefects (s : State) (n : Nat) : State :=
  (((s.clearOverheadDefects n).setDefect n .los false).setDefect n .lof false)

/-! ### Receive framer (05_line_framing.md R163) -/

/-- The receive framer leaves IF: in_frame falls and the far FMT_MAX is dropped (R163, R174); a message that has not been
judged cannot be (10_cipher.md R359: SKIP), a NO_KEY among them breaks the runs of R360, and no SC is known from here on (10_cipher.md R358). Runs of consecutive frames and
superframes break (R161, R169); the 3 ms of an in_frame that was 0 before run on (R180). -/
def State.rxLost (s : State) (n : Nat) : State :=
  let was := s.on .LE_FRM_STATUS_in_frame n
  let s := if was then (s.wr .LE_FRM_STATUS_in_frame n 0).dropFmtFar n else s
  let x := s.rxOf n
  let left := ((x.prev ++ x.msgs).filter (fun m => m.kind == 0 || m.kind == 3)).length
  let s := if left == 0 then s else s.count (cEng n 12) left
  let s := s.modFec n (fun f => { f with outQ := [], skip := 0 })
  let broken := ((x.prev ++ x.msgs).filter (fun m => m.kind == 1 || m.kind == 2)).map (·.locker)
  let cut := fun (m : SMap Nat) => broken.foldl (fun m l => SMap.set 0 m l 0) m
  s.modRx n (fun x => { x with failRun := cut x.failRun, passRun := cut x.passRun, midway := false, st := .oof, bad := 0, wait := [], lossRun := x.lossRun && !was, bipOk := false, look := [],
                               msgs := [], prev := [], scNext := [], scUse := [], scPrev := [], tti := [], ttiRun := 0, protRun := 0 })

/-! ### Decoder (04_nurnauri_fec.md R132, R138) -/

/-- The decoder restarts with an empty window and two predecessors of zero reliability (R132); the window in progress is not
valid (R138). On an interoperable profile the first 64 FEC blocks are its start-up positions (log entry 160). -/
def State.decRestart (s : State) (n : Nat) : State :=
  s.modFec n (fun x => { x with restarts := (x.restarts + 1) % 2 ^ 32, startup := 64, spoiled := true, win := [], old := [],
                                sweep := 0, gated := false, outQ := [], skip := 0, loopPos := [] })

/-- Something of R138 spoils the window in progress. -/
def State.decSpoil (s : State) (n : Nat) : State := s.modFec n (fun x => { x with spoiled := true })

/-- fec_excess and its evaluation return to CLEAR (R136). -/
def State.excessClear (s : State) (n : Nat) : State :=
  ((s.wr .LE_FEC_STATUS_fec_excess n 0).modFec n (fun x => { x with setRun := 0, clrRun := 0 })).fabRefresh

/-! ### Acquisition (03_line_engine.md R101) -/

/-- sig_on and the sig_off in use, in 0.01 dBFS (R86, R87). -/
def State.sigThr (s : State) (n : Nat) : Int × Int :=
  let a : Int := -25 * s.rd .LE_SIG_THR_sig_on n
  let b : Int := -25 * s.rd .LE_SIG_THR_sig_off n
  (a, if a - b < 100 then a - 100 else b)

/-- The received rate (R108): rate_rx, or nominal until a passing header was read. -/
def State.rxRate (s : State) (n : Nat) : Nat :=
  if (s.acqOf n).hdrRead then s.rd .LE_FRM_STATUS_rate_rx n else nomRate (s.prof n)

/-- snr_req in 0.01 dB at the received rate (R108); a free value where the formula gives none. -/
def State.snrReqNow (s : State) (n : Nat) : Int :=
  (snrReq (s.prof n) (s.rxRate n) (s.on .LE_STATUS_pilot_on n)).getD (Config.freeSnrReq s.free).toInt

/-- The SNR below which the engine unlocks, 0.01 dB (R101). -/
def State.snrUnlock (s : State) (n : Nat) : Int := s.snrReqNow n - 25 * s.rd .LE_SIG_THR_snr_unlock n

/-- Move the acquisition machine. -/
def State.setAcq (s : State) (n st : Nat) : State := s.wr .LE_STATUS_acq_state n st

/-- Enter the dispersion search, or CLK_ACQ with cd_mode FIXED in range (R90, R92, R101, R104). -/
def State.enterSearch (s : State) (n : Nat) : State :=
  let hint := s.rdInt .LE_CDC_CTRL_cd_hint n
  let m := s.rd .LE_CDC_CTRL_cd_mode n
  let out := decide (cdRange (s.prof n) < hint.natAbs) && (m == 1 || m == 2)
  let s := s.modAcq n (fun a => { a with cdMode := m, cdHint := hint, cdWin := s.rd .LE_CDC_CTRL_cd_window n,
                                         frozen := false, trackCrit := false })
  if m == 2 && !out then (s.modAcq n (fun a => { a with cdApplied := hint, cdTrack := 0 })).setAcq n 3
  else (s.wr .LE_STATUS_cd_hint_err n (b2n out)).setAcq n 2

/-- Count an acquisition failure and search again (R101). -/
def State.acqFail (s : State) (n : Nat) : State :=
  (s.raiseCount (.reg .LE_STATUS_EV_acq_fail n) { obj := n } (cEng n 0)).enterSearch n

/-- Restart the 100 ms margin window (R109). -/
def State.winRestart (s : State) (n : Nat) : State :=
  (s.modAcq n (fun a => { a with winCnt := 0, snrHist := [], gmiHist := [] })).wr .LE_MARGIN_margin_valid n 0

/-- dsp_lock rises (R101): LE_LOCK, the margin window and the decoder restart (04 R132). -/
def State.gainLock (s : State) (n : Nat) : State :=
  let s := (s.setAcq n 6).wr .LE_STATUS_dsp_lock n 1
  let s := { s with cal := { s.cal with estStuck := SMap.set false s.cal.estStuck n false } }
  let s := ((s.modAcq n (fun a => { a with frozen := false })).winRestart n).decRestart n
  s.raiseReg .LE_STATUS_EV_lock_gained n { obj := n }

/-- dsp_lock falls (R95, R110, R114; 05 R163); the registers hold the last locked values. Readings that wait to be shown are dropped (DESIGN CHOICE, log entry 192). -/
def State.dropLock (s : State) (n : Nat) : State :=
  let s := s.wrs [(.LE_STATUS_dsp_lock, n, 0), (.LE_STATUS_est_converged, n, 0), (.LE_MARGIN_margin_valid, n, 0),
    (.LE_CD_EST_cd_valid, n, 0), (.LE_FO_EST_fo_valid, n, 0), (.LE_FEC_STATUS_decoding, n, 0)]
  let s := (s.calStop n [3, 4]).wr .CAL_ENG_STATUS_requesting n 0
  ((s.decSpoil n).modFec n (fun f => { f with staged := none, ended := false })).rxLost n

/-- LOCKED is left for HOLD (R101). -/
def State.unlock (s : State) (n : Nat) : State :=
  let s := (s.modAcq n (fun a => { a with frozen := true })).setAcq n 7
  (s.dropLock n).raiseReg .LE_STATUS_EV_lock_lost n { obj := n }

/-- sig_present rises (R86, R101, 05 R179). -/
def State.sigRise (s : State) (n : Nat) : State :=
  let s := (s.wr .LE_STATUS_sig_present n 1).clearLos n
  if s.rd .LE_STATUS_acq_state n == 1 then s.enterSearch n else s

/-- sig_present falls while the converters run (R86, R101, R106, 05 R179). -/
def State.sigFall (s : State) (n : Nat) : State :=
  let s := (((s.wr .LE_STATUS_sig_present n 0).calStop n [0, 1, 2]).raiseReg .LE_STATUS_EV_sig_lost n { obj := n }).declareLos n
  let s := s.modTx n (fun x => { x with suspect := false })
  let st := s.rd .LE_STATUS_acq_state n
  if st == 2 then s.setAcq n 1 else if st == 6 then s.unlock n else s

/-- The machine stops: DSP off, estimates cleared, IDLE; sig_present clears without a loss (R86, R101). -/
def State.acqStop (s : State) (n : Nat) : State :=
  let s := if s.on .LE_STATUS_dsp_lock n then s.dropLock n else s.rxLost n
  let s := ((s.modAcq n (fun _ => {})).modTx n (fun x => { x with suspect := false })).calStop n [0, 1, 2]
  s.wrs [(.LE_STATUS_acq_state, n, 0), (.LE_STATUS_sig_present, n, 0), (.LE_STATUS_dsp_lock, n, 0),
    (.LE_STATUS_est_converged, n, 0), (.LE_FEC_STATUS_decoding, n, 0)]

/-- An in-service engine in RUN or TRIM starts its converters (R101); every window from here on begins under the thresholds in
force (R86). -/
def State.acqStart (s : State) (n : Nat) : State :=
  if s.inService n && s.awake && s.rd .LE_STATUS_acq_state n == 0 then
    (s.modAcq n (fun a => { a with sigHi := 0, sigLo := 0, sigSkip := false })).setAcq n 1
  else s

end Sys2Proof.Machine
end

