-- ==== Sys2Proof/Machine/Acq.lean ====
section
/-! DEFINITION. Meanings of the signal and acquisition events of a line engine (03_line_engine.md R86 to R106). A
time-driven event whose state does not hold changes nothing (log entry 10). -/
namespace Sys2Proof.Machine

/-- The acquisition machine of an engine of the part is in a state. -/
def State.inAcq (s : State) (n st : Nat) : Bool := s.hasEng n && s.rd .LE_STATUS_acq_state n == st

/-- Take a free value's number if snr_req was one. -/
def State.reqUsed (s : State) (n : Nat) : State := if (snrReq (s.prof n) (s.rxRate n) false).isNone then s.tick else s

/-- SIG_WINDOW: a 10 µs window of mean power `pwr`, 0.01 dBFS, ends (R86, R87); one that was in progress when a threshold
was written does not count. -/
def State.sigWindow (s : State) (n : Nat) (pwr : Int) : State :=
  if !s.hasEng n || s.rd .LE_STATUS_acq_state n == 0 then s
  else
    let (on, off) := s.sigThr n
    let s := s.modAcq n (fun a =>
      if a.sigSkip then { a with sigSkip := false }
      else { a with sigHi := if on ≤ pwr then min 10 (a.sigHi + 1) else 0,
                    sigLo := if pwr < off then min 10 (a.sigLo + 1) else 0 })
    let a := s.acqOf n
    if a.sigHi == 10 && !s.on .LE_STATUS_sig_present n then s.sigRise n
    else if a.sigLo == 10 && s.on .LE_STATUS_sig_present n then s.sigFall n
    else s

/-- SIG_WINDOW (R86). -/
def execSigWindow (n : Eng) (pwr : Int) (s : State) : Host.Outcome State Fault Refusal := ok (s.sigWindow n pwr)

/-- CLIP_WINDOW: a 1 ms window ends; clipped samples of each lane out of `samples` (R88). -/
def execClipWindow (n : Eng) (clipped : List Nat) (samples : Nat) (s : State) : Host.Outcome State Fault Refusal :=
  ok (if !s.hasEng n || s.rd .LE_STATUS_acq_state n == 0 then s
    else
      let c := clipped.any (fun k => decide (samples < 10000 * k))
      let rise := c && !s.on .LE_STATUS_clip n
      let s := s.wr .LE_STATUS_clip n (b2n c)
      if rise then s.raiseReg .LE_STATUS_EV_clip_seen n { obj := n } else s)

/-- The hypotheses that a search tests (R90 to R92). -/
def State.searchGrid (s : State) (n : Nat) : List Nat :=
  let a := s.acqOf n
  let p := s.prof n
  if a.cdMode == 1 && decide (a.cdHint.natAbs ≤ cdRange p) then hintGrid p a.cdHint a.cdWin else upTo 200

/-- The tested hypothesis with the largest clock tone; of equal tones the lowest (R91, log entry 12). -/
def bestTone (tone grid : List Nat) : Nat :=
  grid.foldl (fun b k => if (tone[b]?.getD 0) < (tone[k]?.getD 0) then k else b) (grid.headD 0)

/-- ACQ_CD_SEARCH_END: `tone` gives the clock-tone magnitude of each grid hypothesis (R91, R101). -/
def execAcqCdSearchEnd (n : Eng) (tone : List Nat) (s : State) : Host.Outcome State Fault Refusal :=
  ok (if s.inAcq n 2 then
      let k := bestTone tone (s.searchGrid n)
      (s.modAcq n (fun a => { a with cdApplied := gridCd (s.prof n) k, cdTrack := 0 })).setAcq n 3
    else s)

/-- ACQ_CLK_LOCK: timing error within ±1 ppm for 100 µs; EQ_ACQ loads mu_acq (R101, R104). -/
def execAcqClkLock (n : Eng) (ppb : Int) (s : State) : Host.Outcome State Fault Refusal :=
  ok (if s.inAcq n 3 && decide (ppb.natAbs ≤ 1000) then
      (s.modAcq n (fun a => { a with muAcq := s.rd .LE_EQ_CR_CTRL_mu_acq n })).setAcq n 4
    else s)

/-- ACQ_CLK_TIMEOUT (R101). -/
def execAcqClkTimeout (n : Eng) (s : State) : Host.Outcome State Fault Refusal :=
  ok (if s.inAcq n 3 then s.acqFail n else s)

/-- fo_range as it acts, in 100 MHz (R118). -/
def State.foRange (s : State) (n : Nat) : Nat :=
  let r := s.rd .LE_EQ_CR_CTRL_fo_range n
  if r == 0 || 100 < r then 50 else r

/-- ACQ_EQ_CONVERGE: the equalizer goes to its tracking criterion; CAR_ACQ loads fo_range (R96, R101, R104). -/
def execAcqEqConverge (n : Eng) (s : State) : Host.Outcome State Fault Refusal :=
  ok (if s.inAcq n 4 then
      (s.modAcq n (fun a => { a with trackCrit := true, foRange := s.foRange n })).setAcq n 5
    else s)

/-- ACQ_EQ_TIMEOUT (R101). -/
def execAcqEqTimeout (n : Eng) (s : State) : Host.Outcome State Fault Refusal :=
  ok (if s.inAcq n 4 then s.acqFail n else s)

/-- snr_inst meets the lock condition (R101). -/
def State.snrLocks (s : State) (n : Nat) (snrMin : Int) : Bool := decide (s.snrUnlock n + 100 ≤ snrMin)

/-- ACQ_CAR_LOCK: offset `fo` MHz found, every snr_inst of 1 ms at least `snrMin` (R99, R101). -/
def execAcqCarLock (n : Eng) (fo snrMin : Int) (s : State) : Host.Outcome State Fault Refusal :=
  ok (if s.inAcq n 5 && decide (fo.natAbs ≤ 100 * (s.acqOf n).foRange) && s.snrLocks n snrMin then
      ((s.reqUsed n).modAcq n (fun a => { a with fo := fo })).gainLock n
    else s)

/-- ACQ_CAR_TIMEOUT (R101). -/
def execAcqCarTimeout (n : Eng) (s : State) : Host.Outcome State Fault Refusal :=
  ok (if s.inAcq n 5 then s.acqFail n else s)

/-- The condition of the LOCKED row holds (R101). -/
def State.mustUnlock (s : State) (n : Nat) : UnlockObs → Bool
  | .lowSnr m => decide (m < s.snrUnlock n)
  | .timing ppb => decide (200000 < ppb.natAbs)
  | .sigLost => !s.on .LE_STATUS_sig_present n

/-- ACQ_UNLOCK (R95, R101, R106, R110, R114). -/
def execAcqUnlock (n : Eng) (why : UnlockObs) (s : State) : Host.Outcome State Fault Refusal :=
  ok (if s.inAcq n 6 && s.mustUnlock n why then (s.reqUsed n).unlock n else s)

/-- ACQ_HOLD_RELOCK: relock from the frozen estimates (R101, R103). -/
def execAcqHoldRelock (n : Eng) (fo snrMin : Int) (s : State) : Host.Outcome State Fault Refusal :=
  ok (if s.inAcq n 7 && s.on .LE_STATUS_sig_present n && s.snrLocks n snrMin then
      ((s.reqUsed n).modAcq n (fun a => { a with fo := fo })).gainLock n
    else s)

/-- ACQ_HOLD_TIMEOUT: 10 ms in HOLD (R101). -/
def execAcqHoldTimeout (n : Eng) (s : State) : Host.Outcome State Fault Refusal :=
  ok (if s.inAcq n 7 then
      let s := s.modAcq n (fun a => { a with frozen := false })
      if s.on .LE_STATUS_sig_present n then s.enterSearch n else s.setAcq n 1
    else s)

end Sys2Proof.Machine
end

