-- ==== Sys2Proof/Machine/Crypto.lean ====
section
/-! DEFINITION. AES-256, GCM and the AES Key Wrap, by the standards that 10_cipher.md R347, R354 and R365 name. -/
namespace Sys2Proof.Machine

/-- CRC-16 of 05_line_framing.md R157. -/
def crc16 (bs : List Byte) : Nat := crcBits 16 0x1021 0xFFFF (bitsOfBytes bs)

/-! ### AES-256 -/

/-- Multiply by x in GF(2^8) of AES. -/
def xtime (a : Nat) : Nat := if 128 ≤ a then (a * 2) ^^^ 0x11B else a * 2

/-- Product in GF(2^8) of AES. -/
def gmul (a b : Nat) : Nat :=
  ((upTo 8).foldl (fun (acc : Nat × Nat) k => (if b.testBit k then acc.1 ^^^ acc.2 else acc.1, xtime acc.2)) (0, a)).1

/-- Inverse in GF(2^8), 0 of 0: the power 254. -/
def ginv (a : Nat) : Nat := ((upTo 7).foldl (fun (acc : Nat × Nat) _ =>
  let sq := gmul acc.2 acc.2
  (gmul acc.1 sq, sq)) (1, a)).1

/-- Rotate a byte left. -/
def rotl8 (a k : Nat) : Nat := (a * 2 ^ k + a / 2 ^ (8 - k)) % 256

/-- SubBytes of one byte. -/
def sbox (a : Nat) : Nat :=
  let x := ginv a
  x ^^^ rotl8 x 1 ^^^ rotl8 x 2 ^^^ rotl8 x 3 ^^^ rotl8 x 4 ^^^ 0x63

/-- InvSubBytes of one byte. -/
def invSbox (a : Nat) : Nat := ginv (rotl8 a 1 ^^^ rotl8 a 3 ^^^ rotl8 a 6 ^^^ 0x05)

/-- Bytewise exclusive or. -/
def xorL (a b : List Nat) : List Nat := List.zipWith (· ^^^ ·) a b

/-- The `k`-th group of four. -/
def group4 (l : List Nat) (k : Nat) : List Nat := (l.drop (4 * k)).take 4

/-- The 15 round keys of AES-256 as one list of 240 bytes. -/
def aesKeys (key : Nat) : List Nat :=
  let k0 := (beBytes 32 key).map (·.toNat)
  ((upTo 52).foldl (fun (acc : List Nat × Nat) j =>
    let w := acc.1
    let i := j + 8
    let p := (w.drop (4 * (i - 1))).take 4
    let p' := if i % 8 = 0 then xorL ((p.drop 1 ++ p.take 1).map sbox) [acc.2, 0, 0, 0]
      else if i % 8 = 4 then p.map sbox else p
    (w ++ xorL (group4 w (i - 8)) p', if i % 8 = 0 then xtime acc.2 else acc.2)) (k0, 1)).1

/-- Round key `r`. -/
def roundKey (ks : List Nat) (r : Nat) : List Nat := (ks.drop (16 * r)).take 16

/-- ShiftRows on 16 bytes in column order, to the left by row number times `d`. -/
def shiftRows (d : Nat) (l : List Nat) : List Nat :=
  (upTo 16).map (fun i => l.getD (((i / 4 + (i % 4) * d) % 4) * 4 + i % 4) 0)

/-- MixColumns with the first row of its matrix. -/
def mixColumns (m : List Nat) (l : List Nat) : List Nat :=
  (upTo 16).map (fun i =>
    let c := group4 l (i / 4)
    (upTo 4).foldl (fun a j => a ^^^ gmul (m.getD ((j + 4 - i % 4) % 4) 0) (c.getD j 0)) 0)

/-- AES-256 of one block. -/
def aesEnc (key : Nat) (blk : List Nat) : List Nat :=
  let ks := aesKeys key
  let mid := (upTo 13).foldl (fun st r =>
    xorL (mixColumns [2, 3, 1, 1] (shiftRows 1 (st.map sbox))) (roundKey ks (r + 1))) (xorL blk (roundKey ks 0))
  xorL (shiftRows 1 (mid.map sbox)) (roundKey ks 14)

/-- Inverse of AES-256 of one block. -/
def aesDec (key : Nat) (blk : List Nat) : List Nat :=
  let ks := aesKeys key
  let mid := (upTo 13).foldl (fun st r =>
    mixColumns [14, 11, 13, 9] (xorL ((shiftRows 3 st).map invSbox) (roundKey ks (13 - r)))) (xorL blk (roundKey ks 14))
  xorL ((shiftRows 3 mid).map invSbox) (roundKey ks 0)

/-- A block of 16 byte values as a number, most significant first. -/
def natOfBlock (l : List Nat) : Nat := l.foldl (fun a b => a * 256 + b) 0
/-- A number as 16 byte values. -/
def blockOfNat (n : Nat) : List Nat := (beBytes 16 n).map (·.toNat)
/-- AES-256 on a 128-bit number. -/
def aesNat (key n : Nat) : Nat := natOfBlock (aesEnc key (blockOfNat n))

/-! ### GCM (NIST SP 800-38D) -/

/-- Product of GHASH. -/
def ghMul (x y : Nat) : Nat :=
  ((upTo 128).foldl (fun (acc : Nat × Nat) k =>
    (if x.testBit (127 - k) then acc.1 ^^^ acc.2 else acc.1,
     if acc.2 % 2 = 1 then (acc.2 / 2) ^^^ (0xE1 * 2 ^ 120) else acc.2 / 2)) (0, y)).1

/-- Bytes cut into blocks of 16, the last padded with zeros. -/
def blocks16 (bs : List Byte) : List Nat :=
  (upTo ((bs.length + 15) / 16)).map (fun k => fromBE (padTo 16 (slice bs (16 * k) 16)))

/-- GHASH of a list of blocks. -/
def ghash (h : Nat) (bl : List Nat) : Nat := bl.foldl (fun y b => ghMul (y ^^^ b) h) 0

/-- Keystream byte `p` under a 96-bit IV. -/
def gcmKey (key iv : Nat) (p : Nat) : Nat :=
  (blockOfNat (aesNat key (iv * 2 ^ 32 + (p / 16 + 2) % 2 ^ 32))).getD (p % 16) 0

/-- Encrypt or decrypt bytes that stand from position `p` of the message on. -/
def gcmCtr (key iv p : Nat) (bs : List Byte) : List Byte :=
  (bs.zipIdx p).map (fun x => x.1 ^^^ BitVec.ofNat 8 (gcmKey key iv x.2))

/-- The 128-bit tag. -/
def gcmTag (key iv : Nat) (aad ct : List Byte) : Nat :=
  let h := aesNat key 0
  ghash h (blocks16 aad ++ blocks16 ct ++ [aad.length * 8 * 2 ^ 64 + ct.length * 8]) ^^^ aesNat key (iv * 2 ^ 32 + 1)

/-! ### AES Key Wrap (RFC 3394) of a 256-bit key -/

/-- Wrap: 40 bytes. -/
def keyWrap (kek key : Nat) : List Byte :=
  let r0 := (upTo 4).map (fun i => key / 2 ^ (64 * (3 - i)) % 2 ^ 64)
  let (a, r) := (upTo 24).foldl (fun (acc : Nat × List Nat) t =>
    let i := t % 4
    let b := aesNat kek (acc.1 * 2 ^ 64 + acc.2.getD i 0)
    ((b / 2 ^ 64) ^^^ (t + 1), acc.2.set i (b % 2 ^ 64))) (0xA6A6A6A6A6A6A6A6, r0)
  beBytes 8 a ++ r.flatMap (beBytes 8)

/-- Unwrap 40 bytes; none when the integrity check fails. -/
def keyUnwrap (kek : Nat) (w : List Byte) : Option Nat :=
  let r0 := (upTo 4).map (fun i => fromBE (slice w (8 + 8 * i) 8))
  let (a, r) := (upTo 24).foldl (fun (acc : Nat × List Nat) t' =>
    let t := 23 - t'
    let i := t % 4
    let b := natOfBlock (aesDec kek (blockOfNat ((acc.1 ^^^ (t + 1)) * 2 ^ 64 + acc.2.getD i 0)))
    (b / 2 ^ 64, acc.2.set i (b % 2 ^ 64))) (fromBE (slice w 0 8), r0)
  if w.length == 40 && a == 0xA6A6A6A6A6A6A6A6 then some (r.foldl (fun x y => x * 2 ^ 64 + y) 0) else none

end Sys2Proof.Machine
end

