-- ==== Sys2Proof/Machine/PairOps.lean ====
section
/-! DEFINITION. Shared operations of the pair link: cells, mirroring by change records, boundary-applied shadows and
their targets (08_pair_protection.md R270 to R284, R305; 01_architecture.md R22 to R24). -/
namespace Sys2Proof.Machine

/-! ### Cells (R270, R273) -/

/-- Lanes that are up, ascending. -/
def State.lanesUp (s : State) : List Nat :=
  (upTo 8).filter (fun k => (s.rd .PAIR_STATUS_lanes_up).testBit k && (s.rd .PAIR_CTRL_lane_en).testBit k)

/-- A cell: type, 37 bytes of body, CRC-16. -/
def mkCell (typ : Nat) (body : List Byte) : List Byte :=
  let b := BitVec.ofNat 8 typ :: padTo 37 body
  b ++ beBytes 2 (crc16 b)

/-- Send a cell on the lane that is `k` places above the lowest lane up; with no lane up it is lost. -/
def State.sendCell (s : State) (k : Nat) (cell : List Byte) : State :=
  let l := s.lanesUp
  match l[k % l.length]? with
  | none => s
  | some lane => s.emit (.cell lane cell)

/-- Send a cell on every lane that is up. -/
def State.sendAll (s : State) (cell : List Byte) : State := s.lanesUp.foldl (fun t k => t.emit (.cell k cell)) s

/-! ### Bridging (R291) -/

/-- The pair link is UP (R274). -/
def State.linkUp (s : State) : Bool := s.rd .PAIR_STATUS_link_state == 2

/-- The bytes that wait of the copy of an entry are dropped, and of a LINE copy those that the demapper holds (R292). -/
def State.copyClear (s : State) (k : Nat) : State :=
  let s := { s with pair := { s.pair with copyQ := SMap.set [] s.pair.copyQ k [] } }
  if s.on .PAIR_BRIDGE_tap k then s.modTrib (s.rd .PAIR_BRIDGE_trib k) (fun x => { x with rxQ := [], rxLen := [] }) else s

/-- An entry is bridged no more; where its copy was in use the own container takes its place again, which raises PAIR_SEL, and a client
whose own container is in signal fail is served as R230 says (R291, R292). -/
def State.bridgeDrop (s : State) (k : Nat) : State :=
  let t := s.rd .PAIR_BRIDGE_trib k
  let was := s.on .PAIR_BRIDGE_selected k
  let s := (s.wrs [(.PAIR_BRIDGE_admitted, k, 0), (.PAIR_BRIDGE_selected, k, 0)]).copyClear k
  if !was then s
  else
    let s := if s.on .PAIR_BRIDGE_tap k && s.tribOn t then (if s.on .FAB_TRIB_STATUS_sf t then s.sfOut t else if s.isGmp t then s else s.dlmHunt t) else s
    s.raiseReg .PAIR_EV_sel 0 { obj := t }

/-- Admit the listed tributaries in ascending order while they fit 40 slots per lane that is up; one that no longer fits, or
does not fit when it is listed, raises PAIR_BRIDGE_DROP. -/
def State.bridgeRefresh (s : State) : State :=
  let room := 40 * s.lanesUp.length
  let (sum, s) := (upTo 32).foldl (fun (acc : Nat × State) k =>
    let (sum, t) := acc
    let req := t.slotsReq (t.rd .PAIR_BRIDGE_trib k)
    let out := fun (u : State) (v : Bool) => { u with pair := { u.pair with bridgeOut := SMap.set false u.pair.bridgeOut k v } }
    if !t.linkUp || !t.on .PAIR_BRIDGE_en k then
      (sum, out (t.bridgeDrop k) false)
    else if sum + req ≤ room then (sum + req, out (t.wr .PAIR_BRIDGE_admitted k 1) false)
    else
      let was := SMap.get false t.pair.bridgeOut k
      let t := out (t.bridgeDrop k) true
      (sum, if was then t else t.raiseReg .PAIR_EV_bridge_drop 0 { obj := t.rd .PAIR_BRIDGE_trib k })) (0, s)
  s.wr .PAIR_STATUS_bridged_slots 0 sum

/-! ### Serial arithmetic (R571) -/

/-- `a` is later than `b`. -/
def serLater (a b : Nat) : Bool :=
  let d := (a + 2 ^ 32 - b % 2 ^ 32) % 2 ^ 32
  decide (0 < d) && decide (d < 2 ^ 31)

/-- `a` and `b` differ by exactly 2^31. -/
def serHalf (a b : Nat) : Bool := (a + 2 ^ 32 - b % 2 ^ 32) % 2 ^ 32 == 2 ^ 31

/-! ### Mirroring (R277, R278, R305) -/

/-- The ACTIVE mirrors: the link is UP and the peer is in SHADOW. -/
def State.mirroring (s : State) : Bool := s.linkUp && s.role == 1 && s.pair.peer.mode == 5

/-- A cell with the generations that it carries, where it carries any, is sent like any other (R284). -/
def State.sendCellOf (s : State) (k : Nat) (cell : List Byte) (gens : List (Nat × Nat)) : State :=
  let l := s.lanesUp
  match l[k % l.length]? with
  | none => s
  | some lane => s.emit (if gens.isEmpty then .cell lane cell else .genCell lane cell gens)

/-- Instance of a register that an address names, if it is one. -/
def Rg.at (r : Rg) (addr : Nat) : Option Nat :=
  let x := r.info
  let i := (addr - x.base) / x.stride
  if decide (x.base ≤ addr) && (addr - x.base) % x.stride == 0 && decide (i < x.count)
      && (r != .HK_LIN || decide (i % 64 ≤ 32)) then some i
  else none

/-- The numbers under which a message names a group, a locker and a ring; a tributary is named by its own (R284; log entry 99). -/
def grpObj (g : Nat) : Nat := 1024 + g
def lockObj (l : Nat) : Nat := 2048 + l
def ringObj (r : Nat) : Nat := 4096 + r % 1024

/-- The generation of an object by that number: trib_gen, grp_gen, lgen, or the gen of a ring (R284). -/
def State.objGen (s : State) (k : Nat) : Nat :=
  if k < 1024 then s.rd .FAB_TRIB_STATUS_trib_gen k
  else if k < 2048 then s.rd .FAB_GRP_CTRL_grp_gen (k - 1024)
  else if k < 4096 then s.rd .CIPH_LOCK_STATUS_lgen (k - 2048)
  else s.rd .HOST_RCTX_CFG_gen (k - 4096)

/-- The groups, lockers and rings that a write of a mirrored register names in its fields: the group of a carrier or of a policy, the locker
of a binding, and the rings of the telemetry and of an event route (R284). -/
def regNames (a v : Nat) : List Nat :=
  let c := Fld.FAB_TRIB_CFG_carrier.part v
  (if (Rg.FAB_TRIB_CFG.at a).isSome && decide (0x40 ≤ c) then [grpObj (c - 0x40)] else [])
    ++ (if (Rg.PLACE_TRIB_POL.at a).isSome && Fld.PLACE_TRIB_POL_grp_en.part v == 1 then [grpObj (Fld.PLACE_TRIB_POL_grp.part v)] else [])
    ++ (if (Rg.CIPH_TRIBMAP.at a).isSome then
          ((upTo 4).filter (fun k => v.testBit (8 * k + 7))).map (fun k => lockObj (fieldOf v (8 * k) 6)) else [])
    ++ (if (Rg.PERF_TLM_CTRL.at a).isSome then
          ([fieldOf v 0 16, fieldOf v 16 16].filter (fun r => decide (r < 1024))).map ringObj else [])
    ++ (if (Rg.PERF_EVT_ROUTE.at a).isSome && v.testBit 16 && decide (fieldOf v 0 16 < 1024) then [ringObj (fieldOf v 0 16)] else [])

/-- The objects that a change record names: by the address and the value of a REG record, in the slot table of a MAP record, or in a demand
change (R284, R305). The other records name none. -/
def recObjs (typ : Nat) (c : List Byte) : List Nat :=
  let a := fromBE (c.take 4)
  match typ with
  | 1 => (Rg.FAB_TRIB_CFG.at a).toList ++ (Rg.PLACE_TRIB_POL.at a).toList
      ++ (Rg.CIPH_TRIBMAP.at a).toList.flatMap (fun m => (upTo 4).map (fun k => 4 * m + k)) ++ regNames a (fromBE (slice c 4 4))
  | 4 => (((upTo 480).map (fun k => fromBE (slice c (4 + 2 * k) 2))).filter (fun w => decide (0x8000 ≤ w))).map (fun w => w % 1024) |>.dedup
  | 5 => if byteAt c 1 == 3 then [fromBE (slice c 2 2) % 1024] else []
  | _ => []

/-- A record names an object whose generation, as the message carries it, is not this member's (R284). -/
def State.recStale (s : State) (gens : List (Nat × Nat)) (typ : Nat) (c : List Byte) : Bool :=
  gens.any (fun x => (recObjs typ c).contains x.1 && x.2 != s.objGen x.1)

/-- One MIR cell with a fragment of a change. -/
def State.sendMir (s : State) (eng target : Nat) (gens : List (Nat × Nat)) (frag : List Byte) : State :=
  let q := s.pair.mirSeq
  let cell := mkCell 2 (beBytes 4 q ++ beBytes 1 eng ++ beBytes 4 target ++ padTo 28 frag)
  let s := { s with pair := { s.pair with mirSeq := (q + 1) % 2 ^ 32,
                                          mirOut := s.pair.mirOut ++ [({ seq := q, cell := cell, gens := gens, sends := 1 } : MirOut)] } }
  s.sendCellOf 0 cell gens

/-- A change record: type, length, content (R305). -/
def changeRec (typ : Nat) (content : List Byte) : List Byte := beBytes 1 typ ++ beBytes 2 content.length ++ content

/-- Mirror a change record; each record starts in a cell of its own and the last is filled with 0 (log entry 21). Each of its cells
carries the generations of the objects it names (R284, log entry 99). -/
def State.mirror (s : State) (eng target : Nat) (rec0 : List Byte) : State :=
  if !s.mirroring then s
  else
    let gens := (recObjs (byteAt rec0 0) (rec0.drop 3)).dedup.map (fun t => (t, s.objGen t))
    (upTo ((rec0.length + 27) / 28)).foldl (fun t k => t.sendMir eng target gens (slice rec0 (28 * k) 28)) s

/-- Mirror a register write. -/
def State.mirrorReg (s : State) (eng target addr val : Nat) : State :=
  s.mirror eng target (changeRec 1 (beBytes 4 addr ++ beBytes 4 val))

/-! ### Boundary-applied shadows (01_architecture.md R22 to R24, R282) -/

/-- PSC of the second SFM from now (R282). -/
def State.targetPsc (s : State) (n : Nat) : Nat := ((s.txOf n).psc + 2) % 2 ^ 32

/-- Target of a boundary-applied change made now: a PSC while mirroring, none otherwise. -/
def State.newTarget (s : State) (n : Nat) : Option Nat := if s.mirroring then some (s.targetPsc n) else none

/-- Write a shadow; the last write of one field counts (R23). -/
def State.addShadow (s : State) (n : Nat) (k : ShadowKey) (v : Int) (target : Option Nat) : State :=
  s.modTx n (fun x =>
    let rest := x.shadows.filter (fun h => decide (h.what ≠ k))
    { x with shadows := rest ++ [Shadow.mk k v target] })

/-- Copy a shadow to the active setting. -/
def State.applyShadow (s : State) (n : Nat) (h : Shadow) : State :=
  match h.what with
  | .rolloff => s.modTx n (fun x => { x with rolloff := h.val.toNat })
  | .endSel => s.modTx n (fun x => { x with endSel := h.val != 0 })
  | .kpFlip => s.wrs [(.CIPH_ENG_CTRL_tx_kp, n, 1 - s.rd .CIPH_ENG_CTRL_tx_kp n), (.CIPH_ENG_CTRL_kp_pend, n, 0)]
  | .pilot => s.wr .CAL_ENG_STATUS_pilot_tx n h.val.toNat
  | .trim item idx => { s with cal := { s.cal with act := SMap.set 0 s.cal.act (trimKey item n idx) h.val } }

/-- The target of a shadow is reached at superframe `psc`, or has passed (R282, R283, R571). -/
def dueAt (psc : Nat) : Option Nat → Bool
  | none => true
  | some t => t == psc || serLater psc t || serHalf psc t

/-- Apply every shadow of engine `n` that is due at superframe `psc`. -/
def State.applyShadows (s : State) (n psc : Nat) : State :=
  let l := (s.txOf n).shadows
  let t := s.modTx n (fun x => { x with shadows := x.shadows.filter (fun h => !dueAt psc h.target) })
  (l.filter (fun h => dueAt psc h.target)).foldl (fun t h => t.applyShadow n h) t

/-- Apply every shadow of an engine that is not framing (R24). -/
def State.applyAllShadows (s : State) (n : Nat) : State :=
  let l := (s.txOf n).shadows
  l.foldl (fun t h => t.applyShadow n h) (s.modTx n (fun x => { x with shadows := [] }))

/-- A host write that SHADOW drops (R285). -/
def State.shadowDrop (s : State) : State := s.count 517

end Sys2Proof.Machine
end

