-- ==== Sys2Proof/Machine/CalOps.lean ====
section
/-! DEFINITION. Shared operations of calibration: the values in force, what is shown of convergence, and pilot requests
(13_calibration.md R443 to R461). Trims are kept as differences from the factory value, in units of the item's
resolution. -/
namespace Sys2Proof.Machine

/-- The active value of an instance, as its difference from the factory value. -/
def State.trimAct (s : State) (item n idx : Nat) : Int := SMap.get 0 s.cal.act (trimKey item n idx)

/-- The active value of an instance: factory value and difference (R445). -/
def State.trimValue (s : State) (item n idx : Nat) : Int :=
  SMap.get 0 s.fuse.factory (trimKey item n idx) + s.trimAct item n idx

/-- Some instance of an item is stuck (R450). -/
def State.itemStuck (s : State) (item n : Nat) : Bool :=
  (upTo (trimItem item).2.2).any (fun i => decide (8 ≤ SMap.get 0 s.cal.rej (trimKey item n i)))

/-- Set or clear a bit of a number. -/
def setBit (v k : Nat) (b : Bool) : Nat := if v.testBit k == b then v else if b then v + 2 ^ k else v - 2 ^ k

/-- Show convergence and stuck bits of an item (R462). -/
def State.calShow (s : State) (item n : Nat) : State :=
  if item < 8 then
    s.wrs [(.CAL_ENG_STATUS_conv, n, setBit (s.rd .CAL_ENG_STATUS_conv n) item (s.itemConv item n)),
      (.CAL_ENG_STATUS_stuck, n, setBit (s.rd .CAL_ENG_STATUS_stuck n) item (s.itemStuck item n))]
  else
    s.wrs [(.CAL_HK_STATUS_conv, 0, setBit (s.rd .CAL_HK_STATUS_conv) (item - 8) (s.itemConv item 0)),
      (.CAL_HK_STATUS_stuck, 0, setBit (s.rd .CAL_HK_STATUS_stuck) (item - 8) (s.itemStuck item 0))]

/-- est_converged and the items 0x0 to 0x4 have converged (R455). -/
def State.rxConverged (s : State) (n : Nat) : Bool :=
  s.on .LE_STATUS_est_converged n && decide (s.rd .CAL_ENG_STATUS_conv n % 32 = 31)

/-- A pilot request ends when all has converged (R455). -/
def State.requestCheck (s : State) (n : Nat) : State :=
  if s.on .CAL_ENG_STATUS_requesting n && s.rxConverged n then s.wr .CAL_ENG_STATUS_requesting n 0 else s

/-- Apply waiting housekeeping trims, those whose key passes a test (R452, R453). -/
def State.hkTrims (s : State) (p : Nat → Bool) : State :=
  let l := s.cal.hkPend
  { s with cal := { s.cal with
    act := (l.filter (fun x => p x.1)).foldl (fun m x => SMap.set 0 m x.1 x.2) s.cal.act,
    hkPend := l.filter (fun x => !p x.1) } }

/-- The trims that wait for their boundary are dropped: of the engines given, and of housekeeping where `hk` says so (R444,
R461). -/
def State.dropTrims (s : State) (engs : List Nat) (hk : Bool) : State :=
  let s := engs.foldl (fun t n => t.modTx n (fun x => { x with shadows := x.shadows.filter (fun h =>
    match h.what with | .trim _ _ => false | _ => true) })) s
  if hk then { s with cal := { s.cal with hkPend := [] } } else s

/-- The trims return to their factory values and every estimate is forgotten (R445). -/
def State.calReset (s : State) : State := { s with cal := {} }

end Sys2Proof.Machine
end

