-- ==== Sys2Proof/Machine/TimOps.lean ====
section
/-! DEFINITION. Shared operations of timing: differences and steps of the time of day, reference selection, the DPLL
machines, tod_trace and the time-transfer results (09_timing.md). -/
namespace Sys2Proof.Machine

/-! ### Time of day (R310 to R313) -/

/-- One second in the units of ToD, 2^-16 ns. -/
def todSec : Nat := 1000000000 * 65536
/-- The ToD counts modulo this (R311). -/
def todMod : Nat := 2 ^ 48 * todSec

/-- Later minus earlier ToD, for an elapsed time. -/
def todElapsed (a b : Nat) : Nat := (b % todMod + todMod - a % todMod) % todMod

/-- A difference of seconds counts in (-2^47, +2^47] (R312). -/
def foldSec (x : Int) : Int :=
  let r := x % (2 ^ 48 : Nat)
  if (2 ^ 47 : Nat) < r then r - (2 ^ 48 : Nat) else r

/-- The difference of two ToD values, in 2^-16 ns (R312). -/
def todDiff (a b : Nat) : Int :=
  foldSec ((a / todSec : Nat) - (b / todSec : Nat)) * (todSec : Nat) + ((a % todSec : Nat) - (b % todSec : Nat))

/-- Integer division rounded to nearest, ties to even (R313); the divisor is positive. -/
def roundEven (x : Int) (d : Nat) : Int :=
  let q := x / (d : Int)
  let r := x % (d : Int)
  if 2 * r < d then q else if (d : Int) < 2 * r then q + 1 else if q % 2 = 0 then q else q + 1

/-- Integer division rounded to nearest, ties up (log entry 13). -/
def roundUp (x : Int) (d : Nat) : Int := (2 * x + d) / (2 * d : Nat)

/-- A ToD moved by a signed amount. -/
def todAdd (a : Nat) (d : Int) : Nat := (((a : Int) + d) % (todMod : Nat)).toNat

/-- The running ToD that a command carries. -/
def State.atTod (s : State) (tod : Nat) : State := { s with tim := { s.tim with tod := tod % todMod } }

/-- Argument of TOD_STEP: the size in ns, saturated (R313). -/
def stepArg (d : Int) : Nat := toTwos 64 (clampInt (-(2 ^ 63 - 1 : Nat)) (2 ^ 63 - 1 : Nat) (roundEven d 65536))

/-- A time-of-day step to a new ToD (R313); the record of the last PM boundary and PM_SYNC edge moves with it, and the start of a phase
step, so that lengths stay elapsed times (05_line_framing.md R187, R191; R330). -/
def State.stepTod (s : State) (new : Nat) : State :=
  let d := todDiff new s.tim.tod
  if d == 0 then s
  else
    let t := { s with tim := { s.tim with tod := new, stepAt := some new, moved := s.tim.moved + d, pmPrev := todAdd s.tim.pmPrev d,
                                          pmEdge := s.tim.pmEdge.map (todAdd · d),
                                          dpll := s.tim.dpll.map (fun (kv : Nat × DpllSt) => (kv.1, { kv.2 with since := todAdd kv.2.since d })) } }
    t.raiseReg .TIM_EV_tod_step 0 { arg := some (stepArg d) }

/-! ### Reference inputs and quality (R315 to R320) -/

def State.refOf (s : State) (i : Nat) : RefSt := SMap.get {} s.tim.ref i
def State.modRef (s : State) (i : Nat) (g : RefSt → RefSt) : State :=
  { s with tim := { s.tim with ref := SMap.mod {} s.tim.ref i g } }

/-- A quality code; codes not listed read as DNU (R320). -/
def qualCode (q : Nat) : Nat := if 1 ≤ q && q ≤ 9 then q else 15

/-- The quality is time-capable (R320). -/
def timeCapable (q : Nat) : Bool := q == 1 || q == 2 || q == 7

/-- Quality in use of a reference (R315). -/
def State.qualOf (s : State) (i : Nat) : Nat :=
  let sw := qualCode (s.rd .TIM_REF_CFG_qual_sw i)
  let r := s.refOf i
  if i < 6 then sw
  else if i < 10 then if s.on .TIM_REF_CFG_use_adv i && r.rxOk then qualCode r.adv else sw
  else qualCode r.adv

/-- Bring qual_eff of every reference to the quality in use. -/
def State.qualRefresh (s : State) : State :=
  (upTo 12).foldl (fun t i => if t.hasRef i then t.wr .TIM_REF_STATUS_qual_eff i (t.qualOf i) else t) s

/-- The line-recovered reference of an engine is valid while it is LOCKED (03_line_engine.md R95). -/
def State.lineRefValid (s : State) (n : Nat) : Bool := s.hasEng n && s.on .LE_STATUS_dsp_lock n

/-- Engine of REF11. -/
def State.ttEngine (s : State) : Nat := s.rd .TIM_TT_CTRL_tt_engine

/-- What the state itself shows of a missing activity of a reference (R315, R318, R340). -/
def State.refInactive (s : State) (i : Nat) : Bool :=
  if i < 2 then s.rd .TIM_REF_CFG_freq_code i == 3
  else if i < 6 then !s.on .CLI_PORT_STATUS_rx_lock (s.rd .TIM_REF_CFG_src_port i)
  else if i < 10 then !s.lineRefValid (i - 6)
  else if i == 11 then
    let n := s.ttEngine
    !s.on .LE_STATUS_dsp_lock n || (s.rxOf n).ttAge == 8 || decide (s.rd .LE_FRM_STATUS_fmt_tx n < 2) || !s.tim.oddSeen
  else false

/-- The reference fails for prio or quality (R318). -/
def State.refNoQual (s : State) (i : Nat) : Bool := s.rd .TIM_REF_CFG_prio i == 0 || s.rd .TIM_REF_STATUS_qual_eff i == 15

/-- The fault that a command reports holds (R318, R340): what only the inputs show is taken as told. -/
def State.faultHolds (s : State) (i : Nat) : RefFault → Bool
  | .quality => s.refNoQual i
  | .freq ppb => decide (i < 10) && decide (12000 < ppb.natAbs)
  | .activity => if 2 ≤ i && i < 10 then s.refInactive i else true

/-- fail code of a fault (R346). -/
def faultCode : RefFault → Nat
  | .activity => 1
  | .freq _ => 2
  | .quality => 3

/-! ### tod_trace (R336) -/

/-- Move tod_trace; the hold timer starts at 0 on entry to HOLDOVER. -/
def State.setTrace (s : State) (v : Nat) : State :=
  let t := s.wr .TIM_DPLL0_STATUS_tod_trace 0 v
  if v == 2 then { t with tim := { t.tim with holdS := 0 } } else t

/-- Quality of a selected source, DNU where there is none. -/
def State.srcQual (s : State) (src : Nat) : Nat := if src < 12 then s.rd .TIM_REF_STATUS_qual_eff src else 15

def State.freqSrc (s : State) : Nat := s.rd .TIM_DPLL0_STATUS_freq_src
def State.timeSrc (s : State) : Nat := s.rd .TIM_DPLL0_STATUS_time_src
def State.d0 (s : State) : Nat := s.rd .TIM_DPLL0_STATUS_d0_state

/-- TRACEABLE becomes HOLDOVER without a time source, on quality HOLD, or with DPLL0 OPEN; in FOLLOW tod_trace is the
ACTIVE's (R336, R344). -/
def State.traceCheck (s : State) : State :=
  if s.d0 != 5 && s.rd .TIM_DPLL0_STATUS_tod_trace == 1
      && (s.timeSrc == 15 || s.srcQual s.timeSrc == 7 || s.d0 == 4) then s.setTrace 2
  else s

/-! ### DPLLs (R323 to R334) -/

/-- Frequency in FREERUN (R324), 10^-13. -/
def State.freeRunFreq (s : State) : Int := if s.cel.model.valid then s.cel.model.mean else s.tim.avg0.getD 0

/-- Frequency at entry to HOLDOVER: the learned one; the last 1 s average where none was learned (log entry 17). -/
def State.holdFreq (s : State) : Int := if s.tim.model.valid then s.tim.model.mean else s.tim.avg0.getD 0

/-- DPLL that drives a port (R331): the codes 6 and 7 act as DPLL0 (R346). -/
def State.portDpll (s : State) (p : Nat) : Nat :=
  let f := ([Fld.TIM_PORT_DPLL_port_dpll0, .TIM_PORT_DPLL_port_dpll1, .TIM_PORT_DPLL_port_dpll2, .TIM_PORT_DPLL_port_dpll3,
    .TIM_PORT_DPLL_port_dpll4, .TIM_PORT_DPLL_port_dpll5, .TIM_PORT_DPLL_port_dpll6, .TIM_PORT_DPLL_port_dpll7][p % 8]?).getD
      .TIM_PORT_DPLL_port_dpll0
  let k := s.rd f (p / 8)
  if k < 6 then k else 0

/-- Output frequency of DPLLk against nominal, 10^-13 (R323); 100 ppm beside its input's while a phase step is under way (R330, log
entry 198). -/
def State.dpllFreq (s : State) (k : Nat) : Int :=
  if k == 0 then s.tim.freq0
  else
    let d := SMap.get {} s.tim.dpll k
    d.freq + 1000000000 * d.rem.sign

/-- Drive the clock balls and the CLTX clock of each port, which on OTU4 and ODUFLEX ports follows its client by the divider
(R323, R331; 06_tributary_mapping.md R214); the balls stay as they are while their pads are held (14 R474). -/
def State.clkRefresh (s : State) : State :=
  let clk := (upTo 6).foldl (fun m k => SMap.set 0 m k (s.dpllFreq k)) []
  let port := (upTo s.ports).foldl (fun m p =>
    SMap.set 0 m p (s.dpllFreq (s.portDpll p) + if 7 ≤ s.rd .CLI_PORT_CFG_type_active p then (s.portOf p).ratio * 10000 else 0)) []
  { s with pin := { s.pin with clkOut := if s.padHeld 3 then s.pin.clkOut else clk, cltx := port } }

/-- The clocks that the DPLLs drive follow them. A transmit clock steered beyond ±25 ppm, in SHADOW by its trim too, is clamped,
which raises TIM_TX_CLAMP when it begins (R332): EngTx.freq is the clock as it then runs. -/
def State.clampRefresh (s : State) : State :=
  (upTo s.engines).foldl (fun t n =>
    let f := if t.rd .SYS_MODE_mode == 3 then (t.refOf (6 + (n + 1 - 2 * (n % 2)))).freq * 10000
      else if t.rd .SYS_MODE_mode == 5 then t.tim.freq0 + (t.txOf n).steer else t.tim.freq0
    let c := t.rd .LE_PROFILE_prof_active n != 0 && decide (250000000 < f.natAbs)
    let was := (t.txOf n).clamped
    let u := t.modTx n (fun x => { x with clamped := c, freq := clampInt (-250000000) 250000000 f })
    if c && !was then u.raiseReg .TIM_EV_tx_clamp 0 { obj := n } else u) s.clkRefresh

/-- Frequency of the clock recovered from the pair link, which no command tells: a free value (R344, log entry 199). -/
def State.pairFreq (s : State) : Int := ofTwos 32 ((Config.freeWord s.free).toNat % 2 ^ 32)

/-- Move DPLL0 to a state, with the frequency of that state (R324, R328, R333, R334). -/
def State.setD0 (s : State) (st : Nat) : State :=
  let t := s.wr .TIM_DPLL0_STATUS_d0_state 0 st
  let t := if st == 0 || st == 4 then
      { t.wr .TIM_DPLL0_STATUS_model_ready 0 0 with tim := { t.tim with model := {} } }
    else t
  let t := if st == 5 then t.tick else t
  let f := if st == 0 then s.freeRunFreq else if st == 5 then s.pairFreq else if st == 3 then s.holdFreq
    else if st == 4 then s.rdInt .TIM_DPLL0_FWORD_fword else s.tim.freq0
  let t := { t with tim := { t.tim with freq0 := f, entry := 0 } }
  t.traceCheck.clampRefresh

/-- OPEN ends: ACQUIRE with a frequency source, else HOLDOVER with a model, else FREERUN; the output keeps its frequency
(R324, log entry 173). -/
def State.d0Resume (s : State) : State :=
  let t := s.setD0 (if s.freqSrc != 15 then 1 else if s.on .TIM_DPLL0_STATUS_model_ready then 3 else 0)
  { t with tim := { t.tim with freq0 := s.tim.freq0 } }.clampRefresh

/-- DPLL0 loses its frequency source (R324). -/
def State.d0Lose (s : State) : State :=
  (s.raiseReg .TIM_EV_hold_enter).setD0 (if s.on .TIM_DPLL0_STATUS_model_ready then 3 else 0)

/-- The output is to move to its input by steps (R325, log entry 174). -/
def State.d0Build (s : State) : State := { s with tim := { s.tim with build := true } }

/-- DPLL0 after a change of freq_src (R324); on a change to an input the output moves to it by steps (R325). -/
def State.d0Source (s : State) : State :=
  let st := s.d0
  if s.freqSrc != 15 then (if st == 0 || st == 3 then s.setD0 1 else s).d0Build
  else if st == 1 || st == 2 then s.d0Lose else s

/-- The role becomes STANDBY (R324). -/
def State.d0Follow (s : State) : State := if s.d0 == 5 then s else s.setD0 5

/-- loop_open, mirrored or written while in FOLLOW, applies when FOLLOW ends (R324). -/
def State.d0AfterFollow (s : State) : State := if s.on .TIM_DPLL0_CTRL_loop_open then s.setD0 4 else s

/-- A takeover is accepted in FOLLOW, with a phase build-out onto freq_src (R324, R325). -/
def State.d0Takeover (s : State) : State :=
  if s.d0 == 5 then (if s.freqSrc != 15 then (s.setD0 2).d0Build else s.setD0 3).d0AfterFollow else s

/-- FOLLOW ends without a takeover, or hb_lost is declared in it: HOLDOVER, from which a frequency source leads on to ACQUIRE
(R324). -/
def State.d0LeaveFollow (s : State) : State :=
  if s.d0 != 5 then s
  else
    let t := ((s.raiseReg .TIM_EV_hold_enter).setD0 3).d0AfterFollow
    if t.d0 == 3 && t.freqSrc != 15 then (t.setD0 1).d0Build else t

/-- Reference of DPLLk, none for DPLL0's output (R329, R346). -/
def State.dkRef (s : State) (j : Nat) : Option Nat :=
  let r := s.rd .TIM_DPLL_CTRL_ref_sel j
  if r < 12 then some r else none

/-- The input of DPLLk may be locked to. -/
def State.dkInput (s : State) (j : Nat) : Bool :=
  match s.dkRef j with
  | none => true
  | some i => s.hasRef i && s.on .TIM_REF_STATUS_qualified i

/-- Bring DPLLk (index `j` = k - 1) to what its enable and its input ask (R329). -/
def State.dkRefresh (s : State) (j : Nat) : State :=
  let st := s.rd .TIM_DPLL_STATUS_dk_state j
  let go := fun v => s.wr .TIM_DPLL_STATUS_dk_state j v
  if !s.on .TIM_DPLL_CTRL_en j then go 0
  else if s.dkInput j then if st == 0 || st == 3 then go 1 else s
  else if st == 1 || st == 2 then go 3 else s

def State.dkRefreshAll (s : State) : State := (upTo 5).foldl (fun t j => t.dkRefresh j) s

/-! ### Selection (R321) -/

/-- Frequency candidates. -/
def State.candF (s : State) : List Nat :=
  (upTo 12).filter (fun i => s.hasRef i && decide (0 < s.rd .TIM_REF_CFG_prio i)
    && s.on .TIM_REF_STATUS_qualified i && s.rd .TIM_REF_STATUS_qual_eff i != 15)

/-- Time candidates. -/
def State.candT (s : State) : List Nat :=
  s.candF.filter (fun i => timeCapable (s.rd .TIM_REF_STATUS_qual_eff i)
    && (if i < 2 then s.on .TIM_REF_CFG_pps_en i else decide (10 ≤ i)))

/-- best(S): lowest quality code, then lowest prio, then lowest number. -/
def State.bestRef (s : State) (l : List Nat) : Nat :=
  let key := fun i => s.rd .TIM_REF_STATUS_qual_eff i * 256 + s.rd .TIM_REF_CFG_prio i * 16 + i
  l.foldl (fun b i => if b == 15 || key i < key b then i else b) 15

/-- One source of the procedure. -/
def State.pickSrc (s : State) (src : Nat) (l : List Nat) : Nat :=
  let b := s.bestRef l
  if l.isEmpty then 15
  else if !l.contains src then b
  else if s.srcQual b < s.srcQual src then b
  else if s.on .TIM_SEL_CTRL_revertive then b
  else src

/-- The selection procedure, with what follows for DPLL0, DPLLk and tod_trace (R321, R324, R329, R336). -/
def State.timSelect (s : State) : State :=
  let s := s.qualRefresh
  let f := s.pickSrc s.freqSrc s.candF
  let t := s.pickSrc s.timeSrc s.candT
  let fChg := f != s.freqSrc
  let chg := fChg || t != s.timeSrc
  let s := s.wrs [(.TIM_DPLL0_STATUS_freq_src, 0, f), (.TIM_DPLL0_STATUS_time_src, 0, t)]
  let s := if chg then s.raiseReg .TIM_EV_sel_chg else s
  let s := if fChg then s.d0Source else s
  s.dkRefreshAll.traceCheck

/-! ### Advertised quality (R322) -/

/-- ePRTC is sent as ePRC and PRTC as PRC. -/
def asFreqQual (q : Nat) : Nat := if q == 1 then 3 else if q == 2 then 4 else q

/-- Quality advertised on engine `n`. -/
def State.advQual (s : State) (n : Nat) : Nat :=
  let own := fun src => src == 6 + n || (src == 11 && s.ttEngine == n)
  if own s.freqSrc || own s.timeSrc then 15
  else
    let tr := s.rd .TIM_DPLL0_STATUS_tod_trace
    if tr == 1 then s.srcQual s.timeSrc
    else if tr == 2 then 7
    else if s.d0 == 2 then asFreqQual (s.srcQual s.freqSrc)
    else 9

/-! ### Time over fibre (R337 to R342) -/

/-- A delay in 10 ps units, in the units of ToD. -/
def of10ps (x : Int) : Int := roundUp (x * 65536) 100

/-- A time in 2^-16 ns, in 10 ps units. -/
def to10ps (x : Int) (d : Nat) : Int := roundUp (x * 100) (65536 * d)

/-- The dispersion term of delta tau in 2^-16 ns, for the sum of both CD values and both carriers (R339); none where a
carrier is 0, for which the formula divides by 0. -/
def cdTerm (cdSum : Int) (nuFN nuNF : Nat) : Option Int :=
  if nuFN == 0 || nuNF == 0 then none
  else some (roundUp (cdSum * 299792458000 * ((nuNF : Int) - nuFN) * 65536) (2000 * nuFN * nuNF))

/-- The CD pair in use: now valid at both ends, or the last that was (R341). -/
def State.cdPair (s : State) : Option (Int × Int) :=
  let n := s.ttEngine
  if s.on .LE_CD_EST_cd_valid n && s.tim.farCdV then some (s.rdInt .LE_CD_EST_cd_est n, s.tim.farCd) else s.tim.cdGood

/-- delta tau in 2^-16 ns (R339, R341); where no pair was ever valid, or a carrier is 0, the dispersion term is a free
value (log entry 18). -/
def State.dtauNow (s : State) : Int :=
  let term := match s.cdPair with
    | none => none
    | some (a, b) => cdTerm (a + b) s.tim.farNu (s.rd .TIM_TT_NU_nu_tx s.ttEngine)
  term.getD (ofTwos 64 (Config.freeWord s.free).toNat) + of10ps (s.rdInt .TIM_TT_CTRL_asym_fixed)

/-- Bring cd_hold, the last good pair and delta tau up to date (R341). -/
def State.dtauRefresh (s : State) : State :=
  let n := s.ttEngine
  let good := s.on .LE_CD_EST_cd_valid n && s.tim.farCdV
  let s := s.wr .TIM_TT_STATUS_cd_hold 0 (b2n !good)
  let d := s.dtauNow
  { s with tim := { s.tim with cdGood := s.cdPair, dtau := d } }.tick

/-- REF11's record starts afresh for another engine (DEDUCED, log entry 19). -/
def State.ttRestart (s : State) : State :=
  let s := { s with tim := { s.tim with samples := [], oddSeen := false, cdGood := none, farCdV := false, farNu := 0,
                                        farCd := 0 } }
  (s.wrs [(.TIM_TT_STATUS_tt_rx_ok, 0, 0), (.TIM_TT_STATUS_cd_hold, 0, 0), (.TIM_TT_STATUS_far_qual, 0, 15),
    (.TIM_TT_STATUS_far_trace, 0, 0)]).modRef 11 (fun r => { r with adv := 15 })

/-- Eight superframes have passed without a used block on engine `n` (R340). -/
def State.ttAged (s : State) (n : Nat) : State :=
  let s := s.modRef (6 + n) (fun r => { r with rxOk := false })
  let s := if s.ttEngine == n then s.wr .TIM_TT_STATUS_tt_rx_ok 0 0 else s
  s.timSelect

/-- One superframe more since the last used block of engine `n` (R340). -/
def State.ttAgeStep (s : State) (n : Nat) : State :=
  let age := (s.rxOf n).ttAge + 1
  let s := s.modRx n (fun x => { x with ttAge := min 8 age })
  if age == 8 then s.ttAged n else s

/-- Superframes pass though no frame of the engine is received: its own transmit superframes count them (R340, log entry 226). -/
def State.ttBlind (s : State) (n : Nat) : State :=
  if s.on .LE_FRM_STATUS_in_frame n then s else s.ttAgeStep n

/-- A second is longer than 8 superframes: an engine of which neither side runs has had no used block in it (R340, log entry 226). -/
def State.ttSecond (s : State) : State :=
  (upTo s.engines).foldl (fun t n =>
    if (t.rxOf n).ttAge == 8 || (isLpn (t.rd .LE_PROFILE_prof_active n) && (t.on .LE_FRM_STATUS_in_frame n || (t.txOf n).on)) then t
    else (t.modRx n (fun x => { x with ttAge := 8 })).ttAged n) s

/-- A reference fails (R318): its bits, then selection. REF11 also sets tt_lost (R346). A later cause replaces an earlier one (DESIGN CHOICE, log entry 223). -/
def State.refFail (s : State) (i code : Nat) : State :=
  let was := s.on .TIM_REF_STATUS_qualified i || s.rd .TIM_REF_STATUS_fail i == 0
  let s := s.wrs [(.TIM_REF_STATUS_qualified, i, 0), (.TIM_REF_STATUS_wtr_run, i, 0), (.TIM_REF_STATUS_fail, i, code)]
  let s := if was then s.raiseReg .TIM_EV_ref_chg 0 { obj := i } else s
  let s := if was && i == 11 then s.raiseReg .TIM_EV_tt_lost 0 { obj := i } else s
  s.timSelect

/-- Samples of this second discarded after a far switch, and the slew of the second in progress ended (R342). -/
def State.ttDiscard (s : State) (n : Nat) : State :=
  if s.ttEngine == n then { s with tim := { s.tim with discard := true, samples := [], slew := 0 } } else s

end Sys2Proof.Machine
end

