-- ==== Sys2Proof/Machine/HkFilter.lean ====
section
/-! DEFINITION. The filter chain of a housekeeping channel: modulator samples, settled inputs, the sinc decimator, the averager and
the dither stage (12_housekeeping.md R411, R412, R422 to R425). -/
namespace Sys2Proof.Machine

/-- Sums of `d` consecutive numbers. -/
def boxcar (d : Nat) (l : List Int) : List Int :=
  let p := l.scanl (· + ·) 0
  List.zipWith (fun a b => a - b) (p.drop d) p

/-- `m` consecutive outputs of a sinc filter of order `n` that decimates by `d`, from the (n + m - 1) × d samples of their windows; each is
normalised by d^n and rounded convergently (R422, R424). -/
def sincOuts (n d m : Nat) (l : List Int) : List Int :=
  let r := (upTo n).foldl (fun x _ => boxcar d x) l
  (upTo m).map (fun i => roundEven (r.getD (i * d + n - 1) 0) (d ^ n))

/-- The code of a settled input at a gain code: of a voltage, or of a charge on C_f in pF (R411, R412). -/
def settledCode (gain cap : Nat) (x : Int) : Int :=
  clampInt (-8388608) 8388607 (roundEven (x * 2 ^ gain * 8388608) (1200000000000 * cap))

/-- The sinc outputs of a word (R412, R422). -/
def HkCh.outs (h : HkCh) (o : HkObs) : List Int :=
  match o.samples, o.volt with
  | some l, _ => sincOuts h.nUse h.dUse h.mUse l
  | none, some x => List.replicate h.mUse (settledCode h.gainUse h.capUse x)
  | none, none => List.replicate h.mUse o.code

/-- The word as the averager delivers it: the mean of its sinc outputs (R423). -/
def HkCh.average (h : HkCh) (o : HkObs) : Int :=
  match o.samples, o.volt with
  | some l, _ => roundEven (sincOuts h.nUse h.dUse h.mUse l).sum h.mUse
  | none, some x => settledCode h.gainUse h.capUse x
  | none, none => o.code

/-- π in 2^-60. -/
def tonePi : Int := 3622009729038561421

/-- Cosine of an angle in 2^-60 rad from 0 to π / 2, in 2^-60: 14 terms of its series. -/
def cosSeries (x : Int) : Int :=
  ((upTo 14).foldl (fun (a : Int × Int) k =>
    (a.1 + a.2, -(a.2 * x / 2 ^ 60 * x / 2 ^ 60 / ((2 * k + 1) * (2 * k + 2) : Nat)))) (0, 2 ^ 60)).1

/-- Cosine and sine of a phase in 2^-16 turns, rounded to 2^-30 (R425; log entry 201). -/
def ditherTone (phase : Nat) : Int × Int :=
  let r := phase % 16384
  let ang := fun (k : Nat) => tonePi * k / 32768
  let c := roundEven (cosSeries (ang r)) (2 ^ 30)
  let q := roundEven (cosSeries (ang (16384 - r))) (2 ^ 30)
  match phase / 16384 % 4 with
  | 0 => (c, q)
  | 1 => (-q, c)
  | 2 => (-c, -q)
  | _ => (q, -c)

/-- The low-pass of a dither stage on its last 4E products, newest first: its coefficients sum to 1, so that a tone of peak amplitude A in
phase gives A, and the sum is rounded convergently (R424, R425; log entry 201). -/
def ditherPass (dec : Nat) (l : List Int) : Int :=
  let rest := (upTo (64 * 2 ^ dec - 1)).map (fun i => (Config.ditherTap dec (i + 1)).toInt)
  let taps := (2 ^ 24 - rest.sum) :: rest
  roundEven (2 * (List.zipWith (· * ·) taps l).sum) (2 ^ 54)

/-- A dither stage at work: the products it holds, the count of sinc outputs, its newest output, and how many sinc outputs it still takes
until it holds none that is SETTLING (R425, R427). -/
structure Mixer where
  mix : List (Int × Int) := []
  n : Nat := 0
  got : Option (Int × Int) := none
  left : Nat := 0

/-- One trimmed sinc output at the dither stage: it is mixed with the tone, and every E-th completes an output, which is 0 while one of the
last 4E is SETTLING (R425, R427). -/
def mixStep (freq dec : Nat) (a : Mixer) (x : Int) : Mixer :=
  let (c, q) := ditherTone (freq * a.n % 65536)
  let mix := ((x * c, x * q) :: a.mix).take (64 * 2 ^ dec)
  { mix := mix, n := a.n + 1, left := a.left - 1,
    got := if (a.n + 1) % (16 * 2 ^ dec) != 0 then a.got
      else if 1 < a.left then some (0, 0)
      else some (ditherPass dec (mix.map (·.1)), ditherPass dec (mix.map (·.2))) }

end Sys2Proof.Machine
end

