-- ==== Sys2Proof/Machine/HkOps.lean ====
section
/-! DEFINITION. Shared operations of the housekeeping converter: slots and sequences, words, detectors, output pins
(12_housekeeping.md R411 to R437). -/
namespace Sys2Proof.Machine

def State.hkCh (s : State) (c : Nat) : HkCh := SMap.get {} s.hk.ch c
def State.modHkCh (s : State) (c : Nat) (g : HkCh → HkCh) : State :=
  { s with hk := { s.hk with ch := SMap.mod {} s.hk.ch c g } }
def State.modHk (s : State) (g : HkSt → HkSt) : State := { s with hk := g s.hk }

/-! ### Slots (R417, R418) -/

/-- compat_en is in force (R433). -/
def State.compat (s : State) : Bool := s.on .HK_CTRL_compat_en

/-- Channel code and word count of the slot in progress; 63 stands for no channel. -/
def State.curSlot (s : State) : Nat × Nat :=
  let k := s.hk.slot
  if s.hk.inj then (s.rd .HK_INJ_chan k, max 1 (s.rd .HK_INJ_count k))
  else if s.hk.reg && !s.hk.endIdle then (s.rd .HK_SEQ_chan k, max 1 (s.rd .HK_SEQ_count k))
  else (63, 1)

/-- The channel that the modulator converts: of the rotation, or of the slot in progress; a disabled channel is not
converted (R433, log entry 23). -/
def State.converting (s : State) : Option Nat :=
  let c := if s.compat then s.hk.compatCh else s.curSlot.1
  if c < 32 && s.on .HK_CH_CFG_en c && (s.compat || s.hk.reg || s.hk.inj) then some c else none

/-- A one-slot sequence in LOOP runs continuously, without a pass end (R418). -/
def State.continuous (s : State) : Bool :=
  !s.compat && s.hk.reg && !s.hk.inj && s.on .HK_CTRL_seq_loop && s.rd .HK_CTRL_reg_len == 0 && s.hk.slot == 0 && !s.hk.endIdle

/-- The estimators of the housekeeping items stop where no regular sequence with a calibration slot runs: none of them is
converged any more (13_calibration.md R446, R448). -/
def State.hkEstStop (s : State) : State :=
  if s.calSlots then s
  else (({ s with cal := { s.cal with conv := s.cal.conv.filter (fun kv => decide (kv.1 % 65536 / 1024 < 8)) } }).wr
    .CAL_HK_STATUS_conv 0 0).forceCheck

/-- Show the sequences (R441). -/
def State.hkShow (s : State) : State :=
  let s := s.hkEstStop
  s.wrs [(.HK_STATUS_seq_run, 0, b2n s.hk.reg), (.HK_STATUS_inj_run, 0, b2n s.hk.inj), (.HK_STATUS_cur_slot, 0, s.hk.slot),
    (.HK_STATUS_idle, 0, b2n s.converting.isNone), (.HK_STATUS_continuous, 0, b2n s.continuous)]

/-- A decimator resets: the words of its windows start anew (R416, R430). -/
def State.decimZero (s : State) (c : Nat) : State :=
  s.modHkCh c (fun h => { h with seq := 0, settle := 0, dLeft := 0, mix := [], ncoN := 0, clampTail := 0, clampWin := s.on .HK_CH_STATUS_clamp_live c })

/-- A decimator resets otherwise than at a slot's start: its first N sinc outputs are SETTLING, and so is what the dither
stage computes from them over its 4E outputs (R425, R427; log entry 183). -/
def State.decimReset (s : State) (c : Nat) : State :=
  (s.decimZero c).modHkCh c (fun h => { h with settle := h.nUse, dLeft := h.nUse + 64 * 2 ^ s.rd .HK_CH_DITH_dith_dec c })

/-- A channel's slot starts: the settings written for it apply, in the rotation with its sinc2, D = 64 and no averager, and its
decimator resets; the first N sinc outputs are discarded (R417, R422, R423, R425, R433). -/
def State.chanStart (s : State) (c : Nat) : State :=
  (s.decimZero c).modHkCh c (fun h => { h with
    apply := false, gainUse := s.rd .HK_CH_CFG_gain c,
    capUse := if s.on .HK_CH_CFG_in_mode c then [1, 10, 100, 100].getD (s.rd .HK_CH_CFG_chg_cap c) 100 else 1,
    nUse := if s.compat then 2 else s.rd .HK_CH_FLT_order c + 1,
    dUse := if s.compat then 64 else 16 * 2 ^ s.rd .HK_CH_FLT_dec c,
    mUse := if s.compat then 1 else s.rd .HK_CH_FLT_avg_m c + 1,
    ncoN := if s.compat then 2 else s.rd .HK_CH_FLT_order c + 1 })

/-- The new linearization bank is swapped in (R429). -/
def State.linSwap (s : State) (c : Nat) : State :=
  if (s.hkCh c).linPend then
    let bank := (upTo 33).foldl (fun m k => SMap.set 0 m k (s.rdInt .HK_LIN_y (64 * c + k))) []
    (s.modHkCh c (fun h => { h with lin := bank, linPend := false })).raiseReg .HK_EV_lin_done 0 { obj := c }
  else s

/-! ### Analog outputs (R434 to R437) -/

/-- The level that an output drives: none while it is disabled, isolated, the higher of two wired together, or held
(14_power_and_cellar.md R474); its gain and offset trims apply (R434, R436; 13_calibration.md R445, R453). -/
def State.aoutLevel (s : State) (k : Nat) : Option AoutLevel :=
  let hiZ := s.on .HK_AOUT_STATUS_wired k && decide (s.rd .HK_AOUT_STATUS_wired_with k < k)
  if s.on .HK_AOUT_CTRL_en k && !s.padHeld 5 && !s.on .HK_AOUT_STATUS_ov k && !hiZ then
    some { vdd := s.on .HK_AOUT_CTRL_ref_sel k, part := s.rd .HK_AOUT_CTRL_code k * (100000 + s.trimValue 11 0 k),
           ofs := s.trimValue 10 0 k }
  else none

/-- What an output drives, and whether in full: without a current limit in force (R434 to R437). -/
def State.aoutRefresh (s : State) (k : Nat) : State :=
  let l := s.aoutLevel k
  let s := { s with pin := { s.pin with aout := SMap.set none s.pin.aout k l } }
  s.wr .HK_AOUT_STATUS_driving k (b2n (l.isSome && !s.on .HK_AOUT_STATUS_ilim k))

/-- Waiting housekeeping trims whose key passes a test apply, those of an output to its level (R452, R453). -/
def State.hkTrimsApply (s : State) (p : Nat → Bool) : State :=
  let go := s.cal.hkPend.any (fun x => p x.1 && decide (10 ≤ x.1 % 65536 / 1024))
  let s := s.hkTrims p
  if go then (upTo 4).foldl (fun t k => t.aoutRefresh k) s else s

/-! ### Slots that start -/

/-- What an idle slot lets apply (R429, R452, R453). -/
def State.idleApply (s : State) : State := ((upTo 32).foldl (fun t c => t.linSwap c) s).hkTrimsApply (fun _ => true)

/-- The slot in progress starts, or runs again from its start; one that converts nothing is an idle slot (R417, R447). -/
def State.slotStart (s : State) : State :=
  let (c, n) := s.curSlot
  let s := s.modHk (fun h => { h with left := n, calSlot := h.reg && !h.inj && !h.endIdle && !s.continuous && decide (32 ≤ c) && decide (44 ≤ n) })
  let s := if c < 32 then s.chanStart c else s
  (if s.converting.isSome then s else s.idleApply).hkShow

/-- The rotation's slot starts, with the rotation's filter also for a channel that is enabled within it (R433). -/
def State.compatStart (s : State) : State :=
  let c := s.hk.compatCh
  let s := (s.modHk (fun h => { h with left := 1, slot := 0 })).chanStart c
  (if s.on .HK_CH_CFG_en c then s else s.idleApply).hkShow

/-- The regular sequence starts at slot 0. -/
def State.regStart (s : State) : State :=
  (s.modHk (fun h => { h with reg := true, slot := 0, endIdle := false, stopReq := false, cut := none })).slotStart

/-- The regular sequence stops. -/
def State.regStop (s : State) : State :=
  (s.modHk (fun h => { h with reg := false, slot := 0, left := 0, endIdle := false, stopReq := false, cut := none,
                              calSlot := false })).hkShow

/-- A start that is ignored and counted (R420). -/
def State.startIgn (s : State) : State := s.raiseCount (.reg .HK_EV_start_ign 0) {} 525

/-- A start (R418, R420, R433). -/
def State.hkStart (s : State) : State :=
  if s.compat then s.startIgn
  else if s.hk.inj then if s.hk.startHeld then s.startIgn else s.modHk (fun h => { h with startHeld := true })
  else if s.hk.reg then s.startIgn
  else s.regStart

/-- An urgent request (R419, R420, R433). -/
def State.hkUrgent (s : State) : State :=
  if s.compat || s.hk.inj then s.raiseCount (.reg .HK_EV_urg_ign 0) {} 526
  else
    (s.modHk (fun h => { h with inj := true, cut := if h.reg then some (if h.endIdle then 32 else h.slot) else none,
                                slot := 0, calSlot := false })).slotStart

/-- The injected sequence ends: the regular one resumes with the slot that was cut, then a held start acts
(R419, R420). -/
def State.injEnd (s : State) : State :=
  let held := s.hk.startHeld
  let s := s.modHk (fun h => { h with inj := false, startHeld := false })
  let s := match s.hk.cut with
    | none => s.regStop
    | some k =>
      if s.hk.stopReq then s.regStop
      else (s.modHk (fun h => { h with cut := none, slot := if k == 32 then 0 else k, endIdle := k == 32 })).slotStart
  if held then s.hkStart else s

/-- A whole calibration slot has measured its point, and the next one is due: 16 points of the gains and two of each enabled output, in turn
(13_calibration.md R447). -/
def State.calPointNext (s : State) : State :=
  let outs := ((upTo 4).filter (fun k => s.on .HK_AOUT_CTRL_en k)).length
  s.modHk (fun h => { h with calDone := some s.calPoint, calPt := (h.calPt % (16 + 2 * outs) + 1) % (16 + 2 * outs) })

/-- A slot of the regular sequence ends (R418, R420). -/
def State.regSlotEnd (s : State) : State :=
  let s := if s.hk.calSlot then s.calPointNext else s
  if s.hk.stopReq then s.regStop
  else if s.continuous then s
  else if s.hk.endIdle then if s.on .HK_CTRL_seq_loop then s.regStart else s.regStop
  else if s.hk.slot < s.rd .HK_CTRL_reg_len then (s.modHk (fun h => { h with slot := h.slot + 1 })).slotStart
  else (s.modHk (fun h => { h with endIdle := true })).slotStart

/-- A slot ends. -/
def State.slotEnd (s : State) : State :=
  if s.compat then (s.modHk (fun h => { h with compatCh := (h.compatCh + 1) % 32 })).compatStart
  else if s.hk.inj then
    if s.hk.slot < s.rd .HK_CTRL_inj_len then (s.modHk (fun h => { h with slot := h.slot + 1 })).slotStart else s.injEnd
  else if s.hk.reg then s.regSlotEnd
  else s

/-- seq_stop (R420). -/
def State.hkStop (s : State) : State := if s.hk.reg then s.modHk (fun h => { h with stopReq := true }) else s

/-- compat_en is written to 1 (R433). -/
def State.compatOn (s : State) : State :=
  let s := (upTo 32).foldl (fun t c => t.modHkCh c (fun h => { h with apply := false })) s
  ((s.wr .HK_CTRL_compat_en 0 1).modHk (fun h => { h with
    reg := false, inj := false, slot := 0, cut := none, startHeld := false, stopReq := false, endIdle := false,
    calSlot := false, compatCh := 0 })).compatStart

/-- compat_en is written to 0: the rotation ends. -/
def State.compatOff (s : State) : State := ((s.wr .HK_CTRL_compat_en 0 0).modHk (fun h => { h with left := 0 })).hkShow

/-! ### Words (R424 to R430) -/

/-- Trimmed code: gain, then offset, by the item of the channel's gain (R424; 13 R445; log entry 24), saturated
(R412). -/
def State.trimCode (s : State) (c : Nat) (x : Int) : Int :=
  let g := (s.hkCh c).gainUse
  clampInt (-8388608) 8388607
    (roundEven (x * (1000000 + s.trimValue 9 0 g)) 1000000 + s.trimValue 8 0 g)

/-- Linearized value (R428). -/
def State.linValue (s : State) (c : Nat) (x : Int) : Int :=
  if s.on .HK_CH_CFG_lin_en c then
    let k := ((x + 8388608) / 524288).toNat
    let y0 := SMap.get 0 (s.hkCh c).lin k
    let y1 := SMap.get 0 (s.hkCh c).lin (k + 1)
    roundEven (y0 * 524288 + (y1 - y0) * (x - (524288 * (k : Int) - 8388608))) 524288
  else x

/-- Square root of `a / b`, rounded convergently (R424, R431). -/
def rmsRoot (a b : Nat) : Nat :=
  let r := Nat.sqrt (a / b)
  let m := (2 * r + 1) * (2 * r + 1) * b
  if 4 * a < m then r else if m < 4 * a then r + 1 else if r % 2 = 0 then r else r + 1

/-- HK_ALM is asserted by a detector in alarm or by alm_force, unless a short has turned it off or its pad is held (R432,
R435; 14_power_and_cellar.md R474). -/
def State.almRefresh (s : State) : State :=
  let want := s.on .HK_ALM_CTRL_alm_force || (upTo 8).any (fun m => s.on .HK_DET_CFG_alm_en m && s.on .HK_DET_CFG_in_alarm m)
  s.wr .HK_ALM_CTRL_alm_asserted 0 (b2n (want && !s.on .HK_ALM_CTRL_alm_short && !s.padHeld 5))

/-- Words of a detector's window. -/
def State.detWindow (s : State) (m : Nat) : Nat := max 1 (s.rd .HK_DET_CFG_window m)

def State.modDet (s : State) (m : Nat) (g : Det → Det) : State :=
  { s with hk := { s.hk with det := SMap.mod {} s.hk.det m g } }

/-- A detector gives a result (R431). -/
def State.detResult (s : State) (m : Nat) (r : Int) : State :=
  let s := s.wrInt .HK_DET_VAL_result m r
  if s.rdInt .HK_DET_HI_hi m < r || r < s.rdInt .HK_DET_LO_lo m then
    let s := s.modDet m (fun d => { d with clean := 0 })
    if s.on .HK_DET_CFG_in_alarm m then s
    else ((s.wr .HK_DET_CFG_in_alarm m 1).almRefresh).raiseReg .HK_EV_det_alarm 0 { obj := m }
  else s

/-- A used word at a detector (R431). -/
def State.detWord (s : State) (m : Nat) (v : Int) : State :=
  let a := v.natAbs
  let w := s.detWindow m
  let k := s.rd .HK_DET_CFG_kind m
  let s := s.modDet m (fun d => { d with
    n := d.n + 1, peak := max d.peak a, sq := d.sq + a * a, clean := min w (d.clean + 1),
    env := if d.env < a then a else d.env - roundEven d.env (2 ^ s.rd .HK_DET_CFG_decay m) })
  let d := SMap.get {} s.hk.det m
  let s := if k == 2 then s.detResult m d.env
    else if w ≤ d.n then s.detResult m (if k == 1 then (rmsRoot d.sq d.n : Nat) else d.peak) else s
  let s := if w ≤ d.n then s.modDet m (fun d => { d with n := 0, peak := 0, sq := 0 }) else s
  if s.on .HK_DET_CFG_in_alarm m && decide (w ≤ (SMap.get {} s.hk.det m).clean) then
    (s.wr .HK_DET_CFG_in_alarm m 0).almRefresh
  else s

/-- The 32 bytes of a word in a housekeeping record (16_counters_and_events.md R524). -/
def State.hkRecWord (s : State) (c : Nat) (w : HkWord) (tod : Nat) : List Byte :=
  leBytes 4 (s.regVal .HK_CH_RAW c) ++ leBytes 4 (toTwos 32 w.val) ++ leBytes 3 (toTwos 24 w.di)
    ++ leBytes 3 (toTwos 24 w.dq) ++ leBytes 1 c ++ [0] ++ leBytes 11 (stamp88 tod) ++ List.replicate 5 0

/-- The clamp at a word: a word's window reaches N - 1 sinc outputs behind its own M, so that what conducted in it is in
the windows of the next (N - 1) / M words too, and, where M does not divide N - 1, of one more or not, by where in the word it
conducted: a free value (R416; log entry 181). -/
def State.clampStep (s : State) (c : Nat) : State :=
  let h := s.hkCh c
  let live := s.on .HK_CH_STATUS_clamp_live c
  if h.clampWin then
    let more := if (h.nUse - 1) % h.mUse == 0 then 0 else (Config.freeByte s.free).toNat % 2
    (s.modHkCh c (fun q => { q with clampWin := live, clampTail := (h.nUse - 1) / h.mUse + more })).tick
  else s.modHkCh c (fun q => { q with clampWin := live, clampTail := q.clampTail - 1 })

/-- Deliver a word: registers, detectors, telemetry (R424 to R431; 16 R524). Of its sinc outputs those that are SETTLING reach the dither
stage as 0, and all of them while the reset switch is closed (R415, R427). -/
def State.deliver (s : State) (c : Nat) (o : HkObs) : State :=
  let h := s.hkCh c
  let settling := decide (0 < h.settle)
  let rst := s.on .HK_CH_STATUS_rst_closed c
  let blank := settling || rst
  let x := if blank then 0 else s.trimCode c (h.average o)
  let v := if blank then 0 else s.linValue c x
  let outs := (h.outs o).zipIdx.map (fun (y, j) => if rst || decide (j < h.settle) then 0 else s.trimCode c y)
  let mixer := outs.foldl (mixStep (s.rd .HK_CH_DITH_dith_freq c) (s.rd .HK_CH_DITH_dith_dec c))
    { mix := h.mix, n := h.ncoN, left := h.dLeft }
  let dith := if s.compat || !s.on .HK_CH_DITH_dith_en c || s.on .HK_CH_DITH_dith_bad c then none
    else mixer.got
  let w : HkWord := { val := v, di := (dith.map (·.1)).getD h.word.di, dq := (dith.map (·.2)).getD h.word.dq }
  let s := s.wrs [(.HK_CH_RAW_settling, c, b2n settling), (.HK_CH_RAW_clamp, c, b2n (h.clampWin || h.clampTail != 0)),
    (.HK_CH_RAW_chg_rst, c, b2n rst), (.HK_CH_RAW_exc, c, s.rd .HK_CH_STATUS_exc_fault c),
    (.HK_CH_RAW_inj, c, b2n s.hk.inj), (.HK_CH_RAW_seq, c, h.seq)]
  let s := s.wrInt .HK_CH_RAW_code c x
  let s := if h.latched then s
    else ((s.wrInt .HK_CH_VAL_value c w.val).wrInt .HK_CH_DITH_I_dith_i c w.di).wrInt .HK_CH_DITH_Q_dith_q c w.dq
  let s := (s.clampStep c).modHkCh c (fun q =>
    { q with seq := (q.seq + 1) % 8, settle := q.settle - q.mUse, dLeft := q.dLeft - q.mUse, word := w,
             mix := mixer.mix, ncoN := mixer.n })
  let s := if blank then s
    else ((upTo 8).filter (fun m => s.rd .HK_DET_CFG_chan m == c)).foldl (fun t m => t.detWord m v) s
  s.hkTelemetry c (s.hkRecWord c w o.tod)

/-- What follows a word at its filter frame: commits and trims apply, the slot's count runs down, and a slot with new
settings runs again (R417, R421, R429, R452, R453). -/
def State.filterFrame (s : State) (c : Nat) : State :=
  let cont := s.continuous
  let s := (s.linSwap c).hkTrimsApply (fun k =>
    let item := k % 65536 / 1024
    decide (item < 10) || cont)
  let s := if cont then s else s.modHk (fun h => { h with left := h.left - 1 })
  if (s.hkCh c).apply && !s.compat then s.slotStart else s

/-- Every decimator, averager, dither stage and detector window resets (R426); the rotation restarts (R433). -/
def State.hkSync (s : State) : State :=
  let s := s.raiseReg .HK_EV_sync_seen 0
  let s := (upTo 8).foldl (fun t m => t.modDet m (fun d => { d with n := 0, peak := 0, sq := 0, clean := 0 })) s
  let s := (upTo 32).foldl (fun t c => t.decimReset c) s
  if s.compat then
    let s := match s.converting with
      | none => s
      | some c => (s.deliver c { tod := s.tim.tod }).filterFrame c
    (s.modHk (fun h => { h with compatCh := 0 })).compatStart
  else s

/-! ### Channel settings (R413, R415, R421) -/

/-- Fields a write of which makes a slot in progress run again (R421). -/
def slotFields : List Fld :=
  [.HK_CH_CFG_in_mode, .HK_CH_CFG_gain, .HK_CH_CFG_chg_cap, .HK_CH_FLT_order, .HK_CH_FLT_dec, .HK_CH_FLT_avg_m]

/-- The charge amplifier's reset switch closes, in charge mode (R415). -/
def State.chgClose (s : State) (c : Nat) : State :=
  if s.on .HK_CH_CFG_in_mode c then s.wr .HK_CH_STATUS_rst_closed c 1 else s

/-- RW fields of a channel's CFG and FLT words. -/
def chCfgFields : List Fld :=
  [.HK_CH_CFG_en, .HK_CH_CFG_in_mode, .HK_CH_CFG_gain, .HK_CH_CFG_exc_mode, .HK_CH_CFG_exc_level, .HK_CH_CFG_chg_cap,
   .HK_CH_CFG_chg_rst_len, .HK_CH_CFG_lin_en]
def chFltFields : List Fld := [.HK_CH_FLT_order, .HK_CH_FLT_dec, .HK_CH_FLT_avg_m, .HK_CH_FLT_settle_ext]

/-- The channel of the slot in progress, converted or not (R417, R421). -/
def State.slotChan (s : State) : Option Nat :=
  if (s.hk.reg || s.hk.inj) && s.curSlot.1 < 32 then some s.curSlot.1 else none

/-- Write a channel's CFG or FLT word (R415, R421, R429). -/
def State.hkChWrite (s : State) (c : Nat) (fields : List Fld) (word : Nat) : State :=
  let part := fun (f : Fld) => fieldOf word f.info.lo f.info.w
  let chg := s.slotChan == some c && !s.compat && fields.any (fun f => slotFields.contains f)
  let rise := fields.contains .HK_CH_CFG_en && part .HK_CH_CFG_en == 1 && !s.on .HK_CH_CFG_en c
  let s := fields.foldl (fun t f => t.wr f c (part f)) s
  let s := if rise then s.chgClose c else s
  let s := if chg then s.modHkCh c (fun h => { h with apply := true }) else s
  s.hkShow

/-! ### Writes of analog outputs (R434, R436) -/

/-- The outputs that are wired together with an output. -/
def State.wiredTo (s : State) (k : Nat) : List Nat :=
  (upTo 4).filter (fun j => j != k && s.on .HK_AOUT_STATUS_wired j && s.rd .HK_AOUT_STATUS_wired_with j == k)

/-- An output is evaluated afresh: it is wired only with another whose pairing still stands (R436). -/
def State.aoutFresh (s : State) (k : Nat) : State :=
  let l := s.wiredTo k
  (s.wrs [(.HK_AOUT_STATUS_wired, k, b2n !l.isEmpty), (.HK_AOUT_STATUS_wired_with, k, l.headD 0), (.HK_AOUT_STATUS_ilim, k, 0)]).aoutRefresh k

/-- A write of en = 0 to an output ends its wirings and its fold-back, and it and the outputs that were wired with it are evaluated afresh
(R436). -/
def State.aoutOff (s : State) (k : Nat) : State :=
  let l := s.wiredTo k
  let s := s.wrs [(.HK_AOUT_STATUS_wired, k, 0), (.HK_AOUT_STATUS_wired_with, k, 0)]
  let s := l.foldl (fun t j => t.wrs [(.HK_AOUT_STATUS_wired, j, 0), (.HK_AOUT_STATUS_wired_with, j, 0)]) s
  l.foldl (fun t j => t.aoutFresh j) (s.aoutFresh k)

/-- A write of an output's control word (R434, R436); an output that is disabled is estimated no more (13_calibration.md R447, R461). -/
def State.aoutWrite (s : State) (k word : Nat) : State :=
  let s := s.wrs [(.HK_AOUT_CTRL_code, k, fieldOf word 0 16), (.HK_AOUT_CTRL_en, k, fieldOf word 16 1),
    (.HK_AOUT_CTRL_ref_sel, k, fieldOf word 17 1)]
  let s := if fieldOf word 16 1 == 0 then s.aoutOff k else s.aoutRefresh k
  ((s.calShow 10 0).calShow 11 0).forceCheck

end Sys2Proof.Machine
end

