-- ==== Sys2Proof/Machine/Cal.lean ====
section
/-! DEFINITION. Meanings of the calibration events (13_calibration.md R444 to R461). -/
namespace Sys2Proof.Machine

/-- CAL_REF_COMPARE: the two references differ by `diff`, in 0.001 %; from a fault on no trim is updated, and none that waits
for its boundary applies (R444). -/
def execCalRefCompare (diff : Int) (s : State) : Host.Outcome State Fault Refusal :=
  let t := s.wrInt .CAL_HK_STATUS_ref_diff 0 (clampInt (-32768) 32767 diff)
  let run := if 1000 < diff.natAbs then min 3 (s.cal.refRun + 1) else 0
  let t := { t with cal := { t.cal with refRun := run } }
  ok (if run == 3 && !s.on .CAL_HK_STATUS_ref_fault then
      ((t.dropTrims (upTo 4) true).wr .CAL_HK_STATUS_ref_fault 0 1).raiseReg .CAL_EV_ref_fault
    else t)

/-- Reason of a failed plausibility check: 0 range, 1 step, none when both pass; a forced item skips the step check
(R449, R461). -/
def State.implausible (s : State) (item n idx : Nat) (est : Int) : Option Nat :=
  let (range, step, _) := trimItem item
  if range < est.natAbs then some 0
  else if !s.forced item n && decide (step < (est - s.trimAct item n idx).natAbs) then some 1
  else none

/-- Convergence count of an instance after an estimate (R448), by its step limit rounded down and up; the estimate before the first is the
active value. -/
def convCount (step ceil : Nat) (old : Nat) (diff : Nat) : Nat :=
  if 2 * diff < ceil then min 3 (old + 1) else if step < diff then 0 else if old == 3 then 3 else 0

/-- Reject an estimate: the estimator restarts from the active value (R449, R450); of TX_DAC_SKEW the index shown is the lane (R462). -/
def State.calReject (s : State) (item n idx reason : Nat) : State :=
  let k := trimKey item n idx
  let run := SMap.get 0 s.cal.rej k + 1
  let s := { s with cal := { s.cal with rej := SMap.set 0 s.cal.rej k (min 65535 run),
                                        last := SMap.set 0 s.cal.last k (s.trimAct item n idx) } }
  let s := s.wrs [(.CAL_LAST_REJ_item, 0, item), (.CAL_LAST_REJ_engine, 0, if item < 8 then n else 0),
    (.CAL_LAST_REJ_reason, 0, reason), (.CAL_LAST_REJ_index, 0, if item == 5 then idx / 2 else idx), (.CAL_LAST_REJ_run, 0, min 65535 run)]
  let s := (s.raiseCount (.reg .CAL_EV_reject 0) { obj := n } 530).calShow item n
  if run == 8 then s.raiseReg .CAL_EV_stuck 0 { obj := n } else s

/-- Accept an estimate: engine items apply at their SFM, housekeeping items at an idle slot or filter frame
(R451 to R453); after a reference fault every item keeps its active value (R444). -/
def State.calAccept (s : State) (item n idx : Nat) (est : Int) : State :=
  let k := trimKey item n idx
  let s := { s with cal := { s.cal with rej := SMap.set 0 s.cal.rej k 0, last := SMap.set 0 s.cal.last k est } }
  let s := if s.on .CAL_HK_STATUS_ref_fault then s
    else if item < 8 then s.addShadow n (.trim item idx) est none
    else { s with cal := { s.cal with hkPend := s.cal.hkPend ++ [(k, est)] } }
  s.calShow item n

/-- A new estimate of one instance (R446 to R450, R455, R461). -/
def State.calEstimate (s : State) (item n0 idx : Nat) (est : Int) : State :=
  let n := if item < 8 then n0 else 0
  let (_, step, count) := trimItem item
  if decide (count ≤ idx) || !(s.itemInst item).contains idx || !s.estRuns item n || !s.estDue item idx then s
  else
    let s := if item < 8 then s else s.modHk (fun h => { h with calDone := none })
    let k := trimKey item n idx
    let diff := (est - SMap.get 0 s.cal.last k).natAbs
    let s := { s with cal := { s.cal with conv := SMap.mod 0 s.cal.conv k (fun c => convCount step (stepCeil item) c diff) } }
    let s := match s.implausible item n idx est with
      | some reason => s.calReject item n idx reason
      | none => s.calAccept item n idx est
    (s.requestCheck n).forceCheck

/-- CAL_ESTIMATE (R446 to R450, R455, R461). -/
def execCalEstimate (item : Nat) (n : Eng) (idx : Nat) (est : Int) (s : State) : Host.Outcome State Fault Refusal :=
  ok (s.calEstimate item n idx est)

/-- What the table of an item's instances keeps through a forced calibration: those of engines that are not in service. -/
def keepOut {α : Type} (engs : List Nat) (m : SMap α) : SMap α :=
  m.filter (fun kv => decide (kv.1 % 65536 / 1024 < 8) && !engs.contains (kv.1 / 65536))

/-- A write of 1 to cal_force: ignored outside MAINTENANCE (R461), and after a reference fault, which keeps every trim
(R444); it is done at once where no estimator runs (log entry 186). -/
def State.calForce (s : State) : State :=
  if s.modeNow != 4 || s.on .CAL_HK_STATUS_ref_fault then s
  else
    let engs := (upTo s.engines).filter (fun n => s.inService n)
    let keys := engs.flatMap (fun n => (upTo 8).map (fun i => forceKey i n)) ++ (upTo 4).map (fun i => forceKey (8 + i) 0)
    let s := { s with cal := { s.cal with act := keepOut engs s.cal.act, last := keepOut engs s.cal.last,
                                          conv := keepOut engs s.cal.conv, rej := keepOut engs s.cal.rej, force := keys,
                                          forceWait := true } }
    let s := s.dropTrims engs true
    let s := engs.foldl (fun t n => t.wrs [(.CAL_ENG_STATUS_conv, n, 0), (.CAL_ENG_STATUS_stuck, n, 0)]) s
    let s := (upTo 4).foldl (fun t k => t.aoutRefresh k) s
    (s.wrs [(.CAL_HK_STATUS_conv, 0, 0), (.CAL_HK_STATUS_stuck, 0, 0)]).forceCheck

/-- PILOT_WAIT_EXPIRE: pilot_wait minutes in LOCKED without convergence (R455, R460; 03 R110). -/
def execPilotWaitExpire (n : Eng) (s : State) : Host.Outcome State Fault Refusal :=
  ok (if !s.hasEng n || !s.on .LE_STATUS_dsp_lock n || s.rxConverged n then s
    else if s.lpn n then
      if s.on .CAL_ENG_STATUS_requesting n then s
      else
        ({ s with cal := { s.cal with pilotSeen := SMap.set false s.cal.pilotSeen n false } }.wr
          .CAL_ENG_STATUS_requesting n 1).raiseReg .CAL_EV_pilot_req 0 { obj := n }
    else if SMap.get false s.cal.estStuck n then s
    else { s with cal := { s.cal with estStuck := SMap.set false s.cal.estStuck n true } }.raiseReg
      .CAL_EV_est_stuck 0 { obj := n })

/-- PILOT_FAIL_TIMEOUT: no pilots within 1 s of the first REQ, or no convergence 10 s after pilots arrived (R459). -/
def execPilotFailTimeout (n : Eng) (s : State) : Host.Outcome State Fault Refusal :=
  ok (if s.hasEng n && s.on .CAL_ENG_STATUS_requesting n then s.raiseReg .CAL_EV_pilot_fail 0 { obj := n } else s)

end Sys2Proof.Machine
end

