-- ==== Sys2Proof/Machine/CipherOps.lean ====
section
/-! DEFINITION. Shared operations on lockers and keys (10_cipher.md R347 to R371; 15_security_and_config.md R489, R501). -/
namespace Sys2Proof.Machine

/-- The cipher encrypts on engine `n`. -/
def State.ciphering (s : State) (n : Nat) : Bool := s.rd .CIPH_ENG_CTRL_use_active n == 1

/-- With cipher ON below level 3 the frames of an engine carry no traffic (05_line_framing.md R175). -/
def State.idles (s : State) (n : Nat) : Bool := s.ciphering n && decide ((s.txOf n).lvl < 3)

/-! ### Lifecycle and key rights -/

/-- Lifecycle code: the majority of the three fused copies (15 R491). The copies burn one after another, so where all three differ
the second, which the next burn had not reached, is of the last whole majority (log entry 234). -/
def State.lcState (s : State) : Nat :=
  let f := s.fuse
  if f.lc0 = f.lc1 then f.lc0 else if f.lc0 = f.lc2 then f.lc0 else f.lc1

/-- Keys may be loaded and used: PROVISIONED or SEALED below FULL, in RUN, TRIM or NAP and in SEALED not from the
commit of an entry into MOTHBALL until its exit (15 R500 K3, R501). -/
def State.keysAllowed (s : State) : Bool :=
  (s.lcState == 1 || s.lcState == 2) && s.rd .SEC_STATE_dbg_level != 2 && decide (s.rd .PWR_STATUS_state ≤ 2)
    && !(s.lcState == 2 && s.pwr.entry == some 3)

/-! ### Lockers (R362, R363) -/

/-- The slot of a locker that serves a phase. -/
def State.slotFor (s : State) (l phase : Nat) : KeySlot :=
  if phase == s.rd .CIPH_LOCK_STATUS_cur_phase l then (s.lockOf l).cur else (s.lockOf l).nxt

/-- Show the slots of a locker in its status register. -/
def State.lockShow (s : State) (l : Nat) : State :=
  let k := s.lockOf l
  s.wrs [(.CIPH_LOCK_STATUS_cur_valid, l, b2n k.cur.key.isSome), (.CIPH_LOCK_STATUS_nxt_valid, l, b2n k.nxt.key.isSome),
    (.CIPH_LOCK_STATUS_cur_kgen, l, k.cur.kgen), (.CIPH_LOCK_STATUS_nxt_kgen, l, k.nxt.kgen)]

/-- Purge a locker: both slots erased, every SC 0 (R362). -/
def State.purge (s : State) (l : Nat) : State := (s.modLock l (fun _ => {})).lockShow l

/-- Purge every locker. -/
def State.purgeAll (s : State) : State := (upTo 64).foldl (fun t l => t.purge l) s

/-- Release a locker: purge, then lgen + 1 (R362). -/
def State.release (s : State) (l : Nat) : State :=
  let t := s.purge l
  t.wr .CIPH_LOCK_STATUS_lgen l (t.rd .CIPH_LOCK_STATUS_lgen l + 1)

/-- Locker of a tributary: its binding in force. -/
def State.lockerOf (s : State) (t : Nat) : Option Nat := (s.tribOf t).bind

/-- Lockers of an engine: of tributaries in its maps in force and its loaded next maps, of both directions (R363,
log entry 22). -/
def State.engLockers (s : State) (n : Nat) : List Nat :=
  let maps := [(s.txOf n).map, (s.rxOf n).map] ++ (s.txOf n).next.toList ++ (s.rxOf n).next.toList
  ((maps.flatMap Slots.tribs).filterMap (fun t => s.lockerOf t)).dedup.mergeSort (· ≤ ·)

/-- Engines of a locker (R363, R366). -/
def State.lockerEngs (s : State) (l : Nat) : List Nat :=
  (upTo s.engines).filter (fun n => (s.engLockers n).contains l)

/-- A phase is the KP sent or received on some engine of a locker (R366). -/
def State.phaseInUse (s : State) (l phase : Nat) : Bool :=
  (s.lockerEngs l).any (fun n => s.rd .CIPH_ENG_CTRL_tx_kp n == phase || s.rd .CIPH_ENG_CTRL_rx_kp n == phase)

/-- The LOCKER change record of a locker, its keys wrapped under the pair transport key (R368; 08 R305). -/
def State.lockerRec (s : State) (l pk : Nat) : List Byte :=
  let k := s.lockOf l
  let wrap := fun (q : KeySlot) => match q.key with | none => List.replicate 40 0 | some x => keyWrap pk x
  changeRec 3 (beBytes 1 l ++ beBytes 1 (s.rd .CIPH_LOCK_STATUS_lgen l)
    ++ beBytes 1 (s.rd .CIPH_LOCK_STATUS_cur_phase l + 2 * b2n k.cur.key.isSome + 4 * b2n k.nxt.key.isSome)
    ++ beBytes 1 k.cur.kgen ++ beBytes 1 k.nxt.kgen ++ wrap k.cur ++ wrap k.nxt)

/-- Mirror a locker; with no pair transport key no key is mirrored (15 R503). -/
def State.mirrorLocker (s : State) (l : Nat) : State :=
  match s.pair.key with
  | none => s
  | some pk => s.mirror 0xFF 0 (s.lockerRec l pk)

/-- A write of CIPH_LOCKn_CTRL's lock_en (R362, R371). -/
def State.lockEnWrite (s : State) (l : Nat) (v : Bool) : State :=
  let t := s.wr .CIPH_LOCK_CTRL_lock_en l (b2n v)
  if v then t else (t.release l).mirrorLocker l

/-! ### Key phase (R352, R367) -/

/-- A locker of the engine lacks a key in the slot for the phase that a flip would give (R367). -/
def State.kpLacks (s : State) (n : Nat) : Bool :=
  (s.engLockers n).any (fun l => (s.slotFor l (1 - s.rd .CIPH_ENG_CTRL_tx_kp n)).key.isNone)

/-- A write of 1 to kp_flip takes effect: no key is missing, and no flip is pending (R367). -/
def State.kpFlips (s : State) (n : Nat) : Bool := !s.kpLacks n && !s.on .CIPH_ENG_CTRL_kp_pend n

/-- A write of 1 to kp_flip, for a target that mirroring may have fixed (R367; 08 R282). -/
def State.kpFlip (s : State) (n : Nat) (target : Option Nat) : State :=
  if s.kpLacks n then s.raiseReg .CIPH_EV_kp_refused 0 { obj := n }
  else if s.kpFlips n then (s.wr .CIPH_ENG_CTRL_kp_pend n 1).addShadow n .kpFlip 0 target
  else s

/-! ### Member bit (R355) -/

/-- MB of this member: 0 unpaired and on the member of the lower identity number. -/
def State.memberBit (s : State) : Nat := s.pair.pos

/-- Show the member bit on every engine. -/
def State.setMember (s : State) (v : Nat) : State :=
  let s := { s with pair := { s.pair with pos := v } }
  (upTo s.engines).foldl (fun t n => t.wr .CIPH_ENG_CTRL_mb n v) s

end Sys2Proof.Machine
end

