-- ==== Sys2Proof/Machine/Cipher.lean ====
section
/-! DEFINITION. Meanings of the locker, key and entropy commands (10_cipher.md R362 to R370). -/
namespace Sys2Proof.Machine

/-- Fields of a KEY command's parameter word (R365). -/
def keyOp (p : Nat) : Nat := p % 16
def keyLocker (p : Nat) : Nat := fieldOf p 4 6
def keySlot (p : Nat) : Nat := fieldOf p 10 1
def keyGen (p : Nat) : Nat := fieldOf p 24 8

/-- The phase that a KEY command's target slot serves. -/
def State.keyPhase (s : State) (p : Nat) : Nat :=
  let cur := s.rd .CIPH_LOCK_STATUS_cur_phase (keyLocker p)
  if keyOp p == 2 && keySlot p == 0 then cur else if keyOp p == 3 then cur else 1 - cur

/-- Detail code of the first check of R366 that fails before UNWRAP, 0 when none does. -/
def State.keyErr (s : State) (d : Desc) : Nat :=
  let p := d.param0
  let l := keyLocker p
  let op := keyOp p
  if op == 0 || decide (3 < op) || fieldOf p 11 5 != 0 then 1
  else if s.rd .CIPH_LOCK_CTRL_key_ring l != d.sq || !s.on .CIPH_LOCK_CTRL_lock_en l then 2
  else if fieldOf p 16 8 != s.rd .CIPH_LOCK_STATUS_lgen l then 3
  else if !s.keysAllowed then 4
  else if (s.lockerEngs l).any (fun n => s.on .CIPH_ENG_CTRL_kp_pend n) then 5
  else if s.phaseInUse l (s.keyPhase p) then 6
  else if op == 1 && (keyGen p == 0 || ((s.lockOf l).cur.key.isSome && keyGen p == (s.lockOf l).cur.kgen)) then 7
  else if op == 3 && (s.lockOf l).nxt.key.isNone then 8
  else 0

/-- Refuse a KEY command; STALE_LGEN is also counted (R366; 16 R518). -/
def State.keyRefuse (s : State) (d : Desc) (e : Nat) : State :=
  let t := if e == 3 then s.count (cEng ((s.lockerEngs (keyLocker d.param0)).headD 0) 13) else s
  t.refuse d e

/-- Change a locker, show it and mirror it. -/
def State.keySet (s : State) (l : Nat) (g : Locker → Locker) : State := ((s.modLock l g).lockShow l).mirrorLocker l

/-- The KEY descriptor at the head of a ring, if its op is one of those a command stands for. -/
def State.headKey (s : State) (r : Nat) (ops : Nat → Bool) : Option Desc :=
  match s.headDesc r 0x30 with
  | none => none
  | some d => if ops (keyOp d.param0) then some d else none

/-- LOAD after the checks of R366: the key is unwrapped into NXT (R365, R366, R399). -/
def State.keyLoad (s : State) (d : Desc) (data : BufRead) : State :=
  if data.err then s.done d 6 0 data.bytes.length
  else
    let e := s.keyErr d
    if e != 0 then s.keyRefuse d e
    else match s.fuse.kek with
      | none => s.keyRefuse d 9
      | some kek =>
        match keyUnwrap kek data.bytes with
        | none => s.keyRefuse d 9
        | some key =>
          if d.len != 40 then s.keyRefuse d 9
          else (s.keySet (keyLocker d.param0)
            (fun k => { k with nxt := { key := some key, kgen := keyGen d.param0 } })).done d 0 0 40

/-- KEY_LOAD (R365, R366; 11 R395, R399). -/
def execKeyLoad (r : RingId) (data : BufRead) (s : State) : Host.Outcome State Fault Refusal :=
  ok (let s := s.settle r 0x30
    match s.headKey r (· == 1) with
    | none => s
    | some d => (s.popDesc r).keyLoad d data)

/-- KEY_ERASE (R365, R366). -/
def execKeyErase (r : RingId) (s : State) : Host.Outcome State Fault Refusal :=
  ok (let s := s.settle r 0x30
    match s.headKey r (· == 2) with
    | none => s
    | some d =>
      let s := s.popDesc r
      let e := s.keyErr d
      if e != 0 then s.keyRefuse d e
      else (s.keySet (keyLocker d.param0)
        (fun k => if keySlot d.param0 == 0 then { k with cur := {} } else { k with nxt := {} })).done d)

/-- PROMOTE: cur_phase toggles, the key in use becomes CUR and the slot now named NXT is erased (R366). -/
def State.promote (s : State) (l : Nat) : State :=
  (s.wr .CIPH_LOCK_STATUS_cur_phase l (1 - s.rd .CIPH_LOCK_STATUS_cur_phase l)).keySet l
    (fun k => { k with cur := k.nxt, nxt := {} })

/-- KEY_PROMOTE (R365, R366). -/
def execKeyPromote (r : RingId) (s : State) : Host.Outcome State Fault Refusal :=
  ok (let s := s.settle r 0x30
    match s.headKey r (· == 3) with
    | none => s
    | some d =>
      let s := s.popDesc r
      let e := s.keyErr d
      if e != 0 then s.keyRefuse d e else (s.promote (keyLocker d.param0)).done d)

/-- KEY_RESERVED_OP: a reserved op is refused BAD_OP (R366). -/
def execKeyReservedOp (r : RingId) (s : State) : Host.Outcome State Fault Refusal :=
  ok (let s := s.settle r 0x30
    match s.headKey r (fun op => op == 0 || decide (3 < op)) with
    | none => s
    | some d => (s.popDesc r).keyRefuse d 1)

/-- ENTROPY_RESEED: the reseed of each second; a pass lets a halt end at the next SFM (R369, R370). -/
def execEntropyReseed (pass : Bool) (s : State) : Host.Outcome State Fault Refusal :=
  ok { s with sec := { s.sec with reseedOk := pass, haltOver := s.sec.haltOver || (pass && s.on .CIPH_EV_halted) } }

/-- ENTROPY_TEST_FAIL (R370). -/
def execEntropyTestFail (s : State) : Host.Outcome State Fault Refusal :=
  ok ({ s with sec := { s.sec with reseedOk := false } }.raiseReg .CIPH_EV_ent_fail)

/-- CIPHER_HALT: no reseed has passed within 60 s (R370). -/
def execCipherHalt (s : State) : Host.Outcome State Fault Refusal :=
  ok (if s.sec.reseedOk || s.on .CIPH_EV_halted then s
    else ({ s with sec := { s.sec with haltOver := false } }.wr .CIPH_EV_halted 0 1).raiseReg .CIPH_EV_halt_seen)

/-- The halt ends at the first SFM after a reseed passes (R370). -/
def State.haltEnd (s : State) : State :=
  if s.sec.haltOver then { s with sec := { s.sec with haltOver := false } }.wr .CIPH_EV_halted 0 0 else s

end Sys2Proof.Machine
end

