-- ==== Sys2Proof/Machine/PlaceOps.lean ====
section
/-! DEFINITION. The placement procedure of the Storekeeper: policies, demands, the plan of a step down
(07_placement.md R233 to R241, R252 to R254, R259). -/
namespace Sys2Proof.Machine

/-! ### Policy (R235, R264) -/

/-- pin_mode of a policy word: 0 FREE, 1 STAY (also 3), 2 FIXED. -/
def polMode (w : Nat) : Nat := if fieldOf w 0 2 == 3 then 1 else fieldOf w 0 2
def polGrpEn (w : Nat) : Bool := w.testBit 2
def polMask (w : Nat) : Nat := fieldOf w 4 4
def polPrio (w : Nat) : Nat := fieldOf w 8 3
def polDiv (w : Nat) : Nat := fieldOf w 12 4
def polSlot (w : Nat) : Nat := fieldOf w 16 9
def polGrp (w : Nat) : Nat := fieldOf w 26 6

/-- The policy of a tributary as its register holds it. -/
def State.polNow (s : State) (t : Nat) : Nat := s.regVal .PLACE_TRIB_POL t

/-- Engines on which it acts. -/
def State.skEngs (s : State) : List Nat := (upTo s.engines).filter (fun n => s.lpn n)

/-- sw_state of an engine (R249). -/
def State.swState (s : State) (n : Nat) : Nat := s.rd .PLACE_ENG_STATUS_sw_state n

/-- The engine is pinned (R234). -/
def State.pinned (s : State) (n : Nat) : Bool := s.pinCause n != 0

/-! ### The placement procedure (R239, R240) -/

/-- Share of the member of rank `i` of `k` (R239; 02 R65). -/
def groupShare (n k i : Nat) : Nat := n / k + b2n (decide (i < n % k))

/-- An engine's map holds no other tributary with the same non-zero div_tag (R235, R239); those in `wait` hold their slots in this pass
and are placed by the policy as it stands. -/
def State.divOk (s : State) (wait : List Nat) (m : Slots) (t pol : Nat) : Bool :=
  polDiv pol == 0 || m.tribs.all (fun u =>
    u == t || polDiv (if wait.contains u then s.polNow u else (s.tribOf u).pol) != polDiv pol)

/-- The first with the largest figure, of a list in ascending order. -/
def mostOf (l : List Nat) (f : Nat → Nat) : Option Nat :=
  l.foldl (fun b e => match b with | none => some e | some x => if f x < f e then some e else some x) none

/-- Give shares to members as their lowest-numbered free active slots. -/
def giveShares (maps : SMap Slots) (t gen : Nat) (l : List (Nat × Nat)) : SMap Slots :=
  l.foldl (fun x (e, c) =>
    let m := SMap.get {} x e
    SMap.set {} x e (m.give t gen (m.free.take c))) maps

/-- Every member has as many free active slots as its share. -/
def sharesFit (maps : SMap Slots) (l : List (Nat × Nat)) : Bool :=
  l.all (fun (e, c) => decide (c ≤ (SMap.get {} maps e).free.length))

/-- NO_ENGINE, or DIVERSITY where the div_tag test alone emptied the choice (R240). -/
def noneLeft (without : List Nat) : Nat := if without.isEmpty then 2 else 3

/-- Place one demand on the maps being built: 0 and the new maps, or the cause of the refusal (R239, R240). -/
def State.placeOne (s : State) (elig wait : List Nat) (maps : SMap Slots) (t : Nat) : Nat × SMap Slots :=
  let pol := s.polNow t
  let n := s.slotsReq t
  let gen := s.tribGen t
  let base := elig.filter (fun e => (polMask pol).testBit e)
  let cand := base.filter (fun e => s.divOk wait (SMap.get {} maps e) t pol)
  if cand.isEmpty then (noneLeft base, maps)
  else if polMode pol == 2 then
    if polGrpEn pol then (4, maps)
    else
      let e := ((upTo 4).find? (fun e => (polMask pol).testBit e)).getD 0
      if !cand.contains e then (noneLeft (base.filter (· == e)), maps)
      else
        let m := SMap.get {} maps e
        let want := (upTo n).map (· + polSlot pol)
        if want.all (fun k => decide (k < activeSlots m.rate) && !(SMap.get {} m.tab k).on) then
          (0, SMap.set {} maps e (m.give t gen want))
        else (4, maps)
  else if polGrpEn pol then
    let g := polGrp pol
    let mask := s.rd .FAB_GRP_CTRL_member_mask g
    let mem := cand.filter (fun e => mask.testBit e)
    let l := mem.zipIdx.map (fun (e, i) => (e, groupShare n mem.length i))
    if s.rd .FAB_GRP_STATUS_bins_held g == 0 then (5, maps)
    else if mem.isEmpty then (noneLeft (base.filter (fun e => mask.testBit e)), maps)
    else if sharesFit maps l then (0, giveShares maps t gen l)
    else (1, maps)
  else
    match mostOf cand (fun e => (SMap.get {} maps e).free.length) with
    | none => (2, maps)
    | some e => if sharesFit maps [(e, n)] then (0, giveShares maps t gen [(e, n)]) else (1, maps)

/-- Demand `a` is placed before demand `b` (R239). -/
def State.before (s : State) (a b : Nat) : Bool :=
  let pa := polPrio (s.polNow a)
  let pb := polPrio (s.polNow b)
  decide (pb < pa) || (pa == pb && (decide (s.slotsReq b < s.slotsReq a) || (s.slotsReq a == s.slotsReq b && decide (a ≤ b))))

/-- Slots of a tributary in a set of maps. -/
def heldIn (maps : SMap Slots) (t : Nat) : Nat := (maps.map (fun kv => (kv.2.held t).length)).sum

/-- Engines of a set of maps that hold a tributary. -/
def engsIn (maps : SMap Slots) (t : Nat) : List Nat := (maps.filter (fun kv => !(kv.2.held t).isEmpty)).map (·.1)

/-! ### Growth and shrink of a FlexE tributary (R238) -/

/-- Remove the surplus of a tributary from the highest-numbered slots, of a group from its highest member first. -/
def shrinkOne (t : Nat) : Nat → List Nat → SMap Slots → SMap Slots
  | _, [], maps => maps
  | k, e :: es, maps =>
    let m := SMap.get {} maps e
    let h := (m.held t).reverse.take k
    shrinkOne t (k - h.length) es
      (SMap.set {} maps e { m with tab := m.tab.filter (fun kv => !h.contains kv.1) })

/-- Add the missing slots of a placed tributary on its engine or its members, of a FIXED one on the next slots after
pin_slot; a cause where they do not fit (R238 to R240). The policy is the one it was placed by (DEDUCED, log entry 220). -/
def State.growOne (s : State) (elig : List Nat) (maps : SMap Slots) (t : Nat) : Nat × SMap Slots :=
  let pol := (s.tribOf t).pol
  let gen := s.tribGen t
  let mem := engsIn maps t
  let n := s.slotsReq t - heldIn maps t
  let l := mem.zipIdx.map (fun (e, i) => (e, groupShare n mem.length i))
  if !mem.all (fun e => elig.contains e) then (2, maps)
  else if polMode pol == 2 then
    let e := mem.headD 0
    let m := SMap.get {} maps e
    let want := ((upTo (s.slotsReq t)).map (· + polSlot pol)).filter (fun k => !(m.held t).contains k)
    if want.all (fun k => decide (k < activeSlots m.rate) && !(SMap.get {} m.tab k).on) then
      (0, SMap.set {} maps e (m.give t gen want))
    else (4, maps)
  else match s.tribGrp t with
    | some g =>
      if s.rd .FAB_GRP_STATUS_bins_held g == 0 then (5, maps)
      else if !sharesFit maps l then (1, maps)
      else if s.skewFits g (10 * s.rd .FAB_GRP_STATUS_skew_meas g) (36 * s.slotsReq t) then (0, giveShares maps t gen l)
      else (7, maps)
    | none => if sharesFit maps l then (0, giveShares maps t gen l) else (1, maps)

/-! ### The plan of a step down (R252, R254, R259) -/

/-- State of the planning of moves: slots still short, slots each tributary keeps, free slots of the other engines. -/
structure MovePlan where
  short : Nat := 0
  count : SMap Nat := []
  free : SMap (List Nat) := []
  make : List (Nat × Nat × Nat) := []
  moved : List Nat := []
  skew : List Nat := []

/-- Take `k` slots for a tributary from the destination with the most free ones, ties to the lowest engine. -/
def takeSlots (t : Nat) (dests : List Nat) : Nat → Nat → MovePlan → MovePlan
  | 0, _, p => p
  | fuel + 1, k, p =>
    if k == 0 then p
    else match mostOf dests (fun e => (SMap.get [] p.free e).length) with
      | none => p
      | some e =>
        let l := (SMap.get [] p.free e).take k
        takeSlots t dests fuel (k - l.length)
          { p with free := SMap.mod [] p.free e (fun x => x.drop l.length), make := p.make ++ l.map (fun q => (e, q, t)) }

/-- Move out what can be moved of one tributary (R252, R259 step 2). -/
def State.planMove (s : State) (maps : SMap Slots) (e : Nat) (elig moving : List Nat) (p : MovePlan) (t : Nat) : MovePlan :=
  let pol := (s.tribOf t).pol
  let g := polGrp pol
  let mask := s.rd .FAB_GRP_CTRL_member_mask g
  let dests := elig.filter (fun x => x != e && (polMask pol).testBit x && mask.testBit x && s.divOk [] (SMap.get {} maps x) t pol)
  let avail := (dests.map (fun x => (SMap.get [] p.free x).length)).sum
  let k := min (min (SMap.get 0 p.count t) p.short) avail
  if k == 0 || moving.contains t || polMode pol != 0 || !polGrpEn pol then p
  else if !s.skewFits g (10 * s.rd .FAB_GRP_STATUS_skew_meas g) (36 * (heldIn maps t + k)) then { p with skew := p.skew ++ [t] }
  else takeSlots t dests 4 k
    { p with short := p.short - k, count := SMap.mod 0 p.count t (· - k), moved := p.moved ++ [t] }

/-- Without the shed tributaries every slot fits below the new count (R259). -/
def State.stepFits (s : State) (m : Slots) (newN : Nat) (count : SMap Nat) (shed : List Nat) : Bool :=
  let keep := m.tribs.filter (fun t => !shed.contains t)
  keep.all (fun t => polMode (s.tribOf t).pol != 2 || (m.held t).all (fun k => decide (k < newN)))
    && decide ((keep.map (fun t => SMap.get 0 count t)).sum ≤ newN)

/-- Shed tributaries of a queue until the rest fit; none where that needs shedding that is not allowed (R259 steps 3, 4). -/
def State.shedUntil (s : State) (m : Slots) (newN : Nat) (count : SMap Nat) (shedEn : Bool) : List Nat → List Nat → Option (List Nat)
  | [], shed => if s.stepFits m newN count shed then some shed else none
  | t :: ts, shed =>
    if s.stepFits m newN count shed then some shed
    else if shedEn then s.shedUntil m newN count shedEn ts (shed ++ [t]) else none

/-- The slot table of the step: each tributary keeps its lowest slots, and what lies above the new count goes to the
lowest free slots below it (R259 step 1). -/
def stepTable (m : Slots) (newN : Nat) (count : SMap Nat) (shed : List Nat) : SMap SlotEntry :=
  let keep := (m.tribs.filter (fun t => !shed.contains t)).flatMap (fun t => (m.held t).take (SMap.get 0 count t))
  let tab := m.tab.filter (fun kv => keep.contains kv.1 && decide (kv.1 < newN))
  let up := m.tab.filter (fun kv => keep.contains kv.1 && decide (newN ≤ kv.1))
  let free := (upTo newN).filter (fun k => !(SMap.get {} tab k).on)
  (free.zip up).foldl (fun x (k, kv) => SMap.set {} x k kv.2) tab

/-- A map after the step down of a plan: each tributary keeps what does not move out, and none is in it that is shed (R252, R259). -/
def stepMap (p : StepPlan) (m : Slots) : Slots :=
  if m.rate ≤ p.rate then m
  else
    let count := m.tribs.foldl (fun x t => SMap.set 0 x t ((m.held t).length - p.make.countP (fun k => k.2.2 == t))) []
    { m with rate := p.rate, tab := stepTable m (activeSlots p.rate) count p.shed }

/-- The plan of a step down of engine `e` (R259): a tributary that is shed is in no move, and shares go to slots that are free in the maps
to be and, in `hold`, before the steps of those engines. Which FREE tributary's shares go first, and how much of each, is the model's
choice (log entry 197). -/
def State.planStep (s : State) (maps hold : SMap Slots) (e : Nat) (elig moving : List Nat) : StepPlan :=
  let m := SMap.get {} maps e
  let newN := activeSlots (m.rate - 1)
  let count := m.tribs.foldl (fun x t => SMap.set 0 x t (m.held t).length) []
  let free := (elig.filter (· != e)).foldl (fun x n => 
    SMap.set [] x n ((SMap.get {} maps n).free.filter (fun k => !(SMap.get {} (SMap.get {} hold n).tab k).on))) []
  let total := (m.tribs.map (fun t => (m.held t).length)).sum
  let p := m.tribs.foldl (fun p t => s.planMove maps e elig moving p t) { short := total - newN, count := count, free := free }
  let queue := m.tribs.mergeSort (fun a b =>
    let pa := polPrio (s.tribOf a).pol
    let pb := polPrio (s.tribOf b).pol
    decide (pa < pb) || (pa == pb && decide (b ≤ a)))
  match s.shedUntil m newN p.count (s.on .PLACE_CTRL_shed_en) queue [] with
  | none => { rate := m.rate - 1, skew := p.skew, blocked := true }
  | some shed => { rate := m.rate - 1, make := p.make.filter (fun x => !shed.contains x.2.2),
                   moved := p.moved.filter (fun t => !shed.contains t),
                   shed := shed.mergeSort (· ≤ ·), skew := p.skew }

end Sys2Proof.Machine
end

