-- ==== Sys2Proof/Machine/SwitchOps.lean ====
section
/-! DEFINITION. The switch machine of the Storekeeper: the pass that computes next maps, the marker, resynchronisation
and the readings that drive rate steps (07_placement.md R242 to R263; 01_architecture.md R25 to R28, R569, R570). -/
namespace Sys2Proof.Machine

/-! ### What the maps show (R242, R264) -/

/-- Show the transmit map in force of an engine. -/
def State.txMapShow (s : State) (n : Nat) : State :=
  let m := (s.txOf n).map
  (s.wrs [(.PLACE_ENG_STATUS_tx_gen, n, m.gen), (.PLACE_ENG_STATUS_tx_rate, n, m.rate),
    (.LE_PROFILE_rate_active, n, m.rate)]).pinRefresh n

/-- Show the receive map in force of an engine. -/
def State.rxMapShow (s : State) (n : Nat) : State := s.wr .PLACE_ENG_RX_rx_gen n (s.rxOf n).map.gen

/-- Tributaries in a move of some step down (R252, R254). -/
def State.moving (s : State) : List Nat :=
  (upTo s.engines).flatMap (fun n => match (s.skOf n).plan with | some p => p.moved | none => [])

/-- The growth of a placed tributary was refused and waits to be tried again (R238, R241). -/
def State.growthRefused (s : State) (t : Nat) : Bool :=
  s.rd .PLACE_TRIB_STATUS_place_state t == 1
    && decide (((upTo s.engines).map (fun n => ((s.txOf n).map.held t).length)).sum < s.slotsReq t)

/-- Show every tributary as the maps in force hold it: MOVING or PLACED where it holds slots, with the cause of a growth
refused; UNPLACED where it holds none or was displaced or shed, and was not refused. -/
def State.placeShowAll (s : State) : State :=
  let mv := s.moving
  let l := (s.activeTribs ++ s.ringsWith .PLACE_TRIB_STATUS_place_state 1 ++ s.ringsWith .PLACE_TRIB_STATUS_place_state 2).dedup
  (l.foldl (fun u t =>
    if (!(u.mapEngs false t).isEmpty && !(u.tribOf t).unpl) || (u.tribOf t).oz.isSome then
      if mv.contains t then u.placeShow t 2 0
      else u.placeShow t 1 (if u.growthRefused t then u.rd .PLACE_TRIB_STATUS_cause t else 0)
    else if u.isRefused t then u.placeShow t (u.rd .PLACE_TRIB_STATUS_place_state t) (u.rd .PLACE_TRIB_STATUS_cause t)
    else u.placeShow t 0 0) s).fabRefresh

/-! ### Map records (08_pair_protection.md R305) -/

/-- The slot table of a map in the layout of R244. -/
def slotTable (m : Slots) : List Byte :=
  (upTo 480).flatMap (fun k =>
    let e := SMap.get {} m.tab k
    beBytes 2 (if e.on then 0x8000 + e.trib else 0))

/-- The map that a slot table spells, each tributary with this member's own generation. -/
def State.slotsOf (s : State) (gen rate : Nat) (b : List Byte) : Slots :=
  { gen := gen, rate := rate, tab := (upTo 480).foldl (fun x k =>
      let w := fromBE (slice b (2 * k) 2)
      if 0x8000 ≤ w then SMap.set {} x k { on := true, trib := w % 1024, gen := s.tribGen (w % 1024) } else x) [] }

/-- First bytes of a MAP record. -/
def mapHead (n : Nat) (m : Slots) : List Byte := beBytes 1 n ++ beBytes 2 m.gen ++ beBytes 1 m.rate

/-- A MAP record (R305). -/
def mapRec (n : Nat) (m : Slots) : List Byte := changeRec 4 (mapHead n m ++ slotTable m)

/-- A PLACE_IN record (R305). -/
def placeIn (n kind : Nat) (body : List Byte) : List Byte := changeRec 5 (beBytes 1 n ++ beBytes 1 kind ++ body)

/-- Mirror a next map and note the last cell that carries it (R263). -/
def State.mirrorMap (s : State) (n : Nat) (m : Slots) : State :=
  let t := s.mirror n 0 (mapRec n m)
  { t with pair := { t.pair with mapSeq := SMap.set 0 t.pair.mapSeq n t.pair.mirSeq } }

/-- The SHADOW has confirmed the mirrored map of the switch in flight: no cell up to its last is unacknowledged (R263). -/
def State.mapConfirmed (s : State) (n : Nat) : Bool :=
  let last := (SMap.get 0 s.pair.mapSeq n + 2 ^ 32 - 1) % 2 ^ 32
  !s.mirroring || s.pair.mirOut.all (fun c => serLater c.seq last)

/-! ### The switch machine (R249, R250) -/

def State.setSw (s : State) (n st : Nat) : State := (s.wr .PLACE_ENG_STATUS_sw_state n st).pinRefresh n

/-- Take the next generation of an engine (R242). -/
def State.nextGen (s : State) (n : Nat) : Nat × State :=
  let g := (s.skOf n).genLast % 0xFFF + 1
  (g, s.modSk n (fun k => { k with genLast := g }))

/-- Start the switch to a map: load the transmit shadows, send MAN, mirror the map (R249, R25). -/
def State.swBegin (s : State) (n : Nat) (m : Slots) (work : Nat) : State :=
  let s := s.modSk n (fun k => { k with man := some m, work := work, loaded := [], applied := [] })
  let s := (s.modTx n (fun x => { x with next := some m })).setSw n 1
  s.mirrorMap n m

/-- Start a switch to a map of the next generation. -/
def State.swStartMap (s : State) (n : Nat) (m : Slots) (work : Nat) : State :=
  let (g, t) := s.nextGen n
  t.swBegin n { m with gen := g } work

/-- Withdraw MAN and the loaded next map. -/
def State.withdraw (s : State) (n : Nat) : State :=
  (s.modSk n (fun k => { k with man := none })).modTx n (fun x => { x with next := none })

/-- The mode whose traffic rules hold: in SHADOW the mirrored one (02_modes.md R33, 08_pair_protection.md R286). -/
def State.opMode (s : State) : Nat := if s.modeNow == 5 then s.pair.mirMode else s.modeNow

/-- Markers are held back: a transition from MUXPONDER to TRANSPONDER has passed its checks, in SHADOW the ACTIVE's (02_modes.md R66). -/
def State.frozen (s : State) : Bool :=
  match s.mode.tr with
  | some t => s.opMode == 2 && t.par % 16 == 1
  | none => false

/-- All four stages are in a list of reports. -/
def allStages (l : List MapStage) : Bool := [MapStage.mapper, .fabric, .framer, .cipher].all (fun st => l.contains st)

/-- A marker of a generation sets out on an engine; no stage has reported it yet (01_architecture.md R28). -/
def State.mkIssue (s : State) (n gen : Nat) (target : Option Nat) : State :=
  (s.modSk n (fun k => { k with markerOut := true, mkGen := gen, mkRep := [], mkFar := false, mkCnt := false })).modTx n
    (fun x => { x with marker := some (gen, target) })

/-- The marker outstanding is so no longer once every local stage and the far end have reported it applied or mismatched
(01_architecture.md R28). -/
def State.mkTidy (s : State) (n : Nat) : State :=
  if allStages (s.skOf n).mkRep && (s.skOf n).mkFar then s.modSk n (fun k => { k with markerOut := false }) else s

/-- A local stage reports the marker outstanding applied or mismatched (01_architecture.md R28). -/
def State.mkLocal (s : State) (n : Nat) (st : MapStage) : State :=
  (s.modSk n (fun k => { k with mkRep := if k.mkRep.contains st then k.mkRep else k.mkRep ++ [st] })).mkTidy n

/-- The far end's DONE reports the marker outstanding: its generation is in force there, or the last marker mismatched
(01_architecture.md R28; R244). -/
def State.mkDone (s : State) (n done : Nat) : State :=
  let k := s.skOf n
  if k.markerOut && (0x8000 ≤ done || done % 4096 == k.mkGen) then
    (s.modSk n (fun k => { k with mkFar := true })).mkTidy n
  else s

/-- Issue the marker when every local stage is loaded, the far end is ready and, in a pair, the SHADOW has confirmed the
map (R249, R263, R25, R28, 08 R282). -/
def State.tryIssue (s : State) (n : Nat) : State :=
  let k := s.skOf n
  match k.man with
  | none => s
  | some m =>
    if s.swState n == 1 && allStages k.loaded && k.farReady == 0x8000 + m.gen && s.modeNow == 2 && !s.frozen
        && !k.markerOut && s.mapConfirmed n then
      let target := s.newTarget n
      let s := (s.mkIssue n m.gen target).setSw n 2
      s.mirror n (target.getD 0) (mapRec n m)
    else s

/-- Tributaries shed by a completed step become unplaced (R259 step 3). -/
def State.shedNow (s : State) (l : List Nat) : State :=
  l.foldl (fun t k =>
    ((t.modTrib k (fun x => { x with unpl := true })).placeShow k 0 6).raiseReg .PLACE_EV_shed 0 { obj := k, arg := some 6 }) s

/-- A switch ends, whether or not it completed: where it made a rate step that the transmit stages use, the step is
complete (R259, R260); a step that they do not use is planned anew. -/
def State.stepClose (s : State) (n : Nat) : State :=
  let k := s.skOf n
  let used := k.man.any (fun m => m.gen == (s.txOf n).map.gen)
  let shed := if k.work == 1 then (match k.plan with | some p => p.shed | none => []) else []
  let s := s.modSk n (fun k => { k with work := 0, plan := if k.work == 1 then none else k.plan })
  if used && (k.work == 1 || k.work == 2) then
    let s := (s.modSk n (fun k => { k with want := 0 })).raiseReg .PLACE_EV_step 0 { obj := n, arg := some (s.txOf n).map.rate }
    let s := if k.work == 2 then { s with mode := { s.mode with retry := true } } else s
    (s.shedNow shed).placeShowAll
  else s

/-- Resynchronise: a new generation of the map the transmit stages use (R250). In SHADOW the ACTIVE makes it, and it is what the next map
is compared with (R263). -/
def State.resync (s : State) (n : Nat) : State :=
  let s := s.stepClose n
  if s.modeNow == 5 then s.modSk n (fun k => { k with expect := true })
  else (s.raiseReg .PLACE_EV_resync 0 { obj := n }).swStartMap n (s.txOf n).map 3

/-- The switch is complete: every stage applied and the far end is done (R249, R260). -/
def State.swComplete (s : State) (n : Nat) : State :=
  (((s.modSk n (fun k => { k with loaded := [], applied := [] })).setSw n 0).stepClose n).placeShowAll

/-- Complete the switch if every local stage applied and DONE says so (R249). -/
def State.tryDone (s : State) (n : Nat) : State :=
  let k := s.skOf n
  match k.man with
  | none => s
  | some m => if s.swState n == 2 && allStages k.applied && k.farDone == some m.gen then s.swComplete n else s

/-! ### Markers at the stages (01_architecture.md R27, R569, R570) -/

/-- One stage counts a stale marker and raises its MARKER_MISMATCH, with the stage and the direction in the argument
(R27); mk_mismatch is set by those of the framer, stage 2 (05_line_framing.md R192; 16_counters_and_events.md R530). -/
def State.mkStale (s : State) (n arg : Nat) : State :=
  (if arg % 256 == 2 then s.setEv .LE_FRM_EV_mk_mismatch n else s).raiseCount (.perf .markerMismatch) { obj := n, arg := some arg }
    (cEng n 8)

/-- Each of the four stages of a direction meets a stale marker; `base` is 256 on receive (R27, log entry 33). -/
def State.mkMismatch (s : State) (n base : Nat) : State := [0, 1, 2, 3].foldl (fun t st => t.mkStale n (base + st)) s

/-- The transmit stages meet a stale marker, each once: those that have reported it already are counted, and what the others report later
is counted by it (R27). It does not cross the line, so the far end has nothing to report of it (R28). -/
def State.mkTxMismatch (s : State) (n : Nat) : State :=
  let l := [MapStage.mapper, .fabric, .framer, .cipher].filter (fun st => !(s.skOf n).mkRep.contains st)
  ((l.foldl (fun t st => t.mkStale n st.ctorIdx) s).modSk n (fun k => { k with mkCnt := true, mkFar := true })).mkTidy n

/-- Lay bytes out in shares of the sizes given, in order; what is left of them follows. -/
def cutShares : List (Nat × Nat × Nat) → List Byte → List (Nat × Nat × List Byte) × List Byte
  | [], b => ([], b)
  | (gf, e, c) :: l, b =>
    let r := cutShares l (b.drop c)
    ((gf, e, b.take c) :: r.1, r.2)

/-- The shares of a group's frames that wait to be sent, cut anew for engine `n`: those of `n` by its map at the frames that carry them, the
others as they are, with no byte lost and none out of order among them; what is left over stands last (06_tributary_mapping.md R219; log
entry 35). -/
def State.recutCut (s : State) (n g t : Nat) : List (Nat × Nat × List Byte) × List Byte :=
  let x := s.grpOf g
  let own := 36 * (s.slotsIn (s.txOf n).map t).length
  let fn := (s.txOf n).fn
  let size := fun (e i : Nat) (b : List Byte) =>
    if e != n then b.length else if (fn + i) % 256 == 0 then own - 4 else own
  let all := x.share.flatMap (fun (e, l) => l.zipIdx.map (fun (a, i) => (a.1, e, size e i a.2, a.2)))
  let sorted := all.mergeSort (fun a b =>
    let age := fun (q : Nat) => (x.gf + 2 ^ 24 - 1 - q) % 2 ^ 24
    decide (age b.1 < age a.1) || (a.1 == b.1 && decide (a.2.1 ≤ b.2.1)))
  cutShares ((sorted.map (fun a => (a.1, a.2.1, a.2.2.1))).filter (fun a => a.2.2 != 0)) (sorted.flatMap (fun a => a.2.2.2))

/-- The shares as the group holds them, one queue per engine. -/
def shareMap (l : List (Nat × Nat × List Byte)) : SMap (List (Nat × List Byte)) :=
  l.foldl (fun (m : SMap (List (Nat × List Byte))) (gf, e, b) => SMap.mod [] m e (fun q => q ++ [(gf, b)])) []

/-- The map of engine `n` has changed: the shares of group `g` that wait are cut anew (06_tributary_mapping.md R219; log entry 35). -/
def State.recutGroup (s : State) (n g t : Nat) : State :=
  if (SMap.get [] (s.grpOf g).share n).isEmpty then s
  else
    let cut := s.recutCut n g t
    let s := s.modGrp g (fun y => { y with share := shareMap cut.1 })
    if s.isGmp t then s else s.modTrib t (fun y => { y with q := cut.2 ++ y.q })

/-- The same for every group. -/
def State.recutShares (s : State) (n : Nat) : State :=
  (s.grp.map (·.1)).foldl (fun u g => match u.grpTrib g with | some t => u.recutGroup n g t | none => u) s

/-- The transmit stages meet a marker of a generation: they apply the next map of that generation, or mismatch; the dwell
counts restart at a rate step (R27, R569; 07 R255). tx_gen shows the map from here on (DEDUCED, log entry 221). -/
def State.markerMeet (s : State) (n gen : Nat) : State :=
  let x := s.txOf n
  match x.next with
  | some m =>
    if m.gen == gen then
      let stepped := m.rate != x.map.rate
      let s := s.modTx n (fun x => { x with map := m, next := none, mapOld := x.map, kept := [] })
      let s := if stepped then
          s.modSk n (fun k => { k with snrDwell := 0, gmiDwell := 0, decDwell := 0, upDwell := 0, hold := 0 })
        else s
      (((s.recutShares n).txMapShow n).countStale (s.staleIn m)).placeShowAll
    else s.mkTxMismatch n
  | none => s.mkTxMismatch n

/-! ### The pass that computes next maps (R238, R239, R241, R252, R261) -/

/-- A move is abandoned with cause SKEW; the tributary stays placed (R240, R252, log entry 32). -/
def State.abandonSkew (s : State) (l : List Nat) : State :=
  l.foldl (fun t k =>
    let was := t.rd .PLACE_TRIB_STATUS_cause k
    let u := t.placeShow k 1 7
    if was == 7 then u else u.raiseReg .PLACE_EV_refused 0 { obj := k, arg := some 7 }) s

/-- The make switches of a plan that are not complete (R252). -/
def State.makesLeft (s : State) (p : StepPlan) : List (Nat × Nat × Nat) :=
  p.make.filter (fun (y, k, t) => s.slotTrib (s.txOf y).map k != some t || s.swState y != 0)

/-- A set of maps as they will be when the plan of engine `e` has been carried out too (R259). -/
def State.planBook (s : State) (maps : SMap Slots) (e : Nat) (p : StepPlan) : SMap Slots :=
  (s.makesLeft p).foldl (fun x (y, k, t) => SMap.set {} x y ((SMap.get {} x y).give t (s.tribGen t) [k]))
    (SMap.set {} maps e (stepMap p (SMap.get {} maps e)))

/-- The slots that the moves of other engines' steps are still to make on an engine (R252). -/
def State.makesOn (s : State) (serving : List Nat) (e : Nat) : List (Nat × Nat × Nat) :=
  (serving.filter (· != e)).flatMap (fun d => match (s.skOf d).plan with
    | some p => (s.makesLeft p).filter (fun x => x.1 == e)
    | none => [])

/-- A map with the slots that those moves make. -/
def State.withMakes (s : State) (serving : List Nat) (e : Nat) (m : Slots) : Slots :=
  (s.makesOn serving e).foldl (fun m (_, k, t) => m.give t (s.tribGen t) [k]) m

/-- A plan that can no longer be carried out is dropped, and made anew where the step is still wanted: an engine that is to
take a share, or a tributary in the move, has left. Once the step's own switch is under way the plan stands until it ends. -/
def State.planTidy (s : State) (e : Nat) : State :=
  if (s.skOf e).work != 1 && (s.skOf e).plan.any (fun p => p.make.any (fun (y, _, t) =>
      !s.lpn y || ((s.txOf e).map.held t).all (fun k => s.slotTrib (s.txOf e).map k != some t))) then
    s.modSk e (fun k => { k with plan := none })
  else s

/-- Plan the step down an engine wants, on maps in which earlier plans and the shares that wait are booked (R235, R259). -/
def State.planDown (s : State) (maps hold : SMap Slots) (elig : List Nat) (e : Nat) : State × SMap Slots :=
  if (s.skOf e).want < 0 && (s.skOf e).plan.isNone then
    if !rateOk (s.prof e) ((s.txOf e).map.rate - 1) then (s.modSk e (fun k => { k with want := 0 }), maps)
    else
      let p := s.planStep maps hold e elig s.moving
      if p.blocked then
        (((s.modSk e (fun k => { k with want := 0 })).abandonSkew p.skew).raiseReg .PLACE_EV_step_blocked 0 { obj := e }, maps)
      else
        let s := (s.modSk e (fun k => { k with plan := some p })).abandonSkew p.skew
        (p.moved.foldl (fun t k => t.placeShow k 2 0) s, s.planBook maps e p)
  else (s, maps)

/-- The tributary holds slots for want of a removal: it has left, or was displaced or shed (R241, R259, R261). -/
def State.isGone (s : State) (m : Slots) (k : Nat) : Bool :=
  match s.slotTrib m k with
  | none => true
  | some t => (s.tribOf t).unpl

/-- Slots of tributaries that have left are removed, and those of a tributary that has shrunk (R238, R261). -/
def State.removeGone (s : State) (maps : SMap Slots) : SMap Slots :=
  let maps := maps.map (fun (e, m) => (e, { m with tab := m.tab.filter (fun kv => !s.isGone m kv.1) }))
  (s.activeTribs.filter (fun t => !s.moving.contains t && decide (s.slotsReq t < heldIn maps t))).foldl (fun x t =>
    shrinkOne t (heldIn x t - s.slotsReq t) (engsIn x t).reverse x) maps

/-- Refuse a demand (R240). -/
def State.refuseDemand (s : State) (t cause : Nat) : State :=
  (s.placeShow t 3 cause).raiseReg .PLACE_EV_refused 0 { obj := t, arg := some cause }

/-- A tributary is placed by the policy as it stands now (R235, R236). -/
def State.takePolicy (s : State) (t : Nat) : State :=
  let p := s.polNow t
  let s := if polGrpEn p then s.modGrp (polGrp p) (fun y => { y with gf := 0, share := [], mem := [] }) else s
  s.modTrib t (fun x => { x with pol := p, unpl := false, grp := if polGrpEn p then some (polGrp p) else none })

/-- Slots that a set of maps gives a tributary beyond those of another. -/
def newSlots (old new : SMap Slots) (t : Nat) : List (Nat × List Nat) :=
  (new.map (fun (e, m) => (e, (m.held t).filter (fun k => !((SMap.get {} old e).held t).contains k)))).filter
    (fun x => !x.2.isEmpty)

/-- What a pass builds: the maps as they will be when all that is decided has been carried out, and those that the free
engines are to take now. -/
structure PassMaps where
  will : SMap Slots := []
  now : SMap Slots := []
  wait : List Nat := []

/-- The shares of a demand that engines cannot take now are booked for their next maps (R261). -/
def State.bookShares (s : State) (t : Nat) (l : List (Nat × List Nat)) : State :=
  l.foldl (fun u (e, ks) => u.modSk e (fun k => { k with book := k.book ++ ks.map (fun q => (q, t)) })) s

/-- The booked slots of an engine that its map in force does not hold yet. -/
def State.booked (s : State) (e : Nat) : List (Nat × Nat) :=
  (s.skOf e).book.filter (fun x => s.tribOn x.2 && !(s.tribOf x.2).unpl && s.slotTrib (s.txOf e).map x.1 != some x.2)

/-- Booked slots take their places in a map, and where another tributary has one, the lowest free slot (R239, R261): the map, and where they
stand in it. -/
def State.bookFit (s : State) (m : Slots) : List (Nat × Nat) → Slots × List (Nat × Nat)
  | [] => (m, [])
  | (q, t) :: l =>
    let e := SMap.get {} m.tab q
    let place := if e.on && e.trib != t || decide (activeSlots m.rate ≤ q) then m.free.headD q else q
    let room := !(SMap.get {} m.tab place).on && decide (place < activeSlots m.rate)
    let r := s.bookFit (if room then m.give t (s.tribGen t) [place] else m) l
    (r.1, (place, t) :: r.2)

/-- A map with the booked slots of its engine. -/
def State.withBook (s : State) (e : Nat) (m : Slots) : Slots := (s.bookFit m (s.booked e)).1

/-- The booked shares of an engine stand where the map that is to bring them has them. -/
def State.rebook (s : State) (e : Nat) (m : Slots) : State :=
  let was := (s.txOf e).map
  s.modSk e (fun k => { k with book := (k.book.map (·.2)).dedup.flatMap (fun t =>
    (((m.held t).filter (fun q => !(was.held t).contains q)).take (k.book.countP (fun x => x.2 == t))).map (fun q => (q, t))) })

/-- Slots of an engine are free in the map that it is to take now. -/
def freeNow (now : SMap Slots) (e : Nat) (ks : List Nat) : Bool :=
  let m := SMap.get {} now e
  ks.all (fun k => decide (k < activeSlots m.rate) && !(SMap.get {} m.tab k).on)

/-- Place or grow one demand that is due. Engines whose next map can be made now take their share of it; what others are to take of a
group is booked for them, and a demand of which no engine can take a share now holds its slots in this pass and is placed in a later one
(R239, R249, R261). -/
def State.placeDue (s : State) (elig free : List Nat) (x : PassMaps) (t : Nat) : State × PassMaps :=
  let first := heldIn x.will t == 0
  let (c, new) := if first then s.placeOne elig x.wait x.will t else s.growOne elig x.will t
  if c != 0 then
    (if first then s.refuseDemand t c
     else (s.placeShow t 1 c).raiseReg .PLACE_EV_refused 0 { obj := t, arg := some c }, x)
  else
    let l := newSlots x.will new t
    let s := s.placeShow t (if first then 0 else 1) 0
    let can := fun (y : Nat × List Nat) => free.contains y.1 && freeNow x.now y.1 y.2
    let mine := l.filter can
    if !mine.isEmpty || l.isEmpty then
      let now := mine.foldl (fun m (e, ks) => SMap.set {} m e ((SMap.get {} m e).give t (s.tribGen t) ks)) x.now
      let s := if first then s.takePolicy t else s
      (s.bookShares t (l.filter (fun y => !can y)), { x with will := new, now := now })
    else (s, { x with will := new, wait := x.wait ++ [t] })

/-- Place every demand that is due, in order: demands not placed, and the growth of placed ones (R238, R239, R241). One that
still holds slots that are to be removed waits for their removal. -/
def State.placeDemands (s : State) (elig free : List Nat) (x : PassMaps) : State × PassMaps :=
  let due := (s.activeTribs.filter (fun t => (s.tribOf t).oz.isNone && decide (heldIn x.will t < s.slotsReq t)
    && (!(s.tribOf t).unpl || heldIn x.now t == 0)
    && (s.mode.retry || s.rd .PLACE_TRIB_STATUS_cause t == 0))).mergeSort (fun a b => s.before a b)
  let s := { s with mode := { s.mode with retry := false } }
  due.foldl (fun (acc : State × PassMaps) t => acc.1.placeDue elig free acc.2 t) (s, x)

/-- One pass: what each idle engine's next map is to be, with the work it does (R249, R261). A break goes alone: an engine that other
moves add to takes their make slots first, with every other change pending for it, in a map without its own step. An engine whose first
work is a resynchronisation takes no map here (05_line_framing.md R175). -/
def State.placePass (s : State) : State × List (Nat × Slots × Nat) :=
  let serving := s.skEngs
  let idle := serving.filter (fun e => s.swState e == 0 && !s.pinned e && !(s.skOf e).resync)
  let elig := serving.filter (fun e => !s.pinned e)
  let base : SMap Slots := serving.foldl (fun x e => SMap.set {} x e
    (if s.swState e == 0 || s.swState e == 3 then (s.txOf e).map else ((s.skOf e).man.getD (s.txOf e).map))) []
  let s := serving.foldl (fun t e => t.planTidy e) s
  let s := serving.foldl (fun t e => t.modSk e (fun k =>
    { k with book := (t.bookFit (t.withMakes serving e (SMap.get {} base e)) (t.booked e)).2 })) s
  let hold := base.map (fun (e, m) => (e, s.withBook e (s.withMakes serving e m)))
  let maps := hold.map (fun (e, m) => (e, match (s.skOf e).plan with | some p => stepMap p m | none => m))
  let (s, maps) := idle.foldl (fun (acc : State × SMap Slots) e => acc.1.planDown acc.2 hold elig e) (s, maps)
  let makes := fun e => s.makesOn serving e
  let steps := idle.filter (fun e => match (s.skOf e).plan with | some p => (s.makesLeft p).isEmpty | none => false)
  let alone := steps.filter (fun e => (makes e).isEmpty && (match (s.skOf e).plan with | some p => !p.moved.isEmpty | none => false))
  let takes := idle.filter (fun e => (s.skOf e).plan.isSome && !(makes e).isEmpty)
  let free := idle.filter (fun e => !alone.contains e && !takes.contains e && ((s.skOf e).plan.isNone || steps.contains e))
  let will := s.removeGone maps
  let rest := s.removeGone (hold.map (fun (e, m) => (e, s.withMakes serving e m)))
  let now := base.map (fun (e, m) =>
    (e, if free.contains e then SMap.get {} will e
        else if takes.contains e then SMap.get {} rest e
        else if alone.contains e then (match (s.skOf e).plan with | some p => stepMap p m | none => m)
        else m))
  let (s, x) := s.placeDemands elig (free ++ takes) { will := will, now := now }
  let s := (free.filter (fun e => steps.contains e)).foldl (fun t e => t.rebook e (SMap.get {} x.now e)) s
  let target := fun e => SMap.get {} x.now e
  let same := fun e => (target e).rate == (s.txOf e).map.rate && (target e).tab == (s.txOf e).map.tab
  (s, idle.filterMap (fun e =>
    if !same e then some (e, target e, b2n (steps.contains e && !takes.contains e))
    else if (s.skOf e).want == 1 && (s.skOf e).plan.isNone && free.contains e && rateOk (s.prof e) ((target e).rate + 1) then
      some (e, { target e with rate := (target e).rate + 1 }, 2)
    else none))

/-- Take the pending work: run the pass and start every switch it asks for (R249, R261). The SHADOW computes the same from the mirrored
inputs: a pass that asks for no switch leaves it what it leaves the ACTIVE, one that asks for some is compared with the maps that come
(R263). -/
def State.swKick (s : State) : State :=
  if !s.skActs || s.frozen then s
  else
    let (t, l) := s.placePass
    if s.modeNow == 5 then (if l.isEmpty then t else s)
    else l.foldl (fun u (e, m, w) => u.swStartMap e m w) t

/-- The first work of an engine whose level sent is back at 3 is a resynchronisation (05_line_framing.md R175). -/
def State.resyncDue (s : State) (n : Nat) : State :=
  if (s.skOf n).resync && s.swState n == 0 && !s.pinned n && s.modeNow == 2 then
    (s.modSk n (fun k => { k with resync := false })).resync n
  else s

/-! ### Readings (R255 to R260) -/

/-- Gain in snr_req of one more 100 Gb/s on an engine, 0.01 dB; none where the rate is the highest (R257). -/
def State.stepGain (s : State) (n : Nat) : Option Int :=
  let r := (s.txOf n).map.rate
  if !rateOk (s.prof n) (r + 1) then none
  else match snrReq (s.prof n) (r + 1) (s.rd .CAL_ENG_STATUS_pilot_tx n != 0), snrReq (s.prof n) r (s.rd .CAL_ENG_STATUS_pilot_tx n != 0) with
    | some a, some b => some (a - b)
    | _, _ => none

/-- A reading of the far end moves the dwell counts (R255 to R257). -/
def State.dwells (s : State) (n rseq margin win : Nat) : State :=
  let fv := win.testBit 31
  let valid := fv && margin.testBit 31
  let snr := ofTwos 16 margin
  let gmi := ofTwos 15 (margin / 65536)
  let dn : Int := 5 * s.rd .PLACE_STEP_THR_dn_thr
  let up := max (5 * (s.rd .PLACE_STEP_THR_up_thr : Int)) (dn + 50)
  let guard := fv && (decide (win % 65536 < s.rd .PLACE_GUARD_ber_guard)
    || decide (s.rd .PLACE_GUARD_iter_guard < fieldOf win 16 11))
  let ups := valid && (match s.stepGain n with | some g => decide (up ≤ snr - g) | none => false)
  s.modSk n (fun k =>
    let jump := match k.rseq with | some q => (rseq + 256 - q) % 256 != 1 | none => false
    let from0 := fun (c : Nat) (b : Bool) => if b then (if jump then 0 else c) + 1 else 0
    { k with rseq := some rseq, hold := k.hold + 1, snrDwell := from0 k.snrDwell (valid && decide (snr < dn)),
             gmiDwell := from0 k.gmiDwell (valid && decide (gmi < 0)), decDwell := from0 k.decDwell guard,
             upDwell := from0 k.upDwell ups })

/-- Decide a rate step on the dwell counts (R256, R257, R260). Before the first step the readings count from the entry into service (DESIGN CHOICE, log entry 219). -/
def State.stepDecide (s : State) (n : Nat) (rise : Bool) : State :=
  let k := s.skOf n
  let dwell := max 1 (s.rd .PLACE_STEP_THR_dn_dwell)
  let down := rise || decide (dwell ≤ k.snrDwell) || decide (dwell ≤ k.gmiDwell) || decide (3 ≤ k.decDwell)
  let s := if down then s else s.modSk n (fun k => { k with floored := false })
  let busy := (s.swState n != 0 && (k.work == 1 || k.work == 2)) || k.plan.isSome
  if !s.on .PLACE_CTRL_step_en || busy then s
  else if down then
    if (s.txOf n).map.rate ≤ (rateRange (s.prof n)).1 then
      if k.floored then s
      else (s.modSk n (fun k => { k with floored := true })).raiseReg .PLACE_EV_floor 0 { obj := n }
    else s.modSk n (fun k => { k with want := -1 })
  else if k.want == 0 && decide (max 1 (s.rd .PLACE_STEP_TIME_up_dwell) ≤ k.upDwell)
      && decide (100 * s.rd .PLACE_STEP_TIME_hold ≤ k.hold) && rateOk (s.prof n) ((s.txOf n).map.rate + 1) then
    s.modSk n (fun k => { k with want := 1 })
  else s

/-- The DWELL record of an engine (08_pair_protection.md R305). -/
def State.dwellRec (s : State) (n : Nat) : List Byte :=
  let k := s.skOf n
  changeRec 7 (beBytes 1 n ++ [k.snrDwell, k.gmiDwell, k.decDwell, k.upDwell, k.hold].flatMap (beBytes 4))

/-- Take the reading of a valid block, once for each change of RSEQ (R255). -/
def State.reading (s : State) (n : Nat) (b : List Byte) : State :=
  let rxf := byteAt b 3
  let rise := rxf.testBit 0 && !(s.skOf n).rxf.testBit 0
  let rseq := byteAt b 19
  let fresh := (s.skOf n).rseq != some rseq
  let s := s.modSk n (fun k => { k with rxf := rxf })
  let s := if fresh then
      let t := s.dwells n rseq (fromBE (slice b 4 4)) (fromBE (slice b 8 4))
      t.mirror n 0 (t.dwellRec n)
    else s
  if fresh || rise then s.stepDecide n rise else s

end Sys2Proof.Machine
end

