-- ==== Sys2Proof/Machine/Client.lean ====
section
/-! DEFINITION. Meanings of the events of the clients, the mapper, the demapper and the groups
(06_tributary_mapping.md R203 to R227; 01_architecture.md R19). -/
namespace Sys2Proof.Machine

/-! ### Blocks (R204) -/

/-- CRC-8, x^8 + x^2 + x + 1, initial value 0. -/
def crc8 (bs : List Bool) : Nat := crcBits 8 0x07 0 bs

/-- The 3 bytes of a block header as sent on the wire. -/
def blkHeader (typ : Nat) (err : Bool) (lenM1 : Nat) : List Byte :=
  let h := typ * 0x4000 + b2n err * 0x2000 + lenM1 % 4096
  beBytes 3 ((h * 256 + crc8 (bitsHigh 16 h)) ^^^ 0xB6AB31)

/-- A header read from the wire, none where its CRC fails: type, err, payload length. -/
def readHeader (b : List Byte) : Option (Nat × Bool × Nat) :=
  let v := fromBE b ^^^ 0xB6AB31
  let h := v / 256
  if b.length == 3 && crc8 (bitsHigh 16 h) == v % 256 then
    let typ := h / 0x4000
    some (typ, h.testBit 13, if typ == 0 then 0 else h % 4096 + 1)
  else none

/-- An OSET block. -/
def osetBlock (os : Nat) : List Byte := blkHeader 3 false 3 ++ beBytes 4 os

/-- The blocks of a frame: CONT segments of 4,096 bytes and one LAST segment (R205). -/
def frameBlocks (f : List Byte) (err : Bool) : List Byte :=
  let k := (f.length - 1) / 4096
  (upTo k).flatMap (fun i => blkHeader 1 false 4095 ++ slice f (4096 * i) 4096)
    ++ blkHeader 2 err (f.length - 4096 * k - 1) ++ f.drop (4096 * k)

/-! ### Ingress (R203 to R209) -/

/-- Bytes in the ingress FIFO of a port, which the clients of a FlexE group share: what its tributaries have not sent yet (R209; log
entry 209). -/
def State.ingress (s : State) (p : Nat) : Nat :=
  ((s.activeTribs.filter (fun t => s.srcPort t == p)).map (fun t => (s.tribOf t).q.length)).sum

/-- Append blocks to what a tributary has ready to send. -/
def State.queueBlocks (s : State) (t : Nat) (b : List Byte) : State := s.modTrib t (fun x => { x with q := x.q ++ b })

/-- A mark left by a crossing slip is used up: whether it stood, and the state without it (01_architecture.md R20). -/
def State.portSlip (s : State) (p : Nat) : Bool × State := ((s.portOf p).slip, s.modPort p (fun x => { x with slip := false }))

/-- A mark on the receive slot stream of a tributary is used up (01_architecture.md R20). -/
def State.tribSlip (s : State) (t : Nat) : Bool × State := ((s.tribOf t).slip, s.modTrib t (fun x => { x with slip := false }))

/-- The lanes that the slots of a bridge entry are striped over: the admitted entries take the lanes that are up in ascending
order, 40 slots on each (08_pair_protection.md R273, R291). -/
def State.copyLanes (s : State) (k : Nat) : List Nat :=
  let req := fun (j : Nat) => if s.on .PAIR_BRIDGE_admitted j then s.slotsReq (s.rd .PAIR_BRIDGE_trib j) else 0
  let off := ((upTo k).map req).sum
  ((upTo (req k)).filterMap (fun i => s.lanesUp[(off + i) / 40]?)).dedup

/-- In SHADOW a copy of the container of a listed tributary goes to the ACTIVE for each entry admitted with a tap, CLIENT as the
own mapper produces it or LINE as it is after deskew, with the signal-fail flag of the own source and the mark of a slip on
X07 (08_pair_protection.md R291, R292). -/
def State.sendCopies (s : State) (t : Nat) (line : Bool) (bytes : List Byte) : State :=
  if s.modeNow != 5 then s
  else (upTo 32).foldl (fun u k =>
    if u.on .PAIR_BRIDGE_admitted k && u.rd .PAIR_BRIDGE_trib k == t && u.on .PAIR_BRIDGE_tap k == line then
      let sf := if line then u.on .FAB_TRIB_STATUS_sf t else (u.portOf (u.srcPort t)).txLf
      { u.emit (.copy k (u.copyLanes k) bytes sf u.pair.slip) with pair := { u.pair with slip := false } }
    else u) s

/-- The mark of a slip on the stream to the client of a tributary is used up (01_architecture.md R20). -/
def State.sendErr (s : State) (t : Nat) : Bool × State := ((s.tribOf t).err, s.modTrib t (fun x => { x with err := false }))

/-- The tributary is in service on the Ethernet adaptation (R195). -/
def State.ethTrib (s : State) (t : Nat) : Bool := s.tribOn t && !s.isGmp t && (s.tribOf t).oz.isNone

/-- Something waits for the mapping of an interoperable profile (R217): an ordered set, or a frame of a length that may be errored. -/
def State.queueOz (s : State) (t : Nat) (x : Option Nat × Nat × Bool) : State := s.modTrib t (fun y => { y with ozSeq := y.ozSeq ++ [x] })

/-- ETH_INGRESS_FRAME (R203, R205, R207, R209). On an interoperable profile the frame waits as it is for the mapping of
that profile's specification, which takes the place of the blocks, with the error of the PCS or of a slip (R217). -/
def execEthIngressFrame (t : TribId) (frame : List Byte) (pcsErr : Bool) (s : State) : Host.Outcome State Fault Refusal :=
  ok (if !s.tribOn t || s.isGmp t || frame.isEmpty || (s.portOf (s.srcPort t)).txLf then s
    else
      let p := s.srcPort t
      let (slip, s) := s.portSlip p
      if (s.tribOf t).oz.isSome then (s.queueBlocks t frame).queueOz t (none, frame.length, pcsErr || slip)
      else if 32768 ≤ s.ingress p then s.raiseCount (.reg .FAB_EV_frame_drop 0) { obj := p } (cPort p 0)
      else
        let long := decide (16383 < frame.length)
        let s := if long then s.raiseCount (.reg .FAB_EV_eth_oversize 0) { obj := p } (cPort p 2) else s
        s.queueBlocks t (frameBlocks (frame.take 16383) (pcsErr || long || slip)))

/-- The ordered-set content toward the line changes (R206). -/
def State.setOset (s : State) (t : Nat) (os : Option Nat) : State :=
  let s := s.modTrib t (fun x => { x with oset := os })
  match os with
  | some v => if (s.tribOf t).oz.isSome then s.queueOz t (some v, 0, false) else s.queueBlocks t (osetBlock v)
  | none => s

/-- ETH_OSET_CHANGE: the port received other ordered sets; its LF and RF are shown (R206, R232), and on an interoperable profile they go
to its mapping (R217). -/
def execEthOsetChange (t : TribId) (os : Option Nat) (s : State) : Host.Outcome State Fault Refusal :=
  ok (if !s.tribOn t || s.isGmp t || (s.portOf (s.srcPort t)).txLf then s
    else
      let p := s.srcPort t
      (s.wrs [(.CLI_PORT_STATUS_rx_lf, p, b2n (os == some 1)), (.CLI_PORT_STATUS_rx_rf, p, b2n (os == some 2))]).setOset t
        (os.map (· % 2 ^ 32)))

/-- OSET_REPEAT: the OSET is repeated while the condition lasts (R206). -/
def execOsetRepeat (t : TribId) (s : State) : Host.Outcome State Fault Refusal :=
  ok (match (s.tribOf t).oset with
    | some v => if s.ethTrib t then s.queueBlocks t (osetBlock v) else s
    | none => s)

/-! ### Client receive (R230, R232) -/

/-- Ports of the FlexE group of a port, or the port alone (R215). -/
def State.groupPorts (s : State) (p : Nat) : List Nat :=
  if s.typeOf p == 6 then
    (upTo s.ports).filter (fun q => s.typeOf q == 6 && (s.portOf q).cfg.head == (s.portOf p).cfg.head)
  else [p]

/-- Local fault or ODU-AIS starts or stops toward the line for every tributary of a port or of its group. -/
def State.lineFault (s : State) (p : Nat) (v : Bool) : State :=
  let l := s.groupPorts p
  let s := l.foldl (fun t q => t.modPort q (fun x => { x with txLf := v })) s
  (s.activeTribs.filter (fun t => l.contains (s.srcPort t))).foldl (fun u t =>
    if u.isGmp t || (u.tribOf t).oz.isSome then u else u.setOset t (if v then some lfOset else none)) s

/-- The FlexE group of a port is locked no more: every port of it shows that (R232). -/
def State.fxLost (s : State) (p : Nat) : State := (p :: s.groupPorts p).foldl (fun t q => t.wr .CLI_PORT_STATUS_fx_ok q 0) s

/-- CLIENT_RX_FAULT (R230). -/
def execClientRxFault (p : PortId) (why : ClientObs) (s : State) : Host.Outcome State Fault Refusal :=
  ok (if s.typeOf p == 0 || !s.hasPort p then s
    else
      let s := match why with
        | .sig => (s.wrs [(.CLI_PORT_STATUS_rx_sig, p.val, 0), (.CLI_PORT_STATUS_rx_lock, p.val, 0)]).fxLost p
        | .lock => (s.wr .CLI_PORT_STATUS_rx_lock p 0).fxLost p
        | .hiber => s.wr .CLI_PORT_STATUS_rx_hiber p 1
        | .group => s.fxLost p
      s.lineFault p true)

/-- Ports of the group whose receive is good. -/
def State.portGood (s : State) (p : Nat) : Bool :=
  s.on .CLI_PORT_STATUS_rx_sig p && s.on .CLI_PORT_STATUS_rx_lock p && !s.on .CLI_PORT_STATUS_rx_hiber p

/-- CLIENT_RX_RECOVER: the port regains signal and lock, or its frame (R230); a FlexE group stays at fault until each of
its ports has. -/
def execClientRxRecover (p : PortId) (s : State) : Host.Outcome State Fault Refusal :=
  ok (if s.typeOf p == 0 || !s.hasPort p then s
    else
      let s := s.wrs [(.CLI_PORT_STATUS_rx_sig, p, 1), (.CLI_PORT_STATUS_rx_lock, p, 1), (.CLI_PORT_STATUS_rx_hiber, p, 0),
        (.CLI_PORT_STATUS_rx_lf, p, 0), (.CLI_PORT_STATUS_rx_rf, p, 0)]
      let l := s.groupPorts p
      if l.all (fun q => s.portGood q) then
        let s := if s.typeOf p == 6 then l.foldl (fun t q => t.wr .CLI_PORT_STATUS_fx_ok q 1) s else s
        s.lineFault p false
      else s)

/-! ### The demapper (R210, R211, R214) -/

/-- A segment of a frame arrives at egress (R211). -/
def State.segment (s : State) (t : Nat) (b : BlkObs) (len : Nat) (last err : Bool) : State :=
  let x := s.tribOf t
  let start := x.frm.isEmpty && !x.drop
  let s := s.modTrib t (fun x => { x with rxOset := none })
  let s := if start && b.full then
      (s.modTrib t (fun x => { x with drop := true })).raiseCount (.reg .FAB_EV_frame_drop 0) { obj := s.srcPort t }
        (cPort (s.srcPort t) 1)
    else s
  let s := s.modTrib t (fun x => if x.drop then x
    else { x with frm := x.frm ++ b.pay.take len, err := x.err || b.payMark })
  if last then s.endFrame t err else s

/-- A block whose header passed, in SYNC (R204, R210, R211). -/
def State.dlmBlock (s : State) (t : Nat) (b : BlkObs) (typ : Nat) (err : Bool) (len : Nat) : State :=
  if typ == 0 then s
  else if typ == 3 then
    let v := fromBE (b.pay.take 4)
    let new := (s.tribOf t).rxOset != some v
    let s := s.modTrib t (fun x => { x with rxOset := some v })
    if new then s.toClient t (.oset t v) else s
  else s.segment t b len (typ == 2) err

/-- The bytes of a tributary reach the demapper as 0x00 with the uncorrectable mark, on an engine that carries it with cipher ON:
it has no enabled binding, or its message has no key, clashes in END or has no SC (10_cipher.md R348, R356, R358, R359). -/
def State.keyMark (s : State) (n t : Nat) : Bool :=
  s.ciphering n && match s.lockerOf t with
    | none => true
    | some l => (s.rxOf n).msgs.any (fun m => m.locker == l && m.kind != 0)

/-- The mark of a slip on a tributary's words; of a peer's copy, that of a slip on X07 too. -/
def State.wordMark (s : State) (t : Nat) : Bool × State :=
  let (slip, u) := s.tribSlip t
  if s.lineCopy t then (slip || s.pair.slip, u.modPair (fun p => { p with slip := false })) else (slip, u)

/-- What the stages before mark of words that a command brings, on any engine that carries the tributary: the mark of the cipher, or of a
slip. -/
def State.upMark (s : State) (t : Nat) : Bool × State :=
  let (slip, u) := s.wordMark t
  (slip || (!s.lineCopy t && (s.carryEngs t).any (fun n => s.keyMark n t)), u)

/-- The demapper examines a header: HUNT, PRESYNC and SYNC (R210). -/
def State.dlmHeader (s : State) (t : Nat) (b : BlkObs) : State :=
  match (s.tribOf t).dlm, readHeader b.hdr with
  | .hunt, some _ => s.modTrib t (fun x => { x with dlm := .presync })
  | .hunt, none => s
  | .presync, some (typ, err, len) =>
    ((s.modTrib t (fun x => { x with dlm := .sync })).wr .FAB_TRIB_STATUS_adapt_ok t 1).dlmBlock t b typ err len
  | .presync, none => s.modTrib t (fun x => { x with dlm := .hunt })
  | .sync, some (typ, err, len) =>
    if b.mark then (s.dlmHunt t).count (cPort (s.srcPort t) 3) else s.dlmBlock t b typ err len
  | .sync, none => (s.dlmHunt t).count (cPort (s.srcPort t) 3)

/-- The block that starts at byte `i` of the container bytes held, and its length; none while they do not hold all of it. -/
def queuedBlock (q : List (Byte × Bool)) (i : Nat) : Option (BlkObs × Nat) :=
  let h := (q.drop i).take 3
  let len := match readHeader (h.map (·.1)) with | some (_, _, l) => l | none => 0
  let p := (q.drop (i + 3)).take len
  if h.length + p.length < 3 + len then none
  else some ({ hdr := h.map (·.1), mark := h.any (·.2), pay := p.map (·.1), payMark := p.any (·.2) }, 3 + len)

/-- The header that the demapper examines next in the container bytes held, the bytes used up where it passes, and where it fails: in
HUNT a header that passes keeps its place, as PRESYNC resumes 1 byte after it (R210). -/
def nextBlock (d : DlmState) (q : List (Byte × Bool)) : Option (BlkObs × Nat × Nat) :=
  match d with
  | .hunt => if q.length < 3 then none else some ({ hdr := (q.take 3).map (·.1) }, 0, 1)
  | .presync => (queuedBlock q 0).bind (fun x => (queuedBlock q x.2).map (fun y => (y.1, x.2 + y.2, 1)))
  | .sync => (queuedBlock q 0).map (fun x => (x.1, x.2, 1))

/-- The demapper takes its next header from the container bytes held, with the marks that they brought; `full` is what the egress FIFO can take (R211). -/
def State.dlmQueued (s : State) (t : Nat) (full : Bool) : State :=
  match nextBlock (s.tribOf t).dlm (s.tribOf t).rxQ with
  | none => s
  | some (b, good, bad) =>
    let (slip, s) := s.wordMark t
    let b := { b with mark := b.mark || slip, payMark := b.payMark || slip, full := full }
    let used := if (readHeader b.hdr).isSome && !((s.tribOf t).dlm == .sync && b.mark) then good else bad
    let s := s.sendCopies t true (((s.tribOf t).rxQ.take used).map (·.1))
    (s.modTrib t (fun x => { x with rxQ := x.rxQ.drop used })).dlmHeader t b

/-- DLM_BLOCK_HEADER (R210, R211): the uncorrectable mark acts on a header in SYNC alone. In signal fail the demapper has no
blocks, but where it runs on the peer's copy (08_pair_protection.md R292). A block that the command does not bring is taken from the
container bytes received (01_architecture.md R14; log entry 81). -/
def execDlmBlockHeader (t : TribId) (b : BlkObs) (s : State) : Host.Outcome State Fault Refusal :=
  ok (if s.ethTrib t && b.hdr.isEmpty then
      (if s.on .FAB_TRIB_STATUS_sf t && !s.lineCopy t then s else s.dlmQueued t b.full)
    else
      let s := if s.ethTrib t then s.sendCopies t true (b.hdr ++ b.pay) else s
      if !s.ethTrib t || (s.on .FAB_TRIB_STATUS_sf t && !s.lineCopy t) then s
      else
        let (slip, s) := s.upMark t
        let s := s.modTrib t (fun x => { x with rxQ := x.rxQ.drop (b.hdr.length + b.pay.length) })
        s.dlmHeader t { b with mark := b.mark || slip, payMark := b.payMark || slip })

/-- EGRESS_OSET_TIMEOUT: 2 µs without a repeat (R211). -/
def execEgressOsetTimeout (t : TribId) (s : State) : Host.Outcome State Fault Refusal :=
  ok (s.modTrib t (fun x => { x with rxOset := none }))

/-- The CLTX divider of the port follows cm and cnd within ±130 ppm (R214; 09_timing.md R331): `bits` more client bits belong to one more
container frame, and the rate that all of them make is taken over the nominal rate, in ppb, held to the range. How fast it
follows is not stated (log entry 195). -/
def State.oduFollow (s : State) (t bits : Nat) : State :=
  let s := s.modTrib t (fun x => { x with gmpSum := x.gmpSum + bits, gmpCnt := x.gmpCnt + 1 })
  let x := s.tribOf t
  let nom : Int := (x.gmpCnt * (s.gmpRate t) * 576 : Nat)
  let got : Int := (x.gmpSum * 10000000 : Nat)
  s.modPort (s.srcPort t) (fun y => { y with ratio := clampInt (-130000) 130000 ((got - nom) * 1000000000 / nom) }) |>.clkRefresh

/-- A GMP word that fails (R214). -/
def State.gmpWordBad (s : State) (t : Nat) : State :=
  let s := s.oduFollow t (8 * (s.tribOf t).cmRx)
  let s := (s.modTrib t (fun x => { x with gmpGood := 0, gmpBad := min 5 (x.gmpBad + 1) })).count (cPort (s.srcPort t) 4)
  if (s.tribOf t).gmpBad == 5 && !(s.tribOf t).gmpLoss then
    (((s.modTrib t (fun x => { x with gmpLoss := true, gmpSum := 0, gmpCnt := 0 })).raiseReg .FAB_EV_gmp_loss 0 { obj := t }).wr .FAB_TRIB_STATUS_adapt_ok t 0).tribRefresh t
  else s

/-- A good GMP word (R212, R214): the client bits of the frame it announces are its bytes and what its phase has grown by. -/
def State.gmpWordGood (s : State) (t word : Nat) : State :=
  let was := (s.tribOf t).cndRx
  let s := s.modTrib t (fun x => { x with cmRx := word / 2 ^ 17, cndRx := fieldOf word 14 3, gmpBad := 0,
                                          gmpGood := min 3 (x.gmpGood + 1) })
  let s := s.oduFollow t (8 * (s.tribOf t).cmRx + (s.tribOf t).cndRx - was)
  if !(s.tribOf t).gmpLoss || (s.tribOf t).gmpGood == 3 then
    ((s.modTrib t (fun x => { x with gmpLoss := false })).wr .FAB_TRIB_STATUS_adapt_ok t 1).tribRefresh t
  else s

/-- The client bytes in the P bytes after a GMP word: those with (j × cm) mod P < cm (R213). -/
def gmpTake (cm : Nat) (p : List Byte) : List Byte :=
  (p.zipIdx.filter (fun x => decide ((x.2 + 1) * cm % p.length < cm))).map (·.1)

/-- The container frame whose GMP word comes: its bytes, as far as they are held, are copied for the pair and demapped with the cm of
the word before, and in place of a failed one the peer's copy is, whose bytes are free values as far as they have not arrived (R212 to R214;
08_pair_protection.md R291, R292; log entry 49). -/
def State.gmpFrame (s : State) (t w : Nat) : State :=
  let x := s.tribOf t
  let frame := (x.rxQ.take (x.rxLen.headD 0)).map (·.1)
  let s := s.modTrib t (fun x => { x with rxQ := x.rxQ.drop (x.rxLen.headD 0), rxLen := x.rxLen.drop 1 })
  let s := s.sendCopies t true (if frame.isEmpty then beBytes 4 w else frame)
  if s.lineCopy t && frame.isEmpty then
    { s.toClient t (.odu t ((upTo x.cmRx).map (fun i => Config.freeByte (s.free + i)))) with free := s.free + x.cmRx }
  else if frame.isEmpty || (s.on .FAB_TRIB_STATUS_sf t && !s.lineCopy t) then s
  else
    let data := gmpTake x.cmRx (frame.drop 4)
    let (err, s) := s.sendErr t
    if err then
      { s.toClient t (.odu t ((upTo data.length).map (fun i => Config.freeByte (s.free + i)))) with free := s.free + data.length }
    else s.toClient t (.odu t data)

/-- GMP_WORD_RX (R212, R214), with the container frame that the word opens. -/
def execGmpWordRx (t : TribId) (word : Nat) (mark : Bool) (s : State) : Host.Outcome State Fault Refusal :=
  ok (if !s.tribOn t || !s.isGmp t then s
    else
      let w := word % 2 ^ 32
      let held := (s.tribOf t).rxQ.take (min 4 ((s.tribOf t).rxLen.headD 0))
      let s := s.gmpFrame t w
      let (slip, s) := if held.isEmpty then s.upMark t else s.wordMark t
      let slip := slip || held.any (·.2)
      if mark || slip || crc8 (bitsHigh 24 (w / 256)) != w % 256 then s.gmpWordBad t else s.gmpWordGood t w)

/-! ### FlexE calendars (R216; 07 R238) -/

/-- A client rate that the device supports, in Gb/s (R215). -/
def fxRateOk (r : Nat) : Bool := r == 0 || r == 10 || r == 40 || r % 25 == 0

/-- The tributary bound to a client of a FlexE group (R216). -/
def State.fxTrib (s : State) (head id : Nat) : Option Nat :=
  s.activeTribs.find? (fun t => let c := (s.tribOf t).cfg; c.kind == 2 && c.port == head && c.fx == id)

/-- A client of a calendar with no tributary bound to it is sent Ethernet local fault at egress (R216). -/
def State.fxUnbound (s : State) (head id : Nat) : State :=
  if s.on .CLI_PORT_STATUS_tx_on head then s.emit (.fxOset head id lfOset) else s

/-- What a FlexE group sends in its overhead: the calendar in use, CR and CA, and the management channels, which are not
terminated, with their unused value (R215; log entry 194). -/
def State.fxSend (s : State) (head : Nat) (cr : Bool) : State :=
  if s.on .CLI_PORT_STATUS_tx_on head then
    s.emit (.fxOh head (s.portOf head).calB cr cr (Config.fxUnused.1.toNat, Config.fxUnused.2.toNat))
  else s

/-- Ports begin to transmit: clients already in signal fail are sent what R230 says, and a FlexE group sends its overhead and local
fault for the clients of its calendar that no tributary is bound to (R215, R216, R230). -/
def State.clientStart (s : State) (l : List Nat) : State :=
  let s := (s.activeTribs.filter (fun t => l.contains (s.srcPort t) && s.on .FAB_TRIB_STATUS_sf t && !s.lineCopy t)).foldl
    (fun u t => u.toClient t (if u.isGmp t then .oduAis t else .oset t lfOset)) s
  (l.filter (fun p => s.typeOf p == 6 && (s.portOf p).cfg.head == p)).foldl (fun u p =>
    ((u.portOf p).cal.filter (fun kv => kv.2 != 0 && (u.fxTrib p kv.1).isNone)).foldl (fun v kv => v.fxUnbound p kv.1) (u.fxSend p false)) s

/-- FLEXE_CALENDAR_SWITCH: CR and CA have agreed, and the group takes its other calendar, in which the clients named have
their new rates, in Gb/s (R197, R215, R216). -/
def execFlexeCalendarSwitch (head : PortId) (rates : List (Nat × Nat)) (s : State) : Host.Outcome State Fault Refusal :=
  let ok25 := rates.filter (fun x => fxRateOk x.2)
  let s := s.fxSend head true
  let s := s.modPort head (fun y => { y with calNext := y.cal, calB := !y.calB,
                                             cal := ok25.foldl (fun m x => SMap.set 0 m x.1 x.2) y.cal })
  let s := s.fxSend head false
  ok (ok25.foldl (fun u (id, r) =>
    match u.fxTrib head id with
    | none => if r == 0 then u else u.fxUnbound head id
    | some t =>
      let v := u.modTrib t (fun x => { x with fxRate := r })
      let v := v.wr .FAB_TRIB_STATUS_slots_req t (satNat 9 (r / 5))
      if u.slotsReq t == v.slotsReq t then v
      else ((v.demandNew t).mirror 0xFF 0 (placeIn 0xFF 3 (beBytes 2 t))).bridgeRefresh) s)

/-! ### Concatenated groups (R220 to R227) -/

/-- A tag that arrives on a member (R220, R222). -/
def tagStep (m : Member) (tag : Nat) (good join : Bool) : Member :=
  let num := tag / 256
  let next := (m.last.map (fun x => (x + 256) % 2 ^ 24))
  let first := m.last.isNone || join
  if !good then { m with last := next, good := 0, bad := min 2 (m.bad + 1), ok := m.ok && decide (m.bad + 1 < 2) }
  else if next == some num then
    { m with last := some num, good := min 2 (m.good + 1), bad := 0, ok := m.ok || join || decide (1 ≤ m.good) }
  else if first then { m with last := some num, good := 1, bad := 0, ok := m.ok || join }
  else { m with last := some num, good := 1, bad := min 2 (m.bad + 1), ok := join || (m.ok && decide (m.bad + 1 < 2)) }

/-- Take a changed member of a group; a loss of alignment is reported (R222). -/
def State.setMemberTag (s : State) (g n : Nat) (m : Member) : State :=
  let was := (SMap.get {} (s.grpOf g).mem n).ok
  let s := (s.modGrp g (fun x => { x with mem := SMap.set {} x.mem n m })).alignShow g
  let s := if was && !m.ok then s.raiseReg .FAB_EV_align_lost 0 { obj := g } else s
  match s.grpTrib g with
  | some t => s.tribRefresh t
  | none => s

/-- GROUP_TAG_RX (R220, R222). -/
def execGroupTagRx (g : GrpId) (n : Eng) (tag : Nat) (mark join : Bool) (s : State) : Host.Outcome State Fault Refusal :=
  ok (if !(s.grpMembers true g).contains n then s
    else
      let w := tag % 2 ^ 32
      let (slip, s) := match s.grpTrib g with
        | some t => let (slip, u) := s.tribSlip t; (slip || s.keyMark n t, u)
        | none => (false, s)
      let good := !mark && !slip && crc8 (bitsHigh 24 (w / 256)) == w % 256
      s.setMemberTag g n (tagStep (SMap.get {} (s.grpOf g).mem n) w good join))

/-- Bins of the pool that no other group holds, ascending. -/
def State.freeBins (s : State) (g : Nat) : List Nat :=
  (upTo 384).filter (fun b => let h := SMap.get 0 s.bins b; h == 0 || h == g + 1)

/-- Number of bits set in a member mask. -/
def bitCount (m : Nat) : Nat := (upTo 4).countP (fun n => m.testBit n)

/-- Result of a write of bins_req: alloc_err code (R223). -/
def State.binsErr (s : State) (g bins : Nat) : Nat :=
  if s.grpInMap g then 3
  else if bins != 0 && decide (bins < 2 * bitCount (s.rd .FAB_GRP_CTRL_member_mask g)) then 1
  else if (s.freeBins g).length < bins then 2
  else 0

/-- A write that changes bins_req of a group (R223, R224). -/
def State.binsWrite (s : State) (g bins : Nat) : State :=
  let s := s.wr .FAB_GRP_CTRL_bins_req g bins
  let e := s.binsErr g bins
  let s := s.wr .FAB_GRP_STATUS_alloc_err g e
  if e != 0 then s.raiseReg .FAB_EV_alloc_refused 0 { obj := g }
  else
    let was := s.rd .FAB_GRP_STATUS_bins_held g
    let take := (s.freeBins g).take bins
    let own := (upTo 384).filter (fun b => SMap.get 0 s.bins b == g + 1)
    let m := own.foldl (fun m b => SMap.set 0 m b 0) s.bins
    let m := take.foldl (fun m b => SMap.set 0 m b (g + 1)) m
    let s := { s with bins := m }
    let s := s.wrs [(.FAB_GRP_STATUS_bins_held, g, bins), (.FAB_POOL_STATUS_bins_free, 0, 384 - m.length)]
    if was != 0 && bins == 0 then s.wr .FAB_GRP_CTRL_grp_gen g (s.rd .FAB_GRP_CTRL_grp_gen g + 1) else s

/-- SKEW_MEASURE: the largest skew of the last 10 ms, in ns (R227). -/
def execSkewMeasure (g : GrpId) (skewNs : Nat) (s : State) : Host.Outcome State Fault Refusal :=
  ok (if s.rd .FAB_GRP_STATUS_bins_held g == 0 then s
    else
      let t := s.wr .FAB_GRP_STATUS_skew_meas g (satNat 16 ((skewNs + 5) / 10))
      t.modGrp g (fun x => { x with low := t.skewFits g (10 * t.rd .FAB_GRP_STATUS_skew_meas g) (t.grpSize true g) }))

/-- Declare or clear dSKEW (R227). -/
def State.setDskew (s : State) (g : Nat) (v : Bool) : State :=
  if s.on .FAB_GRP_STATUS_dskew g == v then s
  else
    let s := (s.wr .FAB_GRP_STATUS_dskew g (b2n v)).raiseReg .FAB_EV_skew_chg 0 { obj := g }
    match s.grpTrib g with
    | some t => s.tribRefresh t
    | none => s

/-- DSKEW_DECLARE: the group would hold `held` bytes (R227). -/
def execDskewDeclare (g : GrpId) (held : Nat) (s : State) : Host.Outcome State Fault Refusal :=
  ok (if s.grpRoom g (s.grpSize true g) < held && !(s.grpMembers true g).isEmpty then s.setDskew g true else s)

/-- DSKEW_CLEAR: skew_meas stayed low for 100 ms (R227). -/
def execDskewClear (g : GrpId) (s : State) : Host.Outcome State Fault Refusal :=
  ok (if (s.grpOf g).low then s.setDskew g false else s)

/-! ### Clock crossings (01_architecture.md R19) -/

/-- The words that a slip loses or repeats are marked errored for the stage downstream: receive samples for the decoder,
receive slot streams for the demappers of the engine or, in REGENERATOR, for the frame of its partner (R15), transmit samples and slot streams for the frame being sent, client
streams for the frame in progress, and OHB blocks for the block in progress (R19, R20; log entry 85). -/
def State.slipMark (s : State) (x : Fin 17) (who : Nat) : State :=
  let n := who % 4
  match x.val with
  | 1 => s.modFec n (fun f => { f with marked := true, slipped := true })
  | 3 => if s.modeNow == 3 then s.modTx (partner n) (fun r => { r with slip := true }) else (s.activeTribs.filter (fun t => (s.carryEngs t).contains n)).foldl (fun u t => u.modTrib t (fun y => { y with slip := true })) s
  | 5 => s.modPort (who % 64) (fun y => { y with slip := true })
  | 6 => (s.activeTribs.filter (fun t => s.srcPort t == who % 64)).foldl (fun u t => u.modTrib t (fun y => { y with err := true })) s
  | 7 => s.modPair (fun p => { p with slip := true })
  | 10 => s.modRx n (fun r => { r with gccBad := true })
  | _ => s.modTx n (fun r => { r with slip := true })

end Sys2Proof.Machine
end

