-- ==== Sys2Proof/Machine/FecCode.lean ====
section
/-! DEFINITION. The Nurnauri code (04_nurnauri_fec.md R120 to R134): the layout of a position, its outer code, its encoder,
and the decoder's window. Bits are named by what they are (log entry 81): a coded position is its 8 outer codewords, each
its data bits, CRC-12 and BCH parity, and then its inner parity. The edges of the inner code, its message rule and the field
are are fixed in silicon and not stated (R123): what the rules leave of them open is constants of Config without a body. -/
namespace Sys2Proof.Machine

/-! ### Layout (R120, R122) -/

/-- Coded bits of a position by code rate. -/
def fecBits : Nat → Nat
  | 1 => 37800 | 2 => 36000 | 3 => 33600 | _ => 34560

/-- Inner parity bits of a position. -/
def fecInner (rate : Nat) : Nat := fecBits rate - 30720

/-- Dual-polarization symbols of a position. -/
def fecSymbols (prof rate : Nat) : Nat := fecBits rate / (2 * mBits prof)

/-- Amplitude bits of a position: all but the four sign bits of each symbol (05_line_framing.md R156). -/
def fecAmp (prof rate : Nat) : Nat := fecSymbols prof rate * (2 * mBits prof - 4)

/-- Position-updates that the 2 of each CORE cycle make in one position time, rounded down (R126, R129). -/
def fecBudget (prof rate : Nat) : Nat := fecSymbols prof rate * 26368 / (100 * baud prof)

/-- A run of `k` pieces of `w` bits. -/
def pieces (w : Nat) : Nat → List Bool → List (List Bool)
  | 0, _ => []
  | k + 1, l => l.take w :: pieces w k (l.drop w)

/-- Bits cut or padded with zeros to a length. -/
def padBits (n : Nat) (l : List Bool) : List Bool := l.take n ++ List.replicate (n - l.length) false

/-- Bits read highest first. -/
def ofBits (l : List Bool) : Nat := l.foldl (fun a b => 2 * a + b2n b) 0

/-! ### Outer code (R122, R130) -/

/-- x^k in GF(2^12) on the field polynomial `p`, from `r` = x^0: one multiplication by x. -/
def gfMulX (p r : Nat) : Nat := if 2048 ≤ r then (2 * r) % 4096 ^^^ p else 2 * r

/-- Product in GF(2^12) on the field polynomial `p`. -/
def gfMul (p a b : Nat) : Nat :=
  ((upTo 12).foldl (fun (acc : Nat × Nat) i => (if b.testBit i then acc.1 ^^^ acc.2 else acc.1, gfMulX p acc.2)) (0, a)).1

/-- The least k > 0 with x^k = 1, none up to the fuel. -/
def gfOrder (p : Nat) : Nat → Nat → Nat → Nat
  | 0, _, _ => 0
  | fuel + 1, k, r => if r == 1 then k else gfOrder p fuel (k + 1) (gfMulX p r)

/-- The field polynomial: a primitive one of degree 12, which one is open (log entry 190). -/
def gfPoly : Nat :=
  let p := Config.fieldPoly.toNat
  if gfOrder p 4095 1 2 == 4095 then p else 0x053

/-- Product of two polynomials over GF(2^12), lowest coefficient first. -/
def gfPolyMul (p : Nat) (a b : List Nat) : List Nat :=
  a.foldr (fun c acc =>
    let row := b.map (gfMul p c)
    let sh := 0 :: acc
    (upTo (max row.length sh.length)).map (fun i => row.getD i 0 ^^^ sh.getD i 0)) []

/-- The minimal polynomial of x^e: the product of (X + conjugate) over its 12 conjugates. -/
def gfMinPoly (p e : Nat) : List Nat :=
  let b := (List.replicate e ()).foldl (fun r _ => gfMulX p r) 1
  ((upTo 12).foldl (fun (acc : List Nat × Nat) _ => (gfPolyMul p acc.1 [acc.2, 1], gfMul p acc.2 acc.2)) ([1], b)).1

/-- The generator of the BCH code without its leading term: the product of the minimal polynomials of x, x^3, x^5 and x^7, which
corrects 4 errors with 48 parity bits (R122). -/
def bchGen : Nat :=
  let p := gfPoly
  let g := [1, 3, 5, 7].foldl (fun a e => gfPolyMul p a (gfMinPoly p e)) [1]
  (g.take 48).zipIdx.foldl (fun a (c, i) => a + c % 2 * 2 ^ i) 0

/-- The CRC-12 over the data bits of a codeword. -/
def crc12 (data : List Bool) : Nat := crcBits 12 0x80F 0 data

/-- Remainder of the first 3,792 bits of a codeword, times x^48, by the BCH generator. -/
def bchRem (l : List Bool) : Nat := crcBits 48 bchGen 0 l

/-- A codeword of 3,840 bits. -/
def outerWord (data : List Bool) : List Bool :=
  let w := data ++ bitsHigh 12 (crc12 data)
  w ++ bitsHigh 48 (bchRem w)

/-- The 8 codewords of the data bits of a position. -/
def outerEncode (data : List Bool) : List Bool := (pieces 3780 8 (padBits 30240 data)).flatMap outerWord

/-- BCH syndrome of a codeword. -/
def bchSyn (w : List Bool) : Nat := bchRem (w.take 3792) ^^^ ofBits (w.drop 3792)

/-- The CRC-12 of a codeword passes. -/
def crcOk (w : List Bool) : Bool := crc12 (w.take 3780) == ofBits ((w.drop 3780).take 12)

/-- a to the power k in GF(2^12). -/
def gfPow (p a k : Nat) : Nat := (List.replicate k ()).foldl (fun r _ => gfMul p r a) 1

/-- The value of a polynomial over GF(2^12), lowest coefficient first. -/
def gfEval (p : Nat) (f : List Nat) (x : Nat) : Nat := f.foldr (fun c acc => c ^^^ gfMul p acc x) 0

/-- What the search of a locator carries: the locator, the one before its last growth, its length, the steps since then and the
discrepancy of that time. -/
structure BchLoc where
  loc : List Nat := [1]
  old : List Nat := [1]
  len : Nat := 0
  gap : Nat := 1
  disc : Nat := 1

/-- One step of Berlekamp and Massey on the syndromes S_1 to S_8. -/
def bchStep (p : Nat) (s : List Nat) (x : BchLoc) (r : Nat) : BchLoc :=
  let d := (upTo (x.len + 1)).foldl (fun a i => a ^^^ (if r < i then 0 else gfMul p (x.loc.getD i 0) (s.getD (r - i) 0))) 0
  if d == 0 then { x with gap := x.gap + 1 }
  else
    let k := gfMul p d (gfPow p x.disc 4094)
    let add := List.replicate x.gap 0 ++ x.old.map (gfMul p k)
    let loc := (upTo (max x.loc.length add.length)).map (fun i => x.loc.getD i 0 ^^^ add.getD i 0)
    if 2 * x.len ≤ r then { loc := loc, old := x.loc, len := r + 1 - x.len, gap := 1, disc := d }
    else { x with loc := loc, gap := x.gap + 1 }

/-- The places of at most 4 errors that a syndrome other than 0 stands for, as bit numbers of a codeword; none where the decoding
fails (R122, R130). -/
def bchSolve (syn : Nat) : Option (List Nat) :=
  let p := gfPoly
  let bits := (upTo 48).map (fun i => b2n (syn.testBit i))
  let s := (upTo 8).map (fun j => gfEval p bits (gfPow p 2 (j + 1)))
  let x := (upTo 8).foldl (bchStep p s) {}
  let inv := gfPow p 2 4094
  let roots := ((upTo 3840).foldl (fun (acc : List Nat × Nat) k =>
    (if gfEval p x.loc acc.2 == 0 then (3839 - k) :: acc.1 else acc.1, gfMul p acc.2 inv)) ([], 1)).1
  if x.len ≤ 4 && roots.length == x.len then some roots else none

/-- Flip the bits at some places. -/
def flipBits (at_ : List Nat) (w : List Bool) : List Bool := w.zipIdx.map (fun (b, i) => xor b (at_.contains i))

/-- The outcome of an outer codeword, and the codeword as decoded (R130). -/
def outerDecode (w : List Bool) : CwOut × List Bool :=
  if bchSyn w == 0 then (if crcOk w then .clean else .uncorrectable, w)
  else
    match bchSolve (bchSyn w) with
    | none => (.uncorrectable, w)
    | some l => (if crcOk (flipBits l w) then .corrected l.length else .uncorrectable, flipBits l w)

/-! ### Inner encoder (R121) -/

/-- Where edge `i` of coded bit `v` of a position goes: how many positions on, 0 to 2, and to which check of that position. Each
bit has three edges; the first of inner parity bit j is check j of its own position, and its others go to a later check of
that position or to the two positions after it, so that the code is systematic (R121; log entry 189). -/
def fecEdge (rate i v : Nat) : Nat × Nat :=
  let m := fecInner rate
  let (d, c) := Config.fecEdge rate i v
  let j := v - 30720
  if v < 30720 then (d % 3, c % m)
  else if i == 0 then (0, j)
  else if d % 3 == 0 && decide (j + 1 < m) then (0, j + 1 + c % (m - 1 - j))
  else (1 + d % 2, c % m)

/-- Add the bits of a position to the checks that lie `d` positions after it. -/
def fecTally (rate d : Nat) (bits : List Bool) (acc : Array Bool) : Array Bool :=
  bits.zipIdx.foldl (fun a (b, v) =>
    if !b then a
    else (upTo 3).foldl (fun a i =>
      let e := fecEdge rate i v
      if e.1 == d then a.modify e.2 (fun x => !x) else a) a) acc

/-- The parity checks of a position, false where satisfied: they take bits of it and of the positions one and two before it,
and of no other (R121). -/
def fecSyndrome (rate : Nat) (bits prev1 prev2 : List Bool) : Array Bool :=
  fecTally rate 0 bits (fecTally rate 1 prev1 (fecTally rate 2 prev2 (Array.replicate (fecInner rate) false)))

/-- The inner parity bits that satisfy the checks one after the other: bit j is what check j still lacks. -/
def fecParity (rate : Nat) (prev1 prev2 info : List Bool) : List Bool :=
  ((upTo (fecInner rate)).foldl (fun (acc : Array Bool × List Bool) j =>
    let b := acc.1.getD j false
    (if !b then acc.1
     else [1, 2].foldl (fun a i =>
      let e := fecEdge rate i (30720 + j)
      if e.1 == 0 then a.modify e.2 (fun x => !x) else a) acc.1, b :: acc.2)) (fecSyndrome rate info prev1 prev2, [])).2.reverse

/-- An all-zero position. -/
def fecBlank (rate : Nat) : List Bool := List.replicate (fecBits rate) false

/-- The coded bits of a position, from its data bits and the two positions before it, newest first; those that are not
there are all-zero (R121). -/
def fecEncode (rate : Nat) (prev : List (List Bool)) (data : List Bool) : List Bool :=
  let info := outerEncode data
  info ++ fecParity rate (prev.headD (fecBlank rate)) ((prev.drop 1).headD (fecBlank rate)) info

/-- Data bits of a coded position. -/
def fecData (coded : List Bool) : List Bool := (pieces 3840 8 coded).flatMap (fun w => w.take 3780)

/-- Amplitude and sign bits of a coded position: data bits fill the amplitude bits, and the other data bits, the outer
parity and the inner parity the sign bits (05_line_framing.md R156). -/
def fecSymbolBits (prof rate : Nat) (coded : List Bool) : List Bool × List Bool :=
  let d := fecData coded
  let a := fecAmp prof rate
  (d.take a, d.drop a ++ (pieces 3840 8 coded).flatMap (fun w => w.drop 3780) ++ coded.drop 30720)

/-- The amplitude whose label some bits are (13_calibration.md R454; log entry 81). -/
def ampOf (bits : List Bool) : Int :=
  (([1, 3, 5, 7] : List Nat).find? (fun a => (bitsHigh 2 (Config.ampLabel a).toNat).drop (2 - bits.length) == bits)).getD 1

/-- The symbol levels of the four quadratures of a coded position: for each symbol and quadrature its amplitude with its sign bit, a
1 being negative (03_line_engine.md R82; log entry 191). -/
def symbolLevels (prof rate : Nat) (amp sign : List Bool) : List (List Int) :=
  let k := fecSymbols prof rate
  let b := (2 * mBits prof - 4) / 4
  let a := (pieces b (4 * k) amp).zip (pieces 1 (4 * k) sign)
  let lev := a.map (fun (x, g) => if g.headD false then -ampOf x else ampOf x)
  (upTo 4).map (fun q => (lev.zipIdx.filter (fun x => x.2 % 4 == q)).map (·.1))

/-! ### Interoperable codes (R144, R145; log entry 15) -/

/-- The coded bits of an interoperable frame in the order they are sent: the staircase code inside the Hamming code of CFEC, or oFEC. -/
def interopCode (prof : Nat) (prev : List (List Bool)) (bits : List Bool) : List Bool :=
  Config.interleave prof (if isOz prof then Config.ofecEnc prev bits else Config.hammingEnc (Config.staircaseEnc prev bits))

/-- The decoding of the last blocks: on CFEC 1 soft-decision pass of the inner code and 3 staircase iterations, on oFEC 3
soft-decision and then 2 hard-decision iterations. -/
def interopDecode (prof : Nat) (blocks : List (List Int)) : List Bool × Bool × Nat × Nat × Nat :=
  let l := Config.deinterleave prof blocks
  let out := if isOz prof then
      Config.ofecHard (Config.ofecHard (Config.ofecSoft (Config.ofecSoft (Config.ofecSoft l))))
    else Config.staircase (Config.staircase (Config.staircase (Config.hammingSoft l)))
  Config.interopVerdict prof blocks out

/-! ### Inner decoder (R125 to R128, R132) -/

/-- A number held to 5 bits (R125). -/
def five (x : Int) : Int := clampInt (-16) 15 x

/-- Hard decision of each bit from its input and its three messages: a negative sum is a 1. -/
def hardOf (llr msg : List Int) : List Bool :=
  llr.zipIdx.map (fun (v, i) => decide (v + ((msg.drop (3 * i)).take 3).sum < 0))

/-- A position as it enters the window. -/
def fecEnter (rate : Nat) (llr : List Int) : FecPos :=
  let l := (llr.take (fecBits rate)).map five ++ List.replicate (fecBits rate - llr.length) 0
  { llr := l, hard := hardOf l [], zero := l.all (· == 0) }

/-- A position of zero reliability. -/
def fecNone (rate : Nat) : FecPos :=
  { llr := List.replicate (fecBits rate) 0, msg := List.replicate (3 * fecBits rate) 0, hard := fecBlank rate, zero := true }

/-- Position `j` places after the two that have left; one that there is not has zero reliability (R132). -/
def fecAt (rate : Nat) (old win : List FecPos) (j : Nat) : FecPos :=
  ((if j < 2 then old[1 - j]? else win[j - 2]?)).getD (fecNone rate)

/-- Every parity check of the position at place `i` of the window is satisfied: a check takes bits of the position and of
the two before it (R121). -/
def checksOk (rate : Nat) (old win : List FecPos) (i : Nat) : Bool :=
  let at_ := fun (j : Nat) => (fecAt rate old win j).hard
  (fecSyndrome rate (at_ (i + 2)) (at_ (i + 1)) (at_ i)).all (fun b => !b)

/-- One position-update at place `i` (R126, R127): all messages of the position anew, from its own inputs and messages and
those of the positions within coupling distance 2; then it is frozen if its checks are satisfied and no decision changed,
and a frozen neighbour whose checks are no longer satisfied is unfrozen. -/
def fecUpdate (rate : Nat) (old win : List FecPos) (i : Nat) : List FecPos :=
  let p := (win[i]?).getD {}
  let near := [i, i + 1, i + 2, i + 3, i + 4].map (fun j => ((fecAt rate old win j).llr, (fecAt rate old win j).msg))
  let msg := (Config.fecMessages rate near).map five
  let hard := hardOf p.llr msg
  let w1 := win.set i { p with msg := msg, hard := hard, iters := p.iters + 1 }
  w1.zipIdx.map (fun (q, j) =>
    if j == i then { q with frozen := hard == p.hard && checksOk rate old w1 i }
    else if j + 2 < i || i + 2 < j then q
    else { q with frozen := q.frozen && checksOk rate old w1 j })

/-- A position that is still updated (R127, R131). -/
def posOpen (p : FecPos) (most : Nat) : Bool := !p.zero && !p.frozen && decide (p.iters < most)

/-- The next place to update, from `ptr` on and then from the oldest. -/
def fecNext (win : List FecPos) (most ptr : Nat) : Option Nat :=
  let l := (upTo win.length).filter (fun i => posOpen ((win[i]?).getD {}) most)
  (l.find? (fun i => decide (ptr ≤ i))).orElse (fun _ => l.head?)

/-- A run of updates over the window (R126 to R128): the window, where the sweep goes on, and whether the update engines
are clock-gated. -/
def fecSweep (rate most : Nat) (old : List FecPos) : Nat → List FecPos → Nat → List FecPos × Nat × Bool
  | 0, win, ptr => (win, ptr, (fecNext win most ptr).isNone)
  | k + 1, win, ptr =>
    match fecNext win most ptr with
    | none => (win, ptr, true)
    | some i => fecSweep rate most old k (fecUpdate rate old win i) (i + 1)

/-! ### A position leaves the window (R130, R134, R137) -/

/-- What a decoded position gives: the outcomes of its codewords, its data bits, corrected coded bits and coded bits
examined with UNCORRECTABLE codewords left out, and whether every check was satisfied. -/
structure FecResult where
  cws : List CwOut := []
  data : List Bool := []
  corr : Nat := 0
  exam : Nat := 0
  solved : Bool := true
deriving DecidableEq, Repr

/-- Places at which two runs of bits differ. -/
def diffCount (a b : List Bool) : Nat := (a.zip b).countP (fun (x, y) => x != y)

/-- The outer decoding of the oldest position of a window (R130, R137). -/
def fecLeave (rate : Nat) (old win : List FecPos) : FecResult :=
  let p := (win.head?).getD {}
  let words := (pieces 3840 8 p.hard).map outerDecode
  let signs := p.llr.map (fun v => decide (v < 0))
  let parts := (words.zip (pieces 3840 8 signs)).filter (fun (w, _) => w.1 != .uncorrectable)
  { cws := words.map (·.1), data := words.flatMap (fun w => w.2.take 3780),
    corr := (parts.map (fun (w, g) => diffCount w.2 g)).sum + diffCount (p.hard.drop 30720) (signs.drop 30720),
    exam := 3840 * parts.length + fecInner rate, solved := checksOk rate old win 0 }

/-! ### Test patterns (R146) -/

/-- One step of the PRBS31 register, x^31 + x^28 + 1; the new bit is the output (log entry 14). -/
def prbs31 (r : Nat) : Nat × Bool :=
  let b := xor (r.testBit 30) (r.testBit 27)
  ((r * 2 + b2n b) % 2 ^ 31, b)

/-- One step of the PRBS9 register, x^9 + x^5 + 1; the new bit is the output (log entry 14). -/
def prbs9 (r : Nat) : Nat × Bool :=
  let b := xor (r.testBit 8) (r.testBit 4)
  ((r * 2 + b2n b) % 2 ^ 9, b)

/-- The next bits of a pattern: the register after them and the bits. -/
def prbsRun (f : Nat → Nat × Bool) : Nat → Nat → Nat × List Bool
  | 0, r => (r, [])
  | k + 1, r =>
    let (r', b) := f r
    let (r'', l) := prbsRun f k r'
    (r'', b :: l)

/-- The 512 sign bits of a sync block. -/
def syncBits : List Bool := (prbsRun prbs9 512 0x1FF).2

/-- Compare bits with PRBS31: the register after them and how many differ (R146). -/
def prbsCheck : Nat → List Bool → Nat × Nat
  | r, [] => (r, 0)
  | r, b :: bs =>
    let (r', e) := prbs31 r
    let (r'', k) := prbsCheck r' bs
    (r'', k + b2n (xor b e))

end Sys2Proof.Machine
end

