-- ==== Sys2Proof/Machine/Fec.lean ====
section
/-! DEFINITION. Meanings of the events of the soft-decision error correction (04_nurnauri_fec.md). -/
namespace Sys2Proof.Machine

/-- Bits that the outer code corrected in a codeword. -/
def CwOut.bits : CwOut → Nat
  | .corrected k => k
  | _ => 0

/-- iter_max as it acts (R149). -/
def State.iterMax (s : State) (n : Nat) : Nat := max 8 (min 64 (s.rd .LE_FEC_CTRL_iter_max n))

/-- unc_set as it acts (R149). -/
def State.uncSet (s : State) (n : Nat) : Nat := max 2 (min 8 (s.rd .LE_FEC_CTRL_unc_set n))

/-- The checker of the FEC test (R146). -/
def State.fecCheck (s : State) (n : Nat) (data : List Bool) : State :=
  if !s.fecTest n || !s.on .LE_FEC_STATUS_test_sync n then s
  else
    let (r, k) := prbsCheck (s.fecOf n).prbs data
    let s := s.modFec n (fun f => { f with prbs := r })
    if k == 0 then s
    else
      let s := s.wr .LE_FEC_TEST_test_err n (satNat 32 (s.rd .LE_FEC_TEST_test_err n + k))
      s.raiseCount (.reg .LE_FEC_EV_test_err_seen n) { obj := n } (cEng n 7) k

/-! ### What the transmitter sends (R120 to R122, R146; 03_line_engine.md R82, R116) -/

/-- The code rate in force (R124). -/
def State.fecRate (s : State) (n : Nat) : Nat := s.rd .LE_FEC_CTRL_rate_active n

/-- The skew corrections of an engine's transmit lanes (13_calibration.md R445). -/
def State.txSkew (s : State) (n : Nat) : List Int := [s.trimValue 6 n 0, s.trimValue 6 n 1, s.trimValue 7 n 0]

/-- A 17-tap filter with taps in units of 2^-14, on samples that follow 16 others, oldest first. -/
def fir17 (tap : Nat → Int) (was x : List Int) : List Int :=
  let line := List.replicate (16 - was.length) 0 ++ was ++ x
  (upTo x.length).map (fun i => ((line.drop i).take 17).zipIdx.foldl (fun a (v, j) => a + tap (16 - j) * v) 0 / 2 ^ 14)

/-- The last `k` of what a filter held and of what it takes. -/
def lastOf (k : Nat) (was x : List Int) : List Int := (was ++ x).drop (was.length + x.length - k)

/-- A lane of the transmitter takes symbol levels: through the pulse, the skew corrections and the pre-emphasis filter, about mid-scale 0x80,
each filter going on from what it took before (03_line_engine.md R82, R84). -/
def State.laneDrive (s : State) (n roll k : Nat) (m : TxLane) (l : List Int) : TxLane × List Nat :=
  let f := Config.rrcFilter roll m.lev l
  let x := Config.skewShift (s.txSkew n) k m.smp f
  let y := if s.on .LE_TX_CTRL_preemph_en n then fir17 (Config.preTap n k) m.pre x else x
  ({ lev := lastOf 64 m.lev l, smp := lastOf 64 m.smp f, pre := lastOf 16 m.pre x },
    y.map (fun v => (clampInt (-128) 127 v + 128).toNat))

/-- The codes that drive the four DACs, and what the filters of the lanes hold after them (03_line_engine.md R82). -/
def State.dacDrive (s : State) (n roll : Nat) (lanes : List (List Int)) : List (List Nat) × State :=
  let r := lanes.zipIdx.map (fun (l, k) => s.laneDrive n roll k (SMap.get {} (s.fecOf n).lanes k) l)
  (r.map (·.2), s.modFec n (fun f => { f with lanes := r.zipIdx.foldl (fun m (x, k) => SMap.set {} m k x.1) f.lanes }))

/-- The roll-off in force in units of 0.01 (03_line_engine.md R118). -/
def State.rollOff (s : State) (n : Nat) : Nat := ([2, 5, 8, 10]).getD (s.txOf n).rolloff 2

/-- The symbols of a coded position leave through the roll-off in force, the skew corrections of items 6 and 7 and the
pre-emphasis filter (03_line_engine.md R82; 13_calibration.md R445). -/
def State.emitSymbols (s : State) (n : Nat) (coded : List Bool) : State :=
  let (amp, sign) := fecSymbolBits (s.prof n) (s.fecRate n) coded
  let (dac, s) := s.dacDrive n (s.rollOff n) (symbolLevels (s.prof n) (s.fecRate n) amp sign)
  s.emit (.symbols n amp sign (s.txOf n).rolloff (s.on .LE_TX_CTRL_preemph_en n) (s.txSkew n) dac)

/-- The symbol levels of a sync block: the four corner points of the constellation on each polarization (R146), two bits to a symbol on both
polarizations (log entry 191). -/
def syncLevels (prof : Nat) (bits : List Bool) : List (List Int) :=
  let top : Int := 2 ^ ((2 * mBits prof - 4) / 4 + 1) - 1
  [0, 1, 0, 1].map (fun k => (bits.zipIdx.filter (fun x => x.2 % 2 == k)).map (fun x => if x.1 then -top else top))

/-- A sync block leaves as the positions do (R146; 03_line_engine.md R82). -/
def State.emitSync (s : State) (n : Nat) (bits : List Bool) : State :=
  let (dac, s) := s.dacDrive n (s.rollOff n) (syncLevels (s.prof n) bits)
  s.emit (.sync n bits dac)

/-- Coded bits of an interoperable profile leave the DACs (03_line_engine.md R82; the roll-off is that of its specification). -/
def State.emitInterop (s : State) (n : Nat) (coded : List Bool) : State :=
  let (dac, s) := s.dacDrive n 0 (Config.interopLevels (s.prof n) coded)
  s.emit (.interop n coded dac)

/-- Coded bits that NEAR_DIG hands to the own receive DSP (03_line_engine.md R116). -/
def State.loopBits (s : State) (n : Nat) (coded : List Bool) : State :=
  s.modFec n (fun f => { f with loopPos := (f.loopPos ++ [coded]).drop (f.loopPos.length - 23) })

/-- The encoder takes the data bits of a position (R121, R122); what it makes is sent unless a loopback holds the DACs, which
hands it to the own receive DSP, or sends something else (03_line_engine.md R116; log entry 165). -/
def State.sendPosition (s : State) (n : Nat) (data : List Bool) : State :=
  let coded := fecEncode (s.fecRate n) (s.fecOf n).encPrev data
  let s := match s.loopback n with
    | 0 => s.emitSymbols n coded
    | 1 => s.loopBits n coded
    | _ => s
  s.modFec n (fun f => { f with encPos := (f.encPos + 1) % 64, encPrev := coded :: f.encPrev.take 1 })

/-- One position of the test stream: a sync block before every 64 positions, at which PRBS31 starts again (R146). -/
def State.testPosition (s : State) (n : Nat) : State :=
  let s := if (s.fecOf n).encPos == 0 then
      (if s.loopback n == 0 then s.emitSync n syncBits else s).modFec n (fun f => { f with txPrbs := 0x7FFFFFFF })
    else s
  let p := prbsRun prbs31 30240 (s.fecOf n).txPrbs
  (s.modFec n (fun f => { f with txPrbs := p.1 })).sendPosition n p.2

/-! ### The decoder -/

/-- The data bits of a position with the marks of its 8 codewords go to the dematcher while a frame waits for them; the marks of
an interoperable block, or of a position whose frame RX_FRAME brings whole, go to the next frame (R131, R134; log entry 81). -/
def State.fecHand (s : State) (n : Nat) (data marks : List Bool) : State :=
  if s.lpn n && !(s.rxOf n).wait.isEmpty then
    s.modFec n (fun f => if f.skip != 0 then { f with skip := f.skip - 1 } else { f with outQ := f.outQ ++ [(data, marks)] })
  else s.modFec n (fun f => { f with marked := f.marked || marks.any id })

/-- What a decoded position, or FEC block, adds to the readings of the window, to the block counters and to the marks
(R130, R134 to R137, R145). The block counters take in start-up positions (log entry 161). -/
def State.fecCount (s : State) (n iters : Nat) (r : FecResult) : State :=
  let lpn := s.lpn n
  let unc := r.cws.countP (· == .uncorrectable)
  let rescued := !r.solved && unc == 0
  let start := (s.fecOf n).startup != 0
  let s := s.fecHand n r.data (r.cws.map (· == .uncorrectable))
  let s := s.modFec n (fun f =>
    if start then { f with startup := f.startup - 1 }
    else { f with posDec := f.posDec + 1, cwDec := f.cwDec + r.cws.length, corr := f.corr + r.corr,
                  exam := f.exam + r.exam, iterSum := f.iterSum + iters, iterPk := max f.iterPk iters,
                  unsolved := f.unsolved + b2n (!r.solved), unc := f.unc + unc,
                  outer := f.outer + (r.cws.map CwOut.bits).sum })
  let s := s.count (cEng n 3) r.corr
  let s := s.count (cEng n 4) unc
  let s := if rescued then s.count (cEng n 5) else s
  let s := if lpn then s else s.modPm n (fun x => { x with eb := x.eb + unc })
  s.fecCheck n r.data

/-- A position or block whose inputs are all zero passes undecoded: its hard decisions, all 8 codewords with the uncorrectable
mark (R131). The checker of the FEC test passes over its data bits (R146). -/
def State.fecPass (s : State) (n : Nat) (hard : List Bool) : State :=
  let test := s.fecTest n && s.on .LE_FEC_STATUS_test_sync n
  (s.fecHand n (fecData hard) (List.replicate 8 true)).modFec n (fun f =>
    { f with startup := f.startup - 1, prbs := if test then (prbsRun prbs31 30240 f.prbs).1 else f.prbs })

/-- The oldest position leaves a full window (R125, R130, R131). -/
def State.posLeave (s : State) (n : Nat) : State :=
  let f := s.fecOf n
  let t := s.modFec n (fun f => { f with win := f.win.drop 1, old := f.win.take 1 ++ f.old.take 1, sweep := f.sweep - 1 })
  match f.win with
  | [] => s
  | p :: _ => if p.zero then t.fecPass n p.hard else t.fecCount n p.iters (fecLeave (s.fecRate n) f.old f.win)

/-- A position enters, and the window gets the updates of its position time (R125 to R128). -/
def State.posEnter (s : State) (n : Nat) (e : FecPos) (updates : Nat) : State :=
  let rate := s.fecRate n
  let f := s.fecOf n
  let k := max (fecBudget (s.prof n) rate) (min (fecBudget (s.prof n) rate + 1) updates)
  let (w, p, g) := fecSweep rate (s.iterMax n) f.old k (f.win ++ [e]) f.sweep
  s.modFec n (fun f => { f with win := w, sweep := p, gated := g })

/-- The inputs of the decoder: all zero unless the engine has a signal and is LOCKED (03_line_engine.md R106). -/
def State.softBits (s : State) (n : Nat) (llr : List Int) : List Int :=
  if s.on .LE_STATUS_dsp_lock n && s.on .LE_STATUS_sig_present n then llr.map five else llr.map (fun _ => 0)

/-- Show whether the position or block that arrives is decoded, and count one that is not (R131, R149). It is counted as it arrives (DESIGN CHOICE, log entry 217). -/
def State.fecArrive (s : State) (n : Nat) (zero : Bool) : State :=
  if zero then (s.wr .LE_FEC_STATUS_decoding n 0).count (cEng n 6) else s.wr .LE_FEC_STATUS_decoding n 1

/-- The inputs that NEAR_DIG gives the decoder: the oldest position of the own transmitter, with full reliability as nothing disturbs
it (log entry 165). -/
def loopLlr : List (List Bool) → List Int
  | [] => []
  | c :: _ => c.map (fun b => if b then -16 else 15)

/-- One position time of the Nurnauri decoder (R125 to R132). In FAR_SYM the decisions of the symbols received are sent
again, and nothing of the own transmit path (03_line_engine.md R116). -/
def State.positionTime (s : State) (n : Nat) (p : PosObs) : State :=
  let e := fecEnter (s.fecRate n) (s.softBits n (if s.loopback n == 1 then loopLlr (s.fecOf n).loopPos else p.llr))
  let s := if s.loopback n == 1 then s.modFec n (fun f => { f with loopPos := f.loopPos.drop 1 }) else s
  let s := s.fecArrive n e.zero
  let s := if s.loopback n == 2 && s.on .LE_TX_CTRL_tx_active n then s.emitSymbols n e.hard else s
  let s := if 64 ≤ (s.fecOf n).win.length then s.posLeave n else s
  s.posEnter n e p.updates

/-- One FEC block of an interoperable profile (R131, R144, R145); the inputs of the last 64 are held. An uncorrectable block is
left out of the pre-FEC error ratio (R137), and bits that the outer code of CFEC corrected are counted as such. In FAR_SYM the
decisions received are sent again, and in NEAR_DIG the input is the next of the bits that the own transmitter coded
(03_line_engine.md R116). -/
def State.blockTime (s : State) (n : Nat) (p : PosObs) : State :=
  let own := (s.fecOf n).loopPos.flatten
  let near := s.loopback n == 1
  let l := s.softBits n (if near then loopLlr [own.take p.llr.length] else p.llr)
  let s := if near then s.modFec n (fun f => { f with loopPos := [own.drop p.llr.length] }) else s
  let zero := l.all (· == 0)
  let s := s.fecArrive n zero
  let s := if s.loopback n == 2 && s.on .LE_TX_CTRL_tx_active n then s.emitInterop n (l.map (fun v => decide (v < 0))) else s
  let s := s.modFec n (fun f => { f with win := (f.win ++ [({ llr := l, zero := zero } : FecPos)]).drop (f.win.length - 63) })
  if zero then s.fecPass n []
  else
    let (data, good, corr, exam, outer) := interopDecode (s.prof n) ((s.fecOf n).win.reverse.map (·.llr))
    let cw := if !good then CwOut.uncorrectable else if isOz (s.prof n) || outer == 0 then .clean else .corrected outer
    s.fecCount n 0 { cws := [cw], data := data, corr := if good then corr else 0, exam := if good then exam else 0 }

/-- Nearest whole number to `a / b`, ties to even (log entry 13). -/
def nearDiv (a b : Nat) : Nat :=
  if b == 0 then 0
  else
    let q := a / b
    let r := a % b
    if 2 * r < b then q else if b < 2 * r then q + 1 else q + q % 2

/-- FEC_EXCESS at the end of a window (R136); a valid window that decoded nothing counts as one at or below the clear level
(log entry 162). -/
def State.excessEval (s : State) (n : Nat) (valid : Bool) (unc cws k : Nat) : State :=
  if !valid then s.modFec n (fun f => { f with setRun := 0, clrRun := 0 })
  else if s.on .LE_FEC_STATUS_fec_excess n then
    let run := if unc * 10 ^ (k + 1) ≤ cws then (s.fecOf n).clrRun + 1 else 0
    let s := s.modFec n (fun f => { f with clrRun := run })
    if run == 10 then (s.excessClear n).raiseReg .LE_FEC_EV_excess_clr n { obj := n } else s
  else
    let run := if cws < unc * 10 ^ k then (s.fecOf n).setRun + 1 else 0
    let s := s.modFec n (fun f => { f with setRun := run })
    if run == 3 then
      let s := ((s.modFec n (fun f => { f with setRun := 0, clrRun := 0 })).wr .LE_FEC_STATUS_fec_excess n 1).fabRefresh
      s.raiseReg .LE_FEC_EV_excess_set n { obj := n }
    else s

/-- The readings of a window, in the order in which State.fecShow takes them (R137, R139). -/
def State.fecReadings (s : State) (n : Nat) : List Nat :=
  let f := s.fecOf n
  let lpn := s.lpn n
  [berCode f.corr f.exam, if lpn then satNat 11 (nearDiv (16 * f.iterSum) f.posDec) else 0,
   b2n (s.on .LE_STATUS_dsp_lock n && !f.spoiled), if lpn then satNat 20 f.unsolved else 0,
   if lpn then satNat 7 f.iterPk else 0, satNat 24 f.unc, satNat 32 f.outer]

/-- Show the readings of one window together (R139). -/
def State.fecShow (s : State) (n : Nat) (l : List Nat) : State :=
  let v := fun k => l.getD k 0
  s.wrs [(.LE_FEC_WIN0_ber_pre, n, v 0), (.LE_FEC_WIN0_iter_mean, n, v 1), (.LE_FEC_WIN0_fec_valid, n, v 2),
    (.LE_FEC_WIN1_inner_unsolved, n, v 3), (.LE_FEC_WIN1_iter_peak, n, v 4), (.LE_FEC_WIN2_unc_cw, n, v 5),
    (.LE_FEC_WIN3_outer_corr, n, v 6)]

/-- The window of 10 ms ends: FEC_EXCESS is evaluated, and the readings wait for the computation of the same 10 ms, which shows them
(R136 to R139). -/
def State.fecWindowClose (s : State) (n : Nat) : State :=
  let f := s.fecOf n
  let lock := s.on .LE_STATUS_dsp_lock n
  let valid := lock && !f.spoiled
  let s := s.modFec n (fun x => { x with staged := some (s.fecReadings n) })
  let s := if f.unc == 0 then s else s.raiseReg .LE_FEC_EV_unc_seen n { obj := n }
  let s := s.excessEval n valid f.unc f.cwDec f.uncSet
  s.modFec n (fun f => { f with posDec := 0, cwDec := 0, corr := 0, exam := 0, iterSum := 0, iterPk := 0,
                                unsolved := 0, unc := 0, outer := 0, spoiled := !lock, uncSet := s.uncSet n })

/-- The readings that wait are shown. -/
def State.fecReveal (s : State) (n : Nat) : State :=
  match (s.fecOf n).staged with
  | some l => (s.fecShow n l).modFec n (fun f => { f with staged := none })
  | none => s

/-- FEC_WINDOW_END: the readings of 10 ms are latched (R137). While the engine is LOCKED they are shown with the engine's computation
of the same 10 ms (R139), and a window that the computation has closed already ends here no second time (log entry 192). -/
def State.fecWindowEnd (s : State) (n : Nat) : State :=
  if !s.on .LE_STATUS_dsp_lock n then (s.fecWindowClose n).fecReveal n
  else if (s.fecOf n).ended then s.modFec n (fun f => { f with ended := false })
  else s.fecWindowClose n

/-- The engine's computation of 10 ms: the window that ends with it is closed, unless FEC_WINDOW_END has closed it, and its
readings are shown with the computation's own (R137, R139). -/
def State.fecComputed (s : State) (n : Nat) : State :=
  if (s.fecOf n).staged.isSome then s.fecReveal n
  else ((s.fecWindowClose n).fecReveal n).modFec n (fun f => { f with ended := true })

/-- FEC_WINDOW_END (R137). -/
def execFecWindowEnd (n : Eng) (s : State) : Host.Outcome State Fault Refusal :=
  ok (if s.hasEng n && s.inService n then s.fecWindowEnd n else s)

/-- FEC_READING_REPORT: the readings reach the Storekeeper (R139). -/
def execFecReadingReport (n : Eng) (s : State) : Host.Outcome State Fault Refusal :=
  ok (if s.hasEng n && s.inService n then
      let rest := [s.regVal .LE_FEC_WIN1 n, s.regVal .LE_FEC_WIN2 n, s.regVal .LE_FEC_WIN3 n]
      s.modSk n (fun k => { k with ownWin0 := s.regVal .LE_FEC_WIN0 n, ownWin := rest })
    else s)

/-- FAR_SYM sends a received sync block again as it was decided; which of its bits differ from the pattern is not known of one that
differs (03_line_engine.md R116; log entry 165). -/
def State.resendSync (s : State) (n : Nat) (clean : Bool) : State :=
  if clean then s.emitSync n syncBits
  else { s.emitSync n (bitsOfBytes ((upTo 64).map (fun i => Config.freeByte (s.free + i)))) with free := s.free + 64 }

/-- TEST_SYNC_BLOCK: a sync block of which `differ` bits differ for each polarization pair (R146); in NEAR_DIG it is the own one,
with no bit in error (03_line_engine.md R116). -/
def execTestSyncBlock (n : Eng) (differ : List Nat) (s : State) : Host.Outcome State Fault Refusal :=
  ok (if !s.hasEng n || !s.fecTest n then s
    else
      let active := s.on .LE_TX_CTRL_tx_active n
      let differ := if s.loopback n == 1 then (if active then [0] else [512]) else differ
      let s := if s.loopback n == 2 && active then s.resendSync n (differ.all (· == 0)) else s
      let hit := differ.all (fun k => decide (k ≤ 32))
      let s := s.modFec n (fun f => { f with hit := if hit then min 3 (f.hit + 1) else 0,
                                             miss := if hit then 0 else min 3 (f.miss + 1),
                                             prbs := 0x7FFFFFFF })
      let f := s.fecOf n
      if f.hit == 3 then s.wr .LE_FEC_STATUS_test_sync n 1
      else if f.miss == 3 then s.wr .LE_FEC_STATUS_test_sync n 0
      else s)

/-- A write of fec_test (R146, R147): ignored while it would leave a code rate other than 0.875; in MAINTENANCE a
change restarts the encoder and the decoder, and frames stop or start: the active transmitter stops and starts (log entry
163). test_sync is cleared there and at no other place (log entry 164). -/
def State.fecTestWrite (s : State) (n : Nat) (v : Bool) : State :=
  if !s.hasEng n then s
  else if !v && s.rd .LE_FEC_CTRL_rate_active n != 0 then s
  else
    let change := s.on .LE_FEC_CTRL_fec_test n != v
    let s := s.wr .LE_FEC_CTRL_fec_test n (b2n v)
    if change && s.modeNow == 4 then
      let s := (s.decRestart n).modFec n (fun f => { f with encPos := 0, encPrev := [], hit := 0, miss := 0, prbs := 0x7FFFFFFF })
      let s := s.wr .LE_FEC_STATUS_test_sync n 0
      if s.on .LE_TX_CTRL_tx_active n then (s.txStop n).txStart n else s
    else s

end Sys2Proof.Machine
end

