-- ==== Sys2Proof/Machine/I3c.lean ====
section
/-! DEFINITION. Meanings of the I3C discovery events and transfers (12_housekeeping.md R438 to R440; 11_host_rings.md
R383, R395, R406). A target answers only while the BUS pads are not held (14_power_and_cellar.md R474). -/
namespace Sys2Proof.Machine

def State.disc (s : State) : Nat := s.rd .HK_I3C_STATUS_disc_state
def State.setDisc (s : State) (v : Nat) : State := s.wr .HK_I3C_STATUS_disc_state 0 v

def State.modTgt (s : State) (j : Nat) (g : I3cTgt → I3cTgt) : State :=
  { s with hk := { s.hk with tgt := SMap.mod {} s.hk.tgt j g } }

/-- Enable or disable hot-join on the bus (ENEC, DISEC). -/
def State.hotJoin (s : State) (v : Bool) : State := { s with hk := { s.hk with hjOn := v } }

/-- Set presence of index `j`, in its entry and in the mask. -/
def State.setPresent (s : State) (j : Nat) (v : Bool) : State :=
  let m := s.rd .HK_I3C_STATUS_present_mask
  let m' := if m.testBit j == v then m else if v then m + 2 ^ j else m - 2 ^ j
  (s.wrs [(.HK_I3C_TGT_INFO_present, j, b2n v), (.HK_I3C_STATUS_present_mask, 0, m')]).modTgt j
    (fun t => { t with nacks := 0, freed := if v then t.freed else 0 })

/-- RSTDAA: every target loses its address (R438, log entry 26). -/
def State.rstdaa (s : State) : State :=
  (upTo 16).foldl (fun t j => if t.on .HK_I3C_TGT_INFO_present j then t.setPresent j false else t) s

/-- Discovery begins afresh at a rescan, with restarts = 0 (R438). -/
def State.discStart (s : State) : State :=
  ((s.rstdaa.hotJoin false).wr .HK_I3C_STATUS_restarts 0 0).setDisc 1

/-- A write of 1 to i3c_en (R438). -/
def State.i3cEnable (s : State) : State :=
  let t := s.wr .HK_I3C_CTRL_i3c_en 0 1
  if s.disc == 0 then (t.rstdaa.hotJoin false).setDisc 1 else t

/-- A write of 0 to i3c_en: a transfer in progress is finished by its own end (R438). -/
def State.i3cDisable (s : State) : State :=
  let t := s.wr .HK_I3C_CTRL_i3c_en 0 0
  if s.disc == 0 then t else (t.hotJoin false).setDisc 0

/-- restarts + 1; at 8 discovery has failed (R438). -/
def State.restart (s : State) : State :=
  let k := s.rd .HK_I3C_STATUS_restarts + 1
  let t := s.wr .HK_I3C_STATUS_restarts 0 k
  if 8 ≤ k then (t.setDisc 4).raiseReg .HK_EV_i3c_fail else t.setDisc 1

/-- A write of 1 to rescan, in FAILED or DONE. -/
def State.i3cRescan (s : State) : State := if s.disc == 3 || s.disc == 4 then s.discStart else s

/-- Provisional ID of index `j`. -/
def State.tgtPid (s : State) (j : Nat) : Nat :=
  s.rd .HK_I3C_TGT_PID_LO_pid_lo j + s.rd .HK_I3C_TGT_PID_HI_pid_hi j * 2 ^ 32

/-- The index a target takes: its own, else the lowest that has been free for 1 s: over 10 polls in DONE, or, in any state, as the mask
`aged` tells (R439; log entry 8). -/
def State.tgtIndex (s : State) (pid aged : Nat) : Option Nat :=
  match (upTo 16).find? (fun j => s.rd .HK_I3C_TGT_INFO_addr j != 0 && s.tgtPid j == pid) with
  | some j => some j
  | none => (upTo 16).find? (fun j => !s.on .HK_I3C_TGT_INFO_present j && ((SMap.get {} s.hk.tgt j).freed == 10 || aged.testBit j))

/-- I3C_ENTDAA_ROUND_END: a round ends with an address acknowledged (R438, R439). -/
def execI3cEntdaaRoundEnd (who : I3cWho) (bcr dcr : Nat) (s : State) : Host.Outcome State Fault Refusal :=
  ok (if s.disc != 1 || s.padHeld 4 then s
    else match s.tgtIndex (who.pid % 2 ^ 48) who.aged with
      | none => s
      | some j =>
        (s.wrs [(.HK_I3C_TGT_PID_LO_pid_lo, j, who.pid), (.HK_I3C_TGT_PID_HI_pid_hi, j, who.pid / 2 ^ 32),
          (.HK_I3C_TGT_PID_HI_bcr, j, bcr), (.HK_I3C_TGT_PID_HI_dcr, j, dcr), (.HK_I3C_TGT_INFO_addr, j, 0x10 + j),
          (.HK_I3C_TGT_INFO_gen, j, s.rd .HK_I3C_TGT_INFO_gen j + 1)]).setPresent j true)

/-- I3C_NO_TARGET (R438). -/
def execI3cNoTarget (s : State) : Host.Outcome State Fault Refusal :=
  ok (if s.disc == 1 then (s.hotJoin true).setDisc 2 else s)

/-- I3C_ROUND_ABORT (R438). -/
def execI3cRoundAbort (s : State) : Host.Outcome State Fault Refusal :=
  ok (if s.disc == 1 then (s.count 528).restart else s)

/-- I3C_TABLE_FULL (R438). -/
def execI3cTableFull (s : State) : Host.Outcome State Fault Refusal :=
  ok (if s.disc == 1 && s.rd .HK_I3C_STATUS_present_mask == 0xFFFF then (s.raiseReg .HK_EV_i3c_full).setDisc 2 else s)

/-- I3C_HOT_JOIN: acknowledged in SETTLE, and in DONE with hj_en = 1; NACKed otherwise (R438). -/
def execI3cHotJoin (s : State) : Host.Outcome State Fault Refusal :=
  ok (if s.padHeld 4 then s
    else if s.disc == 2 then (s.hotJoin false).restart
    else if s.disc == 3 && s.on .HK_I3C_CTRL_hj_en then (s.hotJoin false).setDisc 1
    else s)

/-- I3C_SETTLE_TIMEOUT (R438). -/
def execI3cSettleTimeout (s : State) : Host.Outcome State Fault Refusal :=
  ok (if s.disc == 2 then ((s.wr .HK_I3C_STATUS_restarts 0 0).setDisc 3).raiseReg .HK_EV_i3c_done else s)

/-- The poll of one index (R438, R439). -/
def State.tgtPoll (s : State) (j : Nat) (ack : Bool) : State :=
  if !s.on .HK_I3C_TGT_INFO_present j then s.modTgt j (fun t => { t with freed := min 10 (t.freed + 1) })
  else if ack then s.modTgt j (fun t => { t with nacks := 0 })
  else
    let s := s.modTgt j (fun t => { t with nacks := t.nacks + 1 })
    if 3 ≤ (SMap.get {} s.hk.tgt j).nacks then (s.setPresent j false).raiseReg .HK_EV_i3c_leave 0 { obj := j } else s

/-- I3C_STATUS_POLL: the poll of each 100 ms in DONE; `ack j` tells whether target j acknowledged (R438). -/
def execI3cStatusPoll (ack : List Bool) (s : State) : Host.Outcome State Fault Refusal :=
  ok (if s.disc == 3 then (upTo 16).foldl (fun t j => t.tgtPoll j (!s.padHeld 4 && ack.getD j false)) s else s)

/-- Detail of an I3C_XFER that is refused before its transfer, 0 when it may run (R440, log entry 27). -/
def State.xferErr (s : State) (d : Desc) : Nat :=
  let p := d.param0
  let j := p % 16
  let kind := fieldOf p 12 2
  let wlen := fieldOf p 16 12
  if kind == 3 || fieldOf p 14 2 != 0 || fieldOf p 28 4 != 0 || (kind == 2 && (wlen == 0 || decide (d.len ≤ wlen))) then 5
  else if s.disc != 3 then 4
  else if !s.on .HK_I3C_TGT_INFO_present j then 1
  else if s.rd .HK_I3C_TGT_INFO_gen j != fieldOf p 4 8 then 2
  else 0

/-- The transfer of an SQ that is in execution (R440; 11 R394). -/
def State.xferOf (s : State) (r : Nat) : Option I3cOp := s.host.i3cOps.find? (fun o => o.d.sq == r)

/-- The transfer of an SQ is in execution no more. -/
def State.xferGone (s : State) (r : Nat) : State :=
  { s with host := { s.host with i3cOps := s.host.i3cOps.filter (fun o => o.d.sq != r) } }

/-- I3C_XFER (R440; 11 R395). -/
def execI3cXfer (r : RingId) (data : BufRead) (s : State) : Host.Outcome State Fault Refusal :=
  ok (let s := s.settle r 9
    match s.headDesc r 9 with
    | none => s
    | some d =>
      let s := s.popDesc r
      let e := s.xferErr d
      if e == 2 then (s.count 529).refuse d 2
      else if e != 0 then s.refuse d e
      else if data.err && fieldOf d.param0 12 2 != 1 then s.done d 6 0 data.bytes.length
      else { s with host := { s.host with i3cOps := s.host.i3cOps ++ [{ d := d, data := data.bytes }] } })

/-- The transfer ends on the bus (R440; 11 R383). -/
def State.xferEnd (s : State) (o : I3cOp) (res : I3cRes) : State :=
  let d := o.d
  let kind := fieldOf d.param0 12 2
  let wlen := fieldOf d.param0 16 12
  let wmax := if kind == 0 then d.len else if kind == 2 then wlen else 0
  let rd := if kind == 0 then [] else res.got.take (d.len - wmax)
  let sent := min res.sent wmax
  let s := s.xferGone d.sq
  if res.nack then s.refuse d 3
  else
    let s := if wmax == 0 then s else s.emit (.i3c (0x10 + d.param0 % 16) (o.data.take sent))
    let s := if kind == 0 then s else s.emit (.dma (d.addr + wmax) rd)
    s.done d (if o.stop then 7 else 0) 0 (sent + rd.length)

/-- I3C_XFER_DONE (R440). While the BUS pads are held nothing moves on I3C (14_power_and_cellar.md R474): a transfer goes on, and
one that a disable stopped ends with nothing done. -/
def execI3cXferDone (res : I3cRes) (s : State) : Host.Outcome State Fault Refusal :=
  ok (match s.xferOf res.sq with
    | none => s
    | some o => if !s.padHeld 4 then s.xferEnd o res else if o.stop then s.xferEnd o { sq := res.sq } else s)

/-- I3C_XFER_TIMEOUT: not ended within 10 ms: DEV_ERR, detail 1 TIMEOUT (11 R406), for the transfer that was started first. -/
def execI3cXferTimeout (s : State) : Host.Outcome State Fault Refusal :=
  ok (match s.host.i3cOps.head? with
    | none => s
    | some o => (s.xferGone o.d.sq).done o.d 8 1)

end Sys2Proof.Machine
end

