-- ==== Sys2Proof/Machine/Time.lean ====
section
/-! DEFINITION. Meanings of the timing events (09_timing.md R310 to R336). Times, phases and errors that only the
analog and the far sources know are the commands' operands (log entry 8). -/
namespace Sys2Proof.Machine

/-- A time error in (-500, +500] ms, in 2^-16 ns (R316). -/
def foldSecond (x : Int) : Int :=
  let r := x % (todSec : Nat)
  if (todSec : Int) < 2 * r then r - (todSec : Nat) else r

/-- By how much ToD has been moved since the time error of an input was measured (R326, R327). -/
def State.movedSince (s : State) (i : Nat) : Int := s.tim.moved - (s.refOf i).movedAt

/-- The time error of an input has been measured at the present ToD (R326). -/
def State.measured (s : State) (i : Nat) : State :=
  s.modRef i (fun r => { r with movedAt := s.tim.moved })

/-- Time error e of R326 in 2^-16 ns, from the time source, less what ToD has been moved by since it was measured; a PPS late against
ToD means a source behind ToD, so its phase counts with the other sign (DEDUCED, log entry 20). -/
def State.timeErr (s : State) : Option Int :=
  let i := s.timeSrc
  if i < 2 then some (foldSecond (-((s.refOf i).phase * 16384 / 10) - s.movedSince i))
  else if i == 10 then some ((s.refOf 10).sample - s.movedSince 10)
  else if i == 11 then some (s.tim.theta - s.movedSince 11)
  else none

/-- time_err as the register shows it: e in ns, saturating (R346). -/
def errNs (e : Int) : Int := clampInt (-32768) 32767 (roundUp e 65536)

/-- The means of a second of REF11 (R340); the registers show the low 32 bits of each (DESIGN CHOICE, log entry 224). -/
def State.ttMean (s : State) : State :=
  let l := s.tim.samples
  let s := s.wr .TIM_TT_STATUS_samples 0 (satNat 16 l.length)
  let s := s.wrInt .TIM_TT_DTAU_dtau 0 (to10ps s.tim.dtau 1)
  let s := { s with tim := { s.tim with samples := [] } }
  if l.isEmpty then s
  else
    let s := { s with tim := { s.tim with theta := roundUp l.sum (2 * l.length) } }
    (s.wrInt .TIM_TT_THETA_theta 0 (to10ps l.sum (2 * l.length))).measured 11

/-- The hold timer pauses (R336). -/
def State.holdPaused (s : State) : Bool :=
  (s.d0 == 2 && decide (s.srcQual s.freqSrc ≤ 4)) || s.srcQual s.timeSrc == 7

/-- Frequency of DPLL0 after a second in LOCKED: that of its reference; while it builds out onto the input that freq_src changed to
it moves by at most 10 ppb (R325, log entry 174). -/
def State.lockedFreq (s : State) : Int :=
  let f := (s.refOf s.freqSrc).freq * 10000
  if s.tim.build then clampInt (s.tim.freq0 - 100000) (s.tim.freq0 + 100000) f else f

/-- The holdover model is being learned (R333). -/
def State.learning (s : State) : Bool := (s.d0 == 2 || s.d0 == 5) && decide (s.srcQual s.freqSrc ≤ 4)

/-- The mean of some frequencies. -/
def meanOf (l : List Int) : Int := roundUp l.sum l.length

/-- Mean frequency over the last 1,000 s of learning (R333). -/
def State.learnedMean (s : State) : Int := if s.tim.hist.isEmpty then s.tim.freq0 else meanOf s.tim.hist

/-- Slope per step of the line fitted by least squares to readings at equal steps, newest first, times `scale`; 0 below two. -/
def fitSlope (scale : Nat) (l : List Int) : Int :=
  let n := l.length
  let num := (l.zipIdx.map (fun x => x.1 * ((n : Int) - 1 - 2 * x.2))).sum
  if n < 2 then 0 else roundUp (6 * scale * num) (n * (n * n - 1))

/-- Drift over the means of 1,000 s of up to 7 days, 10^-18 per second (R333; DESIGN CHOICE, log entry 227). -/
def State.learnedDrift (s : State) : Int := fitSlope 100 s.tim.blocks

/-- One second of learning, or a break in it (R333). -/
def State.learnStep (s : State) : State :=
  if s.learning then
    let h := (s.tim.freq0 :: s.tim.hist).take 1000
    let k := s.tim.learnS + 1
    { s with tim := { s.tim with hist := h, learnS := k,
                                 blocks := if k % 1000 == 0 then (meanOf h :: s.tim.blocks).take 604 else s.tim.blocks } }
  else { s with tim := { s.tim with hist := [], blocks := [], learnS := 0 } }

/-- A phase step runs on at 100 ppm, 1 ps in 10 ns, to the present ToD (R330). -/
def DpllSt.run (d : DpllSt) (now : Nat) : DpllSt :=
  let k := min (todElapsed d.since now / 655360) d.rem.natAbs
  let m : Int := if d.rem < 0 then -(k : Int) else k
  { d with rem := d.rem - m, phase := d.phase + m, since := if d.rem == m then now else todAdd d.since ((k * 655360 : Nat) : Int) }

/-- The step remainder of DPLL j + 1 and step_busy at the present ToD (R330). -/
def State.pstepRun (s : State) (j : Nat) : State :=
  let t := { s with tim := { s.tim with dpll := SMap.mod {} s.tim.dpll (j + 1) (fun d : DpllSt => d.run s.tim.tod) } }
  t.wr .TIM_DPLL_STATUS_step_busy j (b2n ((SMap.get {} t.tim.dpll (j + 1) : DpllSt).rem != 0))

/-- What a passing second does to averages, the drift of holdover and the hold timer (R324, R329, R334, R336). -/
def State.secondPass (s : State) : State :=
  let e := s.tim.entry + 1
  let f := if s.d0 == 2 then s.lockedFreq
    else if s.d0 == 5 then s.pairFreq
    else if s.d0 == 3 then s.holdFreq + s.tim.model.drift * e / 100000 else s.tim.freq0
  let t := { s with tim := { s.tim with
    freq0 := f, entry := e,
    avg0 := some f, build := s.tim.build && s.d0 != 0 && s.d0 != 3 && !(s.d0 == 2 && f == (s.refOf s.freqSrc).freq * 10000),
    holdS := if s.rd .TIM_DPLL0_STATUS_tod_trace == 2 && !s.holdPaused then s.tim.holdS + 1 else s.tim.holdS } }
  let t := (if s.d0 == 5 then t.tick else t).learnStep
  (upTo 5).foldl (fun t j =>
    let t := t.pstepRun j
    if t.rd .TIM_DPLL_STATUS_dk_state j == 2 then
      let g := match t.dkRef j with | none => t.tim.freq0 | some i => (t.refOf i).freq * 10000
      { t with tim := { t.tim with dpll := SMap.mod {} t.tim.dpll (j + 1) (fun d => { d with freq := g }) } }
    else t) t

/-- The slew of ToD over the second that begins: while DPLL0 is LOCKED and the time error is within step_thr it goes toward zero
by at most 10 ns (R326); after a far switch the time path does not slew (R342). How much of the error the loop of bandwidth tbw
takes off in one second is not stated: a free value (log entry 175). -/
def State.timeSlew (s : State) : State :=
  match s.timeErr with
  | none => { s with tim := { s.tim with slew := 0 } }
  | some e =>
    if s.d0 != 2 || s.tim.discard || decide (10 * max 1 (s.rd .TIM_DPLL0_CTRL_step_thr) * 65536 < e.natAbs) then
      { s with tim := { s.tim with slew := 0 } }
    else
      let k := min (Config.timeLoop s.free (s.rd .TIM_DPLL0_CTRL_tbw) e) (min e.natAbs (10 * 65536))
      { s with tim := { s.tim with slew := if e < 0 then -(k : Int) else k } }.tick

/-- The second in progress ends: ToD has been slewed in it (R326). -/
def State.slewDone (s : State) : State :=
  { s with tim := { s.tim with moved := s.tim.moved + s.tim.slew, slew := 0 } }

/-- TOD_SECOND (log entry 50: the seconds left of a debug session count with it): the count passes a second boundary and may
wrap, a pending tod_set loads, PPS_OUT rises, REF11's means are formed, and the time path slews (R310, R311, R313, R314, R323, R326, R340). -/
def execTodSecond (s : State) : Host.Outcome State Fault Refusal :=
  let new := (s.tim.tod / todSec + 1) * todSec
  let t := s.slewDone.atTod new
  let t := if todMod ≤ new then t.raiseReg .TIM_EV_tod_wrap else t
  let t := t.wr .SEC_STATE_session_s 0 (t.rd .SEC_STATE_session_s - 1)
  let t := match s.tim.setPend with
    | none => t
    | some v => ({ t with tim := { t.tim with setPend := none } }.stepTod (v % 2 ^ 48 * todSec)).setTrace 0
  let t := if s.on .SYS_RST_STATUS_boot_ready then t.emit (.pps t.tim.tod) else t
  let t := (t.ttSecond.ttMean).secondPass
  let t := match t.timeErr with
    | none => t
    | some e => t.wrInt .TIM_DPLL0_STATUS_time_err 0 (errNs e)
  ok t.timeSlew.clampRefresh

/-- A time error in (-500, +500] ms, in 25 ps units (R316). -/
def fold25 (x : Int) : Int :=
  let r := x % 40000000000
  if 20000000000 < r then r - 40000000000 else r

/-- PPS_EDGE: the time error of an edge at ToD `tod` on REF0 or REF1 (R316). -/
def execPpsEdge (i : Fin 2) (tod : Nat) (s : State) : Host.Outcome State Fault Refusal :=
  let t := s.atTod tod
  ok (if s.on .TIM_REF_CFG_pps_en i then
      let edge := roundUp ((t.tim.tod % todSec : Nat) * 1000) 1638400
      (t.modRef i (fun r => { r with phase := fold25 (edge - 4 * s.rdInt .TIM_REF_CFG_in_delay i) })).measured i
    else t)

/-- The offset of an input is measured, whatever its prio, and the transmit clocks that follow it follow (R318, R332, R346); an offset
beyond ±10 ppm ends the time free of failure (R319). -/
def State.refOffset (s : State) (i : Nat) (ppb : Int) : State :=
  let s := (s.modRef i (fun r => { r with freq := ppb })).wrInt .TIM_REF_STATUS_offset i ppb
  let s := if i < 10 && decide (10000 < ppb.natAbs) then s.wr .TIM_REF_STATUS_wtr_run i 0 else s
  s.clampRefresh

/-- REF_FAIL (R318, R340). -/
def execRefFail (i : RefId) (why : RefFault) (s : State) : Host.Outcome State Fault Refusal :=
  ok (if !s.hasRef i then s
    else
      let s := s.qualRefresh
      let s := match why with
        | .freq ppb => s.refOffset i ppb
        | _ => s
      if s.faultHolds i why then s.refFail i (faultCode why) else s)

/-- REF_QUALIFY: free of failure for `secs` without a break, at an offset of `ppb`; until wtr has passed the count runs
(R319). -/
def execRefQualify (i : RefId) (ppb : Int) (secs : Nat) (s : State) : Host.Outcome State Fault Refusal :=
  ok (if !s.hasRef i || s.on .TIM_REF_STATUS_qualified i then s
    else
      let s := s.qualRefresh.refOffset i ppb
      if s.refNoQual i || s.refInactive i || (decide (i.val < 10) && decide (10000 < ppb.natAbs)) then s.wr .TIM_REF_STATUS_wtr_run i 0
      else
        if secs < (if (s.refOf i).ever then s.rd .TIM_SEL_CTRL_wtr else 10) then s.wr .TIM_REF_STATUS_wtr_run i 1
        else
          let s := s.wrs [(.TIM_REF_STATUS_qualified, i, 1), (.TIM_REF_STATUS_wtr_run, i, 0), (.TIM_REF_STATUS_fail, i, 0)]
          ((s.modRef i (fun r => { r with ever := true })).raiseReg .TIM_EV_ref_chg 0 { obj := i }).timSelect)

/-- D0_LOCK: the error has stayed within lock_thr for 4 s; `k` is the DPLL (R324, R329). -/
def execD0Lock (k : Fin 6) (s : State) : Host.Outcome State Fault Refusal :=
  ok (if k.val = 0 then if s.d0 == 1 then s.setD0 2 else s
    else if s.rd .TIM_DPLL_STATUS_dk_state (k - 1) == 1 then s.wr .TIM_DPLL_STATUS_dk_state (k - 1) 2 else s)

/-- D0_UNLOCK: the error has been above 4 × lock_thr for 1 s; `k` is the DPLL (R324, R329). -/
def execD0Unlock (k : Fin 6) (s : State) : Host.Outcome State Fault Refusal :=
  ok (if k.val = 0 then if s.d0 == 2 then s.setD0 1 else s
    else if s.rd .TIM_DPLL_STATUS_dk_state (k - 1) == 2 then s.wr .TIM_DPLL_STATUS_dk_state (k - 1) 1 else s)

/-- A write of 1 to tod_set captures the seconds registers (R314, R336). -/
def State.todSet (s : State) : State :=
  let s := s.setTrace 0
  let v := s.rd .TIM_TOD_SEC_HI_sec_hi * 2 ^ 32 + s.rd .TIM_TOD_SEC_LO_sec_lo
  { s with tim := { s.tim with setPend := some v } }

/-- A write of loop_open (R324, R328). -/
def State.loopOpenWrite (s : State) (rq : Requester) (v : Bool) : State :=
  if !s.privileged rq then s.raiseReg .TIM_EV_priv_drop
  else
    let t := s.wr .TIM_DPLL0_CTRL_loop_open 0 (b2n v)
    if v && s.d0 != 4 && s.d0 != 5 then t.setD0 4
    else if !v && s.d0 == 4 then t.d0Resume
    else t

/-- TOD_PHASE_STEP: |e| has been above step_thr for 1 s; ToD steps by e, in 2^-16 ns (R313, R327, R328, R342). -/
def execTodPhaseStep (e : Int) (s : State) : Host.Outcome State Fault Refusal :=
  ok (if s.timeSrc != 15 && s.d0 != 4 && s.d0 != 5 && !s.tim.discard
      && decide (10 * max 1 (s.rd .TIM_DPLL0_CTRL_step_thr) * 65536 < e.natAbs) then
      (s.stepTod (todAdd s.tim.tod e)).wrInt .TIM_DPLL0_STATUS_time_err 0 0
    else s)

/-- The step remainder of DPLLk after a write of pstep, clamped to ±1 ms (R330): what is left of it, plus the step. -/
def State.dpllPstep (s : State) (j : Nat) (ps : Int) : State :=
  let s := s.pstepRun j
  let r := clampInt (-1000000000) 1000000000 ((SMap.get {} s.tim.dpll (j + 1)).rem + ps)
  (({ s with tim := { s.tim with dpll := SMap.mod {} s.tim.dpll (j + 1) (fun d => { d with rem := r }) } }).wr
    .TIM_DPLL_STATUS_step_busy j (b2n (r != 0))).clkRefresh

/-- PSTEP_DONE: the remainder of DPLL k + 1 has reached zero, and the output phase has moved by it (R330). -/
def execPstepDone (k : Fin 5) (s : State) : Host.Outcome State Fault Refusal :=
  let done := SMap.mod {} s.tim.dpll (k + 1) (fun d => { d with rem := 0, phase := d.phase + d.rem })
  let s := { s with tim := { s.tim with dpll := done } }
  ok (s.wr .TIM_DPLL_STATUS_step_busy k 0).clkRefresh

/-- The model as learned so far, in the block or over time that no TOD_SECOND stands for (R333). -/
def State.learned (s : State) (m : ModelObs) : Model :=
  { valid := true, mean := m.mean.getD s.learnedMean, drift := m.drift.getD s.learnedDrift }

/-- MODEL_READY: 30 min of learning without a break (R333). -/
def execModelReady (m : ModelObs) (s : State) : Host.Outcome State Fault Refusal :=
  ok (if s.learning then
      { s.wr .TIM_DPLL0_STATUS_model_ready 0 1 with
        tim := { s.tim with model := s.learned m } }
    else s)

/-- MODEL_SAVE: once per second the learned model goes to the cellar (R333). -/
def execModelSave (m : ModelObs) (s : State) : Host.Outcome State Fault Refusal :=
  ok (if s.learning && s.on .TIM_DPLL0_STATUS_model_ready then
      let v := s.learned m
      { s with tim := { s.tim with model := v }, cel := { s.cel with model := v } }
    else s)

/-- TRACE_ACQUIRE: |e| has been within lock_thr for 4 s (R336). -/
def execTraceAcquire (e : Int) (s : State) : Host.Outcome State Fault Refusal :=
  ok (let q := s.srcQual s.timeSrc
    if (q == 1 || q == 2) && s.d0 == 2 && decide (e.natAbs ≤ max 1 (s.rd .TIM_DPLL0_CTRL_lock_thr) * 65536)
      && s.rd .TIM_DPLL0_STATUS_tod_trace != 1 then s.setTrace 1
    else s)

/-- HOLD_EXPIRE: the hold timer has reached hold_limit (R336). -/
def execHoldExpire (s : State) : Host.Outcome State Fault Refusal :=
  ok (if s.rd .TIM_DPLL0_STATUS_tod_trace == 2 && s.d0 != 5
      && decide (60 * max 1 (s.rd .TIM_SEL_CTRL_hold_limit) ≤ s.tim.holdS) then
      (s.setTrace 3).raiseReg .TIM_EV_hold_expired
    else s)

end Sys2Proof.Machine
end

