-- ==== Sys2Proof/Machine/RegOps.lean ====
section
/-! DEFINITION. Register writes by address: decoding, the plain fields, and the writes that a pair mirrors
(17_register_map.md R536 to R541; 08_pair_protection.md R277, R282, R285). -/
namespace Sys2Proof.Machine

/-! ### Addresses (R536) -/

/-- The register and instance at an address. -/
def regAt (addr : Nat) : Option (Rg × Nat) := Rg.all.findSome? (fun r => (r.at addr).map (fun i => (r, i)))

/-- Byte address of a register. -/
def Rg.addr (r : Rg) (i : Nat) : Nat := r.info.base + i * r.info.stride

/-- Bits [23:16] of a register's address: the block of the windows below 0x0010_0000. -/
def Rg.block (r : Rg) : Nat := r.info.base / 65536

/-- Registers of a line engine's window. -/
def Rg.isLe (r : Rg) : Bool := decide (0x100000 ≤ r.info.base) && decide (r.info.base < 0x800000)

/-- The register belongs to a resource that the SKV-4800-2 lacks (00_scope.md R2, R3): such a register reads 0 and
writes to it have no effect. -/
def State.absentReg (s : State) (r : Rg) (i : Nat) : Bool :=
  s.fuse.part == .skv4800 &&
    (((r.isLe || r == .CIPH_ENG_CTRL || r == .CIPH_ENG_DAUTH_LO || r == .CIPH_ENG_DAUTH_HI || r == .PLACE_ENG_STATUS
        || r == .PLACE_ENG_RX || r == .TIM_TT_CFG || r == .TIM_TT_NU || r == .CAL_ENG_STATUS || r == .PAIR_SKEW
        || r == .HOST_OHB_BIND) && decide (2 ≤ i))
      || ((r == .CLI_PORT_CFG || r == .CLI_PORT_ODU_RATE || r == .CLI_PORT_STATUS) && decide (32 ≤ i))
      || ((r == .TIM_REF_CFG || r == .TIM_REF_STATUS) && (i == 8 || i == 9))
      || (r == .TIM_PORT_DPLL && decide (4 ≤ i)))

/-- A write names a resource that the SKV-4800-2 lacks, LE2, LE3, P32 to P63, REF8 or REF9 (00_scope.md R3): it is refused
and changes nothing. Staged fields are not judged here but by MODE_SET (02_modes.md R58), and eng_mask, which names every
engine at reset, is limited to the engines there are unless it names none of them. -/
def State.namesAbsent (s : State) (r : Rg) (i val : Nat) : Bool :=
  s.fuse.part == .skv4800 &&
    match r with
    | .TIM_DPLL_CTRL => val % 16 == 8 || val % 16 == 9
    | .TIM_TT_CTRL => decide (2 ≤ val % 4)
    | .TIM_REF_CFG => decide (2 ≤ i) && decide (i ≤ 5) && decide (32 ≤ fieldOf val 12 6)
    | .FAB_GRP_CTRL => fieldOf val 14 2 != 0
    | .PLACE_TRIB_POL => fieldOf val 4 2 == 0 && fieldOf val 6 2 != 0
    | .PWR_WAKE_CFG => fieldOf val 4 4 != 0
    | .PWR_WAKE_TX => fieldOf val 2 2 != 0 || (val.testBit 10 && decide (32 ≤ fieldOf val 4 6))
    | _ => false

/-! ### Plain fields (R537, R538) -/

/-- The RW fields of a register but for some of them take their parts of a word. -/
def State.writeRw (s : State) (r : Rg) (i val : Nat) (but : List Fld := []) : State :=
  (r.fields.filter (fun f => f.info.acc == .rw && !but.contains f)).foldl (fun t f => t.wr f i (f.part val)) s

/-- What a pair mirrors of a write: the RW fields as the write leaves them, and kp_flip where it takes effect (08 R277; 10 R367). -/
def State.mirrorWord (s : State) (r : Rg) (i : Nat) (flips : Bool) : Nat :=
  (r.fields.filter (fun f => f.info.acc == .rw)).foldl (fun a f => a + s.rd f i * 2 ^ f.info.lo)
    (if flips then 32 else 0)

/-- The W1C fields of a register but for some of them are cleared by the ones of a word. -/
def State.writeW1c (s : State) (r : Rg) (i val : Nat) (but : List Fld := []) : State :=
  (r.fields.filter (fun f => f.info.acc == .w1c && !but.contains f)).foldl
    (fun t f => t.wr f i (t.rd f i - (t.rd f i &&& f.part val))) s

/-! ### Mirrored registers (08 R277) -/

/-- The writes of a register are mirrored: it lies in LEn, FAB, CLI, PLACE, TIM or PERF, or is CIPH_ENGn_CTRL or
CIPH_TRIBMAPm, and has a field to mirror. -/
def Rg.mirrored (r : Rg) : Bool :=
  (r.isLe || [3, 6, 9, 10, 11].contains r.block || r == .CIPH_ENG_CTRL || r == .CIPH_TRIBMAP)
    && r.fields.any (fun f => f.info.acc == .rw || f == .CIPH_ENG_CTRL_kp_flip)

/-- The engine whose boundary-applied fields a register holds. -/
def Rg.boundary (r : Rg) : Bool := r == .LE_TX_CTRL || r == .CIPH_ENG_CTRL

/-- A write of LEn_TX_CTRL: a new roll-off goes to its shadow, tx_mute acts at once (03 R83, R84; 01 R22). -/
def State.txCtrlWrite (s : State) (n val : Nat) (target : Option Nat) : State :=
  let same := s.rd .LE_TX_CTRL_rolloff n == fieldOf val 0 2
  let s := s.writeRw .LE_TX_CTRL n val
  (if same then s else s.addShadow n .rolloff (fieldOf val 0 2) target).txRefresh n

/-- A write of the thresholds of sig_present restarts the count of windows, from the first that starts after it (03 R86). -/
def State.sigThrWrite (s : State) (n val : Nat) : State :=
  (s.writeRw .LE_SIG_THR n val).modAcq n (fun a => { a with sigHi := 0, sigLo := 0, sigSkip := true })

/-- A write of CIPH_ENGn_CTRL (10 R356, R367; 01 R22). -/
def State.ciphCtrlWrite (s : State) (n val : Nat) (target : Option Nat) : State :=
  let same := s.rd .CIPH_ENG_CTRL_end_sel n == fieldOf val 4 1
  let s := s.writeRw .CIPH_ENG_CTRL n val
  let s := if same then s else s.addShadow n .endSel (fieldOf val 4 1) target
  if val.testBit 5 then s.kpFlip n target else s

/-- A write of FAB_GRPg_CTRL (06 R223). -/
def State.grpCtrlWrite (s : State) (g val : Nat) : State :=
  let s := s.writeRw .FAB_GRP_CTRL g val [.FAB_GRP_CTRL_bins_req]
  if s.rd .FAB_GRP_CTRL_bins_req g == fieldOf val 0 9 then s else s.binsWrite g (fieldOf val 0 9)

/-- A write of TIM_DPLL0_CTRL; its loop_open is dropped from a requester that may not write it (09 R328). -/
def State.d0CtrlWrite (s : State) (rq : Requester) (val : Nat) : State :=
  let s := s.writeRw .TIM_DPLL0_CTRL 0 val [.TIM_DPLL0_CTRL_loop_open]
  s.loopOpenWrite rq (val.testBit 0)

/-- A write of TIM_DPLL0_FWORD sets the frequency while DPLL0 is OPEN (09 R328). -/
def State.fwordWrite (s : State) (val : Nat) : State :=
  let s := s.writeRw .TIM_DPLL0_FWORD 0 val
  if s.d0 == 4 then { s with tim := { s.tim with freq0 := s.rdInt .TIM_DPLL0_FWORD_fword } }.clampRefresh else s

/-- A write of TIM_TT_CTRL (log entry 19). -/
def State.ttCtrlWrite (s : State) (val : Nat) : State :=
  let was := s.ttEngine
  let s := s.writeRw .TIM_TT_CTRL 0 val
  if s.ttEngine == was then s else s.ttRestart.timSelect

/-- The effect of a write on the mirrored fields of a mirrored register; `target` is the PSC of its boundary-applied
fields in a pair (08 R277, R282). -/
def State.mirroredWrite (s : State) (rq : Requester) (r : Rg) (i val : Nat) (target : Option Nat) : State :=
  match r with
  | .LE_TX_CTRL => s.txCtrlWrite i val target
  | .LE_SIG_THR => s.sigThrWrite i val
  | .LE_FEC_CTRL => (s.writeRw r i val [.LE_FEC_CTRL_fec_test]).fecTestWrite i (val.testBit 4)
  | .LE_FRM_CTRL => (s.writeRw r i val).pinRefresh i
  | .CIPH_ENG_CTRL => s.ciphCtrlWrite i val target
  | .FAB_GRP_CTRL => s.grpCtrlWrite i val
  | .TIM_SEL_CTRL | .TIM_REF_CFG => (s.writeRw r i val).timSelect
  | .TIM_DPLL0_CTRL => s.d0CtrlWrite rq val
  | .TIM_DPLL0_FWORD => s.fwordWrite val
  | .TIM_DPLL_CTRL => (s.writeRw r i val).dkRefresh i
  | .TIM_TT_CTRL => s.ttCtrlWrite val
  | .PERF_CNT_SEL => s.latchCounter val
  | .TIM_PORT_DPLL => (s.writeRw r i val).clkRefresh
  | _ => s.writeRw r i val

/-- A write of a mirrored register by the host or a local master: dropped in SHADOW where the host makes it, mirrored by
the ACTIVE with the generation of the group it names (08 R277, R282, R284, R285). -/
def State.mirroredHostWrite (s : State) (rq : Requester) (r : Rg) (i val : Nat) : State :=
  let target := if r.boundary then s.newTarget i else none
  let eng := if r.isLe || r == .CIPH_ENG_CTRL then i else 0xFF
  let gen := if r == .FAB_GRP_CTRL then s.rd .FAB_GRP_CTRL_grp_gen i * 2 ^ Fld.FAB_GRP_CTRL_grp_gen.info.lo else 0
  let flips := r == .CIPH_ENG_CTRL && val.testBit 5 && s.kpFlips i
  let s := s.mirroredWrite rq r i val target
  s.mirrorReg eng (target.getD 0) (r.addr i) (s.mirrorWord r i flips + gen)

end Sys2Proof.Machine
end

