-- ==== Sys2Proof/Machine/HostLink.lean ====
section
/-! DEFINITION. Meanings of the events of the PCIe link (11_host_rings.md R373 to R377, R408, R409). -/
namespace Sys2Proof.Machine

/-- The link registers read as with the link down (R409). -/
def State.linkRegsDown (s : State) : State :=
  s.wrs [(.HOST_LINK_speed, 0, 0), (.HOST_LINK_width, 0, 0), (.HOST_LINK_flit, 0, 0), (.HOST_LINK_link_up, 0, 0)]

/-- PCIE_LINK_DOWN (R408). -/
def execPcieLinkDown (s : State) : Host.Outcome State Fault Refusal := ok s.linkRegsDown.linkLoss

/-- PCIE_HOT_RESET (R408). -/
def execPcieHotReset (s : State) : Host.Outcome State Fault Refusal := ok s.linkRegsDown.linkLoss

/-- PCIE_FLR (R408); the link stays up. -/
def execPcieFlr (s : State) : Host.Outcome State Fault Refusal := ok s.linkLoss

/-- PCIE_LINK_UP (R409). -/
def execPcieLinkUp (speed width : Nat) (flit : Bool) (s : State) : Host.Outcome State Fault Refusal :=
  ok (s.wrs [(.HOST_LINK_speed, 0, speed), (.HOST_LINK_width, 0, width), (.HOST_LINK_flit, 0, b2n flit),
    (.HOST_LINK_link_up, 0, 1)])

end Sys2Proof.Machine
end

