-- ==== Sys2Proof/Machine/Place.lean ====
section
/-! DEFINITION. Meanings of the events of the placement engine (07_placement.md; 01_architecture.md R25 to R28). -/
namespace Sys2Proof.Machine

/-! ### The placement channel (R244 to R248) -/

/-- The placement-channel block of an engine; MARGIN and WIN0 are the registers as
they stand, MAN is the next map while the transmit stages do not use it yet (R244). Its CRC
is laid out by 00_scope.md R568. -/
def State.placeBlock (s : State) (n : Nat) : List Byte :=
  let k := s.skOf n
  let rx := s.rd .PLACE_ENG_RX_rx_mismatch n * 0x8000 + (s.rxOf n).map.gen
  let man := k.man.filter (fun m => m.gen != (s.txOf n).map.gen)
  let ready := if s.on .PLACE_ENG_RX_ready_valid n then 0x8000 + s.rd .PLACE_ENG_RX_ready_gen n else 0
  let body := [0x5A, 0x7E, 0x01]
    ++ beBytes 1 (s.rd .LE_FEC_STATUS_fec_excess n + 2 * s.rd .LE_STATUS_dsp_lock n)
    ++ beBytes 4 (s.regVal .LE_MARGIN n) ++ beBytes 4 (s.regVal .LE_FEC_WIN0 n) ++ beBytes 2 ready ++ beBytes 2 rx
    ++ (match man with
        | some m => beBytes 2 (0x8000 + m.gen) ++ beBytes 1 m.rate
        | none => [0, 0, 0])
    ++ beBytes 1 k.ownRseq
    ++ (match man with | some m => slotTable m | none => List.replicate 960 0)
    ++ List.replicate 1064 0
  body ++ leBytes 4 (crc32 body)

/-- SIG and VER match, the CRC passes and no byte is marked (R245). -/
def blockValid (b : List Byte) (mark : Bool) : Bool :=
  !mark && b.length == 2048 && slice b 0 3 == [0x5A, 0x7E, 0x01]
    && crc32 (slice b 0 2044) == fromLE (slice b 2044 4)

/-- GCC0 of an engine is the placement channel (R244). -/
def State.hasChan (s : State) (n : Nat) : Bool :=
  s.hasEng n && s.skActs && s.lpn n && !s.on .LE_FRM_CTRL_ohb_gcc_en n

/-- What bytes 0 to 19 of a valid block say of the channel, READY and DONE (R245, R249). -/
def State.blockNote (s : State) (n : Nat) (b : List Byte) : State :=
  let s := s.modSk n (fun k => { k with okRun := min 8 (k.okRun + 1), farReady := fromBE (slice b 12 2),
                                        farDone := some (fromBE (slice b 14 2)), lastBlk := b.take 20 })
  let s := s.mkDone n (fromBE (slice b 14 2))
  if (s.skOf n).okRun == 8 && !s.on .PLACE_ENG_STATUS_chan_up n then
      ((s.wr .PLACE_ENG_STATUS_chan_up n 1).pinRefresh n).resyncDue n
    else s

/-- Bytes 0 to 19 of a valid block: the channel, READY and DONE, the reading (R245, R249, R255). -/
def State.blockInput (s : State) (n : Nat) (b : List Byte) : State := (s.blockNote n b).reading n b

/-- The far end's next map of a valid block goes to the receive shadows (R248). -/
def State.manTake (s : State) (n : Nat) (b : List Byte) : State :=
  let man := fromBE (slice b 16 2)
  let g := man % 4096
  if 0x8000 ≤ man && g != (s.rxOf n).map.gen && ((s.rxOf n).next.map (·.gen)) != some g then
    s.modRx n (fun x => { x with loading := some (s.slotsOf g (byteAt b 18 % 32) (slice b 20 960)) })
  else s

/-- The switch machine on a valid block; DONE as it is taken in HELD stands for the far end's report of a marker outstanding
(R249, 01_architecture.md R28, log entry 170). -/
def State.blockSwitch (s : State) (n : Nat) : State :=
  let k := s.skOf n
  let done := k.farDone.getD 0
  let st := s.swState n
  if st == 1 then s.tryIssue n
  else if st == 2 then
    if 0x8000 ≤ done && k.man.any (fun m => m.gen != done % 4096) then s.resync n else s.tryDone n
  else if st == 3 && s.on .PLACE_ENG_STATUS_chan_up n then
    let t := ((s.modSk n (fun k => { k with mkFar := true })).mkTidy n).stepClose n
    if done % 4096 == t.rd .PLACE_ENG_STATUS_tx_gen n then t.setSw n 0
    else if t.modeNow == 5 then (t.resync n).setSw n 0
    else t.resync n
  else s

/-- PLACE_CHAN_DOWN: 64 superframes without a valid block (R245). -/
def execPlaceChanDown (n : Eng) (s : State) : Host.Outcome State Fault Refusal :=
  ok (if s.hasEng n then s.chanDown n else s)

/-- PLACE_RX_SHADOW_LOADED: the slot table is in the receive shadows and READY is set; entries that name a tributary not
in service are loaded as unassigned and counted (R237, R248). -/
def execPlaceRxShadowLoaded (n : Eng) (s : State) : Host.Outcome State Fault Refusal :=
  ok (match (s.rxOf n).loading with
    | none => s
    | some m =>
      let bad := m.tab.countP (fun kv => !s.tribOn kv.2.trib)
      let m := { m with tab := m.tab.filter (fun kv => s.tribOn kv.2.trib) }
      let s := s.modRx n (fun x => { x with loading := none, next := some m })
      let s := s.wrs [(.PLACE_ENG_RX_ready_gen, n, m.gen), (.PLACE_ENG_RX_ready_valid, n, 1)]
      if bad == 0 then s else s.count (cEng n 19) bad)

/-! ### The switch machine (R249) -/

/-- SW_START: pending work on an unpinned idle engine (R239, R249, R261). -/
def execSwStart (n : Eng) (s : State) : Host.Outcome State Fault Refusal :=
  ok (if s.hasEng n && s.lpn n && s.swState n == 0 && !s.pinned n then
      let t := s.resyncDue n
      if t.swState n == 0 then t.swKick else t
    else s)

/-- The machine goes to HELD on a timeout (R249). -/
def State.swHeld (s : State) (n : Nat) : State :=
  (s.raiseReg .PLACE_EV_timeout 0 { obj := n }).setSw n 3

/-- SW_READY_TIMEOUT (R249). -/
def execSwReadyTimeout (n : Eng) (s : State) : Host.Outcome State Fault Refusal :=
  ok (if s.hasEng n && s.swState n == 1 then ((s.withdraw n).stepClose n).swHeld n else s)

/-- SW_SWITCH_TIMEOUT (R249). -/
def execSwSwitchTimeout (n : Eng) (s : State) : Host.Outcome State Fault Refusal :=
  ok (if s.hasEng n && s.swState n == 2 then s.swHeld n else s)

/-- A local stage reports RANGE: MAN is withdrawn, the generation stays used (R249, 03_line_engine.md R80). -/
def State.swRange (s : State) (n : Nat) : State :=
  let s := (s.withdraw n).modSk n (fun k => { k with want := 0, work := 0, plan := if k.work == 1 then none else k.plan })
  (s.raiseReg .PLACE_EV_range 0 { obj := n }).setSw n 0

/-- A marker is outstanding that a local stage has not reported yet (01_architecture.md R28). -/
def State.mkAwaits (s : State) (n : Nat) (st : MapStage) : Bool := (s.skOf n).markerOut && !(s.skOf n).mkRep.contains st

/-- A stage that mismatched a marker which the others applied keeps the map it had (01_architecture.md R27). -/
def State.stageKeep (s : State) (n : Nat) (st : MapStage) : State :=
  if (s.txOf n).marker.isNone && (s.skOf n).mkGen == (s.txOf n).map.gen then
    s.modTx n (fun x => { x with kept := SMap.set none x.kept st.ctorIdx (some x.mapOld) })
  else s

/-- A report of a local stage that agrees with what the stage holds (R25, R249; 01_architecture.md R27, R28). -/
def State.stageReport (s : State) (n : Nat) (st : MapStage) : StageRep → State
  | .loaded =>
    if s.swState n == 1 && ((s.txOf n).next.map (·.gen)) == ((s.skOf n).man.map (·.gen)) then
      if !(s.txOf n).next.any (fun m => rateOk (s.prof n) m.rate) then s.swRange n
      else (s.modSk n (fun k => { k with loaded := if k.loaded.contains st then k.loaded else k.loaded ++ [st] })).tryIssue n
    else s
  | .range => if s.swState n == 1 then s.swRange n else s
  | .applied =>
    if !s.mkAwaits n st || (s.txOf n).marker.isSome || (s.skOf n).mkCnt then s
    else
      let s := s.mkLocal n st
      if s.swState n == 2 then
        (s.modSk n (fun k => { k with applied := if k.applied.contains st then k.applied else k.applied ++ [st] })).tryDone n
      else s.tryIssue n
  | .mismatch =>
    if !s.mkAwaits n st then s
    else
      let s := (if (s.skOf n).mkCnt then s else (s.stageKeep n st).mkStale n st.ctorIdx).mkLocal n st
      if s.swState n == 2 then s.resync n else s.tryIssue n

/-! ### A marker at an engine that is not framing (01_architecture.md R570) -/

/-- MARKER_APPLY_NOT_FRAMING (R570). -/
def execMarkerApplyNotFraming (n : Eng) (s : State) : Host.Outcome State Fault Refusal :=
  ok (match (s.txOf n).marker with
    | some (g, _) =>
      if (s.txOf n).on then s
      else
        let ok := (s.txOf n).next.any (fun m => m.gen == g)
        let t := s.modTx n (fun x => { x with marker := none, mkResume := x.mkResume || ok })
        t.markerMeet n g
    | none => s)

/-- IDLE_SHADOW_APPLY: boundary-applied fields of an engine that is not framing, once CORE runs (R24, 13_calibration.md R451;
17_register_map.md R542). -/
def execIdleShadowApply (n : Eng) (s : State) : Host.Outcome State Fault Refusal :=
  ok (if s.hasEng n && s.awake && !(s.txOf n).on then s.applyAllShadows n else s)

end Sys2Proof.Machine
end

