-- ==== Sys2Proof/Machine/ModeCheck.lean ====
section
/-! DEFINITION. The target combination of a mode request and the checks it meets, in their order (02_modes.md R33 to R61;
06_tributary_mapping.md R194 to R199, R215; 10_cipher.md R364). -/
namespace Sys2Proof.Machine

/-! ### Staged settings (R36, R37) -/

/-- The staged settings as they stand; the code rate counts for nothing on an engine that is OUT or on an interoperable
profile (04 R124), the cipher use counts on every engine (R49, log entry 151). -/
def State.staged (s : State) : Staged :=
  let prof := (upTo 4).map (fun n => if s.hasEng n then s.rd .LE_PROFILE_prof_staged n else 0)
  let ports := (upTo 64).foldl (fun m p =>
    let typ := s.rd .CLI_PORT_CFG_type_staged p
    if typ == 0 then m
    else SMap.set {} m p { typ := typ,
                           cfg := { width := s.rd .CLI_PORT_CFG_width p, lane := s.rd .CLI_PORT_CFG_lane_mode p,
                                    head := if typ == 6 then s.rd .CLI_PORT_CFG_flexe_head p else 0,
                                    odu := if typ == 8 then s.rd .CLI_PORT_ODU_RATE_odu_rate p else 0 } }) []
  let bindFld := fun (t : Nat) => ([(Fld.CIPH_TRIBMAP_locker0, Fld.CIPH_TRIBMAP_bind_en0), (.CIPH_TRIBMAP_locker1, .CIPH_TRIBMAP_bind_en1),
    (.CIPH_TRIBMAP_locker2, .CIPH_TRIBMAP_bind_en2), (.CIPH_TRIBMAP_locker3, .CIPH_TRIBMAP_bind_en3)][t % 4]?).getD
      (.CIPH_TRIBMAP_locker0, .CIPH_TRIBMAP_bind_en0)
  let on := s.ringsWith .FAB_TRIB_CFG_src_kind 1 ++ s.ringsWith .FAB_TRIB_CFG_src_kind 2 ++ s.ringsWith .FAB_TRIB_CFG_src_kind 3
  let tribs := on.foldl (fun m t =>
    SMap.set {} m t { cfg := { kind := s.rd .FAB_TRIB_CFG_src_kind t, port := s.rd .FAB_TRIB_CFG_src_port t,
                               fx := s.rd .FAB_TRIB_CFG_fx_client_id t, carrier := s.rd .FAB_TRIB_CFG_carrier t },
                      bind := if s.on (bindFld t).2 (t / 4) then some (s.rd (bindFld t).1 (t / 4)) else none }) []
  { prof := prof, use := (upTo 4).map (fun n => if s.hasEng n then s.rd .CIPH_ENG_CTRL_use_staged n else 0),
    rate := prof.zipIdx.map (fun (p, n) => if isLpn p then s.rd .LE_FEC_CTRL_rate_staged n else 0),
    ports := ports, tribs := tribs }

/-- The settings in force, in the same form. -/
def State.inForce (s : State) : Staged :=
  { prof := (upTo 4).map (fun n => s.prof n), use := (upTo 4).map (fun n => s.rd .CIPH_ENG_CTRL_use_active n),
    rate := (upTo 4).map (fun n => s.rd .LE_FEC_CTRL_rate_active n),
    ports := (upTo 64).foldl (fun m p =>
      if s.typeOf p == 0 then m else SMap.set {} m p { typ := s.typeOf p, cfg := (s.portOf p).cfg }) [],
    tribs := s.activeTribs.foldl (fun m t => SMap.set {} m t { cfg := (s.tribOf t).cfg, bind := (s.tribOf t).bind }) [] }

def stProf (x : Staged) (n : Nat) : Nat := x.prof.getD n 0
def stUse (x : Staged) (n : Nat) : Nat := x.use.getD n 0
def stRate (x : Staged) (n : Nat) : Nat := x.rate.getD n 0
def stPort (x : Staged) (p : Nat) : PortPlan := SMap.get {} x.ports p

/-! ### Tributaries and carriers as staged -/

/-- Instances of the FOIC of an ODUFLEX port (R195): FOIC1.4, FOIC2.4, FOIC4.8. -/
def foicInst (c : PortCfg) : Nat := if c.width == 3 then 4 else if c.lane == 1 then 2 else 1

/-- Slots of an ODUFLEX of a rate in kb/s (06 R198). -/
def oduSlots (r : Nat) : Nat := (r * 72 * 1000125 + 4 * 10 ^ 13 + 36 * 10 ^ 13 - 1) / (36 * 10 ^ 13)

/-- Slots a tributary asks for (06 R195, R197 to R199); a FlexE client's rate is that of the calendar in use. -/
def State.slotsFor (s : State) (x : Staged) (c : TribCfg) : Nat :=
  let p := stPort x c.port
  match p.typ with
  | 1 => 20
  | 2 => 40
  | 3 => 80
  | 4 => 160
  | 5 => 320
  | 6 => SMap.get 0 (s.portOf c.port).cal c.fx / 5
  | 7 => 22
  | 8 => oduSlots p.cfg.odu
  | _ => 0

/-- Members that a group may have by its member_mask, of the engines staged on LP-N profiles, ascending. -/
def State.maskMembers (s : State) (x : Staged) (g mask : Nat) : List Nat :=
  (upTo s.engines).filter (fun n => (s.rd .FAB_GRP_CTRL_member_mask g).testBit n && mask.testBit n && isLpn (stProf x n))

/-- Engines a carrier field names: one engine, or those of a group's member_mask (R47). -/
def State.carrierEngs (s : State) (c : Nat) : List Nat :=
  if c < 4 then [c]
  else if 0x40 ≤ c then (upTo 4).filter (fun n => (s.rd .FAB_GRP_CTRL_member_mask (c - 0x40)).testBit n)
  else []

/-- The interoperable engine whose tributary `t` is in MUXPONDER (R44). -/
def State.ozOf (s : State) (x : Staged) (t : Nat) : Option Nat :=
  let m := (upTo s.engines).filter (fun n => (s.rd .PLACE_TRIB_POL_eng_mask t).testBit n && stProf x n != 0)
  if m.any (fun n => isLpn (stProf x n)) then none else m.find? (fun n => isOz (stProf x n))

/-- Engines a tributary may ride (10 R364). -/
def State.mayRide (s : State) (x : Staged) (mode t : Nat) (c : TribCfg) : List Nat :=
  (if mode == 2 then (upTo 4).filter (fun n => (s.rd .PLACE_TRIB_POL_eng_mask t).testBit n) else s.carrierEngs c.carrier).filter
    (fun n => stProf x n != 0)

/-! ### Findings (R58 to R61) -/

/-- Why a request fails: reason, object, object kind. -/
structure ModeErr where
  reason : Nat := 0
  obj : Nat := 0xFF
  kind : Nat := 0
deriving DecidableEq, Repr

/-- The device as the object. -/
def errDev (reason : Nat) : Option ModeErr := some { reason := reason }
/-- The first engine for which a check fails. -/
def errEng (reason : Nat) (bad : Nat → Bool) : Option ModeErr :=
  ((upTo 4).find? bad).map (fun n => { reason := reason, obj := n, kind := 1 })
/-- The first port for which a check fails. -/
def errPort (reason : Nat) (bad : Nat → Bool) : Option ModeErr :=
  ((upTo 64).find? bad).map (fun p => { reason := reason, obj := p, kind := 2 })
/-- The first locker for which a check fails. -/
def errLock (reason : Nat) (bad : Nat → Bool) : Option ModeErr :=
  ((upTo 64).find? bad).map (fun l => { reason := reason, obj := l, kind := 3 })
/-- The device, if a check fails. -/
def errIf (reason : Nat) (bad : Bool) : Option ModeErr := if bad then errDev reason else none

/-- The detail word of R61. -/
def State.modeDetail (s : State) (e : ModeErr) (mode role : Nat) : Nat :=
  e.reason * 2 ^ 24 + e.obj * 2 ^ 16 + mode % 16 * 2 ^ 12 + role % 4 * 2 ^ 10 + s.modeNow * 2 ^ 6 + s.role * 2 ^ 4 + e.kind

/-- Legal combinations of mode and role (R33, R35). -/
def roleLegal (mode role : Nat) : Bool :=
  if mode == 0 || mode == 4 then role == 0 else if mode == 5 then role == 2 else decide (role ≤ 1)

/-- X or Y of R63: TRANSPONDER, MUXPONDER, REGENERATOR. -/
def isX (m : Nat) : Bool := decide (1 ≤ m) && decide (m ≤ 3)

/-- A step of the transition table (R63); `chg`: a staged field differs from what is in force. -/
def State.stepLegal (s : State) (mode role : Nat) (chg : Bool) : Bool :=
  let m := s.modeNow
  let r := s.role
  if m == 0 then (isX mode && role == 0) || mode == 4 || mode == 5
  else if isX m then
    if mode == 0 then r == 0
    else if mode == m then if role == r then chg else true
    else role == r && isX mode && m != 3 && mode != 3
  else mode == 0

/-! ### Checks of the staged settings -/

/-- R3: a staged field names a resource absent on the variant. -/
def State.checkAbsent (s : State) (x : Staged) : Option ModeErr :=
  let tribs := x.tribs.map (·.2.cfg)
  (errEng 9 (fun n => !s.hasEng n && tribs.any (fun c => (s.carrierEngs c.carrier).contains n))).orElse fun _ =>
  errPort 9 (fun p => !s.hasPort p && ((stPort x p).typ != 0 || tribs.any (fun c => c.port == p))
    || (stPort x p).typ == 6 && !s.hasPort (stPort x p).cfg.head)

/-- R44: the OZ tributaries of engine `n` break a rule. -/
def State.ozBad (s : State) (x : Staged) (n : Nat) : Bool :=
  let l := x.tribs.filter (fun kv => s.ozOf x kv.1 == some n)
  decide ((if stProf x n == 2 then 4 else 8) < l.length)
    || l.any (fun kv => kv.2.cfg.kind != 1 || (stPort x kv.2.cfg.port).typ != 1)

/-- R42 to R45, R74, R124 on one engine. -/
def State.profBad (s : State) (x : Staged) (mode n : Nat) : Bool :=
  let p := stProf x n
  let carried := (x.tribs.filter (fun kv => kv.2.cfg.carrier == n)).map (fun kv => (stPort x kv.2.cfg.port).typ)
  let grouped := (mode == 1 || mode == 4)
    && x.tribs.any (fun kv => decide (0x40 ≤ kv.2.cfg.carrier) && (s.carrierEngs kv.2.cfg.carrier).contains n)
  decide (9 ≤ p)
    || (isLpn p && mode != 0 && stRate x n != 0 && (mode != 4 || !s.on .LE_FEC_CTRL_fec_test n))
    || (grouped && !isLpn p)
    || (mode == 1 && ((p == 1 || p == 2) && carried.any (· != 3) || p == 3 && carried.any (· != 4)))
    || (mode == 2 && (p == 1 || isOz p && s.ozBad x n))
    || (mode == 3 && p != stProf x (partner n) && decide (p != 0 ∨ stProf x (partner n) != 0))

/-- R42 to R45, R74, R124; where no engine is in service the object is the device (log entry 152). -/
def State.checkProfile (s : State) (x : Staged) (mode : Nat) : Option ModeErr :=
  (errEng 10 (s.profBad x mode)).orElse fun _ => errIf 10 (isX mode && x.prof.all (· == 0))

/-- Lanes of a port. -/
def laneCount (c : PortCfg) : Nat := 2 ^ c.width

/-- Widths and lane modes of a client type (06 R195), as pairs of width code and lane mode. -/
def widthModes : Nat → List (Nat × Nat)
  | 1 => [(2, 0), (1, 1), (0, 2)]
  | 2 => [(2, 1), (1, 2), (0, 3)]
  | 3 => [(3, 1), (2, 2), (1, 3)]
  | 4 => [(3, 2), (2, 3)]
  | 5 => [(3, 3)]
  | 6 => [(2, 0), (1, 1), (0, 2), (2, 1), (1, 2), (0, 3), (3, 1), (2, 2), (1, 3)]
  | 7 => [(2, 0)]
  | 8 => [(2, 0), (2, 1), (3, 1)]
  | _ => []

/-- The FlexE group of a port is not one (06 R215). -/
def flexeBad (x : Staged) (p : Nat) : Bool :=
  let c := (stPort x p).cfg
  let g := x.ports.filter (fun kv => kv.2.typ == 6 && kv.2.cfg.head == c.head)
  decide (8 < g.length) || (g.head?.map (·.1)) != some c.head || g.any (fun kv => kv.2.cfg != c)

/-- Sources of tributaries are not as R196 asks, with this port as the object. -/
def sourceBad (x : Staged) (mode p : Nat) : Bool :=
  let q := stPort x p
  let l := (x.tribs.map (·.2.cfg)).filter (fun c => c.port == p)
  mode != 0 && (
    if q.typ == 0 then !l.isEmpty
    else if q.typ == 6 then l.any (fun c => c.kind != 2 || q.cfg.head != p || decide (1 < l.countP (fun d => d.fx == c.fx)))
    else l.length != 1 || l.any (fun c => c.kind != 1))

/-- R46, 06 R194 to R198, R215 on one port. -/
def clientBad (x : Staged) (mode p : Nat) : Bool :=
  let q := stPort x p
  let w := laneCount q.cfg
  q.typ != 0 && (
      !(widthModes q.typ).contains (q.cfg.width, q.cfg.lane) || p % w != 0
      || x.ports.any (fun kv => decide (p < kv.1) && decide (kv.1 < p + w))
      || mode == 3 || (mode == 1 && q.typ == 6)
      || (q.typ == 6 && flexeBad x p)
      || (q.typ == 8 && (decide (q.cfg.odu < 1000000) || decide (100000000 * foicInst q.cfg < q.cfg.odu))))
    || sourceBad x mode p

/-- R46, 06 R194 to R198. -/
def checkClient (x : Staged) (mode : Nat) : Option ModeErr := errPort 11 (clientBad x mode)

/-- Sets of engines that one group may be carried on (R45, R51): carrier groups, and in MUXPONDER those of the policies. -/
def State.groupSets (s : State) (x : Staged) (mode : Nat) : List (List Nat) :=
  x.tribs.filterMap (fun kv =>
    if mode == 2 then
      let pol := s.polNow kv.1
      if polGrpEn pol then some (s.maskMembers x (polGrp pol) (polMask pol)) else none
    else if 0x40 ≤ kv.2.cfg.carrier && mode != 3 then some (s.maskMembers x (kv.2.cfg.carrier - 0x40) 15)
    else none)

/-- R49, R51, R52 and 10 R364 on one engine; an engine that is OUT is no LP-N engine for R49 (log entry 151), and of a group
whose members differ the engine named is the first that differs from a lower one (log entry 153). -/
def State.cipherBad (s : State) (x : Staged) (mode n : Nat) : Bool :=
  let p := stProf x n
  let u := stUse x n
  (u == 3
    || (u == 1 && mode != 0 && !isLpn p)
    || (u == 2 && (mode != 3 || !isLpn p || stUse x (partner n) != 2))
    || (u == 1 && mode != 0 && s.rd .SEC_STATE_dbg_level == 2)
    || (mode != 0 && (s.groupSets x mode).any (fun g => g.contains n && g.any (fun m => stUse x m != u && decide (m < n))))
    || (u == 1 && mode != 0 && x.tribs.any (fun kv => kv.2.bind.isNone && (s.mayRide x mode kv.1 kv.2.cfg).contains n)))

/-- R49, R51, the locker and debug part of R52, 10 R364. -/
def State.checkCipher (s : State) (x : Staged) (mode : Nat) : Option ModeErr :=
  (errEng 12 (s.cipherBad x mode)).orElse fun _ =>
  errLock 12 (fun l => mode != 0 && !s.on .CIPH_LOCK_CTRL_lock_en l
    && x.tribs.any (fun kv => kv.2.bind == some l && (s.mayRide x mode kv.1 kv.2.cfg).any (fun n => stUse x n == 1)))

/-- Share of a member of rank `i` of `k`, of `n` slots (R65); a group that holds no bins is a carrier of no slots
(06 R225). -/
def State.shareFits (s : State) (x : Staged) (c n : Nat) : Bool :=
  let m := s.carrierEngs c
  !m.isEmpty && (decide (c < 0x40) || s.on .FAB_GRP_STATUS_bins_held (c - 0x40)) && (m.zipIdx).all (fun (e, i) => decide (groupShare n m.length i ≤ nomSlots (stProf x e)))

/-- R47 on one port, in TRANSPONDER. -/
def State.capacityBad (s : State) (x : Staged) (p : Nat) : Bool :=
  (x.tribs.filter (fun kv => kv.2.cfg.port == p)).any (fun kv =>
    let mine := s.carrierEngs kv.2.cfg.carrier
    !s.shareFits x kv.2.cfg.carrier (s.slotsFor x kv.2.cfg)
      || x.tribs.any (fun o => o.1 != kv.1 && decide (p ≤ o.2.cfg.port)
          && (s.carrierEngs o.2.cfg.carrier).any (fun n => mine.contains n)))

/-- A carrier that names neither an engine nor a group. -/
def carrierReserved (c : Nat) : Bool := decide (4 ≤ c) && decide (c < 0x40)

/-- R47; a reserved carrier code fails here in MAINTENANCE too, where the carrier applies as well (17_register_map.md R538; log
entry 213). -/
def State.checkCapacity (s : State) (x : Staged) (mode : Nat) : Option ModeErr :=
  if mode == 1 then errPort 13 (s.capacityBad x)
  else if mode == 4 then errPort 13 (fun p => x.tribs.any (fun kv => kv.2.cfg.port == p && carrierReserved kv.2.cfg.carrier))
  else none

/-! ### The order of the checks (R58) -/

/-- R55 and the lifecycle part of R52. Where both fail, the engine of R52 is reported before the device (log entry 205). -/
def State.checkLifecycle (s : State) (x : Staged) (mode : Nat) : Option ModeErr :=
  let lc := s.lcState
  let closed := lc == 0 || lc == 3
  (errEng 5 (fun n => closed && mode != 0 && mode != 5 && stUse x n == 1)).orElse fun _ =>
  errIf 5 (closed && mode != 0 && mode != 4)

/-- R53. The object kind of this refusal, 5 as for a power-state request, is the model's choice (log entry 206). -/
def State.checkPower (s : State) (mode : Nat) : Option ModeErr :=
  if s.awake && !(mode == 4 && s.rd .PWR_STATUS_state == 1) then none else some { reason := 6, kind := 5 }

/-- R56. -/
def State.checkPair (s : State) (mode role : Nat) : Option ModeErr :=
  let peer := s.pair.peer
  let bad := (role != 0 || mode == 5)
    && (!s.linkUp || (role == 1 && peer.mode != 0 && peer.mode != 5) || (mode == 5 && peer.role != 1))
  if bad then some { reason := 7, obj := 0, kind := 4 } else none

/-- Reserved codes and must-be-0 bits of the parameter word (R36, R58). -/
def badModeWord (w : Nat) : Bool :=
  decide (6 ≤ w % 16) || fieldOf w 4 2 == 3 || fieldOf w 6 2 != 0 || fieldOf w 9 7 != 0

/-- R57: in SHADOW the staged fields are not those of the mirror, as far as it is loaded; the object is the device
(log entry 40). -/
def State.checkMirrored (s : State) (x : Staged) : Option ModeErr :=
  errIf 8 (s.modeNow == 5 && s.pair.loaded && x != State.staged { s with regs := s.pair.mirRegs })

/-- The checks that follow ROLE (R58); a request for SHADOW stages nothing of its own, since the mirror replaces the staged
fields. -/
def State.modeChecks (s : State) (x : Staged) (mode role : Nat) : Option ModeErr :=
  (errIf 4 (!s.stepLegal mode role (x != s.inForce))).orElse fun _ =>
  (s.checkLifecycle x mode).orElse fun _ =>
  (s.checkPower mode).orElse fun _ =>
  (s.checkPair mode role).orElse fun _ =>
  (s.checkMirrored x).orElse fun _ =>
  if mode == 5 then none
  else
    (s.checkAbsent x).orElse fun _ =>
    (s.checkProfile x mode).orElse fun _ =>
    (checkClient x mode).orElse fun _ =>
    (s.checkCipher x mode).orElse fun _ => s.checkCapacity x mode

/-- The target combination equals the current one (R39). -/
def State.modeSame (s : State) (x : Staged) (mode role : Nat) : Bool :=
  mode == s.modeNow && role == s.role && x == s.inForce

/-- What a mode request finds (R39, R58): none when it may proceed. One for the combination in force completes OK before
the checks from TRANSITION on, POWER among them (log entry 154). -/
def State.modeCheck (s : State) (w : Nat) : Option ModeErr :=
  let mode := w % 16
  let role := fieldOf w 4 2
  let x := s.staged
  if s.on .SYS_MODE_busy then errDev 1
  else if badModeWord w then errDev 2
  else if !roleLegal mode role then errDev 3
  else if s.modeSame x mode role then none
  else s.modeChecks x mode role

end Sys2Proof.Machine
end

