-- ==== Sys2Proof/Machine/ModeOps.lean ====
section
/-! DEFINITION. What a committed mode request does to engines, ports and tributaries, and how a request is accepted,
completed or refused (02_modes.md R36 to R40, R60 to R71). -/
namespace Sys2Proof.Machine

/-! ### Mode in effect -/

/-- PAIR_ACT follows mode and role (08 R267); it is low while the control cores restart and, on an ACTIVE, once DYING has been
sent (08 R268; 14 R485), and it stays as it is while its pad is held (14 R474). -/
def State.actRefresh (s : State) : State :=
  let v := !(s.pair.dyingTx && s.role == 1) && !s.sec.restart && (s.role == 1 || (s.role == 0 && decide (1 ≤ s.modeNow) && decide (s.modeNow ≤ 4)))
  if s.padHeld 2 then s else { s with pin := { s.pin with pairAct := v } }

/-! ### Placement of R65 -/

/-- Slots that the fixed placement gives a tributary on engine `n`, none where it gives none (R65). -/
def State.fixedShare (s : State) (x : Staged) (n : Nat) (c : TribCfg) : Nat :=
  let req := s.slotsFor x c
  if c.carrier == n then req
  else if 0x40 ≤ c.carrier then
    let m := (s.carrierEngs c.carrier).filter (fun e => isLpn (stProf x e))
    if m.contains n then groupShare req m.length (m.idxOf n) else 0
  else 0

/-- The slot table of the fixed placement of engine `n`: its tributary from TS000 upward without gaps (R65). -/
def State.fixedTab (s : State) (x : Staged) (n : Nat) : SMap SlotEntry :=
  match x.tribs.find? (fun kv => s.fixedShare x n kv.2.cfg != 0) with
  | none => []
  | some kv =>
    let k := s.fixedShare x n kv.2.cfg
    if nomSlots (stProf x n) < k then []
    else (({} : Slots).give kv.1 (s.tribGen kv.1) (upTo k)).tab

/-- The map that an engine takes when it enters service or is placed anew: of generation `gen` at nominal rate; fixed in
TRANSPONDER and MAINTENANCE, empty otherwise (R65; 07 R242, R243). A regenerator that ciphers holds the empty map (DESIGN CHOICE, log entry 216). -/
def State.freshMap (s : State) (x : Staged) (mode n gen : Nat) : Slots :=
  { gen := gen, rate := nomRate (stProf x n),
    tab := if (mode == 1 || mode == 4) && isLpn (stProf x n) then s.fixedTab x n else [] }

/-- Put maps in force on an engine without a marker; next maps and pending work are discarded, and generations count on
(07_placement.md R242, R249). -/
def State.setMaps (s : State) (n : Nat) (tx rx : Slots) : State :=
  let s := s.modTx n (fun e => { e with map := tx, next := none, marker := none, kept := [] })
  let s := s.modRx n (fun e => { e with map := rx, next := none, loading := none })
  let s := s.modSk n (fun k => { genLast := k.genLast, ownRseq := k.ownRseq, ownMargin := k.ownMargin, ownWin0 := k.ownWin0,
                                 ownWin := k.ownWin })
  let s := s.wrs [(.PLACE_ENG_RX_ready_valid, n, 0), (.PLACE_ENG_RX_rx_mismatch, n, 0)]
  ((s.setSw n 0).txMapShow n).rxMapShow n

/-! ### One engine (R64) -/

/-- Overhead block size of a profile (11 R396). LP-ZR4 has none (DESIGN CHOICE, log entry 218). -/
def ohbSize (p : Nat) : Nat := if isLpn p then 2048 else if isOz p then (Config.fccBytes p).toNat else 0

/-- Show the profile in force of an engine. -/
def State.showProf (s : State) (n p : Nat) : State :=
  s.wrs [(.LE_PROFILE_prof_active, n, p), (.LE_PROFILE_rate_active, n, nomRate p), (.LE_FRM_OHB_ohb_len, n, ohbSize p)]

/-- An engine goes OUT: transmitter and receiver stop and every record of its traffic ends; PSC and the settings that its
registers hold stay (R64; 03 R101; 04 R136; 05 R163, R174; 07 R249). -/
def State.engOut (s : State) (n : Nat) : State :=
  let s := s.applyAllShadows n
  let s := if s.on .LE_TX_CTRL_tx_active n then s.txStop n else s
  let s := (((s.acqStop n).clearDefects n).excessClear n).dropFmtFar n
  let s := (s.decSpoil n).chanDown n
  let s := s.modTx n (fun e => { psc := e.psc, ohb := e.ohb, rolloff := e.rolloff, endSel := e.endSel, wakePat := e.wakePat })
  let s := ((s.modRx n (fun _ => {})).setMaps n {} {}).modSk n (fun k => { k with genLast := 0 })
  let s := s.wrs [(.LE_FRM_STATUS_fmt_tx, n, 0), (.LE_FRM_STATUS_rate_rx, n, 0), (.PLACE_ENG_RX_ready_gen, n, 0),
    (.CAL_ENG_STATUS_pilot_tx, n, 0), (.CAL_ENG_STATUS_pilot_rx, n, 0), (.CAL_ENG_STATUS_requesting, n, 0),
    (.LE_STATUS_pilot_on, n, 0)]
  ((s.modPm n (fun _ => {})).showProf n 0).pinRefresh n

/-- An engine comes into service (R64, R65; 07 R242). -/
def State.engIn (s : State) (x : Staged) (mode n : Nat) : State :=
  let m := s.freshMap x mode n 0
  let s := ((s.modPm n (fun _ => {})).showProf n (stProf x n)).setMaps n m m
  ((s.decRestart n).acqStart n).txRefresh n

/-- An engine changes its profile: acquisition, decoder and frame grid restart; PSC counts on (R64). An interoperable profile has no level
and no pilots (05_line_framing.md R174; 13_calibration.md R456, R458, R460), and no acceptance waits for an SFM of it. Which level an engine
sends that returns to LP-N while its transmitter runs on is the model's choice: that of a start (DESIGN CHOICE, log entry 214). -/
def State.engChange (s : State) (x : Staged) (mode n : Nat) : State :=
  let lpn := s.lpn n
  let s := s.acqStop n
  let s := s.showProf n (stProf x n)
  let s := s.setMaps n (s.freshMap x mode n (s.txOf n).map.gen) (s.freshMap x mode n (s.rxOf n).map.gen)
  let s := (s.modTx n (fun e => { e with fn := 0, sfm := false, mkNow := false, loopQ := [] })).shareDrop n
  let s := (s.modFec n (fun f => { f with encPos := 0, encPrev := [] })).decRestart n
  let s := (s.winRestart n).acqStart n
  if !s.lpn n then
    let s := (s.modTx n (fun e => { e with lvl := 0, fmtPend := none, shadows := e.shadows.filter (fun h => !decide (h.what = .pilot)) })).modRx n
      (fun e => { e with pilots := 0 })
    s.wrs [(.LE_FRM_STATUS_fmt_tx, n, 0), (.CAL_ENG_STATUS_pilot_tx, n, 0), (.CAL_ENG_STATUS_pilot_rx, n, 0), (.LE_STATUS_pilot_on, n, 0)]
  else if lpn then s
  else s.setLevel n (s.fmtFor n)

/-- The fixed placement of an engine that keeps its profile changes: it is placed anew under the same generation. -/
def State.replace (s : State) (x : Staged) (mode n : Nat) : State :=
  if (mode == 1 || mode == 4) && s.modeNow == mode && s.lpn n && s.fixedTab x n != s.fixedTab s.inForce n then
    s.setMaps n (s.freshMap x mode n (s.txOf n).map.gen) (s.freshMap x mode n (s.rxOf n).map.gen)
  else s

/-- Engine `n` commits the staged settings of a request for a mode (R64); a cipher turned ON below level 3 raises FMT_LIMIT
(05_line_framing.md R175), and its receiver knows no SC yet (10_cipher.md R358). -/
def State.commitEng (s : State) (x : Staged) (mode n : Nat) : State :=
  let p := stProf x n
  let old := s.prof n
  let was := s.ciphering n
  let s := s.wrs [(.CIPH_ENG_CTRL_use_active, n, stUse x n), (.LE_FEC_CTRL_rate_active, n, stRate x n)]
  let s := if !was && s.ciphering n then
      s.modRx n (fun r => { r with midway := true, msgs := [], prev := [], scNext := [], scUse := [], scPrev := [] })
    else s
  if p == 0 then if old == 0 then s else s.engOut n
  else if old == 0 then s.engIn x mode n
  else
    let t := if old != p then s.engChange x mode n else s.replace x mode n
    if !was && t.idles n && (t.txOf n).on && isLpn p && isLpn old then t.raiseReg .LE_FRM_EV_fmt_limit n { obj := n } else t

/-! ### Ports and tributaries -/

/-- The mapping of a tributary starts afresh: its frame in progress ends errored, and nothing of the adaptation before is left, its signal fail
included, which is shown and sent anew (06 R210, R214, R230). -/
def State.tribFresh (s : State) (t : Nat) : State :=
  let s := (s.dlmHunt t).modTrib t (fun y => { cfg := y.cfg, bind := y.bind, fxRate := y.fxRate, pol := y.pol, grp := y.grp, oz := y.oz,
                                               ozInst := y.ozInst, unpl := y.unpl })
  s.wr .FAB_TRIB_STATUS_sf t 0

/-- A port takes its settings; one that is new or changed is not received yet, and its tributaries are mapped afresh (06 R230). -/
def State.commitPort (s : State) (x : Staged) (mode p : Nat) : State :=
  let q := stPort x p
  let same := s.typeOf p == q.typ && (s.portOf p).cfg == q.cfg
  let s := (s.wr .CLI_PORT_CFG_type_active p q.typ).wr .CLI_PORT_STATUS_tx_on p (b2n (q.typ != 0 && s.modeNow != 5 && mode != 0))
  if same then s
  else
    let s := (s.activeTribs.filter (fun t => s.srcPort t == p)).foldl (fun u t => u.tribFresh t) s
    let s := s.modPort p (fun y => { y with cfg := q.cfg, txLf := q.typ != 0 })
    s.wrs [(.CLI_PORT_STATUS_rx_sig, p, 0), (.CLI_PORT_STATUS_rx_lock, p, 0), (.CLI_PORT_STATUS_rx_hiber, p, 0),
      (.CLI_PORT_STATUS_rx_lf, p, 0), (.CLI_PORT_STATUS_rx_rf, p, 0), (.CLI_PORT_STATUS_fx_ok, p, 0)]

/-- A tributary goes OUT: its group has no member left, a FlexE client is bound to none (06 R216, R222), its generation moves (06 R200) and the Storekeeper tries unplaced demands again (07 R241). -/
def State.tribOut (s : State) (t : Nat) : State :=
  let grp := s.tribGrp t
  let s := s.dlmHunt t
  let s := match s.tribGrp t with
    | some g => s.modGrp g (fun y => { y with mem := [], share := [], rxShare := [], rxGf := [] })
    | none => s
  let s := (s.modTrib t (fun _ => {})).wrs [(.FAB_TRIB_STATUS_active, t, 0), (.FAB_TRIB_STATUS_slots_req, t, 0),
    (.FAB_TRIB_STATUS_trib_gen, t, s.tribGen t + 1), (.FAB_TRIB_STATUS_sf, t, 0), (.FAB_TRIB_STATUS_sd, t, 0),
    (.FAB_TRIB_STATUS_adapt_ok, t, 0)]
  let s := match grp with
    | some g => s.alignShow g
    | none => s
  let s := s.placeShow t 0 0
  let stale := ((upTo s.engines).map (fun n =>
    ((s.txOf n).map.held t).length + ((s.rxOf n).map.held t).length)).sum
  { s.countStale (List.replicate stale t) with mode := { s.mode with retry := true } }

/-- A tributary takes its settings (06 R196 to R199; 10 R364; 02 R44). -/
def State.commitTrib (s : State) (x : Staged) (mode : Nat) (t : Nat) (p : TribPlan) : State :=
  let same := s.tribOn t && (s.tribOf t).cfg == p.cfg
  let oz := if mode == 2 then s.ozOf x t
    else if decide (p.cfg.carrier < 4) && stProf x p.cfg.carrier != 0 && !isLpn (stProf x p.cfg.carrier) then some p.cfg.carrier
    else none
  let s := if same then s
    else (if s.tribOn t then s.tribFresh t else s).modTrib t (fun _ => { cfg := p.cfg, fxRate := if p.cfg.kind == 2 then SMap.get 0 (s.portOf p.cfg.port).cal p.cfg.fx else 0 })
  let grp := if (mode == 1 || mode == 4) && !(same && s.modeNow == 2) then
      (if decide (0x40 ≤ p.cfg.carrier) then some (p.cfg.carrier - 0x40) else none)
    else (s.tribOf t).grp
  let new := grp.isSome && grp != (s.tribOf t).grp
  let s := s.modTrib t (fun y => { y with bind := p.bind, oz := oz, grp := grp, unpl := y.unpl && mode == 2 })
  let s := match grp with
    | some g => if new then s.modGrp g (fun y => { y with gf := 0, share := [], mem := [], rxShare := [], rxGf := [] }) else s
    | none => s
  s.wrs [(.FAB_TRIB_STATUS_active, t, 1), (.FAB_TRIB_STATUS_slots_req, t, s.slotsFor x p.cfg)]

/-- The tributaries of each interoperable engine take its FlexO instances in ascending order of source port, from the
first instance upward (R44). -/
def State.ozPlace (s : State) : State :=
  (upTo s.engines).foldl (fun u n =>
    let l := (u.activeTribs.filter (fun t => (u.tribOf t).oz == some n)).mergeSort (fun a b => u.srcPort a ≤ u.srcPort b)
    l.zipIdx.foldl (fun v x => v.modTrib x.1 (fun y => { y with ozInst := x.2 })) u) s

/-- Ports that transmit toward their clients. -/
def State.txPorts (s : State) : List Nat := s.ringsWith .CLI_PORT_STATUS_tx_on 1

/-- FlexE clients that tributaries are bound to: head port and client. -/
def State.fxBound (s : State) : List (Nat × Nat) :=
  s.activeTribs.filterMap (fun t => let c := (s.tribOf t).cfg; if c.kind == 2 then some (c.port, c.fx) else none)

/-- What a commit of ports and tributaries brings the clients: a port that begins to transmit or changes its settings while it does, and a FlexE
client of a calendar that a tributary was bound to and none is (06 R215, R216, R230). `was` is the state before. -/
def State.clientsAfter (s was : State) : State :=
  let lost := was.fxBound.filter (fun x => SMap.get 0 (s.portOf x.1).cal x.2 != 0 && (s.fxTrib x.1 x.2).isNone)
  (lost.foldl (fun u x => u.fxUnbound x.1 x.2) s).clientStart (s.txPorts.filter (fun p =>
    !was.on .CLI_PORT_STATUS_tx_on p || was.typeOf p != s.typeOf p || (was.portOf p).cfg != (s.portOf p).cfg))

/-- Ports and tributaries commit (R63, R64). -/
def State.commitClients (s : State) (x : Staged) (mode : Nat) : State :=
  let was := s
  let gone := s.activeTribs.filter (fun t => (SMap.get {} x.tribs t).cfg.kind == 0)
  let s := gone.foldl (fun u t => u.tribOut t) s
  let s := (upTo 64).foldl (fun u p => u.commitPort x mode p) s
  let s := x.tribs.foldl (fun u kv => u.commitTrib x mode kv.1 kv.2) s
  let s := (upTo 64).foldl (fun u p => if (u.portOf p).txLf then u.lineFault p true else u) s
  (s.ozPlace.placeShowAll.clientsAfter was).bridgeRefresh

/-! ### The whole request -/

/-- What a transition out of MAINTENANCE clears (03 R117; 04 R147; 05 R184). -/
def State.leaveMaintenance (s : State) : State :=
  (upTo s.engines).foldl (fun u n => u.wrs [(.LE_TX_CTRL_lb_mode, n, 0), (.LE_FEC_CTRL_fec_test, n, 0),
    (.LE_FRM_CTRL_force_ais, n, 0), (.LE_FRM_CTRL_force_rdi, n, 0)] |>.dacShow n) s

/-- Mode and role change: MODE_CHANGE, PAIR_ACT, and what leaving the old mode ends (R63, R65; 07 R233). -/
def State.setMode (s : State) (mode role : Nat) : State :=
  let was := s.modeNow
  let changed := was != mode || s.role != role
  let s := (s.wr .SYS_MODE_mode 0 mode).wr .SYS_MODE_role 0 role
  let s := if was == 4 && mode != 4 then s.leaveMaintenance else s
  let s := { s with pair := { s.pair with dyingTx := s.pair.dyingTx && role == 1 } }
  let s := s.actRefresh
  if changed then s.raiseReg .SYS_EV_mode_chg 0 else s

/-- MUXPONDER begins on maps in force: the Storekeeper takes them as they are (R65; 07 R235). -/
def State.beginMux (s : State) : State :=
  let held := s.activeTribs.filter (fun t => !(s.mapEngs false t).isEmpty)
  held.foldl (fun u t => u.modTrib t (fun y => { y with pol := u.polNow t })) s

/-- MUXPONDER ends with the maps in force fixed: no placement channel, no switch in progress (R65, R66; 07 R233). -/
def State.endMux (s : State) : State :=
  (upTo s.engines).foldl (fun u n =>
    if !u.inService n then u
    else
      let u := u.chanDown n
      (u.setMaps n (u.txOf n).map (u.rxOf n).map)) s

/-- The last part of a commit: ports and tributaries, mode and role; in SHADOW the mirrored ones (08 R286, R305). -/
def State.commitRest (s : State) (x : Staged) (mode role : Nat) : State :=
  let was := s.opMode
  let s := if was == 2 && mode != 2 && mode != 5 then s.endMux else s
  let s := s.commitClients x mode
  let s := if was != 2 && mode == 2 then s.beginMux else s
  let s := if s.modeNow == 5 then { s with pair := { s.pair with mirMode := mode, mirRole := role } } else s.setMode mode role
  s.fabRefresh.placeShowAll

/-- Bring every transmitter and receiver to what mode, service and power ask (03 R83, R101). -/
def State.engRefresh (s : State) : State := (upTo s.engines).foldl (fun u n => (u.acqStart n).txRefresh n) s

/-- Nothing of the peer's mirror is held any more. -/
def State.mirrorClear (s : State) : State :=
  { s with pair := { s.pair with loaded := false, late := false, mirRegs := [], mirMode := 0, mirRole := 1, mirBuf := [], mirTgt := 0,
                                 mirEng := 255, bulkRx := [], bulkNext := 0, gap := 0, bulkMaps := [],
                                 mirLock := [], pscSet := [] } }.wr .PAIR_STATUS_ready 0 0

/-- A request commits when its checks pass (R63): a start from SETUP, a stop, a change of role. In SETUP nothing is in
service; in SHADOW nothing is until the mirror is loaded. -/
def State.commitNow (s : State) (x : Staged) (mode role : Nat) : State :=
  let was := s.modeNow
  let s := if mode == 0 then
      (((upTo s.engines).foldl (fun u n => u.commitEng {} 0 n) s).commitClients {} 0).setMode 0 0
    else if mode == 5 then (s.mirrorClear.setMode 5 2).d0Follow
    else
      let s := s.setMode mode role
      let s := (upTo s.engines).foldl (fun u n => u.commitEng x mode n) s
      s.commitRest x mode role
  let s := if was == 5 && mode != 5 then s.mirrorClear.d0LeaveFollow else s
  s.engRefresh

/-- A transition committed at SFMs has committed on every engine: ports, tributaries, mode and role follow. -/
def State.commitLast (s : State) (t : Transition) : State :=
  (s.commitRest t.st (t.par % 16) (fieldOf t.par 4 2)).engRefresh

/-- Engines that carry a tributary in either direction, and its interoperable engine. -/
def State.rideEngs (s : State) (t : Nat) : List Nat := s.mapEngs false t ++ s.carryEngs t

/-- The ports and tributaries whose carriers have all committed, `left` being the engines that have not: those that go OUT
or change stop, or take their settings, at the commit SFM of the last engine that carries them (R64). -/
def State.commitReady (s : State) (x : Staged) (mode : Nat) (left : List Nat) : State :=
  let was := s
  let chg := s.activeTribs.filter (fun t =>
    let p := SMap.get {} x.tribs t
    (p.cfg.kind == 0 || p.cfg != (s.tribOf t).cfg
      || (stPort x p.cfg.port).typ != s.typeOf p.cfg.port || (stPort x p.cfg.port).cfg != (s.portOf p.cfg.port).cfg)
      && !(s.rideEngs t).isEmpty && (s.rideEngs t).all (fun n => !left.contains n))
  let ports := (chg.map (fun t => s.srcPort t)).dedup
  let s := chg.foldl (fun u t => if (SMap.get {} x.tribs t).cfg.kind == 0 then u.tribOut t else u) s
  let s := (ports.filter (fun p => s.activeTribs.all (fun t => s.srcPort t != p || chg.contains t))).foldl
    (fun u p => u.commitPort x mode p) s
  let s := chg.foldl (fun u t =>
    let p := SMap.get {} x.tribs t
    if p.cfg.kind == 0 then u else u.commitTrib x mode t p) s
  let s := (ports ++ chg.map (fun t => s.srcPort t)).dedup.foldl (fun u p => if (u.portOf p).txLf then u.lineFault p true else u) s
  (s.clientsAfter was).bridgeRefresh

/-- Engine `n` commits at its SFM; while maps are held back, not before its marker has been answered (R63, R66). -/
def State.commitAtSfm (s : State) (n : Nat) : State :=
  match s.mode.tr with
  | none => s
  | some t =>
    if !t.left.contains n || (s.frozen && (s.skOf n).markerOut) then s
    else
      let left := t.left.filter (· != n)
      let s := s.commitEng t.st (t.par % 16) n
      let t := { t with left := left }
      let s := { s with mode := { s.mode with tr := some t } }
      if left.isEmpty then s.commitLast t else (s.commitReady t.st (t.par % 16) left).fabRefresh

/-- Engines still to commit whose transmitter is off have no SFM: they commit as soon as nothing holds them back (R66; 01_architecture.md
R24). -/
def State.commitIdle (s : State) : State :=
  (upTo s.engines).foldl (fun u n => if (u.txOf n).on then u else u.commitAtSfm n) s

/-- Markers not yet issued are withdrawn when MUXPONDER is to be left for TRANSPONDER (R66). -/
def State.withdrawAll (s : State) : State :=
  (upTo s.engines).foldl (fun u n =>
    if u.swState n == 1 then (u.withdraw n).setSw n 0 else u) s

/-- Engines that a transition commits at their SFM, or that wait for the answer to a marker although their transmitter is off (R63,
R66). -/
def State.waitEngs (s : State) (mode : Nat) : List Nat :=
  (upTo s.engines).filter (fun n => s.inService n
    && ((s.txOf n).on || (s.opMode == 2 && mode == 1 && (s.skOf n).markerOut)))

/-- A transition begins: the engines of its list commit each in their turn, the others at once (R63, R66). -/
def State.transBegin (s : State) (t : Transition) : State :=
  let mode := t.par % 16
  let s := { s with mode := { s.mode with tr := some t } }
  let s := if s.frozen then s.withdrawAll else s
  let s := ((upTo s.engines).filter (fun n => !t.left.contains n)).foldl (fun u n => u.commitEng t.st mode n) s
  if t.left.isEmpty then s.commitLast t else s

/-- An accepted request begins (R63, R67). One that changes the role commits all it asks for when its checks pass, staged
fields too (log entry 155). -/
def State.modeStart (s : State) (d : Option Desc) (w : Nat) (x : Staged) : State :=
  let mode := w % 16
  let role := fieldOf w 4 2
  let now := s.modeNow == 0 || mode == 0 || mode == 5 || role != s.role
  let s := s.wr .SYS_MODE_busy 0 1
  if now then
    let s := s.commitNow x mode role
    { s with mode := { s.mode with tr := some { d := d, par := w, st := x } } }
  else
    s.transBegin { d := d, par := w, left := s.waitEngs mode, st := x }

/-! ### Completions (R36, R38, R60, R61) -/

/-- The last 8 commands of a kind, newest first. -/
def remember (l : List Remembered) (tag status detail : Nat) : List Remembered :=
  ({ tag := tag, status := status, detail := detail } :: l).take 8

/-- Complete a MODE_SET: its tag is remembered with status and detail (R36, R38), and last_tag shows it. -/
def State.modeDone (s : State) (d : Option Desc) (w status detail : Nat) : State :=
  let tag := fieldOf w 16 16
  match d with
  | none => s
  | some d =>
    let s := { s with mode := { s.mode with mem := remember s.mode.mem tag status detail } }
    (s.wr .SYS_MODE_last_tag 0 tag).done d status detail

/-- A refused request: counted, raised and completed, if it has a descriptor (R60, R61). -/
def State.modeRefused (s : State) (d : Option Desc) (w : Nat) (e : ModeErr) : State :=
  let detail := s.modeDetail e (w % 16) (fieldOf w 4 2)
  let s := s.raiseCount (.perf .modeRefused) { arg := some detail, detail := detail } 534
  s.modeDone d w 1 detail

/-- The detail word of a request that completes OK: reason 0 with the mode fields (log entry 41). -/
def State.modeOk (s : State) (w : Nat) : Nat := s.modeDetail {} (w % 16) (fieldOf w 4 2)

/-- A mode request, from a descriptor or from a shelf (R36 to R40, R58 to R67; 15 R511). -/
def State.modeRequest (s : State) (d : Option Desc) (w : Nat) : State :=
  let x := s.staged
  match s.modeCheck w with
  | some e => s.modeRefused d w e
  | none =>
    if s.modeSame x (w % 16) (fieldOf w 4 2) then s.modeDone d w 0 (s.modeOk w)
    else (s.mirror 0xFF 0 (changeRec 2 (beBytes 4 w))).modeStart d w (if w % 16 == 0 || w % 16 == 5 then {} else x)

/-- A check_only request reports and changes nothing (R40): it is not among the remembered commands of R38
(log entry 156). -/
def State.modeCheckOnly (s : State) (d : Desc) (w : Nat) : State :=
  match s.modeCheck w with
  | some e => s.done d 1 (s.modeDetail e (w % 16) (fieldOf w 4 2))
  | none => s.done d 0 (s.modeOk w)

/-- A protection switch ends a transition that has not committed on every engine: what has committed stays, what has not
does not commit, and the request completes REFUSED (R69), which is no refusal of R60: no event is raised and nothing is
counted (log entry 157). -/
def State.modeAbort (s : State) : State :=
  match s.mode.tr with
  | none => s
  | some t =>
    let s := { s with mode := { s.mode with tr := none } }.wr .SYS_MODE_busy 0 0
    if t.left.isEmpty then s.modeDone t.d t.par 0 (s.modeOk t.par)
    else s.modeDone t.d t.par 1 (s.modeDetail { reason := 7, obj := 0, kind := 4 } (t.par % 16) (fieldOf t.par 4 2))

end Sys2Proof.Machine
end

