-- ==== Sys2Proof/Machine/ProtOps.lean ====
section
/-! DEFINITION. The protection message that an engine sends (05_line_framing.md R168 to R171; 08_pair_protection.md
R297, R306). -/
namespace Sys2Proof.Machine

/-- Request code that an engine is to send (R306): SWITCHED after a takeover; TX_SUSPECT while it stands and the pair does
not explain it; UNPROTECTED while a far TX_SUSPECT stands; NR otherwise. -/
def State.protWant (s : State) (n : Nat) : Nat :=
  let x := s.txOf n
  if x.swLeft != 0 then 2
  else if x.suspect && s.on .LE_STATUS_sig_present n && !s.on .LE_FRM_STATUS_in_frame n && s.on .PAIR_CTRL_tx_suspect_en
      && (s.role == 0 || (s.role == 1 && !s.pair.peer.engOk.testBit n)) then 1
  else if x.unprotTx then 3
  else 0

/-- Send a new message: the next seq, not acknowledged yet (05 R169, R171). -/
def State.protSend (s : State) (n code arg : Nat) : State :=
  s.modTx n (fun x => { x with prot := { code := code, seq := (x.prot.seq + 1) % 256, arg := arg },
                               protAcked := false, ackLost := false })

/-- Bring the message of an engine to what it is to send. -/
def State.protRefresh (s : State) (n : Nat) : State :=
  let want := s.protWant n
  if want == (s.txOf n).prot.code then s else s.protSend n want (if want == 2 then (s.txOf n).psc else 0)

end Sys2Proof.Machine
end

