-- ==== Sys2Proof/Machine/PairSw.lean ====
section
/-! DEFINITION. Shared operations of protection switching: readiness, bridging, the mirror image, takeover, standing
down, commands between the members (08_pair_protection.md R274 to R306). -/
namespace Sys2Proof.Machine

def State.linkState (s : State) : Nat := s.rd .PAIR_STATUS_link_state
def State.lockout (s : State) : Bool := s.on .PAIR_STATUS_lockout

/-- A cell of a type with a passing CRC (R270). -/
def cellOk (typ : Nat) (c : List Byte) : Bool :=
  c.length == 40 && byteAt c 0 == typ && crc16 (c.take 38) == fromBE (slice c 38 2)

/-- A field of a cell, most significant byte first. -/
def cellField (c : List Byte) (pos len : Nat) : Nat := fromBE (slice c pos len)

/-! ### Readiness (R289) -/

def State.servedEngs (s : State) : List Nat := (upTo s.engines).filter (fun n => s.inService n)

/-- Every locker bound to an in-service engine holds the keys last mirrored for it (R289). -/
def State.sameKeys (s : State) : Bool :=
  ((s.servedEngs.flatMap (fun n => s.engLockers n)).dedup).all (fun l =>
    let a := s.lockOf l
    let b := SMap.get {} s.pair.mirLock l
    a.cur.key == b.cur.key && a.nxt.key == b.nxt.key)

/-- Byte `n` of PAIR_MATCH: df_n in MHz (R287, R308). -/
def State.dfOf (s : State) (n : Nat) : Int := ofTwos 8 (fieldOf (s.rd .PAIR_MATCH_df) (8 * n) 8)

/-- Entries in use that list a tributary with a tap (R296). -/
def State.listed (s : State) (t tap : Nat) : Bool :=
  (upTo 32).any (fun k => s.on .PAIR_BRIDGE_en k && s.rd .PAIR_BRIDGE_trib k == t && s.rd .PAIR_BRIDGE_tap k == tap)

/-- A local-only failure as R296 states it. -/
def State.localOnly (s : State) : YieldObs → Bool
  | .eng n =>
    let tribs := s.activeTribs.filter (fun t => (s.carryEngs t).contains n.val)
    s.inService n && (!s.on .LE_STATUS_dsp_lock n || !s.on .LE_FRM_STATUS_in_frame n) && s.pair.peer.engOk.testBit n
      && (tribs.isEmpty || !tribs.all (fun t => s.listed t 1))
  | .port p =>
    let tribs := s.activeTribs.filter (fun t => s.srcPort t == p.val)
    s.typeOf p != 0 && !s.on .CLI_PORT_STATUS_rx_lock p && s.pair.peer.portOk.testBit p
      && (tribs.isEmpty || !tribs.all (fun t => s.listed t 0))

/-- The SHADOW may be ready (R289, R301; 15_security_and_config.md R503), and no fault of its own stands (R307). -/
def State.readyNow (s : State) : Bool :=
  s.modeNow == 5 && s.linkUp && s.pair.loaded && !s.pair.late && decide (s.pair.gap ≤ 4) && !s.pair.hold1s
    && !s.on .PAIR_STATUS_faulted && s.pair.key.isSome && s.sameKeys && !s.sec.restart && !s.pwr.failed
    && s.pair.shFault.all (fun y => !s.localOnly y)
    && s.servedEngs.all (fun n => s.on .LE_STATUS_dsp_lock n && s.on .LE_FRM_STATUS_in_frame n
        && s.pair.dfV.testBit n && decide ((s.dfOf n).natAbs ≤ 50)
        && decide ((s.rdInt .PAIR_SKEW_sfm_skew n).natAbs ≤ 200))

/-- Bring ready up to date: its own in SHADOW, the peer's on the ACTIVE (R289, R308). -/
def State.readyRefresh (s : State) : State :=
  s.wr .PAIR_STATUS_ready 0
    (b2n (if s.modeNow == 5 then s.readyNow else s.role == 1 && s.linkUp && s.pair.peer.health.testBit 1))

/-! ### The mirror image (R280, R304, R305) -/

/-- Registers with mirrored fields, by window; BULK carries those that differ from their reset value. -/
def mirroredRgs : List Rg :=
  [.LE_PROFILE, .LE_TX_CTRL, .LE_CDC_CTRL, .LE_EQ_CR_CTRL, .LE_SIG_THR, .LE_FEC_CTRL, .LE_FRM_CTRL, .CLI_PORT_CFG,
   .CLI_PORT_ODU_RATE, .FAB_GRP_CTRL, .FAB_TRIB_CFG, .PLACE_CTRL, .PLACE_STEP_THR, .PLACE_STEP_TIME, .PLACE_GUARD,
   .PLACE_TRIB_POL, .CIPH_ENG_CTRL, .CIPH_TRIBMAP, .TIM_SEL_CTRL, .TIM_REF_CFG, .TIM_DPLL0_CTRL, .TIM_DPLL0_FWORD,
   .TIM_DPLL_CTRL, .TIM_TOD_SEC_HI, .TIM_TOD_SEC_LO, .TIM_TT_CTRL, .TIM_TT_CFG, .TIM_TT_NU, .TIM_PORT_DPLL,
   .PERF_PM_SYNC, .PERF_INV_CTRL, .PERF_TLM_CTRL, .PERF_HK_MASK, .PERF_EVT_ROUTE, .PERF_CNT_SEL]

/-- The RW parts of a register. -/
def State.rwVal (s : State) (r : Rg) (i : Nat) : Nat :=
  (r.fields.filter (fun f => f.info.acc == .rw)).foldl (fun a f => a + s.rd f i * 2 ^ f.info.lo) 0

/-- The RW parts of a register at reset. -/
def Rg.rwRst (r : Rg) : Nat :=
  (r.fields.filter (fun f => f.info.acc == .rw)).foldl (fun a f => a + f.info.rst * 2 ^ f.info.lo) 0

/-- REG record of an instance of a mirrored register; that of FAB_GRPg_CTRL carries the group's generation (R284). -/
def State.regRec (s : State) (r : Rg) (i : Nat) : List Byte :=
  let gen := if r == .FAB_GRP_CTRL then s.rd .FAB_GRP_CTRL_grp_gen i * 2 ^ Fld.FAB_GRP_CTRL_grp_gen.info.lo else 0
  changeRec 1 (beBytes 4 (r.info.base + i * r.info.stride) ++ beBytes 4 (s.rwVal r i + gen))

/-- Instances of a register of which a mirrored field, or the generation of a group, differs from reset. -/
def State.instances (s : State) (r : Rg) : List Nat :=
  let fs := r.fields.filter (fun f => f.info.acc == .rw || f == .FAB_GRP_CTRL_grp_gen)
  ((s.regs.filter (fun kv => fs.any (fun f => kv.1 % 1024 == f.ctorIdx))).map (fun kv => kv.1 / 1024)).dedup

/-- REG records of the mirrored registers that differ from reset, one for each instance. -/
def State.imageRegs (s : State) : List Byte := mirroredRgs.flatMap (fun r => (s.instances r).flatMap (fun i => s.regRec r i))

/-- The fields of CIPH_TRIBMAP that hold the locker of a tributary and whether it is bound. -/
def bindFlds (t : Nat) : Fld × Fld :=
  ([(Fld.CIPH_TRIBMAP_locker0, Fld.CIPH_TRIBMAP_bind_en0), (.CIPH_TRIBMAP_locker1, .CIPH_TRIBMAP_bind_en1),
    (.CIPH_TRIBMAP_locker2, .CIPH_TRIBMAP_bind_en2), (.CIPH_TRIBMAP_locker3, .CIPH_TRIBMAP_bind_en3)][t % 4]?).getD
      (.CIPH_TRIBMAP_locker0, .CIPH_TRIBMAP_bind_en0)

/-- Registers that hold staged fields (02_modes.md R37). -/
def stagedRgs : List Rg :=
  [.LE_PROFILE, .LE_FEC_CTRL, .CIPH_ENG_CTRL, .CLI_PORT_CFG, .CLI_PORT_ODU_RATE, .FAB_TRIB_CFG, .CIPH_TRIBMAP]

/-- The state with every staged field at the value in force, so that the MODE record of the image gives what is in force. -/
def State.asInForce (s : State) : State :=
  let s := (upTo 4).foldl (fun u n => u.wrs [(.LE_PROFILE_prof_staged, n, u.prof n),
    (.CIPH_ENG_CTRL_use_staged, n, u.rd .CIPH_ENG_CTRL_use_active n), (.LE_FEC_CTRL_rate_staged, n, u.rd .LE_FEC_CTRL_rate_active n)]) s
  let s := (upTo 64).foldl (fun u p =>
    let c := (u.portOf p).cfg
    u.wrs [(.CLI_PORT_CFG_type_staged, p, u.typeOf p), (.CLI_PORT_CFG_width, p, c.width), (.CLI_PORT_CFG_lane_mode, p, c.lane),
      (.CLI_PORT_CFG_flexe_head, p, c.head), (.CLI_PORT_ODU_RATE_odu_rate, p, c.odu)]) s
  let l := (s.activeTribs ++ s.instances .FAB_TRIB_CFG).dedup
  l.foldl (fun u t =>
    let x := u.tribOf t
    u.wrs [(.FAB_TRIB_CFG_src_kind, t, x.cfg.kind), (.FAB_TRIB_CFG_src_port, t, x.cfg.port),
      (.FAB_TRIB_CFG_fx_client_id, t, x.cfg.fx), (.FAB_TRIB_CFG_carrier, t, x.cfg.carrier),
      ((bindFlds t).1, t / 4, x.bind.getD 0), ((bindFlds t).2, t / 4, b2n x.bind.isSome)]) s

/-- The parameter word of the mode in force, as a MODE_SET would carry it. -/
def State.modeWord (s : State) : Nat := s.modeNow + 16 * s.role

/-- A REG record of kp_flip for an engine whose KP is 1, which follows the lockers. -/
def State.imageKp (s : State) (n : Nat) : List Byte :=
  if s.on .CIPH_ENG_CTRL_tx_kp n then
    changeRec 1 (beBytes 4 (0x000C0000 + 16 * n) ++ beBytes 4 (s.rwVal .CIPH_ENG_CTRL n + 32)) else []

/-- What the image says of the maps, the Storekeeper's inputs, the pilots and the dwell counts of an engine: the maps in
force, the next map and its marker while a switch is under way, the last valid block as often as it counts toward the
channel, and the reports of the local stages. -/
def State.imageEng (s : State) (n : Nat) : List Byte :=
  let k := s.skOf n
  let next := if s.swState n == 1 || s.swState n == 2 then k.man.filter (fun m => m.gen != (s.txOf n).map.gen) else none
  let rep := fun (kind gen : Nat) (st : MapStage) => placeIn n 2 (beBytes 1 st.ctorIdx ++ beBytes 1 kind ++ beBytes 2 gen)
  mapRec n (s.txOf n).map ++ mapRec n (s.rxOf n).map
    ++ (match next with
        | some m => mapRec n m ++ (if s.swState n == 2 then mapRec n m else []) ++ k.loaded.flatMap (rep 0 m.gen)
        | none => [])
    ++ (List.replicate k.okRun (placeIn n 1 k.lastBlk)).flatten
    ++ changeRec 6 (beBytes 1 n ++ beBytes 1 (s.rd .CAL_ENG_STATUS_pilot_tx n)) ++ s.dwellRec n

/-- The image (R304, R305, log entry 45): the mirrored registers with the staged fields as in force, the mode, the staged
fields that differ from what is in force, a mode request whose transition goes on, the lockers, the key phases, and the maps
and inputs of each engine. -/
def State.image (s : State) : List Byte :=
  let f := s.asInForce
  f.imageRegs ++ changeRec 2 (beBytes 4 s.modeWord)
    ++ stagedRgs.flatMap (fun r => ((s.instances r ++ f.instances r).dedup.filter (fun i => s.rwVal r i != f.rwVal r i)).flatMap
        (fun i => s.regRec r i))
    ++ (match s.mode.tr with
        | some t => if t.left.isEmpty then [] else changeRec 2 (beBytes 4 t.par)
        | none => [])
    ++ (match s.pair.key with
        | some pk => ((upTo 64).filter (fun l => s.lock.any (fun kv => kv.1 == l) || s.rd .CIPH_LOCK_STATUS_lgen l != 0)).flatMap
            (fun l => s.lockerRec l pk)
        | none => [])
    ++ (upTo s.engines).flatMap (fun n => s.imageKp n)
    ++ (s.servedEngs.filter (fun n => s.lpn n)).flatMap (fun n => s.imageEng n)

/-- The policy and the group of a tributary as it was placed, where the policy that its register holds would give others (07_placement.md
R235, R236; 02_modes.md R65; log entry 45). -/
def State.placedGens (s : State) (t : Nat) : List (Nat × Nat) :=
  let x := s.tribOf t
  let p := s.polNow t
  if x.pol == p && x.grp == (if polGrpEn p then some (polGrp p) else none) then []
  else [(8192 + t, x.pol), (16384 + t, match x.grp with | some g => g + 1 | none => 0)]

/-- The generations of the tributaries that have been released, as the image gives them, and what it says of those placed under another policy
(R284, R304, log entries 45, 99). -/
def State.imageGens (s : State) : List (Nat × Nat) :=
  ((upTo 1024).map (fun t => (t, s.rd .FAB_TRIB_STATUS_trib_gen t))).filter (fun x => x.2 != 0)
    ++ (if s.modeNow == 2 then (s.activeTribs.filter (fun t => !(s.mapEngs false t).isEmpty)).flatMap (fun t => s.placedGens t) else [])

/-- Send the image in BULK cells, the generations of the tributaries with the first, on the lane that is `k` places above the lowest lane up (R273, R304). -/
def State.sendImageOn (s : State) (k : Nat) : State :=
  let img := s.image
  let base := s.pair.mirSeq
  let count := (img.length + 24) / 25
  let s := s.modPair (fun p => { p with bulkTx := true, bulkBase := base, bulkTick := 0, bulkSends := k + 1, mirOut := [] })
  let gens := s.imageGens
  (upTo count).foldl (fun t i =>
    t.sendCellOf k (mkCell 8 (beBytes 4 base ++ beBytes 4 i ++ beBytes 4 (count - 1) ++ padTo 25 (slice img (25 * i) 25)))
      (if i == 0 then gens else [])) s

/-- Send a new image, on the lowest lane up. -/
def State.sendImage (s : State) : State := s.sendImageOn 0

/-- Messages are acknowledged: those up to `ack` are dropped, message `q` is sent no more. One whose target has passed may have
been applied late, and the image is sent (R279, R280, R283, log entry 171). -/
def State.mirAcked (s : State) (ack : Nat) (q : Option Nat) : State :=
  let hit := fun (m : MirOut) => !m.got && (!serLater m.seq ack || q == some m.seq)
  let past := s.pair.mirOut.any (fun m => hit m && cellField m.cell 6 4 != 0 && s.hasEng (byteAt m.cell 5)
    && dueAt (s.txOf (byteAt m.cell 5)).psc (some (cellField m.cell 6 4)))
  let left := (s.pair.mirOut.filter (fun m => serLater m.seq ack)).map (fun m => if q == some m.seq then { m with got := true } else m)
  let s := s.modPair (fun p => { p with mirOut := left })
  if past && s.mirroring then s.sendImage else s

/-! ### Commands between the members (R302 to R304) -/

/-- Send a CMD cell. -/
def State.sendCmd (s : State) (d : Option Desc) (req cause tag origin : Nat) : State :=
  let q := s.pair.cmdSeq
  let cell := mkCell 4 (beBytes 2 q ++ beBytes 1 req ++ beBytes 1 cause ++ beBytes 2 tag ++ beBytes 1 origin)
  (s.modPair (fun p => { p with cmdSeq := (q + 1) % 65536, cmdOut := some { d := d, cell := cell, sends := 1 } })).sendCell 0 cell

/-- Answer a CMD. -/
def State.sendCack (s : State) (seq result dup : Nat) : State :=
  s.sendCell 0 (mkCell 5 (beBytes 2 seq ++ beBytes 1 result ++ beBytes 1 dup))

/-- Complete a PAIR_SWITCH: its tag is remembered (R302). -/
def State.swDone (s : State) (d : Desc) (status detail : Nat) : State :=
  { s with mode := { s.mode with swMem := remember s.mode.swMem (fieldOf d.param0 16 16) status detail } }.done d status detail

/-! ### Switching (R293 to R301) -/

/-- The client transmitters start or go idle (R286, R297). -/
def State.clientTx (s : State) (v : Bool) : State :=
  let was := s
  (((upTo s.ports).foldl (fun t p => t.wr .CLI_PORT_STATUS_tx_on p (b2n (v && t.typeOf p != 0))) s).clientsAfter was).fabRefresh

/-- The SHADOW accepts a takeover (R68, R297, R298; 05 R168): `unready` is told by ready. -/
def State.takeover (s : State) : State :=
  if s.role != 2 then s
  else
    let unready := !s.on .PAIR_STATUS_ready
    let mode := if s.pair.mirMode == 0 then s.pair.peer.mode else s.pair.mirMode
    let s := s.modeAbort.setMode mode 1
    let s := s.modPair (fun p => { p with loaded := false, late := false, hold1s := false, bulkTx := false, mirOut := [],
                                          dyingTx := false, shFault := [] })
    let s := s.actRefresh
    let s := s.servedEngs.foldl (fun t n =>
      (t.modTx n (fun x => { x with swLeft := 9 })).protSend n 2 (t.txOf n).psc) s
    let s := ((s.clientTx true).d0Takeover.engRefresh).readyRefresh
    s.raiseReg .PAIR_EV_takeover 0 { arg := some (b2n unready) }

/-- The ACTIVE stands down: PAIR_ACT falls first, then its role and mode follow (R295, R301). `cause` is that of faulted,
0 for FORCE and MANUAL, after which ready stays 0 for 1 s. -/
def State.standDown (s : State) (cause : Nat) : State :=
  let was := s.modeNow
  let s := s.modeAbort.modPair (fun p => { p with dyingTx := false, shFault := [] })
  let s := (s.mirrorClear.setMode 5 2).modPair (fun p =>
    { p with mirMode := was, mirHeld := [], mirOut := [], bulkTx := false, hold1s := (cause == 0), force := false })
  let s := if cause == 0 then s else (s.wr .PAIR_STATUS_faulted 0 1).modPair (fun p => { p with cause := cause })
  ((s.clientTx false).d0Follow).wr .PAIR_STATUS_ready 0 0

/-- A fault of a member (R293, R295, R307): an ACTIVE with a ready peer yields by a RELINQUISH with its cause; otherwise it
reports the fault; a SHADOW is no longer ready (log entry 46). -/
def State.faultYield (s : State) (cause : Nat) : State :=
  if s.role == 1 then
    if s.linkUp && s.on .PAIR_STATUS_ready && !s.lockout && !s.pair.force then
      (s.standDown cause).sendCmd none 4 cause 0 0
    else s.raiseReg .PAIR_EV_unprot_fault
  else if s.role == 2 then (s.modPair (fun p => { p with late := true })).wr .PAIR_STATUS_ready 0 0
  else s

/-- What a switch request meets on the ACTIVE, in the codes of R302, 0 where it acts (R293). -/
def State.switchErr (s : State) (req : Nat) : Nat :=
  if req ≤ 1 then 0
  else if s.lockout || (req == 3 && s.pair.force) then 3
  else if !s.linkUp || s.pair.peer.mode != 5 || (req == 3 && !s.on .PAIR_STATUS_ready) then 2
  else if s.pair.cmdOut.isSome then 4
  else 0

/-- A request in force at the ACTIVE, the checks passed: CLEAR and LOCKOUT take effect, FORCE and MANUAL hand over
(R293, R295, R301). -/
def State.switchAct (s : State) (d : Option Desc) (req tag : Nat) : State :=
  match req with
  | 0 => (s.wr .PAIR_STATUS_lockout 0 0).modPair (fun p => { p with force := false })
  | 1 => s.wr .PAIR_STATUS_lockout 0 1
  | _ => (s.standDown 0).sendCmd d req 0 tag 0

/-- The SHADOW judges the ACTIVE (R294). -/
def State.judge (s : State) : State :=
  if s.role != 2 then s
  else if s.pair.dying || (s.pair.hbLost && !s.on .PAIR_STATUS_peer_alive) then s.takeover
  else if s.pair.hbLost then s.raiseReg .PAIR_EV_link_down
  else if !s.on .PAIR_STATUS_peer_alive then s.raiseReg .PAIR_EV_alive_fault
  else s

end Sys2Proof.Machine
end

