-- ==== Sys2Proof/Machine/Hash.lean ====
section
/-! DEFINITION. SHA-384 and ECDSA P-384 verification, which 15_security_and_config.md names by their standards: digests,
measurements, public-key validation and signatures (R492, R494, R506, R508). -/
namespace Sys2Proof.Machine

/-! ### SHA-384 -/

/-- Round constants. -/
def shaK : List Nat :=
  [0x428A2F98D728AE22, 0x7137449123EF65CD, 0xB5C0FBCFEC4D3B2F, 0xE9B5DBA58189DBBC] ++
  [0x3956C25BF348B538, 0x59F111F1B605D019, 0x923F82A4AF194F9B, 0xAB1C5ED5DA6D8118] ++
  [0xD807AA98A3030242, 0x12835B0145706FBE, 0x243185BE4EE4B28C, 0x550C7DC3D5FFB4E2] ++
  [0x72BE5D74F27B896F, 0x80DEB1FE3B1696B1, 0x9BDC06A725C71235, 0xC19BF174CF692694] ++
  [0xE49B69C19EF14AD2, 0xEFBE4786384F25E3, 0x0FC19DC68B8CD5B5, 0x240CA1CC77AC9C65] ++
  [0x2DE92C6F592B0275, 0x4A7484AA6EA6E483, 0x5CB0A9DCBD41FBD4, 0x76F988DA831153B5] ++
  [0x983E5152EE66DFAB, 0xA831C66D2DB43210, 0xB00327C898FB213F, 0xBF597FC7BEEF0EE4] ++
  [0xC6E00BF33DA88FC2, 0xD5A79147930AA725, 0x06CA6351E003826F, 0x142929670A0E6E70] ++
  [0x27B70A8546D22FFC, 0x2E1B21385C26C926, 0x4D2C6DFC5AC42AED, 0x53380D139D95B3DF] ++
  [0x650A73548BAF63DE, 0x766A0ABB3C77B2A8, 0x81C2C92E47EDAEE6, 0x92722C851482353B] ++
  [0xA2BFE8A14CF10364, 0xA81A664BBC423001, 0xC24B8B70D0F89791, 0xC76C51A30654BE30] ++
  [0xD192E819D6EF5218, 0xD69906245565A910, 0xF40E35855771202A, 0x106AA07032BBD1B8] ++
  [0x19A4C116B8D2D0C8, 0x1E376C085141AB53, 0x2748774CDF8EEB99, 0x34B0BCB5E19B48A8] ++
  [0x391C0CB3C5C95A63, 0x4ED8AA4AE3418ACB, 0x5B9CCA4F7763E373, 0x682E6FF3D6B2B8A3] ++
  [0x748F82EE5DEFB2FC, 0x78A5636F43172F60, 0x84C87814A1F0AB72, 0x8CC702081A6439EC] ++
  [0x90BEFFFA23631E28, 0xA4506CEBDE82BDE9, 0xBEF9A3F7B2C67915, 0xC67178F2E372532B] ++
  [0xCA273ECEEA26619C, 0xD186B8C721C0C207, 0xEADA7DD6CDE0EB1E, 0xF57D4F7FEE6ED178] ++
  [0x06F067AA72176FBA, 0x0A637DC5A2C898A6, 0x113F9804BEF90DAE, 0x1B710B35131C471B] ++
  [0x28DB77F523047D84, 0x32CAAB7B40C72493, 0x3C9EBE0A15C9BEBC, 0x431D67C49C100D4C] ++
  [0x4CC5D4BECB3E42B6, 0x597F299CFC657E2A, 0x5FCB6FAB3AD6FAEC, 0x6C44198C4A475817]

/-- Initial hash value of SHA-384. -/
def shaInit : List Nat :=
  [0xCBBB9D5DC1059ED8, 0x629A292A367CD507, 0x9159015A3070DD17, 0x152FECD8F70E5939] ++
  [0x67332667FFC00B31, 0x8EB44A8768581511, 0xDB0C2E0D64F98FA7, 0x47B5481DBEFA4FA4]

/-- Rotate a 64-bit word right. -/
def rotr64 (n x : Nat) : Nat := x / 2 ^ n + x % 2 ^ n * 2 ^ (64 - n)

/-- The next word of the message schedule, from the words so far, newest first. -/
def shaNext (w : List Nat) : Nat :=
  let s0 := fun x => rotr64 1 x ^^^ rotr64 8 x ^^^ (x / 2 ^ 7)
  let s1 := fun x => rotr64 19 x ^^^ rotr64 61 x ^^^ (x / 2 ^ 6)
  (s1 (w.getD 1 0) + w.getD 6 0 + s0 (w.getD 14 0) + w.getD 15 0) % 2 ^ 64

/-- One round on the working variables a to h. -/
def shaRound (v : List Nat) (kw : Nat) : List Nat :=
  match v with
  | [a, b, c, d, e, f, g, h] =>
    let t1 := h + (rotr64 14 e ^^^ rotr64 18 e ^^^ rotr64 41 e) + ((e &&& f) ^^^ ((2 ^ 64 - 1 - e) &&& g)) + kw
    let t2 := (rotr64 28 a ^^^ rotr64 34 a ^^^ rotr64 39 a) + ((a &&& b) ^^^ (a &&& c) ^^^ (b &&& c))
    [(t1 + t2) % 2 ^ 64, a, b, c, (d + t1) % 2 ^ 64, e, f, g]
  | _ => v

/-- The words of a block of 128 bytes, newest first. -/
def shaWords (b : List Byte) : List Nat := (upTo 16).foldl (fun w k => fromBE (slice b (8 * k) 8) :: w) []

/-- One block into the hash value. -/
def shaBlock (h : List Nat) (b : List Byte) : List Nat :=
  let w := ((upTo 64).foldl (fun w _ => shaNext w :: w) (shaWords b)).reverse
  let v := (List.zipWith (· + ·) shaK w).foldl shaRound h
  (List.zipWith (· + ·) h v).map (· % 2 ^ 64)

/-- Every whole block of a message, the first argument being their number. -/
def shaBlocks : Nat → List Nat → List Byte → List Nat
  | 0, h, _ => h
  | n + 1, h, m => shaBlocks n (shaBlock h (m.take 128)) (m.drop 128)

/-- SHA-384: 48 bytes. -/
def sha384 (m : List Byte) : List Byte :=
  let z := (239 - m.length % 128) % 128
  let p := m ++ [0x80] ++ List.replicate z 0 ++ beBytes 16 (8 * m.length)
  ((shaBlocks (p.length / 128) shaInit p).flatMap (beBytes 8)).take 48

/-- HMAC-SHA-384 of a message under a key of at most 128 bytes. -/
def hmac384 (key m : List Byte) : List Byte :=
  let k := padTo 128 key
  sha384 (k.map (· ^^^ 0x5C) ++ sha384 (k.map (· ^^^ 0x36) ++ m))

/-- 256 bits of the counter-mode KDF of NIST SP 800-108 with HMAC-SHA-384: one block, a 32-bit counter, the label, a zero byte, the
context and the length in bits (15_security_and_config.md R492; log entry 203). -/
def kdf256 (secret : BitVec 384) (label context : List Byte) : Nat :=
  fromBE ((hmac384 (beBytes 48 secret.toNat) (beBytes 4 1 ++ label ++ [0] ++ context ++ beBytes 4 256)).take 32)

/-- The labels "SKV KEK" and "SKV PAIR" (15_security_and_config.md R492, R503). -/
def labelKek : List Byte := [0x53, 0x4B, 0x56, 0x20, 0x4B, 0x45, 0x4B]
def labelPair : List Byte := [0x53, 0x4B, 0x56, 0x20, 0x50, 0x41, 0x49, 0x52]

/-! ### P-384 -/

/-- The field prime. -/
def ecP : Nat := 2 ^ 384 - 2 ^ 128 - 2 ^ 96 + 2 ^ 32 - 1
/-- The order of the base point. -/
def ecN : Nat :=
  0xFFFFFFFFFFFFFFFFFFFFFFFFFFFFFFFFFFFFFFFFFFFFFFFFC7634D81F4372DDF581A0DB248B0A77AECEC196ACCC52973
/-- The coefficient b. -/
def ecB : Nat :=
  0xB3312FA7E23EE7E4988E056BE3F82D19181D9C6EFE8141120314088F5013875AC656398D8A2ED19D2A85C8EDD3EC2AEF
/-- The base point. -/
def ecG : Nat × Nat :=
  (0xAA87CA22BE8B05378EB1C71EF320AD746E1D3B628BA79B9859F741E082542A385502F25DBF55296C3A545E3872760AB7,
   0x3617DE4A96262C6F5D9E98BF9292DC29F8F41DBD289A147CE9DA3113B5F0B8C00A60B1CE1D7E819D7A431D7C90EA0E5F)

/-- `a - b` modulo `m`, for reduced operands. -/
def subMod (m a b : Nat) : Nat := (a + m - b) % m

/-- A power modulo `m`, for exponents below 2^384. -/
def powMod (m b e : Nat) : Nat :=
  ((upTo 384).foldl (fun (acc : Nat × Nat) k => (if e.testBit k then acc.1 * acc.2 % m else acc.1, acc.2 * acc.2 % m))
    (1, b % m)).1

/-- A point in Jacobian coordinates; Z = 0 is the point at infinity. -/
abbrev EcPoint := Nat × Nat × Nat

/-- Double a point (a = -3). -/
def ecDouble : EcPoint → EcPoint
  | (x, y, z) =>
    let d := z * z % ecP
    let g := y * y % ecP
    let b := x * g % ecP
    let a := 3 * subMod ecP x d * ((x + d) % ecP) % ecP
    let x3 := subMod ecP (a * a % ecP) (8 * b % ecP)
    (x3, subMod ecP (a * subMod ecP (4 * b % ecP) x3 % ecP) (8 * g * g % ecP), 2 * y * z % ecP)

/-- Add two points. -/
def ecAdd : EcPoint → EcPoint → EcPoint
  | (x1, y1, z1), (x2, y2, z2) =>
    if z1 = 0 then (x2, y2, z2)
    else if z2 = 0 then (x1, y1, z1)
    else
      let a := z1 * z1 % ecP
      let b := z2 * z2 % ecP
      let u1 := x1 * b % ecP
      let u2 := x2 * a % ecP
      let s1 := y1 * z2 * b % ecP
      let s2 := y2 * z1 * a % ecP
      let h := subMod ecP u2 u1
      let r := subMod ecP s2 s1
      if h = 0 then if r = 0 then ecDouble (x1, y1, z1) else (1, 1, 0)
      else
        let hh := h * h % ecP
        let hc := h * hh % ecP
        let v := u1 * hh % ecP
        let x3 := subMod ecP (subMod ecP (r * r % ecP) hc) (2 * v % ecP)
        (x3, subMod ecP (r * subMod ecP v x3 % ecP) (s1 * hc % ecP), h * z1 * z2 % ecP)

/-- A multiple of a point. -/
def ecMul (k : Nat) (p : EcPoint) : EcPoint :=
  (upTo 384).foldl (fun acc i =>
    let d := ecDouble acc
    if k.testBit (383 - i) then ecAdd d p else d) (1, 1, 0)

/-- A public key as x then y, 768 bits: its coordinates. -/
def ecXY (q : Nat) : Nat × Nat := (q / 2 ^ 384, q % 2 ^ 384)

/-- Full public-key validation: coordinates below the prime, on the curve; x and y give no point at infinity (R492). -/
def ecValid (q : Nat) : Bool :=
  let (x, y) := ecXY q
  decide (x < ecP) && decide (y < ecP) && y * y % ecP == (x * x * x + (ecP - 3) * x + ecB) % ecP

/-- The affine coordinates of a point. -/
def ecAffine : EcPoint → Nat × Nat
  | (x, y, z) =>
    let w := powMod ecP z (ecP - 2)
    (x * w * w % ecP, y * w * w * w % ecP)

/-- The public key of a private one: x then y, 96 bytes (15_security_and_config.md R492). -/
def ecPublic (d : Nat) : List Byte :=
  let (x, y) := ecAffine (ecMul d (ecG.1, ecG.2, 1))
  beBytes 48 x ++ beBytes 48 y

/-- The ECDH P-384 shared secret of a private key and a public one: the x coordinate of the product (15_security_and_config.md R492,
R503). -/
def ecdh (d q : Nat) : BitVec 384 :=
  let (x, y) := ecXY q
  BitVec.ofNat 384 (ecAffine (ecMul d (x, y, 1))).1

/-- ECDSA P-384 with SHA-384: the signature r then s of a message under a public key holds. -/
def ecdsaOk (q : Nat) (m sig : List Byte) : Bool :=
  let r := fromBE (slice sig 0 48)
  let s := fromBE (slice sig 48 48)
  let e := fromBE (sha384 m)
  let w := powMod ecN s (ecN - 2)
  let (x, y) := ecXY q
  let (px, _, pz) := ecAdd (ecMul (e * w % ecN) (ecG.1, ecG.2, 1)) (ecMul (r * w % ecN) (x, y, 1))
  let iz := powMod ecP pz (ecP - 2)
  ecValid q && decide (0 < r) && decide (r < ecN) && decide (0 < s) && decide (s < ecN) && pz != 0
    && px * iz * iz % ecP % ecN == r

end Sys2Proof.Machine
end

