-- ==== Sys2Proof/Machine/SecOps.lean ====
section
/-! DEFINITION. Shared operations of security: measurements, the trapdoor, the lifecycle (15_security_and_config.md R489 to
R506). -/
namespace Sys2Proof.Machine

def State.modSec (s : State) (g : SecSt → SecSt) : State := { s with sec := g s.sec }
def State.modTrap (s : State) (g : Trap → Trap) : State := s.modSec (fun x => { x with trap := g x.trap })
def State.modPwr (s : State) (g : PwrSt → PwrSt) : State := { s with pwr := g s.pwr }

/-! ### Registers that hold bytes -/

/-- The bytes that a run of 32-bit registers holds, least significant first (00_scope.md R9). -/
def State.regBytes (s : State) (f : Fld) (first count : Nat) : List Byte :=
  (upTo count).flatMap (fun k => leBytes 4 (s.rd f (first + k)))

/-- Write bytes into a run of 32-bit registers. -/
def State.setRegBytes (s : State) (f : Fld) (first count : Nat) (b : List Byte) : State :=
  (upTo count).foldl (fun t k => t.wr f (first + k) (fromLE (slice b (4 * k) 4))) s

/-! ### Measurements (R506) -/

/-- Measurement register `m`, 48 bytes. -/
def State.meas (s : State) (m : Nat) : List Byte := s.regBytes .SEC_MEAS_meas (12 * m) 12

/-- Extend measurement `m` by `x`: M becomes SHA-384 of M and x. -/
def State.extend (s : State) (m : Nat) (x : List Byte) : State :=
  s.setRegBytes .SEC_MEAS_meas (12 * m) 12 (sha384 (s.meas m ++ x))

/-! ### Trapdoor (R493 to R498) -/

def State.dbgLevel (s : State) : Nat := s.rd .SEC_STATE_dbg_level

/-- The level returns to CLOSED and the session ends (R493). -/
def State.trapShut (s : State) : State :=
  if s.dbgLevel == 0 then s
  else
    let s := s.wrs [(.SEC_STATE_dbg_level, 0, 0), (.SEC_STATE_dbg_port, 0, 0), (.SEC_STATE_session_s, 0, 0)]
    (s.modTrap (fun t => { t with session := none })).raiseReg .SEC_EV_trap_close

/-- A level opens for a session on a port, in place of any that stands (R493, R496, R497); FULL purges every locker, as no
key exists in its cells (R500, R501). -/
def State.trapOpen (s : State) (pcie : Bool) (level secs : Nat) : State :=
  let s := s.wrs [(.SEC_STATE_dbg_level, 0, level), (.SEC_STATE_dbg_port, 0, b2n pcie), (.SEC_STATE_session_s, 0, secs)]
  let s := s.modTrap (fun t => { t with session := some pcie })
  let s := if level == 2 then s.purgeAll else s
  s.raiseReg .SEC_EV_trap_open

/-- A credential is refused with a result (R496). -/
def State.trapRefuse (s : State) (result : Nat) : State :=
  (s.wr .SEC_TRAP_CTRL_result 0 result).raiseCount (.reg .SEC_EV_trap_refused 0) {} 532

/-- Mailbox of a port, 256 bytes. -/
def State.mailbox (s : State) (pcie : Bool) : List Byte :=
  if pcie then s.regBytes .SEC_TRAP_MBOX_data 0 64 else padTo 256 s.sec.trap.mboxT

/-- A credential is pending or being verified; its nonce is used up by the submission (R496). -/
def State.trapTake (s : State) (pcie : Bool) : State :=
  let b := s.mailbox pcie
  let t := s.sec.trap
  let good := (if pcie then t.nonceP else t.nonceT) == some (slice b 12 32)
  let s := s.modTrap (fun t =>
    { t with pend := some (pcie, b, good), nonceP := (if pcie then none else t.nonceP),
             nonceT := (if pcie then t.nonceT else none) })
  s.wr .SEC_TRAP_CTRL_busy 0 1

/-- The PCIe credential being verified is dropped (R497). -/
def State.trapDrop (s : State) : State :=
  ((s.modTrap (fun t => { t with pend := none })).wr .SEC_TRAP_CTRL_busy 0 0).trapRefuse 7

/-- A submission on the test port: it drops a PCIe one; one of its own that is being verified stays (R497; log entry
235). -/
def State.submitTest (s : State) : State :=
  match s.sec.trap.pend with
  | none => s.trapTake false
  | some (true, _) => s.trapDrop.trapTake false
  | some (false, _) => s

/-- A submission on PCIe: refused while the test port holds the trapdoor (R497); one of its own that is being verified stays (log
entry 235). -/
def State.submitPcie (s : State) : State :=
  match s.sec.trap.pend with
  | some (false, _) => (s.modTrap (fun t => { t with nonceP := none })).trapRefuse 7
  | some (true, _) => s
  | none =>
    if s.sec.trap.session == some false then (s.modTrap (fun t => { t with nonceP := none })).trapRefuse 7
    else s.trapTake true

/-- A write of 1 to nonce_req: 32 fresh random bytes (R496). -/
def State.nonceReq (s : State) (pcie : Bool) : State :=
  let b := beBytes 32 (Config.freeRandom s.free).toNat
  let s := s.tick
  if pcie then (s.modTrap (fun t => { t with nonceP := some b })).setRegBytes .SEC_TRAP_NONCE_nonce 0 8 b
  else s.modTrap (fun t => { t with nonceT := some b })

/-- A write of 1 to close from a port; only the holding port's acts (R493). -/
def State.trapClose (s : State) (pcie : Bool) : State := if s.sec.trap.session == some pcie then s.trapShut else s

/-! ### Lifecycle (R489 to R492) -/

/-- A request is refused (R490). -/
def State.lcRefuse (s : State) : State := (s.wr .SEC_LC_CTRL_lc_err 0 1).raiseReg .SEC_EV_lc_change

/-- A request to move to state `req` meets R490; the provisioning block lies in the mailbox `b`. -/
def State.lcAllowed (s : State) (req : Nat) (b : List Byte) : Bool :=
  s.modeNow == 0 && s.sec.lcPend.isNone &&
    (match req with
      | 1 => s.lcState == 0 && ecValid (fromBE (slice b 0 96)) && ecValid (fromBE (slice b 96 96))
      | 2 => s.lcState == 1
      | 3 => decide (s.lcState ≤ 2) && s.sec.trap.ret
      | _ => false)

/-- A write of lc_req by a requester; another than the privileged one is ignored (R490, R515). -/
def State.lcReq (s : State) (rq : Requester) (req : Nat) : State :=
  if !s.privileged rq then s
  else
    let b := s.mailbox (rq != .test)
    if s.lcAllowed req b then s.modSec (fun x => { x with lcPend := some (req, if req == 1 then b.take 192 else []) })
    else s.lcRefuse

/-- Fuse a lifecycle code in its three copies (R491). -/
def State.fuseLc (s : State) (c : Nat) : State := { s with fuse := { s.fuse with lc0 := c, lc1 := c, lc2 := c } }

/-- What a transition fuses beside its code: the OWNER anchor and the KEK, or the KEK's end (R490, R492). -/
def State.fuseKeys (s : State) (c : Nat) (b : List Byte) : State :=
  match c with
  | 1 =>
    let kek := kdf256 (ecdh s.fuse.idPriv (fromBE (slice b 96 96))) labelKek (beBytes 8 s.fuse.devid)
    { s with fuse := { s.fuse with owner := some (slice b 0 96), kek := some kek } }
  | 3 => ({ s with fuse := { s.fuse with kek := none } }).purgeAll
  | _ => s

/-- A supply failure or a reset cuts a burn: how many of the three copies are burnt by then is a free value, and from two on the
majority reads the new state, with what it fuses (R491; log entry 204). -/
def State.burnCut (s : State) : State :=
  match s.sec.lcPend with
  | none => s
  | some (c, b) =>
    let k := (Config.freeByte s.free).toNat % 4
    let s := (s.tick).modSec (fun x => { x with lcPend := none })
    let s := { s with fuse := { s.fuse with lc0 := (if 1 ≤ k then c else s.fuse.lc0), lc1 := (if 2 ≤ k then c else s.fuse.lc1),
                                            lc2 := (if 3 ≤ k then c else s.fuse.lc2) } }
    if 2 ≤ k then s.fuseKeys c b else s

/-- An accepted transition completes (R490, R492, R493, R506). -/
def State.lcDone (s : State) (c : Nat) (b : List Byte) : State :=
  let s := s.modSec (fun x => { x with lcPend := none, trap := { x.trap with ret := false } })
  let s := (s.fuseLc c).fuseKeys c b
  ((s.extend 3 [BitVec.ofNat 8 c]).trapShut).raiseReg .SEC_EV_lc_change

/-- The running level (R510). -/
def State.runLevel (s : State) : Nat :=
  if s.rd .PAIR_STATUS_link_state == 2 then s.rd .PAIR_LEVEL_fl_agreed else s.rd .PAIR_LEVEL_fl_run

/-- A write of 1 to rb_raise by the privileged requester: never a value below rb_floor (R506). -/
def State.rbRaise (s : State) (rq : Requester) : State :=
  if s.privileged rq && decide (s.fuse.rbFloor ≤ s.sec.runRb) then
    { s with fuse := { s.fuse with rbFloor := s.sec.runRb } }
  else s

/-- A write of 1 to host_priv (R499). -/
def State.hostPrivDrop (s : State) : State := s.wr .SEC_STATE_host_priv 0 0

end Sys2Proof.Machine
end

