-- ==== Sys2Proof/Machine/PowerOps.lean ====
section
/-! DEFINITION. Shared operations of the power states, the pads and the cellar's log (14_power_and_cellar.md R464 to
R486). -/
namespace Sys2Proof.Machine

def State.modCel (s : State) (g : CelSt → CelSt) : State := { s with cel := g s.cel }
/-! ### The alarm log (R478) -/

/-- Show how many entries are not yet reported. -/
def State.logShow (s : State) : State :=
  s.wr .PWR_CEL_STATUS_log_count 0 ((s.cel.log.filter (fun e => !e.reported)).length)

/-- Log an entry; a full log overwrites its oldest. -/
def State.logAdd (s : State) (code arg : Nat) : State :=
  let e : LogEntry := { rtc := s.cel.rtc, onBat := s.on .PWR_CEL_STATUS_on_bat, code := code, arg := arg % 65536 }
  let full := decide (64 ≤ s.cel.log.length)
  let s := s.modCel (fun c => { c with log := (if full then c.log.drop 1 else c.log) ++ [e] })
  let s := if full then s.wr .PWR_CEL_STATUS_log_lost 0 (min 255 (s.rd .PWR_CEL_STATUS_log_lost + 1)) else s
  s.logShow

/-- The 12 bytes of an entry (R478). -/
def LogEntry.bytes (e : LogEntry) : List Byte :=
  leBytes 12 (e.rtc % 2 ^ 47 + b2n e.onBat * 2 ^ 47 + b2n e.reported * 2 ^ 48 + e.code * 2 ^ 56 + e.arg * 2 ^ 64)

/-- The RTC count that a command carries. -/
def State.atRtc (s : State) (rtc : Nat) : State := s.modCel (fun c => { c with rtc := rtc % 2 ^ 47 })

/-! ### Gating in TRIM (R467) -/

/-- An engine is power-gated: OUT in TRIM, or fused off. -/
def State.engGated (s : State) (n : Nat) : Bool := !s.hasEng n || (s.powerNow == 1 && !s.inService n)
/-- A client lane is power-gated: of no in-service port in TRIM, or fused off. -/
def State.laneGated (s : State) (lane : Nat) : Bool :=
  !s.hasPort lane || (s.powerNow == 1 && !(upTo s.ports).any (fun p => s.typeOf p != 0 && decide (p ≤ lane)
    && decide (lane < p + 2 ^ (s.portOf p).cfg.width)))
/-- A pair lane is power-gated. -/
def State.pairLaneGated (s : State) (k : Nat) : Bool := s.powerNow == 1 && !(s.rd .PAIR_CTRL_lane_en).testBit k
/-- A deskew bin is power-gated. -/
def State.binGated (s : State) (b : Nat) : Bool := s.powerNow == 1 && SMap.get 0 s.bins b == 0

/-! ### Entering a state (R464, R466, R473, R474, R482) -/

/-- An engine loses its clocks: it stops, and its traffic's record ends; profile, keys and PSC stay (R71 of
02_modes.md; 03_line_engine.md R83, R101). -/
def State.engSleep (s : State) (n : Nat) : State :=
  let s := ((s.applyAllShadows n).txRefresh n).acqStop n
  (((((s.clearDefects n).excessClear n).dropFmtFar n).decSpoil n).chanDown n).modTx n (fun x => { x with regenQ := [] })

/-- A client port loses its clocks. -/
def State.portSleep (s : State) (p : Nat) : State :=
  s.wrs [(.CLI_PORT_STATUS_rx_sig, p, 0), (.CLI_PORT_STATUS_rx_lock, p, 0), (.CLI_PORT_STATUS_rx_hiber, p, 0),
    (.CLI_PORT_STATUS_rx_lf, p, 0), (.CLI_PORT_STATUS_rx_rf, p, 0), (.CLI_PORT_STATUS_fx_ok, p, 0),
    (.CLI_PORT_STATUS_tx_on, p, 0)]

/-- The pair lanes go down. -/
def State.lanesSleep (s : State) : State := (s.wr .PAIR_STATUS_lanes_up 0 0).bridgeRefresh

/-- Hold more pad groups: the DACs at mid-scale, PAIR_ALIVE_OUT at its level and no longer toggling, AOUT at high impedance,
HK_ALM not asserted (R474). -/
def State.holdPads (s : State) (g : Nat) : State :=
  let s := s.wr .PWR_PAD_held 0 (s.rd .PWR_PAD_held ||| g)
  let s := if g.testBit 2 then { s with pin := { s.pin with aliveOut := false } } else s
  let s := (upTo s.engines).foldl (fun t n => t.dacShow n) s
  if g.testBit 5 then (upTo 4).foldl (fun t k => t.aoutRefresh k) s.almRefresh else s

/-- References whose domains are off fail for want of activity (R473; 09_timing.md R318). -/
def State.refsSleep (s : State) (l : List Nat) : State :=
  (l.filter (fun i => s.hasRef i)).foldl (fun t i => t.refFail i 1) s

/-- SMPn, CORE, FAB, CLRX, CLTX and PAIR go off; a mode other than SETUP is held (R464, R473; 02_modes.md R71). -/
def State.sleep (s : State) (st : Nat) : State :=
  let s := s.wr .PWR_STATUS_state 0 st
  let s := { s with mode := { s.mode with held := s.modeNow != 0, resume := false } }
  let s := (upTo s.engines).foldl (fun t n => if t.inService n then t.engSleep n else t) s
  let s := (upTo s.ports).foldl (fun t p => if t.typeOf p != 0 then t.portSleep p else t) s
  (s.lanesSleep.refsSleep [2, 3, 4, 5, 6, 7, 8, 9, 11]).holdPads 7

/-- Housekeeping stops. -/
def State.hkSleep (s : State) : State :=
  (s.modHk (fun h =>
    { h with reg := false, inj := false, slot := 0, left := 0, cut := none, startHeld := false, stopReq := false,
             endIdle := false, calSlot := false })).hkShow

/-- On entry to MOTHBALL the RTC count and the ToD of one tick edge and the holdover model go to the cellar (R482). -/
def State.entryRecord (s : State) : State :=
  let model := if s.tim.model.valid then s.tim.model else s.cel.model
  s.modCel (fun c => { c with entryRec := some (c.rtc, s.tim.tod), model := model })

/-- What SRAM holds of the data path is lost: containers, shares, positions, and a record being gathered (R482); registers, ring
generations and lockers are retained. -/
def State.sramLost (s : State) : State :=
  let s := (s.trib.map (·.1)).foldl (fun t i => t.modTrib i (fun x =>
    { x with q := [], frm := [], rxQ := [], rxLen := [], ozSeq := [], err := false, drop := false })) s
  let s := (s.grp.map (·.1)).foldl (fun t g => t.modGrp g (fun x => { x with share := [], rxShare := [] })) s
  let s := (upTo s.engines).foldl (fun t n => (t.modTx n (fun x => { x with loopQ := [], loopI := [] })).modFec n (fun f =>
    { f with win := [], old := [], outQ := [], loopPos := [] })) s
  let s := s.modPair (fun p => { p with copyQ := [] })
  { s with perf := { s.perf with hkBuf := [], hkN := 0 } }

/-- Every domain but CELL stops and all SRAM but the retention arrays is lost (R464, R473, R482). -/
def State.mothball (s : State) (tod : Nat) : State :=
  let s := (s.atTod tod).linkRegsDown.linkLoss
  let s := (s.refsSleep [0, 1, 10]).hkSleep
  let s := s.entryRecord.sramLost
  let s := { s with tim := { s.tim with avg0 := none, model := {}, setPend := none, samples := [] } }
  let s := s.modSec (fun x => { x with dbgMem := [], stage := none, stageEnd := 0 })
  (s.wr .SEC_SHELF_STATUS_staged 0 0).holdPads 63

/-- The board switches rails off under PWR_MAIN_EN (R464, R484; 18_pins_and_electrical.md R558). -/
def State.mainOff (s : State) (rails : Nat) : State :=
  { s with pin := { s.pin with mainEn := false } }.wr .PWR_RAIL_rail_ok 0 (s.rd .PWR_RAIL_rail_ok &&& rails)

/-- PWR_MAIN_EN has risen and the switched rails are awaited: in a power-up, or at an exit from MOTHBALL (18_pins_and_electrical.md
R556). -/
def State.mainRising (s : State) : Bool := s.pwr.up == 2 || s.pwr.exitFrom == some 3

/-! ### Leaving a state (R466, R469 to R473) -/

/-- An exit to RUN starts; from MOTHBALL PWR_MAIN_EN rises (R466, R478). -/
def State.exitStart (s : State) : State :=
  let st := s.powerNow
  let s := s.modPwr (fun p => { p with exitFrom := some st, wakeLat := false })
  let s := s.wrs [(.PWR_STATUS_busy, 0, 1), (.SYS_MODE_busy, 0, 1)]
  let s := if st == 3 then { s with pin := { s.pin with mainEn := true } } else s
  s.logAdd 6 (s.regVal .PWR_WAKE_SRC 0 % 65536)

/-- The state whose wake sources count: the one stood in or being entered; none elsewhere, in a power-up or after a rail
failure (R469, R472; 18_pins_and_electrical.md R557). -/
def State.wakeState (s : State) : Option Nat :=
  let st := s.pwr.entry.getD s.powerNow
  if (st == 2 || st == 3) && s.pwr.up == 0 && !s.pwr.failed then some st else none

/-- A wake source fires: its bit, and the exit, at once or when the entry has ended (R469, R472). -/
def State.wake (s : State) (f : Fld) (v : Nat) : State :=
  let s := s.setEv f 0 (s.rd f ||| v)
  if s.pwr.entry.isSome then s.modPwr (fun p => { p with wakeLat := true })
  else if s.pwr.exitFrom.isSome then s
  else s.exitStart

/-! ### Rail failure (R485) -/

/-- A DYING cell: its cause, the rails and hb_seq of the last HB (08_pair_protection.md R304). -/
def State.dyingCell (s : State) (cause rails : Nat) : List Byte :=
  mkCell 7 (beBytes 1 cause ++ beBytes 1 rails ++ beBytes 2 ((s.pair.hbSeq + 65535) % 65536))

/-- DYING in 2 consecutive cell slots on every lane that is up, while paired (08_pair_protection.md R268, R304). -/
def State.sendDying (s : State) (cause rails : Nat) : State :=
  if s.role == 0 then s
  else
    let c := s.dyingCell cause rails
    ((s.sendAll c).sendAll c).modPair (fun p => { p with dyingTx := s.role == 1 })

/-- Rails are in range no more. -/
def State.railsGone (s : State) (rails : Nat) : State :=
  s.wr .PWR_RAIL_rail_ok 0 (s.rd .PWR_RAIL_rail_ok - (s.rd .PWR_RAIL_rail_ok &&& rails))

/-- The sequence of R485. -/
def State.railFail (s : State) (rails : Nat) : State :=
  let s := s.burnCut.railsGone rails
  let s := s.sendDying 2 (s.rd .PWR_RAIL_rail_ok)
  let s := { s with pin := { s.pin with pairAct := false } }
  let s := s.modPwr (fun p => { p with failed := true, up := 0, entry := none, exitFrom := none, wakeLat := false })
  let s := (upTo s.engines).foldl (fun t n => t.txRefresh n) s
  let s := (s.holdPads 63).purgeAll
  let s := if rails.testBit 4 then s.wr .PWR_CEL_STATUS_on_bat 0 1 else s
  let s := (s.logAdd 3 rails).linkRegsDown.linkLoss
  { s with pin := { s.pin with mainEn := false, serdesIdle := true,
                               dacOn := [] } }

/-! ### The wake pattern (R470, R471) -/

/-- The word 0xB38F, most significant bit first. -/
def wakeWord : List Bool := bitsHigh 16 0xB38F

/-- The 48 bits of a wake pattern sent 3 times. -/
def wakeSent : List Bool := wakeWord ++ wakeWord ++ wakeWord

/-- A write of PWR_WAKE_TX. -/
def State.wakeTxWrite (s : State) (val : Nat) : State :=
  let s := s.wrs [(.PWR_WAKE_TX_wake_eng, 0, fieldOf val 0 4), (.PWR_WAKE_TX_wake_port, 0, fieldOf val 4 6),
    (.PWR_WAKE_TX_wake_port_en, 0, fieldOf val 10 1)]
  if !s.awake then s
  else
    let p := fieldOf val 4 6
    let s := ((upTo s.engines).filter (fun n => val.testBit n)).foldl (fun t n =>
      ((t.modTx n (fun x => { x with wakePat := true })).txRefresh n).emit
        (.wakeLine n (wakeSent.map (fun b => if b then 0xFF else 0x80)))) s
    if val.testBit 10 && s.hasPort p then s.emit (.wakeClient p wakeSent) else s

/-! ### Pads (R475) -/

/-- Groups whose domains run: all in RUN and TRIM; in NAP CLOCK, BUS and HK (R464, R474); none elsewhere. -/
def State.padsRun (s : State) : Nat :=
  if s.awake && s.pwr.exitFrom.isNone then 63 else if s.powerNow == 2 then 56 else 0

/-- The pads of released groups follow their live drivers (R475). -/
def State.padsLive (s : State) (m : Nat) : State :=
  let s := if m.testBit 2 then { s.actRefresh with pin := { s.actRefresh.pin with aliveOut := !s.sec.restart } } else s
  let s := ((upTo s.engines).foldl (fun t n => t.dacShow n) s).clkRefresh
  (upTo 4).foldl (fun t k => t.aoutRefresh k) s.almRefresh

/-- A write of pad_release: held groups whose domains run are released; for a held group whose domain does not run
rel_early is set. -/
def State.padRelease (s : State) (grps : Nat) : State :=
  let held := s.rd .PWR_PAD_held
  let want := held &&& (grps % 64)
  let m := want &&& s.padsRun
  let s := if m == want then s else s.setEv .PWR_PAD_rel_early 0
  if m == 0 then s else (s.wr .PWR_PAD_held 0 (held - m)).padsLive m

/-- A power-up begins: no group is held and the boot is not ready (18_pins_and_electrical.md R559; 17_register_map.md R543). -/
def State.padsFresh (s : State) : State := s.wrs [(.PWR_PAD_held, 0, 0), (.SYS_RST_STATUS_boot_ready, 0, 0)]

/-! ### What the pads show (R474, R486; 18_pins_and_electrical.md R552, R559) -/

/-- Output pads of the tables of R474 and R559. -/
inductive Pad where
  | dac (eng : Nat) | client (lane : Nat) | pairLane (k : Nat) | pcie | pairAct | aliveOut | mainEn | clk (k : Nat) | pps
  | aout (k : Nat) | alm | qspiCs | qspiClk | i3c | uart | tdo
deriving DecidableEq, Repr

/-- What a pad shows: what its block drives, or one of the levels of R474, R486 and R559. -/
inductive PadLevel where
  | live | midScale | highZ | electricalIdle | low | high | still | released | notAsserted | pulledDown
deriving DecidableEq, Repr

/-- Group of R474 that a pad belongs to; 6 for a pad of no group. -/
def Pad.group : Pad → Nat
  | .dac _ => 0
  | .client _ => 1
  | .pairLane _ | .pairAct | .aliveOut => 2
  | .clk _ | .pps => 3
  | .qspiCs | .qspiClk | .i3c | .uart => 4
  | .aout _ | .alm => 5
  | .pcie | .mainEn | .tdo => 6

/-- A pad that the variant does not have (18_pins_and_electrical.md R552). -/
def State.padAbsent (s : State) : Pad → Bool
  | .dac n => !s.hasEng n
  | .client l => !s.hasPort l
  | _ => false

/-- A logic level. -/
def logicLevel (b : Bool) : PadLevel := if b then .high else .low

/-- A pad from the presence of VDD_IO until boot_ready (18_pins_and_electrical.md R559). -/
def State.padBoot (s : State) : Pad → PadLevel
  | .dac _ => if (s.rd .PWR_RAIL_rail_ok).testBit 2 then .midScale else .highZ
  | .client _ | .pairLane _ | .pcie => .electricalIdle
  | .mainEn => logicLevel s.pin.mainEn
  | .pairAct | .aliveOut | .clk _ | .pps | .qspiClk => .low
  | .aout _ | .tdo => .highZ
  | .alm => .notAsserted
  | .qspiCs | .uart => .high
  | .i3c => .released

/-- A pad of a held group (R474). -/
def State.padAtHold (s : State) : Pad → PadLevel
  | .dac _ => .midScale
  | .client _ | .pairLane _ | .pcie => .electricalIdle
  | .mainEn => logicLevel s.pin.mainEn
  | .pairAct => logicLevel s.pin.pairAct
  | .aliveOut | .clk _ | .pps => .still
  | .qspiClk => .low
  | .aout _ | .tdo => .highZ
  | .alm => .notAsserted
  | .qspiCs | .uart => .high
  | .i3c => .released

/-- A pad that follows its block (03_line_engine.md R84; R485). -/
def State.padLive (s : State) : Pad → PadLevel
  | .dac n => if SMap.get false s.pin.dacOn n || (s.txOf n).wakePat then .live else .midScale
  | .client l => if s.pin.serdesIdle || s.laneGated l then .electricalIdle else .live
  | .pairLane k => if s.pin.serdesIdle || s.pairLaneGated k then .electricalIdle else .live
  | .pcie => if s.pin.serdesIdle || !s.on .HOST_LINK_link_up then .electricalIdle else .live
  | .mainEn => logicLevel s.pin.mainEn
  | .pairAct => logicLevel s.pin.pairAct
  | .aliveOut => if s.pin.aliveOut then .live else .still
  | .aout k => if (SMap.get none s.pin.aout k).isSome then .live else .highZ
  | .alm => if s.on .HK_ALM_CTRL_alm_asserted then .live else .notAsserted
  | .tdo => .highZ
  | _ => .live

/-- What a pad shows: without VDD_IO the board's pull-downs set it; until boot_ready, held, or following its block (R474, R486;
18_pins_and_electrical.md R552, R559). -/
def State.padLevel (s : State) (p : Pad) : PadLevel :=
  if !(s.rd .PWR_RAIL_rail_ok).testBit 4 then .pulledDown
  else if s.padAbsent p then .highZ
  else if s.padHeld p.group then s.padAtHold p
  else if !s.on .SYS_RST_STATUS_boot_ready then s.padBoot p
  else s.padLive p

/-! ### Tamper (R479; 15_security_and_config.md R502) -/

/-- SEC_TAMPER_PURGE is raised in RUN; TRIM counts as RUN here (log entry 51). -/
def State.tamperReport (s : State) : State :=
  if s.pwr.tamperPurge && s.awake then (s.modPwr (fun p => { p with tamperPurge := false })).raiseReg .SEC_EV_tamper_purge
  else s

end Sys2Proof.Machine
end

