-- ==== Sys2Proof/Machine/CelOps.lean ====
section
/-! DEFINITION. Register writes into the cellar and its loss of power (01_architecture.md R21; 14_power_and_cellar.md R476,
R481, R487). -/
namespace Sys2Proof.Machine

/-- Fields of the registers of some reset domains, as the numbers that key them. -/
def domIds (p : Dom → Bool) : List Nat :=
  ((Rg.all.filter (fun r => p r.info.dom)).flatMap Rg.fields).map (fun f => f.ctorIdx)

/-- A register of the cellar that a write acts on. -/
def Rg.cellarRw (r : Rg) : Bool :=
  r.info.dom == .cellar && r.fields.any (fun f => f.info.acc == .rw || f.info.acc == .w1c || f.info.acc == .w1s)

/-- A PCIe write to a cellar register begins to cross X16; a second one to the same register before the busy flag has cleared is
discarded and counted (01_architecture.md R21; R488). -/
def State.cellarWrite (s : State) (addr val : Nat) : State :=
  match regAt addr with
  | none => s
  | some (r, _) =>
    if !r.cellarRw then s
    else if s.cel.busyAt.contains addr then s.count 531
    else (s.modCel (fun c => { c with pend := c.pend ++ [(addr, val)], busyAt := c.busyAt ++ [addr] })).wr .PWR_CEL_STATUS_cel_busy 0 1

/-- A write of cel_ack (R481). -/
def State.celAck (s : State) : State := s.wr .PWR_CEL_STATUS_cel_valid 0 1

/-- A cellar register takes a word. -/
def State.cellarApply (s : State) (addr val : Nat) : State :=
  match regAt addr with
  | none => s
  | some (r, i) =>
    let s := (s.writeRw r i val).writeW1c r i val
    if r == .PWR_CEL_CTRL && val.testBit 3 then s.celAck else s

/-- The oldest write that is crossing takes effect (01_architecture.md R21). -/
def State.cellarDone (s : State) : State :=
  match s.cel.pend with
  | [] => s
  | (a, v) :: rest =>
    (s.modCel (fun c => { c with pend := rest, busyAt := if rest.isEmpty then [] else c.busyAt })).cellarApply a v |>.wr .PWR_CEL_STATUS_cel_busy 0 (b2n !rest.isEmpty)

/-- The cellar's contents are lost (R481): its registers, RTC, log, model and record. -/
def State.cellarLost (s : State) : State :=
  let ids := domIds (fun d => d == .cellar)
  { s with regs := s.regs.filter (fun kv => !ids.contains (kv.1 % 1024)), cel := {} }

end Sys2Proof.Machine
end

