-- ==== Sys2Proof/Machine/PairLink.lean ====
section
/-! DEFINITION. Meanings of the pair link's commands: lanes, heartbeat, forming the pair (08_pair_protection.md R268 to
R276, R294; 15_security_and_config.md R503). -/
namespace Sys2Proof.Machine

/-! ### Lanes and the ALIVE wire -/

/-- PEER_ALIVE_LOST: peer_alive falls, and the SHADOW judges (R268, R294). -/
def execPeerAliveLost (s : State) : Host.Outcome State Fault Refusal :=
  ok (if s.on .PAIR_STATUS_peer_alive then (s.wr .PAIR_STATUS_peer_alive 0 0).judge else s)

/-- PEER_ALIVE_GAINED (R268). -/
def execPeerAliveGained (s : State) : Host.Outcome State Fault Refusal := ok (s.wr .PAIR_STATUS_peer_alive 0 1)

/-- PAIR_LANE_DOWN (R273). -/
def execPairLaneDown (k : LaneId) (s : State) : Host.Outcome State Fault Refusal :=
  ok (if (s.rd .PAIR_STATUS_lanes_up).testBit k then
      (s.wr .PAIR_STATUS_lanes_up 0 (s.rd .PAIR_STATUS_lanes_up - 2 ^ k.val)).bridgeRefresh
    else s)

/-- PAIR_LANE_UP: an enabled lane of a link that is being trained or runs (R273, R274). -/
def execPairLaneUp (k : LaneId) (s : State) : Host.Outcome State Fault Refusal :=
  ok (if s.linkState != 0 && (s.rd .PAIR_CTRL_lane_en).testBit k && !(s.rd .PAIR_STATUS_lanes_up).testBit k then
      (s.wr .PAIR_STATUS_lanes_up 0 (s.rd .PAIR_STATUS_lanes_up + 2 ^ k.val)).bridgeRefresh
    else s)

/-- A write of lane_en: a lane that is not enabled is down (R308). -/
def State.laneEnWrite (s : State) (v : Nat) : State :=
  let s := s.wr .PAIR_CTRL_lane_en 0 v
  let up := s.rd .PAIR_STATUS_lanes_up &&& v
  if up == s.rd .PAIR_STATUS_lanes_up then s else (s.wr .PAIR_STATUS_lanes_up 0 up).bridgeRefresh

/-- A write of pair_en (R274). What a member faulted for stands on (R301, R308). -/
def State.pairEnWrite (s : State) (v : Bool) : State :=
  if v then
    if s.linkState != 0 then s
    else ((s.wr .PAIR_CTRL_pair_en 0 1).wr .PAIR_STATUS_link_state 0 1).modPair (fun p => { p with hbLost := true, hbRun := 0 })
  else if s.role != 0 then s
  else
    let s := s.modPair (fun p => { hbSeq := p.hbSeq, mirSeq := p.mirSeq, cmdSeq := p.cmdSeq, cellId := p.cellId,
                                   tune := p.tune, txSfm := p.txSfm, sfmPsc := p.sfmPsc, cause := p.cause, fault := p.fault })
    (s.wrs [(.PAIR_CTRL_pair_en, 0, 0), (.PAIR_STATUS_link_state, 0, 0), (.PAIR_LEVEL_fl_agreed, 0, 0),
      (.PAIR_STATUS_refuse_cause, 0, 0), (.PAIR_STATUS_lanes_up, 0, 0), (.PAIR_STATUS_ready, 0, 0)]).bridgeRefresh.setMember 0

/-! ### Heartbeat (R271, R272) -/

/-- The HB cell of this tick (R271). -/
def State.hbCell (s : State) : List Byte :=
  let bits := fun (l : List Nat) (p : Nat → Bool) => l.foldl (fun a k => a + b2n (p k) * 2 ^ k) 0
  let engs := upTo s.engines
  mkCell 1 (beBytes 1 (s.role * 64 + s.modeNow * 4) ++ beBytes 2 s.pair.hbSeq ++ beBytes 1 s.partCode
    ++ beBytes 1 (s.rd .PAIR_LEVEL_fl_run) ++ beBytes 1 (s.rd .PAIR_LEVEL_fl_floor)
    ++ beBytes 1 (s.rd .PAIR_STATUS_faulted + 2 * b2n (s.modeNow == 5 && s.on .PAIR_STATUS_ready) + 4 * b2n s.lockout)
    ++ beBytes 4 s.pair.mirIn ++ beBytes 2 (s.pair.cmdIn.getD 0)
    ++ beBytes 1 (bits engs (fun n => s.on .LE_STATUS_dsp_lock n && s.on .LE_FRM_STATUS_in_frame n)
        + 16 * bits engs (fun n => s.on .LE_STATUS_sig_present n))
    ++ [0] ++ beBytes 8 (bits (upTo s.ports) (fun p => s.typeOf p != 0 && s.on .CLI_PORT_STATUS_rx_lock p))
    ++ (upTo 4).flatMap (fun n => beBytes 2 (s.rd .LE_FO_EST_fo_est n)))

/-- HB_TICK: an HB on every lane that is up, while the link is not OFF and the PAIR clock runs (R271, R274; 14 R464). The
SHADOW's readiness is brought up to date (R289), and an image that has not been confirmed is sent again (R304, log
entry 45). -/
def execHbTick (s : State) : Host.Outcome State Fault Refusal :=
  ok (if s.linkState == 0 || !s.awake then s
    else
      let s := s.modPair (fun p => 
        { p with gap := (if p.mirHeld.isEmpty || !p.loaded then 0 else min 8 (p.gap + 1)),
                 bulkTick := (if p.bulkTx then p.bulkTick + 1 else 0) })
      let s := s.readyRefresh
      let s := (s.sendAll s.hbCell).modPair (fun p => { p with hbSeq := (p.hbSeq + 1) % 65536 })
      if s.mirroring && s.pair.bulkTx && decide (1024 ≤ s.pair.bulkTick) then s.sendImageOn s.pair.bulkSends else s)

/-- The peer as an HB shows it (R271). -/
def peerOf (c : List Byte) : Peer :=
  { seen := true, role := byteAt c 1 / 64, mode := byteAt c 1 / 4 % 16, seq := cellField c 2 2, variant := byteAt c 4,
    flRun := byteAt c 5, flFloor := byteAt c 6, health := byteAt c 7, mirAck := cellField c 8 4,
    cmdAck := cellField c 12 2, engOk := byteAt c 14, portOk := cellField c 16 8,
    fo := (upTo 4).map (fun n => ofTwos 16 (cellField c (24 + 2 * n) 2)) }

/-! ### Forming the pair (R274, R275) -/

/-- The pair transport key of two members: the ECDH secret of the own identity key and the peer's, and their identity numbers
(15_security_and_config.md R503; log entry 203). -/
def pairKey (secret : BitVec 384) (a b : Nat) : Nat :=
  kdf256 secret labelPair (beBytes 8 (min a b) ++ beBytes 8 (max a b))

/-- The two members prove their identity keys and derive the pair transport key, or no key is mirrored (15 R503). -/
def State.pairProve (s : State) (id : PeerId) : State :=
  let own := s.fuse.devid
  let good := (s.lcState == 1 || s.lcState == 2) && id.keyed && id.proved && s.fuse.owner == some id.owner
  let s := s.modPair (fun p => { p with peerDevid := id.devid, peerOwner := id.owner,
                                        key := if good then some (pairKey (ecdh s.fuse.idPriv (fromBE id.pub)) own id.devid) else none })
  let s := s.setMember (b2n (decide (id.devid < own)))
  if good then s else s.raiseReg .SEC_EV_pair_key_fail

/-- The comparison of R275, and what an entry into UP or REFUSED does (R274, R275; 10_cipher.md R355). -/
def State.pairCompare (s : State) (id : PeerId) : State :=
  let p := s.pair.peer
  let l := min (s.rd .PAIR_LEVEL_fl_run) p.flRun
  let cause := if p.variant != s.partCode then 1
    else if l < s.rd .PAIR_LEVEL_fl_floor || l < p.flFloor then 2 else 0
  let s := s.wr .PAIR_STATUS_refuse_cause 0 cause
  if cause != 0 then (s.wr .PAIR_STATUS_link_state 0 3).raiseReg .PAIR_EV_refused
  else
    let s := s.wrs [(.PAIR_STATUS_link_state, 0, 2), (.PAIR_LEVEL_fl_agreed, 0, l)]
    let s := (s.pairProve id).bridgeRefresh
    if s.mirroring then s.sendImage else s

/-- Both members hold the role ACTIVE: the SHADOW has taken over by R294 from this member, which has sent DYING and runs
again; it stands down with faulted (R294, R301; log entry 47). -/
def State.mustStandDown (s : State) : Bool := s.role == 1 && s.linkUp && s.pair.peer.role == 1 && s.pair.dyingTx

/-- A valid HB; a member that has sent DYING and runs again drives PAIR_ACT once the peer shows that it has not taken over
(log entry 47) (R271, R272, R274, R275, R279, R280, R289). -/
def State.hbTake (s : State) (c : List Byte) (id : PeerId) : State :=
  let was := s.pair.peer
  let now := peerOf c
  let fresh := !was.seen || now.seq != was.seq
  let run := fun (k : Nat) => if !fresh then k else if was.seen && now.seq == (was.seq + 1) % 65536 then min 4 (k + 1) else 1
  let s := s.modPair (fun p => { p with peer := now, dying := p.dying && !fresh, hbRun := run p.hbRun })
  let s := s.wr .PAIR_LEVEL_peer_fl_run 0 now.flRun
  let s := if s.modeNow == 5 then s.wr .PAIR_STATUS_lockout 0 (b2n (now.health.testBit 2)) else s
  let s := if s.pair.hbLost && decide (4 ≤ s.pair.hbRun) then
      let t := s.modPair (fun p => { p with hbLost := false })
      if t.linkState == 1 then t.pairCompare id else t
    else if s.linkState == 3 && was.seen
        && (now.variant != was.variant || now.flRun != was.flRun || now.flFloor != was.flFloor) then s.pairCompare id
    else s
  let s := if s.mirroring && was.mode != 5 && was.seen then s.sendImage else s
  let s := if s.mustStandDown then s.standDown 4
    else if s.pair.dyingTx && !s.sec.restart && s.linkUp && now.role != 1 then
      (s.modPair (fun p => { p with dyingTx := false })).actRefresh
    else s
  let s := if s.role == 1 && s.linkUp then
      let t := s.modPair (fun p => { p with
        bulkTx := p.bulkTx && serLater ((p.bulkBase + 2 ^ 32 - 1) % 2 ^ 32) now.mirAck })
      let t := t.mirAcked now.mirAck none
      (upTo t.engines).foldl (fun u n => u.tryIssue n) t
    else s
  s.readyRefresh

/-- HB_RX: a valid HB cell, with what the proof of the peer's identity shows where it begins the UP state (R271). -/
def execHbRx (cell : List Byte) (id : PeerId) (s : State) : Host.Outcome State Fault Refusal :=
  ok (if s.linkState != 0 && cellOk 1 cell then s.hbTake cell id else s)

/-- HB_LOST: 8 us without a valid HB; the SHADOW is judged with the readiness it had (R272, R274, R294; 09_timing.md R324). -/
def execHbLost (s : State) : Host.Outcome State Fault Refusal :=
  ok (if s.linkState == 0 || s.pair.hbLost then s
    else
      let s := s.modPair (fun p => { p with hbLost := true, hbRun := 0 })
      if s.linkState != 2 then s
      else
        let s := s.wrs [(.PAIR_STATUS_link_state, 0, 1), (.PAIR_LEVEL_fl_agreed, 0, 0)]
        let s := (s.raiseReg .PAIR_EV_hb_lost).modPair (fun p => { p with mirOut := [], bulkTx := false })
        s.bridgeRefresh.judge.d0LeaveFollow.readyRefresh)

/-- BAD_CELL_RX: a cell with a failing CRC, an uncorrectable codeword, a reserved type or a reserved request is discarded
and counted (R270, R304). -/
def execBadCellRx (cell : List Byte) (uncorr : Bool) (s : State) : Host.Outcome State Fault Refusal :=
  ok (let typ := byteAt cell 0
    if uncorr || !cellOk typ cell || decide (8 < typ) || (typ == 4 && decide (4 < byteAt cell 3)) then s.count 514 else s)

end Sys2Proof.Machine
end

