-- ==== Sys2Proof/Machine/ResetOps.lean ====
section
/-! DEFINITION. The resets (17_register_map.md R543 to R546; 16_counters_and_events.md R518; 05_line_framing.md R572). -/
namespace Sys2Proof.Machine

/-- Counters of the COLD domain, which a WARM reset keeps (16_counters_and_events.md R518). -/
def coldCounter (k : Nat) : Bool :=
  (decide (k < 128) && decide (22 ≤ k % 32)) || (decide (531 ≤ k) && decide (k ≤ 533)) || (decide (538 ≤ k) && decide (k ≤ 553))

/-- Counters of the ENGINE domain of engine `n`. -/
def engCounter (n k : Nat) : Bool := decide (k < 128) && k / 32 == n && decide (k % 32 ≤ 17)

/-- Keep the counters of a test with their wrap state, and clear the others (16_counters_and_events.md R518, R520). -/
def State.keepCounters (s : State) (p : Nat → Bool) : State :=
  let bits := fun (w v : Nat) => (upTo 32).foldl (fun a b => a + (if v.testBit b && p (32 * w + b) then 2 ^ b else 0)) 0
  let gone := ((s.cnt.map (·.1)) ++ (s.wrapc.map (·.1))).filter (fun k => !p k)
  let s := ({ s with cnt := s.cnt.filter (fun kv => p kv.1), wrapc := s.wrapc.filter (fun kv => p kv.1) }).noteCnt gone
  (upTo 24).foldl (fun t w => t.wr .PERF_WRAP_wrap w (bits w (t.rd .PERF_WRAP_wrap w))) s

/-- The frequency at which DPLL0 starts after a reset: the cellar model's, else XO_IN nominal (09_timing.md R324). -/
def State.startFreq (s : State) : Int := if s.cel.model.valid then s.cel.model.mean else 0

/-- Registers that a WARM reset keeps: the COLD and CELLAR domains, the PCIe link, pad holds, the rails, and the PERF_WRAP
bits until they are judged one by one (R543; log entry 53). -/
def warmKeeps : List Nat :=
  domIds (fun d => d == .cold || d == .cellar)
    ++ ([Rg.HOST_LINK, .PWR_RAIL, .PERF_WRAP].flatMap Rg.fields ++ [Fld.PWR_PAD_held]).map (fun f => f.ctorIdx)

/-- What a WARM reset leaves (R543): mode SETUP, UNPAIRED; ToD, the PCIe link with its configuration space and MSI-X table, the cellar
and the COLD domain stay. -/
def State.warmCore (s : State) : State :=
  let ids := warmKeeps
  let h := s.host
  let t : State := {
    fuse := s.fuse, regs := s.regs.filter (fun kv => ids.contains (kv.1 % 1024)),
    pin := { mainEn := s.pin.mainEn, tamper := s.pin.tamper, serdesIdle := s.pin.serdesIdle,
             pairAct := s.pin.pairAct && s.padHeld 2 },
    cnt := s.cnt, wrapc := s.wrapc,
    host := { genRec := h.genRec, maskAll := h.maskAll, unmasked := h.unmasked, msixPend := h.msixPend, msixTab := h.msixTab },
    tim := { tod := s.tim.tod, pmPrev := s.tim.tod, freq0 := s.startFreq },
    pwr := { failed := s.pwr.failed, tries := s.pwr.tries, up := s.pwr.up, upPin := s.pwr.upPin,
             tamperPurge := s.pwr.tamperPurge },
    cel := s.cel, out := s.out, free := s.free, pending := s.pending }
  (t.keepCounters coldCounter).wrs [(.SYS_RST_STATUS_boot_ready, 0, 0), (.SYS_RST_STATUS_sw_warm, 0, 1)]

/-- A WARM reset; it cuts a burn (15_security_and_config.md R491). -/
def State.warmReset (s : State) : State := s.burnCut.warmCore

/-- What a COLD reset leaves (R543): everything but fuses, flash and the cellar; ToD starts at 0 (09_timing.md R310). -/
def State.coldCore (s : State) (byPin : Bool) : State :=
  let ids := domIds (fun d => d == .cellar)
  let t : State := {
    fuse := s.fuse, regs := s.regs.filter (fun kv => ids.contains (kv.1 % 1024)),
    pin := { tamper := s.pin.tamper }, tim := { freq0 := s.startFreq },
    pwr := { tamperPurge := s.pwr.tamperPurge }, cel := s.cel, out := s.out, free := s.free, pending := s.pending }
  t.wrs [(.SYS_RST_STATUS_por, 0, b2n !byPin), (.SYS_RST_STATUS_pin, 0, b2n byPin), (.PWR_RAIL_rail_ok, 0, 63 ||| (s.rd .PWR_RAIL_rail_ok &&& 64))]

/-- A COLD reset; it cuts a burn (15_security_and_config.md R491). -/
def State.coldReset (s : State) (byPin : Bool) : State := s.burnCut.coldCore byPin

/-- An ENGINE reset of engine `n` (R543; 05_line_framing.md R572; 03_line_engine.md R101, R104). -/
def State.engineReset (s : State) (n : Nat) : State :=
  let active := s.rd .LE_TX_CTRL_tx_active n
  let s := s.acqStop n
  let ids := domIds (fun d => d == .engine)
  let s := { s with regs := s.regs.filter (fun kv => !(ids.contains (kv.1 % 1024) && kv.1 / 1024 == n)) }
  let s := s.keepCounters (fun k => !engCounter n k)
  let x := s.txOf n
  let s := (s.modAcq n (fun _ => { postReset := true })).modFec n (fun f => { encPos := f.encPos, encPrev := f.encPrev, txPrbs := f.txPrbs })
  let s := s.modRx n (fun r => { map := r.map, next := r.next, loading := r.loading })
  let s := s.modPm n (fun p => { p with bip := 0, bei := 0, eb := 0, feb := 0, defs := 0 })
  let s := s.wrs [(.LE_FRM_OHB_ohb_len, n, ohbSize (s.prof n)), (.LE_TX_CTRL_tx_active, n, active),
    (.LE_FRM_STATUS_fmt_tx, n, if s.lpn n && x.on then x.lvl else 0)]
  let s := s.addShadow n .rolloff (s.rd .LE_TX_CTRL_rolloff n) none
  ((((s.txRefresh n).acqStart n).pinRefresh n).fabRefresh).ttAged n

/-- A privileged write of eng_rst (R544): engines of the part only, and not while a transition is in progress. -/
def State.engineResets (s : State) (mask : Nat) : State :=
  let l := (upTo s.engines).filter (fun n => mask.testBit n)
  if l.isEmpty then s
  else if s.on .SYS_MODE_busy then s.raiseReg .SYS_EV_rst_refused
  else l.foldl (fun t n => t.engineReset n) s

/-- A write of SYS_RESET, which only the privileged requester may make; a WARM reset is the wider of the two (R544). -/
def State.sysResetWrite (s : State) (rq : Requester) (val : Nat) : State :=
  if !s.privileged rq then s.raiseReg .SYS_EV_priv_drop
  else if val.testBit 0 then s.warmReset
  else s.engineResets (fieldOf val 4 4)

end Sys2Proof.Machine
end

