-- ==== Sys2Proof/Machine/Switch.lean ====
section
/-! DEFINITION. Meanings of the protection-switch commands (08_pair_protection.md R293 to R304). -/
namespace Sys2Proof.Machine

/-! ### CMD cells (R303, R304) -/

/-- A CMD cell with a request that is one of those a command stands for. -/
def State.cmdIn (s : State) (c : List Byte) (req : Nat) : Bool := s.linkState != 0 && cellOk 4 c && byteAt c 3 == req

/-- Take a CMD: one already accepted is answered again and counted; else its result, its CACK, and its effect (R303). -/
def State.cmdTake (s : State) (c : List Byte) (result : Nat) (act : State → State) : State :=
  let q := cellField c 1 2
  if s.pair.cmdIn == some q then (s.count 518).sendCack q s.pair.cmdRes 1
  else
    let s := (s.modPair (fun p => { p with cmdIn := some q, cmdRes := result })).sendCack q result 0
    if result == 0 then act s else s

/-- Result of a request that a SHADOW forwards to this member (R302): only an ACTIVE carries it out. -/
def State.forwardErr (s : State) (req : Nat) : Nat := if s.role == 1 then s.switchErr req else 2

/-- CMD_CLEAR (R293, R304). -/
def execCmdClear (cell : List Byte) (s : State) : Host.Outcome State Fault Refusal :=
  ok (if s.cmdIn cell 0 then s.cmdTake cell (s.forwardErr 0) (fun t => t.switchAct none 0 0) else s)

/-- CMD_LOCKOUT (R293, R304). -/
def execCmdLockout (cell : List Byte) (s : State) : Host.Outcome State Fault Refusal :=
  ok (if s.cmdIn cell 1 then s.cmdTake cell (s.forwardErr 1) (fun t => t.switchAct none 1 0) else s)

/-- A FORCE or MANUAL that the ACTIVE hands over is a takeover of the SHADOW; one that the SHADOW forwards, the ACTIVE
carries out (R293, R297, R302). FORCE stays in force until CLEAR. -/
def State.cmdSwitch (s : State) (c : List Byte) (req : Nat) : State :=
  if (byteAt c 7).testBit 0 then
    s.cmdTake c (s.forwardErr req) (fun t => t.switchAct none req (cellField c 5 2))
  else s.cmdTake c (if s.role == 2 then 0 else 2) (fun t => t.takeover.modPair (fun p => { p with force := req == 2 }))

/-- CMD_FORCE (R293, R297, R304). -/
def execCmdForce (cell : List Byte) (s : State) : Host.Outcome State Fault Refusal :=
  ok (if s.cmdIn cell 2 then s.cmdSwitch cell 2 else s)

/-- CMD_MANUAL (R293, R297, R304). -/
def execCmdManual (cell : List Byte) (s : State) : Host.Outcome State Fault Refusal :=
  ok (if s.cmdIn cell 3 then s.cmdSwitch cell 3 else s)

/-- CMD_RELINQUISH: the SHADOW accepts a takeover (R295, R297, R304). -/
def execCmdRelinquish (cell : List Byte) (s : State) : Host.Outcome State Fault Refusal :=
  ok (if s.cmdIn cell 4 then s.cmdTake cell (if s.role == 2 then 0 else 2) State.takeover else s)

/-- CACK_RX: the acknowledgement of the CMD sent completes the PAIR_SWITCH that it carried (R303, R304). -/
def execCackRx (cell : List Byte) (s : State) : Host.Outcome State Fault Refusal :=
  ok (match s.pair.cmdOut with
    | none => s
    | some o =>
      if s.linkState == 0 || !cellOk 5 cell || cellField cell 1 2 != cellField o.cell 1 2 then s
      else
        let r := byteAt cell 3
        let s := s.modPair (fun p => { p with cmdOut := none })
        match o.d with
        | none => s
        | some d => if r == 0 then s.swDone d 0 0 else s.swDone d 1 r)

/-- CMD_RESEND: 1 us without a CACK: sent again on the next lane that is up, up to 8 sends; then the command completes
REFUSED, NOT_PAIRED (R273, R303). -/
def execCmdResend (s : State) : Host.Outcome State Fault Refusal :=
  ok (match s.pair.cmdOut with
    | none => s
    | some o =>
      if o.sends < 8 then
        (s.sendCell o.sends o.cell).modPair (fun p => { p with cmdOut := some { o with sends := o.sends + 1 } })
      else
        let s := s.modPair (fun p => { p with cmdOut := none })
        match o.d with
        | none => s
        | some d => s.swDone d 1 1)

/-! ### PAIR_SWITCH (R302) -/

/-- The PAIR_SWITCH descriptor at the head of a ring, if its request is one of those a command stands for. -/
def State.headSwitch (s : State) (r : Nat) (p : Nat → Bool) : Option Desc :=
  match s.headDesc r 0x02 with
  | none => none
  | some d => if p (d.param0 % 16) then some d else none

/-- Carry out a PAIR_SWITCH (R302): a tag still remembered is answered as before (02_modes.md R38); the ACTIVE acts, the
SHADOW forwards. -/
def State.pairSwitch (s : State) (d : Desc) (req : Nat) : State :=
  let tag := fieldOf d.param0 16 16
  match s.mode.swMem.find? (fun m => m.tag == tag) with
  | some m => s.done d m.status m.detail
  | none =>
    if fieldOf d.param0 4 12 != 0 || decide (3 < req) then s.swDone d 1 5
    else if !s.linkUp || s.role == 0 then s.swDone d 1 1
    else if s.role == 1 then
      let e := s.switchErr req
      if e != 0 then s.swDone d 1 e
      else if req ≤ 1 then (s.switchAct none req tag).swDone d 0 0
      else s.switchAct (some d) req tag
    else if s.pair.cmdOut.isSome then s.swDone d 1 4
    else s.sendCmd (some d) req 0 tag 1

/-- PAIR_SWITCH_CLEAR (R302). -/
def execPairSwitchClear (r : RingId) (s : State) : Host.Outcome State Fault Refusal :=
  ok (let s := s.settle r 0x02
    match s.headSwitch r (· == 0) with
    | none => s
    | some d => (s.popDesc r).pairSwitch d 0)

/-- PAIR_SWITCH_LOCKOUT (R302). -/
def execPairSwitchLockout (r : RingId) (s : State) : Host.Outcome State Fault Refusal :=
  ok (let s := s.settle r 0x02
    match s.headSwitch r (· == 1) with
    | none => s
    | some d => (s.popDesc r).pairSwitch d 1)

/-- PAIR_SWITCH_FORCE (R302). -/
def execPairSwitchForce (r : RingId) (s : State) : Host.Outcome State Fault Refusal :=
  ok (let s := s.settle r 0x02
    match s.headSwitch r (· == 2) with
    | none => s
    | some d => (s.popDesc r).pairSwitch d 2)

/-- PAIR_SWITCH_MANUAL (R302). -/
def execPairSwitchManual (r : RingId) (s : State) : Host.Outcome State Fault Refusal :=
  ok (let s := s.settle r 0x02
    match s.headSwitch r (· == 3) with
    | none => s
    | some d => (s.popDesc r).pairSwitch d 3)

/-- PAIR_SWITCH_RESERVED: BAD_CODE (R302). -/
def execPairSwitchReserved (r : RingId) (s : State) : Host.Outcome State Fault Refusal :=
  ok (let s := s.settle r 0x02
    match s.headSwitch r (fun q => decide (3 < q)) with
    | none => s
    | some d => (s.popDesc r).pairSwitch d (d.param0 % 16))

/-! ### Yields and their end (R289, R294, R296, R301) -/

/-- COMPARE_YIELD: a local-only failure has stood for 20 us: an ACTIVE yields, a SHADOW is not ready while it stands (R296,
R307). -/
def execCompareYield (why : YieldObs) (s : State) : Host.Outcome State Fault Refusal :=
  ok (if !s.linkUp || !s.localOnly why then s
    else if s.role == 1 then s.faultYield 1
    else (s.modPair (fun p => { p with shFault := if p.shFault.contains why then p.shFault else p.shFault ++ [why] })).readyRefresh)

/-- DYING_RX: a valid DYING cell makes the SHADOW take over (R294, R304). -/
def execDyingRx (cell : List Byte) (s : State) : Host.Outcome State Fault Refusal :=
  ok (if s.linkState != 0 && cellOk 7 cell && decide ((cellField cell 3 2 + 65536 - s.pair.peer.seq) % 65536 ≤ 8) then
      (s.modPair (fun p => { p with dying := true })).judge
    else s)

/-- READY_HOLD_END: 1 s after a FORCE or MANUAL the old ACTIVE may be ready again (R301). -/
def execReadyHoldEnd (s : State) : Host.Outcome State Fault Refusal :=
  ok (s.modPair (fun p => { p with hold1s := false })).readyRefresh

end Sys2Proof.Machine
end

