-- ==== Sys2Proof/Machine/RegWrite.lean ====
section
/-! DEFINITION. Writes of registers: which reach their register, when, and what each does (17_register_map.md R536 to R550;
11_host_rings.md R376, R377, R380, R381; 08_pair_protection.md R285; 15_security_and_config.md R498, R499). -/
namespace Sys2Proof.Machine

/-! ### What a write finds (R377, R498, R542, R544, R545; 08 R285; 01 R21) -/

/-- Registers of the trapdoor, which the test port reaches at every level (15_security_and_config.md R498). -/
def Rg.trapdoor (r : Rg) : Bool := r == .SEC_TRAP_CTRL || r == .SEC_TRAP_NONCE || r == .SEC_TRAP_MBOX

/-- A requester's writes reach a register: not where no register can be reached, outside SYS not before boot_ready but for
the control cores, and from the test port at FULL or to the trapdoor (R542, R545; 15_security_and_config.md R498). -/
def State.reaches (s : State) (rq : Requester) (r : Rg) : Bool :=
  rq == .ctl || (!s.hostUnreachable && (r.block == 0 || s.on .SYS_RST_STATUS_boot_ready)
    && (rq == .host || r.trapdoor || s.privileged .test))

/-- Registers that only the privileged requester may write (10_cipher.md R371; 15_security_and_config.md R515); SYS_RESET
and loop_open judge their requester themselves. -/
def Rg.privileged (r : Rg) : Bool := r == .SEC_LC_CTRL || r == .CIPH_LOCK_CTRL

/-- The block of a register has no clock in NAP (R16 of 01_architecture.md; R542): LEn, FAB, CLI and PAIR. -/
def Rg.unclocked (r : Rg) : Bool := r.isLe || [8, 10, 11].contains r.block

/-- What becomes of a write. -/
inductive WriteFate where
  /-- it has no effect -/
  | ignored
  /-- SHADOW drops and counts it -/
  | dropped
  /-- it waits for its block's clock -/
  | waits
  /-- it crosses into the cellar -/
  | crosses
  /-- it takes effect -/
  | takes
deriving DecidableEq, Repr

/-- The fate of a write to instance `i` of a register. -/
def State.fate (s : State) (rq : Requester) (r : Rg) (i : Nat) : WriteFate :=
  if !s.reaches rq r || s.absentReg r i || (r.privileged && !s.privileged rq) then .ignored
  else if rq == .host && s.modeNow == 5 && r.mirrored then .dropped
  else if s.powerNow == 2 && r.unclocked then .waits
  else if r.info.dom == .cellar then .crosses
  else .takes

/-! ### Event registers (R549, R550) -/

/-- Vector 0, if an unmasked status bit reads 1. -/
def State.vector0 (s : State) (mask : Nat) : State := if s.irqStatus &&& mask == 0 then s else s.sendVector 0

/-- A W1C write; one to an event register that leaves an unmasked status bit at 1 sends vector 0. -/
def State.clearW1c (s : State) (r : Rg) (i val : Nat) (but : List Fld := []) : State :=
  let hit := r.fields.any (fun f => f.info.acc == .w1c && f.part val != 0 && (evFields (f.irqBit i)).contains f)
  let s := s.writeW1c r i val but
  if hit then s.vector0 (s.rd .SYS_IRQ_MASK_en) else s

/-- A write of SYS_IRQ_MASK: each mask bit written to 1 while its status bit reads 1 sends vector 0. -/
def State.irqMaskWrite (s : State) (val : Nat) : State := (s.writeRw .SYS_IRQ_MASK 0 val).vector0 (val % 2 ^ 20)

/-! ### Registers whose writes do more than take their fields -/

/-- SEC_LC_CTRL (15_security_and_config.md R490, R506); the clearing of lc_err comes first (R540). -/
def State.lcCtrlWrite (s : State) (rq : Requester) (val : Nat) : State :=
  let s := s.writeW1c .SEC_LC_CTRL 0 val
  let s := if val % 4 == 0 then s else s.lcReq rq (val % 4)
  if val.testBit 2 then s.rbRaise rq else s

/-- SEC_TRAP_CTRL of a port (15_security_and_config.md R493, R496, R497). -/
def State.trapCtrlWrite (s : State) (pcie : Bool) (val : Nat) : State :=
  let s := if val.testBit 0 then (if pcie then s.submitPcie else s.submitTest) else s
  let s := if val.testBit 1 then s.trapClose pcie else s
  if val.testBit 2 then s.nonceReq pcie else s

/-- Word `w` of the test port's mailbox (15_security_and_config.md R494). -/
def State.testMbox (s : State) (w val : Nat) : State :=
  let b := padTo 256 s.sec.trap.mboxT
  s.modTrap (fun t => { t with mboxT := b.take (4 * w) ++ leBytes 4 val ++ b.drop (4 * w + 4) })

/-- PAIR_CTRL (08_pair_protection.md R273, R274, R306). -/
def State.pairCtrlWrite (s : State) (val : Nat) : State :=
  let s := s.wr .PAIR_CTRL_tx_suspect_en 0 (fieldOf val 1 1)
  (s.laneEnWrite (fieldOf val 8 8)).pairEnWrite (val.testBit 0)

/-- The in-service port whose width takes in a client lane, and which sends (06_tributary_mapping.md R194). -/
def State.laneActive (s : State) (lane : Nat) : Bool :=
  (upTo s.ports).any (fun p => s.on .CLI_PORT_STATUS_tx_on p && decide (p ≤ lane)
    && decide (lane < p + 2 ^ (s.portOf p).cfg.width))

/-- The fault of a yield with cause LOCAL is gone: that of a transmit path or of a lane once it sends no more. Whether a clock is
back, or a path that still sends has healed, no command tells: a free value (08_pair_protection.md R307, R308; log entry 172). -/
def State.faultGone (s : State) : Bool :=
  let healed := (Config.freeWord s.free).toNat % 2 == 1
  match s.pair.fault with
  | none => true
  | some (1, n) => !s.on .LE_TX_CTRL_tx_active n || healed
  | some (2, lane) => !s.laneActive lane || healed
  | some _ => healed

/-- The cause for which a member stands faulted is gone: of COMPARE when R296 would not hold now; of TX when no engine in
service has a far TX_SUSPECT as its last accepted message; of a local fault or a takeover when the control cores run, no
rail has failed and the fault itself is gone (08_pair_protection.md R301, R308; log entry 172). -/
def State.causeGone (s : State) : Bool :=
  if s.pair.cause == 2 then (upTo s.engines).all (fun n => !s.inService n || (s.rxOf n).protLast.all (fun m => m.code != 1))
  else if s.pair.cause != 1 then !s.sec.restart && !s.pwr.failed && (s.pair.cause != 3 || s.faultGone)
  else
    ((upTo s.engines).all (fun n => !s.inService n || !s.pair.peer.engOk.testBit n
        || (s.on .LE_STATUS_dsp_lock n && s.on .LE_FRM_STATUS_in_frame n))
      && (upTo s.ports).all (fun p => s.typeOf p == 0 || !s.pair.peer.portOk.testBit p || s.on .CLI_PORT_STATUS_rx_lock p))

/-- PAIR_STATUS: faulted (08_pair_protection.md R301). -/
def State.pairStatusWrite (s : State) (val : Nat) : State :=
  if val.testBit 4 && s.on .PAIR_STATUS_faulted then
    if s.causeGone then
      ((s.wr .PAIR_STATUS_faulted 0 0).modPair (fun p => { p with cause := 0, fault := none })).readyRefresh.tick
    else s.tick
  else s

/-- BASE, LINK or IRQ of a ring's context, which only a DISABLED ring takes (11_host_rings.md R381). -/
def State.ctxWrite (s : State) (r : Rg) (i val : Nat) : State :=
  if s.rd .HOST_RCTX_STATE_state i == 0 then s.writeRw r i val else s.raiseReg .HOST_EV_ctx_bad 0 { obj := i }

/-- HK_CTRL: its settings, the rotation, then the actions in the order of R420, seq_stop last (12_housekeeping.md R418 to
R420, R426, R433; log entry 131). -/
def State.hkCtrlWrite (s : State) (val : Nat) : State :=
  let was := s.compat
  let s := s.writeRw .HK_CTRL 0 val [.HK_CTRL_compat_en]
  let s := if val.testBit 5 == was then s else if was then s.compatOff else s.compatOn
  let s := if val.testBit 3 then s.hkSync else s
  let s := if val.testBit 2 then s.hkUrgent else s
  let s := if val.testBit 1 then s.hkStart else s
  (if val.testBit 4 then s.hkStop else s).hkShow

/-- HK_CHn_CFG (12_housekeeping.md R415, R421, R429). -/
def State.chCfgWrite (s : State) (c val : Nat) : State :=
  let s := s.hkChWrite c chCfgFields val
  let s := if val.testBit 21 then s.chgClose c else s
  if val.testBit 23 then s.modHkCh c (fun h => { h with linPend := true }) else s

/-- HK_CHn_DITH: a frequency above 26,214 with dith_en = 1 is bad (12_housekeeping.md R425). -/
def State.dithWrite (s : State) (c val : Nat) : State :=
  (s.writeRw .HK_CH_DITH c val).wr .HK_CH_DITH_dith_bad c (b2n (val.testBit 18 && decide (26214 < val % 65536)))

/-- HK_I3C_CTRL (12_housekeeping.md R438). -/
def State.i3cCtrlWrite (s : State) (val : Nat) : State :=
  let s := s.wr .HK_I3C_CTRL_hj_en 0 (fieldOf val 2 1)
  let s := if val.testBit 0 then s.i3cEnable else s.i3cDisable
  if val.testBit 1 then s.i3cRescan else s

/-- Every estimator stops with bg_en, and no item is converged any more (13_calibration.md R446, R448). -/
def State.bgStop (s : State) : State :=
  let s := (upTo s.engines).foldl (fun t n => t.calStop n (upTo 8)) s
  (({ s with cal := { s.cal with conv := [] } }).wr .CAL_HK_STATUS_conv 0 0).forceCheck

/-- CAL_CTRL (13_calibration.md R446, R448, R461). -/
def State.calCtrlWrite (s : State) (val : Nat) : State :=
  let s := s.writeRw .CAL_CTRL 0 val
  let s := if val.testBit 0 then s else s.bgStop
  if val.testBit 2 then s.calForce else s

/-- TIM_TOD_SEC_HI (09_timing.md R314). -/
def State.todHiWrite (s : State) (rq : Requester) (val : Nat) : State :=
  let s := s.mirroredHostWrite rq .TIM_TOD_SEC_HI 0 val
  if val.testBit 31 then s.todSet else s

/-- PERF_INV_CTRL (16_counters_and_events.md R522). -/
def State.invCtrlWrite (s : State) (rq : Requester) (val : Nat) : State :=
  let s := s.mirroredHostWrite rq .PERF_INV_CTRL 0 val
  if val.testBit 0 then s.startWalk s.tim.tod 4 else s

/-! ### A write -/

/-- A write takes effect at its register (R537). -/
def State.regEffect (s : State) (rq : Requester) (r : Rg) (i val : Nat) : State :=
  match r with
  | .SYS_RESET => s.sysResetWrite rq val
  | .SYS_IRQ_MASK => s.irqMaskWrite val
  | .SEC_STATE => if val.testBit 5 then s.hostPrivDrop else s
  | .SEC_LC_CTRL => s.lcCtrlWrite rq val
  | .SEC_TRAP_CTRL => s.trapCtrlWrite (rq != .test) val
  | .SEC_TRAP_MBOX => if rq == .test then s.testMbox i val else s.writeRw r i val
  | .PWR_WAKE_TX => (s.wakeTxWrite val).commitIdle
  | .LE_TX_CTRL => (s.mirroredHostWrite rq r i val).commitIdle
  | .PWR_PAD => (s.clearW1c r i val).padRelease (fieldOf val 8 6)
  | .PAIR_CTRL => s.pairCtrlWrite val
  | .PAIR_STATUS => s.pairStatusWrite val
  | .PAIR_BRIDGE => (s.writeRw r i val).bridgeRefresh
  | .CIPH_LOCK_CTRL => (s.writeRw r i val [.CIPH_LOCK_CTRL_lock_en]).lockEnWrite i (val.testBit 0)
  | .HOST_RCTX_CFG => s.ringCfgWrite rq i val
  | .HOST_RCTX_BASE_LO | .HOST_RCTX_BASE_HI | .HOST_RCTX_LINK | .HOST_RCTX_IRQ => s.ctxWrite r i val
  | .HK_CTRL => s.hkCtrlWrite val
  | .HK_CH_CFG => s.chCfgWrite i val
  | .HK_CH_FLT => s.hkChWrite i chFltFields val
  | .HK_CH_DITH => s.dithWrite i val
  | .HK_SEQ | .HK_INJ => (s.writeRw r i val).hkShow
  | .HK_DET_CFG | .HK_ALM_CTRL => (s.writeRw r i val).almRefresh
  | .HK_AOUT_CTRL => s.aoutWrite i val
  | .HK_I3C_CTRL => s.i3cCtrlWrite val
  | .CAL_CTRL => s.calCtrlWrite val
  | .TIM_DPLL_PSTEP => s.dpllPstep i (ofTwos 32 val)
  | .TIM_TOD_SEC_HI => s.todHiWrite rq val
  | .PERF_INV_CTRL => s.invCtrlWrite rq val
  | _ => (if r.mirrored then s.mirroredHostWrite rq r i val else s.writeRw r i val).clearW1c r i val

/-- A write takes effect unless it names an absent resource (00_scope.md R3). -/
def State.regAct (s : State) (rq : Requester) (r : Rg) (i val : Nat) : State :=
  if s.namesAbsent r i val then s else s.regEffect rq r i val

/-- A 32-bit write to instance `i` of a register. -/
def State.regTake (s : State) (rq : Requester) (r : Rg) (i val : Nat) : State :=
  match s.fate rq r i with
  | .ignored => s
  | .dropped => s.shadowDrop
  | .waits => s.modPwr (fun p => { p with clockQ := p.clockQ ++ [(rq, r.addr i, val % 2 ^ 32)] })
  | .crosses => s.cellarWrite (r.addr i) (val % 2 ^ 32)
  | .takes => s.regAct rq r i (val % 2 ^ 32)

/-- The word that writes `v` into one field and leaves the register's other fields as they are held. -/
def State.fieldWord (s : State) (f : Fld) (i v : Nat) : Nat :=
  (f.info.rg.fields.filter (fun g => g.info.acc == .rw && g != f)).foldl
    (fun a g => a + s.rd g i % 2 ^ g.info.w * 2 ^ g.info.lo) (v % 2 ^ f.info.w * 2 ^ f.info.lo)

/-- A write of one field. -/
def State.fieldWrite (s : State) (rq : Requester) (f : Fld) (i v : Nat) : State :=
  s.regTake rq f.info.rg i (s.fieldWord f i v)

/-- The writes that waited for their clock take effect, oldest first (R542). -/
def State.clockReplay (s : State) : State :=
  s.pwr.clockQ.foldl (fun t (x : Requester × Nat × Nat) =>
    match regAt x.2.1 with
    | some (r, i) => t.regAct x.1 r i x.2.2
    | none => t) (s.modPwr (fun p => { p with clockQ := [] }))

/-! ### BAR4, the debug window and BAR0 (11_host_rings.md R375, R376, R404; 15_security_and_config.md R498) -/

/-- A 32-bit write into BAR4: the MSI-X table, the pending-bit array, which discards it, or a bad access. -/
def State.msixWrite (s : State) (off val : Nat) : State :=
  if off % 4 != 0 then s.accBad
  else if off < 0x1000 then
    if off / 4 % 4 == 3 then
      { s with host := { s.host with unmasked := SMap.set false s.host.unmasked (off / 16) (val % 2 == 0) } }.flushMsix
    else { s with host := { s.host with msixTab := SMap.set 0 s.host.msixTab (off / 4) (val % 2 ^ 32) } }
  else if 0x2000 ≤ off && off < 0x2020 then s
  else s.accBad

/-- The address lies in the debug window. -/
def inDebug (addr : Nat) : Bool := decide (0xA00000 ≤ addr) && decide (addr < 0xC00000)

/-- A requester has access at FULL: the control cores, and the port that holds a FULL session. -/
def State.fullAccess (s : State) : Requester → Bool
  | .ctl => true
  | .test => s.privileged .test
  | .host => s.dbgLevel == 2 && s.sec.trap.session == some true

/-- A write into the debug window. -/
def State.debugWrite (s : State) (rq : Requester) (addr val : Nat) : State :=
  if s.fullAccess rq && (rq == .ctl || (!s.hostUnreachable && s.on .SYS_RST_STATUS_boot_ready)) then
    s.modSec (fun x => { x with dbgMem := SMap.set 0 x.dbgMem addr (val % 2 ^ 32) })
  else s

/-- The address lies in the context of a QUIESCING ring, which takes no write (11_host_rings.md R381). -/
def State.ctxBusy (s : State) (addr : Nat) : Bool :=
  decide (0x800000 ≤ addr) && decide (addr < 0xA00000) && s.rd .HOST_RCTX_STATE_state ((addr - 0x800000) / 32) == 2

/-- A 32-bit write by a requester: addresses from 0x0100_0000 on stand for BAR4 (log entry 8), which lies outside the SYS window
(R545). -/
def State.regWrite (s : State) (rq : Requester) (addr val : Nat) : State :=
  if 0x1000000 ≤ addr then
    if s.hostUnreachable || !s.on .SYS_RST_STATUS_boot_ready then s else s.msixWrite (addr - 0x1000000) val
  else if addr % 4 != 0 then
    if s.hostUnreachable || (decide (0x10000 ≤ addr) && !s.on .SYS_RST_STATUS_boot_ready) then s else s.accBad
  else if inDebug addr then s.debugWrite rq addr val
  else if s.ctxBusy addr then if s.reaches rq .HOST_RCTX_CFG then s.raiseReg .HOST_EV_ctx_bad 0 else s
  else match regAt addr with
    | some (r, i) => s.regTake rq r i val
    | none => s

/-! ### Reads (R376, R377, R537, R545; the chapters' own read rules) -/

/-- What a register reads as: its fields, W1S and WO parts as 0, an RO bit in parity error wrong while its register has not changed
since (16_counters_and_events.md R532); SYS_IRQ_STATUS, identity, lifecycle, running level, RTC, log and the latched seconds live (R537, R548, R549; 09 R346; 14 R478, R487; 15 R515). -/
def State.regRead (s : State) (r : Rg) (i : Nat) : Nat :=
  let plain := (r.fields.filter (fun f => f.info.acc != .w1s && f.info.acc != .wo)).foldl
    (fun a f => a + s.rd f i * 2 ^ f.info.lo) 0
  let plain := (s.perf.flips.filter (fun x => x.1 == r.addr i && x.2.2.2 == i && x.2.2.1 == s.regVal r i)).foldl
    (fun a x => a ^^^ 2 ^ x.2.1) plain
  if s.absentReg r i then 0
  else match r with
  | .SYS_ID => s.partCode + s.engines * 2 ^ 8 + s.fuse.stepping % 16 * 2 ^ 12 + 0x5E70 * 2 ^ 16
  | .SYS_DEVID_LO => s.fuse.devid % 2 ^ 32
  | .SYS_DEVID_HI => s.fuse.devid / 2 ^ 32 % 2 ^ 32
  | .SYS_IRQ_STATUS => s.irqStatus
  | .SEC_STATE => s.lcState + s.dbgLevel * 2 ^ 2 + s.rd .SEC_STATE_dbg_port * 2 ^ 4 + s.rd .SEC_STATE_host_priv * 2 ^ 5
      + s.rd .SEC_STATE_boot_fail * 2 ^ 6 + b2n s.fuse.kek.isSome * 2 ^ 7 + s.fuse.rbFloor % 256 * 2 ^ 8
      + s.rd .SEC_STATE_session_s * 2 ^ 16
  | .SEC_IDPUB => fromLE (slice (ecPublic s.fuse.idPriv) (4 * i) 4)
  | .SEC_SHELF_STATUS => s.rd .SEC_SHELF_STATUS_a_valid + s.rd .SEC_SHELF_STATUS_b_valid * 2 + s.rd .SEC_SHELF_STATUS_cur * 2 ^ 2
      + s.rd .SEC_SHELF_STATUS_none * 2 ^ 3 + s.rd .SEC_SHELF_STATUS_staged * 2 ^ 4 + s.runLevel % 256 * 2 ^ 8
      + s.rd .SEC_SHELF_STATUS_cur_schema * 2 ^ 16
  | .TIM_TOD_SEC_HI => if s.tim.hasLatch then s.tim.latched / 2 ^ 32 else plain
  | .TIM_TOD_SEC_LO => if s.tim.hasLatch then s.tim.latched % 2 ^ 32 else plain
  | .PWR_CEL_RTC_LO => s.cel.rtc % 2 ^ 32
  | .PWR_CEL_LOG_D => fromLE (slice ((s.cel.log[s.rd .PWR_CEL_LOG_IDX_index]?).elim [] LogEntry.bytes) (4 * i) 4)
  | _ => plain

end Sys2Proof.Machine
end

