-- ==== Sys2Proof/Machine/HostCmd.lean ====
section
/-! DEFINITION. Meanings of the host commands NOP, FLASH_*, OHB_TX and RX_BUF (11_host_rings.md R391 to R405). -/
namespace Sys2Proof.Machine

/-- NOP completes OK (R391). -/
def execNop (r : RingId) (s : State) : Host.Outcome State Fault Refusal :=
  ok (let s := s.settle r 0
    match s.headDesc r 0 with
    | none => s
    | some d => (s.popDesc r).done d)

/-- A byte of the flash; an unlisted byte is erased. -/
def flashByte (m : List Host.Cell) (a : Nat) : Byte := SMap.get 0xFF m a

/-- A byte after programming it: an erased byte takes the value, for any other the spec states no result (R405). -/
def programByte (old new : Byte) (n : Nat) : Byte := if old = 0xFF then new else Config.freeByte n

/-- Program bytes from an address on; `n` numbers the free values. -/
def flashProgram : List Host.Cell → Nat → Nat → List Byte → List Host.Cell
  | m, _, _, [] => m
  | m, a, n, b :: bs => flashProgram (SMap.set 0xFF m a (programByte (flashByte m a) b n)) (a + 1) (n + 1) bs

/-- Erase a range. -/
def flashErase (m : List Host.Cell) (a len : Nat) : List Host.Cell :=
  m.filter (fun kv => decide (kv.1 < a) || decide (a + len ≤ kv.1))

/-- Bytes of the flash. -/
def flashBytes (m : List Host.Cell) (a len : Nat) : List Byte := (upTo len).map (fun i => flashByte m (a + i))

/-- The range meets the running bank or a shelf; after a failed boot no bank is protected (15_security_and_config.md R505,
R507). -/
def State.flashProtected (s : State) (a len : Nat) : Bool :=
  let meets := fun lo hi => decide (a < hi) && decide (lo < a + len)
  let bank := s.rd .SYS_FW_fw_bank * 0x1000000
  (!s.on .SEC_STATE_boot_fail && meets bank (bank + 0x1000000)) || meets 0x2000000 0x2200000

/-- First address and length of what a flash command touches (R405). -/
def State.flashRange (s : State) (d : Desc) : Nat × Nat :=
  if d.opcode == 8 then (d.param1 / s.fuse.eraseUnit * s.fuse.eraseUnit, d.param0 * s.fuse.eraseUnit)
  else (d.param1, d.len)

/-- The flash command of an SQ that is in execution (R394, R405). -/
def State.flashOf (s : State) (r : Nat) : Option FlashOp := s.host.flashOps.find? (fun o => o.d.sq == r)

/-- The flash command of an SQ is in execution no more. -/
def State.flashGone (s : State) (r : Nat) : State :=
  { s with host := { s.host with flashOps := s.host.flashOps.filter (fun o => o.d.sq != r) } }

/-- Start a flash command, or refuse it RANGE or PROTECTED (R405). RANGE goes before PROTECTED (DESIGN CHOICE, log entry 225). -/
def State.flashStart (s : State) (d : Desc) (data : BufRead) : State :=
  let (a, len) := s.flashRange d
  let t := s.popDesc d.sq
  if s.fuse.flashSize < a + len then t.refuse d 2
  else if d.opcode != 6 && s.flashProtected a len then t.refuse d 1
  else
    { t with host := { t.host with
      flashOps := t.host.flashOps ++ [{ d := d, data := data.bytes.take d.len, err := data.err }] } }

/-- FLASH_READ (R405). -/
def execFlashRead (r : RingId) (s : State) : Host.Outcome State Fault Refusal :=
  ok (let s := s.settle r 6
    match s.headDesc r 6 with
    | none => s
    | some d => s.flashStart d {})

/-- FLASH_WRITE (R395, R405, R507). -/
def execFlashWrite (r : RingId) (data : BufRead) (s : State) : Host.Outcome State Fault Refusal :=
  ok (let s := s.settle r 7
    match s.headDesc r 7 with
    | none => s
    | some d => s.flashStart d data)

/-- FLASH_ERASE (R405, R507). -/
def execFlashErase (r : RingId) (s : State) : Host.Outcome State Fault Refusal :=
  ok (let s := s.settle r 8
    match s.headDesc r 8 with
    | none => s
    | some d => s.flashStart d {})

/-- What `k` bytes or erase units of a flash operation do to the flash (R405; log entry 72). -/
def State.flashChange (s : State) (d : Desc) (data : List Byte) (k : Nat) : State :=
  let (a, _) := s.flashRange d
  if d.opcode == 7 then
    { s with fuse := { s.fuse with flash := flashProgram s.fuse.flash a s.free (data.take k) }, free := s.free + k }
  else if d.opcode == 8 then { s with fuse := { s.fuse with flash := flashErase s.fuse.flash a (k * s.fuse.eraseUnit) } }
  else s

/-- The flash operation in execution ends after `n` bytes or erase units; `n` counts only when a disable stopped it
(R383), else it ended whole (R395, R405). -/
def State.flashEnd (s : State) (o : FlashOp) (n : Nat) : State :=
  let d := o.d
  let (a, len) := s.flashRange d
  let s := s.flashGone d.sq
  let status := if o.stop then 7 else if o.err then 6 else 0
  if d.opcode == 6 then
    let k := if o.stop then min n len else len
    (s.emit (.dma d.addr (flashBytes s.fuse.flash a k))).done d status 0 k
  else if d.opcode == 7 then
    let k := if o.stop then min n o.data.length else o.data.length
    (s.flashChange d o.data k).done d status 0 k
  else
    let k := if o.stop then min n d.param0 else d.param0
    (s.flashChange d [] k).done d status (if o.stop then k else 0)

/-- FLASH_OP_DONE: the flash command of an SQ ends (R383, R394, R395, R405). While the BUS pads are held nothing moves on QSPI
(14_power_and_cellar.md R474): a command goes on, and one that a disable stopped ends with nothing done. -/
def execFlashOpDone (e : FlashEnd) (s : State) : Host.Outcome State Fault Refusal :=
  ok (match s.flashOf e.sq with
    | none => s
    | some o => if !s.padHeld 4 then s.flashEnd o e.n else if o.stop then s.flashEnd o 0 else s)

/-- FLASH_TIMEOUT: DEV_ERR, detail 1 TIMEOUT (R405), for the command that was started first, since all have the same 10 s. How many
bytes or units the flash had done is not stated: a free value (log entry 72). -/
def execFlashTimeout (s : State) : Host.Outcome State Fault Refusal :=
  ok (match s.host.flashOps.head? with
    | none => s
    | some o =>
      let whole := if o.d.opcode == 8 then o.d.param0 else o.data.length
      let k := if s.padHeld 4 then 0 else (Config.freeWord s.free).toNat % (whole + 1)
      (((s.flashGone o.d.sq).tick).flashChange o.d o.data k).done o.d 8 1)

/-- The engine that names a ring as its transmit OHB SQ, lowest first; 0xFFFF names none (R396, R409). -/
def State.ohbEngine (s : State) (r : Nat) : Option Nat :=
  if r == 0xFFFF then none else (upTo s.engines).find? (fun n => s.rd .HOST_OHB_BIND_tx_ring n == r)

/-- OHB_TX: the block joins its engine's queue with the ToD of its fetch (R395, R396). -/
def execOhbTx (r : RingId) (data : BufRead) (s : State) : Host.Outcome State Fault Refusal :=
  ok (let s := s.settle r 0x20
    match s.headDesc r 0x20 with
    | none => s
    | some d =>
      let t := s.popDesc r
      match s.ohbEngine r with
      | none => t.refuse d 1
      | some n =>
        if data.err then t.done d 6 0 data.bytes.length
        else t.modTx n (fun x => { x with ohb := x.ohb ++ [{ d := d, data := padTo d.len data.bytes, tod := s.tim.tod }] }))

/-- RX_BUF: the buffer is posted (R397). -/
def execRxBuf (r : RingId) (s : State) : Host.Outcome State Fault Refusal :=
  ok (let s := s.settle r 0x21
    match s.headDesc r 0x21 with
    | none => s
    | some d => (s.popDesc r).modRing r (fun q => { q with rxq := q.rxq ++ [d] }))

end Sys2Proof.Machine
end

