-- ==== Sys2Proof/Machine/ShelfOps.lean ====
section
/-! DEFINITION. The configuration shelves in flash: headers, records, validity, which is current
(15_security_and_config.md R507 to R511). -/
namespace Sys2Proof.Machine

/-- Flash address of Shelf A (0) or Shelf B (1) (R507). -/
def shelfBase (k : Nat) : Nat := 0x2000000 + k * 0x100000

/-- Bytes of a shelf as flash holds them. -/
def State.shelfBytes (s : State) (k off len : Nat) : List Byte := flashBytes s.fuse.flash (shelfBase k + off) len

/-! ### Header fields (R508) -/

def hdrSeq (h : List Byte) : Nat := fromLE (slice h 4 4)
def hdrSchema (h : List Byte) : Nat := byteAt h 8
def hdrRestore (h : List Byte) : Bool := (byteAt h 9).testBit 0
def hdrSigned (h : List Byte) : Bool := (byteAt h 9).testBit 1
def hdrPriv (h : List Byte) : Bool := (byteAt h 9).testBit 2
def hdrLen (h : List Byte) : Nat := fromLE (slice h 12 4)

/-- The body length is one that R508 allows. -/
def hdrLenOk (h : List Byte) : Bool := hdrLen h % 8 == 0 && decide (8 ≤ hdrLen h) && decide (hdrLen h ≤ 1048352)

/-- The 8-byte records of a body: address and value. -/
def shelfRecs (b : List Byte) : List (Nat × Nat) :=
  (upTo (b.length / 8)).map (fun k => (fromLE (slice b (8 * k) 4), fromLE (slice b (8 * k + 4) 4)))

/-- A register that a record may write: one with an RW field in LEn, FAB, CLI, PLACE, TIM, PERF, HK, CAL, PAIR or CIPH
(R508). -/
def Rg.shelved (r : Rg) : Bool :=
  (r.isLe || [3, 4, 5, 6, 8, 9, 10, 11, 12, 13].contains r.block) && r.fields.any (fun f => f.info.acc == .rw)

/-- Address of the MODE_SET record. -/
def modeRecAddr : Nat := 0xFFFFFFFC

/-- Every record is one that R508 allows; the MODE_SET record stands at most once and last. -/
def recsOk : List (Nat × Nat) → Bool
  | [] => true
  | (a, _) :: rest =>
    (if a == modeRecAddr then rest.isEmpty else (regAt a).any (fun x => x.1.shelved)) && recsOk rest

/-- The schema is accepted (R510). -/
def State.schemaOk (s : State) (schema : Nat) : Bool :=
  decide (s.runLevel ≤ schema + 2) && decide (schema ≤ s.runLevel)

/-- The OWNER signature over header bytes 0 to 63 that follows the body in flash holds, where one is required
(R508, R509). -/
def State.shelfSigOk (s : State) (k : Nat) (h : List Byte) : Bool :=
  if hdrSigned h then
    match s.fuse.owner with
    | some q => ecdsaOk (fromBE q) (h.take 64) (s.shelfBytes k (128 + hdrLen h) 96)
    | none => false
  else s.lcState != 2

/-- Shelf `k` is valid (R509). -/
def State.shelfValid (s : State) (k : Nat) : Bool :=
  let h := s.shelfBytes k 0 128
  if fromLE (h.take 4) == 0x53484C46 && crc32 (h.take 124) == fromLE (slice h 124 4) && hdrLenOk h then
    let b := s.shelfBytes k 128 (hdrLen h)
    sha384 b == slice h 16 48 && recsOk (shelfRecs b) && s.shelfSigOk k h && s.schemaOk (hdrSchema h)
  else false

/-- The shelf whose sequence number is the newer of two (R511). -/
def newerShelf (seqA seqB : Nat) : Nat :=
  let d := (seqB + 2 ^ 32 - seqA % 2 ^ 32) % 2 ^ 32
  if decide (0 < d) && decide (d < 2 ^ 31) then 1 else 0

/-- The current shelf, from what the last evaluation and later commits have left (R511). -/
def State.shelfCur (s : State) : Option Nat :=
  if s.on .SEC_SHELF_STATUS_none then none
  else if s.on .SEC_SHELF_STATUS_a_valid || s.on .SEC_SHELF_STATUS_b_valid then some (s.rd .SEC_SHELF_STATUS_cur)
  else none

/-- Header of the current shelf. -/
def State.curHdr (s : State) : Option (List Byte) := (s.shelfCur).map (fun k => s.shelfBytes k 0 128)

/-- Field that shows whether a shelf is valid. -/
def shelfFld (k : Nat) : Fld := if k == 0 then .SEC_SHELF_STATUS_a_valid else .SEC_SHELF_STATUS_b_valid

/-- A shelf found invalid is raised and counted (R511, R516). -/
def State.shelfBad (s : State) : State := s.raiseCount (.reg .SEC_EV_shelf_bad 0) {} 533

/-- Evaluate both shelves (R511). -/
def State.shelfEval (s : State) : State :=
  let a := s.shelfValid 0
  let b := s.shelfValid 1
  let seqA := hdrSeq (s.shelfBytes 0 0 128)
  let seqB := hdrSeq (s.shelfBytes 1 0 128)
  let cur := if a && b then newerShelf seqA seqB else if b then 1 else 0
  let s := s.wrs [(.SEC_SHELF_STATUS_a_valid, 0, b2n a), (.SEC_SHELF_STATUS_b_valid, 0, b2n b),
    (.SEC_SHELF_STATUS_cur, 0, cur), (.SEC_SHELF_STATUS_none, 0, b2n (!a && !b)), (.SEC_SHELF_SEQ_A_seq, 0, seqA),
    (.SEC_SHELF_SEQ_B_seq, 0, seqB),
    (.SEC_SHELF_STATUS_cur_schema, 0, if a || b then hdrSchema (s.shelfBytes cur 0 128) else 0)]
  let s := if a then s else s.shelfBad
  let s := if b then s else s.shelfBad
  if a || b then s else s.raiseReg .SEC_EV_shelf_none

/-- The target shelf (R512). -/
def State.shelfTarget (s : State) : Nat := match s.shelfCur with | some k => 1 - k | none => 0

/-- A command programs bytes of a shelf from an offset on (R512). -/
def State.shelfProgram (s : State) (k off : Nat) (b : List Byte) : State :=
  { s with fuse := { s.fuse with flash := flashProgram s.fuse.flash (shelfBase k + off) s.free b }, free := s.free + b.length }

/-- What a header reads after its third failed read-back: free values, but erased where they would pass hcrc, since the target stays
invalid (R514). -/
def State.spoiltHdr (s : State) : List Byte :=
  let h := (upTo 128).map (fun i => Config.freeByte (s.free + i))
  if crc32 (h.take 124) == fromLE (slice h 124 4) then List.replicate 128 0xFF else h

/-- A commit whose header failed its read-back 3 times leaves the target invalid (R514). -/
def State.hdrSpoil (s : State) (k : Nat) : State :=
  let flash := (s.spoiltHdr.zipIdx).foldl (fun m x => SMap.set 0xFF m (shelfBase k + x.2) x.1) s.fuse.flash
  { s with fuse := { s.fuse with flash := flash }, free := s.free + 128 }

/-- After a third failed read-back the bytes that flash holds there are free values; the header is not written, so that the target
stays invalid (R514). -/
def State.shelfSpoil (s : State) (k off len : Nat) : State :=
  let flash := (upTo len).foldl (fun m i => SMap.set 0xFF m (shelfBase k + off + i) (Config.freeByte (s.free + i))) s.fuse.flash
  { s with fuse := { s.fuse with flash := flash }, free := s.free + len }

end Sys2Proof.Machine
end

