-- ==== Sys2Proof/Machine/Boot.lean ====
section
/-! DEFINITION. Meaning of the end of boot: the image run, the measurements, the shelf restored
(15_security_and_config.md R499, R504 to R506, R508 to R511). -/
namespace Sys2Proof.Machine

/-- A bank qualifies: its signature is valid and its rollback index is at or above rb_floor (R504). -/
def State.bankOk (s : State) (b : BankObs) : Bool := b.signed && decide (s.fuse.rbFloor ≤ b.rb.toNat)

/-- The bank that the ROM runs: of those that qualify the one of the higher version, bank 0 between equals (R504). -/
def State.bankRun (s : State) (o : BootObs) : Option (Nat × BankObs) :=
  let a := s.bankOk o.bank0
  let b := s.bankOk o.bank1
  if b && (!a || decide (o.bank0.version < o.bank1.version)) then some (1, o.bank1)
  else if a then some (0, o.bank0)
  else none

/-- host_priv after boot (R499). -/
def State.bootPriv (s : State) : Bool := if s.lcState == 2 then (s.curHdr).any hdrPriv else true

/-- Neither bank qualifies (R505): the device stays in SETUP, and the host is privileged for the commands that its rings accept;
host_priv stands as after each boot (R499). -/
def State.bootFail (s : State) : State :=
  ((s.wrs [(.SEC_STATE_boot_fail, 0, 1), (.SEC_STATE_host_priv, 0, b2n s.bootPriv)]).raiseReg .SEC_EV_boot_fail).wr
    .SYS_RST_STATUS_boot_ready 0 1

/-- Steps 2 and 3 of R511 for the current shelf of header `h`: its records in order, as the control cores, then its MODE_SET
record, one with check_only = 1 changing nothing (02_modes.md R40); MEAS2 takes the header (R506). -/
def State.shelfRestore (s : State) (k : Nat) (h : List Byte) : State :=
  let l := shelfRecs (s.shelfBytes k 128 (hdrLen h))
  let s := (l.filter (fun x => x.1 != modeRecAddr)).foldl (fun t x => t.regWrite .ctl x.1 x.2) s
  let s := s.extend 2 (h.take 64)
  match l.find? (fun x => x.1 == modeRecAddr) with
  | some x => if hdrRestore h && !x.2.testBit 8 then s.modeRequest none x.2 else s
  | none => s

/-- The image of a bank runs (R504, R506, R511). -/
def State.bootRun (s : State) (k : Nat) (b : BankObs) : State :=
  let s := s.wrs [(.SYS_FW_fw_version, 0, b.version), (.SYS_FW_fw_bank, 0, k), (.PAIR_LEVEL_fl_run, 0, b.flRun),
    (.PAIR_LEVEL_fl_floor, 0, b.flFloor)]
  let s := ((s.modSec (fun x => { x with runRb := b.rb.toNat })).extend 1 b.bytes).shelfEval
  let s := s.wr .SEC_STATE_host_priv 0 (b2n s.bootPriv)
  let s := match s.shelfCur with
    | some k => if s.lcState == 3 then s else s.shelfRestore k (s.shelfBytes k 0 128)
    | none => s
  s.wr .SYS_RST_STATUS_boot_ready 0 1

/-- BOOT_COMPLETE: what the ROM finds in the banks, and the boot it ends (R504); PAIR_ALIVE_OUT toggles from here on
(08_pair_protection.md R268). The boot log goes out on the UART: its text is not given, and its line here names the bank that
runs, or 2 for none (11_host_rings.md R407; log entry 178). -/
def execBootComplete (obs : BootObs) (s : State) : Host.Outcome State Fault Refusal :=
  ok (if s.on .SYS_RST_STATUS_boot_ready || s.hostUnreachable || s.pwr.up != 0 then s
    else
      let s := s.extend 0 obs.rom
      let s := { s with pin := { s.pin with aliveOut := !s.padHeld 2 } }
      let s := match s.bankRun obs with
        | some (k, b) => s.bootRun k b
        | none => s.bootFail
      s.actRefresh.tamperReport.emit (.uart true (((s.bankRun obs).map (·.1)).getD 2)))

end Sys2Proof.Machine
end

