-- ==== Sys2Proof/Machine/Bridge.lean ====
section
/-! DEFINITION. Meanings of bridge selection (08_pair_protection.md R291, R292). -/
namespace Sys2Proof.Machine

/-- The own source of a bridged tributary has failed: its source port without rx_lock (tap CLIENT), or the tributary in
signal fail (tap LINE) (R292). -/
def State.bridgeFailed (s : State) (k : Nat) : Bool :=
  let t := s.rd .PAIR_BRIDGE_trib k
  if s.on .PAIR_BRIDGE_tap k then s.on .FAB_TRIB_STATUS_sf t
  else !s.on .CLI_PORT_STATUS_rx_lock (s.tribOf t).cfg.port

/-- The ACTIVE changes between its own container and the copy: with tap LINE its demapper finds its blocks anew; PAIR_SEL
(R292). -/
def State.bridgeUse (s : State) (k v : Nat) : State :=
  let t := s.rd .PAIR_BRIDGE_trib k
  let s := (s.wr .PAIR_BRIDGE_selected k v).copyClear k
  (if s.on .PAIR_BRIDGE_tap k && s.ethTrib t then s.dlmHunt t else s).raiseReg .PAIR_EV_sel 0 { obj := t }

/-- Bytes of a copy arrive: those of a copy in use go where its own container went, to the mapper for tap CLIENT and to the demapper for tap
LINE (R291, R292; log entry 49). -/
def State.copyIn (s : State) (k : Nat) (b : List Byte) : State :=
  if b.isEmpty || !s.on .PAIR_BRIDGE_selected k then s
  else if s.on .PAIR_BRIDGE_tap k then
    let t := s.rd .PAIR_BRIDGE_trib k
    let gmp := s.isGmp t
    s.modTrib t (fun x => { x with rxQ := x.rxQ ++ b.map (fun v => (v, false)), rxLen := if gmp then x.rxLen ++ [b.length] else x.rxLen })
  else s.modPair (fun p => { p with copyQ := SMap.mod [] p.copyQ k (fun q => q ++ b) })

/-- BRIDGE_SELECT: what has arrived of a copy. It takes the place of a failed source, unless its own signal-fail flag is set (R292). -/
def execBridgeSelect (k : BridgeId) (copy : CopyObs) (s : State) : Host.Outcome State Fault Refusal :=
  ok (if s.role == 1 && s.linkUp && s.on .PAIR_BRIDGE_admitted k then
      let s := if !s.on .PAIR_BRIDGE_selected k && !copy.sf && s.bridgeFailed k then s.bridgeUse k 1 else s
      s.copyIn k copy.bytes
    else s)

/-- BRIDGE_RESTORE: the own source has been good for 10 s (R292). -/
def execBridgeRestore (k : BridgeId) (s : State) : Host.Outcome State Fault Refusal :=
  ok (if s.role == 1 && s.on .PAIR_BRIDGE_selected k && !s.bridgeFailed k then s.bridgeUse k 0 else s)

end Sys2Proof.Machine
end

