-- ==== Sys2Proof/Machine/Cellar.lean ====
section
/-! DEFINITION. Meanings of the cellar's commands (14_power_and_cellar.md R476 to R483; 01_architecture.md R21). -/
namespace Sys2Proof.Machine

/-- CELLAR_REG_WRITE (01_architecture.md R21); ignored until boot_ready (17_register_map.md R545). -/
def execCellarRegWrite (rq : Requester) (addr val : Nat) (s : State) : Host.Outcome State Fault Refusal :=
  ok (match regAt addr with
    | some (r, i) => if r.info.dom == .cellar then s.regTake rq r i val else s
    | none => s)

/-- CELLAR_WRITE_DONE (01_architecture.md R21). -/
def execCellarWriteDone (s : State) : Host.Outcome State Fault Refusal := ok s.cellarDone

/-- CEL_ACK: a write of 1 to cel_ack takes effect (R481). -/
def execCelAck (s : State) : Host.Outcome State Fault Refusal := ok s.celAck

/-- RTC_WRAP (R477). -/
def execRtcWrap (s : State) : Host.Outcome State Fault Refusal :=
  ok (((s.atRtc 0).wr .PWR_CEL_STATUS_rtc_wrap 0 1).logAdd 7 0)

/-- VBAT_SAMPLE: VBAT_CELLAR in mV, sampled while the cellar runs from it (R478, R487). -/
def execVbatSample (mv rtc : Nat) (s : State) : Host.Outcome State Fault Refusal :=
  ok (let s := s.atRtc rtc
    if !s.on .PWR_CEL_STATUS_on_bat then s
    else
      let s := s.wrs [(.PWR_CEL_STATUS_vbat, 0, min 255 (mv / 20)),
        (.PWR_RAIL_rail_ok, 0, (s.rd .PWR_RAIL_rail_ok &&& 63) + (if 1600 ≤ mv ∧ mv ≤ 3600 then 64 else 0))]
      if mv < 1800 then s.logAdd 2 (mv / 10) else s)

/-- TAMPER_ASSERT: TAMPER0 (bit 0) and TAMPER1 have been low for a number of RTC ticks; from 32 on they are asserted, while
tamper_en = 1 (R478, R479, R469; 15_security_and_config.md R493, R502). -/
def execTamperAssert (seen : TamperSeen) (rtc : Nat) (s : State) : Host.Outcome State Fault Refusal :=
  ok (let s := s.atRtc rtc
    let m := seen.inputs % 4
    if !s.on .PWR_CEL_CTRL_tamper_en || m == 0 || seen.ticks < 32 then s
    else
      let s := { s with pin := { s.pin with tamper := m } }
      let s := (s.logAdd 1 m).purgeAll.trapShut
      let s := (s.modPwr (fun p => { p with tamperPurge := true })).tamperReport
      if s.on .PWR_CEL_CTRL_tamper_wake && s.wakeState.isSome then s.wake .PWR_WAKE_SRC_tamper 1 else s)

/-- CELL_ALARM of one entry: its code, and its argument with the RTC count above it (R480; 16_counters_and_events.md R527,
R530; log entry 52). -/
def State.cellAlarm (s : State) (e : LogEntry) : State :=
  s.raise (.perf .cellAlarm) { obj := e.code, arg := some (e.arg % 65536 + e.rtc % 2 ^ 47 * 65536),
                               sev := some (if e.code == 1 || e.code == 3 then 3 else 1) }

/-- CELL_ALARM_REPORT: in RUN with the host link up every entry not yet reported is raised, oldest first (R480). -/
def execCellAlarmReport (s : State) : Host.Outcome State Fault Refusal :=
  ok (if s.awake && s.on .HOST_LINK_link_up then
      let s := (s.cel.log.filter (fun e => !e.reported)).foldl (fun t e => t.cellAlarm e) s
      (s.modCel (fun c => { c with log := c.log.map (fun e => { e with reported := true }) })).logShow
    else s)

/-- CELLAR_POWER_LOSS: VDD_IO and VBAT_CELLAR are both absent (R481). -/
def execCellarPowerLoss (s : State) : Host.Outcome State Fault Refusal := ok (s.cellarLost.railsGone 0x50)

/-- The ToD that R483 loads at RTC count `rtc`: one tick is 30.517578125 us, 2 * 10^9 in units of 2^-16 ns. -/
def mothTod (ce te rtc : Nat) : Nat := (te + (rtc % 2 ^ 47 + 2 ^ 47 - ce) % 2 ^ 47 * 2000000000) % todMod

/-- MOTHBALL_TOD_LOAD: at the first RTC tick edge after DPLL0 starts (R483). -/
def execMothballTodLoad (rtc : Nat) (s : State) : Host.Outcome State Fault Refusal :=
  ok (match s.cel.entryRec with
    | none => s
    | some (ce, te) =>
      if !s.awake || !s.pwr.todDue then s
      else
        let s := ((s.atRtc rtc).atTod te).modPwr (fun p => { p with todDue := false })
        (s.stepTod (mothTod ce te rtc)).setTrace 0)

/-- CELLAR_SUPPLY_CHANGEOVER: the cellar runs from VDD_IO from 1.62 V up, else from VBAT_CELLAR (R476), and then VDD_IO is in range
no more (R484, R486). -/
def execCellarSupplyChangeover (vddIoMv : Nat) (s : State) : Host.Outcome State Fault Refusal :=
  ok (let s := s.wr .PWR_CEL_STATUS_on_bat 0 (b2n (decide (vddIoMv < 1620)))
    if vddIoMv < 1620 then s.railsGone 0x10 else s)

end Sys2Proof.Machine
end

