-- ==== Sys2Proof/Machine/FrameOps.lean ====
section
/-! DEFINITION. What a transmitted frame is made of: containers, payload area, scrambler, cipher, overhead
(05_line_framing.md R151 to R184; 06_tributary_mapping.md R201 to R220; 10_cipher.md R347 to R361). -/
namespace Sys2Proof.Machine

/-! ### Containers (R202, R206, R212, R219) -/

/-- IDLE blocks of at least `n` bytes. -/
def idleFill (n : Nat) : List Byte := (List.replicate ((n + 2) / 3) (blkHeader 0 false 0)).flatten

/-- Take `c` container bytes of blocks, filled with IDLE blocks where none is ready (R206). -/
def takeBlocks (q : List Byte) (c : Nat) : List Byte × List Byte :=
  let f := if q.length < c then q ++ idleFill (c - q.length) else q
  (f.take c, f.drop c)

/-- The 4 bytes of a GMP word (R212). -/
def gmpWord (cm cnd : Nat) : List Byte :=
  let v := (cm % 2 ^ 15 * 8 + cnd % 8) * 64
  beBytes 4 (v * 256 + crc8 (bitsHigh 24 v))

/-- The P bytes after a GMP word: byte j carries client data when (j × cm) mod P < cm (R213). -/
def gmpBytes (p cm : Nat) (data : List Byte) (fill : Byte) : List Byte :=
  ((upTo p).foldl (fun (acc : List Byte × List Byte) j =>
    if (j + 1) * cm % p < cm then (acc.2.headD fill :: acc.1, acc.2.drop 1) else (0 :: acc.1, acc.2)) ([], data)).1.reverse

/-- The container frame of a GMP tributary, `c` bytes long, and the tributary after it: cm as measured and held within 2
of the last, or nominal with ODU-AIS while the port is at fault (R212, R213, R230; log entry 34). Client bytes that a slip of
X05 lost or repeated are free values (01_architecture.md R20; log entry 85). -/
def State.gmpContainer (s : State) (t c : Nat) (gmp : List GmpMeas) : List Byte × State :=
  let x := s.tribOf t
  let m := (gmp.find? (fun g => g.trib == t)).getD {}
  let ais := (s.portOf (s.srcPort t)).txLf
  let (slip, s) := s.portSlip (s.srcPort t)
  let bits := x.gmpAcc + s.gmpRate t * 576
  let cm := if ais then bits / 80000000
    else if x.cmTx == 0 then m.cm else max (x.cmTx - 2) (min (x.cmTx + 2) m.cm)
  let cnd := if ais then bits % 80000000 / 10000000 else m.cnd
  let data := if ais then [] else if slip then (upTo m.data.length).map (fun i => Config.freeByte (s.free + i)) else m.data
  let s := if slip then { s with free := s.free + m.data.length } else s
  ((gmpWord cm cnd ++ gmpBytes (c - 4) x.cmTx data (if ais then 0xFF else 0)).take c,
    s.modTrib t (fun x => { x with cmTx := cm, gmpAcc := if ais then bits % 80000000 else 0 }))

/-- `c` bytes of a tributary's own container: one container frame on GMP, as many bytes of blocks otherwise. -/
def State.ownContainer (s : State) (t c : Nat) (gmp : List GmpMeas) : List Byte × State :=
  if s.isGmp t then s.gmpContainer t c gmp
  else
    let (a, b) := takeBlocks (s.tribOf t).q c
    (a, s.modTrib t (fun x => { x with q := b }))

/-- The bridge entry whose copy takes the place of the own container of a client tributary (08_pair_protection.md R292). -/
def State.copyEntry (s : State) (t : Nat) : Option Nat :=
  (upTo 32).find? (fun k => s.on .PAIR_BRIDGE_selected k && s.rd .PAIR_BRIDGE_trib k == t && !s.on .PAIR_BRIDGE_tap k)

/-- `c` container bytes of a tributary: its own, or those of the peer's copy. Bytes of the copy that have not arrived, or all of them where a
slip of X07 marks them, are free values (log entry 49; 01_architecture.md R20). -/
def State.container (s : State) (t c : Nat) (gmp : List GmpMeas) : List Byte × State :=
  let (a, u) := s.ownContainer t c gmp
  let u := u.sendCopies t false a
  match s.copyEntry t with
  | none => (a, u)
  | some k =>
    let q := if u.pair.slip then [] else (SMap.get [] u.pair.copyQ k).take c
    let u := u.modPair (fun p => { p with slip := false, copyQ := SMap.mod [] p.copyQ k (fun l => l.drop c) })
    (q ++ (upTo (c - q.length)).map (fun i => Config.freeByte (u.free + i)), { u with free := u.free + (c - q.length) })

/-! ### Group frames (R219, R220) -/

/-- A marker of an engine is due at superframe `psc`. -/
def State.markerDue (s : State) (n psc : Nat) : Bool :=
  match (s.txOf n).marker with
  | some (_, t) => dueAt psc t
  | none => false

/-- The transmit map of the frame that engine `n` sends after `ahead` more: the next map when the SFM of a switch superframe comes
before it (R219). -/
def State.mapAhead (s : State) (n ahead : Nat) : Slots :=
  let x := s.txOf n
  if ((x.fn == 0 && !x.sfm) || decide (256 ≤ x.fn + ahead)) && s.markerDue n ((x.psc + 1) % 2 ^ 32) then x.next.getD x.map else x.map

/-- Engine `n` sends frames that carry payload. -/
def State.framesGroups (s : State) (n : Nat) : Bool := (s.txOf n).on && !s.idles n

/-- Form the next group frame of a tributary: its container bytes cut into the shares of its members, in ascending engine
order; a share is 4 bytes shorter where it carries a group tag (R219, R220, log entry 35). The share of a member that sends
no frames, or frames without payload, is not kept for a later frame (R219, R221). -/
def State.formGf (s : State) (g t : Nat) (gmp : List GmpMeas) : State :=
  let x := s.grpOf g
  let slots := fun e => s.slotsIn (s.mapAhead e (SMap.get [] x.share e).length) t
  let mem := (upTo s.engines).filter (fun e => !(slots e).isEmpty)
  let sizes := mem.map (fun e =>
    let ahead := (SMap.get [] x.share e).length
    (e, 36 * (slots e).length - (if ((s.txOf e).fn + ahead) % 256 == 0 then 4 else 0)))
  let (bytes, s) := s.container t ((sizes.map (·.2)).sum) gmp
  let (share, _) := sizes.foldl (fun (acc : SMap (List (Nat × List Byte)) × List Byte) (e, c) =>
    (if s.framesGroups e then SMap.mod [] acc.1 e (fun l => l ++ [(x.gf, acc.2.take c)]) else acc.1, acc.2.drop c))
    (x.share.filter (fun kv => mem.contains kv.1), bytes)
  s.modGrp g (fun y => { y with gf := (y.gf + 1) % 2 ^ 24, share := share })

/-- The group tag of a GF number (R220). -/
def groupTag (gf : Nat) : List Byte := beBytes 4 (gf * 256 + crc8 (bitsHigh 24 gf))

/-- The share of engine `n` in its next frame, `c` bytes with any group tag. Where the map it was cut for was replaced outside a switch,
it is cut anew: bytes that it lacks are the container's next (R219; log entry 35). -/
def State.shareOf (s : State) (n g t c : Nat) (gmp : List GmpMeas) : List Byte × State :=
  let s := if (SMap.get [] (s.grpOf g).share n).isEmpty then s.formGf g t gmp else s
  match SMap.get [] (s.grpOf g).share n with
  | [] => (padTo c [], s)
  | (gf, b) :: _ =>
    let s := s.modGrp g (fun y => { y with share := SMap.mod [] y.share n (fun l => l.drop 1) })
    let b := (if (s.txOf n).fn == 0 then groupTag gf else []) ++ b
    let (more, s) := if b.length < c && !s.isGmp t then s.container t (c - b.length) gmp else ([], s)
    (padTo c (b ++ more), s)

/-- The container bytes of a tributary in the next frame of engine `n`. -/
def State.frameBytes (s : State) (n t : Nat) (gmp : List GmpMeas) : List Byte × State :=
  let c := 36 * (s.slotsIn (s.stMap n .mapper) t).length
  match s.tribGrp t with
  | some g => s.shareOf n g t c gmp
  | none => s.container t c gmp

/-! ### Payload area (R153, R154, R201) -/

/-- Lay the payload area of `count` slots: byte k belongs to slot k mod count, 0 where the slot is unassigned. -/
def layPayload (count : Nat) (bytes : SMap (List Byte)) (own : Nat → Option (Nat × Nat × Nat)) : List Byte :=
  (upTo (36 * count)).map (fun p =>
    match own (p % count) with
    | none => 0
    | some (t, rank, width) => (SMap.get [] bytes t).getD (p / count * width + rank) 0)

/-- Owner of a slot of a map: tributary, rank of the slot among the tributary's slots, number of those. -/
def State.slotOwner (s : State) (m : Slots) (k : Nat) : Option (Nat × Nat × Nat) :=
  (s.slotTrib m k).map (fun t => (t, (s.slotsIn m t).idxOf k, (s.slotsIn m t).length))

/-- The payload area of the next frame of an engine, before scrambling, and the state after its containers are taken: cut by the map
of the mapper, laid by that of the fabric, and as long as that of the framer asks (01_architecture.md R13, R27). -/
def State.payload (s : State) (n : Nat) (gmp : List GmpMeas) : List Byte × State :=
  let m := s.stMap n .mapper
  let f := s.stMap n .fabric
  let (bytes, s) := m.tribs.foldl (fun (acc : SMap (List Byte) × State) t =>
    let (b, u) := acc.2.frameBytes n t gmp
    (SMap.set [] acc.1 t b, u)) ([], s)
  (padTo (36 * activeSlots (s.stMap n .framer).rate) (layPayload (activeSlots f.rate) bytes (s.slotOwner f)), s)

/-- One step of the scrambler x^23 + x^18 + 1; the last stage is the output (log entry 14). -/
def scrStep (r : Nat) : Nat × Bool :=
  ((r * 2 + b2n (xor (r.testBit 22) (r.testBit 17))) % 2 ^ 23, r.testBit 22)

/-- The next byte of the scrambler, its first bit in bit 7. -/
def scrByte (r : Nat) : Nat × Nat :=
  (upTo 8).foldl (fun (acc : Nat × Nat) _ =>
    let (r', b) := scrStep acc.1
    (r', acc.2 * 2 + b2n b)) (r, 0)

/-- Scramble or descramble a payload area from its first bit on (R154). -/
def scramble (p : List Byte) : List Byte :=
  (p.foldl (fun (acc : List Byte × Nat) b =>
    let (r, k) := scrByte acc.2
    ((b ^^^ BitVec.ofNat 8 k) :: acc.1, r)) ([], 0x7FFFFF)).1.reverse

/-- Even parity on each bit position (R159). -/
def bip8 (p : List Byte) : Nat := p.foldl (fun a b => a ^^^ b.toNat) 0

/-! ### Cipher (10_cipher.md R347, R348, R350, R354) -/

/-- IV of a message (R354). -/
def cipherIv (mb ends eng locker kgen sc : Nat) : Nat :=
  mb * 2 ^ 95 + ends * 2 ^ 94 + eng * 2 ^ 92 + locker * 2 ^ 86 + kgen % 256 * 2 ^ 48 + sc % 2 ^ 48

/-- Additional data of a message (R354). -/
def cipherAad (mb ends eng locker kgen sc rate gen kp : Nat) : List Byte :=
  beBytes 1 (mb * 32 + ends * 16 + eng * 4) ++ beBytes 1 locker ++ beBytes 1 kgen ++ beBytes 6 sc ++ beBytes 1 (rate % 32)
    ++ beBytes 2 (gen % 4096) ++ beBytes 1 (kp % 2) ++ [0, 0, 0]

/-- Put bytes of a payload area through the messages of their lockers, a byte of a placed tributary with no message
becoming 0: the bytes after, and the bytes of each message in order (R347, R348). -/
def cipherPayload (msgs : List CipherTx) (owner : Nat → Option (Option Nat)) (count : Nat) (p : List Byte) :
    List Byte × SMap (List Byte) :=
  let r := p.zipIdx.foldl (fun (acc : List Byte × SMap (List Byte)) (b, i) =>
    match owner (i % count) with
    | none => (b :: acc.1, acc.2)
    | some l =>
      match l.bind (fun l => msgs.find? (fun m => m.locker == l)) with
      | none => (0 :: acc.1, acc.2)
      | some m =>
        match m.key with
        | none => (0 :: acc.1, acc.2)
        | some k =>
          let got := SMap.get [] acc.2 m.locker
          let c := b ^^^ BitVec.ofNat 8 (gcmKey k m.iv (m.ct.length + got.length))
          (c :: acc.1, SMap.set [] acc.2 m.locker (got ++ [c]))) ([], [])
  (r.1.reverse, r.2)

/-- Locker of a slot of a map: none for an unassigned slot; of a placed tributary its binding, if any. -/
def State.slotLocker (s : State) (m : Slots) (k : Nat) : Option (Option Nat) := (s.slotTrib m k).map (fun t => s.lockerOf t)

/-- Lockers with at least one qualifying slot in a map, ascending (R347). -/
def State.mapLockers (s : State) (m : Slots) : List Nat :=
  ((m.tribs.filter (fun t => !(s.slotsIn m t).isEmpty)).filterMap (fun t => s.lockerOf t)).dedup.mergeSort (· ≤ ·)

/-- Key phase of the next superframe: a pending flip due then has been applied. -/
def State.nextKp (s : State) (n : Nat) : Nat :=
  let x := s.txOf n
  let due := x.shadows.any (fun h => decide (h.what = .kpFlip) && dueAt ((x.psc + 1) % 2 ^ 32) h.target)
  if due then 1 - s.rd .CIPH_ENG_CTRL_tx_kp n else s.rd .CIPH_ENG_CTRL_tx_kp n

/-- The cipher field of locker `l` in the superframe being sent, 24 bytes (R350); a halt sets TV and NV to 0 (R370). -/
def State.cipherField (s : State) (n l : Nat) : List Byte :=
  let x := s.txOf n
  let tv := (x.prev.find? (fun m => m.locker == l && m.key.isSome))
  let sc := SMap.get 0 (s.lockOf l).sc n
  let nv := s.on .CIPH_LOCK_CTRL_lock_en l && (s.slotFor l (s.nextKp n)).key.isSome
  let go := !s.on .CIPH_EV_halted
  if tv.isNone && !nv then List.replicate 24 0
  else
    beBytes 1 (b2n (go && tv.isSome) * 128 + b2n (go && nv) * 64 + s.memberBit * 32 + b2n x.endSel * 16 + n * 4)
      ++ beBytes 1 (match tv with | some m => m.kgen | none => 0)
      ++ beBytes 6 (if nv then sc else 0)
      ++ (match tv with | some m => beBytes 16 (gcmTag (m.key.getD 0) m.iv m.aad m.ct) | none => List.replicate 16 0)

/-! ### Overhead (R157 to R160, R168, R181, R182, R184) -/

/-- The 9 bytes of the frame header (R157). -/
def frameHeader (fn lvl rate : Nat) : List Byte :=
  let b := beBytes 1 fn ++ beBytes 1 (lvl * 32 + rate) ++ [0]
  [0x3C, 0x5A, 0xE1, 0x96] ++ b ++ beBytes 2 (crc16 b)

/-- The MAP field: marker, generation, CRC-3 (R159). -/
def mapField (mk : Bool) (gen : Nat) : List Byte :=
  let v := b2n mk * 4096 + gen % 4096
  beBytes 2 (v * 8 + crcBits 3 3 0 (bitsHigh 13 v))

/-- The 8 bytes of a protection message (R168). -/
def protBytes (m : ProtMsg) (ack : Nat) : List Byte :=
  let b := beBytes 1 m.code ++ beBytes 1 m.seq ++ beBytes 1 ack ++ beBytes 4 m.arg
  b ++ beBytes 1 (crc8 (bitsOfBytes b))

/-- The MFC byte of a frame (R160). -/
def State.mfcByte (s : State) (n fn lvl : Nat) (gccValid : Bool) : Byte :=
  if fn < 64 then Config.trailTrace (n * 64 + fn)
  else if fn == 64 then BitVec.ofNat 8 (s.txOf n).fmtAdv
  else if fn == 65 then BitVec.ofNat 8 (b2n gccValid)
  else if 68 ≤ fn && fn < 100 && decide (2 ≤ lvl) then (s.txOf n).tt.getD (fn - 68) 0
  else 0

/-- An engine sends AIS: forced in MAINTENANCE, with cipher ON below level 3, or as the partner of an engine in signal fail
in REGENERATOR (R175, R181, R184). -/
def State.sendsAis (s : State) (n : Nat) : Bool :=
  (s.modeNow == 4 && s.on .LE_FRM_CTRL_force_ais n) || s.idles n
    || (s.modeNow == 3 && s.sigFail (partner n))

/-- An engine sends RDI (R181, R184). -/
def State.sendsRdi (s : State) (n : Nat) : Bool := s.sigFail n || (s.modeNow == 4 && s.on .LE_FRM_CTRL_force_rdi n)

/-- STAT (R159). -/
def State.statByte (s : State) (n lvl kp : Nat) : Nat :=
  b2n (s.sendsRdi n) * 128 + b2n (s.sendsAis n) * 64 + s.rd .LE_FEC_STATUS_fec_excess n * 32
    + (if 3 ≤ lvl then kp * 16 else 0) + min 8 (s.txOf n).beiSum

/-- Bytes 9 to 29 of the overhead of frame `fn`; fields above the level sent are 0 (R159). -/
def State.overhead (s : State) (n fn lvl kp : Nat) (map gcc : List Byte) (gccValid : Bool) : List Byte :=
  let x := s.txOf n
  beBytes 1 x.bipPrev ++ beBytes 1 (s.statByte n lvl kp) ++ (if 3 ≤ lvl then padTo 2 map else [0, 0])
    ++ [s.mfcByte n fn lvl gccValid] ++ (if 2 ≤ lvl then protBytes x.prot x.ackOut else List.replicate 8 0)
    ++ padTo 8 gcc

end Sys2Proof.Machine
end

