-- ==== Sys2Proof/Machine/TxFrame.lean ====
section
/-! DEFINITION. The meaning of TX_FRAME (05_line_framing.md R152 to R184; 06_tributary_mapping.md R229). -/
namespace Sys2Proof.Machine

/-- The cipher takes a scrambled payload area at T5: the area sent, and the messages of the engine with what they gained
(10_cipher.md R347, R348, R370). -/
def State.encrypt (s : State) (n : Nat) (p : List Byte) : List Byte × State :=
  let x := s.txOf n
  let m := s.stMap n .cipher
  if !s.ciphering n then (p, s)
  else
    let msgs := if s.on .CIPH_EV_halted then [] else x.msgs
    let (q, got) := cipherPayload msgs (s.slotLocker m) (activeSlots m.rate) p
    (q, s.modTx n (fun x => { x with msgs := x.msgs.map (fun m => { m with ct := m.ct ++ SMap.get [] got m.locker }) }))

/-- Amplitude bits of a pilot symbol on all four quadratures: REQ is the highest amplitude of the constellation, ANS is 1
(13_calibration.md R454). Which bits stand for an amplitude is not stated (log entry 81). -/
def pilotLabel (prof pil : Nat) : List Bool :=
  let b := (2 * mBits prof - 4) / 4
  let amp := if pil == 2 then 1 else if b == 2 then 7 else 3
  (List.replicate 4 ((bitsHigh 2 (Config.ampLabel amp).toNat).drop (2 - b))).flatten

/-- Pilots: the amplitude bits of symbol j of the frame are fixed for every j with j mod 240 = 239 (13_calibration.md R454). -/
def withPilots (prof rate pil : Nat) (data : List Bool) : List Bool :=
  let b := 2 * mBits prof - 4
  let k := fecSymbols prof rate
  if pil == 0 then data
  else (pieces 30240 (posPerFrame prof) data).zipIdx.flatMap (fun (d, p) =>
    (pieces b k d).zipIdx.flatMap (fun (w, j) => if (p * k + j) % 240 == 239 then pilotLabel prof pil else w)
      ++ d.drop (b * k))

/-- The data bits of a frame: the 72 bits of its header pass the matcher unshaped, on the amplitude bits of the first
symbols; the matcher's own output follows on the symbols that are no pilots (R156; 03_line_engine.md R77; 13_calibration.md
R454). -/
def State.frameData (s : State) (n rate : Nat) (frame : List Byte) : List Bool :=
  let bits := bitsOfBytes frame
  let pil := s.rd .CAL_ENG_STATUS_pilot_tx n
  withPilots (s.prof n) (s.fecRate n) pil
    (padBits (30240 * posPerFrame (s.prof n)) (bits.take 72 ++ Config.shape (s.prof n) rate (pil != 0) (bits.drop 72)))

/-- The positions of a frame pass the encoder in order (R13 step T7, R151). -/
def State.sendPositions (s : State) (n rate : Nat) (frame : List Byte) : State :=
  (pieces 30240 (posPerFrame (s.prof n)) (s.frameData n rate frame)).foldl (fun t d => t.sendPosition n d) s

/-- A frame leaves: as itself and as its positions. NEAR_DIG hands it to the own receive DSP, and in FAR_SYM nothing of it
is sent (03_line_engine.md R116; log entry 165). -/
def State.frameOut (s : State) (n rate : Nat) (frame : List Byte) : State :=
  let s := match s.loopback n with
    | 0 => s.emit (.frame n frame)
    | 1 => s.modTx n (fun x => { x with loopQ := (x.loopQ ++ [frame]).drop (x.loopQ.length - 3) })
    | _ => s
  s.sendPositions n rate frame

/-- Send a frame: header, overhead, reserved lanes, payload; the frame number and the sums move on (R152, R159, R182). -/
def State.sendFrame (s : State) (n fn rate : Nat) (oh cf pay : List Byte) (bip : Nat) : State :=
  let lvl := (s.txOf n).lvl
  let lanes := padTo (9 * rate) (frameHeader fn lvl rate ++ oh ++ cf)
  let s := s.frameOut n rate (lanes ++ pay)
  s.modTx n (fun x => { x with fn := (fn + 1) % 256, beiSum := 0, bipPrev := bip,
                               sfm := if fn == 255 then false else x.sfm })

/-- After a slip of the transmit streams the payload of the next frame is errored: which words were lost or repeated is not
stated, free values (01_architecture.md R19, R20; log entry 85). -/
def State.txSlip (s : State) (n : Nat) (p : List Byte) : List Byte × State :=
  if !(s.txOf n).slip then (p, s)
  else
    let s := s.modTx n (fun x => { x with slip := false })
    ((upTo p.length).map (fun i => Config.freeByte (s.free + i)), { s with free := s.free + p.length })

/-- The same for the client bytes of an interoperable frame. -/
def State.slipClients (s : State) (n : Nat) (l : List (List Byte × Bool)) : List (List Byte × Bool) × State :=
  if !(s.txOf n).slip then (l, s)
  else
    let r := l.foldl (fun (acc : List (List Byte × Bool) × Nat) c =>
      (acc.1 ++ [((upTo c.1.length).map (fun i => Config.freeByte (acc.2 + i)), c.2)], acc.2 + c.1.length)) ([], s.free)
    (r.1, { s.modTx n (fun x => { x with slip := false }) with free := r.2 })

/-- A frame of an engine that maps its own tributaries. -/
def State.ownFrame (s : State) (n : Nat) (gmp : List GmpMeas) : State :=
  let x := s.txOf n
  let m := s.stMap n .framer
  let (plain, s) := if s.idles n then (List.replicate (36 * activeSlots m.rate) 0, s.shareDrop n) else s.payload n gmp
  let (plain, s) := s.txSlip n plain
  let (pay, s) := s.encrypt n (scramble plain)
  let cf := if s.ciphering n && decide (x.fn < 64) then s.cipherField n x.fn else List.replicate 24 0
  let oh := s.overhead n x.fn x.lvl (s.rd .CIPH_ENG_CTRL_tx_kp n) (mapField x.mkNow m.gen) (slice x.gcc (8 * x.fn) 8) x.gccValid
  s.sendFrame n x.fn m.rate oh cf pay (bip8 plain)

/-- GCC0 of a regenerated frame: the received bytes where both engines of the pair have ohb_gcc_en = 0, the engine's own
block otherwise (07_placement.md R247). -/
def State.regenGcc (s : State) (n : Nat) (f : RegenFrame) : List Byte × Bool :=
  if !s.on .LE_FRM_CTRL_ohb_gcc_en n && !s.on .LE_FRM_CTRL_ohb_gcc_en (partner n) then (f.gcc, f.gccValid)
  else (slice (s.txOf n).gcc (8 * f.fn) 8, (s.txOf n).gccValid)

/-- A payload area of one number of slots laid anew in an area of another: each slot keeps its number and its bytes, and those that the new
area does not hold are left out (R153, R175). -/
def relayPay (old new : Nat) (pay : List Byte) : List Byte :=
  if old == new then pay
  else (upTo (36 * new)).map (fun i => if i % new < old then pay.getD (i / new * old + i % new) 0 else 0)

/-- A received frame as the partner's level lets it be sent (R175): below level 3 at nominal rate alone, with the slots that this rate
has, and with cipher ON without traffic (log entry 196). -/
def State.regenLevel (s : State) (n : Nat) (f : RegenFrame) : RegenFrame :=
  if 3 ≤ (s.txOf n).lvl then f
  else
    let rate := nomRate (s.prof n)
    let pay := relayPay (activeSlots f.rate) (activeSlots rate) f.pay
    { f with rate := rate, pay := if s.idles n then List.replicate (36 * activeSlots rate) 0 else pay }

/-- A frame of the partner engine in REGENERATOR: the frame number, rate, MAP, KP and payload of the received frame, or,
while none is received, the last rate and map with no received block, no marker and no cipher field; before the first, the
nominal rate (06 R229; 07 R247; 10 R361; log entry 37). In TRANSIT the BIP8 sent is over the area as it passes (log entry
188). rate_active shows the rate of the frame (03_line_engine.md R118). -/
def State.regenFrame (s : State) (n : Nat) : State :=
  let x := s.txOf n
  let transit := s.rd .CIPH_ENG_CTRL_use_active n == 2
  match x.regenQ with
  | q :: rest =>
    let f := s.regenLevel n q
    let s := s.modTx n (fun x => { x with regenQ := rest, regenLast := q, fn := q.fn })
    let (plain, s) := s.txSlip n f.pay
    let (pay, s) := if transit then (plain, s) else s.encrypt n (scramble plain)
    let cf := if transit then f.cf
      else if s.ciphering n && decide (f.fn < 64) then s.cipherField n f.fn else List.replicate 24 0
    let (gcc, v) := s.regenGcc n f
    (s.wr .LE_PROFILE_rate_active n f.rate).sendFrame n f.fn f.rate (s.overhead n f.fn x.lvl f.kp f.map gcc v) cf pay (bip8 plain)
  | [] =>
    let f := x.regenLast
    let rate := if f.rate == 0 || decide (x.lvl < 3) then nomRate (s.prof n) else f.rate
    let plain := List.replicate (36 * activeSlots rate) 0
    let map := mapField false (fromBE f.map / 8 % 4096)
    let (gcc, v) := s.regenGcc n { fn := x.fn }
    (s.wr .LE_PROFILE_rate_active n rate).sendFrame n x.fn rate (s.overhead n x.fn x.lvl f.kp map gcc v) (List.replicate 24 0)
      (if transit then plain else scramble plain) (bip8 plain)

/-! ### Interoperable profiles (R150, R177, R181; 06_tributary_mapping.md R217; log entry 36) -/

/-- Tributaries on the instances of an interoperable engine, in the order of their instances (02_modes.md R44). -/
def State.ozTribs (s : State) (n : Nat) : List Nat :=
  (s.activeTribs.filter (fun t => (s.tribOf t).oz == some n)).mergeSort (fun a b => (s.tribOf a).ozInst ≤ (s.tribOf b).ozInst)

/-- One frame of an interoperable profile: the client bytes that wait, or in REGENERATOR the payload handed over; local fault
in place of a client at fault, or of every client while the partner engine is in signal fail; RPF or the remote-defect
indication; and the FCC bytes of the multiframe. NEAR_DIG hands it to the own receive DSP, and in FAR_SYM it is not sent
(03_line_engine.md R116). -/
def State.interopFrame (s : State) (n : Nat) : State :=
  let x := s.txOf n
  let regen := s.modeNow == 3
  let l := s.ozTribs n
  let lf := regen && s.sigFail (partner n)
  let clients := if regen then [(((x.regenQ.head?).map (·.pay)).getD [], lf)]
    else l.map (fun t => ((s.tribOf t).q, (s.portOf (s.srcPort t)).txLf))
  let seqs := if regen then [] else l.map (fun t => (s.tribOf t).ozSeq)
  let (clients, s) := s.slipClients n clients
  let s := if regen then s.modTx n (fun x => { x with regenQ := x.regenQ.drop 1 })
    else l.foldl (fun u t => u.modTrib t (fun y => { y with q := [], ozSeq := [] })) s
  let bits := Config.interopFrame (s.prof n) x.fn clients seqs (s.sendsRdi n) x.gcc
  let s := match s.loopback n with
    | 0 => s.emitInterop n (interopCode (s.prof n) (s.fecOf n).encPrev bits)
    | 1 => (s.modTx n (fun x => { x with loopI := (x.loopI ++ [(x.fn == 0, bits)]).drop (x.loopI.length - 3) })).loopBits n
        (interopCode (s.prof n) (s.fecOf n).encPrev bits)
    | _ => s
  (s.modFec n (fun f => { f with encPrev := bits :: f.encPrev.take 1 })).modTx n (fun x => { x with fn := x.fn + 1 })

/-- TX_FRAME: one frame of an engine whose transmitter runs; frame 0 of a Vosko superframe follows its SFM. An engine in
the FEC test sends one position of its test stream instead (04_nurnauri_fec.md R146; log entry 166); on an interoperable profile,
whose blocks the test stream is not laid out for, it sends nothing (log entry 193). -/
def execTxFrame (n : Eng) (gmp : List GmpMeas) (s : State) : Host.Outcome State Fault Refusal :=
  let x := s.txOf n
  ok (if !s.hasEng n then s
    else if s.fecTest n && s.on .LE_TX_CTRL_tx_active n && s.lpn n then s.testPosition n
    else if !x.on then s
    else if !s.lpn n then s.interopFrame n
    else if x.fn == 0 && !x.sfm then s
    else
      let s := s.protRefresh n
      if s.modeNow == 3 then s.regenFrame n else s.ownFrame n gmp)

end Sys2Proof.Machine
end

