-- ==== Sys2Proof/Machine/RxOps.lean ====
section
/-! DEFINITION. The receive framer and cipher of a line engine: alignment and header at V3, cipher at V6, overhead at V7
(05_line_framing.md R158 to R183; 10_cipher.md R351 to R361; 13_calibration.md R457). -/
namespace Sys2Proof.Machine

/-! ### Fields of a received frame -/

/-- Byte `i` of a frame's overhead, numbered from the start of OL0 (R159). -/
def ohByte (p : RxPend) (i : Nat) : Nat := byteAt p.oh (i - 9)

/-- The MAP field of a frame: marker, generation and check (R159); absent below level 3 (R176). -/
def mapSeen (p : RxPend) : MkSeen :=
  let v := ohByte p 11 * 256 + ohByte p 12
  let ok := !p.ohMark && decide (3 ≤ p.lvl) && crcBits 3 3 0 (bitsHigh 13 (v / 8)) == v % 8
  { valid := ok, mark := ok && v.testBit 15, gen := v / 8 % 4096 }

/-- The header at V3: its CRC passes; frame number; level; rate (R157). -/
def hdrOk (h : List Byte) : Bool := h.length == 5 && crc16 (h.take 3) == fromBE (slice h 3 2)

/-! ### Map markers (R165 to R167; 01_architecture.md R26, R27) -/

/-- The receive stages meet a marker of a generation (R166, 01 R27). -/
def State.rxMarker (s : State) (n gen : Nat) : State :=
  let x := s.rxOf n
  match x.next with
  | some m =>
    if m.gen == gen then
      let s := s.modRx n (fun x => { x with map := m, next := none })
      let s := s.wrs [(.PLACE_ENG_RX_ready_valid, n, 0), (.PLACE_ENG_RX_rx_mismatch, n, 0)]
      let gs := ((x.map.tribs ++ m.tribs).filterMap (fun t => s.tribGrp t)).dedup
      gs.foldl (fun t g => t.alignShow g) ((s.rxMapShow n).countStale (s.staleIn m)) |>.fabRefresh
    else (s.mkMismatch n 256).wr .PLACE_ENG_RX_rx_mismatch n 1
  | none => (s.mkMismatch n 256).wr .PLACE_ENG_RX_rx_mismatch n 1

/-- The generation that at least two of frames 0-2 mark (R166). -/
def mkDecide (l : List MkSeen) : Option Nat :=
  let g := l.filter (fun m => m.valid && m.mark)
  (g.find? (fun m => decide (2 ≤ g.countP (fun k => k.gen == m.gen)))).map (·.gen)

/-- The reading of frames 0-2 is complete: the map switch, unless the engine regenerates and holds no map. -/
def State.rxMarkers (s : State) (n : Nat) : State :=
  if s.modeNow == 3 then s
  else match mkDecide (s.rxOf n).mks with
    | some g => (s.modRx n (fun x => { x with mkCounted := true })).rxMarker n g
    | none => s

/-- A marker that comes in a later frame of a superframe whose frames 0-2 decided no switch (R167). -/
def State.rxLateMark (s : State) (n : Nat) (m : MkSeen) : State :=
  if s.modeNow != 3 && m.valid && m.mark && !(s.rxOf n).mkCounted then
    ((s.modRx n (fun x => { x with mkCounted := true })).mkMismatch n 256).wr .PLACE_ENG_RX_rx_mismatch n 1
  else s

/-! ### Key phase and pilots (10_cipher.md R357; 13_calibration.md R457) -/

/-- KP of the superframe from frames 0-2. -/
def State.rxKp (s : State) (n : Nat) : State :=
  let k := (s.rxOf n).kps
  if 2 ≤ k.count 1 then s.wr .CIPH_ENG_CTRL_rx_kp n 1
  else if 2 ≤ k.count 0 then s.wr .CIPH_ENG_CTRL_rx_kp n 0
  else if s.ciphering n then s.count (cEng n 17) else s

/-- Pilot positions of a frame by profile: one symbol in 240 (13_calibration.md R454; 05 R151). -/
def pilotPositions (prof : Nat) : Nat :=
  match nomRate prof with
  | 24 => 72
  | 20 => 60
  | 16 => 48
  | _ => 36

/-- The pilots a frame shows: 0 none, 1 REQ, 2 ANS. -/
def pilotShown (prof : Nat) (f : RxFrameObs) : Nat :=
  if pilotPositions prof ≤ 2 * f.pilReq then 1 else if pilotPositions prof ≤ 2 * f.pilAns then 2 else 0

/-- Pilots of the superframe from frames 0-2; each start and stop restarts the margin window and spoils the FEC window
(03 R109; 04 R138). -/
def State.rxPilots (s : State) (n : Nat) : State :=
  let l := (s.rxOf n).pils
  let was := (s.rxOf n).pilots
  let agreed := [1, 2].find? (fun k => decide (2 ≤ l.count k))
  let (p, amb) := match agreed with
    | some k => (k, false)
    | none => if l.all (· == 0) then (0, false) else (was, true)
  let s := if amb then s.count (cEng n 20) else s
  let s := s.modRx n (fun x => { x with pilots := p, sinceReq := if p == 1 then 0 else x.sinceReq })
  let s := s.wrs [(.CAL_ENG_STATUS_pilot_rx, n, p), (.LE_STATUS_pilot_on, n, b2n (p != 0))]
  let s := if p != 0 && s.on .CAL_ENG_STATUS_requesting n then
      { s with cal := { s.cal with pilotSeen := SMap.set false s.cal.pilotSeen n true } }
    else s
  if (was == 0) != (p == 0) then (s.winRestart n).decSpoil n else s

/-- The pilots of a frame are read at V3, and with those of frame 2 the superframe's are decided, which the frames that wait for the decoder
take too (R457). -/
def State.rxPil (s : State) (n fn pil : Nat) : State :=
  let s := if fn == 0 then s.modRx n (fun x => { x with pils := [] }) else s
  if 3 ≤ fn then s
  else
    let s := s.modRx n (fun x => { x with pils := x.pils ++ [pil] })
    if fn == 2 then
      (s.rxPilots n).modRx n (fun x => { x with wait := x.wait.map (fun p => if p.fn < 3 then { p with pil := x.pilots } else p) })
    else s

/-! ### Reading the header at V3 (R158; 03_line_engine.md R81, R100) -/

/-- A superframe starts at V3. -/
def State.rxSfm (s : State) (n tod : Nat) : State := s.modRx n (fun x => { x with sfmTod := stamp25 tod })

/-- Take a rate of the superframe (03 R81, R109; 04 R138). -/
def State.rxRateTake (s : State) (n r : Nat) : State :=
  let changed := s.rxRate n != r
  let s := (s.modRx n (fun x => { x with rate := r, gotRate := true })).wr .LE_FRM_STATUS_rate_rx n r
  let s := s.modAcq n (fun a => { a with hdrRead := true })
  if changed then (s.winRestart n).decSpoil n else s

/-- The header of a frame: a phase slip, the level, and the rate at frame 0 or at the first header that passes. -/
def State.rxHeader (s : State) (n : Nat) (f : RxFrameObs) : State :=
  let s := match f.slip with
    | none => s
    | some k => (s.modAcq n (fun a => { a with xymRot := (a.xymRot + k) % 4 + a.xymRot / 4 * 4 })).count (cEng n 1)
  let ok := hdrOk f.hdr
  let b := byteAt f.hdr 1
  let s := if ok then s.modRx n (fun x => { x with lvl := b / 32 }) else s
  let s := if (s.rxOf n).fn == 0 then s.rxSfm n f.tod else s
  if ok && ((s.rxOf n).fn == 0 || !(s.rxOf n).gotRate) then s.rxRateTake n (b % 32)
  else if !ok && (s.rxOf n).fn == 0 then s.count (cEng n 2) else s

/-! ### Messages (10_cipher.md R353 to R360) -/

/-- Set or clear dAUTH of a locker on an engine (R360). -/
def State.setDauth (s : State) (n l : Nat) (v : Bool) : State :=
  let f := if l < 32 then Fld.CIPH_ENG_DAUTH_LO_dauth_lo else Fld.CIPH_ENG_DAUTH_HI_dauth_hi
  let w := s.rd f n
  let s := s.wr f n (if v then w ||| 2 ^ (l % 32) else if w.testBit (l % 32) then w - 2 ^ (l % 32) else w)
  (s.raiseReg (if v then .CIPH_EV_auth_set else .CIPH_EV_auth_clr) 0 { obj := l, arg := some n }).fabRefresh

/-- One more FAIL in a row (R360). -/
def State.authFail (s : State) (n l : Nat) : State :=
  let s := s.modRx n (fun x => { x with passRun := SMap.set 0 x.passRun l 0, failRun := SMap.mod 0 x.failRun l (· + 1) })
  if !s.dauth n l && decide (max 1 (s.rd .CIPH_ENG_CTRL_auth_set n) ≤ SMap.get 0 (s.rxOf n).failRun l) then
    (s.modRx n (fun x => { x with failRun := SMap.set 0 x.failRun l 0 })).setDauth n l true
  else s

/-- One more PASS in a row (R360). -/
def State.authPass (s : State) (n l : Nat) : State :=
  let s := s.modRx n (fun x => { x with failRun := SMap.set 0 x.failRun l 0, passRun := SMap.mod 0 x.passRun l (· + 1) })
  if s.dauth n l && decide (max 1 (s.rd .CIPH_ENG_CTRL_auth_clr n) ≤ SMap.get 0 (s.rxOf n).passRun l) then
    (s.modRx n (fun x => { x with passRun := SMap.set 0 x.passRun l 0 })).setDauth n l false
  else s

/-- NO_KEY breaks both runs (R360). -/
def State.authBreak (s : State) (n l : Nat) : State :=
  s.modRx n (fun x => { x with failRun := SMap.set 0 x.failRun l 0, passRun := SMap.set 0 x.passRun l 0 })

/-- SC, MB, END and ENG of locker `l`'s message in the superframe that starts: as SC_NEXT announced, or the previous
SC + 1 (R358). -/
def State.scOf (s : State) (n l : Nat) : Option ScNext :=
  let x := s.rxOf n
  match SMap.get none x.scUse l with
  | some a => some a
  | none => (SMap.get none x.scPrev l).map (fun a => { a with sc := (a.sc + 1) % 2 ^ 48 })

/-- The SC of every locker that is known in the superframe that starts, whether or not a tributary of it is placed (R358). -/
def State.scStart (s : State) (n : Nat) : State :=
  s.modRx n (fun x => { x with scPrev := (upTo 64).foldl (fun m l => SMap.set none m l (s.scOf n l)) [] })

/-- Form the message of one locker (R354, R356 to R359). A message with no key, and one whose END clashes, is counted here;
its outcome can be no other, and it breaks the runs of R360 in its turn. -/
def State.rxMessage (s : State) (n : Nat) (p : RxPend) (l : Nat) : State :=
  let phase := s.rd .CIPH_ENG_CTRL_rx_kp n
  let slot := s.slotFor l phase
  let sc := SMap.get none (s.rxOf n).scPrev l
  let a := sc.getD {}
  let clash := sc.isSome && a.fin == (s.txOf n).endSel
  let gen := (((s.rxOf n).mks.find? (fun m => m.valid)).map (·.gen)).getD (s.rxOf n).map.gen
  let kind := if clash then 2 else if slot.key.isNone then 1 else if sc.isNone then 3 else 0
  let m : CipherTx := { locker := l, key := slot.key, kgen := slot.kgen, sc := a.sc, kind := kind, phase := phase,
                        who := 4 * a.eng + 2 * b2n a.mb + b2n a.fin,
                        iv := cipherIv (b2n a.mb) (b2n a.fin) a.eng l slot.kgen a.sc,
                        aad := cipherAad (b2n a.mb) (b2n a.fin) a.eng l slot.kgen a.sc p.rate gen phase }
  let s := s.modRx n (fun x => { x with msgs := x.msgs ++ [m] })
  let s := if slot.key.isNone then s.count (cEng n 11) else s
  if clash then s.raiseCount (.reg .CIPH_EV_end_clash 0) { obj := l, arg := some n } (cEng n 16) else s

/-- A superframe starts at V6: the messages of the last one wait for their tags, one that waited longer ends in SKIP, and
the messages of this one are formed (R347, R359). -/
def State.rxMessages (s : State) (n : Nat) (p : RxPend) : State :=
  let x := s.rxOf n
  let late := (x.prev.filter (fun m => m.kind == 0 || m.kind == 3)).length
  let s := if late == 0 then s else s.count (cEng n 12) late
  let s := x.prev.foldl (fun t m => if m.kind == 1 || m.kind == 2 then t.authBreak n m.locker else t) s
  let s := (s.modRx n (fun x => { x with prev := x.msgs, msgs := [], scUse := x.scNext, scNext := [] })).scStart n
  (s.mapLockers (s.rxOf n).map).foldl (fun t l => t.rxMessage n p l) s

/-- The outcome of a message judged on its own tag: STALE, FAIL or PASS (R359). -/
def State.rxVerify (s : State) (n : Nat) (m : CipherTx) (kgen : Nat) (tag : List Byte) : State :=
  if kgen != m.kgen then s.count (cEng n 13)
  else
    let slot := s.slotFor m.locker m.phase
    let good := beBytes 16 (gcmTag (m.key.getD 0) m.iv m.aad m.ct) == tag
    let replay := decide (m.sc + 1 ≤ SMap.get 0 slot.last m.who)
    if good && !replay then
      let up := fun (k : KeySlot) => { k with last := SMap.set 0 k.last m.who (m.sc + 1) }
      let cur := m.phase == s.rd .CIPH_LOCK_STATUS_cur_phase m.locker
      (s.modLock m.locker (fun k => if cur then { k with cur := up k.cur } else { k with nxt := up k.nxt })).authPass n m.locker
    else
      let s := s.count (cEng n 14)
      let s := if replay then s.count (cEng n 15) else s
      s.authFail n m.locker

/-- Judge the message of the previous superframe whose tag is due in this frame (R359, R360). -/
def State.rxJudge (s : State) (n : Nat) (p : RxPend) : State :=
  match (s.rxOf n).prev.find? (fun m => m.locker == p.fn) with
  | none => s
  | some m =>
    let s := s.modRx n (fun x => { x with prev := x.prev.filter (fun k => k.locker != p.fn) })
    if m.kind == 1 || m.kind == 2 then s.authBreak n m.locker
    else if m.kind == 3 || m.bad || p.ohMark || p.payMark || s.sigFail n || !(ohByte p 30).testBit 7 then s.count (cEng n 12)
    else s.rxVerify n m (ohByte p 31) (slice p.oh 29 16)

/-- The SC_NEXT of a frame's cipher field, where it is valid: neither marked uncorrectable nor in an invalid payload (R350,
R358; 05_line_framing.md R183). -/
def State.rxScNext (s : State) (n : Nat) (p : RxPend) : State :=
  let fl := ohByte p 30
  if p.fn < 64 && !p.ohMark && !s.sigFail n && fl.testBit 6 then
    let a : ScNext := { sc := fromBE (slice p.oh 23 6), mb := fl.testBit 5, fin := fl.testBit 4, eng := fl / 4 % 4 }
    s.modRx n (fun x => { x with scNext := SMap.set none x.scNext p.fn (some a) })
  else s

/-- The messages that a payload area is decrypted with: one that is not decrypted gives 0x00 (R356 to R359). -/
def rxKeyed (l : List CipherTx) : List CipherTx := l.map (fun m => if m.kind == 0 then m else { m with key := none })

/-- V6: the cipher takes a frame; the payload area after it (R347, R351, R359). In a superframe that was entered after its first frame no SC
is known, so its messages are formed at the first frame that comes (R358). -/
def State.rxDecrypt (s : State) (n : Nat) (p : RxPend) : List Byte × State :=
  if !s.ciphering n then (p.pay, s)
  else
    let s := if p.fn == 0 || (s.rxOf n).midway then (s.rxMessages n p).modRx n (fun x => { x with midway := false }) else s
    let s := if p.fn < 64 then s.rxJudge n p else s
    let s := s.rxScNext n p
    let x := s.rxOf n
    let bad := p.payMark || p.ohMark || s.sigFail n
    let msgs := rxKeyed x.msgs
    let own := s.slotLocker x.map
    let cnt := activeSlots p.rate
    let plain := (cipherPayload msgs own cnt p.pay).1
    let got := p.pay.zipIdx.foldl (fun (acc : SMap (List Byte)) (b, i) =>
      match own (i % cnt) with
      | some (some l) => SMap.set [] acc l (SMap.get [] acc l ++ [b])
      | _ => acc) []
    (plain, s.modRx n (fun x => { x with msgs := x.msgs.map (fun m =>
                                         { m with ct := m.ct ++ SMap.get [] got m.locker, bad := m.bad || bad }) }))

/-! ### Overhead at V7 (R159 to R162, R168 to R173, R179 to R183) -/

/-- A run of frames toward a change of a defect: the run after one more frame, and whether the defect changes (R179). -/
def runStep (run need : Nat) (bit now : Bool) : Nat × Bool :=
  if bit == now then (0, false) else if need ≤ run + 1 then (0, true) else (run + 1, false)

/-- dAIS, dRDI and dBDEG from STAT (R179, R180). -/
def State.rxStat (s : State) (n : Nat) (stat : Nat) : State :=
  let lost := fun (s : State) => s.on .LE_FRM_STATUS_dlos n || s.on .LE_FRM_STATUS_dlof n
  if lost s then s
  else
    let (r, c) := runStep (s.rxOf n).aisRun 3 (stat.testBit 6) (s.on .LE_FRM_STATUS_dais n)
    let s := s.modRx n (fun x => { x with aisRun := r })
    let s := if c then s.setDefect n .ais (stat.testBit 6) else s
    if s.on .LE_FRM_STATUS_dais n then s.clearBack n
    else
      let (r, c) := runStep (s.rxOf n).rdiRun 5 (stat.testBit 7) (s.on .LE_FRM_STATUS_drdi n)
      let s := s.modRx n (fun x => { x with rdiRun := r })
      let s := if c then s.setDefect n .rdi (stat.testBit 7) else s
      let (r, c) := runStep (s.rxOf n).bdegRun 5 (stat.testBit 5) (s.on .LE_FRM_STATUS_dbdeg n)
      let s := s.modRx n (fun x => { x with bdegRun := r })
      if c then s.setDefect n .bdeg (stat.testBit 5) else s

/-- BEI: 0 to 8; a value above 8 is none that a transmitter sends, and what it counts as is a free value (log entry 38). -/
def State.rxBei (s : State) (n stat : Nat) : State :=
  let (b, s) := if stat % 16 ≤ 8 then (stat % 16, s) else ((Config.freeWord s.free).toNat % 9, s.tick)
  s.modPm n (fun x => { x with bei := x.bei + b, feb := x.feb + b2n (b != 0) })

/-- Number of bit positions in which two BIP8 differ. -/
def bipErrs (a b : Nat) : Nat := (bitsHigh 8 (a ^^^ b)).count true

/-- The BIP8 check: the violations are counted and owed to the far end (R181, R182, R185). -/
def State.rxBip (s : State) (n : Nat) (sent : Nat) : State :=
  let x := s.rxOf n
  if !x.bipOk then s
  else
    let e := bipErrs x.bip sent
    (s.modPm n (fun q => { q with bip := q.bip + e, eb := q.eb + b2n (e != 0) })).modTx n (fun t => { t with beiSum := t.beiSum + e })

/-- An accepted protection message (R169, R170), and the ack it brings (R171). -/
def State.rxProtAccept (s : State) (n : Nat) (b : List Byte) : State :=
  let m : ProtMsg := { code := byteAt b 0, seq := byteAt b 1, arg := fromBE (slice b 3 4) }
  let s := if byteAt b 2 == (s.txOf n).prot.seq then s.modTx n (fun x => { x with protAcked := true }) else s
  match (s.rxOf n).protLast with
  | some q =>
    if q.seq == m.seq then
      if q == m then s else s.raiseCount (.reg .LE_FRM_EV_prot_conflict n) { obj := n } (cEng n 9)
    else (s.modRx n (fun x => { x with protLast := some m, protQ := x.protQ ++ [m] })).modTx n (fun x => { x with ackOut := m.seq })
  | none => (s.modRx n (fun x => { x with protLast := some m, protQ := x.protQ ++ [m] })).modTx n (fun x => { x with ackOut := m.seq })

/-- The PROT of a frame (R169). -/
def State.rxProt (s : State) (n : Nat) (b : List Byte) : State :=
  let ok := crc8 (bitsOfBytes (b.take 7)) == byteAt b 7
  let x := s.rxOf n
  let run := if !ok then 0 else if x.protRun != 0 && x.protCand == b then min 4 (x.protRun + 1) else 1
  let s := s.modRx n (fun x => { x with protCand := b, protRun := run })
  if run == 3 then s.rxProtAccept n b else s

/-- A trail trace identifier is complete (R161). -/
def State.rxTti (s : State) (n : Nat) : State :=
  s.modRx n (fun x =>
    if x.tti.length != 64 then x
    else
      let run := if x.ttiRun != 0 && x.ttiCand == x.tti then min 3 (x.ttiRun + 1) else 1
      { x with ttiCand := x.tti, ttiRun := run, ttiAcc := if run == 3 then x.tti else x.ttiAcc })

/-- FMT_MAX of a superframe (R161, R174); a transmitter that does not run takes the value held when it starts. -/
def State.rxFmt (s : State) (n v : Nat) : State :=
  let v := max 1 (v % 8)
  let x := s.rxOf n
  let run := if x.fmtRun != 0 && x.fmtCand == v then min 3 (x.fmtRun + 1) else 1
  let s := s.modRx n (fun x => { x with fmtCand := v, fmtRun := run })
  if run == 3 && x.fmtFar != v then
    ((s.modRx n (fun x => { x with fmtFar := v })).wr .LE_FRM_STATUS_fmt_far n v).modTx n
      (fun x => { x with fmtPend := if x.on then some v else x.fmtPend })
  else s

/-- The MFC byte of a frame (R160, R161). -/
def State.rxMfc (s : State) (n : Nat) (p : RxPend) : State :=
  let b := BitVec.ofNat 8 (ohByte p 13)
  if p.fn < 64 then
    let s := s.modRx n (fun x => { x with tti := if x.tti.length == p.fn then x.tti ++ [b] else [] })
    if p.fn == 63 then s.rxTti n else s
  else if p.fn == 64 then s.rxFmt n (ohByte p 13)
  else if p.fn == 65 then s.modRx n (fun x => { x with gccValid := (ohByte p 13).testBit 0 })
  else s

/-- GCC0 and MFC bytes gathered into the blocks of a superframe (R173): those of the OHB rings, the placement-channel block that all of
GCC0 makes (07_placement.md R244), and the time-transfer block of frames 68 to 99 (R160; 09_timing.md R337), which the Storekeeper and
timing take (01_architecture.md R12). -/
def State.rxBlocks (s : State) (n : Nat) (p : RxPend) : State :=
  s.modRx n (fun x =>
    let first := p.fn == 0
    let gcc := (if first then [] else x.gcc) ++ slice (padTo 45 p.oh) 13 8
    let mfc := (if first then [] else x.mfc) ++ [BitVec.ofNat 8 (ohByte p 13)]
    let bad := (!first && x.gccBad) || p.ohMark || gcc.length != 8 * (p.fn + 1)
    let valid := if first then false else x.gccValid
    let ttBad := (x.ttBad && p.fn != 68) || p.ohMark
    let x := { x with ttBad := ttBad, ttDone := if p.fn == 99 && mfc.length == 100 then
                                        some { data := slice mfc 68 32, bad := ttBad, tod := p.tod } else x.ttDone }
    if p.fn == 255 then
      { x with gcc := [], mfc := [], gccBad := true, gccDone := some { data := gcc, bad := bad || !valid, tod := p.tod },
               placeDone := if gcc.length == 2048 then some { data := gcc, bad := bad, tod := p.tod } else x.placeDone,
               mfcDone := if mfc.length == 256 then some { data := mfc, bad := bad, tod := p.tod } else x.mfcDone }
    else { x with gcc := gcc, mfc := mfc, gccBad := bad, gccValid := valid })

/-- A frame is handed over to the partner engine (06_tributary_mapping.md R229); MAP and KP of a frame below level 3 are absent,
and are copied as the 0 that a field above the level sent carries (R159, R176). -/
def State.rxHandOver (s : State) (n : Nat) (p : RxPend) (plain : List Byte) : State :=
  let m := partner n
  let transit := s.rd .CIPH_ENG_CTRL_use_active n == 2
  let top := decide (3 ≤ p.lvl)
  let f : RegenFrame := { fn := p.fn, rate := p.rate, map := if top then slice (padTo 45 p.oh) 2 2 else [0, 0],
                          kp := if top then ohByte p 10 / 16 % 2 else 0,
                          pay := if transit then p.pay else plain, cf := if transit then slice (padTo 45 p.oh) 21 24 else [],
                          gcc := slice (padTo 45 p.oh) 13 8, gccValid := (s.rxOf n).gccValid }
  if s.modeNow != 3 || !(s.txOf m).on then s
  else s.modTx m (fun x =>
    if x.regenQ.isEmpty && x.fn != f.fn then { x with regenQ := [f], fn := f.fn, sfm := x.sfm && f.fn != 0 }
    else { x with regenQ := x.regenQ ++ [f] })

/-! ### Slot demapping at V8 and switching at V9 (06_tributary_mapping.md R202, R219, R220, R222; 01_architecture.md R14) -/

/-- The bytes of some slots in a payload area of `cnt` slots, in payload order (05_line_framing.md R153). -/
def slotBytes (cnt : Nat) (own : List Nat) (l : List (Byte × Bool)) : List (Byte × Bool) :=
  (l.zipIdx.filter (fun x => own.contains (x.2 % cnt))).map (·.1)

/-- Container bytes reach the demapper of a tributary, which has none in signal fail, and while the peer's copy is in use takes none of its own
(06_tributary_mapping.md R230; 08_pair_protection.md R292). -/
def State.rxContainer (s : State) (t : Nat) (l : List (Byte × Bool)) : State :=
  if s.on .FAB_TRIB_STATUS_sf t || s.lineCopy t then s
  else
    let gmp := s.isGmp t
    s.modTrib t (fun x => { x with rxQ := x.rxQ ++ l, rxLen := if gmp then x.rxLen ++ [l.length] else x.rxLen })

/-- The number of the GF that a member's frame carries: that of its tag in frame 0, else the one after the last. -/
def shareNum (fn : Nat) (last : Option Nat) (l : List (Byte × Bool)) : Option Nat :=
  let next := last.map (fun k => (k + 1) % 2 ^ 24)
  let tag := fromBE ((l.take 4).map (·.1))
  if fn == 0 && !(l.take 4).any (·.2) && crc8 (bitsHigh 24 (tag / 256)) == tag % 256 then some (tag / 256) else next

/-- A share arrives on member `n` of a group: it waits in the bins of the group, which hold no more than their bytes, and the GF is
joined once every member has brought its share, in ascending engine order (R219, R226). -/
def State.rxShareIn (s : State) (g t n fn : Nat) (l : List (Byte × Bool)) : State :=
  let num := shareNum fn (SMap.get none (s.grpOf g).rxGf n) l
  let body := if fn == 0 then l.drop 4 else l
  let s := s.modGrp g (fun x => { x with rxGf := SMap.set none x.rxGf n num })
  match num with
  | none => s
  | some k =>
    let mem := s.grpMembers true g
    let room := s.rd .FAB_GRP_STATUS_bins_held g * 65536
    let q := (s.grpOf g).rxShare.filter (fun kv => mem.contains kv.1)
    let held := (q.map (fun kv => (kv.2.map (fun x => x.2.length)).sum)).sum
    let own := SMap.get [] q n
    let q := SMap.set [] q n ((if room < held + body.length then own.drop 1 else own) ++ [(k, body)])
    let parts := mem.filterMap (fun e => (SMap.get [] q e).find? (fun x => x.1 == k))
    if parts.length == mem.length then
      (s.modGrp g (fun x => { x with rxShare := mem.foldl (fun q e => SMap.mod [] q e (fun l => l.filter (fun x => x.1 != k))) q })).rxContainer t
        (parts.flatMap (·.2))
    else s.modGrp g (fun x => { x with rxShare := q })

/-- V8: the plain payload area of a frame goes slot by slot to the containers of its tributaries; that of an engine in signal fail is
invalid, and in REGENERATOR it goes to the partner alone (R15, R201, R202). Each byte takes with it the mark of the decoder and that of its
own message (10_cipher.md R348, R358, R359). -/
def State.rxSlots (s : State) (n : Nat) (p : RxPend) (plain : List Byte) : State :=
  if s.modeNow == 3 || s.sigFail n then s
  else
    let m := (s.rxOf n).map
    let cnt := activeSlots m.rate
    let l := plain.zipIdx.map (fun (b, i) => (b, p.payMark && p.marks.getD i true))
    m.tribs.foldl (fun u t =>
      let own := u.slotsIn m t
      if own.isEmpty then u
      else
        let key := u.keyMark n t
        let b := (slotBytes cnt own (l.take (36 * cnt))).map (fun x => (x.1, x.2 || key))
        match u.tribGrp t with
        | some g => u.rxShareIn g t n p.fn b
        | none => u.rxContainer t b) s

/-- A superframe ends at V7: the age of the time-transfer channel and of REQ (09_timing.md R340; 13_calibration.md R456). -/
def State.rxSuperEnd (s : State) (n : Nat) : State :=
  (s.modRx n (fun x => { x with sinceReq := min 8 (x.sinceReq + 1) })).ttAgeStep n

/-- V7: the overhead and the payload of a frame. In TRANSIT the payload is still scrambled and encrypted, and no BIP8 is
checked (log entry 39). A frame below level 2 carries no PROT and breaks its run (R169, R176). -/
def State.rxOverhead (s : State) (n : Nat) (p : RxPend) (v6 : List Byte) : State :=
  let transit := s.rd .CIPH_ENG_CTRL_use_active n == 2
  let plain := if transit then v6 else scramble v6
  let s := s.rxBlocks n p
  let s := if p.fn == 0 then s.modRx n (fun x => { x with tti := [] }) else s
  let s := if p.ohMark then s
    else
      let s := if transit then s else s.rxBip n (ohByte p 9)
      let s := (s.rxStat n (ohByte p 10)).rxBei n (ohByte p 10)
      let s := s.rxMfc n p
      if 2 ≤ p.lvl then s.rxProt n (slice (padTo 45 p.oh) 5 8) else s.modRx n (fun x => { x with protRun := 0 })
  let s := s.modRx n (fun x => { x with bip := bip8 plain, bipOk := !transit })
  let s := (s.rxHandOver n p plain).rxSlots n p plain
  if p.fn == 255 then s.rxSuperEnd n else s

/-- A frame leaves the look-ahead and passes V6 and V7. -/
def State.rxProcess (s : State) (n : Nat) (p : RxPend) : State :=
  let (v6, s) := s.rxDecrypt n p
  s.rxOverhead n p v6

/-- A decoded frame enters the look-ahead, where what frames 0-2 will decide starts afresh with frame 0; the oldest of four leaves it;
then what frames 0-2 decide takes effect (R166). -/
def State.rxTake (s : State) (n : Nat) (p : RxPend) : State :=
  let s := if p.fn == 0 then s.modRx n (fun x => { x with mks := [], kps := [], mkCounted := false }) else s
  let q := (s.rxOf n).look ++ [p]
  let s := s.modRx n (fun x => { x with look := if 3 < q.length then q.drop 1 else q })
  let s := match q with
    | o :: _ => if 3 < q.length then s.rxProcess n o else s
    | [] => s
  if p.fn < 3 then
    let s := s.modRx n (fun x => { x with mks := x.mks ++ [(mapSeen p)],
                                          kps := if p.ohMark || decide (p.lvl < 3) then x.kps else x.kps ++ [ohByte p 10 / 16 % 2] })
    if p.fn == 2 then (s.rxKp n).rxMarkers n else s
  else s.rxLateMark n (mapSeen p)

/-- A frame aligned at V3. One whose content RX_FRAME brings passes on with it and with the marks of the decoder; one that it does not bring
waits for the positions that the decoder makes of it: those in the window, when none waits yet, belong to earlier ones. What a slip before
the decoder marked is marked in both (01_architecture.md R14, R20; 04_nurnauri_fec.md R134; log entry 81). -/
def State.rxLook (s : State) (n : Nat) (f : RxFrameObs) : State :=
  let shown := pilotShown (s.prof n) f
  let s := s.rxPil n (s.rxOf n).fn shown
  let x := s.rxOf n
  let wait := f.oh.isEmpty && f.pay.isEmpty
  let mark := (s.fecOf n).slipped || (!wait && (s.fecOf n).marked)
  let p : RxPend := { fn := x.fn, lvl := x.lvl, rate := x.rate, oh := f.oh, ohMark := f.ohMark || mark, pay := f.pay,
                      payMark := f.payMark || mark, tod := x.sfmTod, pil := if x.fn < 2 then shown else x.pilots }
  let s := s.modFec n (fun k => { k with marked := false, slipped := false })
  if wait then
    let s := if x.wait.isEmpty then s.modFec n (fun k => { k with skip := k.win.length, outQ := [] }) else s
    s.modRx n (fun x => { x with wait := x.wait ++ [p] })
  else s.rxTake n p

/-! ### Dematching at V5 (03_line_engine.md R77; 04_nurnauri_fec.md R134) -/

/-- Data bit `i` of a frame lies on the amplitude of a pilot symbol (13_calibration.md R454). -/
def pilotPlace (prof rate i : Nat) : Bool :=
  let b := 2 * mBits prof - 4
  let k := fecSymbols prof rate
  decide (i % 30240 < b * k) && (i / 30240 * k + i % 30240 / b) % 240 == 239

/-- The blocks of the dematcher, one after the other: an output block that takes any marked bit is marked (R134). -/
def dematchRun (prof rate : Nat) : List (Nat × Nat) → List (Bool × Bool) → List (Bool × Bool)
  | [], _ => []
  | (d, k) :: bs, l =>
    let w := l.take d
    (padBits k (Config.dematch prof rate (w.map (·.1)))).map (fun b => (b, w.any (·.2))) ++ dematchRun prof rate bs (l.drop d)

/-- Marked bits as marked bytes, the first bit highest. -/
def markedBytes : Nat → List (Bool × Bool) → List (Byte × Bool)
  | 0, _ => []
  | k + 1, l => (BitVec.ofNat 8 (ofBits (padBits 8 ((l.take 8).map (·.1)))), (l.take 8).any (·.2)) :: markedBytes k (l.drop 8)

/-- A frame from the data bits that the decoder gives for it: its header passes unshaped, then the dematcher's blocks follow on the
symbols that are no pilots. -/
def framePend (prof code : Nat) (p : RxPend) (data : List (Bool × Bool)) : RxPend :=
  let body := if p.pil == 0 then data
    else (data.zipIdx.filter (fun x => !pilotPlace prof code x.2)).map (·.1)
  let lanes := 9 * p.rate - 9
  let b := markedBytes (lanes + 36 * activeSlots p.rate) (dematchRun prof p.rate (Config.shapeBlocks prof p.rate (p.pil != 0)) (body.drop 72))
  let oh := b.take 45
  let pay := b.drop lanes
  { p with oh := oh.map (·.1), ohMark := p.ohMark || oh.any (·.2), pay := pay.map (·.1), payMark := p.payMark || pay.any (·.2),
           marks := pay.map (fun x => p.payMark || x.2) }

/-- The positions of the oldest frame that waits have been decoded: it passes the dematcher and goes on (01_architecture.md R14). -/
def State.frameReady (s : State) (n : Nat) : State :=
  match (s.rxOf n).wait with
  | [] => s
  | p :: rest =>
    let k := posPerFrame (s.prof n)
    let q := (s.fecOf n).outQ
    if q.length < k then s
    else
      let data := (q.take k).flatMap (fun (d, m) => d.zipIdx.map (fun (b, i) => (b, m.getD (i / 3780) false)))
      ((s.modFec n (fun f => { f with outQ := q.drop k })).modRx n (fun x => { x with wait := rest })).rxTake n
        (framePend (s.prof n) (s.fecRate n) p data)

end Sys2Proof.Machine
end

