-- ==== Sys2Proof/Machine/RxFrame.lean ====
section
/-! DEFINITION. Meanings of RX_FAW_FOUND and RX_FRAME (05_line_framing.md R163 to R183). -/
namespace Sys2Proof.Machine

/-- RX_FAW_FOUND: the search finds the frame alignment word at a rotation and X/Y order, in a frame of number `fn`
(R163, 03_line_engine.md R100). -/
def execRxFawFound (n : Eng) (errs rot fn : Nat) (s : State) : Host.Outcome State Fault Refusal :=
  ok (if !s.hasEng n || !s.lpn n || !s.on .LE_STATUS_dsp_lock n || (s.rxOf n).st != .oof || decide (2 < errs) then s
    else (s.modRx n (fun x => { x with st := .cand, fn := fn % 256 })).modAcq n (fun a => { a with xymRot := rot % 8 }))

/-- The receive framer enters IF: in_frame, and every record of a superframe starts afresh; the partner of a regenerating
engine is anchored (R163; 06_tributary_mapping.md R229; 10_cipher.md R358). -/
def State.rxEnter (s : State) (n : Nat) : State :=
  let s := s.modRx n (fun x => { x with st := .inFrame, bad := 0, lossRun := false, bipOk := false, look := [], mks := [],
                                        kps := [], pils := [], mkCounted := false, msgs := [], prev := [], scNext := [], scUse := [], scPrev := [], tti := [],
                                        gcc := [], mfc := [], gccBad := true, gccValid := false, gotRate := false, midway := true })
  let s := (s.wr .LE_FRM_STATUS_in_frame n 1).modTx n (fun x => { x with suspect := false })
  if s.modeNow == 3 && (s.txOf (partner n)).on then s.anchor (partner n) else s

/-- A frame of the Vosko format at the expected spacing (R163). -/
def State.rxVosko (s : State) (n : Nat) (f : RxFrameObs) : State :=
  let x := s.rxOf n
  let next := (x.fn + 1) % 256
  let good := decide (f.faw ≤ 2) && hdrOk f.hdr && byteAt f.hdr 0 == next
  match x.st with
  | .oof => s
  | .cand =>
    if good then (((s.modRx n (fun x => { x with fn := next })).rxEnter n).rxHeader n f).rxLook n f
    else s.modRx n (fun x => { x with st := .oof })
  | .inFrame =>
    let bad := if good then 0 else x.bad + 1
    if bad == 5 then s.rxLost n
    else ((s.modRx n (fun x => { x with fn := next, bad := bad })).rxHeader n f).rxLook n f

/-- dRDI on an interoperable frame (R178, R179, R180). -/
def State.rxRdi (s : State) (n : Nat) (rdi : Bool) : State :=
  if s.on .LE_FRM_STATUS_dlos n || s.on .LE_FRM_STATUS_dlof n then s
  else
    let (r, c) := runStep (s.rxOf n).rdiRun 5 rdi (s.on .LE_FRM_STATUS_drdi n)
    let s := s.modRx n (fun x => { x with rdiRun := r })
    if c then s.setDefect n .rdi rdi else s

/-- The FCC bytes of an interoperable frame, gathered into the block of a multiframe (R173, R177; 11_host_rings.md R396). -/
def State.rxFcc (s : State) (n : Nat) (f : RxFrameObs) : State :=
  let size := (Config.fccBytes (s.prof n)).toNat
  s.modRx n (fun x =>
    let x := if f.mf0 then
        { x with gccDone := if x.st == .inFrame && !x.gcc.isEmpty then
                     some { data := x.gcc, bad := x.gccBad || x.gcc.length != size, tod := x.sfmTod } else x.gccDone,
                 gcc := [], gccBad := false, sfmTod := stamp25 f.tod }
      else x
    { x with gcc := x.gcc ++ f.fcc, gccBad := x.gccBad || f.ohMark || !f.crcOk })

/-- The GID, PID and MAP fields of FlexO against the configured instances (R177). -/
def State.rxIds (s : State) (n : Nat) (ids : List Nat) : State :=
  if !isOz (s.prof n) then s
  else s.modRx n (fun x => { x with idOk := ids == Config.flexoIds (s.prof n) ((s.ozTribs n).map (fun t => (s.tribOf t).ozInst)) })

/-- The payload of an interoperable frame: to the partner engine in REGENERATOR (01_architecture.md R15), else to the clients of
the instances, unless the engine or the tributary is in signal fail (06_tributary_mapping.md R217, R230). -/
def State.rxInteropPay (s : State) (n : Nat) (f : RxFrameObs) : State :=
  if s.modeNow == 3 then
    let m := partner n
    if (s.txOf m).on then s.modTx m (fun x => { x with regenQ := x.regenQ ++ [{ pay := f.pay }] }) else s
  else
    let data := Config.interopClients (s.prof n) f.pay
    (s.ozTribs n).foldl (fun u t =>
      if u.on .FAB_TRIB_STATUS_sf t then u
      else
        let (slip, u) := u.tribSlip t
        let (err, u) := u.sendErr t
        let slip := slip || err
        u.toClient t (.client t ((data[(u.tribOf t).ozInst]?).getD []) (f.payMark || slip) 12)) s

/-- A frame of an interoperable format: the alignment of its own specification sets and clears in_frame; overhead whose CRC
fails is skipped (R177, R178). The marks that its FEC blocks left act on its overhead and its payload (04_nurnauri_fec.md R145). -/
def State.rxOther (s : State) (n : Nat) (f : RxFrameObs) : State :=
  let mark := (s.fecOf n).marked || (s.fecOf n).slipped
  let f := { f with ohMark := f.ohMark || mark, payMark := f.payMark || mark }
  let s := s.modFec n (fun k => { k with marked := false, slipped := false })
  let was := s.on .LE_FRM_STATUS_in_frame n
  if !f.aligned then if was then s.rxLost n else s
  else
    let s := if was then s else s.rxEnter n
    let s := if f.ohMark || !f.crcOk then s else (s.rxRdi n f.rdi).rxIds n f.ids
    (s.rxFcc n f).rxInteropPay n f

/-- The frame that the receive DSP is handed in NEAR_DIG: the oldest that the own transmitter sent, with no bit in error
and its own pilots (03_line_engine.md R116). -/
def loopFrame (b : List Byte) (pil pos tod : Nat) : RxFrameObs :=
  { pilReq := if pil == 1 then pos else 0, pilAns := if pil == 2 then pos else 0, hdr := slice b 4 5, oh := slice b 9 45, pay := b.drop (9 * (byteAt b 5 % 32)), tod := tod }

/-- One received frame by the format of the profile. -/
def State.rxAny (s : State) (n : Nat) (f : RxFrameObs) : State := if s.lpn n then s.rxVosko n f else s.rxOther n f

/-- The same on an interoperable profile. -/
def loopOther (prof : Nat) (b : Bool × List Bool) (tod : Nat) : RxFrameObs :=
  let (pay, fcc, ids, rdi) := Config.interopRead prof b.2
  { aligned := true, mf0 := b.1, pay := pay, fcc := fcc, ids := ids, rdi := rdi, tod := tod }

/-- RX_FRAME: one received frame of an engine in service whose DSP is locked; in NEAR_DIG it is one that the engine sent itself
(03_line_engine.md R116). -/
def execRxFrame (n : Eng) (f : RxFrameObs) (s : State) : Host.Outcome State Fault Refusal :=
  ok (if !s.hasEng n || !s.inService n || !s.on .LE_STATUS_dsp_lock n then s
    else if s.loopback n == 1 && s.lpn n then
      match (s.txOf n).loopQ with
      | [] => s
      | b :: rest => (s.modTx n (fun x => { x with loopQ := rest })).rxAny n (loopFrame b (s.rd .CAL_ENG_STATUS_pilot_tx n) (pilotPositions (s.prof n)) f.tod)
    else if s.loopback n == 1 then
      match (s.txOf n).loopI with
      | [] => s
      | b :: rest => (s.modTx n (fun x => { x with loopI := rest })).rxAny n (loopOther (s.prof n) b f.tod)
    else s.rxAny n f)

/-- POSITION_DECODE: the oldest position of the engine's decoder window leaves and one enters, or one FEC block of an interoperable
profile arrives (04_nurnauri_fec.md R125 to R132, R145); with the last position of a frame that waits for its content, the frame goes on to
V5 (01_architecture.md R14). -/
def execPositionDecode (n : Eng) (p : PosObs) (s : State) : Host.Outcome State Fault Refusal :=
  ok (if !s.hasEng n || !s.inService n then s
    else if s.lpn n then (s.positionTime n p).frameReady n
    else s.blockTime n p)

end Sys2Proof.Machine
end

