-- ==== Sys2Proof/Machine/Defect.lean ====
section
/-! DEFINITION. Meanings of the timed defects and of the management channel's blocks (05_line_framing.md R173, R179, R180,
R572; 11_host_rings.md R397). -/
namespace Sys2Proof.Machine

/-- DLOF_DECLARE: in_frame has been 0 for 3 ms without a break; the run is timed whether or not dLOS is declared
(R179, R180). -/
def execDlofDeclare (n : Eng) (s : State) : Host.Outcome State Fault Refusal :=
  ok (if !s.hasEng n || !s.inService n || s.on .LE_FRM_STATUS_in_frame n then s
    else
      let s := s.modRx n (fun x => { x with lossRun := true })
      if s.on .LE_FRM_STATUS_dlos n || s.on .LE_FRM_STATUS_dlof n then s else s.declareLof n)

/-- DLOF_CLEAR: in_frame has been 1 for 3 ms without a break (R179). -/
def execDlofClear (n : Eng) (s : State) : Host.Outcome State Fault Refusal :=
  ok (if s.hasEng n && s.inService n && s.on .LE_FRM_STATUS_in_frame n then s.setDefect n .lof false else s)

/-- POST_RESET_LOS_CHECK: sig_present still at 0 one millisecond after an ENGINE reset counts as a fall (R572). -/
def execPostResetLosCheck (n : Eng) (s : State) : Host.Outcome State Fault Refusal :=
  ok (if !s.hasEng n || !(s.acqOf n).postReset then s
    else
      let s := s.modAcq n (fun a => { a with postReset := false })
      if s.inService n && !s.on .LE_STATUS_sig_present n then s.declareLos n else s)

/-- A GCC0 block is discarded and counted (R173, R192). -/
def State.gccDrop (s : State) (n : Nat) : State := s.raiseCount (.reg .LE_FRM_EV_gcc_drop n) { obj := n } (cEng n 10)

/-- The buffer posted on an engine's receive OHB SQ. -/
def State.ohbBuf (s : State) (n : Nat) : Option Desc :=
  let r := s.rd .HOST_OHB_BIND_rx_ring n
  if r != 0xFFFF && s.liveSq r 2 then s.postedBuf r else none

/-- Deliver a block to the receive OHB ring; with no buffer posted it is discarded and counted (R397). -/
def State.ohbDeliver (s : State) (n kind : Nat) (b : RxBlock) : State :=
  match s.ohbBuf n with
  | some d => s.fillBuf d b.data (kind + 2 * n) (some b.tod)
  | none => s.raiseCount (.reg .LE_FRM_EV_gcc_drop n) { obj := n } 524

/-- GCC_BLOCK_RECEIVE: the finished GCC0 or MFC block of an engine (R173). -/
def execGccBlockReceive (n : Eng) (mfc : Bool) (s : State) : Host.Outcome State Fault Refusal :=
  ok (if !s.hasEng n then s
    else if mfc then
      match (s.rxOf n).mfcDone with
      | none => s
      | some b =>
        let s := s.modRx n (fun x => { x with mfcDone := none })
        if s.on .LE_FRM_CTRL_ohb_mfc_en n then s.ohbDeliver n 1 b else s
    else
      match (s.rxOf n).gccDone with
      | none => s
      | some b =>
        let s := s.modRx n (fun x => { x with gccDone := none })
        if !s.on .LE_FRM_CTRL_ohb_gcc_en n then s
        else if b.bad then s.gccDrop n
        else s.ohbDeliver n 0 b)

end Sys2Proof.Machine
end

