-- ==== Sys2Proof/Machine/Faults.lean ====
section
/-! DEFINITION. Meanings of the faults of memories, registers, control cores, clocks and transmit paths
(16_counters_and_events.md R530 to R534; 08_pair_protection.md R307). -/
namespace Sys2Proof.Machine

/-- A fault that a paired member meets by a yield, or by losing readiness in SHADOW (08_pair_protection.md R307). -/
def State.localFault (s : State) : State := if s.role == 0 then s else s.faultYield 3

/-- The same for a fault that can stand on, which is kept as the cause of faulted (08_pair_protection.md R301, R308). -/
def State.localFaultOf (s : State) (kind i : Nat) : State :=
  (s.modPair (fun p => { p with fault := if s.role == 0 then p.fault else some (kind, i) })).localFault

/-! ### Control cores (R533) -/

/-- CMD and KEY descriptors that were in execution complete ABORTED, and a transition ends that one had asked for; any other and the
registers run on (R533). -/
def State.abortCmds (s : State) : State :=
  let tr := s.mode.tr.bind (fun t => t.d)
  let l := s.host.flashOps.map (fun o => o.d) ++ s.host.i3cOps.map (fun o => o.d)
    ++ tr.toList ++ (s.pair.cmdOut.bind (fun c => c.d)).toList
  let s := { s with host := { s.host with flashOps := [], i3cOps := [] } }
  let s := { s with mode := { s.mode with tr := if tr.isSome then none else s.mode.tr } }
  let s := s.modPair (fun p => { p with cmdOut := p.cmdOut.map (fun c => { c with d := none }) })
  (if tr.isNone || s.pwr.entry.isSome || s.pwr.exitFrom.isSome then s else s.wr .SYS_MODE_busy 0 0).abortAll l

/-- The lockstep cores disagree: PAIR_ALIVE_OUT stops and PAIR_ACT falls; a paired member sends DYING, and an unpaired one's
cores restart (R533; 08_pair_protection.md R268, R307). -/
def State.lockstep (s : State) : State :=
  let s := (s.count 552).modSec (fun x => { x with restart := true })
  let s := { s with pin := { s.pin with aliveOut := false, pairAct := false } }
  (s.sendDying 1 0).abortCmds.readyRefresh

/-- LOCKSTEP_MISMATCH (R533). -/
def execLockstepMismatch (s : State) : Host.Outcome State Fault Refusal := ok (if s.sec.restart then s else s.lockstep)

/-- A switch machine starts in HELD; work under way is forgotten, maps in force stay, and a marker that is outstanding is so until every
stage has reported it (R533; 07_placement.md R249; 01_architecture.md R28). -/
def State.swRestart (s : State) (n : Nat) : State :=
  let s := if s.swState n == 2 then s else s.withdraw n
  let s := s.modSk n (fun k => { k with man := none, plan := none, want := 0, loaded := [], applied := [] })
  s.setSw n 3

/-- CONTROL_RESTART_DONE: the fault is reported, and its record goes out on the UART (R533; 08_pair_protection.md R268;
11_host_rings.md R407). -/
def execControlRestartDone (s : State) : Host.Outcome State Fault Refusal :=
  ok (if !s.sec.restart then s
    else
      let s := s.modSec (fun x => { x with restart := false })
      let s := (upTo s.engines).foldl (fun t n => t.swRestart n) s
      let s := { s with pin := { s.pin with aliveOut := !s.padHeld 2 } }
      (s.actRefresh.raise (.perf .lockstepFault)).emit (.uart false (Ev.perf .lockstepFault).code))

/-! ### SRAM (R531) -/

/-- Index of an array (R530): the engines' from 0, then the others in the order of R517 (log entry 54). -/
def sramObj : SramArr → Nat
  | .fec n => n
  | .pool => 4
  | .ringCtx => 5
  | .fifos => 6
  | .ctlMem => 7
  | .staging => 8
  | .retention => 9

/-- Index of the counter of corrected errors of an array, and of its other errors (R517). -/
def sramIdx : SramArr → Nat × Nat
  | .fec n => (cEng n 22, cEng n 23)
  | .pool => (538, 544)
  | .ringCtx => (539, 545)
  | .fifos => (540, 546)
  | .ctlMem => (541, 547)
  | .staging => (542, 548)
  | .retention => (543, 549)

/-- The data of an uncorrectable word carry the mark of 04_nurnauri_fec.md R134 (R531): the data of a FEC window for the stages
after the decoder, a deskew bin of 8,192 words for the demapper of the tributary that holds it, and a word of the client
FIFOs or of the staging buffers, whose places in the arrays the spec does not give, for the stream of a free port or engine
in either direction (log entry 177). The words of a ring context, of the control cores and of the retention SRAM hold no data of a stream. -/
def State.sramMark (s : State) (arr : SramArr) (word : Nat) : State :=
  let pick := (Config.freeWord s.free).toNat
  match arr with
  | .fec n => s.modFec n (fun f => { f with marked := true, slipped := true })
  | .pool =>
    match SMap.get 0 s.bins (word / 8192) with
    | 0 => s
    | g + 1 =>
      match s.grpTrib g with
      | some t => s.modTrib t (fun y => { y with slip := true })
      | none => s
  | .fifos => (s.slipMark (if pick % 2 == 0 then 5 else 6) (pick / 2 % 64)).tick
  | .staging =>
    if pick % 2 == 0 then (s.modRx (pick / 2 % 4) (fun r => { r with gccBad := true })).tick
    else (s.modTx (pick / 2 % 4) (fun x => { x with ohb := x.ohb.modifyHead (fun b => { b with bad := true }) })).tick
  | .ringCtx | .ctlMem | .retention => s

/-- SRAM_SCRUB: a word with errored bits is found; the event's object is the index of the array (R530, R531,
R534; log entry 54). -/
def execSramScrub (arr : SramArr) (word bits : Nat) (s : State) : Host.Outcome State Fault Refusal :=
  ok (let (ce, ue) := sramIdx arr
    let present := match arr with
      | .fec n => s.hasEng n
      | _ => true
    if bits == 0 || !present then s
    else if bits == 1 then s.raiseCount (.perf .sramCe) { obj := sramObj arr, arg := some word } ce
    else
      let s := (s.sramMark arr word).raiseCount (.perf .sramUe) { obj := sramObj arr, arg := some word } ue
      if s.role != 0 then s.localFault
      else if arr == .ctlMem && !s.sec.restart then s.lockstep
      else s)

/-! ### Parity (R532) -/

/-- The word in which a stage finds a parity error is marked errored (R532; 01_architecture.md R20). The spec names no stage's
place among the crossings, so which stream of the engine, or of the ports and the pair link, holds the word is a free value
(log entry 187). -/
def State.parityMark (s : State) : ParityObs → State
  | .reg _ _ => s
  | .engine n _ => (s.slipMark ([1, 2, 3, 4, 10].getD ((Config.freeWord s.free).toNat % 5) 1) n).tick
  | .stage _ _ => (s.slipMark ([5, 6, 7].getD ((Config.freeWord s.free).toNat % 3) 5) ((Config.freeWord s.free).toNat / 4 % 64)).tick

/-- A parity error in a bit of a register: an RW field is repaired from the control cores' copy, and an RO field reads wrong until its
next update (R532; log entry 232). -/
def State.roFlip (s : State) (r : Rg) (i addr bit : Nat) : State :=
  if r.fields.any (fun f => f.info.acc == .ro && decide (f.info.lo ≤ bit) && decide (bit < f.info.lo + f.info.w)) then
    { s with perf := { s.perf with flips := (addr, bit, s.regVal r i, i) :: s.perf.flips } }
  else s

/-- PARITY_SCAN: a parity error of a register, of a stage of an engine, or of another stage (R530, R532; log entry 54). -/
def execParityScan (p : ParityObs) (s : State) : Host.Outcome State Fault Refusal :=
  ok (match p with
    | .reg addr bit =>
      match regAt addr with
      | none => s
      | some (r, i) =>
        if s.absentReg r i then s
        else
          let obj := if r.isLe then 16 + i else r.block
          ((s.roFlip r i addr bit).raiseCount (.perf .parityErr)
            { obj := obj, arg := some (if r.isLe then addr % 2 ^ 20 else addr % 65536) } 550).localFault
    | .engine n stage =>
      if s.hasEng n then
        ((s.parityMark p).raiseCount (.perf .parityErr) { obj := 16 + n, arg := some stage } (cEng n 24)).localFault
      else s
    | .stage block stage => ((s.parityMark p).raiseCount (.perf .parityErr) { obj := block, arg := some stage } 551).localFault)

/-! ### Clocks and transmit paths -/

/-- CLOCK_LOSS: XO_IN or a PLL is out of lock (R530; 08_pair_protection.md R307). -/
def execClockLoss (pll : Nat) (s : State) : Host.Outcome State Fault Refusal :=
  ok ((s.raiseCount (.perf .clockLoss) { obj := pll } 553).localFaultOf 0 pll)

/-- LANE_TX_FAULT: a SerDes output monitor sees no swing on an active lane (R530; 08_pair_protection.md R307). -/
def execLaneTxFault (lane : PortId) (s : State) : Host.Outcome State Fault Refusal :=
  ok (if s.laneActive lane then (s.raise (.perf .laneTxFault) { obj := lane }).localFaultOf 2 lane else s)

/-- TX_MONITOR_FAULT: the DAC outputs of an active transmitter have not matched the samples for 10 us
(08_pair_protection.md R307). -/
def execTxMonitorFault (n : Eng) (s : State) : Host.Outcome State Fault Refusal :=
  ok (if s.hasEng n && s.on .LE_TX_CTRL_tx_active n then s.localFaultOf 1 n else s)

/-- CROSSING_SLIP at crossing `x`: counted at its engine, its port, or the device, and reported (01_architecture.md R19; 16 R517,
R530); a paired member yields, since a slip shows the loss of a clock (08_pair_protection.md R307). -/
def execCrossingSlip (x : Fin 17) (who : Nat) (s : State) : Host.Outcome State Fault Refusal :=
  ok (if x.val == 0 || (x.val ≥ 8 && x.val != 10) then s
    else
      let k := if x.val == 7 then 513 else if x.val == 5 || x.val == 6 then cPort (who % 64) 5 else cEng (who % 4) 21
      (s.slipMark x who).raiseCount (.perf .crossingSlip) { obj := x.val, arg := some who } k).localFault

end Sys2Proof.Machine
end

