-- ==== Sys2Proof/Machine/Reads.lean ====
section
/-! DEFINITION. Meanings of the reads: of the registers, of the doorbells, the MSI-X table and the debug window, and of what a read
changes (17_register_map.md R536, R537, R541, R545; 04_nurnauri_fec.md R149; 09_timing.md R346; 11_host_rings.md R376, R377, R389;
12_housekeeping.md R430; 14_power_and_cellar.md R487; 15_security_and_config.md R498). -/
namespace Sys2Proof.Machine

/-- The identity values of the function's configuration space (17_register_map.md R547): vendor, device, revision, class,
subsystem vendor and subsystem. -/
def State.configSpace (s : State) : List Nat :=
  [0x1F4D, if s.partCode == 2 then 0x4802 else 0x9600, s.fuse.stepping % 16, 0x028000, 0x1F4D, 0x0000]

/-- The UART takes input at debug level FULL alone (11_host_rings.md R407). -/
def State.uartTakes (s : State) : Bool := s.dbgLevel == 2

/-- A requester reads a register's content: where it can be reached, outside SYS only after boot, from the test port at OBSERVE
or FULL, and not on an engine the part lacks; another read returns 0 (R545; 15_security_and_config.md R498; 00_scope.md
R2). -/
def State.readable (s : State) (rq : Requester) (r : Rg) (i : Nat) : Bool :=
  !s.absentReg r i && (rq == .ctl || (r.block == 0 || s.on .SYS_RST_STATUS_boot_ready)
    && (rq == .host || r.trapdoor || (decide (1 ≤ s.dbgLevel) && s.sec.trap.session == some false)))

/-- A read of a register by a requester: its answer, and what it changes where it reaches the register. -/
def State.answer (s : State) (rq : Requester) (r : Rg) (i : Nat) (act : State → State) : State :=
  if s.hostUnreachable then s
  else if s.readable rq r i then
    let t := act s
    t.emit (.rdData (t.regRead r i))
  else s.emit (.rdData 0)

/-- A read of test_err: the count is returned, then cleared, but for the test port (R537, R541). -/
def State.testErrRead (s : State) (rq : Requester) (n : Nat) : State :=
  let t := s.answer rq .LE_FEC_TEST n (fun s => s)
  if !s.hostUnreachable && s.readable rq .LE_FEC_TEST n && rq != .test then t.wr .LE_FEC_TEST_test_err n 0 else t

/-- TEST_ERR_READ (R537, R541). -/
def execTestErrRead (rq : Requester) (n : Eng) (s : State) : Host.Outcome State Fault Refusal := ok (s.testErrRead rq n)

/-- A read of TIM_TOD_NS at ToD `tod`: the nanoseconds are returned, and the seconds registers return the seconds of the same instant
from here on (09_timing.md R346). -/
def State.todNsRead (s : State) (tod : Nat) : State :=
  s.answer .host .TIM_TOD_NS 0 (fun s =>
    let s := (s.atTod tod).wr .TIM_TOD_NS_ns 0 (tod / 65536 % 1000000000)
    { s with tim := { s.tim with latched := s.tim.tod / todSec, hasLatch := true } })

/-- TOD_NS_READ (09_timing.md R346). -/
def execTodNsRead (tod : Nat) (s : State) : Host.Outcome State Fault Refusal := ok (s.todNsRead tod)

/-- A read of PWR_CEL_RTC_LO at RTC count `rtc`: bits [31:0] are returned and RTC_HI is latched (14_power_and_cellar.md R487). -/
def State.rtcLoRead (s : State) (rtc : Nat) : State :=
  s.answer .host .PWR_CEL_RTC_LO 0 (fun s =>
    let s := s.atRtc rtc
    s.wr .PWR_CEL_RTC_HI_rtc_hi 0 (s.cel.rtc / 2 ^ 32))

/-- RTC_LO_READ (14_power_and_cellar.md R487). -/
def execRtcLoRead (rtc : Nat) (s : State) : Host.Outcome State Fault Refusal := ok (s.rtcLoRead rtc)

/-- A read of HK_CHn_RAW returns the word and latches its value and dither registers (12_housekeeping.md R430, log entry 25). -/
def State.hkRawRead (s : State) (c : Nat) : State :=
  s.answer .host .HK_CH_RAW c (fun s =>
    let w := (s.hkCh c).word
    let t := ((s.wrInt .HK_CH_VAL_value c w.val).wrInt .HK_CH_DITH_I_dith_i c w.di).wrInt .HK_CH_DITH_Q_dith_q c w.dq
    t.modHkCh c (fun h => { h with latched := true }))

/-! ### Reads of the three BARs (11_host_rings.md R376, R377, R389; R536) -/

/-- The access is one that R376 turns away. -/
def badAccess (bar : Nat) (write : Bool) (addr size : Nat) : Bool :=
  if bar == 4 then
    !((size == 4 || size == 8) && addr % size == 0
      && (decide (addr + size ≤ 0x1000) || (decide (0x2000 ≤ addr) && decide (addr + size ≤ 0x2020))))
  else if bar == 0 then !(size == 4 && addr % 4 == 0 && decide (addr < 0x1000000))
  else if bar == 2 then !(size == 4 && addr % 4 == 0 && decide (addr < 0x40000))
  else write || !write

/-- A 32-bit word of BAR4: of the MSI-X table, whose vector control holds the mask bit, or of the pending-bit array (R375, R404). -/
def State.msixWord (s : State) (off : Nat) : Nat :=
  if off < 0x1000 then
    if off / 4 % 4 == 3 then b2n !SMap.get false s.host.unmasked (off / 16) else SMap.get 0 s.host.msixTab (off / 4)
  else (upTo 32).foldl (fun a b => a + b2n (SMap.get false s.host.msixPend ((off - 0x2000) / 4 * 32 + b)) * 2 ^ b) 0

/-- A read of the debug window: control-core memory and the trace buffer in a PCIe session at OBSERVE or FULL, else 0
(15_security_and_config.md R498). -/
def State.debugRead (s : State) (addr : Nat) : Nat :=
  if decide (1 ≤ s.dbgLevel) && s.sec.trap.session == some true then SMap.get 0 s.sec.dbgMem addr else 0

/-- A register read by the host at the present ToD and RTC count: one whose read changes something does so (R537). -/
def State.hostRead (s : State) (r : Rg) (i : Nat) : State :=
  match r with
  | .LE_FEC_TEST => s.testErrRead .host i
  | .TIM_TOD_NS => s.todNsRead s.tim.tod
  | .PWR_CEL_RTC_LO => s.rtcLoRead s.cel.rtc
  | .HK_CH_RAW => s.hkRawRead i
  | _ => s.answer .host r i (fun s => s)

/-- A read of BAR0 that R376 lets pass; an address that no block decodes reads 0 (R377, R536). -/
def State.bar0Read (s : State) (addr : Nat) : State :=
  if inDebug addr then s.emit (.rdData (s.debugRead addr))
  else match regAt addr with
    | some (r, i) => s.hostRead r i
    | none => s.emit (.rdData 0)

/-- BAD_ACCESS: an access of the host that is no register write or doorbell. One that R376 turns away is counted and sets acc_bad; a
write is discarded, a read returns all ones. A read that R376 lets pass is answered; a write that it lets pass has its own command. Nothing
is reached where the link is down by the power state, and before boot_ready nothing outside SYS (R542, R545). -/
def execBadAccess (bar : Fin 6) (write : Bool) (addr size : Nat) (s : State) : Host.Outcome State Fault Refusal :=
  ok (if s.hostUnreachable then s
    else if !(bar == 0 && decide (addr < 0x10000)) && !s.on .SYS_RST_STATUS_boot_ready then
      if write then s else s.emit (.rdData 0)
    else if badAccess bar write addr size then
      let t := s.accBad
      if write then t else t.emit (.rdData 0xFFFFFFFF)
    else if write then s
    else if bar == 2 then s.emit (.rdData (s.doorbellRead addr))
    else if bar == 0 then s.bar0Read addr
    else s.emit (.rdData (s.msixWord addr + if size == 8 then s.msixWord (addr + 4) * 2 ^ 32 else 0)))

end Sys2Proof.Machine
end

