-- ==== Sys2Proof/Machine/Hk.lean ====
section
/-! DEFINITION. Meanings of the housekeeping commands: sequences, channels, words and outputs
(12_housekeeping.md R411 to R437). -/
namespace Sys2Proof.Machine

/-- HK_SLOT_END: a slot ends once it has delivered its words, a continuous one by seq_stop (R417 to R420, R429, R433, 13 R447, R452, R453). -/
def execHkSlotEnd (s : State) : Host.Outcome State Fault Refusal :=
  ok (if s.converting.isSome && s.hk.left != 0 && !(s.continuous && s.hk.stopReq) then s else s.slotEnd)

/-- HK_WORD: the channel being converted delivers a word (R417, R422 to R431). -/
def execHkWord (c : HkChId) (w : HkObs) (s : State) : Host.Outcome State Fault Refusal :=
  ok (if s.converting == some c.val && (s.hk.left != 0 || s.continuous) then (s.deliver c w).filterFrame c else s)

/-- HK_START_REQ: an edge at HK_START, which start_pin_en must accept, or a write of seq_go (R418, R420). -/
def execHkStartReq (pin : Bool) (s : State) : Host.Outcome State Fault Refusal :=
  ok (if pin then (if s.on .HK_CTRL_start_pin_en then s.hkStart else s) else s.fieldWrite .host .HK_CTRL_seq_go 0 1)

/-- HK_URGENT_REQ: an edge at HK_URGENT, which urg_pin_en must accept, or a write of inj_go (R419, R420). -/
def execHkUrgentReq (pin : Bool) (s : State) : Host.Outcome State Fault Refusal :=
  ok (if pin then (if s.on .HK_CTRL_urg_pin_en then s.hkUrgent else s) else s.fieldWrite .host .HK_CTRL_inj_go 0 1)

/-- HK_SYNC_CMD: an edge at HK_SYNC, which sync_pin_en must accept, or a write of sync_now (R420, R426, R433). One within the settling time
of the slot in progress, at whose end its decimator resets anyway, leaves none of its words SETTLING (R417, R427). -/
def execHkSyncCmd (o : SyncObs) (s : State) : Host.Outcome State Fault Refusal :=
  let t := if o.pin then (if s.on .HK_CTRL_sync_pin_en then s.hkSync else s) else s.fieldWrite .host .HK_CTRL_sync_now 0 1
  ok (match s.converting with
    | none => t
    | some c =>
      if o.early && !s.compat && (s.hkCh c).seq == 0 && (s.hkCh c).settle == 0 then
        t.modHkCh c (fun h => { h with settle := 0, dLeft := 0, ncoN := h.nUse })
      else t)

/-- HK_SEQ_STOP (R418, R420). -/
def execHkSeqStop (s : State) : Host.Outcome State Fault Refusal := ok (s.fieldWrite .host .HK_CTRL_seq_stop 0 1)

/-- HK_FILTER_WRITE: a channel's CFG and FLT words are written (R421). -/
def execHkFilterWrite (c : HkChId) (cfg flt : Nat) (s : State) : Host.Outcome State Fault Refusal :=
  ok ((s.regTake .host .HK_CH_CFG c cfg).regTake .host .HK_CH_FLT c flt)

/-- HK_CHG_RST: a write of 1 to chg_rst (R415). -/
def execHkChgRst (c : HkChId) (s : State) : Host.Outcome State Fault Refusal :=
  ok (s.fieldWrite .host .HK_CH_CFG_chg_rst c 1)

/-- HK_CHG_RST_END: chg_rst_len has passed (R415). -/
def execHkChgRstEnd (c : HkChId) (s : State) : Host.Outcome State Fault Refusal :=
  ok (if s.on .HK_CH_STATUS_rst_closed c then (s.wr .HK_CH_STATUS_rst_closed c 0).decimReset c else s)

/-- HK_CLAMP: a clamp begins to conduct (R416). -/
def execHkClamp (c : HkChId) (s : State) : Host.Outcome State Fault Refusal :=
  ok (if s.on .HK_CH_STATUS_clamp_live c then s
    else ((s.wr .HK_CH_STATUS_clamp_live c 1).modHkCh c (fun h => { h with clampWin := true })).raiseCount
      (.reg .HK_EV_clamp_seen 0) { obj := c } 527)

/-- HK_CLAMP_RELEASE of channel `e.chan`: `e.early` tells that the release falls before the first sample of the next word's window, in the settling time of
the slot or in what its first sinc outputs discard, so that no word's window has a sample of it (R415, R416, R417). -/
def execHkClampRelease (e : ClampEnd) (s : State) : Host.Outcome State Fault Refusal :=
  let c : Nat := e.chan
  ok (if s.on .HK_CH_STATUS_clamp_live c then
      let s := if e.early && (s.hkCh c).seq == 0 then s.modHkCh c (fun h => { h with clampWin := false }) else s
      (s.wr .HK_CH_STATUS_clamp_live c 0).chgClose c
    else s)

/-- A reading of the excitation monitor is bad: in 1 µA or 1 mV, or at the compliance limit (R414). -/
def State.excBad (s : State) (c meas : Nat) (limit : Bool) : Bool :=
  let set := 10 * s.rd .HK_CH_CFG_exc_level c
  limit || decide (2 * set + 1000 < 100 * ((meas : Int) - set).natAbs)

/-- HK_EXC_MONITOR (R413, R414). -/
def execHkExcMonitor (c : HkChId) (meas : Nat) (limit : Bool) (s : State) : Host.Outcome State Fault Refusal :=
  let m := s.rd .HK_CH_CFG_exc_mode c
  ok (if !s.on .HK_CH_CFG_en c || (m != 1 && m != 2) then s
    else
      let bad := s.excBad c meas limit
      let s := s.wr .HK_CH_STATUS_exc_meas c (satNat 16 meas)
      let s := s.modHkCh c (fun h => { h with excBad := if bad then min 3 (h.excBad + 1) else 0,
                                              excGood := if bad then 0 else min 3 (h.excGood + 1) })
      let fault := s.on .HK_CH_STATUS_exc_fault c
      if (s.hkCh c).excBad == 3 && !fault then
        (s.wr .HK_CH_STATUS_exc_fault c 1).raiseReg .HK_EV_exc_fault 0 { obj := c }
      else if (s.hkCh c).excGood == 3 && fault then s.wr .HK_CH_STATUS_exc_fault c 0
      else s)

/-- HK_LIN_COMMIT: a write of 1 to lin_commit (R429). -/
def execHkLinCommit (c : HkChId) (s : State) : Host.Outcome State Fault Refusal :=
  ok (s.fieldWrite .host .HK_CH_CFG_lin_commit c 1)

/-- HK_COMPAT_ENABLE (R433). -/
def execHkCompatEnable (s : State) : Host.Outcome State Fault Refusal :=
  ok (s.fieldWrite .host .HK_CTRL_compat_en 0 1)

/-- HK_RAW_READ (R430). -/
def execHkRawRead (c : HkChId) (s : State) : Host.Outcome State Fault Refusal := ok (s.hkRawRead c)

/-- AOUT_OVERVOLT (R435). -/
def execAoutOvervolt (k : AoutId) (s : State) : Host.Outcome State Fault Refusal :=
  ok (if s.on .HK_AOUT_STATUS_ov k then s
    else ((s.wr .HK_AOUT_STATUS_ov k 1).aoutRefresh k).raiseReg .HK_EV_aout_fault 0 { obj := k })

/-- AOUT_ILIM (R435). -/
def execAoutIlim (k : AoutId) (s : State) : Host.Outcome State Fault Refusal :=
  ok (if !s.on .HK_AOUT_STATUS_driving k then s
    else ((s.wr .HK_AOUT_STATUS_ilim k 1).aoutRefresh k).raiseReg .HK_EV_aout_fault 0 { obj := k })

/-- AOUT_WIRED: two enabled outputs in fold-back at one voltage for 100 µs (R435, R436). -/
def execAoutWired (a b : AoutId) (s : State) : Host.Outcome State Fault Refusal :=
  ok (if a != b && s.on .HK_AOUT_CTRL_en a && s.on .HK_AOUT_CTRL_en b && s.on .HK_AOUT_STATUS_ilim a
      && s.on .HK_AOUT_STATUS_ilim b then
      let s := s.wrs [(.HK_AOUT_STATUS_wired, a, 1), (.HK_AOUT_STATUS_wired, b, 1), (.HK_AOUT_STATUS_wired_with, a, b),
        (.HK_AOUT_STATUS_wired_with, b, a), (.HK_AOUT_STATUS_ilim, a, 0), (.HK_AOUT_STATUS_ilim, b, 0)]
      ((s.aoutRefresh a).aoutRefresh b).raiseReg .HK_EV_aout_fault 0 { obj := max a.val b.val }
    else s)

/-- ALM_SHORT (R435). -/
def execAlmShort (s : State) : Host.Outcome State Fault Refusal :=
  ok (if s.on .HK_ALM_CTRL_alm_asserted then
      ((s.wr .HK_ALM_CTRL_alm_short 0 1).almRefresh).raiseReg .HK_EV_alm_fault
    else s)

/-- ALM_STUCK (R435). -/
def execAlmStuck (s : State) : Host.Outcome State Fault Refusal :=
  ok (if s.on .HK_ALM_CTRL_alm_asserted || s.on .HK_ALM_CTRL_alm_stuck then s
    else (s.wr .HK_ALM_CTRL_alm_stuck 0 1).raiseReg .HK_EV_alm_fault)

/-- HK_OUTPUT_RETRY: `ok k`: output k (4: HK_ALM) reached its level; `back k`: an isolated pin is back, without which its output is not
retried (R437). -/
def execHkOutputRetry (ok' back : List Bool) (s : State) : Host.Outcome State Fault Refusal :=
  let s := (upTo 4).foldl (fun (t : State) k =>
    let held := t.on .HK_AOUT_STATUS_ov k && !back.getD k false
    if t.on .HK_AOUT_STATUS_wired k || held || !ok'.getD k false then t
    else ((t.wr .HK_AOUT_STATUS_ilim k 0).wr .HK_AOUT_STATUS_ov k 0).aoutRefresh k) s
  ok (if s.on .HK_ALM_CTRL_alm_short && ok'.getD 4 false then (s.wr .HK_ALM_CTRL_alm_short 0 0).almRefresh else s)

end Sys2Proof.Machine
end

