-- ==== Sys2Proof/Machine/Margin.lean ====
section
/-! DEFINITION. Meanings of the margin readings of a line engine (03_line_engine.md R107 to R119). -/
namespace Sys2Proof.Machine

/-- Mean of a list, to the nearest unit, halves up (log entry 13). -/
def meanNear (l : List Int) : Int := if l.isEmpty then 0 else (2 * l.sum + l.length) / (2 * l.length)

/-- MARGIN_COMPUTE: one 10 ms computation of a LOCKED engine (R98, R107 to R113). The tracked change of dispersion follows
the residual by at most 100 ps/nm per second, 1 ps/nm in each computation, and lies within 2,000 ps/nm (R93); the carrier offset is
tracked by at most 100 MHz per ms, 1,000 MHz in each (R99, log entry 237). Readings
saturate at the ends of their fields, snr_req at 0 where it is negative (log entry 159). The FEC window that ends with the
computation is shown with it, and RSEQ steps (04_nurnauri_fec.md R137, R139; 07_placement.md R244). -/
def State.marginCompute (s : State) (n : Nat) (m : MarginObs) : State :=
  let req := s.snrReqNow n
  let greq := gmiReq (s.prof n) (s.rxRate n) (s.on .LE_STATUS_pilot_on n)
  let s := (s.reqUsed n).modAcq n (fun a =>
    { a with snrHist := ((m.snr : Int) :: a.snrHist).take 10, gmiHist := ((m.gmi : Int) :: a.gmiHist).take 10,
             winCnt := min 10 (a.winCnt + 1) })
  let snr := meanNear (s.acqOf n).snrHist
  let gmi := meanNear (s.acqOf n).gmiHist
  let s := s.modAcq n (fun a => { a with gmiEst := gmi })
  let conv := s.on .LE_STATUS_est_converged n || m.conv
  let s := s.wr .LE_STATUS_est_converged n (b2n conv)
  let s := s.wrs [(.LE_SNR_snr_est, n, snr.toNat), (.LE_FO_EST_dgd_est, n, satNat 8 m.dgd), (.LE_FO_EST_fo_valid, n, 1),
    (.LE_CD_EST_cd_valid, n, 1), (.LE_MARGIN_margin_valid, n, b2n (conv && (s.acqOf n).winCnt == 10))]
  let s := (s.wr .LE_SNR_snr_req n (satNat 16 req.toNat)).wrInt .LE_MARGIN_snr_margin n (clampInt (-32768) 32767 (snr - req))
  let s := s.wrInt .LE_MARGIN_gmi_margin n (clampInt (-16384) 16383 (gmi - greq))
  let s := s.modAcq n (fun a => { a with cdTrack := clampInt (a.cdTrack - 1) (a.cdTrack + 1) (clampInt (-2000) 2000 m.cdTrack) })
  let s := s.wrInt .LE_CD_EST_cd_est n (clampInt (-8388608) 8388607 ((s.acqOf n).cdApplied + (s.acqOf n).cdTrack))
  let s := s.modAcq n (fun a => { a with fo := clampInt (a.fo - 1000) (a.fo + 1000) m.fo })
  let s := (s.wrInt .LE_FO_EST_fo_est n (clampInt (-32768) 32767 (s.acqOf n).fo)).fecComputed n
  (s.modSk n (fun k => { k with ownRseq := (k.ownRseq + 1) % 256 })).requestCheck n

/-- MARGIN_COMPUTE (R107). -/
def execMarginCompute (n : Eng) (m : MarginObs) (s : State) : Host.Outcome State Fault Refusal :=
  ok (if s.inAcq n 6 then s.marginCompute n m else s)

/-- MARGIN_REPORT: the readings reach the Storekeeper (R111). -/
def execMarginReport (n : Eng) (s : State) : Host.Outcome State Fault Refusal :=
  ok (if s.hasEng n && s.inService n then
      s.modSk n (fun k => { k with ownMargin := s.regVal .LE_MARGIN n })
    else s)

end Sys2Proof.Machine
end

