-- ==== Sys2Proof/Machine/MirrorOps.lean ====
section
/-! DEFINITION. Shared operations of a SHADOW that takes the ACTIVE's mirror: change records, messages in order, the full
load (08_pair_protection.md R278 to R284, R304, R305, R571). -/
namespace Sys2Proof.Machine

/-! ### Records (R305) -/

/-- Split a byte stream into its change records (type and content) and what is left of it; a 0 where a type is due is
filler (log entry 21). -/
def parseRecs : Nat → List Byte → List (Nat × List Byte) × List Byte
  | 0, b => ([], b)
  | fuel + 1, b =>
    match b with
    | [] => ([], [])
    | t :: rest =>
      if t == 0 then parseRecs fuel rest
      else
        let len := fromBE (rest.take 2)
        if rest.length < 2 + len then ([], b)
        else
          let (l, left) := parseRecs fuel (rest.drop (2 + len))
          ((t.toNat, slice rest 2 len) :: l, left)

/-- A mirrored MODE_SET: each engine commits at its SFM, or at once where its grid does not stand or a transition is in
progress already (R277, R286; 02_modes.md R63). -/
def State.mirrorMode (s : State) (w : Nat) : State :=
  let x := if w % 16 == 0 then {} else s.staged
  let s := match s.mode.tr with
    | some t =>
      if t.left.isEmpty then s
      else
        let u := t.left.foldl (fun (u : State) n => u.commitEng t.st (t.par % 16) n) s
        { u.commitLast t with mode := { u.mode with tr := some { t with left := [] } } }
    | none => s
  if s.mode.tr.isSome then
    ((upTo s.engines).foldl (fun (u : State) n => u.commitEng x (w % 16) n) s).commitLast { par := w, st := x }
  else
    let s := s.transBegin { par := w, left := s.waitEngs (w % 16), st := x }
    match s.mode.tr with
    | some t => if t.left.isEmpty then { s with mode := { s.mode with tr := none } } else s
    | none => s

/-- A slot of a LOCKER record: its key unwrapped, with what the slot has accepted where the key stays (R368). -/
def mirrorSlot (pk : Nat) (old : KeySlot) (valid : Bool) (kgen : Nat) (w : List Byte) : KeySlot :=
  let key := if valid then keyUnwrap pk w else none
  { key := key, kgen := kgen, last := if key == old.key then old.last else [] }

/-- A LOCKER record is of the generation that this member has, or is the release that gives the next one: both slots empty
(R284; 10_cipher.md R362; log entry 99). The image gives the generation itself. -/
def State.lockerFits (s : State) (c : List Byte) (bulk : Bool) : Bool :=
  let own := s.rd .CIPH_LOCK_STATUS_lgen (byteAt c 0 % 64)
  bulk || byteAt c 1 == own || (byteAt c 1 == (own + 1) % 256 && fieldOf (byteAt c 2) 1 2 == 0)

/-- A LOCKER record (R305; 10_cipher.md R362, R368): lgen, cur_phase and both slots are the ACTIVE's, SC the SHADOW's own,
from 0 after a release; the image is no release. -/
def State.mirrorLockerRec (s : State) (c : List Byte) (bulk : Bool) : State :=
  match s.pair.key with
  | none => s
  | some pk =>
    let l := byteAt c 0 % 64
    let lgen := byteAt c 1
    let fl := byteAt c 2
    let fresh := lgen != s.rd .CIPH_LOCK_STATUS_lgen l
    let s := s.modLock l (fun k =>
      { cur := mirrorSlot pk k.cur (fl.testBit 1) (byteAt c 3) (slice c 5 40),
        nxt := mirrorSlot pk k.nxt (fl.testBit 2) (byteAt c 4) (slice c 45 40),
        sc := if fresh && !bulk then [] else k.sc })
    let s := (s.wrs [(.CIPH_LOCK_STATUS_lgen, l, lgen), (.CIPH_LOCK_STATUS_cur_phase, l, fl % 2)]).lockShow l
    s.modPair (fun p => { p with mirLock := SMap.set {} p.mirLock l (s.lockOf l) })

/-- A next map: the SHADOW computes its own from the mirrored inputs, reports a difference, and loads the mirrored one
(07_placement.md R263): the map in force where the mirrored inputs ask for a resynchronisation (R250), else that of a pass. The maps that
one pass computes are compared with consecutive records. -/
def State.mirrorNext (s : State) (n : Nat) (m : Slots) : State :=
  let again := (s.skOf n).expect || (s.skOf n).resync
  let kept := again || s.pair.mirPass.any (fun x => x.1 == n)
  let (t, l) := if kept then (s, s.pair.mirPass) else if s.skActs then s.placePass else (s, [])
  let t := t.modPair (fun p => { p with mirPass := l.filter (fun x => x.1 != n) })
  let own := match l.find? (fun x => x.1 == n) with
    | some x => if again then ((s.txOf n).map, 3) else (x.2.1, x.2.2)
    | none => ((s.txOf n).map, if again then 3 else 0)
  let same := own.1.rate == m.rate && own.1.tab == m.tab
  let t := if same then t else t.raiseReg .PLACE_EV_mirror_diff 0 { obj := n }
  (t.modSk n (fun k => { k with genLast := m.gen, expect := false, resync := false })).swBegin n m (if same then own.2 else 0)

/-- A marker of the ACTIVE: the next map of its generation applies at the target (01_architecture.md R25; R282). -/
def State.mirrorMarker (s : State) (n gen : Nat) (target : Option Nat) : State :=
  (s.mkIssue n gen target).setSw n 2

/-- A map of the image: the first of an engine is its transmit map in force, whose tributaries are placed by their mirrored policies; the second its receive map, a third its next
map and a fourth the marker of that (log entry 45). -/
def State.imageMap (s : State) (n : Nat) (m : Slots) : State :=
  let k := s.pair.bulkMaps.count n
  let s := s.modPair (fun p => { p with bulkMaps := n :: p.bulkMaps })
  if k == 1 then (s.modRx n (fun x => { x with map := m })).rxMapShow n
  else if k == 2 then (s.modSk n (fun k => { k with genLast := m.gen })).swBegin n m 0
  else if 2 < k then s.mirrorMarker n m.gen none
  else
    let s := if s.skActs then m.tribs.foldl (fun u t => u.takePolicy t) s else s
    (((s.modSk n (fun k => { k with genLast := m.gen })).modTx n (fun x => { x with map := m })).txMapShow n).placeShowAll

/-- A PLACE_IN record: a valid block, a report of a stage, or a demand change, whose new size the SHADOW sees itself; a
block of the image is no new reading (R305). -/
def State.mirrorPlaceIn (s : State) (bulk : Bool) (n kind : Nat) (b : List Byte) : State :=
  if kind == 3 then s.demandNew (fromBE (b.take 2) % 1024)
  else if !s.hasEng n then s
  else match kind with
    | 1 =>
      if bulk then (s.blockNote n b).modSk n (fun k => { k with rxf := byteAt b 3, rseq := some (byteAt b 19) })
      else (s.blockInput n b).blockSwitch n
    | 2 =>
      let st := (([MapStage.mapper, .fabric, .framer, .cipher])[byteAt b 0]?).getD .mapper
      let rep := (([StageRep.loaded, .range, .applied, .mismatch])[byteAt b 1]?).getD .loaded
      s.stageReport n st rep
    | _ => s

/-- The mirrored fields of a register as the mirror gives them are kept for the check of 02_modes.md R57. -/
def State.mirrorKeep (s : State) (r : Rg) (i val : Nat) : State :=
  s.modPair (fun p => { p with mirRegs := (State.writeRw { s with regs := p.mirRegs } r i val).regs })

/-- A REG record: the write of a mirrored register. One that names a group of another generation is discarded and counted;
the image gives the generation itself (R277, R284, R305). -/
def State.mirrorRegRec (s : State) (target : Option Nat) (bulk : Bool) (addr val : Nat) : State :=
  match regAt addr with
  | none => s
  | some (r, i) =>
    if !r.mirrored || s.absentReg r i then s
    else
      let gen := Fld.FAB_GRP_CTRL_grp_gen.part val
      if r == .FAB_GRP_CTRL && !bulk && gen != s.rd .FAB_GRP_CTRL_grp_gen i then s.count 516
      else
        let s := (s.mirrorKeep r i val).mirroredWrite .ctl r i val target
        let s := if r == .LE_TX_CTRL then s.commitIdle else s
        if r == .FAB_GRP_CTRL && bulk then s.wr .FAB_GRP_CTRL_grp_gen i gen else s

/-- Apply a change record; `target` is the PSC at which a boundary-applied field changes, `bulk` whether the record is part
of the image (R282, R305). A MAP record of the generation that is loaded is the marker of that map (log entry 45). Types
without a meaning are skipped. -/
def State.applyRec (s : State) (target : Option Nat) (bulk : Bool) (typ : Nat) (c : List Byte) : State :=
  let s := if typ == 4 then s else s.modPair (fun p => { p with mirPass := [] })
  match typ with
  | 1 => s.mirrorRegRec target bulk (fromBE (c.take 4)) (fromBE (slice c 4 4))
  | 2 => s.mirrorMode (fromBE (c.take 4))
  | 3 => if s.lockerFits c bulk then s.mirrorLockerRec c bulk else s.count 516
  | 4 =>
    let n := byteAt c 0
    let gen := fromBE (slice c 1 2)
    let m := s.slotsOf gen (byteAt c 3) (c.drop 4)
    if !s.hasEng n then s
    else if bulk then s.imageMap n m
    else if s.swState n == 1 && (s.skOf n).man.any (fun x => x.gen == gen) then s.mirrorMarker n gen target
    else s.mirrorNext n m
  | 5 => (s.mirrorPlaceIn bulk (byteAt c 0) (byteAt c 1) (c.drop 2)).commitIdle
  | 6 => if s.hasEng (byteAt c 0) then s.addShadow (byteAt c 0) .pilot (byteAt c 1) target else s
  | 7 =>
    let v := fun k => fromBE (slice c (1 + 4 * k) 4)
    if s.hasEng (byteAt c 0) then
      s.modSk (byteAt c 0) (fun k => { k with snrDwell := v 0, gmiDwell := v 1, decDwell := v 2, upDwell := v 3, hold := v 4 })
    else s
  | _ => s

/-! ### Messages (R278 to R283, R571) -/

/-- The target of a message has passed at a SHADOW whose grid stands (R283, R571). -/
def State.mirLate (s : State) (eng target : Nat) : Bool :=
  target != 0 && (s.txOf eng).on && dueAt (s.txOf eng).psc (some target)

/-- Apply the next message in order: its fragment joins the record stream, and each record it completes is applied, but one that
names a tributary of another generation is discarded and counted (R284); after its target a boundary-applied change goes to the next SFM, ready falls, and the mirror needs a load (R283). -/
def State.mirApply (s : State) (m : MirCell) : State :=
  let c := m.bytes
  let eng := byteAt c 5
  let target := cellField c 6 4
  let late := s.mirLate eng target
  let s := if late then ((s.modPair (fun p => { p with late := true })).wr .PAIR_STATUS_ready 0 0).count 515 else s
  let t := if target == 0 || late then none else some target
  let buf := s.pair.mirBuf ++ slice c 10 28
  let (l, left) := parseRecs buf.length buf
  let s := s.modPair (fun p => { p with mirIn := cellField c 1 4, mirBuf := left })
  l.foldl (fun u x => if u.recStale m.gens x.1 x.2 then u.count 516 else u.applyRec t false x.1 x.2) s

/-- Apply the held messages that follow in order. -/
def State.mirDrain : Nat → State → State
  | 0, s => s
  | fuel + 1, s =>
    let q := (s.pair.mirIn + 1) % 2 ^ 32
    if (SMap.get {} s.pair.mirHeld q).bytes.isEmpty then s
    else
      State.mirDrain fuel ((s.modPair (fun p => { p with mirHeld := SMap.del p.mirHeld q })).mirApply (SMap.get {} s.pair.mirHeld q))

/-- Acknowledge a message (R279, R304). -/
def State.sendMack (s : State) (seq dup : Nat) : State :=
  s.sendCell 0 (mkCell 3 (beBytes 4 s.pair.mirIn ++ beBytes 4 seq ++ beBytes 1 dup))

/-- Take a MIR cell: half the range away is discarded and counted, one already applied is acknowledged again, one after a
gap or before the load waits (R279, R571). -/
def State.mirTake (s : State) (m : MirCell) : State :=
  let q := cellField m.bytes 1 4
  let have0 := s.pair.mirIn
  if serHalf q have0 then s.count 516
  else if !serLater q have0 then s.sendMack q 1
  else if !s.pair.loaded || q != (have0 + 1) % 2 ^ 32 then
    (s.modPair (fun p => { p with mirHeld := SMap.set {} p.mirHeld q m })).sendMack q 0
  else
    let t := s.mirApply m
    ((State.mirDrain t.pair.mirHeld.length t).readyRefresh).sendMack q 0

/-! ### The full load (R280, R304) -/

/-- Fragment 0 arrives: the mirrored state is discarded. Mode and maps go with the engines, ports and tributaries that they put
in service; registers, bins and generations of groups, lockers, key phases, pilots, dwell counts and the settings in force that come of mirrored
fields return to reset (R304). The
SCs are this member's own and go on (R277; 10_cipher.md R353), and so does its own transition to SHADOW (02_modes.md R63). -/
def State.mirrorDiscard (s : State) : State :=
  let ids := (mirroredRgs.flatMap Rg.fields).filterMap (fun f => if f.info.acc == .rw then some f.ctorIdx else none)
  let s := if s.pair.mirMode == 0 then s
    else (((upTo s.engines).foldl (fun u n => u.commitEng {} 0 n) s).commitClients {} 0).modPair (fun p => { p with mirMode := 0, mirRole := 1 })
  let s := { s with regs := s.regs.filter (fun kv => !ids.contains (kv.1 % 1024)),
                    mode := { s.mode with tr := s.mode.tr.filter (fun t => t.d.isSome || t.par % 16 == 5) } }
  let s := (upTo 64).foldl (fun t g => t.wrs [(.FAB_GRP_STATUS_bins_held, g, 0), (.FAB_GRP_STATUS_alloc_err, g, 0),
    (.FAB_GRP_CTRL_grp_gen, g, 0)]) { s with bins := [] }
  let s := s.wr .FAB_POOL_STATUS_bins_free 0 384
  let s := (upTo 64).foldl (fun t l => ((t.modLock l (fun k => { sc := k.sc })).wrs [(.CIPH_LOCK_STATUS_cur_phase, l, 0),
    (.CIPH_LOCK_STATUS_lgen, l, 0)]).lockShow l) s
  let s := (upTo s.engines).foldl (fun t n => (t.wrs [(.CIPH_ENG_CTRL_tx_kp, n, 0), (.CIPH_ENG_CTRL_kp_pend, n, 0)]).modTx n
    (fun x => { x with shadows := [], rolloff := 1, endSel := false })) s
  (s.modPair (fun p =>
    { p with loaded := false, mirRegs := [], mirBuf := [], mirLock := [], bulkMaps := [], mirPass := [],
             gap := 0 })).wr
    .PAIR_STATUS_ready 0 0

/-- The policies and groups as placed that came with the image (log entry 45). -/
def State.takePlaced (s : State) : State :=
  (s.pair.bulkPlaced.foldl (fun u (k, v) =>
    if 16384 ≤ k then u.modTrib (k % 1024) (fun x => { x with grp := if v == 0 then none else some (v - 1) })
    else u.modTrib (k % 1024) (fun x => { x with pol := v })) s).modPair (fun p => { p with bulkPlaced := [] })

/-- The image is complete: apply it, then the messages from base_seq on that have been held (R304). -/
def State.imageApply (s : State) (base : Nat) : State :=
  let img := s.pair.bulkRx
  let (l, _) := parseRecs img.length img
  let s := (l.foldl (fun u x => u.applyRec none true x.1 x.2) s).takePlaced
  let s := s.modPair (fun p => { p with loaded := true, late := false, mirIn := (base + 2 ^ 32 - 1) % 2 ^ 32, mirBuf := [],
                                        bulkRx := [], bulkNext := 0,
                                        mirHeld := p.mirHeld.filter (fun kv => kv.1 == base || serLater kv.1 base) })
  (State.mirDrain s.pair.mirHeld.length s).engRefresh.readyRefresh

/-- The generation of every tributary is as the image gives it, 0 where it gives none (R284, log entry 99). -/
def State.takeGens (s : State) (gens : List (Nat × Nat)) : State :=
  (upTo 1024).foldl (fun t i => t.wr .FAB_TRIB_STATUS_trib_gen i (SMap.get 0 gens i)) s

/-- Take a BULK cell: fragments in order only, the first with the generations (R284, R304). -/
def State.bulkTake (s : State) (m : MirCell) : State :=
  let c := m.bytes
  let base := cellField c 1 4
  let frag := cellField c 5 4
  let last := cellField c 9 4
  let data := slice c 13 25
  let s := if frag == 0 then (s.mirrorDiscard.takeGens m.gens).modPair (fun p =>
      { p with bulkRx := data, bulkNext := 1, bulkBase := base, bulkPlaced := m.gens.filter (fun x => decide (8192 ≤ x.1)) })
    else if frag == s.pair.bulkNext && base == s.pair.bulkBase && s.pair.bulkNext != 0 then
      s.modPair (fun p => { p with bulkRx := p.bulkRx ++ data, bulkNext := frag + 1 })
    else s
  if s.pair.bulkNext == last + 1 && s.pair.bulkBase == base && frag == last then s.imageApply base else s

end Sys2Proof.Machine
end

