-- ==== Sys2Proof/Machine/Mirror.lean ====
section
/-! DEFINITION. Meanings of the mirror cells (08_pair_protection.md R278 to R284, R304). -/
namespace Sys2Proof.Machine

/-- MIR_RX: a mirror message at the SHADOW (R279). -/
def execMirRx (cell : MirCell) (s : State) : Host.Outcome State Fault Refusal :=
  ok (if s.modeNow == 5 && s.linkState != 0 && cellOk 2 cell.bytes then s.mirTake cell else s)

/-- MACK_RX: the ACTIVE drops what has been applied in order and stops sending what has arrived; a marker that waited for
the SHADOW's map may go (R279, R280; 07_placement.md R263). -/
def execMackRx (cell : List Byte) (s : State) : Host.Outcome State Fault Refusal :=
  ok (if s.role == 1 && s.linkUp && cellOk 3 cell then
      let ack := cellField cell 1 4
      let q := cellField cell 5 4
      let s := s.mirAcked ack (some q)
      (upTo s.engines).foldl (fun u n => u.tryIssue n) s
    else s)

/-- MIR_RESEND: 1 us without a MACK for a message: sent again on the next lane that is up, up to 8 sends; then
PAIR_MIRROR_FAIL and the full load (R273, R280). -/
def execMirResend (seq : Nat) (s : State) : Host.Outcome State Fault Refusal :=
  ok (match s.pair.mirOut.find? (fun m => m.seq == seq) with
    | none => s
    | some m =>
      if m.got || !s.mirroring then s
      else if m.sends < 8 then
        (s.sendCellOf m.sends m.cell m.gens).modPair (fun p =>
          let all := p.mirOut.map (fun x => if x.seq == seq then { x with sends := x.sends + 1 } else x)
          { p with mirOut := all })
      else (s.raiseReg .PAIR_EV_mirror_fail).sendImage)

/-- BULK_RX: a fragment of the full load at the SHADOW (R304). -/
def execBulkRx (cell : MirCell) (s : State) : Host.Outcome State Fault Refusal :=
  ok (if s.modeNow == 5 && s.linkState != 0 && cellOk 8 cell.bytes then s.bulkTake cell else s)

end Sys2Proof.Machine
end

