-- ==== Sys2Proof/Machine/Mode.lean ====
section
/-! DEFINITION. Meanings of the mode commands (02_modes.md). -/
namespace Sys2Proof.Machine

/-- MODE_SET (R36 to R40, R58 to R67). -/
def execModeSet (r : RingId) (s : State) : Host.Outcome State Fault Refusal :=
  ok (let s := s.settle r 0x01
    match s.headDesc r 0x01 with
    | none => s
    | some d =>
      let s := s.popDesc r
      let w := d.param0
      match s.mode.mem.find? (fun m => m.tag == fieldOf w 16 16) with
      | some m => (s.wr .SYS_MODE_last_tag 0 m.tag).done d m.status m.detail
      | none => if w.testBit 8 then s.modeCheckOnly d w else s.modeRequest (some d) w)

/-- MODE_SET_COMPLETE: the transition in progress has committed on every engine, and in SHADOW the mirror is loaded
(R63, R67). -/
def execModeSetComplete (s : State) : Host.Outcome State Fault Refusal :=
  ok (match s.mode.tr with
    | none => s
    | some t =>
      if !t.left.isEmpty || (s.modeNow == 5 && t.d.isSome && !s.pair.loaded) then s
      else
        let detail := s.modeOk t.par
        ({ s with mode := { s.mode with tr := none } }.wr .SYS_MODE_busy 0 0).modeDone t.d t.par 0 detail)

/-- HELD_MODE_RESUME: after a wake the held mode resumes with the effect of SETUP to that mode (R71). -/
def execHeldModeResume (s : State) : Host.Outcome State Fault Refusal :=
  ok (if !s.mode.resume || !s.awake then s
    else
      let x := s.inForce
      let s := { s with mode := { s.mode with held := false, resume := false, retry := true } }
      let s := ((upTo s.engines).filter (fun n => s.inService n)).foldl (fun u n =>
        let m := u.freshMap x u.modeNow n 0
        u.setMaps n m m) s
      let s := (upTo s.ports).foldl (fun u p => u.wr .CLI_PORT_STATUS_tx_on p (b2n (u.typeOf p != 0))) s
      let s := s.clientStart s.txPorts
      s.engRefresh.placeShowAll)

end Sys2Proof.Machine
end

