-- ==== Sys2Proof/Machine/TimeFibre.lean ====
section
/-! DEFINITION. Meanings of the events of time over fibre and the REF10 samples (09_timing.md R317, R337 to R342;
11_host_rings.md R398). -/
namespace Sys2Proof.Machine

/-- Stamp of a superframe by the low 16 bits of its PSC. -/
def stampOf (l : List Stamp) (id : Nat) : Option Nat := (l.find? (fun x => x.psc % 65536 == id)).map (·.tod)

/-- 2 theta of a used even block, in 2^-16 ns; none where a stamp is missing (R339). -/
def State.theta2 (s : State) (n : Nat) (blk : List Byte) : Option Int :=
  let y := (fromBE (slice blk 2 2) + 65534) % 65536
  let x := fromBE (slice blk 15 2)
  match stampOf (SMap.get [] s.tim.rxSt n) y, stampOf (SMap.get [] s.tim.txSt n) x with
  | some t2, some t3 =>
    let t1 := ofStamp88 (fromBE (slice blk 4 11))
    let t4 := ofStamp88 (fromBE (slice blk 17 11))
    some (todDiff t4 t3 - todDiff t2 t1 + s.tim.dtau)
  | _, _ => none

/-- A used block (R338 to R341). -/
def State.ttUsed (s : State) (n : Nat) (blk : List Byte) (sfm : Nat) : State :=
  let id := fromBE (slice blk 2 2)
  let q := byteAt blk 0 / 4 % 16
  let rx : Stamp := { psc := id, tod := todAdd sfm (-(of10ps (s.rdInt .TIM_TT_CFG_rx_ext n))) }
  let s := { s with tim := { s.tim with rxSt := SMap.mod [] s.tim.rxSt n (fun l => (rx :: l).take 64) } }
  let s := (s.modRx n (fun x => { x with ttAge := 0 })).modRef (6 + n) (fun r => { r with adv := q, rxOk := true })
  let s := if s.ttEngine != n then s
    else
      let s := s.wrs [(.TIM_TT_STATUS_tt_rx_ok, 0, 1), (.TIM_TT_STATUS_far_qual, 0, q),
        (.TIM_TT_STATUS_far_trace, 0, byteAt blk 0 % 4)]
      let s := s.modRef 11 (fun r => { r with adv := q })
      if id % 2 = 1 then
        { s with tim := { s.tim with oddSeen := true, farNu := fromBE (slice blk 4 4),
                                     farCd := ofTwos 24 (fromBE (slice blk 8 3)), farCdV := byteAt blk 11 % 2 == 1 } }.dtauRefresh
      else
        let s := s.dtauRefresh
        match s.theta2 n blk with
        | none => s
        | some t => if s.tim.discard then s else { s with tim := { s.tim with samples := s.tim.samples ++ [t] } }
  s.timSelect

/-- Timing examines a block of engine `n` of the superframe that began at `sfm`; `mark`: one of its bytes carries the uncorrectable mark
(R338). Below received level 2 the channel is absent (05_line_framing.md R176). -/
def State.ttTake (s : State) (n : Nat) (blk : List Byte) (mark : Bool) (sfm : Nat) : State :=
  if s.lpn n && decide (2 ≤ (s.rxOf n).lvl) && !mark && crc16 (slice blk 0 30) == fromBE (slice blk 30 2) then s.ttUsed n blk sfm else s

/-- TT_BLOCK_RX: a block of engine `n` has arrived (R338): the one that the command brings, or where it brings none the last that the
framer gathered (01_architecture.md R12; log entry 215). -/
def execTtBlockRx (n : Eng) (blk : List Byte) (mark : Bool) (s : State) : Host.Outcome State Fault Refusal :=
  ok (if !blk.isEmpty then s.ttTake n blk mark (s.rxOf n).sfmTod
    else match (s.rxOf n).ttDone with
      | none => s
      | some b => (s.modRx n (fun x => { x with ttDone := none })).ttTake n b.data (mark || b.bad) b.tod)

/-- CD_HOLD_EXPIRE: 10 s with cd_hold set (R341). -/
def execCdHoldExpire (s : State) : Host.Outcome State Fault Refusal :=
  ok (if s.on .TIM_TT_STATUS_cd_hold then s.refFail 11 1 else s)

/-- TT_DISCARD_END (R342). -/
def execTtDiscardEnd (s : State) : Host.Outcome State Fault Refusal :=
  ok { s with tim := { s.tim with discard := false } }

/-- A REF10 sample as its descriptor carries it (11_host_rings.md R398). -/
def State.timeSample (s : State) (d : Desc) : State :=
  let instant := ofStamp88 (fromLE (slice d.cls 0 11))
  let off := ofTwos 64 (fromLE (slice d.cls 12 8))
  let seq := fromLE (slice d.cls 22 2)
  if 2 * todSec < (todDiff instant s.tim.tod).natAbs then s.refuse d 1
  else if s.host.ref10Seq == some seq then s.done d 0 1
  else
    let t := { s with host := { s.host with ref10Seq := some seq } }
    ((t.modRef 10 (fun r => { r with sample := off, adv := byteAt d.cls 20 % 16 })).measured 10).timSelect.done d

/-- TIME_SAMPLE (R317, 11_host_rings.md R398). -/
def execTimeSample (r : RingId) (s : State) : Host.Outcome State Fault Refusal :=
  ok (let s := s.settle r 0x40
    match s.headDesc r 0x40 with
    | none => s
    | some d => (s.popDesc r).timeSample d)

end Sys2Proof.Machine
end

