-- ==== Sys2Proof/Machine/TxSfm.lean ====
section
/-! DEFINITION. The meaning of TX_SFM: everything that applies at a transmit superframe boundary (01_architecture.md R22 to
R29, R569, R570; 05_line_framing.md R151, R155, R172 to R175; 07_placement.md R244; 08_pair_protection.md R281, R282;
09_timing.md R337; 10_cipher.md R347 to R354; 13_calibration.md R456). -/
namespace Sys2Proof.Machine

/-! ### Pilots (13 R456) -/

/-- The format level that the superframe which starts is sent at (05 R174). -/
def State.lvlNext (s : State) (n : Nat) : Nat :=
  match (s.txOf n).fmtPend with
  | some far => min (s.fmtMax n) far
  | none => min (s.txOf n).lvl (s.fmtMax n)

/-- The pilots an engine is to send. -/
def State.pilotChoice (s : State) (n : Nat) : Nat :=
  if !s.on .CAL_CTRL_pilot_en || !s.lpn n || decide (s.lvlNext n < 3) then 0
  else if s.on .CAL_ENG_STATUS_requesting n then 1
  else if (s.rxOf n).sinceReq < 8 then 2
  else 0

/-- The pilots last decided: those that wait for their target, else those sent. -/
def State.pilotLast (s : State) (n : Nat) : Nat :=
  match (s.txOf n).shadows.find? (fun h => decide (h.what = .pilot)) with
  | some h => h.val.toNat
  | none => s.rd .CAL_ENG_STATUS_pilot_tx n

/-- Decide the pilots; a new choice applies now, or at its target while it is mirrored (13 R456; 08 R282, R305). -/
def State.pilotStep (s : State) (n : Nat) : State :=
  let c := s.pilotChoice n
  if s.modeNow == 5 || c == s.pilotLast n then s
  else
    let t := s.newTarget n
    (s.addShadow n .pilot c t).mirror n (t.getD 0) (changeRec 6 (beBytes 1 n ++ beBytes 1 c))

/-! ### Format level (05 R174, R175) -/

/-- An engine returns to nominal rate without a marker: the slot table is cut to the nominal slots, and a tributary that
held a slot beyond them loses all of its slots on the engine and is unplaced: what it holds on other engines leaves by their
next maps (R175; 07_placement.md R241, R261). -/
def State.nominalReturn (s : State) (n : Nat) : State :=
  let m := (s.txOf n).map
  let count := nomSlots (s.prof n)
  let lost := m.tribs.filter (fun t => (m.held t).any (fun k => decide (count ≤ k)))
  let (g, s) := s.nextGen n
  let cut := lost.foldl (fun x t => x.drop t) (m.cut (nomRate (s.prof n)))
  let s := s.modTx n (fun x => { x with map := { cut with gen := g }, next := none, kept := [] })
  let s := s.modSk n (fun k => { k with man := none, plan := none, want := 0, resync := true })
  let s := ((s.recutShares n).setSw n 0).txMapShow n
  (lost.foldl (fun u t => (u.modTrib t (fun x => { x with unpl := true })).placeShow t 0 1) s).placeShowAll

/-- Below level 3 nominal rate alone is sent: a next map at another is dropped, and a marker that is on its way to it mismatches
(R175; 01_architecture.md R27, R28). -/
def State.offNominal (s : State) (n : Nat) : State :=
  if (s.txOf n).next.any (fun m => m.rate != nomRate (s.prof n)) then
    let s := (s.withdraw n).modSk n (fun k => { k with want := 0, work := 0, plan := none, loaded := [], applied := [], resync := true })
    if s.swState n == 1 || s.swState n == 2 then s.setSw n 0 else s
  else s

/-- The level sent at this SFM (R174), and the return to nominal rate where it falls below 3 (R175). In REGENERATOR there is no map, and
each frame is brought to nominal rate as it is sent (State.regenLevel). -/
def State.levelStep (s : State) (n : Nat) : State :=
  let x := s.txOf n
  let lvl := s.lvlNext n
  let s := s.modTx n (fun x => { x with fmtPend := none, fmtAdv := s.fmtMax n })
  let s := if lvl == x.lvl then s else s.setLevel n lvl
  if lvl < 3 && s.modeNow != 3 then
    if x.map.rate != nomRate (s.prof n) then s.nominalReturn n else s.offNominal n
  else s

/-! ### Marker (01 R569, R570) -/

/-- The marker that is due at this superframe meets the transmit stages; the switch superframe is marked (05 R165). -/
def State.markerStep (s : State) (n psc : Nat) : State :=
  let x := s.txOf n
  match x.marker with
  | some (g, t) =>
    if dueAt psc t then
      let applies := (x.next.map (·.gen)) == some g
      (s.modTx n (fun x => { x with marker := none, mkNow := applies || x.mkResume, mkResume := false })).markerMeet n g
    else s.modTx n (fun x => { x with mkNow := x.mkResume, mkResume := false })
  | none => s.modTx n (fun x => { x with mkNow := x.mkResume, mkResume := false })

/-! ### Messages (10 R347, R348, R353, R354) -/

/-- The message of a locker in the superframe that starts, if its slot holds a key. -/
def State.newMessage (s : State) (n l : Nat) : Option CipherTx :=
  let kp := s.rd .CIPH_ENG_CTRL_tx_kp n
  let slot := s.slotFor l kp
  let x := s.txOf n
  let sc := SMap.get 0 (s.lockOf l).sc n
  let mb := s.memberBit
  let fin := b2n x.endSel
  if slot.key.isNone then none
  else some { locker := l, key := slot.key, kgen := slot.kgen, sc := sc, iv := cipherIv mb fin n l slot.kgen sc,
              aad := cipherAad mb fin n l slot.kgen sc (s.stMap n .framer).rate (s.stMap n .framer).gen kp }

/-- Slots of placed tributaries whose bytes are sent as 0x00 for want of a binding or a key (R348). -/
def State.keyless (s : State) (n : Nat) : Nat :=
  let m := s.stMap n .cipher
  let kp := s.rd .CIPH_ENG_CTRL_tx_kp n
  (m.tribs.filter (fun t =>
    match s.lockerOf t with
    | none => true
    | some l => (s.slotFor l kp).key.isNone)).foldl (fun a t => a + (s.slotsIn m t).length) 0

/-- Every enabled locker's SC moves on at the engine's SFM (R353). -/
def State.scStep (s : State) (n : Nat) : State :=
  (s.ringsWith .CIPH_LOCK_CTRL_lock_en 1).foldl (fun u l =>
    u.modLock l (fun k => { k with sc := SMap.mod 0 k.sc n (fun c => (c + 1) % 2 ^ 48) })) s

/-- The messages of the superframe that starts; the halt of R370 ends here. CIPH_NO_KEY counts the bytes that a superframe sends as
0x00, 36 in each slot of each of its 256 frames (R348; 05_line_framing.md R152). -/
def State.messageStep (s : State) (n : Nat) : State :=
  let s := s.haltEnd
  let on := s.ciphering n && decide (3 ≤ (s.txOf n).lvl)
  let new := if on && !s.on .CIPH_EV_halted then (s.mapLockers (s.stMap n .cipher)).filterMap (fun l => s.newMessage n l) else []
  let miss := if on then s.keyless n else 0
  let s := s.modTx n (fun x => { x with prev := x.msgs, msgs := new })
  let s := if miss == 0 then s else s.count (cEng n 11) (36 * 256 * miss)
  s.scStep n

/-! ### Blocks of the superframe (05 R172; 07 R244; 09 R337; 11 R396) -/

/-- An overhead block of the host goes out, at the first SFM at least 2 µs after its data was fetched (11 R396) at which its
CQ is not full (11 R400); one in which a word carries the uncorrectable mark goes out as not valid (log entry 177). -/
def State.ohbSend (s : State) (n size : Nat) : State :=
  match (s.txOf n).ohb with
  | [] => s.modTx n (fun x => { x with gcc := [], gccValid := false })
  | b :: rest =>
    if todElapsed b.tod s.tim.tod < 2000 * 65536 || s.cqFull b.d.cq then s.modTx n (fun x => { x with gcc := [], gccValid := false })
    else
    let s := s.modTx n (fun x => { x with ohb := rest, gcc := padTo size b.data, gccValid := !b.bad })
    s.complete { d := b.d, trunc := decide (size < b.data.length), detail := (s.txOf n).psc,
                 moved := min size b.data.length }

/-- The GCC0 block of the superframe. -/
def State.gccStep (s : State) (n : Nat) : State :=
  if s.on .LE_FRM_CTRL_ohb_gcc_en n && s.rd .LE_FRM_OHB_ohb_len n != 0 then s.ohbSend n (s.rd .LE_FRM_OHB_ohb_len n)
  else if s.hasChan n then
    let b := s.placeBlock n
    s.modTx n (fun x => { x with gcc := b, gccValid := true })
  else s.modTx n (fun x => { x with gcc := [], gccValid := false })

/-- A stamp of the time-transfer block, 11 bytes; one that does not stand yet is a free value (log entry 42). -/
def State.stampBytes (s : State) : Option Nat → List Byte
  | some t => beBytes 11 (stamp88 t)
  | none => beBytes 11 (Config.freeWord s.free).toNat

/-- The time-transfer block of the superframe (09 R337). -/
def State.ttBlock (s : State) (n psc : Nat) : List Byte :=
  let id := psc % 65536
  let hdr := fun (k : Nat) => beBytes 1 (k * 64 + s.advQual n * 4 + s.rd .TIM_DPLL0_STATUS_tod_trace) ++ [0] ++ beBytes 2 id
  let body := if id % 2 == 0 then
      let tx := stampOf (SMap.get [] s.tim.txSt n) ((id + 65534) % 65536)
      let rx := (SMap.get [] s.tim.rxSt n).head?
      hdr 0 ++ s.stampBytes tx ++ beBytes 2 ((rx.map (·.psc)).getD (Config.freeWord (s.free + 1)).toNat)
        ++ s.stampBytes (rx.map (·.tod)) ++ [0, 0]
    else
      hdr 1 ++ beBytes 4 (s.rd .TIM_TT_NU_nu_tx n) ++ beBytes 3 (s.rd .LE_CD_EST_cd_est n)
        ++ beBytes 1 (s.rd .LE_CD_EST_cd_valid n) ++ List.replicate 18 0
  body ++ beBytes 2 (crc16 body)

/-- The time-transfer block is filled while tt_en = 1 and the level sent is 2 or above (09 R337). -/
def State.ttStep (s : State) (n psc : Nat) : State :=
  if s.on .TIM_TT_CTRL_tt_en && decide (2 ≤ (s.txOf n).lvl) then
    let b := s.ttBlock n psc
    { s.modTx n (fun x => { x with tt := b }) with free := s.free + 2 }
  else s.modTx n (fun x => { x with tt := [] })

/-- The transmit stamp of the superframe, with the delay to the fibre (09 R338, R345). -/
def State.txStamp (s : State) (n psc tod : Nat) : State :=
  let tod := stamp25 tod
  let st : Stamp := { psc := psc, tod := todAdd tod (of10ps (s.rdInt .TIM_TT_CFG_tx_ext n)) }
  let s := { s with tim := { s.tim with txSt := SMap.mod [] s.tim.txSt n (fun l => (st :: l).take 64) } }
  { s with pair := { s.pair with txSfm := SMap.set 0 s.pair.txSfm n tod, sfmPsc := SMap.set 0 s.pair.sfmPsc n psc } }

/-! ### The boundary -/

/-- What applies at the SFM of superframe `psc` of an engine on an LP-N profile, and the blocks it sends. -/
def State.sfmVosko (s : State) (n psc : Nat) : State :=
  let s := (s.levelStep n).markerStep n psc
  let s := s.messageStep n
  let s := (s.gccStep n).ttStep n psc
  s.modTx n (fun x => { x with sfm := true, swLeft := x.swLeft - 1 })

/-- TX_SFM: at ToD `tod` the engine's next superframe begins: frame 0 of a Vosko superframe, or the frame of multiframe
count 0 of an interoperable format (R150), whose SFM moves the SCs too (10_cipher.md R353) and ends a halt (R370). -/
def State.txSuperframe (s : State) (n tod : Nat) : State :=
  let s := s.atTod tod
  let psc := ((s.txOf n).psc + 1) % 2 ^ 32
  let s := s.modTx n (fun x => { x with psc := psc })
  let s := ((s.commitAtSfm n).pilotStep n).applyShadows n psc
  if !(s.txOf n).on then s
  else
    let s := if s.lpn n then (s.ttBlind n).sfmVosko n psc else (((s.haltEnd.scStep n).modTx n (fun x => { x with fn := 0 })).gccStep n)
    s.txStamp n psc (tod % todMod)

/-- TX_SFM (R155, R22). -/
def execTxSfm (n : Eng) (tod : Nat) (s : State) : Host.Outcome State Fault Refusal :=
  ok (if !s.hasEng n || !(s.txOf n).on || (s.lpn n && ((s.txOf n).fn != 0 || (s.txOf n).sfm)) then s
    else s.txSuperframe n tod)

end Sys2Proof.Machine
end

