-- ==== Sys2Proof/Machine/PairTime.lean ====
section
/-! DEFINITION. Meanings of the TIME cells and of laser matching (08_pair_protection.md R281, R287, R288;
09_timing.md R344, R345). Times of a TIME cell count units of 2^-10 ns within a second. -/
namespace Sys2Proof.Machine

/-- One second in the units of a TIME cell. -/
def cellSec : Nat := 1000000000 * 1024

/-- The [39:0] part of the timestamp of a ToD (R345). -/
def cellTime (tod : Nat) : Nat := stamp88 tod % 2 ^ 40

/-- Difference of two times of TIME cells, folded into half a second either way. -/
def cellDiff (a b : Nat) : Int :=
  let r := ((a : Int) - b) % (cellSec : Nat)
  if (cellSec : Int) < 2 * r then r - (cellSec : Nat) else r

/-- Engine whose SFM the next TIME cell gives: the in-service engines in turn (R345); LE0 where there is none. -/
def State.timeEng (s : State) : Nat :=
  let l := s.servedEngs
  ((l.find? (fun n => decide (s.pair.tcEng ≤ n))).getD (l.headD 0))

/-- The TIME cell that departs at ToD `tod`, stamped to 25 ps (R345; 01_architecture.md R18). -/
def State.timeCell (s : State) (tod : Nat) : State :=
  let tod := stamp25 tod
  let s := s.atTod tod
  let n := s.timeEng
  let id := s.pair.cellId
  let dep := ((s.pair.deps.find? (fun x => x.1 == (id + 65535) % 65536)).map (·.2)).getD 0
  let cell := mkCell 6 (beBytes 4 (SMap.get 0 s.pair.sfmPsc n) ++ beBytes 1 n
    ++ beBytes 5 (cellTime (SMap.get 0 s.pair.txSfm n)) ++ beBytes 2 id ++ beBytes 5 dep
    ++ beBytes 2 s.pair.peerCell ++ beBytes 5 s.pair.peerArr ++ beBytes 1 (s.rd .TIM_DPLL0_STATUS_tod_trace))
  let now := (id, cellTime tod)
  (s.sendCell 0 cell).modPair (fun p =>
    { p with cellId := (id + 1) % 65536, deps := (now :: p.deps).take 8, tcEng := n + 1 })

/-- TIME_CELL_TICK: every 4 us while link_state is UP and the PAIR clock runs (R345; 14 R464). -/
def execTimeCellTick (tod : Nat) (s : State) : Host.Outcome State Fault Refusal :=
  ok (if s.linkUp && s.awake then s.timeCell tod else s)

/-- How far this member's ToD is ahead of the peer's by the two-way exchange that a cell completes, in 2^-10 ns; none where
one of the four times is not known (R344, R345). -/
def State.todAhead (s : State) (c : List Byte) : Option Int :=
  let id := cellField c 11 2
  if s.pair.peerCell != (id + 65535) % 65536 then none
  else match s.pair.deps.find? (fun x => x.1 == cellField c 18 2) with
    | none => none
    | some d => some ((cellDiff s.pair.peerArr (cellField c 13 5) - cellDiff (cellField c 20 5) d.2) / 2)

/-- Align ToD to the ACTIVE's in FOLLOW: a difference beyond step_thr is a step, a smaller one is slewed silently
(R326, R327, R344; log entry 48). -/
def State.followTod (s : State) (ahead : Int) : State :=
  let new := todAdd s.tim.tod (-(ahead * 64))
  let s := if 10 * (max 1 (s.rd .TIM_DPLL0_CTRL_step_thr)) * 1024 < ahead.natAbs then s.stepTod new else
    { s.atTod new with tim := { s.tim with tod := (s.atTod new).tim.tod, moved := s.tim.moved - ahead * 64 } }
  let move := fun (t : Nat) => (((t : Int) - ahead) % (cellSec : Nat)).toNat
  s.modPair (fun p => { p with deps := p.deps.map (fun x => (x.1, move x.2)), peerArr := move p.peerArr })

/-- Own transmit SFM time of a superframe of an engine, without the delay to the fibre. -/
def State.ownSfm (s : State) (n psc : Nat) : Option Nat :=
  ((SMap.get [] s.tim.txSt n).find? (fun x => x.psc == psc)).map (fun x =>
    cellTime (todAdd x.tod (-(of10ps (s.rdInt .TIM_TT_CFG_tx_ext n)))))

/-- On entry to SHADOW an engine's PSC is set to the ACTIVE's: the count of the superframe nearest in time, of 14.7456 us
each (08 R281). -/
def State.setPsc (s : State) (n psc time : Nat) : State :=
  if SMap.get false s.pair.pscSet n then s
  else
    let own := (s.txOf n).psc
    let d := match s.ownSfm n own with
      | some t => roundUp (cellDiff t time * 10000) (147456 * 1024)
      | none => 0
    (s.modTx n (fun x => { x with psc := (((psc : Int) + d) % (2 ^ 32 : Nat)).toNat })).modPair (fun p =>
      { p with pscSet := SMap.set false p.pscSet n true })

/-- sfm_skew of an engine: own SFM less the ACTIVE's of the same PSC, in 0.1 ns, at most what the field holds; the transmit
clock is steered to drive it to 0: faster while the own SFM is the later one. By how much, within ±25 ppm, is not stated: a
free value (08 R288; log entry 176). -/
def State.sfmSkew (s : State) (n psc time : Nat) : State :=
  match s.ownSfm n psc with
  | none => s
  | some t =>
    let k := clampInt (-32767) 32767 (roundUp (cellDiff t time * 10) 1024)
    let v : Int := (Config.freeWord s.free).toNat % 250000001
    ((s.wrInt .PAIR_SKEW_sfm_skew n k).modTx n (fun x =>
      { x with steer := if 0 < k then v else if k < 0 then -v else 0 })).tick.clampRefresh

/-- Take a TIME cell that arrives at ToD `tod`, stamped to 25 ps (R344, R345; 01_architecture.md R18; 08 R281, R288). -/
def State.timeTake (s : State) (c : List Byte) (tod : Nat) : State :=
  let tod := stamp25 tod
  let s := s.atTod tod
  let ahead := s.todAhead c
  let s := s.modPair (fun p => { p with peerCell := cellField c 11 2, peerArr := cellTime tod })
  if s.d0 != 5 then s
  else
    let s := match ahead with
      | some x => s.followTod x
      | none => s
    let v := byteAt c 25 % 4
    let s := if s.rd .TIM_DPLL0_STATUS_tod_trace == v then s else s.setTrace v
    let n := byteAt c 5
    let psc := cellField c 1 4
    let time := cellField c 6 5
    if !s.hasEng n || s.modeNow != 5 || ahead.isNone then s
    else ((s.setPsc n psc time).sfmSkew n psc time).readyRefresh

/-- TIME_CELL_RX (R345). -/
def execTimeCellRx (cell : List Byte) (tod : Nat) (s : State) : Host.Outcome State Fault Refusal :=
  ok (if s.linkUp && cellOk 6 cell then s.timeTake cell tod else s)

/-- df_n of an engine where both readings are valid, in MHz: own fo_est less the peer's (08 R287). The peer's engine bit stands for the validity of its reading (DEDUCED, log entry 222). -/
def State.dfNow (s : State) (n : Nat) : Option Int :=
  if s.on .LE_FO_EST_fo_valid n && s.linkUp && s.pair.peer.engOk.testBit n then
    some (s.rdInt .LE_FO_EST_fo_est n - s.pair.peer.fo.getD n 0)
  else none

/-- Match the laser of an engine: beyond 25 MHz a fine-tuning command by df_n goes to its optical subassembly (08 R287,
R308). -/
def State.laserMatch (s : State) (n : Nat) : State :=
  match s.dfNow n with
  | none => s.modPair (fun p => { p with dfV := setBit p.dfV n false })
  | some df =>
    let old := s.rd .PAIR_MATCH_df
    let byte := toTwos 8 (clampInt (-127) 127 df)
    let s := s.wr .PAIR_MATCH_df 0 (old - fieldOf old (8 * n) 8 * 2 ^ (8 * n) + byte * 2 ^ (8 * n))
    let s := s.modPair (fun p => { p with dfV := setBit p.dfV n true })
    if 25 < df.natAbs then (s.modPair (fun p => { p with tune := SMap.mod 0 p.tune n (· + df) })).emit (.tune n df) else s

/-- LASER_MATCH_TICK: every 10 ms in SHADOW (08 R287). -/
def execLaserMatchTick (s : State) : Host.Outcome State Fault Refusal :=
  ok (if s.modeNow == 5 && s.awake then (s.servedEngs.foldl (fun t n => t.laserMatch n) s).readyRefresh else s)

end Sys2Proof.Machine
end

