-- ==== Sys2Proof/Machine/Perf.lean ====
section
/-! DEFINITION. Meanings of the commands of the inventory reader (16_counters_and_events.md). -/
namespace Sys2Proof.Machine

/-- SNAP_NOW: a demand for a walk (R522). -/
def execSnapNow (tod : Nat) (s : State) : Host.Outcome State Fault Refusal := 
  ok ((s.atTod tod).fieldWrite .host .PERF_INV_CTRL_snap_now 0 1)

/-- SNAP_PERIOD: snap_period has passed; none while it is 0 (R522). -/
def execSnapPeriod (tod : Nat) (s : State) : Host.Outcome State Fault Refusal :=
  ok (if s.rd .PERF_INV_CTRL_snap_period == 0 then s else s.startWalk tod 2)

/-- WALK_END: the snapshot is written or dropped, and a held walk starts (R521 to R523). -/
def execWalkEnd (tod : Nat) (s : State) : Host.Outcome State Fault Refusal :=
  ok (match s.perf.walk with
    | none => s
    | some w =>
      let held := s.perf.heldWalk
      let s := ({ s with perf := { s.perf with walk := none, heldWalk := none } }).writeSnap w
      let s := { s with wlog := [] }
      match held with
      | none => s
      | some c => s.startWalk tod c)

/-- HK_RECORD_FLUSH: hk_flush has passed since the first word of the record (R524). -/
def execHkRecordFlush (s : State) : Host.Outcome State Fault Refusal := ok s.writeHkRecord

/-- COUNTER_LATCH: a write of PERF_CNT_SEL (R535). -/
def execCounterLatch (val : Nat) (s : State) : Host.Outcome State Fault Refusal := 
  ok (s.regTake .host .PERF_CNT_SEL 0 val)

end Sys2Proof.Machine
end

