-- ==== Sys2Proof/Machine/PlaceIn.lean ====
section
/-! DEFINITION. Meanings of the placement-channel block and of the reports of the map stages, after which an engine that only waited for
its marker commits (07_placement.md R245 to R250; 02_modes.md R66). -/
namespace Sys2Proof.Machine

/-- A placement-channel block of engine `n` (R245 to R250, R255 to R260): in SHADOW the Storekeeper decides on the mirrored inputs (R263),
and only the receive shadows take the block. -/
def State.placeBlockIn (s : State) (n : Nat) (blk : List Byte) (mark : Bool) : State :=
  if !s.hasChan n then s
  else if !blockValid blk mark then (s.modSk n (fun k => { k with okRun := 0 })).count (cEng n 18)
  else
    let s := (s.mirror n 0 (placeIn n 1 (slice blk 0 20))).manTake n blk
    if s.modeNow == 5 then s else ((s.blockInput n blk).blockSwitch n).commitIdle

/-- PLACE_BLOCK_RX: the block that the command brings, or where it brings none the last that the framer gathered
(01_architecture.md R12; log entry 215). -/
def execPlaceBlockRx (n : Eng) (blk : List Byte) (mark : Bool) (s : State) : Host.Outcome State Fault Refusal :=
  ok (if !blk.isEmpty then s.placeBlockIn n blk mark
    else match (s.rxOf n).placeDone with
      | none => s
      | some b => (s.modRx n (fun x => { x with placeDone := none })).placeBlockIn n b.data (mark || b.bad))

/-- MAP_STAGE_REPORT (R25, R249, R250; 08_pair_protection.md R305). -/
def execMapStageReport (n : Eng) (st : MapStage) (rep : StageRep) (s : State) : Host.Outcome State Fault Refusal :=
  ok (if !s.hasEng n then s
    else
      let g := ((s.skOf n).man.map (·.gen)).getD 0
      ((s.mirror n 0 (placeIn n 2 (beBytes 1 st.ctorIdx ++ beBytes 1 rep.ctorIdx ++ beBytes 2 g))).stageReport n st rep).commitIdle)

end Sys2Proof.Machine
end

