-- ==== Sys2Proof/Machine/Pm.lean ====
section
/-! DEFINITION. Meanings of the performance-second events (05_line_framing.md R185 to R191). -/
namespace Sys2Proof.Machine

/-- Blocks of an interval of `len` µs (R185). -/
def State.pmBlocks (s : State) (n len : Nat) : Nat :=
  if s.lpn n then len * 10000 / 576 else len * 10000 / (Config.fecBlock (s.prof n)).toNat

/-- Errored blocks make the interval severely errored: 15 % of its blocks and at least one (R185, log entry 16). -/
def severe (errs blocks : Nat) : Bool := errs != 0 && decide (15 * blocks ≤ 100 * errs)

/-- Latch the counts of one engine and start new ones (R185, R186, R192). A length beyond the field saturates (log entry 207). -/
def State.pmLatch (s : State) (n len : Nat) : State :=
  let p := s.pmOf n
  let blocks := s.pmBlocks n len
  let sf := p.defs % 8 != 0
  let es := p.eb != 0 || sf
  let ses := severe p.eb blocks || sf
  let rdi := p.defs.testBit 3
  let fes := p.feb != 0 || rdi
  let fses := severe p.feb blocks || rdi
  let sesRun := if ses then min 10 (p.sesRun + 1) else 0
  let okRun := if ses then 0 else min 10 (p.okRun + 1)
  let unav := if p.unav then okRun != 10 else sesRun == 10
  let standing := b2n (s.on .LE_FRM_STATUS_dlos n) + 2 * b2n (s.on .LE_FRM_STATUS_dlof n)
    + 4 * b2n (s.on .LE_FRM_STATUS_dais n) + 8 * b2n (s.on .LE_FRM_STATUS_drdi n)
  let t := s.wrs [(.LE_PM_BIP_bip_err, n, satNat 32 p.bip), (.LE_PM_BEI_bei_err, n, satNat 32 p.bei),
    (.LE_PM_EB_eb, n, satNat 32 p.eb), (.LE_PM_FEB_feb, n, satNat 32 p.feb),
    (.LE_PM_SEC_es, n, b2n es), (.LE_PM_SEC_ses, n, b2n ses), (.LE_PM_SEC_fes, n, b2n fes),
    (.LE_PM_SEC_fses, n, b2n fses), (.LE_PM_SEC_uas, n, b2n unav), (.LE_PM_SEC_uas_edge, n, b2n (unav != p.unav)),
    (.LE_PM_SEC_irregular, n, b2n (decide (len < 999000) || decide (1001000 < len))),
    (.LE_PM_SEC_traceable, n, b2n (s.rd .TIM_DPLL0_STATUS_tod_trace == 1 || s.rd .TIM_DPLL0_STATUS_tod_trace == 2)),
    (.LE_PM_SEC_defect_sec, n, p.defs % 16), (.LE_PM_SEC_pm_seq, n, s.rd .LE_PM_SEC_pm_seq n + 1),
    (.LE_PM_LEN_pm_len, n, satNat 21 len)]
  t.modPm n (fun _ => { defs := standing, sesRun := sesRun, okRun := okRun, unav := unav })

/-- The interval in progress ends at `tod`: every engine in service latches, suppressed records are summed up, and a
walk starts if it is asked for (R185, R187, 16 R522, R529). -/
def State.pmEnd (s : State) (tod : Nat) : State :=
  let len := todElapsed s.tim.pmPrev tod / 65536000
  let s := (upTo s.engines).foldl (fun t n => if t.inService n then t.pmLatch n len else t) s
  let s := { s with tim := { s.tim with pmPrev := tod, stepAt := none } }
  let s := s.summaries
  if s.on .PERF_INV_CTRL_pm_snap_en then s.startWalk tod 1 else s

/-- A PM boundary falls at `tod`: a whole second of the time of day plus pm_offset (R187). -/
def State.pmDue (s : State) (tod : Nat) : Bool :=
  ((tod : Int) - s.rdInt .PERF_PM_OFFSET_pm_offset * 131072) % (todSec : Nat) == 0

/-- PM_BOUNDARY: after a step, the first boundary at least 100 ms later counts (R187); at another time nothing ends. -/
def execPmBoundary (tod : Nat) (s : State) : Host.Outcome State Fault Refusal :=
  ok (let t := s.atTod tod
    if !s.pmDue tod then t
    else match s.tim.stepAt with
    | some a => if todElapsed a tod < todSec / 10 then t else t.pmEnd tod
    | none => t.pmEnd tod)

/-- Half a second, in 2 ns units. -/
def halfSec2ns : Int := 250000000

/-- A time difference in 2 ns units brought into (-500, +500] ms. -/
def foldHalf (x : Int) : Int :=
  let r := x % (2 * halfSec2ns)
  if halfSec2ns < r then r - 2 * halfSec2ns else r

/-- delta of an edge: its distance from the nearest PM boundary, in 2 ns units (R188). -/
def State.pmDelta (s : State) (tod : Nat) : Int :=
  foldHalf (((tod + 65536) / 131072 : Nat) - s.rdInt .PERF_PM_OFFSET_pm_offset)

/-- PM_SYNC_EDGE at ToD `tod` (R188 to R191). A time-of-day step of the same TIM cycle stands before the edge in the queue, and
`tod` is then of the new timescale (R191; log entry 168). -/
def execPmSyncEdge (tod : Nat) (s : State) : Host.Outcome State Fault Refusal :=
  ok (let t := s.atTod tod
    if !s.on .PERF_PM_SYNC_pm_sync_en then t
    else if (s.tim.pmEdge.map (fun e => decide (todElapsed e tod ≤ todSec * 9 / 10))).getD false then
      t.wr .PERF_PM_SYNC_pm_sync_ignored 0 (satNat 16 (s.rd .PERF_PM_SYNC_pm_sync_ignored + 1))
    else
      let d := s.pmDelta tod
      let t := { t with tim := { t.tim with pmEdge := some tod } }
      if 50000000 < d.natAbs then
        (t.setEv .PERF_PM_SYNC_pm_sync_refused 0).raise (.perf .pmSyncRefused) { arg := some (toTwos 64 d) }
      else
        let t := t.wrInt .PERF_PM_OFFSET_pm_offset 0 (foldHalf (s.rdInt .PERF_PM_OFFSET_pm_offset + d))
        if d < 0 then t.pmEnd tod else t)

end Sys2Proof.Machine
end

