-- ==== Sys2Proof/Machine/Power.lean ====
section
/-! DEFINITION. Meanings of POWER_SET and of the ends of an entry and an exit (14_power_and_cellar.md R464 to R474, R482). -/
namespace Sys2Proof.Machine

/-- Complete a POWER_SET, whose tag is remembered (R465; 02_modes.md R38). -/
def State.powerDone (s : State) (d : Desc) (status detail : Nat) : State :=
  { s with mode := { s.mode with pwrMem := remember s.mode.pwrMem (fieldOf d.param0 16 16) status detail } }.done d status
    detail

/-- A request for a state may be made from the present mode, role and state (R466; 02_modes.md R53, R54). -/
def State.powerLegal (s : State) (st : Nat) : Bool :=
  let m := s.modeNow
  match st with
  | 0 => true
  | 1 => s.powerNow == 0 && m != 4
  | 4 => decide (s.powerNow ≤ 1) && m == 0 && s.role == 0
  | _ => decide (s.powerNow ≤ 1) && m != 4 && m != 5 && s.role == 0

/-- Reason for which a request is refused, in the codes of 02_modes.md R58 (R465). -/
def State.powerErr (s : State) (w : Nat) : Nat :=
  if s.on .SYS_MODE_busy || s.pwr.entry.isSome || s.pwr.exitFrom.isSome then 1
  else if 5 ≤ w % 8 || fieldOf w 3 13 != 0 then 2
  else if w % 8 == s.powerNow then 0
  else if s.powerLegal (w % 8) then 0
  else 6

/-- A refused request (R465; 02_modes.md R60 to R62). -/
def State.powerRefuse (s : State) (d : Desc) (reason : Nat) : State :=
  let detail := s.modeDetail { reason := reason, kind := 5 } s.modeNow s.role
  (s.raiseCount (.perf .modeRefused) { arg := some detail, detail := detail } 534).powerDone d 1 detail

/-- An accepted request commits (R466): RUN and TRIM change at once, a sleep begins its entry, NAP ends. The trapdoor closes
at the commit of MOTHBALL and OFF, and a SEALED part going to MOTHBALL purges its keys (15_security_and_config.md R493,
R501). -/
def State.powerCommit (s : State) (st : Nat) : State :=
  if st ≤ 1 then
    if s.powerNow == 2 then s.wake .PWR_WAKE_SRC_host 1 else s.wr .PWR_STATUS_state 0 st
  else
    let s := (s.modPwr (fun p => { p with entry := some st })).wrs [(.PWR_STATUS_busy, 0, 1), (.SYS_MODE_busy, 0, 1)]
    if st == 2 then s
    else
      let s := s.trapShut
      if st == 3 && s.lcState == 2 then s.purgeAll else s

/-- Carry out a POWER_SET (R465, R466). -/
def State.powerSet (s : State) (d : Desc) : State :=
  let w := d.param0
  match s.mode.pwrMem.find? (fun m => m.tag == fieldOf w 16 16) with
  | some m => s.done d m.status m.detail
  | none =>
    let e := s.powerErr w
    if e != 0 then s.powerRefuse d e
    else
      let s := s.powerDone d 0 0
      if w % 8 == s.powerNow then s else s.powerCommit (w % 8)

/-- POWER_SET (R465). -/
def execPowerSet (r : RingId) (s : State) : Host.Outcome State Fault Refusal :=
  ok (let s := s.settle r 3
    match s.headDesc r 3 with
    | none => s
    | some d => (s.popDesc r).powerSet d)

/-- The entry into a state ends: domains off, pads held, PWR_MAIN_EN low (R464, R466, R474, R482; K4 of
15_security_and_config.md R500). -/
def State.entryDone (s : State) (st rtc tod : Nat) : State :=
  let s := (s.modPwr (fun p => { p with entry := none })).wrs [(.PWR_STATUS_busy, 0, 0), (.SYS_MODE_busy, 0, 0)]
  let s := s.atRtc rtc
  match st with
  | 2 => s.sleep 2
  | 3 => (((s.sleep 3).mothball tod).mainOff 0x52).logAdd 4 0
  | _ => (((s.sleep 4).mothball tod).purgeAll.mainOff 0x52).logAdd 5 0

/-- POWER_ENTRY_DONE; a wake latched during the entry then starts the exit at once (R472). -/
def execPowerEntryDone (rtc tod : Nat) (s : State) : Host.Outcome State Fault Refusal :=
  ok (match s.pwr.entry with
    | none => s
    | some st =>
      let s := s.entryDone st rtc tod
      if s.pwr.wakeLat && st != 4 then s.exitStart else s)

/-- An exit to RUN ends (R466, R473; 02_modes.md R71; 09_timing.md R324; 17_register_map.md R542): the domains run, writes that
waited for their clock take effect, a held mode is to resume; from MOTHBALL every rail is in range and DPLL0 starts in
FREERUN. -/
def State.exitDone (s : State) (st : Nat) : State :=
  let s := (s.modPwr (fun p => { p with exitFrom := none, tries := 0 })).wrs [(.PWR_STATUS_state, 0, 0),
    (.PWR_STATUS_busy, 0, 0), (.SYS_MODE_busy, 0, 0)]
  let s := if st == 3 then ((s.wr .PWR_RAIL_rail_ok 0 (63 ||| (s.rd .PWR_RAIL_rail_ok &&& 64))).setD0 0).modPwr (fun p => { p with todDue := true }) else s
  let s := { s with mode := { s.mode with resume := s.mode.held } }
  s.clockReplay.tamperReport

/-- POWER_EXIT_DONE (R466); an exit from MOTHBALL ends only with PWR_MAIN_EN high (18_pins_and_electrical.md R556). -/
def execPowerExitDone (s : State) : Host.Outcome State Fault Refusal :=
  ok (match s.pwr.exitFrom with
    | none => s
    | some st => if st == 3 && !s.pin.mainEn then s else s.exitDone st)

end Sys2Proof.Machine
end

