-- ==== Sys2Proof/Machine/Prot.lean ====
section
/-! DEFINITION. Meanings of the protection messages (05_line_framing.md R168 to R171; 08_pair_protection.md R306). -/
namespace Sys2Proof.Machine

/-- The oldest accepted message of an engine that waits for the pair logic, if its code is one of those a command stands
for (05 R169). -/
def State.protHead (s : State) (n : Nat) (p : Nat → Bool) : Bool :=
  match (s.rxOf n).protQ with
  | [] => false
  | m :: _ => s.hasEng n && p m.code

/-- Take that message; UNPROTECTED is sent while a far TX_SUSPECT stands as the last message (R306). -/
def State.protTake (s : State) (n : Nat) : State :=
  (s.modRx n (fun x => { x with protQ := x.protQ.drop 1 })).modTx n (fun x => { x with unprotTx := false })

/-- PROT_NR: no action (R306). -/
def execProtNr (n : Eng) (s : State) : Host.Outcome State Fault Refusal :=
  ok (if s.protHead n (· == 0) then (s.protTake n).protRefresh n else s)

/-- PROT_TX_SUSPECT: an ACTIVE yields with cause TX; any other receiver sends UNPROTECTED (R306). -/
def execProtTxSuspect (n : Eng) (s : State) : Host.Outcome State Fault Refusal :=
  ok (if s.protHead n (· == 1) then
      let s := s.protTake n
      if s.role == 1 then s.faultYield 2
      else (s.modTx n (fun x => { x with unprotTx := true })).protRefresh n
    else s)

/-- PROT_SWITCHED: PAIR_FAR_SWITCHED, and REF11 discards its samples on that engine (R306; 09_timing.md R342). -/
def execProtSwitched (n : Eng) (s : State) : Host.Outcome State Fault Refusal :=
  ok (if s.protHead n (· == 2) then
      (((s.protTake n).raiseReg .PAIR_EV_far_switched 0 { obj := n }).ttDiscard n).protRefresh n
    else s)

/-- PROT_UNPROTECTED: PAIR_FAR_UNPROT (R306). -/
def execProtUnprotected (n : Eng) (s : State) : Host.Outcome State Fault Refusal :=
  ok (if s.protHead n (· == 3) then ((s.protTake n).raiseReg .PAIR_EV_far_unprot 0 { obj := n }).protRefresh n else s)

/-- PROT_BAD_CODE: a reserved code is discarded and counted (R306). -/
def execProtBadCode (n : Eng) (s : State) : Host.Outcome State Fault Refusal :=
  ok (if s.protHead n (fun c => decide (3 < c)) then ((s.protTake n).count 519).protRefresh n else s)

/-- PROT_ACK_TIMEOUT: 8 superframes without the ack of the message sent (05 R171). -/
def execProtAckTimeout (n : Eng) (s : State) : Host.Outcome State Fault Refusal :=
  ok (let x := s.txOf n
    if s.hasEng n && x.on && !x.protAcked && !x.ackLost then
      (s.modTx n (fun x => { x with ackLost := true })).raiseReg .LE_FRM_EV_prot_ack_lost n { obj := n }
    else s)

/-- TX_SUSPECT_START: sig_present without in_frame for 1 ms (R306). -/
def execTxSuspectStart (n : Eng) (s : State) : Host.Outcome State Fault Refusal :=
  ok (if s.lpn n && s.on .LE_STATUS_sig_present n && !s.on .LE_FRM_STATUS_in_frame n then
      (s.modTx n (fun x => { x with suspect := true })).protRefresh n
    else s)

end Sys2Proof.Machine
end

