-- ==== Sys2Proof/Machine/Rails.lean ====
section
/-! DEFINITION. Meanings of the rails' commands (14_power_and_cellar.md R484 to R486; 18_pins_and_electrical.md R555,
R556). -/
namespace Sys2Proof.Machine

/-- Rails that the present state requires (R464), as bits of PWR_RAIL; in a power-up VDD_SRAM and VDD_IO while PWR_MAIN_EN is high
(18_pins_and_electrical.md R558). -/
def State.railsNeeded (s : State) : Nat :=
  if s.pwr.up != 0 then (if s.pin.mainEn then 0x12 else 0)
  else match s.powerNow with
    | 3 => 0x12
    | 4 => 0
    | _ => 0x3F

/-- Nominal values in mV of VDD_CORE, VDD_SRAM, VDD_CONV, VDD_LANE, VDD_IO and VDD_HK (18_pins_and_electrical.md R553). -/
def railNominal : List Nat := [700, 750, 900, 1200, 1800, 3300]

/-- A rail whose least and greatest level in mV over 2 us are given lay below -7 % or above +7 % of its nominal value throughout
(R484). -/
def railBad (nominal : Nat) (seen : Nat × Nat) : Bool :=
  decide (seen.2 * 100 < nominal * 93) || decide (nominal * 107 < seen.1 * 100)

/-- Failed rails as bits of PWR_RAIL, from the least and greatest level of each in 2 us. -/
def railsOut (seen : List (Nat × Nat)) : Nat :=
  ((railNominal.zip seen).zipIdx.map (fun x => if railBad x.1.1 x.1.2 then 2 ^ x.2 else 0)).sum

/-- In OFF VDD_IO leaves before VDD_SRAM, with it, or less than 1 ms, 33 ticks, after it (18_pins_and_electrical.md R558; log entry
231). -/
def State.offOrder (s : State) (out rtc : Nat) : Bool :=
  let ok := s.rd .PWR_RAIL_rail_ok
  out.testBit 4 && ok.testBit 4 && (ok.testBit 1 || (match s.pwr.sramOff with
    | none => false
    | some c => decide ((rtc % 2 ^ 47 + 2 ^ 47 - c) % 2 ^ 47 < 33)))

/-- Failed rails: those the state requires, and in OFF VDD_IO out of its order; none once the sequence has run (R484, R485). -/
def State.railsBad (s : State) (out rtc : Nat) : Nat :=
  if s.pwr.failed then 0
  else if s.powerNow == 4 && s.pwr.up == 0 then (if s.offOrder out rtc then 0x10 else 0)
  else out &&& s.railsNeeded

/-- RAIL_FAIL: what the monitors saw of the rails in 2 us; the loss of a rail that the state does not require is no failure and
shows in PWR_RAIL alone, where the pads end with VDD_IO (R484 to R487, R558). -/
def execRailFail (seen : List (Nat × Nat)) (rtc : Nat) (s : State) : Host.Outcome State Fault Refusal :=
  ok (let s := s.atRtc rtc
    let out := railsOut seen
    let bad := s.railsBad out rtc
    let s := if s.powerNow == 4 && out.testBit 1 && (s.rd .PWR_RAIL_rail_ok).testBit 1 then
        s.modPwr (fun p => { p with sramOff := some (rtc % 2 ^ 47) }) else s
    let s := if bad == 0 then s else (s.railFail bad).readyRefresh
    if s.rd .PWR_RAIL_rail_ok &&& out == 0 then s else s.railsGone out)

/-- VDD_IO_UP: VDD_IO comes into range after the rails were removed, and the power-up begins (R555, R556, R559). -/
def execVddIoUp (s : State) : Host.Outcome State Fault Refusal :=
  ok (if s.powerNow == 4 || s.pwr.failed || s.pwr.up != 0 then
      let s := s.modPwr (fun p => { p with up := 1, upPin := false, tries := 0 })
      let s := { s with pin := { s.pin with mainEn := false, aliveOut := false, pairAct := false } }
      s.padsFresh.wr .PWR_RAIL_rail_ok 0 (0x10 ||| (s.rd .PWR_RAIL_rail_ok &&& 0x40))
    else s)

/-- VDD_SRAM_UP: PWR_MAIN_EN rises (R555); with VDD_IO in range but no power-up begun, as after a rail failure, VDD_SRAM is in
range again and RESET_N is awaited (R485, R557). -/
def execVddSramUp (s : State) : Host.Outcome State Fault Refusal :=
  ok (if s.pwr.up == 1 then
      let s := s.modPwr (fun p => { p with up := 2 })
      { s with pin := { s.pin with mainEn := true } }.wr .PWR_RAIL_rail_ok 0 (s.rd .PWR_RAIL_rail_ok ||| 2)
    else if s.pwr.up == 0 && (s.pwr.failed || s.powerNow == 4) && (s.rd .PWR_RAIL_rail_ok).testBit 4 then
      (s.modPwr (fun p => { p with sramOff := none })).wr .PWR_RAIL_rail_ok 0 (s.rd .PWR_RAIL_rail_ok ||| 2)
    else s)

/-- RAIL_START_TIMEOUT: a switched rail is not in range 50 ms after PWR_MAIN_EN rose (R556). -/
def execRailStartTimeout (rails rtc : Nat) (s : State) : Host.Outcome State Fault Refusal :=
  ok (if s.mainRising && s.pin.mainEn && rails &&& 0x2D != 0 then
      let s := (s.atRtc rtc).modPwr (fun p => { p with tries := p.tries + 1 })
      ({ s with pin := { s.pin with mainEn := false } }).logAdd 3 (rails &&& 0x2D)
    else s)

/-- RAIL_RETRY: 1 s later PWR_MAIN_EN rises again, unless 3 tries have failed (R556). -/
def execRailRetry (s : State) : Host.Outcome State Fault Refusal :=
  ok (if s.mainRising && !s.pin.mainEn && decide (s.pwr.tries < 3) then
      { s with pin := { s.pin with mainEn := true } }
    else s)

end Sys2Proof.Machine
end

