-- ==== Sys2Proof/Machine/Reset.lean ====
section
/-! DEFINITION. Meanings of the resets (17_register_map.md R543, R544; 18_pins_and_electrical.md R555 to R557). -/
namespace Sys2Proof.Machine

/-- WARM_RESET: a write of 1 to warm (R543, R544). -/
def execWarmReset (rq : Requester) (s : State) : Host.Outcome State Fault Refusal := 
  ok (s.fieldWrite rq .SYS_RESET_warm 0 1)

/-- ENGINE_RESET: a write of eng_rst (R543, R544). -/
def execEngineReset (rq : Requester) (mask : Nat) (s : State) : Host.Outcome State Fault Refusal :=
  ok (s.fieldWrite rq .SYS_RESET_eng_rst 0 mask)

/-- COLD_RESET_RELEASE: 1 ms after the last rail has come into range in a power-up (R555, R557). -/
def execColdResetRelease (s : State) : Host.Outcome State Fault Refusal :=
  ok (if s.pwr.up == 2 && s.pin.mainEn then s.coldReset s.pwr.upPin else s)

/-- A COLD reset from RESET_N. In MOTHBALL, in OFF or after a rail failure PWR_MAIN_EN rises and the power-up goes on, from VDD_SRAM
where only VDD_IO is in range; in a power-up RESET_N does not change PWR_MAIN_EN, but for the three failed tries that it ends
(R485, R556, R557); without VDD_IO nothing runs. -/
def State.pinReset (s : State) : State :=
  if decide (s.powerNow ≤ 2) && !s.pwr.failed && s.pwr.up == 0 then s.coldReset true
  else if !(s.rd .PWR_RAIL_rail_ok).testBit 4 then s
  else
    let goes := s.mainRising && decide (s.pwr.tries < 3)
    let sram := (s.rd .PWR_RAIL_rail_ok).testBit 1
    let s := s.padsFresh.modPwr (fun p => { p with up := if sram then 2 else 1, upPin := true, tries := if goes then p.tries else 0,
                                                   entry := none, exitFrom := none, wakeLat := false })
    { s with pin := { s.pin with mainEn := sram && (s.pin.mainEn || !goes) } }

/-- RESET_PIN: a low pulse on RESET_N of a length in ns; shorter than 1 us it is rejected, and between 1 us and 10 us, which
the board must not drive, whether it resets is a free value (R557). -/
def execResetPin (ns : Nat) (s : State) : Host.Outcome State Fault Refusal :=
  ok (if 10000 ≤ ns then s.pinReset
    else if ns < 1000 then s
    else
      let hit := (Config.freeByte s.free).toNat % 2 == 1
      if hit then s.tick.pinReset else s.tick)

end Sys2Proof.Machine
end

