-- ==== Sys2Proof/Machine/Ring.lean ====
section
/-! DEFINITION. Meanings of the ring commands (11_host_rings.md). -/
namespace Sys2Proof.Machine

/-- RING_ENABLE (R381, R382). -/
def execRingEnable (rq : Requester) (r : RingId) (cfg : Nat) (s : State) : Host.Outcome State Fault Refusal :=
  ok (s.regTake rq .HOST_RCTX_CFG r (cfg / 2 * 2 + 1))

/-- RING_DISABLE (R381, R383). -/
def execRingDisable (r : RingId) (cfg : Nat) (s : State) : Host.Outcome State Fault Refusal :=
  ok (s.regTake .host .HOST_RCTX_CFG r (cfg / 2 * 2))

/-- RING_QUIESCED: a QUIESCING ring without outstanding completions becomes DISABLED (R383). -/
def execRingQuiesced (r : RingId) (s : State) : Host.Outcome State Fault Refusal :=
  ok (if s.rd .HOST_RCTX_STATE_state r == 2 && s.ringDrained r then s.wr .HOST_RCTX_STATE_state r 0 else s)

/-- SQ_DOORBELL (R386, R387). -/
def execSqDoorbell (off word : Nat) (s : State) : Host.Outcome State Fault Refusal := ok (s.doorbell off word)

/-- CQ_DOORBELL (R386, R387, R400). -/
def execCqDoorbell (off word : Nat) (s : State) : Host.Outcome State Fault Refusal := ok (s.doorbell off word)

/-- DESC_FETCH (R388, R391 to R395). -/
def execDescFetch (r : RingId) (res : FetchObs) (s : State) : Host.Outcome State Fault Refusal :=
  ok (if s.mayFetch r then s.descFetch r res else s)

/-- The completion of a MODE_SET, PAIR_SWITCH or POWER_SET echoes its request_tag (02_modes.md R36; 08_pair_protection.md R302;
14_power_and_cellar.md R465). The entry of R400 names no place for it: the model records it beside the entry (log entry 158). -/
def State.echoTag (s : State) (ring slot : Nat) (d : Desc) : State :=
  if d.opcode == 1 || d.opcode == 2 || d.opcode == 3 then s.emit (.echo ring slot (fieldOf d.param0 16 16)) else s

/-- COMPLETION_WRITE: the oldest entry waiting for the CQ is written once there is room, or discarded as stale
(R385, R400, R401, R403). -/
def execCompletionWrite (cq : RingId) (s : State) : Host.Outcome State Fault Refusal :=
  ok (match (s.ringOf cq).cplq with
    | [] => s
    | c :: rest =>
      let t := s.modRing cq (fun q => { q with cplq := rest })
      if s.ringActive cq && s.rd .HOST_RCTX_CFG_kind cq == 1 && s.rd .HOST_RCTX_CFG_gen cq == c.d.cqGen then
        if s.cqFull cq then s
        else
          (t.writeEntry cq (cplHead c.d) (cplTail c (c.tod.getD s.tim.tod)) c.d.irq).echoTag cq (s.rd .HOST_RCTX_IDX_dev_idx cq % s.ringSize cq) c.d
      else t.stale)

/-- EVT_OVERFLOW: with 2 slots free the overflow record goes first into the ring that overflowed (R400, R530). -/
def execEvtOverflow (r : RingId) (s : State) : Host.Outcome State Fault Refusal :=
  ok (let n := (s.ringOf r).dropped
    if s.activeCq r 1 && n != 0 && decide (s.cqOcc r + 2 ≤ s.ringSize r) then
      let seq := s.perf.evSeq
      let s := s.evBit (.perf .evtOverflow)
      let s := { s with perf := { s.perf with evSeq := (seq + 1) % 65536 } }
      let s := s.modRing r (fun q => { q with dropped := 0 })
      s.writeEntry r (evHead 0x0600 1 false) (evTail r seq n 0 s.tim.tod) false
    else s)

/-- MSIX_MOD_TIMER: mod_time has passed since the first entry after the last message (R403). -/
def execMsixModTimer (cq : RingId) (s : State) : Host.Outcome State Fault Refusal :=
  ok (if s.ringActive cq && s.rd .HOST_RCTX_CFG_kind cq == 1 && (s.ringOf cq).pend != 0
      && s.rd .HOST_RCTX_IRQ_mod_time cq != 0 then s.cqMessage cq else s)

/-- MSIX_UNMASK: the mask of a vector, or of the function, is written; what is unmasked has its pending messages sent (R404). -/
def execMsixUnmask (m : MsixMask) (s : State) : Host.Outcome State Fault Refusal :=
  ok (match m.v with
    | some v => ({ s with host := { s.host with unmasked := SMap.set false s.host.unmasked v (!m.mask) } }).flushMsix
    | none => ({ s with host := { s.host with maskAll := m.mask } }).flushMsix)

end Sys2Proof.Machine
end

