-- ==== Sys2Proof/Machine/Sec.lean ====
section
/-! DEFINITION. Meanings of the lifecycle commands (15_security_and_config.md R489 to R492, R499, R506). -/
namespace Sys2Proof.Machine

/-- LC_REQ_PROVISION: a write of 1 to lc_req (R490, R492). -/
def execLcReqProvision (rq : Requester) (s : State) : Host.Outcome State Fault Refusal := 
  ok (s.fieldWrite rq .SEC_LC_CTRL_lc_req 0 1)

/-- LC_REQ_SEAL: a write of 2 to lc_req (R490). -/
def execLcReqSeal (rq : Requester) (s : State) : Host.Outcome State Fault Refusal := 
  ok (s.fieldWrite rq .SEC_LC_CTRL_lc_req 0 2)

/-- LC_REQ_RETURN: a write of 3 to lc_req (R490). -/
def execLcReqReturn (rq : Requester) (s : State) : Host.Outcome State Fault Refusal := 
  ok (s.fieldWrite rq .SEC_LC_CTRL_lc_req 0 3)

/-- LC_TRANSITION_DONE: the accepted transition completes (R490). -/
def execLcTransitionDone (s : State) : Host.Outcome State Fault Refusal :=
  ok (match s.sec.lcPend with
    | none => s
    | some (c, b) => s.lcDone c b)

/-- HOST_PRIV_DROP: a write of 1 to host_priv (R499). -/
def execHostPrivDrop (s : State) : Host.Outcome State Fault Refusal := 
  ok (s.fieldWrite .host .SEC_STATE_host_priv 0 1)

/-- RB_RAISE: a write of 1 to rb_raise (R506). -/
def execRbRaise (rq : Requester) (s : State) : Host.Outcome State Fault Refusal := 
  ok (s.fieldWrite rq .SEC_LC_CTRL_rb_raise 0 1)

end Sys2Proof.Machine
end

