-- ==== Sys2Proof/Machine/Shelf.lean ====
section
/-! DEFINITION. Meanings of SHELF_WRITE and SHELF_COMMIT (15_security_and_config.md R512 to R514). -/
namespace Sys2Proof.Machine

/-- Show whether the staged header is complete, and keep what is staged. -/
def State.setStage (s : State) (st : Option (List Byte)) (stop : Nat) : State :=
  (s.modSec (fun x => { x with stage := st, stageEnd := stop })).wr .SEC_SHELF_STATUS_staged 0
    (b2n (decide (128 ≤ (st.getD []).length)))

/-- A write at offset 0 erases the target region and begins a new staging (R512). -/
def State.stageBegin (s : State) : State :=
  let k := s.shelfTarget
  let s := { s with fuse := { s.fuse with flash := flashErase s.fuse.flash (shelfBase k) 0x100000 } }
  (s.wr (shelfFld k) 0 0).setStage (some []) 0

/-- A write at an offset keeps the order of R512. -/
def State.stageOrder (s : State) (off : Nat) : Bool :=
  off == 0 || (match s.sec.stage with
    | none => false
    | some st => if st.length < 128 then off == s.sec.stageEnd else decide (s.sec.stageEnd ≤ off))

/-- Stage the header bytes and program the others. -/
def State.shelfTake (s : State) (off : Nat) (b : List Byte) : State :=
  let s := if off == 0 then s.stageBegin else s
  let st := s.sec.stage.getD []
  let h := b.take (128 - off)
  let s := if off < 128 then s.setStage (some (st ++ h)) (off + b.length) else s.setStage (some st) (off + b.length)
  s.shelfProgram s.shelfTarget (max off 128) (b.drop (128 - off))

/-- Programming is tried 3 times in all; a number of read-backs that mismatched leaves the bytes unverified (R514). -/
def unverified (fails : Nat) : Bool := decide (3 ≤ fails)

/-- SHELF_WRITE: `fails` tells how many read-backs mismatched; after three the staged header is dropped (R395, R512, R514; log entry
236). -/
def execShelfWrite (r : RingId) (data : BufRead) (fails : Nat) (s : State) : Host.Outcome State Fault Refusal :=
  ok (let s := s.settle r 4
    match s.headDesc r 4 with
    | none => s
    | some d =>
      let s := s.popDesc r
      let off := d.param1
      if 1048576 < off + d.len then s.refuse d 1
      else if !s.stageOrder off then s.refuse d 2
      else if data.err then s.done d 6 0 data.bytes.length
      else
        let b := data.bytes.take d.len
        let s := s.shelfTake off b
        if unverified fails then
          ((s.shelfSpoil s.shelfTarget (max off 128) (b.length - (128 - off))).setStage none 0).done d 8 2
        else s.done d 0 0 b.length)

/-- Detail of the step of R513 at which a commit of `seq` is refused, 0 when it passes; `k` is the target and `h` the
staged header. -/
def State.commitErr (s : State) (seq k : Nat) (h : Option (List Byte)) : Nat :=
  if s.lcState == 3 then 10
  else match h with
    | none => 3
    | some h =>
      let b := s.shelfBytes k 128 (hdrLen h)
      if h.length < 128 then 3
      else if hdrSeq h != seq then 4
      else if (s.curHdr).any (fun c => seq != (hdrSeq c + 1) % 2 ^ 32) then 5
      else if !s.schemaOk (hdrSchema h) then 6
      else if sha384 b != slice h 16 48 then 7
      else if !s.shelfSigOk k h then 8
      else if !hdrLenOk h || !recsOk (shelfRecs b) then 9
      else 0

/-- The header is written last and the target becomes current (R513). -/
def State.commitShelf (s : State) (k : Nat) (h : List Byte) : State :=
  let s := (s.shelfProgram k 0 (h.take 128)).setStage none 0
  let s := s.wrs [(shelfFld k, 0, 1), (.SEC_SHELF_STATUS_cur, 0, k), (.SEC_SHELF_STATUS_none, 0, 0),
    (.SEC_SHELF_STATUS_cur_schema, 0, hdrSchema h)]
  s.raiseReg .SEC_EV_shelf_commit

/-- SHELF_COMMIT: `fails` tells how many read-backs of the header mismatched (R513, R514; log entry 236). -/
def execShelfCommit (r : RingId) (fails : Nat) (s : State) : Host.Outcome State Fault Refusal :=
  ok (let s := s.settle r 5
    match s.headDesc r 5 with
    | none => s
    | some d =>
      let s := s.popDesc r
      let seq := d.param0
      let k := s.shelfTarget
      if (s.curHdr).any (fun c => hdrSeq c == seq) then s.done d 0 1
      else
        let e := s.commitErr seq k s.sec.stage
        if e != 0 then s.refuse d e
        else if unverified fails then ((s.hdrSpoil k).setStage none 0).done d 8 2
        else (s.commitShelf k (s.sec.stage.getD [])).done d)

end Sys2Proof.Machine
end

