-- ==== Sys2Proof/Machine/Sys.lean ====
section
/-! DEFINITION. Meanings of REG_WRITE and of the commands that are a write of one field of a datapath, timing, cipher, pair,
housekeeping or calibration register; each goes the way of every register write (17_register_map.md R536 to R545). -/
namespace Sys2Proof.Machine

/-- REG_WRITE (R537). -/
def execRegWrite (rq : Requester) (addr val : Nat) (s : State) : Host.Outcome State Fault Refusal :=
  ok (s.regWrite rq addr val)

/-- FEC_TEST_WRITE: fec_test is written (04_nurnauri_fec.md R146, R147). -/
def execFecTestWrite (n : Eng) (v : Bool) (s : State) : Host.Outcome State Fault Refusal :=
  ok (s.fieldWrite .host .LE_FEC_CTRL_fec_test n (b2n v))

/-- BINS_REQ_WRITE: bins_req is written (06_tributary_mapping.md R223). -/
def execBinsReqWrite (g : GrpId) (bins : Nat) (s : State) : Host.Outcome State Fault Refusal :=
  ok (s.fieldWrite .host .FAB_GRP_CTRL_bins_req g bins)

/-- KP_FLIP: a write of 1 to kp_flip (10_cipher.md R367; 08_pair_protection.md R277, R282, R285). -/
def execKpFlip (n : Eng) (s : State) : Host.Outcome State Fault Refusal :=
  ok (s.fieldWrite .host .CIPH_ENG_CTRL_kp_flip n 1)

/-- LOCKER_RELEASE: a write of 0 to lock_en (10_cipher.md R362, R371). -/
def execLockerRelease (rq : Requester) (l : LockId) (s : State) : Host.Outcome State Fault Refusal :=
  ok (s.fieldWrite rq .CIPH_LOCK_CTRL_lock_en l 0)

/-- PAIR_EN_WRITE: pair_en is written (08_pair_protection.md R274). -/
def execPairEnWrite (v : Bool) (s : State) : Host.Outcome State Fault Refusal :=
  ok (s.fieldWrite .host .PAIR_CTRL_pair_en 0 (b2n v))

/-- TOD_SET: a write of TIM_TOD_SEC_HI with tod_set = 1 (09_timing.md R314). -/
def execTodSet (secHi : Nat) (s : State) : Host.Outcome State Fault Refusal :=
  ok (s.regTake .host .TIM_TOD_SEC_HI 0 (secHi % 65536 + 2 ^ 31))

/-- LOOP_OPEN_WRITE: loop_open is written, which only the privileged requester may (09_timing.md R328). -/
def execLoopOpenWrite (rq : Requester) (v : Bool) (s : State) : Host.Outcome State Fault Refusal :=
  ok (s.fieldWrite rq .TIM_DPLL0_CTRL_loop_open 0 (b2n v))

/-- DPLL_PSTEP: pstep of DPLLk+1 is written (09_timing.md R330). -/
def execDpllPstep (k : Fin 5) (ps : Int) (s : State) : Host.Outcome State Fault Refusal :=
  ok (s.regTake .host .TIM_DPLL_PSTEP k (toTwos 32 ps))

/-- I3C_ENABLE: a write of 1 to i3c_en (12_housekeeping.md R438). -/
def execI3cEnable (s : State) : Host.Outcome State Fault Refusal := ok (s.fieldWrite .host .HK_I3C_CTRL_i3c_en 0 1)

/-- I3C_DISABLE: a write of 0 to i3c_en (R438). -/
def execI3cDisable (s : State) : Host.Outcome State Fault Refusal := ok (s.fieldWrite .host .HK_I3C_CTRL_i3c_en 0 0)

/-- I3C_RESCAN: a write of 1 to rescan (R438). -/
def execI3cRescan (s : State) : Host.Outcome State Fault Refusal := ok (s.fieldWrite .host .HK_I3C_CTRL_rescan 0 1)

/-- CAL_FORCE: a write of 1 to cal_force (13_calibration.md R461). -/
def execCalForce (s : State) : Host.Outcome State Fault Refusal := ok (s.fieldWrite .host .CAL_CTRL_cal_force 0 1)

end Sys2Proof.Machine
end

