-- ==== Sys2Proof/Machine/Trapdoor.lean ====
section
/-! DEFINITION. Meanings of the trapdoor's commands (15_security_and_config.md R493 to R498). -/
namespace Sys2Proof.Machine

/-- The requester that writes from a port. -/
def portRq (pcie : Bool) : Requester := if pcie then .host else .test

/-- NONCE_REQ: a write of 1 to nonce_req (R496). -/
def execNonceReq (pcie : Bool) (s : State) : Host.Outcome State Fault Refusal := 
  ok (s.fieldWrite (portRq pcie) .SEC_TRAP_CTRL_nonce_req 0 1)

/-- NONCE_EXPIRE: 60 s after it was made a nonce is no longer valid (R496). -/
def execNonceExpire (pcie : Bool) (s : State) : Host.Outcome State Fault Refusal :=
  ok (s.modTrap (fun t => if pcie then { t with nonceP := none } else { t with nonceT := none }))

/-- CREDENTIAL_SUBMIT on a port, or on both in one cycle (R496, R497). -/
def execCredentialSubmit (pcie both : Bool) (s : State) : Host.Outcome State Fault Refusal :=
  ok (if both then (s.fieldWrite .test .SEC_TRAP_CTRL_submit 0 1).fieldWrite .host .SEC_TRAP_CTRL_submit 0 1
    else s.fieldWrite (portRq pcie) .SEC_TRAP_CTRL_submit 0 1)

/-! ### Verification (R494 to R496) -/

/-- A field of the credential that has to hold a value does not, or its length cannot be right: result 1. -/
def credBad (b : List Byte) : Bool :=
  let req := byteAt b 1
  byteAt b 0 != 1 || decide (req < 1) || decide (3 < req) || decide (3 < byteAt b 2) || byteAt b 3 != 0
    || fromLE (slice b 46 2) != 0 || ((req == 3) != (fromLE (slice b 44 2) == 0))

/-- The anchors are those that R495 requires for a request in a lifecycle state. -/
def anchorsOk (lc req a : Nat) : Bool :=
  match lc, req with
  | 0, 3 => a == 2
  | 0, _ => a == 0
  | 1, 1 => a == 1 || a == 2
  | 1, _ => a == 1
  | 2, 2 => a == 3
  | 2, _ => a == 1
  | _, 3 => false
  | _, _ => a == 2

/-- Every required signature over bytes 0 to 47 holds: OWNER's first, VENDOR's after it or alone (R494). -/
def State.sigsOk (s : State) (b : List Byte) : Bool :=
  let a := byteAt b 2
  let m := b.take 48
  let owner := match s.fuse.owner with
    | some q => ecdsaOk (fromBE q) m (slice b 48 96)
    | none => false
  (!a.testBit 0 || owner) && (!a.testBit 1 || ecdsaOk s.fuse.vendor m (slice b (if a.testBit 0 then 144 else 48) 96))

/-- The first check of a credential that fails, 0 when all pass (R496, R497). -/
def State.credErr (s : State) (pcie nonceOk : Bool) (b : List Byte) : Nat :=
  let req := byteAt b 1
  if credBad b then 1
  else if fromLE (slice b 4 8) != s.fuse.devid then 2
  else if !nonceOk then 3
  else if !anchorsOk s.lcState req (byteAt b 2) then 4
  else if !s.sigsOk b then 5
  else if req == 2 && s.modeNow != 0 && s.modeNow != 4 then 6
  else if pcie && s.sec.trap.session == some false then 7
  else 0

/-- CREDENTIAL_VERIFIED: verification ends (R494 to R497, R506). -/
def execCredentialVerified (s : State) : Host.Outcome State Fault Refusal :=
  ok (match s.sec.trap.pend with
    | none => s
    | some (pcie, b, nonceOk) =>
      let s := (s.modTrap (fun t => { t with pend := none })).wr .SEC_TRAP_CTRL_busy 0 0
      let e := s.credErr pcie nonceOk b
      if e != 0 then s.trapRefuse e
      else
        let s := (s.wr .SEC_TRAP_CTRL_result 0 0).extend 3 (b.take 48)
        let req := byteAt b 1
        if req == 3 then s.modTrap (fun t => { t with ret := true })
        else s.trapOpen pcie req (fromLE (slice b 44 2)))

/-- TRAP_CLOSE: a write of 1 to close (R493). -/
def execTrapClose (pcie : Bool) (s : State) : Host.Outcome State Fault Refusal := 
  ok (s.fieldWrite (portRq pcie) .SEC_TRAP_CTRL_close 0 1)

/-- SESSION_EXPIRE: the session lifetime ends (R493). -/
def execSessionExpire (s : State) : Host.Outcome State Fault Refusal := ok s.trapShut

end Sys2Proof.Machine
end

