-- ==== Sys2Proof/Machine/Wake.lean ====
section
/-! DEFINITION. Meanings of the wake sources, the wake pattern and the release of pads (14_power_and_cellar.md R469 to
R475). -/
namespace Sys2Proof.Machine

/-- Signal has been present for 10 ms without a break somewhere in samples taken every 250 us: in 40 in a row (R470; log entry 202). -/
def wakeActive (seen : List Bool) : Bool :=
  (seen.foldl (fun (a : Nat × Bool) b => let k := if b then a.1 + 1 else 0; (k, a.2 || decide (40 ≤ k))) (0, false)).2

/-- The bits decided by majority of the 4 samples of each, from a phase on; `tie k` decides the k-th where they are even (R470; log
entry 202). -/
def wakeBits (tie : Nat → Bool) : Nat → List Bool → List Bool
  | k, a :: b :: c :: d :: l =>
    let n := [a, b, c, d].count true
    (if n == 2 then tie k else decide (2 < n)) :: wakeBits tie (k + 1) l
  | _, _ => []

/-- A list stands somewhere in another. -/
def standsIn (w : List Bool) : List Bool → Bool
  | [] => w.isEmpty
  | b :: l => w.isPrefixOf (b :: l) || standsIn w l

/-- What was seen every 250 us is what a wake mode asks: activity, or 2 consecutive matches of the wake pattern in any phase (R470). -/
def State.wakeMode (s : State) (mode : Nat) (seen : List Bool) : Bool :=
  let tie := fun k => (Config.freeWord (s.free + k)).toNat % 2 == 1
  match mode with
  | 1 => wakeActive seen
  | 2 => (upTo 4).any (fun p => standsIn (wakeWord ++ wakeWord) (wakeBits tie 0 (seen.drop p)))
  | _ => false

/-- The free values that the samples may have used. -/
def State.wakeTick (s : State) (seen : List Bool) : State := { s with free := s.free + seen.length }

/-- WAKE_LINE: what was sampled at the receiver of an in-service engine, in MOTHBALL at its ball LOS_N (R469, R470). -/
def execWakeLine (n : Eng) (seen : List Bool) (s : State) : Host.Outcome State Fault Refusal :=
  ok (if s.wakeState.isSome && s.hasEng n && s.inService n
      && s.wakeMode (fieldOf (s.rd .PWR_WAKE_CFG_line_mode) (2 * n) 2) seen then
      (s.wakeTick seen).wake .PWR_WAKE_SRC_line (2 ^ n.val)
    else s.wakeTick seen)

/-- WAKE_CLIENT: what was sampled on the first lane of an in-service port, in NAP only (R469, R470). -/
def execWakeClient (p : PortId) (seen : List Bool) (s : State) : Host.Outcome State Fault Refusal :=
  ok (if s.wakeState == some 2 && s.typeOf p != 0 && s.wakeMode (s.rd .PWR_WAKE_CFG_client_mode) seen then
      let s := s.wakeTick seen
      let s := if s.on .PWR_WAKE_SRC_client then s else s.wr .PWR_WAKE_SRC_port 0 p
      s.wake .PWR_WAKE_SRC_client 1
    else s.wakeTick seen)

/-- WAKE_PIN: a rising edge at PWR_WAKE (R469). -/
def execWakePin (s : State) : Host.Outcome State Fault Refusal :=
  ok (if s.wakeState.isSome && s.on .PWR_WAKE_CFG_pin_en then s.wake .PWR_WAKE_SRC_pin 1 else s)

/-- rtc_alarm. -/
def State.rtcAlarm (s : State) : Nat := s.rd .PWR_CEL_ALARM_HI_alarm_hi * 2 ^ 32 + s.rd .PWR_CEL_ALARM_LO_alarm_lo

/-- WAKE_RTC: the count reaches rtc_alarm (R477). -/
def execWakeRtc (rtc : Nat) (s : State) : Host.Outcome State Fault Refusal :=
  ok (let s := s.atRtc rtc
    if s.wakeState.isSome && s.on .PWR_CEL_CTRL_rtc_wake && s.cel.rtc == s.rtcAlarm then s.wake .PWR_WAKE_SRC_rtc 1 else s)

/-- WAKE_TX_SEND: a write of PWR_WAKE_TX (R471). -/
def execWakeTxSend (val : Nat) (s : State) : Host.Outcome State Fault Refusal := 
  ok (s.regTake .host .PWR_WAKE_TX 0 val)

/-- WAKE_TX_END: the pattern has been sent 3 times (R471). -/
def execWakeTxEnd (s : State) : Host.Outcome State Fault Refusal :=
  ok ((upTo s.engines).foldl (fun t n => (t.modTx n (fun x => { x with wakePat := false })).txRefresh n)
    (s.wrs [(.PWR_WAKE_TX_wake_eng, 0, 0), (.PWR_WAKE_TX_wake_port_en, 0, 0)]))

/-- PAD_RELEASE (R475). -/
def execPadRelease (grps : Nat) (s : State) : Host.Outcome State Fault Refusal := 
  ok (s.fieldWrite .host .PWR_PAD_pad_release 0 grps)

end Sys2Proof.Machine
end

