-- ==== Sys2Proof/Machine/Dispatch.lean ====
section
/-! DEFINITION. Every command and its meaning: one arm per row of the opcode table. -/
namespace Sys2Proof.Machine

/-- The effect of a command on everything but the queue. -/
def exec (i : Instr) (s : State) : Host.Outcome State Fault Refusal :=
  match i with
  | .regWrite rq addr val => Sys2Proof.Machine.execRegWrite rq addr val s
  | .cellarRegWrite rq addr val => Sys2Proof.Machine.execCellarRegWrite rq addr val s
  | .cellarWriteDone => Sys2Proof.Machine.execCellarWriteDone s
  | .crossingSlip x who => Sys2Proof.Machine.execCrossingSlip x who s
  | .txSfm n tod => Sys2Proof.Machine.execTxSfm n tod s
  | .txFrame n gmp => Sys2Proof.Machine.execTxFrame n gmp s
  | .idleShadowApply n => Sys2Proof.Machine.execIdleShadowApply n s
  | .markerApplyNotFraming n => Sys2Proof.Machine.execMarkerApplyNotFraming n s
  | .mapStageReport n st rep => Sys2Proof.Machine.execMapStageReport n st rep s
  | .rxFawFound n errs rot fn => Sys2Proof.Machine.execRxFawFound n errs rot fn s
  | .rxFrame n f => Sys2Proof.Machine.execRxFrame n f s
  | .dlofDeclare n => Sys2Proof.Machine.execDlofDeclare n s
  | .dlofClear n => Sys2Proof.Machine.execDlofClear n s
  | .protNr n => Sys2Proof.Machine.execProtNr n s
  | .protTxSuspect n => Sys2Proof.Machine.execProtTxSuspect n s
  | .protSwitched n => Sys2Proof.Machine.execProtSwitched n s
  | .protUnprotected n => Sys2Proof.Machine.execProtUnprotected n s
  | .protBadCode n => Sys2Proof.Machine.execProtBadCode n s
  | .protAckTimeout n => Sys2Proof.Machine.execProtAckTimeout n s
  | .gccBlockReceive n mfc => Sys2Proof.Machine.execGccBlockReceive n mfc s
  | .pmBoundary tod => Sys2Proof.Machine.execPmBoundary tod s
  | .pmSyncEdge tod => Sys2Proof.Machine.execPmSyncEdge tod s
  | .sigWindow n pwr => Sys2Proof.Machine.execSigWindow n pwr s
  | .clipWindow n clipped samples => Sys2Proof.Machine.execClipWindow n clipped samples s
  | .acqCdSearchEnd n tone => Sys2Proof.Machine.execAcqCdSearchEnd n tone s
  | .acqClkLock n ppb => Sys2Proof.Machine.execAcqClkLock n ppb s
  | .acqClkTimeout n => Sys2Proof.Machine.execAcqClkTimeout n s
  | .acqEqConverge n => Sys2Proof.Machine.execAcqEqConverge n s
  | .acqEqTimeout n => Sys2Proof.Machine.execAcqEqTimeout n s
  | .acqCarLock n fo snrMin => Sys2Proof.Machine.execAcqCarLock n fo snrMin s
  | .acqCarTimeout n => Sys2Proof.Machine.execAcqCarTimeout n s
  | .acqUnlock n why => Sys2Proof.Machine.execAcqUnlock n why s
  | .acqHoldRelock n fo snrMin => Sys2Proof.Machine.execAcqHoldRelock n fo snrMin s
  | .acqHoldTimeout n => Sys2Proof.Machine.execAcqHoldTimeout n s
  | .marginCompute n m => Sys2Proof.Machine.execMarginCompute n m s
  | .marginReport n => Sys2Proof.Machine.execMarginReport n s
  | .pilotWaitExpire n => Sys2Proof.Machine.execPilotWaitExpire n s
  | .positionDecode n p => Sys2Proof.Machine.execPositionDecode n p s
  | .fecWindowEnd n => Sys2Proof.Machine.execFecWindowEnd n s
  | .fecReadingReport n => Sys2Proof.Machine.execFecReadingReport n s
  | .testSyncBlock n differ => Sys2Proof.Machine.execTestSyncBlock n differ s
  | .fecTestWrite n v => Sys2Proof.Machine.execFecTestWrite n v s
  | .ethIngressFrame t frame pcsErr => Sys2Proof.Machine.execEthIngressFrame t frame pcsErr s
  | .ethOsetChange t os => Sys2Proof.Machine.execEthOsetChange t os s
  | .osetRepeat t => Sys2Proof.Machine.execOsetRepeat t s
  | .dlmBlockHeader t b => Sys2Proof.Machine.execDlmBlockHeader t b s
  | .egressOsetTimeout t => Sys2Proof.Machine.execEgressOsetTimeout t s
  | .gmpWordRx t word mark => Sys2Proof.Machine.execGmpWordRx t word mark s
  | .flexeCalendarSwitch head rates => Sys2Proof.Machine.execFlexeCalendarSwitch head rates s
  | .groupTagRx g n tag mark join => Sys2Proof.Machine.execGroupTagRx g n tag mark join s
  | .binsReqWrite g bins => Sys2Proof.Machine.execBinsReqWrite g bins s
  | .skewMeasure g skewNs => Sys2Proof.Machine.execSkewMeasure g skewNs s
  | .dskewDeclare g held => Sys2Proof.Machine.execDskewDeclare g held s
  | .dskewClear g => Sys2Proof.Machine.execDskewClear g s
  | .clientRxFault p why => Sys2Proof.Machine.execClientRxFault p why s
  | .placeBlockRx n blk mark => Sys2Proof.Machine.execPlaceBlockRx n blk mark s
  | .placeChanDown n => Sys2Proof.Machine.execPlaceChanDown n s
  | .placeRxShadowLoaded n => Sys2Proof.Machine.execPlaceRxShadowLoaded n s
  | .swStart n => Sys2Proof.Machine.execSwStart n s
  | .swReadyTimeout n => Sys2Proof.Machine.execSwReadyTimeout n s
  | .swSwitchTimeout n => Sys2Proof.Machine.execSwSwitchTimeout n s
  | .peerAliveLost => Sys2Proof.Machine.execPeerAliveLost s
  | .peerAliveGained => Sys2Proof.Machine.execPeerAliveGained s
  | .pairLaneDown k => Sys2Proof.Machine.execPairLaneDown k s
  | .pairLaneUp k => Sys2Proof.Machine.execPairLaneUp k s
  | .hbTick => Sys2Proof.Machine.execHbTick s
  | .hbRx cell id => Sys2Proof.Machine.execHbRx cell id s
  | .hbLost => Sys2Proof.Machine.execHbLost s
  | .pairEnWrite v => Sys2Proof.Machine.execPairEnWrite v s
  | .mirRx cell => Sys2Proof.Machine.execMirRx cell s
  | .mackRx cell => Sys2Proof.Machine.execMackRx cell s
  | .mirResend seq => Sys2Proof.Machine.execMirResend seq s
  | .bulkRx cell => Sys2Proof.Machine.execBulkRx cell s
  | .cmdClear cell => Sys2Proof.Machine.execCmdClear cell s
  | .cmdLockout cell => Sys2Proof.Machine.execCmdLockout cell s
  | .cmdForce cell => Sys2Proof.Machine.execCmdForce cell s
  | .cmdManual cell => Sys2Proof.Machine.execCmdManual cell s
  | .cmdRelinquish cell => Sys2Proof.Machine.execCmdRelinquish cell s
  | .cackRx cell => Sys2Proof.Machine.execCackRx cell s
  | .cmdResend => Sys2Proof.Machine.execCmdResend s
  | .timeCellTick tod => Sys2Proof.Machine.execTimeCellTick tod s
  | .timeCellRx cell tod => Sys2Proof.Machine.execTimeCellRx cell tod s
  | .dyingRx cell => Sys2Proof.Machine.execDyingRx cell s
  | .laserMatchTick => Sys2Proof.Machine.execLaserMatchTick s
  | .bridgeSelect k copy => Sys2Proof.Machine.execBridgeSelect k copy s
  | .bridgeRestore k => Sys2Proof.Machine.execBridgeRestore k s
  | .compareYield why => Sys2Proof.Machine.execCompareYield why s
  | .readyHoldEnd => Sys2Proof.Machine.execReadyHoldEnd s
  | .txSuspectStart n => Sys2Proof.Machine.execTxSuspectStart n s
  | .pairSwitchClear r => Sys2Proof.Machine.execPairSwitchClear r s
  | .pairSwitchLockout r => Sys2Proof.Machine.execPairSwitchLockout r s
  | .pairSwitchForce r => Sys2Proof.Machine.execPairSwitchForce r s
  | .pairSwitchManual r => Sys2Proof.Machine.execPairSwitchManual r s
  | .todSecond => Sys2Proof.Machine.execTodSecond s
  | .todSet secHi => Sys2Proof.Machine.execTodSet secHi s
  | .ppsEdge j tod => Sys2Proof.Machine.execPpsEdge j tod s
  | .refFail j why => Sys2Proof.Machine.execRefFail j why s
  | .refQualify j ppb secs => Sys2Proof.Machine.execRefQualify j ppb secs s
  | .d0Lock k => Sys2Proof.Machine.execD0Lock k s
  | .d0Unlock k => Sys2Proof.Machine.execD0Unlock k s
  | .loopOpenWrite rq v => Sys2Proof.Machine.execLoopOpenWrite rq v s
  | .todPhaseStep e => Sys2Proof.Machine.execTodPhaseStep e s
  | .dpllPstep k ps => Sys2Proof.Machine.execDpllPstep k ps s
  | .pstepDone k => Sys2Proof.Machine.execPstepDone k s
  | .modelReady m => Sys2Proof.Machine.execModelReady m s
  | .modelSave m => Sys2Proof.Machine.execModelSave m s
  | .traceAcquire e => Sys2Proof.Machine.execTraceAcquire e s
  | .holdExpire => Sys2Proof.Machine.execHoldExpire s
  | .ttBlockRx n blk mark => Sys2Proof.Machine.execTtBlockRx n blk mark s
  | .cdHoldExpire => Sys2Proof.Machine.execCdHoldExpire s
  | .ttDiscardEnd => Sys2Proof.Machine.execTtDiscardEnd s
  | .kpFlip n => Sys2Proof.Machine.execKpFlip n s
  | .keyLoad r data => Sys2Proof.Machine.execKeyLoad r data s
  | .keyErase r => Sys2Proof.Machine.execKeyErase r s
  | .keyPromote r => Sys2Proof.Machine.execKeyPromote r s
  | .lockerRelease rq l => Sys2Proof.Machine.execLockerRelease rq l s
  | .entropyReseed pass => Sys2Proof.Machine.execEntropyReseed pass s
  | .entropyTestFail => Sys2Proof.Machine.execEntropyTestFail s
  | .cipherHalt => Sys2Proof.Machine.execCipherHalt s
  | .badAccess bar write addr size => Sys2Proof.Machine.execBadAccess bar write addr size s
  | .ringEnable rq r cfg => Sys2Proof.Machine.execRingEnable rq r cfg s
  | .ringDisable r cfg => Sys2Proof.Machine.execRingDisable r cfg s
  | .ringQuiesced r => Sys2Proof.Machine.execRingQuiesced r s
  | .sqDoorbell off word => Sys2Proof.Machine.execSqDoorbell off word s
  | .cqDoorbell off word => Sys2Proof.Machine.execCqDoorbell off word s
  | .descFetch r res => Sys2Proof.Machine.execDescFetch r res s
  | .nop r => Sys2Proof.Machine.execNop r s
  | .modeSet r => Sys2Proof.Machine.execModeSet r s
  | .modeSetComplete => Sys2Proof.Machine.execModeSetComplete s
  | .heldModeResume => Sys2Proof.Machine.execHeldModeResume s
  | .powerSet r => Sys2Proof.Machine.execPowerSet r s
  | .powerEntryDone rtc tod => Sys2Proof.Machine.execPowerEntryDone rtc tod s
  | .shelfWrite r data fails => Sys2Proof.Machine.execShelfWrite r data fails s
  | .shelfCommit r fails => Sys2Proof.Machine.execShelfCommit r fails s
  | .flashRead r => Sys2Proof.Machine.execFlashRead r s
  | .flashWrite r data => Sys2Proof.Machine.execFlashWrite r data s
  | .flashErase r => Sys2Proof.Machine.execFlashErase r s
  | .flashOpDone e => Sys2Proof.Machine.execFlashOpDone e s
  | .flashTimeout => Sys2Proof.Machine.execFlashTimeout s
  | .i3cXfer r data => Sys2Proof.Machine.execI3cXfer r data s
  | .i3cXferDone res => Sys2Proof.Machine.execI3cXferDone res s
  | .i3cXferTimeout => Sys2Proof.Machine.execI3cXferTimeout s
  | .ohbTx r data => Sys2Proof.Machine.execOhbTx r data s
  | .rxBuf r => Sys2Proof.Machine.execRxBuf r s
  | .timeSample r => Sys2Proof.Machine.execTimeSample r s
  | .completionWrite cq => Sys2Proof.Machine.execCompletionWrite cq s
  | .evtOverflow r => Sys2Proof.Machine.execEvtOverflow r s
  | .msixModTimer cq => Sys2Proof.Machine.execMsixModTimer cq s
  | .msixUnmask m => Sys2Proof.Machine.execMsixUnmask m s
  | .pcieLinkDown => Sys2Proof.Machine.execPcieLinkDown s
  | .pcieHotReset => Sys2Proof.Machine.execPcieHotReset s
  | .pcieFlr => Sys2Proof.Machine.execPcieFlr s
  | .hkSlotEnd => Sys2Proof.Machine.execHkSlotEnd s
  | .hkWord c w => Sys2Proof.Machine.execHkWord c w s
  | .hkStartReq pin => Sys2Proof.Machine.execHkStartReq pin s
  | .hkUrgentReq pin => Sys2Proof.Machine.execHkUrgentReq pin s
  | .hkSyncCmd pin => Sys2Proof.Machine.execHkSyncCmd pin s
  | .hkSeqStop => Sys2Proof.Machine.execHkSeqStop s
  | .hkFilterWrite c cfg flt => Sys2Proof.Machine.execHkFilterWrite c cfg flt s
  | .hkChgRst c => Sys2Proof.Machine.execHkChgRst c s
  | .hkChgRstEnd c => Sys2Proof.Machine.execHkChgRstEnd c s
  | .hkClamp c => Sys2Proof.Machine.execHkClamp c s
  | .hkClampRelease e => Sys2Proof.Machine.execHkClampRelease e s
  | .hkExcMonitor c meas limit => Sys2Proof.Machine.execHkExcMonitor c meas limit s
  | .hkLinCommit c => Sys2Proof.Machine.execHkLinCommit c s
  | .hkCompatEnable => Sys2Proof.Machine.execHkCompatEnable s
  | .hkRawRead c => Sys2Proof.Machine.execHkRawRead c s
  | .aoutOvervolt k => Sys2Proof.Machine.execAoutOvervolt k s
  | .aoutIlim k => Sys2Proof.Machine.execAoutIlim k s
  | .aoutWired a b => Sys2Proof.Machine.execAoutWired a b s
  | .almShort => Sys2Proof.Machine.execAlmShort s
  | .almStuck => Sys2Proof.Machine.execAlmStuck s
  | .hkOutputRetry ok back => Sys2Proof.Machine.execHkOutputRetry ok back s
  | .i3cEnable => Sys2Proof.Machine.execI3cEnable s
  | .i3cDisable => Sys2Proof.Machine.execI3cDisable s
  | .i3cEntdaaRoundEnd who bcr dcr => Sys2Proof.Machine.execI3cEntdaaRoundEnd who bcr dcr s
  | .i3cNoTarget => Sys2Proof.Machine.execI3cNoTarget s
  | .i3cRoundAbort => Sys2Proof.Machine.execI3cRoundAbort s
  | .i3cTableFull => Sys2Proof.Machine.execI3cTableFull s
  | .i3cHotJoin => Sys2Proof.Machine.execI3cHotJoin s
  | .i3cSettleTimeout => Sys2Proof.Machine.execI3cSettleTimeout s
  | .i3cRescan => Sys2Proof.Machine.execI3cRescan s
  | .i3cStatusPoll ack => Sys2Proof.Machine.execI3cStatusPoll ack s
  | .calRefCompare diff => Sys2Proof.Machine.execCalRefCompare diff s
  | .calEstimate item n idx est => Sys2Proof.Machine.execCalEstimate item n idx est s
  | .calForce => Sys2Proof.Machine.execCalForce s
  | .pilotFailTimeout n => Sys2Proof.Machine.execPilotFailTimeout n s
  | .wakeLine n seen => Sys2Proof.Machine.execWakeLine n seen s
  | .wakeClient p seen => Sys2Proof.Machine.execWakeClient p seen s
  | .wakePin => Sys2Proof.Machine.execWakePin s
  | .wakeRtc rtc => Sys2Proof.Machine.execWakeRtc rtc s
  | .wakeTxSend val => Sys2Proof.Machine.execWakeTxSend val s
  | .wakeTxEnd => Sys2Proof.Machine.execWakeTxEnd s
  | .padRelease grps => Sys2Proof.Machine.execPadRelease grps s
  | .rtcWrap => Sys2Proof.Machine.execRtcWrap s
  | .vbatSample mv rtc => Sys2Proof.Machine.execVbatSample mv rtc s
  | .tamperAssert seen rtc => Sys2Proof.Machine.execTamperAssert seen rtc s
  | .cellAlarmReport => Sys2Proof.Machine.execCellAlarmReport s
  | .cellarPowerLoss => Sys2Proof.Machine.execCellarPowerLoss s
  | .mothballTodLoad rtc => Sys2Proof.Machine.execMothballTodLoad rtc s
  | .railFail seen rtc => Sys2Proof.Machine.execRailFail seen rtc s
  | .vddIoUp => Sys2Proof.Machine.execVddIoUp s
  | .vddSramUp => Sys2Proof.Machine.execVddSramUp s
  | .coldResetRelease => Sys2Proof.Machine.execColdResetRelease s
  | .railStartTimeout rails rtc => Sys2Proof.Machine.execRailStartTimeout rails rtc s
  | .railRetry => Sys2Proof.Machine.execRailRetry s
  | .resetPin ns => Sys2Proof.Machine.execResetPin ns s
  | .warmReset rq => Sys2Proof.Machine.execWarmReset rq s
  | .engineReset rq mask => Sys2Proof.Machine.execEngineReset rq mask s
  | .bootComplete obs => Sys2Proof.Machine.execBootComplete obs s
  | .lcReqProvision rq => Sys2Proof.Machine.execLcReqProvision rq s
  | .lcReqSeal rq => Sys2Proof.Machine.execLcReqSeal rq s
  | .lcReqReturn rq => Sys2Proof.Machine.execLcReqReturn rq s
  | .lcTransitionDone => Sys2Proof.Machine.execLcTransitionDone s
  | .nonceReq pcie => Sys2Proof.Machine.execNonceReq pcie s
  | .nonceExpire pcie => Sys2Proof.Machine.execNonceExpire pcie s
  | .credentialSubmit pcie both => Sys2Proof.Machine.execCredentialSubmit pcie both s
  | .credentialVerified => Sys2Proof.Machine.execCredentialVerified s
  | .trapClose pcie => Sys2Proof.Machine.execTrapClose pcie s
  | .sessionExpire => Sys2Proof.Machine.execSessionExpire s
  | .hostPrivDrop => Sys2Proof.Machine.execHostPrivDrop s
  | .rbRaise rq => Sys2Proof.Machine.execRbRaise rq s
  | .snapNow tod => Sys2Proof.Machine.execSnapNow tod s
  | .snapPeriod tod => Sys2Proof.Machine.execSnapPeriod tod s
  | .walkEnd tod => Sys2Proof.Machine.execWalkEnd tod s
  | .hkRecordFlush => Sys2Proof.Machine.execHkRecordFlush s
  | .counterLatch val => Sys2Proof.Machine.execCounterLatch val s
  | .testErrRead rq n => Sys2Proof.Machine.execTestErrRead rq n s
  | .todNsRead tod => Sys2Proof.Machine.execTodNsRead tod s
  | .rtcLoRead rtc => Sys2Proof.Machine.execRtcLoRead rtc s
  | .sramScrub arr word bits => Sys2Proof.Machine.execSramScrub arr word bits s
  | .parityScan p => Sys2Proof.Machine.execParityScan p s
  | .lockstepMismatch => Sys2Proof.Machine.execLockstepMismatch s
  | .controlRestartDone => Sys2Proof.Machine.execControlRestartDone s
  | .clockLoss pll => Sys2Proof.Machine.execClockLoss pll s
  | .laneTxFault lane => Sys2Proof.Machine.execLaneTxFault lane s
  | .txMonitorFault n => Sys2Proof.Machine.execTxMonitorFault n s
  | .cellarSupplyChangeover vddIoMv => Sys2Proof.Machine.execCellarSupplyChangeover vddIoMv s
  | .pcieLinkUp speed width flit => Sys2Proof.Machine.execPcieLinkUp speed width flit s
  | .clientRxRecover p => Sys2Proof.Machine.execClientRxRecover p s
  | .keyReservedOp r => Sys2Proof.Machine.execKeyReservedOp r s
  | .pairSwitchReserved r => Sys2Proof.Machine.execPairSwitchReserved r s
  | .badCellRx cell uncorr => Sys2Proof.Machine.execBadCellRx cell uncorr s
  | .postResetLosCheck n => Sys2Proof.Machine.execPostResetLosCheck n s
  | .powerExitDone => Sys2Proof.Machine.execPowerExitDone s
  | .celAck => Sys2Proof.Machine.execCelAck s

end Sys2Proof.Machine
end

