-- ==== Sys2Proof/Safety.lean ====
section
/-! DEFINITION. What a safe run is: every step answers a next state. And the form of the tables that State holds. -/
namespace Sys2Proof.Machine

/-- A step neither faults nor refuses. -/
def Safe (s : State) : Prop := ∃ t, step s = .next t

/-- The register table is canonical and every field lies within its width (17_register_map.md R536). -/
def regsWf (m : SMap Nat) : Bool :=
  SMap.wf (fun k => (Fld.ofNat (k % 1024)).info.rst) m
    && m.all (fun kv => decide (kv.2 < 2 ^ (Fld.ofNat (kv.1 % 1024)).info.w))

/-- The counters are canonical, of 48 bits, and none counts that the part lacks (16_counters_and_events.md R517). -/
def State.cntWf (s : State) : Bool :=
  SMap.wf (fun _ => 0) s.cnt && s.cnt.all (fun kv => s.cntValid kv.1 && decide (kv.2 < 2 ^ 48))

/-- A table of numbers is canonical. -/
def natWf (m : SMap Nat) : Bool := SMap.wf (fun _ => 0) m

/-- The flash is canonical: an erased byte, 0xFF, is not listed (11_host_rings.md R405). -/
def flashWf (m : List Host.Cell) : Bool := SMap.wf (fun _ => (0xFF : Byte)) m

/-- Every table of the state is in its canonical form, so that equal contents are equal data. -/
def State.wf (s : State) : Bool :=
  regsWf s.regs && s.cntWf && natWf s.wrapc && natWf s.bins && SMap.wf (fun _ => ({} : Engine)) s.eng
    && SMap.wf (fun _ => ({} : Port)) s.port && SMap.wf (fun _ => ({} : Trib)) s.trib
    && SMap.wf (fun _ => ({} : Grp)) s.grp && SMap.wf (fun _ => ({} : Locker)) s.lock
    && SMap.wf (fun _ => ({} : RingSt)) s.ring && flashWf s.fuse.flash

/-- What is fixed when the die is made: nothing changes it (15_security_and_config.md R492, 17_register_map.md R548). -/
structure Die where
  part : Part
  stepping : Nat
  devid : Nat
  idPriv : Nat
  vendor : Nat
  factory : SMap Int
  flashSize : Nat
  eraseUnit : Nat
deriving DecidableEq, Repr

/-- The die of a state. -/
def State.die (s : State) : Die :=
  { part := s.fuse.part, stepping := s.fuse.stepping, devid := s.fuse.devid, idPriv := s.fuse.idPriv,
    vendor := s.fuse.vendor, factory := s.fuse.factory, flashSize := s.fuse.flashSize, eraseUnit := s.fuse.eraseUnit }

/-- The command answers a next state, of which `P` holds. -/
def Ends (c : Instr) (s : State) (P : State → Prop) : Prop := ∃ t, exec c s = .next t ∧ P t

/-- Every register but those of the list holds what it held, in every instance. -/
def Keeps (s t : State) (but : List Rg) : Prop := ∀ f i, f.info.rg ∉ but → t.rd f i = s.rd f i

/-- The descriptor has ended with this status, detail word and count of bytes: its completion waits for its turn in its
SQ, or for its CQ (11_host_rings.md R394, R400). -/
def State.ended (t : State) (d : Desc) (status detail moved : Nat) : Prop :=
  ∃ c ∈ (t.ringOf d.sq).held ++ (t.ringOf d.cq).cplq,
    c.d = d ∧ c.status = status ∧ c.detail = detail ∧ c.moved = moved

/-- The parts of State other than the registers and the queue. -/
inductive Comp where
  | fuse | pin | cnt | wrapc | eng | port | trib | grp | bins | lock | ring | host | mode | pair | tim | hk | cal | pwr | cel | sec | perf | out | free | wlog
deriving DecidableEq, Repr

/-- A part is the same in two states. -/
def Comp.same (c : Comp) (s t : State) : Prop :=
  match c with
  | .fuse => t.fuse = s.fuse
  | .pin => t.pin = s.pin
  | .cnt => t.cnt = s.cnt
  | .wrapc => t.wrapc = s.wrapc
  | .eng => t.eng = s.eng
  | .port => t.port = s.port
  | .trib => t.trib = s.trib
  | .grp => t.grp = s.grp
  | .bins => t.bins = s.bins
  | .lock => t.lock = s.lock
  | .ring => t.ring = s.ring
  | .host => t.host = s.host
  | .mode => t.mode = s.mode
  | .pair => t.pair = s.pair
  | .tim => t.tim = s.tim
  | .hk => t.hk = s.hk
  | .cal => t.cal = s.cal
  | .pwr => t.pwr = s.pwr
  | .cel => t.cel = s.cel
  | .sec => t.sec = s.sec
  | .perf => t.perf = s.perf
  | .out => t.out = s.out
  | .free => t.free = s.free
  | .wlog => t.wlog = s.wlog

/-- The registers whose write does no more than the access types of their fields say (17_register_map.md R537). -/
def Rg.plain (r : Rg) : Bool :=
  !([.SYS_RESET, .SYS_IRQ_MASK, .SEC_STATE, .SEC_LC_CTRL, .SEC_TRAP_CTRL, .SEC_TRAP_MBOX, .PWR_WAKE_TX, .PWR_PAD,
    .PAIR_CTRL, .PAIR_STATUS, .PAIR_BRIDGE, .CIPH_LOCK_CTRL, .HOST_RCTX_CFG, .HOST_RCTX_BASE_LO, .HOST_RCTX_BASE_HI,
    .HOST_RCTX_LINK, .HOST_RCTX_IRQ, .HK_CTRL, .HK_CH_CFG, .HK_CH_FLT, .HK_CH_DITH, .HK_DET_CFG, .HK_ALM_CTRL,
    .HK_AOUT_CTRL, .HK_I3C_CTRL, .CAL_CTRL, .TIM_DPLL_PSTEP, .TIM_TOD_SEC_HI, .PERF_INV_CTRL, .LE_TX_CTRL, .LE_SIG_THR,
    .LE_FEC_CTRL, .LE_FRM_CTRL, .CIPH_ENG_CTRL, .FAB_GRP_CTRL, .TIM_SEL_CTRL, .TIM_REF_CFG, .TIM_DPLL0_CTRL,
    .TIM_DPLL0_FWORD, .TIM_DPLL_CTRL, .TIM_TT_CTRL, .TIM_PORT_DPLL, .PERF_CNT_SEL] : List Rg).contains r

end Sys2Proof.Machine
end

