-- ==== Sys2Proof/Machine/Footprint.lean ====
section
/-! DEFINITION. The frame of every command: the registers and the parts of State that it may change. What is not listed it
leaves as it was; a listed register may stay as it was too, and an event may reach the registers of its record. -/
namespace Sys2Proof
open Sys2Proof.Machine

/-- Registers that the record of an event may change (11_host_rings.md R400; 16_counters_and_events.md R520, R528 to R530). -/
def recordRegs : List Rg := [.HOST_RCTX_IDX, .PERF_WRAP, .PERF_EV, .HOST_EV]

/-- Registers that a command may change. -/
def Instr.touches (c : Instr) (r : Rg) : Bool :=
  match c with
  | .rxFawFound .. | .protNr .. | .marginReport .. | .fecReadingReport .. | .osetRepeat .. | .egressOsetTimeout ..
  | .cackRx .. | .cmdResend | .timeCellTick .. | .txSuspectStart .. | .ppsEdge .. | .modelSave .. | .ttDiscardEnd
  | .entropyReseed .. | .nop .. | .flashRead .. | .flashWrite .. | .flashErase .. | .flashOpDone .. | .flashTimeout
  | .i3cXferDone .. | .i3cXferTimeout | .ohbTx .. | .rxBuf .. | .msixModTimer .. | .msixUnmask .. | .railRetry
  | .nonceExpire .. | .snapPeriod .. =>
    false
  | .acqCdSearchEnd .. | .acqClkLock .. | .acqEqConverge .. | .acqHoldTimeout .. =>
    ([.LE_STATUS] : List Rg).contains r
  | .ethOsetChange .. | .clientRxFault .. | .clientRxRecover .. =>
    ([.CLI_PORT_STATUS] : List Rg).contains r
  | .hkChgRstEnd .. | .hkClampRelease .. =>
    ([.HK_CH_STATUS] : List Rg).contains r
  | .i3cNoTarget =>
    ([.HK_I3C_STATUS] : List Rg).contains r
  | .mackRx .. =>
    ([.PLACE_ENG_STATUS] : List Rg).contains r
  | .modeSetComplete =>
    ([.SYS_MODE] : List Rg).contains r
  | .modelReady .. | .traceAcquire .. =>
    ([.TIM_DPLL0_STATUS] : List Rg).contains r
  | .pcieLinkUp .. =>
    ([.HOST_LINK] : List Rg).contains r
  | .peerAliveGained | .hbTick | .readyHoldEnd =>
    ([.PAIR_STATUS] : List Rg).contains r
  | .pstepDone .. =>
    ([.TIM_DPLL_STATUS] : List Rg).contains r
  | .ringQuiesced .. =>
    ([.HOST_RCTX_STATE] : List Rg).contains r
  | .rtcLoRead .. =>
    ([.PWR_CEL_RTC_HI] : List Rg).contains r
  | .rtcWrap | .railStartTimeout .. | .celAck =>
    ([.PWR_CEL_STATUS] : List Rg).contains r
  | .shelfWrite .. =>
    ([.SEC_SHELF_STATUS] : List Rg).contains r
  | .skewMeasure .. =>
    ([.FAB_GRP_STATUS] : List Rg).contains r
  | .testErrRead .. =>
    ([.LE_FEC_TEST] : List Rg).contains r
  | .testSyncBlock .. =>
    ([.LE_FEC_STATUS] : List Rg).contains r
  | .todNsRead .. =>
    ([.TIM_TOD_NS] : List Rg).contains r
  | .txFrame .. =>
    ([.LE_PROFILE] : List Rg).contains r
  | .vddSramUp =>
    ([.PWR_RAIL] : List Rg).contains r
  | .evtOverflow .. =>
    ([.HOST_RCTX_IDX, .PERF_EV] : List Rg).contains r
  | .hkOutputRetry .. =>
    ([.HK_AOUT_STATUS, .HK_ALM_CTRL] : List Rg).contains r
  | .idleShadowApply .. =>
    ([.CIPH_ENG_CTRL, .CAL_ENG_STATUS] : List Rg).contains r
  | .laserMatchTick =>
    ([.PAIR_STATUS, .PAIR_MATCH] : List Rg).contains r
  | .vbatSample .. | .cellarSupplyChangeover .. =>
    ([.PWR_RAIL, .PWR_CEL_STATUS] : List Rg).contains r
  | .hkRawRead .. =>
    ([.HK_CH_VAL, .HK_CH_DITH_I, .HK_CH_DITH_Q] : List Rg).contains r
  | .vddIoUp =>
    ([.PWR_PAD, .PWR_RAIL, .SYS_RST_STATUS] : List Rg).contains r
  | .i3cEntdaaRoundEnd .. =>
    ([.HK_I3C_STATUS, .HK_I3C_TGT_PID_LO, .HK_I3C_TGT_PID_HI, .HK_I3C_TGT_INFO] : List Rg).contains r
  | .protBadCode .. | .sqDoorbell .. | .cqDoorbell .. | .i3cXfer .. | .completionWrite .. | .walkEnd ..
  | .hkRecordFlush | .keyReservedOp .. | .badCellRx .. =>
    recordRegs.contains r
  | .wakeLine .. | .wakeClient .. | .wakePin | .wakeRtc .. =>
    ([.PWR_STATUS, .PWR_WAKE_SRC, .PWR_CEL_STATUS, .SYS_MODE] : List Rg).contains r
  | .cellAlarmReport =>
    recordRegs.contains r || ([.PWR_CEL_STATUS] : List Rg).contains r
  | .controlRestartDone =>
    recordRegs.contains r || ([.PLACE_ENG_STATUS] : List Rg).contains r
  | .descFetch .. =>
    recordRegs.contains r || ([.HOST_RCTX_STATE] : List Rg).contains r
  | .entropyTestFail | .cipherHalt =>
    recordRegs.contains r || ([.CIPH_EV] : List Rg).contains r
  | .ethIngressFrame .. =>
    recordRegs.contains r || ([.FAB_EV] : List Rg).contains r
  | .keyLoad .. | .keyErase .. | .keyPromote .. =>
    recordRegs.contains r || ([.CIPH_LOCK_STATUS] : List Rg).contains r
  | .pilotFailTimeout .. =>
    recordRegs.contains r || ([.CAL_EV] : List Rg).contains r
  | .placeRxShadowLoaded .. =>
    recordRegs.contains r || ([.PLACE_ENG_RX] : List Rg).contains r
  | .protAckTimeout .. | .gccBlockReceive .. =>
    recordRegs.contains r || ([.LE_FRM_EV] : List Rg).contains r
  | .protSwitched .. | .protUnprotected .. | .mirResend .. =>
    recordRegs.contains r || ([.PAIR_EV] : List Rg).contains r
  | .almShort | .almStuck =>
    recordRegs.contains r || ([.HK_EV, .HK_ALM_CTRL] : List Rg).contains r
  | .aoutOvervolt .. | .aoutIlim .. | .aoutWired .. =>
    recordRegs.contains r || ([.HK_EV, .HK_AOUT_STATUS] : List Rg).contains r
  | .calRefCompare .. =>
    recordRegs.contains r || ([.CAL_EV, .CAL_HK_STATUS] : List Rg).contains r
  | .clipWindow .. | .acqClkTimeout .. | .acqEqTimeout .. | .acqCarTimeout .. =>
    recordRegs.contains r || ([.LE_STATUS, .LE_STATUS_EV] : List Rg).contains r
  | .dlmBlockHeader .. =>
    recordRegs.contains r || ([.FAB_EV, .FAB_TRIB_STATUS] : List Rg).contains r
  | .hkClamp .. | .hkExcMonitor .. =>
    recordRegs.contains r || ([.HK_EV, .HK_CH_STATUS] : List Rg).contains r
  | .i3cRoundAbort | .i3cTableFull | .i3cHotJoin | .i3cSettleTimeout =>
    recordRegs.contains r || ([.HK_EV, .HK_I3C_STATUS] : List Rg).contains r
  | .lockstepMismatch =>
    recordRegs.contains r || ([.PAIR_STATUS, .SYS_MODE] : List Rg).contains r
  | .pcieFlr =>
    recordRegs.contains r || ([.HOST_RCTX_CFG, .HOST_RCTX_STATE] : List Rg).contains r
  | .pilotWaitExpire .. =>
    recordRegs.contains r || ([.CAL_EV, .CAL_ENG_STATUS] : List Rg).contains r
  | .placeChanDown .. | .swSwitchTimeout .. =>
    recordRegs.contains r || ([.PLACE_EV, .PLACE_ENG_STATUS] : List Rg).contains r
  | .sessionExpire =>
    recordRegs.contains r || ([.SEC_STATE, .SEC_EV] : List Rg).contains r
  | .shelfCommit .. =>
    recordRegs.contains r || ([.SEC_EV, .SEC_SHELF_STATUS] : List Rg).contains r
  | .todPhaseStep .. | .holdExpire | .mothballTodLoad .. =>
    recordRegs.contains r || ([.TIM_DPLL0_STATUS, .TIM_EV] : List Rg).contains r
  | .acqCarLock .. | .acqHoldRelock .. =>
    recordRegs.contains r || ([.LE_STATUS, .LE_STATUS_EV, .LE_MARGIN] : List Rg).contains r
  | .bridgeSelect .. | .bridgeRestore .. =>
    recordRegs.contains r || ([.FAB_TRIB_STATUS, .PAIR_EV, .PAIR_BRIDGE] : List Rg).contains r
  | .d0Lock .. | .d0Unlock .. =>
    recordRegs.contains r || ([.TIM_DPLL0_STATUS, .TIM_DPLL_STATUS, .TIM_EV] : List Rg).contains r
  | .gmpWordRx .. | .groupTagRx .. | .dskewDeclare .. | .dskewClear .. =>
    recordRegs.contains r || ([.FAB_EV, .FAB_GRP_STATUS, .FAB_TRIB_STATUS] : List Rg).contains r
  | .i3cStatusPoll .. =>
    recordRegs.contains r || ([.HK_EV, .HK_I3C_STATUS, .HK_I3C_TGT_INFO] : List Rg).contains r
  | .pcieLinkDown | .pcieHotReset =>
    recordRegs.contains r || ([.HOST_RCTX_CFG, .HOST_RCTX_STATE, .HOST_LINK] : List Rg).contains r
  | .calEstimate .. =>
    recordRegs.contains r || ([.CAL_EV, .CAL_LAST_REJ, .CAL_ENG_STATUS, .CAL_HK_STATUS] : List Rg).contains r
  | .dlofClear .. =>
    recordRegs.contains r || ([.LE_FRM_STATUS, .LE_FRM_EV, .FAB_GRP_STATUS, .FAB_TRIB_STATUS] : List Rg).contains r
  | .lcTransitionDone =>
    recordRegs.contains r || ([.CIPH_LOCK_STATUS, .SEC_STATE, .SEC_EV, .SEC_MEAS] : List Rg).contains r
  | .pairLaneDown .. | .pairLaneUp .. =>
    recordRegs.contains r || ([.FAB_TRIB_STATUS, .PAIR_STATUS, .PAIR_EV, .PAIR_BRIDGE] : List Rg).contains r
  | .refFail .. | .refQualify .. | .cdHoldExpire | .timeSample .. =>
    recordRegs.contains r || ([.TIM_REF_STATUS, .TIM_DPLL0_STATUS, .TIM_DPLL_STATUS, .TIM_EV] : List Rg).contains r
  | .timeCellRx .. =>
    recordRegs.contains r || ([.PAIR_STATUS, .PAIR_SKEW, .TIM_DPLL0_STATUS, .TIM_EV] : List Rg).contains r
  | .credentialVerified =>
    recordRegs.contains r || ([.CIPH_LOCK_STATUS, .SEC_STATE, .SEC_TRAP_CTRL, .SEC_EV, .SEC_MEAS] : List Rg).contains
    r
  | .flexeCalendarSwitch .. =>
    recordRegs.contains r || ([.FAB_TRIB_STATUS, .PLACE_TRIB_STATUS, .PAIR_STATUS, .PAIR_EV, .PAIR_BRIDGE] : List
    Rg).contains r
  | .hkSlotEnd =>
    recordRegs.contains r || ([.HK_STATUS, .HK_EV, .HK_AOUT_STATUS, .CAL_EV, .CAL_HK_STATUS] : List Rg).contains r
  | .swStart .. | .swReadyTimeout .. =>
    recordRegs.contains r || ([.FAB_GRP_STATUS, .FAB_TRIB_STATUS, .PLACE_EV, .PLACE_ENG_STATUS, .PLACE_TRIB_STATUS] :
    List Rg).contains r
  | .ttBlockRx .. =>
    recordRegs.contains r || ([.TIM_REF_STATUS, .TIM_DPLL0_STATUS, .TIM_DPLL_STATUS, .TIM_TT_STATUS, .TIM_EV] : List
    Rg).contains r
  | .badAccess .. =>
    recordRegs.contains r || ([.LE_FEC_TEST, .TIM_TOD_NS, .HK_CH_VAL, .HK_CH_DITH_I, .HK_CH_DITH_Q, .PWR_CEL_RTC_HI] :
    List Rg).contains r
  | .dlofDeclare .. | .postResetLosCheck .. =>
    recordRegs.contains r || ([.LE_FRM_STATUS, .LE_FRM_EV, .FAB_GRP_STATUS, .FAB_TRIB_STATUS, .PLACE_EV,
    .PLACE_ENG_STATUS] : List Rg).contains r
  | .pmBoundary .. =>
    recordRegs.contains r || ([.LE_PM_BIP, .LE_PM_BEI, .LE_PM_EB, .LE_PM_FEB, .LE_PM_SEC, .LE_PM_LEN] : List
    Rg).contains r
  | .markerApplyNotFraming .. =>
    recordRegs.contains r || ([.LE_PROFILE, .LE_FRM_EV, .FAB_EV, .FAB_GRP_STATUS, .FAB_TRIB_STATUS, .PLACE_ENG_STATUS,
    .PLACE_TRIB_STATUS] : List Rg).contains r
  | .powerSet .. | .tamperAssert .. =>
    recordRegs.contains r || ([.CIPH_LOCK_STATUS, .PWR_STATUS, .PWR_WAKE_SRC, .PWR_CEL_STATUS, .SEC_STATE, .SEC_EV,
    .SYS_MODE] : List Rg).contains r
  | .wakeTxEnd =>
    recordRegs.contains r || ([.LE_TX_CTRL, .LE_FRM_STATUS, .LE_FRM_EV, .PLACE_ENG_STATUS, .CAL_EV, .CAL_ENG_STATUS,
    .PWR_WAKE_TX] : List Rg).contains r
  | .fecWindowEnd .. =>
    recordRegs.contains r || ([.LE_FEC_STATUS, .LE_FEC_EV, .LE_FEC_WIN0, .LE_FEC_WIN1, .LE_FEC_WIN2, .LE_FEC_WIN3,
    .FAB_GRP_STATUS, .FAB_TRIB_STATUS] : List Rg).contains r
  | .pmSyncEdge .. =>
    recordRegs.contains r || ([.LE_PM_BIP, .LE_PM_BEI, .LE_PM_EB, .LE_PM_FEB, .LE_PM_SEC, .LE_PM_LEN, .PERF_PM_SYNC,
    .PERF_PM_OFFSET] : List Rg).contains r
  | .todSecond =>
    recordRegs.contains r || ([.TIM_REF_STATUS, .TIM_DPLL0_STATUS, .TIM_DPLL_STATUS, .TIM_TT_THETA, .TIM_TT_DTAU,
    .TIM_TT_STATUS, .TIM_EV, .SEC_STATE] : List Rg).contains r
  | .acqUnlock .. =>
    recordRegs.contains r || ([.LE_STATUS, .LE_STATUS_EV, .LE_CD_EST, .LE_FO_EST, .LE_MARGIN, .LE_FEC_STATUS,
    .LE_FRM_STATUS, .CAL_EV, .CAL_ENG_STATUS] : List Rg).contains r
  | .cmdClear .. | .cmdLockout .. | .pairSwitchClear .. | .pairSwitchLockout .. | .pairSwitchForce ..
  | .pairSwitchManual .. | .pairSwitchReserved .. =>
    recordRegs.contains r || ([.LE_TX_CTRL, .LE_FEC_CTRL, .LE_FRM_CTRL, .CLI_PORT_STATUS, .FAB_GRP_STATUS,
    .FAB_TRIB_STATUS, .PAIR_STATUS, .TIM_DPLL0_STATUS, .TIM_EV, .SYS_MODE, .SYS_EV] : List Rg).contains r
  | .crossingSlip .. | .protTxSuspect .. | .compareYield .. | .sramScrub .. | .parityScan .. | .clockLoss ..
  | .laneTxFault .. | .txMonitorFault .. =>
    recordRegs.contains r || ([.LE_TX_CTRL, .LE_FEC_CTRL, .LE_FRM_CTRL, .CLI_PORT_STATUS, .FAB_GRP_STATUS,
    .FAB_TRIB_STATUS, .PAIR_STATUS, .PAIR_EV, .TIM_DPLL0_STATUS, .TIM_EV, .SYS_MODE, .SYS_EV] : List Rg).contains r
  | .hkWord .. =>
    recordRegs.contains r || ([.HK_STATUS, .HK_EV, .HK_CH_RAW, .HK_CH_VAL, .HK_CH_DITH_I, .HK_CH_DITH_Q, .HK_DET_CFG,
    .HK_DET_VAL, .HK_AOUT_STATUS, .HK_ALM_CTRL, .CAL_EV, .CAL_HK_STATUS] : List Rg).contains r
  | .heldModeResume =>
    recordRegs.contains r || ([.LE_PROFILE, .LE_TX_CTRL, .LE_STATUS, .LE_FRM_STATUS, .LE_FRM_EV, .CLI_PORT_STATUS,
    .FAB_GRP_STATUS, .FAB_TRIB_STATUS, .PLACE_ENG_STATUS, .PLACE_ENG_RX, .PLACE_TRIB_STATUS, .CAL_EV, .CAL_ENG_STATUS]
    : List Rg).contains r
  | .marginCompute .. =>
    recordRegs.contains r || ([.LE_STATUS, .LE_CD_EST, .LE_FO_EST, .LE_MARGIN, .LE_SNR, .LE_FEC_STATUS, .LE_FEC_EV,
    .LE_FEC_WIN0, .LE_FEC_WIN1, .LE_FEC_WIN2, .LE_FEC_WIN3, .FAB_GRP_STATUS, .FAB_TRIB_STATUS, .CAL_ENG_STATUS] : List
    Rg).contains r
  | .sigWindow .. =>
    recordRegs.contains r || ([.LE_STATUS, .LE_STATUS_EV, .LE_CD_EST, .LE_FO_EST, .LE_MARGIN, .LE_FEC_STATUS,
    .LE_FRM_STATUS, .LE_FRM_EV, .FAB_GRP_STATUS, .FAB_TRIB_STATUS, .PLACE_EV, .PLACE_ENG_STATUS, .CAL_EV,
    .CAL_ENG_STATUS] : List Rg).contains r
  | .railFail .. =>
    recordRegs.contains r || ([.LE_TX_CTRL, .LE_FRM_STATUS, .LE_FRM_EV, .PLACE_ENG_STATUS, .PAIR_STATUS,
    .CIPH_LOCK_STATUS, .HOST_RCTX_CFG, .HOST_RCTX_STATE, .HOST_LINK, .HK_AOUT_STATUS, .HK_ALM_CTRL, .CAL_EV,
    .CAL_ENG_STATUS, .PWR_PAD, .PWR_RAIL, .PWR_CEL_STATUS] : List Rg).contains r
  | .hbRx .. =>
    recordRegs.contains r || ([.LE_TX_CTRL, .LE_FEC_CTRL, .LE_FRM_CTRL, .CLI_PORT_STATUS, .FAB_GRP_STATUS,
    .FAB_TRIB_STATUS, .PLACE_ENG_STATUS, .PAIR_STATUS, .PAIR_LEVEL, .PAIR_EV, .PAIR_BRIDGE, .TIM_DPLL0_STATUS,
    .TIM_EV, .CIPH_ENG_CTRL, .SEC_EV, .SYS_MODE, .SYS_EV] : List Rg).contains r
  | .peerAliveLost | .cmdForce .. | .cmdManual .. | .cmdRelinquish .. | .dyingRx .. =>
    recordRegs.contains r || ([.LE_TX_CTRL, .LE_STATUS, .LE_FEC_CTRL, .LE_FRM_CTRL, .LE_FRM_STATUS, .LE_FRM_EV,
    .CLI_PORT_STATUS, .FAB_GRP_STATUS, .FAB_TRIB_STATUS, .PLACE_ENG_STATUS, .PAIR_STATUS, .PAIR_EV, .TIM_DPLL0_STATUS,
    .TIM_EV, .CAL_EV, .CAL_ENG_STATUS, .SYS_MODE, .SYS_EV] : List Rg).contains r
  | .positionDecode .. =>
    recordRegs.contains r || ([.LE_FEC_STATUS, .LE_FEC_EV, .LE_FEC_TEST, .LE_FRM_STATUS, .LE_FRM_EV, .FAB_EV,
    .FAB_GRP_STATUS, .FAB_TRIB_STATUS, .PLACE_ENG_RX, .TIM_REF_STATUS, .TIM_DPLL0_STATUS, .TIM_DPLL_STATUS,
    .TIM_TT_STATUS, .TIM_EV, .CIPH_ENG_CTRL, .CIPH_ENG_DAUTH_LO, .CIPH_ENG_DAUTH_HI, .CIPH_EV] : List Rg).contains r
  | .rxFrame .. =>
    recordRegs.contains r || ([.LE_STATUS, .LE_MARGIN, .LE_FRM_STATUS, .LE_FRM_EV, .FAB_EV, .FAB_GRP_STATUS,
    .FAB_TRIB_STATUS, .PLACE_ENG_RX, .TIM_REF_STATUS, .TIM_DPLL0_STATUS, .TIM_DPLL_STATUS, .TIM_TT_STATUS, .TIM_EV,
    .CIPH_ENG_CTRL, .CIPH_ENG_DAUTH_LO, .CIPH_ENG_DAUTH_HI, .CIPH_EV, .CAL_ENG_STATUS] : List Rg).contains r
  | .hbLost =>
    recordRegs.contains r || ([.LE_TX_CTRL, .LE_STATUS, .LE_FEC_CTRL, .LE_FRM_CTRL, .LE_FRM_STATUS, .LE_FRM_EV,
    .CLI_PORT_STATUS, .FAB_GRP_STATUS, .FAB_TRIB_STATUS, .PLACE_ENG_STATUS, .PAIR_STATUS, .PAIR_LEVEL, .PAIR_EV,
    .PAIR_BRIDGE, .TIM_DPLL0_STATUS, .TIM_EV, .CAL_EV, .CAL_ENG_STATUS, .SYS_MODE, .SYS_EV] : List Rg).contains r
  | .mapStageReport .. | .placeBlockRx .. =>
    recordRegs.contains r || ([.LE_PROFILE, .LE_TX_CTRL, .LE_STATUS, .LE_CD_EST, .LE_FO_EST, .LE_MARGIN, .LE_FEC_CTRL,
    .LE_FEC_STATUS, .LE_FRM_CTRL, .LE_FRM_STATUS, .LE_FRM_EV, .LE_FRM_OHB, .CLI_PORT_CFG, .CLI_PORT_STATUS, .FAB_EV,
    .FAB_GRP_STATUS, .FAB_TRIB_STATUS, .PLACE_EV, .PLACE_ENG_STATUS, .PLACE_ENG_RX, .PLACE_TRIB_STATUS, .PAIR_STATUS,
    .PAIR_EV, .PAIR_BRIDGE, .CIPH_ENG_CTRL, .CAL_EV, .CAL_ENG_STATUS, .SYS_MODE, .SYS_EV] : List Rg).contains r
  | .modeSet .. =>
    recordRegs.contains r || ([.LE_PROFILE, .LE_TX_CTRL, .LE_STATUS, .LE_CD_EST, .LE_FO_EST, .LE_MARGIN, .LE_FEC_CTRL,
    .LE_FEC_STATUS, .LE_FRM_CTRL, .LE_FRM_STATUS, .LE_FRM_EV, .LE_FRM_OHB, .CLI_PORT_CFG, .CLI_PORT_STATUS, .FAB_EV,
    .FAB_GRP_STATUS, .FAB_TRIB_STATUS, .PLACE_EV, .PLACE_ENG_STATUS, .PLACE_ENG_RX, .PLACE_TRIB_STATUS, .PAIR_STATUS,
    .PAIR_EV, .PAIR_BRIDGE, .TIM_DPLL0_STATUS, .TIM_EV, .CIPH_ENG_CTRL, .CAL_EV, .CAL_ENG_STATUS, .SYS_MODE, .SYS_EV]
    : List Rg).contains r
  | .txSfm .. =>
    recordRegs.contains r || ([.LE_PROFILE, .LE_TX_CTRL, .LE_STATUS, .LE_CD_EST, .LE_FO_EST, .LE_MARGIN, .LE_FEC_CTRL,
    .LE_FEC_STATUS, .LE_FRM_CTRL, .LE_FRM_STATUS, .LE_FRM_EV, .LE_FRM_OHB, .CLI_PORT_CFG, .CLI_PORT_STATUS, .FAB_EV,
    .FAB_GRP_STATUS, .FAB_TRIB_STATUS, .PLACE_EV, .PLACE_ENG_STATUS, .PLACE_ENG_RX, .PLACE_TRIB_STATUS, .PAIR_STATUS,
    .PAIR_EV, .PAIR_BRIDGE, .TIM_REF_STATUS, .TIM_DPLL0_STATUS, .TIM_DPLL_STATUS, .TIM_TT_STATUS, .TIM_EV,
    .CIPH_ENG_CTRL, .CIPH_EV, .CAL_EV, .CAL_ENG_STATUS, .SYS_MODE, .SYS_EV] : List Rg).contains r
  | .powerEntryDone .. =>
    recordRegs.contains r || ([.LE_TX_CTRL, .LE_STATUS, .LE_CD_EST, .LE_FO_EST, .LE_MARGIN, .LE_FEC_STATUS,
    .LE_FRM_STATUS, .LE_FRM_EV, .CLI_PORT_STATUS, .FAB_GRP_STATUS, .FAB_TRIB_STATUS, .PLACE_EV, .PLACE_ENG_STATUS,
    .PAIR_STATUS, .PAIR_EV, .PAIR_BRIDGE, .TIM_REF_STATUS, .TIM_DPLL0_STATUS, .TIM_DPLL_STATUS, .TIM_EV,
    .CIPH_ENG_CTRL, .CIPH_LOCK_STATUS, .HOST_RCTX_CFG, .HOST_RCTX_STATE, .HOST_LINK, .HK_STATUS, .HK_AOUT_STATUS,
    .HK_ALM_CTRL, .CAL_EV, .CAL_ENG_STATUS, .CAL_HK_STATUS, .PWR_STATUS, .PWR_PAD, .PWR_RAIL, .PWR_CEL_STATUS,
    .SEC_SHELF_STATUS, .SYS_MODE] : List Rg).contains r
  | .regWrite .. | .cellarRegWrite .. | .cellarWriteDone | .fecTestWrite .. | .binsReqWrite .. | .pairEnWrite ..
  | .mirRx .. | .bulkRx .. | .todSet .. | .loopOpenWrite .. | .dpllPstep .. | .kpFlip .. | .lockerRelease ..
  | .ringEnable .. | .ringDisable .. | .hkStartReq .. | .hkUrgentReq .. | .hkSyncCmd .. | .hkSeqStop
  | .hkFilterWrite .. | .hkChgRst .. | .hkLinCommit .. | .hkCompatEnable | .i3cEnable | .i3cDisable | .i3cRescan
  | .calForce | .wakeTxSend .. | .padRelease .. | .cellarPowerLoss | .coldResetRelease | .resetPin .. | .warmReset ..
  | .engineReset .. | .bootComplete .. | .lcReqProvision .. | .lcReqSeal .. | .lcReqReturn .. | .nonceReq ..
  | .credentialSubmit .. | .trapClose .. | .hostPrivDrop | .rbRaise .. | .snapNow .. | .counterLatch ..
  | .powerExitDone =>
    true

/-- Parts of State other than the registers that a command may change. -/
def Instr.parts (c : Instr) : List Comp :=
  match c with
  | .peerAliveGained | .ringQuiesced .. | .cellarSupplyChangeover .. | .pcieLinkUp .. | .celAck =>
    []
  | .cellarWriteDone | .rtcWrap | .vbatSample .. | .cellarPowerLoss =>
    [.cel]
  | .entropyReseed .. | .nonceExpire .. =>
    [.sec]
  | .ethOsetChange .. | .osetRepeat .. | .egressOsetTimeout .. =>
    [.trib]
  | .hkChgRstEnd .. | .hkClampRelease .. | .i3cEntdaaRoundEnd .. | .i3cNoTarget =>
    [.hk]
  | .hkOutputRetry .. | .railRetry =>
    [.pin]
  | .ppsEdge .. | .modelReady .. | .traceAcquire .. | .ttDiscardEnd =>
    [.tim]
  | .readyHoldEnd =>
    [.pair]
  | .rxFawFound .. | .protNr .. | .acqCdSearchEnd .. | .acqClkLock .. | .acqEqConverge .. | .acqHoldTimeout ..
  | .marginReport .. | .fecReadingReport .. | .txSuspectStart .. =>
    [.eng]
  | .skewMeasure .. =>
    [.grp]
  | .snapPeriod .. =>
    [.perf]
  | .testErrRead .. =>
    [.out]
  | .clientRxFault .. | .clientRxRecover .. =>
    [.port, .trib]
  | .hbTick | .laserMatchTick =>
    [.pair, .out]
  | .hkRawRead .. =>
    [.hk, .out]
  | .idleShadowApply .. =>
    [.eng, .cal]
  | .modeSetComplete =>
    [.ring, .mode]
  | .modelSave .. =>
    [.tim, .cel]
  | .msixUnmask .. =>
    [.host, .out]
  | .nop .. | .flashRead .. | .flashWrite .. | .flashErase .. | .i3cXferTimeout | .rxBuf .. =>
    [.ring, .host]
  | .pstepDone .. =>
    [.pin, .tim]
  | .rtcLoRead .. =>
    [.cel, .out]
  | .todNsRead .. =>
    [.tim, .out]
  | .vddIoUp | .vddSramUp =>
    [.pin, .pwr]
  | .cackRx .. =>
    [.ring, .mode, .pair]
  | .i3cXferDone .. | .msixModTimer .. =>
    [.ring, .host, .out]
  | .ohbTx .. =>
    [.eng, .ring, .host]
  | .railStartTimeout .. =>
    [.pin, .pwr, .cel]
  | .testSyncBlock .. =>
    [.eng, .out, .free]
  | .timeCellTick .. =>
    [.pair, .tim, .out]
  | .cmdResend =>
    [.ring, .mode, .pair, .out]
  | .evtOverflow .. =>
    [.ring, .host, .perf, .out]
  | .flashTimeout =>
    [.fuse, .ring, .host, .free]
  | .mackRx .. =>
    [.eng, .mode, .pair, .out]
  | .flashOpDone .. =>
    [.fuse, .ring, .host, .out, .free]
  | .shelfWrite .. =>
    [.fuse, .ring, .host, .sec, .free]
  | .wakePin | .wakeRtc .. =>
    [.pin, .host, .pwr, .cel, .out]
  | .clipWindow .. | .sqDoorbell .. | .cqDoorbell .. | .descFetch .. | .i3cXfer .. | .completionWrite .. | .almShort
  | .almStuck | .i3cRoundAbort | .i3cTableFull | .i3cSettleTimeout | .pilotFailTimeout .. | .hkRecordFlush
  | .keyReservedOp .. | .badCellRx .. =>
    [.cnt, .wrapc, .ring, .host, .perf, .out]
  | .wakeLine .. | .wakeClient .. =>
    [.pin, .host, .pwr, .cel, .out, .free]
  | .aoutOvervolt .. | .aoutIlim .. | .aoutWired .. =>
    [.pin, .cnt, .wrapc, .ring, .host, .perf, .out]
  | .cellAlarmReport =>
    [.cnt, .wrapc, .ring, .host, .cel, .perf, .out]
  | .entropyTestFail | .cipherHalt | .sessionExpire =>
    [.cnt, .wrapc, .ring, .host, .sec, .perf, .out]
  | .hkClamp .. | .hkExcMonitor .. | .i3cHotJoin | .i3cStatusPoll .. =>
    [.cnt, .wrapc, .ring, .host, .hk, .perf, .out]
  | .mirResend .. =>
    [.cnt, .wrapc, .ring, .host, .pair, .perf, .out]
  | .pilotWaitExpire .. =>
    [.cnt, .wrapc, .ring, .host, .cal, .perf, .out]
  | .protUnprotected .. | .protBadCode .. | .protAckTimeout .. | .gccBlockReceive .. | .acqClkTimeout ..
  | .acqEqTimeout .. | .acqCarTimeout .. | .placeRxShadowLoaded .. | .pcieLinkDown | .pcieHotReset | .pcieFlr =>
    [.cnt, .wrapc, .eng, .ring, .host, .perf, .out]
  | .swSwitchTimeout .. =>
    [.cnt, .wrapc, .ring, .host, .mode, .perf, .out]
  | .todPhaseStep .. | .holdExpire =>
    [.cnt, .wrapc, .ring, .host, .tim, .perf, .out]
  | .txFrame .. =>
    [.eng, .port, .trib, .grp, .pair, .out, .free]
  | .walkEnd .. =>
    [.cnt, .wrapc, .ring, .host, .perf, .out, .free]
  | .calRefCompare .. =>
    [.cnt, .wrapc, .eng, .ring, .host, .cal, .perf, .out]
  | .credentialVerified =>
    [.cnt, .wrapc, .lock, .ring, .host, .sec, .perf, .out]
  | .dlmBlockHeader .. | .pairLaneDown .. | .pairLaneUp .. | .bridgeSelect .. | .bridgeRestore .. =>
    [.cnt, .wrapc, .trib, .ring, .host, .pair, .perf, .out]
  | .ethIngressFrame .. =>
    [.cnt, .wrapc, .port, .trib, .ring, .host, .perf, .out]
  | .groupTagRx .. | .dskewDeclare .. | .dskewClear .. =>
    [.cnt, .wrapc, .trib, .grp, .ring, .host, .perf, .out]
  | .keyLoad .. | .keyErase .. | .keyPromote .. =>
    [.cnt, .wrapc, .lock, .ring, .host, .pair, .perf, .out]
  | .placeChanDown .. =>
    [.cnt, .wrapc, .eng, .ring, .host, .mode, .perf, .out]
  | .protSwitched .. | .pmBoundary .. | .pmSyncEdge .. =>
    [.cnt, .wrapc, .eng, .ring, .host, .tim, .perf, .out]
  | .acqCarLock .. | .acqUnlock .. | .acqHoldRelock .. =>
    [.cnt, .wrapc, .eng, .ring, .host, .cal, .perf, .out, .free]
  | .badAccess .. =>
    [.cnt, .wrapc, .ring, .host, .tim, .hk, .cel, .perf, .out]
  | .calEstimate .. =>
    [.cnt, .wrapc, .eng, .ring, .host, .hk, .cal, .perf, .out]
  | .dlofClear .. | .fecWindowEnd .. =>
    [.cnt, .wrapc, .eng, .trib, .grp, .ring, .host, .perf, .out]
  | .flexeCalendarSwitch .. =>
    [.cnt, .wrapc, .port, .trib, .ring, .host, .pair, .perf, .out]
  | .hkSlotEnd =>
    [.pin, .cnt, .wrapc, .ring, .host, .hk, .cal, .perf, .out]
  | .lcTransitionDone =>
    [.fuse, .cnt, .wrapc, .lock, .ring, .host, .sec, .perf, .out]
  | .mothballTodLoad .. =>
    [.cnt, .wrapc, .ring, .host, .tim, .pwr, .cel, .perf, .out]
  | .shelfCommit .. =>
    [.fuse, .cnt, .wrapc, .ring, .host, .sec, .perf, .out, .free]
  | .controlRestartDone =>
    [.pin, .cnt, .wrapc, .eng, .ring, .host, .mode, .sec, .perf, .out]
  | .hkWord .. =>
    [.pin, .cnt, .wrapc, .ring, .host, .hk, .cal, .perf, .out, .free]
  | .lockstepMismatch =>
    [.pin, .cnt, .wrapc, .ring, .host, .mode, .pair, .sec, .perf, .out]
  | .marginCompute .. =>
    [.cnt, .wrapc, .eng, .trib, .grp, .ring, .host, .perf, .out, .free]
  | .markerApplyNotFraming .. | .dlofDeclare .. | .swReadyTimeout .. | .postResetLosCheck .. =>
    [.cnt, .wrapc, .eng, .trib, .grp, .ring, .host, .mode, .perf, .out]
  | .todSecond | .refFail .. | .refQualify .. | .d0Lock .. | .d0Unlock .. | .ttBlockRx .. | .cdHoldExpire
  | .timeSample .. =>
    [.pin, .cnt, .wrapc, .eng, .ring, .host, .tim, .perf, .out, .free]
  | .sigWindow .. =>
    [.cnt, .wrapc, .eng, .trib, .grp, .ring, .host, .mode, .cal, .perf, .out]
  | .swStart .. =>
    [.cnt, .wrapc, .eng, .trib, .grp, .ring, .host, .mode, .pair, .perf, .out]
  | .tamperAssert .. =>
    [.pin, .cnt, .wrapc, .lock, .ring, .host, .pwr, .cel, .sec, .perf, .out]
  | .timeCellRx .. =>
    [.pin, .cnt, .wrapc, .eng, .ring, .host, .pair, .tim, .perf, .out, .free]
  | .gmpWordRx .. =>
    [.pin, .cnt, .wrapc, .port, .trib, .grp, .ring, .host, .pair, .perf, .out, .free]
  | .powerSet .. =>
    [.pin, .cnt, .wrapc, .lock, .ring, .host, .mode, .pwr, .cel, .sec, .perf, .out]
  | .wakeTxEnd =>
    [.pin, .cnt, .wrapc, .eng, .grp, .ring, .host, .mode, .cal, .perf, .out, .free]
  | .heldModeResume =>
    [.pin, .cnt, .wrapc, .eng, .trib, .grp, .ring, .host, .mode, .cal, .perf, .out, .free]
  | .positionDecode .. =>
    [.pin, .cnt, .wrapc, .eng, .trib, .grp, .lock, .ring, .host, .tim, .perf, .out, .free]
  | .protTxSuspect .. | .hbRx .. | .cmdClear .. | .cmdLockout .. | .compareYield .. | .pairSwitchClear ..
  | .pairSwitchLockout .. | .pairSwitchForce .. | .pairSwitchManual .. | .clockLoss .. | .laneTxFault ..
  | .txMonitorFault .. | .pairSwitchReserved .. =>
    [.pin, .cnt, .wrapc, .eng, .trib, .grp, .ring, .host, .mode, .pair, .tim, .perf, .out, .free]
  | .rxFrame .. =>
    [.pin, .cnt, .wrapc, .eng, .trib, .grp, .lock, .ring, .host, .tim, .cal, .perf, .out, .free]
  | .crossingSlip .. | .parityScan .. =>
    [.pin, .cnt, .wrapc, .eng, .port, .trib, .grp, .ring, .host, .mode, .pair, .tim, .perf, .out, .free]
  | .mapStageReport .. | .placeBlockRx .. =>
    [.pin, .cnt, .wrapc, .eng, .port, .trib, .grp, .ring, .host, .mode, .pair, .cal, .perf, .out, .free]
  | .peerAliveLost | .hbLost | .cmdForce .. | .cmdManual .. | .cmdRelinquish .. | .dyingRx .. =>
    [.pin, .cnt, .wrapc, .eng, .trib, .grp, .ring, .host, .mode, .pair, .tim, .cal, .perf, .out, .free]
  | .modeSet .. =>
    [.pin, .cnt, .wrapc, .eng, .port, .trib, .grp, .ring, .host, .mode, .pair, .tim, .cal, .perf, .out, .free]
  | .sramScrub .. =>
    [.pin, .cnt, .wrapc, .eng, .port, .trib, .grp, .ring, .host, .mode, .pair, .tim, .sec, .perf, .out, .free]
  | .mirRx .. | .bulkRx .. =>
    [.pin, .cnt, .wrapc, .eng, .port, .trib, .grp, .bins, .lock, .ring, .host, .mode, .pair, .tim, .cal, .perf, .out,
    .free]
  | .railFail .. =>
    [.fuse, .pin, .cnt, .wrapc, .eng, .grp, .lock, .ring, .host, .mode, .pair, .cal, .pwr, .cel, .sec, .perf, .out,
    .free]
  | .txSfm .. =>
    [.pin, .cnt, .wrapc, .eng, .port, .trib, .grp, .lock, .ring, .host, .mode, .pair, .tim, .cal, .sec, .perf, .out,
    .free]
  | .powerEntryDone .. =>
    [.pin, .cnt, .wrapc, .eng, .trib, .grp, .lock, .ring, .host, .mode, .pair, .tim, .hk, .cal, .pwr, .cel, .sec,
    .perf, .out, .free]
  | .regWrite .. | .cellarRegWrite .. | .fecTestWrite .. | .binsReqWrite .. | .pairEnWrite .. | .todSet ..
  | .loopOpenWrite .. | .dpllPstep .. | .kpFlip .. | .lockerRelease .. | .ringEnable .. | .ringDisable ..
  | .hkStartReq .. | .hkUrgentReq .. | .hkSyncCmd .. | .hkSeqStop | .hkFilterWrite .. | .hkChgRst .. | .hkLinCommit ..
  | .hkCompatEnable | .i3cEnable | .i3cDisable | .i3cRescan | .calForce | .wakeTxSend .. | .padRelease ..
  | .coldResetRelease | .resetPin .. | .warmReset .. | .engineReset .. | .bootComplete .. | .lcReqProvision ..
  | .lcReqSeal .. | .lcReqReturn .. | .nonceReq .. | .credentialSubmit .. | .trapClose .. | .hostPrivDrop
  | .rbRaise .. | .snapNow .. | .counterLatch .. | .powerExitDone =>
    [.fuse, .pin, .cnt, .wrapc, .eng, .port, .trib, .grp, .bins, .lock, .ring, .host, .mode, .pair, .tim, .hk, .cal,
    .pwr, .cel, .sec, .perf, .out, .free]

end Sys2Proof
end

