-- ==== Sys2Proof/Certificates/Slice0/Obligations.lean ====
section
/-! DEFINITION. The statements for the provers, one Prop each. Unless a statement says otherwise it holds in every state. -/
open Sys2Proof Sys2Proof.Machine

/-- In CD_SEARCH the search's end applies the hypothesis of the largest clock tone and enters CLK_ACQ; clock lock enters
EQ_ACQ, convergence CAR_ACQ, carrier lock (and a relock from HOLD) LOCKED with dsp_lock and LOCK_GAINED. Equal tones
and the grid's rounding are the model's choice (log entry 12). (03_line_engine.md R101, R91, R104) -/
def Obligations.AcquisitionGoesOn : Prop :=
  (∀ (n : Eng) (tone : List Nat) (s : State), s.inAcq n 2 = true → Ends (.acqCdSearchEnd n tone) s fun t =>
      t.rd .LE_STATUS_acq_state n = 3 ∧ (t.acqOf n).cdApplied = gridCd (s.prof n) (bestTone tone (s.searchGrid n)))
  ∧ (∀ (n : Eng) (ppb : Int) (s : State), s.inAcq n 3 = true → ppb.natAbs ≤ 1000 → Ends (.acqClkLock n ppb) s fun t =>
      t.rd .LE_STATUS_acq_state n = 4 ∧ (t.acqOf n).muAcq = s.rd .LE_EQ_CR_CTRL_mu_acq n)
  ∧ (∀ (n : Eng) (s : State), s.inAcq n 4 = true → Ends (.acqEqConverge n) s fun t =>
      t.rd .LE_STATUS_acq_state n = 5 ∧ (t.acqOf n).trackCrit = true ∧ (t.acqOf n).foRange = s.foRange n)
  ∧ (∀ (n : Eng) (fo snrMin : Int) (s : State), s.inAcq n 5 = true → fo.natAbs ≤ 100 * (s.acqOf n).foRange →
      s.snrLocks n snrMin = true → Ends (.acqCarLock n fo snrMin) s fun t =>
      t.rd .LE_STATUS_acq_state n = 6 ∧ t.rd .LE_STATUS_dsp_lock n = 1 ∧ t.rd .LE_STATUS_EV_lock_gained n = 1
        ∧ t.rd .LE_MARGIN_margin_valid n = 0 ∧ (t.acqOf n).fo = fo)
  ∧ (∀ (n : Eng) (fo snrMin : Int) (s : State), s.inAcq n 7 = true → s.on .LE_STATUS_sig_present n = true →
      s.snrLocks n snrMin = true → Ends (.acqHoldRelock n fo snrMin) s fun t =>
      t.rd .LE_STATUS_acq_state n = 6 ∧ t.rd .LE_STATUS_dsp_lock n = 1 ∧ t.rd .LE_STATUS_EV_lock_gained n = 1
        ∧ (t.acqOf n).frozen = false ∧ (t.acqOf n).fo = fo)

/-- A time-out of CLK_ACQ, EQ_ACQ or CAR_ACQ raises ACQ_FAIL, counts, and searches again, which is CLK_ACQ with cd_mode
FIXED and a hint within range, and CD_SEARCH otherwise; LOCKED is left for HOLD with dsp_lock, est_converged and the
valid bits at 0 and LOCK_LOST; the end of HOLD goes to SIG_WAIT without a signal and searches so with one.
(03_line_engine.md R90, R92, R101) -/
def Obligations.AcquisitionFallsBack : Prop :=
  (∀ (n : Eng) (s : State) (c : Instr),
      (s.inAcq n 3 = true ∧ c = .acqClkTimeout n ∨ s.inAcq n 4 = true ∧ c = .acqEqTimeout n
        ∨ s.inAcq n 5 = true ∧ c = .acqCarTimeout n) →
      Ends c s fun t => t.rd .LE_STATUS_acq_state n
          = (if s.rd .LE_CDC_CTRL_cd_mode n = 2 ∧ (s.rdInt .LE_CDC_CTRL_cd_hint n).natAbs ≤ cdRange (s.prof n) then 3 else 2)
        ∧ t.rd .LE_STATUS_EV_acq_fail n = 1 ∧ t.cntOf (cEng n 0) = (s.cntOf (cEng n 0) + 1) % 2 ^ 48)
  ∧ (∀ (n : Eng) (why : UnlockObs) (s : State), s.inAcq n 6 = true → s.mustUnlock n why = true →
      Ends (.acqUnlock n why) s fun t =>
        t.rd .LE_STATUS_acq_state n = 7 ∧ t.rd .LE_STATUS_dsp_lock n = 0 ∧ t.rd .LE_STATUS_est_converged n = 0
          ∧ t.rd .LE_CD_EST_cd_valid n = 0 ∧ t.rd .LE_FO_EST_fo_valid n = 0 ∧ t.rd .LE_STATUS_EV_lock_lost n = 1)
  ∧ (∀ (n : Eng) (s : State), s.inAcq n 7 = true → Ends (.acqHoldTimeout n) s fun t =>
      (s.on .LE_STATUS_sig_present n = false → t.rd .LE_STATUS_acq_state n = 1)
        ∧ (s.on .LE_STATUS_sig_present n = true → t.rd .LE_STATUS_acq_state n
          = (if s.rd .LE_CDC_CTRL_cd_mode n = 2 ∧ (s.rdInt .LE_CDC_CTRL_cd_hint n).natAbs ≤ cdRange (s.prof n) then 3 else 2)))

/-- The tenth window at or above the upper threshold raises sig_present, the tenth below the lower clears it with
SIG_LOST; a window that was in progress when a threshold was written does not count; a clipping window shows in clip
and raises CLIP_SEEN as it begins; a margin computation shows the mean of the last ten readings less the required
SNR and steps RSEQ; a report hands the reading to the Storekeeper. A mean is rounded to nearest, halves up, and a
reading saturates at the ends of its field by the model's choice (log entries 13 and 159). (03_line_engine.md R86,
R88, R107, R108, R111) -/
def Obligations.SignalWindows : Prop :=
  (∀ (n : Eng) (pwr : Int) (s : State), s.hasEng n = true → s.rd .LE_STATUS_acq_state n ≠ 0 → (s.sigThr n).1 ≤ pwr →
      9 ≤ (s.acqOf n).sigHi → (s.acqOf n).sigSkip = false → Ends (.sigWindow n pwr) s fun t => t.rd .LE_STATUS_sig_present n ≠ 0)
  ∧ (∀ (n : Eng) (pwr : Int) (s : State), s.hasEng n = true → s.rd .LE_STATUS_acq_state n ≠ 0 → pwr < (s.sigThr n).2 →
      9 ≤ (s.acqOf n).sigLo → (s.acqOf n).sigSkip = false → s.on .LE_STATUS_sig_present n = true →
      Ends (.sigWindow n pwr) s fun t =>
        t.rd .LE_STATUS_sig_present n = 0 ∧ t.rd .LE_STATUS_EV_sig_lost n = 1)
  ∧ (∀ (n : Eng) (pwr : Int) (s : State), s.hasEng n = true → s.rd .LE_STATUS_acq_state n ≠ 0 →
      (s.acqOf n).sigSkip = true → (s.acqOf n).sigHi ≠ 10 → (s.acqOf n).sigLo ≠ 10 → Ends (.sigWindow n pwr) s fun t =>
        t = s.modAcq n fun a => { a with sigSkip := false })
  ∧ (∀ (n : Eng) (clipped : List Nat) (samples : Nat) (s : State), s.hasEng n = true →
      s.rd .LE_STATUS_acq_state n ≠ 0 → Ends (.clipWindow n clipped samples) s fun t =>
        t.rd .LE_STATUS_clip n = b2n (clipped.any fun k => decide (samples < 10000 * k))
        ∧ ((clipped.any fun k => decide (samples < 10000 * k)) = true → s.rd .LE_STATUS_clip n = 0 →
            t.rd .LE_STATUS_EV_clip_seen n = 1))
  ∧ (∀ (n : Eng) (m : MarginObs) (s : State), s.inAcq n 6 = true → Ends (.marginCompute n m) s fun t =>
      let h := ((m.snr : Int) :: (s.acqOf n).snrHist).take 10
      (t.acqOf n).snrHist = h ∧ t.rd .LE_SNR_snr_est n = (meanNear h).toNat % 2 ^ 16
        ∧ t.rdInt .LE_MARGIN_snr_margin n = clampInt (-32768) 32767 (meanNear h - s.snrReqNow n)
        ∧ t.rd .LE_CD_EST_cd_valid n = 1 ∧ t.rd .LE_FO_EST_fo_valid n = 1
        ∧ (t.skOf n).ownRseq = ((s.skOf n).ownRseq + 1) % 256)
  ∧ (∀ (n : Eng) (s : State), s.hasEng n = true → s.inService n = true → Ends (.marginReport n) s fun t =>
      (t.skOf n).ownMargin = s.regVal .LE_MARGIN n ∧ (t.skOf n).ownRseq = (s.skOf n).ownRseq)

/-- A position that enters the window of an LP-N engine shows whether it is decoded, and takes its place among at most
64; the oldest of a full window leaves with its corrected bits and its uncorrectable codewords counted, as the outer
decoding of its decisions gives them; without lock or signal a position or block is not decoded and is counted so; a
window's end latches the error ratio and its validity and starts the counts anew, and the margin computation shows
them where the engine is locked; a report hands the readings over; three sync blocks that hit set test_sync, three
that miss clear it, in NEAR_DIG those that the engine itself sends, and each restarts the reference sequence. That a
locked engine's readings wait for its margin computation, and that a window shows them itself without lock, is read
from the rules (log entry 192), as is what an engine in NEAR_DIG receives (log entry 165). (04_nurnauri_fec.md R125,
R130, R131, R137, R138, R139, R146) -/
def Obligations.FecReadings : Prop :=
  (∀ (n : Eng) (p : PosObs) (s : State), s.hasEng n = true → s.inService n = true → s.lpn n = true →
      (s.fecOf n).win.length ≤ 64 → Ends (.positionDecode n p) s fun t =>
        t.rd .LE_FEC_STATUS_decoding n = b2n !(fecEnter (s.fecRate n) (s.softBits n p.llr)).zero
          ∧ (t.fecOf n).win.length = min 64 ((s.fecOf n).win.length + 1))
  ∧ (∀ (n : Eng) (p : PosObs) (q : FecPos) (s : State), s.hasEng n = true → s.inService n = true → s.lpn n = true →
      (s.fecOf n).win.length = 64 → (s.fecOf n).win.head? = some q → q.zero = false →
      Ends (.positionDecode n p) s fun t =>
        let r := fecLeave (s.fecRate n) (s.fecOf n).old (s.fecOf n).win
        t.cntOf (cEng n 3) = (s.cntOf (cEng n 3) + r.corr) % 2 ^ 48
          ∧ t.cntOf (cEng n 4) = (s.cntOf (cEng n 4) + r.cws.countP (· == .uncorrectable)) % 2 ^ 48)
  ∧ (∀ (n : Eng) (p : PosObs) (s : State), s.hasEng n = true → s.inService n = true →
      s.on .LE_STATUS_dsp_lock n = false ∨ s.on .LE_STATUS_sig_present n = false → Ends (.positionDecode n p) s fun t =>
        t.rd .LE_FEC_STATUS_decoding n = 0 ∧ t.cntOf (cEng n 6) = (s.cntOf (cEng n 6) + 1) % 2 ^ 48)
  ∧ (∀ (n : Eng) (s : State), s.hasEng n = true → s.inService n = true → s.on .LE_STATUS_dsp_lock n = false →
      Ends (.fecWindowEnd n) s fun t =>
      t.rd .LE_FEC_WIN0_ber_pre n = berCode (s.fecOf n).corr (s.fecOf n).exam % 2 ^ (Fld.info .LE_FEC_WIN0_ber_pre).w
        ∧ t.rd .LE_FEC_WIN0_fec_valid n = 0
        ∧ (t.fecOf n).corr = 0 ∧ (t.fecOf n).exam = 0 ∧ (t.fecOf n).unc = 0)
  ∧ (∀ (n : Eng) (s : State), s.hasEng n = true → s.inService n = true → s.on .LE_STATUS_dsp_lock n = true →
      (s.fecOf n).ended = false → Ends (.fecWindowEnd n) s fun t =>
      (t.fecOf n).staged.map (fun l => (l.getD 0 0, l.getD 2 0)) = some (berCode (s.fecOf n).corr (s.fecOf n).exam, b2n !(s.fecOf n).spoiled)
        ∧ t.rd .LE_FEC_WIN0_ber_pre n = s.rd .LE_FEC_WIN0_ber_pre n
        ∧ (t.fecOf n).corr = 0 ∧ (t.fecOf n).exam = 0 ∧ (t.fecOf n).unc = 0)
  ∧ (∀ (n : Eng) (m : MarginObs) (l : List Nat) (s : State), s.inAcq n 6 = true → (s.fecOf n).staged = some l →
      Ends (.marginCompute n m) s fun t =>
        t.rd .LE_FEC_WIN0_ber_pre n = l.getD 0 0 % 2 ^ (Fld.info .LE_FEC_WIN0_ber_pre).w
          ∧ t.rd .LE_FEC_WIN0_fec_valid n = l.getD 2 0 % 2 ∧ (t.fecOf n).staged = none)
  ∧ (∀ (n : Eng) (s : State), s.hasEng n = true → s.inService n = true → Ends (.fecReadingReport n) s fun t =>
      (t.skOf n).ownWin0 = s.regVal .LE_FEC_WIN0 n
        ∧ (t.skOf n).ownWin = [s.regVal .LE_FEC_WIN1 n, s.regVal .LE_FEC_WIN2 n, s.regVal .LE_FEC_WIN3 n])
  ∧ (∀ (n : Eng) (differ : List Nat) (s : State), s.hasEng n = true → s.fecTest n = true →
      Ends (.testSyncBlock n differ) s fun t =>
        let seen := if s.loopback n = 1 then (if s.on .LE_TX_CTRL_tx_active n then [0] else [512]) else differ
        (t.fecOf n).prbs = 0x7FFFFFFF
        ∧ (seen.all (fun k => decide (k ≤ 32)) = true → 2 ≤ (s.fecOf n).hit → t.rd .LE_FEC_STATUS_test_sync n = 1)
        ∧ (seen.all (fun k => decide (k ≤ 32)) = false → 2 ≤ (s.fecOf n).miss → t.rd .LE_FEC_STATUS_test_sync n = 0))

/-- A comparison of the references shows their difference, and the third beyond 1 % in a row raises REF_FAULT; an
estimate beyond its range is rejected and counted with its item, index and reason; a plausible estimate, of a
housekeeping item one of the point that a whole calibration slot has measured, is kept as the last one and, of an
engine item, waits for the engine's SFM, of a housekeeping item for its idle slot; pilot_wait without convergence
requests pilots on an LP-N profile and raises EST_STUCK once on another; no pilots raise PILOT_FAIL.
(13_calibration.md R444, R446, R447, R449, R450, R459, R460) -/
def Obligations.CalibrationSteps : Prop :=
  (∀ (diff : Int) (s : State), Ends (.calRefCompare diff) s fun t =>
      t.rdInt .CAL_HK_STATUS_ref_diff 0 = clampInt (-32768) 32767 diff
        ∧ (1000 < diff.natAbs → 2 ≤ s.cal.refRun → s.rd .CAL_HK_STATUS_ref_fault = 0 →
            t.rd .CAL_HK_STATUS_ref_fault = 1 ∧ t.rd .CAL_EV_ref_fault = 1))
  ∧ (∀ (item : Nat) (n : Eng) (idx : Nat) (est : Int) (s : State), item < 8 → idx < (trimItem item).2.2 →
      s.estRuns item n = true → (trimItem item).1 < est.natAbs →
      Ends (.calEstimate item n idx est) s fun t =>
        t.rd .CAL_LAST_REJ_item = item ∧ t.rd .CAL_LAST_REJ_engine = n ∧ t.rd .CAL_LAST_REJ_reason = 0
          ∧ t.rd .CAL_EV_reject = 1 ∧ t.cntOf 530 = (s.cntOf 530 + 1) % 2 ^ 48)
  ∧ (∀ (item : Nat) (n : Eng) (idx : Nat) (est : Int) (s : State), item < 8 → idx < (trimItem item).2.2 →
      s.estRuns item n = true → s.on .CAL_HK_STATUS_ref_fault = false → s.implausible item n idx est = none →
      Ends (.calEstimate item n idx est) s fun t =>
        SMap.get 0 t.cal.last (trimKey item n idx) = est ∧ SMap.get 0 t.cal.rej (trimKey item n idx) = 0
          ∧ (t.txOf n).shadows.getLast? = some { what := .trim item idx, val := est, target := none })
  ∧ (∀ (item : Nat) (n : Eng) (idx : Nat) (est : Int) (s : State), 8 ≤ item → (s.itemInst item).contains idx = true →
      s.estRuns item 0 = true → s.hk.calDone = some (item, idx) → s.on .CAL_HK_STATUS_ref_fault = false → s.implausible item 0 idx est = none →
      Ends (.calEstimate item n idx est) s fun t =>
        SMap.get 0 t.cal.last (trimKey item 0 idx) = est ∧ SMap.get 0 t.cal.rej (trimKey item 0 idx) = 0
          ∧ t.cal.hkPend = s.cal.hkPend ++ [(trimKey item 0 idx, est)])
  ∧ (∀ (n : Eng) (s : State), s.hasEng n = true → s.on .LE_STATUS_dsp_lock n = true → s.rxConverged n = false →
      s.lpn n = true → s.rd .CAL_ENG_STATUS_requesting n = 0 → Ends (.pilotWaitExpire n) s fun t =>
        t.rd .CAL_ENG_STATUS_requesting n = 1 ∧ t.rd .CAL_EV_pilot_req = 1)
  ∧ (∀ (n : Eng) (s : State), s.hasEng n = true → s.on .LE_STATUS_dsp_lock n = true → s.rxConverged n = false →
      s.lpn n = false → SMap.get false s.cal.estStuck n = false → Ends (.pilotWaitExpire n) s fun t =>
        t.rd .CAL_EV_est_stuck = 1 ∧ SMap.get false t.cal.estStuck n = true)
  ∧ (∀ (n : Eng) (s : State), s.hasEng n = true → s.on .CAL_ENG_STATUS_requesting n = true →
      Ends (.pilotFailTimeout n) s fun t => t.rd .CAL_EV_pilot_fail = 1)

/-- The alignment word found in OOF makes a candidate; a candidate whose next frame fits enters IF with in_frame, one
whose next frame does not goes back, and the fifth bad frame in a row leaves IF; an interoperable frame sets or
clears in_frame by its own alignment; dLOF is declared and cleared; a finished GCC0 block goes to the buffer posted
for it, or is discarded and counted where it is bad, and a finished MFC block is dropped where no host wants it; the
check after an ENGINE reset declares dLOS where no signal came. In NEAR_DIG the frames are the engine's own and the
first clauses do not speak of them. (05_line_framing.md R163, R177, R173, R179, R572) -/
def Obligations.ReceiveFraming : Prop :=
  (∀ (n : Eng) (errs rot fn : Nat) (s : State), s.hasEng n = true → s.lpn n = true → s.on .LE_STATUS_dsp_lock n = true →
      (s.rxOf n).st = .oof → errs ≤ 2 → Ends (.rxFawFound n errs rot fn) s fun t =>
        (t.rxOf n).st = .cand ∧ (t.rxOf n).fn = fn % 256 ∧ (t.acqOf n).xymRot = rot % 8)
  ∧ (∀ (n : Eng) (f : RxFrameObs) (s : State), s.hasEng n = true → s.lpn n = true → s.on .LE_STATUS_dsp_lock n = true →
      s.loopback n ≠ 1 → (s.rxOf n).st = .cand → f.faw ≤ 2 → hdrOk f.hdr = true →
      byteAt f.hdr 0 = ((s.rxOf n).fn + 1) % 256 → Ends (.rxFrame n f) s fun t =>
        (t.rxOf n).st = .inFrame ∧ (t.rxOf n).fn = byteAt f.hdr 0 ∧ t.rd .LE_FRM_STATUS_in_frame n = 1)
  ∧ (∀ (n : Eng) (f : RxFrameObs) (s : State), s.hasEng n = true → s.lpn n = true → s.on .LE_STATUS_dsp_lock n = true →
      s.loopback n ≠ 1 → 2 < f.faw → (s.rxOf n).st = .cand → Ends (.rxFrame n f) s fun t => (t.rxOf n).st = .oof)
  ∧ (∀ (n : Eng) (f : RxFrameObs) (s : State), s.hasEng n = true → s.lpn n = true → s.on .LE_STATUS_dsp_lock n = true →
      s.loopback n ≠ 1 → 2 < f.faw → (s.rxOf n).st = .inFrame → (s.rxOf n).bad = 4 → Ends (.rxFrame n f) s fun t =>
        (t.rxOf n).st = .oof ∧ t.rd .LE_FRM_STATUS_in_frame n = 0)
  ∧ (∀ (n : Eng) (f : RxFrameObs) (s : State), s.hasEng n = true → s.inService n = true → s.lpn n = false →
      s.on .LE_STATUS_dsp_lock n = true → Ends (.rxFrame n f) s fun t =>
        t.on .LE_FRM_STATUS_in_frame n = f.aligned)
  ∧ (∀ (n : Eng) (s : State), s.hasEng n = true → s.inService n = true → s.on .LE_FRM_STATUS_in_frame n = false →
      s.on .LE_FRM_STATUS_dlos n = false → Ends (.dlofDeclare n) s fun t =>
        t.on .LE_FRM_STATUS_dlof n = true ∧ (t.rxOf n).lossRun = true)
  ∧ (∀ (n : Eng) (s : State), s.hasEng n = true → s.inService n = true → s.on .LE_FRM_STATUS_in_frame n = true →
      Ends (.dlofClear n) s fun t => t.on .LE_FRM_STATUS_dlof n = false)
  ∧ (∀ (n : Eng) (s : State) (b : RxBlock), s.hasEng n = true → (s.rxOf n).gccDone = some b → b.bad = true →
      s.on .LE_FRM_CTRL_ohb_gcc_en n = true → Ends (.gccBlockReceive n false) s fun t =>
        (t.rxOf n).gccDone = none ∧ t.rd .LE_FRM_EV_gcc_drop n = 1 ∧ t.cntOf (cEng n 10) = (s.cntOf (cEng n 10) + 1) % 2 ^ 48)
  ∧ (∀ (n : Eng) (s : State) (b : RxBlock) (d : Desc), s.hasEng n = true → (s.rxOf n).gccDone = some b → b.bad = false →
      s.on .LE_FRM_CTRL_ohb_gcc_en n = true → s.ohbBuf n = some d → Ends (.gccBlockReceive n false) s fun t =>
        (t.rxOf n).gccDone = none ∧ t.ended d 0 (2 * n) (min b.data.length d.len)
          ∧ (s.padHeld 6 = false → t.out = .dma d.addr (b.data.take d.len) :: s.out))
  ∧ (∀ (n : Eng) (s : State) (b : RxBlock), s.hasEng n = true → (s.rxOf n).mfcDone = some b →
      s.on .LE_FRM_CTRL_ohb_mfc_en n = false → Ends (.gccBlockReceive n true) s fun t => (t.rxOf n).mfcDone = none)
  ∧ (∀ (n : Eng) (s : State), s.hasEng n = true → (s.acqOf n).postReset = true → s.inService n = true →
      s.on .LE_STATUS_sig_present n = false → Ends (.postResetLosCheck n) s fun t =>
        (t.acqOf n).postReset = false ∧ t.on .LE_FRM_STATUS_dlos n = true)

/-- Each accepted message is taken from the queue of its engine: NR changes no register, counter or event, TX_SUSPECT
makes an ACTIVE with a ready peer stand down and one without report the fault, and makes another member send
UNPROTECTED, SWITCHED and UNPROTECTED raise their events, a reserved code is counted; no ack within 8 superframes
raises PROT_ACK_LOST; a signal that is not framed makes the engine suspect. (05_line_framing.md R169, R171;
08_pair_protection.md R306) -/
def Obligations.ProtectionMessages : Prop :=
  (∀ (n : Eng) (s : State) (m : ProtMsg) (l : List ProtMsg), s.hasEng n = true → (s.rxOf n).protQ = m :: l →
      m.code = 0 → Ends (.protNr n) s fun t => (t.rxOf n).protQ = l ∧ t.regs = s.regs ∧ t.cnt = s.cnt ∧ t.perf = s.perf)
  ∧ (∀ (n : Eng) (s : State) (m : ProtMsg) (l : List ProtMsg), s.hasEng n = true → (s.rxOf n).protQ = m :: l →
      m.code = 1 → s.role ≠ 1 → (s.txOf n).swLeft = 0 → (s.txOf n).suspect = false →
      Ends (.protTxSuspect n) s fun t => (t.rxOf n).protQ = l ∧ (t.txOf n).prot.code = 3)
  ∧ (∀ (n : Eng) (s : State) (m : ProtMsg) (l : List ProtMsg), s.hasEng n = true → (s.rxOf n).protQ = m :: l →
      m.code = 1 → s.role = 1 → Ends (.protTxSuspect n) s fun t =>
        (s.linkUp = true → s.on .PAIR_STATUS_ready = true → s.lockout = false → s.pair.force = false →
          t.role = 2 ∧ t.modeNow = 5 ∧ t.rd .PAIR_STATUS_faulted = 1)
        ∧ (s.on .PAIR_STATUS_ready = false ∨ s.lockout = true → (t.rxOf n).protQ = l ∧ t.role = 1
            ∧ t.rd .PAIR_EV_unprot_fault = 1))
  ∧ (∀ (n : Eng) (s : State) (m : ProtMsg) (l : List ProtMsg), s.hasEng n = true → (s.rxOf n).protQ = m :: l →
      m.code = 2 → Ends (.protSwitched n) s fun t => (t.rxOf n).protQ = l ∧ t.rd .PAIR_EV_far_switched = 1)
  ∧ (∀ (n : Eng) (s : State) (m : ProtMsg) (l : List ProtMsg), s.hasEng n = true → (s.rxOf n).protQ = m :: l →
      m.code = 3 → Ends (.protUnprotected n) s fun t => (t.rxOf n).protQ = l ∧ t.rd .PAIR_EV_far_unprot = 1)
  ∧ (∀ (n : Eng) (s : State) (m : ProtMsg) (l : List ProtMsg), s.hasEng n = true → (s.rxOf n).protQ = m :: l →
      3 < m.code → Ends (.protBadCode n) s fun t =>
        (t.rxOf n).protQ = l ∧ t.cntOf 519 = (s.cntOf 519 + 1) % 2 ^ 48)
  ∧ (∀ (n : Eng) (s : State), s.hasEng n = true → (s.txOf n).on = true → (s.txOf n).protAcked = false →
      (s.txOf n).ackLost = false → Ends (.protAckTimeout n) s fun t =>
        (t.txOf n).ackLost = true ∧ t.rd .LE_FRM_EV_prot_ack_lost n = 1)
  ∧ (∀ (n : Eng) (s : State), s.lpn n = true → s.on .LE_STATUS_sig_present n = true →
      s.on .LE_FRM_STATUS_in_frame n = false → Ends (.txSuspectStart n) s fun t => (t.txOf n).suspect = true)

/-- A boundary, a whole second of the time of day plus pm_offset and, after a step, the first that comes 100 ms or more
later, latches the counts of every engine in service and starts new ones, with the next pm_seq; a sync edge that is
not within 900 ms of the last and lies within 100 ms of a boundary moves pm_offset by its distance and, where it
comes before the boundary, ends the interval; one within 900 ms of the last is ignored and counted, and one more
than 100 ms from its boundary is refused with PM_SYNC_REFUSED, moving nothing. (05_line_framing.md R185, R186, R187,
R188, R189, R190, R192) -/
def Obligations.PerformanceIntervals : Prop :=
  (∀ (n : Eng) (tod : Nat) (s : State), s.hasEng n = true → s.inService n = true → s.pmDue tod = true →
      (s.tim.stepAt.all fun a => decide (todSec / 10 ≤ todElapsed a tod)) = true → Ends (.pmBoundary tod) s fun t =>
        t.rd .LE_PM_BIP_bip_err n = satNat 32 (s.pmOf n).bip ∧ t.rd .LE_PM_EB_eb n = satNat 32 (s.pmOf n).eb
          ∧ (t.pmOf n).bip = 0 ∧ (t.pmOf n).eb = 0
          ∧ t.rd .LE_PM_SEC_pm_seq n = (s.rd .LE_PM_SEC_pm_seq n + 1) % 2 ^ (Fld.info .LE_PM_SEC_pm_seq).w
          ∧ t.tim.pmPrev = tod)
  ∧ (∀ (tod e : Nat) (s : State), s.on .PERF_PM_SYNC_pm_sync_en = true → s.tim.pmEdge = some e →
      todElapsed e tod ≤ todSec * 9 / 10 → Ends (.pmSyncEdge tod) s fun t =>
        t.rd .PERF_PM_SYNC_pm_sync_ignored = satNat 16 (s.rd .PERF_PM_SYNC_pm_sync_ignored + 1)
          ∧ t.rd .PERF_PM_OFFSET_pm_offset = s.rd .PERF_PM_OFFSET_pm_offset)
  ∧ (∀ (tod : Nat) (s : State), s.on .PERF_PM_SYNC_pm_sync_en = true →
      (s.tim.pmEdge.all fun e => decide (todSec * 9 / 10 < todElapsed e tod)) = true →
      (s.pmDelta tod).natAbs ≤ 50000000 → Ends (.pmSyncEdge tod) s fun t =>
        t.rdInt .PERF_PM_OFFSET_pm_offset = foldHalf (s.rdInt .PERF_PM_OFFSET_pm_offset + s.pmDelta tod)
          ∧ t.tim.pmEdge = some tod
          ∧ t.tim.pmPrev = (if s.pmDelta tod < 0 then tod else s.tim.pmPrev)
          ∧ (0 ≤ s.pmDelta tod → t.eng = s.eng))
  ∧ (∀ (tod : Nat) (s : State), s.on .PERF_PM_SYNC_pm_sync_en = true → s.tim.pmEdge = none →
      50000000 < (s.pmDelta tod).natAbs → Ends (.pmSyncEdge tod) s fun t =>
        t.rd .PERF_PM_SYNC_pm_sync_refused = 1 ∧ (t.rd .PERF_EV_ev).testBit 12 = true
          ∧ t.rd .PERF_PM_OFFSET_pm_offset = s.rd .PERF_PM_OFFSET_pm_offset)

/-- A frame of an Ethernet tributary whose port is at no fault is queued as its blocks, errored after a slip of the
port's stream, one above 16,383 bytes cut and errored, or dropped and counted while 32 KiB wait; on an interoperable
engine it is queued as it is; a change of ordered sets shows in the port's status and queues the block of a set that
starts, which a repeat queues again; a receive fault puts the port at fault toward the line, and its recovery ends
that once every port of its group is good. The codes 1 and 2 of the local and the remote fault (log entry 31), the
frame that a slip errs (85) and the ingress FIFO of a group (209) are the model's. (06_tributary_mapping.md R203,
R205, R206, R207, R209, R230) -/
def Obligations.ClientFramesIn : Prop :=
  (∀ (k : TribId) (frame : List Byte) (bad : Bool) (s : State), s.ethTrib k = true →
      (s.portOf (s.srcPort k)).txLf = false → frame ≠ [] → frame.length ≤ 16383 → s.ingress (s.srcPort k) < 32768 →
      Ends (.ethIngressFrame k frame bad) s fun t =>
        (t.tribOf k).q = (s.tribOf k).q ++ frameBlocks frame (bad || (s.portOf (s.srcPort k)).slip))
  ∧ (∀ (k : TribId) (frame : List Byte) (bad : Bool) (s : State), s.tribOn k = true → s.isGmp k = false →
      (s.tribOf k).oz.isSome = true → (s.portOf (s.srcPort k)).txLf = false → frame ≠ [] →
      Ends (.ethIngressFrame k frame bad) s fun t => (t.tribOf k).q = (s.tribOf k).q ++ frame)
  ∧ (∀ (k : TribId) (frame : List Byte) (bad : Bool) (s : State), s.ethTrib k = true →
      (s.portOf (s.srcPort k)).txLf = false → 16383 < frame.length → s.ingress (s.srcPort k) < 32768 →
      Ends (.ethIngressFrame k frame bad) s fun t => t.rd .FAB_EV_eth_oversize = 1
        ∧ (t.tribOf k).q = (s.tribOf k).q ++ frameBlocks (frame.take 16383) true)
  ∧ (∀ (k : TribId) (frame : List Byte) (bad : Bool) (s : State), s.ethTrib k = true →
      (s.portOf (s.srcPort k)).txLf = false → frame ≠ [] → 32768 ≤ s.ingress (s.srcPort k) →
      Ends (.ethIngressFrame k frame bad) s fun t => t.rd .FAB_EV_frame_drop = 1 ∧ t.tribOf k = s.tribOf k
        ∧ (s.hasPort (s.srcPort k) = true →
            t.cntOf (cPort (s.srcPort k) 0) = (s.cntOf (cPort (s.srcPort k) 0) + 1) % 2 ^ 48))
  ∧ (∀ (k : TribId) (os : Option Nat) (s : State), s.ethTrib k = true → (s.portOf (s.srcPort k)).txLf = false →
      Ends (.ethOsetChange k os) s fun t => (t.tribOf k).oset = os.map (· % 2 ^ 32)
        ∧ (t.tribOf k).q = (s.tribOf k).q ++ (match os with | some v => osetBlock (v % 2 ^ 32) | none => [])
        ∧ t.rd .CLI_PORT_STATUS_rx_lf (s.srcPort k) = b2n (os == some 1)
        ∧ t.rd .CLI_PORT_STATUS_rx_rf (s.srcPort k) = b2n (os == some 2))
  ∧ (∀ (k : TribId) (v : Nat) (s : State), s.ethTrib k = true → (s.tribOf k).oset = some v →
      Ends (.osetRepeat k) s fun t => (t.tribOf k).q = (s.tribOf k).q ++ osetBlock v)
  ∧ (∀ (p : PortId) (why : ClientObs) (s : State), s.typeOf p ≠ 0 → s.hasPort p = true →
      Ends (.clientRxFault p why) s fun t => (t.portOf p).txLf = true
        ∧ (why = .sig → t.rd .CLI_PORT_STATUS_rx_sig p = 0 ∧ t.rd .CLI_PORT_STATUS_rx_lock p = 0)
        ∧ (why = .lock → t.rd .CLI_PORT_STATUS_rx_lock p = 0) ∧ (why = .hiber → t.rd .CLI_PORT_STATUS_rx_hiber p = 1)
        ∧ (why = .group → t.rd .CLI_PORT_STATUS_fx_ok p = 0))
  ∧ (∀ (p : PortId) (s : State), s.typeOf p ≠ 0 → s.hasPort p = true → Ends (.clientRxRecover p) s fun t =>
      t.rd .CLI_PORT_STATUS_rx_sig p = 1 ∧ t.rd .CLI_PORT_STATUS_rx_lock p = 1 ∧ t.rd .CLI_PORT_STATUS_rx_hiber p = 0
        ∧ ((s.groupPorts p).all (fun q => q == p || s.portGood q) = true → (t.portOf p).txLf = false))

/-- The demapper goes to PRESYNC with one good header and to SYNC with the next, and from SYNC back with a bad or marked
one, which it counts; in SYNC a frame that a good block begins and ends goes to the client, and a new ordered set
too; two microseconds without a repeat end an ordered set; a demapper without a block in the command hunts byte by
byte in the container bytes held; a good GMP word is taken and the frame before it goes to the client by its cm, the
fifth bad one in a row raises GMP_LOSS; a calendar switch sets the rate of the client and the slots it asks for, and
a rate that is not supported changes nothing of a tributary; a slip of a crossing is counted and reported, and marks
what its stream carries: receive samples, slots, a client's streams, the frame being sent, a copy of the pair or an
overhead block. That a frame leaves whole with its preamble and gap (log entry 169), what a slip marks (85) and the
calendar switch in one command (194) are the model's. (06_tributary_mapping.md R210, R211, R212, R214, R216;
01_architecture.md R19) -/
def Obligations.ClientFramesOut : Prop :=
  (∀ (k : TribId) (b : BlkObs) (s : State), s.ethTrib k = true →
      s.on .FAB_TRIB_STATUS_sf k = false ∨ s.lineCopy k = true →
      (readHeader b.hdr).isSome = true → (s.tribOf k).dlm = .hunt → Ends (.dlmBlockHeader k b) s fun t =>
        (t.tribOf k).dlm = .presync)
  ∧ (∀ (k : TribId) (b : BlkObs) (s : State), s.ethTrib k = true →
      s.on .FAB_TRIB_STATUS_sf k = false ∨ s.lineCopy k = true →
      (readHeader b.hdr).isSome = true → (s.tribOf k).dlm = .presync → Ends (.dlmBlockHeader k b) s fun t =>
        (t.tribOf k).dlm = .sync ∧ t.rd .FAB_TRIB_STATUS_adapt_ok k = 1)
  ∧ (∀ (k : TribId) (b : BlkObs) (s : State), s.ethTrib k = true →
      s.on .FAB_TRIB_STATUS_sf k = false ∨ s.lineCopy k = true →
      b.hdr ≠ [] → readHeader b.hdr = none ∨ b.mark = true → (s.tribOf k).dlm = .sync → Ends (.dlmBlockHeader k b) s fun t =>
        (t.tribOf k).dlm = .hunt ∧ t.rd .FAB_TRIB_STATUS_adapt_ok k = 0 ∧ (t.tribOf k).frm = []
          ∧ (s.hasPort (s.srcPort k) = true →
              t.cntOf (cPort (s.srcPort k) 3) = (s.cntOf (cPort (s.srcPort k) 3) + 1) % 2 ^ 48))
  ∧ (∀ (k : TribId) (b : BlkObs) (s : State), s.ethTrib k = true → s.on .FAB_TRIB_STATUS_sf k = false → s.lineCopy k = false →
      b.hdr = [] → (s.tribOf k).dlm = .hunt → (readHeader (((s.tribOf k).rxQ.take 3).map (·.1))).isSome = true →
      Ends (.dlmBlockHeader k b) s fun t => (t.tribOf k).dlm = .presync ∧ (t.tribOf k).rxQ = (s.tribOf k).rxQ)
  ∧ (∀ (k : TribId) (b : BlkObs) (s : State), s.ethTrib k = true → s.on .FAB_TRIB_STATUS_sf k = false → s.lineCopy k = false →
      b.hdr = [] → (s.tribOf k).dlm = .hunt → 3 ≤ (s.tribOf k).rxQ.length →
      readHeader (((s.tribOf k).rxQ.take 3).map (·.1)) = none →
      Ends (.dlmBlockHeader k b) s fun t => (t.tribOf k).dlm = .hunt ∧ (t.tribOf k).rxQ = (s.tribOf k).rxQ.tail)
  ∧ (∀ (k : TribId) (b : BlkObs) (err : Bool) (len : Nat) (s : State), s.ethTrib k = true →
      s.on .FAB_TRIB_STATUS_sf k = false → b.mark = false → b.payMark = false → b.full = false → s.modeNow ≠ 5 →
      (s.upMark k).1 = false → readHeader b.hdr = some (2, err, len) → (s.tribOf k).dlm = .sync → (s.tribOf k).frm = [] →
      (s.tribOf k).err = false → (s.tribOf k).drop = false → b.pay.take len ≠ [] → s.tribTx k = true →
      s.padHeld 1 = false →
      Ends (.dlmBlockHeader k b) s fun t =>
        t.out = .client k (List.replicate 7 0x55 ++ 0xD5 :: b.pay.take len) err 12 :: s.out ∧ (t.tribOf k).frm = [])
  ∧ (∀ (k : TribId) (b : BlkObs) (err : Bool) (len : Nat) (s : State), s.ethTrib k = true →
      s.on .FAB_TRIB_STATUS_sf k = false → b.mark = false → (s.upMark k).1 = false →
      readHeader b.hdr = some (3, err, len) → (s.tribOf k).dlm = .sync →
      (s.tribOf k).rxOset ≠ some (fromBE (b.pay.take 4)) → s.tribTx k = true → s.modeNow ≠ 5 →
      s.padHeld 1 = false → Ends (.dlmBlockHeader k b) s fun t =>
        t.out = .oset k (fromBE (b.pay.take 4)) :: s.out ∧ (t.tribOf k).rxOset = some (fromBE (b.pay.take 4)))
  ∧ (∀ (k : TribId) (s : State), Ends (.egressOsetTimeout k) s fun t => (t.tribOf k).rxOset = none)
  ∧ (∀ (k : TribId) (word : Nat) (s : State), s.tribOn k = true → s.isGmp k = true →
      crc8 (bitsHigh 24 (word % 2 ^ 32 / 256)) = word % 256 → (s.upMark k).1 = false →
      ((s.tribOf k).rxQ.take (min 4 ((s.tribOf k).rxLen.headD 0))).any (·.2) = false → Ends (.gmpWordRx k word false) s fun t =>
        (t.tribOf k).cmRx = word / 2 ^ 17 % 2 ^ 15 ∧ (t.tribOf k).cndRx = fieldOf word 14 3 ∧ (t.tribOf k).gmpBad = 0
          ∧ ((s.tribOf k).gmpLoss = false → t.rd .FAB_TRIB_STATUS_adapt_ok k = 1))
  ∧ (∀ (k : TribId) (word : Nat) (s : State), s.tribOn k = true → s.isGmp k = true → s.lineCopy k = false →
      s.on .FAB_TRIB_STATUS_sf k = false → (s.tribOf k).rxQ.take ((s.tribOf k).rxLen.headD 0) ≠ [] → s.tribTx k = true →
      s.padHeld 1 = false → s.modeNow ≠ 5 → Ends (.gmpWordRx k word false) s fun t =>
        ((s.tribOf k).err = false →
          .odu k (gmpTake (s.tribOf k).cmRx ((((s.tribOf k).rxQ.take ((s.tribOf k).rxLen.headD 0)).map (·.1)).drop 4)) ∈ t.out)
          ∧ s.out.length < t.out.length
          ∧ (t.rd .FAB_TRIB_STATUS_sf k = 0 → (t.tribOf k).rxQ = (s.tribOf k).rxQ.drop ((s.tribOf k).rxLen.headD 0)))
  ∧ (∀ (k : TribId) (word : Nat) (s : State), s.tribOn k = true → s.isGmp k = true → (s.tribOf k).gmpBad = 4 →
      (s.tribOf k).gmpLoss = false → Ends (.gmpWordRx k word true) s fun t => (t.tribOf k).gmpLoss = true
        ∧ t.rd .FAB_EV_gmp_loss = 1 ∧ t.rd .FAB_TRIB_STATUS_adapt_ok k = 0 ∧ t.rd .FAB_TRIB_STATUS_sf k = 1)
  ∧ (∀ (head : PortId) (id r k : Nat) (s : State), fxRateOk r = true →
      s.activeTribs.find? (fun x => let c := (s.tribOf x).cfg; c.kind == 2 && c.port == head.val && c.fx == id) = some k →
      Ends (.flexeCalendarSwitch head [(id, r)]) s fun t => (t.tribOf k).fxRate = r
        ∧ t.rd .FAB_TRIB_STATUS_slots_req k = min 511 (r / 5))
  ∧ (∀ (head : PortId) (id r : Nat) (s : State), fxRateOk r = false →
      Ends (.flexeCalendarSwitch head [(id, r)]) s fun t => t.trib = s.trib)
  ∧ (∀ (x : Fin 17) (who : Nat) (s : State), 1 ≤ x.val ∧ x.val ≤ 7 ∨ x.val = 10 →
      s.cntValid (if x.val = 7 then 513 else if x.val = 5 ∨ x.val = 6 then cPort (who % 64) 5 else cEng (who % 4) 21) = true →
      Ends (.crossingSlip x who) s fun t =>
      (t.rd .PERF_EV_ev).testBit 1 = true
        ∧ t.cntOf (if x.val = 7 then 513 else if x.val = 5 ∨ x.val = 6 then cPort (who % 64) 5 else cEng (who % 4) 21)
          = (s.cntOf (if x.val = 7 then 513 else if x.val = 5 ∨ x.val = 6 then cPort (who % 64) 5 else cEng (who % 4) 21)
              + 1) % 2 ^ 48
        ∧ (x.val = 1 → (t.fecOf (who % 4)).marked = true)
        ∧ (x.val = 2 ∨ x.val = 4 → (t.txOf (who % 4)).slip = true)
        ∧ (x.val = 3 → ∀ k ∈ s.activeTribs, (s.carryEngs k).contains (who % 4) = true → (t.tribOf k).slip = true)
        ∧ (x.val = 5 → (t.portOf (who % 64)).slip = true)
        ∧ (x.val = 6 → ∀ k ∈ s.activeTribs, s.srcPort k = who % 64 → (t.tribOf k).err = true)
        ∧ (x.val = 7 → t.pair.slip = true) ∧ (x.val = 10 → (t.rxOf (who % 4)).gccBad = true))

/-- Two group tags that follow on each other align a member, as does one that joins its aligned group, two bad ones end
its alignment with ALIGN_LOST; a request of bins that the pool can meet is granted and counted against the pool,
another sets alloc_err and ALLOC_REFUSED; a measured skew shows in 10 ns; a skew beyond the room of the bins sets
dskew, and a low one clears it. The rounding of the measured skew to 10 ns is the model's (log entry 13).
(06_tributary_mapping.md R220, R222, R223, R224, R227) -/
def Obligations.TributaryGroups : Prop :=
  (∀ (g : GrpId) (n : Eng) (tag : Nat) (join : Bool) (s : State), (s.grpMembers true g).contains n = true →
      crc8 (bitsHigh 24 (tag % 2 ^ 32 / 256)) = tag % 256 →
      ((SMap.get {} (s.grpOf g).mem n).last.map fun x => (x + 256) % 2 ^ 24) = some (tag % 2 ^ 32 / 256) →
      1 ≤ (SMap.get {} (s.grpOf g).mem n).good ∨ join = true →
      (s.grpTrib g).all (fun k => !(s.tribOf k).slip && !s.keyMark n k) = true → Ends (.groupTagRx g n tag false join) s fun t =>
        (SMap.get {} (t.grpOf g).mem n).ok = true
          ∧ (SMap.get {} (t.grpOf g).mem n).last = some (tag % 2 ^ 32 / 256))
  ∧ (∀ (g : GrpId) (n : Eng) (tag : Nat) (join : Bool) (s : State), (s.grpMembers true g).contains n = true →
      (SMap.get {} (s.grpOf g).mem n).bad = 1 → (SMap.get {} (s.grpOf g).mem n).ok = true →
      Ends (.groupTagRx g n tag true join) s fun t => (SMap.get {} (t.grpOf g).mem n).ok = false
        ∧ t.rd .FAB_EV_align_lost = 1 ∧ t.rd .FAB_GRP_STATUS_aligned g = 0)
  ∧ (∀ (g : GrpId) (bins : Nat) (s : State), s.fate .host .FAB_GRP_CTRL g = .takes → bins < 512 →
      bins ≠ s.rd .FAB_GRP_CTRL_bins_req g → s.binsErr g bins = 0 →
      s.namesAbsent .FAB_GRP_CTRL g (s.fieldWord .FAB_GRP_CTRL_bins_req g bins) = false → Ends (.binsReqWrite g bins) s fun t =>
        t.rd .FAB_GRP_CTRL_bins_req g = bins ∧ t.rd .FAB_GRP_STATUS_bins_held g = bins
          ∧ t.rd .FAB_GRP_STATUS_alloc_err g = 0)
  ∧ (∀ (g : GrpId) (bins : Nat) (s : State), s.fate .host .FAB_GRP_CTRL g = .takes → bins < 512 →
      bins ≠ s.rd .FAB_GRP_CTRL_bins_req g → s.binsErr g bins ≠ 0 →
      s.namesAbsent .FAB_GRP_CTRL g (s.fieldWord .FAB_GRP_CTRL_bins_req g bins) = false → Ends (.binsReqWrite g bins) s fun t =>
        t.rd .FAB_GRP_STATUS_alloc_err g = s.binsErr g bins ∧ t.rd .FAB_EV_alloc_refused = 1 ∧ t.bins = s.bins
          ∧ t.rd .FAB_GRP_STATUS_bins_held g = s.rd .FAB_GRP_STATUS_bins_held g)
  ∧ (∀ (g : GrpId) (ns : Nat) (s : State), s.rd .FAB_GRP_STATUS_bins_held g ≠ 0 → Ends (.skewMeasure g ns) s fun t =>
      t.rd .FAB_GRP_STATUS_skew_meas g = min 65535 ((ns + 5) / 10))
  ∧ (∀ (g : GrpId) (held : Nat) (s : State), s.grpRoom g (s.grpSize true g) < held → s.grpMembers true g ≠ [] →
      Ends (.dskewDeclare g held) s fun t => t.rd .FAB_GRP_STATUS_dskew g ≠ 0
        ∧ (s.rd .FAB_GRP_STATUS_dskew g = 0 → t.rd .FAB_EV_skew_chg = 1))
  ∧ (∀ (g : GrpId) (s : State), (s.grpOf g).low = true → s.on .FAB_GRP_STATUS_dskew g = true → Ends (.dskewClear g) s fun t =>
      t.rd .FAB_GRP_STATUS_dskew g = 0 ∧ t.rd .FAB_EV_skew_chg = 1)

/-- With no transition under way an SFM advances the PSC and opens the superframe; a frame of a transmitter that runs
leaves the block with the alignment word in front and moves the frame number on, in REGENERATOR from the frames
handed over; a frame of an interoperable profile leaves as that profile's; in the FEC test a position of the test
stream is sent in place of a frame; an engine that is not framing applies its pending settings at once and meets a
marker at once; a write of fec_test that is in force restarts the decoder in MAINTENANCE. One position of the test
for each TX_FRAME (log entry 166), a mismatch of all four stages (33), and what a change of fec_test restarts and
clears (163, 164) are the model's readings. (05_line_framing.md R150, R152, R155; 01_architecture.md R24, R27, R570;
10_cipher.md R353; 04_nurnauri_fec.md R146, R147) -/
def Obligations.TransmitSuperframes : Prop :=
  (∀ (n : Eng) (tod : Nat) (s : State), s.hasEng n = true → (s.txOf n).on = true →
      (s.lpn n = true → (s.txOf n).fn = 0 ∧ (s.txOf n).sfm = false) → s.mode.tr = none → Ends (.txSfm n tod) s fun t =>
        (t.txOf n).psc = ((s.txOf n).psc + 1) % 2 ^ 32 ∧ (s.lpn n = true → (t.txOf n).sfm = true)
          ∧ SMap.get 0 t.pair.sfmPsc n = (t.txOf n).psc ∧ t.tim.tod = tod % todMod)
  ∧ (∀ (n : Eng) (gmp : List GmpMeas) (s : State), s.hasEng n = true → s.lpn n = true → (s.txOf n).on = true →
      ((s.txOf n).fn ≠ 0 ∨ (s.txOf n).sfm = true) → s.modeNow ≠ 3 → s.padHeld 0 = false →
      1 ≤ (s.txOf n).map.rate → s.loopback n = 0 → (s.fecTest n && s.on .LE_TX_CTRL_tx_active n) = false →
      Ends (.txFrame n gmp) s fun t => (t.txOf n).fn = ((s.txOf n).fn + 1) % 256 ∧ (t.txOf n).beiSum = 0
        ∧ ((t.out.drop (t.out.length - s.out.length - 1)).head?.map fun o =>
            match o with | .frame e b => (e, b.take 4) | _ => (4, [])) = some (n.val, [0x3C, 0x5A, 0xE1, 0x96])
        ∧ s.out.length < t.out.length ∧ t.out.drop (t.out.length - s.out.length) = s.out)
  ∧ (∀ (n : Eng) (gmp : List GmpMeas) (f : RegenFrame) (s : State), s.hasEng n = true → s.lpn n = true →
      (s.txOf n).on = true → ((s.txOf n).fn ≠ 0 ∨ (s.txOf n).sfm = true) → s.modeNow = 3 →
      (s.fecTest n && s.on .LE_TX_CTRL_tx_active n) = false →
      (s.txOf n).regenQ.head? = some f → Ends (.txFrame n gmp) s fun t =>
        (t.txOf n).fn = (f.fn + 1) % 256 ∧ (t.txOf n).regenQ = (s.txOf n).regenQ.tail ∧ (t.txOf n).regenLast = f)
  ∧ (∀ (n : Eng) (gmp : List GmpMeas) (s : State), s.hasEng n = true → s.lpn n = false → (s.txOf n).on = true →
      s.padHeld 0 = false → s.loopback n = 0 → Ends (.txFrame n gmp) s fun t => (t.txOf n).fn = (s.txOf n).fn + 1
        ∧ (t.out.head?.map fun o => match o with | .interop e _ _ => e | _ => 4) = some n.val ∧ t.out.tail = s.out)
  ∧ (∀ (n : Eng) (gmp : List GmpMeas) (s : State), s.hasEng n = true → s.lpn n = true → s.fecTest n = true →
      s.on .LE_TX_CTRL_tx_active n = true → Ends (.txFrame n gmp) s fun t =>
        (t.fecOf n).txPrbs
          = (prbsRun prbs31 30240 (if (s.fecOf n).encPos = 0 then 0x7FFFFFFF else (s.fecOf n).txPrbs)).1
        ∧ (t.txOf n).fn = (s.txOf n).fn)
  ∧ (∀ (n : Eng) (s : State), s.hasEng n = true → s.awake = true → (s.txOf n).on = false → Ends (.idleShadowApply n) s fun t =>
      (t.txOf n).shadows = [] ∧ (∀ h ∈ (s.txOf n).shadows, h.what = .rolloff → (s.txOf n).shadows.length = 1 →
        (t.txOf n).rolloff = h.val.toNat))
  ∧ (∀ (n : Eng) (g : Nat) (target : Option Nat) (m : Slots) (s : State), (s.txOf n).on = false →
      (s.txOf n).marker = some (g, target) → (s.txOf n).next = some m → m.gen = g →
      Ends (.markerApplyNotFraming n) s fun t => (t.txOf n).map = m ∧ (t.txOf n).next = none ∧ (t.txOf n).marker = none
        ∧ t.rd .PLACE_ENG_STATUS_tx_gen n = m.gen % 4096)
  ∧ (∀ (n : Eng) (g : Nat) (target : Option Nat) (s : State), (s.txOf n).on = false →
      (s.txOf n).marker = some (g, target) → (s.txOf n).next.any (fun m => m.gen == g) = false →
      s.hasEng n = true → (s.skOf n).mkRep = [] →
      Ends (.markerApplyNotFraming n) s fun t => (t.txOf n).map = (s.txOf n).map ∧ (t.txOf n).marker = none
        ∧ t.rd .LE_FRM_EV_mk_mismatch n = 1 ∧ t.cntOf (cEng n 8) = (s.cntOf (cEng n 8) + 4) % 2 ^ 48)
  ∧ (∀ (n : Eng) (v : Bool) (s : State), s.hasEng n = true → s.fate .host .LE_FEC_CTRL n = .takes →
      (v = true ∨ s.rd .LE_FEC_CTRL_rate_active n = 0) → Ends (.fecTestWrite n v) s fun t =>
        t.rd .LE_FEC_CTRL_fec_test n = b2n v ∧ (s.modeNow = 4 → s.on .LE_FEC_CTRL_fec_test n ≠ v →
          t.rd .LE_FEC_STATUS_test_sync n = 0 ∧ (t.fecOf n).startup = 64 ∧ (t.fecOf n).encPos = 0))

/-- A block that is not valid ends the run of valid ones and is counted; a valid one brings the far end's readiness, and
the eighth in a row raises the channel; 64 superframes without one lower it with PLACE_CHAN_LOST; a loaded receive
map is announced as ready without the entries of tributaries that are not in service. (07_placement.md R245, R248,
R237) -/
def Obligations.PlacementChannel : Prop :=
  (∀ (n : Eng) (blk : List Byte) (mark : Bool) (s : State), s.hasChan n = true → blk ≠ [] → blockValid blk mark = false →
      Ends (.placeBlockRx n blk mark) s fun t => (t.skOf n).okRun = 0
        ∧ t.cntOf (cEng n 18) = (s.cntOf (cEng n 18) + 1) % 2 ^ 48)
  ∧ (∀ (n : Eng) (blk : List Byte) (s : State), s.hasChan n = true → blockValid blk false = true → s.mode.tr = none →
      Ends (.placeBlockRx n blk false) s fun t => (t.skOf n).farReady = fromBE (slice blk 12 2)
        ∧ (t.skOf n).farDone = some (fromBE (slice blk 14 2)) ∧ (t.skOf n).okRun = min 8 ((s.skOf n).okRun + 1)
        ∧ (7 ≤ (s.skOf n).okRun → t.rd .PLACE_ENG_STATUS_chan_up n ≠ 0))
  ∧ (∀ (n : Eng) (s : State), s.hasChan n = true → s.on .PLACE_ENG_STATUS_chan_up n = true →
      Ends (.placeChanDown n) s fun t => t.rd .PLACE_ENG_STATUS_chan_up n = 0 ∧ t.rd .PLACE_EV_chan_lost = 1
        ∧ (t.skOf n).okRun = 0)
  ∧ (∀ (n : Eng) (m : Slots) (s : State), (s.rxOf n).loading = some m → Ends (.placeRxShadowLoaded n) s fun t =>
      (t.rxOf n).loading = none
        ∧ (t.rxOf n).next = some { m with tab := m.tab.filter fun kv => s.tribOn kv.2.trib }
        ∧ t.rd .PLACE_ENG_RX_ready_gen n = m.gen % 4096 ∧ t.rd .PLACE_ENG_RX_ready_valid n = 1)

/-- A stage that reports its map loaded is noted, and the last one has the marker issued once the far end is ready;
RANGE, or a map loaded whose rate is out of the profile's range, withdraws the map and returns to idle with
PLACE_RANGE; a stage that reports its map applied is noted, and the last one ends the switch once the far end is
done; a mismatch that was not counted is counted and resynchronises with a new generation; a switch starts for the
next map of the pass, and both time-outs go to HELD with PLACE_TIMEOUT. (07_placement.md R249, R250, R261;
05_line_framing.md R175; 01_architecture.md R25; 03_line_engine.md R80) -/
def Obligations.PlacementSwitch : Prop :=
  (∀ (n : Eng) (st : MapStage) (m : Slots) (s : State), s.hasEng n = true → s.swState n = 1 → (s.skOf n).man = some m →
      (s.txOf n).next.map (·.gen) = some m.gen → (s.txOf n).next.any (fun x => rateOk (s.prof n) x.rate) = true →
      s.mode.tr = none → Ends (.mapStageReport n st .loaded) s fun t =>
        (t.skOf n).loaded.contains st = true ∧ ∀ x ∈ (s.skOf n).loaded, (t.skOf n).loaded.contains x = true)
  ∧ (∀ (n : Eng) (st : MapStage) (m : Slots) (s : State), s.hasEng n = true → s.swState n = 1 → (s.skOf n).man = some m →
      (s.txOf n).next.map (·.gen) = some m.gen → (s.txOf n).next.any (fun x => rateOk (s.prof n) x.rate) = true →
      allStages (st :: (s.skOf n).loaded) = true →
      (s.skOf n).farReady = 0x8000 + m.gen → s.modeNow = 2 → s.mode.tr = none → (s.skOf n).markerOut = false →
      s.mirroring = false → Ends (.mapStageReport n st .loaded) s fun t =>
        t.swState n = 2 ∧ (t.txOf n).marker = some (m.gen, none) ∧ (t.skOf n).markerOut = true)
  ∧ (∀ (n : Eng) (st : MapStage) (s : State), s.hasEng n = true → s.swState n = 1 →
      Ends (.mapStageReport n st .range) s fun t => t.swState n = 0 ∧ (t.skOf n).man = none ∧ (t.txOf n).next = none
        ∧ t.rd .PLACE_EV_range = 1)
  ∧ (∀ (n : Eng) (st : MapStage) (s : State), s.hasEng n = true → s.swState n = 1 →
      (s.txOf n).next.map (·.gen) = (s.skOf n).man.map (·.gen) →
      (s.txOf n).next.any (fun x => rateOk (s.prof n) x.rate) = false → Ends (.mapStageReport n st .loaded) s fun t =>
        t.swState n = 0 ∧ (t.skOf n).man = none ∧ (t.txOf n).next = none ∧ t.rd .PLACE_EV_range = 1)
  ∧ (∀ (n : Eng) (st : MapStage) (m : Slots) (s : State), s.hasEng n = true → s.swState n = 2 → (s.skOf n).man = some m →
      (s.txOf n).map.gen = (s.skOf n).mkGen → s.mkAwaits n st = true → (s.txOf n).marker = none →
      (s.skOf n).mkCnt = false → s.mode.tr = none → Ends (.mapStageReport n st .applied) s fun t =>
        ((s.skOf n).farDone ≠ some m.gen → (t.skOf n).applied.contains st = true ∧ t.swState n = 2)
          ∧ ((s.skOf n).farDone = some m.gen → allStages (st :: (s.skOf n).applied) = true → t.swState n = 0))
  ∧ (∀ (n : Eng) (st : MapStage) (s : State), s.hasEng n = true → s.swState n = 2 → s.modeNow ≠ 5 →
      s.mkAwaits n st = true → Ends (.mapStageReport n st .mismatch) s fun t =>
        t.swState n = 1 ∧ t.rd .PLACE_EV_resync = 1
        ∧ ((s.skOf n).mkCnt = false → t.cntOf (cEng n 8) = (s.cntOf (cEng n 8) + 1) % 2 ^ 48)
        ∧ (t.skOf n).man = some { (s.txOf n).map with gen := (s.skOf n).genLast % 0xFFF + 1 })
  ∧ (∀ (n : Eng) (s : State), s.hasEng n = true → s.lpn n = true → s.swState n = 0 → s.pinned n = false →
      (s.skOf n).resync = true → s.modeNow = 2 → Ends (.swStart n) s fun t =>
        t.swState n = 1 ∧ t.rd .PLACE_EV_resync = 1 ∧ (t.skOf n).resync = false)
  ∧ (∀ (n : Eng) (m : Slots) (work : Nat) (s : State), s.hasEng n = true → s.lpn n = true → s.swState n = 0 →
      s.pinned n = false → (s.skOf n).resync = false → s.modeNow = 2 → s.mode.tr = none →
      s.placePass.2 = [(n.val, m, work)] → Ends (.swStart n) s fun t => t.swState n = 1
        ∧ (t.skOf n).man = some { m with gen := (s.placePass.1.skOf n).genLast % 0xFFF + 1 }
        ∧ (t.txOf n).next = (t.skOf n).man)
  ∧ (∀ (n : Eng) (c : Instr) (s : State), s.hasEng n = true →
      (s.swState n = 1 ∧ c = .swReadyTimeout n ∨ s.swState n = 2 ∧ c = .swSwitchTimeout n) → Ends c s fun t =>
        t.swState n = 3 ∧ t.rd .PLACE_EV_timeout = 1
          ∧ (s.swState n = 1 → (t.skOf n).man = none ∧ (t.txOf n).next = none))

/-- The lanes and peer_alive follow what is seen of them; pair_en starts training, and stops the link only on an
UNPAIRED member; an HB goes out on every lane that is up; a valid HB shows the peer, and the fourth in a row ends
training in UP where the levels meet and in REFUSED with its cause where they do not; without HBs the link returns
to training, and a SHADOW that sees neither takes over; a bad cell is counted. (08_pair_protection.md R268, R270,
R271, R272, R273, R274, R275, R294) -/
def Obligations.PairLinkState : Prop :=
  (∀ (s : State), s.role ≠ 2 → Ends .peerAliveLost s fun t => t.rd .PAIR_STATUS_peer_alive = 0 ∧ t.role = s.role)
  ∧ (∀ (s : State), s.role = 2 → s.on .PAIR_STATUS_peer_alive = true → s.pair.dying = false → Ends .peerAliveLost s fun t =>
      t.rd .PAIR_STATUS_peer_alive = 0 ∧ (s.pair.hbLost = true → t.role = 1 ∧ t.rd .PAIR_EV_takeover = 1)
        ∧ (s.pair.hbLost = false → t.role = 2 ∧ t.rd .PAIR_EV_alive_fault = 1))
  ∧ (∀ (s : State), Ends .peerAliveGained s fun t => t.rd .PAIR_STATUS_peer_alive = 1)
  ∧ (∀ (k : LaneId) (s : State), Ends (.pairLaneDown k) s fun t => (t.rd .PAIR_STATUS_lanes_up).testBit k = false)
  ∧ (∀ (k : LaneId) (s : State), s.linkState ≠ 0 → (s.rd .PAIR_CTRL_lane_en).testBit k = true →
      Ends (.pairLaneUp k) s fun t => (t.rd .PAIR_STATUS_lanes_up).testBit k = true)
  ∧ (∀ (s : State), s.fate .host .PAIR_CTRL 0 = .takes → s.linkState = 0 → Ends (.pairEnWrite true) s fun t =>
      t.rd .PAIR_CTRL_pair_en = 1 ∧ t.linkState = 1 ∧ t.pair.hbLost = true)
  ∧ (∀ (s : State), s.fate .host .PAIR_CTRL 0 = .takes → Ends (.pairEnWrite false) s fun t =>
      (s.role = 0 → t.rd .PAIR_CTRL_pair_en = 0 ∧ t.linkState = 0 ∧ t.rd .PAIR_STATUS_lanes_up = 0)
        ∧ (s.role ≠ 0 → t.rd .PAIR_CTRL_pair_en = s.rd .PAIR_CTRL_pair_en ∧ t.linkState = s.linkState))
  ∧ (∀ (s : State), s.linkState ≠ 0 → s.awake = true → s.padHeld 2 = false → Ends .hbTick s fun t =>
        t.pair.hbSeq = (s.pair.hbSeq + 1) % 65536 ∧ s.out.length + s.lanesUp.length ≤ t.out.length
        ∧ t.out.drop (t.out.length - s.out.length) = s.out
        ∧ ((t.out.drop (t.out.length - s.out.length - s.lanesUp.length)).take s.lanesUp.length).map (fun o => match o with
            | .cell k b => (k, byteAt b 0, cellField b 2 2) | _ => (9, 0, 0))
          = s.lanesUp.reverse.map fun k => (k, 1, s.pair.hbSeq % 65536))
  ∧ (∀ (cell : List Byte) (id : PeerId) (s : State), s.linkState ≠ 0 → cellOk 1 cell = true →
      Ends (.hbRx cell id) s fun t => t.pair.peer = peerOf cell ∧ t.rd .PAIR_LEVEL_peer_fl_run = byteAt cell 5
        ∧ (s.linkState = 1 → s.pair.hbLost = true → s.pair.hbRun = 3 → s.pair.peer.seen = true →
            cellField cell 2 2 = (s.pair.peer.seq + 1) % 65536 → cellField cell 2 2 ≠ s.pair.peer.seq →
            byteAt cell 4 = s.partCode → s.rd .PAIR_LEVEL_fl_floor ≤ min (s.rd .PAIR_LEVEL_fl_run) (byteAt cell 5) →
            byteAt cell 6 ≤ min (s.rd .PAIR_LEVEL_fl_run) (byteAt cell 5) →
            t.linkState = 2 ∧ t.rd .PAIR_LEVEL_fl_agreed = min (s.rd .PAIR_LEVEL_fl_run) (byteAt cell 5)))
  ∧ (∀ (cell : List Byte) (id : PeerId) (s : State), s.linkState = 1 → cellOk 1 cell = true → s.pair.hbLost = true →
      s.pair.hbRun = 3 → s.pair.peer.seen = true → cellField cell 2 2 = (s.pair.peer.seq + 1) % 65536 →
      cellField cell 2 2 ≠ s.pair.peer.seq → byteAt cell 4 ≠ s.partCode → Ends (.hbRx cell id) s fun t =>
        t.linkState = 3 ∧ t.rd .PAIR_STATUS_refuse_cause = 1 ∧ t.rd .PAIR_EV_refused = 1)
  ∧ (∀ (cell : List Byte) (id : PeerId) (s : State), s.linkState = 1 → cellOk 1 cell = true → s.pair.hbLost = true →
      s.pair.hbRun = 3 → s.pair.peer.seen = true → cellField cell 2 2 = (s.pair.peer.seq + 1) % 65536 →
      cellField cell 2 2 ≠ s.pair.peer.seq → byteAt cell 4 = s.partCode →
      min (s.rd .PAIR_LEVEL_fl_run) (byteAt cell 5) < s.rd .PAIR_LEVEL_fl_floor
        ∨ min (s.rd .PAIR_LEVEL_fl_run) (byteAt cell 5) < byteAt cell 6 → Ends (.hbRx cell id) s fun t =>
        t.linkState = 3 ∧ t.rd .PAIR_STATUS_refuse_cause = 2 ∧ t.rd .PAIR_EV_refused = 1)
  ∧ (∀ (s : State), s.linkState = 2 → s.pair.hbLost = false → Ends .hbLost s fun t =>
      t.linkState = 1 ∧ t.pair.hbLost = true ∧ t.rd .PAIR_LEVEL_fl_agreed = 0 ∧ t.rd .PAIR_EV_hb_lost = 1
        ∧ t.pair.mirOut = [] ∧ (s.role = 2 → s.on .PAIR_STATUS_peer_alive = false → t.role = 1)
        ∧ (s.role = 2 → s.on .PAIR_STATUS_peer_alive = true → s.pair.dying = false → t.role = 2 ∧ t.rd .PAIR_EV_link_down = 1))
  ∧ (∀ (cell : List Byte) (unc : Bool) (s : State),
      unc = true ∨ (∀ k : Fin 9, cellOk k cell = false) ∨ byteAt cell 0 = 4 ∧ 4 < byteAt cell 3 →
      Ends (.badCellRx cell unc) s fun t => t.cntOf 514 = (s.cntOf 514 + 1) % 2 ^ 48)

/-- The next message in order is applied, one after a gap is held and one already applied is acknowledged again; a
record that names a tributary of another generation is discarded and counted; an acknowledgement frees what it
covers, and that of a message whose target has passed starts the image; a message without one is sent again, and
after eight sends PAIR_MIRROR_FAIL starts the image; fragment 0 discards the mirrored state, and the last fragment
makes it loaded; TIME cells are sent with rising identifiers, and a received one brings the peer's times. The
generations beside a cell (log entry 99), the image after a late acknowledgement (171) and the layout of records and
image (21, 45) are the model's. (08_pair_protection.md R279, R280, R282, R284, R304, R305; 09_timing.md R344, R345) -/
def Obligations.MirrorAndImage : Prop :=
  (∀ (m : MirCell) (val : Nat) (s : State), s.modeNow = 5 → s.linkState ≠ 0 → cellOk 2 m.bytes = true →
      s.pair.loaded = true → s.pair.mirHeld = [] → s.pair.mirBuf = [] → cellField m.bytes 1 4 = (s.pair.mirIn + 1) % 2 ^ 32 →
      slice m.bytes 10 28 = padTo 28 (changeRec 1 (beBytes 4 (Rg.PLACE_GUARD.addr 0) ++ beBytes 4 val)) →
      Ends (.mirRx m) s fun t => t.pair.mirIn = cellField m.bytes 1 4
        ∧ t.rd .PLACE_GUARD_ber_guard = Fld.PLACE_GUARD_ber_guard.part (val % 2 ^ 32)
        ∧ t.rd .PLACE_GUARD_iter_guard = Fld.PLACE_GUARD_iter_guard.part (val % 2 ^ 32))
  ∧ (∀ (m : MirCell) (i : TribId) (g val : Nat) (s : State), s.modeNow = 5 → s.linkState ≠ 0 → cellOk 2 m.bytes = true →
      s.pair.loaded = true → s.pair.mirHeld = [] → s.pair.mirBuf = [] → cellField m.bytes 1 4 = (s.pair.mirIn + 1) % 2 ^ 32 →
      cellField m.bytes 6 4 = 0 →
      slice m.bytes 10 28 = padTo 28 (changeRec 1 (beBytes 4 (Rg.PLACE_TRIB_POL.addr i) ++ beBytes 4 val)) →
      m.gens = [(i.val, g)] → g ≠ s.rd .FAB_TRIB_STATUS_trib_gen i →
      Ends (.mirRx m) s fun t => t.pair.mirIn = cellField m.bytes 1 4 ∧ t.cntOf 516 = (s.cntOf 516 + 1) % 2 ^ 48
        ∧ (∀ j : TribId, t.rd .PLACE_TRIB_POL_prio j = s.rd .PLACE_TRIB_POL_prio j
            ∧ t.rd .PLACE_TRIB_POL_div_tag j = s.rd .PLACE_TRIB_POL_div_tag j))
  ∧ (∀ (m : MirCell) (s : State), s.modeNow = 5 → s.linkState ≠ 0 → cellOk 2 m.bytes = true →
      serLater (cellField m.bytes 1 4) s.pair.mirIn = true → cellField m.bytes 1 4 ≠ (s.pair.mirIn + 1) % 2 ^ 32 →
      Ends (.mirRx m) s fun t => t.pair.mirIn = s.pair.mirIn
        ∧ SMap.get {} t.pair.mirHeld (cellField m.bytes 1 4) = m ∧ t.regs = s.regs)
  ∧ (∀ (m : MirCell) (s : State), s.modeNow = 5 → s.linkState ≠ 0 → cellOk 2 m.bytes = true →
      serLater (cellField m.bytes 1 4) s.pair.mirIn = false → Ends (.mirRx m) s fun t => t.pair = s.pair ∧ t.regs = s.regs
        ∧ (serHalf (cellField m.bytes 1 4) s.pair.mirIn = true → t.cntOf 516 = (s.cntOf 516 + 1) % 2 ^ 48)
        ∧ (serHalf (cellField m.bytes 1 4) s.pair.mirIn = false → s.lanesUp ≠ [] → s.padHeld 2 = false →
            t.out = .cell (s.lanesUp.headD 0)
              (mkCell 3 (beBytes 4 s.pair.mirIn ++ beBytes 4 (cellField m.bytes 1 4) ++ [1])) :: s.out))
  ∧ (∀ (cell : List Byte) (s : State), s.role = 1 → s.linkUp = true → cellOk 3 cell = true →
      (∀ n : Eng, s.swState n ≠ 1) → (∀ m ∈ s.pair.mirOut, cellField m.cell 6 4 = 0) → Ends (.mackRx cell) s fun t =>
        t.pair.mirOut = (s.pair.mirOut.filter fun m => serLater m.seq (cellField cell 1 4)).map
        fun m => if m.seq == cellField cell 5 4 then { m with got := true } else m)
  ∧ (∀ (cell : List Byte) (m : MirOut) (s : State), s.mirroring = true → cellOk 3 cell = true → m ∈ s.pair.mirOut →
      m.got = false → m.seq = cellField cell 5 4 → cellField m.cell 6 4 ≠ 0 → s.hasEng (byteAt m.cell 5) = true →
      dueAt (s.txOf (byteAt m.cell 5)).psc (some (cellField m.cell 6 4)) = true → Ends (.mackRx cell) s fun t =>
        t.pair.bulkTx = true ∧ t.pair.bulkBase = s.pair.mirSeq)
  ∧ (∀ (seq : Nat) (m : MirOut) (s : State), s.pair.mirOut.find? (fun m => m.seq == seq) = some m → m.got = false →
      s.mirroring = true → Ends (.mirResend seq) s fun t =>
        (m.sends < 8 → t.pair.mirOut.find? (fun m => m.seq == seq) = some { m with sends := m.sends + 1 }
            ∧ (s.lanesUp ≠ [] → s.padHeld 2 = false → t.out.tail = s.out
              ∧ (t.out.head?.map fun o => match o with | .cell _ b => (b, []) | .genCell _ b g => (b, g) | _ => ([], [])) = some (m.cell, m.gens)))
          ∧ (8 ≤ m.sends → t.rd .PAIR_EV_mirror_fail = 1 ∧ t.pair.bulkTx = true ∧ t.pair.mirOut = []
              ∧ t.pair.bulkBase = s.pair.mirSeq))
  ∧ (∀ (m : MirCell) (i : TribId) (s : State), s.modeNow = 5 → s.linkState ≠ 0 → cellOk 8 m.bytes = true →
      cellField m.bytes 5 4 = 0 →
      cellField m.bytes 9 4 ≠ 0 → Ends (.bulkRx m) s fun t => t.pair.loaded = false ∧ t.rd .PAIR_STATUS_ready = 0
        ∧ t.pair.bulkRx = slice m.bytes 13 25 ∧ t.pair.bulkNext = 1 ∧ t.pair.bulkBase = cellField m.bytes 1 4
        ∧ t.rd .FAB_TRIB_STATUS_trib_gen i = SMap.get 0 m.gens i % 256
        ∧ t.rd .PLACE_GUARD_ber_guard = Fld.PLACE_GUARD_ber_guard.info.rst)
  ∧ (∀ (m : MirCell) (s : State), s.modeNow = 5 → s.linkState ≠ 0 → cellOk 8 m.bytes = true → cellField m.bytes 5 4 ≠ 0 →
      cellField m.bytes 5 4 = s.pair.bulkNext → cellField m.bytes 1 4 = s.pair.bulkBase → Ends (.bulkRx m) s fun t =>
        (cellField m.bytes 9 4 ≠ s.pair.bulkNext → t.pair.bulkRx = s.pair.bulkRx ++ slice m.bytes 13 25
          ∧ t.pair.bulkNext = s.pair.bulkNext + 1)
        ∧ (cellField m.bytes 9 4 = s.pair.bulkNext → s.pair.mirHeld = [] →
            (parseRecs (s.pair.bulkRx ++ slice m.bytes 13 25).length (s.pair.bulkRx ++ slice m.bytes 13 25)).1 = [] →
            t.pair.loaded = true ∧ t.pair.mirIn = (cellField m.bytes 1 4 + 2 ^ 32 - 1) % 2 ^ 32 ∧ t.pair.bulkNext = 0))
  ∧ (∀ (tod : Nat) (s : State), s.linkUp = true → s.awake = true → Ends (.timeCellTick tod) s fun t =>
      t.pair.cellId = (s.pair.cellId + 1) % 65536 ∧ t.pair.deps.head? = some (s.pair.cellId, cellTime (stamp25 tod))
        ∧ t.tim.tod = stamp25 tod % todMod
        ∧ (s.lanesUp ≠ [] → s.padHeld 2 = false → s.pair.cellId < 65536 → t.out.tail = s.out
            ∧ (t.out.head?.map fun o => match o with | .cell _ b => (byteAt b 0, cellField b 11 2) | _ => (0, 0))
              = some (6, s.pair.cellId)))
  ∧ (∀ (cell : List Byte) (tod : Nat) (s : State), s.linkUp = true → cellOk 6 cell = true →
      Ends (.timeCellRx cell tod) s fun t => t.pair.peerCell = cellField cell 11 2
        ∧ (s.d0 ≠ 5 ∨ s.todAhead cell = none → t.pair.peerArr = cellTime (stamp25 tod) ∧ t.tim.tod = stamp25 tod % todMod)
        ∧ (s.d0 = 5 → t.rd .TIM_DPLL0_STATUS_tod_trace = byteAt cell 25 % 4))

/-- A forwarded CLEAR or LOCKOUT acts on the ACTIVE, and a forwarded FORCE or MANUAL that passes its checks makes it
hand over; a FORCE, MANUAL or RELINQUISH that the ACTIVE hands over makes the SHADOW take over with PAIR_TAKEOVER,
whatever it was doing, and any other member answers it with the result 2 and keeps its role; a request already
accepted is only counted and answered again; an acknowledgement ends the request in flight and its descriptor; a
request without one is sent again, and refused after eight sends; a DYING cell makes the SHADOW take over; a failure
that stands here only makes an ACTIVE with a ready peer stand down, and a SHADOW not ready; when the hold after a
switch ends, readiness follows what it depends on. That the last cmd_seq alone is remembered (log entry 101), the
answer NOT_READY (102), the member on which FORCE holds (104) and the yield without a tributary in service (111) are
the model's readings. (08_pair_protection.md R293, R295, R297, R301, R302, R303, R304) -/
def Obligations.SwitchCommands : Prop :=
  (∀ (cell : List Byte) (req : Fin 2) (s : State), s.linkState ≠ 0 → cellOk 4 cell = true → byteAt cell 3 = req.val →
      s.role = 1 → s.pair.cmdIn ≠ some (cellField cell 1 2) →
      Ends (if req = 0 then .cmdClear cell else .cmdLockout cell) s fun t => t.rd .PAIR_STATUS_lockout = req.val
        ∧ t.pair.cmdIn = some (cellField cell 1 2) ∧ t.pair.cmdRes = 0 ∧ (req = 0 → t.pair.force = false))
  ∧ (∀ (cell : List Byte) (c : Instr) (s : State), s.linkState ≠ 0 → cellOk 4 cell = true → s.role = 2 →
      (c = .cmdForce cell ∧ byteAt cell 3 = 2 ∧ (byteAt cell 7).testBit 0 = false
        ∨ c = .cmdManual cell ∧ byteAt cell 3 = 3 ∧ (byteAt cell 7).testBit 0 = false
        ∨ c = .cmdRelinquish cell ∧ byteAt cell 3 = 4) →
      s.pair.cmdIn ≠ some (cellField cell 1 2) → Ends c s fun t => t.role = 1 ∧ t.rd .PAIR_EV_takeover = 1
        ∧ t.modeNow = (if s.pair.mirMode = 0 then s.pair.peer.mode else s.pair.mirMode) % 16
        ∧ t.pair.cmdRes = 0 ∧ (c = .cmdForce cell → t.pair.force = true)
        ∧ (c = .cmdManual cell → t.pair.force = false))
  ∧ (∀ (cell : List Byte) (force : Bool) (s : State), s.linkState ≠ 0 → cellOk 4 cell = true → s.role = 1 →
      byteAt cell 3 = (if force then 2 else 3) → (byteAt cell 7).testBit 0 = true →
      s.switchErr (if force then 2 else 3) = 0 → s.pair.cmdIn ≠ some (cellField cell 1 2) →
      Ends (if force then .cmdForce cell else .cmdManual cell) s fun t => t.role = 2 ∧ t.modeNow = 5
        ∧ t.rd .PAIR_STATUS_ready = 0 ∧ t.pair.cmdRes = 0 ∧ t.pair.cmdOut.isSome = true)
  ∧ (∀ (cell : List Byte) (c : Instr) (s : State), s.linkState ≠ 0 → cellOk 4 cell = true → s.role ≠ 2 →
      (c = .cmdForce cell ∧ byteAt cell 3 = 2 ∧ (byteAt cell 7).testBit 0 = false
        ∨ c = .cmdManual cell ∧ byteAt cell 3 = 3 ∧ (byteAt cell 7).testBit 0 = false
        ∨ c = .cmdRelinquish cell ∧ byteAt cell 3 = 4) →
      s.pair.cmdIn ≠ some (cellField cell 1 2) → Ends c s fun t => t.role = s.role ∧ t.pair.cmdRes = 2)
  ∧ (∀ (cell : List Byte) (c : Instr) (s : State), s.linkState ≠ 0 → cellOk 4 cell = true →
      (c = .cmdClear cell ∧ byteAt cell 3 = 0 ∨ c = .cmdLockout cell ∧ byteAt cell 3 = 1
        ∨ c = .cmdForce cell ∧ byteAt cell 3 = 2 ∨ c = .cmdManual cell ∧ byteAt cell 3 = 3
        ∨ c = .cmdRelinquish cell ∧ byteAt cell 3 = 4) → s.pair.cmdIn = some (cellField cell 1 2) →
      Ends c s fun t => t.pair = s.pair ∧ t.role = s.role ∧ t.cntOf 518 = (s.cntOf 518 + 1) % 2 ^ 48
        ∧ (s.lanesUp ≠ [] → s.padHeld 2 = false → t.out = .cell (s.lanesUp.headD 0)
            (mkCell 5 (beBytes 2 (cellField cell 1 2) ++ beBytes 1 s.pair.cmdRes ++ [1])) :: s.out))
  ∧ (∀ (cell : List Byte) (o : CmdOut) (s : State), s.pair.cmdOut = some o → s.linkState ≠ 0 →
      cellOk 5 cell = true → cellField cell 1 2 = cellField o.cell 1 2 → Ends (.cackRx cell) s fun t =>
        t.pair.cmdOut = none
          ∧ ∀ d ∈ o.d, t.ended d (if byteAt cell 3 = 0 then 0 else 1) (byteAt cell 3) 0)
  ∧ (∀ (o : CmdOut) (s : State), s.pair.cmdOut = some o → Ends .cmdResend s fun t =>
      (o.sends < 8 → t.pair.cmdOut = some { o with sends := o.sends + 1 }
          ∧ (s.lanesUp ≠ [] → s.padHeld 2 = false → t.out.tail = s.out
            ∧ (t.out.head?.map fun x => match x with | .cell _ b => b | _ => []) = some o.cell))
        ∧ (8 ≤ o.sends → t.pair.cmdOut = none ∧ ∀ d ∈ o.d, t.ended d 1 1 0))
  ∧ (∀ (cell : List Byte) (s : State), s.linkState ≠ 0 → cellOk 7 cell = true → s.role = 2 →
      (cellField cell 3 2 + 65536 - s.pair.peer.seq) % 65536 ≤ 8 → Ends (.dyingRx cell) s fun t =>
        t.role = 1 ∧ t.rd .PAIR_EV_takeover = 1)
  ∧ (∀ (why : YieldObs) (s : State), s.role = 1 → s.linkUp = true → s.localOnly why = true →
      Ends (.compareYield why) s fun t =>
        (s.on .PAIR_STATUS_ready = true → s.lockout = false → s.pair.force = false →
          t.role = 2 ∧ t.modeNow = 5 ∧ t.rd .PAIR_STATUS_faulted = 1 ∧ t.pair.cmdOut.isSome = true)
        ∧ (s.lockout = true → t.role = 1 ∧ t.rd .PAIR_EV_unprot_fault = 1))
  ∧ (∀ (why : YieldObs) (s : State), s.role ≠ 1 → s.linkUp = true → s.localOnly why = true →
      Ends (.compareYield why) s fun t => t.rd .PAIR_STATUS_ready = 0 ∧ t.role = s.role)
  ∧ (∀ (s : State), Ends .readyHoldEnd s fun t => t.pair.hold1s = false
      ∧ (s.modeNow = 5 → t.rd .PAIR_STATUS_ready = b2n t.readyNow))

/-- A PAIR_SWITCH whose tag is not remembered and whose reserved bits are 0 is carried out: without a link it is refused
NOT_PAIRED; on the ACTIVE, CLEAR and LOCKOUT act and complete, FORCE and MANUAL make it stand down and ask the peer;
on the SHADOW the request is forwarded; a reserved code completes with BAD_CODE; a bridged copy is selected where
the own source failed and released when it is good again, both with PAIR_SEL; a laser match shows the difference of
the carriers, as far as its field holds it, and adds up the tuning steps beyond 25 MHz. (08_pair_protection.md R287,
R292, R302) -/
def Obligations.SwitchDescriptors : Prop :=
  (∀ (r : RingId) (d : Desc) (s : State), s.headDesc r 2 = some d → fieldOf d.param0 4 12 = 0 →
      s.mode.swMem.find? (fun m => m.tag == fieldOf d.param0 16 16) = none → s.linkUp = false ∨ s.role = 0 →
      d.param0 % 16 ≤ 3 → Ends (match d.param0 % 16 with
        | 0 => .pairSwitchClear r | 1 => .pairSwitchLockout r | 2 => .pairSwitchForce r | _ => .pairSwitchManual r) s
        fun t => t.ended d 1 1 0 ∧ t.role = s.role)
  ∧ (∀ (r : RingId) (req : Fin 2) (d : Desc) (s : State), s.headDesc r 2 = some d → d.param0 % 16 = req.val →
      fieldOf d.param0 4 12 = 0 → s.mode.swMem.find? (fun m => m.tag == fieldOf d.param0 16 16) = none →
      s.linkUp = true → s.role = 1 → Ends (if req = 0 then .pairSwitchClear r else .pairSwitchLockout r) s fun t =>
        t.rd .PAIR_STATUS_lockout = req.val ∧ t.ended d 0 0 0 ∧ (req = 0 → t.pair.force = false))
  ∧ (∀ (r : RingId) (force : Bool) (d : Desc) (s : State), s.headDesc r 2 = some d →
      d.param0 % 16 = (if force then 2 else 3) → fieldOf d.param0 4 12 = 0 →
      s.mode.swMem.find? (fun m => m.tag == fieldOf d.param0 16 16) = none →
      s.linkUp = true → s.role = 1 → s.switchErr (if force then 2 else 3) = 0 →
      Ends (if force then .pairSwitchForce r else .pairSwitchManual r) s fun t => t.role = 2 ∧ t.modeNow = 5
        ∧ t.rd .PAIR_STATUS_ready = 0 ∧ t.pair.hold1s = true ∧ t.pair.cmdOut.map (·.d) = some (some d))
  ∧ (∀ (r : RingId) (req : Fin 4) (d : Desc) (s : State), s.headDesc r 2 = some d → d.param0 % 16 = req.val →
      fieldOf d.param0 4 12 = 0 → s.mode.swMem.find? (fun m => m.tag == fieldOf d.param0 16 16) = none →
      s.linkUp = true → s.role = 2 → s.pair.cmdOut = none → Ends (match req with
        | 0 => .pairSwitchClear r | 1 => .pairSwitchLockout r | 2 => .pairSwitchForce r | _ => .pairSwitchManual r) s
        fun t => t.role = 2 ∧ t.pair.cmdOut.map (·.d) = some (some d) ∧ t.pair.cmdSeq = (s.pair.cmdSeq + 1) % 65536
          ∧ t.pair.cmdOut.map (fun o => byteAt o.cell 3) = some req.val)
  ∧ (∀ (r : RingId) (d : Desc) (s : State), s.headDesc r 2 = some d → 3 < d.param0 % 16 →
      s.mode.swMem.find? (fun m => m.tag == fieldOf d.param0 16 16) = none → Ends (.pairSwitchReserved r) s fun t =>
        t.ended d 1 5 0 ∧ t.role = s.role)
  ∧ (∀ (k : BridgeId) (copy : CopyObs) (s : State), copy.sf = false → s.role = 1 → s.linkUp = true → s.on .PAIR_BRIDGE_admitted k = true →
      s.on .PAIR_BRIDGE_selected k = false → s.bridgeFailed k = true → Ends (.bridgeSelect k copy) s fun t =>
        t.rd .PAIR_BRIDGE_selected k = 1 ∧ t.rd .PAIR_EV_sel = 1)
  ∧ (∀ (k : BridgeId) (s : State), s.role = 1 → s.on .PAIR_BRIDGE_selected k = true → s.bridgeFailed k = false →
      Ends (.bridgeRestore k) s fun t => t.rd .PAIR_BRIDGE_selected k = 0 ∧ t.rd .PAIR_EV_sel = 1)
  ∧ (∀ (n : Eng) (df : Int) (s : State), s.modeNow = 5 → s.awake = true → s.hasEng n = true → s.inService n = true →
      s.dfNow n = some df → Ends .laserMatchTick s fun t => t.dfOf n = clampInt (-127) 127 df
        ∧ t.pair.dfV.testBit n = true
        ∧ SMap.get 0 t.pair.tune n = SMap.get 0 s.pair.tune n + (if 25 < df.natAbs then df else 0))

/-- A second boundary moves ToD to the next second with PPS_OUT, or to the captured seconds of a pending set with
tod_trace at 0; a write with tod_set captures; an edge of a PPS input gives its phase; an error beyond the threshold
steps ToD with TOD_STEP; loop_open obeys the privileged requester only and opens or closes DPLL0; pstep adds to the
remainder of its DPLL, which PSTEP_DONE ends. That an edge is rounded to the nearest 25 ps is the model's choice
(log entry 167). (09_timing.md R310, R311, R313, R314, R316, R323, R324, R327, R328, R330) -/
def Obligations.TimeOfDay : Prop :=
  (∀ (s : State), s.padHeld 3 = false → s.on .SYS_RST_STATUS_boot_ready = true → Ends .todSecond s fun t =>
      (s.tim.setPend = none → t.tim.tod = (s.tim.tod / todSec + 1) * todSec % todMod)
        ∧ (∀ v, s.tim.setPend = some v → t.tim.tod = v % 2 ^ 48 * todSec ∧ t.tim.setPend = none
            ∧ (s.d0 ≠ 5 → t.rd .TIM_DPLL0_STATUS_tod_trace = 0))
        ∧ .pps t.tim.tod ∈ t.out ∧ (todMod ≤ (s.tim.tod / todSec + 1) * todSec → t.rd .TIM_EV_tod_wrap = 1))
  ∧ (∀ (hi : Nat) (s : State), s.fate .host .TIM_TOD_SEC_HI 0 = .takes → Ends (.todSet hi) s fun t =>
      t.tim.setPend = some (hi % 65536 * 2 ^ 32 + s.rd .TIM_TOD_SEC_LO_sec_lo) ∧ t.rd .TIM_DPLL0_STATUS_tod_trace = 0)
  ∧ (∀ (i : Fin 2) (tod : Nat) (s : State), s.on .TIM_REF_CFG_pps_en i = true → Ends (.ppsEdge i tod) s fun t =>
      (t.refOf i).phase = fold25 (roundUp ((tod % todMod % todSec : Nat) * 1000) 1638400
        - 4 * s.rdInt .TIM_REF_CFG_in_delay i) ∧ t.tim.tod = tod % todMod)
  ∧ (∀ (e : Int) (s : State), s.timeSrc ≠ 15 → s.d0 ≠ 4 → s.d0 ≠ 5 → s.tim.discard = false →
      10 * max 1 (s.rd .TIM_DPLL0_CTRL_step_thr) * 65536 < e.natAbs → s.tim.tod < todMod → Ends (.todPhaseStep e) s fun t =>
        t.tim.tod = todAdd s.tim.tod e ∧ t.rd .TIM_DPLL0_STATUS_time_err = 0
          ∧ (todDiff (todAdd s.tim.tod e) s.tim.tod ≠ 0 → t.rd .TIM_EV_tod_step = 1))
  ∧ (∀ (rq : Requester) (v : Bool) (s : State), s.fate rq .TIM_DPLL0_CTRL 0 = .takes →
      s.rd .TIM_DPLL0_CTRL_loop_open ≠ b2n v → Ends (.loopOpenWrite rq v) s fun t =>
        (s.privileged rq = false → t.rd .TIM_DPLL0_CTRL_loop_open = s.rd .TIM_DPLL0_CTRL_loop_open
          ∧ t.rd .TIM_EV_priv_drop = 1 ∧ t.d0 = s.d0)
        ∧ (s.privileged rq = true → t.rd .TIM_DPLL0_CTRL_loop_open = b2n v
          ∧ (v = true → s.d0 ≠ 5 → t.d0 = 4)
          ∧ (v = false → s.d0 = 4 → s.freqSrc ≠ 15 → t.d0 = 1)))
  ∧ (∀ (k : Fin 5) (ps : Int) (s : State), s.fate .host .TIM_DPLL_PSTEP k = .takes → -2 ^ 31 ≤ ps → ps < 2 ^ 31 →
      Ends (.dpllPstep k ps) s fun t => (SMap.get {} t.tim.dpll (k + 1)).rem
          = clampInt (-1000000000) 1000000000 ((SMap.get {} (s.pstepRun k).tim.dpll (k + 1)).rem + ps)
        ∧ t.rd .TIM_DPLL_STATUS_step_busy k = b2n ((SMap.get {} t.tim.dpll (k + 1)).rem != 0))
  ∧ (∀ (k : Fin 5) (s : State), Ends (.pstepDone k) s fun t => t.rd .TIM_DPLL_STATUS_step_busy k = 0
      ∧ (SMap.get {} t.tim.dpll (k + 1)).rem = 0)

/-- A failing reference loses its qualification with its code and is no source any more; one that was free of failure
for its time is qualified, before that it waits; lock and unlock move DPLL0 and the others between ACQUIRE and
LOCKED; the learned model is kept here and in the cellar; tod_trace becomes TRACEABLE within the threshold and
expired at the hold limit; a sample of REF10 near the present completes and sets its error, another is refused.
(09_timing.md R317, R318, R319, R321, R324, R329, R333, R336; 11_host_rings.md R398) -/
def Obligations.TimingReferences : Prop :=
  (∀ (i : RefId) (why : RefFault) (s : State), s.hasRef i = true → s.qualRefresh.faultHolds i why = true →
      Ends (.refFail i why) s fun t => t.rd .TIM_REF_STATUS_qualified i = 0
        ∧ t.rd .TIM_REF_STATUS_fail i = faultCode why ∧ t.freqSrc ≠ i ∧ t.timeSrc ≠ i
        ∧ (s.rd .TIM_REF_STATUS_qualified i = 1 → t.rd .TIM_EV_ref_chg = 1))
  ∧ (∀ (i : RefId) (ppb : Int) (secs : Nat) (s : State), s.hasRef i = true → s.on .TIM_REF_STATUS_qualified i = false →
      s.qualRefresh.refNoQual i = false → s.refInactive i = false → (i.val < 10 → ppb.natAbs ≤ 10000) →
      (if (s.refOf i).ever then s.rd .TIM_SEL_CTRL_wtr else 10) ≤ secs → Ends (.refQualify i ppb secs) s fun t =>
        t.rd .TIM_REF_STATUS_qualified i = 1 ∧ t.rd .TIM_REF_STATUS_fail i = 0 ∧ t.rd .TIM_REF_STATUS_wtr_run i = 0
          ∧ t.rd .TIM_EV_ref_chg = 1 ∧ (t.refOf i).freq = ppb)
  ∧ (∀ (i : RefId) (ppb : Int) (secs : Nat) (s : State), s.hasRef i = true → s.on .TIM_REF_STATUS_qualified i = false →
      s.qualRefresh.refNoQual i = false → s.refInactive i = false → (i.val < 10 → ppb.natAbs ≤ 10000) →
      secs < (if (s.refOf i).ever then s.rd .TIM_SEL_CTRL_wtr else 10) → Ends (.refQualify i ppb secs) s fun t =>
        t.rd .TIM_REF_STATUS_qualified i = 0 ∧ t.rd .TIM_REF_STATUS_wtr_run i = 1)
  ∧ (∀ (k : Fin 6) (c : Instr) (v : Nat) (s : State), (c = .d0Lock k ∧ v = 2 ∨ c = .d0Unlock k ∧ v = 1) →
      (k.val = 0 → s.d0 = 3 - v) → (k.val ≠ 0 → s.rd .TIM_DPLL_STATUS_dk_state (k - 1) = 3 - v) → Ends c s fun t =>
        (k.val = 0 → t.d0 = v) ∧ (k.val ≠ 0 → t.rd .TIM_DPLL_STATUS_dk_state (k - 1) = v))
  ∧ (∀ (m : ModelObs) (c : Instr) (s : State), s.learning = true →
      (c = .modelReady m ∨ c = .modelSave m ∧ s.on .TIM_DPLL0_STATUS_model_ready = true) → Ends c s fun t =>
        t.tim.model = { valid := true, mean := m.mean.getD s.learnedMean, drift := m.drift.getD s.learnedDrift } ∧ t.rd .TIM_DPLL0_STATUS_model_ready ≠ 0
          ∧ (c = .modelSave m → t.cel.model = t.tim.model))
  ∧ (∀ (e : Int) (s : State), s.srcQual s.timeSrc = 1 ∨ s.srcQual s.timeSrc = 2 → s.d0 = 2 →
      e.natAbs ≤ max 1 (s.rd .TIM_DPLL0_CTRL_lock_thr) * 65536 → Ends (.traceAcquire e) s fun t =>
        t.rd .TIM_DPLL0_STATUS_tod_trace = 1)
  ∧ (∀ (s : State), s.rd .TIM_DPLL0_STATUS_tod_trace = 2 → s.d0 ≠ 5 →
      60 * max 1 (s.rd .TIM_SEL_CTRL_hold_limit) ≤ s.tim.holdS → Ends .holdExpire s fun t =>
        t.rd .TIM_DPLL0_STATUS_tod_trace = 3 ∧ t.rd .TIM_EV_hold_expired = 1)
  ∧ (∀ (r : RingId) (d : Desc) (s : State), s.headDesc r 0x40 = some d → Ends (.timeSample r) s fun t =>
      (2 * todSec < (todDiff (ofStamp88 (fromLE (slice d.cls 0 11))) s.tim.tod).natAbs → t.ended d 1 1 0)
        ∧ ((todDiff (ofStamp88 (fromLE (slice d.cls 0 11))) s.tim.tod).natAbs ≤ 2 * todSec →
            s.host.ref10Seq ≠ some (fromLE (slice d.cls 22 2)) →
            t.ended d 0 0 0 ∧ (t.refOf 10).sample = ofTwos 64 (fromLE (slice d.cls 12 8))
              ∧ t.host.ref10Seq = some (fromLE (slice d.cls 22 2))))

/-- A good block of an engine, received at level 2 or above, is stamped with its superframe and gives the reference of
its engine the quality it carries; on the engine of REF11 it shows in TIM_TT_STATUS, and adds no sample after a far
switch; a block that is marked, fails its CRC, or comes below level 2 changes nothing; a held dispersion that lasts
ten seconds fails REF11; the discarding after a far switch ends with its second. (09_timing.md R338, R340, R341,
R342, R346) -/
def Obligations.TimeTransfer : Prop :=
  (∀ (n : Eng) (blk : List Byte) (s : State), s.lpn n = true → 2 ≤ (s.rxOf n).lvl →
      crc16 (slice blk 0 30) = fromBE (slice blk 30 2) → Ends (.ttBlockRx n blk false) s fun t =>
        (t.refOf (6 + n)).rxOk = true ∧ (t.refOf (6 + n)).adv = byteAt blk 0 / 4 % 16
          ∧ ((SMap.get [] t.tim.rxSt n).head?.map (·.psc)) = some (fromBE (slice blk 2 2))
          ∧ (s.ttEngine = n → t.rd .TIM_TT_STATUS_tt_rx_ok = 1 ∧ t.rd .TIM_TT_STATUS_far_qual = byteAt blk 0 / 4 % 16
              ∧ t.rd .TIM_TT_STATUS_far_trace = byteAt blk 0 % 4)
          ∧ (s.tim.discard = true → t.tim.samples = s.tim.samples))
  ∧ (∀ (n : Eng) (blk : List Byte) (mark : Bool) (s : State), blk ≠ [] →
      mark = true ∨ crc16 (slice blk 0 30) ≠ fromBE (slice blk 30 2) ∨ (s.rxOf n).lvl < 2 → Ends (.ttBlockRx n blk mark) s fun t => t = s)
  ∧ (∀ (s : State), s.on .TIM_TT_STATUS_cd_hold = true → Ends .cdHoldExpire s fun t =>
      t.rd .TIM_REF_STATUS_qualified 11 = 0 ∧ t.rd .TIM_REF_STATUS_fail 11 = 1 ∧ t.freqSrc ≠ 11 ∧ t.timeSrc ≠ 11
        ∧ (s.rd .TIM_REF_STATUS_qualified 11 = 1 → t.rd .TIM_EV_tt_lost = 1))
  ∧ (∀ (s : State), Ends .ttDiscardEnd s fun t => t.tim.discard = false)

/-- A KEY command whose checks pass loads the unwrapped key into NXT, erases a slot, or promotes NXT to CUR and toggles
the phase, and completes OK; one whose check fails is refused with its code and leaves the locker alone, a key that
does not unwrap with code 9, and a reserved op with code 1; a load whose buffer cannot be read completes with status
6. That a read error ends the command before the checks of R366 is the model's reading (log entry 63), its status
that of R395. (10_cipher.md R365, R366; 11_host_rings.md R399) -/
def Obligations.KeyCommands : Prop :=
  (∀ (r : RingId) (d : Desc) (data : BufRead) (s : State), s.headDesc r 0x30 = some d → keyOp d.param0 = 1 →
      data.err = false → s.keyErr d = 0 → Ends (.keyLoad r data) s fun t =>
        (s.fuse.kek.bind (fun kek => keyUnwrap kek data.bytes) = none ∨ d.len ≠ 40 → t.ended d 1 9 0 ∧ t.lock = s.lock)
        ∧ ∀ key, s.fuse.kek.bind (fun kek => keyUnwrap kek data.bytes) = some key → d.len = 40 → t.ended d 0 0 40
            ∧ (t.lockOf (keyLocker d.param0)).nxt = { key := some key, kgen := keyGen d.param0 }
            ∧ (t.lockOf (keyLocker d.param0)).cur = (s.lockOf (keyLocker d.param0)).cur
            ∧ t.rd .CIPH_LOCK_STATUS_nxt_valid (keyLocker d.param0) = 1
            ∧ t.rd .CIPH_LOCK_STATUS_nxt_kgen (keyLocker d.param0) = keyGen d.param0)
  ∧ (∀ (r : RingId) (d : Desc) (data : BufRead) (s : State), s.headDesc r 0x30 = some d → keyOp d.param0 = 1 →
      data.err = true → Ends (.keyLoad r data) s fun t => t.ended d 6 0 data.bytes.length ∧ t.lock = s.lock)
  ∧ (∀ (r : RingId) (d : Desc) (data : BufRead) (c : Instr) (s : State), s.headDesc r 0x30 = some d →
      (c = .keyLoad r data ∧ data.err = false ∧ keyOp d.param0 = 1 ∨ c = .keyErase r ∧ keyOp d.param0 = 2
        ∨ c = .keyPromote r ∧ keyOp d.param0 = 3) → s.keyErr d ≠ 0 → Ends c s fun t =>
        t.ended d 1 (s.keyErr d) 0 ∧ t.lock = s.lock)
  ∧ (∀ (r : RingId) (d : Desc) (s : State), s.headDesc r 0x30 = some d → keyOp d.param0 = 2 → s.keyErr d = 0 →
      Ends (.keyErase r) s fun t => t.ended d 0 0 0
        ∧ t.lockOf (keyLocker d.param0) = (if keySlot d.param0 = 0
            then { s.lockOf (keyLocker d.param0) with cur := {} } else { s.lockOf (keyLocker d.param0) with nxt := {} })
        ∧ (if keySlot d.param0 = 0 then t.rd .CIPH_LOCK_STATUS_cur_valid (keyLocker d.param0) = 0
            else t.rd .CIPH_LOCK_STATUS_nxt_valid (keyLocker d.param0) = 0))
  ∧ (∀ (r : RingId) (d : Desc) (s : State), s.headDesc r 0x30 = some d → keyOp d.param0 = 3 → s.keyErr d = 0 →
      Ends (.keyPromote r) s fun t => t.ended d 0 0 0
        ∧ (t.lockOf (keyLocker d.param0)).cur = (s.lockOf (keyLocker d.param0)).nxt
        ∧ (t.lockOf (keyLocker d.param0)).nxt = {}
        ∧ t.rd .CIPH_LOCK_STATUS_cur_phase (keyLocker d.param0)
            = 1 - s.rd .CIPH_LOCK_STATUS_cur_phase (keyLocker d.param0)
        ∧ t.rd .CIPH_LOCK_STATUS_cur_valid (keyLocker d.param0) = 1)
  ∧ (∀ (r : RingId) (d : Desc) (s : State), s.headDesc r 0x30 = some d → keyOp d.param0 = 0 ∨ 3 < keyOp d.param0 →
      Ends (.keyReservedOp r) s fun t => t.ended d 1 1 0 ∧ t.lock = s.lock)

/-- A released locker is purged and its generation counts on, which a requester without privilege cannot ask; a key
phase flip is taken for the next SFM where every locker of the engine holds the key of the other phase, and refused
with KP_REFUSED where one does not; each reseed notes whether it passed, a failing test of the source is reported,
and without a passing reseed the cipher halts. (10_cipher.md R362, R367, R369, R370, R371) -/
def Obligations.CipherControl : Prop :=
  (∀ (rq : Requester) (l : LockId) (s : State), s.fate rq .CIPH_LOCK_CTRL l = .takes → Ends (.lockerRelease rq l) s fun t =>
      t.rd .CIPH_LOCK_CTRL_lock_en l = 0 ∧ t.lockOf l = {} ∧ t.rd .CIPH_LOCK_STATUS_cur_valid l = 0
        ∧ t.rd .CIPH_LOCK_STATUS_nxt_valid l = 0
        ∧ t.rd .CIPH_LOCK_STATUS_lgen l = (s.rd .CIPH_LOCK_STATUS_lgen l + 1) % 256)
  ∧ (∀ (rq : Requester) (l : LockId) (s : State), s.privileged rq = false → Ends (.lockerRelease rq l) s fun t => t = s)
  ∧ (∀ (n : Eng) (s : State), s.fate .host .CIPH_ENG_CTRL n = .takes → s.on .CIPH_ENG_CTRL_kp_pend n = false →
      Ends (.kpFlip n) s fun t => t.rd .CIPH_ENG_CTRL_tx_kp n = s.rd .CIPH_ENG_CTRL_tx_kp n
        ∧ ((s.engLockers n).all (fun l => (s.slotFor l (1 - s.rd .CIPH_ENG_CTRL_tx_kp n)).key.isSome) = true →
            t.rd .CIPH_ENG_CTRL_kp_pend n = 1 ∧ ((t.txOf n).shadows.any fun h => decide (h.what = .kpFlip)) = true)
        ∧ ((s.engLockers n).any (fun l => (s.slotFor l (1 - s.rd .CIPH_ENG_CTRL_tx_kp n)).key.isNone) = true →
            t.rd .CIPH_ENG_CTRL_kp_pend n = 0 ∧ t.rd .CIPH_EV_kp_refused = 1))
  ∧ (∀ (pass : Bool) (s : State), Ends (.entropyReseed pass) s fun t => t.sec.reseedOk = pass)
  ∧ (∀ (s : State), Ends .entropyTestFail s fun t => t.sec.reseedOk = false ∧ t.rd .CIPH_EV_ent_fail = 1)
  ∧ (∀ (s : State), s.sec.reseedOk = false → s.on .CIPH_EV_halted = false → Ends .cipherHalt s fun t =>
      t.rd .CIPH_EV_halted = 1 ∧ t.rd .CIPH_EV_halt_seen = 1)

/-- An enable of a DISABLED ring makes it ACTIVE with counts at 0 when its checks pass, and leaves it DISABLED with the
code of the first that fails and ctx_bad otherwise; a disable of an ACTIVE or ERROR ring makes it QUIESCING, and an
SQ's descriptors that have not started complete ABORTED; with nothing outstanding it is DISABLED; a doorbell moves
its ring's count when it names the ring and stays within its size, and is counted otherwise, as is one that is no
doorbell's address. (11_host_rings.md R380, R381, R382, R383, R386, R387) -/
def Obligations.RingContexts : Prop :=
  (∀ (rq : Requester) (r : RingId) (cfg : Nat) (s : State), s.fate rq .HOST_RCTX_CFG r = .takes → cfg < 2 ^ 32 →
      s.rd .HOST_RCTX_STATE_state r = 0 → Ends (.ringEnable rq r cfg) s fun t =>
        let e := (cfgFields.foldl (fun u f => u.wr f r (f.part cfg)) s).enableErr rq r
        (e = 0 → t.rd .HOST_RCTX_STATE_state r = 1 ∧ t.rd .HOST_RCTX_CFG_en r = 1 ∧ t.rd .HOST_RCTX_STATE_err r = 0
          ∧ t.rd .HOST_RCTX_IDX_host_idx r = 0 ∧ t.rd .HOST_RCTX_IDX_dev_idx r = 0
          ∧ t.rd .HOST_RCTX_CFG_log2size r = fieldOf cfg Fld.HOST_RCTX_CFG_log2size.info.lo Fld.HOST_RCTX_CFG_log2size.info.w)
        ∧ (e ≠ 0 → t.rd .HOST_RCTX_STATE_state r = 0 ∧ t.rd .HOST_RCTX_CFG_en r = 0
          ∧ t.rd .HOST_RCTX_STATE_err r = e ∧ t.rd .HOST_EV_ctx_bad = 1))
  ∧ (∀ (rq : Requester) (r : RingId) (cfg : Nat) (s : State), s.fate rq .HOST_RCTX_CFG r = .takes →
      s.rd .HOST_RCTX_STATE_state r ≠ 0 → Ends (.ringEnable rq r cfg) s fun t =>
        t.rd .HOST_EV_ctx_bad = 1 ∧ t.rd .HOST_RCTX_STATE_state r = s.rd .HOST_RCTX_STATE_state r)
  ∧ (∀ (r : RingId) (cfg : Nat) (s : State), s.fate .host .HOST_RCTX_CFG r = .takes →
      s.rd .HOST_RCTX_STATE_state r = 1 ∨ s.rd .HOST_RCTX_STATE_state r = 3 → Ends (.ringDisable r cfg) s fun t =>
        t.rd .HOST_RCTX_STATE_state r = 2 ∧ t.rd .HOST_RCTX_CFG_en r = 0
          ∧ (s.rd .HOST_RCTX_CFG_kind r = 0 → (t.ringOf r).fetched = []
              ∧ ∀ d ∈ (s.ringOf r).rxq ++ (s.ringOf r).fetched, t.ended d 7 0 0)
          ∧ (s.rd .HOST_RCTX_CFG_kind r = 1 → (t.ringOf r).cplq = []))
  ∧ (∀ (r : RingId) (s : State), s.rd .HOST_RCTX_STATE_state r = 2 → s.ringDrained r = true →
      Ends (.ringQuiesced r) s fun t => t.rd .HOST_RCTX_STATE_state r = 0)
  ∧ (∀ (off word : Nat) (c : Instr) (s : State), (c = .sqDoorbell off word ∨ c = .cqDoorbell off word) →
      s.hostUnreachable = false → s.on .SYS_RST_STATUS_boot_ready = true → off % 4 = 0 → off < 0x40000 →
      s.ringActive (off / 4) = true → word / 65536 = off / 4 →
      (word % 65536 + 65536 - s.rd .HOST_RCTX_IDX_host_idx (off / 4)) % 65536 ≤ s.ringSize (off / 4) →
      (if s.rd .HOST_RCTX_CFG_kind (off / 4) = 0 then (word % 65536 + 65536 - s.rd .HOST_RCTX_IDX_dev_idx (off / 4)) % 65536
        else (s.rd .HOST_RCTX_IDX_dev_idx (off / 4) + 65536 - word % 65536) % 65536) ≤ s.ringSize (off / 4) →
      Ends c s fun t => t.rd .HOST_RCTX_IDX_host_idx (off / 4) = word % 65536)
  ∧ (∀ (off word : Nat) (c : Instr) (s : State), (c = .sqDoorbell off word ∨ c = .cqDoorbell off word) →
      s.hostUnreachable = false → s.on .SYS_RST_STATUS_boot_ready = true → off % 4 = 0 → off < 0x40000 →
      s.ringActive (off / 4) = false ∨ word / 65536 ≠ off / 4
        ∨ s.ringSize (off / 4) < (word % 65536 + 65536 - s.rd .HOST_RCTX_IDX_host_idx (off / 4)) % 65536
        ∨ s.ringSize (off / 4) < (if s.rd .HOST_RCTX_CFG_kind (off / 4) = 0
            then (word % 65536 + 65536 - s.rd .HOST_RCTX_IDX_dev_idx (off / 4)) % 65536
            else (s.rd .HOST_RCTX_IDX_dev_idx (off / 4) + 65536 - word % 65536) % 65536) → Ends c s fun t =>
        t.rd .HOST_EV_db_bad = 1 ∧ t.cntOf 521 = (s.cntOf 521 + 1) % 2 ^ 48
          ∧ t.rd .HOST_RCTX_IDX_host_idx (off / 4) = s.rd .HOST_RCTX_IDX_host_idx (off / 4))
  ∧ (∀ (off word : Nat) (c : Instr) (s : State), (c = .sqDoorbell off word ∨ c = .cqDoorbell off word) →
      s.hostUnreachable = false → s.on .SYS_RST_STATUS_boot_ready = true → off % 4 ≠ 0 ∨ 0x40000 ≤ off → Ends c s fun t =>
        t.rd .HOST_EV_acc_bad = 1 ∧ t.cntOf 520 = (s.cntOf 520 + 1) % 2 ^ 48)

/-- A fetched descriptor is queued, and where its checks fail completes with the status of the first that fails, or does
nothing, in its turn: at once where no other waits; an error of the fetch takes the SQ to ERROR; the oldest
completion is written while its CQ has room, and discarded when the ring is not its CQ any more; an overflow record
is written once two slots are free; moderated and unmasked messages are sent, and a mask that is set holds them; an
access of R376 is counted and a read of it returns ones, and before boot_ready nothing outside SYS; a read of the
MSI-X table returns its word, and one of a doorbell its ring's number and count; link loss takes the active rings to
QUIESCING and masks every vector, and the link registers show a link that comes up. The table lost with the link
(log entry 3), link_up kept over a function level reset (74) and the request tag beside the entry (158) are the
model's. (11_host_rings.md R376, R384, R388, R391, R392, R395, R400, R403, R404, R408, R409;
16_counters_and_events.md R530) -/
def Obligations.RingTraffic : Prop :=
  (∀ (r : RingId) (b : List Byte) (s : State), s.mayFetch r = true → Ends (.descFetch r (.ok b)) s fun t =>
      t.rd .HOST_RCTX_IDX_dev_idx r = (s.rd .HOST_RCTX_IDX_dev_idx r + 1) % 65536
        ∧ (s.ring.all (fun kv => kv.2.fetched.all (fun d => d.sq == kv.1)) = true → s.descEnd (s.checkedDesc r b) = 0 →
            (s.ringOf r).fetched.all (fun d => s.descEnd d == 0) = true →
            (t.ringOf r).fetched = (s.ringOf r).fetched ++ [s.checkedDesc r b]))
  ∧ (∀ (r : RingId) (b : List Byte) (s : State), s.mayFetch r = true →
      s.ring.all (fun kv => kv.2.fetched.isEmpty) = true → s.rd .HOST_RCTX_IDX_dev_idx r = (s.ringOf r).nextCpl →
      s.descEnd (s.checkedDesc r b) ≠ 0 → Ends (.descFetch r (.ok b)) s fun t => (t.ringOf r).fetched = []
        ∧ t.ended (s.checkedDesc r b) (if s.descEnd (s.checkedDesc r b) = 9 then 0 else s.descEnd (s.checkedDesc r b)) 0 0)
  ∧ (∀ (r : RingId) (s : State), s.mayFetch r = true → Ends (.descFetch r .error) s fun t =>
      t.rd .HOST_RCTX_STATE_state r = 3 ∧ t.rd .HOST_RCTX_STATE_err r = 7 ∧ t.rd .HOST_EV_ring_err = 1)
  ∧ (∀ (cq : RingId) (c : Cpl) (rest : List Cpl) (s : State), (s.ringOf cq).cplq = c :: rest → s.ringActive cq = true →
      s.rd .HOST_RCTX_CFG_kind cq = 1 → s.rd .HOST_RCTX_CFG_gen cq = c.d.cqGen → s.cqFull cq = false →
      s.padHeld 6 = false → Ends (.completionWrite cq) s fun t => (t.ringOf cq).cplq = rest
        ∧ (c.d.opcode = 1 ∨ c.d.opcode = 2 ∨ c.d.opcode = 3 →
            .echo cq (s.rd .HOST_RCTX_IDX_dev_idx cq % s.ringSize cq) (fieldOf c.d.param0 16 16) ∈ t.out)
        ∧ t.rd .HOST_RCTX_IDX_dev_idx cq = (s.rd .HOST_RCTX_IDX_dev_idx cq + 1) % 65536
        ∧ .entry cq (s.rd .HOST_RCTX_IDX_dev_idx cq % s.ringSize cq) (cplHead c.d ++ [BitVec.ofNat 8
            (phaseByte (s.rd .HOST_RCTX_IDX_dev_idx cq) (s.rd .HOST_RCTX_CFG_log2size cq))]
            ++ cplTail c (c.tod.getD s.tim.tod)) ∈ t.out)
  ∧ (∀ (cq : RingId) (c : Cpl) (rest : List Cpl) (s : State), (s.ringOf cq).cplq = c :: rest →
      s.ringActive cq = false ∨ s.rd .HOST_RCTX_CFG_kind cq ≠ 1 ∨ s.rd .HOST_RCTX_CFG_gen cq ≠ c.d.cqGen → Ends (.completionWrite cq) s fun t =>
        (t.ringOf cq).cplq = rest ∧ t.rd .HOST_EV_stale_cpl = 1 ∧ t.cntOf 522 = (s.cntOf 522 + 1) % 2 ^ 48)
  ∧ (∀ (r : RingId) (s : State), s.activeCq r 1 = true → (s.ringOf r).dropped ≠ 0 → s.cqOcc r + 2 ≤ s.ringSize r →
      Ends (.evtOverflow r) s fun t => (t.ringOf r).dropped = 0 ∧ (t.rd .PERF_EV_ev).testBit 0 = true
        ∧ t.perf.evSeq = (s.perf.evSeq + 1) % 65536
        ∧ t.rd .HOST_RCTX_IDX_dev_idx r = (s.rd .HOST_RCTX_IDX_dev_idx r + 1) % 65536)
  ∧ (∀ (cq : RingId) (s : State), s.ringActive cq = true → s.rd .HOST_RCTX_CFG_kind cq = 1 → (s.ringOf cq).pend ≠ 0 →
      s.rd .HOST_RCTX_IRQ_mod_time cq ≠ 0 → s.on .HOST_LINK_link_up = true → s.padHeld 6 = false →
      Ends (.msixModTimer cq) s fun t => (t.ringOf cq).pend = 0
        ∧ (s.host.maskAll = false → SMap.get false s.host.unmasked (s.rd .HOST_RCTX_IRQ_vector cq) = true →
            t.out = .msix (s.rd .HOST_RCTX_IRQ_vector cq) :: s.out)
        ∧ (s.host.maskAll = true → SMap.get false t.host.msixPend (s.rd .HOST_RCTX_IRQ_vector cq) = true))
  ∧ (∀ (v : Fin 256) (s : State), s.host.maskAll = false → s.on .HOST_LINK_link_up = true → s.padHeld 6 = false →
      s.host.msixPend = [(v.val, true)] → Ends (.msixUnmask { v := some v, mask := false }) s fun t =>
        SMap.get false t.host.unmasked v = true ∧ t.host.msixPend = []
        ∧ t.out = (if v.val = 0 ∧ s.irqStatus &&& s.rd .SYS_IRQ_MASK_en = 0 then s.out else .msix v :: s.out))
  ∧ (∀ (v : Fin 256) (s : State), Ends (.msixUnmask { v := none, mask := false }) s fun t => t.host.maskAll = false
      ∧ (s.on .HOST_LINK_link_up = true → s.padHeld 6 = false → s.host.msixPend = [(v.val, true)] →
          SMap.get false s.host.unmasked v = true → t.host.msixPend = []
            ∧ t.out = (if v.val = 0 ∧ s.irqStatus &&& s.rd .SYS_IRQ_MASK_en = 0 then s.out else .msix v :: s.out)))
  ∧ (∀ (v : Fin 256) (s : State), s.host.msixPend = [(v.val, true)] →
      (Ends (.msixUnmask { v := none, mask := true }) s fun t => t.host.maskAll = true ∧ t.out = s.out ∧ t.host.msixPend = s.host.msixPend)
        ∧ Ends (.msixUnmask { v := some v, mask := true }) s fun t => SMap.get false t.host.unmasked v = false ∧ t.out = s.out)
  ∧ (∀ (bar : Fin 6) (write : Bool) (addr size : Nat) (s : State), Machine.badAccess bar write addr size = true →
      s.hostUnreachable = false → s.padHeld 6 = false → Ends (.badAccess bar write addr size) s fun t =>
        (bar = 0 ∧ addr < 0x10000 ∨ s.on .SYS_RST_STATUS_boot_ready = true → t.rd .HOST_EV_acc_bad = 1
          ∧ t.cntOf 520 = (s.cntOf 520 + 1) % 2 ^ 48 ∧ (write = false → t.out.head? = some (.rdData 0xFFFFFFFF)))
        ∧ (¬ (bar = 0 ∧ addr < 0x10000) → s.on .SYS_RST_STATUS_boot_ready = false →
            t = if write then s else s.emit (.rdData 0)))
  ∧ (∀ (k : Fin 1024) (s : State), s.hostUnreachable = false → s.on .SYS_RST_STATUS_boot_ready = true → s.padHeld 6 = false →
      Ends (.badAccess 4 false (4 * k.val) 4) s fun t => t.out = .rdData (if k.val % 4 = 3
        then b2n !SMap.get false s.host.unmasked (k.val / 4) else SMap.get 0 s.host.msixTab k) :: s.out ∧ t.regs = s.regs)
  ∧ (∀ (off : Nat) (s : State), off % 4 = 0 → off < 0x40000 → s.hostUnreachable = false →
      s.on .SYS_RST_STATUS_boot_ready = true → s.padHeld 6 = false →
      Ends (.badAccess 2 false off 4) s fun t =>
        t.out = .rdData (off / 4 * 2 ^ 16 + s.rd .HOST_RCTX_IDX_dev_idx (off / 4) % 2 ^ 16) :: s.out)
  ∧ (∀ (c : Instr) (s : State), s.wf = true → c = .pcieLinkDown ∨ c = .pcieHotReset ∨ c = .pcieFlr → Ends c s fun t =>
      t.rd .HOST_EV_link_down = 1
        ∧ t.rd .HOST_LINK_link_up = (if c = .pcieFlr then s.rd .HOST_LINK_link_up else 0)
        ∧ (∀ r : RingId, s.ringActive r = true → t.rd .HOST_RCTX_STATE_state r = 2)
        ∧ t.host.unmasked = [] ∧ t.host.maskAll = false)
  ∧ (∀ (speed width : Nat) (flit : Bool) (s : State), Ends (.pcieLinkUp speed width flit) s fun t =>
      t.rd .HOST_LINK_speed = speed % 2 ^ Fld.HOST_LINK_speed.info.w
        ∧ t.rd .HOST_LINK_width = width % 2 ^ Fld.HOST_LINK_width.info.w
        ∧ t.rd .HOST_LINK_flit = b2n flit ∧ t.rd .HOST_LINK_link_up = 1)

/-- NOP completes; a flash command inside the flash and outside what is protected starts, another is refused RANGE or
PROTECTED; its end writes erased bytes as they were given, erases its units, or returns the bytes read, and
completes ABORTED when its ring was disabled, with the bytes read or programmed in bytes_moved and the units erased
in the detail word; an operation does not go on while its pads are held; a command that takes too long completes
DEV_ERR; an overhead block joins the queue of its engine with the time of its fetch, is refused where no engine
names its ring, and completes with status 6 where its buffer cannot be read; a receive buffer is posted. How
operations of several rings run together and how many units an erase covers (log entry 72), and that a fetched block
is in execution (179), are the model's. (11_host_rings.md R383, R391, R395, R396, R397, R405; 14_power_and_cellar.md
R474; 12_housekeeping.md R440; 15_security_and_config.md R507) -/
def Obligations.HostCommands : Prop :=
  (∀ (r : RingId) (d : Desc) (s : State), s.headDesc r 0 = some d → Ends (.nop r) s fun t => t.ended d 0 0 0)
  ∧ (∀ (r : RingId) (d : Desc) (data : BufRead) (c : Instr) (s : State),
      (c = .flashRead r ∧ s.headDesc r 6 = some d ∨ c = .flashWrite r data ∧ s.headDesc r 7 = some d
        ∨ c = .flashErase r ∧ s.headDesc r 8 = some d) → Ends c s fun t =>
        (s.fuse.flashSize < (s.flashRange d).1 + (s.flashRange d).2 → t.ended d 1 2 0 ∧ t.fuse = s.fuse)
        ∧ ((s.flashRange d).1 + (s.flashRange d).2 ≤ s.fuse.flashSize → d.opcode ≠ 6 →
            s.flashProtected (s.flashRange d).1 (s.flashRange d).2 = true → t.ended d 1 1 0 ∧ t.fuse = s.fuse)
        ∧ ((s.flashRange d).1 + (s.flashRange d).2 ≤ s.fuse.flashSize →
            (d.opcode = 6 ∨ s.flashProtected (s.flashRange d).1 (s.flashRange d).2 = false) →
            t.host.flashOps.getLast?.map (·.d) = some d))
  ∧ (∀ (r : RingId) (n : Nat) (o : FlashOp) (s : State), s.flashOf r = some o → o.d.opcode = 7 → o.stop = false → s.padHeld 4 = false →
      Ends (.flashOpDone { sq := r, n := n }) s fun t => t.flashOf r = none ∧ t.ended o.d (if o.err then 6 else 0) 0 o.data.length
        ∧ (s.wf = true → ∀ i, i < o.data.length → flashByte s.fuse.flash (o.d.param1 + i) = 0xFF →
            flashByte t.fuse.flash (o.d.param1 + i) = o.data.getD i 0))
  ∧ (∀ (r : RingId) (n : Nat) (o : FlashOp) (s : State), s.flashOf r = some o → o.d.opcode = 8 → o.stop = false → s.padHeld 4 = false →
      Ends (.flashOpDone { sq := r, n := n }) s fun t => t.flashOf r = none ∧ t.ended o.d (if o.err then 6 else 0) 0 0
        ∧ ∀ i, i < (s.flashRange o.d).2 → flashByte t.fuse.flash ((s.flashRange o.d).1 + i) = 0xFF)
  ∧ (∀ (r : RingId) (n : Nat) (o : FlashOp) (s : State), s.flashOf r = some o → o.d.opcode = 6 → o.stop = false →
      s.padHeld 4 = false → s.padHeld 6 = false → Ends (.flashOpDone { sq := r, n := n }) s fun t => t.ended o.d (if o.err then 6 else 0) 0 o.d.len
        ∧ t.out = .dma o.d.addr (flashBytes s.fuse.flash o.d.param1 o.d.len) :: s.out ∧ t.fuse = s.fuse)
  ∧ (∀ (r : RingId) (n : Nat) (o : FlashOp) (s : State), s.flashOf r = some o → o.stop = true →
      Ends (.flashOpDone { sq := r, n := n }) s fun t =>
        let k := if s.padHeld 4 then 0 else n
        t.flashOf r = none
          ∧ (o.d.opcode = 6 → t.ended o.d 7 0 (min k (s.flashRange o.d).2))
          ∧ (o.d.opcode = 7 → t.ended o.d 7 0 (min k o.data.length))
          ∧ (o.d.opcode = 8 → t.ended o.d 7 (min k o.d.param0) 0))
  ∧ (∀ (r : RingId) (n : Nat) (o : FlashOp) (s : State), s.flashOf r = some o → o.stop = false → s.padHeld 4 = true →
      Ends (.flashOpDone { sq := r, n := n }) s fun t => t = s)
  ∧ (∀ (o : FlashOp) (s : State), s.host.flashOps.head? = some o → Ends .flashTimeout s fun t =>
      t.flashOf o.d.sq = none ∧ t.ended o.d 8 1 0)
  ∧ (∀ (r : RingId) (d : Desc) (data : BufRead) (n : Nat) (s : State), s.headDesc r 0x20 = some d →
      s.ohbEngine r = some n → data.err = false → Ends (.ohbTx r data) s fun t =>
        (t.txOf n).ohb = (s.txOf n).ohb ++ [{ d := d, data := padTo d.len data.bytes, tod := s.tim.tod }])
  ∧ (∀ (r : RingId) (d : Desc) (data : BufRead) (s : State), s.headDesc r 0x20 = some d → Ends (.ohbTx r data) s fun t =>
        (s.ohbEngine r = none → t.ended d 1 1 0)
          ∧ (s.ohbEngine r ≠ none → data.err = true → t.ended d 6 0 data.bytes.length))
  ∧ (∀ (r : RingId) (d : Desc) (s : State), s.headDesc r 0x21 = some d → Ends (.rxBuf r) s fun t =>
      (t.ringOf r).rxq = (s.ringOf r).rxq ++ [d])

/-- A request whose tag is remembered is answered as before; one that a check refuses completes REFUSED with its detail
word, is counted and raised, and changes no mode; check_only reports and changes no register; one for the
combination in force completes OK and changes no mode; an accepted start, stop, entry into SHADOW or change of role
takes its mode and role at once, another change between running modes waits for the superframes of the engines, or
takes its mode at once where no engine runs; a transition that is complete ends busy and its descriptor; a held mode
resumes after the wake, each engine on the map of a start. The detail word of an OK completion (log entry 41), a
change of role that commits every field (155) and check_only outside the remembered tags (156) are the model's.
(02_modes.md R36, R38, R40, R60, R61, R63, R67, R71) -/
def Obligations.ModeRequests : Prop :=
  (∀ (r : RingId) (d : Desc) (m : Remembered) (s : State), s.headDesc r 1 = some d →
      s.mode.mem.find? (fun m => m.tag == fieldOf d.param0 16 16) = some m → Ends (.modeSet r) s fun t =>
        t.ended d m.status m.detail 0 ∧ t.modeNow = s.modeNow ∧ t.mode = s.mode)
  ∧ (∀ (r : RingId) (d : Desc) (e : ModeErr) (s : State), s.headDesc r 1 = some d →
      s.mode.mem.find? (fun m => m.tag == fieldOf d.param0 16 16) = none → d.param0.testBit 8 = false →
      s.modeCheck d.param0 = some e → Ends (.modeSet r) s fun t =>
        t.ended d 1 (s.modeDetail e (d.param0 % 16) (fieldOf d.param0 4 2)) 0 ∧ t.modeNow = s.modeNow ∧ t.role = s.role
          ∧ t.cntOf 534 = (s.cntOf 534 + 1) % 2 ^ 48 ∧ (t.rd .PERF_EV_ev).testBit 2 = true
          ∧ t.rd .SYS_MODE_last_tag = fieldOf d.param0 16 16)
  ∧ (∀ (r : RingId) (d : Desc) (s : State), s.headDesc r 1 = some d →
      s.mode.mem.find? (fun m => m.tag == fieldOf d.param0 16 16) = none → d.param0.testBit 8 = true →
      Ends (.modeSet r) s fun t => t.regs = s.regs ∧ t.mode = s.mode
        ∧ (∀ e, s.modeCheck d.param0 = some e →
            t.ended d 1 (s.modeDetail e (d.param0 % 16) (fieldOf d.param0 4 2)) 0)
        ∧ (s.modeCheck d.param0 = none → t.ended d 0 (s.modeOk d.param0) 0))
  ∧ (∀ (r : RingId) (d : Desc) (s : State), s.headDesc r 1 = some d →
      s.mode.mem.find? (fun m => m.tag == fieldOf d.param0 16 16) = none → d.param0.testBit 8 = false →
      s.modeCheck d.param0 = none → s.modeSame s.staged (d.param0 % 16) (fieldOf d.param0 4 2) = false →
      s.modeNow = 0 ∨ d.param0 % 16 = 0 ∨ d.param0 % 16 = 5 ∨ fieldOf d.param0 4 2 ≠ s.role → Ends (.modeSet r) s fun t =>
        t.modeNow = d.param0 % 16 ∧ t.role = fieldOf d.param0 4 2 ∧ t.rd .SYS_MODE_busy = 1
          ∧ t.mode.tr.map (fun x => (x.d, x.left)) = some (some d, []))
  ∧ (∀ (r : RingId) (d : Desc) (s : State), s.headDesc r 1 = some d →
      s.mode.mem.find? (fun m => m.tag == fieldOf d.param0 16 16) = none → d.param0.testBit 8 = false →
      s.modeCheck d.param0 = none → s.modeSame s.staged (d.param0 % 16) (fieldOf d.param0 4 2) = false →
      s.modeNow ≠ 0 → d.param0 % 16 ≠ 0 → d.param0 % 16 ≠ 5 → fieldOf d.param0 4 2 = s.role →
      s.waitEngs (d.param0 % 16) ≠ [] → Ends (.modeSet r) s fun t => t.modeNow = s.modeNow ∧ t.rd .SYS_MODE_busy = 1
        ∧ t.mode.tr.map (fun x => (x.d, x.left)) = some (some d, s.waitEngs (d.param0 % 16)))
  ∧ (∀ (r : RingId) (d : Desc) (s : State), s.headDesc r 1 = some d →
      s.mode.mem.find? (fun m => m.tag == fieldOf d.param0 16 16) = none → d.param0.testBit 8 = false →
      s.modeCheck d.param0 = none → s.modeSame s.staged (d.param0 % 16) (fieldOf d.param0 4 2) = false →
      s.modeNow ≠ 0 → d.param0 % 16 ≠ 0 → d.param0 % 16 ≠ 5 → fieldOf d.param0 4 2 = s.role → s.modeNow ≠ 5 →
      s.waitEngs (d.param0 % 16) = [] → Ends (.modeSet r) s fun t => t.modeNow = d.param0 % 16 ∧ t.role = s.role
        ∧ t.rd .SYS_MODE_busy = 1 ∧ t.mode.tr.map (fun x => (x.d, x.left)) = some (some d, []))
  ∧ (∀ (r : RingId) (d : Desc) (s : State), s.headDesc r 1 = some d →
      s.mode.mem.find? (fun m => m.tag == fieldOf d.param0 16 16) = none → d.param0.testBit 8 = false →
      s.modeCheck d.param0 = none → s.modeSame s.staged (d.param0 % 16) (fieldOf d.param0 4 2) = true →
      Ends (.modeSet r) s fun t => t.ended d 0 (s.modeOk d.param0) 0 ∧ t.modeNow = s.modeNow ∧ t.mode.tr = s.mode.tr
        ∧ t.rd .SYS_MODE_last_tag = fieldOf d.param0 16 16)
  ∧ (∀ (x : Transition) (s : State), s.mode.tr = some x → x.left = [] → s.modeNow ≠ 5 ∨ s.pair.loaded = true →
      Ends .modeSetComplete s fun t => t.mode.tr = none ∧ t.rd .SYS_MODE_busy = 0
        ∧ ∀ d, x.d = some d → t.ended d 0 (s.modeOk x.par) 0 ∧ t.rd .SYS_MODE_last_tag = fieldOf x.par 16 16)
  ∧ (∀ (s : State), s.mode.resume = true → s.awake = true → Ends .heldModeResume s fun t =>
      t.mode.held = false ∧ t.mode.resume = false ∧ t.modeNow = s.modeNow
        ∧ ∀ n : Eng, s.hasEng n = true → s.inService n = true →
            (t.txOf n).map = s.freshMap s.inForce s.modeNow n 0 ∧ (t.rxOf n).map = (t.txOf n).map)

/-- A POWER_SET that is refused completes with its reason and changes no state; RUN and TRIM are taken at once, from NAP
by an exit, and a sleep begins its entry; the end of the entry stands in the state with the pads held, and a latched
wake starts the exit at once; the end of the exit stands in RUN; a required rail out of range for 2 us holds the
pads, drops PWR_MAIN_EN, closes the link and logs, and one within 7 % does nothing; the rails of a power-up follow
each other, and PWR_MAIN_EN falls and rises again on a late one. Steps that are not listed (log entry 122), the
entry record (127) and the link after a rail failure (124) are the model's readings. (14_power_and_cellar.md R464,
R465, R466, R472, R474, R484, R485; 18_pins_and_electrical.md R555, R556) -/
def Obligations.PowerStates : Prop :=
  (∀ (r : RingId) (d : Desc) (s : State), s.headDesc r 3 = some d →
      s.mode.pwrMem.find? (fun m => m.tag == fieldOf d.param0 16 16) = none → Ends (.powerSet r) s fun t =>
        (s.powerErr d.param0 ≠ 0 → t.ended d 1 (s.modeDetail { reason := s.powerErr d.param0, kind := 5 } s.modeNow s.role) 0
          ∧ t.powerNow = s.powerNow ∧ t.cntOf 534 = (s.cntOf 534 + 1) % 2 ^ 48)
        ∧ (s.powerErr d.param0 = 0 → t.ended d 0 0 0
          ∧ (d.param0 % 8 ≤ 1 → s.powerNow ≤ 1 → t.powerNow = d.param0 % 8)
          ∧ (d.param0 % 8 ≤ 1 → s.powerNow = 2 → t.pwr.exitFrom = some 2 ∧ t.rd .PWR_STATUS_busy = 1)
          ∧ (2 ≤ d.param0 % 8 → d.param0 % 8 ≠ s.powerNow → t.pwr.entry = some (d.param0 % 8) ∧ t.rd .PWR_STATUS_busy = 1
              ∧ t.powerNow = s.powerNow)))
  ∧ (∀ (rtc tod st : Nat) (s : State), s.pwr.entry = some st → st = 2 ∨ st = 3 ∨ st = 4 →
      Ends (.powerEntryDone rtc tod) s fun t => t.powerNow = st ∧ t.pwr.entry = none ∧ t.cel.rtc = rtc % 2 ^ 47
        ∧ (if st = 2 then (s.rd .PWR_PAD_held ||| 7) &&& t.rd .PWR_PAD_held = s.rd .PWR_PAD_held ||| 7
            else t.rd .PWR_PAD_held = 63 ∧ t.cel.entryRec = some (rtc % 2 ^ 47, tod % todMod))
        ∧ (s.pwr.wakeLat = false → t.rd .PWR_STATUS_busy = 0 ∧ (st ≠ 2 → t.pin.mainEn = false))
        ∧ (s.pwr.wakeLat = true → st ≠ 4 → t.pwr.exitFrom = some st ∧ t.rd .PWR_STATUS_busy = 1))
  ∧ (∀ (st : Nat) (s : State), s.pwr.exitFrom = some st → (st = 3 → s.pin.mainEn = true) → s.pwr.clockQ = [] →
      Ends .powerExitDone s fun t => t.powerNow = 0 ∧ t.pwr.exitFrom = none ∧ t.rd .PWR_STATUS_busy = 0
        ∧ t.mode.resume = s.mode.held ∧ (st = 3 → t.rd .PWR_RAIL_rail_ok = (63 ||| (s.rd .PWR_RAIL_rail_ok &&& 64)) % 128 ∧ t.pwr.todDue = true))
  ∧ (∀ (seen : List (Nat × Nat)) (rtc : Nat) (s : State),
      (seen.zip [700, 750, 900, 1200, 1800, 3300]).all (fun x => decide (93 * x.2 ≤ 100 * x.1.1 ∧ 100 * x.1.1 ≤ 107 * x.2
        ∧ 93 * x.2 ≤ 100 * x.1.2 ∧ 100 * x.1.2 ≤ 107 * x.2)) = true →
      Ends (.railFail seen rtc) s fun t => t.pwr = s.pwr ∧ t.pin = s.pin ∧ t.regs = s.regs ∧ t.cel.log = s.cel.log)
  ∧ (∀ (seen : List (Nat × Nat)) (rtc : Nat) (s : State), s.railsBad (railsOut seen) rtc ≠ 0 →
      Ends (.railFail seen rtc) s fun t => t.pwr.failed = true ∧ t.pin.mainEn = false ∧ t.pin.pairAct = false
        ∧ t.rd .PWR_PAD_held = 63 ∧ t.rd .HOST_LINK_link_up = 0
        ∧ t.cel.log.getLast?.map (fun e => (e.code, e.arg)) = some (3, s.railsBad (railsOut seen) rtc % 65536))
  ∧ (∀ (seen : List (Nat × Nat)) (rtc : Nat) (s : State), s.pwr.failed = false → s.pwr.up = 0 → s.powerNow ≤ 2 →
      s.railsBad (railsOut seen) rtc = railsOut seen &&& 0x3F)
  ∧ (∀ (s : State), s.powerNow = 4 ∨ s.pwr.failed = true ∨ s.pwr.up ≠ 0 → Ends .vddIoUp s fun t => t.pwr.up = 1 ∧ t.pin.mainEn = false
      ∧ (t.rd .PWR_RAIL_rail_ok).testBit 4 = true)
  ∧ (∀ (s : State), s.pwr.up = 1 → Ends .vddSramUp s fun t => t.pwr.up = 2 ∧ t.pin.mainEn = true
      ∧ (t.rd .PWR_RAIL_rail_ok).testBit 1 = true)
  ∧ (∀ (rails rtc : Nat) (s : State), s.mainRising = true → s.pin.mainEn = true → rails &&& 0x2D ≠ 0 →
      Ends (.railStartTimeout rails rtc) s fun t => t.pin.mainEn = false ∧ t.pwr.tries = s.pwr.tries + 1
        ∧ t.cel.log.getLast?.map (fun e => (e.code, e.arg)) = some (3, (rails &&& 0x2D) % 65536))
  ∧ (∀ (s : State), s.mainRising = true → s.pin.mainEn = false → Ends .railRetry s fun t =>
      t.pin.mainEn = decide (s.pwr.tries < 3))

/-- A source that is armed in the present state sets its bit and starts the exit, or is latched during an entry; a write
of PWR_WAKE_TX has the engines and the port it names send the wake pattern, until its end; activity is 10 ms of
samples and the pattern two of its words one after the other; a held pad stands at its level, and one of an absent
engine drives nothing; pads are released where their domain runs, and rel_early is set for one whose domain does
not. The samples of an activity and of the pattern (log entry 202), a write outside RUN and TRIM (126) and the pads
of group 4 in NAP (123) are the model's readings. (14_power_and_cellar.md R469, R470, R471, R472, R475, R477;
17_register_map.md R542) -/
def Obligations.WakeAndPads : Prop :=
  (∀ (n : Eng) (seen : List Bool) (c : Instr) (f : Fld) (s : State), s.wakeState.isSome = true →
      (c = .wakeLine n seen ∧ f = .PWR_WAKE_SRC_line ∧ s.hasEng n = true ∧ s.inService n = true
          ∧ s.wakeMode (fieldOf (s.rd .PWR_WAKE_CFG_line_mode) (2 * n) 2) seen = true
        ∨ c = .wakePin ∧ f = .PWR_WAKE_SRC_pin ∧ s.on .PWR_WAKE_CFG_pin_en = true
        ∨ c = .wakeRtc (s.rtcAlarm % 2 ^ 47) ∧ f = .PWR_WAKE_SRC_rtc ∧ s.on .PWR_CEL_CTRL_rtc_wake = true
            ∧ s.rtcAlarm < 2 ^ 47) → Ends c s fun t =>
        (if f = .PWR_WAKE_SRC_line then (t.rd f).testBit n = true else t.rd f = 1)
          ∧ (s.pwr.entry.isSome = true → t.pwr.wakeLat = true ∧ t.pwr.exitFrom = s.pwr.exitFrom)
          ∧ (s.pwr.entry = none → s.pwr.exitFrom = none →
              t.pwr.exitFrom = some s.powerNow ∧ t.rd .PWR_STATUS_busy = 1 ∧ t.rd .SYS_MODE_busy = 1))
  ∧ (∀ (p : PortId) (seen : List Bool) (s : State), s.wakeState = some 2 → s.typeOf p ≠ 0 →
      s.wakeMode (s.rd .PWR_WAKE_CFG_client_mode) seen = true → Ends (.wakeClient p seen) s fun t =>
        t.rd .PWR_WAKE_SRC_client = 1 ∧ (s.on .PWR_WAKE_SRC_client = false → t.rd .PWR_WAKE_SRC_port = p)
          ∧ (s.pwr.entry = none → s.pwr.exitFrom = none → t.pwr.exitFrom = some s.powerNow))
  ∧ (∀ (s : State), s.wakeMode 1 (List.replicate 40 true) = true ∧ s.wakeMode 1 (List.replicate 39 true ++ [false]) = false
      ∧ s.wakeMode 2 ((wakeWord ++ wakeWord).flatMap (fun b => List.replicate 4 b)) = true
      ∧ s.wakeMode 2 ((true :: wakeWord.drop 1 ++ false :: wakeWord.drop 1).flatMap (fun b => List.replicate 4 b)) = false)
  ∧ (∀ (val : Nat) (n : Eng) (s : State), s.fate .host .PWR_WAKE_TX 0 = .takes → Ends (.wakeTxSend val) s fun t =>
      t.rd .PWR_WAKE_TX_wake_eng = fieldOf val 0 4 ∧ t.rd .PWR_WAKE_TX_wake_port = fieldOf val 4 6
        ∧ t.rd .PWR_WAKE_TX_wake_port_en = fieldOf val 10 1
        ∧ (s.awake = true → s.hasEng n = true → (val % 2 ^ 32).testBit n = true → (t.txOf n).wakePat = true)
        ∧ (s.awake = true → (val % 2 ^ 32).testBit 10 = true → s.hasPort (fieldOf val 4 6) = true → s.padHeld 1 = false →
            .wakeClient (fieldOf val 4 6) wakeSent ∈ t.out)
        ∧ (s.awake = true → s.hasEng n = true → (val % 2 ^ 32).testBit n = true → s.padHeld 0 = false →
            .wakeLine n (wakeSent.map fun b => if b then 0xFF else 0x80) ∈ t.out))
  ∧ (∀ (n : Eng) (s : State), s.hasEng n = true → Ends .wakeTxEnd s fun t => (t.txOf n).wakePat = false
      ∧ t.rd .PWR_WAKE_TX_wake_eng = 0 ∧ t.rd .PWR_WAKE_TX_wake_port_en = 0)
  ∧ (∀ (grps : Nat) (s : State), s.fate .host .PWR_PAD 0 = .takes → s.rd .PWR_PAD_held < 64 →
      Ends (.padRelease grps) s fun t =>
        t.rd .PWR_PAD_held = s.rd .PWR_PAD_held - (s.rd .PWR_PAD_held &&& (grps % 64) &&& s.padsRun)
        ∧ (s.rd .PWR_PAD_held &&& (grps % 64) &&& s.padsRun ≠ s.rd .PWR_PAD_held &&& (grps % 64) →
            t.rd .PWR_PAD_rel_early = 1))
  ∧ (∀ (n : Eng) (s : State), (s.rd .PWR_RAIL_rail_ok).testBit 4 = true →
      (s.padHeld 0 = true → s.hasEng n = true → s.padLevel (.dac n) = .midScale)
        ∧ (s.hasEng n = false → s.padLevel (.dac n) = .highZ)
        ∧ (s.padHeld 1 = true → s.hasPort n = true → s.padLevel (.client n) = .electricalIdle)
        ∧ (s.on .SYS_RST_STATUS_boot_ready = false → s.padHeld 2 = false →
            s.padLevel .pairAct = .low ∧ s.padLevel .aliveOut = .low))
  ∧ (∀ (s : State), s.padsRun = (if s.powerNow ≤ 1 ∧ s.awake = true ∧ s.pwr.exitFrom = none then 63
      else if s.powerNow = 2 then 56 else 0))

/-- A write to the cellar crosses and takes effect later, a second one to the same register before the busy flag clears
is discarded and counted; the RTC's wrap, a low battery and a tamper input low for 32 ticks are logged, and
tampering purges every locker, where a shorter low does nothing; the log is reported once in RUN; losing both
supplies loses the cellar's contents; ToD is loaded from the entry record; the changeover of the supply shows in
on_bat; cel_ack makes the cellar valid. How vbat rounds and that every low sample is logged (log entry 120), and how
often the entry record is used (127), are the model's readings. (14_power_and_cellar.md R476, R477, R478, R479,
R480, R481, R483, R488; 01_architecture.md R21; 15_security_and_config.md R502) -/
def Obligations.CellarAndLog : Prop :=
  (∀ (rq : Requester) (val : Nat) (r : Rg) (i : Nat) (s : State), regAt (r.addr i) = some (r, i) →
      r.cellarRw = true → s.fate rq r i = .crosses → Ends (.cellarRegWrite rq (r.addr i) val) s fun t =>
        (s.cel.busyAt.contains (r.addr i) = false → t.cel.pend = s.cel.pend ++ [(r.addr i, val % 2 ^ 32)]
          ∧ t.cel.busyAt = s.cel.busyAt ++ [r.addr i]
          ∧ t.rd .PWR_CEL_STATUS_cel_busy = 1)
        ∧ (s.cel.busyAt.contains (r.addr i) = true → t.cel.pend = s.cel.pend
          ∧ t.cntOf 531 = (s.cntOf 531 + 1) % 2 ^ 48))
  ∧ (∀ (f : Fld) (i v : Nat) (rest : List (Nat × Nat)) (s : State), s.cel.pend = (f.info.rg.addr i, v) :: rest →
      regAt (f.info.rg.addr i) = some (f.info.rg, i) → f.info.acc = .rw → Ends .cellarWriteDone s fun t =>
        t.rd f i = f.part v ∧ t.cel.pend = rest ∧ (rest = [] → t.cel.busyAt = []) ∧ t.rd .PWR_CEL_STATUS_cel_busy = b2n !rest.isEmpty)
  ∧ (∀ (s : State), Ends .celAck s fun t => t.rd .PWR_CEL_STATUS_cel_valid = 1)
  ∧ (∀ (s : State), Ends .rtcWrap s fun t => t.cel.rtc = 0 ∧ t.rd .PWR_CEL_STATUS_rtc_wrap = 1
      ∧ t.cel.log.getLast?.map (·.code) = some 7)
  ∧ (∀ (mv rtc : Nat) (s : State), s.on .PWR_CEL_STATUS_on_bat = true → Ends (.vbatSample mv rtc) s fun t =>
      t.rd .PWR_CEL_STATUS_vbat = min 255 (mv / 20) ∧ t.cel.rtc = rtc % 2 ^ 47
        ∧ (mv < 1800 → t.cel.log.getLast?.map (fun e => (e.code, e.arg)) = some (2, mv / 10 % 65536)))
  ∧ (∀ (inputs ticks rtc : Nat) (s : State), ticks < 32 → Ends (.tamperAssert { inputs := inputs, ticks := ticks } rtc) s fun t =>
      t.lock = s.lock ∧ t.regs = s.regs ∧ t.cel.log = s.cel.log)
  ∧ (∀ (inputs ticks rtc : Nat) (l : LockId) (s : State), s.on .PWR_CEL_CTRL_tamper_en = true → inputs % 4 ≠ 0 → 32 ≤ ticks →
      Ends (.tamperAssert { inputs := inputs, ticks := ticks } rtc) s fun t => t.lockOf l = {} ∧ t.rd .CIPH_LOCK_STATUS_cur_valid l = 0
        ∧ t.dbgLevel = 0 ∧ t.pin.tamper = inputs % 4 ∧ (s.awake = true → t.rd .SEC_EV_tamper_purge = 1)
        ∧ (t.cel.log.any fun e => e.code == 1 && e.arg == inputs % 4 && e.rtc == rtc % 2 ^ 47) = true)
  ∧ (∀ (s : State), s.awake = true → s.on .HOST_LINK_link_up = true → Ends .cellAlarmReport s fun t =>
      (t.cel.log.all fun e => e.reported) = true ∧ t.cel.log.length = s.cel.log.length
        ∧ t.rd .PWR_CEL_STATUS_log_count = 0
        ∧ ((s.cel.log.any fun e => !e.reported) = true → (t.rd .PERF_EV_ev).testBit 9 = true))
  ∧ (∀ (f : Fld) (i : Nat) (s : State), f.info.rg.info.dom = .cellar → Ends .cellarPowerLoss s fun t =>
      t.rd f i = f.info.rst ∧ t.cel = {})
  ∧ (∀ (rtc ce te : Nat) (s : State), s.cel.entryRec = some (ce, te) → s.awake = true → s.pwr.todDue = true →
      Ends (.mothballTodLoad rtc) s fun t => t.tim.tod = mothTod ce te rtc ∧ t.pwr.todDue = false
        ∧ t.rd .TIM_DPLL0_STATUS_tod_trace = 0)
  ∧ (∀ (mv : Nat) (s : State), Ends (.cellarSupplyChangeover mv) s fun t =>
      t.rd .PWR_CEL_STATUS_on_bat = b2n (decide (mv < 1620)))

/-- The end of a power-up and RESET_N reset everything but fuses, flash and the cellar, and RESET_N with the switched
rails off raises PWR_MAIN_EN; a pulse below 1 us is rejected, and one from 1 us to 10 us leaves fuses, flash and the
cellar whatever it does, unless a burn was under way; a WARM reset keeps ToD, the cellar and the link besides and
returns to SETUP; an ENGINE reset restarts its engine and clears its counters, and is refused while a transition
runs; another than the privileged requester is reported; the boot ends ready, or failed where no bank qualifies,
with the host privileged as the lifecycle and the shelf say, and its log goes out. The lines of the UART (log entry
178), RESET_N with the switched rails off (119) and what a WARM reset keeps (53) are the model's readings.
(17_register_map.md R543, R544; 18_pins_and_electrical.md R555, R557; 15_security_and_config.md R504, R505;
16_counters_and_events.md R518) -/
def Obligations.ResetsAndBoot : Prop :=
  (∀ (s : State), s.pwr.up = 2 → s.pin.mainEn = true → Ends .coldResetRelease s fun t => t.modeNow = 0 ∧ t.role = 0
      ∧ t.powerNow = 0 ∧ t.eng = [] ∧ t.lock = [] ∧ t.cnt = [] ∧ t.tim.tod = 0 ∧ t.cel = s.cel ∧ (s.sec.lcPend = none → t.fuse = s.fuse)
      ∧ t.rd .SYS_RST_STATUS_boot_ready = 0 ∧ t.rd .SYS_RST_STATUS_pin = b2n s.pwr.upPin
      ∧ t.rd .SYS_RST_STATUS_por = b2n !s.pwr.upPin)
  ∧ (∀ (ns : Nat) (s : State), 10000 ≤ ns → s.powerNow ≤ 2 → s.pwr.failed = false → s.pwr.up = 0 →
      Ends (.resetPin ns) s fun t => t.modeNow = 0 ∧ t.role = 0 ∧ t.powerNow = 0 ∧ t.eng = [] ∧ t.lock = []
        ∧ t.cnt = [] ∧ t.tim.tod = 0 ∧ t.rd .SYS_RST_STATUS_boot_ready = 0 ∧ t.cel = s.cel ∧ (s.sec.lcPend = none → t.fuse = s.fuse)
        ∧ t.rd .SYS_RST_STATUS_pin = 1)
  ∧ (∀ (ns : Nat) (s : State), 10000 ≤ ns → 3 ≤ s.powerNow → s.mainRising = false → (s.rd .PWR_RAIL_rail_ok).testBit 1 = true →
      (s.rd .PWR_RAIL_rail_ok).testBit 4 = true → Ends (.resetPin ns) s fun t =>
        t.pin.mainEn = true ∧ t.pwr.up = 2 ∧ t.pwr.upPin = true)
  ∧ (∀ (ns : Nat) (s : State), 1000 ≤ ns → ns < 10000 → s.sec.lcPend = none → Ends (.resetPin ns) s fun t =>
      t.fuse = s.fuse ∧ t.cel = s.cel)
  ∧ (∀ (ns : Nat) (s : State), ns < 1000 → Ends (.resetPin ns) s fun t => t = s)
  ∧ (∀ (rq : Requester) (s : State), s.fate rq .SYS_RESET 0 = .takes → Ends (.warmReset rq) s fun t =>
      (s.privileged rq = true → t.modeNow = 0 ∧ t.role = 0 ∧ t.eng = [] ∧ t.lock = [] ∧ t.tim.tod = s.tim.tod
        ∧ t.cel = s.cel ∧ (s.sec.lcPend = none → t.fuse = s.fuse) ∧ t.rd .SYS_RST_STATUS_sw_warm = 1 ∧ t.rd .SYS_RST_STATUS_boot_ready = 0
        ∧ t.rd .HOST_LINK_link_up = s.rd .HOST_LINK_link_up ∧ t.pending = s.pending)
      ∧ (s.privileged rq = false → t.rd .SYS_EV_priv_drop = 1 ∧ t.modeNow = s.modeNow ∧ t.eng = s.eng))
  ∧ (∀ (rq : Requester) (mask : Nat) (n : Eng) (s : State), s.fate rq .SYS_RESET 0 = .takes → s.privileged rq = true →
      (mask % 16).testBit n = true → s.hasEng n = true → Ends (.engineReset rq mask) s fun t =>
        (s.rd .SYS_MODE_busy = 0 → t.rd .LE_STATUS_dsp_lock n = 0 ∧ (t.rxOf n).st = .oof
          ∧ t.cntOf (cEng n 0) = 0 ∧ t.cntOf (cEng n 12) = 0 ∧ t.prof n = s.prof n)
        ∧ (s.on .SYS_MODE_busy = true → t.rd .SYS_EV_rst_refused = 1 ∧ t.eng = s.eng))
  ∧ (∀ (rq : Requester) (mask : Nat) (s : State), s.fate rq .SYS_RESET 0 = .takes → s.privileged rq = false →
      mask % 16 ≠ 0 → Ends (.engineReset rq mask) s fun t => t.rd .SYS_EV_priv_drop = 1 ∧ t.eng = s.eng)
  ∧ (∀ (obs : BootObs) (s : State), s.on .SYS_RST_STATUS_boot_ready = false → s.hostUnreachable = false →
      s.pwr.up = 0 → Ends (.bootComplete obs) s fun t => t.rd .SYS_RST_STATUS_boot_ready = 1
        ∧ (s.bankRun obs = none → t.rd .SEC_STATE_boot_fail = 1
            ∧ t.rd .SEC_STATE_host_priv = (if s.lcState = 2 then b2n ((s.curHdr).any hdrPriv) else 1) ∧ t.rd .SEC_EV_boot_fail = 1 ∧ t.modeNow = s.modeNow)
        ∧ (s.padHeld 4 = false → t.out.head? = some (.uart true (((s.bankRun obs).map (·.1)).getD 2))))
  ∧ (∀ (obs : BootObs) (k : Nat) (b : BankObs) (s : State), s.on .SYS_RST_STATUS_boot_ready = false →
      s.hostUnreachable = false → s.pwr.up = 0 → s.bankRun obs = some (k, b) → s.lcState = 3 →
      Ends (.bootComplete obs) s fun t => t.rd .SYS_RST_STATUS_boot_ready = 1 ∧ t.rd .SYS_FW_fw_bank = k
        ∧ t.rd .SYS_FW_fw_version = b.version % 2 ^ Fld.SYS_FW_fw_version.info.w
        ∧ t.rd .PAIR_LEVEL_fl_run = b.flRun % 256 ∧ t.rd .PAIR_LEVEL_fl_floor = b.flFloor % 256)

/-- A request that the privileged requester may make in SETUP is accepted and completes with the new code in its three
copies, the owner's anchor and KEK fused or the KEK and the keys destroyed, and the trapdoor closed; another request
of its sets lc_err and raises the event, and one of another requester is ignored; a write of host_priv clears it;
rb_raise sets the floor to the running image's index and never lowers it. That the copies change together where
nothing cuts the burn is the model's choice (log entry 117). (15_security_and_config.md R490, R491, R492, R493,
R499, R506) -/
def Obligations.Lifecycle : Prop :=
  (∀ (rq : Requester) (c : Instr) (req : Nat) (s : State), s.fate rq .SEC_LC_CTRL 0 = .takes → s.privileged rq = true →
      (c = .lcReqProvision rq ∧ req = 1 ∨ c = .lcReqSeal rq ∧ req = 2 ∨ c = .lcReqReturn rq ∧ req = 3) → Ends c s fun t =>
        t.fuse = s.fuse
        ∧ (s.lcAllowed req (s.mailbox (rq != .test)) = true → t.sec.lcPend.map (fun x => x.1) = some req ∧ t.regs = s.regs)
        ∧ (s.lcAllowed req (s.mailbox (rq != .test)) = false →
            t.sec.lcPend = s.sec.lcPend ∧ t.rd .SEC_LC_CTRL_lc_err = 1 ∧ t.rd .SEC_EV_lc_change = 1))
  ∧ (∀ (rq : Requester) (c : Instr) (s : State), s.privileged rq = false →
      (c = .lcReqProvision rq ∨ c = .lcReqSeal rq ∨ c = .lcReqReturn rq ∨ c = .rbRaise rq) → Ends c s fun t => t = s)
  ∧ (∀ (c : Nat) (b : List Byte) (s : State), s.sec.lcPend = some (c, b) → Ends .lcTransitionDone s fun t =>
        t.fuse.lc0 = c ∧ t.fuse.lc1 = c ∧ t.fuse.lc2 = c ∧ t.sec.lcPend = none ∧ t.dbgLevel = 0 ∧ t.sec.trap.ret = false
        ∧ t.rd .SEC_EV_lc_change = 1
        ∧ (c = 1 → t.fuse.owner = some (slice b 0 96) ∧ t.fuse.kek.isSome = true)
        ∧ (c = 2 → t.fuse.owner = s.fuse.owner ∧ t.fuse.kek = s.fuse.kek)
        ∧ (c = 3 → t.fuse.kek = none ∧ ∀ l : LockId, t.lockOf l = {}))
  ∧ (∀ (s : State), s.fate .host .SEC_STATE 0 = .takes → Ends .hostPrivDrop s fun t =>
        t.rd .SEC_STATE_host_priv = 0 ∧ t.dbgLevel = s.dbgLevel)
  ∧ (∀ (rq : Requester) (s : State), s.fate rq .SEC_LC_CTRL 0 = .takes → s.privileged rq = true → s.sec.runRb < 256 →
      Ends (.rbRaise rq) s fun t => t.fuse.rbFloor = max s.fuse.rbFloor s.sec.runRb ∧ t.fuse.lc0 = s.fuse.lc0
        ∧ t.fuse.owner = s.fuse.owner ∧ t.fuse.kek = s.fuse.kek)

/-- A nonce is fresh, one per port, and gone after its lifetime or one submission; a credential is taken on a free
trapdoor and refused on PCIe while the test port holds it or a session, and the test port's wins over a PCIe one;
verification ends with the first failing check as its result, or opens the level for its lifetime, or permits the
return; a second one of a port waits for none of its own; the holding port closes the level and the lifetime's end
does. That a second submission of a port during the verification of its first changes nothing is the model's choice
(log entry 235). (15_security_and_config.md R493, R494, R496, R497, R500) -/
def Obligations.TrapdoorCommands : Prop :=
  (∀ (pcie : Bool) (s : State), s.fate (portRq pcie) .SEC_TRAP_CTRL 0 = .takes → Ends (.nonceReq pcie) s fun t =>
      (if pcie then t.sec.trap.nonceP else t.sec.trap.nonceT) = some (beBytes 32 (Config.freeRandom s.free).toNat)
        ∧ (if pcie then t.sec.trap.nonceT = s.sec.trap.nonceT else t.sec.trap.nonceP = s.sec.trap.nonceP)
        ∧ t.dbgLevel = s.dbgLevel)
  ∧ (∀ (pcie : Bool) (s : State), Ends (.nonceExpire pcie) s fun t =>
      (if pcie then t.sec.trap.nonceP = none ∧ t.sec.trap.nonceT = s.sec.trap.nonceT
        else t.sec.trap.nonceT = none ∧ t.sec.trap.nonceP = s.sec.trap.nonceP) ∧ t.regs = s.regs)
  ∧ (∀ (pcie : Bool) (s : State), s.fate (portRq pcie) .SEC_TRAP_CTRL 0 = .takes → s.sec.trap.pend = none →
      (pcie = true → s.sec.trap.session ≠ some false) → Ends (.credentialSubmit pcie false) s fun t =>
        t.sec.trap.pend.map (fun x => (x.1, x.2.1)) = some (pcie, s.mailbox pcie) ∧ t.rd .SEC_TRAP_CTRL_busy = 1
          ∧ (if pcie then t.sec.trap.nonceP else t.sec.trap.nonceT) = none ∧ t.dbgLevel = s.dbgLevel)
  ∧ (∀ (s : State), s.fate .host .SEC_TRAP_CTRL 0 = .takes →
      (s.sec.trap.pend.any (fun x => !x.1) || s.sec.trap.pend.isNone && s.sec.trap.session == some false) = true →
      Ends (.credentialSubmit true false) s fun t => t.sec.trap.pend = s.sec.trap.pend ∧ t.rd .SEC_TRAP_CTRL_result = 7
        ∧ t.rd .SEC_EV_trap_refused = 1 ∧ t.cntOf 532 = (s.cntOf 532 + 1) % 2 ^ 48 ∧ t.dbgLevel = s.dbgLevel)
  ∧ (∀ (s : State), s.fate .test .SEC_TRAP_CTRL 0 = .takes → s.sec.trap.pend.any (fun x => x.1) = true →
      Ends (.credentialSubmit false false) s fun t => t.sec.trap.pend.map (fun x => (x.1, x.2.1)) = some (false, s.mailbox false)
        ∧ t.rd .SEC_TRAP_CTRL_result = 7 ∧ t.rd .SEC_EV_trap_refused = 1 ∧ t.rd .SEC_TRAP_CTRL_busy = 1)
  ∧ (∀ (s : State), s.fate .test .SEC_TRAP_CTRL 0 = .takes → s.fate .host .SEC_TRAP_CTRL 0 = .takes →
      s.sec.trap.pend = none → Ends (.credentialSubmit false true) s fun t =>
        t.sec.trap.pend.map (fun x => (x.1, x.2.1)) = some (false, s.mailbox false) ∧ t.rd .SEC_TRAP_CTRL_result = 7)
  ∧ (∀ (pcie : Bool) (s : State), s.fate (portRq pcie) .SEC_TRAP_CTRL 0 = .takes →
      s.sec.trap.pend.any (fun x => x.1 == pcie) = true → Ends (.credentialSubmit pcie false) s fun t => t = s)
  ∧ (∀ (pcie : Bool) (b : List Byte) (good : Bool) (s : State), s.sec.trap.pend = some (pcie, b, good) →
      Ends .credentialVerified s fun t => t.sec.trap.pend = none ∧ t.rd .SEC_TRAP_CTRL_busy = 0
        ∧ t.rd .SEC_TRAP_CTRL_result = s.credErr pcie good b
        ∧ (s.credErr pcie good b ≠ 0 → t.dbgLevel = s.dbgLevel ∧ t.rd .SEC_EV_trap_refused = 1
            ∧ t.cntOf 532 = (s.cntOf 532 + 1) % 2 ^ 48)
        ∧ (s.credErr pcie good b = 0 → byteAt b 1 ≠ 3 → t.dbgLevel = byteAt b 1 ∧ t.sec.trap.session = some pcie
            ∧ t.rd .SEC_STATE_session_s = fromLE (slice b 44 2) ∧ t.rd .SEC_EV_trap_open = 1
            ∧ (byteAt b 1 = 2 → ∀ l : LockId, t.lockOf l = {}))
        ∧ (s.credErr pcie good b = 0 → byteAt b 1 = 3 → t.sec.trap.ret = true ∧ t.dbgLevel = s.dbgLevel))
  ∧ (∀ (pcie : Bool) (s : State), s.fate (portRq pcie) .SEC_TRAP_CTRL 0 = .takes →
      Ends (.trapClose pcie) s fun t =>
        (s.sec.trap.session = some pcie → s.dbgLevel ≠ 0 → t.dbgLevel = 0 ∧ t.sec.trap.session = none ∧ t.rd .SEC_EV_trap_close = 1)
        ∧ (s.sec.trap.session ≠ some pcie ∨ s.dbgLevel = 0 → t = s))
  ∧ (∀ (s : State), s.dbgLevel ≠ 0 → Ends .sessionExpire s fun t =>
      t.dbgLevel = 0 ∧ t.sec.trap.session = none ∧ t.rd .SEC_STATE_session_s = 0 ∧ t.rd .SEC_EV_trap_close = 1)

/-- A SHELF_WRITE in range and in order stages its header bytes, programs the others and completes OK; out of range, out
of order, or with a read error it writes nothing; a commit that repeats the current number is a duplicate, one that
fails a check is refused with that check's code and changes no shelf, and one that passes makes the target current;
a read-back that fails after two attempts at writing again ends DEV_ERR. The order of the checks (log entry 115),
what flash holds after read-backs that fail (116), and that the staged header is dropped then (236), are the
model's. (15_security_and_config.md R512, R513, R514; 11_host_rings.md R395) -/
def Obligations.ShelfCommands : Prop :=
  (∀ (r : RingId) (d : Desc) (data : BufRead) (a fails : Nat) (s : State), s.headDesc r 4 = some d → fails < 3 →
      d.param1 + d.len ≤ 1048576 → s.stageOrder d.param1 = true → data.err = false → data.bytes.length = d.len → Ends (.shelfWrite r data fails) s fun t =>
        t.ended d 0 0 d.len ∧ t.sec.stageEnd = d.param1 + d.len
        ∧ t.sec.stage = some ((if d.param1 = 0 then [] else s.sec.stage.getD []) ++ data.bytes.take (128 - d.param1))
        ∧ (a < shelfBase s.shelfTarget ∨ shelfBase s.shelfTarget + 0x100000 ≤ a →
            SMap.get 0xFF t.fuse.flash a = SMap.get 0xFF s.fuse.flash a)
        ∧ (d.param1 = 0 → t.shelfBytes s.shelfTarget 128 (d.len - 128) = data.bytes.drop 128
            ∧ t.rd (shelfFld s.shelfTarget) = 0))
  ∧ (∀ (r : RingId) (d : Desc) (data : BufRead) (fails : Nat) (s : State), s.headDesc r 4 = some d →
      1048576 < d.param1 + d.len ∨ s.stageOrder d.param1 = false ∨ data.err = true →
      Ends (.shelfWrite r data fails) s fun t => t.fuse = s.fuse ∧ t.sec = s.sec
        ∧ (1048576 < d.param1 + d.len → t.ended d 1 1 0)
        ∧ (d.param1 + d.len ≤ 1048576 → s.stageOrder d.param1 = false → t.ended d 1 2 0)
        ∧ (d.param1 + d.len ≤ 1048576 → s.stageOrder d.param1 = true → t.ended d 6 0 data.bytes.length))
  ∧ (∀ (r : RingId) (d : Desc) (data : BufRead) (fails : Nat) (s : State), s.headDesc r 4 = some d → 3 ≤ fails → d.param1 + d.len ≤ 1048576 →
      s.stageOrder d.param1 = true → data.err = false → Ends (.shelfWrite r data fails) s fun t =>
        t.ended d 8 2 0 ∧ t.sec.stage = none)
  ∧ (∀ (r : RingId) (d : Desc) (fails : Nat) (s : State), s.headDesc r 5 = some d → Ends (.shelfCommit r fails) s fun t =>
        ((s.curHdr.any fun c => hdrSeq c == d.param0) = true → t.ended d 0 1 0 ∧ t.fuse = s.fuse ∧ t.regs = s.regs)
        ∧ ((s.curHdr.any fun c => hdrSeq c == d.param0) = false →
            s.commitErr d.param0 s.shelfTarget s.sec.stage ≠ 0 →
            t.ended d 1 (s.commitErr d.param0 s.shelfTarget s.sec.stage) 0 ∧ t.fuse = s.fuse ∧ t.sec = s.sec
              ∧ t.regs = s.regs)
        ∧ ((s.curHdr.any fun c => hdrSeq c == d.param0) = false →
            s.commitErr d.param0 s.shelfTarget s.sec.stage = 0 → fails < 3 →
            t.ended d 0 0 0 ∧ t.rd .SEC_SHELF_STATUS_cur = s.shelfTarget ∧ t.rd (shelfFld s.shelfTarget) = 1
              ∧ t.rd .SEC_SHELF_STATUS_none = 0 ∧ t.rd .SEC_EV_shelf_commit = 1 ∧ t.sec.stage = none)
        ∧ ((s.curHdr.any fun c => hdrSeq c == d.param0) = false →
            s.commitErr d.param0 s.shelfTarget s.sec.stage = 0 → 3 ≤ fails → t.ended d 8 2 0 ∧ t.sec.stage = none
              ∧ s.rd .SEC_SHELF_STATUS_cur = t.rd .SEC_SHELF_STATUS_cur))

/-- A 32-bit write that reaches a register whose write does no more than its access types gives each RW field its part
of the word, clears the W1C bits written 1, leaves RO fields and every other register; one that names a resource the
part lacks changes nothing; in NAP a write to a block without a clock waits; one that SHADOW drops is counted; one
that does not reach a register changes nothing; a misaligned access is a bad access; a write into the context of a
QUIESCING ring sets ctx_bad; BAR4 words go to the MSI-X table; the debug window takes words at FULL. BAR4 as
addresses from 0x0100_0000 (log entry 8), which registers are mirrored (130), the debug window of the test port
(136), the queue of NAP (137) and the control cores before boot_ready (138) are the model's readings. (00_scope.md
R3; 17_register_map.md R537, R542, R545; 08_pair_protection.md R285; 11_host_rings.md R376, R377, R381;
15_security_and_config.md R498) -/
def Obligations.RegisterWrites : Prop :=
  (∀ (rq : Requester) (r : Rg) (i : Nat) (f : Fld) (addr val : Nat) (s : State), addr < 0x1000000 → addr % 4 = 0 →
      inDebug addr = false → s.ctxBusy addr = false → regAt addr = some (r, i) → s.fate rq r i = .takes →
      r.plain = true → s.namesAbsent r i (val % 2 ^ 32) = false → f.info.rg = r → Ends (.regWrite rq addr val) s fun t =>
        t.rd f i = (if f.info.acc = .rw then f.part (val % 2 ^ 32)
          else if f.info.acc = .w1c then (s.rd f i - (s.rd f i &&& f.part (val % 2 ^ 32))) % 2 ^ f.info.w else s.rd f i))
  ∧ (∀ (rq : Requester) (r : Rg) (i addr val : Nat) (s : State), addr < 0x1000000 → addr % 4 = 0 →
      inDebug addr = false → s.ctxBusy addr = false → regAt addr = some (r, i) → s.fate rq r i = .takes →
      s.namesAbsent r i (val % 2 ^ 32) = true → Ends (.regWrite rq addr val) s fun t => t = s)
  ∧ (∀ (rq : Requester) (r : Rg) (i : Nat) (f : Fld) (j addr val : Nat) (s : State), addr < 0x1000000 → addr % 4 = 0 →
      inDebug addr = false → s.ctxBusy addr = false → regAt addr = some (r, i) → s.fate rq r i = .takes →
      r.plain = true → f.info.rg ≠ r ∨ j ≠ i → Ends (.regWrite rq addr val) s fun t => t.rd f j = s.rd f j)
  ∧ (∀ (rq : Requester) (r : Rg) (i addr val : Nat) (s : State), addr < 0x1000000 → addr % 4 = 0 →
      inDebug addr = false → s.ctxBusy addr = false → regAt addr = some (r, i) → Ends (.regWrite rq addr val) s fun t =>
        (s.fate rq r i = .ignored → t = s)
        ∧ (s.fate rq r i = .dropped → (s.cntOf 517 + 1 < 2 ^ 48 → t.regs = s.regs) ∧ t.cntOf 517 = (s.cntOf 517 + 1) % 2 ^ 48)
        ∧ (s.fate rq r i = .waits → t.regs = s.regs ∧ t.pwr.clockQ = s.pwr.clockQ ++ [(rq, r.addr i, val % 2 ^ 32)]))
  ∧ (∀ (rq : Requester) (addr val : Nat) (s : State), addr < 0x1000000 → addr % 4 ≠ 0 → s.hostUnreachable = false →
      Ends (.regWrite rq addr val) s fun t =>
        (addr < 0x10000 ∨ s.on .SYS_RST_STATUS_boot_ready = true →
          t.rd .HOST_EV_acc_bad = 1 ∧ t.cntOf 520 = (s.cntOf 520 + 1) % 2 ^ 48)
        ∧ (0x10000 ≤ addr → s.on .SYS_RST_STATUS_boot_ready = false → t = s))
  ∧ (∀ (rq : Requester) (ring k val : Nat) (f : Fld) (s : State), ring < 0x10000 → k < 8 → s.rd .HOST_RCTX_STATE_state ring = 2 →
      s.reaches rq .HOST_RCTX_CFG = true → Ends (.regWrite rq (0x800000 + 32 * ring + 4 * k) val) s fun t =>
        t.rd .HOST_EV_ctx_bad = 1 ∧ (f.info.rg ∉ recordRegs → t.rd f ring = s.rd f ring)
          ∧ (t.ringOf ring).fetched = (s.ringOf ring).fetched ∧ (t.ringOf ring).rxq = (s.ringOf ring).rxq)
  ∧ (∀ (rq : Requester) (k val : Nat) (s : State), k < 1024 → k % 4 ≠ 3 → s.hostUnreachable = false →
      s.on .SYS_RST_STATUS_boot_ready = true →
      Ends (.regWrite rq (0x1000000 + 4 * k) val) s fun t =>
        SMap.get 0 t.host.msixTab k = val % 2 ^ 32 ∧ t.regs = s.regs)
  ∧ (∀ (rq : Requester) (v val : Nat) (s : State), v < 256 → s.hostUnreachable = false → s.on .SYS_RST_STATUS_boot_ready = true →
      Ends (.regWrite rq (0x100000C + 16 * v) val) s fun t =>
        SMap.get false t.host.unmasked v = decide (val % 2 = 0) ∧ t.regs = s.regs)
  ∧ (∀ (rq : Requester) (addr val : Nat) (s : State), addr % 4 = 0 → inDebug addr = true → Ends (.regWrite rq addr val) s fun t =>
        t.regs = s.regs ∧ (rq = .ctl → SMap.get 0 t.sec.dbgMem addr = val % 2 ^ 32)
          ∧ (s.fullAccess rq = false → t = s))

/-- A read of test_err answers the count, then clears it, but not for the test port; one of TIM_TOD_NS answers the
nanoseconds and latches the seconds; one of RTC_LO answers the low half and latches the high one; a register that
the requester cannot read answers 0 and nothing changes. (04_nurnauri_fec.md R149; 09_timing.md R346;
14_power_and_cellar.md R487; 17_register_map.md R537, R545; 15_security_and_config.md R498) -/
def Obligations.ReadsThatAct : Prop :=
  (∀ (rq : Requester) (n : Eng) (s : State), s.hostUnreachable = false → s.readable rq .LE_FEC_TEST n = true →
      s.padHeld 6 = false → Ends (.testErrRead rq n) s fun t => t.out = .rdData (s.regRead .LE_FEC_TEST n) :: s.out
        ∧ t.rd .LE_FEC_TEST_test_err n = (if rq = .test then s.rd .LE_FEC_TEST_test_err n else 0))
  ∧ (∀ (tod : Nat) (s : State), s.hostUnreachable = false → s.readable .host .TIM_TOD_NS 0 = true → s.padHeld 6 = false →
      Ends (.todNsRead tod) s fun t =>
        t.rd .TIM_TOD_NS_ns = tod / 65536 % 1000000000 ∧ t.out = .rdData (tod / 65536 % 1000000000) :: s.out
          ∧ t.tim.latched = t.tim.tod / todSec ∧ t.tim.hasLatch = true)
  ∧ (∀ (rtc : Nat) (s : State), s.hostUnreachable = false → s.readable .host .PWR_CEL_RTC_LO 0 = true → rtc < 2 ^ 47 →
      s.padHeld 6 = false → Ends (.rtcLoRead rtc) s fun t => t.out = .rdData (rtc % 2 ^ 32) :: s.out
        ∧ t.rd .PWR_CEL_RTC_HI_rtc_hi = rtc / 2 ^ 32)
  ∧ (∀ (rq : Requester) (n : Eng) (x : Nat) (c : Instr) (s : State), s.hostUnreachable = false →
      (c = .testErrRead rq n ∧ s.readable rq .LE_FEC_TEST n = false
        ∨ c = .todNsRead x ∧ s.readable .host .TIM_TOD_NS 0 = false
        ∨ c = .rtcLoRead x ∧ s.readable .host .PWR_CEL_RTC_LO 0 = false) → Ends c s fun t =>
        t = s.emit (.rdData 0))

/-- A trigger starts a walk that latches the counters together, or merges into the walk that is held; the end of a walk
numbers its record, writes it to the buffer posted, or loses it, and starts the held one; without a ring nothing is
written; a housekeeping record that is flushed is written likewise and its words are counted lost where no buffer is
posted, and with no ring named it is dropped with no number; an event sets its bit, takes the next ev_seq and is
written to the ring that its severity's route names, or suppressed from the limit on, which a CRITICAL one never is,
and without a route its bit and vector 0 report it; a write of the mask, or one that clears events, sends vector 0
where an unmasked status bit reads 1; COUNTER_LATCH shows the counter, its wraps and whether it is valid. What a
walk shows of a counter (log entry 11) and the time that a trigger brings (144) are the model's.
(16_counters_and_events.md R519, R520, R522, R523, R524, R526, R527, R528, R529, R535; 17_register_map.md R549,
R550) -/
def Obligations.SnapshotsAndRecords : Prop :=
  (∀ (tod : Nat) (c : Instr) (cause : Nat) (s : State), (c = .snapNow tod ∧ cause = 4 ∧ s.fate .host .PERF_INV_CTRL 0 = .takes
        ∨ c = .snapPeriod tod ∧ cause = 2 ∧ s.rd .PERF_INV_CTRL_snap_period ≠ 0) → tod < todMod → Ends c s fun t =>
        t.cnt = s.cnt ∧ t.wrapc = s.wrapc
        ∧ (s.perf.walk = none → t.perf.walk = some { t0 := tod, cause := cause, trace := s.rd .TIM_DPLL0_STATUS_tod_trace, cnt := s.cnt, wrapc := s.wrapc }
            ∧ t.perf.heldWalk = s.perf.heldWalk)
        ∧ (s.perf.walk.isSome = true → t.perf.walk = s.perf.walk
            ∧ t.perf.heldWalk = some ((s.perf.heldWalk.getD 0) ||| cause)))
  ∧ (∀ (tod : Nat) (s : State), s.rd .PERF_INV_CTRL_snap_period = 0 → Ends (.snapPeriod tod) s fun t => t = s)
  ∧ (∀ (tod : Nat) (x : Walk) (s : State), s.perf.walk = some x → Ends (.walkEnd tod) s fun t =>
        t.perf.recSeq = (s.perf.recSeq + 1) % 65536 ∧ t.perf.heldWalk = none
        ∧ t.perf.walk.map (fun y => (y.t0, y.cause)) = s.perf.heldWalk.map (fun c => (tod, c))
        ∧ (s.rd .PERF_TLM_CTRL_cnt_ring = 0xFFFF → t.host = s.host ∧ t.cnt = s.cnt)
        ∧ (s.rd .PERF_TLM_CTRL_cnt_ring ≠ 0xFFFF → s.tlmBuf (s.rd .PERF_TLM_CTRL_cnt_ring) = none →
            t.cntOf 535 = (s.cntOf 535 + 1) % 2 ^ 48 ∧ (t.rd .PERF_EV_ev).testBit 11 = true)
        ∧ (∀ d ∈ s.tlmBuf (s.rd .PERF_TLM_CTRL_cnt_ring), s.rd .PERF_TLM_CTRL_cnt_ring ≠ 0xFFFF →
            t.ended d 0 0 (min (s.snapRecord x).length d.len)
              ∧ (s.padHeld 6 = false → .dma d.addr ((s.snapRecord x).take d.len) ∈ t.out)))
  ∧ (∀ (s : State), s.perf.hkN ≠ 0 → s.rd .PERF_TLM_CTRL_hk_ring ≠ 0xFFFF →
      Ends .hkRecordFlush s fun t => t.perf.hkSeq = (s.perf.hkSeq + 1) % 65536 ∧ t.perf.hkN = 0
        ∧ t.perf.hkBuf = []
        ∧ (s.tlmBuf (s.rd .PERF_TLM_CTRL_hk_ring) = none → t.cntOf 535 = (s.cntOf 535 + s.perf.hkN) % 2 ^ 48
            ∧ (t.rd .PERF_EV_ev).testBit 11 = true)
        ∧ (∀ d ∈ s.tlmBuf (s.rd .PERF_TLM_CTRL_hk_ring), t.ended d 0 1 (min (32 + s.perf.hkBuf.length) d.len)))
  ∧ (∀ (s : State), s.perf.hkN = 0 ∨ s.rd .PERF_TLM_CTRL_hk_ring = 0xFFFF → Ends .hkRecordFlush s fun t =>
        t.perf.hkSeq = s.perf.hkSeq ∧ t.perf.hkN = 0 ∧ t.regs = s.regs ∧ t.cnt = s.cnt ∧ t.out = s.out)
  ∧ (∀ (val : Nat) (s : State), s.fate .host .PERF_CNT_SEL 0 = .takes → Ends (.counterLatch val) s fun t =>
        t.rd .PERF_CNT_SEL_index = val % 1024 ∧ t.rd .PERF_CNT_HI_valid = b2n (s.cntValid (val % 1024))
        ∧ (s.cntValid (val % 1024) = true → s.cntOf (val % 1024) < 2 ^ 48 → t.rd .PERF_CNT_LO_value_lo = s.cntOf (val % 1024) % 2 ^ 32
            ∧ t.rd .PERF_CNT_HI_value_hi = s.cntOf (val % 1024) / 2 ^ 32)
        ∧ t.cnt = s.cnt)
  ∧ (∀ (n : Eng) (r : Nat) (m : ProtMsg) (l : List ProtMsg) (s : State), s.hasEng n = true → (s.rxOf n).protQ = m :: l →
      m.code = 3 → s.evRoute 1 = some r → s.padHeld 6 = false → Ends (.protUnprotected n) s fun t =>
        let e : Ev := .reg .PAIR_EV_far_unprot 0
        let p := s.rd .HOST_RCTX_IDX_dev_idx r
        let was := SMap.get 0 s.perf.evCnt (evKey e.code n)
        (was < max 1 (s.rd .PERF_INV_CTRL_ev_limit) → s.cqFull r = false → (s.ringOf r).dropped = 0 →
          t.perf.evSeq = (s.perf.evSeq + 1) % 65536 ∧ SMap.get 0 t.perf.evCnt (evKey e.code n) = was + 1
            ∧ .entry r (p % s.ringSize r) (evHead e.code 1 false
                ++ [BitVec.ofNat 8 (phaseByte p (s.rd .HOST_RCTX_CFG_log2size r))]
                ++ evTail n s.perf.evSeq (t.regVal .PAIR_EV 0) 0 s.tim.tod) ∈ t.out)
        ∧ (max 1 (s.rd .PERF_INV_CTRL_ev_limit) ≤ was → t.cntOf 536 = (s.cntOf 536 + 1) % 2 ^ 48
            ∧ (s.cntOf 536 + 1 < 2 ^ 48 → t.perf.evSeq = (s.perf.evSeq + 1) % 65536 ∧ t.ring = s.ring
                ∧ (SMap.get (0, 0) t.perf.evSup (evKey e.code n)).1 = (SMap.get (0, 0) s.perf.evSup (evKey e.code n)).1 + 1)))
  ∧ (∀ (n : Eng) (m : ProtMsg) (l : List ProtMsg) (s : State), s.hasEng n = true → (s.rxOf n).protQ = m :: l →
      m.code = 3 → s.evRoute 1 = none → s.evGone 1 = false → Ends (.protUnprotected n) s fun t =>
        t.ring = s.ring ∧ t.perf.evSeq = (s.perf.evSeq + 1) % 65536 ∧ t.rd .PAIR_EV_far_unprot = 1 ∧ t.irqBit 8 = true
          ∧ (s.irqBit 8 = true → t.out = s.out)
          ∧ (s.irqBit 8 = false → (s.rd .SYS_IRQ_MASK_en).testBit 8 = true → s.host.maskAll = false →
              SMap.get false s.host.unmasked 0 = true → s.on .HOST_LINK_link_up = true → s.padHeld 6 = false →
              t.out = .msix 0 :: s.out))
  ∧ (∀ (pll r : Nat) (s : State), s.evRoute 3 = some r → s.padHeld 6 = false → s.cqFull r = false → (s.ringOf r).dropped = 0 →
      Ends (.clockLoss pll) s fun t =>
        .entry r (s.rd .HOST_RCTX_IDX_dev_idx r % s.ringSize r) (evHead (Ev.perf .clockLoss).code 3 false
            ++ [BitVec.ofNat 8 (phaseByte (s.rd .HOST_RCTX_IDX_dev_idx r) (s.rd .HOST_RCTX_CFG_log2size r))]
            ++ evTail pll s.perf.evSeq 0 0 s.tim.tod) ∈ t.out)
  ∧ (∀ (val : Nat) (s : State), s.fate .host .SYS_IRQ_MASK 0 = .takes → s.host.maskAll = false → s.padHeld 6 = false →
      SMap.get false s.host.unmasked 0 = true → s.on .HOST_LINK_link_up = true →
      Ends (.regWrite .host (Rg.SYS_IRQ_MASK.addr 0) val) s fun t => t.rd .SYS_IRQ_MASK_en = val % 2 ^ 20
        ∧ t.out = (if s.irqStatus &&& val % 2 ^ 20 = 0 then s.out else .msix 0 :: s.out))
  ∧ (∀ (val : Nat) (s : State), s.fate .host .PAIR_EV 0 = .takes → s.host.maskAll = false → s.padHeld 6 = false →
      SMap.get false s.host.unmasked 0 = true → s.on .HOST_LINK_link_up = true →
      Fld.PAIR_EV_sel.part (val % 2 ^ 32) = 1 → Ends (.regWrite .host (Rg.PAIR_EV.addr 0) val) s fun t => t.rd .PAIR_EV_sel = 0
        ∧ t.out = (if t.irqStatus &&& s.rd .SYS_IRQ_MASK_en = 0 then s.out else .msix 0 :: s.out))

/-- Each fault is counted and raised under its own number, and an uncorrectable word of a decoder or of a group's bins
marks the data it holds; the ACTIVE of a pair that is ready yields, without a ready SHADOW it reports the fault as
unprotected, and the SHADOW loses readiness; a single bit is masked; a lockstep mismatch stops PAIR_ALIVE_OUT and
restarts the cores, as an uncorrectable word of an unpaired device's control memory does, and the end of the restart
raises LOCKSTEP_FAULT, on the UART too, with the switch machines in HELD. The line on the UART (log entry 178), the
memory of the control cores (140), HELD after a restart (141) and what a slip marks (85) are the model's readings.
(16_counters_and_events.md R517, R530, R532, R533, R534; 08_pair_protection.md R268, R307; 07_placement.md R249) -/
def Obligations.LocalFaults : Prop :=
  (∀ (arr : SramArr) (word bits : Nat) (s : State), bits ≠ 0 → (∀ n, arr = .fec n → s.hasEng n = true) →
      Ends (.sramScrub arr word bits) s fun t =>
        (bits = 1 → t.cntOf (sramIdx arr).1 = (s.cntOf (sramIdx arr).1 + 1) % 2 ^ 48 ∧ (t.rd .PERF_EV_ev).testBit 4 = true
          ∧ t.role = s.role ∧ t.pin = s.pin ∧ t.rd .PAIR_STATUS_ready = s.rd .PAIR_STATUS_ready)
        ∧ (2 ≤ bits → t.cntOf (sramIdx arr).2 = (s.cntOf (sramIdx arr).2 + 1) % 2 ^ 48 ∧ (t.rd .PERF_EV_ev).testBit 5 = true
 ∧ (s.role = 0 → arr = .ctlMem → s.sec.restart = false →
            t.sec.restart = true ∧ t.pin.aliveOut = false)))
  ∧ (∀ (n : Eng) (word bits : Nat) (s : State), 2 ≤ bits → s.role = 0 → s.hasEng n = true →
      Ends (.sramScrub (.fec n) word bits) s fun t => (t.fecOf n).marked = true)
  ∧ (∀ (word bits g x : Nat) (s : State), 2 ≤ bits → s.role = 0 → SMap.get 0 s.bins (word / 8192) = g + 1 →
      s.grpTrib g = some x → Ends (.sramScrub .pool word bits) s fun t => (t.tribOf x).slip = true)
  ∧ (∀ (x : Fin 17) (who : Nat) (s : State), (1 ≤ x.val ∧ x.val ≤ 7 ∨ x.val = 10) →
      s.cntValid (if x.val = 7 then 513 else if x.val = 5 ∨ x.val = 6 then cPort (who % 64) 5 else cEng (who % 4) 21) = true →
      Ends (.crossingSlip x who) s fun t =>
        t.cntOf (if x.val = 7 then 513 else if x.val = 5 ∨ x.val = 6 then cPort (who % 64) 5 else cEng (who % 4) 21)
          = (s.cntOf (if x.val = 7 then 513 else if x.val = 5 ∨ x.val = 6 then cPort (who % 64) 5 else cEng (who % 4) 21) + 1) % 2 ^ 48
        ∧ (t.rd .PERF_EV_ev).testBit 1 = true)
  ∧ (∀ (addr : Nat) (r : Rg) (i block stage : Nat) (n : Eng) (c : Instr) (k : Nat) (s : State),
      (c = .parityScan (.reg addr stage) ∧ k = 550 ∧ regAt addr = some (r, i) ∧ s.absentReg r i = false
        ∨ c = .parityScan (.engine n stage) ∧ k = cEng n 24 ∧ s.hasEng n = true
        ∨ c = .parityScan (.stage block stage) ∧ k = 551) → Ends c s fun t =>
        t.cntOf k = (s.cntOf k + 1) % 2 ^ 48 ∧ (t.rd .PERF_EV_ev).testBit 6 = true ∧ t.lock = s.lock)
  ∧ (∀ (n : Eng) (lane : PortId) (x : Nat) (c : Instr) (s : State),
      (c = .clockLoss x ∨ c = .crossingSlip 3 x ∨ c = .parityScan (.stage x x) ∨ c = .laneTxFault lane ∧ s.laneActive lane = true
        ∨ c = .txMonitorFault n ∧ s.hasEng n = true ∧ s.on .LE_TX_CTRL_tx_active n = true
        ∨ c = .sramScrub .pool x 2) → Ends c s fun t =>
        (s.role = 0 → t.role = 0)
        ∧ (s.role = 1 → s.linkUp = true → s.on .PAIR_STATUS_ready = true → s.lockout = false → s.pair.force = false →
            t.role = 2 ∧ t.modeNow = 5 ∧ t.rd .PAIR_STATUS_faulted = 1)
        ∧ (s.role = 1 → s.on .PAIR_STATUS_ready = false ∨ s.lockout = true → t.role = 1 ∧ t.rd .PAIR_EV_unprot_fault = 1)
        ∧ (s.role = 2 → t.role = 2 ∧ t.rd .PAIR_STATUS_ready = 0)
        ∧ (c = .clockLoss x → (t.rd .PERF_EV_ev).testBit 8 = true ∧ t.cntOf 553 = (s.cntOf 553 + 1) % 2 ^ 48)
        ∧ (c = .laneTxFault lane → (t.rd .PERF_EV_ev).testBit 13 = true))
  ∧ (∀ (s : State), s.sec.restart = false → Ends .lockstepMismatch s fun t => t.sec.restart = true ∧ t.pin.aliveOut = false
        ∧ t.pin.pairAct = false ∧ t.cntOf 552 = (s.cntOf 552 + 1) % 2 ^ 48 ∧ t.host.flashOps = []
        ∧ t.mode.tr = (if (s.mode.tr.bind fun x => x.d).isSome then none else s.mode.tr)
        ∧ (s.role = 1 → t.pair.dyingTx = true))
  ∧ (∀ (n : Eng) (s : State), s.sec.restart = true → Ends .controlRestartDone s fun t => t.sec.restart = false
        ∧ (t.rd .PERF_EV_ev).testBit 7 = true ∧ t.pin.aliveOut = !s.padHeld 2
        ∧ (s.padHeld 4 = false → t.out.head? = some (.uart false (Ev.perf .lockstepFault).code))
        ∧ (s.hasEng n = true → t.swState n = 3 ∧ (t.txOf n).map = (s.txOf n).map
            ∧ (t.rxOf n).map = (s.rxOf n).map))

/-- A start that is accepted runs the regular sequence from slot 0, is held during an injected sequence and is otherwise
ignored and counted; an urgent request cuts the slot in progress; HK_SYNC resets every decimator; seq_stop acts at
the end of the slot; a slot ends when its words are delivered, a continuous one by the stop, and the next one or the
idle end follows; an injected sequence that ends gives the cut slot or the idle end back; the rotation replaces both
sequences and ignores their requests. The order of the actions of one write of HK_CTRL is the model's choice (log
entry 131). (12_housekeeping.md R417, R418, R419, R420, R426, R433) -/
def Obligations.HkSequences : Prop :=
  (∀ (c : Instr) (s : State), (c = .hkStartReq true ∧ s.on .HK_CTRL_start_pin_en = true) → Ends c s fun t =>
        (s.compat = false → s.hk.inj = false → s.hk.reg = false → t.hk.reg = true ∧ t.hk.slot = 0
          ∧ t.rd .HK_STATUS_seq_run = 1 ∧ t.rd .HK_STATUS_cur_slot = 0)
        ∧ (s.compat = false → s.hk.inj = true → s.hk.startHeld = false → t.hk.startHeld = true ∧ t.regs = s.regs)
        ∧ ((s.compat = true ∨ s.hk.inj = false ∧ s.hk.reg = true ∨ s.hk.inj = true ∧ s.hk.startHeld = true) →
            t.hk = s.hk ∧ t.rd .HK_EV_start_ign = 1 ∧ t.cntOf 525 = (s.cntOf 525 + 1) % 2 ^ 48))
  ∧ (∀ (c : Instr) (s : State), (c = .hkUrgentReq true ∧ s.on .HK_CTRL_urg_pin_en = true) → Ends c s fun t =>
        (s.compat = false → s.hk.inj = false → t.hk.inj = true ∧ t.hk.slot = 0 ∧ t.hk.reg = s.hk.reg
          ∧ t.rd .HK_STATUS_inj_run = 1
          ∧ t.hk.cut = (if s.hk.reg then some (if s.hk.endIdle then 32 else s.hk.slot) else none))
        ∧ (s.compat = true ∨ s.hk.inj = true →
            t.hk = s.hk ∧ t.rd .HK_EV_urg_ign = 1 ∧ t.cntOf 526 = (s.cntOf 526 + 1) % 2 ^ 48))
  ∧ (∀ (c : Instr) (o : SyncObs) (s : State), (c = .hkStartReq true ∧ s.on .HK_CTRL_start_pin_en = false
        ∨ c = .hkUrgentReq true ∧ s.on .HK_CTRL_urg_pin_en = false ∨ c = .hkSyncCmd o ∧ o.pin = true ∧ o.early = false ∧ s.on .HK_CTRL_sync_pin_en = false) →
      Ends c s fun t => t = s)
  ∧ (∀ (c : HkChId) (o : SyncObs) (s : State), s.on .HK_CTRL_sync_pin_en = true → s.compat = false → o.pin = true → Ends (.hkSyncCmd o) s fun t =>
        t.rd .HK_EV_sync_seen = 1 ∧ (t.hkCh c).seq = 0
          ∧ (o.early = false ∨ s.converting ≠ some c.val ∨ (s.hkCh c).seq ≠ 0 → (t.hkCh c).settle = (s.hkCh c).nUse) ∧ t.hk.left = s.hk.left
          ∧ t.hk.slot = s.hk.slot)
  ∧ (∀ (c : Instr) (o : SyncObs) (f : Fld) (s : State), s.fate .host .HK_CTRL 0 = .takes →
      (c = .hkStartReq false ∧ f = .HK_CTRL_seq_go ∨ c = .hkUrgentReq false ∧ f = .HK_CTRL_inj_go
        ∨ c = .hkSyncCmd o ∧ o.pin = false ∧ f = .HK_CTRL_sync_now ∨ c = .hkSeqStop ∧ f = .HK_CTRL_seq_stop) →
      s.on .HK_CTRL_compat_en = false → Ends c s fun t => t.rd f = s.rd f
        ∧ (c = .hkSeqStop → s.hk.reg = true → t.hk.stopReq = true ∧ t.hk.reg = true ∧ t.hk.slot = s.hk.slot)
        ∧ (c = .hkStartReq false → s.hk.inj = false → s.hk.reg = false → t.hk.reg = true ∧ t.hk.slot = 0)
        ∧ (c = .hkUrgentReq false → s.hk.inj = false → t.hk.inj = true)
        ∧ (c = .hkSyncCmd o → t.rd .HK_EV_sync_seen = 1))
  ∧ (∀ (s : State), s.converting = none ∨ s.hk.left = 0 ∨ (s.continuous = true ∧ s.hk.stopReq = true) →
      Ends .hkSlotEnd s fun t =>
        (s.compat = false → s.hk.inj = true → s.hk.slot < s.rd .HK_CTRL_inj_len → t.hk.slot = s.hk.slot + 1 ∧ t.hk.inj = true)
        ∧ (s.compat = false → s.hk.inj = true → s.rd .HK_CTRL_inj_len ≤ s.hk.slot → s.hk.startHeld = false →
            t.hk.inj = false
              ∧ (s.hk.cut ≠ none → s.hk.cut ≠ some 32 → s.hk.stopReq = false → some t.hk.slot = s.hk.cut ∧ t.hk.reg = s.hk.reg)
              ∧ (s.hk.cut = none → t.hk.reg = false))
        ∧ (s.compat = false → s.hk.inj = false → s.hk.reg = true → s.hk.stopReq = true → t.hk.reg = false
            ∧ t.rd .HK_STATUS_seq_run = 0)
        ∧ (s.compat = false → s.hk.inj = false → s.hk.reg = true → s.hk.stopReq = false → s.continuous = false →
            s.hk.endIdle = false →
            (s.hk.slot < s.rd .HK_CTRL_reg_len → t.hk.slot = s.hk.slot + 1 ∧ t.hk.endIdle = false)
            ∧ (s.rd .HK_CTRL_reg_len ≤ s.hk.slot → t.hk.endIdle = true))
        ∧ (s.compat = false → s.hk.inj = false → s.hk.reg = true → s.hk.stopReq = false → s.continuous = false →
            s.hk.endIdle = true → t.hk.reg = s.on .HK_CTRL_seq_loop ∧ t.hk.slot = 0)
        ∧ (s.compat = false → s.hk.inj = true → s.rd .HK_CTRL_inj_len ≤ s.hk.slot → s.hk.startHeld = false →
            s.hk.cut = some 32 → s.hk.stopReq = false → t.hk.endIdle = true ∧ t.hk.inj = false)
        ∧ (s.compat = true → t.hk.compatCh = (s.hk.compatCh + 1) % 32))
  ∧ (∀ (s : State), s.converting.isSome = true → s.hk.left ≠ 0 → s.continuous = false ∨ s.hk.stopReq = false →
      Ends .hkSlotEnd s fun t => t = s)
  ∧ (∀ (s : State), s.fate .host .HK_CTRL 0 = .takes → s.on .HK_CTRL_compat_en = false →
      Ends .hkCompatEnable s fun t => t.rd .HK_CTRL_compat_en = 1 ∧ t.hk.reg = false ∧ t.hk.inj = false
        ∧ t.hk.compatCh = 0 ∧ t.hk.left = 1 ∧ t.rd .HK_STATUS_seq_run = 0 ∧ t.rd .HK_STATUS_inj_run = 0)
  ∧ (∀ (s : State), s.fate .host .HK_CTRL 0 = .takes → s.on .HK_CTRL_compat_en = true →
      Ends .hkCompatEnable s fun t => t.rd .HK_CTRL_compat_en = s.rd .HK_CTRL_compat_en ∧ t.hk.compatCh = s.hk.compatCh ∧ t.hk.left = s.hk.left)

/-- A word of the channel being converted carries its flags and its count, the trimmed code and the linearized value, or
0 where it is SETTLING or its reset switch is closed; a read of RAW latches the value; settings, the linearization
commit and the reset switch act as they are written; a clamp is shown and counted once and its release closes the
switch; three bad excitation readings set the fault and three good ones clear it. The trims (log entry 24), the word
that VAL shows (25) and the words that a clamp flags (181) are the model's readings. (12_housekeeping.md R414, R415,
R416, R421, R424, R427, R428, R429, R430) -/
def Obligations.HkChannels : Prop :=
  (∀ (c : HkChId) (o : HkObs) (s : State), s.converting = some c.val → s.hk.left ≠ 0 → Ends (.hkWord c o) s fun t =>
        t.rd .HK_CH_RAW_settling c = b2n (decide (0 < (s.hkCh c).settle))
        ∧ t.rd .HK_CH_RAW_chg_rst c = b2n (s.on .HK_CH_STATUS_rst_closed c)
        ∧ t.rd .HK_CH_RAW_clamp c = b2n ((s.hkCh c).clampWin || (s.hkCh c).clampTail != 0)
        ∧ t.rd .HK_CH_RAW_inj c = b2n s.hk.inj ∧ t.rd .HK_CH_RAW_seq c = (s.hkCh c).seq % 8
        ∧ (0 < (s.hkCh c).settle ∨ s.on .HK_CH_STATUS_rst_closed c = true → (t.hkCh c).word.val = 0 ∧ t.rdInt .HK_CH_RAW_code c = 0)
        ∧ ((s.hkCh c).settle = 0 → s.on .HK_CH_STATUS_rst_closed c = false →
            t.rdInt .HK_CH_RAW_code c = s.trimCode c ((s.hkCh c).average o) ∧ (t.hkCh c).word.val = s.linValue c (s.trimCode c ((s.hkCh c).average o))))
  ∧ (∀ (c : HkChId) (s : State), s.hostUnreachable = false → s.readable .host .HK_CH_RAW c = true → s.padHeld 6 = false →
      Ends (.hkRawRead c) s fun t => t.rdInt .HK_CH_VAL_value c = (ofTwos 32 (toTwos 32 (s.hkCh c).word.val)) ∧ (t.hkCh c).latched = true
        ∧ t.out = .rdData (s.regRead .HK_CH_RAW c) :: s.out)
  ∧ (∀ (c : HkChId) (cfg flt : Nat) (s : State), s.fate .host .HK_CH_CFG c = .takes → s.fate .host .HK_CH_FLT c = .takes →
      Ends (.hkFilterWrite c cfg flt) s fun t =>
        (∀ f ∈ chCfgFields, t.rd f c = f.part (cfg % 2 ^ 32)) ∧ ∀ f ∈ chFltFields, t.rd f c = f.part (flt % 2 ^ 32))
  ∧ (∀ (c : HkChId) (s : State), s.fate .host .HK_CH_CFG c = .takes → s.rd .HK_CH_CFG_in_mode c < 2 →
      Ends (.hkChgRst c) s fun t =>
        (s.on .HK_CH_CFG_in_mode c = true → t.rd .HK_CH_STATUS_rst_closed c = 1)
        ∧ (s.on .HK_CH_CFG_in_mode c = false → t.rd .HK_CH_STATUS_rst_closed c = s.rd .HK_CH_STATUS_rst_closed c)
        ∧ ∀ f ∈ chCfgFields, t.rd f c = s.rd f c % 2 ^ f.info.w)
  ∧ (∀ (c : HkChId) (s : State), s.fate .host .HK_CH_CFG c = .takes → Ends (.hkLinCommit c) s fun t =>
        (t.hkCh c).linPend = true ∧ (t.hkCh c).lin = (s.hkCh c).lin ∧ ∀ f ∈ chCfgFields, t.rd f c = s.rd f c % 2 ^ f.info.w)
  ∧ (∀ (c : HkChId) (s : State), s.on .HK_CH_STATUS_rst_closed c = true → Ends (.hkChgRstEnd c) s fun t =>
        t.rd .HK_CH_STATUS_rst_closed c = 0 ∧ (t.hkCh c).seq = 0 ∧ (t.hkCh c).settle = (s.hkCh c).nUse)
  ∧ (∀ (c : HkChId) (s : State), s.on .HK_CH_STATUS_clamp_live c = false → Ends (.hkClamp c) s fun t =>
        t.rd .HK_CH_STATUS_clamp_live c = 1 ∧ t.cntOf 527 = (s.cntOf 527 + 1) % 2 ^ 48 ∧ t.rd .HK_EV_clamp_seen = 1
          ∧ (t.hkCh c).clampWin = true)
  ∧ (∀ (c : HkChId) (early : Bool) (s : State), s.on .HK_CH_STATUS_clamp_live c = true → Ends (.hkClampRelease { chan := c, early := early }) s fun t =>
        (early = true → (s.hkCh c).seq = 0 → (t.hkCh c).clampWin = false) ∧ (early = false → (t.hkCh c).clampWin = (s.hkCh c).clampWin) ∧
        t.rd .HK_CH_STATUS_clamp_live c = 0 ∧ (s.on .HK_CH_CFG_in_mode c = true → t.rd .HK_CH_STATUS_rst_closed c = 1))
  ∧ (∀ (c : HkChId) (meas : Nat) (limit : Bool) (s : State), s.on .HK_CH_CFG_en c = true →
      (s.rd .HK_CH_CFG_exc_mode c = 1 ∨ s.rd .HK_CH_CFG_exc_mode c = 2) → (s.hkCh c).excBad ≤ 3 → (s.hkCh c).excGood ≤ 3 →
      Ends (.hkExcMonitor c meas limit) s fun t => t.rd .HK_CH_STATUS_exc_meas c = min meas 65535
        ∧ (s.excBad c meas limit = true → 2 ≤ (s.hkCh c).excBad → t.on .HK_CH_STATUS_exc_fault c = true)
        ∧ (s.excBad c meas limit = false → 2 ≤ (s.hkCh c).excGood → t.on .HK_CH_STATUS_exc_fault c = false)
        ∧ (s.excBad c meas limit = false → (s.hkCh c).excGood < 2 →
            t.rd .HK_CH_STATUS_exc_fault c = s.rd .HK_CH_STATUS_exc_fault c)
        ∧ (s.excBad c meas limit = true → (s.hkCh c).excBad < 2 →
            t.rd .HK_CH_STATUS_exc_fault c = s.rd .HK_CH_STATUS_exc_fault c))

/-- An output fault sets its status bit, takes the output from full drive and raises its event; two outputs wired
together show each other and the higher one goes high impedance; a retry that finds the level again restores the
drive, of an output isolated for its pin once that pin is back; the alarm output turns off in a short and shows a
line that is held low; cal_force in MAINTENANCE drops the trims in use. (12_housekeeping.md R432, R435, R436, R437;
13_calibration.md R461) -/
def Obligations.HkOutputs : Prop :=
  (∀ (k : AoutId) (c : Instr) (f : Fld) (s : State),
      (c = .aoutOvervolt k ∧ f = .HK_AOUT_STATUS_ov ∧ s.on .HK_AOUT_STATUS_ov k = false
        ∨ c = .aoutIlim k ∧ f = .HK_AOUT_STATUS_ilim ∧ s.on .HK_AOUT_STATUS_driving k = true) → Ends c s fun t =>
        t.rd f k = 1 ∧ t.rd .HK_AOUT_STATUS_driving k = 0 ∧ t.rd .HK_EV_aout_fault = 1
          ∧ t.rd .HK_AOUT_CTRL_en k = s.rd .HK_AOUT_CTRL_en k)
  ∧ (∀ (a b : AoutId) (s : State), a < b → s.on .HK_AOUT_CTRL_en a = true → s.on .HK_AOUT_CTRL_en b = true →
      s.on .HK_AOUT_STATUS_ilim a = true → s.on .HK_AOUT_STATUS_ilim b = true → Ends (.aoutWired a b) s fun t =>
        t.rd .HK_AOUT_STATUS_wired a = 1 ∧ t.rd .HK_AOUT_STATUS_wired b = 1 ∧ t.rd .HK_AOUT_STATUS_wired_with a = b
          ∧ t.rd .HK_AOUT_STATUS_wired_with b = a ∧ t.rd .HK_AOUT_STATUS_driving b = 0
          ∧ (s.on .HK_AOUT_STATUS_ov a = false → t.rd .HK_AOUT_STATUS_driving a = b2n (!s.padHeld 5)) ∧ t.rd .HK_EV_aout_fault = 1)
  ∧ (∀ (k : AoutId) (good back : List Bool) (s : State), s.on .HK_AOUT_STATUS_wired k = false →
      Ends (.hkOutputRetry good back) s fun t =>
        (good.getD k false = true → (s.on .HK_AOUT_STATUS_ov k = false ∨ back.getD k false = true) →
          t.rd .HK_AOUT_STATUS_ilim k = 0 ∧ t.rd .HK_AOUT_STATUS_ov k = 0
            ∧ t.rd .HK_AOUT_STATUS_driving k = b2n (s.on .HK_AOUT_CTRL_en k && !s.padHeld 5))
        ∧ (good.getD k false = false ∨ s.on .HK_AOUT_STATUS_ov k = true ∧ back.getD k false = false → t.rd .HK_AOUT_STATUS_ilim k = s.rd .HK_AOUT_STATUS_ilim k
          ∧ t.rd .HK_AOUT_STATUS_ov k = s.rd .HK_AOUT_STATUS_ov k)
        ∧ (good.getD 4 false = true → t.on .HK_ALM_CTRL_alm_short = false))
  ∧ (∀ (s : State), s.on .HK_ALM_CTRL_alm_asserted = true → Ends .almShort s fun t =>
        t.rd .HK_ALM_CTRL_alm_short = 1 ∧ t.rd .HK_ALM_CTRL_alm_asserted = 0 ∧ t.rd .HK_EV_alm_fault = 1)
  ∧ (∀ (s : State), s.on .HK_ALM_CTRL_alm_asserted = false → s.on .HK_ALM_CTRL_alm_stuck = false → Ends .almStuck s fun t =>
        t.rd .HK_ALM_CTRL_alm_stuck = 1 ∧ t.rd .HK_EV_alm_fault = 1
          ∧ t.rd .HK_ALM_CTRL_alm_asserted = s.rd .HK_ALM_CTRL_alm_asserted)
  ∧ (∀ (n : Eng) (s : State), s.fate .host .CAL_CTRL 0 = .takes → Ends .calForce s fun t =>
        (s.modeNow = 4 → t.cal.act = [] ∧ t.cal.hkPend = [] ∧ t.rd .CAL_HK_STATUS_conv = 0 ∧ t.rd .CAL_HK_STATUS_stuck = 0
          ∧ (s.hasEng n = true → s.inService n = true → t.rd .CAL_ENG_STATUS_conv n = 0))
        ∧ (s.modeNow ≠ 4 → t.cal.act = s.cal.act ∧ t.cal.force = s.cal.force))

/-- i3c_en starts discovery from IDLE and a write of 0 returns to IDLE; a round that ends gives the target its own
index, or the lowest that has been free for 1 s, with its address and the next generation, and records nothing where
there is none; no further target goes to SETTLE; an aborted round or a hot-join in SETTLE restarts, and fails at the
eighth time; a full table is raised; the end of SETTLE is DONE; rescan starts afresh; three NACKs of the poll mark a
target absent. What RSTDAA leaves (log entry 26), restarts and the indexes free for 1 s (184) are the model's
readings. (12_housekeeping.md R438, R439) -/
def Obligations.SensorBusDiscovery : Prop :=
  (∀ (s : State), s.fate .host .HK_I3C_CTRL 0 = .takes → Ends .i3cEnable s fun t => t.rd .HK_I3C_CTRL_i3c_en = 1
        ∧ t.rd .HK_I3C_STATUS_restarts = s.rd .HK_I3C_STATUS_restarts
        ∧ (s.disc = 0 → t.disc = 1 ∧ t.hk.hjOn = false ∧ ∀ k : Fin 16, t.on .HK_I3C_TGT_INFO_present k = false)
        ∧ (s.disc ≠ 0 → t.disc = s.disc))
  ∧ (∀ (s : State), s.fate .host .HK_I3C_CTRL 0 = .takes → Ends .i3cDisable s fun t =>
        t.rd .HK_I3C_CTRL_i3c_en = 0 ∧ t.disc = 0 ∧ t.host.i3cOps = s.host.i3cOps)
  ∧ (∀ (pid bcr dcr aged j : Nat) (s : State), s.disc = 1 → s.padHeld 4 = false → j < 16 → s.tgtIndex (pid % 2 ^ 48) aged = some j →
      Ends (.i3cEntdaaRoundEnd { pid := pid, aged := aged } bcr dcr) s fun t =>
        t.tgtPid j = pid % 2 ^ 48 ∧ t.rd .HK_I3C_TGT_PID_HI_bcr j = bcr % 256 ∧ t.rd .HK_I3C_TGT_PID_HI_dcr j = dcr % 256
          ∧ t.rd .HK_I3C_TGT_INFO_addr j = 0x10 + j ∧ t.rd .HK_I3C_TGT_INFO_present j = 1
          ∧ t.rd .HK_I3C_TGT_INFO_gen j = (s.rd .HK_I3C_TGT_INFO_gen j + 1) % 256
          ∧ (t.rd .HK_I3C_STATUS_present_mask).testBit j = true ∧ t.disc = 1)
  ∧ (∀ (pid aged j : Nat) (s : State), (upTo 16).all (fun k => decide (s.rd .HK_I3C_TGT_INFO_addr k = 0 ∨ s.tgtPid k ≠ pid)) = true →
      s.tgtIndex pid aged = some j →
        s.on .HK_I3C_TGT_INFO_present j = false ∧ ((SMap.get {} s.hk.tgt j).freed = 10 ∨ aged.testBit j = true)
          ∧ (∀ k : Fin 16, k < j → s.on .HK_I3C_TGT_INFO_present k = false →
              (SMap.get {} s.hk.tgt k).freed ≠ 10 ∧ aged.testBit k = false))
  ∧ (∀ (pid bcr dcr aged : Nat) (s : State), s.disc ≠ 1 ∨ s.tgtIndex (pid % 2 ^ 48) aged = none →
      Ends (.i3cEntdaaRoundEnd { pid := pid, aged := aged } bcr dcr) s fun t => t = s)
  ∧ (∀ (s : State), s.disc = 1 → s.padHeld 4 = false → Ends .i3cNoTarget s fun t => t.disc = 2 ∧ t.hk.hjOn = true)
  ∧ (∀ (c : Instr) (s : State), (c = .i3cRoundAbort ∧ s.disc = 1 ∨ c = .i3cHotJoin ∧ s.disc = 2) →
      s.padHeld 4 = false → s.rd .HK_I3C_STATUS_restarts < 8 → Ends c s fun t =>
        t.rd .HK_I3C_STATUS_restarts = s.rd .HK_I3C_STATUS_restarts + 1
          ∧ (s.rd .HK_I3C_STATUS_restarts < 7 → t.disc = 1)
          ∧ (s.rd .HK_I3C_STATUS_restarts = 7 → t.disc = 4 ∧ t.rd .HK_EV_i3c_fail = 1)
          ∧ (c = .i3cRoundAbort → t.cntOf 528 = (s.cntOf 528 + 1) % 2 ^ 48))
  ∧ (∀ (s : State), s.disc = 3 → s.padHeld 4 = false → Ends .i3cHotJoin s fun t =>
        (s.on .HK_I3C_CTRL_hj_en = true → t.disc = 1 ∧ t.hk.hjOn = false
          ∧ t.rd .HK_I3C_STATUS_restarts = s.rd .HK_I3C_STATUS_restarts)
        ∧ (s.on .HK_I3C_CTRL_hj_en = false → t = s))
  ∧ (∀ (s : State), s.disc = 1 → s.padHeld 4 = false → s.rd .HK_I3C_STATUS_present_mask = 0xFFFF → Ends .i3cTableFull s fun t =>
        t.disc = 2 ∧ t.rd .HK_EV_i3c_full = 1)
  ∧ (∀ (s : State), s.disc = 2 → Ends .i3cSettleTimeout s fun t => t.disc = 3 ∧ t.rd .HK_EV_i3c_done = 1
        ∧ t.rd .HK_I3C_STATUS_restarts = 0)
  ∧ (∀ (j : Fin 16) (s : State), s.fate .host .HK_I3C_CTRL 0 = .takes → s.rd .HK_I3C_CTRL_i3c_en = 1 → s.disc ≠ 0 →
      Ends .i3cRescan s fun t =>
        (s.disc = 3 ∨ s.disc = 4 → t.disc = 1 ∧ t.rd .HK_I3C_STATUS_restarts = 0 ∧ t.on .HK_I3C_TGT_INFO_present j = false)
        ∧ (s.disc = 1 ∨ s.disc = 2 → t.disc = s.disc))
  ∧ (∀ (ack : List Bool) (j : Nat) (s : State), s.disc = 3 → s.padHeld 4 = false → j < 16 → s.on .HK_I3C_TGT_INFO_present j = true →
      Ends (.i3cStatusPoll ack) s fun t =>
        (ack.getD j false = true → t.on .HK_I3C_TGT_INFO_present j = true)
        ∧ (ack.getD j false = false → (SMap.get {} s.hk.tgt j).nacks < 2 → t.on .HK_I3C_TGT_INFO_present j = true)
        ∧ (ack.getD j false = false → 2 ≤ (SMap.get {} s.hk.tgt j).nacks →
            t.rd .HK_I3C_TGT_INFO_present j = 0 ∧ t.rd .HK_EV_i3c_leave = 1
              ∧ (t.rd .HK_I3C_STATUS_present_mask).testBit j = false))

/-- A transfer that passes its checks starts and completes with the bytes it moved; one that fails a check is refused
with that check's code, a stale generation is counted besides, a read error of its data ends it, and a target that
does not answer refuses it; a transfer that takes too long completes DEV_ERR. The order of the checks is the model's
choice (log entry 27). (12_housekeeping.md R440; 11_host_rings.md R395, R406, R383) -/
def Obligations.SensorBusTransfers : Prop :=
  (∀ (r : RingId) (d : Desc) (data : BufRead) (s : State), s.headDesc r 9 = some d →
      Ends (.i3cXfer r data) s fun t => t.rd .HK_I3C_STATUS_present_mask = s.rd .HK_I3C_STATUS_present_mask
        ∧ (s.xferErr d ≠ 0 → t.ended d 1 (s.xferErr d) 0 ∧ t.host.i3cOps = s.host.i3cOps)
        ∧ (s.xferErr d = 2 → t.cntOf 529 = (s.cntOf 529 + 1) % 2 ^ 48)
        ∧ (s.xferErr d = 0 → (data.err = false ∨ fieldOf d.param0 12 2 = 1) →
            t.host.i3cOps = s.host.i3cOps ++ [{ d := d, data := data.bytes }])
        ∧ (s.xferErr d = 0 → data.err = true → fieldOf d.param0 12 2 ≠ 1 → t.ended d 6 0 data.bytes.length ∧ t.host.i3cOps = s.host.i3cOps))
  ∧ (∀ (r : RingId) (data : BufRead) (s : State), s.ring.all (fun kv => kv.2.fetched.isEmpty) = true →
      Ends (.i3cXfer r data) s fun t => t = s)
  ∧ (∀ (res : I3cRes) (o : I3cOp) (s : State), s.xferOf res.sq = some o → s.padHeld 4 = false → Ends (.i3cXferDone res) s fun t =>
        t.xferOf res.sq = none ∧ (res.nack = true → t.ended o.d 1 3 0)
        ∧ (res.nack = false → fieldOf o.d.param0 12 2 = 0 → t.ended o.d (if o.stop then 7 else 0) 0 (min res.sent o.d.len))
        ∧ (res.nack = false → fieldOf o.d.param0 12 2 = 2 →
            t.ended o.d (if o.stop then 7 else 0) 0
              (min res.sent (fieldOf o.d.param0 16 12) + (res.got.take (o.d.len - fieldOf o.d.param0 16 12)).length))
        ∧ (res.nack = false → fieldOf o.d.param0 12 2 = 1 →
            t.ended o.d (if o.stop then 7 else 0) 0 (res.got.take o.d.len).length
              ∧ (s.padHeld 6 = false → t.out.head? = some (.dma o.d.addr (res.got.take o.d.len))))
        ∧ (res.nack = false → fieldOf o.d.param0 12 2 = 0 → o.d.len ≠ 0 → s.padHeld 4 = false →
            t.out.head? = some (.i3c (0x10 + o.d.param0 % 16) (o.data.take (min res.sent o.d.len)))))
  ∧ (∀ (o : I3cOp) (s : State), s.host.i3cOps.head? = some o → Ends .i3cXferTimeout s fun t =>
        t.xferOf o.d.sq = none ∧ t.ended o.d 8 1 0)

/-- A step with a command at the front of the queue is that command's effect on the queue's rest; with an empty queue
the block idles. The queue is the model's own (log entries 8 and 9). (11_host_rings.md R394; 02_modes.md R67) -/
def Obligations.StepRunsTheQueue : Prop :=
  (∀ (c : Instr) (rest : List Instr) (s : State), step { s with pending := c :: rest } = exec c { s with pending := rest })
  ∧ (∀ (s : State), s.pending = [] → step s = .next s)

/-- No command faults or refuses in any state: every step answers a next state. (17_register_map.md R536, R537, R545) -/
def Obligations.EveryStepAnswers : Prop :=
  (∀ (s : State), Safe s)

/-- At reset every table is in canonical form, the queue is empty, the mode is SETUP, the role UNPAIRED and the power
state RUN, the trapdoor is CLOSED, no locker holds a key, DPLL0 is in FREERUN, no reference is selected, boot_ready
is 0, the measurements are 0 and no counter has counted. A register reads the reset value of its table; for a reset
value that the spec gives as a dash the model's value stands (log entries 1 to 7). (02_modes.md R34;
15_security_and_config.md R493, R506; 14_power_and_cellar.md R464; 17_register_map.md R543, R545; 10_cipher.md R362;
09_timing.md R324) -/
def Obligations.ResetState : Prop :=
  (State.reset.wf = true ∧ State.reset.pending = [] ∧ State.reset.modeNow = 0 ∧ State.reset.role = 0
      ∧ State.reset.powerNow = 0 ∧ State.reset.dbgLevel = 0 ∧ State.reset.d0 = 0 ∧ State.reset.freqSrc = 15
      ∧ State.reset.rd .SYS_RST_STATUS_boot_ready = 0)
  ∧ (∀ (l m k : Nat), State.reset.lockOf l = {} ∧ State.reset.rd .SEC_MEAS_meas m = 0 ∧ State.reset.cntOf k = 0)
  ∧ (∀ (f : Fld) (i : Nat), State.reset.rd f i = f.info.rst)

/-- A step from a state whose tables are canonical leaves them so: every register field within its width and listed only
where it differs from its reset value, every counter of 48 bits and of the part, the flash with erased bytes
unlisted, and every other table strictly rising with nothing at its default. (17_register_map.md R536, R537;
16_counters_and_events.md R517, R519; 11_host_rings.md R405) -/
def Obligations.TablesStayCanonical : Prop :=
  (∀ (s t : State), s.wf = true → step s = .next t → t.wf = true)

/-- No step changes the part, the stepping, the identity number and key, the VENDOR anchor, the factory trims, or the
size of the flash and of its erase unit. (15_security_and_config.md R492; 17_register_map.md R548) -/
def Obligations.DieStaysFixed : Prop :=
  (∀ (s t : State), step s = .next t → t.die = s.die)

/-- Every command answers a next state in which every register, in every instance, that its row of the frame table does
not list holds what it held. (17_register_map.md R537, R543; 16_counters_and_events.md R518, R520; 11_host_rings.md
R400) -/
def Obligations.RegistersOutsideTheFrame : Prop :=
  (∀ (c : Instr) (f : Fld) (i : Nat) (s : State), c.touches f.info.rg = false → Ends c s fun t => t.rd f i = s.rd f i)

/-- Every command answers a next state with the queue as it was and with every part of the state that its row of the
frame table does not list as it was: fuses and flash, pins, counters, engines, ports, tributaries, groups, bins,
lockers, rings, the host link, the mode machine, the pair, timing, housekeeping, calibration, power, the cellar, the
trapdoor and shelves, snapshots, the output log and the free values. (17_register_map.md R543; 10_cipher.md R362;
15_security_and_config.md R491; 09_timing.md R310; 12_housekeeping.md R411) -/
def Obligations.PartsOutsideTheFrame : Prop :=
  (∀ (c : Instr) (k : Comp) (s : State), k ∉ c.parts → Ends c s fun t => t.pending = s.pending ∧ k.same s t)

/-- An event of one engine's acquisition, margin reading, decoder or test generator changes no LE register of another
engine and nothing of another engine's state. (03_line_engine.md R101, R109; 04_nurnauri_fec.md R132, R139, R147;
17_register_map.md R543) -/
def Obligations.OtherEnginesKeep : Prop :=
  (∀ (n m : Eng) (f : Fld) (l : List Nat) (k : Nat) (x : Int) (c : Instr) (s : State), m ≠ n → f.info.rg.isLe = true →
      (c = .clipWindow n l k ∨ c = .acqCdSearchEnd n l ∨ c = .acqClkLock n x ∨ c = .acqClkTimeout n ∨ c = .acqEqConverge n
        ∨ c = .acqEqTimeout n ∨ c = .acqCarLock n x k ∨ c = .acqCarTimeout n ∨ c = .acqHoldRelock n x k
        ∨ c = .acqHoldTimeout n ∨ c = .fecReadingReport n ∨ c = .testSyncBlock n l ∨ c = .testErrRead .host n) → Ends c s fun t =>
        t.rd f m = s.rd f m ∧ t.engOf m = s.engOf m)
  ∧ (∀ (n m : Eng) (f : Fld) (o : MarginObs) (p : PosObs) (c : Instr) (s : State), m ≠ n → f.info.rg.isLe = true →
      (c = .marginCompute n o ∨ c = .positionDecode n p) → Ends c s fun t =>
        t.rd f m = s.rd f m ∧ t.engOf m = s.engOf m)

/-- The end of a flash write or erase changes no byte of flash outside the command's range, the end of a read none; a
SHELF_WRITE changes no byte outside the target shelf and a SHELF_COMMIT none outside the target's header.
(11_host_rings.md R405; 15_security_and_config.md R507, R512, R513) -/
def Obligations.FlashOutsideTheRange : Prop :=
  (∀ (r : RingId) (o : FlashOp) (n a : Nat) (s : State), s.flashOf r = some o → s.padHeld 4 = false → Ends (.flashOpDone { sq := r, n := n }) s fun t =>
        (o.d.opcode = 6 → t.fuse = s.fuse)
        ∧ (o.d.opcode = 7 → a < o.d.param1 ∨ o.d.param1 + o.data.length ≤ a →
            flashByte t.fuse.flash a = flashByte s.fuse.flash a)
        ∧ (o.d.opcode = 8 → a < (s.flashRange o.d).1 ∨ (s.flashRange o.d).1 + (s.flashRange o.d).2 ≤ a →
            flashByte t.fuse.flash a = flashByte s.fuse.flash a))
  ∧ (∀ (r : RingId) (data : BufRead) (fails : Nat) (a : Nat) (s : State),
      a < shelfBase s.shelfTarget ∨ shelfBase s.shelfTarget + 0x100000 ≤ a → Ends (.shelfWrite r data fails) s fun t =>
        flashByte t.fuse.flash a = flashByte s.fuse.flash a)
  ∧ (∀ (r : RingId) (fails : Nat) (a : Nat) (s : State),
      a < shelfBase s.shelfTarget ∨ shelfBase s.shelfTarget + 128 ≤ a → Ends (.shelfCommit r fails) s fun t =>
        flashByte t.fuse.flash a = flashByte s.fuse.flash a)

/-- On the SKV-4800-2 a register write into the windows of LE2 and LE3 completes and changes nothing, and a read of a
register there returns 0. (00_scope.md R2) -/
def Obligations.AbsentEngineWindows : Prop :=
  (∀ (rq : Requester) (addr val : Nat) (s : State), s.fuse.part = .skv4800 → 0x300000 ≤ addr → addr < 0x500000 →
      addr % 4 = 0 → Ends (.regWrite rq addr val) s fun t => t = s)
  ∧ (∀ (addr : Nat) (r : Rg) (i : Nat) (s : State), s.fuse.part = .skv4800 → 0x300000 ≤ addr → addr < 0x500000 →
      regAt addr = some (r, i) → s.regRead r i = 0)
  ∧ (∀ (rq : Requester) (n : Eng) (s : State), s.fuse.part = .skv4800 → 2 ≤ n.val → s.hostUnreachable = false →
      s.padHeld 6 = false → Ends (.testErrRead rq n) s fun t => t.out = .rdData 0 :: s.out ∧ t.regs = s.regs)

/-- A WARM reset by its command or by a write of SYS_RESET, and a COLD reset by RESET_N or at the end of a power-up,
leave the device in SETUP, UNPAIRED; an ENGINE reset leaves the mode and the role. (02_modes.md R34) -/
def Obligations.ModeAfterReset : Prop :=
  (∀ (rq : Requester) (val : Nat) (c : Instr) (s : State), s.fate rq .SYS_RESET 0 = .takes → s.privileged rq = true →
      (c = .warmReset rq ∨ c = .regWrite rq 0x20 val ∧ val % 2 = 1) → Ends c s fun t => t.modeNow = 0 ∧ t.role = 0)
  ∧ (∀ (ns : Nat) (s : State), 10000 ≤ ns → s.powerNow ≤ 2 → s.pwr.failed = false → s.pwr.up = 0 →
      Ends (.resetPin ns) s fun t => t.modeNow = 0 ∧ t.role = 0)
  ∧ (∀ (s : State), s.pwr.up = 2 → s.pin.mainEn = true → Ends .coldResetRelease s fun t => t.modeNow = 0 ∧ t.role = 0)
  ∧ (∀ (rq : Requester) (val : Nat) (c : Instr) (s : State),
      (c = .engineReset rq val ∨ c = .regWrite rq 0x20 val ∧ val % 2 = 0) → Ends c s fun t =>
        t.modeNow = s.modeNow ∧ t.role = s.role)

/-- A MODE_SET with check_only completes OK where every check passes and REFUSED where one fails, with the detail word,
one whose request tag is remembered as before; it changes no register, no counter, no event and no part of the state
but the completion's own ring. The detail word of an OK completion (log entry 41) and that the command is not
remembered (156) are the model's. (02_modes.md R40) -/
def Obligations.CheckOnly : Prop :=
  (∀ (r : RingId) (d : Desc) (s : State), s.headDesc r 1 = some d → d.param0.testBit 8 = true →
      Ends (.modeSet r) s fun t =>
        (s.mode.mem.find? (fun m => m.tag == fieldOf d.param0 16 16) = none →
          (∀ e, s.modeCheck d.param0 = some e → t.ended d 1 (s.modeDetail e (d.param0 % 16) (fieldOf d.param0 4 2)) 0)
          ∧ (s.modeCheck d.param0 = none → t.ended d 0 (s.modeOk d.param0) 0))
        ∧ (∀ m, s.mode.mem.find? (fun m => m.tag == fieldOf d.param0 16 16) = some m → t.ended d m.status m.detail 0)
        ∧ t.regs = s.regs ∧ t.cnt = s.cnt ∧ t.wrapc = s.wrapc ∧ t.perf = s.perf ∧ t.mode = s.mode ∧ t.fuse = s.fuse
        ∧ t.pin = s.pin ∧ t.eng = s.eng ∧ t.port = s.port ∧ t.trib = s.trib ∧ t.grp = s.grp ∧ t.lock = s.lock
        ∧ t.pair = s.pair ∧ t.tim = s.tim ∧ t.hk = s.hk ∧ t.cal = s.cal ∧ t.pwr = s.pwr ∧ t.cel = s.cel ∧ t.sec = s.sec)

/-- An edge at PM_SYNC that is acted on and lies more than 100 ms from the nearest PM boundary moves no boundary and
ends no interval: it sets pm_sync_refused and raises PM_SYNC_REFUSED. (05_line_framing.md R190) -/
def Obligations.PmSyncRefused : Prop :=
  (∀ (tod : Nat) (s : State), s.on .PERF_PM_SYNC_pm_sync_en = true →
      (s.tim.pmEdge.map (fun e => decide (todElapsed e tod ≤ todSec * 9 / 10))).getD false = false →
      50000000 < (s.pmDelta tod).natAbs → Ends (.pmSyncEdge tod) s fun t =>
        t.rd .PERF_PM_SYNC_pm_sync_refused = 1 ∧ (t.rd .PERF_EV_ev).testBit 12 = true
        ∧ t.rdInt .PERF_PM_OFFSET_pm_offset = s.rdInt .PERF_PM_OFFSET_pm_offset ∧ t.tim.pmPrev = s.tim.pmPrev
        ∧ t.eng = s.eng ∧ t.perf.walk = s.perf.walk)

/-- In SHADOW a host write that reaches a mirrored register answers and changes no register of the device but those of
the record of its count, and no part but the count, what a walk in progress sees of it, and its record; it is
counted in PAIR_WRITE_DROP. MODE_SET in SHADOW is the mode check's own. Which registers are mirrored is the model's
reading (log entry 130). (08_pair_protection.md R285) -/
def Obligations.ShadowDropsWrites : Prop :=
  (∀ (addr val : Nat) (r : Rg) (i : Nat) (s : State), s.modeNow = 5 → addr % 4 = 0 → addr < 0x800000 →
      regAt addr = some (r, i) → r.mirrored = true → s.reaches .host r = true → s.absentReg r i = false →
      Ends (.regWrite .host addr val) s fun t => t.cntOf 517 = (s.cntOf 517 + 1) % 2 ^ 48
        ∧ (s.cntOf 517 + 1 < 2 ^ 48 → { t with cnt := [], wlog := [] } = { s with cnt := [], wlog := [] })
        ∧ t.eng = s.eng ∧ t.tim = s.tim ∧ t.pair = s.pair ∧ t.mode = s.mode ∧ t.port = s.port ∧ t.trib = s.trib)
  ∧ (∀ (addr val : Nat) (r : Rg) (i : Nat) (f : Fld) (j : Nat) (s : State), s.modeNow = 5 → addr % 4 = 0 → addr < 0x800000 →
      regAt addr = some (r, i) → r.mirrored = true → s.reaches .host r = true → s.absentReg r i = false →
      f.info.rg ∉ recordRegs → Ends (.regWrite .host addr val) s fun t => t.rd f j = s.rd f j)

/-- The lifecycle state is the value that at least two of the three copies hold; a completed transition holds the new
code in all three; and a rail that fails, or a reset, while the copies are burnt one after another leaves the old
state or the new one. (15_security_and_config.md R491) -/
def Obligations.LifecycleCopies : Prop :=
  (∀ (v : Nat) (s : State), (s.fuse.lc0 = v ∧ s.fuse.lc1 = v ∨ s.fuse.lc0 = v ∧ s.fuse.lc2 = v ∨ s.fuse.lc1 = v ∧ s.fuse.lc2 = v) →
      s.lcState = v)
  ∧ (∀ (v : Nat) (b : List Byte) (s : State), s.sec.lcPend = some (v, b) → Ends .lcTransitionDone s fun t =>
        t.fuse.lc0 = v ∧ t.fuse.lc1 = v ∧ t.fuse.lc2 = v ∧ t.lcState = v)
  ∧ (∀ (old v : Nat) (b : List Byte) (seen : List (Nat × Nat)) (rtc : Nat) (s : State), s.sec.lcPend = some (v, b) →
      s.lcState = old → s.fuse.lc1 = old → s.railsBad (railsOut seen) rtc ≠ 0 → Ends (.railFail seen rtc) s fun t =>
        (t.lcState = old ∨ t.lcState = v) ∧ t.sec.lcPend = none ∧ t.pwr.failed = true)
  ∧ (∀ (old v : Nat) (b : List Byte) (ns : Nat) (rq : Requester) (c : Instr) (s : State), s.sec.lcPend = some (v, b) →
      s.lcState = old → s.fuse.lc1 = old → (c = .resetPin ns ∨ c = .warmReset rq ∨ c = .coldResetRelease) → Ends c s fun t =>
        (t.lcState = old ∨ t.lcState = v) ∧ (t.sec.lcPend = none ∨ t.fuse = s.fuse))

/-- A reserved counter, one of LE2 or LE3 and one of P32 to P63 on the SKV-4800-2 stays 0 over every command from a
state whose tables are canonical; the counter latch shows it as 0 and not valid, and so does every snapshot.
(16_counters_and_events.md R519) -/
def Obligations.CountersThatNeverCount : Prop :=
  (∀ (k : Nat) (s : State), (553 < k ∨ k = 537 ∨ (k < 128 ∧ 24 < k % 32)
        ∨ s.fuse.part = .skv4800 ∧ (64 ≤ k ∧ k < 128 ∨ 320 ≤ k ∧ k < 512)) → s.cntValid k = false)
  ∧ (∀ (k : Nat) (c : Instr) (s : State), s.wf = true → s.cntValid k = false → s.cntOf k = 0 ∧ Ends c s fun t =>
        t.cntValid k = false ∧ t.cntOf k = 0)
  ∧ (∀ (k : Nat) (s : State), s.fate .host .PERF_CNT_SEL 0 = .takes → k < 1024 → s.cntValid k = false →
      Ends (.counterLatch k) s fun t => t.rd .PERF_CNT_LO_value_lo = 0 ∧ t.rd .PERF_CNT_HI_value_hi = 0
        ∧ t.rd .PERF_CNT_HI_valid = 0)
  ∧ (∀ (k tod : Nat) (x : Walk) (d : Desc) (s : State), k < 768 → s.cntValid k = false → s.perf.walk = some x →
      s.rd .PERF_TLM_CTRL_cnt_ring ≠ 0xFFFF → s.tlmBuf (s.rd .PERF_TLM_CTRL_cnt_ring) = some d → s.padHeld 6 = false →
      Ends (.walkEnd tod) s fun t => .dma d.addr ((s.snapRecord x).take d.len) ∈ t.out
        ∧ slice (s.snapRecord x) (32 + 8 * k) 8 = List.replicate 8 0)

/-- A COLD or WARM reset clears boot_ready; while it reads 0 a write of the host or the test port outside the SYS window
changes nothing and a read there answers 0; it reads 1 at the end of the boot, whose command carries out the restore
of the shelf too. The control cores, which restore the shelf, are not held by the rule (log entry 138).
(17_register_map.md R545) -/
def Obligations.BeforeBootReady : Prop :=
  (∀ (rq : Requester) (addr val : Nat) (s : State), rq ≠ .ctl → s.on .SYS_RST_STATUS_boot_ready = false → 0x10000 ≤ addr →
      addr < 0x1000000 → addr % 4 = 0 → Ends (.regWrite rq addr val) s fun t => t = s)
  ∧ (∀ (rq : Requester) (n : Eng) (ch : HkChId) (x : Nat) (c : Instr) (s : State), rq ≠ .ctl →
      s.on .SYS_RST_STATUS_boot_ready = false → s.hostUnreachable = false →
      (c = .testErrRead rq n ∨ c = .hkRawRead ch ∨ c = .todNsRead x ∨ c = .rtcLoRead x) → Ends c s fun t =>
        t = s.emit (.rdData 0))
  ∧ (∀ (rq : Requester) (ns : Nat) (c : Instr) (s : State),
      (c = .warmReset rq ∧ s.fate rq .SYS_RESET 0 = .takes ∧ s.privileged rq = true
        ∨ c = .resetPin ns ∧ 10000 ≤ ns ∧ s.powerNow ≤ 2 ∧ s.pwr.failed = false ∧ s.pwr.up = 0
        ∨ c = .coldResetRelease ∧ s.pwr.up = 2 ∧ s.pin.mainEn = true) → Ends c s fun t =>
        t.rd .SYS_RST_STATUS_boot_ready = 0)
  ∧ (∀ (obs : BootObs) (s : State), s.on .SYS_RST_STATUS_boot_ready = false → s.hostUnreachable = false → s.pwr.up = 0 →
      Ends (.bootComplete obs) s fun t => t.rd .SYS_RST_STATUS_boot_ready = 1)
end

