-- ==== Sys2Proof/Laws/SMap.lean ====
section
/-! SUPPORT. Laws of the sparse tables: what is read after a change, and that every change keeps the canonical form. -/
namespace Sys2Proof.Machine

variable {α : Type}

theorem SMap.get_ins (d : α) (m : SMap α) (k j : Nat) (v : α) :
    SMap.get d (SMap.ins m k v) j = if k = j then v else SMap.get d m j := by
  induction m with
  | nil => simp [SMap.ins, SMap.get, eq_comm]
  | cons h m ih =>
    obtain ⟨a, b⟩ := h
    unfold SMap.ins
    split
    · simp [SMap.get, eq_comm]
    · split
      · subst_vars
        by_cases h : j = a <;> simp [SMap.get, h, eq_comm]
      · simp only [SMap.get, ih]
        split <;> split <;> simp_all

theorem SMap.get_del (d : α) (m : SMap α) (k j : Nat) :
    SMap.get d (SMap.del m k) j = if k = j then d else SMap.get d m j := by
  induction m with
  | nil => simp [SMap.del, SMap.get]
  | cons h m ih =>
    obtain ⟨a, b⟩ := h
    simp only [SMap.del, List.filter_cons]
    by_cases hk : a = k
    · subst hk
      simp only [bne_self_eq_false, Bool.false_eq_true, if_false]
      change SMap.get d (SMap.del m a) j = _
      rw [ih]
      by_cases hj : a = j
      · simp [hj]
      · have : j ≠ a := fun e => hj e.symm
        simp [SMap.get, hj, this]
    · have : (a != k) = true := by simpa using hk
      simp only [this, if_true, SMap.get]
      change (if j = a then b else SMap.get d (SMap.del m k) j) = _
      rw [ih]
      split <;> split <;> simp_all

/-- Read after write. -/
theorem SMap.get_set [DecidableEq α] (d : α) (m : SMap α) (k j : Nat) (v : α) :
    SMap.get d (SMap.set d m k v) j = if k = j then v else SMap.get d m j := by
  unfold SMap.set
  split
  · subst_vars; rw [SMap.get_del]
  · rw [SMap.get_ins]

@[simp] theorem SMap.get_set_self [DecidableEq α] (d : α) (m : SMap α) (k : Nat) (v : α) :
    SMap.get d (SMap.set d m k v) k = v := by simp [SMap.get_set]

theorem SMap.get_set_ne [DecidableEq α] (d : α) (m : SMap α) {k j : Nat} (v : α) (h : k ≠ j) :
    SMap.get d (SMap.set d m k v) j = SMap.get d m j := by simp [SMap.get_set, h]

/-- A write leaves every other key alone, whatever the default it is read with. -/
theorem SMap.get_set_other [DecidableEq α] (d e : α) (m : SMap α) {k j : Nat} (v : α) (h : k ≠ j) :
    SMap.get e (SMap.set d m k v) j = SMap.get e m j := by
  unfold SMap.set
  split
  · rw [SMap.get_del, if_neg h]
  · rw [SMap.get_ins, if_neg h]

@[simp] theorem SMap.get_mod_self [DecidableEq α] (d : α) (m : SMap α) (k : Nat) (f : α → α) :
    SMap.get d (SMap.mod d m k f) k = f (SMap.get d m k) := by simp [SMap.mod]

theorem SMap.get_mod_ne [DecidableEq α] (d : α) (m : SMap α) {k j : Nat} (f : α → α) (h : k ≠ j) :
    SMap.get d (SMap.mod d m k f) j = SMap.get d m j := by simp [SMap.mod, SMap.get_set_ne, h]

/-! ### The canonical form -/

theorem SMap.wfFrom_mono [DecidableEq α] (d : Nat → α) {m : SMap α} {a b : Nat} (h : a ≤ b)
    (w : SMap.wfFrom d b m = true) : SMap.wfFrom d a m = true := by
  cases m with
  | nil => rfl
  | cons x m =>
    simp only [SMap.wfFrom, Bool.and_eq_true, decide_eq_true_eq] at w ⊢
    exact ⟨⟨le_trans h w.1.1, w.1.2⟩, w.2⟩

/-- Leaving entries out keeps the form. -/
theorem SMap.wfFrom_filter [DecidableEq α] (d : Nat → α) (p : Nat × α → Bool) {m : SMap α} {b : Nat}
    (w : SMap.wfFrom d b m = true) : SMap.wfFrom d b (m.filter p) = true := by
  induction m generalizing b with
  | nil => exact w
  | cons x m ih =>
    obtain ⟨k, v⟩ := x
    simp only [SMap.wfFrom, Bool.and_eq_true, decide_eq_true_eq] at w
    simp only [List.filter_cons]
    split
    · simp only [SMap.wfFrom, Bool.and_eq_true, decide_eq_true_eq]
      exact ⟨w.1, ih w.2⟩
    · exact SMap.wfFrom_mono d (by omega) (ih w.2)

theorem SMap.wfFrom_ins [DecidableEq α] (d : Nat → α) {m : SMap α} {b k : Nat} {v : α} (hb : b ≤ k) (hv : v ≠ d k)
    (w : SMap.wfFrom d b m = true) : SMap.wfFrom d b (SMap.ins m k v) = true := by
  induction m generalizing b with
  | nil => simp [SMap.ins, SMap.wfFrom, hb, hv]
  | cons x m ih =>
    obtain ⟨j, u⟩ := x
    simp only [SMap.wfFrom, Bool.and_eq_true, decide_eq_true_eq] at w
    unfold SMap.ins
    split
    · simp only [SMap.wfFrom, Bool.and_eq_true, decide_eq_true_eq]
      exact ⟨⟨hb, hv⟩, ⟨⟨by omega, w.1.2⟩, w.2⟩⟩
    · split
      · subst_vars
        simp only [SMap.wfFrom, Bool.and_eq_true, decide_eq_true_eq]
        exact ⟨⟨hb, hv⟩, w.2⟩
      · simp only [SMap.wfFrom, Bool.and_eq_true, decide_eq_true_eq]
        exact ⟨w.1, ih (by omega) w.2⟩

/-- A write keeps the form, for a table whose default may depend on the key. -/
theorem SMap.wf_set [DecidableEq α] (d : Nat → α) {m : SMap α} (k : Nat) (v : α) (w : SMap.wf d m = true) :
    SMap.wf d (SMap.set (d k) m k v) = true := by
  unfold SMap.set
  split
  · exact SMap.wfFrom_filter d _ w
  · exact SMap.wfFrom_ins d (Nat.zero_le _) (by assumption) w

theorem SMap.wf_filter [DecidableEq α] (d : Nat → α) (p : Nat × α → Bool) {m : SMap α} (w : SMap.wf d m = true) :
    SMap.wf d (m.filter p) = true := SMap.wfFrom_filter d p w

/-- What holds of every listed value holds after an insertion of a value of which it holds. -/
theorem SMap.all_ins (p : Nat × α → Bool) {m : SMap α} {k : Nat} {v : α} (h : p (k, v) = true)
    (w : m.all p = true) : (SMap.ins m k v).all p = true := by
  induction m with
  | nil => simpa [SMap.ins] using h
  | cons x m ih =>
    obtain ⟨j, u⟩ := x
    simp only [List.all_cons, Bool.and_eq_true] at w
    unfold SMap.ins
    split
    · simp [h, w.1, w.2]
    · split
      · simp [h, w.2]
      · simp [w.1, ih w.2]

theorem SMap.all_filter (p q : Nat × α → Bool) {m : SMap α} (w : m.all p = true) : (m.filter q).all p = true := by
  simp only [List.all_eq_true, List.mem_filter] at w ⊢
  exact fun x hx => w x hx.1

theorem SMap.all_set [DecidableEq α] (p : Nat × α → Bool) (d : α) {m : SMap α} {k : Nat} {v : α}
    (h : p (k, v) = true) (w : m.all p = true) : (SMap.set d m k v).all p = true := by
  unfold SMap.set
  split
  · exact SMap.all_filter p _ w
  · exact SMap.all_ins p h w

end Sys2Proof.Machine
end

