-- ==== Sys2Proof/Laws/Spec.lean ====
section
/-! SUPPORT. What an operation can do, said once: `Spec F s t` says that the change from s to t keeps the tables in
their canonical form, keeps the die's identity and the queue, and touches no register and no part of State whose bit
is clear in the footprint F. Bit r of F is the register of constructor r of Rg; from bit 256 on they are the parts. -/
namespace Sys2Proof.Machine

/-! ### Fields and their keys -/

theorem Fld.ctorIdx_lt (f : Fld) : f.ctorIdx < 1024 := by
  have h : ∀ f : Fld, decide (f.ctorIdx < 1024) = true := by intro f; cases f <;> rfl
  exact of_decide_eq_true (h f)

theorem Fld.ctorIdx_inj {f g : Fld} (h : f.ctorIdx = g.ctorIdx) : f = g := by
  have := congrArg Fld.ofNat h
  rwa [Fld.ofNat_ctorIdx, Fld.ofNat_ctorIdx] at this

theorem Fld.key_mod (f : Fld) (i : Nat) : f.key i % 1024 = f.ctorIdx := by
  have := f.ctorIdx_lt
  unfold Fld.key; omega

theorem Fld.ofKey (f : Fld) (i : Nat) : Fld.ofNat (f.key i % 1024) = f := by rw [Fld.key_mod, Fld.ofNat_ctorIdx]

theorem Fld.key_eq {f g : Fld} {i j : Nat} : f.key i = g.key j ↔ f = g ∧ i = j := by
  constructor
  · intro h
    have hf := f.ctorIdx_lt
    have hg := g.ctorIdx_lt
    unfold Fld.key at h
    exact ⟨Fld.ctorIdx_inj (by omega), by omega⟩
  · rintro ⟨rfl, rfl⟩; rfl

/-- Read after write, for fields. -/
theorem State.rd_wr (s : State) (f g : Fld) (i j v : Nat) :
    (s.wr f i v).rd g j = if f = g ∧ i = j then v % 2 ^ f.info.w else s.rd g j := by
  unfold State.rd State.wr
  by_cases h : f = g ∧ i = j
  · obtain ⟨rfl, rfl⟩ := h
    simp
  · rw [if_neg h]
    exact SMap.get_set_other _ _ _ _ (fun e => h (Fld.key_eq.mp e))

@[simp] theorem State.rd_wr_self (s : State) (f : Fld) (i v : Nat) : (s.wr f i v).rd f i = v % 2 ^ f.info.w := by
  simp [State.rd_wr]

theorem State.rd_wr_ne (s : State) {f g : Fld} (i j v : Nat) (h : f ≠ g) : (s.wr f i v).rd g j = s.rd g j := by
  simp [State.rd_wr, h]

theorem State.rd_wr_inst (s : State) (f g : Fld) {i j : Nat} (v : Nat) (h : i ≠ j) :
    (s.wr f i v).rd g j = s.rd g j := by
  simp [State.rd_wr, h]

/-- A field is read within its width. -/
theorem State.rd_lt {s : State} (h : regsWf s.regs = true) (f : Fld) (i : Nat) : s.rd f i < 2 ^ f.info.w := by
  have hr : ∀ f : Fld, decide (f.info.rst < 2 ^ f.info.w) = true := by intro f; cases f <;> decide
  have hg : ∀ (m : SMap Nat), m.all (fun kv => decide (kv.2 < 2 ^ (Fld.ofNat (kv.1 % 1024)).info.w)) = true →
      SMap.get f.info.rst m (f.key i) < 2 ^ f.info.w := by
    intro m hm
    induction m with
    | nil => exact of_decide_eq_true (hr f)
    | cons x m ih =>
      obtain ⟨k, v⟩ := x
      simp only [List.all_cons, Bool.and_eq_true, decide_eq_true_eq] at hm
      unfold SMap.get
      split
      · rename_i e
        have := hm.1
        rw [← e, Fld.ofKey] at this
        exact this
      · exact ih hm.2
  unfold regsWf at h
  rw [Bool.and_eq_true] at h
  exact hg _ h.2

theorem regsWf_set {m : SMap Nat} (h : regsWf m = true) (f : Fld) (i v : Nat) :
    regsWf (SMap.set f.info.rst m (f.key i) (v % 2 ^ f.info.w)) = true := by
  unfold regsWf at h ⊢
  rw [Bool.and_eq_true] at h ⊢
  refine ⟨?_, SMap.all_set _ _ ?_ h.2⟩
  · have := SMap.wf_set (fun k => (Fld.ofNat (k % 1024)).info.rst) (f.key i) (v % 2 ^ f.info.w) h.1
    simp only [Fld.ofKey] at this
    exact this
  · rw [Fld.ofKey]
    exact decide_eq_true (Nat.mod_lt _ (Nat.two_pow_pos _))

theorem regsWf_filter {m : SMap Nat} (h : regsWf m = true) (p : Nat × Nat → Bool) : regsWf (m.filter p) = true := by
  unfold regsWf at h ⊢
  rw [Bool.and_eq_true] at h ⊢
  exact ⟨SMap.wf_filter _ _ h.1, SMap.all_filter _ _ h.2⟩

/-! ### The relation -/


theorem Comp.same_refl (c : Comp) (s : State) : c.same s s := by cases c <;> rfl
theorem Comp.same_trans (c : Comp) {s t u : State} (h : c.same s t) (g : c.same t u) : c.same s u := by
  cases c <;> exact Eq.trans g h

/-- What the change from s to t can be. -/
structure Spec (F : Nat) (s t : State) : Prop where
  wf : s.wf = true → t.wf = true
  pending : t.pending = s.pending
  die : t.die = s.die
  rd : ∀ f i, F.testBit f.info.rg.ctorIdx = false → t.rd f i = s.rd f i
  keep : ∀ c : Comp, F.testBit (256 + c.ctorIdx) = false → c.same s t

variable {F G : Nat} {s t u : State}

theorem Spec.refl : Spec F s s := ⟨id, rfl, rfl, fun _ _ _ => rfl, fun c _ => c.same_refl s⟩

theorem Spec.mono (h : Spec G s t) (hG : G ||| F = F) : Spec F s t := by
  have hb : ∀ k, F.testBit k = false → G.testBit k = false := by
    intro k hk
    rw [← hG, Nat.testBit_or, Bool.or_eq_false_iff] at hk
    exact hk.1
  exact ⟨h.wf, h.pending, h.die, fun f i hf => h.rd f i (hb _ hf), fun c hc => h.keep c (hb _ hc)⟩

theorem Spec.trans (h : Spec F s t) (g : Spec F t u) : Spec F s u :=
  ⟨g.wf ∘ h.wf, g.pending.trans h.pending, g.die.trans h.die,
    fun f i hf => (g.rd f i hf).trans (h.rd f i hf), fun c hc => c.same_trans (h.keep c hc) (g.keep c hc)⟩

/-- One more operation, whose footprint lies in F. -/
theorem Spec.step (g : Spec G t u) (hG : G ||| F = F) (h : Spec F s t) : Spec F s u := h.trans (g.mono hG)

theorem Spec.ite {c : Prop} [Decidable c] (h : Spec F s t) (g : Spec F s u) : Spec F s (if c then t else u) := by
  split <;> assumption

theorem Spec.ite_pos {c : Prop} [Decidable c] (hc : c) (h : Spec F s t) : Spec F s (if c then t else u) := by
  rwa [if_pos hc]
theorem Spec.ite_neg {c : Prop} [Decidable c] (hc : ¬ c) (h : Spec F s u) : Spec F s (if c then t else u) := by
  rwa [if_neg hc]

theorem Spec.fold {α : Type} {k : State → α → State} (l : List α) (hk : ∀ t x, Spec F t (k t x)) (h : Spec F s t) :
    Spec F s (l.foldl k t) := by
  induction l generalizing t with
  | nil => exact h
  | cons x l ih => exact ih (h.trans (hk t x))

/-- A command answers a next state, and what the change can be. -/
def SpecO (F : Nat) (s : State) (o : Host.Outcome State Fault Refusal) : Prop := ∃ t, o = .next t ∧ Spec F s t

theorem SpecO.next (h : Spec F s t) : SpecO F s (.next t) := ⟨t, rfl, h⟩
theorem SpecO.ok (h : Spec F s t) : SpecO F s (ok t) := ⟨t, rfl, h⟩
theorem SpecO.ite {c : Prop} [Decidable c] {o p : Host.Outcome State Fault Refusal} (h : SpecO F s o)
    (g : SpecO F s p) : SpecO F s (if c then o else p) := by
  split <;> assumption
theorem SpecO.mono {o : Host.Outcome State Fault Refusal} (h : SpecO G s o) (hG : G ||| F = F) : SpecO F s o := by
  obtain ⟨t, e, h⟩ := h
  exact ⟨t, e, h.mono hG⟩
theorem SpecO.step {o : Host.Outcome State Fault Refusal} (g : SpecO G t o) (hG : G ||| F = F) (h : Spec F s t) :
    SpecO F s o := by
  obtain ⟨u, e, g⟩ := g
  exact ⟨u, e, h.trans (g.mono hG)⟩
theorem SpecO.out {o : Host.Outcome State Fault Refusal} (h : SpecO F s o) (e : o = .next t) : Spec F s t := by
  obtain ⟨u, e', h⟩ := h
  rw [e] at e'
  cases e'
  exact h

/-- The same of an operation that answers a state beside a value. -/
def SpecP {α : Type} (F : Nat) (s : State) (p : α × State) : Prop := Spec F s p.2
/-- The same of an operation that answers a value beside a state. -/
def SpecL {α : Type} (F : Nat) (s : State) (p : State × α) : Prop := Spec F s p.1

theorem SpecP.mk {α : Type} {a : α} (h : Spec F s t) : SpecP F s (a, t) := h
theorem SpecL.mk {α : Type} {a : α} (h : Spec F s t) : SpecL F s (t, a) := h
theorem SpecP.fst {α : Type} {p : α × State} (h : SpecP F s p) : Spec F s p.2 := h
theorem SpecL.fst {α : Type} {p : State × α} (h : SpecL F s p) : Spec F s p.1 := h
theorem SpecP.ite {α : Type} {c : Prop} [Decidable c] {p q : α × State} (h : SpecP F s p) (g : SpecP F s q) :
    SpecP F s (if c then p else q) := by
  split <;> assumption
theorem SpecL.ite {α : Type} {c : Prop} [Decidable c] {p q : State × α} (h : SpecL F s p) (g : SpecL F s q) :
    SpecL F s (if c then p else q) := by
  split <;> assumption
theorem SpecP.step {α : Type} {p : α × State} (g : SpecP G t p) (hG : G ||| F = F) (h : Spec F s t) : SpecP F s p :=
  Spec.step g hG h
theorem SpecL.step {α : Type} {p : State × α} (g : SpecL G t p) (hG : G ||| F = F) (h : Spec F s t) : SpecL F s p :=
  Spec.step g hG h
theorem SpecP.fold {α β : Type} {k : β × State → α → β × State} (l : List α)
    (hk : ∀ b t x, SpecP F t (k (b, t) x)) {p : β × State} (h : SpecP F s p) : SpecP F s (l.foldl k p) := by
  induction l generalizing p with
  | nil => exact h
  | cons x l ih => exact ih (Spec.trans h (hk p.1 p.2 x))
theorem SpecL.fold {α β : Type} {k : State × β → α → State × β} (l : List α)
    (hk : ∀ t b x, SpecL F t (k (t, b) x)) {p : State × β} (h : SpecL F s p) : SpecL F s (l.foldl k p) := by
  induction l generalizing p with
  | nil => exact h
  | cons x l ih => exact ih (Spec.trans h (hk p.1 p.2 x))

/-- A change of a part that carries no form of its own. -/
theorem Spec.part (c : Comp) (hF : F.testBit (256 + c.ctorIdx) = true) (hw : s.wf = true → t.wf = true)
    (hp : t.pending = s.pending) (hd : t.die = s.die) (hr : t.regs = s.regs)
    (hk : ∀ d : Comp, d.ctorIdx ≠ c.ctorIdx → d.same s t) : Spec F s t := by
  refine ⟨hw, hp, hd, ?_, ?_⟩
  · intro f i _
    unfold State.rd
    rw [hr]
  · intro d hd'
    by_cases e : d.ctorIdx = c.ctorIdx
    · rw [e, hF] at hd'; exact absurd hd' (by decide)
    · exact hk d e

/-! ### One part of State set -/

section Parts
variable
  {fuse : Fuses}
  {pin : Pins}
  {regs : SMap Nat}
  {cnt : SMap Nat}
  {wrapc : SMap Nat}
  {eng : SMap Engine}
  {port : SMap Port}
  {trib : SMap Trib}
  {grp : SMap Grp}
  {bins : SMap Nat}
  {lock : SMap Locker}
  {ring : SMap RingSt}
  {host : HostSt}
  {mode : ModeSt}
  {pair : PairSt}
  {tim : TimSt}
  {hk : HkSt}
  {cal : CalSt}
  {pwr : PwrSt}
  {cel : CelSt}
  {sec : SecSt}
  {perf : PerfSt}
  {out : List Out}
  {free : Nat}
  {wlog : List (Nat × Nat × Nat)}
  {pending : List Instr}

theorem Spec.set_pin {pin' : Pins} (hF : F.testBit 257 = true)
    (h : Spec F s ⟨fuse, pin, regs, cnt, wrapc, eng, port, trib, grp, bins, lock, ring, host, mode, pair, tim, hk, cal, pwr, cel, sec, perf, out, free, wlog, pending⟩) :
    Spec F s ⟨fuse, pin', regs, cnt, wrapc, eng, port, trib, grp, bins, lock, ring, host, mode, pair, tim, hk, cal, pwr, cel, sec, perf, out, free, wlog, pending⟩ :=
  h.trans (Spec.part .pin hF id rfl rfl rfl
    (fun d hd => by cases d <;> first | rfl | exact absurd rfl hd))

theorem Spec.set_wrapc {wrapc' : SMap Nat} (hF : F.testBit 259 = true) (hw : natWf wrapc = true → natWf wrapc' = true)
    (h : Spec F s ⟨fuse, pin, regs, cnt, wrapc, eng, port, trib, grp, bins, lock, ring, host, mode, pair, tim, hk, cal, pwr, cel, sec, perf, out, free, wlog, pending⟩) :
    Spec F s ⟨fuse, pin, regs, cnt, wrapc', eng, port, trib, grp, bins, lock, ring, host, mode, pair, tim, hk, cal, pwr, cel, sec, perf, out, free, wlog, pending⟩ :=
  h.trans (Spec.part .wrapc hF (fun h => by simp only [State.wf, Bool.and_eq_true] at h ⊢; exact ⟨⟨⟨⟨⟨⟨⟨⟨⟨⟨h.1.1.1.1.1.1.1.1.1.1, h.1.1.1.1.1.1.1.1.1.2⟩, hw h.1.1.1.1.1.1.1.1.2⟩, h.1.1.1.1.1.1.1.2⟩, h.1.1.1.1.1.1.2⟩, h.1.1.1.1.1.2⟩, h.1.1.1.1.2⟩, h.1.1.1.2⟩, h.1.1.2⟩, h.1.2⟩, h.2⟩) rfl rfl rfl
    (fun d hd => by cases d <;> first | rfl | exact absurd rfl hd))

theorem Spec.set_eng {eng' : SMap Engine} (hF : F.testBit 260 = true) (hw : SMap.wf (fun _ => ({} : Engine)) eng = true → SMap.wf (fun _ => ({} : Engine)) eng' = true)
    (h : Spec F s ⟨fuse, pin, regs, cnt, wrapc, eng, port, trib, grp, bins, lock, ring, host, mode, pair, tim, hk, cal, pwr, cel, sec, perf, out, free, wlog, pending⟩) :
    Spec F s ⟨fuse, pin, regs, cnt, wrapc, eng', port, trib, grp, bins, lock, ring, host, mode, pair, tim, hk, cal, pwr, cel, sec, perf, out, free, wlog, pending⟩ :=
  h.trans (Spec.part .eng hF (fun h => by simp only [State.wf, Bool.and_eq_true] at h ⊢; exact ⟨⟨⟨⟨⟨⟨⟨⟨⟨⟨h.1.1.1.1.1.1.1.1.1.1, h.1.1.1.1.1.1.1.1.1.2⟩, h.1.1.1.1.1.1.1.1.2⟩, h.1.1.1.1.1.1.1.2⟩, hw h.1.1.1.1.1.1.2⟩, h.1.1.1.1.1.2⟩, h.1.1.1.1.2⟩, h.1.1.1.2⟩, h.1.1.2⟩, h.1.2⟩, h.2⟩) rfl rfl rfl
    (fun d hd => by cases d <;> first | rfl | exact absurd rfl hd))

theorem Spec.set_port {port' : SMap Port} (hF : F.testBit 261 = true) (hw : SMap.wf (fun _ => ({} : Port)) port = true → SMap.wf (fun _ => ({} : Port)) port' = true)
    (h : Spec F s ⟨fuse, pin, regs, cnt, wrapc, eng, port, trib, grp, bins, lock, ring, host, mode, pair, tim, hk, cal, pwr, cel, sec, perf, out, free, wlog, pending⟩) :
    Spec F s ⟨fuse, pin, regs, cnt, wrapc, eng, port', trib, grp, bins, lock, ring, host, mode, pair, tim, hk, cal, pwr, cel, sec, perf, out, free, wlog, pending⟩ :=
  h.trans (Spec.part .port hF (fun h => by simp only [State.wf, Bool.and_eq_true] at h ⊢; exact ⟨⟨⟨⟨⟨⟨⟨⟨⟨⟨h.1.1.1.1.1.1.1.1.1.1, h.1.1.1.1.1.1.1.1.1.2⟩, h.1.1.1.1.1.1.1.1.2⟩, h.1.1.1.1.1.1.1.2⟩, h.1.1.1.1.1.1.2⟩, hw h.1.1.1.1.1.2⟩, h.1.1.1.1.2⟩, h.1.1.1.2⟩, h.1.1.2⟩, h.1.2⟩, h.2⟩) rfl rfl rfl
    (fun d hd => by cases d <;> first | rfl | exact absurd rfl hd))

theorem Spec.set_trib {trib' : SMap Trib} (hF : F.testBit 262 = true) (hw : SMap.wf (fun _ => ({} : Trib)) trib = true → SMap.wf (fun _ => ({} : Trib)) trib' = true)
    (h : Spec F s ⟨fuse, pin, regs, cnt, wrapc, eng, port, trib, grp, bins, lock, ring, host, mode, pair, tim, hk, cal, pwr, cel, sec, perf, out, free, wlog, pending⟩) :
    Spec F s ⟨fuse, pin, regs, cnt, wrapc, eng, port, trib', grp, bins, lock, ring, host, mode, pair, tim, hk, cal, pwr, cel, sec, perf, out, free, wlog, pending⟩ :=
  h.trans (Spec.part .trib hF (fun h => by simp only [State.wf, Bool.and_eq_true] at h ⊢; exact ⟨⟨⟨⟨⟨⟨⟨⟨⟨⟨h.1.1.1.1.1.1.1.1.1.1, h.1.1.1.1.1.1.1.1.1.2⟩, h.1.1.1.1.1.1.1.1.2⟩, h.1.1.1.1.1.1.1.2⟩, h.1.1.1.1.1.1.2⟩, h.1.1.1.1.1.2⟩, hw h.1.1.1.1.2⟩, h.1.1.1.2⟩, h.1.1.2⟩, h.1.2⟩, h.2⟩) rfl rfl rfl
    (fun d hd => by cases d <;> first | rfl | exact absurd rfl hd))

theorem Spec.set_grp {grp' : SMap Grp} (hF : F.testBit 263 = true) (hw : SMap.wf (fun _ => ({} : Grp)) grp = true → SMap.wf (fun _ => ({} : Grp)) grp' = true)
    (h : Spec F s ⟨fuse, pin, regs, cnt, wrapc, eng, port, trib, grp, bins, lock, ring, host, mode, pair, tim, hk, cal, pwr, cel, sec, perf, out, free, wlog, pending⟩) :
    Spec F s ⟨fuse, pin, regs, cnt, wrapc, eng, port, trib, grp', bins, lock, ring, host, mode, pair, tim, hk, cal, pwr, cel, sec, perf, out, free, wlog, pending⟩ :=
  h.trans (Spec.part .grp hF (fun h => by simp only [State.wf, Bool.and_eq_true] at h ⊢; exact ⟨⟨⟨⟨⟨⟨⟨⟨⟨⟨h.1.1.1.1.1.1.1.1.1.1, h.1.1.1.1.1.1.1.1.1.2⟩, h.1.1.1.1.1.1.1.1.2⟩, h.1.1.1.1.1.1.1.2⟩, h.1.1.1.1.1.1.2⟩, h.1.1.1.1.1.2⟩, h.1.1.1.1.2⟩, hw h.1.1.1.2⟩, h.1.1.2⟩, h.1.2⟩, h.2⟩) rfl rfl rfl
    (fun d hd => by cases d <;> first | rfl | exact absurd rfl hd))

theorem Spec.set_bins {bins' : SMap Nat} (hF : F.testBit 264 = true) (hw : natWf bins = true → natWf bins' = true)
    (h : Spec F s ⟨fuse, pin, regs, cnt, wrapc, eng, port, trib, grp, bins, lock, ring, host, mode, pair, tim, hk, cal, pwr, cel, sec, perf, out, free, wlog, pending⟩) :
    Spec F s ⟨fuse, pin, regs, cnt, wrapc, eng, port, trib, grp, bins', lock, ring, host, mode, pair, tim, hk, cal, pwr, cel, sec, perf, out, free, wlog, pending⟩ :=
  h.trans (Spec.part .bins hF (fun h => by simp only [State.wf, Bool.and_eq_true] at h ⊢; exact ⟨⟨⟨⟨⟨⟨⟨⟨⟨⟨h.1.1.1.1.1.1.1.1.1.1, h.1.1.1.1.1.1.1.1.1.2⟩, h.1.1.1.1.1.1.1.1.2⟩, hw h.1.1.1.1.1.1.1.2⟩, h.1.1.1.1.1.1.2⟩, h.1.1.1.1.1.2⟩, h.1.1.1.1.2⟩, h.1.1.1.2⟩, h.1.1.2⟩, h.1.2⟩, h.2⟩) rfl rfl rfl
    (fun d hd => by cases d <;> first | rfl | exact absurd rfl hd))

theorem Spec.set_lock {lock' : SMap Locker} (hF : F.testBit 265 = true) (hw : SMap.wf (fun _ => ({} : Locker)) lock = true → SMap.wf (fun _ => ({} : Locker)) lock' = true)
    (h : Spec F s ⟨fuse, pin, regs, cnt, wrapc, eng, port, trib, grp, bins, lock, ring, host, mode, pair, tim, hk, cal, pwr, cel, sec, perf, out, free, wlog, pending⟩) :
    Spec F s ⟨fuse, pin, regs, cnt, wrapc, eng, port, trib, grp, bins, lock', ring, host, mode, pair, tim, hk, cal, pwr, cel, sec, perf, out, free, wlog, pending⟩ :=
  h.trans (Spec.part .lock hF (fun h => by simp only [State.wf, Bool.and_eq_true] at h ⊢; exact ⟨⟨⟨⟨⟨⟨⟨⟨⟨⟨h.1.1.1.1.1.1.1.1.1.1, h.1.1.1.1.1.1.1.1.1.2⟩, h.1.1.1.1.1.1.1.1.2⟩, h.1.1.1.1.1.1.1.2⟩, h.1.1.1.1.1.1.2⟩, h.1.1.1.1.1.2⟩, h.1.1.1.1.2⟩, h.1.1.1.2⟩, hw h.1.1.2⟩, h.1.2⟩, h.2⟩) rfl rfl rfl
    (fun d hd => by cases d <;> first | rfl | exact absurd rfl hd))

theorem Spec.set_ring {ring' : SMap RingSt} (hF : F.testBit 266 = true) (hw : SMap.wf (fun _ => ({} : RingSt)) ring = true → SMap.wf (fun _ => ({} : RingSt)) ring' = true)
    (h : Spec F s ⟨fuse, pin, regs, cnt, wrapc, eng, port, trib, grp, bins, lock, ring, host, mode, pair, tim, hk, cal, pwr, cel, sec, perf, out, free, wlog, pending⟩) :
    Spec F s ⟨fuse, pin, regs, cnt, wrapc, eng, port, trib, grp, bins, lock, ring', host, mode, pair, tim, hk, cal, pwr, cel, sec, perf, out, free, wlog, pending⟩ :=
  h.trans (Spec.part .ring hF (fun h => by simp only [State.wf, Bool.and_eq_true] at h ⊢; exact ⟨⟨⟨⟨⟨⟨⟨⟨⟨⟨h.1.1.1.1.1.1.1.1.1.1, h.1.1.1.1.1.1.1.1.1.2⟩, h.1.1.1.1.1.1.1.1.2⟩, h.1.1.1.1.1.1.1.2⟩, h.1.1.1.1.1.1.2⟩, h.1.1.1.1.1.2⟩, h.1.1.1.1.2⟩, h.1.1.1.2⟩, h.1.1.2⟩, hw h.1.2⟩, h.2⟩) rfl rfl rfl
    (fun d hd => by cases d <;> first | rfl | exact absurd rfl hd))

theorem Spec.set_host {host' : HostSt} (hF : F.testBit 267 = true)
    (h : Spec F s ⟨fuse, pin, regs, cnt, wrapc, eng, port, trib, grp, bins, lock, ring, host, mode, pair, tim, hk, cal, pwr, cel, sec, perf, out, free, wlog, pending⟩) :
    Spec F s ⟨fuse, pin, regs, cnt, wrapc, eng, port, trib, grp, bins, lock, ring, host', mode, pair, tim, hk, cal, pwr, cel, sec, perf, out, free, wlog, pending⟩ :=
  h.trans (Spec.part .host hF id rfl rfl rfl
    (fun d hd => by cases d <;> first | rfl | exact absurd rfl hd))

theorem Spec.set_mode {mode' : ModeSt} (hF : F.testBit 268 = true)
    (h : Spec F s ⟨fuse, pin, regs, cnt, wrapc, eng, port, trib, grp, bins, lock, ring, host, mode, pair, tim, hk, cal, pwr, cel, sec, perf, out, free, wlog, pending⟩) :
    Spec F s ⟨fuse, pin, regs, cnt, wrapc, eng, port, trib, grp, bins, lock, ring, host, mode', pair, tim, hk, cal, pwr, cel, sec, perf, out, free, wlog, pending⟩ :=
  h.trans (Spec.part .mode hF id rfl rfl rfl
    (fun d hd => by cases d <;> first | rfl | exact absurd rfl hd))

theorem Spec.set_pair {pair' : PairSt} (hF : F.testBit 269 = true)
    (h : Spec F s ⟨fuse, pin, regs, cnt, wrapc, eng, port, trib, grp, bins, lock, ring, host, mode, pair, tim, hk, cal, pwr, cel, sec, perf, out, free, wlog, pending⟩) :
    Spec F s ⟨fuse, pin, regs, cnt, wrapc, eng, port, trib, grp, bins, lock, ring, host, mode, pair', tim, hk, cal, pwr, cel, sec, perf, out, free, wlog, pending⟩ :=
  h.trans (Spec.part .pair hF id rfl rfl rfl
    (fun d hd => by cases d <;> first | rfl | exact absurd rfl hd))

theorem Spec.set_tim {tim' : TimSt} (hF : F.testBit 270 = true)
    (h : Spec F s ⟨fuse, pin, regs, cnt, wrapc, eng, port, trib, grp, bins, lock, ring, host, mode, pair, tim, hk, cal, pwr, cel, sec, perf, out, free, wlog, pending⟩) :
    Spec F s ⟨fuse, pin, regs, cnt, wrapc, eng, port, trib, grp, bins, lock, ring, host, mode, pair, tim', hk, cal, pwr, cel, sec, perf, out, free, wlog, pending⟩ :=
  h.trans (Spec.part .tim hF id rfl rfl rfl
    (fun d hd => by cases d <;> first | rfl | exact absurd rfl hd))

theorem Spec.set_hk {hk' : HkSt} (hF : F.testBit 271 = true)
    (h : Spec F s ⟨fuse, pin, regs, cnt, wrapc, eng, port, trib, grp, bins, lock, ring, host, mode, pair, tim, hk, cal, pwr, cel, sec, perf, out, free, wlog, pending⟩) :
    Spec F s ⟨fuse, pin, regs, cnt, wrapc, eng, port, trib, grp, bins, lock, ring, host, mode, pair, tim, hk', cal, pwr, cel, sec, perf, out, free, wlog, pending⟩ :=
  h.trans (Spec.part .hk hF id rfl rfl rfl
    (fun d hd => by cases d <;> first | rfl | exact absurd rfl hd))

theorem Spec.set_cal {cal' : CalSt} (hF : F.testBit 272 = true)
    (h : Spec F s ⟨fuse, pin, regs, cnt, wrapc, eng, port, trib, grp, bins, lock, ring, host, mode, pair, tim, hk, cal, pwr, cel, sec, perf, out, free, wlog, pending⟩) :
    Spec F s ⟨fuse, pin, regs, cnt, wrapc, eng, port, trib, grp, bins, lock, ring, host, mode, pair, tim, hk, cal', pwr, cel, sec, perf, out, free, wlog, pending⟩ :=
  h.trans (Spec.part .cal hF id rfl rfl rfl
    (fun d hd => by cases d <;> first | rfl | exact absurd rfl hd))

theorem Spec.set_pwr {pwr' : PwrSt} (hF : F.testBit 273 = true)
    (h : Spec F s ⟨fuse, pin, regs, cnt, wrapc, eng, port, trib, grp, bins, lock, ring, host, mode, pair, tim, hk, cal, pwr, cel, sec, perf, out, free, wlog, pending⟩) :
    Spec F s ⟨fuse, pin, regs, cnt, wrapc, eng, port, trib, grp, bins, lock, ring, host, mode, pair, tim, hk, cal, pwr', cel, sec, perf, out, free, wlog, pending⟩ :=
  h.trans (Spec.part .pwr hF id rfl rfl rfl
    (fun d hd => by cases d <;> first | rfl | exact absurd rfl hd))

theorem Spec.set_cel {cel' : CelSt} (hF : F.testBit 274 = true)
    (h : Spec F s ⟨fuse, pin, regs, cnt, wrapc, eng, port, trib, grp, bins, lock, ring, host, mode, pair, tim, hk, cal, pwr, cel, sec, perf, out, free, wlog, pending⟩) :
    Spec F s ⟨fuse, pin, regs, cnt, wrapc, eng, port, trib, grp, bins, lock, ring, host, mode, pair, tim, hk, cal, pwr, cel', sec, perf, out, free, wlog, pending⟩ :=
  h.trans (Spec.part .cel hF id rfl rfl rfl
    (fun d hd => by cases d <;> first | rfl | exact absurd rfl hd))

theorem Spec.set_sec {sec' : SecSt} (hF : F.testBit 275 = true)
    (h : Spec F s ⟨fuse, pin, regs, cnt, wrapc, eng, port, trib, grp, bins, lock, ring, host, mode, pair, tim, hk, cal, pwr, cel, sec, perf, out, free, wlog, pending⟩) :
    Spec F s ⟨fuse, pin, regs, cnt, wrapc, eng, port, trib, grp, bins, lock, ring, host, mode, pair, tim, hk, cal, pwr, cel, sec', perf, out, free, wlog, pending⟩ :=
  h.trans (Spec.part .sec hF id rfl rfl rfl
    (fun d hd => by cases d <;> first | rfl | exact absurd rfl hd))

theorem Spec.set_perf {perf' : PerfSt} (hF : F.testBit 276 = true)
    (h : Spec F s ⟨fuse, pin, regs, cnt, wrapc, eng, port, trib, grp, bins, lock, ring, host, mode, pair, tim, hk, cal, pwr, cel, sec, perf, out, free, wlog, pending⟩) :
    Spec F s ⟨fuse, pin, regs, cnt, wrapc, eng, port, trib, grp, bins, lock, ring, host, mode, pair, tim, hk, cal, pwr, cel, sec, perf', out, free, wlog, pending⟩ :=
  h.trans (Spec.part .perf hF id rfl rfl rfl
    (fun d hd => by cases d <;> first | rfl | exact absurd rfl hd))

theorem Spec.set_out {out' : List Out} (hF : F.testBit 277 = true)
    (h : Spec F s ⟨fuse, pin, regs, cnt, wrapc, eng, port, trib, grp, bins, lock, ring, host, mode, pair, tim, hk, cal, pwr, cel, sec, perf, out, free, wlog, pending⟩) :
    Spec F s ⟨fuse, pin, regs, cnt, wrapc, eng, port, trib, grp, bins, lock, ring, host, mode, pair, tim, hk, cal, pwr, cel, sec, perf, out', free, wlog, pending⟩ :=
  h.trans (Spec.part .out hF id rfl rfl rfl
    (fun d hd => by cases d <;> first | rfl | exact absurd rfl hd))

theorem Spec.set_free {free' : Nat} (hF : F.testBit 278 = true)
    (h : Spec F s ⟨fuse, pin, regs, cnt, wrapc, eng, port, trib, grp, bins, lock, ring, host, mode, pair, tim, hk, cal, pwr, cel, sec, perf, out, free, wlog, pending⟩) :
    Spec F s ⟨fuse, pin, regs, cnt, wrapc, eng, port, trib, grp, bins, lock, ring, host, mode, pair, tim, hk, cal, pwr, cel, sec, perf, out, free', wlog, pending⟩ :=
  h.trans (Spec.part .free hF id rfl rfl rfl
    (fun d hd => by cases d <;> first | rfl | exact absurd rfl hd))

theorem Spec.set_wlog {wlog' : List (Nat × Nat × Nat)} (hF : F.testBit 279 = true)
    (h : Spec F s ⟨fuse, pin, regs, cnt, wrapc, eng, port, trib, grp, bins, lock, ring, host, mode, pair, tim, hk, cal, pwr, cel, sec, perf, out, free, wlog, pending⟩) :
    Spec F s ⟨fuse, pin, regs, cnt, wrapc, eng, port, trib, grp, bins, lock, ring, host, mode, pair, tim, hk, cal, pwr, cel, sec, perf, out, free, wlog', pending⟩ :=
  h.trans (Spec.part .wlog hF id rfl rfl rfl
    (fun d hd => by cases d <;> first | rfl | exact absurd rfl hd))

end Parts

end Sys2Proof.Machine
end

