-- ==== Sys2Proof/Laws/Ops.lean ====
section
/-! SUPPORT. What the operations of Machine/Ops.lean can do: one lemma each, `<operation>_spec`. -/
namespace Sys2Proof.Machine

/-- The footprint of one field: its register. -/
def Fld.bit (f : Fld) : Nat := 1 <<< f.info.rg.ctorIdx

theorem Fld.bit_self (f : Fld) : f.bit.testBit f.info.rg.ctorIdx = true := by
  simp [Fld.bit, Nat.testBit_shiftLeft]

theorem Fld.bit_high (f : Fld) (k : Nat) : f.bit.testBit (256 + k) = false := by
  have h : ∀ f : Fld, decide (f.info.rg.ctorIdx < 256) = true := by intro f; cases f <;> decide
  have := of_decide_eq_true (h f)
  rw [Fld.bit, Nat.one_shiftLeft, Nat.testBit_two_pow]
  exact decide_eq_false (by omega)

theorem State.wr_spec : ∀ s f i v, Spec f.bit s (State.wr s f i v) := by
  intro s f i v
  refine ⟨?_, rfl, rfl, ?_, fun c _ => by cases c <;> rfl⟩
  · intro h
    simp only [State.wf, Bool.and_eq_true] at h ⊢
    exact ⟨⟨⟨⟨⟨⟨⟨⟨⟨⟨regsWf_set h.1.1.1.1.1.1.1.1.1.1 f i v, h.1.1.1.1.1.1.1.1.1.2⟩, h.1.1.1.1.1.1.1.1.2⟩,
      h.1.1.1.1.1.1.1.2⟩, h.1.1.1.1.1.1.2⟩, h.1.1.1.1.1.2⟩, h.1.1.1.1.2⟩, h.1.1.1.2⟩, h.1.1.2⟩, h.1.2⟩, h.2⟩
  · intro g j hg
    rw [State.rd_wr, if_neg]
    rintro ⟨rfl, -⟩
    rw [Fld.bit_self] at hg
    exact absurd hg (by decide)

theorem State.wrInt_spec : ∀ s f i v, Spec f.bit s (State.wrInt s f i v) := fun s f i _ => State.wr_spec s f i _

theorem Spec.wrs_nil {F : Nat} {s t : State} (h : Spec F s t) : Spec F s (t.wrs []) := h
theorem Spec.wrs_cons {F : Nat} {s t : State} {f : Fld} {i v : Nat} {l : List (Fld × Nat × Nat)}
    (h : Spec F s ((t.wr f i v).wrs l)) : Spec F s (t.wrs ((f, i, v) :: l)) := h

theorem State.setEng_spec : ∀ s n e, Spec 0x100000000000000000000000000000000000000000000000000000000000000000 s (State.setEng s n e) := fun _ n e =>
  Spec.set_eng rfl (SMap.wf_set _ n e) Spec.refl

theorem State.modEng_spec : ∀ s n g, Spec 0x100000000000000000000000000000000000000000000000000000000000000000 s (State.modEng s n g) := fun s n _ => s.setEng_spec n _

theorem State.modAcq_spec : ∀ s n g, Spec 0x100000000000000000000000000000000000000000000000000000000000000000 s (State.modAcq s n g) := fun s n _ => s.modEng_spec n _

theorem State.modFec_spec : ∀ s n g, Spec 0x100000000000000000000000000000000000000000000000000000000000000000 s (State.modFec s n g) := fun s n _ => s.modEng_spec n _

theorem State.modTx_spec : ∀ s n g, Spec 0x100000000000000000000000000000000000000000000000000000000000000000 s (State.modTx s n g) := fun s n _ => s.modEng_spec n _

theorem State.modRx_spec : ∀ s n g, Spec 0x100000000000000000000000000000000000000000000000000000000000000000 s (State.modRx s n g) := fun s n _ => s.modEng_spec n _

theorem State.modPm_spec : ∀ s n g, Spec 0x100000000000000000000000000000000000000000000000000000000000000000 s (State.modPm s n g) := fun s n _ => s.modEng_spec n _

theorem State.modSk_spec : ∀ s n g, Spec 0x100000000000000000000000000000000000000000000000000000000000000000 s (State.modSk s n g) := fun s n _ => s.modEng_spec n _

theorem State.modPort_spec : ∀ s n g, Spec 0x200000000000000000000000000000000000000000000000000000000000000000 s (State.modPort s n g) := fun _ n _ =>
  Spec.set_port rfl (SMap.wf_set _ n _) Spec.refl

theorem State.modTrib_spec : ∀ s n g, Spec 0x400000000000000000000000000000000000000000000000000000000000000000 s (State.modTrib s n g) := fun _ n _ =>
  Spec.set_trib rfl (SMap.wf_set _ n _) Spec.refl

theorem State.modGrp_spec : ∀ s n g, Spec 0x800000000000000000000000000000000000000000000000000000000000000000 s (State.modGrp s n g) := fun _ n _ =>
  Spec.set_grp rfl (SMap.wf_set _ n _) Spec.refl

theorem State.modLock_spec : ∀ s n g, Spec 0x2000000000000000000000000000000000000000000000000000000000000000000 s (State.modLock s n g) := fun _ n _ =>
  Spec.set_lock rfl (SMap.wf_set _ n _) Spec.refl

theorem State.modRing_spec : ∀ s n g, Spec 0x4000000000000000000000000000000000000000000000000000000000000000000 s (State.modRing s n g) := fun _ n _ =>
  Spec.set_ring rfl (SMap.wf_set _ n _) Spec.refl

theorem State.emit_spec : ∀ s o, Spec 0x2000000000000000000000000000000000000000000000000000000000000000000000 s (State.emit s o) := fun _ _ =>
  Spec.ite Spec.refl (Spec.set_out rfl Spec.refl)

theorem State.tick_spec : ∀ s, Spec 0x4000000000000000000000000000000000000000000000000000000000000000000000 s (State.tick s) := fun _ => Spec.set_free rfl Spec.refl

theorem State.sendVector_spec : ∀ s v, Spec 0x2008000000000000000000000000000000000000000000000000000000000000000000 s (State.sendVector s v) := fun s _ =>
  Spec.ite (Spec.set_host rfl Spec.refl) (Spec.ite (Spec.step (s.emit_spec _) rfl Spec.refl) Spec.refl)

/-- The footprint of setting an event bit: its register, and what an interrupt message changes. -/
def Fld.evBit (f : Fld) : Nat := f.bit ||| 0x2008000000000000000000000000000000000000000000000000000000000000000000

theorem or_absorb_left (a b : Nat) : a ||| (a ||| b) = a ||| b := by rw [← Nat.or_assoc, Nat.or_self]
theorem or_absorb_right (a b : Nat) : b ||| (a ||| b) = a ||| b := by rw [Nat.or_comm a b, or_absorb_left]

theorem State.setEv_spec : ∀ s (f : Fld) i v, Spec f.evBit s (State.setEv s f i v) := by
  intro s f i v
  have h : Spec f.evBit s (s.wr f i v) := Spec.step (s.wr_spec f i v) (or_absorb_left _ _) Spec.refl
  exact Spec.ite (Spec.step (State.sendVector_spec _ _) (or_absorb_right _ _) h) h

/-- A change of the counters to values in their range. -/
theorem Spec.set_cnt {F : Nat} {s : State} {m : SMap Nat} (hF : F.testBit 258 = true)
    (hw : s.cntWf = true → ({ s with cnt := m } : State).cntWf = true) : Spec F s { s with cnt := m } :=
  Spec.part .cnt hF (fun h => by
    simp only [State.wf, Bool.and_eq_true] at h ⊢
    exact ⟨⟨⟨⟨⟨⟨⟨⟨⟨⟨h.1.1.1.1.1.1.1.1.1.1, hw h.1.1.1.1.1.1.1.1.1.2⟩, h.1.1.1.1.1.1.1.1.2⟩,
      h.1.1.1.1.1.1.1.2⟩, h.1.1.1.1.1.1.2⟩, h.1.1.1.1.1.2⟩, h.1.1.1.1.2⟩, h.1.1.1.2⟩, h.1.1.2⟩, h.1.2⟩, h.2⟩)
    rfl rfl rfl (fun d hd => by cases d <;> first | rfl | exact absurd rfl hd)

theorem State.noteCnt_spec : ∀ s l, Spec 0x8000000000000000000000000000000000000000000000000000000000000000000000 s (State.noteCnt s l) := fun s _ =>
  Spec.set_wlog (wlog := s.wlog) rfl Spec.refl

theorem State.bump_spec : ∀ s k n, Spec 0x80000c0000000000000000000000002000000000000000000000000000000000000000 s (State.bump s k n) := by
  intro s k n
  unfold State.bump
  by_cases hv : s.cntValid k = true
  · rw [if_neg (by simp [hv])]
    have h : Spec 0x80000c0000000000000000000000002000000000000000000000000000000000000000 s { s with cnt := SMap.set 0 s.cnt k ((s.cntOf k + n) % 2 ^ 48) } := by
      refine Spec.set_cnt rfl fun hw => ?_
      simp only [State.cntWf, Bool.and_eq_true] at hw ⊢
      exact ⟨SMap.wf_set _ k _ hw.1, SMap.all_set _ _ (by
        simp only [Bool.and_eq_true, decide_eq_true_eq]
        exact ⟨hv, Nat.mod_lt _ (by decide)⟩) hw.2⟩
    extract_lets +onlyGivenNames t u
    refine Spec.step (State.noteCnt_spec _ _) rfl ?_
    exact Spec.ite (Spec.step (State.wr_spec _ _ _ _) rfl (Spec.set_wrapc rfl (SMap.wf_set _ k _) h)) h
  · rw [if_pos (by simp [hv])]
    exact Spec.refl

theorem State.cqMessage_spec : ∀ s r, Spec 0x200c000000000000000000000000000000000000000000000000000000000000000000 s (State.cqMessage s r) := fun _ _ =>
  Spec.step (State.sendVector_spec _ _) rfl (Spec.step (State.modRing_spec _ _ _) rfl Spec.refl)

theorem State.writeEntry_spec : ∀ s r h l n, Spec 0x200c000000000000000000000000000000000000000000020000000000000000000000 s (State.writeEntry s r h l n) := by
  intro s r h l n
  delta State.writeEntry
  extract_lets +onlyGivenNames p t u
  have hu : Spec 0x200c000000000000000000000000000000000000000000020000000000000000000000 s u :=
    Spec.step (State.modRing_spec _ _ _) rfl (Spec.step (State.wr_spec _ _ _ _) rfl
      (Spec.step (State.emit_spec _ _) rfl Spec.refl))
  exact Spec.ite (Spec.step (State.cqMessage_spec _ _) rfl hu) hu

/-- The register bits of an event's own bit. -/
def Ev.bit : Ev → Nat
  | .reg f _ => f.evBit
  | .perf _ => Fld.evBit .PERF_EV_ev

theorem State.evBit_spec : ∀ s e, Spec e.bit s (State.evBit s e)
  | s, .reg f i => s.setEv_spec f i _
  | s, .perf _ => s.setEv_spec .PERF_EV_ev 0 _

/-- What the record of an event and the counters it bears on change. -/
def recMask : Nat := 0xb00c0c00000000000000000000000022000000000000000a0000000000000000000000

theorem or_bit {a b : Nat} {k : Nat} (h : b.testBit k = true) : (a ||| b).testBit k = true := by
  rw [Nat.testBit_or, h, Bool.or_true]

theorem or_or_absorb {a b c : Nat} (h : a ||| c = c) : a ||| (b ||| c) = b ||| c := by
  rw [Nat.or_comm b c, ← Nat.or_assoc, h]

theorem State.raiseN_spec : ∀ fuel s e a, Spec (e.bit ||| recMask) s (State.raiseN fuel s e a) := by
  intro fuel
  induction fuel with
  | zero => intro s e a; exact Spec.refl
  | succ fuel ih =>
    intro s e a
    unfold State.raiseN
    extract_lets +onlyGivenNames count sev seq s1 src s2
    have hc : ∀ t k, Spec (e.bit ||| recMask) t (count t k) := by
      intro t k
      have hb : Spec (e.bit ||| recMask) t (t.bump k 1) := Spec.step (t.bump_spec k 1) (or_or_absorb rfl) Spec.refl
      exact Spec.ite (Spec.step (ih _ _ _) (or_or_absorb rfl) hb) hb
    have h2 : Spec (e.bit ||| recMask) s s2 :=
      Spec.set_perf (or_bit rfl) (Spec.step (s.evBit_spec e) (or_absorb_left _ _) Spec.refl)
    clear_value count s2
    split
    · exact Spec.ite ((Spec.step (State.setEv_spec _ _ _ _) (or_or_absorb rfl) h2).trans (hc _ _)) h2
    · extract_lets +onlyGivenNames key
      refine Spec.ite ((Spec.set_perf (or_bit rfl) h2).trans (hc _ _)) ?_
      refine Spec.ite (Spec.trans (Spec.step (State.setEv_spec _ _ _ _) (or_or_absorb rfl)
        (Spec.step (State.modRing_spec _ _ _) (or_or_absorb rfl) h2)) (hc _ _)) ?_
      exact Spec.step (State.writeEntry_spec _ _ _ _ _) (or_or_absorb rfl) (Spec.set_perf (or_bit rfl) h2)

theorem State.raise_spec : ∀ s e a, Spec (e.bit ||| recMask) s (State.raise s e a) := fun s e a => State.raiseN_spec 4 s e a

theorem State.raiseReg_spec : ∀ s f i a, Spec (f.evBit ||| recMask) s (State.raiseReg s f i a) := fun s f i a =>
  s.raise_spec (.reg f i) a

theorem State.raisePerf_spec : ∀ s p a, Spec recMask s (State.raise s (.perf p) a) := fun s p a =>
  Spec.mono (G := Fld.evBit .PERF_EV_ev ||| recMask) (s.raise_spec (.perf p) a) rfl

theorem State.count_spec : ∀ s k n, Spec recMask s (State.count s k n) := fun _ _ _ =>
  Spec.ite (Spec.step (State.raisePerf_spec _ _ _) rfl (Spec.step (State.bump_spec _ _ _) rfl Spec.refl))
    (Spec.step (State.bump_spec _ _ _) rfl Spec.refl)

/-- An event and its counter touch the event's bit and what its record needs. -/
theorem State.raiseCount_spec : ∀ s e a k n, Spec (e.bit ||| recMask) s (State.raiseCount s e a k n) := fun _ _ _ _ _ =>
  Spec.ite (Spec.step (State.count_spec _ _ _) (or_absorb_right _ _) (State.raise_spec _ _ _))
    ((Spec.step (State.count_spec _ _ _) (or_absorb_right _ _) Spec.refl).trans (State.raise_spec _ _ _))

theorem State.raiseCountReg_spec : ∀ s f i a k n, Spec (f.evBit ||| recMask) s (State.raiseCount s (.reg f i) a k n) :=
  fun s f i a k n => s.raiseCount_spec (.reg f i) a k n

theorem State.raiseCountPerf_spec : ∀ s p a k n, Spec recMask s (State.raiseCount s (.perf p) a k n) := fun s p a k n =>
  Spec.mono (G := Fld.evBit .PERF_EV_ev ||| recMask) (s.raiseCount_spec (.perf p) a k n) rfl

theorem State.stale_spec : ∀ s, Spec recMask s (State.stale s) := fun _ =>
  Spec.step (State.count_spec _ _ _) rfl (Spec.step (State.setEv_spec _ _ _ _) rfl Spec.refl)

theorem State.flushCpl_spec : ∀ fuel s r, Spec 0x4000000000000000000000000000000000000000000000000000000000000000000 s (State.flushCpl fuel s r) := by
  intro fuel
  induction fuel with
  | zero => intro s r; exact Spec.refl
  | succ fuel ih =>
    intro s r
    unfold State.flushCpl
    extract_lets +onlyGivenNames q
    split
    · exact Spec.refl
    · exact Spec.step (ih _ _) rfl (Spec.step (State.modRing_spec _ _ _) rfl
        (Spec.step (State.modRing_spec _ _ _) rfl Spec.refl))

theorem State.complete_spec : ∀ s c, Spec 0x4000000000000000000000000000000000000000000000000000000000000000000 s (State.complete s c) := fun _ _ =>
  Spec.step (State.flushCpl_spec _ _ _) rfl (Spec.step (State.modRing_spec _ _ _) rfl Spec.refl)

theorem State.done_spec : ∀ s d a b c, Spec 0x4000000000000000000000000000000000000000000000000000000000000000000 s (State.done s d a b c) := fun s _ _ _ _ => s.complete_spec _
theorem State.refuse_spec : ∀ s d a, Spec 0x4000000000000000000000000000000000000000000000000000000000000000000 s (State.refuse s d a) := fun s _ _ => s.done_spec _ _ _ _
theorem State.popDesc_spec : ∀ s r, Spec 0xc000000000000000000000000000000000000000000000000000000000000000000 s (State.popDesc s r) := fun s _ => by
  delta State.popDesc
  extract_lets t
  have ht : Spec 0xc000000000000000000000000000000000000000000000000000000000000000000 s t := Spec.step (State.modRing_spec _ _ _) rfl Spec.refl
  exact Spec.set_host rfl ht

theorem State.endUnacted_spec : ∀ s d e, Spec 0xc000000000000000000000000000000000000000000000000000000000000000000 s (State.endUnacted s d e) := fun _ _ _ => by
  delta State.endUnacted
  extract_lets t
  exact Spec.ite (Spec.step (State.complete_spec _ _) rfl (Spec.step (State.popDesc_spec _ _) rfl Spec.refl))
    (Spec.step (State.done_spec _ _ _ _ _) rfl (Spec.step (State.popDesc_spec _ _) rfl Spec.refl))

theorem State.drain_spec : ∀ k s, Spec 0xc000000000000000000000000000000000000000000000000000000000000000000 s (State.drain k s) := by
  intro k
  induction k with
  | zero => exact fun _ => Spec.refl
  | succ k ih =>
    intro s
    unfold State.drain
    split
    · exact Spec.refl
    · split
      · exact Spec.refl
      · exact Spec.ite Spec.refl (Spec.step (ih _) rfl (Spec.step (State.endUnacted_spec _ _ _) rfl Spec.refl))

end Sys2Proof.Machine
end

