-- ==== Sys2Proof/Laws/Writes.lean ====
section
/-! SUPPORT. What the writes of whole registers, of the fuses and of the flash, and the resets can do. -/
namespace Sys2Proof.Machine

/-! ### Registers -/

/-- The footprint of a register. -/
def Rg.bit (r : Rg) : Nat := 1 <<< r.ctorIdx

theorem Rg.mem_fields {r : Rg} {f : Fld} (h : f ∈ r.fields) : f.info.rg = r := by
  have hr : ∀ r : Rg, r.fields.all (fun f => f.info.rg == r) = true := by intro r; cases r <;> decide
  exact eq_of_beq (List.all_eq_true.mp (hr r) f h)

theorem Spec.foldMem {F : Nat} {s t : State} {α : Type} {k : State → α → State} (l : List α)
    (hk : ∀ t x, x ∈ l → Spec F t (k t x)) (h : Spec F s t) : Spec F s (l.foldl k t) := by
  induction l generalizing t with
  | nil => exact h
  | cons x l ih =>
    exact ih (fun t y hy => hk t y (List.mem_cons_of_mem _ hy)) (h.trans (hk t x (List.mem_cons_self ..)))

/-- Writes of several fields whose registers lie in the footprint. -/
theorem Spec.foldWr {F : Nat} {s t : State} {v : State → Fld → Nat} {c : Nat} (l : List Fld)
    (hl : l.all (fun f => f.bit ||| F == F) = true) (h : Spec F s t) :
    Spec F s (l.foldl (fun t f => t.wr f c (v t f)) t) :=
  Spec.foldMem l (fun t f hf => Spec.step (t.wr_spec f c _) (eq_of_beq (List.all_eq_true.mp hl f hf)) Spec.refl) h

theorem Rg.fields_bit {r : Rg} {f : Fld} (h : f ∈ r.fields) : f.bit ||| r.bit = r.bit := by
  unfold Fld.bit Rg.bit
  rw [Rg.mem_fields h, Nat.or_self]

/-- A register's footprint lies in one that holds every register. -/
theorem Rg.bit_absorb {F : Nat} (r : Rg) (hF : 0x1ffffffffffffffffffffffffffffffffffffffffff ||| F = F) : r.bit ||| F = F := by
  have hr : ∀ r : Rg, decide (r.bit ||| 0x1ffffffffffffffffffffffffffffffffffffffffff = 0x1ffffffffffffffffffffffffffffffffffffffffff) = true := by intro r; cases r <;> decide
  rw [← hF, ← Nat.or_assoc, of_decide_eq_true (hr r)]

theorem Rg.bit_absorb2 {F G : Nat} (r : Rg) (hF : 0x1ffffffffffffffffffffffffffffffffffffffffff ||| F = F) (hG : G ||| F = F) : (r.bit ||| G) ||| F = F := by
  rw [Nat.or_assoc, hG, Rg.bit_absorb r hF]

theorem State.writeRw_spec : ∀ s (r : Rg) i v but, Spec r.bit s (State.writeRw s r i v but) := fun _ _ _ _ _ =>
  Spec.foldMem _ (fun t f hf => Spec.step (t.wr_spec f _ _) (Rg.fields_bit (List.mem_of_mem_filter hf)) Spec.refl)
    Spec.refl

theorem State.writeW1c_spec : ∀ s (r : Rg) i v but, Spec r.bit s (State.writeW1c s r i v but) := fun _ _ _ _ _ =>
  Spec.foldMem _ (fun t f hf => Spec.step (t.wr_spec f _ _) (Rg.fields_bit (List.mem_of_mem_filter hf)) Spec.refl)
    Spec.refl

theorem State.vector0_spec : ∀ s v, Spec 0x2008000000000000000000000000000000000000000000000000000000000000000000 s (State.vector0 s v) := fun _ _ =>
  Spec.ite Spec.refl (State.sendVector_spec _ _)

theorem State.clearW1c_spec : ∀ s (r : Rg) i v but, Spec (r.bit ||| 0x2008000000000000000000000000000000000000000000000000000000000000000000) s (State.clearW1c s r i v but) := by
  intro s r i v but
  have h : Spec (r.bit ||| 0x2008000000000000000000000000000000000000000000000000000000000000000000) s (s.writeW1c r i v but) :=
    Spec.step (State.writeW1c_spec _ _ _ _ _) (or_absorb_left _ _) Spec.refl
  exact Spec.ite (Spec.step (State.vector0_spec _ _) (or_absorb_right _ _) h) h

theorem State.setRegBytes_spec : ∀ s (f : Fld) a n b, Spec f.bit s (State.setRegBytes s f a n b) := fun _ _ _ _ _ =>
  Spec.fold _ (fun _ _ => State.wr_spec _ _ _ _) Spec.refl

/-- A read that answers, whose own effect lies in the footprint. -/
theorem State.answer_via {F : Nat} {s u : State} {rq : Requester} {r : Rg} {i : Nat} {act : State → State}
    (hF : 0x2000000000000000000000000000000000000000000000000000000000000000000000 ||| F = F) (ha : ∀ t, Spec F t (act t)) (h : Spec F s u) :
    Spec F s (State.answer u rq r i act) := by
  refine Spec.ite h (Spec.ite ?_ (Spec.step (State.emit_spec _ _) hF h))
  exact Spec.step (State.emit_spec _ _) hF (h.trans (ha u))

theorem Fld.bit_absorb {F : Nat} (f : Fld) (hF : 0x1ffffffffffffffffffffffffffffffffffffffffff ||| F = F) : f.bit ||| F = F := f.info.rg.bit_absorb hF
theorem Fld.bit_absorb2 {F G : Nat} (f : Fld) (hF : 0x1ffffffffffffffffffffffffffffffffffffffffff ||| F = F) (hG : G ||| F = F) : (f.bit ||| G) ||| F = F :=
  f.info.rg.bit_absorb2 hF hG

/-! ### Fuses and flash -/

theorem flashProgram_wf {m : List Host.Cell} {a n : Nat} {b : List Byte} (h : flashWf m = true) :
    flashWf (flashProgram m a n b) = true := by
  induction b generalizing m a n with
  | nil => exact h
  | cons x b ih => exact ih (SMap.wf_set _ a _ h)

theorem flashErase_wf {m : List Host.Cell} {a n : Nat} (h : flashWf m = true) : flashWf (flashErase m a n) = true :=
  SMap.wf_filter _ _ h

/-- A change of the fuses that keeps what is fixed and the form of the flash. -/
theorem Spec.set_fuse {F : Nat} {s : State} {x : Fuses} (hF : F.testBit 256 = true)
    (hd : State.die { s with fuse := x } = s.die) (hw : flashWf s.fuse.flash = true → flashWf x.flash = true) :
    Spec F s { s with fuse := x } :=
  Spec.part .fuse hF (fun h => by
    have hp : x.part = s.fuse.part := congrArg Die.part hd
    have hc : ({ s with fuse := x } : State).cntWf = s.cntWf := by
      unfold State.cntWf State.cntValid State.hasEng State.hasPort State.engines State.ports
      rw [show ({ s with fuse := x } : State).fuse.part = s.fuse.part from hp]
    simp only [State.wf, Bool.and_eq_true] at h ⊢
    exact ⟨⟨⟨⟨⟨⟨⟨⟨⟨⟨h.1.1.1.1.1.1.1.1.1.1, hc.trans h.1.1.1.1.1.1.1.1.1.2⟩, h.1.1.1.1.1.1.1.1.2⟩,
      h.1.1.1.1.1.1.1.2⟩, h.1.1.1.1.1.1.2⟩, h.1.1.1.1.1.2⟩, h.1.1.1.1.2⟩, h.1.1.1.2⟩, h.1.1.2⟩, h.1.2⟩, hw h.2⟩)
    rfl hd rfl (fun d hd => by cases d <;> first | rfl | exact absurd rfl hd)

theorem State.shelfProgram_spec : ∀ s k a b, Spec 0x4000010000000000000000000000000000000000000000000000000000000000000000 s (State.shelfProgram s k a b) := fun s _ _ _ =>
  Spec.set_free rfl (Spec.set_fuse (s := s) rfl rfl flashProgram_wf)

theorem State.shelfSpoil_spec : ∀ s k a n, Spec 0x4000010000000000000000000000000000000000000000000000000000000000000000 s (State.shelfSpoil s k a n) := fun s _ _ _ =>
  Spec.set_free rfl (Spec.set_fuse (s := s) rfl rfl (fun h => by
    have hf : ∀ (l : List Nat) (p : Nat → Nat) (q : Nat → Byte) (m : List Host.Cell), flashWf m = true →
        flashWf (l.foldl (fun m i => SMap.set 0xFF m (p i) (q i)) m) = true := by
      intro l p q
      induction l with
      | nil => exact fun _ h => h
      | cons i l ih => exact fun m h => ih _ (SMap.wf_set _ _ _ h)
    exact hf _ _ _ _ h))

theorem State.hdrSpoil_spec : ∀ s k, Spec 0x4000010000000000000000000000000000000000000000000000000000000000000000 s (State.hdrSpoil s k) := fun s _ =>
  Spec.set_free rfl (Spec.set_fuse (s := s) rfl rfl (fun h => by
    have hf : ∀ (l : List (Byte × Nat)) (p : Nat → Nat) (m : List Host.Cell), flashWf m = true →
        flashWf (l.foldl (fun m x => SMap.set 0xFF m (p x.2) x.1) m) = true := by
      intro l p
      induction l with
      | nil => exact fun _ h => h
      | cons x l ih => exact fun m h => ih _ (SMap.wf_set _ _ _ h)
    exact hf _ _ _ h))

theorem State.fuseLc_spec : ∀ s c, Spec 0x10000000000000000000000000000000000000000000000000000000000000000 s (State.fuseLc s c) := fun s _ => Spec.set_fuse (s := s) rfl rfl id

theorem State.rbRaise_spec : ∀ s r, Spec 0x10000000000000000000000000000000000000000000000000000000000000000 s (State.rbRaise s r) := fun s _ =>
  Spec.ite (Spec.set_fuse (s := s) rfl rfl id) Spec.refl

/-! ### Resets -/

/-- A change of the register table that keeps its form. -/
theorem Spec.set_regs {F : Nat} {s : State} {x : SMap Nat} (hF : 0x1ffffffffffffffffffffffffffffffffffffffffff ||| F = F)
    (hw : regsWf s.regs = true → regsWf x = true) : Spec F s { s with regs := x } := by
  refine ⟨fun h => ?_, rfl, rfl, ?_, fun c _ => by cases c <;> rfl⟩
  · simp only [State.wf, Bool.and_eq_true] at h ⊢
    exact ⟨⟨⟨⟨⟨⟨⟨⟨⟨⟨hw h.1.1.1.1.1.1.1.1.1.1, h.1.1.1.1.1.1.1.1.1.2⟩, h.1.1.1.1.1.1.1.1.2⟩,
      h.1.1.1.1.1.1.1.2⟩, h.1.1.1.1.1.1.2⟩, h.1.1.1.1.1.2⟩, h.1.1.1.1.2⟩, h.1.1.1.2⟩, h.1.1.2⟩, h.1.2⟩, h.2⟩
  · intro f i hf
    have := f.info.rg.bit_absorb hF
    rw [← this, Nat.testBit_or, Rg.bit, Nat.one_shiftLeft, Nat.testBit_two_pow_self, Bool.true_or] at hf
    exact Bool.noConfusion hf

theorem State.keepCounters_spec : ∀ s p, Spec 0x80000c0000000000000000000000002000000000000000000000000000000000000000 s (State.keepCounters s p) := by
  intro s p
  delta State.keepCounters
  extract_lets +onlyGivenNames bits gone t
  have h : Spec 0x80000c0000000000000000000000002000000000000000000000000000000000000000 s t := by
    refine Spec.step (State.noteCnt_spec _ _) rfl ?_
    refine Spec.set_wrapc rfl (SMap.wf_filter _ _) (Spec.set_cnt (s := s) rfl fun hw => ?_)
    simp only [State.cntWf, Bool.and_eq_true] at hw ⊢
    exact ⟨SMap.wf_filter _ _ hw.1, SMap.all_filter _ _ hw.2⟩
  exact Spec.fold _ (fun _ _ => Spec.step (State.wr_spec _ _ _ _) rfl Spec.refl) h

theorem State.warmCore_spec : ∀ s, Spec 0xffffff0000000000000000000001ffffffffffffffffffffffffffffffffffffffffff s (State.warmCore s) := by
  intro s
  delta State.warmCore
  extract_lets +onlyGivenNames ids h t
  have ht : Spec 0xffffff0000000000000000000001ffffffffffffffffffffffffffffffffffffffffff s t := by
    refine ⟨fun h => ?_, rfl, rfl, ?_, ?_⟩
    · simp only [State.wf, Bool.and_eq_true] at h ⊢
      exact ⟨⟨⟨⟨⟨⟨⟨⟨⟨⟨regsWf_filter h.1.1.1.1.1.1.1.1.1.1 _, h.1.1.1.1.1.1.1.1.1.2⟩, h.1.1.1.1.1.1.1.1.2⟩,
        rfl⟩, rfl⟩, rfl⟩, rfl⟩, rfl⟩, rfl⟩, rfl⟩, h.2⟩
    · intro f i hf
      have hr : ∀ r : Rg, Nat.testBit 0xffffff0000000000000000000001ffffffffffffffffffffffffffffffffffffffffff r.ctorIdx = true := by intro r; cases r <;> rfl
      rw [hr] at hf
      exact absurd hf (by decide)
    · intro c hc
      cases c <;> exact absurd hc (by decide)
  refine Spec.wrs_cons (Spec.wrs_cons (Spec.wrs_nil ?_))
  exact Spec.step (State.wr_spec _ _ _ _) rfl (Spec.step (State.wr_spec _ _ _ _) rfl
    (Spec.step (State.keepCounters_spec _ _) rfl ht))

theorem State.coldCore_spec : ∀ s b, Spec 0xffffff0000000000000000000001ffffffffffffffffffffffffffffffffffffffffff s (State.coldCore s b) := by
  intro s b
  delta State.coldCore
  extract_lets +onlyGivenNames ids t
  have ht : Spec 0xffffff0000000000000000000001ffffffffffffffffffffffffffffffffffffffffff s t := by
    refine ⟨fun h => ?_, rfl, rfl, ?_, ?_⟩
    · simp only [State.wf, Bool.and_eq_true] at h ⊢
      exact ⟨⟨⟨⟨⟨⟨⟨⟨⟨⟨regsWf_filter h.1.1.1.1.1.1.1.1.1.1 _, rfl⟩, rfl⟩, rfl⟩, rfl⟩, rfl⟩, rfl⟩, rfl⟩, rfl⟩, rfl⟩, h.2⟩
    · intro f i hf
      have hr : ∀ r : Rg, Nat.testBit 0xffffff0000000000000000000001ffffffffffffffffffffffffffffffffffffffffff r.ctorIdx = true := by intro r; cases r <;> rfl
      rw [hr] at hf
      exact absurd hf (by decide)
    · intro c hc
      cases c <;> exact absurd hc (by decide)
  refine Spec.wrs_cons (Spec.wrs_cons (Spec.wrs_cons (Spec.wrs_nil ?_)))
  exact Spec.step (State.wr_spec _ _ _ _) rfl (Spec.step (State.wr_spec _ _ _ _) rfl
    (Spec.step (State.wr_spec _ _ _ _) rfl ht))

theorem State.cellarLost_spec : ∀ s, Spec 0x400000000000000000000000001ffffffffffffffffffffffffffffffffffffffffff s (State.cellarLost s) := fun s =>
  Spec.set_cel rfl (Spec.set_regs (s := s) rfl (fun h => regsWf_filter h _))

end Sys2Proof.Machine
end

