-- ==== Sys2Proof/Laws/Frames01.lean ====
section
/-! SUPPORT. What each operation and each command of the files Machine/Ops, RingOps, FabOps, PerfOps, CalItems can do: one lemma each,
`<name>_spec`, whose first argument is the footprint (Laws/Spec.lean). -/
namespace Sys2Proof.Machine

theorem State.modPair_spec : ∀ a0 a1, Spec 0x20000000000000000000000000000000000000000000000000000000000000000000 a0 (State.modPair a0 a1) := by
  intro a0 a1
  delta State.modPair
  exact (Spec.set_pair rfl Spec.refl)

theorem State.drained_spec : ∀ a0, Spec 0xc000000000000000000000000000000000000000000000000000000000000000000 a0 (State.drained a0) := by
  intro a0
  delta State.drained
  refine Spec.step (State.drain_spec _ _) rfl ?_
  exact Spec.refl

theorem State.settle_spec : ∀ a0 a1 a2, Spec 0xc000000000000000000000000000000000000000000000000000000000000000000 a0 (State.settle a0 a1 a2) := by
  intro a0 a1 a2
  delta State.settle
  refine Spec.ite ?_ ?_
  · exact Spec.refl
  · refine Spec.step (State.drained_spec _) rfl ?_
    exact Spec.refl

theorem State.ringEnable_spec : ∀ a0 a1 a2 a3, Spec 0xb00c0c00000000000000000000000022000000000000000b2000000000000000000000 a0 (State.ringEnable a0 a1 a2 a3) := by
  intro a0 a1 a2 a3
  delta State.ringEnable
  refine Spec.ite ?_ ?_
  · refine Spec.step (State.raiseReg_spec _ _ _ _) rfl ?_
    exact Spec.refl
  · extract_lets -underBinder -merge -useContext +onlyGivenNames x0
    have h1 : Spec 0xb00c0c00000000000000000000000022000000000000000b2000000000000000000000 a0 x0 := by
      refine Spec.foldWr _ rfl ?_
      exact Spec.refl
    clear_value x0
    extract_lets -underBinder -merge -useContext +onlyGivenNames x2
    clear_value x2
    refine Spec.ite ?_ ?_
    · refine Spec.step (State.raiseReg_spec _ _ _ _) rfl ?_
      refine Spec.step (State.wr_spec _ _ _ _) rfl ?_
      refine Spec.step (State.wr_spec _ _ _ _) rfl ?_
      exact h1
    · extract_lets -underBinder -merge -useContext +onlyGivenNames x3
      have h4 : Spec 0xb00c0c00000000000000000000000022000000000000000b2000000000000000000000 a0 x3 := by
        refine Spec.wrs_cons ?_
        refine Spec.wrs_cons ?_
        refine Spec.wrs_cons ?_
        refine Spec.wrs_cons ?_
        refine Spec.wrs_cons ?_
        refine Spec.wrs_nil ?_
        refine Spec.step (State.wr_spec _ _ _ _) rfl ?_
        refine Spec.step (State.wr_spec _ _ _ _) rfl ?_
        refine Spec.step (State.wr_spec _ _ _ _) rfl ?_
        refine Spec.step (State.wr_spec _ _ _ _) rfl ?_
        refine Spec.step (State.wr_spec _ _ _ _) rfl ?_
        exact h1
      clear_value x3
      extract_lets -underBinder -merge -useContext +onlyGivenNames x5
      clear_value x5
      extract_lets -underBinder -merge -useContext +onlyGivenNames x6
      have h7 : Spec 0xb00c0c00000000000000000000000022000000000000000b2000000000000000000000 a0 x6 := by
        exact (Spec.set_host rfl h4)
      clear_value x6
      refine Spec.step (State.modRing_spec _ _ _) rfl ?_
      exact h7

theorem State.abortAll_spec : ∀ a0 a1, Spec 0x4000000000000000000000000000000000000000000000000000000000000000000 a0 (State.abortAll a0 a1) := by
  intro a0 a1
  delta State.abortAll
  refine Spec.fold _ ?_ ?_
  · intro t0 i1
    try dsimp -zeta only
    refine Spec.step (State.done_spec _ _ _ _ _) rfl ?_
    exact Spec.refl
  · exact Spec.refl

theorem State.ohbAbort_spec : ∀ a0 a1, Spec 0x4100000000000000000000000000000000000000000000000000000000000000000 a0 (State.ohbAbort a0 a1) := by
  intro a0 a1
  delta State.ohbAbort
  refine Spec.fold _ ?_ ?_
  · intro t0 i1
    try dsimp -zeta only
    refine Spec.step (State.abortAll_spec _ _) rfl ?_
    refine Spec.step (State.modTx_spec _ _ _) rfl ?_
    exact Spec.refl
  · exact Spec.refl

theorem State.dropCplq_spec : ∀ a0 a1, Spec 0xb00c0c00000000000000000000000022000000000000000a0000000000000000000000 a0 (State.dropCplq a0 a1) := by
  intro a0 a1
  delta State.dropCplq
  extract_lets -underBinder -merge -useContext +onlyGivenNames x0
  clear_value x0
  extract_lets -underBinder -merge -useContext +onlyGivenNames x1
  have h2 : Spec 0xb00c0c00000000000000000000000022000000000000000a0000000000000000000000 a0 x1 := by
    refine Spec.step (State.modRing_spec _ _ _) rfl ?_
    exact Spec.refl
  clear_value x1
  refine Spec.fold _ ?_ ?_
  · intro t3 i4
    try dsimp -zeta only
    refine Spec.step (State.stale_spec _) rfl ?_
    exact Spec.refl
  · exact h2

theorem State.ringError_spec : ∀ a0 a1 a2, Spec 0xb00c0c00000000000000000000000022000000000000000b0000000000000000000000 a0 (State.ringError a0 a1 a2) := by
  intro a0 a1 a2
  delta State.ringError
  refine Spec.step (State.raiseReg_spec _ _ _ _) rfl ?_
  refine Spec.step (State.wr_spec _ _ _ _) rfl ?_
  refine Spec.step (State.wr_spec _ _ _ _) rfl ?_
  exact Spec.refl

theorem State.ringQuiesce_spec : ∀ a0 a1, Spec 0xb00c1c00000000000000000000000022000000000000000b2000000000000000000000 a0 (State.ringQuiesce a0 a1) := by
  intro a0 a1
  delta State.ringQuiesce
  extract_lets -underBinder -merge -useContext +onlyGivenNames x0
  have h1 : Spec 0xb00c1c00000000000000000000000022000000000000000b2000000000000000000000 a0 x0 := by
    refine Spec.step (State.wr_spec _ _ _ _) rfl ?_
    refine Spec.step (State.wr_spec _ _ _ _) rfl ?_
    exact Spec.refl
  clear_value x0
  refine Spec.ite ?_ ?_
  · extract_lets -underBinder -merge -useContext +onlyGivenNames x2
    clear_value x2
    extract_lets -underBinder -merge -useContext +onlyGivenNames x3
    have h4 : Spec 0xb00c1c00000000000000000000000022000000000000000b2000000000000000000000 a0 x3 := by
      refine Spec.step (State.modRing_spec _ _ _) rfl ?_
      exact h1
    clear_value x3
    extract_lets -underBinder -merge -useContext +onlyGivenNames x5
    have h6 : Spec 0xb00c1c00000000000000000000000022000000000000000b2000000000000000000000 a0 x5 := by
      refine Spec.step (State.abortAll_spec _ _) rfl ?_
      refine Spec.step (State.ohbAbort_spec _ _) rfl ?_
      exact h4
    clear_value x5
    exact (Spec.set_host rfl h6)
  · extract_lets -underBinder -merge -useContext +onlyGivenNames x7
    have h8 : Spec 0xb00c1c00000000000000000000000022000000000000000b2000000000000000000000 a0 x7 := by
      refine Spec.step (State.dropCplq_spec _ _) rfl ?_
      exact h1
    clear_value x7
    refine Spec.fold _ ?_ ?_
    · intro t9 i10
      try dsimp -zeta only
      refine Spec.step (State.ringError_spec _ _ _) rfl ?_
      exact Spec.refl
    · exact h8

theorem State.ringDisable_spec : ∀ a0 a1 a2, Spec 0xb00c1c00000000000000000000000022000000000000000b2000000000000000000000 a0 (State.ringDisable a0 a1 a2) := by
  intro a0 a1 a2
  delta State.ringDisable
  extract_lets -underBinder -merge -useContext +onlyGivenNames x0
  clear_value x0
  refine Spec.ite ?_ ?_
  · extract_lets -underBinder -merge -useContext +onlyGivenNames x1
    have h2 : Spec 0xb00c1c00000000000000000000000022000000000000000b2000000000000000000000 a0 x1 := by
      refine Spec.ite ?_ ?_
      · exact Spec.refl
      · refine Spec.step (State.raiseReg_spec _ _ _ _) rfl ?_
        exact Spec.refl
    clear_value x1
    refine Spec.step (State.ringQuiesce_spec _ _) rfl ?_
    exact h2
  · refine Spec.ite ?_ ?_
    · refine Spec.step (State.raiseReg_spec _ _ _ _) rfl ?_
      exact Spec.refl
    · refine Spec.foldWr _ rfl ?_
      exact Spec.refl

theorem State.ringCfgWrite_spec : ∀ a0 a1 a2 a3, Spec 0xb00c1c00000000000000000000000022000000000000000b2000000000000000000000 a0 (State.ringCfgWrite a0 a1 a2 a3) := by
  intro a0 a1 a2 a3
  delta State.ringCfgWrite
  refine Spec.ite ?_ ?_
  · refine Spec.step (State.ringEnable_spec _ _ _ _) rfl ?_
    exact Spec.refl
  · refine Spec.step (State.ringDisable_spec _ _ _) rfl ?_
    exact Spec.refl

theorem State.fillBuf_spec : ∀ a0 a1 a2 a3 a4, Spec 0x2004000000000000000000000000000000000000000000000000000000000000000000 a0 (State.fillBuf a0 a1 a2 a3 a4) := by
  intro a0 a1 a2 a3 a4
  delta State.fillBuf
  extract_lets -underBinder -merge -useContext +onlyGivenNames x0
  have h1 : Spec 0x2004000000000000000000000000000000000000000000000000000000000000000000 a0 x0 := by
    refine Spec.step (State.modRing_spec _ _ _) rfl ?_
    exact Spec.refl
  clear_value x0
  extract_lets -underBinder -merge -useContext +onlyGivenNames x2
  clear_value x2
  refine Spec.step (State.complete_spec _ _) rfl ?_
  refine Spec.step (State.emit_spec _ _) rfl ?_
  exact h1

theorem State.accBad_spec : ∀ a0, Spec 0xb00c0c00000000000000000000000022000000000000000a0000000000000000000000 a0 (State.accBad a0) := by
  intro a0
  delta State.accBad
  refine Spec.step (State.raiseCountReg_spec _ _ _ _ _ _) rfl ?_
  exact Spec.refl

theorem State.flushMsix_spec : ∀ a0, Spec 0x2008000000000000000000000000000000000000000000000000000000000000000000 a0 (State.flushMsix a0) := by
  intro a0
  delta State.flushMsix
  refine Spec.ite ?_ ?_
  · exact Spec.refl
  · extract_lets -underBinder -merge -useContext +onlyGivenNames x0
    clear_value x0
    refine Spec.fold _ ?_ ?_
    · intro t1 i2
      try dsimp -zeta only
      extract_lets -underBinder -merge -useContext +onlyGivenNames x3
      clear_value x3
      extract_lets -underBinder -merge -useContext +onlyGivenNames x4
      have h5 : Spec 0x2008000000000000000000000000000000000000000000000000000000000000000000 t1 x4 := by
        exact (Spec.set_host rfl Spec.refl)
      clear_value x4
      refine Spec.ite ?_ ?_
      · exact h5
      · refine Spec.step (State.emit_spec _ _) rfl ?_
        exact h5
    · exact Spec.refl

theorem State.linkLoss_spec : ∀ a0, Spec 0xb00c1c00000000000000000000000022000000000000000b2000000000000000000000 a0 (State.linkLoss a0) := by
  intro a0
  delta State.linkLoss
  extract_lets -underBinder -merge -useContext +onlyGivenNames x0
  clear_value x0
  extract_lets -underBinder -merge -useContext +onlyGivenNames x1
  clear_value x1
  extract_lets -underBinder -merge -useContext +onlyGivenNames x2
  have h3 : Spec 0xb00c1c00000000000000000000000022000000000000000b2000000000000000000000 a0 x2 := by
    exact (Spec.set_host rfl Spec.refl)
  clear_value x2
  split
  · extract_lets -underBinder -merge -useContext +onlyGivenNames x4
    have h7 : Spec 0xb00c1c00000000000000000000000022000000000000000b2000000000000000000000 a0 x4 := by
      refine Spec.fold _ ?_ ?_
      · intro t5 i6
        try dsimp -zeta only
        refine Spec.step (State.ringQuiesce_spec _ _) rfl ?_
        exact Spec.refl
      · exact h3
    clear_value x4
    extract_lets -underBinder -merge -useContext +onlyGivenNames x8
    have h12 : Spec 0xb00c1c00000000000000000000000022000000000000000b2000000000000000000000 a0 x8 := by
      refine Spec.fold _ ?_ ?_
      · intro t9 i10
        try dsimp -zeta only
        extract_lets -underBinder -merge -useContext +onlyGivenNames x11
        clear_value x11
        refine Spec.step (State.abortAll_spec _ _) rfl ?_
        refine Spec.step (State.modTx_spec _ _ _) rfl ?_
        exact Spec.refl
      · exact h7
    clear_value x8
    extract_lets -underBinder -merge -useContext +onlyGivenNames x13
    have h16 : Spec 0xb00c1c00000000000000000000000022000000000000000b2000000000000000000000 a0 x13 := by
      refine Spec.fold _ ?_ ?_
      · intro t14 i15
        try dsimp -zeta only
        refine Spec.step (State.dropCplq_spec _ _) rfl ?_
        exact Spec.refl
      · exact h12
    clear_value x13
    refine Spec.step (State.raiseReg_spec _ _ _ _) rfl ?_
    exact h16

theorem State.doorbell_spec : ∀ a0 a1 a2, Spec 0xb00c0c00000000000000000000000022000000000000000a0000000000000000000000 a0 (State.doorbell a0 a1 a2) := by
  intro a0 a1 a2
  delta State.doorbell
  extract_lets -underBinder -merge -useContext +onlyGivenNames x0
  clear_value x0
  extract_lets -underBinder -merge -useContext +onlyGivenNames x1
  clear_value x1
  extract_lets -underBinder -merge -useContext +onlyGivenNames x2
  clear_value x2
  extract_lets -underBinder -merge -useContext +onlyGivenNames x3
  clear_value x3
  extract_lets -underBinder -merge -useContext +onlyGivenNames x4
  clear_value x4
  refine Spec.ite ?_ ?_
  · exact Spec.refl
  · refine Spec.ite ?_ ?_
    · refine Spec.step (State.accBad_spec _) rfl ?_
      exact Spec.refl
    · refine Spec.ite ?_ ?_
      · refine Spec.step (State.wr_spec _ _ _ _) rfl ?_
        exact Spec.refl
      · refine Spec.step (State.raiseCountReg_spec _ _ _ _ _ _) rfl ?_
        exact Spec.refl

theorem State.descFetch_spec : ∀ a0 a1 a2, Spec 0xb00c0c00000000000000000000000022000000000000000b0000000000000000000000 a0 (State.descFetch a0 a1 a2) := by
  intro a0 a1 a2
  delta State.descFetch
  split
  · extract_lets -underBinder -merge -useContext +onlyGivenNames x0
    clear_value x0
    extract_lets -underBinder -merge -useContext +onlyGivenNames x1
    clear_value x1
    refine Spec.step (State.done_spec _ _ _ _ _) rfl ?_
    refine Spec.step (State.ringError_spec _ _ _) rfl ?_
    refine Spec.step (State.wr_spec _ _ _ _) rfl ?_
    exact Spec.refl
  · extract_lets -underBinder -merge -useContext +onlyGivenNames x2
    clear_value x2
    refine Spec.step (State.drained_spec _) rfl ?_
    refine Spec.step (State.modRing_spec _ _ _) rfl ?_
    refine Spec.step (State.wr_spec _ _ _ _) rfl ?_
    exact Spec.refl

theorem State.pinRefresh_spec : ∀ a0 a1, Spec 0x10000000000000000000000000000000000000000000000000000000200000000000 a0 (State.pinRefresh a0 a1) := by
  intro a0 a1
  delta State.pinRefresh
  extract_lets -underBinder -merge -useContext +onlyGivenNames x0
  clear_value x0
  extract_lets -underBinder -merge -useContext +onlyGivenNames x1
  clear_value x1
  extract_lets -underBinder -merge -useContext +onlyGivenNames x2
  have h3 : Spec 0x10000000000000000000000000000000000000000000000000000000200000000000 a0 x2 := by
    refine Spec.ite ?_ ?_
    · exact (Spec.set_mode rfl Spec.refl)
    · exact Spec.refl
  clear_value x2
  refine Spec.step (State.wr_spec _ _ _ _) rfl ?_
  exact h3

theorem State.alignShow_spec : ∀ a0 a1, Spec 0x800000000000000000000000000000000000000000000000000000002000000000 a0 (State.alignShow a0 a1) := by
  intro a0 a1
  delta State.alignShow
  extract_lets -underBinder -merge -useContext +onlyGivenNames x0
  clear_value x0
  extract_lets -underBinder -merge -useContext +onlyGivenNames x1
  have h2 : Spec 0x800000000000000000000000000000000000000000000000000000002000000000 a0 x1 := by
    refine Spec.step (State.modGrp_spec _ _ _) rfl ?_
    exact Spec.refl
  clear_value x1
  refine Spec.step (State.wr_spec _ _ _ _) rfl ?_
  exact h2

theorem State.toClient_spec : ∀ a0 a1 a2, Spec 0x2000000000000000000000000000000000000000000000000000000000000000000000 a0 (State.toClient a0 a1 a2) := by
  intro a0 a1 a2
  delta State.toClient
  refine Spec.ite ?_ ?_
  · refine Spec.step (State.emit_spec _ _) rfl ?_
    exact Spec.refl
  · exact Spec.refl

theorem State.endFrame_spec : ∀ a0 a1 a2, Spec 0x2000400000000000000000000000000000000000000000000000000000000000000000 a0 (State.endFrame a0 a1 a2) := by
  intro a0 a1 a2
  delta State.endFrame
  extract_lets -underBinder -merge -useContext +onlyGivenNames x0
  clear_value x0
  extract_lets -underBinder -merge -useContext +onlyGivenNames x1
  have h2 : Spec 0x2000400000000000000000000000000000000000000000000000000000000000000000 a0 x1 := by
    refine Spec.ite ?_ ?_
    · exact Spec.refl
    · refine Spec.step (State.toClient_spec _ _ _) rfl ?_
      exact Spec.refl
  clear_value x1
  refine Spec.step (State.modTrib_spec _ _ _) rfl ?_
  exact h2

theorem State.dlmHunt_spec : ∀ a0 a1, Spec 0x2000400000000000000000000000000000000000000000000000000000008000000000 a0 (State.dlmHunt a0 a1) := by
  intro a0 a1
  delta State.dlmHunt
  refine Spec.step (State.wr_spec _ _ _ _) rfl ?_
  refine Spec.step (State.modTrib_spec _ _ _) rfl ?_
  refine Spec.step (State.endFrame_spec _ _ _) rfl ?_
  exact Spec.refl

theorem State.sfOut_spec : ∀ a0 a1, Spec 0x2000400000000000000000000000000000000000000000000000000000008000000000 a0 (State.sfOut a0 a1) := by
  intro a0 a1
  delta State.sfOut
  refine Spec.ite ?_ ?_
  · refine Spec.step (State.toClient_spec _ _ _) rfl ?_
    exact Spec.refl
  · refine Spec.step (State.toClient_spec _ _ _) rfl ?_
    refine Spec.step (State.dlmHunt_spec _ _) rfl ?_
    exact Spec.refl

theorem State.tribRefresh_spec : ∀ a0 a1, Spec 0x2000c0000000000000000000000000000000000000000000000000000000a000000000 a0 (State.tribRefresh a0 a1) := by
  intro a0 a1
  delta State.tribRefresh
  extract_lets -underBinder -merge -useContext +onlyGivenNames x0
  have h1 : Spec 0x2000c0000000000000000000000000000000000000000000000000000000a000000000 a0 x0 := by
    unfold x0
    split
    · refine Spec.step (State.alignShow_spec _ _) rfl ?_
      exact Spec.refl
    · exact Spec.refl
  clear_value x0
  extract_lets -underBinder -merge -useContext +onlyGivenNames x2
  clear_value x2
  extract_lets -underBinder -merge -useContext +onlyGivenNames x3
  clear_value x3
  extract_lets -underBinder -merge -useContext +onlyGivenNames x4
  have h5 : Spec 0x2000c0000000000000000000000000000000000000000000000000000000a000000000 a0 x4 := by
    refine Spec.step (State.wr_spec _ _ _ _) rfl ?_
    refine Spec.step (State.wr_spec _ _ _ _) rfl ?_
    exact h1
  clear_value x4
  refine Spec.ite ?_ ?_
  · extract_lets -underBinder -merge -useContext +onlyGivenNames x6
    have h7 : Spec 0x2000c0000000000000000000000000000000000000000000000000000000a000000000 a0 x6 := by
      refine Spec.step (State.modTrib_spec _ _ _) rfl ?_
      exact h5
    clear_value x6
    refine Spec.ite ?_ ?_
    · exact h7
    · refine Spec.step (State.sfOut_spec _ _) rfl ?_
      exact h7
  · exact h5

theorem State.fabRefresh_spec : ∀ a0, Spec 0x2000c0000000000000000000000000000000000000000000000000000000a000000000 a0 (State.fabRefresh a0) := by
  intro a0
  delta State.fabRefresh
  refine Spec.fold _ ?_ ?_
  · intro t0 i1
    try dsimp -zeta only
    refine Spec.step (State.tribRefresh_spec _ _) rfl ?_
    exact Spec.refl
  · exact Spec.refl

theorem State.placeShow_spec : ∀ a0 a1 a2 a3, Spec 0x1000000000000 a0 (State.placeShow a0 a1 a2 a3) := by
  intro a0 a1 a2 a3
  delta State.placeShow
  extract_lets -underBinder -merge -useContext +onlyGivenNames x0
  clear_value x0
  extract_lets -underBinder -merge -useContext +onlyGivenNames x1
  clear_value x1
  split
  · refine Spec.wrs_cons ?_
    refine Spec.wrs_cons ?_
    refine Spec.wrs_cons ?_
    refine Spec.wrs_cons ?_
    refine Spec.wrs_nil ?_
    refine Spec.step (State.wr_spec _ _ _ _) rfl ?_
    refine Spec.step (State.wr_spec _ _ _ _) rfl ?_
    refine Spec.step (State.wr_spec _ _ _ _) rfl ?_
    refine Spec.step (State.wr_spec _ _ _ _) rfl ?_
    exact Spec.refl

theorem State.countStale_spec : ∀ a0 a1, Spec 0xb00c0c00000000000000000000000022000000000000000a0000000000000800000000 a0 (State.countStale a0 a1) := by
  intro a0 a1
  delta State.countStale
  refine Spec.ite ?_ ?_
  · exact Spec.refl
  · refine Spec.fold _ ?_ ?_
    · intro t0 i1
      try dsimp -zeta only
      refine Spec.step (State.raiseReg_spec _ _ _ _) rfl ?_
      exact Spec.refl
    · refine Spec.step (State.count_spec _ _ _) rfl ?_
      exact Spec.refl

theorem State.demandNew_spec : ∀ a0 a1, Spec 0x1000000000000 a0 (State.demandNew a0 a1) := by
  intro a0 a1
  delta State.demandNew
  refine Spec.ite ?_ ?_
  · refine Spec.step (State.placeShow_spec _ _ _ _) rfl ?_
    exact Spec.refl
  · refine Spec.ite ?_ ?_
    · refine Spec.step (State.wr_spec _ _ _ _) rfl ?_
      exact Spec.refl
    · exact Spec.refl

theorem State.summary_spec : ∀ a0 a1 a2 a3 a4, Spec 0xb00c0c00000000000000000000000022000000000000000a0000000000000000000000 a0 (State.summary a0 a1 a2 a3 a4) := by
  intro a0 a1 a2 a3 a4
  delta State.summary
  split
  · exact Spec.refl
  · refine Spec.ite ?_ ?_
    · refine Spec.step (State.count_spec _ _ _) rfl ?_
      refine Spec.step (State.setEv_spec _ _ _ _) rfl ?_
      refine Spec.step (State.modRing_spec _ _ _) rfl ?_
      exact Spec.refl
    · refine Spec.step (State.writeEntry_spec _ _ _ _ _) rfl ?_
      exact Spec.refl

theorem State.summaries_spec : ∀ a0, Spec 0xb00c0c00000000000000000000000022000000000000000a0000000000000000000000 a0 (State.summaries a0) := by
  intro a0
  delta State.summaries
  refine Spec.fold _ ?_ ?_
  · intro t0 i1
    try dsimp -zeta only
    refine Spec.step (State.summary_spec _ _ _ _ _) rfl ?_
    exact Spec.refl
  · exact (Spec.set_perf rfl Spec.refl)

theorem State.startWalk_spec : ∀ a0 a1 a2, Spec 0x9000000000000000000000000000000000000000000000000000000000000000000000 a0 (State.startWalk a0 a1 a2) := by
  intro a0 a1 a2
  delta State.startWalk
  split
  · exact (Spec.set_perf rfl Spec.refl)
  · exact (Spec.set_wlog rfl (Spec.set_perf rfl Spec.refl))

theorem State.latchCounter_spec : ∀ a0 a1, Spec 0x1c00000000000000000000000000000000000000 a0 (State.latchCounter a0 a1) := by
  intro a0 a1
  delta State.latchCounter
  extract_lets -underBinder -merge -useContext +onlyGivenNames x0
  clear_value x0
  extract_lets -underBinder -merge -useContext +onlyGivenNames x1
  clear_value x1
  refine Spec.wrs_cons ?_
  refine Spec.wrs_cons ?_
  refine Spec.wrs_cons ?_
  refine Spec.wrs_cons ?_
  refine Spec.wrs_cons ?_
  refine Spec.wrs_nil ?_
  refine Spec.step (State.wr_spec _ _ _ _) rfl ?_
  refine Spec.step (State.wr_spec _ _ _ _) rfl ?_
  refine Spec.step (State.wr_spec _ _ _ _) rfl ?_
  refine Spec.step (State.wr_spec _ _ _ _) rfl ?_
  refine Spec.step (State.wr_spec _ _ _ _) rfl ?_
  exact Spec.refl

theorem State.tlmNobuf_spec : ∀ a0 a1 a2, Spec 0xb00c0c00000000000000000000000022000000000000000a0000000000000000000000 a0 (State.tlmNobuf a0 a1 a2) := by
  intro a0 a1 a2
  delta State.tlmNobuf
  refine Spec.step (State.raiseCountPerf_spec _ _ _ _ _) rfl ?_
  exact Spec.refl

theorem State.writeHkRecord_spec : ∀ a0, Spec 0xb00c0c00000000000000000000000022000000000000000a0000000000000000000000 a0 (State.writeHkRecord a0) := by
  intro a0
  delta State.writeHkRecord
  extract_lets -underBinder -merge -useContext +onlyGivenNames x0
  clear_value x0
  refine Spec.ite ?_ ?_
  · exact Spec.refl
  · refine Spec.ite ?_ ?_
    · exact (Spec.set_perf rfl Spec.refl)
    · extract_lets -underBinder -merge -useContext +onlyGivenNames x1
      clear_value x1
      extract_lets -underBinder -merge -useContext +onlyGivenNames x2
      clear_value x2
      extract_lets -underBinder -merge -useContext +onlyGivenNames x3
      clear_value x3
      extract_lets -underBinder -merge -useContext +onlyGivenNames x4
      have h5 : Spec 0xb00c0c00000000000000000000000022000000000000000a0000000000000000000000 a0 x4 := by
        exact (Spec.set_perf rfl Spec.refl)
      clear_value x4
      split
      · refine Spec.fold _ ?_ ?_
        · intro t6 i7
          try dsimp -zeta only
          refine Spec.step (State.tlmNobuf_spec _ _ _) rfl ?_
          exact Spec.refl
        · exact h5
      · refine Spec.step (State.fillBuf_spec _ _ _ _ _) rfl ?_
        exact h5

theorem State.hkTelemetry_spec : ∀ a0 a1 a2, Spec 0xb00c0c00000000000000000000000022000000000000000a0000000000000000000000 a0 (State.hkTelemetry a0 a1 a2) := by
  intro a0 a1 a2
  delta State.hkTelemetry
  extract_lets -underBinder -merge -useContext +onlyGivenNames x0
  clear_value x0
  refine Spec.ite ?_ ?_
  · exact Spec.refl
  · split
    · refine Spec.step (State.tlmNobuf_spec _ _ _) rfl ?_
      exact Spec.refl
    · refine Spec.ite ?_ ?_
      · refine Spec.step (State.tlmNobuf_spec _ _ _) rfl ?_
        exact Spec.refl
      · extract_lets -underBinder -merge -useContext +onlyGivenNames x1
        clear_value x1
        extract_lets -underBinder -merge -useContext +onlyGivenNames x2
        have h3 : Spec 0xb00c0c00000000000000000000000022000000000000000a0000000000000000000000 a0 x2 := by
          exact (Spec.set_perf rfl Spec.refl)
        clear_value x2
        refine Spec.ite ?_ ?_
        · refine Spec.step (State.writeHkRecord_spec _) rfl ?_
          exact h3
        · exact h3

theorem State.writeSnap_spec : ∀ a0 a1, Spec 0xf00c0c00000000000000000000000022000000000000000a0000000000000000000000 a0 (State.writeSnap a0 a1) := by
  intro a0 a1
  delta State.writeSnap
  extract_lets -underBinder -merge -useContext +onlyGivenNames x0
  clear_value x0
  extract_lets -underBinder -merge -useContext +onlyGivenNames x1
  clear_value x1
  extract_lets -underBinder -merge -useContext +onlyGivenNames x2
  clear_value x2
  extract_lets -underBinder -merge -useContext +onlyGivenNames x3
  have h4 : Spec 0xf00c0c00000000000000000000000022000000000000000a0000000000000000000000 a0 x3 := by
    exact (Spec.set_free rfl (Spec.set_perf rfl Spec.refl))
  clear_value x3
  refine Spec.ite ?_ ?_
  · exact h4
  · split
    · refine Spec.step (State.tlmNobuf_spec _ _ _) rfl ?_
      exact h4
    · refine Spec.step (State.fillBuf_spec _ _ _ _ _) rfl ?_
      exact h4

theorem State.forceCheck_spec : ∀ a0 a1 a2, Spec 0xb10c0c00000000000000000000000022000000010000000a0000000000000000000000 a0 (State.forceCheck a0 a1 a2) := by
  intro a0 a1 a2
  delta State.forceCheck
  refine Spec.ite ?_ ?_
  · exact Spec.refl
  · extract_lets -underBinder -merge -useContext +onlyGivenNames x0
    clear_value x0
    extract_lets -underBinder -merge -useContext +onlyGivenNames x1
    clear_value x1
    extract_lets -underBinder -merge -useContext +onlyGivenNames x2
    have h3 : Spec 0xb10c0c00000000000000000000000022000000010000000a0000000000000000000000 a0 x2 := by
      exact (Spec.set_cal rfl Spec.refl)
    clear_value x2
    extract_lets -underBinder -merge -useContext +onlyGivenNames x4
    clear_value x4
    refine Spec.ite ?_ ?_
    · exact h3
    · refine Spec.step (State.raiseReg_spec _ _ _ _) rfl ?_
      exact (Spec.set_cal rfl h3)

end Sys2Proof.Machine
end

