-- ==== Sys2Proof/Laws/Frames02.lean ====
section
/-! SUPPORT. What each operation and each command of the files Machine/EngOps, Acq, PairOps can do: one lemma each,
`<name>_spec`, whose first argument is the footprint (Laws/Spec.lean). -/
namespace Sys2Proof.Machine

theorem State.decRestart_spec : ∀ a0 a1, Spec 0x100000000000000000000000000000000000000000000000000000000000000000 a0 (State.decRestart a0 a1) := by
  intro a0 a1
  delta State.decRestart
  refine Spec.step (State.modFec_spec _ _ _) rfl ?_
  exact Spec.refl

theorem State.chanDown_spec : ∀ a0 a1, Spec 0xb01c1c00000000000000000000000022000000000000000a0000000000300000000000 a0 (State.chanDown a0 a1) := by
  intro a0 a1
  delta State.chanDown
  extract_lets -underBinder -merge -useContext +onlyGivenNames x0
  have h1 : Spec 0xb01c1c00000000000000000000000022000000000000000a0000000000300000000000 a0 x0 := by
    refine Spec.step (State.modSk_spec _ _ _) rfl ?_
    exact Spec.refl
  clear_value x0
  refine Spec.ite ?_ ?_
  · exact h1
  · refine Spec.step (State.raiseReg_spec _ _ _ _) rfl ?_
    refine Spec.step (State.pinRefresh_spec _ _) rfl ?_
    refine Spec.step (State.wr_spec _ _ _ _) rfl ?_
    exact h1

theorem State.setDefect_spec : ∀ s n d v, Spec 0xb00cdc00000000000000000000000022000000000000000a000000000000a000300000 s (State.setDefect s n d v) := by
  intro s n d v
  have hw : ∀ t v, Spec 0xb00cdc00000000000000000000000022000000000000000a000000000000a000300000 t (t.wr d.fld n v) := fun t v =>
    Spec.step (t.wr_spec _ _ _) (by cases d <;> rfl) Spec.refl
  delta State.setDefect
  refine Spec.ite Spec.refl ?_
  extract_lets -underBinder -merge -useContext +onlyGivenNames x1 x2 x3 x4
  have h1 : Spec 0xb00cdc00000000000000000000000022000000000000000a000000000000a000300000 s x1 := hw _ _
  have h2 : Spec 0xb00cdc00000000000000000000000022000000000000000a000000000000a000300000 s x2 := Spec.ite (Spec.step (State.modPm_spec _ _ _) rfl h1) h1
  have h4 : Spec 0xb00cdc00000000000000000000000022000000000000000a000000000000a000300000 s x4 := Spec.ite (Spec.step (State.fabRefresh_spec _) rfl h2) h2
  exact Spec.step (State.raiseReg_spec _ _ _ _) rfl h4

theorem State.clearBack_spec : ∀ a0 a1, Spec 0xb00cdc00000000000000000000000022000000000000000a000000000000a000300000 a0 (State.clearBack a0 a1) := by
  intro a0 a1
  delta State.clearBack
  refine Spec.step (State.setDefect_spec _ _ _ _) rfl ?_
  refine Spec.step (State.setDefect_spec _ _ _ _) rfl ?_
  refine Spec.step (State.modRx_spec _ _ _) rfl ?_
  exact Spec.refl

theorem State.clearOverheadDefects_spec : ∀ a0 a1, Spec 0xb00cdc00000000000000000000000022000000000000000a000000000000a000300000 a0 (State.clearOverheadDefects a0 a1) := by
  intro a0 a1
  delta State.clearOverheadDefects
  refine Spec.step (State.clearBack_spec _ _) rfl ?_
  refine Spec.step (State.setDefect_spec _ _ _ _) rfl ?_
  refine Spec.step (State.modRx_spec _ _ _) rfl ?_
  exact Spec.refl

theorem State.declareLos_spec : ∀ a0 a1, Spec 0xb01cdc00000000000000000000000022000000000000000a000000000030a000300000 a0 (State.declareLos a0 a1) := by
  intro a0 a1
  delta State.declareLos
  refine Spec.step (State.chanDown_spec _ _) rfl ?_
  refine Spec.step (State.clearOverheadDefects_spec _ _) rfl ?_
  refine Spec.step (State.setDefect_spec _ _ _ _) rfl ?_
  exact Spec.refl

theorem State.anchor_spec : ∀ a0 a1, Spec 0x4000100000000000000000000000000000000000000000000000000000000000000000 a0 (State.anchor a0 a1) := by
  intro a0 a1
  delta State.anchor
  refine Spec.step (State.tick_spec _) rfl ?_
  refine Spec.step (State.modFec_spec _ _ _) rfl ?_
  refine Spec.step (State.modTx_spec _ _ _) rfl ?_
  exact Spec.refl

theorem State.calStop_spec : ∀ a0 a1 a2, Spec 0xb10c0c00000000000000000000000022000000050000000a0000000000000000000000 a0 (State.calStop a0 a1 a2) := by
  intro a0 a1 a2
  delta State.calStop
  extract_lets -underBinder -merge -useContext +onlyGivenNames x0
  clear_value x0
  extract_lets -underBinder -merge -useContext +onlyGivenNames x1
  have h2 : Spec 0xb10c0c00000000000000000000000022000000050000000a0000000000000000000000 a0 x1 := by
    exact (Spec.set_cal rfl Spec.refl)
  clear_value x1
  refine Spec.step (State.forceCheck_spec _ _ _) rfl ?_
  refine Spec.step (State.wr_spec _ _ _ _) rfl ?_
  exact h2

theorem State.dropFmtFar_spec : ∀ a0 a1, Spec 0x100000000000000000000000000000000000000000000000000000000000100000 a0 (State.dropFmtFar a0 a1) := by
  intro a0 a1
  delta State.dropFmtFar
  refine Spec.step (State.wr_spec _ _ _ _) rfl ?_
  refine Spec.step (State.modRx_spec _ _ _) rfl ?_
  exact Spec.refl

theorem State.rxLost_spec : ∀ a0 a1, Spec 0xb00c1c00000000000000000000000022000000000000000a0000000000000000100000 a0 (State.rxLost a0 a1) := by
  intro a0 a1
  delta State.rxLost
  extract_lets -underBinder -merge -useContext +onlyGivenNames x0
  clear_value x0
  extract_lets -underBinder -merge -useContext +onlyGivenNames x1
  have h2 : Spec 0xb00c1c00000000000000000000000022000000000000000a0000000000000000100000 a0 x1 := by
    refine Spec.ite ?_ ?_
    · refine Spec.step (State.dropFmtFar_spec _ _) rfl ?_
      refine Spec.step (State.wr_spec _ _ _ _) rfl ?_
      exact Spec.refl
    · exact Spec.refl
  clear_value x1
  extract_lets -underBinder -merge -useContext +onlyGivenNames x3
  clear_value x3
  extract_lets -underBinder -merge -useContext +onlyGivenNames x4
  clear_value x4
  extract_lets -underBinder -merge -useContext +onlyGivenNames x5
  have h6 : Spec 0xb00c1c00000000000000000000000022000000000000000a0000000000000000100000 a0 x5 := by
    refine Spec.ite ?_ ?_
    · exact h2
    · refine Spec.step (State.count_spec _ _ _) rfl ?_
      exact h2
  clear_value x5
  extract_lets -underBinder -merge -useContext +onlyGivenNames x7
  have h8 : Spec 0xb00c1c00000000000000000000000022000000000000000a0000000000000000100000 a0 x7 := by
    refine Spec.step (State.modFec_spec _ _ _) rfl ?_
    exact h6
  clear_value x7
  extract_lets -underBinder -merge -useContext +onlyGivenNames x9
  clear_value x9
  extract_lets -underBinder -merge -useContext +onlyGivenNames x10
  clear_value x10
  refine Spec.step (State.modRx_spec _ _ _) rfl ?_
  exact h8

theorem State.decSpoil_spec : ∀ a0 a1, Spec 0x100000000000000000000000000000000000000000000000000000000000000000 a0 (State.decSpoil a0 a1) := by
  intro a0 a1
  delta State.decSpoil
  refine Spec.step (State.modFec_spec _ _ _) rfl ?_
  exact Spec.refl

theorem State.dropLock_spec : ∀ a0 a1, Spec 0xb10c1c00000000000000000000000022000000050000000a00000000000000001013a0 a0 (State.dropLock a0 a1) := by
  intro a0 a1
  delta State.dropLock
  extract_lets -underBinder -merge -useContext +onlyGivenNames x0
  have h1 : Spec 0xb10c1c00000000000000000000000022000000050000000a00000000000000001013a0 a0 x0 := by
    refine Spec.wrs_cons ?_
    refine Spec.wrs_cons ?_
    refine Spec.wrs_cons ?_
    refine Spec.wrs_cons ?_
    refine Spec.wrs_cons ?_
    refine Spec.wrs_cons ?_
    refine Spec.wrs_nil ?_
    refine Spec.step (State.wr_spec _ _ _ _) rfl ?_
    refine Spec.step (State.wr_spec _ _ _ _) rfl ?_
    refine Spec.step (State.wr_spec _ _ _ _) rfl ?_
    refine Spec.step (State.wr_spec _ _ _ _) rfl ?_
    refine Spec.step (State.wr_spec _ _ _ _) rfl ?_
    refine Spec.step (State.wr_spec _ _ _ _) rfl ?_
    exact Spec.refl
  clear_value x0
  extract_lets -underBinder -merge -useContext +onlyGivenNames x2
  have h3 : Spec 0xb10c1c00000000000000000000000022000000050000000a00000000000000001013a0 a0 x2 := by
    refine Spec.step (State.wr_spec _ _ _ _) rfl ?_
    refine Spec.step (State.calStop_spec _ _ _) rfl ?_
    exact h1
  clear_value x2
  refine Spec.step (State.rxLost_spec _ _) rfl ?_
  refine Spec.step (State.modFec_spec _ _ _) rfl ?_
  refine Spec.step (State.decSpoil_spec _ _) rfl ?_
  exact h3

theorem State.acqStop_spec : ∀ a0 a1, Spec 0xb10c1c00000000000000000000000022000000050000000a00000000000000001013a0 a0 (State.acqStop a0 a1) := by
  intro a0 a1
  delta State.acqStop
  extract_lets -underBinder -merge -useContext +onlyGivenNames x0
  have h1 : Spec 0xb10c1c00000000000000000000000022000000050000000a00000000000000001013a0 a0 x0 := by
    refine Spec.ite ?_ ?_
    · refine Spec.step (State.dropLock_spec _ _) rfl ?_
      exact Spec.refl
    · refine Spec.step (State.rxLost_spec _ _) rfl ?_
      exact Spec.refl
  clear_value x0
  extract_lets -underBinder -merge -useContext +onlyGivenNames x2
  have h3 : Spec 0xb10c1c00000000000000000000000022000000050000000a00000000000000001013a0 a0 x2 := by
    refine Spec.step (State.calStop_spec _ _ _) rfl ?_
    refine Spec.step (State.modTx_spec _ _ _) rfl ?_
    refine Spec.step (State.modAcq_spec _ _ _) rfl ?_
    exact h1
  clear_value x2
  refine Spec.wrs_cons ?_
  refine Spec.wrs_cons ?_
  refine Spec.wrs_cons ?_
  refine Spec.wrs_cons ?_
  refine Spec.wrs_cons ?_
  refine Spec.wrs_nil ?_
  refine Spec.step (State.wr_spec _ _ _ _) rfl ?_
  refine Spec.step (State.wr_spec _ _ _ _) rfl ?_
  refine Spec.step (State.wr_spec _ _ _ _) rfl ?_
  refine Spec.step (State.wr_spec _ _ _ _) rfl ?_
  refine Spec.step (State.wr_spec _ _ _ _) rfl ?_
  exact h3

theorem State.setAcq_spec : ∀ a0 a1 a2, Spec 0x20 a0 (State.setAcq a0 a1 a2) := by
  intro a0 a1 a2
  delta State.setAcq
  refine Spec.step (State.wr_spec _ _ _ _) rfl ?_
  exact Spec.refl

theorem State.acqStart_spec : ∀ a0 a1, Spec 0x100000000000000000000000000000000000000000000000000000000000000020 a0 (State.acqStart a0 a1) := by
  intro a0 a1
  delta State.acqStart
  refine Spec.ite ?_ ?_
  · refine Spec.step (State.setAcq_spec _ _ _) rfl ?_
    refine Spec.step (State.modAcq_spec _ _ _) rfl ?_
    exact Spec.refl
  · exact Spec.refl

theorem State.dacShow_spec : ∀ a0 a1, Spec 0x20000000000000000000000000000000000000000000000000000000000000000 a0 (State.dacShow a0 a1) := by
  intro a0 a1
  delta State.dacShow
  exact (Spec.set_pin rfl Spec.refl)

theorem State.shareDrop_spec : ∀ a0 a1, Spec 0x800000000000000000000000000000000000000000000000000000000000000000 a0 (State.shareDrop a0 a1) := by
  intro a0 a1
  delta State.shareDrop
  refine Spec.fold _ ?_ ?_
  · intro t0 i1
    try dsimp -zeta only
    refine Spec.step (State.modGrp_spec _ _ _) rfl ?_
    exact Spec.refl
  · exact Spec.refl

theorem State.setLevel_spec : ∀ a0 a1 a2, Spec 0xb01c1c00000000000000000000000022000000000000000a0000000000200000300000 a0 (State.setLevel a0 a1 a2) := by
  intro a0 a1 a2
  delta State.setLevel
  extract_lets -underBinder -merge -useContext +onlyGivenNames x0
  clear_value x0
  extract_lets -underBinder -merge -useContext +onlyGivenNames x1
  have h2 : Spec 0xb01c1c00000000000000000000000022000000000000000a0000000000200000300000 a0 x1 := by
    refine Spec.step (State.pinRefresh_spec _ _) rfl ?_
    refine Spec.step (State.wr_spec _ _ _ _) rfl ?_
    refine Spec.step (State.modTx_spec _ _ _) rfl ?_
    exact Spec.refl
  clear_value x1
  refine Spec.ite ?_ ?_
  · refine Spec.step (State.raiseReg_spec _ _ _ _) rfl ?_
    exact h2
  · exact h2

theorem State.txStart_spec : ∀ a0 a1, Spec 0xf01c9e00000000000000000000000022000000000000000a0000000000200000300002 a0 (State.txStart a0 a1) := by
  intro a0 a1
  delta State.txStart
  extract_lets -underBinder -merge -useContext +onlyGivenNames x0
  have h1 : Spec 0xf01c9e00000000000000000000000022000000000000000a0000000000200000300002 a0 x0 := by
    refine Spec.step (State.dacShow_spec _ _) rfl ?_
    refine Spec.step (State.wr_spec _ _ _ _) rfl ?_
    exact Spec.refl
  clear_value x0
  extract_lets -underBinder -merge -useContext +onlyGivenNames x2
  have h3 : Spec 0xf01c9e00000000000000000000000022000000000000000a0000000000200000300002 a0 x2 := by
    refine Spec.step (State.modFec_spec _ _ _) rfl ?_
    exact h1
  clear_value x2
  refine Spec.ite ?_ ?_
  · exact h3
  · extract_lets -underBinder -merge -useContext +onlyGivenNames x4
    have h5 : Spec 0xf01c9e00000000000000000000000022000000000000000a0000000000200000300002 a0 x4 := by
      refine Spec.step (State.modTx_spec _ _ _) rfl ?_
      exact h3
    clear_value x4
    extract_lets -underBinder -merge -useContext +onlyGivenNames x6
    have h7 : Spec 0xf01c9e00000000000000000000000022000000000000000a0000000000200000300002 a0 x6 := by
      refine Spec.step (State.shareDrop_spec _ _) rfl ?_
      refine Spec.ite ?_ ?_
      · refine Spec.step (State.anchor_spec _ _) rfl ?_
        exact h5
      · exact h5
    clear_value x6
    refine Spec.ite ?_ ?_
    · refine Spec.step (State.setLevel_spec _ _ _) rfl ?_
      exact h7
    · exact h7

theorem State.txStop_spec : ∀ a0 a1, Spec 0xb10c9e00000000000000000000000022000000050000000a0000000000000000000002 a0 (State.txStop a0 a1) := by
  intro a0 a1
  delta State.txStop
  extract_lets -underBinder -merge -useContext +onlyGivenNames x0
  have h1 : Spec 0xb10c9e00000000000000000000000022000000050000000a0000000000000000000002 a0 x0 := by
    refine Spec.step (State.dacShow_spec _ _) rfl ?_
    refine Spec.step (State.wr_spec _ _ _ _) rfl ?_
    exact Spec.refl
  clear_value x0
  refine Spec.step (State.calStop_spec _ _ _) rfl ?_
  refine Spec.step (State.shareDrop_spec _ _) rfl ?_
  refine Spec.step (State.modTx_spec _ _ _) rfl ?_
  exact h1

theorem State.txRefresh_spec : ∀ a0 a1, Spec 0xf11c9e00000000000000000000000022000000050000000a0000000000200000300002 a0 (State.txRefresh a0 a1) := by
  intro a0 a1
  delta State.txRefresh
  extract_lets -underBinder -merge -useContext +onlyGivenNames x0
  clear_value x0
  refine Spec.ite ?_ ?_
  · refine Spec.step (State.txStart_spec _ _) rfl ?_
    exact Spec.refl
  · refine Spec.ite ?_ ?_
    · refine Spec.step (State.txStop_spec _ _) rfl ?_
      exact Spec.refl
    · refine Spec.step (State.dacShow_spec _ _) rfl ?_
      exact Spec.refl

theorem State.excessClear_spec : ∀ a0 a1, Spec 0x2000d0000000000000000000000000000000000000000000000000000000a000001000 a0 (State.excessClear a0 a1) := by
  intro a0 a1
  delta State.excessClear
  refine Spec.step (State.fabRefresh_spec _) rfl ?_
  refine Spec.step (State.modFec_spec _ _ _) rfl ?_
  refine Spec.step (State.wr_spec _ _ _ _) rfl ?_
  exact Spec.refl

theorem State.clearDefects_spec : ∀ a0 a1, Spec 0xb00cdc00000000000000000000000022000000000000000a000000000000a000300000 a0 (State.clearDefects a0 a1) := by
  intro a0 a1
  delta State.clearDefects
  refine Spec.step (State.setDefect_spec _ _ _ _) rfl ?_
  refine Spec.step (State.setDefect_spec _ _ _ _) rfl ?_
  refine Spec.step (State.clearOverheadDefects_spec _ _) rfl ?_
  exact Spec.refl

theorem State.winRestart_spec : ∀ a0 a1, Spec 0x100000000000000000000000000000000000000000000000000000000000000200 a0 (State.winRestart a0 a1) := by
  intro a0 a1
  delta State.winRestart
  refine Spec.step (State.wr_spec _ _ _ _) rfl ?_
  refine Spec.step (State.modAcq_spec _ _ _) rfl ?_
  exact Spec.refl

theorem State.declareLof_spec : ∀ a0 a1, Spec 0xb01cdc00000000000000000000000022000000000000000a000000000030a000300000 a0 (State.declareLof a0 a1) := by
  intro a0 a1
  delta State.declareLof
  refine Spec.step (State.chanDown_spec _ _) rfl ?_
  refine Spec.step (State.clearOverheadDefects_spec _ _) rfl ?_
  refine Spec.step (State.setDefect_spec _ _ _ _) rfl ?_
  exact Spec.refl

theorem State.enterSearch_spec : ∀ a0 a1, Spec 0x100000000000000000000000000000000000000000000000000000000000000020 a0 (State.enterSearch a0 a1) := by
  intro a0 a1
  delta State.enterSearch
  extract_lets -underBinder -merge -useContext +onlyGivenNames x0
  clear_value x0
  extract_lets -underBinder -merge -useContext +onlyGivenNames x1
  clear_value x1
  extract_lets -underBinder -merge -useContext +onlyGivenNames x2
  clear_value x2
  extract_lets -underBinder -merge -useContext +onlyGivenNames x3
  have h4 : Spec 0x100000000000000000000000000000000000000000000000000000000000000020 a0 x3 := by
    refine Spec.step (State.modAcq_spec _ _ _) rfl ?_
    exact Spec.refl
  clear_value x3
  refine Spec.ite ?_ ?_
  · refine Spec.step (State.setAcq_spec _ _ _) rfl ?_
    refine Spec.step (State.modAcq_spec _ _ _) rfl ?_
    exact h4
  · refine Spec.step (State.setAcq_spec _ _ _) rfl ?_
    refine Spec.step (State.wr_spec _ _ _ _) rfl ?_
    exact h4

theorem State.gainLock_spec : ∀ a0 a1, Spec 0xb10c1c00000000000000000000000022000000000000000a0000000000000000000260 a0 (State.gainLock a0 a1) := by
  intro a0 a1
  delta State.gainLock
  extract_lets -underBinder -merge -useContext +onlyGivenNames x0
  have h1 : Spec 0xb10c1c00000000000000000000000022000000000000000a0000000000000000000260 a0 x0 := by
    refine Spec.step (State.wr_spec _ _ _ _) rfl ?_
    refine Spec.step (State.setAcq_spec _ _ _) rfl ?_
    exact Spec.refl
  clear_value x0
  extract_lets -underBinder -merge -useContext +onlyGivenNames x2
  clear_value x2
  extract_lets -underBinder -merge -useContext +onlyGivenNames x3
  have h4 : Spec 0xb10c1c00000000000000000000000022000000000000000a0000000000000000000260 a0 x3 := by
    exact (Spec.set_cal rfl h1)
  clear_value x3
  extract_lets -underBinder -merge -useContext +onlyGivenNames x5
  have h6 : Spec 0xb10c1c00000000000000000000000022000000000000000a0000000000000000000260 a0 x5 := by
    refine Spec.step (State.decRestart_spec _ _) rfl ?_
    refine Spec.step (State.winRestart_spec _ _) rfl ?_
    refine Spec.step (State.modAcq_spec _ _ _) rfl ?_
    exact h4
  clear_value x5
  refine Spec.step (State.raiseReg_spec _ _ _ _) rfl ?_
  exact h6

theorem State.acqFail_spec : ∀ a0 a1, Spec 0xb00c1c00000000000000000000000022000000000000000a0000000000000000000060 a0 (State.acqFail a0 a1) := by
  intro a0 a1
  delta State.acqFail
  refine Spec.step (State.enterSearch_spec _ _) rfl ?_
  refine Spec.step (State.raiseCountReg_spec _ _ _ _ _ _) rfl ?_
  exact Spec.refl

theorem State.clearLos_spec : ∀ a0 a1, Spec 0xb01cdc00000000000000000000000022000000000000000a000000000030a000300000 a0 (State.clearLos a0 a1) := by
  intro a0 a1
  delta State.clearLos
  refine Spec.ite ?_ ?_
  · exact Spec.refl
  · extract_lets -underBinder -merge -useContext +onlyGivenNames x0
    have h1 : Spec 0xb01cdc00000000000000000000000022000000000000000a000000000030a000300000 a0 x0 := by
      refine Spec.step (State.setDefect_spec _ _ _ _) rfl ?_
      exact Spec.refl
    clear_value x0
    refine Spec.ite ?_ ?_
    · refine Spec.step (State.declareLof_spec _ _) rfl ?_
      exact h1
    · exact h1

theorem State.sigRise_spec : ∀ a0 a1, Spec 0xb01cdc00000000000000000000000022000000000000000a000000000030a000300020 a0 (State.sigRise a0 a1) := by
  intro a0 a1
  delta State.sigRise
  extract_lets -underBinder -merge -useContext +onlyGivenNames x0
  have h1 : Spec 0xb01cdc00000000000000000000000022000000000000000a000000000030a000300020 a0 x0 := by
    refine Spec.step (State.clearLos_spec _ _) rfl ?_
    refine Spec.step (State.wr_spec _ _ _ _) rfl ?_
    exact Spec.refl
  clear_value x0
  refine Spec.ite ?_ ?_
  · refine Spec.step (State.enterSearch_spec _ _) rfl ?_
    exact h1
  · exact h1

theorem State.unlock_spec : ∀ a0 a1, Spec 0xb10c1c00000000000000000000000022000000050000000a00000000000000001013e0 a0 (State.unlock a0 a1) := by
  intro a0 a1
  delta State.unlock
  extract_lets -underBinder -merge -useContext +onlyGivenNames x0
  have h1 : Spec 0xb10c1c00000000000000000000000022000000050000000a00000000000000001013e0 a0 x0 := by
    refine Spec.step (State.setAcq_spec _ _ _) rfl ?_
    refine Spec.step (State.modAcq_spec _ _ _) rfl ?_
    exact Spec.refl
  clear_value x0
  refine Spec.step (State.raiseReg_spec _ _ _ _) rfl ?_
  refine Spec.step (State.dropLock_spec _ _) rfl ?_
  exact h1

theorem State.sigFall_spec : ∀ a0 a1, Spec 0xb11cdc00000000000000000000000022000000050000000a000000000030a0003013e0 a0 (State.sigFall a0 a1) := by
  intro a0 a1
  delta State.sigFall
  extract_lets -underBinder -merge -useContext +onlyGivenNames x0
  have h1 : Spec 0xb11cdc00000000000000000000000022000000050000000a000000000030a0003013e0 a0 x0 := by
    refine Spec.step (State.declareLos_spec _ _) rfl ?_
    refine Spec.step (State.raiseReg_spec _ _ _ _) rfl ?_
    refine Spec.step (State.calStop_spec _ _ _) rfl ?_
    refine Spec.step (State.wr_spec _ _ _ _) rfl ?_
    exact Spec.refl
  clear_value x0
  extract_lets -underBinder -merge -useContext +onlyGivenNames x2
  have h3 : Spec 0xb11cdc00000000000000000000000022000000050000000a000000000030a0003013e0 a0 x2 := by
    refine Spec.step (State.modTx_spec _ _ _) rfl ?_
    exact h1
  clear_value x2
  extract_lets -underBinder -merge -useContext +onlyGivenNames x4
  clear_value x4
  refine Spec.ite ?_ ?_
  · refine Spec.step (State.setAcq_spec _ _ _) rfl ?_
    exact h3
  · refine Spec.ite ?_ ?_
    · refine Spec.step (State.unlock_spec _ _) rfl ?_
      exact h3
    · exact h3

theorem State.reqUsed_spec : ∀ a0 a1, Spec 0x4000000000000000000000000000000000000000000000000000000000000000000000 a0 (State.reqUsed a0 a1) := by
  intro a0 a1
  delta State.reqUsed
  refine Spec.ite ?_ ?_
  · refine Spec.step (State.tick_spec _) rfl ?_
    exact Spec.refl
  · exact Spec.refl

theorem execClipWindow_spec : ∀ a0 a1 a2 a3, SpecO 0xb00c0c00000000000000000000000022000000000000000a0000000000000000000060 a3 (execClipWindow a0 a1 a2 a3) := by
  intro a0 a1 a2 a3
  delta execClipWindow
  refine SpecO.ok ?_
  refine Spec.ite ?_ ?_
  · exact Spec.refl
  · extract_lets -underBinder -merge -useContext +onlyGivenNames x0
    clear_value x0
    extract_lets -underBinder -merge -useContext +onlyGivenNames x1
    clear_value x1
    extract_lets -underBinder -merge -useContext +onlyGivenNames x2
    have h3 : Spec 0xb00c0c00000000000000000000000022000000000000000a0000000000000000000060 a3 x2 := by
      refine Spec.step (State.wr_spec _ _ _ _) rfl ?_
      exact Spec.refl
    clear_value x2
    refine Spec.ite ?_ ?_
    · refine Spec.step (State.raiseReg_spec _ _ _ _) rfl ?_
      exact h3
    · exact h3

theorem execAcqHoldTimeout_spec : ∀ a0 a1, SpecO 0x100000000000000000000000000000000000000000000000000000000000000020 a1 (execAcqHoldTimeout a0 a1) := by
  intro a0 a1
  delta execAcqHoldTimeout
  refine SpecO.ok ?_
  refine Spec.ite ?_ ?_
  · extract_lets -underBinder -merge -useContext +onlyGivenNames x0
    have h1 : Spec 0x100000000000000000000000000000000000000000000000000000000000000020 a1 x0 := by
      refine Spec.step (State.modAcq_spec _ _ _) rfl ?_
      exact Spec.refl
    clear_value x0
    refine Spec.ite ?_ ?_
    · refine Spec.step (State.enterSearch_spec _ _) rfl ?_
      exact h1
    · refine Spec.step (State.setAcq_spec _ _ _) rfl ?_
      exact h1
  · exact Spec.refl

theorem execAcqEqConverge_spec : ∀ a0 a1, SpecO 0x100000000000000000000000000000000000000000000000000000000000000020 a1 (execAcqEqConverge a0 a1) := by
  intro a0 a1
  delta execAcqEqConverge
  refine SpecO.ok ?_
  refine Spec.ite ?_ ?_
  · refine Spec.step (State.setAcq_spec _ _ _) rfl ?_
    refine Spec.step (State.modAcq_spec _ _ _) rfl ?_
    exact Spec.refl
  · exact Spec.refl

theorem execAcqCarLock_spec : ∀ a0 a1 a2 a3, SpecO 0xf10c1c00000000000000000000000022000000000000000a0000000000000000000260 a3 (execAcqCarLock a0 a1 a2 a3) := by
  intro a0 a1 a2 a3
  delta execAcqCarLock
  refine SpecO.ok ?_
  refine Spec.ite ?_ ?_
  · refine Spec.step (State.gainLock_spec _ _) rfl ?_
    refine Spec.step (State.modAcq_spec _ _ _) rfl ?_
    refine Spec.step (State.reqUsed_spec _ _) rfl ?_
    exact Spec.refl
  · exact Spec.refl

theorem execAcqCdSearchEnd_spec : ∀ a0 a1 a2, SpecO 0x100000000000000000000000000000000000000000000000000000000000000020 a2 (execAcqCdSearchEnd a0 a1 a2) := by
  intro a0 a1 a2
  delta execAcqCdSearchEnd
  refine SpecO.ok ?_
  refine Spec.ite ?_ ?_
  · extract_lets -underBinder -merge -useContext +onlyGivenNames x0
    clear_value x0
    refine Spec.step (State.setAcq_spec _ _ _) rfl ?_
    refine Spec.step (State.modAcq_spec _ _ _) rfl ?_
    exact Spec.refl
  · exact Spec.refl

theorem State.sigWindow_spec : ∀ a0 a1 a2, Spec 0xb11cdc00000000000000000000000022000000050000000a000000000030a0003013e0 a0 (State.sigWindow a0 a1 a2) := by
  intro a0 a1 a2
  delta State.sigWindow
  refine Spec.ite ?_ ?_
  · exact Spec.refl
  · split
    · extract_lets -underBinder -merge -useContext +onlyGivenNames x0
      have h1 : Spec 0xb11cdc00000000000000000000000022000000050000000a000000000030a0003013e0 a0 x0 := by
        refine Spec.step (State.modAcq_spec _ _ _) rfl ?_
        exact Spec.refl
      clear_value x0
      extract_lets -underBinder -merge -useContext +onlyGivenNames x2
      clear_value x2
      refine Spec.ite ?_ ?_
      · refine Spec.step (State.sigRise_spec _ _) rfl ?_
        exact h1
      · refine Spec.ite ?_ ?_
        · refine Spec.step (State.sigFall_spec _ _) rfl ?_
          exact h1
        · exact h1

theorem execAcqClkLock_spec : ∀ a0 a1 a2, SpecO 0x100000000000000000000000000000000000000000000000000000000000000020 a2 (execAcqClkLock a0 a1 a2) := by
  intro a0 a1 a2
  delta execAcqClkLock
  refine SpecO.ok ?_
  refine Spec.ite ?_ ?_
  · refine Spec.step (State.setAcq_spec _ _ _) rfl ?_
    refine Spec.step (State.modAcq_spec _ _ _) rfl ?_
    exact Spec.refl
  · exact Spec.refl

theorem execAcqEqTimeout_spec : ∀ a0 a1, SpecO 0xb00c1c00000000000000000000000022000000000000000a0000000000000000000060 a1 (execAcqEqTimeout a0 a1) := by
  intro a0 a1
  delta execAcqEqTimeout
  refine SpecO.ok ?_
  refine Spec.ite ?_ ?_
  · refine Spec.step (State.acqFail_spec _ _) rfl ?_
    exact Spec.refl
  · exact Spec.refl

theorem execAcqClkTimeout_spec : ∀ a0 a1, SpecO 0xb00c1c00000000000000000000000022000000000000000a0000000000000000000060 a1 (execAcqClkTimeout a0 a1) := by
  intro a0 a1
  delta execAcqClkTimeout
  refine SpecO.ok ?_
  refine Spec.ite ?_ ?_
  · refine Spec.step (State.acqFail_spec _ _) rfl ?_
    exact Spec.refl
  · exact Spec.refl

theorem execAcqCarTimeout_spec : ∀ a0 a1, SpecO 0xb00c1c00000000000000000000000022000000000000000a0000000000000000000060 a1 (execAcqCarTimeout a0 a1) := by
  intro a0 a1
  delta execAcqCarTimeout
  refine SpecO.ok ?_
  refine Spec.ite ?_ ?_
  · refine Spec.step (State.acqFail_spec _ _) rfl ?_
    exact Spec.refl
  · exact Spec.refl

theorem execSigWindow_spec : ∀ a0 a1 a2, SpecO 0xb11cdc00000000000000000000000022000000050000000a000000000030a0003013e0 a2 (execSigWindow a0 a1 a2) := by
  intro a0 a1 a2
  delta execSigWindow
  refine SpecO.ok ?_
  refine Spec.step (State.sigWindow_spec _ _ _) rfl ?_
  exact Spec.refl

theorem execAcqUnlock_spec : ∀ a0 a1 a2, SpecO 0xf10c1c00000000000000000000000022000000050000000a00000000000000001013e0 a2 (execAcqUnlock a0 a1 a2) := by
  intro a0 a1 a2
  delta execAcqUnlock
  refine SpecO.ok ?_
  refine Spec.ite ?_ ?_
  · refine Spec.step (State.unlock_spec _ _) rfl ?_
    refine Spec.step (State.reqUsed_spec _ _) rfl ?_
    exact Spec.refl
  · exact Spec.refl

theorem execAcqHoldRelock_spec : ∀ a0 a1 a2 a3, SpecO 0xf10c1c00000000000000000000000022000000000000000a0000000000000000000260 a3 (execAcqHoldRelock a0 a1 a2 a3) := by
  intro a0 a1 a2 a3
  delta execAcqHoldRelock
  refine SpecO.ok ?_
  refine Spec.ite ?_ ?_
  · refine Spec.step (State.gainLock_spec _ _) rfl ?_
    refine Spec.step (State.modAcq_spec _ _ _) rfl ?_
    refine Spec.step (State.reqUsed_spec _ _) rfl ?_
    exact Spec.refl
  · exact Spec.refl

theorem State.shadowDrop_spec : ∀ a0, Spec 0xb00c0c00000000000000000000000022000000000000000a0000000000000000000000 a0 (State.shadowDrop a0) := by
  intro a0
  delta State.shadowDrop
  refine Spec.step (State.count_spec _ _ _) rfl ?_
  exact Spec.refl

theorem State.addShadow_spec : ∀ a0 a1 a2 a3 a4, Spec 0x100000000000000000000000000000000000000000000000000000000000000000 a0 (State.addShadow a0 a1 a2 a3 a4) := by
  intro a0 a1 a2 a3 a4
  delta State.addShadow
  refine Spec.step (State.modTx_spec _ _ _) rfl ?_
  exact Spec.refl

theorem State.applyShadow_spec : ∀ a0 a1 a2, Spec 0x100100000000000000000000000000000000004000000000010000000000000000000 a0 (State.applyShadow a0 a1 a2) := by
  intro a0 a1 a2
  delta State.applyShadow
  split
  · refine Spec.step (State.modTx_spec _ _ _) rfl ?_
    exact Spec.refl
  · refine Spec.step (State.modTx_spec _ _ _) rfl ?_
    exact Spec.refl
  · refine Spec.wrs_cons ?_
    refine Spec.wrs_cons ?_
    refine Spec.wrs_nil ?_
    refine Spec.step (State.wr_spec _ _ _ _) rfl ?_
    refine Spec.step (State.wr_spec _ _ _ _) rfl ?_
    exact Spec.refl
  · refine Spec.step (State.wr_spec _ _ _ _) rfl ?_
    exact Spec.refl
  · exact (Spec.set_cal rfl Spec.refl)

theorem State.applyAllShadows_spec : ∀ a0 a1, Spec 0x100100000000000000000000000000000000004000000000010000000000000000000 a0 (State.applyAllShadows a0 a1) := by
  intro a0 a1
  delta State.applyAllShadows
  extract_lets -underBinder -merge -useContext +onlyGivenNames x0
  clear_value x0
  refine Spec.fold _ ?_ ?_
  · intro t1 i2
    try dsimp -zeta only
    refine Spec.step (State.applyShadow_spec _ _ _) rfl ?_
    exact Spec.refl
  · refine Spec.step (State.modTx_spec _ _ _) rfl ?_
    exact Spec.refl

theorem State.copyClear_spec : ∀ a0 a1, Spec 0x20400000000000000000000000000000000000000000000000000000000000000000 a0 (State.copyClear a0 a1) := by
  intro a0 a1
  delta State.copyClear
  extract_lets -underBinder -merge -useContext +onlyGivenNames x0
  clear_value x0
  extract_lets -underBinder -merge -useContext +onlyGivenNames x1
  have h2 : Spec 0x20400000000000000000000000000000000000000000000000000000000000000000 a0 x1 := by
    exact (Spec.set_pair rfl Spec.refl)
  clear_value x1
  refine Spec.ite ?_ ?_
  · refine Spec.step (State.modTrib_spec _ _ _) rfl ?_
    exact h2
  · exact h2

theorem State.bridgeDrop_spec : ∀ a0 a1, Spec 0xb02c4c00000000000000000000000022000000000000000a0000000090008000000000 a0 (State.bridgeDrop a0 a1) := by
  intro a0 a1
  delta State.bridgeDrop
  extract_lets -underBinder -merge -useContext +onlyGivenNames x0
  clear_value x0
  extract_lets -underBinder -merge -useContext +onlyGivenNames x1
  clear_value x1
  extract_lets -underBinder -merge -useContext +onlyGivenNames x2
  have h3 : Spec 0xb02c4c00000000000000000000000022000000000000000a0000000090008000000000 a0 x2 := by
    refine Spec.step (State.copyClear_spec _ _) rfl ?_
    refine Spec.wrs_cons ?_
    refine Spec.wrs_cons ?_
    refine Spec.wrs_nil ?_
    refine Spec.step (State.wr_spec _ _ _ _) rfl ?_
    refine Spec.step (State.wr_spec _ _ _ _) rfl ?_
    exact Spec.refl
  clear_value x2
  refine Spec.ite ?_ ?_
  · exact h3
  · extract_lets -underBinder -merge -useContext +onlyGivenNames x4
    have h5 : Spec 0xb02c4c00000000000000000000000022000000000000000a0000000090008000000000 a0 x4 := by
      refine Spec.ite ?_ ?_
      · refine Spec.ite ?_ ?_
        · refine Spec.step (State.sfOut_spec _ _) rfl ?_
          exact h3
        · refine Spec.ite ?_ ?_
          · exact h3
          · refine Spec.step (State.dlmHunt_spec _ _) rfl ?_
            exact h3
      · exact h3
    clear_value x4
    refine Spec.step (State.raiseReg_spec _ _ _ _) rfl ?_
    exact h5

theorem State.bridgeRefresh_spec : ∀ a0, Spec 0xb02c4c00000000000000000000000022000000000000000a0000000094008000000000 a0 (State.bridgeRefresh a0) := by
  intro a0
  delta State.bridgeRefresh
  extract_lets -underBinder -merge -useContext +onlyGivenNames x0
  clear_value x0
  split
  rename_i y12 y13 h14q
  have h14 : SpecP 0xb02c4c00000000000000000000000022000000000000000a0000000094008000000000 a0 (y12, y13) := by
    rw [← h14q]
    refine SpecP.fold _ ?_ ?_
    · intro a2 t3 i1
      try dsimp -zeta only
      extract_lets -underBinder -merge -useContext +onlyGivenNames x4
      clear_value x4
      extract_lets -underBinder -merge -useContext +onlyGivenNames x5
      have h8 : ∀ t6 t7, Spec 0xb02c4c00000000000000000000000022000000000000000a0000000094008000000000 t6 (x5 t6 t7) := by
        intro t6 t7
        dsimp only [x5]
        exact (Spec.set_pair rfl Spec.refl)
      clear_value x5
      refine SpecP.ite ?_ ?_
      · refine SpecP.mk ?_
        refine Spec.step (h8 _ _) (Nat.or_self _) ?_
        refine Spec.step (State.bridgeDrop_spec _ _) rfl ?_
        exact Spec.refl
      · refine SpecP.ite ?_ ?_
        · refine SpecP.mk ?_
          refine Spec.step (h8 _ _) (Nat.or_self _) ?_
          refine Spec.step (State.wr_spec _ _ _ _) rfl ?_
          exact Spec.refl
        · extract_lets -underBinder -merge -useContext +onlyGivenNames x9
          clear_value x9
          extract_lets -underBinder -merge -useContext +onlyGivenNames x10
          have h11 : Spec 0xb02c4c00000000000000000000000022000000000000000a0000000094008000000000 t3 x10 := by
            refine Spec.step (h8 _ _) (Nat.or_self _) ?_
            refine Spec.step (State.bridgeDrop_spec _ _) rfl ?_
            exact Spec.refl
          clear_value x10
          refine SpecP.mk ?_
          refine Spec.ite ?_ ?_
          · exact h11
          · refine Spec.step (State.raiseReg_spec _ _ _ _) rfl ?_
            exact h11
    · refine SpecP.mk ?_
      exact Spec.refl
  clear h14q
  refine Spec.step (State.wr_spec _ _ _ _) rfl ?_
  exact h14

theorem State.sendCellOf_spec : ∀ a0 a1 a2 a3, Spec 0x2000000000000000000000000000000000000000000000000000000000000000000000 a0 (State.sendCellOf a0 a1 a2 a3) := by
  intro a0 a1 a2 a3
  delta State.sendCellOf
  extract_lets -underBinder -merge -useContext +onlyGivenNames x0
  clear_value x0
  split
  · exact Spec.refl
  · refine Spec.step (State.emit_spec _ _) rfl ?_
    exact Spec.refl

theorem State.sendMir_spec : ∀ a0 a1 a2 a3 a4, Spec 0x2020000000000000000000000000000000000000000000000000000000000000000000 a0 (State.sendMir a0 a1 a2 a3 a4) := by
  intro a0 a1 a2 a3 a4
  delta State.sendMir
  extract_lets -underBinder -merge -useContext +onlyGivenNames x0
  clear_value x0
  extract_lets -underBinder -merge -useContext +onlyGivenNames x1
  clear_value x1
  extract_lets -underBinder -merge -useContext +onlyGivenNames x2
  clear_value x2
  extract_lets -underBinder -merge -useContext +onlyGivenNames x3
  have h4 : Spec 0x2020000000000000000000000000000000000000000000000000000000000000000000 a0 x3 := by
    exact (Spec.set_pair rfl Spec.refl)
  clear_value x3
  refine Spec.step (State.sendCellOf_spec _ _ _ _) rfl ?_
  exact h4

theorem State.mirror_spec : ∀ a0 a1 a2 a3, Spec 0x2020000000000000000000000000000000000000000000000000000000000000000000 a0 (State.mirror a0 a1 a2 a3) := by
  intro a0 a1 a2 a3
  delta State.mirror
  refine Spec.ite ?_ ?_
  · exact Spec.refl
  · extract_lets -underBinder -merge -useContext +onlyGivenNames x0
    clear_value x0
    refine Spec.fold _ ?_ ?_
    · intro t1 i2
      try dsimp -zeta only
      refine Spec.step (State.sendMir_spec _ _ _ _ _) rfl ?_
      exact Spec.refl
    · exact Spec.refl

theorem State.mirrorReg_spec : ∀ a0 a1 a2 a3 a4, Spec 0x2020000000000000000000000000000000000000000000000000000000000000000000 a0 (State.mirrorReg a0 a1 a2 a3 a4) := by
  intro a0 a1 a2 a3 a4
  delta State.mirrorReg
  refine Spec.step (State.mirror_spec _ _ _ _) rfl ?_
  exact Spec.refl

theorem State.sendCell_spec : ∀ a0 a1 a2, Spec 0x2000000000000000000000000000000000000000000000000000000000000000000000 a0 (State.sendCell a0 a1 a2) := by
  intro a0 a1 a2
  delta State.sendCell
  extract_lets -underBinder -merge -useContext +onlyGivenNames x0
  clear_value x0
  split
  · exact Spec.refl
  · refine Spec.step (State.emit_spec _ _) rfl ?_
    exact Spec.refl

theorem State.applyShadows_spec : ∀ a0 a1 a2, Spec 0x100100000000000000000000000000000000004000000000010000000000000000000 a0 (State.applyShadows a0 a1 a2) := by
  intro a0 a1 a2
  delta State.applyShadows
  extract_lets -underBinder -merge -useContext +onlyGivenNames x0
  clear_value x0
  extract_lets -underBinder -merge -useContext +onlyGivenNames x1
  have h2 : Spec 0x100100000000000000000000000000000000004000000000010000000000000000000 a0 x1 := by
    refine Spec.step (State.modTx_spec _ _ _) rfl ?_
    exact Spec.refl
  clear_value x1
  refine Spec.fold _ ?_ ?_
  · intro t3 i4
    try dsimp -zeta only
    refine Spec.step (State.applyShadow_spec _ _ _) rfl ?_
    exact Spec.refl
  · exact h2

theorem State.sendAll_spec : ∀ a0 a1, Spec 0x2000000000000000000000000000000000000000000000000000000000000000000000 a0 (State.sendAll a0 a1) := by
  intro a0 a1
  delta State.sendAll
  refine Spec.fold _ ?_ ?_
  · intro t0 i1
    try dsimp -zeta only
    refine Spec.step (State.emit_spec _ _) rfl ?_
    exact Spec.refl
  · exact Spec.refl

end Sys2Proof.Machine
end

