-- ==== Sys2Proof/Laws/Frames03.lean ====
section
/-! SUPPORT. What each operation and each command of the files Machine/CalOps, TimOps can do: one lemma each,
`<name>_spec`, whose first argument is the footprint (Laws/Spec.lean). -/
namespace Sys2Proof.Machine

theorem State.hkTrims_spec : ∀ a0 a1, Spec 0x100000000000000000000000000000000000000000000000000000000000000000000 a0 (State.hkTrims a0 a1) := by
  intro a0 a1
  delta State.hkTrims
  extract_lets -underBinder -merge -useContext +onlyGivenNames x0
  clear_value x0
  exact (Spec.set_cal rfl Spec.refl)

theorem State.calShow_spec : ∀ a0 a1 a2, Spec 0xc000000000000000000000000000000 a0 (State.calShow a0 a1 a2) := by
  intro a0 a1 a2
  delta State.calShow
  refine Spec.ite ?_ ?_
  · refine Spec.wrs_cons ?_
    refine Spec.wrs_cons ?_
    refine Spec.wrs_nil ?_
    refine Spec.step (State.wr_spec _ _ _ _) rfl ?_
    refine Spec.step (State.wr_spec _ _ _ _) rfl ?_
    exact Spec.refl
  · refine Spec.wrs_cons ?_
    refine Spec.wrs_cons ?_
    refine Spec.wrs_nil ?_
    refine Spec.step (State.wr_spec _ _ _ _) rfl ?_
    refine Spec.step (State.wr_spec _ _ _ _) rfl ?_
    exact Spec.refl

theorem State.dropTrims_spec : ∀ a0 a1 a2, Spec 0x100100000000000000000000000000000000000000000000000000000000000000000 a0 (State.dropTrims a0 a1 a2) := by
  intro a0 a1 a2
  delta State.dropTrims
  extract_lets -underBinder -merge -useContext +onlyGivenNames x0
  have h3 : Spec 0x100100000000000000000000000000000000000000000000000000000000000000000 a0 x0 := by
    refine Spec.fold _ ?_ ?_
    · intro t1 i2
      try dsimp -zeta only
      refine Spec.step (State.modTx_spec _ _ _) rfl ?_
      exact Spec.refl
    · exact Spec.refl
  clear_value x0
  refine Spec.ite ?_ ?_
  · exact (Spec.set_cal rfl h3)
  · exact h3

theorem State.requestCheck_spec : ∀ a0 a1, Spec 0x4000000000000000000000000000000 a0 (State.requestCheck a0 a1) := by
  intro a0 a1
  delta State.requestCheck
  refine Spec.ite ?_ ?_
  · refine Spec.step (State.wr_spec _ _ _ _) rfl ?_
    exact Spec.refl
  · exact Spec.refl

theorem State.calReset_spec : ∀ a0, Spec 0x100000000000000000000000000000000000000000000000000000000000000000000 a0 (State.calReset a0) := by
  intro a0
  delta State.calReset
  exact (Spec.set_cal rfl Spec.refl)

theorem State.modRef_spec : ∀ a0 a1 a2, Spec 0x40000000000000000000000000000000000000000000000000000000000000000000 a0 (State.modRef a0 a1 a2) := by
  intro a0 a1 a2
  delta State.modRef
  exact (Spec.set_tim rfl Spec.refl)

theorem State.qualRefresh_spec : ∀ a0, Spec 0x400000000000000 a0 (State.qualRefresh a0) := by
  intro a0
  delta State.qualRefresh
  refine Spec.fold _ ?_ ?_
  · intro t0 i1
    try dsimp -zeta only
    refine Spec.ite ?_ ?_
    · refine Spec.step (State.wr_spec _ _ _ _) rfl ?_
      exact Spec.refl
    · exact Spec.refl
  · exact Spec.refl

theorem State.d0Build_spec : ∀ a0, Spec 0x40000000000000000000000000000000000000000000000000000000000000000000 a0 (State.d0Build a0) := by
  intro a0
  delta State.d0Build
  exact (Spec.set_tim rfl Spec.refl)

theorem State.clkRefresh_spec : ∀ a0, Spec 0x20000000000000000000000000000000000000000000000000000000000000000 a0 (State.clkRefresh a0) := by
  intro a0
  delta State.clkRefresh
  extract_lets -underBinder -merge -useContext +onlyGivenNames x0
  clear_value x0
  extract_lets -underBinder -merge -useContext +onlyGivenNames x1
  clear_value x1
  exact (Spec.set_pin rfl Spec.refl)

theorem State.clampRefresh_spec : ∀ a0, Spec 0xb00c1e00000000000000000000000022000000000000000a0004000000000000000000 a0 (State.clampRefresh a0) := by
  intro a0
  delta State.clampRefresh
  refine Spec.fold _ ?_ ?_
  · intro t0 i1
    try dsimp -zeta only
    extract_lets -underBinder -merge -useContext +onlyGivenNames x2
    clear_value x2
    extract_lets -underBinder -merge -useContext +onlyGivenNames x3
    clear_value x3
    extract_lets -underBinder -merge -useContext +onlyGivenNames x4
    clear_value x4
    extract_lets -underBinder -merge -useContext +onlyGivenNames x5
    have h6 : Spec 0xb00c1e00000000000000000000000022000000000000000a0004000000000000000000 t0 x5 := by
      refine Spec.step (State.modTx_spec _ _ _) rfl ?_
      exact Spec.refl
    clear_value x5
    refine Spec.ite ?_ ?_
    · refine Spec.step (State.raiseReg_spec _ _ _ _) rfl ?_
      exact h6
    · exact h6
  · refine Spec.step (State.clkRefresh_spec _) rfl ?_
    exact Spec.refl

theorem State.setTrace_spec : ∀ a0 a1, Spec 0x40000000000000000000000000000000000000000000000000002000000000000000 a0 (State.setTrace a0 a1) := by
  intro a0 a1
  delta State.setTrace
  extract_lets -underBinder -merge -useContext +onlyGivenNames x0
  have h1 : Spec 0x40000000000000000000000000000000000000000000000000002000000000000000 a0 x0 := by
    refine Spec.step (State.wr_spec _ _ _ _) rfl ?_
    exact Spec.refl
  clear_value x0
  refine Spec.ite ?_ ?_
  · exact (Spec.set_tim rfl h1)
  · exact h1

theorem State.traceCheck_spec : ∀ a0, Spec 0x40000000000000000000000000000000000000000000000000002000000000000000 a0 (State.traceCheck a0) := by
  intro a0
  delta State.traceCheck
  refine Spec.ite ?_ ?_
  · refine Spec.step (State.setTrace_spec _ _) rfl ?_
    exact Spec.refl
  · exact Spec.refl

theorem State.setD0_spec : ∀ a0 a1, Spec 0xf04c1e00000000000000000000000022000000000000000a0004002000000000000000 a0 (State.setD0 a0 a1) := by
  intro a0 a1
  delta State.setD0
  extract_lets -underBinder -merge -useContext +onlyGivenNames x0
  have h1 : Spec 0xf04c1e00000000000000000000000022000000000000000a0004002000000000000000 a0 x0 := by
    refine Spec.step (State.wr_spec _ _ _ _) rfl ?_
    exact Spec.refl
  clear_value x0
  extract_lets -underBinder -merge -useContext +onlyGivenNames x2
  have h3 : Spec 0xf04c1e00000000000000000000000022000000000000000a0004002000000000000000 a0 x2 := by
    refine Spec.step (State.wr_spec _ _ _ _) rfl ?_
    exact h1
  clear_value x2
  extract_lets -underBinder -merge -useContext +onlyGivenNames x4
  clear_value x4
  extract_lets -underBinder -merge -useContext +onlyGivenNames x5
  have h6 : Spec 0xf04c1e00000000000000000000000022000000000000000a0004002000000000000000 a0 x5 := by
    refine Spec.ite ?_ ?_
    · exact (Spec.set_tim rfl h3)
    · exact h1
  clear_value x5
  extract_lets -underBinder -merge -useContext +onlyGivenNames x7
  have h8 : Spec 0xf04c1e00000000000000000000000022000000000000000a0004002000000000000000 a0 x7 := by
    refine Spec.ite ?_ ?_
    · refine Spec.step (State.tick_spec _) rfl ?_
      exact h6
    · exact h6
  clear_value x7
  extract_lets -underBinder -merge -useContext +onlyGivenNames x9
  clear_value x9
  extract_lets -underBinder -merge -useContext +onlyGivenNames x10
  clear_value x10
  extract_lets -underBinder -merge -useContext +onlyGivenNames x11
  have h12 : Spec 0xf04c1e00000000000000000000000022000000000000000a0004002000000000000000 a0 x11 := by
    exact (Spec.set_tim rfl h8)
  clear_value x11
  refine Spec.step (State.clampRefresh_spec _) rfl ?_
  refine Spec.step (State.traceCheck_spec _) rfl ?_
  exact h12

theorem State.d0Lose_spec : ∀ a0, Spec 0xf04c1e00000000000000000000000022000000000000000a0004002000000000000000 a0 (State.d0Lose a0) := by
  intro a0
  delta State.d0Lose
  refine Spec.step (State.setD0_spec _ _) rfl ?_
  refine Spec.step (State.raiseReg_spec _ _ _ _) rfl ?_
  exact Spec.refl

theorem State.d0Source_spec : ∀ a0, Spec 0xf04c1e00000000000000000000000022000000000000000a0004002000000000000000 a0 (State.d0Source a0) := by
  intro a0
  delta State.d0Source
  extract_lets -underBinder -merge -useContext +onlyGivenNames x0
  clear_value x0
  refine Spec.ite ?_ ?_
  · refine Spec.step (State.d0Build_spec _) rfl ?_
    refine Spec.ite ?_ ?_
    · refine Spec.step (State.setD0_spec _ _) rfl ?_
      exact Spec.refl
    · exact Spec.refl
  · refine Spec.ite ?_ ?_
    · refine Spec.step (State.d0Lose_spec _) rfl ?_
      exact Spec.refl
    · exact Spec.refl

theorem State.dkRefresh_spec : ∀ a0 a1, Spec 0x10000000000000000 a0 (State.dkRefresh a0 a1) := by
  intro a0 a1
  delta State.dkRefresh
  extract_lets -underBinder -merge -useContext +onlyGivenNames x0
  clear_value x0
  extract_lets -underBinder -merge -useContext +onlyGivenNames x1
  have h3 : ∀ t2, Spec 0x10000000000000000 a0 (x1 t2) := by
    intro t2
    dsimp only [x1]
    refine Spec.step (State.wr_spec _ _ _ _) rfl ?_
    exact Spec.refl
  clear_value x1
  refine Spec.ite ?_ ?_
  · exact h3 _
  · refine Spec.ite ?_ ?_
    · refine Spec.ite ?_ ?_
      · exact h3 _
      · exact Spec.refl
    · refine Spec.ite ?_ ?_
      · exact h3 _
      · exact Spec.refl

theorem State.dkRefreshAll_spec : ∀ a0, Spec 0x10000000000000000 a0 (State.dkRefreshAll a0) := by
  intro a0
  delta State.dkRefreshAll
  refine Spec.fold _ ?_ ?_
  · intro t0 i1
    try dsimp -zeta only
    refine Spec.step (State.dkRefresh_spec _ _) rfl ?_
    exact Spec.refl
  · exact Spec.refl

theorem State.timSelect_spec : ∀ a0, Spec 0xf04c1e00000000000000000000000022000000000000000a0004012400000000000000 a0 (State.timSelect a0) := by
  intro a0
  delta State.timSelect
  extract_lets -underBinder -merge -useContext +onlyGivenNames x0
  have h1 : Spec 0xf04c1e00000000000000000000000022000000000000000a0004012400000000000000 a0 x0 := by
    refine Spec.step (State.qualRefresh_spec _) rfl ?_
    exact Spec.refl
  clear_value x0
  extract_lets -underBinder -merge -useContext +onlyGivenNames x2
  clear_value x2
  extract_lets -underBinder -merge -useContext +onlyGivenNames x3
  clear_value x3
  extract_lets -underBinder -merge -useContext +onlyGivenNames x4
  clear_value x4
  extract_lets -underBinder -merge -useContext +onlyGivenNames x5
  clear_value x5
  extract_lets -underBinder -merge -useContext +onlyGivenNames x6
  have h7 : Spec 0xf04c1e00000000000000000000000022000000000000000a0004012400000000000000 a0 x6 := by
    refine Spec.wrs_cons ?_
    refine Spec.wrs_cons ?_
    refine Spec.wrs_nil ?_
    refine Spec.step (State.wr_spec _ _ _ _) rfl ?_
    refine Spec.step (State.wr_spec _ _ _ _) rfl ?_
    exact h1
  clear_value x6
  extract_lets -underBinder -merge -useContext +onlyGivenNames x8
  have h9 : Spec 0xf04c1e00000000000000000000000022000000000000000a0004012400000000000000 a0 x8 := by
    refine Spec.ite ?_ ?_
    · refine Spec.step (State.raiseReg_spec _ _ _ _) rfl ?_
      exact h7
    · exact h7
  clear_value x8
  extract_lets -underBinder -merge -useContext +onlyGivenNames x10
  have h11 : Spec 0xf04c1e00000000000000000000000022000000000000000a0004012400000000000000 a0 x10 := by
    refine Spec.ite ?_ ?_
    · refine Spec.step (State.d0Source_spec _) rfl ?_
      exact h9
    · exact h9
  clear_value x10
  refine Spec.step (State.traceCheck_spec _) rfl ?_
  refine Spec.step (State.dkRefreshAll_spec _) rfl ?_
  exact h11

theorem State.ttAged_spec : ∀ a0 a1, Spec 0xf04c1e00000000000000000000000022000000000000000a0004812400000000000000 a0 (State.ttAged a0 a1) := by
  intro a0 a1
  delta State.ttAged
  extract_lets -underBinder -merge -useContext +onlyGivenNames x0
  have h1 : Spec 0xf04c1e00000000000000000000000022000000000000000a0004812400000000000000 a0 x0 := by
    refine Spec.step (State.modRef_spec _ _ _) rfl ?_
    exact Spec.refl
  clear_value x0
  extract_lets -underBinder -merge -useContext +onlyGivenNames x2
  have h3 : Spec 0xf04c1e00000000000000000000000022000000000000000a0004812400000000000000 a0 x2 := by
    refine Spec.ite ?_ ?_
    · refine Spec.step (State.wr_spec _ _ _ _) rfl ?_
      exact h1
    · exact h1
  clear_value x2
  refine Spec.step (State.timSelect_spec _) rfl ?_
  exact h3

theorem State.d0Resume_spec : ∀ a0, Spec 0xf04c1e00000000000000000000000022000000000000000a0004002000000000000000 a0 (State.d0Resume a0) := by
  intro a0
  delta State.d0Resume
  extract_lets -underBinder -merge -useContext +onlyGivenNames x0
  have h1 : Spec 0xf04c1e00000000000000000000000022000000000000000a0004002000000000000000 a0 x0 := by
    refine Spec.step (State.setD0_spec _ _) rfl ?_
    exact Spec.refl
  clear_value x0
  refine Spec.step (State.clampRefresh_spec _) rfl ?_
  exact (Spec.set_tim rfl h1)

theorem State.ttRestart_spec : ∀ a0, Spec 0x40000000000000000000000000000000000000000000000000800000000000000000 a0 (State.ttRestart a0) := by
  intro a0
  delta State.ttRestart
  extract_lets -underBinder -merge -useContext +onlyGivenNames x0
  clear_value x0
  extract_lets -underBinder -merge -useContext +onlyGivenNames x1
  have h2 : Spec 0x40000000000000000000000000000000000000000000000000800000000000000000 a0 x1 := by
    exact (Spec.set_tim rfl Spec.refl)
  clear_value x1
  refine Spec.step (State.modRef_spec _ _ _) rfl ?_
  refine Spec.wrs_cons ?_
  refine Spec.wrs_cons ?_
  refine Spec.wrs_cons ?_
  refine Spec.wrs_cons ?_
  refine Spec.wrs_nil ?_
  refine Spec.step (State.wr_spec _ _ _ _) rfl ?_
  refine Spec.step (State.wr_spec _ _ _ _) rfl ?_
  refine Spec.step (State.wr_spec _ _ _ _) rfl ?_
  refine Spec.step (State.wr_spec _ _ _ _) rfl ?_
  exact h2

theorem State.d0Follow_spec : ∀ a0, Spec 0xf04c1e00000000000000000000000022000000000000000a0004002000000000000000 a0 (State.d0Follow a0) := by
  intro a0
  delta State.d0Follow
  refine Spec.ite ?_ ?_
  · exact Spec.refl
  · refine Spec.step (State.setD0_spec _ _) rfl ?_
    exact Spec.refl

theorem State.d0AfterFollow_spec : ∀ a0, Spec 0xf04c1e00000000000000000000000022000000000000000a0004002000000000000000 a0 (State.d0AfterFollow a0) := by
  intro a0
  delta State.d0AfterFollow
  refine Spec.ite ?_ ?_
  · refine Spec.step (State.setD0_spec _ _) rfl ?_
    exact Spec.refl
  · exact Spec.refl

theorem State.d0LeaveFollow_spec : ∀ a0, Spec 0xf04c1e00000000000000000000000022000000000000000a0004002000000000000000 a0 (State.d0LeaveFollow a0) := by
  intro a0
  delta State.d0LeaveFollow
  refine Spec.ite ?_ ?_
  · exact Spec.refl
  · extract_lets -underBinder -merge -useContext +onlyGivenNames x0
    have h1 : Spec 0xf04c1e00000000000000000000000022000000000000000a0004002000000000000000 a0 x0 := by
      refine Spec.step (State.d0AfterFollow_spec _) rfl ?_
      refine Spec.step (State.setD0_spec _ _) rfl ?_
      refine Spec.step (State.raiseReg_spec _ _ _ _) rfl ?_
      exact Spec.refl
    clear_value x0
    refine Spec.ite ?_ ?_
    · refine Spec.step (State.d0Build_spec _) rfl ?_
      refine Spec.step (State.setD0_spec _ _) rfl ?_
      exact h1
    · exact h1

theorem State.atTod_spec : ∀ a0 a1, Spec 0x40000000000000000000000000000000000000000000000000000000000000000000 a0 (State.atTod a0 a1) := by
  intro a0 a1
  delta State.atTod
  exact (Spec.set_tim rfl Spec.refl)

theorem State.ttAgeStep_spec : ∀ a0 a1, Spec 0xf04c1e00000000000000000000000022000000000000000a0004812400000000000000 a0 (State.ttAgeStep a0 a1) := by
  intro a0 a1
  delta State.ttAgeStep
  extract_lets -underBinder -merge -useContext +onlyGivenNames x0
  clear_value x0
  extract_lets -underBinder -merge -useContext +onlyGivenNames x1
  have h2 : Spec 0xf04c1e00000000000000000000000022000000000000000a0004812400000000000000 a0 x1 := by
    refine Spec.step (State.modRx_spec _ _ _) rfl ?_
    exact Spec.refl
  clear_value x1
  refine Spec.ite ?_ ?_
  · refine Spec.step (State.ttAged_spec _ _) rfl ?_
    exact h2
  · exact h2

theorem State.ttBlind_spec : ∀ a0 a1, Spec 0xf04c1e00000000000000000000000022000000000000000a0004812400000000000000 a0 (State.ttBlind a0 a1) := by
  intro a0 a1
  delta State.ttBlind
  refine Spec.ite ?_ ?_
  · exact Spec.refl
  · refine Spec.step (State.ttAgeStep_spec _ _) rfl ?_
    exact Spec.refl

theorem State.stepTod_spec : ∀ a0 a1, Spec 0xb04c0c00000000000000000000000022000000000000000a0004000000000000000000 a0 (State.stepTod a0 a1) := by
  intro a0 a1
  delta State.stepTod
  extract_lets -underBinder -merge -useContext +onlyGivenNames x0
  clear_value x0
  refine Spec.ite ?_ ?_
  · exact Spec.refl
  · extract_lets -underBinder -merge -useContext +onlyGivenNames x1
    clear_value x1
    extract_lets -underBinder -merge -useContext +onlyGivenNames x2
    have h3 : Spec 0xb04c0c00000000000000000000000022000000000000000a0004000000000000000000 a0 x2 := by
      exact (Spec.set_tim rfl Spec.refl)
    clear_value x2
    refine Spec.step (State.raiseReg_spec _ _ _ _) rfl ?_
    exact h3

theorem State.d0Takeover_spec : ∀ a0, Spec 0xf04c1e00000000000000000000000022000000000000000a0004002000000000000000 a0 (State.d0Takeover a0) := by
  intro a0
  delta State.d0Takeover
  refine Spec.ite ?_ ?_
  · refine Spec.step (State.d0AfterFollow_spec _) rfl ?_
    refine Spec.ite ?_ ?_
    · refine Spec.step (State.d0Build_spec _) rfl ?_
      refine Spec.step (State.setD0_spec _ _) rfl ?_
      exact Spec.refl
    · refine Spec.step (State.setD0_spec _ _) rfl ?_
      exact Spec.refl
  · exact Spec.refl

theorem State.dtauRefresh_spec : ∀ a0, Spec 0x4040000000000000000000000000000000000000000000000000800000000000000000 a0 (State.dtauRefresh a0) := by
  intro a0
  delta State.dtauRefresh
  extract_lets -underBinder -merge -useContext +onlyGivenNames x0
  clear_value x0
  extract_lets -underBinder -merge -useContext +onlyGivenNames x1
  clear_value x1
  extract_lets -underBinder -merge -useContext +onlyGivenNames x2
  have h3 : Spec 0x4040000000000000000000000000000000000000000000000000800000000000000000 a0 x2 := by
    refine Spec.step (State.wr_spec _ _ _ _) rfl ?_
    exact Spec.refl
  clear_value x2
  extract_lets -underBinder -merge -useContext +onlyGivenNames x4
  clear_value x4
  refine Spec.step (State.tick_spec _) rfl ?_
  exact (Spec.set_tim rfl h3)

theorem State.ttDiscard_spec : ∀ a0 a1, Spec 0x40000000000000000000000000000000000000000000000000000000000000000000 a0 (State.ttDiscard a0 a1) := by
  intro a0 a1
  delta State.ttDiscard
  refine Spec.ite ?_ ?_
  · exact (Spec.set_tim rfl Spec.refl)
  · exact Spec.refl

theorem State.refFail_spec : ∀ a0 a1 a2, Spec 0xf04c1e00000000000000000000000022000000000000000a0004012400000000000000 a0 (State.refFail a0 a1 a2) := by
  intro a0 a1 a2
  delta State.refFail
  extract_lets -underBinder -merge -useContext +onlyGivenNames x0
  clear_value x0
  extract_lets -underBinder -merge -useContext +onlyGivenNames x1
  have h2 : Spec 0xf04c1e00000000000000000000000022000000000000000a0004012400000000000000 a0 x1 := by
    refine Spec.wrs_cons ?_
    refine Spec.wrs_cons ?_
    refine Spec.wrs_cons ?_
    refine Spec.wrs_nil ?_
    refine Spec.step (State.wr_spec _ _ _ _) rfl ?_
    refine Spec.step (State.wr_spec _ _ _ _) rfl ?_
    refine Spec.step (State.wr_spec _ _ _ _) rfl ?_
    exact Spec.refl
  clear_value x1
  extract_lets -underBinder -merge -useContext +onlyGivenNames x3
  have h4 : Spec 0xf04c1e00000000000000000000000022000000000000000a0004012400000000000000 a0 x3 := by
    refine Spec.ite ?_ ?_
    · refine Spec.step (State.raiseReg_spec _ _ _ _) rfl ?_
      exact h2
    · exact h2
  clear_value x3
  extract_lets -underBinder -merge -useContext +onlyGivenNames x5
  have h6 : Spec 0xf04c1e00000000000000000000000022000000000000000a0004012400000000000000 a0 x5 := by
    refine Spec.ite ?_ ?_
    · refine Spec.step (State.raiseReg_spec _ _ _ _) rfl ?_
      exact h4
    · exact h4
  clear_value x5
  refine Spec.step (State.timSelect_spec _) rfl ?_
  exact h6

theorem State.ttSecond_spec : ∀ a0, Spec 0xf04c1e00000000000000000000000022000000000000000a0004812400000000000000 a0 (State.ttSecond a0) := by
  intro a0
  delta State.ttSecond
  refine Spec.fold _ ?_ ?_
  · intro t0 i1
    try dsimp -zeta only
    refine Spec.ite ?_ ?_
    · exact Spec.refl
    · refine Spec.step (State.ttAged_spec _ _) rfl ?_
      refine Spec.step (State.modRx_spec _ _ _) rfl ?_
      exact Spec.refl
  · exact Spec.refl

end Sys2Proof.Machine
end

