-- ==== Sys2Proof/Laws/Frames04.lean ====
section
/-! SUPPORT. What each operation and each command of the files Machine/HkOps can do: one lemma each,
`<name>_spec`, whose first argument is the footprint (Laws/Spec.lean). -/
namespace Sys2Proof.Machine

theorem State.modHkCh_spec : ∀ a0 a1 a2, Spec 0x80000000000000000000000000000000000000000000000000000000000000000000 a0 (State.modHkCh a0 a1 a2) := by
  intro a0 a1 a2
  delta State.modHkCh
  exact (Spec.set_hk rfl Spec.refl)

theorem State.decimZero_spec : ∀ a0 a1, Spec 0x80000000000000000000000000000000000000000000000000000000000000000000 a0 (State.decimZero a0 a1) := by
  intro a0 a1
  delta State.decimZero
  refine Spec.step (State.modHkCh_spec _ _ _) rfl ?_
  exact Spec.refl

theorem State.chanStart_spec : ∀ a0 a1, Spec 0x80000000000000000000000000000000000000000000000000000000000000000000 a0 (State.chanStart a0 a1) := by
  intro a0 a1
  delta State.chanStart
  refine Spec.step (State.modHkCh_spec _ _ _) rfl ?_
  refine Spec.step (State.decimZero_spec _ _) rfl ?_
  exact Spec.refl

theorem State.modHk_spec : ∀ a0 a1, Spec 0x80000000000000000000000000000000000000000000000000000000000000000000 a0 (State.modHk a0 a1) := by
  intro a0 a1
  delta State.modHk
  exact (Spec.set_hk rfl Spec.refl)

theorem State.hkEstStop_spec : ∀ a0, Spec 0xb10c0c00000000000000000000000022000000090000000a0000000000000000000000 a0 (State.hkEstStop a0) := by
  intro a0
  delta State.hkEstStop
  refine Spec.ite ?_ ?_
  · exact Spec.refl
  · refine Spec.step (State.forceCheck_spec _ _ _) rfl ?_
    refine Spec.step (State.wr_spec _ _ _ _) rfl ?_
    exact (Spec.set_cal rfl Spec.refl)

theorem State.hkShow_spec : ∀ a0, Spec 0xb10c0c00000000000000000000000022000000090000004a0000000000000000000000 a0 (State.hkShow a0) := by
  intro a0
  delta State.hkShow
  extract_lets -underBinder -merge -useContext +onlyGivenNames x0
  have h1 : Spec 0xb10c0c00000000000000000000000022000000090000004a0000000000000000000000 a0 x0 := by
    refine Spec.step (State.hkEstStop_spec _) rfl ?_
    exact Spec.refl
  clear_value x0
  refine Spec.wrs_cons ?_
  refine Spec.wrs_cons ?_
  refine Spec.wrs_cons ?_
  refine Spec.wrs_cons ?_
  refine Spec.wrs_cons ?_
  refine Spec.wrs_nil ?_
  refine Spec.step (State.wr_spec _ _ _ _) rfl ?_
  refine Spec.step (State.wr_spec _ _ _ _) rfl ?_
  refine Spec.step (State.wr_spec _ _ _ _) rfl ?_
  refine Spec.step (State.wr_spec _ _ _ _) rfl ?_
  refine Spec.step (State.wr_spec _ _ _ _) rfl ?_
  exact h1

theorem State.aoutRefresh_spec : ∀ a0 a1, Spec 0x20000000000000000000000000000000000008000000000000000000000000000 a0 (State.aoutRefresh a0 a1) := by
  intro a0 a1
  delta State.aoutRefresh
  extract_lets -underBinder -merge -useContext +onlyGivenNames x0
  clear_value x0
  extract_lets -underBinder -merge -useContext +onlyGivenNames x1
  clear_value x1
  extract_lets -underBinder -merge -useContext +onlyGivenNames x2
  have h3 : Spec 0x20000000000000000000000000000000000008000000000000000000000000000 a0 x2 := by
    exact (Spec.set_pin rfl Spec.refl)
  clear_value x2
  refine Spec.step (State.wr_spec _ _ _ _) rfl ?_
  exact h3

theorem State.hkTrimsApply_spec : ∀ a0 a1, Spec 0x100020000000000000000000000000000000000008000000000000000000000000000 a0 (State.hkTrimsApply a0 a1) := by
  intro a0 a1
  delta State.hkTrimsApply
  extract_lets -underBinder -merge -useContext +onlyGivenNames x0
  clear_value x0
  extract_lets -underBinder -merge -useContext +onlyGivenNames x1
  have h2 : Spec 0x100020000000000000000000000000000000000008000000000000000000000000000 a0 x1 := by
    refine Spec.step (State.hkTrims_spec _ _) rfl ?_
    exact Spec.refl
  clear_value x1
  refine Spec.ite ?_ ?_
  · refine Spec.fold _ ?_ ?_
    · intro t3 i4
      try dsimp -zeta only
      refine Spec.step (State.aoutRefresh_spec _ _) rfl ?_
      exact Spec.refl
    · exact h2
  · exact h2

theorem State.linSwap_spec : ∀ a0 a1, Spec 0xb08c0c00000000000000000000000022000000000000008a0000000000000000000000 a0 (State.linSwap a0 a1) := by
  intro a0 a1
  delta State.linSwap
  refine Spec.ite ?_ ?_
  · extract_lets -underBinder -merge -useContext +onlyGivenNames x0
    clear_value x0
    refine Spec.step (State.raiseReg_spec _ _ _ _) rfl ?_
    refine Spec.step (State.modHkCh_spec _ _ _) rfl ?_
    exact Spec.refl
  · exact Spec.refl

theorem State.idleApply_spec : ∀ a0, Spec 0xb18c0e00000000000000000000000022000000000080008a0000000000000000000000 a0 (State.idleApply a0) := by
  intro a0
  delta State.idleApply
  refine Spec.step (State.hkTrimsApply_spec _ _) rfl ?_
  refine Spec.fold _ ?_ ?_
  · intro t0 i1
    try dsimp -zeta only
    refine Spec.step (State.linSwap_spec _ _) rfl ?_
    exact Spec.refl
  · exact Spec.refl

theorem State.compatStart_spec : ∀ a0, Spec 0xb18c0e0000000000000000000000002200000009008000ca0000000000000000000000 a0 (State.compatStart a0) := by
  intro a0
  delta State.compatStart
  extract_lets -underBinder -merge -useContext +onlyGivenNames x0
  clear_value x0
  extract_lets -underBinder -merge -useContext +onlyGivenNames x1
  have h2 : Spec 0xb18c0e0000000000000000000000002200000009008000ca0000000000000000000000 a0 x1 := by
    refine Spec.step (State.chanStart_spec _ _) rfl ?_
    refine Spec.step (State.modHk_spec _ _) rfl ?_
    exact Spec.refl
  clear_value x1
  refine Spec.step (State.hkShow_spec _) rfl ?_
  refine Spec.ite ?_ ?_
  · exact h2
  · refine Spec.step (State.idleApply_spec _) rfl ?_
    exact h2

theorem State.almRefresh_spec : ∀ a0, Spec 0x10000000000000000000000000000 a0 (State.almRefresh a0) := by
  intro a0
  delta State.almRefresh
  extract_lets -underBinder -merge -useContext +onlyGivenNames x0
  clear_value x0
  refine Spec.step (State.wr_spec _ _ _ _) rfl ?_
  exact Spec.refl

theorem State.compatOff_spec : ∀ a0, Spec 0xb18c0c00000000000000000000000022000000090000006a0000000000000000000000 a0 (State.compatOff a0) := by
  intro a0
  delta State.compatOff
  refine Spec.step (State.hkShow_spec _) rfl ?_
  refine Spec.step (State.modHk_spec _ _) rfl ?_
  refine Spec.step (State.wr_spec _ _ _ _) rfl ?_
  exact Spec.refl

theorem State.compatOn_spec : ∀ a0, Spec 0xb18c0e0000000000000000000000002200000009008000ea0000000000000000000000 a0 (State.compatOn a0) := by
  intro a0
  delta State.compatOn
  extract_lets -underBinder -merge -useContext +onlyGivenNames x0
  have h3 : Spec 0xb18c0e0000000000000000000000002200000009008000ea0000000000000000000000 a0 x0 := by
    refine Spec.fold _ ?_ ?_
    · intro t1 i2
      try dsimp -zeta only
      refine Spec.step (State.modHkCh_spec _ _ _) rfl ?_
      exact Spec.refl
    · exact Spec.refl
  clear_value x0
  refine Spec.step (State.compatStart_spec _) rfl ?_
  refine Spec.step (State.modHk_spec _ _) rfl ?_
  refine Spec.step (State.wr_spec _ _ _ _) rfl ?_
  exact h3

theorem State.modDet_spec : ∀ a0 a1 a2, Spec 0x80000000000000000000000000000000000000000000000000000000000000000000 a0 (State.modDet a0 a1 a2) := by
  intro a0 a1 a2
  delta State.modDet
  exact (Spec.set_hk rfl Spec.refl)

theorem State.decimReset_spec : ∀ a0 a1, Spec 0x80000000000000000000000000000000000000000000000000000000000000000000 a0 (State.decimReset a0 a1) := by
  intro a0 a1
  delta State.decimReset
  refine Spec.step (State.modHkCh_spec _ _ _) rfl ?_
  refine Spec.step (State.decimZero_spec _ _) rfl ?_
  exact Spec.refl

theorem State.slotStart_spec : ∀ a0, Spec 0xb18c0e0000000000000000000000002200000009008000ca0000000000000000000000 a0 (State.slotStart a0) := by
  intro a0
  delta State.slotStart
  split
  · extract_lets -underBinder -merge -useContext +onlyGivenNames x0
    have h1 : Spec 0xb18c0e0000000000000000000000002200000009008000ca0000000000000000000000 a0 x0 := by
      refine Spec.step (State.modHk_spec _ _) rfl ?_
      exact Spec.refl
    clear_value x0
    extract_lets -underBinder -merge -useContext +onlyGivenNames x2
    have h3 : Spec 0xb18c0e0000000000000000000000002200000009008000ca0000000000000000000000 a0 x2 := by
      refine Spec.ite ?_ ?_
      · refine Spec.step (State.chanStart_spec _ _) rfl ?_
        exact h1
      · exact h1
    clear_value x2
    refine Spec.step (State.hkShow_spec _) rfl ?_
    refine Spec.ite ?_ ?_
    · exact h3
    · refine Spec.step (State.idleApply_spec _) rfl ?_
      exact h3

theorem State.filterFrame_spec : ∀ a0 a1, Spec 0xb18c0e0000000000000000000000002200000009008000ca0000000000000000000000 a0 (State.filterFrame a0 a1) := by
  intro a0 a1
  delta State.filterFrame
  extract_lets -underBinder -merge -useContext +onlyGivenNames x0
  clear_value x0
  extract_lets -underBinder -merge -useContext +onlyGivenNames x1
  have h2 : Spec 0xb18c0e0000000000000000000000002200000009008000ca0000000000000000000000 a0 x1 := by
    refine Spec.step (State.hkTrimsApply_spec _ _) rfl ?_
    refine Spec.step (State.linSwap_spec _ _) rfl ?_
    exact Spec.refl
  clear_value x1
  extract_lets -underBinder -merge -useContext +onlyGivenNames x3
  have h4 : Spec 0xb18c0e0000000000000000000000002200000009008000ca0000000000000000000000 a0 x3 := by
    refine Spec.ite ?_ ?_
    · exact h2
    · refine Spec.step (State.modHk_spec _ _) rfl ?_
      exact h2
  clear_value x3
  refine Spec.ite ?_ ?_
  · refine Spec.step (State.slotStart_spec _) rfl ?_
    exact h4
  · exact h4

theorem State.clampStep_spec : ∀ a0 a1, Spec 0x4080000000000000000000000000000000000000000000000000000000000000000000 a0 (State.clampStep a0 a1) := by
  intro a0 a1
  delta State.clampStep
  extract_lets -underBinder -merge -useContext +onlyGivenNames x0
  clear_value x0
  extract_lets -underBinder -merge -useContext +onlyGivenNames x1
  clear_value x1
  refine Spec.ite ?_ ?_
  · extract_lets -underBinder -merge -useContext +onlyGivenNames x2
    clear_value x2
    refine Spec.step (State.tick_spec _) rfl ?_
    refine Spec.step (State.modHkCh_spec _ _ _) rfl ?_
    exact Spec.refl
  · refine Spec.step (State.modHkCh_spec _ _ _) rfl ?_
    exact Spec.refl

theorem State.detResult_spec : ∀ a0 a1 a2, Spec 0xb08c0c00000000000000000000000022000000000124008a0000000000000000000000 a0 (State.detResult a0 a1 a2) := by
  intro a0 a1 a2
  delta State.detResult
  extract_lets -underBinder -merge -useContext +onlyGivenNames x0
  have h1 : Spec 0xb08c0c00000000000000000000000022000000000124008a0000000000000000000000 a0 x0 := by
    refine Spec.step (State.wrInt_spec _ _ _ _) rfl ?_
    exact Spec.refl
  clear_value x0
  refine Spec.ite ?_ ?_
  · extract_lets -underBinder -merge -useContext +onlyGivenNames x2
    have h3 : Spec 0xb08c0c00000000000000000000000022000000000124008a0000000000000000000000 a0 x2 := by
      refine Spec.step (State.modDet_spec _ _ _) rfl ?_
      exact h1
    clear_value x2
    refine Spec.ite ?_ ?_
    · exact h3
    · refine Spec.step (State.raiseReg_spec _ _ _ _) rfl ?_
      refine Spec.step (State.almRefresh_spec _) rfl ?_
      refine Spec.step (State.wr_spec _ _ _ _) rfl ?_
      exact h3
  · exact h1

theorem State.detWord_spec : ∀ a0 a1 a2, Spec 0xb08c0c00000000000000000000000022000000000124008a0000000000000000000000 a0 (State.detWord a0 a1 a2) := by
  intro a0 a1 a2
  delta State.detWord
  extract_lets -underBinder -merge -useContext +onlyGivenNames x0
  clear_value x0
  extract_lets -underBinder -merge -useContext +onlyGivenNames x1
  clear_value x1
  extract_lets -underBinder -merge -useContext +onlyGivenNames x2
  clear_value x2
  extract_lets -underBinder -merge -useContext +onlyGivenNames x3
  have h4 : Spec 0xb08c0c00000000000000000000000022000000000124008a0000000000000000000000 a0 x3 := by
    refine Spec.step (State.modDet_spec _ _ _) rfl ?_
    exact Spec.refl
  clear_value x3
  extract_lets -underBinder -merge -useContext +onlyGivenNames x5
  clear_value x5
  extract_lets -underBinder -merge -useContext +onlyGivenNames x6
  have h7 : Spec 0xb08c0c00000000000000000000000022000000000124008a0000000000000000000000 a0 x6 := by
    refine Spec.ite ?_ ?_
    · refine Spec.step (State.detResult_spec _ _ _) rfl ?_
      exact h4
    · refine Spec.ite ?_ ?_
      · refine Spec.step (State.detResult_spec _ _ _) rfl ?_
        exact h4
      · exact h4
  clear_value x6
  extract_lets -underBinder -merge -useContext +onlyGivenNames x8
  have h9 : Spec 0xb08c0c00000000000000000000000022000000000124008a0000000000000000000000 a0 x8 := by
    refine Spec.ite ?_ ?_
    · refine Spec.step (State.modDet_spec _ _ _) rfl ?_
      exact h7
    · exact h7
  clear_value x8
  refine Spec.ite ?_ ?_
  · refine Spec.step (State.almRefresh_spec _) rfl ?_
    refine Spec.step (State.wr_spec _ _ _ _) rfl ?_
    exact h9
  · exact h9

theorem State.deliver_spec : ∀ a0 a1 a2, Spec 0xf08c0c00000000000000000000000022000000000124788a0000000000000000000000 a0 (State.deliver a0 a1 a2) := by
  intro a0 a1 a2
  delta State.deliver
  extract_lets -underBinder -merge -useContext +onlyGivenNames x0
  clear_value x0
  extract_lets -underBinder -merge -useContext +onlyGivenNames x1
  clear_value x1
  extract_lets -underBinder -merge -useContext +onlyGivenNames x2
  clear_value x2
  extract_lets -underBinder -merge -useContext +onlyGivenNames x3
  clear_value x3
  extract_lets -underBinder -merge -useContext +onlyGivenNames x4
  clear_value x4
  extract_lets -underBinder -merge -useContext +onlyGivenNames x5
  clear_value x5
  extract_lets -underBinder -merge -useContext +onlyGivenNames x6
  clear_value x6
  extract_lets -underBinder -merge -useContext +onlyGivenNames x7
  clear_value x7
  extract_lets -underBinder -merge -useContext +onlyGivenNames x8
  clear_value x8
  extract_lets -underBinder -merge -useContext +onlyGivenNames x9
  clear_value x9
  extract_lets -underBinder -merge -useContext +onlyGivenNames x10
  have h11 : Spec 0xf08c0c00000000000000000000000022000000000124788a0000000000000000000000 a0 x10 := by
    refine Spec.wrs_cons ?_
    refine Spec.wrs_cons ?_
    refine Spec.wrs_cons ?_
    refine Spec.wrs_cons ?_
    refine Spec.wrs_cons ?_
    refine Spec.wrs_cons ?_
    refine Spec.wrs_nil ?_
    refine Spec.step (State.wr_spec _ _ _ _) rfl ?_
    refine Spec.step (State.wr_spec _ _ _ _) rfl ?_
    refine Spec.step (State.wr_spec _ _ _ _) rfl ?_
    refine Spec.step (State.wr_spec _ _ _ _) rfl ?_
    refine Spec.step (State.wr_spec _ _ _ _) rfl ?_
    refine Spec.step (State.wr_spec _ _ _ _) rfl ?_
    exact Spec.refl
  clear_value x10
  extract_lets -underBinder -merge -useContext +onlyGivenNames x12
  have h13 : Spec 0xf08c0c00000000000000000000000022000000000124788a0000000000000000000000 a0 x12 := by
    refine Spec.step (State.wrInt_spec _ _ _ _) rfl ?_
    exact h11
  clear_value x12
  extract_lets -underBinder -merge -useContext +onlyGivenNames x14
  have h15 : Spec 0xf08c0c00000000000000000000000022000000000124788a0000000000000000000000 a0 x14 := by
    refine Spec.ite ?_ ?_
    · exact h13
    · refine Spec.step (State.wrInt_spec _ _ _ _) rfl ?_
      refine Spec.step (State.wrInt_spec _ _ _ _) rfl ?_
      refine Spec.step (State.wrInt_spec _ _ _ _) rfl ?_
      exact h13
  clear_value x14
  extract_lets -underBinder -merge -useContext +onlyGivenNames x16
  have h17 : Spec 0xf08c0c00000000000000000000000022000000000124788a0000000000000000000000 a0 x16 := by
    refine Spec.step (State.modHkCh_spec _ _ _) rfl ?_
    refine Spec.step (State.clampStep_spec _ _) rfl ?_
    exact h15
  clear_value x16
  extract_lets -underBinder -merge -useContext +onlyGivenNames x18
  have h21 : Spec 0xf08c0c00000000000000000000000022000000000124788a0000000000000000000000 a0 x18 := by
    refine Spec.ite ?_ ?_
    · exact h17
    · refine Spec.fold _ ?_ ?_
      · intro t19 i20
        try dsimp -zeta only
        refine Spec.step (State.detWord_spec _ _ _) rfl ?_
        exact Spec.refl
      · exact h17
  clear_value x18
  refine Spec.step (State.hkTelemetry_spec _ _ _) rfl ?_
  exact h21

theorem State.hkSync_spec : ∀ a0, Spec 0xf18c0e000000000000000000000000220000000901a478ca0000000000000000000000 a0 (State.hkSync a0) := by
  intro a0
  delta State.hkSync
  extract_lets -underBinder -merge -useContext +onlyGivenNames x0
  have h1 : Spec 0xf18c0e000000000000000000000000220000000901a478ca0000000000000000000000 a0 x0 := by
    refine Spec.step (State.raiseReg_spec _ _ _ _) rfl ?_
    exact Spec.refl
  clear_value x0
  extract_lets -underBinder -merge -useContext +onlyGivenNames x2
  have h5 : Spec 0xf18c0e000000000000000000000000220000000901a478ca0000000000000000000000 a0 x2 := by
    refine Spec.fold _ ?_ ?_
    · intro t3 i4
      try dsimp -zeta only
      refine Spec.step (State.modDet_spec _ _ _) rfl ?_
      exact Spec.refl
    · exact h1
  clear_value x2
  extract_lets -underBinder -merge -useContext +onlyGivenNames x6
  have h9 : Spec 0xf18c0e000000000000000000000000220000000901a478ca0000000000000000000000 a0 x6 := by
    refine Spec.fold _ ?_ ?_
    · intro t7 i8
      try dsimp -zeta only
      refine Spec.step (State.decimReset_spec _ _) rfl ?_
      exact Spec.refl
    · exact h5
  clear_value x6
  refine Spec.ite ?_ ?_
  · extract_lets -underBinder -merge -useContext +onlyGivenNames x10
    have h11 : Spec 0xf18c0e000000000000000000000000220000000901a478ca0000000000000000000000 a0 x10 := by
      unfold x10
      split
      · exact h9
      · refine Spec.step (State.filterFrame_spec _ _) rfl ?_
        refine Spec.step (State.deliver_spec _ _ _) rfl ?_
        exact h9
    clear_value x10
    refine Spec.step (State.compatStart_spec _) rfl ?_
    refine Spec.step (State.modHk_spec _ _) rfl ?_
    exact h11
  · exact h9

theorem State.hkUrgent_spec : ∀ a0, Spec 0xb18c0e0000000000000000000000002200000009008000ca0000000000000000000000 a0 (State.hkUrgent a0) := by
  intro a0
  delta State.hkUrgent
  refine Spec.ite ?_ ?_
  · refine Spec.step (State.raiseCountReg_spec _ _ _ _ _ _) rfl ?_
    exact Spec.refl
  · refine Spec.step (State.slotStart_spec _) rfl ?_
    refine Spec.step (State.modHk_spec _ _) rfl ?_
    exact Spec.refl

theorem State.startIgn_spec : ∀ a0, Spec 0xb00c0c00000000000000000000000022000000000000008a0000000000000000000000 a0 (State.startIgn a0) := by
  intro a0
  delta State.startIgn
  refine Spec.step (State.raiseCountReg_spec _ _ _ _ _ _) rfl ?_
  exact Spec.refl

theorem State.regStart_spec : ∀ a0, Spec 0xb18c0e0000000000000000000000002200000009008000ca0000000000000000000000 a0 (State.regStart a0) := by
  intro a0
  delta State.regStart
  refine Spec.step (State.slotStart_spec _) rfl ?_
  refine Spec.step (State.modHk_spec _ _) rfl ?_
  exact Spec.refl

theorem State.hkStart_spec : ∀ a0, Spec 0xb18c0e0000000000000000000000002200000009008000ca0000000000000000000000 a0 (State.hkStart a0) := by
  intro a0
  delta State.hkStart
  refine Spec.ite ?_ ?_
  · refine Spec.step (State.startIgn_spec _) rfl ?_
    exact Spec.refl
  · refine Spec.ite ?_ ?_
    · refine Spec.ite ?_ ?_
      · refine Spec.step (State.startIgn_spec _) rfl ?_
        exact Spec.refl
      · refine Spec.step (State.modHk_spec _ _) rfl ?_
        exact Spec.refl
    · refine Spec.ite ?_ ?_
      · refine Spec.step (State.startIgn_spec _) rfl ?_
        exact Spec.refl
      · refine Spec.step (State.regStart_spec _) rfl ?_
        exact Spec.refl

theorem State.hkStop_spec : ∀ a0, Spec 0x80000000000000000000000000000000000000000000000000000000000000000000 a0 (State.hkStop a0) := by
  intro a0
  delta State.hkStop
  refine Spec.ite ?_ ?_
  · refine Spec.step (State.modHk_spec _ _) rfl ?_
    exact Spec.refl
  · exact Spec.refl

theorem State.chgClose_spec : ∀ a0 a1, Spec 0x80000000000000000000000000 a0 (State.chgClose a0 a1) := by
  intro a0 a1
  delta State.chgClose
  refine Spec.ite ?_ ?_
  · refine Spec.step (State.wr_spec _ _ _ _) rfl ?_
    exact Spec.refl
  · exact Spec.refl

theorem State.hkChWrite_spec : ∀ s c l w, l.all (fun f => f.bit ||| 0xb18c0c00000000000000000000000022000000090000834a0000000000000000000000 == 0xb18c0c00000000000000000000000022000000090000834a0000000000000000000000) = true →
    Spec 0xb18c0c00000000000000000000000022000000090000834a0000000000000000000000 s (State.hkChWrite s c l w) := by
  intro s c l w hl
  delta State.hkChWrite
  extract_lets -underBinder -merge -useContext +onlyGivenNames part chg rise x y z
  have hx : Spec 0xb18c0c00000000000000000000000022000000090000834a0000000000000000000000 s x := Spec.foldWr l hl Spec.refl
  have hy : Spec 0xb18c0c00000000000000000000000022000000090000834a0000000000000000000000 s y := Spec.ite (Spec.step (State.chgClose_spec _ _) rfl hx) hx
  have hz : Spec 0xb18c0c00000000000000000000000022000000090000834a0000000000000000000000 s z := Spec.ite (Spec.step (State.modHkCh_spec _ _ _) rfl hy) hy
  exact Spec.step (State.hkShow_spec _) rfl hz

theorem State.aoutFresh_spec : ∀ a0 a1, Spec 0x20000000000000000000000000000000000008000000000000000000000000000 a0 (State.aoutFresh a0 a1) := by
  intro a0 a1
  delta State.aoutFresh
  extract_lets -underBinder -merge -useContext +onlyGivenNames x0
  clear_value x0
  refine Spec.step (State.aoutRefresh_spec _ _) rfl ?_
  refine Spec.wrs_cons ?_
  refine Spec.wrs_cons ?_
  refine Spec.wrs_cons ?_
  refine Spec.wrs_nil ?_
  refine Spec.step (State.wr_spec _ _ _ _) rfl ?_
  refine Spec.step (State.wr_spec _ _ _ _) rfl ?_
  refine Spec.step (State.wr_spec _ _ _ _) rfl ?_
  exact Spec.refl

theorem State.aoutOff_spec : ∀ a0 a1, Spec 0x20000000000000000000000000000000000008000000000000000000000000000 a0 (State.aoutOff a0 a1) := by
  intro a0 a1
  delta State.aoutOff
  extract_lets -underBinder -merge -useContext +onlyGivenNames x0
  clear_value x0
  extract_lets -underBinder -merge -useContext +onlyGivenNames x1
  have h2 : Spec 0x20000000000000000000000000000000000008000000000000000000000000000 a0 x1 := by
    refine Spec.wrs_cons ?_
    refine Spec.wrs_cons ?_
    refine Spec.wrs_nil ?_
    refine Spec.step (State.wr_spec _ _ _ _) rfl ?_
    refine Spec.step (State.wr_spec _ _ _ _) rfl ?_
    exact Spec.refl
  clear_value x1
  extract_lets -underBinder -merge -useContext +onlyGivenNames x3
  have h6 : Spec 0x20000000000000000000000000000000000008000000000000000000000000000 a0 x3 := by
    refine Spec.fold _ ?_ ?_
    · intro t4 i5
      try dsimp -zeta only
      refine Spec.wrs_cons ?_
      refine Spec.wrs_cons ?_
      refine Spec.wrs_nil ?_
      refine Spec.step (State.wr_spec _ _ _ _) rfl ?_
      refine Spec.step (State.wr_spec _ _ _ _) rfl ?_
      exact Spec.refl
    · exact h2
  clear_value x3
  refine Spec.fold _ ?_ ?_
  · intro t7 i8
    try dsimp -zeta only
    refine Spec.step (State.aoutFresh_spec _ _) rfl ?_
    exact Spec.refl
  · refine Spec.step (State.aoutFresh_spec _ _) rfl ?_
    exact h6

theorem State.aoutWrite_spec : ∀ a0 a1 a2, Spec 0xb10c0e000000000000000000000000220000000d00c0000a0000000000000000000000 a0 (State.aoutWrite a0 a1 a2) := by
  intro a0 a1 a2
  delta State.aoutWrite
  extract_lets -underBinder -merge -useContext +onlyGivenNames x0
  have h1 : Spec 0xb10c0e000000000000000000000000220000000d00c0000a0000000000000000000000 a0 x0 := by
    refine Spec.wrs_cons ?_
    refine Spec.wrs_cons ?_
    refine Spec.wrs_cons ?_
    refine Spec.wrs_nil ?_
    refine Spec.step (State.wr_spec _ _ _ _) rfl ?_
    refine Spec.step (State.wr_spec _ _ _ _) rfl ?_
    refine Spec.step (State.wr_spec _ _ _ _) rfl ?_
    exact Spec.refl
  clear_value x0
  extract_lets -underBinder -merge -useContext +onlyGivenNames x2
  have h3 : Spec 0xb10c0e000000000000000000000000220000000d00c0000a0000000000000000000000 a0 x2 := by
    refine Spec.ite ?_ ?_
    · refine Spec.step (State.aoutOff_spec _ _) rfl ?_
      exact h1
    · refine Spec.step (State.aoutRefresh_spec _ _) rfl ?_
      exact h1
  clear_value x2
  refine Spec.step (State.forceCheck_spec _ _ _) rfl ?_
  refine Spec.step (State.calShow_spec _ _ _) rfl ?_
  refine Spec.step (State.calShow_spec _ _ _) rfl ?_
  exact h3

theorem State.regStop_spec : ∀ a0, Spec 0xb18c0c00000000000000000000000022000000090000004a0000000000000000000000 a0 (State.regStop a0) := by
  intro a0
  delta State.regStop
  refine Spec.step (State.hkShow_spec _) rfl ?_
  refine Spec.step (State.modHk_spec _ _) rfl ?_
  exact Spec.refl

theorem State.injEnd_spec : ∀ a0, Spec 0xb18c0e0000000000000000000000002200000009008000ca0000000000000000000000 a0 (State.injEnd a0) := by
  intro a0
  delta State.injEnd
  extract_lets -underBinder -merge -useContext +onlyGivenNames x0
  clear_value x0
  extract_lets -underBinder -merge -useContext +onlyGivenNames x1
  have h2 : Spec 0xb18c0e0000000000000000000000002200000009008000ca0000000000000000000000 a0 x1 := by
    refine Spec.step (State.modHk_spec _ _) rfl ?_
    exact Spec.refl
  clear_value x1
  extract_lets -underBinder -merge -useContext +onlyGivenNames x3
  have h4 : Spec 0xb18c0e0000000000000000000000002200000009008000ca0000000000000000000000 a0 x3 := by
    unfold x3
    split
    · refine Spec.step (State.regStop_spec _) rfl ?_
      exact h2
    · refine Spec.ite ?_ ?_
      · refine Spec.step (State.regStop_spec _) rfl ?_
        exact h2
      · refine Spec.step (State.slotStart_spec _) rfl ?_
        refine Spec.step (State.modHk_spec _ _) rfl ?_
        exact h2
  clear_value x3
  refine Spec.ite ?_ ?_
  · refine Spec.step (State.hkStart_spec _) rfl ?_
    exact h4
  · exact h4

theorem State.calPointNext_spec : ∀ a0, Spec 0x80000000000000000000000000000000000000000000000000000000000000000000 a0 (State.calPointNext a0) := by
  intro a0
  delta State.calPointNext
  extract_lets -underBinder -merge -useContext +onlyGivenNames x0
  clear_value x0
  refine Spec.step (State.modHk_spec _ _) rfl ?_
  exact Spec.refl

theorem State.regSlotEnd_spec : ∀ a0, Spec 0xb18c0e0000000000000000000000002200000009008000ca0000000000000000000000 a0 (State.regSlotEnd a0) := by
  intro a0
  delta State.regSlotEnd
  extract_lets -underBinder -merge -useContext +onlyGivenNames x0
  have h1 : Spec 0xb18c0e0000000000000000000000002200000009008000ca0000000000000000000000 a0 x0 := by
    refine Spec.ite ?_ ?_
    · refine Spec.step (State.calPointNext_spec _) rfl ?_
      exact Spec.refl
    · exact Spec.refl
  clear_value x0
  refine Spec.ite ?_ ?_
  · refine Spec.step (State.regStop_spec _) rfl ?_
    exact h1
  · refine Spec.ite ?_ ?_
    · exact h1
    · refine Spec.ite ?_ ?_
      · refine Spec.ite ?_ ?_
        · refine Spec.step (State.regStart_spec _) rfl ?_
          exact h1
        · refine Spec.step (State.regStop_spec _) rfl ?_
          exact h1
      · refine Spec.ite ?_ ?_
        · refine Spec.step (State.slotStart_spec _) rfl ?_
          refine Spec.step (State.modHk_spec _ _) rfl ?_
          exact h1
        · refine Spec.step (State.slotStart_spec _) rfl ?_
          refine Spec.step (State.modHk_spec _ _) rfl ?_
          exact h1

theorem State.slotEnd_spec : ∀ a0, Spec 0xb18c0e0000000000000000000000002200000009008000ca0000000000000000000000 a0 (State.slotEnd a0) := by
  intro a0
  delta State.slotEnd
  refine Spec.ite ?_ ?_
  · refine Spec.step (State.compatStart_spec _) rfl ?_
    refine Spec.step (State.modHk_spec _ _) rfl ?_
    exact Spec.refl
  · refine Spec.ite ?_ ?_
    · refine Spec.ite ?_ ?_
      · refine Spec.step (State.slotStart_spec _) rfl ?_
        refine Spec.step (State.modHk_spec _ _) rfl ?_
        exact Spec.refl
      · refine Spec.step (State.injEnd_spec _) rfl ?_
        exact Spec.refl
    · refine Spec.ite ?_ ?_
      · refine Spec.step (State.regSlotEnd_spec _) rfl ?_
        exact Spec.refl
      · exact Spec.refl

end Sys2Proof.Machine
end

