-- ==== Sys2Proof/Laws/Frames05.lean ====
section
/-! SUPPORT. What each operation and each command of the files Machine/Cal, CipherOps, Cipher can do: one lemma each,
`<name>_spec`, whose first argument is the footprint (Laws/Spec.lean). -/
namespace Sys2Proof.Machine

theorem State.calForce_spec : ∀ a0, Spec 0xb10c1e000000000000000000000000220000000d0080000a0000000000000000000000 a0 (State.calForce a0) := by
  intro a0
  delta State.calForce
  refine Spec.ite ?_ ?_
  · exact Spec.refl
  · extract_lets -underBinder -merge -useContext +onlyGivenNames x0
    clear_value x0
    extract_lets -underBinder -merge -useContext +onlyGivenNames x1
    clear_value x1
    extract_lets -underBinder -merge -useContext +onlyGivenNames x2
    clear_value x2
    extract_lets -underBinder -merge -useContext +onlyGivenNames x3
    have h4 : Spec 0xb10c1e000000000000000000000000220000000d0080000a0000000000000000000000 a0 x3 := by
      exact (Spec.set_cal rfl Spec.refl)
    clear_value x3
    extract_lets -underBinder -merge -useContext +onlyGivenNames x5
    have h6 : Spec 0xb10c1e000000000000000000000000220000000d0080000a0000000000000000000000 a0 x5 := by
      refine Spec.step (State.dropTrims_spec _ _ _) rfl ?_
      exact h4
    clear_value x5
    extract_lets -underBinder -merge -useContext +onlyGivenNames x7
    have h10 : Spec 0xb10c1e000000000000000000000000220000000d0080000a0000000000000000000000 a0 x7 := by
      refine Spec.fold _ ?_ ?_
      · intro t8 i9
        try dsimp -zeta only
        refine Spec.wrs_cons ?_
        refine Spec.wrs_cons ?_
        refine Spec.wrs_nil ?_
        refine Spec.step (State.wr_spec _ _ _ _) rfl ?_
        refine Spec.step (State.wr_spec _ _ _ _) rfl ?_
        exact Spec.refl
      · exact h6
    clear_value x7
    extract_lets -underBinder -merge -useContext +onlyGivenNames x11
    have h14 : Spec 0xb10c1e000000000000000000000000220000000d0080000a0000000000000000000000 a0 x11 := by
      refine Spec.fold _ ?_ ?_
      · intro t12 i13
        try dsimp -zeta only
        refine Spec.step (State.aoutRefresh_spec _ _) rfl ?_
        exact Spec.refl
      · exact h10
    clear_value x11
    refine Spec.step (State.forceCheck_spec _ _ _) rfl ?_
    refine Spec.wrs_cons ?_
    refine Spec.wrs_cons ?_
    refine Spec.wrs_nil ?_
    refine Spec.step (State.wr_spec _ _ _ _) rfl ?_
    refine Spec.step (State.wr_spec _ _ _ _) rfl ?_
    exact h14

theorem State.calAccept_spec : ∀ a0 a1 a2 a3 a4, Spec 0x10010000000000000000000000000000000000c000000000000000000000000000000 a0 (State.calAccept a0 a1 a2 a3 a4) := by
  intro a0 a1 a2 a3 a4
  delta State.calAccept
  extract_lets -underBinder -merge -useContext +onlyGivenNames x0
  clear_value x0
  extract_lets -underBinder -merge -useContext +onlyGivenNames x1
  clear_value x1
  extract_lets -underBinder -merge -useContext +onlyGivenNames x2
  have h3 : Spec 0x10010000000000000000000000000000000000c000000000000000000000000000000 a0 x2 := by
    exact (Spec.set_cal rfl Spec.refl)
  clear_value x2
  extract_lets -underBinder -merge -useContext +onlyGivenNames x4
  clear_value x4
  extract_lets -underBinder -merge -useContext +onlyGivenNames x5
  have h6 : Spec 0x10010000000000000000000000000000000000c000000000000000000000000000000 a0 x5 := by
    refine Spec.ite ?_ ?_
    · exact h3
    · refine Spec.ite ?_ ?_
      · refine Spec.step (State.addShadow_spec _ _ _ _ _) rfl ?_
        exact h3
      · exact (Spec.set_cal rfl h3)
  clear_value x5
  refine Spec.step (State.calShow_spec _ _ _) rfl ?_
  exact h6

theorem execCalRefCompare_spec : ∀ a0 a1, SpecO 0xb10c1c00000000000000000000000022000000090000000a0000000000000000000000 a1 (execCalRefCompare a0 a1) := by
  intro a0 a1
  delta execCalRefCompare
  extract_lets -underBinder -merge -useContext +onlyGivenNames x0
  have h1 : Spec 0xb10c1c00000000000000000000000022000000090000000a0000000000000000000000 a1 x0 := by
    refine Spec.step (State.wrInt_spec _ _ _ _) rfl ?_
    exact Spec.refl
  clear_value x0
  extract_lets -underBinder -merge -useContext +onlyGivenNames x2
  clear_value x2
  extract_lets -underBinder -merge -useContext +onlyGivenNames x3
  clear_value x3
  extract_lets -underBinder -merge -useContext +onlyGivenNames x4
  have h5 : Spec 0xb10c1c00000000000000000000000022000000090000000a0000000000000000000000 a1 x4 := by
    exact (Spec.set_cal rfl h1)
  clear_value x4
  refine SpecO.ok ?_
  refine Spec.ite ?_ ?_
  · refine Spec.step (State.raiseReg_spec _ _ _ _) rfl ?_
    refine Spec.step (State.wr_spec _ _ _ _) rfl ?_
    refine Spec.step (State.dropTrims_spec _ _ _) rfl ?_
    exact h5
  · exact h5

theorem execPilotWaitExpire_spec : ∀ a0 a1, SpecO 0xb10c0c00000000000000000000000022000000050000000a0000000000000000000000 a1 (execPilotWaitExpire a0 a1) := by
  intro a0 a1
  delta execPilotWaitExpire
  refine SpecO.ok ?_
  refine Spec.ite ?_ ?_
  · exact Spec.refl
  · refine Spec.ite ?_ ?_
    · refine Spec.ite ?_ ?_
      · exact Spec.refl
      · refine Spec.step (State.raiseReg_spec _ _ _ _) rfl ?_
        refine Spec.step (State.wr_spec _ _ _ _) rfl ?_
        exact (Spec.set_cal rfl Spec.refl)
    · refine Spec.ite ?_ ?_
      · exact Spec.refl
      · refine Spec.step (State.raiseReg_spec _ _ _ _) rfl ?_
        exact (Spec.set_cal rfl Spec.refl)

theorem State.calReject_spec : ∀ a0 a1 a2 a3 a4, Spec 0xb10c0c000000000000000000000000220000000f0000000a0000000000000000000000 a0 (State.calReject a0 a1 a2 a3 a4) := by
  intro a0 a1 a2 a3 a4
  delta State.calReject
  extract_lets -underBinder -merge -useContext +onlyGivenNames x0
  clear_value x0
  extract_lets -underBinder -merge -useContext +onlyGivenNames x1
  clear_value x1
  extract_lets -underBinder -merge -useContext +onlyGivenNames x2
  clear_value x2
  extract_lets -underBinder -merge -useContext +onlyGivenNames x3
  have h4 : Spec 0xb10c0c000000000000000000000000220000000f0000000a0000000000000000000000 a0 x3 := by
    exact (Spec.set_cal rfl Spec.refl)
  clear_value x3
  extract_lets -underBinder -merge -useContext +onlyGivenNames x5
  have h6 : Spec 0xb10c0c000000000000000000000000220000000f0000000a0000000000000000000000 a0 x5 := by
    refine Spec.wrs_cons ?_
    refine Spec.wrs_cons ?_
    refine Spec.wrs_cons ?_
    refine Spec.wrs_cons ?_
    refine Spec.wrs_cons ?_
    refine Spec.wrs_nil ?_
    refine Spec.step (State.wr_spec _ _ _ _) rfl ?_
    refine Spec.step (State.wr_spec _ _ _ _) rfl ?_
    refine Spec.step (State.wr_spec _ _ _ _) rfl ?_
    refine Spec.step (State.wr_spec _ _ _ _) rfl ?_
    refine Spec.step (State.wr_spec _ _ _ _) rfl ?_
    exact h4
  clear_value x5
  extract_lets -underBinder -merge -useContext +onlyGivenNames x7
  have h8 : Spec 0xb10c0c000000000000000000000000220000000f0000000a0000000000000000000000 a0 x7 := by
    refine Spec.step (State.calShow_spec _ _ _) rfl ?_
    refine Spec.step (State.raiseCountReg_spec _ _ _ _ _ _) rfl ?_
    exact h6
  clear_value x7
  refine Spec.ite ?_ ?_
  · refine Spec.step (State.raiseReg_spec _ _ _ _) rfl ?_
    exact h8
  · exact h8

theorem State.calEstimate_spec : ∀ a0 a1 a2 a3 a4, Spec 0xb18c1c000000000000000000000000220000000f0000000a0000000000000000000000 a0 (State.calEstimate a0 a1 a2 a3 a4) := by
  intro a0 a1 a2 a3 a4
  delta State.calEstimate
  extract_lets -underBinder -merge -useContext +onlyGivenNames x0
  clear_value x0
  split
  · refine Spec.ite ?_ ?_
    · exact Spec.refl
    · extract_lets -underBinder -merge -useContext +onlyGivenNames x1
      have h2 : Spec 0xb18c1c000000000000000000000000220000000f0000000a0000000000000000000000 a0 x1 := by
        refine Spec.ite ?_ ?_
        · exact Spec.refl
        · refine Spec.step (State.modHk_spec _ _) rfl ?_
          exact Spec.refl
      clear_value x1
      extract_lets -underBinder -merge -useContext +onlyGivenNames x3
      clear_value x3
      extract_lets -underBinder -merge -useContext +onlyGivenNames x4
      clear_value x4
      extract_lets -underBinder -merge -useContext +onlyGivenNames x5
      clear_value x5
      extract_lets -underBinder -merge -useContext +onlyGivenNames x6
      have h7 : Spec 0xb18c1c000000000000000000000000220000000f0000000a0000000000000000000000 a0 x6 := by
        exact (Spec.set_cal rfl h2)
      clear_value x6
      extract_lets -underBinder -merge -useContext +onlyGivenNames x8
      have h9 : Spec 0xb18c1c000000000000000000000000220000000f0000000a0000000000000000000000 a0 x8 := by
        unfold x8
        split
        · refine Spec.step (State.calReject_spec _ _ _ _ _) rfl ?_
          exact h7
        · refine Spec.step (State.calAccept_spec _ _ _ _ _) rfl ?_
          exact h7
      clear_value x8
      refine Spec.step (State.forceCheck_spec _ _ _) rfl ?_
      refine Spec.step (State.requestCheck_spec _ _) rfl ?_
      exact h9

theorem execCalEstimate_spec : ∀ a0 a1 a2 a3 a4, SpecO 0xb18c1c000000000000000000000000220000000f0000000a0000000000000000000000 a4 (execCalEstimate a0 a1 a2 a3 a4) := by
  intro a0 a1 a2 a3 a4
  delta execCalEstimate
  refine SpecO.ok ?_
  refine Spec.step (State.calEstimate_spec _ _ _ _ _) rfl ?_
  exact Spec.refl

theorem execPilotFailTimeout_spec : ∀ a0 a1, SpecO 0xb00c0c00000000000000000000000022000000010000000a0000000000000000000000 a1 (execPilotFailTimeout a0 a1) := by
  intro a0 a1
  delta execPilotFailTimeout
  refine SpecO.ok ?_
  refine Spec.ite ?_ ?_
  · refine Spec.step (State.raiseReg_spec _ _ _ _) rfl ?_
    exact Spec.refl
  · exact Spec.refl

theorem State.lockShow_spec : ∀ a0 a1, Spec 0x400000000000000000000 a0 (State.lockShow a0 a1) := by
  intro a0 a1
  delta State.lockShow
  extract_lets -underBinder -merge -useContext +onlyGivenNames x0
  clear_value x0
  refine Spec.wrs_cons ?_
  refine Spec.wrs_cons ?_
  refine Spec.wrs_cons ?_
  refine Spec.wrs_cons ?_
  refine Spec.wrs_nil ?_
  refine Spec.step (State.wr_spec _ _ _ _) rfl ?_
  refine Spec.step (State.wr_spec _ _ _ _) rfl ?_
  refine Spec.step (State.wr_spec _ _ _ _) rfl ?_
  refine Spec.step (State.wr_spec _ _ _ _) rfl ?_
  exact Spec.refl

theorem State.purge_spec : ∀ a0 a1, Spec 0x2000000000000000000000000000000000000000000000400000000000000000000 a0 (State.purge a0 a1) := by
  intro a0 a1
  delta State.purge
  refine Spec.step (State.lockShow_spec _ _) rfl ?_
  refine Spec.step (State.modLock_spec _ _ _) rfl ?_
  exact Spec.refl

theorem State.purgeAll_spec : ∀ a0, Spec 0x2000000000000000000000000000000000000000000000400000000000000000000 a0 (State.purgeAll a0) := by
  intro a0
  delta State.purgeAll
  refine Spec.fold _ ?_ ?_
  · intro t0 i1
    try dsimp -zeta only
    refine Spec.step (State.purge_spec _ _) rfl ?_
    exact Spec.refl
  · exact Spec.refl

theorem State.kpFlip_spec : ∀ a0 a1 a2, Spec 0xb00c1c00000000000000000000000022000000000000000a0090000000000000000000 a0 (State.kpFlip a0 a1 a2) := by
  intro a0 a1 a2
  delta State.kpFlip
  refine Spec.ite ?_ ?_
  · refine Spec.step (State.raiseReg_spec _ _ _ _) rfl ?_
    exact Spec.refl
  · refine Spec.ite ?_ ?_
    · refine Spec.step (State.addShadow_spec _ _ _ _ _) rfl ?_
      refine Spec.step (State.wr_spec _ _ _ _) rfl ?_
      exact Spec.refl
    · exact Spec.refl

theorem State.setMember_spec : ∀ a0 a1, Spec 0x20000000000000000000000000000000000000000000000010000000000000000000 a0 (State.setMember a0 a1) := by
  intro a0 a1
  delta State.setMember
  extract_lets -underBinder -merge -useContext +onlyGivenNames x0
  clear_value x0
  extract_lets -underBinder -merge -useContext +onlyGivenNames x1
  have h2 : Spec 0x20000000000000000000000000000000000000000000000010000000000000000000 a0 x1 := by
    exact (Spec.set_pair rfl Spec.refl)
  clear_value x1
  refine Spec.fold _ ?_ ?_
  · intro t3 i4
    try dsimp -zeta only
    refine Spec.step (State.wr_spec _ _ _ _) rfl ?_
    exact Spec.refl
  · exact h2

theorem State.mirrorLocker_spec : ∀ a0 a1, Spec 0x2020000000000000000000000000000000000000000000000000000000000000000000 a0 (State.mirrorLocker a0 a1) := by
  intro a0 a1
  delta State.mirrorLocker
  split
  · exact Spec.refl
  · refine Spec.step (State.mirror_spec _ _ _ _) rfl ?_
    exact Spec.refl

theorem State.release_spec : ∀ a0 a1, Spec 0x2000000000000000000000000000000000000000000000400000000000000000000 a0 (State.release a0 a1) := by
  intro a0 a1
  delta State.release
  extract_lets -underBinder -merge -useContext +onlyGivenNames x0
  have h1 : Spec 0x2000000000000000000000000000000000000000000000400000000000000000000 a0 x0 := by
    refine Spec.step (State.purge_spec _ _) rfl ?_
    exact Spec.refl
  clear_value x0
  refine Spec.step (State.wr_spec _ _ _ _) rfl ?_
  exact h1

theorem State.lockEnWrite_spec : ∀ a0 a1 a2, Spec 0x2022000000000000000000000000000000000000000000000600000000000000000000 a0 (State.lockEnWrite a0 a1 a2) := by
  intro a0 a1 a2
  delta State.lockEnWrite
  extract_lets -underBinder -merge -useContext +onlyGivenNames x0
  have h1 : Spec 0x2022000000000000000000000000000000000000000000000600000000000000000000 a0 x0 := by
    refine Spec.step (State.wr_spec _ _ _ _) rfl ?_
    exact Spec.refl
  clear_value x0
  refine Spec.ite ?_ ?_
  · exact h1
  · refine Spec.step (State.mirrorLocker_spec _ _) rfl ?_
    refine Spec.step (State.release_spec _ _) rfl ?_
    exact h1

theorem State.haltEnd_spec : ∀ a0, Spec 0x800000000000000000000000000000000000000000000000080000000000000000000 a0 (State.haltEnd a0) := by
  intro a0
  delta State.haltEnd
  refine Spec.ite ?_ ?_
  · refine Spec.step (State.wr_spec _ _ _ _) rfl ?_
    exact (Spec.set_sec rfl Spec.refl)
  · exact Spec.refl

theorem execCipherHalt_spec : ∀ a0, SpecO 0xb80c0c00000000000000000000000022000000000000000a0080000000000000000000 a0 (execCipherHalt a0) := by
  intro a0
  delta execCipherHalt
  refine SpecO.ok ?_
  refine Spec.ite ?_ ?_
  · exact Spec.refl
  · refine Spec.step (State.raiseReg_spec _ _ _ _) rfl ?_
    refine Spec.step (State.wr_spec _ _ _ _) rfl ?_
    exact (Spec.set_sec rfl Spec.refl)

theorem State.keyRefuse_spec : ∀ a0 a1 a2, Spec 0xb00c0c00000000000000000000000022000000000000000a0000000000000000000000 a0 (State.keyRefuse a0 a1 a2) := by
  intro a0 a1 a2
  delta State.keyRefuse
  extract_lets -underBinder -merge -useContext +onlyGivenNames x0
  have h1 : Spec 0xb00c0c00000000000000000000000022000000000000000a0000000000000000000000 a0 x0 := by
    refine Spec.ite ?_ ?_
    · refine Spec.step (State.count_spec _ _ _) rfl ?_
      exact Spec.refl
    · exact Spec.refl
  clear_value x0
  refine Spec.step (State.refuse_spec _ _ _) rfl ?_
  exact h1

theorem State.keySet_spec : ∀ a0 a1 a2, Spec 0x2022000000000000000000000000000000000000000000000400000000000000000000 a0 (State.keySet a0 a1 a2) := by
  intro a0 a1 a2
  delta State.keySet
  refine Spec.step (State.mirrorLocker_spec _ _) rfl ?_
  refine Spec.step (State.lockShow_spec _ _) rfl ?_
  refine Spec.step (State.modLock_spec _ _ _) rfl ?_
  exact Spec.refl

theorem execKeyErase_spec : ∀ a0 a1, SpecO 0xb02e0c00000000000000000000000022000000000000000a0400000000000000000000 a1 (execKeyErase a0 a1) := by
  intro a0 a1
  delta execKeyErase
  refine SpecO.ok ?_
  extract_lets -underBinder -merge -useContext +onlyGivenNames x0
  have h1 : Spec 0xb02e0c00000000000000000000000022000000000000000a0400000000000000000000 a1 x0 := by
    refine Spec.step (State.settle_spec _ _ _) rfl ?_
    exact Spec.refl
  clear_value x0
  split
  · exact h1
  · extract_lets -underBinder -merge -useContext +onlyGivenNames x2
    have h3 : Spec 0xb02e0c00000000000000000000000022000000000000000a0400000000000000000000 a1 x2 := by
      refine Spec.step (State.popDesc_spec _ _) rfl ?_
      exact h1
    clear_value x2
    extract_lets -underBinder -merge -useContext +onlyGivenNames x4
    clear_value x4
    refine Spec.ite ?_ ?_
    · refine Spec.step (State.keyRefuse_spec _ _ _) rfl ?_
      exact h3
    · refine Spec.step (State.done_spec _ _ _ _ _) rfl ?_
      refine Spec.step (State.keySet_spec _ _ _) rfl ?_
      exact h3

theorem execEntropyTestFail_spec : ∀ a0, SpecO 0xb80c0c00000000000000000000000022000000000000000a0080000000000000000000 a0 (execEntropyTestFail a0) := by
  intro a0
  delta execEntropyTestFail
  refine SpecO.ok ?_
  refine Spec.step (State.raiseReg_spec _ _ _ _) rfl ?_
  exact (Spec.set_sec rfl Spec.refl)

theorem State.keyLoad_spec : ∀ a0 a1 a2, Spec 0xb02e0c00000000000000000000000022000000000000000a0400000000000000000000 a0 (State.keyLoad a0 a1 a2) := by
  intro a0 a1 a2
  delta State.keyLoad
  refine Spec.ite ?_ ?_
  · refine Spec.step (State.done_spec _ _ _ _ _) rfl ?_
    exact Spec.refl
  · extract_lets -underBinder -merge -useContext +onlyGivenNames x0
    clear_value x0
    refine Spec.ite ?_ ?_
    · refine Spec.step (State.keyRefuse_spec _ _ _) rfl ?_
      exact Spec.refl
    · split
      · refine Spec.step (State.keyRefuse_spec _ _ _) rfl ?_
        exact Spec.refl
      · split
        · refine Spec.step (State.keyRefuse_spec _ _ _) rfl ?_
          exact Spec.refl
        · refine Spec.ite ?_ ?_
          · refine Spec.step (State.keyRefuse_spec _ _ _) rfl ?_
            exact Spec.refl
          · refine Spec.step (State.done_spec _ _ _ _ _) rfl ?_
            refine Spec.step (State.keySet_spec _ _ _) rfl ?_
            exact Spec.refl

theorem execEntropyReseed_spec : ∀ a0 a1, SpecO 0x800000000000000000000000000000000000000000000000000000000000000000000 a1 (execEntropyReseed a0 a1) := by
  intro a0 a1
  delta execEntropyReseed
  refine SpecO.ok ?_
  exact (Spec.set_sec rfl Spec.refl)

theorem State.promote_spec : ∀ a0 a1, Spec 0x2022000000000000000000000000000000000000000000000400000000000000000000 a0 (State.promote a0 a1) := by
  intro a0 a1
  delta State.promote
  refine Spec.step (State.keySet_spec _ _ _) rfl ?_
  refine Spec.step (State.wr_spec _ _ _ _) rfl ?_
  exact Spec.refl

theorem execKeyReservedOp_spec : ∀ a0 a1, SpecO 0xb00c0c00000000000000000000000022000000000000000a0000000000000000000000 a1 (execKeyReservedOp a0 a1) := by
  intro a0 a1
  delta execKeyReservedOp
  refine SpecO.ok ?_
  extract_lets -underBinder -merge -useContext +onlyGivenNames x0
  have h1 : Spec 0xb00c0c00000000000000000000000022000000000000000a0000000000000000000000 a1 x0 := by
    refine Spec.step (State.settle_spec _ _ _) rfl ?_
    exact Spec.refl
  clear_value x0
  split
  · exact h1
  · refine Spec.step (State.keyRefuse_spec _ _ _) rfl ?_
    refine Spec.step (State.popDesc_spec _ _) rfl ?_
    exact h1

theorem execKeyLoad_spec : ∀ a0 a1 a2, SpecO 0xb02e0c00000000000000000000000022000000000000000a0400000000000000000000 a2 (execKeyLoad a0 a1 a2) := by
  intro a0 a1 a2
  delta execKeyLoad
  refine SpecO.ok ?_
  extract_lets -underBinder -merge -useContext +onlyGivenNames x0
  have h1 : Spec 0xb02e0c00000000000000000000000022000000000000000a0400000000000000000000 a2 x0 := by
    refine Spec.step (State.settle_spec _ _ _) rfl ?_
    exact Spec.refl
  clear_value x0
  split
  · exact h1
  · refine Spec.step (State.keyLoad_spec _ _ _) rfl ?_
    refine Spec.step (State.popDesc_spec _ _) rfl ?_
    exact h1

theorem execKeyPromote_spec : ∀ a0 a1, SpecO 0xb02e0c00000000000000000000000022000000000000000a0400000000000000000000 a1 (execKeyPromote a0 a1) := by
  intro a0 a1
  delta execKeyPromote
  refine SpecO.ok ?_
  extract_lets -underBinder -merge -useContext +onlyGivenNames x0
  have h1 : Spec 0xb02e0c00000000000000000000000022000000000000000a0400000000000000000000 a1 x0 := by
    refine Spec.step (State.settle_spec _ _ _) rfl ?_
    exact Spec.refl
  clear_value x0
  split
  · exact h1
  · extract_lets -underBinder -merge -useContext +onlyGivenNames x2
    have h3 : Spec 0xb02e0c00000000000000000000000022000000000000000a0400000000000000000000 a1 x2 := by
      refine Spec.step (State.popDesc_spec _ _) rfl ?_
      exact h1
    clear_value x2
    extract_lets -underBinder -merge -useContext +onlyGivenNames x4
    clear_value x4
    refine Spec.ite ?_ ?_
    · refine Spec.step (State.keyRefuse_spec _ _ _) rfl ?_
      exact h3
    · refine Spec.step (State.done_spec _ _ _ _ _) rfl ?_
      refine Spec.step (State.promote_spec _ _) rfl ?_
      exact h3

end Sys2Proof.Machine
end

