-- ==== Sys2Proof/Laws/Frames06.lean ====
section
/-! SUPPORT. What each operation and each command of the files Machine/SwitchOps can do: one lemma each,
`<name>_spec`, whose first argument is the footprint (Laws/Spec.lean). -/
namespace Sys2Proof.Machine

theorem State.planTidy_spec : ∀ a0 a1, Spec 0x100000000000000000000000000000000000000000000000000000000000000000 a0 (State.planTidy a0 a1) := by
  intro a0 a1
  delta State.planTidy
  refine Spec.ite ?_ ?_
  · refine Spec.step (State.modSk_spec _ _ _) rfl ?_
    exact Spec.refl
  · exact Spec.refl

theorem State.rxMapShow_spec : ∀ a0 a1, Spec 0x400000000000 a0 (State.rxMapShow a0 a1) := by
  intro a0 a1
  delta State.rxMapShow
  refine Spec.step (State.wr_spec _ _ _ _) rfl ?_
  exact Spec.refl

theorem State.txMapShow_spec : ∀ a0 a1, Spec 0x10000000000000000000000000000000000000000000000000000000200000000001 a0 (State.txMapShow a0 a1) := by
  intro a0 a1
  delta State.txMapShow
  extract_lets -underBinder -merge -useContext +onlyGivenNames x0
  clear_value x0
  refine Spec.step (State.pinRefresh_spec _ _) rfl ?_
  refine Spec.wrs_cons ?_
  refine Spec.wrs_cons ?_
  refine Spec.wrs_cons ?_
  refine Spec.wrs_nil ?_
  refine Spec.step (State.wr_spec _ _ _ _) rfl ?_
  refine Spec.step (State.wr_spec _ _ _ _) rfl ?_
  refine Spec.step (State.wr_spec _ _ _ _) rfl ?_
  exact Spec.refl

theorem State.setSw_spec : ∀ a0 a1 a2, Spec 0x10000000000000000000000000000000000000000000000000000000200000000000 a0 (State.setSw a0 a1 a2) := by
  intro a0 a1 a2
  delta State.setSw
  refine Spec.step (State.pinRefresh_spec _ _) rfl ?_
  refine Spec.step (State.wr_spec _ _ _ _) rfl ?_
  exact Spec.refl

theorem State.placeShowAll_spec : ∀ a0, Spec 0x2000c0000000000000000000000000000000000000000000000000000100a000000000 a0 (State.placeShowAll a0) := by
  intro a0
  delta State.placeShowAll
  extract_lets -underBinder -merge -useContext +onlyGivenNames x0
  clear_value x0
  extract_lets -underBinder -merge -useContext +onlyGivenNames x1
  clear_value x1
  refine Spec.step (State.fabRefresh_spec _) rfl ?_
  refine Spec.fold _ ?_ ?_
  · intro t2 i3
    try dsimp -zeta only
    refine Spec.ite ?_ ?_
    · refine Spec.ite ?_ ?_
      · refine Spec.step (State.placeShow_spec _ _ _ _) rfl ?_
        exact Spec.refl
      · refine Spec.step (State.placeShow_spec _ _ _ _) rfl ?_
        exact Spec.refl
    · refine Spec.ite ?_ ?_
      · refine Spec.step (State.placeShow_spec _ _ _ _) rfl ?_
        exact Spec.refl
      · refine Spec.step (State.placeShow_spec _ _ _ _) rfl ?_
        exact Spec.refl
  · exact Spec.refl

theorem State.withdraw_spec : ∀ a0 a1, Spec 0x100000000000000000000000000000000000000000000000000000000000000000 a0 (State.withdraw a0 a1) := by
  intro a0 a1
  delta State.withdraw
  refine Spec.step (State.modTx_spec _ _ _) rfl ?_
  refine Spec.step (State.modSk_spec _ _ _) rfl ?_
  exact Spec.refl

theorem State.mkIssue_spec : ∀ a0 a1 a2 a3, Spec 0x100000000000000000000000000000000000000000000000000000000000000000 a0 (State.mkIssue a0 a1 a2 a3) := by
  intro a0 a1 a2 a3
  delta State.mkIssue
  refine Spec.step (State.modTx_spec _ _ _) rfl ?_
  refine Spec.step (State.modSk_spec _ _ _) rfl ?_
  exact Spec.refl

theorem State.tryIssue_spec : ∀ a0 a1, Spec 0x2030100000000000000000000000000000000000000000000000000000200000000000 a0 (State.tryIssue a0 a1) := by
  intro a0 a1
  delta State.tryIssue
  extract_lets -underBinder -merge -useContext +onlyGivenNames x0
  clear_value x0
  split
  · exact Spec.refl
  · refine Spec.ite ?_ ?_
    · extract_lets -underBinder -merge -useContext +onlyGivenNames x1
      clear_value x1
      extract_lets -underBinder -merge -useContext +onlyGivenNames x2
      have h3 : Spec 0x2030100000000000000000000000000000000000000000000000000000200000000000 a0 x2 := by
        refine Spec.step (State.setSw_spec _ _ _) rfl ?_
        refine Spec.step (State.mkIssue_spec _ _ _ _) rfl ?_
        exact Spec.refl
      clear_value x2
      refine Spec.step (State.mirror_spec _ _ _ _) rfl ?_
      exact h3
    · exact Spec.refl

theorem State.shedNow_spec : ∀ a0 a1, Spec 0xb00c4c00000000000000000000000022000000000000000a0000000001100000000000 a0 (State.shedNow a0 a1) := by
  intro a0 a1
  delta State.shedNow
  refine Spec.fold _ ?_ ?_
  · intro t0 i1
    try dsimp -zeta only
    refine Spec.step (State.raiseReg_spec _ _ _ _) rfl ?_
    refine Spec.step (State.placeShow_spec _ _ _ _) rfl ?_
    refine Spec.step (State.modTrib_spec _ _ _) rfl ?_
    exact Spec.refl
  · exact Spec.refl

theorem State.stepClose_spec : ∀ a0 a1, Spec 0xb01cdc00000000000000000000000022000000000000000a000000000110a000000000 a0 (State.stepClose a0 a1) := by
  intro a0 a1
  delta State.stepClose
  extract_lets -underBinder -merge -useContext +onlyGivenNames x0
  clear_value x0
  extract_lets -underBinder -merge -useContext +onlyGivenNames x1
  clear_value x1
  extract_lets -underBinder -merge -useContext +onlyGivenNames x2
  clear_value x2
  extract_lets -underBinder -merge -useContext +onlyGivenNames x3
  have h4 : Spec 0xb01cdc00000000000000000000000022000000000000000a000000000110a000000000 a0 x3 := by
    refine Spec.step (State.modSk_spec _ _ _) rfl ?_
    exact Spec.refl
  clear_value x3
  refine Spec.ite ?_ ?_
  · extract_lets -underBinder -merge -useContext +onlyGivenNames x5
    have h6 : Spec 0xb01cdc00000000000000000000000022000000000000000a000000000110a000000000 a0 x5 := by
      refine Spec.step (State.raiseReg_spec _ _ _ _) rfl ?_
      refine Spec.step (State.modSk_spec _ _ _) rfl ?_
      exact h4
    clear_value x5
    extract_lets -underBinder -merge -useContext +onlyGivenNames x7
    clear_value x7
    extract_lets -underBinder -merge -useContext +onlyGivenNames x8
    have h9 : Spec 0xb01cdc00000000000000000000000022000000000000000a000000000110a000000000 a0 x8 := by
      refine Spec.ite ?_ ?_
      · exact (Spec.set_mode rfl h6)
      · exact h6
    clear_value x8
    refine Spec.step (State.placeShowAll_spec _) rfl ?_
    refine Spec.step (State.shedNow_spec _ _) rfl ?_
    exact h9
  · exact h4

theorem State.nextGen_spec : ∀ a0 a1, SpecP 0x100000000000000000000000000000000000000000000000000000000000000000 a0 (State.nextGen a0 a1) := by
  intro a0 a1
  delta State.nextGen
  extract_lets -underBinder -merge -useContext +onlyGivenNames x0
  clear_value x0
  refine SpecP.mk ?_
  refine Spec.step (State.modSk_spec _ _ _) rfl ?_
  exact Spec.refl

theorem State.mirrorMap_spec : ∀ a0 a1 a2, Spec 0x2020000000000000000000000000000000000000000000000000000000000000000000 a0 (State.mirrorMap a0 a1 a2) := by
  intro a0 a1 a2
  delta State.mirrorMap
  extract_lets -underBinder -merge -useContext +onlyGivenNames x0
  have h1 : Spec 0x2020000000000000000000000000000000000000000000000000000000000000000000 a0 x0 := by
    refine Spec.step (State.mirror_spec _ _ _ _) rfl ?_
    exact Spec.refl
  clear_value x0
  exact (Spec.set_pair rfl h1)

theorem State.swBegin_spec : ∀ a0 a1 a2 a3, Spec 0x2030100000000000000000000000000000000000000000000000000000200000000000 a0 (State.swBegin a0 a1 a2 a3) := by
  intro a0 a1 a2 a3
  delta State.swBegin
  extract_lets -underBinder -merge -useContext +onlyGivenNames x0
  have h1 : Spec 0x2030100000000000000000000000000000000000000000000000000000200000000000 a0 x0 := by
    refine Spec.step (State.modSk_spec _ _ _) rfl ?_
    exact Spec.refl
  clear_value x0
  extract_lets -underBinder -merge -useContext +onlyGivenNames x2
  have h3 : Spec 0x2030100000000000000000000000000000000000000000000000000000200000000000 a0 x2 := by
    refine Spec.step (State.setSw_spec _ _ _) rfl ?_
    refine Spec.step (State.modTx_spec _ _ _) rfl ?_
    exact h1
  clear_value x2
  refine Spec.step (State.mirrorMap_spec _ _ _) rfl ?_
  exact h3

theorem State.swStartMap_spec : ∀ a0 a1 a2 a3, Spec 0x2030100000000000000000000000000000000000000000000000000000200000000000 a0 (State.swStartMap a0 a1 a2 a3) := by
  intro a0 a1 a2 a3
  delta State.swStartMap
  split
  rename_i y0 y1 h2q
  have h2 : SpecP 0x2030100000000000000000000000000000000000000000000000000000200000000000 a0 (y0, y1) := by
    rw [← h2q]
    refine SpecP.step (State.nextGen_spec _ _) rfl ?_
    exact Spec.refl
  clear h2q
  refine Spec.step (State.swBegin_spec _ _ _ _) rfl ?_
  exact h2

theorem State.resync_spec : ∀ a0 a1, Spec 0xb03cdc00000000000000000000000022000000000000000a000000000130a000000000 a0 (State.resync a0 a1) := by
  intro a0 a1
  delta State.resync
  extract_lets -underBinder -merge -useContext +onlyGivenNames x0
  have h1 : Spec 0xb03cdc00000000000000000000000022000000000000000a000000000130a000000000 a0 x0 := by
    refine Spec.step (State.stepClose_spec _ _) rfl ?_
    exact Spec.refl
  clear_value x0
  refine Spec.ite ?_ ?_
  · refine Spec.step (State.modSk_spec _ _ _) rfl ?_
    exact h1
  · refine Spec.step (State.swStartMap_spec _ _ _ _) rfl ?_
    refine Spec.step (State.raiseReg_spec _ _ _ _) rfl ?_
    exact h1

theorem State.swComplete_spec : ∀ a0 a1, Spec 0xb01cdc00000000000000000000000022000000000000000a000000000130a000000000 a0 (State.swComplete a0 a1) := by
  intro a0 a1
  delta State.swComplete
  refine Spec.step (State.placeShowAll_spec _) rfl ?_
  refine Spec.step (State.stepClose_spec _ _) rfl ?_
  refine Spec.step (State.setSw_spec _ _ _) rfl ?_
  refine Spec.step (State.modSk_spec _ _ _) rfl ?_
  exact Spec.refl

theorem State.tryDone_spec : ∀ a0 a1, Spec 0xb01cdc00000000000000000000000022000000000000000a000000000130a000000000 a0 (State.tryDone a0 a1) := by
  intro a0 a1
  delta State.tryDone
  extract_lets -underBinder -merge -useContext +onlyGivenNames x0
  clear_value x0
  split
  · exact Spec.refl
  · refine Spec.ite ?_ ?_
    · refine Spec.step (State.swComplete_spec _ _) rfl ?_
      exact Spec.refl
    · exact Spec.refl

theorem State.mkTidy_spec : ∀ a0 a1, Spec 0x100000000000000000000000000000000000000000000000000000000000000000 a0 (State.mkTidy a0 a1) := by
  intro a0 a1
  delta State.mkTidy
  refine Spec.ite ?_ ?_
  · refine Spec.step (State.modSk_spec _ _ _) rfl ?_
    exact Spec.refl
  · exact Spec.refl

theorem State.dwells_spec : ∀ a0 a1 a2 a3 a4, Spec 0x100000000000000000000000000000000000000000000000000000000000000000 a0 (State.dwells a0 a1 a2 a3 a4) := by
  intro a0 a1 a2 a3 a4
  delta State.dwells
  extract_lets -underBinder -merge -useContext +onlyGivenNames x0
  clear_value x0
  extract_lets -underBinder -merge -useContext +onlyGivenNames x1
  clear_value x1
  extract_lets -underBinder -merge -useContext +onlyGivenNames x2
  clear_value x2
  extract_lets -underBinder -merge -useContext +onlyGivenNames x3
  clear_value x3
  extract_lets -underBinder -merge -useContext +onlyGivenNames x4
  clear_value x4
  extract_lets -underBinder -merge -useContext +onlyGivenNames x5
  clear_value x5
  extract_lets -underBinder -merge -useContext +onlyGivenNames x6
  clear_value x6
  extract_lets -underBinder -merge -useContext +onlyGivenNames x7
  clear_value x7
  refine Spec.step (State.modSk_spec _ _ _) rfl ?_
  exact Spec.refl

theorem State.stepDecide_spec : ∀ a0 a1 a2, Spec 0xb00c1c00000000000000000000000022000000000000000a0000000000100000000000 a0 (State.stepDecide a0 a1 a2) := by
  intro a0 a1 a2
  delta State.stepDecide
  extract_lets -underBinder -merge -useContext +onlyGivenNames x0
  clear_value x0
  extract_lets -underBinder -merge -useContext +onlyGivenNames x1
  clear_value x1
  extract_lets -underBinder -merge -useContext +onlyGivenNames x2
  clear_value x2
  extract_lets -underBinder -merge -useContext +onlyGivenNames x3
  have h4 : Spec 0xb00c1c00000000000000000000000022000000000000000a0000000000100000000000 a0 x3 := by
    refine Spec.ite ?_ ?_
    · exact Spec.refl
    · refine Spec.step (State.modSk_spec _ _ _) rfl ?_
      exact Spec.refl
  clear_value x3
  extract_lets -underBinder -merge -useContext +onlyGivenNames x5
  clear_value x5
  refine Spec.ite ?_ ?_
  · exact h4
  · refine Spec.ite ?_ ?_
    · refine Spec.ite ?_ ?_
      · refine Spec.ite ?_ ?_
        · exact h4
        · refine Spec.step (State.raiseReg_spec _ _ _ _) rfl ?_
          refine Spec.step (State.modSk_spec _ _ _) rfl ?_
          exact h4
      · refine Spec.step (State.modSk_spec _ _ _) rfl ?_
        exact h4
    · refine Spec.ite ?_ ?_
      · refine Spec.step (State.modSk_spec _ _ _) rfl ?_
        exact h4
      · exact h4

theorem State.reading_spec : ∀ a0 a1 a2, Spec 0xb02c1c00000000000000000000000022000000000000000a0000000000100000000000 a0 (State.reading a0 a1 a2) := by
  intro a0 a1 a2
  delta State.reading
  extract_lets -underBinder -merge -useContext +onlyGivenNames x0
  clear_value x0
  extract_lets -underBinder -merge -useContext +onlyGivenNames x1
  clear_value x1
  extract_lets -underBinder -merge -useContext +onlyGivenNames x2
  clear_value x2
  extract_lets -underBinder -merge -useContext +onlyGivenNames x3
  clear_value x3
  extract_lets -underBinder -merge -useContext +onlyGivenNames x4
  have h5 : Spec 0xb02c1c00000000000000000000000022000000000000000a0000000000100000000000 a0 x4 := by
    refine Spec.step (State.modSk_spec _ _ _) rfl ?_
    exact Spec.refl
  clear_value x4
  extract_lets -underBinder -merge -useContext +onlyGivenNames x6
  have h7 : Spec 0xb02c1c00000000000000000000000022000000000000000a0000000000100000000000 a0 x6 := by
    refine Spec.step (State.dwells_spec _ _ _ _ _) rfl ?_
    exact h5
  clear_value x6
  extract_lets -underBinder -merge -useContext +onlyGivenNames x8
  have h9 : Spec 0xb02c1c00000000000000000000000022000000000000000a0000000000100000000000 a0 x8 := by
    refine Spec.ite ?_ ?_
    · refine Spec.step (State.mirror_spec _ _ _ _) rfl ?_
      exact h7
    · exact h5
  clear_value x8
  refine Spec.ite ?_ ?_
  · refine Spec.step (State.stepDecide_spec _ _ _) rfl ?_
    exact h9
  · exact h9

theorem State.mkDone_spec : ∀ a0 a1 a2, Spec 0x100000000000000000000000000000000000000000000000000000000000000000 a0 (State.mkDone a0 a1 a2) := by
  intro a0 a1 a2
  delta State.mkDone
  extract_lets -underBinder -merge -useContext +onlyGivenNames x0
  clear_value x0
  refine Spec.ite ?_ ?_
  · refine Spec.step (State.mkTidy_spec _ _) rfl ?_
    refine Spec.step (State.modSk_spec _ _ _) rfl ?_
    exact Spec.refl
  · exact Spec.refl

theorem State.resyncDue_spec : ∀ a0 a1, Spec 0xb03cdc00000000000000000000000022000000000000000a000000000130a000000000 a0 (State.resyncDue a0 a1) := by
  intro a0 a1
  delta State.resyncDue
  refine Spec.ite ?_ ?_
  · refine Spec.step (State.resync_spec _ _) rfl ?_
    refine Spec.step (State.modSk_spec _ _ _) rfl ?_
    exact Spec.refl
  · exact Spec.refl

theorem State.takePolicy_spec : ∀ a0 a1, Spec 0xc00000000000000000000000000000000000000000000000000000000000000000 a0 (State.takePolicy a0 a1) := by
  intro a0 a1
  delta State.takePolicy
  extract_lets -underBinder -merge -useContext +onlyGivenNames x0
  clear_value x0
  extract_lets -underBinder -merge -useContext +onlyGivenNames x1
  have h2 : Spec 0xc00000000000000000000000000000000000000000000000000000000000000000 a0 x1 := by
    refine Spec.ite ?_ ?_
    · refine Spec.step (State.modGrp_spec _ _ _) rfl ?_
      exact Spec.refl
    · exact Spec.refl
  clear_value x1
  refine Spec.step (State.modTrib_spec _ _ _) rfl ?_
  exact h2

theorem State.abandonSkew_spec : ∀ a0 a1, Spec 0xb00c0c00000000000000000000000022000000000000000a0000000001100000000000 a0 (State.abandonSkew a0 a1) := by
  intro a0 a1
  delta State.abandonSkew
  refine Spec.fold _ ?_ ?_
  · intro t0 i1
    try dsimp -zeta only
    extract_lets -underBinder -merge -useContext +onlyGivenNames x2
    clear_value x2
    extract_lets -underBinder -merge -useContext +onlyGivenNames x3
    have h4 : Spec 0xb00c0c00000000000000000000000022000000000000000a0000000001100000000000 t0 x3 := by
      refine Spec.step (State.placeShow_spec _ _ _ _) rfl ?_
      exact Spec.refl
    clear_value x3
    refine Spec.ite ?_ ?_
    · exact h4
    · refine Spec.step (State.raiseReg_spec _ _ _ _) rfl ?_
      exact h4
  · exact Spec.refl

theorem State.planDown_spec : ∀ a0 a1 a2 a3 a4, SpecL 0xb00c1c00000000000000000000000022000000000000000a0000000001100000000000 a0 (State.planDown a0 a1 a2 a3 a4) := by
  intro a0 a1 a2 a3 a4
  delta State.planDown
  refine SpecL.ite ?_ ?_
  · refine SpecL.ite ?_ ?_
    · refine SpecL.mk ?_
      refine Spec.step (State.modSk_spec _ _ _) rfl ?_
      exact Spec.refl
    · extract_lets -underBinder -merge -useContext +onlyGivenNames x0
      clear_value x0
      refine SpecL.ite ?_ ?_
      · refine SpecL.mk ?_
        refine Spec.step (State.raiseReg_spec _ _ _ _) rfl ?_
        refine Spec.step (State.abandonSkew_spec _ _) rfl ?_
        refine Spec.step (State.modSk_spec _ _ _) rfl ?_
        exact Spec.refl
      · extract_lets -underBinder -merge -useContext +onlyGivenNames x1
        have h2 : Spec 0xb00c1c00000000000000000000000022000000000000000a0000000001100000000000 a0 x1 := by
          refine Spec.step (State.abandonSkew_spec _ _) rfl ?_
          refine Spec.step (State.modSk_spec _ _ _) rfl ?_
          exact Spec.refl
        clear_value x1
        refine SpecL.mk ?_
        refine Spec.fold _ ?_ ?_
        · intro t3 i4
          try dsimp -zeta only
          refine Spec.step (State.placeShow_spec _ _ _ _) rfl ?_
          exact Spec.refl
        · exact h2
  · refine SpecL.mk ?_
    exact Spec.refl

theorem State.refuseDemand_spec : ∀ a0 a1 a2, Spec 0xb00c0c00000000000000000000000022000000000000000a0000000001100000000000 a0 (State.refuseDemand a0 a1 a2) := by
  intro a0 a1 a2
  delta State.refuseDemand
  refine Spec.step (State.raiseReg_spec _ _ _ _) rfl ?_
  refine Spec.step (State.placeShow_spec _ _ _ _) rfl ?_
  exact Spec.refl

theorem State.bookShares_spec : ∀ a0 a1 a2, Spec 0x100000000000000000000000000000000000000000000000000000000000000000 a0 (State.bookShares a0 a1 a2) := by
  intro a0 a1 a2
  delta State.bookShares
  refine Spec.fold _ ?_ ?_
  · intro t0 i1
    try dsimp -zeta only
    refine Spec.step (State.modSk_spec _ _ _) rfl ?_
    exact Spec.refl
  · exact Spec.refl

theorem State.placeDue_spec : ∀ a0 a1 a2 a3 a4, SpecL 0xb00cdc00000000000000000000000022000000000000000a0000000001100000000000 a0 (State.placeDue a0 a1 a2 a3 a4) := by
  intro a0 a1 a2 a3 a4
  delta State.placeDue
  extract_lets -underBinder -merge -useContext +onlyGivenNames x0
  clear_value x0
  split
  · refine SpecL.ite ?_ ?_
    · refine SpecL.mk ?_
      refine Spec.ite ?_ ?_
      · refine Spec.step (State.refuseDemand_spec _ _ _) rfl ?_
        exact Spec.refl
      · refine Spec.step (State.raiseReg_spec _ _ _ _) rfl ?_
        refine Spec.step (State.placeShow_spec _ _ _ _) rfl ?_
        exact Spec.refl
    · extract_lets -underBinder -merge -useContext +onlyGivenNames x1
      clear_value x1
      extract_lets -underBinder -merge -useContext +onlyGivenNames x2
      have h3 : Spec 0xb00cdc00000000000000000000000022000000000000000a0000000001100000000000 a0 x2 := by
        refine Spec.step (State.placeShow_spec _ _ _ _) rfl ?_
        exact Spec.refl
      clear_value x2
      extract_lets -underBinder -merge -useContext +onlyGivenNames x4
      clear_value x4
      extract_lets -underBinder -merge -useContext +onlyGivenNames x5
      clear_value x5
      refine SpecL.ite ?_ ?_
      · extract_lets -underBinder -merge -useContext +onlyGivenNames x6
        clear_value x6
        extract_lets -underBinder -merge -useContext +onlyGivenNames x7
        have h8 : Spec 0xb00cdc00000000000000000000000022000000000000000a0000000001100000000000 a0 x7 := by
          refine Spec.ite ?_ ?_
          · refine Spec.step (State.takePolicy_spec _ _) rfl ?_
            exact h3
          · exact h3
        clear_value x7
        refine SpecL.mk ?_
        refine Spec.step (State.bookShares_spec _ _ _) rfl ?_
        exact h8
      · refine SpecL.mk ?_
        exact h3

theorem State.placeDemands_spec : ∀ a0 a1 a2 a3, SpecL 0xb01cdc00000000000000000000000022000000000000000a0000000001100000000000 a0 (State.placeDemands a0 a1 a2 a3) := by
  intro a0 a1 a2 a3
  delta State.placeDemands
  extract_lets -underBinder -merge -useContext +onlyGivenNames x0
  clear_value x0
  extract_lets -underBinder -merge -useContext +onlyGivenNames x1
  clear_value x1
  extract_lets -underBinder -merge -useContext +onlyGivenNames x2
  have h3 : Spec 0xb01cdc00000000000000000000000022000000000000000a0000000001100000000000 a0 x2 := by
    exact (Spec.set_mode rfl Spec.refl)
  clear_value x2
  refine SpecL.fold _ ?_ ?_
  · intro t6 a5 i4
    try dsimp -zeta only
    refine SpecL.step (State.placeDue_spec _ _ _ _ _) rfl ?_
    exact Spec.refl
  · refine SpecL.mk ?_
    exact h3

theorem State.rebook_spec : ∀ a0 a1 a2, Spec 0x100000000000000000000000000000000000000000000000000000000000000000 a0 (State.rebook a0 a1 a2) := by
  intro a0 a1 a2
  delta State.rebook
  extract_lets -underBinder -merge -useContext +onlyGivenNames x0
  clear_value x0
  refine Spec.step (State.modSk_spec _ _ _) rfl ?_
  exact Spec.refl

theorem State.placePass_spec : ∀ a0, SpecL 0xb01cdc00000000000000000000000022000000000000000a0000000001100000000000 a0 (State.placePass a0) := by
  intro a0
  delta State.placePass
  extract_lets -underBinder -merge -useContext +onlyGivenNames x0
  clear_value x0
  extract_lets -underBinder -merge -useContext +onlyGivenNames x1
  clear_value x1
  extract_lets -underBinder -merge -useContext +onlyGivenNames x2
  clear_value x2
  extract_lets -underBinder -merge -useContext +onlyGivenNames x3
  clear_value x3
  extract_lets -underBinder -merge -useContext +onlyGivenNames x4
  have h7 : Spec 0xb01cdc00000000000000000000000022000000000000000a0000000001100000000000 a0 x4 := by
    refine Spec.fold _ ?_ ?_
    · intro t5 i6
      try dsimp -zeta only
      refine Spec.step (State.planTidy_spec _ _) rfl ?_
      exact Spec.refl
    · exact Spec.refl
  clear_value x4
  extract_lets -underBinder -merge -useContext +onlyGivenNames x8
  have h11 : Spec 0xb01cdc00000000000000000000000022000000000000000a0000000001100000000000 a0 x8 := by
    refine Spec.fold _ ?_ ?_
    · intro t9 i10
      try dsimp -zeta only
      refine Spec.step (State.modSk_spec _ _ _) rfl ?_
      exact Spec.refl
    · exact h7
  clear_value x8
  extract_lets -underBinder -merge -useContext +onlyGivenNames x12
  clear_value x12
  extract_lets -underBinder -merge -useContext +onlyGivenNames x13
  clear_value x13
  split
  rename_i y17 y18 h19q
  have h19 : SpecL 0xb01cdc00000000000000000000000022000000000000000a0000000001100000000000 a0 (y17, y18) := by
    rw [← h19q]
    refine SpecL.fold _ ?_ ?_
    · intro t16 a15 i14
      try dsimp -zeta only
      refine SpecL.step (State.planDown_spec _ _ _ _ _) rfl ?_
      exact Spec.refl
    · refine SpecL.mk ?_
      exact h11
  clear h19q
  extract_lets -underBinder -merge -useContext +onlyGivenNames x20
  clear_value x20
  extract_lets -underBinder -merge -useContext +onlyGivenNames x21
  clear_value x21
  extract_lets -underBinder -merge -useContext +onlyGivenNames x22
  clear_value x22
  extract_lets -underBinder -merge -useContext +onlyGivenNames x23
  clear_value x23
  extract_lets -underBinder -merge -useContext +onlyGivenNames x24
  clear_value x24
  extract_lets -underBinder -merge -useContext +onlyGivenNames x25
  clear_value x25
  extract_lets -underBinder -merge -useContext +onlyGivenNames x26
  clear_value x26
  extract_lets -underBinder -merge -useContext +onlyGivenNames x27
  clear_value x27
  split
  rename_i y28 y29 h30q
  have h30 : SpecL 0xb01cdc00000000000000000000000022000000000000000a0000000001100000000000 a0 (y28, y29) := by
    rw [← h30q]
    refine SpecL.step (State.placeDemands_spec _ _ _ _) rfl ?_
    exact h19
  clear h30q
  extract_lets -underBinder -merge -useContext +onlyGivenNames x31
  have h34 : Spec 0xb01cdc00000000000000000000000022000000000000000a0000000001100000000000 a0 x31 := by
    refine Spec.fold _ ?_ ?_
    · intro t32 i33
      try dsimp -zeta only
      refine Spec.step (State.rebook_spec _ _ _) rfl ?_
      exact Spec.refl
    · exact h30
  clear_value x31
  extract_lets -underBinder -merge -useContext +onlyGivenNames x35
  clear_value x35
  extract_lets -underBinder -merge -useContext +onlyGivenNames x36
  clear_value x36
  refine SpecL.mk ?_
  exact h34

theorem State.mkLocal_spec : ∀ a0 a1 a2, Spec 0x100000000000000000000000000000000000000000000000000000000000000000 a0 (State.mkLocal a0 a1 a2) := by
  intro a0 a1 a2
  delta State.mkLocal
  refine Spec.step (State.mkTidy_spec _ _) rfl ?_
  refine Spec.step (State.modSk_spec _ _ _) rfl ?_
  exact Spec.refl

theorem State.mkStale_spec : ∀ a0 a1 a2, Spec 0xb00c0c00000000000000000000000022000000000000000a0000000000000000200000 a0 (State.mkStale a0 a1 a2) := by
  intro a0 a1 a2
  delta State.mkStale
  refine Spec.step (State.raiseCountPerf_spec _ _ _ _ _) rfl ?_
  refine Spec.ite ?_ ?_
  · refine Spec.step (State.setEv_spec _ _ _ _) rfl ?_
    exact Spec.refl
  · exact Spec.refl

theorem State.recutGroup_spec : ∀ a0 a1 a2 a3, Spec 0xc00000000000000000000000000000000000000000000000000000000000000000 a0 (State.recutGroup a0 a1 a2 a3) := by
  intro a0 a1 a2 a3
  delta State.recutGroup
  refine Spec.ite ?_ ?_
  · exact Spec.refl
  · extract_lets -underBinder -merge -useContext +onlyGivenNames x0
    clear_value x0
    extract_lets -underBinder -merge -useContext +onlyGivenNames x1
    have h2 : Spec 0xc00000000000000000000000000000000000000000000000000000000000000000 a0 x1 := by
      refine Spec.step (State.modGrp_spec _ _ _) rfl ?_
      exact Spec.refl
    clear_value x1
    refine Spec.ite ?_ ?_
    · exact h2
    · refine Spec.step (State.modTrib_spec _ _ _) rfl ?_
      exact h2

theorem State.recutShares_spec : ∀ a0 a1, Spec 0xc00000000000000000000000000000000000000000000000000000000000000000 a0 (State.recutShares a0 a1) := by
  intro a0 a1
  delta State.recutShares
  refine Spec.fold _ ?_ ?_
  · intro t0 i1
    try dsimp -zeta only
    split
    · refine Spec.step (State.recutGroup_spec _ _ _ _) rfl ?_
      exact Spec.refl
    · exact Spec.refl
  · exact Spec.refl

theorem State.mkTxMismatch_spec : ∀ a0 a1, Spec 0xb00c1c00000000000000000000000022000000000000000a0000000000000000200000 a0 (State.mkTxMismatch a0 a1) := by
  intro a0 a1
  delta State.mkTxMismatch
  extract_lets -underBinder -merge -useContext +onlyGivenNames x0
  clear_value x0
  refine Spec.step (State.mkTidy_spec _ _) rfl ?_
  refine Spec.step (State.modSk_spec _ _ _) rfl ?_
  refine Spec.fold _ ?_ ?_
  · intro t1 i2
    try dsimp -zeta only
    refine Spec.step (State.mkStale_spec _ _ _) rfl ?_
    exact Spec.refl
  · exact Spec.refl

theorem State.markerMeet_spec : ∀ a0 a1 a2, Spec 0xb01cdc00000000000000000000000022000000000000000a000000000120a800200001 a0 (State.markerMeet a0 a1 a2) := by
  intro a0 a1 a2
  delta State.markerMeet
  extract_lets -underBinder -merge -useContext +onlyGivenNames x0
  clear_value x0
  split
  · refine Spec.ite ?_ ?_
    · extract_lets -underBinder -merge -useContext +onlyGivenNames x1
      clear_value x1
      extract_lets -underBinder -merge -useContext +onlyGivenNames x2
      have h3 : Spec 0xb01cdc00000000000000000000000022000000000000000a000000000120a800200001 a0 x2 := by
        refine Spec.step (State.modTx_spec _ _ _) rfl ?_
        exact Spec.refl
      clear_value x2
      extract_lets -underBinder -merge -useContext +onlyGivenNames x4
      have h5 : Spec 0xb01cdc00000000000000000000000022000000000000000a000000000120a800200001 a0 x4 := by
        refine Spec.ite ?_ ?_
        · refine Spec.step (State.modSk_spec _ _ _) rfl ?_
          exact h3
        · exact h3
      clear_value x4
      refine Spec.step (State.placeShowAll_spec _) rfl ?_
      refine Spec.step (State.countStale_spec _ _) rfl ?_
      refine Spec.step (State.txMapShow_spec _ _) rfl ?_
      refine Spec.step (State.recutShares_spec _ _) rfl ?_
      exact h5
    · refine Spec.step (State.mkTxMismatch_spec _ _) rfl ?_
      exact Spec.refl
  · refine Spec.step (State.mkTxMismatch_spec _ _) rfl ?_
    exact Spec.refl

theorem State.mkMismatch_spec : ∀ a0 a1 a2, Spec 0xb00c0c00000000000000000000000022000000000000000a0000000000000000200000 a0 (State.mkMismatch a0 a1 a2) := by
  intro a0 a1 a2
  delta State.mkMismatch
  refine Spec.fold _ ?_ ?_
  · intro t0 i1
    try dsimp -zeta only
    refine Spec.step (State.mkStale_spec _ _ _) rfl ?_
    exact Spec.refl
  · exact Spec.refl

theorem State.swKick_spec : ∀ a0, Spec 0xb03cdc00000000000000000000000022000000000000000a0000000001300000000000 a0 (State.swKick a0) := by
  intro a0
  delta State.swKick
  refine Spec.ite ?_ ?_
  · exact Spec.refl
  · split
    rename_i y0 y1 h2q
    have h2 : SpecL 0xb03cdc00000000000000000000000022000000000000000a0000000001300000000000 a0 (y0, y1) := by
      rw [← h2q]
      refine SpecL.step (State.placePass_spec _) rfl ?_
      exact Spec.refl
    clear h2q
    refine Spec.ite ?_ ?_
    · refine Spec.ite ?_ ?_
      · exact h2
      · exact Spec.refl
    · refine Spec.fold _ ?_ ?_
      · intro t3 i4
        try dsimp -zeta only
        refine Spec.step (State.swStartMap_spec _ _ _ _) rfl ?_
        exact Spec.refl
      · exact h2

end Sys2Proof.Machine
end

