-- ==== Sys2Proof/Laws/Frames07.lean ====
section
/-! SUPPORT. What each operation and each command of the files Machine/Client can do: one lemma each,
`<name>_spec`, whose first argument is the footprint (Laws/Spec.lean). -/
namespace Sys2Proof.Machine

theorem State.queueOz_spec : ∀ a0 a1 a2, Spec 0x400000000000000000000000000000000000000000000000000000000000000000 a0 (State.queueOz a0 a1 a2) := by
  intro a0 a1 a2
  delta State.queueOz
  refine Spec.step (State.modTrib_spec _ _ _) rfl ?_
  exact Spec.refl

theorem State.queueBlocks_spec : ∀ a0 a1 a2, Spec 0x400000000000000000000000000000000000000000000000000000000000000000 a0 (State.queueBlocks a0 a1 a2) := by
  intro a0 a1 a2
  delta State.queueBlocks
  refine Spec.step (State.modTrib_spec _ _ _) rfl ?_
  exact Spec.refl

theorem State.setOset_spec : ∀ a0 a1 a2, Spec 0x400000000000000000000000000000000000000000000000000000000000000000 a0 (State.setOset a0 a1 a2) := by
  intro a0 a1 a2
  delta State.setOset
  extract_lets -underBinder -merge -useContext +onlyGivenNames x0
  have h1 : Spec 0x400000000000000000000000000000000000000000000000000000000000000000 a0 x0 := by
    refine Spec.step (State.modTrib_spec _ _ _) rfl ?_
    exact Spec.refl
  clear_value x0
  split
  · refine Spec.ite ?_ ?_
    · refine Spec.step (State.queueOz_spec _ _ _) rfl ?_
      exact h1
    · refine Spec.step (State.queueBlocks_spec _ _ _) rfl ?_
      exact h1
  · exact h1

theorem State.lineFault_spec : ∀ a0 a1 a2, Spec 0x600000000000000000000000000000000000000000000000000000000000000000 a0 (State.lineFault a0 a1 a2) := by
  intro a0 a1 a2
  delta State.lineFault
  extract_lets -underBinder -merge -useContext +onlyGivenNames x0
  clear_value x0
  extract_lets -underBinder -merge -useContext +onlyGivenNames x1
  have h4 : Spec 0x600000000000000000000000000000000000000000000000000000000000000000 a0 x1 := by
    refine Spec.fold _ ?_ ?_
    · intro t2 i3
      try dsimp -zeta only
      refine Spec.step (State.modPort_spec _ _ _) rfl ?_
      exact Spec.refl
    · exact Spec.refl
  clear_value x1
  refine Spec.fold _ ?_ ?_
  · intro t5 i6
    try dsimp -zeta only
    refine Spec.ite ?_ ?_
    · exact Spec.refl
    · refine Spec.step (State.setOset_spec _ _ _) rfl ?_
      exact Spec.refl
  · exact h4

theorem State.fxUnbound_spec : ∀ a0 a1 a2, Spec 0x2000000000000000000000000000000000000000000000000000000000000000000000 a0 (State.fxUnbound a0 a1 a2) := by
  intro a0 a1 a2
  delta State.fxUnbound
  refine Spec.ite ?_ ?_
  · refine Spec.step (State.emit_spec _ _) rfl ?_
    exact Spec.refl
  · exact Spec.refl

theorem State.fxSend_spec : ∀ a0 a1 a2, Spec 0x2000000000000000000000000000000000000000000000000000000000000000000000 a0 (State.fxSend a0 a1 a2) := by
  intro a0 a1 a2
  delta State.fxSend
  refine Spec.ite ?_ ?_
  · refine Spec.step (State.emit_spec _ _) rfl ?_
    exact Spec.refl
  · exact Spec.refl

theorem State.clientStart_spec : ∀ a0 a1, Spec 0x2000000000000000000000000000000000000000000000000000000000000000000000 a0 (State.clientStart a0 a1) := by
  intro a0 a1
  delta State.clientStart
  extract_lets -underBinder -merge -useContext +onlyGivenNames x0
  have h3 : Spec 0x2000000000000000000000000000000000000000000000000000000000000000000000 a0 x0 := by
    refine Spec.fold _ ?_ ?_
    · intro t1 i2
      try dsimp -zeta only
      refine Spec.step (State.toClient_spec _ _ _) rfl ?_
      exact Spec.refl
    · exact Spec.refl
  clear_value x0
  refine Spec.fold _ ?_ ?_
  · intro t4 i5
    try dsimp -zeta only
    refine Spec.fold _ ?_ ?_
    · intro t6 i7
      try dsimp -zeta only
      refine Spec.step (State.fxUnbound_spec _ _ _) rfl ?_
      exact Spec.refl
    · refine Spec.step (State.fxSend_spec _ _ _) rfl ?_
      exact Spec.refl
  · exact h3

theorem State.binsWrite_spec : ∀ s g b, Spec 0xb00d0c00000000000000000000000022000000000000000a0000000000003c00000000 s (State.binsWrite s g b) := by
  intro s g b
  have hf : ∀ (l : List Nat) (v : Nat) (m : SMap Nat), natWf m = true →
      natWf (l.foldl (fun m b => SMap.set 0 m b v) m) = true := by
    intro l v
    induction l with
    | nil => exact fun _ h => h
    | cons i l ih => exact fun m h => ih _ (SMap.wf_set (fun _ => 0) i v h)
  delta State.binsWrite
  extract_lets -underBinder -merge -useContext +onlyGivenNames x e y
  have hy : Spec 0xb00d0c00000000000000000000000022000000000000000a0000000000003c00000000 s y := Spec.step (State.wr_spec _ _ _ _) rfl (Spec.step (State.wr_spec _ _ _ _) rfl Spec.refl)
  clear_value y
  refine Spec.ite (Spec.step (State.raiseReg_spec _ _ _ _) rfl hy) ?_
  extract_lets -underBinder -merge -useContext +onlyGivenNames was take own m1 m2 z w
  have hz : Spec 0xb00d0c00000000000000000000000022000000000000000a0000000000003c00000000 s z := hy.trans (Spec.set_bins rfl (fun h => hf _ _ _ (hf _ _ _ h)) Spec.refl)
  have hw : Spec 0xb00d0c00000000000000000000000022000000000000000a0000000000003c00000000 s w := Spec.wrs_cons (Spec.wrs_cons (Spec.wrs_nil (Spec.step (State.wr_spec _ _ _ _) rfl
    (Spec.step (State.wr_spec _ _ _ _) rfl hz))))
  exact Spec.ite (Spec.step (State.wr_spec _ _ _ _) rfl hw) hw

theorem State.oduFollow_spec : ∀ a0 a1 a2, Spec 0x620000000000000000000000000000000000000000000000000000000000000000 a0 (State.oduFollow a0 a1 a2) := by
  intro a0 a1 a2
  delta State.oduFollow
  extract_lets -underBinder -merge -useContext +onlyGivenNames x0
  have h1 : Spec 0x620000000000000000000000000000000000000000000000000000000000000000 a0 x0 := by
    refine Spec.step (State.modTrib_spec _ _ _) rfl ?_
    exact Spec.refl
  clear_value x0
  extract_lets -underBinder -merge -useContext +onlyGivenNames x2
  clear_value x2
  extract_lets -underBinder -merge -useContext +onlyGivenNames x3
  clear_value x3
  extract_lets -underBinder -merge -useContext +onlyGivenNames x4
  clear_value x4
  refine Spec.step (State.clkRefresh_spec _) rfl ?_
  refine Spec.step (State.modPort_spec _ _ _) rfl ?_
  exact h1

theorem State.sendErr_spec : ∀ a0 a1, SpecP 0x400000000000000000000000000000000000000000000000000000000000000000 a0 (State.sendErr a0 a1) := by
  intro a0 a1
  delta State.sendErr
  refine SpecP.mk ?_
  refine Spec.step (State.modTrib_spec _ _ _) rfl ?_
  exact Spec.refl

theorem State.tribSlip_spec : ∀ a0 a1, SpecP 0x400000000000000000000000000000000000000000000000000000000000000000 a0 (State.tribSlip a0 a1) := by
  intro a0 a1
  delta State.tribSlip
  refine SpecP.mk ?_
  refine Spec.step (State.modTrib_spec _ _ _) rfl ?_
  exact Spec.refl

theorem State.wordMark_spec : ∀ a0 a1, SpecP 0x20400000000000000000000000000000000000000000000000000000000000000000 a0 (State.wordMark a0 a1) := by
  intro a0 a1
  delta State.wordMark
  split
  rename_i y0 y1 h2q
  have h2 : SpecP 0x20400000000000000000000000000000000000000000000000000000000000000000 a0 (y0, y1) := by
    rw [← h2q]
    refine SpecP.step (State.tribSlip_spec _ _) rfl ?_
    exact Spec.refl
  clear h2q
  refine SpecP.ite ?_ ?_
  · refine SpecP.mk ?_
    refine Spec.step (State.modPair_spec _ _) rfl ?_
    exact h2
  · refine SpecP.mk ?_
    exact h2

theorem State.sendCopies_spec : ∀ a0 a1 a2 a3, Spec 0x2020000000000000000000000000000000000000000000000000000000000000000000 a0 (State.sendCopies a0 a1 a2 a3) := by
  intro a0 a1 a2 a3
  delta State.sendCopies
  refine Spec.ite ?_ ?_
  · exact Spec.refl
  · refine Spec.fold _ ?_ ?_
    · intro t0 i1
      try dsimp -zeta only
      refine Spec.ite ?_ ?_
      · extract_lets -underBinder -merge -useContext +onlyGivenNames x2
        clear_value x2
        extract_lets -underBinder -merge -useContext +onlyGivenNames x3
        have h4 : Spec 0x2020000000000000000000000000000000000000000000000000000000000000000000 t0 x3 := by
          refine Spec.step (State.emit_spec _ _) rfl ?_
          exact Spec.refl
        clear_value x3
        exact (Spec.set_pair rfl h4)
      · exact Spec.refl
    · exact Spec.refl

theorem State.segment_spec : ∀ a0 a1 a2 a3 a4 a5, Spec 0xb00c4c00000000000000000000000022000000000000000a0000000000000800000000 a0 (State.segment a0 a1 a2 a3 a4 a5) := by
  intro a0 a1 a2 a3 a4 a5
  delta State.segment
  extract_lets -underBinder -merge -useContext +onlyGivenNames x0
  clear_value x0
  extract_lets -underBinder -merge -useContext +onlyGivenNames x1
  clear_value x1
  extract_lets -underBinder -merge -useContext +onlyGivenNames x2
  have h3 : Spec 0xb00c4c00000000000000000000000022000000000000000a0000000000000800000000 a0 x2 := by
    refine Spec.step (State.modTrib_spec _ _ _) rfl ?_
    exact Spec.refl
  clear_value x2
  extract_lets -underBinder -merge -useContext +onlyGivenNames x4
  have h5 : Spec 0xb00c4c00000000000000000000000022000000000000000a0000000000000800000000 a0 x4 := by
    refine Spec.ite ?_ ?_
    · refine Spec.step (State.raiseCountReg_spec _ _ _ _ _ _) rfl ?_
      refine Spec.step (State.modTrib_spec _ _ _) rfl ?_
      exact h3
    · exact h3
  clear_value x4
  extract_lets -underBinder -merge -useContext +onlyGivenNames x6
  have h7 : Spec 0xb00c4c00000000000000000000000022000000000000000a0000000000000800000000 a0 x6 := by
    refine Spec.step (State.modTrib_spec _ _ _) rfl ?_
    exact h5
  clear_value x6
  refine Spec.ite ?_ ?_
  · refine Spec.step (State.endFrame_spec _ _ _) rfl ?_
    exact h7
  · exact h7

theorem State.dlmBlock_spec : ∀ a0 a1 a2 a3 a4 a5, Spec 0xb00c4c00000000000000000000000022000000000000000a0000000000000800000000 a0 (State.dlmBlock a0 a1 a2 a3 a4 a5) := by
  intro a0 a1 a2 a3 a4 a5
  delta State.dlmBlock
  refine Spec.ite ?_ ?_
  · exact Spec.refl
  · refine Spec.ite ?_ ?_
    · extract_lets -underBinder -merge -useContext +onlyGivenNames x0
      clear_value x0
      extract_lets -underBinder -merge -useContext +onlyGivenNames x1
      clear_value x1
      extract_lets -underBinder -merge -useContext +onlyGivenNames x2
      have h3 : Spec 0xb00c4c00000000000000000000000022000000000000000a0000000000000800000000 a0 x2 := by
        refine Spec.step (State.modTrib_spec _ _ _) rfl ?_
        exact Spec.refl
      clear_value x2
      refine Spec.ite ?_ ?_
      · refine Spec.step (State.toClient_spec _ _ _) rfl ?_
        exact h3
      · exact h3
    · refine Spec.step (State.segment_spec _ _ _ _ _ _) rfl ?_
      exact Spec.refl

theorem State.dlmHeader_spec : ∀ a0 a1 a2, Spec 0xb00c4c00000000000000000000000022000000000000000a0000000000008800000000 a0 (State.dlmHeader a0 a1 a2) := by
  intro a0 a1 a2
  delta State.dlmHeader
  split
  · refine Spec.step (State.modTrib_spec _ _ _) rfl ?_
    exact Spec.refl
  · exact Spec.refl
  · refine Spec.step (State.dlmBlock_spec _ _ _ _ _ _) rfl ?_
    refine Spec.step (State.wr_spec _ _ _ _) rfl ?_
    refine Spec.step (State.modTrib_spec _ _ _) rfl ?_
    exact Spec.refl
  · refine Spec.step (State.modTrib_spec _ _ _) rfl ?_
    exact Spec.refl
  · refine Spec.ite ?_ ?_
    · refine Spec.step (State.count_spec _ _ _) rfl ?_
      refine Spec.step (State.dlmHunt_spec _ _) rfl ?_
      exact Spec.refl
    · refine Spec.step (State.dlmBlock_spec _ _ _ _ _ _) rfl ?_
      exact Spec.refl
  · refine Spec.step (State.count_spec _ _ _) rfl ?_
    refine Spec.step (State.dlmHunt_spec _ _) rfl ?_
    exact Spec.refl

theorem State.dlmQueued_spec : ∀ a0 a1 a2, Spec 0xb02c4c00000000000000000000000022000000000000000a0000000000008800000000 a0 (State.dlmQueued a0 a1 a2) := by
  intro a0 a1 a2
  delta State.dlmQueued
  split
  · exact Spec.refl
  · split
    rename_i y0 y1 h2q
    have h2 : SpecP 0xb02c4c00000000000000000000000022000000000000000a0000000000008800000000 a0 (y0, y1) := by
      rw [← h2q]
      refine SpecP.step (State.wordMark_spec _ _) rfl ?_
      exact Spec.refl
    clear h2q
    extract_lets -underBinder -merge -useContext +onlyGivenNames x3
    clear_value x3
    extract_lets -underBinder -merge -useContext +onlyGivenNames x4
    clear_value x4
    extract_lets -underBinder -merge -useContext +onlyGivenNames x5
    have h6 : Spec 0xb02c4c00000000000000000000000022000000000000000a0000000000008800000000 a0 x5 := by
      refine Spec.step (State.sendCopies_spec _ _ _ _) rfl ?_
      exact h2
    clear_value x5
    refine Spec.step (State.dlmHeader_spec _ _ _) rfl ?_
    refine Spec.step (State.modTrib_spec _ _ _) rfl ?_
    exact h6

theorem State.upMark_spec : ∀ a0 a1, SpecP 0x20400000000000000000000000000000000000000000000000000000000000000000 a0 (State.upMark a0 a1) := by
  intro a0 a1
  delta State.upMark
  split
  rename_i y0 y1 h2q
  have h2 : SpecP 0x20400000000000000000000000000000000000000000000000000000000000000000 a0 (y0, y1) := by
    rw [← h2q]
    refine SpecP.step (State.wordMark_spec _ _) rfl ?_
    exact Spec.refl
  clear h2q
  refine SpecP.mk ?_
  exact h2

theorem execDlmBlockHeader_spec : ∀ a0 a1 a2, SpecO 0xb02c4c00000000000000000000000022000000000000000a0000000000008800000000 a2 (execDlmBlockHeader a0 a1 a2) := by
  intro a0 a1 a2
  delta execDlmBlockHeader
  refine SpecO.ok ?_
  refine Spec.ite ?_ ?_
  · refine Spec.ite ?_ ?_
    · exact Spec.refl
    · refine Spec.step (State.dlmQueued_spec _ _ _) rfl ?_
      exact Spec.refl
  · extract_lets -underBinder -merge -useContext +onlyGivenNames x0
    have h1 : Spec 0xb02c4c00000000000000000000000022000000000000000a0000000000008800000000 a2 x0 := by
      refine Spec.ite ?_ ?_
      · refine Spec.step (State.sendCopies_spec _ _ _ _) rfl ?_
        exact Spec.refl
      · exact Spec.refl
    clear_value x0
    refine Spec.ite ?_ ?_
    · exact h1
    · split
      rename_i y2 y3 h4q
      have h4 : SpecP 0xb02c4c00000000000000000000000022000000000000000a0000000000008800000000 a2 (y2, y3) := by
        rw [← h4q]
        refine SpecP.step (State.upMark_spec _ _) rfl ?_
        exact h1
      clear h4q
      extract_lets -underBinder -merge -useContext +onlyGivenNames x5
      have h6 : Spec 0xb02c4c00000000000000000000000022000000000000000a0000000000008800000000 a2 x5 := by
        refine Spec.step (State.modTrib_spec _ _ _) rfl ?_
        exact h4
      clear_value x5
      refine Spec.step (State.dlmHeader_spec _ _ _) rfl ?_
      exact h6

theorem execFlexeCalendarSwitch_spec : ∀ a0 a1 a2, SpecO 0xb02c6c00000000000000000000000022000000000000000a0000000095008000000000 a2 (execFlexeCalendarSwitch a0 a1 a2) := by
  intro a0 a1 a2
  delta execFlexeCalendarSwitch
  extract_lets -underBinder -merge -useContext +onlyGivenNames x0
  clear_value x0
  extract_lets -underBinder -merge -useContext +onlyGivenNames x1
  have h2 : Spec 0xb02c6c00000000000000000000000022000000000000000a0000000095008000000000 a2 x1 := by
    refine Spec.step (State.fxSend_spec _ _ _) rfl ?_
    exact Spec.refl
  clear_value x1
  extract_lets -underBinder -merge -useContext +onlyGivenNames x3
  have h4 : Spec 0xb02c6c00000000000000000000000022000000000000000a0000000095008000000000 a2 x3 := by
    refine Spec.step (State.modPort_spec _ _ _) rfl ?_
    exact h2
  clear_value x3
  extract_lets -underBinder -merge -useContext +onlyGivenNames x5
  have h6 : Spec 0xb02c6c00000000000000000000000022000000000000000a0000000095008000000000 a2 x5 := by
    refine Spec.step (State.fxSend_spec _ _ _) rfl ?_
    exact h4
  clear_value x5
  refine SpecO.ok ?_
  refine Spec.fold _ ?_ ?_
  · intro t7 i8
    try dsimp -zeta only
    split
    · refine Spec.ite ?_ ?_
      · exact Spec.refl
      · refine Spec.step (State.fxUnbound_spec _ _ _) rfl ?_
        exact Spec.refl
    · extract_lets -underBinder -merge -useContext +onlyGivenNames x9
      have h10 : Spec 0xb02c6c00000000000000000000000022000000000000000a0000000095008000000000 t7 x9 := by
        refine Spec.step (State.modTrib_spec _ _ _) rfl ?_
        exact Spec.refl
      clear_value x9
      extract_lets -underBinder -merge -useContext +onlyGivenNames x11
      have h12 : Spec 0xb02c6c00000000000000000000000022000000000000000a0000000095008000000000 t7 x11 := by
        refine Spec.step (State.wr_spec _ _ _ _) rfl ?_
        exact h10
      clear_value x11
      refine Spec.ite ?_ ?_
      · exact h12
      · refine Spec.step (State.bridgeRefresh_spec _) rfl ?_
        refine Spec.step (State.mirror_spec _ _ _ _) rfl ?_
        refine Spec.step (State.demandNew_spec _ _) rfl ?_
        exact h12
  · exact h6

theorem State.slipMark_spec : ∀ a0 a1 a2, Spec 0x20700000000000000000000000000000000000000000000000000000000000000000 a0 (State.slipMark a0 a1 a2) := by
  intro a0 a1 a2
  delta State.slipMark
  extract_lets -underBinder -merge -useContext +onlyGivenNames x0
  clear_value x0
  split
  · refine Spec.step (State.modFec_spec _ _ _) rfl ?_
    exact Spec.refl
  · refine Spec.ite ?_ ?_
    · refine Spec.step (State.modTx_spec _ _ _) rfl ?_
      exact Spec.refl
    · refine Spec.fold _ ?_ ?_
      · intro t1 i2
        try dsimp -zeta only
        refine Spec.step (State.modTrib_spec _ _ _) rfl ?_
        exact Spec.refl
      · exact Spec.refl
  · refine Spec.step (State.modPort_spec _ _ _) rfl ?_
    exact Spec.refl
  · refine Spec.fold _ ?_ ?_
    · intro t3 i4
      try dsimp -zeta only
      refine Spec.step (State.modTrib_spec _ _ _) rfl ?_
      exact Spec.refl
    · exact Spec.refl
  · refine Spec.step (State.modPair_spec _ _) rfl ?_
    exact Spec.refl
  · refine Spec.step (State.modRx_spec _ _ _) rfl ?_
    exact Spec.refl
  · refine Spec.step (State.modTx_spec _ _ _) rfl ?_
    exact Spec.refl

theorem State.portSlip_spec : ∀ a0 a1, SpecP 0x200000000000000000000000000000000000000000000000000000000000000000 a0 (State.portSlip a0 a1) := by
  intro a0 a1
  delta State.portSlip
  refine SpecP.mk ?_
  refine Spec.step (State.modPort_spec _ _ _) rfl ?_
  exact Spec.refl

theorem State.setDskew_spec : ∀ a0 a1 a2, Spec 0xb00ccc00000000000000000000000022000000000000000a000000000000a800000000 a0 (State.setDskew a0 a1 a2) := by
  intro a0 a1 a2
  delta State.setDskew
  refine Spec.ite ?_ ?_
  · exact Spec.refl
  · extract_lets -underBinder -merge -useContext +onlyGivenNames x0
    have h1 : Spec 0xb00ccc00000000000000000000000022000000000000000a000000000000a800000000 a0 x0 := by
      refine Spec.step (State.raiseReg_spec _ _ _ _) rfl ?_
      refine Spec.step (State.wr_spec _ _ _ _) rfl ?_
      exact Spec.refl
    clear_value x0
    split
    · refine Spec.step (State.tribRefresh_spec _ _) rfl ?_
      exact h1
    · exact h1

theorem State.setMemberTag_spec : ∀ a0 a1 a2 a3, Spec 0xb00ccc00000000000000000000000022000000000000000a000000000000a800000000 a0 (State.setMemberTag a0 a1 a2 a3) := by
  intro a0 a1 a2 a3
  delta State.setMemberTag
  extract_lets -underBinder -merge -useContext +onlyGivenNames x0
  clear_value x0
  extract_lets -underBinder -merge -useContext +onlyGivenNames x1
  have h2 : Spec 0xb00ccc00000000000000000000000022000000000000000a000000000000a800000000 a0 x1 := by
    refine Spec.step (State.alignShow_spec _ _) rfl ?_
    refine Spec.step (State.modGrp_spec _ _ _) rfl ?_
    exact Spec.refl
  clear_value x1
  extract_lets -underBinder -merge -useContext +onlyGivenNames x3
  have h4 : Spec 0xb00ccc00000000000000000000000022000000000000000a000000000000a800000000 a0 x3 := by
    refine Spec.ite ?_ ?_
    · refine Spec.step (State.raiseReg_spec _ _ _ _) rfl ?_
      exact h2
    · exact h2
  clear_value x3
  split
  · refine Spec.step (State.tribRefresh_spec _ _) rfl ?_
    exact h4
  · exact h4

theorem execGroupTagRx_spec : ∀ a0 a1 a2 a3 a4 a5, SpecO 0xb00ccc00000000000000000000000022000000000000000a000000000000a800000000 a5 (execGroupTagRx a0 a1 a2 a3 a4 a5) := by
  intro a0 a1 a2 a3 a4 a5
  delta execGroupTagRx
  refine SpecO.ok ?_
  refine Spec.ite ?_ ?_
  · exact Spec.refl
  · extract_lets -underBinder -merge -useContext +onlyGivenNames x0
    clear_value x0
    split
    rename_i y4 y5 h6q
    have h6 : SpecP 0xb00ccc00000000000000000000000022000000000000000a000000000000a800000000 a5 (y4, y5) := by
      rw [← h6q]
      split
      · split
        rename_i y1 y2 h3q
        have h3 : SpecP 0xb00ccc00000000000000000000000022000000000000000a000000000000a800000000 a5 (y1, y2) := by
          rw [← h3q]
          refine SpecP.step (State.tribSlip_spec _ _) rfl ?_
          exact Spec.refl
        clear h3q
        refine SpecP.mk ?_
        exact h3
      · refine SpecP.mk ?_
        exact Spec.refl
    clear h6q
    extract_lets -underBinder -merge -useContext +onlyGivenNames x7
    clear_value x7
    refine Spec.step (State.setMemberTag_spec _ _ _ _) rfl ?_
    exact h6

theorem execDskewDeclare_spec : ∀ a0 a1 a2, SpecO 0xb00ccc00000000000000000000000022000000000000000a000000000000a800000000 a2 (execDskewDeclare a0 a1 a2) := by
  intro a0 a1 a2
  delta execDskewDeclare
  refine SpecO.ok ?_
  refine Spec.ite ?_ ?_
  · refine Spec.step (State.setDskew_spec _ _ _) rfl ?_
    exact Spec.refl
  · exact Spec.refl

theorem State.gmpFrame_spec : ∀ a0 a1 a2, Spec 0x6020400000000000000000000000000000000000000000000000000000000000000000 a0 (State.gmpFrame a0 a1 a2) := by
  intro a0 a1 a2
  delta State.gmpFrame
  extract_lets -underBinder -merge -useContext +onlyGivenNames x0
  clear_value x0
  extract_lets -underBinder -merge -useContext +onlyGivenNames x1
  clear_value x1
  extract_lets -underBinder -merge -useContext +onlyGivenNames x2
  have h3 : Spec 0x6020400000000000000000000000000000000000000000000000000000000000000000 a0 x2 := by
    refine Spec.step (State.modTrib_spec _ _ _) rfl ?_
    exact Spec.refl
  clear_value x2
  extract_lets -underBinder -merge -useContext +onlyGivenNames x4
  have h5 : Spec 0x6020400000000000000000000000000000000000000000000000000000000000000000 a0 x4 := by
    refine Spec.step (State.sendCopies_spec _ _ _ _) rfl ?_
    exact h3
  clear_value x4
  refine Spec.ite ?_ ?_
  · extract_lets -underBinder -merge -useContext +onlyGivenNames x6
    have h7 : Spec 0x6020400000000000000000000000000000000000000000000000000000000000000000 a0 x6 := by
      refine Spec.step (State.toClient_spec _ _ _) rfl ?_
      exact h5
    clear_value x6
    exact (Spec.set_free rfl h7)
  · refine Spec.ite ?_ ?_
    · exact h5
    · extract_lets -underBinder -merge -useContext +onlyGivenNames x8
      clear_value x8
      split
      rename_i y9 y10 h11q
      have h11 : SpecP 0x6020400000000000000000000000000000000000000000000000000000000000000000 a0 (y9, y10) := by
        rw [← h11q]
        refine SpecP.step (State.sendErr_spec _ _) rfl ?_
        exact h5
      clear h11q
      refine Spec.ite ?_ ?_
      · extract_lets -underBinder -merge -useContext +onlyGivenNames x12
        have h13 : Spec 0x6020400000000000000000000000000000000000000000000000000000000000000000 a0 x12 := by
          refine Spec.step (State.toClient_spec _ _ _) rfl ?_
          exact h11
        clear_value x12
        exact (Spec.set_free rfl h13)
      · refine Spec.step (State.toClient_spec _ _ _) rfl ?_
        exact h11

theorem State.gmpWordBad_spec : ∀ a0 a1, Spec 0xb00cee00000000000000000000000022000000000000000a000000000000a800000000 a0 (State.gmpWordBad a0 a1) := by
  intro a0 a1
  delta State.gmpWordBad
  extract_lets -underBinder -merge -useContext +onlyGivenNames x0
  have h1 : Spec 0xb00cee00000000000000000000000022000000000000000a000000000000a800000000 a0 x0 := by
    refine Spec.step (State.oduFollow_spec _ _ _) rfl ?_
    exact Spec.refl
  clear_value x0
  extract_lets -underBinder -merge -useContext +onlyGivenNames x2
  have h3 : Spec 0xb00cee00000000000000000000000022000000000000000a000000000000a800000000 a0 x2 := by
    refine Spec.step (State.count_spec _ _ _) rfl ?_
    refine Spec.step (State.modTrib_spec _ _ _) rfl ?_
    exact h1
  clear_value x2
  refine Spec.ite ?_ ?_
  · refine Spec.step (State.tribRefresh_spec _ _) rfl ?_
    refine Spec.step (State.wr_spec _ _ _ _) rfl ?_
    refine Spec.step (State.raiseReg_spec _ _ _ _) rfl ?_
    refine Spec.step (State.modTrib_spec _ _ _) rfl ?_
    exact h3
  · exact h3

theorem State.gmpWordGood_spec : ∀ a0 a1 a2, Spec 0x2000e2000000000000000000000000000000000000000000000000000000a000000000 a0 (State.gmpWordGood a0 a1 a2) := by
  intro a0 a1 a2
  delta State.gmpWordGood
  extract_lets -underBinder -merge -useContext +onlyGivenNames x0
  clear_value x0
  extract_lets -underBinder -merge -useContext +onlyGivenNames x1
  have h2 : Spec 0x2000e2000000000000000000000000000000000000000000000000000000a000000000 a0 x1 := by
    refine Spec.step (State.modTrib_spec _ _ _) rfl ?_
    exact Spec.refl
  clear_value x1
  extract_lets -underBinder -merge -useContext +onlyGivenNames x3
  have h4 : Spec 0x2000e2000000000000000000000000000000000000000000000000000000a000000000 a0 x3 := by
    refine Spec.step (State.oduFollow_spec _ _ _) rfl ?_
    exact h2
  clear_value x3
  refine Spec.ite ?_ ?_
  · refine Spec.step (State.tribRefresh_spec _ _) rfl ?_
    refine Spec.step (State.wr_spec _ _ _ _) rfl ?_
    refine Spec.step (State.modTrib_spec _ _ _) rfl ?_
    exact h4
  · exact h4

theorem execGmpWordRx_spec : ∀ a0 a1 a2 a3, SpecO 0xf02cee00000000000000000000000022000000000000000a000000000000a800000000 a3 (execGmpWordRx a0 a1 a2 a3) := by
  intro a0 a1 a2 a3
  delta execGmpWordRx
  refine SpecO.ok ?_
  refine Spec.ite ?_ ?_
  · exact Spec.refl
  · extract_lets -underBinder -merge -useContext +onlyGivenNames x0
    clear_value x0
    extract_lets -underBinder -merge -useContext +onlyGivenNames x1
    clear_value x1
    extract_lets -underBinder -merge -useContext +onlyGivenNames x2
    have h3 : Spec 0xf02cee00000000000000000000000022000000000000000a000000000000a800000000 a3 x2 := by
      refine Spec.step (State.gmpFrame_spec _ _ _) rfl ?_
      exact Spec.refl
    clear_value x2
    split
    rename_i y4 y5 h6q
    have h6 : SpecP 0xf02cee00000000000000000000000022000000000000000a000000000000a800000000 a3 (y4, y5) := by
      rw [← h6q]
      refine SpecP.ite ?_ ?_
      · refine SpecP.step (State.upMark_spec _ _) rfl ?_
        exact h3
      · refine SpecP.step (State.wordMark_spec _ _) rfl ?_
        exact h3
    clear h6q
    extract_lets -underBinder -merge -useContext +onlyGivenNames x7
    clear_value x7
    refine Spec.ite ?_ ?_
    · refine Spec.step (State.gmpWordBad_spec _ _) rfl ?_
      exact h6
    · refine Spec.step (State.gmpWordGood_spec _ _ _) rfl ?_
      exact h6

theorem execDskewClear_spec : ∀ a0 a1, SpecO 0xb00ccc00000000000000000000000022000000000000000a000000000000a800000000 a1 (execDskewClear a0 a1) := by
  intro a0 a1
  delta execDskewClear
  refine SpecO.ok ?_
  refine Spec.ite ?_ ?_
  · refine Spec.step (State.setDskew_spec _ _ _) rfl ?_
    exact Spec.refl
  · exact Spec.refl

theorem execEthOsetChange_spec : ∀ a0 a1 a2, SpecO 0x400000000000000000000000000000000000000000000000000000000200000000 a2 (execEthOsetChange a0 a1 a2) := by
  intro a0 a1 a2
  delta execEthOsetChange
  refine SpecO.ok ?_
  refine Spec.ite ?_ ?_
  · exact Spec.refl
  · extract_lets -underBinder -merge -useContext +onlyGivenNames x0
    clear_value x0
    refine Spec.step (State.setOset_spec _ _ _) rfl ?_
    refine Spec.wrs_cons ?_
    refine Spec.wrs_cons ?_
    refine Spec.wrs_nil ?_
    refine Spec.step (State.wr_spec _ _ _ _) rfl ?_
    refine Spec.step (State.wr_spec _ _ _ _) rfl ?_
    exact Spec.refl

theorem execSkewMeasure_spec : ∀ a0 a1 a2, SpecO 0x800000000000000000000000000000000000000000000000000000002000000000 a2 (execSkewMeasure a0 a1 a2) := by
  intro a0 a1 a2
  delta execSkewMeasure
  refine SpecO.ok ?_
  refine Spec.ite ?_ ?_
  · exact Spec.refl
  · extract_lets -underBinder -merge -useContext +onlyGivenNames x0
    have h1 : Spec 0x800000000000000000000000000000000000000000000000000000002000000000 a2 x0 := by
      refine Spec.step (State.wr_spec _ _ _ _) rfl ?_
      exact Spec.refl
    clear_value x0
    refine Spec.step (State.modGrp_spec _ _ _) rfl ?_
    exact h1

theorem execClientRxRecover_spec : ∀ a0 a1, SpecO 0x600000000000000000000000000000000000000000000000000000000200000000 a1 (execClientRxRecover a0 a1) := by
  intro a0 a1
  delta execClientRxRecover
  refine SpecO.ok ?_
  refine Spec.ite ?_ ?_
  · exact Spec.refl
  · extract_lets -underBinder -merge -useContext +onlyGivenNames x0
    have h1 : Spec 0x600000000000000000000000000000000000000000000000000000000200000000 a1 x0 := by
      refine Spec.wrs_cons ?_
      refine Spec.wrs_cons ?_
      refine Spec.wrs_cons ?_
      refine Spec.wrs_cons ?_
      refine Spec.wrs_cons ?_
      refine Spec.wrs_nil ?_
      refine Spec.step (State.wr_spec _ _ _ _) rfl ?_
      refine Spec.step (State.wr_spec _ _ _ _) rfl ?_
      refine Spec.step (State.wr_spec _ _ _ _) rfl ?_
      refine Spec.step (State.wr_spec _ _ _ _) rfl ?_
      refine Spec.step (State.wr_spec _ _ _ _) rfl ?_
      exact Spec.refl
    clear_value x0
    extract_lets -underBinder -merge -useContext +onlyGivenNames x2
    clear_value x2
    refine Spec.ite ?_ ?_
    · extract_lets -underBinder -merge -useContext +onlyGivenNames x3
      have h6 : Spec 0x600000000000000000000000000000000000000000000000000000000200000000 a1 x3 := by
        refine Spec.ite ?_ ?_
        · refine Spec.fold _ ?_ ?_
          · intro t4 i5
            try dsimp -zeta only
            refine Spec.step (State.wr_spec _ _ _ _) rfl ?_
            exact Spec.refl
          · exact h1
        · exact h1
      clear_value x3
      refine Spec.step (State.lineFault_spec _ _ _) rfl ?_
      exact h6
    · exact h1

theorem execOsetRepeat_spec : ∀ a0 a1, SpecO 0x400000000000000000000000000000000000000000000000000000000000000000 a1 (execOsetRepeat a0 a1) := by
  intro a0 a1
  delta execOsetRepeat
  refine SpecO.ok ?_
  split
  · refine Spec.ite ?_ ?_
    · refine Spec.step (State.queueBlocks_spec _ _ _) rfl ?_
      exact Spec.refl
    · exact Spec.refl
  · exact Spec.refl

theorem State.fxLost_spec : ∀ a0 a1, Spec 0x200000000 a0 (State.fxLost a0 a1) := by
  intro a0 a1
  delta State.fxLost
  refine Spec.fold _ ?_ ?_
  · intro t0 i1
    try dsimp -zeta only
    refine Spec.step (State.wr_spec _ _ _ _) rfl ?_
    exact Spec.refl
  · exact Spec.refl

theorem execClientRxFault_spec : ∀ a0 a1 a2, SpecO 0x600000000000000000000000000000000000000000000000000000000200000000 a2 (execClientRxFault a0 a1 a2) := by
  intro a0 a1 a2
  delta execClientRxFault
  refine SpecO.ok ?_
  refine Spec.ite ?_ ?_
  · exact Spec.refl
  · extract_lets -underBinder -merge -useContext +onlyGivenNames x0
    have h1 : Spec 0x600000000000000000000000000000000000000000000000000000000200000000 a2 x0 := by
      unfold x0
      split
      · refine Spec.step (State.fxLost_spec _ _) rfl ?_
        refine Spec.wrs_cons ?_
        refine Spec.wrs_cons ?_
        refine Spec.wrs_nil ?_
        refine Spec.step (State.wr_spec _ _ _ _) rfl ?_
        refine Spec.step (State.wr_spec _ _ _ _) rfl ?_
        exact Spec.refl
      · refine Spec.step (State.fxLost_spec _ _) rfl ?_
        refine Spec.step (State.wr_spec _ _ _ _) rfl ?_
        exact Spec.refl
      · refine Spec.step (State.wr_spec _ _ _ _) rfl ?_
        exact Spec.refl
      · refine Spec.step (State.fxLost_spec _ _) rfl ?_
        exact Spec.refl
    clear_value x0
    refine Spec.step (State.lineFault_spec _ _ _) rfl ?_
    exact h1

theorem execEthIngressFrame_spec : ∀ a0 a1 a2 a3, SpecO 0xb00c6c00000000000000000000000022000000000000000a0000000000000800000000 a3 (execEthIngressFrame a0 a1 a2 a3) := by
  intro a0 a1 a2 a3
  delta execEthIngressFrame
  refine SpecO.ok ?_
  refine Spec.ite ?_ ?_
  · exact Spec.refl
  · extract_lets -underBinder -merge -useContext +onlyGivenNames x0
    clear_value x0
    split
    rename_i y1 y2 h3q
    have h3 : SpecP 0xb00c6c00000000000000000000000022000000000000000a0000000000000800000000 a3 (y1, y2) := by
      rw [← h3q]
      refine SpecP.step (State.portSlip_spec _ _) rfl ?_
      exact Spec.refl
    clear h3q
    refine Spec.ite ?_ ?_
    · refine Spec.step (State.queueOz_spec _ _ _) rfl ?_
      refine Spec.step (State.queueBlocks_spec _ _ _) rfl ?_
      exact h3
    · refine Spec.ite ?_ ?_
      · refine Spec.step (State.raiseCountReg_spec _ _ _ _ _ _) rfl ?_
        exact h3
      · extract_lets -underBinder -merge -useContext +onlyGivenNames x4
        clear_value x4
        extract_lets -underBinder -merge -useContext +onlyGivenNames x5
        have h6 : Spec 0xb00c6c00000000000000000000000022000000000000000a0000000000000800000000 a3 x5 := by
          refine Spec.ite ?_ ?_
          · refine Spec.step (State.raiseCountReg_spec _ _ _ _ _ _) rfl ?_
            exact h3
          · exact h3
        clear_value x5
        refine Spec.step (State.queueBlocks_spec _ _ _) rfl ?_
        exact h6

theorem execEgressOsetTimeout_spec : ∀ a0 a1, SpecO 0x400000000000000000000000000000000000000000000000000000000000000000 a1 (execEgressOsetTimeout a0 a1) := by
  intro a0 a1
  delta execEgressOsetTimeout
  refine SpecO.ok ?_
  refine Spec.step (State.modTrib_spec _ _ _) rfl ?_
  exact Spec.refl

end Sys2Proof.Machine
end

