-- ==== Sys2Proof/Laws/Frames08.lean ====
section
/-! SUPPORT. What each operation and each command of the files Machine/Fec, I3c can do: one lemma each,
`<name>_spec`, whose first argument is the footprint (Laws/Spec.lean). -/
namespace Sys2Proof.Machine

theorem State.fecTestWrite_spec : ∀ a0 a1 a2, Spec 0xf11c9e00000000000000000000000022000000050000000a0000000000200000301802 a0 (State.fecTestWrite a0 a1 a2) := by
  intro a0 a1 a2
  delta State.fecTestWrite
  refine Spec.ite ?_ ?_
  · exact Spec.refl
  · refine Spec.ite ?_ ?_
    · exact Spec.refl
    · extract_lets -underBinder -merge -useContext +onlyGivenNames x0
      clear_value x0
      extract_lets -underBinder -merge -useContext +onlyGivenNames x1
      have h2 : Spec 0xf11c9e00000000000000000000000022000000050000000a0000000000200000301802 a0 x1 := by
        refine Spec.step (State.wr_spec _ _ _ _) rfl ?_
        exact Spec.refl
      clear_value x1
      refine Spec.ite ?_ ?_
      · extract_lets -underBinder -merge -useContext +onlyGivenNames x3
        have h4 : Spec 0xf11c9e00000000000000000000000022000000050000000a0000000000200000301802 a0 x3 := by
          refine Spec.step (State.modFec_spec _ _ _) rfl ?_
          refine Spec.step (State.decRestart_spec _ _) rfl ?_
          exact h2
        clear_value x3
        extract_lets -underBinder -merge -useContext +onlyGivenNames x5
        have h6 : Spec 0xf11c9e00000000000000000000000022000000050000000a0000000000200000301802 a0 x5 := by
          refine Spec.step (State.wr_spec _ _ _ _) rfl ?_
          exact h4
        clear_value x5
        refine Spec.ite ?_ ?_
        · refine Spec.step (State.txStart_spec _ _) rfl ?_
          refine Spec.step (State.txStop_spec _ _) rfl ?_
          exact h6
        · exact h6
      · exact h2

theorem State.dacDrive_spec : ∀ a0 a1 a2 a3, SpecP 0x100000000000000000000000000000000000000000000000000000000000000000 a0 (State.dacDrive a0 a1 a2 a3) := by
  intro a0 a1 a2 a3
  delta State.dacDrive
  extract_lets -underBinder -merge -useContext +onlyGivenNames x0
  clear_value x0
  refine SpecP.mk ?_
  refine Spec.step (State.modFec_spec _ _ _) rfl ?_
  exact Spec.refl

theorem State.emitSymbols_spec : ∀ a0 a1 a2, Spec 0x2000100000000000000000000000000000000000000000000000000000000000000000 a0 (State.emitSymbols a0 a1 a2) := by
  intro a0 a1 a2
  delta State.emitSymbols
  split
  · split
    rename_i y0 y1 h2q
    have h2 : SpecP 0x2000100000000000000000000000000000000000000000000000000000000000000000 a0 (y0, y1) := by
      rw [← h2q]
      refine SpecP.step (State.dacDrive_spec _ _ _ _) rfl ?_
      exact Spec.refl
    clear h2q
    refine Spec.step (State.emit_spec _ _) rfl ?_
    exact h2

theorem State.loopBits_spec : ∀ a0 a1 a2, Spec 0x100000000000000000000000000000000000000000000000000000000000000000 a0 (State.loopBits a0 a1 a2) := by
  intro a0 a1 a2
  delta State.loopBits
  refine Spec.step (State.modFec_spec _ _ _) rfl ?_
  exact Spec.refl

theorem State.sendPosition_spec : ∀ a0 a1 a2, Spec 0x2000100000000000000000000000000000000000000000000000000000000000000000 a0 (State.sendPosition a0 a1 a2) := by
  intro a0 a1 a2
  delta State.sendPosition
  extract_lets -underBinder -merge -useContext +onlyGivenNames x0
  clear_value x0
  extract_lets -underBinder -merge -useContext +onlyGivenNames x1
  have h2 : Spec 0x2000100000000000000000000000000000000000000000000000000000000000000000 a0 x1 := by
    unfold x1
    split
    · refine Spec.step (State.emitSymbols_spec _ _ _) rfl ?_
      exact Spec.refl
    · refine Spec.step (State.loopBits_spec _ _ _) rfl ?_
      exact Spec.refl
    · exact Spec.refl
  clear_value x1
  refine Spec.step (State.modFec_spec _ _ _) rfl ?_
  exact h2

theorem State.fecShow_spec : ∀ a0 a1 a2, Spec 0x3c000 a0 (State.fecShow a0 a1 a2) := by
  intro a0 a1 a2
  delta State.fecShow
  extract_lets -underBinder -merge -useContext +onlyGivenNames x0
  clear_value x0
  refine Spec.wrs_cons ?_
  refine Spec.wrs_cons ?_
  refine Spec.wrs_cons ?_
  refine Spec.wrs_cons ?_
  refine Spec.wrs_cons ?_
  refine Spec.wrs_cons ?_
  refine Spec.wrs_cons ?_
  refine Spec.wrs_nil ?_
  refine Spec.step (State.wr_spec _ _ _ _) rfl ?_
  refine Spec.step (State.wr_spec _ _ _ _) rfl ?_
  refine Spec.step (State.wr_spec _ _ _ _) rfl ?_
  refine Spec.step (State.wr_spec _ _ _ _) rfl ?_
  refine Spec.step (State.wr_spec _ _ _ _) rfl ?_
  refine Spec.step (State.wr_spec _ _ _ _) rfl ?_
  refine Spec.step (State.wr_spec _ _ _ _) rfl ?_
  exact Spec.refl

theorem State.fecReveal_spec : ∀ a0 a1, Spec 0x10000000000000000000000000000000000000000000000000000000000003c000 a0 (State.fecReveal a0 a1) := by
  intro a0 a1
  delta State.fecReveal
  split
  · refine Spec.step (State.modFec_spec _ _ _) rfl ?_
    refine Spec.step (State.fecShow_spec _ _ _) rfl ?_
    exact Spec.refl
  · exact Spec.refl

theorem State.excessEval_spec : ∀ a0 a1 a2 a3 a4 a5, Spec 0xb00cdc00000000000000000000000022000000000000000a000000000000a000003000 a0 (State.excessEval a0 a1 a2 a3 a4 a5) := by
  intro a0 a1 a2 a3 a4 a5
  delta State.excessEval
  refine Spec.ite ?_ ?_
  · refine Spec.step (State.modFec_spec _ _ _) rfl ?_
    exact Spec.refl
  · refine Spec.ite ?_ ?_
    · extract_lets -underBinder -merge -useContext +onlyGivenNames x0
      clear_value x0
      extract_lets -underBinder -merge -useContext +onlyGivenNames x1
      have h2 : Spec 0xb00cdc00000000000000000000000022000000000000000a000000000000a000003000 a0 x1 := by
        refine Spec.step (State.modFec_spec _ _ _) rfl ?_
        exact Spec.refl
      clear_value x1
      refine Spec.ite ?_ ?_
      · refine Spec.step (State.raiseReg_spec _ _ _ _) rfl ?_
        refine Spec.step (State.excessClear_spec _ _) rfl ?_
        exact h2
      · exact h2
    · extract_lets -underBinder -merge -useContext +onlyGivenNames x3
      clear_value x3
      extract_lets -underBinder -merge -useContext +onlyGivenNames x4
      have h5 : Spec 0xb00cdc00000000000000000000000022000000000000000a000000000000a000003000 a0 x4 := by
        refine Spec.step (State.modFec_spec _ _ _) rfl ?_
        exact Spec.refl
      clear_value x4
      refine Spec.ite ?_ ?_
      · extract_lets -underBinder -merge -useContext +onlyGivenNames x6
        have h7 : Spec 0xb00cdc00000000000000000000000022000000000000000a000000000000a000003000 a0 x6 := by
          refine Spec.step (State.fabRefresh_spec _) rfl ?_
          refine Spec.step (State.wr_spec _ _ _ _) rfl ?_
          refine Spec.step (State.modFec_spec _ _ _) rfl ?_
          exact h5
        clear_value x6
        refine Spec.step (State.raiseReg_spec _ _ _ _) rfl ?_
        exact h7
      · exact h5

theorem State.fecWindowClose_spec : ∀ a0 a1, Spec 0xb00cdc00000000000000000000000022000000000000000a000000000000a000003000 a0 (State.fecWindowClose a0 a1) := by
  intro a0 a1
  delta State.fecWindowClose
  extract_lets -underBinder -merge -useContext +onlyGivenNames x0
  clear_value x0
  extract_lets -underBinder -merge -useContext +onlyGivenNames x1
  clear_value x1
  extract_lets -underBinder -merge -useContext +onlyGivenNames x2
  clear_value x2
  extract_lets -underBinder -merge -useContext +onlyGivenNames x3
  have h4 : Spec 0xb00cdc00000000000000000000000022000000000000000a000000000000a000003000 a0 x3 := by
    refine Spec.step (State.modFec_spec _ _ _) rfl ?_
    exact Spec.refl
  clear_value x3
  extract_lets -underBinder -merge -useContext +onlyGivenNames x5
  have h6 : Spec 0xb00cdc00000000000000000000000022000000000000000a000000000000a000003000 a0 x5 := by
    refine Spec.ite ?_ ?_
    · exact h4
    · refine Spec.step (State.raiseReg_spec _ _ _ _) rfl ?_
      exact h4
  clear_value x5
  extract_lets -underBinder -merge -useContext +onlyGivenNames x7
  have h8 : Spec 0xb00cdc00000000000000000000000022000000000000000a000000000000a000003000 a0 x7 := by
    refine Spec.step (State.excessEval_spec _ _ _ _ _ _) rfl ?_
    exact h6
  clear_value x7
  refine Spec.step (State.modFec_spec _ _ _) rfl ?_
  exact h8

theorem State.fecComputed_spec : ∀ a0 a1, Spec 0xb00cdc00000000000000000000000022000000000000000a000000000000a00003f000 a0 (State.fecComputed a0 a1) := by
  intro a0 a1
  delta State.fecComputed
  refine Spec.ite ?_ ?_
  · refine Spec.step (State.fecReveal_spec _ _) rfl ?_
    exact Spec.refl
  · refine Spec.step (State.modFec_spec _ _ _) rfl ?_
    refine Spec.step (State.fecReveal_spec _ _) rfl ?_
    refine Spec.step (State.fecWindowClose_spec _ _) rfl ?_
    exact Spec.refl

theorem State.emitSync_spec : ∀ a0 a1 a2, Spec 0x2000100000000000000000000000000000000000000000000000000000000000000000 a0 (State.emitSync a0 a1 a2) := by
  intro a0 a1 a2
  delta State.emitSync
  split
  rename_i y0 y1 h2q
  have h2 : SpecP 0x2000100000000000000000000000000000000000000000000000000000000000000000 a0 (y0, y1) := by
    rw [← h2q]
    refine SpecP.step (State.dacDrive_spec _ _ _ _) rfl ?_
    exact Spec.refl
  clear h2q
  refine Spec.step (State.emit_spec _ _) rfl ?_
  exact h2

theorem State.testPosition_spec : ∀ a0 a1, Spec 0x2000100000000000000000000000000000000000000000000000000000000000000000 a0 (State.testPosition a0 a1) := by
  intro a0 a1
  delta State.testPosition
  extract_lets -underBinder -merge -useContext +onlyGivenNames x0
  have h1 : Spec 0x2000100000000000000000000000000000000000000000000000000000000000000000 a0 x0 := by
    refine Spec.ite ?_ ?_
    · refine Spec.step (State.modFec_spec _ _ _) rfl ?_
      refine Spec.ite ?_ ?_
      · refine Spec.step (State.emitSync_spec _ _ _) rfl ?_
        exact Spec.refl
      · exact Spec.refl
    · exact Spec.refl
  clear_value x0
  extract_lets -underBinder -merge -useContext +onlyGivenNames x2
  clear_value x2
  refine Spec.step (State.sendPosition_spec _ _ _) rfl ?_
  refine Spec.step (State.modFec_spec _ _ _) rfl ?_
  exact h1

theorem State.emitInterop_spec : ∀ a0 a1 a2, Spec 0x2000100000000000000000000000000000000000000000000000000000000000000000 a0 (State.emitInterop a0 a1 a2) := by
  intro a0 a1 a2
  delta State.emitInterop
  split
  rename_i y0 y1 h2q
  have h2 : SpecP 0x2000100000000000000000000000000000000000000000000000000000000000000000 a0 (y0, y1) := by
    rw [← h2q]
    refine SpecP.step (State.dacDrive_spec _ _ _ _) rfl ?_
    exact Spec.refl
  clear h2q
  refine Spec.step (State.emit_spec _ _) rfl ?_
  exact h2

theorem State.fecWindowEnd_spec : ∀ a0 a1, Spec 0xb00cdc00000000000000000000000022000000000000000a000000000000a00003f000 a0 (State.fecWindowEnd a0 a1) := by
  intro a0 a1
  delta State.fecWindowEnd
  refine Spec.ite ?_ ?_
  · refine Spec.step (State.fecReveal_spec _ _) rfl ?_
    refine Spec.step (State.fecWindowClose_spec _ _) rfl ?_
    exact Spec.refl
  · refine Spec.ite ?_ ?_
    · refine Spec.step (State.modFec_spec _ _ _) rfl ?_
      exact Spec.refl
    · refine Spec.step (State.fecWindowClose_spec _ _) rfl ?_
      exact Spec.refl

theorem execFecWindowEnd_spec : ∀ a0 a1, SpecO 0xb00cdc00000000000000000000000022000000000000000a000000000000a00003f000 a1 (execFecWindowEnd a0 a1) := by
  intro a0 a1
  delta execFecWindowEnd
  refine SpecO.ok ?_
  refine Spec.ite ?_ ?_
  · refine Spec.step (State.fecWindowEnd_spec _ _) rfl ?_
    exact Spec.refl
  · exact Spec.refl

theorem State.resendSync_spec : ∀ a0 a1 a2, Spec 0x6000100000000000000000000000000000000000000000000000000000000000000000 a0 (State.resendSync a0 a1 a2) := by
  intro a0 a1 a2
  delta State.resendSync
  refine Spec.ite ?_ ?_
  · refine Spec.step (State.emitSync_spec _ _ _) rfl ?_
    exact Spec.refl
  · extract_lets -underBinder -merge -useContext +onlyGivenNames x0
    have h1 : Spec 0x6000100000000000000000000000000000000000000000000000000000000000000000 a0 x0 := by
      refine Spec.step (State.emitSync_spec _ _ _) rfl ?_
      exact Spec.refl
    clear_value x0
    exact (Spec.set_free rfl h1)

theorem execTestSyncBlock_spec : ∀ a0 a1 a2, SpecO 0x6000100000000000000000000000000000000000000000000000000000000000001000 a2 (execTestSyncBlock a0 a1 a2) := by
  intro a0 a1 a2
  delta execTestSyncBlock
  refine SpecO.ok ?_
  refine Spec.ite ?_ ?_
  · exact Spec.refl
  · extract_lets -underBinder -merge -useContext +onlyGivenNames x0
    clear_value x0
    extract_lets -underBinder -merge -useContext +onlyGivenNames x1
    clear_value x1
    extract_lets -underBinder -merge -useContext +onlyGivenNames x2
    have h3 : Spec 0x6000100000000000000000000000000000000000000000000000000000000000001000 a2 x2 := by
      refine Spec.ite ?_ ?_
      · refine Spec.step (State.resendSync_spec _ _ _) rfl ?_
        exact Spec.refl
      · exact Spec.refl
    clear_value x2
    extract_lets -underBinder -merge -useContext +onlyGivenNames x4
    clear_value x4
    extract_lets -underBinder -merge -useContext +onlyGivenNames x5
    have h6 : Spec 0x6000100000000000000000000000000000000000000000000000000000000000001000 a2 x5 := by
      refine Spec.step (State.modFec_spec _ _ _) rfl ?_
      exact h3
    clear_value x5
    extract_lets -underBinder -merge -useContext +onlyGivenNames x7
    clear_value x7
    refine Spec.ite ?_ ?_
    · refine Spec.step (State.wr_spec _ _ _ _) rfl ?_
      exact h6
    · refine Spec.ite ?_ ?_
      · refine Spec.step (State.wr_spec _ _ _ _) rfl ?_
        exact h6
      · exact h6

theorem State.fecArrive_spec : ∀ a0 a1 a2, Spec 0xb00c0c00000000000000000000000022000000000000000a0000000000000000001000 a0 (State.fecArrive a0 a1 a2) := by
  intro a0 a1 a2
  delta State.fecArrive
  refine Spec.ite ?_ ?_
  · refine Spec.step (State.count_spec _ _ _) rfl ?_
    refine Spec.step (State.wr_spec _ _ _ _) rfl ?_
    exact Spec.refl
  · refine Spec.step (State.wr_spec _ _ _ _) rfl ?_
    exact Spec.refl

theorem execFecReadingReport_spec : ∀ a0 a1, SpecO 0x100000000000000000000000000000000000000000000000000000000000000000 a1 (execFecReadingReport a0 a1) := by
  intro a0 a1
  delta execFecReadingReport
  refine SpecO.ok ?_
  refine Spec.ite ?_ ?_
  · extract_lets -underBinder -merge -useContext +onlyGivenNames x0
    clear_value x0
    refine Spec.step (State.modSk_spec _ _ _) rfl ?_
    exact Spec.refl
  · exact Spec.refl

theorem State.fecHand_spec : ∀ a0 a1 a2 a3, Spec 0x100000000000000000000000000000000000000000000000000000000000000000 a0 (State.fecHand a0 a1 a2 a3) := by
  intro a0 a1 a2 a3
  delta State.fecHand
  refine Spec.ite ?_ ?_
  · refine Spec.step (State.modFec_spec _ _ _) rfl ?_
    exact Spec.refl
  · refine Spec.step (State.modFec_spec _ _ _) rfl ?_
    exact Spec.refl

theorem State.fecPass_spec : ∀ a0 a1 a2, Spec 0x100000000000000000000000000000000000000000000000000000000000000000 a0 (State.fecPass a0 a1 a2) := by
  intro a0 a1 a2
  delta State.fecPass
  extract_lets -underBinder -merge -useContext +onlyGivenNames x0
  clear_value x0
  refine Spec.step (State.modFec_spec _ _ _) rfl ?_
  refine Spec.step (State.fecHand_spec _ _ _ _) rfl ?_
  exact Spec.refl

theorem State.fecCheck_spec : ∀ a0 a1 a2, Spec 0xb00c1c00000000000000000000000022000000000000000a0000000000000000042000 a0 (State.fecCheck a0 a1 a2) := by
  intro a0 a1 a2
  delta State.fecCheck
  refine Spec.ite ?_ ?_
  · exact Spec.refl
  · split
    · extract_lets -underBinder -merge -useContext +onlyGivenNames x0
      have h1 : Spec 0xb00c1c00000000000000000000000022000000000000000a0000000000000000042000 a0 x0 := by
        refine Spec.step (State.modFec_spec _ _ _) rfl ?_
        exact Spec.refl
      clear_value x0
      refine Spec.ite ?_ ?_
      · exact h1
      · extract_lets -underBinder -merge -useContext +onlyGivenNames x2
        have h3 : Spec 0xb00c1c00000000000000000000000022000000000000000a0000000000000000042000 a0 x2 := by
          refine Spec.step (State.wr_spec _ _ _ _) rfl ?_
          exact h1
        clear_value x2
        refine Spec.step (State.raiseCountReg_spec _ _ _ _ _ _) rfl ?_
        exact h3

theorem State.fecCount_spec : ∀ a0 a1 a2 a3, Spec 0xb00c1c00000000000000000000000022000000000000000a0000000000000000042000 a0 (State.fecCount a0 a1 a2 a3) := by
  intro a0 a1 a2 a3
  delta State.fecCount
  extract_lets -underBinder -merge -useContext +onlyGivenNames x0
  clear_value x0
  extract_lets -underBinder -merge -useContext +onlyGivenNames x1
  clear_value x1
  extract_lets -underBinder -merge -useContext +onlyGivenNames x2
  clear_value x2
  extract_lets -underBinder -merge -useContext +onlyGivenNames x3
  clear_value x3
  extract_lets -underBinder -merge -useContext +onlyGivenNames x4
  have h5 : Spec 0xb00c1c00000000000000000000000022000000000000000a0000000000000000042000 a0 x4 := by
    refine Spec.step (State.fecHand_spec _ _ _ _) rfl ?_
    exact Spec.refl
  clear_value x4
  extract_lets -underBinder -merge -useContext +onlyGivenNames x6
  have h7 : Spec 0xb00c1c00000000000000000000000022000000000000000a0000000000000000042000 a0 x6 := by
    refine Spec.step (State.modFec_spec _ _ _) rfl ?_
    exact h5
  clear_value x6
  extract_lets -underBinder -merge -useContext +onlyGivenNames x8
  have h9 : Spec 0xb00c1c00000000000000000000000022000000000000000a0000000000000000042000 a0 x8 := by
    refine Spec.step (State.count_spec _ _ _) rfl ?_
    exact h7
  clear_value x8
  extract_lets -underBinder -merge -useContext +onlyGivenNames x10
  have h11 : Spec 0xb00c1c00000000000000000000000022000000000000000a0000000000000000042000 a0 x10 := by
    refine Spec.step (State.count_spec _ _ _) rfl ?_
    exact h9
  clear_value x10
  extract_lets -underBinder -merge -useContext +onlyGivenNames x12
  have h13 : Spec 0xb00c1c00000000000000000000000022000000000000000a0000000000000000042000 a0 x12 := by
    refine Spec.ite ?_ ?_
    · refine Spec.step (State.count_spec _ _ _) rfl ?_
      exact h11
    · exact h11
  clear_value x12
  extract_lets -underBinder -merge -useContext +onlyGivenNames x14
  have h15 : Spec 0xb00c1c00000000000000000000000022000000000000000a0000000000000000042000 a0 x14 := by
    refine Spec.ite ?_ ?_
    · exact h13
    · refine Spec.step (State.modPm_spec _ _ _) rfl ?_
      exact h13
  clear_value x14
  refine Spec.step (State.fecCheck_spec _ _ _) rfl ?_
  exact h15

theorem State.blockTime_spec : ∀ a0 a1 a2, Spec 0xb00c1c00000000000000000000000022000000000000000a0000000000000000043000 a0 (State.blockTime a0 a1 a2) := by
  intro a0 a1 a2
  delta State.blockTime
  extract_lets -underBinder -merge -useContext +onlyGivenNames x0
  clear_value x0
  extract_lets -underBinder -merge -useContext +onlyGivenNames x1
  clear_value x1
  extract_lets -underBinder -merge -useContext +onlyGivenNames x2
  clear_value x2
  extract_lets -underBinder -merge -useContext +onlyGivenNames x3
  have h4 : Spec 0xb00c1c00000000000000000000000022000000000000000a0000000000000000043000 a0 x3 := by
    refine Spec.ite ?_ ?_
    · refine Spec.step (State.modFec_spec _ _ _) rfl ?_
      exact Spec.refl
    · exact Spec.refl
  clear_value x3
  extract_lets -underBinder -merge -useContext +onlyGivenNames x5
  clear_value x5
  extract_lets -underBinder -merge -useContext +onlyGivenNames x6
  have h7 : Spec 0xb00c1c00000000000000000000000022000000000000000a0000000000000000043000 a0 x6 := by
    refine Spec.step (State.fecArrive_spec _ _ _) rfl ?_
    exact h4
  clear_value x6
  extract_lets -underBinder -merge -useContext +onlyGivenNames x8
  have h9 : Spec 0xb00c1c00000000000000000000000022000000000000000a0000000000000000043000 a0 x8 := by
    refine Spec.ite ?_ ?_
    · refine Spec.step (State.emitInterop_spec _ _ _) rfl ?_
      exact h7
    · exact h7
  clear_value x8
  extract_lets -underBinder -merge -useContext +onlyGivenNames x10
  have h11 : Spec 0xb00c1c00000000000000000000000022000000000000000a0000000000000000043000 a0 x10 := by
    refine Spec.step (State.modFec_spec _ _ _) rfl ?_
    exact h9
  clear_value x10
  refine Spec.ite ?_ ?_
  · refine Spec.step (State.fecPass_spec _ _ _) rfl ?_
    exact h11
  · split
    · extract_lets -underBinder -merge -useContext +onlyGivenNames x12
      clear_value x12
      refine Spec.step (State.fecCount_spec _ _ _ _) rfl ?_
      exact h11

theorem State.posLeave_spec : ∀ a0 a1, Spec 0xb00c1c00000000000000000000000022000000000000000a0000000000000000042000 a0 (State.posLeave a0 a1) := by
  intro a0 a1
  delta State.posLeave
  extract_lets -underBinder -merge -useContext +onlyGivenNames x0
  clear_value x0
  extract_lets -underBinder -merge -useContext +onlyGivenNames x1
  have h2 : Spec 0xb00c1c00000000000000000000000022000000000000000a0000000000000000042000 a0 x1 := by
    refine Spec.step (State.modFec_spec _ _ _) rfl ?_
    exact Spec.refl
  clear_value x1
  split
  · exact Spec.refl
  · refine Spec.ite ?_ ?_
    · refine Spec.step (State.fecPass_spec _ _ _) rfl ?_
      exact h2
    · refine Spec.step (State.fecCount_spec _ _ _ _) rfl ?_
      exact h2

theorem State.posEnter_spec : ∀ a0 a1 a2 a3, Spec 0x100000000000000000000000000000000000000000000000000000000000000000 a0 (State.posEnter a0 a1 a2 a3) := by
  intro a0 a1 a2 a3
  delta State.posEnter
  extract_lets -underBinder -merge -useContext +onlyGivenNames x0
  clear_value x0
  extract_lets -underBinder -merge -useContext +onlyGivenNames x1
  clear_value x1
  extract_lets -underBinder -merge -useContext +onlyGivenNames x2
  clear_value x2
  split
  · refine Spec.step (State.modFec_spec _ _ _) rfl ?_
    exact Spec.refl

theorem State.positionTime_spec : ∀ a0 a1 a2, Spec 0xb00c1c00000000000000000000000022000000000000000a0000000000000000043000 a0 (State.positionTime a0 a1 a2) := by
  intro a0 a1 a2
  delta State.positionTime
  extract_lets -underBinder -merge -useContext +onlyGivenNames x0
  clear_value x0
  extract_lets -underBinder -merge -useContext +onlyGivenNames x1
  have h2 : Spec 0xb00c1c00000000000000000000000022000000000000000a0000000000000000043000 a0 x1 := by
    refine Spec.ite ?_ ?_
    · refine Spec.step (State.modFec_spec _ _ _) rfl ?_
      exact Spec.refl
    · exact Spec.refl
  clear_value x1
  extract_lets -underBinder -merge -useContext +onlyGivenNames x3
  have h4 : Spec 0xb00c1c00000000000000000000000022000000000000000a0000000000000000043000 a0 x3 := by
    refine Spec.step (State.fecArrive_spec _ _ _) rfl ?_
    exact h2
  clear_value x3
  extract_lets -underBinder -merge -useContext +onlyGivenNames x5
  have h6 : Spec 0xb00c1c00000000000000000000000022000000000000000a0000000000000000043000 a0 x5 := by
    refine Spec.ite ?_ ?_
    · refine Spec.step (State.emitSymbols_spec _ _ _) rfl ?_
      exact h4
    · exact h4
  clear_value x5
  extract_lets -underBinder -merge -useContext +onlyGivenNames x7
  have h8 : Spec 0xb00c1c00000000000000000000000022000000000000000a0000000000000000043000 a0 x7 := by
    refine Spec.ite ?_ ?_
    · refine Spec.step (State.posLeave_spec _ _) rfl ?_
      exact h6
    · exact h6
  clear_value x7
  refine Spec.step (State.posEnter_spec _ _ _ _) rfl ?_
  exact h8

theorem State.hotJoin_spec : ∀ a0 a1, Spec 0x80000000000000000000000000000000000000000000000000000000000000000000 a0 (State.hotJoin a0 a1) := by
  intro a0 a1
  delta State.hotJoin
  exact (Spec.set_hk rfl Spec.refl)

theorem State.setDisc_spec : ∀ a0 a1, Spec 0x40000000000000000000000000000 a0 (State.setDisc a0 a1) := by
  intro a0 a1
  delta State.setDisc
  refine Spec.step (State.wr_spec _ _ _ _) rfl ?_
  exact Spec.refl

theorem State.modTgt_spec : ∀ a0 a1 a2, Spec 0x80000000000000000000000000000000000000000000000000000000000000000000 a0 (State.modTgt a0 a1 a2) := by
  intro a0 a1 a2
  delta State.modTgt
  exact (Spec.set_hk rfl Spec.refl)

theorem State.setPresent_spec : ∀ a0 a1 a2, Spec 0x80000000000000000000000000000000000000240000000000000000000000000000 a0 (State.setPresent a0 a1 a2) := by
  intro a0 a1 a2
  delta State.setPresent
  extract_lets -underBinder -merge -useContext +onlyGivenNames x0
  clear_value x0
  extract_lets -underBinder -merge -useContext +onlyGivenNames x1
  clear_value x1
  refine Spec.step (State.modTgt_spec _ _ _) rfl ?_
  refine Spec.wrs_cons ?_
  refine Spec.wrs_cons ?_
  refine Spec.wrs_nil ?_
  refine Spec.step (State.wr_spec _ _ _ _) rfl ?_
  refine Spec.step (State.wr_spec _ _ _ _) rfl ?_
  exact Spec.refl

theorem State.rstdaa_spec : ∀ a0, Spec 0x80000000000000000000000000000000000000240000000000000000000000000000 a0 (State.rstdaa a0) := by
  intro a0
  delta State.rstdaa
  refine Spec.fold _ ?_ ?_
  · intro t0 i1
    try dsimp -zeta only
    refine Spec.ite ?_ ?_
    · refine Spec.step (State.setPresent_spec _ _ _) rfl ?_
      exact Spec.refl
    · exact Spec.refl
  · exact Spec.refl

theorem State.i3cEnable_spec : ∀ a0, Spec 0x80000000000000000000000000000000000000260000000000000000000000000000 a0 (State.i3cEnable a0) := by
  intro a0
  delta State.i3cEnable
  extract_lets -underBinder -merge -useContext +onlyGivenNames x0
  have h1 : Spec 0x80000000000000000000000000000000000000260000000000000000000000000000 a0 x0 := by
    refine Spec.step (State.wr_spec _ _ _ _) rfl ?_
    exact Spec.refl
  clear_value x0
  refine Spec.ite ?_ ?_
  · refine Spec.step (State.setDisc_spec _ _) rfl ?_
    refine Spec.step (State.hotJoin_spec _ _) rfl ?_
    refine Spec.step (State.rstdaa_spec _) rfl ?_
    exact h1
  · exact h1

theorem State.i3cDisable_spec : ∀ a0, Spec 0x80000000000000000000000000000000000000060000000000000000000000000000 a0 (State.i3cDisable a0) := by
  intro a0
  delta State.i3cDisable
  extract_lets -underBinder -merge -useContext +onlyGivenNames x0
  have h1 : Spec 0x80000000000000000000000000000000000000060000000000000000000000000000 a0 x0 := by
    refine Spec.step (State.wr_spec _ _ _ _) rfl ?_
    exact Spec.refl
  clear_value x0
  refine Spec.ite ?_ ?_
  · exact h1
  · refine Spec.step (State.setDisc_spec _ _) rfl ?_
    refine Spec.step (State.hotJoin_spec _ _) rfl ?_
    exact h1

theorem State.discStart_spec : ∀ a0, Spec 0x80000000000000000000000000000000000000240000000000000000000000000000 a0 (State.discStart a0) := by
  intro a0
  delta State.discStart
  refine Spec.step (State.setDisc_spec _ _) rfl ?_
  refine Spec.step (State.wr_spec _ _ _ _) rfl ?_
  refine Spec.step (State.hotJoin_spec _ _) rfl ?_
  refine Spec.step (State.rstdaa_spec _) rfl ?_
  exact Spec.refl

theorem State.i3cRescan_spec : ∀ a0, Spec 0x80000000000000000000000000000000000000240000000000000000000000000000 a0 (State.i3cRescan a0) := by
  intro a0
  delta State.i3cRescan
  refine Spec.ite ?_ ?_
  · refine Spec.step (State.discStart_spec _) rfl ?_
    exact Spec.refl
  · exact Spec.refl

theorem State.restart_spec : ∀ a0, Spec 0xb00c0c00000000000000000000000022000000000400008a0000000000000000000000 a0 (State.restart a0) := by
  intro a0
  delta State.restart
  extract_lets -underBinder -merge -useContext +onlyGivenNames x0
  clear_value x0
  extract_lets -underBinder -merge -useContext +onlyGivenNames x1
  have h2 : Spec 0xb00c0c00000000000000000000000022000000000400008a0000000000000000000000 a0 x1 := by
    refine Spec.step (State.wr_spec _ _ _ _) rfl ?_
    exact Spec.refl
  clear_value x1
  refine Spec.ite ?_ ?_
  · refine Spec.step (State.raiseReg_spec _ _ _ _) rfl ?_
    refine Spec.step (State.setDisc_spec _ _) rfl ?_
    exact h2
  · refine Spec.step (State.setDisc_spec _ _) rfl ?_
    exact h2

theorem execI3cRoundAbort_spec : ∀ a0, SpecO 0xb00c0c00000000000000000000000022000000000400008a0000000000000000000000 a0 (execI3cRoundAbort a0) := by
  intro a0
  delta execI3cRoundAbort
  refine SpecO.ok ?_
  refine Spec.ite ?_ ?_
  · refine Spec.step (State.restart_spec _) rfl ?_
    refine Spec.step (State.count_spec _ _ _) rfl ?_
    exact Spec.refl
  · exact Spec.refl

theorem execI3cSettleTimeout_spec : ∀ a0, SpecO 0xb00c0c00000000000000000000000022000000000400008a0000000000000000000000 a0 (execI3cSettleTimeout a0) := by
  intro a0
  delta execI3cSettleTimeout
  refine SpecO.ok ?_
  refine Spec.ite ?_ ?_
  · refine Spec.step (State.raiseReg_spec _ _ _ _) rfl ?_
    refine Spec.step (State.setDisc_spec _ _) rfl ?_
    refine Spec.step (State.wr_spec _ _ _ _) rfl ?_
    exact Spec.refl
  · exact Spec.refl

theorem execI3cNoTarget_spec : ∀ a0, SpecO 0x80000000000000000000000000000000000000040000000000000000000000000000 a0 (execI3cNoTarget a0) := by
  intro a0
  delta execI3cNoTarget
  refine SpecO.ok ?_
  refine Spec.ite ?_ ?_
  · refine Spec.step (State.setDisc_spec _ _) rfl ?_
    refine Spec.step (State.hotJoin_spec _ _) rfl ?_
    exact Spec.refl
  · exact Spec.refl

theorem State.tgtPoll_spec : ∀ a0 a1 a2, Spec 0xb08c0c00000000000000000000000022000000002400008a0000000000000000000000 a0 (State.tgtPoll a0 a1 a2) := by
  intro a0 a1 a2
  delta State.tgtPoll
  refine Spec.ite ?_ ?_
  · refine Spec.step (State.modTgt_spec _ _ _) rfl ?_
    exact Spec.refl
  · refine Spec.ite ?_ ?_
    · refine Spec.step (State.modTgt_spec _ _ _) rfl ?_
      exact Spec.refl
    · extract_lets -underBinder -merge -useContext +onlyGivenNames x0
      have h1 : Spec 0xb08c0c00000000000000000000000022000000002400008a0000000000000000000000 a0 x0 := by
        refine Spec.step (State.modTgt_spec _ _ _) rfl ?_
        exact Spec.refl
      clear_value x0
      refine Spec.ite ?_ ?_
      · refine Spec.step (State.raiseReg_spec _ _ _ _) rfl ?_
        refine Spec.step (State.setPresent_spec _ _ _) rfl ?_
        exact h1
      · exact h1

theorem execI3cStatusPoll_spec : ∀ a0 a1, SpecO 0xb08c0c00000000000000000000000022000000002400008a0000000000000000000000 a1 (execI3cStatusPoll a0 a1) := by
  intro a0 a1
  delta execI3cStatusPoll
  refine SpecO.ok ?_
  refine Spec.ite ?_ ?_
  · refine Spec.fold _ ?_ ?_
    · intro t0 i1
      try dsimp -zeta only
      refine Spec.step (State.tgtPoll_spec _ _ _) rfl ?_
      exact Spec.refl
    · exact Spec.refl
  · exact Spec.refl

theorem execI3cXfer_spec : ∀ a0 a1 a2, SpecO 0xb00c0c00000000000000000000000022000000000000000a0000000000000000000000 a2 (execI3cXfer a0 a1 a2) := by
  intro a0 a1 a2
  delta execI3cXfer
  refine SpecO.ok ?_
  extract_lets -underBinder -merge -useContext +onlyGivenNames x0
  have h1 : Spec 0xb00c0c00000000000000000000000022000000000000000a0000000000000000000000 a2 x0 := by
    refine Spec.step (State.settle_spec _ _ _) rfl ?_
    exact Spec.refl
  clear_value x0
  split
  · exact h1
  · extract_lets -underBinder -merge -useContext +onlyGivenNames x2
    have h3 : Spec 0xb00c0c00000000000000000000000022000000000000000a0000000000000000000000 a2 x2 := by
      refine Spec.step (State.popDesc_spec _ _) rfl ?_
      exact h1
    clear_value x2
    extract_lets -underBinder -merge -useContext +onlyGivenNames x4
    clear_value x4
    refine Spec.ite ?_ ?_
    · refine Spec.step (State.refuse_spec _ _ _) rfl ?_
      refine Spec.step (State.count_spec _ _ _) rfl ?_
      exact h3
    · refine Spec.ite ?_ ?_
      · refine Spec.step (State.refuse_spec _ _ _) rfl ?_
        exact h3
      · refine Spec.ite ?_ ?_
        · refine Spec.step (State.done_spec _ _ _ _ _) rfl ?_
          exact h3
        · exact (Spec.set_host rfl h3)

theorem execI3cTableFull_spec : ∀ a0, SpecO 0xb00c0c00000000000000000000000022000000000400008a0000000000000000000000 a0 (execI3cTableFull a0) := by
  intro a0
  delta execI3cTableFull
  refine SpecO.ok ?_
  refine Spec.ite ?_ ?_
  · refine Spec.step (State.setDisc_spec _ _) rfl ?_
    refine Spec.step (State.raiseReg_spec _ _ _ _) rfl ?_
    exact Spec.refl
  · exact Spec.refl

theorem State.xferGone_spec : ∀ a0 a1, Spec 0x8000000000000000000000000000000000000000000000000000000000000000000 a0 (State.xferGone a0 a1) := by
  intro a0 a1
  delta State.xferGone
  exact (Spec.set_host rfl Spec.refl)

theorem State.xferEnd_spec : ∀ a0 a1 a2, Spec 0x200c000000000000000000000000000000000000000000000000000000000000000000 a0 (State.xferEnd a0 a1 a2) := by
  intro a0 a1 a2
  delta State.xferEnd
  extract_lets -underBinder -merge -useContext +onlyGivenNames x0
  clear_value x0
  extract_lets -underBinder -merge -useContext +onlyGivenNames x1
  clear_value x1
  extract_lets -underBinder -merge -useContext +onlyGivenNames x2
  clear_value x2
  extract_lets -underBinder -merge -useContext +onlyGivenNames x3
  clear_value x3
  extract_lets -underBinder -merge -useContext +onlyGivenNames x4
  clear_value x4
  extract_lets -underBinder -merge -useContext +onlyGivenNames x5
  clear_value x5
  extract_lets -underBinder -merge -useContext +onlyGivenNames x6
  have h7 : Spec 0x200c000000000000000000000000000000000000000000000000000000000000000000 a0 x6 := by
    refine Spec.step (State.xferGone_spec _ _) rfl ?_
    exact Spec.refl
  clear_value x6
  refine Spec.ite ?_ ?_
  · refine Spec.step (State.refuse_spec _ _ _) rfl ?_
    exact h7
  · extract_lets -underBinder -merge -useContext +onlyGivenNames x8
    have h9 : Spec 0x200c000000000000000000000000000000000000000000000000000000000000000000 a0 x8 := by
      refine Spec.ite ?_ ?_
      · exact h7
      · refine Spec.step (State.emit_spec _ _) rfl ?_
        exact h7
    clear_value x8
    extract_lets -underBinder -merge -useContext +onlyGivenNames x10
    have h11 : Spec 0x200c000000000000000000000000000000000000000000000000000000000000000000 a0 x10 := by
      refine Spec.ite ?_ ?_
      · exact h9
      · refine Spec.step (State.emit_spec _ _) rfl ?_
        exact h9
    clear_value x10
    refine Spec.step (State.done_spec _ _ _ _ _) rfl ?_
    exact h11

theorem execI3cEntdaaRoundEnd_spec : ∀ a0 a1 a2 a3, SpecO 0x800000000000000000000000000000000000003c0000000000000000000000000000 a3 (execI3cEntdaaRoundEnd a0 a1 a2 a3) := by
  intro a0 a1 a2 a3
  delta execI3cEntdaaRoundEnd
  refine SpecO.ok ?_
  refine Spec.ite ?_ ?_
  · exact Spec.refl
  · split
    · exact Spec.refl
    · refine Spec.step (State.setPresent_spec _ _ _) rfl ?_
      refine Spec.wrs_cons ?_
      refine Spec.wrs_cons ?_
      refine Spec.wrs_cons ?_
      refine Spec.wrs_cons ?_
      refine Spec.wrs_cons ?_
      refine Spec.wrs_cons ?_
      refine Spec.wrs_nil ?_
      refine Spec.step (State.wr_spec _ _ _ _) rfl ?_
      refine Spec.step (State.wr_spec _ _ _ _) rfl ?_
      refine Spec.step (State.wr_spec _ _ _ _) rfl ?_
      refine Spec.step (State.wr_spec _ _ _ _) rfl ?_
      refine Spec.step (State.wr_spec _ _ _ _) rfl ?_
      refine Spec.step (State.wr_spec _ _ _ _) rfl ?_
      exact Spec.refl

theorem execI3cHotJoin_spec : ∀ a0, SpecO 0xb08c0c00000000000000000000000022000000000400008a0000000000000000000000 a0 (execI3cHotJoin a0) := by
  intro a0
  delta execI3cHotJoin
  refine SpecO.ok ?_
  refine Spec.ite ?_ ?_
  · exact Spec.refl
  · refine Spec.ite ?_ ?_
    · refine Spec.step (State.restart_spec _) rfl ?_
      refine Spec.step (State.hotJoin_spec _ _) rfl ?_
      exact Spec.refl
    · refine Spec.ite ?_ ?_
      · refine Spec.step (State.setDisc_spec _ _) rfl ?_
        refine Spec.step (State.hotJoin_spec _ _) rfl ?_
        exact Spec.refl
      · exact Spec.refl

theorem execI3cXferDone_spec : ∀ a0 a1, SpecO 0x200c000000000000000000000000000000000000000000000000000000000000000000 a1 (execI3cXferDone a0 a1) := by
  intro a0 a1
  delta execI3cXferDone
  refine SpecO.ok ?_
  split
  · exact Spec.refl
  · refine Spec.ite ?_ ?_
    · refine Spec.step (State.xferEnd_spec _ _ _) rfl ?_
      exact Spec.refl
    · refine Spec.ite ?_ ?_
      · refine Spec.step (State.xferEnd_spec _ _ _) rfl ?_
        exact Spec.refl
      · exact Spec.refl

theorem execI3cXferTimeout_spec : ∀ a0, SpecO 0xc000000000000000000000000000000000000000000000000000000000000000000 a0 (execI3cXferTimeout a0) := by
  intro a0
  delta execI3cXferTimeout
  refine SpecO.ok ?_
  split
  · exact Spec.refl
  · refine Spec.step (State.done_spec _ _ _ _ _) rfl ?_
    refine Spec.step (State.xferGone_spec _ _) rfl ?_
    exact Spec.refl

end Sys2Proof.Machine
end

