-- ==== Sys2Proof/Laws/Frames09.lean ====
section
/-! SUPPORT. What each operation and each command of the files Machine/Time, RegOps, HostLink can do: one lemma each,
`<name>_spec`, whose first argument is the footprint (Laws/Spec.lean). -/
namespace Sys2Proof.Machine

theorem State.loopOpenWrite_spec : ∀ a0 a1 a2, Spec 0xf04c1e00000000000000000000000022000000000000000a0004002800000000000000 a0 (State.loopOpenWrite a0 a1 a2) := by
  intro a0 a1 a2
  delta State.loopOpenWrite
  refine Spec.ite ?_ ?_
  · refine Spec.step (State.raiseReg_spec _ _ _ _) rfl ?_
    exact Spec.refl
  · extract_lets -underBinder -merge -useContext +onlyGivenNames x0
    have h1 : Spec 0xf04c1e00000000000000000000000022000000000000000a0004002800000000000000 a0 x0 := by
      refine Spec.step (State.wr_spec _ _ _ _) rfl ?_
      exact Spec.refl
    clear_value x0
    refine Spec.ite ?_ ?_
    · refine Spec.step (State.setD0_spec _ _) rfl ?_
      exact h1
    · refine Spec.ite ?_ ?_
      · refine Spec.step (State.d0Resume_spec _) rfl ?_
        exact h1
      · exact h1

theorem State.pstepRun_spec : ∀ a0 a1, Spec 0x40000000000000000000000000000000000000000000000000010000000000000000 a0 (State.pstepRun a0 a1) := by
  intro a0 a1
  delta State.pstepRun
  extract_lets -underBinder -merge -useContext +onlyGivenNames x0
  clear_value x0
  extract_lets -underBinder -merge -useContext +onlyGivenNames x1
  have h2 : Spec 0x40000000000000000000000000000000000000000000000000010000000000000000 a0 x1 := by
    exact (Spec.set_tim rfl Spec.refl)
  clear_value x1
  refine Spec.step (State.wr_spec _ _ _ _) rfl ?_
  exact h2

theorem State.dpllPstep_spec : ∀ a0 a1 a2, Spec 0x40020000000000000000000000000000000000000000000000010000000000000000 a0 (State.dpllPstep a0 a1 a2) := by
  intro a0 a1 a2
  delta State.dpllPstep
  extract_lets -underBinder -merge -useContext +onlyGivenNames x0
  have h1 : Spec 0x40020000000000000000000000000000000000000000000000010000000000000000 a0 x0 := by
    refine Spec.step (State.pstepRun_spec _ _) rfl ?_
    exact Spec.refl
  clear_value x0
  extract_lets -underBinder -merge -useContext +onlyGivenNames x2
  clear_value x2
  refine Spec.step (State.clkRefresh_spec _) rfl ?_
  refine Spec.step (State.wr_spec _ _ _ _) rfl ?_
  exact (Spec.set_tim rfl h1)

theorem State.todSet_spec : ∀ a0, Spec 0x40000000000000000000000000000000000000000000000000002000000000000000 a0 (State.todSet a0) := by
  intro a0
  delta State.todSet
  extract_lets -underBinder -merge -useContext +onlyGivenNames x0
  have h1 : Spec 0x40000000000000000000000000000000000000000000000000002000000000000000 a0 x0 := by
    refine Spec.step (State.setTrace_spec _ _) rfl ?_
    exact Spec.refl
  clear_value x0
  extract_lets -underBinder -merge -useContext +onlyGivenNames x2
  clear_value x2
  exact (Spec.set_tim rfl h1)

theorem State.measured_spec : ∀ a0 a1, Spec 0x40000000000000000000000000000000000000000000000000000000000000000000 a0 (State.measured a0 a1) := by
  intro a0 a1
  delta State.measured
  refine Spec.step (State.modRef_spec _ _ _) rfl ?_
  exact Spec.refl

theorem execPpsEdge_spec : ∀ a0 a1 a2, SpecO 0x40000000000000000000000000000000000000000000000000000000000000000000 a2 (execPpsEdge a0 a1 a2) := by
  intro a0 a1 a2
  delta execPpsEdge
  extract_lets -underBinder -merge -useContext +onlyGivenNames x0
  have h1 : Spec 0x40000000000000000000000000000000000000000000000000000000000000000000 a2 x0 := by
    refine Spec.step (State.atTod_spec _ _) rfl ?_
    exact Spec.refl
  clear_value x0
  refine SpecO.ok ?_
  refine Spec.ite ?_ ?_
  · extract_lets -underBinder -merge -useContext +onlyGivenNames x2
    clear_value x2
    refine Spec.step (State.measured_spec _ _) rfl ?_
    refine Spec.step (State.modRef_spec _ _ _) rfl ?_
    exact h1
  · exact h1

theorem execD0Lock_spec : ∀ a0 a1, SpecO 0xf04c1e00000000000000000000000022000000000000000a0004012000000000000000 a1 (execD0Lock a0 a1) := by
  intro a0 a1
  delta execD0Lock
  refine SpecO.ok ?_
  refine Spec.ite ?_ ?_
  · refine Spec.ite ?_ ?_
    · refine Spec.step (State.setD0_spec _ _) rfl ?_
      exact Spec.refl
    · exact Spec.refl
  · refine Spec.ite ?_ ?_
    · refine Spec.step (State.wr_spec _ _ _ _) rfl ?_
      exact Spec.refl
    · exact Spec.refl

theorem State.ttMean_spec : ∀ a0, Spec 0x40000000000000000000000000000000000000000000000000e00000000000000000 a0 (State.ttMean a0) := by
  intro a0
  delta State.ttMean
  extract_lets -underBinder -merge -useContext +onlyGivenNames x0
  clear_value x0
  extract_lets -underBinder -merge -useContext +onlyGivenNames x1
  have h2 : Spec 0x40000000000000000000000000000000000000000000000000e00000000000000000 a0 x1 := by
    refine Spec.step (State.wr_spec _ _ _ _) rfl ?_
    exact Spec.refl
  clear_value x1
  extract_lets -underBinder -merge -useContext +onlyGivenNames x3
  have h4 : Spec 0x40000000000000000000000000000000000000000000000000e00000000000000000 a0 x3 := by
    refine Spec.step (State.wrInt_spec _ _ _ _) rfl ?_
    exact h2
  clear_value x3
  extract_lets -underBinder -merge -useContext +onlyGivenNames x5
  clear_value x5
  extract_lets -underBinder -merge -useContext +onlyGivenNames x6
  have h7 : Spec 0x40000000000000000000000000000000000000000000000000e00000000000000000 a0 x6 := by
    exact (Spec.set_tim rfl h4)
  clear_value x6
  refine Spec.ite ?_ ?_
  · exact h7
  · extract_lets -underBinder -merge -useContext +onlyGivenNames x8
    clear_value x8
    extract_lets -underBinder -merge -useContext +onlyGivenNames x9
    have h10 : Spec 0x40000000000000000000000000000000000000000000000000e00000000000000000 a0 x9 := by
      exact (Spec.set_tim rfl h7)
    clear_value x9
    refine Spec.step (State.measured_spec _ _) rfl ?_
    refine Spec.step (State.wrInt_spec _ _ _ _) rfl ?_
    exact h10

theorem State.timeSlew_spec : ∀ a0, Spec 0x4040000000000000000000000000000000000000000000000000000000000000000000 a0 (State.timeSlew a0) := by
  intro a0
  delta State.timeSlew
  split
  · exact (Spec.set_tim rfl Spec.refl)
  · refine Spec.ite ?_ ?_
    · exact (Spec.set_tim rfl Spec.refl)
    · extract_lets -underBinder -merge -useContext +onlyGivenNames x0
      clear_value x0
      refine Spec.step (State.tick_spec _) rfl ?_
      exact (Spec.set_tim rfl Spec.refl)

theorem State.learnStep_spec : ∀ a0, Spec 0x40000000000000000000000000000000000000000000000000000000000000000000 a0 (State.learnStep a0) := by
  intro a0
  delta State.learnStep
  refine Spec.ite ?_ ?_
  · extract_lets -underBinder -merge -useContext +onlyGivenNames x0
    clear_value x0
    extract_lets -underBinder -merge -useContext +onlyGivenNames x1
    clear_value x1
    exact (Spec.set_tim rfl Spec.refl)
  · exact (Spec.set_tim rfl Spec.refl)

theorem State.secondPass_spec : ∀ a0, Spec 0x4040000000000000000000000000000000000000000000000000010000000000000000 a0 (State.secondPass a0) := by
  intro a0
  delta State.secondPass
  extract_lets -underBinder -merge -useContext +onlyGivenNames x0
  clear_value x0
  extract_lets -underBinder -merge -useContext +onlyGivenNames x1
  clear_value x1
  extract_lets -underBinder -merge -useContext +onlyGivenNames x2
  clear_value x2
  extract_lets -underBinder -merge -useContext +onlyGivenNames x3
  have h4 : Spec 0x4040000000000000000000000000000000000000000000000000010000000000000000 a0 x3 := by
    exact (Spec.set_tim rfl Spec.refl)
  clear_value x3
  extract_lets -underBinder -merge -useContext +onlyGivenNames x5
  have h6 : Spec 0x4040000000000000000000000000000000000000000000000000010000000000000000 a0 x5 := by
    refine Spec.step (State.learnStep_spec _) rfl ?_
    refine Spec.ite ?_ ?_
    · refine Spec.step (State.tick_spec _) rfl ?_
      exact h4
    · exact h4
  clear_value x5
  refine Spec.fold _ ?_ ?_
  · intro t7 i8
    try dsimp -zeta only
    extract_lets -underBinder -merge -useContext +onlyGivenNames x9
    have h10 : Spec 0x4040000000000000000000000000000000000000000000000000010000000000000000 t7 x9 := by
      refine Spec.step (State.pstepRun_spec _ _) rfl ?_
      exact Spec.refl
    clear_value x9
    refine Spec.ite ?_ ?_
    · extract_lets -underBinder -merge -useContext +onlyGivenNames x11
      clear_value x11
      exact (Spec.set_tim rfl h10)
    · exact h10
  · exact h6

theorem execModelReady_spec : ∀ a0 a1, SpecO 0x40000000000000000000000000000000000000000000000000002000000000000000 a1 (execModelReady a0 a1) := by
  intro a0 a1
  delta execModelReady
  refine SpecO.ok ?_
  refine Spec.ite ?_ ?_
  · extract_lets -underBinder -merge -useContext +onlyGivenNames x0
    have h1 : Spec 0x40000000000000000000000000000000000000000000000000002000000000000000 a1 x0 := by
      refine Spec.step (State.wr_spec _ _ _ _) rfl ?_
      exact Spec.refl
    clear_value x0
    exact (Spec.set_tim rfl h1)
  · exact Spec.refl

theorem execTraceAcquire_spec : ∀ a0 a1, SpecO 0x40000000000000000000000000000000000000000000000000002000000000000000 a1 (execTraceAcquire a0 a1) := by
  intro a0 a1
  delta execTraceAcquire
  refine SpecO.ok ?_
  extract_lets -underBinder -merge -useContext +onlyGivenNames x0
  clear_value x0
  refine Spec.ite ?_ ?_
  · refine Spec.step (State.setTrace_spec _ _) rfl ?_
    exact Spec.refl
  · exact Spec.refl

theorem execTodPhaseStep_spec : ∀ a0 a1, SpecO 0xb04c0c00000000000000000000000022000000000000000a0004002000000000000000 a1 (execTodPhaseStep a0 a1) := by
  intro a0 a1
  delta execTodPhaseStep
  refine SpecO.ok ?_
  refine Spec.ite ?_ ?_
  · refine Spec.step (State.wrInt_spec _ _ _ _) rfl ?_
    refine Spec.step (State.stepTod_spec _ _) rfl ?_
    exact Spec.refl
  · exact Spec.refl

theorem execHoldExpire_spec : ∀ a0, SpecO 0xb04c0c00000000000000000000000022000000000000000a0004002000000000000000 a0 (execHoldExpire a0) := by
  intro a0
  delta execHoldExpire
  refine SpecO.ok ?_
  refine Spec.ite ?_ ?_
  · refine Spec.step (State.raiseReg_spec _ _ _ _) rfl ?_
    refine Spec.step (State.setTrace_spec _ _) rfl ?_
    exact Spec.refl
  · exact Spec.refl

theorem execModelSave_spec : ∀ a0 a1, SpecO 0x440000000000000000000000000000000000000000000000000000000000000000000 a1 (execModelSave a0 a1) := by
  intro a0 a1
  delta execModelSave
  refine SpecO.ok ?_
  refine Spec.ite ?_ ?_
  · extract_lets -underBinder -merge -useContext +onlyGivenNames x0
    clear_value x0
    exact (Spec.set_cel rfl (Spec.set_tim rfl Spec.refl))
  · exact Spec.refl

theorem execD0Unlock_spec : ∀ a0 a1, SpecO 0xf04c1e00000000000000000000000022000000000000000a0004012000000000000000 a1 (execD0Unlock a0 a1) := by
  intro a0 a1
  delta execD0Unlock
  refine SpecO.ok ?_
  refine Spec.ite ?_ ?_
  · refine Spec.ite ?_ ?_
    · refine Spec.step (State.setD0_spec _ _) rfl ?_
      exact Spec.refl
    · exact Spec.refl
  · refine Spec.ite ?_ ?_
    · refine Spec.step (State.wr_spec _ _ _ _) rfl ?_
      exact Spec.refl
    · exact Spec.refl

theorem State.slewDone_spec : ∀ a0, Spec 0x40000000000000000000000000000000000000000000000000000000000000000000 a0 (State.slewDone a0) := by
  intro a0
  delta State.slewDone
  exact (Spec.set_tim rfl Spec.refl)

theorem State.refOffset_spec : ∀ a0 a1 a2, Spec 0xb04c1e00000000000000000000000022000000000000000a0004000400000000000000 a0 (State.refOffset a0 a1 a2) := by
  intro a0 a1 a2
  delta State.refOffset
  extract_lets -underBinder -merge -useContext +onlyGivenNames x0
  have h1 : Spec 0xb04c1e00000000000000000000000022000000000000000a0004000400000000000000 a0 x0 := by
    refine Spec.step (State.wrInt_spec _ _ _ _) rfl ?_
    refine Spec.step (State.modRef_spec _ _ _) rfl ?_
    exact Spec.refl
  clear_value x0
  extract_lets -underBinder -merge -useContext +onlyGivenNames x2
  have h3 : Spec 0xb04c1e00000000000000000000000022000000000000000a0004000400000000000000 a0 x2 := by
    refine Spec.ite ?_ ?_
    · refine Spec.step (State.wr_spec _ _ _ _) rfl ?_
      exact h1
    · exact h1
  clear_value x2
  refine Spec.step (State.clampRefresh_spec _) rfl ?_
  exact h3

theorem execPstepDone_spec : ∀ a0 a1, SpecO 0x40020000000000000000000000000000000000000000000000010000000000000000 a1 (execPstepDone a0 a1) := by
  intro a0 a1
  delta execPstepDone
  extract_lets -underBinder -merge -useContext +onlyGivenNames x0
  clear_value x0
  extract_lets -underBinder -merge -useContext +onlyGivenNames x1
  clear_value x1
  extract_lets -underBinder -merge -useContext +onlyGivenNames x2
  have h3 : Spec 0x40020000000000000000000000000000000000000000000000010000000000000000 a1 x2 := by
    exact (Spec.set_tim rfl Spec.refl)
  clear_value x2
  refine SpecO.ok ?_
  refine Spec.step (State.clkRefresh_spec _) rfl ?_
  refine Spec.step (State.wr_spec _ _ _ _) rfl ?_
  exact h3

theorem execRefQualify_spec : ∀ a0 a1 a2 a3, SpecO 0xf04c1e00000000000000000000000022000000000000000a0004012400000000000000 a3 (execRefQualify a0 a1 a2 a3) := by
  intro a0 a1 a2 a3
  delta execRefQualify
  refine SpecO.ok ?_
  refine Spec.ite ?_ ?_
  · exact Spec.refl
  · extract_lets -underBinder -merge -useContext +onlyGivenNames x0
    have h1 : Spec 0xf04c1e00000000000000000000000022000000000000000a0004012400000000000000 a3 x0 := by
      refine Spec.step (State.refOffset_spec _ _ _) rfl ?_
      refine Spec.step (State.qualRefresh_spec _) rfl ?_
      exact Spec.refl
    clear_value x0
    refine Spec.ite ?_ ?_
    · refine Spec.step (State.wr_spec _ _ _ _) rfl ?_
      exact h1
    · refine Spec.ite ?_ ?_
      · refine Spec.step (State.wr_spec _ _ _ _) rfl ?_
        exact h1
      · extract_lets -underBinder -merge -useContext +onlyGivenNames x2
        have h3 : Spec 0xf04c1e00000000000000000000000022000000000000000a0004012400000000000000 a3 x2 := by
          refine Spec.wrs_cons ?_
          refine Spec.wrs_cons ?_
          refine Spec.wrs_cons ?_
          refine Spec.wrs_nil ?_
          refine Spec.step (State.wr_spec _ _ _ _) rfl ?_
          refine Spec.step (State.wr_spec _ _ _ _) rfl ?_
          refine Spec.step (State.wr_spec _ _ _ _) rfl ?_
          exact h1
        clear_value x2
        refine Spec.step (State.timSelect_spec _) rfl ?_
        refine Spec.step (State.raiseReg_spec _ _ _ _) rfl ?_
        refine Spec.step (State.modRef_spec _ _ _) rfl ?_
        exact h3

theorem State.pendingTod_spec : ∀ (t : State) (n : Nat), Spec 0xf04c1e00000000000000000000000022000400000000000a0004e12400000000000000 t
    (({ t with tim := { t.tim with setPend := none } }.stepTod n).setTrace 0) := fun _ _ =>
  Spec.step (State.setTrace_spec _ _) rfl (Spec.step (State.stepTod_spec _ _) rfl (Spec.set_tim rfl Spec.refl))

theorem execTodSecond_spec : ∀ a0, SpecO 0xf04c1e00000000000000000000000022000400000000000a0004e12400000000000000 a0 (execTodSecond a0) := by
  intro a0
  delta execTodSecond
  extract_lets -underBinder -merge -useContext +onlyGivenNames x0
  clear_value x0
  extract_lets -underBinder -merge -useContext +onlyGivenNames x1
  have h2 : Spec 0xf04c1e00000000000000000000000022000400000000000a0004e12400000000000000 a0 x1 := by
    refine Spec.step (State.atTod_spec _ _) rfl ?_
    refine Spec.step (State.slewDone_spec _) rfl ?_
    exact Spec.refl
  clear_value x1
  extract_lets -underBinder -merge -useContext +onlyGivenNames x3
  have h4 : Spec 0xf04c1e00000000000000000000000022000400000000000a0004e12400000000000000 a0 x3 := by
    refine Spec.ite ?_ ?_
    · refine Spec.step (State.raiseReg_spec _ _ _ _) rfl ?_
      exact h2
    · exact h2
  clear_value x3
  extract_lets -underBinder -merge -useContext +onlyGivenNames x5
  have h6 : Spec 0xf04c1e00000000000000000000000022000400000000000a0004e12400000000000000 a0 x5 := by
    refine Spec.step (State.wr_spec _ _ _ _) rfl ?_
    exact h4
  clear_value x5
  extract_lets -underBinder -merge -useContext +onlyGivenNames x7
  have h8 : Spec 0xf04c1e00000000000000000000000022000400000000000a0004e12400000000000000 a0 x7 := by
    unfold x7
    split
    · exact h6
    · exact h6.trans (State.pendingTod_spec _ _)
  clear_value x7
  extract_lets -underBinder -merge -useContext +onlyGivenNames x9
  have h10 : Spec 0xf04c1e00000000000000000000000022000400000000000a0004e12400000000000000 a0 x9 := by
    refine Spec.ite ?_ ?_
    · refine Spec.step (State.emit_spec _ _) rfl ?_
      exact h8
    · exact h8
  clear_value x9
  extract_lets -underBinder -merge -useContext +onlyGivenNames x11
  have h12 : Spec 0xf04c1e00000000000000000000000022000400000000000a0004e12400000000000000 a0 x11 := by
    refine Spec.step (State.secondPass_spec _) rfl ?_
    refine Spec.step (State.ttMean_spec _) rfl ?_
    refine Spec.step (State.ttSecond_spec _) rfl ?_
    exact h10
  clear_value x11
  extract_lets -underBinder -merge -useContext +onlyGivenNames x13
  have h14 : Spec 0xf04c1e00000000000000000000000022000400000000000a0004e12400000000000000 a0 x13 := by
    unfold x13
    split
    · exact h12
    · refine Spec.step (State.wrInt_spec _ _ _ _) rfl ?_
      exact h12
  clear_value x13
  refine SpecO.ok ?_
  refine Spec.step (State.clampRefresh_spec _) rfl ?_
  refine Spec.step (State.timeSlew_spec _) rfl ?_
  exact h14

theorem execRefFail_spec : ∀ a0 a1 a2, SpecO 0xf04c1e00000000000000000000000022000000000000000a0004012400000000000000 a2 (execRefFail a0 a1 a2) := by
  intro a0 a1 a2
  delta execRefFail
  refine SpecO.ok ?_
  refine Spec.ite ?_ ?_
  · exact Spec.refl
  · extract_lets -underBinder -merge -useContext +onlyGivenNames x0
    have h1 : Spec 0xf04c1e00000000000000000000000022000000000000000a0004012400000000000000 a2 x0 := by
      refine Spec.step (State.qualRefresh_spec _) rfl ?_
      exact Spec.refl
    clear_value x0
    extract_lets -underBinder -merge -useContext +onlyGivenNames x2
    have h3 : Spec 0xf04c1e00000000000000000000000022000000000000000a0004012400000000000000 a2 x2 := by
      unfold x2
      split
      · refine Spec.step (State.refOffset_spec _ _ _) rfl ?_
        exact h1
      · exact h1
    clear_value x2
    refine Spec.ite ?_ ?_
    · refine Spec.step (State.refFail_spec _ _ _) rfl ?_
      exact h3
    · exact h3

theorem State.txCtrlWrite_spec : ∀ a0 a1 a2 a3, Spec 0xf11c9e00000000000000000000000022000000050000000a0000000000200000300002 a0 (State.txCtrlWrite a0 a1 a2 a3) := by
  intro a0 a1 a2 a3
  delta State.txCtrlWrite
  extract_lets -underBinder -merge -useContext +onlyGivenNames x0
  clear_value x0
  extract_lets -underBinder -merge -useContext +onlyGivenNames x1
  have h2 : Spec 0xf11c9e00000000000000000000000022000000050000000a0000000000200000300002 a0 x1 := by
    refine Spec.step (State.writeRw_spec _ _ _ _ _) rfl ?_
    exact Spec.refl
  clear_value x1
  refine Spec.step (State.txRefresh_spec _ _) rfl ?_
  refine Spec.ite ?_ ?_
  · exact h2
  · refine Spec.step (State.addShadow_spec _ _ _ _ _) rfl ?_
    exact h2

theorem State.sigThrWrite_spec : ∀ a0 a1 a2, Spec 0x100000000000000000000000000000000000000000000000000000000000000010 a0 (State.sigThrWrite a0 a1 a2) := by
  intro a0 a1 a2
  delta State.sigThrWrite
  refine Spec.step (State.modAcq_spec _ _ _) rfl ?_
  refine Spec.step (State.writeRw_spec _ _ _ _ _) rfl ?_
  exact Spec.refl

theorem State.ciphCtrlWrite_spec : ∀ a0 a1 a2 a3, Spec 0xb00c1c00000000000000000000000022000000000000000a0090000000000000000000 a0 (State.ciphCtrlWrite a0 a1 a2 a3) := by
  intro a0 a1 a2 a3
  delta State.ciphCtrlWrite
  extract_lets -underBinder -merge -useContext +onlyGivenNames x0
  clear_value x0
  extract_lets -underBinder -merge -useContext +onlyGivenNames x1
  have h2 : Spec 0xb00c1c00000000000000000000000022000000000000000a0090000000000000000000 a0 x1 := by
    refine Spec.step (State.writeRw_spec _ _ _ _ _) rfl ?_
    exact Spec.refl
  clear_value x1
  extract_lets -underBinder -merge -useContext +onlyGivenNames x3
  have h4 : Spec 0xb00c1c00000000000000000000000022000000000000000a0090000000000000000000 a0 x3 := by
    refine Spec.ite ?_ ?_
    · exact h2
    · refine Spec.step (State.addShadow_spec _ _ _ _ _) rfl ?_
      exact h2
  clear_value x3
  refine Spec.ite ?_ ?_
  · refine Spec.step (State.kpFlip_spec _ _ _) rfl ?_
    exact h4
  · exact h4

theorem State.grpCtrlWrite_spec : ∀ a0 a1 a2, Spec 0xb00d0c00000000000000000000000022000000000000000a0000000000003c00000000 a0 (State.grpCtrlWrite a0 a1 a2) := by
  intro a0 a1 a2
  delta State.grpCtrlWrite
  extract_lets -underBinder -merge -useContext +onlyGivenNames x0
  have h1 : Spec 0xb00d0c00000000000000000000000022000000000000000a0000000000003c00000000 a0 x0 := by
    refine Spec.step (State.writeRw_spec _ _ _ _ _) rfl ?_
    exact Spec.refl
  clear_value x0
  refine Spec.ite ?_ ?_
  · exact h1
  · refine Spec.step (State.binsWrite_spec _ _ _) rfl ?_
    exact h1

theorem State.d0CtrlWrite_spec : ∀ a0 a1 a2, Spec 0xf04c1e00000000000000000000000022000000000000000a0004002800000000000000 a0 (State.d0CtrlWrite a0 a1 a2) := by
  intro a0 a1 a2
  delta State.d0CtrlWrite
  extract_lets -underBinder -merge -useContext +onlyGivenNames x0
  have h1 : Spec 0xf04c1e00000000000000000000000022000000000000000a0004002800000000000000 a0 x0 := by
    refine Spec.step (State.writeRw_spec _ _ _ _ _) rfl ?_
    exact Spec.refl
  clear_value x0
  refine Spec.step (State.loopOpenWrite_spec _ _ _) rfl ?_
  exact h1

theorem State.fwordWrite_spec : ∀ a0 a1, Spec 0xb04c1e00000000000000000000000022000000000000000a0004001000000000000000 a0 (State.fwordWrite a0 a1) := by
  intro a0 a1
  delta State.fwordWrite
  extract_lets -underBinder -merge -useContext +onlyGivenNames x0
  have h1 : Spec 0xb04c1e00000000000000000000000022000000000000000a0004001000000000000000 a0 x0 := by
    refine Spec.step (State.writeRw_spec _ _ _ _ _) rfl ?_
    exact Spec.refl
  clear_value x0
  refine Spec.ite ?_ ?_
  · refine Spec.step (State.clampRefresh_spec _) rfl ?_
    exact (Spec.set_tim rfl h1)
  · exact h1

theorem State.ttCtrlWrite_spec : ∀ a0 a1, Spec 0xf04c1e00000000000000000000000022000000000000000a0004912400000000000000 a0 (State.ttCtrlWrite a0 a1) := by
  intro a0 a1
  delta State.ttCtrlWrite
  extract_lets -underBinder -merge -useContext +onlyGivenNames x0
  clear_value x0
  extract_lets -underBinder -merge -useContext +onlyGivenNames x1
  have h2 : Spec 0xf04c1e00000000000000000000000022000000000000000a0004912400000000000000 a0 x1 := by
    refine Spec.step (State.writeRw_spec _ _ _ _ _) rfl ?_
    exact Spec.refl
  clear_value x1
  refine Spec.ite ?_ ?_
  · exact h2
  · refine Spec.step (State.timSelect_spec _) rfl ?_
    refine Spec.step (State.ttRestart_spec _) rfl ?_
    exact h2

theorem State.mirroredWrite_spec : ∀ a0 a1 a2 a3 a4 a5, Spec 0xf15d9e0000000000000000000001ffffffffffffffffffffffffffffffffffffffffff a0 (State.mirroredWrite a0 a1 a2 a3 a4 a5) := by
  intro a0 a1 a2 a3 a4 a5
  delta State.mirroredWrite
  split
  · refine Spec.step (State.txCtrlWrite_spec _ _ _ _) rfl ?_
    exact Spec.refl
  · refine Spec.step (State.sigThrWrite_spec _ _ _) rfl ?_
    exact Spec.refl
  · refine Spec.step (State.fecTestWrite_spec _ _ _) rfl ?_
    refine Spec.step (State.writeRw_spec _ _ _ _ _) (Rg.bit_absorb _ rfl) ?_
    exact Spec.refl
  · refine Spec.step (State.pinRefresh_spec _ _) rfl ?_
    refine Spec.step (State.writeRw_spec _ _ _ _ _) (Rg.bit_absorb _ rfl) ?_
    exact Spec.refl
  · refine Spec.step (State.ciphCtrlWrite_spec _ _ _ _) rfl ?_
    exact Spec.refl
  · refine Spec.step (State.grpCtrlWrite_spec _ _ _) rfl ?_
    exact Spec.refl
  · refine Spec.step (State.timSelect_spec _) rfl ?_
    refine Spec.step (State.writeRw_spec _ _ _ _ _) (Rg.bit_absorb _ rfl) ?_
    exact Spec.refl
  · refine Spec.step (State.timSelect_spec _) rfl ?_
    refine Spec.step (State.writeRw_spec _ _ _ _ _) (Rg.bit_absorb _ rfl) ?_
    exact Spec.refl
  · refine Spec.step (State.d0CtrlWrite_spec _ _ _) rfl ?_
    exact Spec.refl
  · refine Spec.step (State.fwordWrite_spec _ _) rfl ?_
    exact Spec.refl
  · refine Spec.step (State.dkRefresh_spec _ _) rfl ?_
    refine Spec.step (State.writeRw_spec _ _ _ _ _) (Rg.bit_absorb _ rfl) ?_
    exact Spec.refl
  · refine Spec.step (State.ttCtrlWrite_spec _ _) rfl ?_
    exact Spec.refl
  · refine Spec.step (State.latchCounter_spec _ _) rfl ?_
    exact Spec.refl
  · refine Spec.step (State.clkRefresh_spec _) rfl ?_
    refine Spec.step (State.writeRw_spec _ _ _ _ _) (Rg.bit_absorb _ rfl) ?_
    exact Spec.refl
  · refine Spec.step (State.writeRw_spec _ _ _ _ _) (Rg.bit_absorb _ rfl) ?_
    exact Spec.refl

theorem State.mirroredHostWrite_spec : ∀ a0 a1 a2 a3 a4, Spec 0xf17d9e0000000000000000000001ffffffffffffffffffffffffffffffffffffffffff a0 (State.mirroredHostWrite a0 a1 a2 a3 a4) := by
  intro a0 a1 a2 a3 a4
  delta State.mirroredHostWrite
  extract_lets -underBinder -merge -useContext +onlyGivenNames x0
  clear_value x0
  extract_lets -underBinder -merge -useContext +onlyGivenNames x1
  clear_value x1
  extract_lets -underBinder -merge -useContext +onlyGivenNames x2
  clear_value x2
  extract_lets -underBinder -merge -useContext +onlyGivenNames x3
  clear_value x3
  extract_lets -underBinder -merge -useContext +onlyGivenNames x4
  have h5 : Spec 0xf17d9e0000000000000000000001ffffffffffffffffffffffffffffffffffffffffff a0 x4 := by
    refine Spec.step (State.mirroredWrite_spec _ _ _ _ _ _) rfl ?_
    exact Spec.refl
  clear_value x4
  refine Spec.step (State.mirrorReg_spec _ _ _ _ _) rfl ?_
  exact h5

theorem State.mirroredWrite_TIM_TOD_SEC_HI_spec : ∀ a0 a1 a3 a4 a5, Spec 0x20000000000000000 a0 (State.mirroredWrite a0 a1 Rg.TIM_TOD_SEC_HI a3 a4 a5) := by
  intro a0 a1 a3 a4 a5
  delta State.mirroredWrite
  try dsimp -zeta only
  refine Spec.step (State.writeRw_spec _ _ _ _ _) rfl ?_
  exact Spec.refl

theorem State.mirroredHostWrite_TIM_TOD_SEC_HI_spec : ∀ a0 a1 a3 a4, Spec 0x2020000000000000000000000000000000000000000000000000020000000000000000 a0 (State.mirroredHostWrite a0 a1 Rg.TIM_TOD_SEC_HI a3 a4) := by
  intro a0 a1 a3 a4
  delta State.mirroredHostWrite
  try dsimp -zeta only
  extract_lets -underBinder -merge -useContext +onlyGivenNames x0
  clear_value x0
  extract_lets -underBinder -merge -useContext +onlyGivenNames x1
  clear_value x1
  extract_lets -underBinder -merge -useContext +onlyGivenNames x2
  clear_value x2
  extract_lets -underBinder -merge -useContext +onlyGivenNames x3
  clear_value x3
  extract_lets -underBinder -merge -useContext +onlyGivenNames x4
  have h5 : Spec 0x2020000000000000000000000000000000000000000000000000020000000000000000 a0 x4 := by
    refine Spec.step (State.mirroredWrite_TIM_TOD_SEC_HI_spec _ _ _ _ _) rfl ?_
    exact Spec.refl
  clear_value x4
  refine Spec.step (State.mirrorReg_spec _ _ _ _ _) rfl ?_
  exact h5

theorem State.mirroredWrite_PERF_INV_CTRL_spec : ∀ a0 a1 a3 a4 a5, Spec 0x20000000000000000000000000000000000000 a0 (State.mirroredWrite a0 a1 Rg.PERF_INV_CTRL a3 a4 a5) := by
  intro a0 a1 a3 a4 a5
  delta State.mirroredWrite
  try dsimp -zeta only
  refine Spec.step (State.writeRw_spec _ _ _ _ _) rfl ?_
  exact Spec.refl

theorem State.mirroredHostWrite_PERF_INV_CTRL_spec : ∀ a0 a1 a3 a4, Spec 0x2020000000000000000000000000000020000000000000000000000000000000000000 a0 (State.mirroredHostWrite a0 a1 Rg.PERF_INV_CTRL a3 a4) := by
  intro a0 a1 a3 a4
  delta State.mirroredHostWrite
  try dsimp -zeta only
  extract_lets -underBinder -merge -useContext +onlyGivenNames x0
  clear_value x0
  extract_lets -underBinder -merge -useContext +onlyGivenNames x1
  clear_value x1
  extract_lets -underBinder -merge -useContext +onlyGivenNames x2
  clear_value x2
  extract_lets -underBinder -merge -useContext +onlyGivenNames x3
  clear_value x3
  extract_lets -underBinder -merge -useContext +onlyGivenNames x4
  have h5 : Spec 0x2020000000000000000000000000000020000000000000000000000000000000000000 a0 x4 := by
    refine Spec.step (State.mirroredWrite_PERF_INV_CTRL_spec _ _ _ _ _) rfl ?_
    exact Spec.refl
  clear_value x4
  refine Spec.step (State.mirrorReg_spec _ _ _ _ _) rfl ?_
  exact h5

theorem State.linkRegsDown_spec : ∀ a0, Spec 0x40000000000000000000000 a0 (State.linkRegsDown a0) := by
  intro a0
  delta State.linkRegsDown
  refine Spec.wrs_cons ?_
  refine Spec.wrs_cons ?_
  refine Spec.wrs_cons ?_
  refine Spec.wrs_cons ?_
  refine Spec.wrs_nil ?_
  refine Spec.step (State.wr_spec _ _ _ _) rfl ?_
  refine Spec.step (State.wr_spec _ _ _ _) rfl ?_
  refine Spec.step (State.wr_spec _ _ _ _) rfl ?_
  refine Spec.step (State.wr_spec _ _ _ _) rfl ?_
  exact Spec.refl

theorem execPcieFlr_spec : ∀ a0, SpecO 0xb00c1c00000000000000000000000022000000000000000b2000000000000000000000 a0 (execPcieFlr a0) := by
  intro a0
  delta execPcieFlr
  refine SpecO.ok ?_
  refine Spec.step (State.linkLoss_spec _) rfl ?_
  exact Spec.refl

theorem execPcieHotReset_spec : ∀ a0, SpecO 0xb00c1c00000000000000000000000022000000000000000f2000000000000000000000 a0 (execPcieHotReset a0) := by
  intro a0
  delta execPcieHotReset
  refine SpecO.ok ?_
  refine Spec.step (State.linkLoss_spec _) rfl ?_
  refine Spec.step (State.linkRegsDown_spec _) rfl ?_
  exact Spec.refl

theorem execPcieLinkUp_spec : ∀ a0 a1 a2 a3, SpecO 0x40000000000000000000000 a3 (execPcieLinkUp a0 a1 a2 a3) := by
  intro a0 a1 a2 a3
  delta execPcieLinkUp
  refine SpecO.ok ?_
  refine Spec.wrs_cons ?_
  refine Spec.wrs_cons ?_
  refine Spec.wrs_cons ?_
  refine Spec.wrs_cons ?_
  refine Spec.wrs_nil ?_
  refine Spec.step (State.wr_spec _ _ _ _) rfl ?_
  refine Spec.step (State.wr_spec _ _ _ _) rfl ?_
  refine Spec.step (State.wr_spec _ _ _ _) rfl ?_
  refine Spec.step (State.wr_spec _ _ _ _) rfl ?_
  exact Spec.refl

theorem execPcieLinkDown_spec : ∀ a0, SpecO 0xb00c1c00000000000000000000000022000000000000000f2000000000000000000000 a0 (execPcieLinkDown a0) := by
  intro a0
  delta execPcieLinkDown
  refine SpecO.ok ?_
  refine Spec.step (State.linkLoss_spec _) rfl ?_
  refine Spec.step (State.linkRegsDown_spec _) rfl ?_
  exact Spec.refl

end Sys2Proof.Machine
end

