-- ==== Sys2Proof/Laws/Frames10.lean ====
section
/-! SUPPORT. What each operation and each command of the files Machine/Place can do: one lemma each,
`<name>_spec`, whose first argument is the footprint (Laws/Spec.lean). -/
namespace Sys2Proof.Machine

theorem State.manTake_spec : ∀ a0 a1 a2, Spec 0x100000000000000000000000000000000000000000000000000000000000000000 a0 (State.manTake a0 a1 a2) := by
  intro a0 a1 a2
  delta State.manTake
  extract_lets -underBinder -merge -useContext +onlyGivenNames x0
  clear_value x0
  extract_lets -underBinder -merge -useContext +onlyGivenNames x1
  clear_value x1
  refine Spec.ite ?_ ?_
  · refine Spec.step (State.modRx_spec _ _ _) rfl ?_
    exact Spec.refl
  · exact Spec.refl

theorem State.blockSwitch_spec : ∀ a0 a1, Spec 0xb03cdc00000000000000000000000022000000000000000a000000000130a000000000 a0 (State.blockSwitch a0 a1) := by
  intro a0 a1
  delta State.blockSwitch
  extract_lets -underBinder -merge -useContext +onlyGivenNames x0
  clear_value x0
  extract_lets -underBinder -merge -useContext +onlyGivenNames x1
  clear_value x1
  extract_lets -underBinder -merge -useContext +onlyGivenNames x2
  clear_value x2
  refine Spec.ite ?_ ?_
  · refine Spec.step (State.tryIssue_spec _ _) rfl ?_
    exact Spec.refl
  · refine Spec.ite ?_ ?_
    · refine Spec.ite ?_ ?_
      · refine Spec.step (State.resync_spec _ _) rfl ?_
        exact Spec.refl
      · refine Spec.step (State.tryDone_spec _ _) rfl ?_
        exact Spec.refl
    · refine Spec.ite ?_ ?_
      · extract_lets -underBinder -merge -useContext +onlyGivenNames x3
        have h4 : Spec 0xb03cdc00000000000000000000000022000000000000000a000000000130a000000000 a0 x3 := by
          refine Spec.step (State.stepClose_spec _ _) rfl ?_
          refine Spec.step (State.mkTidy_spec _ _) rfl ?_
          refine Spec.step (State.modSk_spec _ _ _) rfl ?_
          exact Spec.refl
        clear_value x3
        refine Spec.ite ?_ ?_
        · refine Spec.step (State.setSw_spec _ _ _) rfl ?_
          exact h4
        · refine Spec.ite ?_ ?_
          · refine Spec.step (State.setSw_spec _ _ _) rfl ?_
            refine Spec.step (State.resync_spec _ _) rfl ?_
            exact h4
          · refine Spec.step (State.resync_spec _ _) rfl ?_
            exact h4
      · exact Spec.refl

theorem State.blockNote_spec : ∀ a0 a1 a2, Spec 0xb03cdc00000000000000000000000022000000000000000a000000000130a000000000 a0 (State.blockNote a0 a1 a2) := by
  intro a0 a1 a2
  delta State.blockNote
  extract_lets -underBinder -merge -useContext +onlyGivenNames x0
  have h1 : Spec 0xb03cdc00000000000000000000000022000000000000000a000000000130a000000000 a0 x0 := by
    refine Spec.step (State.modSk_spec _ _ _) rfl ?_
    exact Spec.refl
  clear_value x0
  extract_lets -underBinder -merge -useContext +onlyGivenNames x2
  have h3 : Spec 0xb03cdc00000000000000000000000022000000000000000a000000000130a000000000 a0 x2 := by
    refine Spec.step (State.mkDone_spec _ _ _) rfl ?_
    exact h1
  clear_value x2
  refine Spec.ite ?_ ?_
  · refine Spec.step (State.resyncDue_spec _ _) rfl ?_
    refine Spec.step (State.pinRefresh_spec _ _) rfl ?_
    refine Spec.step (State.wr_spec _ _ _ _) rfl ?_
    exact h3
  · exact h3

theorem State.blockInput_spec : ∀ a0 a1 a2, Spec 0xb03cdc00000000000000000000000022000000000000000a000000000130a000000000 a0 (State.blockInput a0 a1 a2) := by
  intro a0 a1 a2
  delta State.blockInput
  refine Spec.step (State.reading_spec _ _ _) rfl ?_
  refine Spec.step (State.blockNote_spec _ _ _) rfl ?_
  exact Spec.refl

theorem State.swRange_spec : ∀ a0 a1, Spec 0xb01c1c00000000000000000000000022000000000000000a0000000000300000000000 a0 (State.swRange a0 a1) := by
  intro a0 a1
  delta State.swRange
  extract_lets -underBinder -merge -useContext +onlyGivenNames x0
  have h1 : Spec 0xb01c1c00000000000000000000000022000000000000000a0000000000300000000000 a0 x0 := by
    refine Spec.step (State.modSk_spec _ _ _) rfl ?_
    refine Spec.step (State.withdraw_spec _ _) rfl ?_
    exact Spec.refl
  clear_value x0
  refine Spec.step (State.setSw_spec _ _ _) rfl ?_
  refine Spec.step (State.raiseReg_spec _ _ _ _) rfl ?_
  exact h1

theorem State.stageKeep_spec : ∀ a0 a1 a2, Spec 0x100000000000000000000000000000000000000000000000000000000000000000 a0 (State.stageKeep a0 a1 a2) := by
  intro a0 a1 a2
  delta State.stageKeep
  refine Spec.ite ?_ ?_
  · refine Spec.step (State.modTx_spec _ _ _) rfl ?_
    exact Spec.refl
  · exact Spec.refl

theorem State.stageReport_spec : ∀ a0 a1 a2 a3, Spec 0xb03cdc00000000000000000000000022000000000000000a000000000130a000200000 a0 (State.stageReport a0 a1 a2 a3) := by
  intro a0 a1 a2 a3
  delta State.stageReport
  split
  · refine Spec.ite ?_ ?_
    · refine Spec.ite ?_ ?_
      · refine Spec.step (State.swRange_spec _ _) rfl ?_
        exact Spec.refl
      · refine Spec.step (State.tryIssue_spec _ _) rfl ?_
        refine Spec.step (State.modSk_spec _ _ _) rfl ?_
        exact Spec.refl
    · exact Spec.refl
  · refine Spec.ite ?_ ?_
    · refine Spec.step (State.swRange_spec _ _) rfl ?_
      exact Spec.refl
    · exact Spec.refl
  · refine Spec.ite ?_ ?_
    · exact Spec.refl
    · extract_lets -underBinder -merge -useContext +onlyGivenNames x0
      have h1 : Spec 0xb03cdc00000000000000000000000022000000000000000a000000000130a000200000 a0 x0 := by
        refine Spec.step (State.mkLocal_spec _ _ _) rfl ?_
        exact Spec.refl
      clear_value x0
      refine Spec.ite ?_ ?_
      · refine Spec.step (State.tryDone_spec _ _) rfl ?_
        refine Spec.step (State.modSk_spec _ _ _) rfl ?_
        exact h1
      · refine Spec.step (State.tryIssue_spec _ _) rfl ?_
        exact h1
  · refine Spec.ite ?_ ?_
    · exact Spec.refl
    · extract_lets -underBinder -merge -useContext +onlyGivenNames x2
      have h3 : Spec 0xb03cdc00000000000000000000000022000000000000000a000000000130a000200000 a0 x2 := by
        refine Spec.step (State.mkLocal_spec _ _ _) rfl ?_
        refine Spec.ite ?_ ?_
        · exact Spec.refl
        · refine Spec.step (State.mkStale_spec _ _ _) rfl ?_
          refine Spec.step (State.stageKeep_spec _ _ _) rfl ?_
          exact Spec.refl
      clear_value x2
      refine Spec.ite ?_ ?_
      · refine Spec.step (State.resync_spec _ _) rfl ?_
        exact h3
      · refine Spec.step (State.tryIssue_spec _ _) rfl ?_
        exact h3

theorem execMarkerApplyNotFraming_spec : ∀ a0 a1, SpecO 0xb01cdc00000000000000000000000022000000000000000a000000000120a800200001 a1 (execMarkerApplyNotFraming a0 a1) := by
  intro a0 a1
  delta execMarkerApplyNotFraming
  refine SpecO.ok ?_
  split
  · refine Spec.ite ?_ ?_
    · exact Spec.refl
    · extract_lets -underBinder -merge -useContext +onlyGivenNames x0
      clear_value x0
      extract_lets -underBinder -merge -useContext +onlyGivenNames x1
      have h2 : Spec 0xb01cdc00000000000000000000000022000000000000000a000000000120a800200001 a1 x1 := by
        refine Spec.step (State.modTx_spec _ _ _) rfl ?_
        exact Spec.refl
      clear_value x1
      refine Spec.step (State.markerMeet_spec _ _ _) rfl ?_
      exact h2
  · exact Spec.refl

theorem execSwStart_spec : ∀ a0 a1, SpecO 0xb03cdc00000000000000000000000022000000000000000a000000000130a000000000 a1 (execSwStart a0 a1) := by
  intro a0 a1
  delta execSwStart
  refine SpecO.ok ?_
  refine Spec.ite ?_ ?_
  · extract_lets -underBinder -merge -useContext +onlyGivenNames x0
    have h1 : Spec 0xb03cdc00000000000000000000000022000000000000000a000000000130a000000000 a1 x0 := by
      refine Spec.step (State.resyncDue_spec _ _) rfl ?_
      exact Spec.refl
    clear_value x0
    refine Spec.ite ?_ ?_
    · refine Spec.step (State.swKick_spec _) rfl ?_
      exact h1
    · exact h1
  · exact Spec.refl

theorem State.swHeld_spec : ∀ a0 a1, Spec 0xb01c0c00000000000000000000000022000000000000000a0000000000300000000000 a0 (State.swHeld a0 a1) := by
  intro a0 a1
  delta State.swHeld
  refine Spec.step (State.setSw_spec _ _ _) rfl ?_
  refine Spec.step (State.raiseReg_spec _ _ _ _) rfl ?_
  exact Spec.refl

theorem execSwReadyTimeout_spec : ∀ a0 a1, SpecO 0xb01cdc00000000000000000000000022000000000000000a000000000130a000000000 a1 (execSwReadyTimeout a0 a1) := by
  intro a0 a1
  delta execSwReadyTimeout
  refine SpecO.ok ?_
  refine Spec.ite ?_ ?_
  · refine Spec.step (State.swHeld_spec _ _) rfl ?_
    refine Spec.step (State.stepClose_spec _ _) rfl ?_
    refine Spec.step (State.withdraw_spec _ _) rfl ?_
    exact Spec.refl
  · exact Spec.refl

theorem execSwSwitchTimeout_spec : ∀ a0 a1, SpecO 0xb01c0c00000000000000000000000022000000000000000a0000000000300000000000 a1 (execSwSwitchTimeout a0 a1) := by
  intro a0 a1
  delta execSwSwitchTimeout
  refine SpecO.ok ?_
  refine Spec.ite ?_ ?_
  · refine Spec.step (State.swHeld_spec _ _) rfl ?_
    exact Spec.refl
  · exact Spec.refl

theorem execPlaceRxShadowLoaded_spec : ∀ a0 a1, SpecO 0xb00c1c00000000000000000000000022000000000000000a0000000000400000000000 a1 (execPlaceRxShadowLoaded a0 a1) := by
  intro a0 a1
  delta execPlaceRxShadowLoaded
  refine SpecO.ok ?_
  split
  · exact Spec.refl
  · extract_lets -underBinder -merge -useContext +onlyGivenNames x0
    clear_value x0
    extract_lets -underBinder -merge -useContext +onlyGivenNames x1
    clear_value x1
    extract_lets -underBinder -merge -useContext +onlyGivenNames x2
    have h3 : Spec 0xb00c1c00000000000000000000000022000000000000000a0000000000400000000000 a1 x2 := by
      refine Spec.step (State.modRx_spec _ _ _) rfl ?_
      exact Spec.refl
    clear_value x2
    extract_lets -underBinder -merge -useContext +onlyGivenNames x4
    have h5 : Spec 0xb00c1c00000000000000000000000022000000000000000a0000000000400000000000 a1 x4 := by
      refine Spec.wrs_cons ?_
      refine Spec.wrs_cons ?_
      refine Spec.wrs_nil ?_
      refine Spec.step (State.wr_spec _ _ _ _) rfl ?_
      refine Spec.step (State.wr_spec _ _ _ _) rfl ?_
      exact h3
    clear_value x4
    refine Spec.ite ?_ ?_
    · exact h5
    · refine Spec.step (State.count_spec _ _ _) rfl ?_
      exact h5

theorem execPlaceChanDown_spec : ∀ a0 a1, SpecO 0xb01c1c00000000000000000000000022000000000000000a0000000000300000000000 a1 (execPlaceChanDown a0 a1) := by
  intro a0 a1
  delta execPlaceChanDown
  refine SpecO.ok ?_
  refine Spec.ite ?_ ?_
  · refine Spec.step (State.chanDown_spec _ _) rfl ?_
    exact Spec.refl
  · exact Spec.refl

theorem execIdleShadowApply_spec : ∀ a0 a1, SpecO 0x100100000000000000000000000000000000004000000000010000000000000000000 a1 (execIdleShadowApply a0 a1) := by
  intro a0 a1
  delta execIdleShadowApply
  refine SpecO.ok ?_
  refine Spec.ite ?_ ?_
  · refine Spec.step (State.applyAllShadows_spec _ _) rfl ?_
    exact Spec.refl
  · exact Spec.refl

end Sys2Proof.Machine
end

