-- ==== Sys2Proof/Laws/Frames11.lean ====
section
/-! SUPPORT. What each operation and each command of the files Machine/ModeOps can do: one lemma each,
`<name>_spec`, whose first argument is the footprint (Laws/Spec.lean). -/
namespace Sys2Proof.Machine

theorem State.setMaps_spec : ∀ a0 a1 a2 a3, Spec 0x10100000000000000000000000000000000000000000000000000000600000000001 a0 (State.setMaps a0 a1 a2 a3) := by
  intro a0 a1 a2 a3
  delta State.setMaps
  extract_lets -underBinder -merge -useContext +onlyGivenNames x0
  have h1 : Spec 0x10100000000000000000000000000000000000000000000000000000600000000001 a0 x0 := by
    refine Spec.step (State.modTx_spec _ _ _) rfl ?_
    exact Spec.refl
  clear_value x0
  extract_lets -underBinder -merge -useContext +onlyGivenNames x2
  have h3 : Spec 0x10100000000000000000000000000000000000000000000000000000600000000001 a0 x2 := by
    refine Spec.step (State.modRx_spec _ _ _) rfl ?_
    exact h1
  clear_value x2
  extract_lets -underBinder -merge -useContext +onlyGivenNames x4
  have h5 : Spec 0x10100000000000000000000000000000000000000000000000000000600000000001 a0 x4 := by
    refine Spec.step (State.modSk_spec _ _ _) rfl ?_
    exact h3
  clear_value x4
  extract_lets -underBinder -merge -useContext +onlyGivenNames x6
  have h7 : Spec 0x10100000000000000000000000000000000000000000000000000000600000000001 a0 x6 := by
    refine Spec.wrs_cons ?_
    refine Spec.wrs_cons ?_
    refine Spec.wrs_nil ?_
    refine Spec.step (State.wr_spec _ _ _ _) rfl ?_
    refine Spec.step (State.wr_spec _ _ _ _) rfl ?_
    exact h5
  clear_value x6
  refine Spec.step (State.rxMapShow_spec _ _) rfl ?_
  refine Spec.step (State.txMapShow_spec _ _) rfl ?_
  refine Spec.step (State.setSw_spec _ _ _) rfl ?_
  exact h7

theorem State.showProf_spec : ∀ a0 a1 a2, Spec 0x400001 a0 (State.showProf a0 a1 a2) := by
  intro a0 a1 a2
  delta State.showProf
  refine Spec.wrs_cons ?_
  refine Spec.wrs_cons ?_
  refine Spec.wrs_cons ?_
  refine Spec.wrs_nil ?_
  refine Spec.step (State.wr_spec _ _ _ _) rfl ?_
  refine Spec.step (State.wr_spec _ _ _ _) rfl ?_
  refine Spec.step (State.wr_spec _ _ _ _) rfl ?_
  exact Spec.refl

theorem State.engOut_spec : ∀ a0 a1, Spec 0xb11cde00000000000000000000000022000000050000000a001000000070a0007013a3 a0 (State.engOut a0 a1) := by
  intro a0 a1
  delta State.engOut
  extract_lets -underBinder -merge -useContext +onlyGivenNames x0
  have h1 : Spec 0xb11cde00000000000000000000000022000000050000000a001000000070a0007013a3 a0 x0 := by
    refine Spec.step (State.applyAllShadows_spec _ _) rfl ?_
    exact Spec.refl
  clear_value x0
  extract_lets -underBinder -merge -useContext +onlyGivenNames x2
  have h3 : Spec 0xb11cde00000000000000000000000022000000050000000a001000000070a0007013a3 a0 x2 := by
    refine Spec.ite ?_ ?_
    · refine Spec.step (State.txStop_spec _ _) rfl ?_
      exact h1
    · exact h1
  clear_value x2
  extract_lets -underBinder -merge -useContext +onlyGivenNames x4
  have h5 : Spec 0xb11cde00000000000000000000000022000000050000000a001000000070a0007013a3 a0 x4 := by
    refine Spec.step (State.dropFmtFar_spec _ _) rfl ?_
    refine Spec.step (State.excessClear_spec _ _) rfl ?_
    refine Spec.step (State.clearDefects_spec _ _) rfl ?_
    refine Spec.step (State.acqStop_spec _ _) rfl ?_
    exact h3
  clear_value x4
  extract_lets -underBinder -merge -useContext +onlyGivenNames x6
  have h7 : Spec 0xb11cde00000000000000000000000022000000050000000a001000000070a0007013a3 a0 x6 := by
    refine Spec.step (State.chanDown_spec _ _) rfl ?_
    refine Spec.step (State.decSpoil_spec _ _) rfl ?_
    exact h5
  clear_value x6
  extract_lets -underBinder -merge -useContext +onlyGivenNames x8
  have h9 : Spec 0xb11cde00000000000000000000000022000000050000000a001000000070a0007013a3 a0 x8 := by
    refine Spec.step (State.modTx_spec _ _ _) rfl ?_
    exact h7
  clear_value x8
  extract_lets -underBinder -merge -useContext +onlyGivenNames x10
  have h11 : Spec 0xb11cde00000000000000000000000022000000050000000a001000000070a0007013a3 a0 x10 := by
    refine Spec.step (State.modSk_spec _ _ _) rfl ?_
    refine Spec.step (State.setMaps_spec _ _ _ _) rfl ?_
    refine Spec.step (State.modRx_spec _ _ _) rfl ?_
    exact h9
  clear_value x10
  extract_lets -underBinder -merge -useContext +onlyGivenNames x12
  have h13 : Spec 0xb11cde00000000000000000000000022000000050000000a001000000070a0007013a3 a0 x12 := by
    refine Spec.wrs_cons ?_
    refine Spec.wrs_cons ?_
    refine Spec.wrs_cons ?_
    refine Spec.wrs_cons ?_
    refine Spec.wrs_cons ?_
    refine Spec.wrs_cons ?_
    refine Spec.wrs_cons ?_
    refine Spec.wrs_nil ?_
    refine Spec.step (State.wr_spec _ _ _ _) rfl ?_
    refine Spec.step (State.wr_spec _ _ _ _) rfl ?_
    refine Spec.step (State.wr_spec _ _ _ _) rfl ?_
    refine Spec.step (State.wr_spec _ _ _ _) rfl ?_
    refine Spec.step (State.wr_spec _ _ _ _) rfl ?_
    refine Spec.step (State.wr_spec _ _ _ _) rfl ?_
    refine Spec.step (State.wr_spec _ _ _ _) rfl ?_
    exact h11
  clear_value x12
  refine Spec.step (State.pinRefresh_spec _ _) rfl ?_
  refine Spec.step (State.showProf_spec _ _ _) rfl ?_
  refine Spec.step (State.modPm_spec _ _ _) rfl ?_
  exact h13

theorem State.engIn_spec : ∀ a0 a1 a2 a3, Spec 0xf11c9e00000000000000000000000022000000050000000a0000000000600000700023 a0 (State.engIn a0 a1 a2 a3) := by
  intro a0 a1 a2 a3
  delta State.engIn
  extract_lets -underBinder -merge -useContext +onlyGivenNames x0
  clear_value x0
  extract_lets -underBinder -merge -useContext +onlyGivenNames x1
  have h2 : Spec 0xf11c9e00000000000000000000000022000000050000000a0000000000600000700023 a0 x1 := by
    refine Spec.step (State.setMaps_spec _ _ _ _) rfl ?_
    refine Spec.step (State.showProf_spec _ _ _) rfl ?_
    refine Spec.step (State.modPm_spec _ _ _) rfl ?_
    exact Spec.refl
  clear_value x1
  refine Spec.step (State.txRefresh_spec _ _) rfl ?_
  refine Spec.step (State.acqStart_spec _ _) rfl ?_
  refine Spec.step (State.decRestart_spec _ _) rfl ?_
  exact h2

theorem State.engChange_spec : ∀ a0 a1 a2 a3, Spec 0xb11c9c00000000000000000000000022000000050000000a00000000006000007013a1 a0 (State.engChange a0 a1 a2 a3) := by
  intro a0 a1 a2 a3
  delta State.engChange
  extract_lets -underBinder -merge -useContext +onlyGivenNames x0
  clear_value x0
  extract_lets -underBinder -merge -useContext +onlyGivenNames x1
  have h2 : Spec 0xb11c9c00000000000000000000000022000000050000000a00000000006000007013a1 a0 x1 := by
    refine Spec.step (State.acqStop_spec _ _) rfl ?_
    exact Spec.refl
  clear_value x1
  extract_lets -underBinder -merge -useContext +onlyGivenNames x3
  have h4 : Spec 0xb11c9c00000000000000000000000022000000050000000a00000000006000007013a1 a0 x3 := by
    refine Spec.step (State.showProf_spec _ _ _) rfl ?_
    exact h2
  clear_value x3
  extract_lets -underBinder -merge -useContext +onlyGivenNames x5
  have h6 : Spec 0xb11c9c00000000000000000000000022000000050000000a00000000006000007013a1 a0 x5 := by
    refine Spec.step (State.setMaps_spec _ _ _ _) rfl ?_
    exact h4
  clear_value x5
  extract_lets -underBinder -merge -useContext +onlyGivenNames x7
  have h8 : Spec 0xb11c9c00000000000000000000000022000000050000000a00000000006000007013a1 a0 x7 := by
    refine Spec.step (State.shareDrop_spec _ _) rfl ?_
    refine Spec.step (State.modTx_spec _ _ _) rfl ?_
    exact h6
  clear_value x7
  extract_lets -underBinder -merge -useContext +onlyGivenNames x9
  have h10 : Spec 0xb11c9c00000000000000000000000022000000050000000a00000000006000007013a1 a0 x9 := by
    refine Spec.step (State.decRestart_spec _ _) rfl ?_
    refine Spec.step (State.modFec_spec _ _ _) rfl ?_
    exact h8
  clear_value x9
  extract_lets -underBinder -merge -useContext +onlyGivenNames x11
  have h12 : Spec 0xb11c9c00000000000000000000000022000000050000000a00000000006000007013a1 a0 x11 := by
    refine Spec.step (State.acqStart_spec _ _) rfl ?_
    refine Spec.step (State.winRestart_spec _ _) rfl ?_
    exact h10
  clear_value x11
  refine Spec.ite ?_ ?_
  · extract_lets -underBinder -merge -useContext +onlyGivenNames x13
    have h14 : Spec 0xb11c9c00000000000000000000000022000000050000000a00000000006000007013a1 a0 x13 := by
      refine Spec.step (State.modRx_spec _ _ _) rfl ?_
      refine Spec.step (State.modTx_spec _ _ _) rfl ?_
      exact h12
    clear_value x13
    refine Spec.wrs_cons ?_
    refine Spec.wrs_cons ?_
    refine Spec.wrs_cons ?_
    refine Spec.wrs_cons ?_
    refine Spec.wrs_nil ?_
    refine Spec.step (State.wr_spec _ _ _ _) rfl ?_
    refine Spec.step (State.wr_spec _ _ _ _) rfl ?_
    refine Spec.step (State.wr_spec _ _ _ _) rfl ?_
    refine Spec.step (State.wr_spec _ _ _ _) rfl ?_
    exact h14
  · refine Spec.ite ?_ ?_
    · exact h12
    · refine Spec.step (State.setLevel_spec _ _ _) rfl ?_
      exact h12

theorem State.replace_spec : ∀ a0 a1 a2 a3, Spec 0x10100000000000000000000000000000000000000000000000000000600000000001 a0 (State.replace a0 a1 a2 a3) := by
  intro a0 a1 a2 a3
  delta State.replace
  refine Spec.ite ?_ ?_
  · refine Spec.step (State.setMaps_spec _ _ _ _) rfl ?_
    exact Spec.refl
  · exact Spec.refl

theorem State.commitEng_spec : ∀ a0 a1 a2 a3, Spec 0xf11cde00000000000000000000000022000000050000000a001000000070a000701ba3 a0 (State.commitEng a0 a1 a2 a3) := by
  intro a0 a1 a2 a3
  delta State.commitEng
  extract_lets -underBinder -merge -useContext +onlyGivenNames x0
  clear_value x0
  extract_lets -underBinder -merge -useContext +onlyGivenNames x1
  clear_value x1
  extract_lets -underBinder -merge -useContext +onlyGivenNames x2
  clear_value x2
  extract_lets -underBinder -merge -useContext +onlyGivenNames x3
  have h4 : Spec 0xf11cde00000000000000000000000022000000050000000a001000000070a000701ba3 a0 x3 := by
    refine Spec.wrs_cons ?_
    refine Spec.wrs_cons ?_
    refine Spec.wrs_nil ?_
    refine Spec.step (State.wr_spec _ _ _ _) rfl ?_
    refine Spec.step (State.wr_spec _ _ _ _) rfl ?_
    exact Spec.refl
  clear_value x3
  extract_lets -underBinder -merge -useContext +onlyGivenNames x5
  have h6 : Spec 0xf11cde00000000000000000000000022000000050000000a001000000070a000701ba3 a0 x5 := by
    refine Spec.ite ?_ ?_
    · refine Spec.step (State.modRx_spec _ _ _) rfl ?_
      exact h4
    · exact h4
  clear_value x5
  refine Spec.ite ?_ ?_
  · refine Spec.ite ?_ ?_
    · exact h6
    · refine Spec.step (State.engOut_spec _ _) rfl ?_
      exact h6
  · refine Spec.ite ?_ ?_
    · refine Spec.step (State.engIn_spec _ _ _ _) rfl ?_
      exact h6
    · extract_lets -underBinder -merge -useContext +onlyGivenNames x7
      have h8 : Spec 0xf11cde00000000000000000000000022000000050000000a001000000070a000701ba3 a0 x7 := by
        refine Spec.ite ?_ ?_
        · refine Spec.step (State.engChange_spec _ _ _ _) rfl ?_
          exact h6
        · refine Spec.step (State.replace_spec _ _ _ _) rfl ?_
          exact h6
      clear_value x7
      refine Spec.ite ?_ ?_
      · refine Spec.step (State.raiseReg_spec _ _ _ _) rfl ?_
        exact h8
      · exact h8

theorem State.engRefresh_spec : ∀ a0, Spec 0xf11c9e00000000000000000000000022000000050000000a0000000000200000300022 a0 (State.engRefresh a0) := by
  intro a0
  delta State.engRefresh
  refine Spec.fold _ ?_ ?_
  · intro t0 i1
    try dsimp -zeta only
    refine Spec.step (State.txRefresh_spec _ _) rfl ?_
    refine Spec.step (State.acqStart_spec _ _) rfl ?_
    exact Spec.refl
  · exact Spec.refl

theorem State.endMux_spec : ∀ a0, Spec 0xb01c1c00000000000000000000000022000000000000000a0000000000700000000001 a0 (State.endMux a0) := by
  intro a0
  delta State.endMux
  refine Spec.fold _ ?_ ?_
  · intro t0 i1
    try dsimp -zeta only
    refine Spec.ite ?_ ?_
    · exact Spec.refl
    · extract_lets -underBinder -merge -useContext +onlyGivenNames x2
      have h3 : Spec 0xb01c1c00000000000000000000000022000000000000000a0000000000700000000001 t0 x2 := by
        refine Spec.step (State.chanDown_spec _ _) rfl ?_
        exact Spec.refl
      clear_value x2
      refine Spec.step (State.setMaps_spec _ _ _ _) rfl ?_
      exact h3
  · exact Spec.refl

theorem State.tribOut_spec : ∀ a0 a1, Spec 0xb01ccc00000000000000000000000022000000000000000a000000000100a800000000 a0 (State.tribOut a0 a1) := by
  intro a0 a1
  delta State.tribOut
  extract_lets -underBinder -merge -useContext +onlyGivenNames x0
  clear_value x0
  extract_lets -underBinder -merge -useContext +onlyGivenNames x1
  have h2 : Spec 0xb01ccc00000000000000000000000022000000000000000a000000000100a800000000 a0 x1 := by
    refine Spec.step (State.dlmHunt_spec _ _) rfl ?_
    exact Spec.refl
  clear_value x1
  extract_lets -underBinder -merge -useContext +onlyGivenNames x3
  have h4 : Spec 0xb01ccc00000000000000000000000022000000000000000a000000000100a800000000 a0 x3 := by
    unfold x3
    split
    · refine Spec.step (State.modGrp_spec _ _ _) rfl ?_
      exact h2
    · exact h2
  clear_value x3
  extract_lets -underBinder -merge -useContext +onlyGivenNames x5
  have h6 : Spec 0xb01ccc00000000000000000000000022000000000000000a000000000100a800000000 a0 x5 := by
    refine Spec.wrs_cons ?_
    refine Spec.wrs_cons ?_
    refine Spec.wrs_cons ?_
    refine Spec.wrs_cons ?_
    refine Spec.wrs_cons ?_
    refine Spec.wrs_cons ?_
    refine Spec.wrs_nil ?_
    refine Spec.step (State.wr_spec _ _ _ _) rfl ?_
    refine Spec.step (State.wr_spec _ _ _ _) rfl ?_
    refine Spec.step (State.wr_spec _ _ _ _) rfl ?_
    refine Spec.step (State.wr_spec _ _ _ _) rfl ?_
    refine Spec.step (State.wr_spec _ _ _ _) rfl ?_
    refine Spec.step (State.wr_spec _ _ _ _) rfl ?_
    refine Spec.step (State.modTrib_spec _ _ _) rfl ?_
    exact h4
  clear_value x5
  extract_lets -underBinder -merge -useContext +onlyGivenNames x7
  have h8 : Spec 0xb01ccc00000000000000000000000022000000000000000a000000000100a800000000 a0 x7 := by
    unfold x7
    split
    · refine Spec.step (State.alignShow_spec _ _) rfl ?_
      exact h6
    · exact h6
  clear_value x7
  extract_lets -underBinder -merge -useContext +onlyGivenNames x9
  have h10 : Spec 0xb01ccc00000000000000000000000022000000000000000a000000000100a800000000 a0 x9 := by
    refine Spec.step (State.placeShow_spec _ _ _ _) rfl ?_
    exact h8
  clear_value x9
  extract_lets -underBinder -merge -useContext +onlyGivenNames x11
  clear_value x11
  extract_lets -underBinder -merge -useContext +onlyGivenNames x12
  have h13 : Spec 0xb01ccc00000000000000000000000022000000000000000a000000000100a800000000 a0 x12 := by
    refine Spec.step (State.countStale_spec _ _) rfl ?_
    exact h10
  clear_value x12
  exact (Spec.set_mode rfl h13)

theorem State.tribFresh_spec : ∀ a0 a1, Spec 0x2000400000000000000000000000000000000000000000000000000000008000000000 a0 (State.tribFresh a0 a1) := by
  intro a0 a1
  delta State.tribFresh
  extract_lets -underBinder -merge -useContext +onlyGivenNames x0
  have h1 : Spec 0x2000400000000000000000000000000000000000000000000000000000008000000000 a0 x0 := by
    refine Spec.step (State.modTrib_spec _ _ _) rfl ?_
    refine Spec.step (State.dlmHunt_spec _ _) rfl ?_
    exact Spec.refl
  clear_value x0
  refine Spec.step (State.wr_spec _ _ _ _) rfl ?_
  exact h1

theorem State.commitPort_spec : ∀ a0 a1 a2 a3, Spec 0x2000600000000000000000000000000000000000000000000000000000008280000000 a0 (State.commitPort a0 a1 a2 a3) := by
  intro a0 a1 a2 a3
  delta State.commitPort
  extract_lets -underBinder -merge -useContext +onlyGivenNames x0
  clear_value x0
  extract_lets -underBinder -merge -useContext +onlyGivenNames x1
  clear_value x1
  extract_lets -underBinder -merge -useContext +onlyGivenNames x2
  have h3 : Spec 0x2000600000000000000000000000000000000000000000000000000000008280000000 a0 x2 := by
    refine Spec.step (State.wr_spec _ _ _ _) rfl ?_
    refine Spec.step (State.wr_spec _ _ _ _) rfl ?_
    exact Spec.refl
  clear_value x2
  refine Spec.ite ?_ ?_
  · exact h3
  · extract_lets -underBinder -merge -useContext +onlyGivenNames x4
    have h7 : Spec 0x2000600000000000000000000000000000000000000000000000000000008280000000 a0 x4 := by
      refine Spec.fold _ ?_ ?_
      · intro t5 i6
        try dsimp -zeta only
        refine Spec.step (State.tribFresh_spec _ _) rfl ?_
        exact Spec.refl
      · exact h3
    clear_value x4
    extract_lets -underBinder -merge -useContext +onlyGivenNames x8
    have h9 : Spec 0x2000600000000000000000000000000000000000000000000000000000008280000000 a0 x8 := by
      refine Spec.step (State.modPort_spec _ _ _) rfl ?_
      exact h7
    clear_value x8
    refine Spec.wrs_cons ?_
    refine Spec.wrs_cons ?_
    refine Spec.wrs_cons ?_
    refine Spec.wrs_cons ?_
    refine Spec.wrs_cons ?_
    refine Spec.wrs_cons ?_
    refine Spec.wrs_nil ?_
    refine Spec.step (State.wr_spec _ _ _ _) rfl ?_
    refine Spec.step (State.wr_spec _ _ _ _) rfl ?_
    refine Spec.step (State.wr_spec _ _ _ _) rfl ?_
    refine Spec.step (State.wr_spec _ _ _ _) rfl ?_
    refine Spec.step (State.wr_spec _ _ _ _) rfl ?_
    refine Spec.step (State.wr_spec _ _ _ _) rfl ?_
    exact h9

theorem State.commitTrib_spec : ∀ a0 a1 a2 a3 a4, Spec 0x2000c00000000000000000000000000000000000000000000000000000008000000000 a0 (State.commitTrib a0 a1 a2 a3 a4) := by
  intro a0 a1 a2 a3 a4
  delta State.commitTrib
  extract_lets -underBinder -merge -useContext +onlyGivenNames x0
  clear_value x0
  extract_lets -underBinder -merge -useContext +onlyGivenNames x1
  clear_value x1
  extract_lets -underBinder -merge -useContext +onlyGivenNames x2
  have h3 : Spec 0x2000c00000000000000000000000000000000000000000000000000000008000000000 a0 x2 := by
    refine Spec.ite ?_ ?_
    · exact Spec.refl
    · refine Spec.step (State.modTrib_spec _ _ _) rfl ?_
      refine Spec.ite ?_ ?_
      · refine Spec.step (State.tribFresh_spec _ _) rfl ?_
        exact Spec.refl
      · exact Spec.refl
  clear_value x2
  extract_lets -underBinder -merge -useContext +onlyGivenNames x4
  clear_value x4
  extract_lets -underBinder -merge -useContext +onlyGivenNames x5
  clear_value x5
  extract_lets -underBinder -merge -useContext +onlyGivenNames x6
  have h7 : Spec 0x2000c00000000000000000000000000000000000000000000000000000008000000000 a0 x6 := by
    refine Spec.step (State.modTrib_spec _ _ _) rfl ?_
    exact h3
  clear_value x6
  extract_lets -underBinder -merge -useContext +onlyGivenNames x8
  have h9 : Spec 0x2000c00000000000000000000000000000000000000000000000000000008000000000 a0 x8 := by
    unfold x8
    split
    · refine Spec.ite ?_ ?_
      · refine Spec.step (State.modGrp_spec _ _ _) rfl ?_
        exact h7
      · exact h7
    · exact h7
  clear_value x8
  refine Spec.wrs_cons ?_
  refine Spec.wrs_cons ?_
  refine Spec.wrs_nil ?_
  refine Spec.step (State.wr_spec _ _ _ _) rfl ?_
  refine Spec.step (State.wr_spec _ _ _ _) rfl ?_
  exact h9

theorem State.clientsAfter_spec : ∀ a0 a1, Spec 0x2000000000000000000000000000000000000000000000000000000000000000000000 a0 (State.clientsAfter a0 a1) := by
  intro a0 a1
  delta State.clientsAfter
  extract_lets -underBinder -merge -useContext +onlyGivenNames x0
  clear_value x0
  refine Spec.step (State.clientStart_spec _ _) rfl ?_
  refine Spec.fold _ ?_ ?_
  · intro t1 i2
    try dsimp -zeta only
    refine Spec.step (State.fxUnbound_spec _ _ _) rfl ?_
    exact Spec.refl
  · exact Spec.refl

theorem State.ozPlace_spec : ∀ a0, Spec 0x400000000000000000000000000000000000000000000000000000000000000000 a0 (State.ozPlace a0) := by
  intro a0
  delta State.ozPlace
  refine Spec.fold _ ?_ ?_
  · intro t0 i1
    try dsimp -zeta only
    extract_lets -underBinder -merge -useContext +onlyGivenNames x2
    clear_value x2
    refine Spec.fold _ ?_ ?_
    · intro t3 i4
      try dsimp -zeta only
      refine Spec.step (State.modTrib_spec _ _ _) rfl ?_
      exact Spec.refl
    · exact Spec.refl
  · exact Spec.refl

theorem State.commitClients_spec : ∀ a0 a1 a2, Spec 0xb03cec00000000000000000000000022000000000000000a000000009500aa80000000 a0 (State.commitClients a0 a1 a2) := by
  intro a0 a1 a2
  delta State.commitClients
  extract_lets -underBinder -merge -useContext +onlyGivenNames x0
  have h1 : Spec 0xb03cec00000000000000000000000022000000000000000a000000009500aa80000000 a0 x0 := by
    exact Spec.refl
  clear_value x0
  extract_lets -underBinder -merge -useContext +onlyGivenNames x2
  clear_value x2
  extract_lets -underBinder -merge -useContext +onlyGivenNames x3
  have h6 : Spec 0xb03cec00000000000000000000000022000000000000000a000000009500aa80000000 a0 x3 := by
    refine Spec.fold _ ?_ ?_
    · intro t4 i5
      try dsimp -zeta only
      refine Spec.step (State.tribOut_spec _ _) rfl ?_
      exact Spec.refl
    · exact Spec.refl
  clear_value x3
  extract_lets -underBinder -merge -useContext +onlyGivenNames x7
  have h10 : Spec 0xb03cec00000000000000000000000022000000000000000a000000009500aa80000000 a0 x7 := by
    refine Spec.fold _ ?_ ?_
    · intro t8 i9
      try dsimp -zeta only
      refine Spec.step (State.commitPort_spec _ _ _ _) rfl ?_
      exact Spec.refl
    · exact h6
  clear_value x7
  extract_lets -underBinder -merge -useContext +onlyGivenNames x11
  have h14 : Spec 0xb03cec00000000000000000000000022000000000000000a000000009500aa80000000 a0 x11 := by
    refine Spec.fold _ ?_ ?_
    · intro t12 i13
      try dsimp -zeta only
      refine Spec.step (State.commitTrib_spec _ _ _ _ _) rfl ?_
      exact Spec.refl
    · exact h10
  clear_value x11
  extract_lets -underBinder -merge -useContext +onlyGivenNames x15
  have h18 : Spec 0xb03cec00000000000000000000000022000000000000000a000000009500aa80000000 a0 x15 := by
    refine Spec.fold _ ?_ ?_
    · intro t16 i17
      try dsimp -zeta only
      refine Spec.ite ?_ ?_
      · refine Spec.step (State.lineFault_spec _ _ _) rfl ?_
        exact Spec.refl
      · exact Spec.refl
    · exact h14
  clear_value x15
  refine Spec.step (State.bridgeRefresh_spec _) rfl ?_
  refine Spec.step (State.clientsAfter_spec _ _) rfl ?_
  refine Spec.step (State.placeShowAll_spec _) rfl ?_
  refine Spec.step (State.ozPlace_spec _) rfl ?_
  exact h18

theorem State.beginMux_spec : ∀ a0, Spec 0x400000000000000000000000000000000000000000000000000000000000000000 a0 (State.beginMux a0) := by
  intro a0
  delta State.beginMux
  extract_lets -underBinder -merge -useContext +onlyGivenNames x0
  clear_value x0
  refine Spec.fold _ ?_ ?_
  · intro t1 i2
    try dsimp -zeta only
    refine Spec.step (State.modTrib_spec _ _ _) rfl ?_
    exact Spec.refl
  · exact Spec.refl

theorem State.leaveMaintenance_spec : ∀ a0, Spec 0x20000000000000000000000000000000000000000000000000000000000080802 a0 (State.leaveMaintenance a0) := by
  intro a0
  delta State.leaveMaintenance
  refine Spec.fold _ ?_ ?_
  · intro t0 i1
    try dsimp -zeta only
    refine Spec.step (State.dacShow_spec _ _) rfl ?_
    refine Spec.wrs_cons ?_
    refine Spec.wrs_cons ?_
    refine Spec.wrs_cons ?_
    refine Spec.wrs_cons ?_
    refine Spec.wrs_nil ?_
    refine Spec.step (State.wr_spec _ _ _ _) rfl ?_
    refine Spec.step (State.wr_spec _ _ _ _) rfl ?_
    refine Spec.step (State.wr_spec _ _ _ _) rfl ?_
    refine Spec.step (State.wr_spec _ _ _ _) rfl ?_
    exact Spec.refl
  · exact Spec.refl

theorem State.actRefresh_spec : ∀ a0, Spec 0x20000000000000000000000000000000000000000000000000000000000000000 a0 (State.actRefresh a0) := by
  intro a0
  delta State.actRefresh
  extract_lets -underBinder -merge -useContext +onlyGivenNames x0
  clear_value x0
  refine Spec.ite ?_ ?_
  · exact Spec.refl
  · exact (Spec.set_pin rfl Spec.refl)

theorem State.setMode_spec : ∀ a0 a1 a2, Spec 0xb02c0e00000000000000000000008422000000000000000a0000000000000000080802 a0 (State.setMode a0 a1 a2) := by
  intro a0 a1 a2
  delta State.setMode
  extract_lets -underBinder -merge -useContext +onlyGivenNames x0
  clear_value x0
  extract_lets -underBinder -merge -useContext +onlyGivenNames x1
  clear_value x1
  extract_lets -underBinder -merge -useContext +onlyGivenNames x2
  have h3 : Spec 0xb02c0e00000000000000000000008422000000000000000a0000000000000000080802 a0 x2 := by
    refine Spec.step (State.wr_spec _ _ _ _) rfl ?_
    refine Spec.step (State.wr_spec _ _ _ _) rfl ?_
    exact Spec.refl
  clear_value x2
  extract_lets -underBinder -merge -useContext +onlyGivenNames x4
  have h5 : Spec 0xb02c0e00000000000000000000008422000000000000000a0000000000000000080802 a0 x4 := by
    refine Spec.ite ?_ ?_
    · refine Spec.step (State.leaveMaintenance_spec _) rfl ?_
      exact h3
    · exact h3
  clear_value x4
  extract_lets -underBinder -merge -useContext +onlyGivenNames x6
  clear_value x6
  extract_lets -underBinder -merge -useContext +onlyGivenNames x7
  have h8 : Spec 0xb02c0e00000000000000000000008422000000000000000a0000000000000000080802 a0 x7 := by
    exact (Spec.set_pair rfl h5)
  clear_value x7
  extract_lets -underBinder -merge -useContext +onlyGivenNames x9
  have h10 : Spec 0xb02c0e00000000000000000000008422000000000000000a0000000000000000080802 a0 x9 := by
    refine Spec.step (State.actRefresh_spec _) rfl ?_
    exact h8
  clear_value x9
  refine Spec.ite ?_ ?_
  · refine Spec.step (State.raiseReg_spec _ _ _ _) rfl ?_
    exact h10
  · exact h10

theorem State.commitRest_spec : ∀ a0 a1 a2 a3, Spec 0xb03cfe00000000000000000000008422000000000000000a000000009570aa80080803 a0 (State.commitRest a0 a1 a2 a3) := by
  intro a0 a1 a2 a3
  delta State.commitRest
  extract_lets -underBinder -merge -useContext +onlyGivenNames x0
  clear_value x0
  extract_lets -underBinder -merge -useContext +onlyGivenNames x1
  have h2 : Spec 0xb03cfe00000000000000000000008422000000000000000a000000009570aa80080803 a0 x1 := by
    refine Spec.ite ?_ ?_
    · refine Spec.step (State.endMux_spec _) rfl ?_
      exact Spec.refl
    · exact Spec.refl
  clear_value x1
  extract_lets -underBinder -merge -useContext +onlyGivenNames x3
  have h4 : Spec 0xb03cfe00000000000000000000008422000000000000000a000000009570aa80080803 a0 x3 := by
    refine Spec.step (State.commitClients_spec _ _ _) rfl ?_
    exact h2
  clear_value x3
  extract_lets -underBinder -merge -useContext +onlyGivenNames x5
  have h6 : Spec 0xb03cfe00000000000000000000008422000000000000000a000000009570aa80080803 a0 x5 := by
    refine Spec.ite ?_ ?_
    · refine Spec.step (State.beginMux_spec _) rfl ?_
      exact h4
    · exact h4
  clear_value x5
  extract_lets -underBinder -merge -useContext +onlyGivenNames x7
  clear_value x7
  extract_lets -underBinder -merge -useContext +onlyGivenNames x8
  have h9 : Spec 0xb03cfe00000000000000000000008422000000000000000a000000009570aa80080803 a0 x8 := by
    refine Spec.ite ?_ ?_
    · exact (Spec.set_pair rfl h6)
    · refine Spec.step (State.setMode_spec _ _ _) rfl ?_
      exact h6
  clear_value x8
  refine Spec.step (State.placeShowAll_spec _) rfl ?_
  refine Spec.step (State.fabRefresh_spec _) rfl ?_
  exact h9

theorem State.commitLast_spec : ∀ a0 a1, Spec 0xf13cfe00000000000000000000008422000000050000000a000000009570aa80380823 a0 (State.commitLast a0 a1) := by
  intro a0 a1
  delta State.commitLast
  refine Spec.step (State.engRefresh_spec _) rfl ?_
  refine Spec.step (State.commitRest_spec _ _ _ _) rfl ?_
  exact Spec.refl

theorem State.commitReady_spec : ∀ a0 a1 a2 a3, Spec 0xb03cec00000000000000000000000022000000000000000a000000009500aa80000000 a0 (State.commitReady a0 a1 a2 a3) := by
  intro a0 a1 a2 a3
  delta State.commitReady
  extract_lets -underBinder -merge -useContext +onlyGivenNames x0
  have h1 : Spec 0xb03cec00000000000000000000000022000000000000000a000000009500aa80000000 a0 x0 := by
    exact Spec.refl
  clear_value x0
  extract_lets -underBinder -merge -useContext +onlyGivenNames x2
  clear_value x2
  extract_lets -underBinder -merge -useContext +onlyGivenNames x3
  clear_value x3
  extract_lets -underBinder -merge -useContext +onlyGivenNames x4
  have h7 : Spec 0xb03cec00000000000000000000000022000000000000000a000000009500aa80000000 a0 x4 := by
    refine Spec.fold _ ?_ ?_
    · intro t5 i6
      try dsimp -zeta only
      refine Spec.ite ?_ ?_
      · refine Spec.step (State.tribOut_spec _ _) rfl ?_
        exact Spec.refl
      · exact Spec.refl
    · exact Spec.refl
  clear_value x4
  extract_lets -underBinder -merge -useContext +onlyGivenNames x8
  have h11 : Spec 0xb03cec00000000000000000000000022000000000000000a000000009500aa80000000 a0 x8 := by
    refine Spec.fold _ ?_ ?_
    · intro t9 i10
      try dsimp -zeta only
      refine Spec.step (State.commitPort_spec _ _ _ _) rfl ?_
      exact Spec.refl
    · exact h7
  clear_value x8
  extract_lets -underBinder -merge -useContext +onlyGivenNames x12
  have h16 : Spec 0xb03cec00000000000000000000000022000000000000000a000000009500aa80000000 a0 x12 := by
    refine Spec.fold _ ?_ ?_
    · intro t13 i14
      try dsimp -zeta only
      extract_lets -underBinder -merge -useContext +onlyGivenNames x15
      clear_value x15
      refine Spec.ite ?_ ?_
      · exact Spec.refl
      · refine Spec.step (State.commitTrib_spec _ _ _ _ _) rfl ?_
        exact Spec.refl
    · exact h11
  clear_value x12
  extract_lets -underBinder -merge -useContext +onlyGivenNames x17
  have h20 : Spec 0xb03cec00000000000000000000000022000000000000000a000000009500aa80000000 a0 x17 := by
    refine Spec.fold _ ?_ ?_
    · intro t18 i19
      try dsimp -zeta only
      refine Spec.ite ?_ ?_
      · refine Spec.step (State.lineFault_spec _ _ _) rfl ?_
        exact Spec.refl
      · exact Spec.refl
    · exact h16
  clear_value x17
  refine Spec.step (State.bridgeRefresh_spec _) rfl ?_
  refine Spec.step (State.clientsAfter_spec _ _) rfl ?_
  exact h20

theorem State.commitAtSfm_spec : ∀ a0 a1, Spec 0xf13cfe00000000000000000000008422000000050000000a001000009570aa80781ba3 a0 (State.commitAtSfm a0 a1) := by
  intro a0 a1
  delta State.commitAtSfm
  split
  · exact Spec.refl
  · refine Spec.ite ?_ ?_
    · exact Spec.refl
    · extract_lets -underBinder -merge -useContext +onlyGivenNames x0
      clear_value x0
      extract_lets -underBinder -merge -useContext +onlyGivenNames x1
      have h2 : Spec 0xf13cfe00000000000000000000008422000000050000000a001000009570aa80781ba3 a0 x1 := by
        refine Spec.step (State.commitEng_spec _ _ _ _) rfl ?_
        exact Spec.refl
      clear_value x1
      extract_lets -underBinder -merge -useContext +onlyGivenNames x3
      clear_value x3
      extract_lets -underBinder -merge -useContext +onlyGivenNames x4
      clear_value x4
      extract_lets -underBinder -merge -useContext +onlyGivenNames x5
      have h6 : Spec 0xf13cfe00000000000000000000008422000000050000000a001000009570aa80781ba3 a0 x5 := by
        exact (Spec.set_mode rfl h2)
      clear_value x5
      refine Spec.ite ?_ ?_
      · refine Spec.step (State.commitLast_spec _ _) rfl ?_
        exact h6
      · refine Spec.step (State.fabRefresh_spec _) rfl ?_
        refine Spec.step (State.commitReady_spec _ _ _ _) rfl ?_
        exact h6

theorem State.commitIdle_spec : ∀ a0, Spec 0xf13cfe00000000000000000000008422000000050000000a001000009570aa80781ba3 a0 (State.commitIdle a0) := by
  intro a0
  delta State.commitIdle
  refine Spec.fold _ ?_ ?_
  · intro t0 i1
    try dsimp -zeta only
    refine Spec.ite ?_ ?_
    · exact Spec.refl
    · refine Spec.step (State.commitAtSfm_spec _ _) rfl ?_
      exact Spec.refl
  · exact Spec.refl

theorem State.modeDone_spec : ∀ a0 a1 a2 a3 a4, Spec 0x14000000000000000000000000040000000000000000000000000000000000000000 a0 (State.modeDone a0 a1 a2 a3 a4) := by
  intro a0 a1 a2 a3 a4
  delta State.modeDone
  extract_lets -underBinder -merge -useContext +onlyGivenNames x0
  clear_value x0
  split
  · exact Spec.refl
  · extract_lets -underBinder -merge -useContext +onlyGivenNames x1
    clear_value x1
    extract_lets -underBinder -merge -useContext +onlyGivenNames x2
    have h3 : Spec 0x14000000000000000000000000040000000000000000000000000000000000000000 a0 x2 := by
      exact (Spec.set_mode rfl Spec.refl)
    clear_value x2
    refine Spec.step (State.done_spec _ _ _ _ _) rfl ?_
    refine Spec.step (State.wr_spec _ _ _ _) rfl ?_
    exact h3

theorem State.modeAbort_spec : ∀ a0, Spec 0x14000000000000000000000000040000000000000000000000000000000000000000 a0 (State.modeAbort a0) := by
  intro a0
  delta State.modeAbort
  split
  · exact Spec.refl
  · extract_lets -underBinder -merge -useContext +onlyGivenNames x0
    clear_value x0
    extract_lets -underBinder -merge -useContext +onlyGivenNames x1
    have h2 : Spec 0x14000000000000000000000000040000000000000000000000000000000000000000 a0 x1 := by
      refine Spec.step (State.wr_spec _ _ _ _) rfl ?_
      exact (Spec.set_mode rfl Spec.refl)
    clear_value x1
    refine Spec.ite ?_ ?_
    · refine Spec.step (State.modeDone_spec _ _ _ _ _) rfl ?_
      exact h2
    · refine Spec.step (State.modeDone_spec _ _ _ _ _) rfl ?_
      exact h2

theorem State.mirrorClear_spec : ∀ a0, Spec 0x20000000000000000000000000000000000000000000000000000004000000000000 a0 (State.mirrorClear a0) := by
  intro a0
  delta State.mirrorClear
  refine Spec.step (State.wr_spec _ _ _ _) rfl ?_
  exact (Spec.set_pair rfl Spec.refl)

theorem State.modeRefused_spec : ∀ a0 a1 a2 a3, Spec 0xb01c0c00000000000000000000000422000000000000000a0000000000000000000000 a0 (State.modeRefused a0 a1 a2 a3) := by
  intro a0 a1 a2 a3
  delta State.modeRefused
  extract_lets -underBinder -merge -useContext +onlyGivenNames x0
  clear_value x0
  extract_lets -underBinder -merge -useContext +onlyGivenNames x1
  have h2 : Spec 0xb01c0c00000000000000000000000422000000000000000a0000000000000000000000 a0 x1 := by
    refine Spec.step (State.raiseCountPerf_spec _ _ _ _ _) rfl ?_
    exact Spec.refl
  clear_value x1
  refine Spec.step (State.modeDone_spec _ _ _ _ _) rfl ?_
  exact h2

theorem State.commitNow_spec : ∀ a0 a1 a2 a3, Spec 0xf17cfe00000000000000000000008422000000050000000a001400209570aa80781ba3 a0 (State.commitNow a0 a1 a2 a3) := by
  intro a0 a1 a2 a3
  delta State.commitNow
  extract_lets -underBinder -merge -useContext +onlyGivenNames x0
  clear_value x0
  extract_lets -underBinder -merge -useContext +onlyGivenNames x1
  have h2 : Spec 0xf17cfe00000000000000000000008422000000050000000a001400209570aa80781ba3 a0 x1 := by
    refine Spec.step (State.setMode_spec _ _ _) rfl ?_
    exact Spec.refl
  clear_value x1
  extract_lets -underBinder -merge -useContext +onlyGivenNames x3
  have h6 : Spec 0xf17cfe00000000000000000000008422000000050000000a001400209570aa80781ba3 a0 x3 := by
    refine Spec.fold _ ?_ ?_
    · intro t4 i5
      try dsimp -zeta only
      refine Spec.step (State.commitEng_spec _ _ _ _) rfl ?_
      exact Spec.refl
    · exact h2
  clear_value x3
  extract_lets -underBinder -merge -useContext +onlyGivenNames x7
  have h10 : Spec 0xf17cfe00000000000000000000008422000000050000000a001400209570aa80781ba3 a0 x7 := by
    refine Spec.ite ?_ ?_
    · refine Spec.step (State.setMode_spec _ _ _) rfl ?_
      refine Spec.step (State.commitClients_spec _ _ _) rfl ?_
      refine Spec.fold _ ?_ ?_
      · intro t8 i9
        try dsimp -zeta only
        refine Spec.step (State.commitEng_spec _ _ _ _) rfl ?_
        exact Spec.refl
      · exact Spec.refl
    · refine Spec.ite ?_ ?_
      · refine Spec.step (State.d0Follow_spec _) rfl ?_
        refine Spec.step (State.setMode_spec _ _ _) rfl ?_
        refine Spec.step (State.mirrorClear_spec _) rfl ?_
        exact Spec.refl
      · refine Spec.step (State.commitRest_spec _ _ _ _) rfl ?_
        exact h6
  clear_value x7
  extract_lets -underBinder -merge -useContext +onlyGivenNames x11
  have h12 : Spec 0xf17cfe00000000000000000000008422000000050000000a001400209570aa80781ba3 a0 x11 := by
    refine Spec.ite ?_ ?_
    · refine Spec.step (State.d0LeaveFollow_spec _) rfl ?_
      refine Spec.step (State.mirrorClear_spec _) rfl ?_
      exact h10
    · exact h10
  clear_value x11
  refine Spec.step (State.engRefresh_spec _) rfl ?_
  exact h12

theorem State.withdrawAll_spec : ∀ a0, Spec 0x10100000000000000000000000000000000000000000000000000000200000000000 a0 (State.withdrawAll a0) := by
  intro a0
  delta State.withdrawAll
  refine Spec.fold _ ?_ ?_
  · intro t0 i1
    try dsimp -zeta only
    refine Spec.ite ?_ ?_
    · refine Spec.step (State.setSw_spec _ _ _) rfl ?_
      refine Spec.step (State.withdraw_spec _ _) rfl ?_
      exact Spec.refl
    · exact Spec.refl
  · exact Spec.refl

theorem State.transBegin_spec : ∀ a0 a1, Spec 0xf13cfe00000000000000000000008422000000050000000a001000009570aa80781ba3 a0 (State.transBegin a0 a1) := by
  intro a0 a1
  delta State.transBegin
  extract_lets -underBinder -merge -useContext +onlyGivenNames x0
  clear_value x0
  extract_lets -underBinder -merge -useContext +onlyGivenNames x1
  clear_value x1
  extract_lets -underBinder -merge -useContext +onlyGivenNames x2
  have h3 : Spec 0xf13cfe00000000000000000000008422000000050000000a001000009570aa80781ba3 a0 x2 := by
    exact (Spec.set_mode rfl Spec.refl)
  clear_value x2
  extract_lets -underBinder -merge -useContext +onlyGivenNames x4
  have h5 : Spec 0xf13cfe00000000000000000000008422000000050000000a001000009570aa80781ba3 a0 x4 := by
    refine Spec.ite ?_ ?_
    · refine Spec.step (State.withdrawAll_spec _) rfl ?_
      exact h3
    · exact h3
  clear_value x4
  extract_lets -underBinder -merge -useContext +onlyGivenNames x6
  have h9 : Spec 0xf13cfe00000000000000000000008422000000050000000a001000009570aa80781ba3 a0 x6 := by
    refine Spec.fold _ ?_ ?_
    · intro t7 i8
      try dsimp -zeta only
      refine Spec.step (State.commitEng_spec _ _ _ _) rfl ?_
      exact Spec.refl
    · exact h5
  clear_value x6
  refine Spec.ite ?_ ?_
  · refine Spec.step (State.commitLast_spec _ _) rfl ?_
    exact h9
  · exact h9

theorem State.modeStart_spec : ∀ a0 a1 a2 a3, Spec 0xf17cfe00000000000000000000008422000000050000000a001400209570aa80781ba3 a0 (State.modeStart a0 a1 a2 a3) := by
  intro a0 a1 a2 a3
  delta State.modeStart
  extract_lets -underBinder -merge -useContext +onlyGivenNames x0
  clear_value x0
  extract_lets -underBinder -merge -useContext +onlyGivenNames x1
  clear_value x1
  extract_lets -underBinder -merge -useContext +onlyGivenNames x2
  clear_value x2
  extract_lets -underBinder -merge -useContext +onlyGivenNames x3
  have h4 : Spec 0xf17cfe00000000000000000000008422000000050000000a001400209570aa80781ba3 a0 x3 := by
    refine Spec.step (State.wr_spec _ _ _ _) rfl ?_
    exact Spec.refl
  clear_value x3
  refine Spec.ite ?_ ?_
  · extract_lets -underBinder -merge -useContext +onlyGivenNames x5
    have h6 : Spec 0xf17cfe00000000000000000000008422000000050000000a001400209570aa80781ba3 a0 x5 := by
      refine Spec.step (State.commitNow_spec _ _ _ _) rfl ?_
      exact h4
    clear_value x5
    exact (Spec.set_mode rfl h6)
  · refine Spec.step (State.transBegin_spec _ _) rfl ?_
    exact h4

theorem State.modeRequest_spec : ∀ a0 a1 a2, Spec 0xf17cfe00000000000000000000008422000000050000000a001400209570aa80781ba3 a0 (State.modeRequest a0 a1 a2) := by
  intro a0 a1 a2
  delta State.modeRequest
  extract_lets -underBinder -merge -useContext +onlyGivenNames x0
  clear_value x0
  split
  · refine Spec.step (State.modeRefused_spec _ _ _ _) rfl ?_
    exact Spec.refl
  · refine Spec.ite ?_ ?_
    · refine Spec.step (State.modeDone_spec _ _ _ _ _) rfl ?_
      exact Spec.refl
    · refine Spec.step (State.modeStart_spec _ _ _ _) rfl ?_
      refine Spec.step (State.mirror_spec _ _ _ _) rfl ?_
      exact Spec.refl

theorem State.modeCheckOnly_spec : ∀ a0 a1 a2, Spec 0x4000000000000000000000000000000000000000000000000000000000000000000 a0 (State.modeCheckOnly a0 a1 a2) := by
  intro a0 a1 a2
  delta State.modeCheckOnly
  split
  · refine Spec.step (State.done_spec _ _ _ _ _) rfl ?_
    exact Spec.refl
  · refine Spec.step (State.done_spec _ _ _ _ _) rfl ?_
    exact Spec.refl

end Sys2Proof.Machine
end

