-- ==== Sys2Proof/Laws/Frames12.lean ====
section
/-! SUPPORT. What each operation and each command of the files Machine/ProtOps, PairSw, SecOps can do: one lemma each,
`<name>_spec`, whose first argument is the footprint (Laws/Spec.lean). -/
namespace Sys2Proof.Machine

theorem State.protSend_spec : ∀ a0 a1 a2 a3, Spec 0x100000000000000000000000000000000000000000000000000000000000000000 a0 (State.protSend a0 a1 a2 a3) := by
  intro a0 a1 a2 a3
  delta State.protSend
  refine Spec.step (State.modTx_spec _ _ _) rfl ?_
  exact Spec.refl

theorem State.protRefresh_spec : ∀ a0 a1, Spec 0x100000000000000000000000000000000000000000000000000000000000000000 a0 (State.protRefresh a0 a1) := by
  intro a0 a1
  delta State.protRefresh
  extract_lets -underBinder -merge -useContext +onlyGivenNames x0
  clear_value x0
  refine Spec.ite ?_ ?_
  · exact Spec.refl
  · refine Spec.step (State.protSend_spec _ _ _ _) rfl ?_
    exact Spec.refl

theorem State.readyRefresh_spec : ∀ a0, Spec 0x4000000000000 a0 (State.readyRefresh a0) := by
  intro a0
  delta State.readyRefresh
  refine Spec.step (State.wr_spec _ _ _ _) rfl ?_
  exact Spec.refl

theorem State.swDone_spec : ∀ a0 a1 a2 a3, Spec 0x14000000000000000000000000000000000000000000000000000000000000000000 a0 (State.swDone a0 a1 a2 a3) := by
  intro a0 a1 a2 a3
  delta State.swDone
  refine Spec.step (State.done_spec _ _ _ _ _) rfl ?_
  exact (Spec.set_mode rfl Spec.refl)

theorem State.sendCmd_spec : ∀ a0 a1 a2 a3 a4 a5, Spec 0x2020000000000000000000000000000000000000000000000000000000000000000000 a0 (State.sendCmd a0 a1 a2 a3 a4 a5) := by
  intro a0 a1 a2 a3 a4 a5
  delta State.sendCmd
  extract_lets -underBinder -merge -useContext +onlyGivenNames x0
  clear_value x0
  extract_lets -underBinder -merge -useContext +onlyGivenNames x1
  clear_value x1
  refine Spec.step (State.sendCell_spec _ _ _) rfl ?_
  refine Spec.step (State.modPair_spec _ _) rfl ?_
  exact Spec.refl

theorem State.clientTx_spec : ∀ a0 a1, Spec 0x2000c0000000000000000000000000000000000000000000000000000000a200000000 a0 (State.clientTx a0 a1) := by
  intro a0 a1
  delta State.clientTx
  extract_lets -underBinder -merge -useContext +onlyGivenNames x0
  have h1 : Spec 0x2000c0000000000000000000000000000000000000000000000000000000a200000000 a0 x0 := by
    exact Spec.refl
  clear_value x0
  refine Spec.step (State.fabRefresh_spec _) rfl ?_
  refine Spec.step (State.clientsAfter_spec _ _) rfl ?_
  refine Spec.fold _ ?_ ?_
  · intro t2 i3
    try dsimp -zeta only
    refine Spec.step (State.wr_spec _ _ _ _) rfl ?_
    exact Spec.refl
  · exact Spec.refl

theorem State.standDown_spec : ∀ a0 a1, Spec 0xf07cde00000000000000000000008422000000000000000a000400200400a200080802 a0 (State.standDown a0 a1) := by
  intro a0 a1
  delta State.standDown
  extract_lets -underBinder -merge -useContext +onlyGivenNames x0
  clear_value x0
  extract_lets -underBinder -merge -useContext +onlyGivenNames x1
  have h2 : Spec 0xf07cde00000000000000000000008422000000000000000a000400200400a200080802 a0 x1 := by
    refine Spec.step (State.modPair_spec _ _) rfl ?_
    refine Spec.step (State.modeAbort_spec _) rfl ?_
    exact Spec.refl
  clear_value x1
  extract_lets -underBinder -merge -useContext +onlyGivenNames x3
  have h4 : Spec 0xf07cde00000000000000000000008422000000000000000a000400200400a200080802 a0 x3 := by
    refine Spec.step (State.modPair_spec _ _) rfl ?_
    refine Spec.step (State.setMode_spec _ _ _) rfl ?_
    refine Spec.step (State.mirrorClear_spec _) rfl ?_
    exact h2
  clear_value x3
  extract_lets -underBinder -merge -useContext +onlyGivenNames x5
  have h6 : Spec 0xf07cde00000000000000000000008422000000000000000a000400200400a200080802 a0 x5 := by
    refine Spec.ite ?_ ?_
    · exact h4
    · refine Spec.step (State.modPair_spec _ _) rfl ?_
      refine Spec.step (State.wr_spec _ _ _ _) rfl ?_
      exact h4
  clear_value x5
  refine Spec.step (State.wr_spec _ _ _ _) rfl ?_
  refine Spec.step (State.d0Follow_spec _) rfl ?_
  refine Spec.step (State.clientTx_spec _ _) rfl ?_
  exact h6

theorem State.switchAct_spec : ∀ a0 a1 a2 a3, Spec 0xf07cde00000000000000000000008422000000000000000a000400200400a200080802 a0 (State.switchAct a0 a1 a2 a3) := by
  intro a0 a1 a2 a3
  delta State.switchAct
  split
  · refine Spec.step (State.modPair_spec _ _) rfl ?_
    refine Spec.step (State.wr_spec _ _ _ _) rfl ?_
    exact Spec.refl
  · refine Spec.step (State.wr_spec _ _ _ _) rfl ?_
    exact Spec.refl
  · refine Spec.step (State.sendCmd_spec _ _ _ _ _ _) rfl ?_
    refine Spec.step (State.standDown_spec _ _) rfl ?_
    exact Spec.refl

theorem State.sendCack_spec : ∀ a0 a1 a2 a3, Spec 0x2000000000000000000000000000000000000000000000000000000000000000000000 a0 (State.sendCack a0 a1 a2 a3) := by
  intro a0 a1 a2 a3
  delta State.sendCack
  refine Spec.step (State.sendCell_spec _ _ _) rfl ?_
  exact Spec.refl

theorem State.takeover_spec : ∀ a0, Spec 0xf17cde00000000000000000000008422000000050000000a000400201420a200380822 a0 (State.takeover a0) := by
  intro a0
  delta State.takeover
  refine Spec.ite ?_ ?_
  · exact Spec.refl
  · extract_lets -underBinder -merge -useContext +onlyGivenNames x0
    clear_value x0
    extract_lets -underBinder -merge -useContext +onlyGivenNames x1
    clear_value x1
    extract_lets -underBinder -merge -useContext +onlyGivenNames x2
    have h3 : Spec 0xf17cde00000000000000000000008422000000050000000a000400201420a200380822 a0 x2 := by
      refine Spec.step (State.setMode_spec _ _ _) rfl ?_
      refine Spec.step (State.modeAbort_spec _) rfl ?_
      exact Spec.refl
    clear_value x2
    extract_lets -underBinder -merge -useContext +onlyGivenNames x4
    have h5 : Spec 0xf17cde00000000000000000000008422000000050000000a000400201420a200380822 a0 x4 := by
      refine Spec.step (State.modPair_spec _ _) rfl ?_
      exact h3
    clear_value x4
    extract_lets -underBinder -merge -useContext +onlyGivenNames x6
    have h7 : Spec 0xf17cde00000000000000000000008422000000050000000a000400201420a200380822 a0 x6 := by
      refine Spec.step (State.actRefresh_spec _) rfl ?_
      exact h5
    clear_value x6
    extract_lets -underBinder -merge -useContext +onlyGivenNames x8
    have h11 : Spec 0xf17cde00000000000000000000008422000000050000000a000400201420a200380822 a0 x8 := by
      refine Spec.fold _ ?_ ?_
      · intro t9 i10
        try dsimp -zeta only
        refine Spec.step (State.protSend_spec _ _ _ _) rfl ?_
        refine Spec.step (State.modTx_spec _ _ _) rfl ?_
        exact Spec.refl
      · exact h7
    clear_value x8
    extract_lets -underBinder -merge -useContext +onlyGivenNames x12
    have h13 : Spec 0xf17cde00000000000000000000008422000000050000000a000400201420a200380822 a0 x12 := by
      refine Spec.step (State.readyRefresh_spec _) rfl ?_
      refine Spec.step (State.engRefresh_spec _) rfl ?_
      refine Spec.step (State.d0Takeover_spec _) rfl ?_
      refine Spec.step (State.clientTx_spec _ _) rfl ?_
      exact h11
    clear_value x12
    refine Spec.step (State.raiseReg_spec _ _ _ _) rfl ?_
    exact h13

theorem State.faultYield_spec : ∀ a0 a1, Spec 0xf07cde00000000000000000000008422000000000000000a000400201400a200080802 a0 (State.faultYield a0 a1) := by
  intro a0 a1
  delta State.faultYield
  refine Spec.ite ?_ ?_
  · refine Spec.ite ?_ ?_
    · refine Spec.step (State.sendCmd_spec _ _ _ _ _ _) rfl ?_
      refine Spec.step (State.standDown_spec _ _) rfl ?_
      exact Spec.refl
    · refine Spec.step (State.raiseReg_spec _ _ _ _) rfl ?_
      exact Spec.refl
  · refine Spec.ite ?_ ?_
    · refine Spec.step (State.wr_spec _ _ _ _) rfl ?_
      refine Spec.step (State.modPair_spec _ _) rfl ?_
      exact Spec.refl
    · exact Spec.refl

-- MANUAL Sys2Proof.Machine.State.asInForce: wrs field

theorem State.sendImageOn_spec : ∀ a0 a1, Spec 0x2020000000000000000000000000000000000000000000000000000000000000000000 a0 (State.sendImageOn a0 a1) := by
  intro a0 a1
  delta State.sendImageOn
  extract_lets -underBinder -merge -useContext +onlyGivenNames x0
  clear_value x0
  extract_lets -underBinder -merge -useContext +onlyGivenNames x1
  clear_value x1
  extract_lets -underBinder -merge -useContext +onlyGivenNames x2
  clear_value x2
  extract_lets -underBinder -merge -useContext +onlyGivenNames x3
  have h4 : Spec 0x2020000000000000000000000000000000000000000000000000000000000000000000 a0 x3 := by
    refine Spec.step (State.modPair_spec _ _) rfl ?_
    exact Spec.refl
  clear_value x3
  extract_lets -underBinder -merge -useContext +onlyGivenNames x5
  clear_value x5
  refine Spec.fold _ ?_ ?_
  · intro t6 i7
    try dsimp -zeta only
    refine Spec.step (State.sendCellOf_spec _ _ _ _) rfl ?_
    exact Spec.refl
  · exact h4

theorem State.sendImage_spec : ∀ a0, Spec 0x2020000000000000000000000000000000000000000000000000000000000000000000 a0 (State.sendImage a0) := by
  intro a0
  delta State.sendImage
  refine Spec.step (State.sendImageOn_spec _ _) rfl ?_
  exact Spec.refl

theorem State.mirAcked_spec : ∀ a0 a1 a2, Spec 0x2020000000000000000000000000000000000000000000000000000000000000000000 a0 (State.mirAcked a0 a1 a2) := by
  intro a0 a1 a2
  delta State.mirAcked
  extract_lets -underBinder -merge -useContext +onlyGivenNames x0
  clear_value x0
  extract_lets -underBinder -merge -useContext +onlyGivenNames x1
  clear_value x1
  extract_lets -underBinder -merge -useContext +onlyGivenNames x2
  clear_value x2
  extract_lets -underBinder -merge -useContext +onlyGivenNames x3
  have h4 : Spec 0x2020000000000000000000000000000000000000000000000000000000000000000000 a0 x3 := by
    refine Spec.step (State.modPair_spec _ _) rfl ?_
    exact Spec.refl
  clear_value x3
  refine Spec.ite ?_ ?_
  · refine Spec.step (State.sendImage_spec _) rfl ?_
    exact h4
  · exact h4

theorem State.judge_spec : ∀ a0, Spec 0xf17cde00000000000000000000008422000000050000000a000400201420a200380822 a0 (State.judge a0) := by
  intro a0
  delta State.judge
  refine Spec.ite ?_ ?_
  · exact Spec.refl
  · refine Spec.ite ?_ ?_
    · refine Spec.step (State.takeover_spec _) rfl ?_
      exact Spec.refl
    · refine Spec.ite ?_ ?_
      · refine Spec.step (State.raiseReg_spec _ _ _ _) rfl ?_
        exact Spec.refl
      · refine Spec.ite ?_ ?_
        · refine Spec.step (State.raiseReg_spec _ _ _ _) rfl ?_
          exact Spec.refl
        · exact Spec.refl

theorem State.modPwr_spec : ∀ a0 a1, Spec 0x200000000000000000000000000000000000000000000000000000000000000000000 a0 (State.modPwr a0 a1) := by
  intro a0 a1
  delta State.modPwr
  exact (Spec.set_pwr rfl Spec.refl)

theorem State.modSec_spec : ∀ a0 a1, Spec 0x800000000000000000000000000000000000000000000000000000000000000000000 a0 (State.modSec a0 a1) := by
  intro a0 a1
  delta State.modSec
  exact (Spec.set_sec rfl Spec.refl)

theorem State.fuseKeys_spec : ∀ a0 a1 a2, Spec 0x2010000000000000000000000000000000000000000000400000000000000000000 a0 (State.fuseKeys a0 a1 a2) := by
  intro a0 a1 a2
  delta State.fuseKeys
  split
  · extract_lets -underBinder -merge -useContext +onlyGivenNames x0
    clear_value x0
    exact (Spec.trans Spec.refl (Spec.set_fuse rfl rfl (by first | exact id | exact flashErase_wf | exact flashProgram_wf)))
  · refine Spec.step (State.purgeAll_spec _) rfl ?_
    exact (Spec.trans Spec.refl (Spec.set_fuse rfl rfl (by first | exact id | exact flashErase_wf | exact flashProgram_wf)))
  · exact Spec.refl

theorem State.burnCut_spec : ∀ a0, Spec 0x4802010000000000000000000000000000000000000000000400000000000000000000 a0 (State.burnCut a0) := by
  intro a0
  delta State.burnCut
  split
  · exact Spec.refl
  · extract_lets -underBinder -merge -useContext +onlyGivenNames x0
    clear_value x0
    extract_lets -underBinder -merge -useContext +onlyGivenNames x1
    have h2 : Spec 0x4802010000000000000000000000000000000000000000000400000000000000000000 a0 x1 := by
      refine Spec.step (State.modSec_spec _ _) rfl ?_
      refine Spec.step (State.tick_spec _) rfl ?_
      exact Spec.refl
    clear_value x1
    extract_lets -underBinder -merge -useContext +onlyGivenNames x3
    extract_lets -underBinder -merge -useContext +onlyGivenNames x4
    have h5 : Spec 0x4802010000000000000000000000000000000000000000000400000000000000000000 a0 x4 := by
      exact (Spec.trans h2 (Spec.set_fuse rfl rfl (by first | exact id | exact flashErase_wf | exact flashProgram_wf)))
    clear_value x4
    refine Spec.ite ?_ ?_
    · refine Spec.step (State.fuseKeys_spec _ _ _) rfl ?_
      exact h5
    · exact h5

theorem State.hostPrivDrop_spec : ∀ a0, Spec 0x40000000000000000000000000000000000 a0 (State.hostPrivDrop a0) := by
  intro a0
  delta State.hostPrivDrop
  refine Spec.step (State.wr_spec _ _ _ _) rfl ?_
  exact Spec.refl

theorem State.lcRefuse_spec : ∀ a0, Spec 0xb00c0c00000000000000000000000022002800000000000a0000000000000000000000 a0 (State.lcRefuse a0) := by
  intro a0
  delta State.lcRefuse
  refine Spec.step (State.raiseReg_spec _ _ _ _) rfl ?_
  refine Spec.step (State.wr_spec _ _ _ _) rfl ?_
  exact Spec.refl

theorem State.lcReq_spec : ∀ a0 a1 a2, Spec 0xb80c0c00000000000000000000000022002800000000000a0000000000000000000000 a0 (State.lcReq a0 a1 a2) := by
  intro a0 a1 a2
  delta State.lcReq
  refine Spec.ite ?_ ?_
  · exact Spec.refl
  · extract_lets -underBinder -merge -useContext +onlyGivenNames x0
    clear_value x0
    refine Spec.ite ?_ ?_
    · refine Spec.step (State.modSec_spec _ _) rfl ?_
      exact Spec.refl
    · refine Spec.step (State.lcRefuse_spec _) rfl ?_
      exact Spec.refl

theorem State.trapRefuse_spec : ∀ a0 a1, Spec 0xb00c0c00000000000000000000000022003000000000000a0000000000000000000000 a0 (State.trapRefuse a0 a1) := by
  intro a0 a1
  delta State.trapRefuse
  refine Spec.step (State.raiseCountReg_spec _ _ _ _ _ _) rfl ?_
  refine Spec.step (State.wr_spec _ _ _ _) rfl ?_
  exact Spec.refl

theorem State.modTrap_spec : ∀ a0 a1, Spec 0x800000000000000000000000000000000000000000000000000000000000000000000 a0 (State.modTrap a0 a1) := by
  intro a0 a1
  delta State.modTrap
  refine Spec.step (State.modSec_spec _ _) rfl ?_
  exact Spec.refl

theorem State.trapTake_spec : ∀ a0 a1, Spec 0x800000000000000000000000000000000100000000000000000000000000000000000 a0 (State.trapTake a0 a1) := by
  intro a0 a1
  delta State.trapTake
  extract_lets -underBinder -merge -useContext +onlyGivenNames x0
  clear_value x0
  extract_lets -underBinder -merge -useContext +onlyGivenNames x1
  clear_value x1
  extract_lets -underBinder -merge -useContext +onlyGivenNames x2
  clear_value x2
  extract_lets -underBinder -merge -useContext +onlyGivenNames x3
  have h4 : Spec 0x800000000000000000000000000000000100000000000000000000000000000000000 a0 x3 := by
    refine Spec.step (State.modTrap_spec _ _) rfl ?_
    exact Spec.refl
  clear_value x3
  refine Spec.step (State.wr_spec _ _ _ _) rfl ?_
  exact h4

theorem State.submitPcie_spec : ∀ a0, Spec 0xb80c0c00000000000000000000000022003000000000000a0000000000000000000000 a0 (State.submitPcie a0) := by
  intro a0
  delta State.submitPcie
  split
  · refine Spec.step (State.trapRefuse_spec _ _) rfl ?_
    refine Spec.step (State.modTrap_spec _ _) rfl ?_
    exact Spec.refl
  · exact Spec.refl
  · refine Spec.ite ?_ ?_
    · refine Spec.step (State.trapRefuse_spec _ _) rfl ?_
      refine Spec.step (State.modTrap_spec _ _) rfl ?_
      exact Spec.refl
    · refine Spec.step (State.trapTake_spec _ _) rfl ?_
      exact Spec.refl

theorem State.trapDrop_spec : ∀ a0, Spec 0xb80c0c00000000000000000000000022003000000000000a0000000000000000000000 a0 (State.trapDrop a0) := by
  intro a0
  delta State.trapDrop
  refine Spec.step (State.trapRefuse_spec _ _) rfl ?_
  refine Spec.step (State.wr_spec _ _ _ _) rfl ?_
  refine Spec.step (State.modTrap_spec _ _) rfl ?_
  exact Spec.refl

theorem State.submitTest_spec : ∀ a0, Spec 0xb80c0c00000000000000000000000022003000000000000a0000000000000000000000 a0 (State.submitTest a0) := by
  intro a0
  delta State.submitTest
  split
  · refine Spec.step (State.trapTake_spec _ _) rfl ?_
    exact Spec.refl
  · refine Spec.step (State.trapTake_spec _ _) rfl ?_
    refine Spec.step (State.trapDrop_spec _) rfl ?_
    exact Spec.refl
  · exact Spec.refl

theorem State.trapShut_spec : ∀ a0, Spec 0xb80c0c00000000000000000000000022002400000000000a0000000000000000000000 a0 (State.trapShut a0) := by
  intro a0
  delta State.trapShut
  refine Spec.ite ?_ ?_
  · exact Spec.refl
  · extract_lets -underBinder -merge -useContext +onlyGivenNames x0
    have h1 : Spec 0xb80c0c00000000000000000000000022002400000000000a0000000000000000000000 a0 x0 := by
      refine Spec.wrs_cons ?_
      refine Spec.wrs_cons ?_
      refine Spec.wrs_cons ?_
      refine Spec.wrs_nil ?_
      refine Spec.step (State.wr_spec _ _ _ _) rfl ?_
      refine Spec.step (State.wr_spec _ _ _ _) rfl ?_
      refine Spec.step (State.wr_spec _ _ _ _) rfl ?_
      exact Spec.refl
    clear_value x0
    refine Spec.step (State.raiseReg_spec _ _ _ _) rfl ?_
    refine Spec.step (State.modTrap_spec _ _) rfl ?_
    exact h1

theorem State.trapClose_spec : ∀ a0 a1, Spec 0xb80c0c00000000000000000000000022002400000000000a0000000000000000000000 a0 (State.trapClose a0 a1) := by
  intro a0 a1
  delta State.trapClose
  refine Spec.ite ?_ ?_
  · refine Spec.step (State.trapShut_spec _) rfl ?_
    exact Spec.refl
  · exact Spec.refl

theorem State.nonceReq_spec : ∀ a0 a1, Spec 0x4800000000000000000000000000000002000000000000000000000000000000000000 a0 (State.nonceReq a0 a1) := by
  intro a0 a1
  delta State.nonceReq
  extract_lets -underBinder -merge -useContext +onlyGivenNames x0
  clear_value x0
  extract_lets -underBinder -merge -useContext +onlyGivenNames x1
  have h2 : Spec 0x4800000000000000000000000000000002000000000000000000000000000000000000 a0 x1 := by
    refine Spec.step (State.tick_spec _) rfl ?_
    exact Spec.refl
  clear_value x1
  refine Spec.ite ?_ ?_
  · refine Spec.step (State.setRegBytes_spec _ _ _ _ _) rfl ?_
    refine Spec.step (State.modTrap_spec _ _) rfl ?_
    exact h2
  · refine Spec.step (State.modTrap_spec _ _) rfl ?_
    exact h2

theorem State.extend_spec : ∀ a0 a1 a2, Spec 0x4000000000000000000000000000000000000 a0 (State.extend a0 a1 a2) := by
  intro a0 a1 a2
  delta State.extend
  refine Spec.step (State.setRegBytes_spec _ _ _ _ _) rfl ?_
  exact Spec.refl

theorem State.trapOpen_spec : ∀ a0 a1 a2 a3, Spec 0xb80e0c00000000000000000000000022002400000000000a0400000000000000000000 a0 (State.trapOpen a0 a1 a2 a3) := by
  intro a0 a1 a2 a3
  delta State.trapOpen
  extract_lets -underBinder -merge -useContext +onlyGivenNames x0
  have h1 : Spec 0xb80e0c00000000000000000000000022002400000000000a0400000000000000000000 a0 x0 := by
    refine Spec.wrs_cons ?_
    refine Spec.wrs_cons ?_
    refine Spec.wrs_cons ?_
    refine Spec.wrs_nil ?_
    refine Spec.step (State.wr_spec _ _ _ _) rfl ?_
    refine Spec.step (State.wr_spec _ _ _ _) rfl ?_
    refine Spec.step (State.wr_spec _ _ _ _) rfl ?_
    exact Spec.refl
  clear_value x0
  extract_lets -underBinder -merge -useContext +onlyGivenNames x2
  have h3 : Spec 0xb80e0c00000000000000000000000022002400000000000a0400000000000000000000 a0 x2 := by
    refine Spec.step (State.modTrap_spec _ _) rfl ?_
    exact h1
  clear_value x2
  extract_lets -underBinder -merge -useContext +onlyGivenNames x4
  have h5 : Spec 0xb80e0c00000000000000000000000022002400000000000a0400000000000000000000 a0 x4 := by
    refine Spec.ite ?_ ?_
    · refine Spec.step (State.purgeAll_spec _) rfl ?_
      exact h3
    · exact h3
  clear_value x4
  refine Spec.step (State.raiseReg_spec _ _ _ _) rfl ?_
  exact h5

theorem State.lcDone_spec : ∀ a0 a1 a2, Spec 0xb80e0d00000000000000000000000022042400000000000a0400000000000000000000 a0 (State.lcDone a0 a1 a2) := by
  intro a0 a1 a2
  delta State.lcDone
  extract_lets -underBinder -merge -useContext +onlyGivenNames x0
  have h1 : Spec 0xb80e0d00000000000000000000000022042400000000000a0400000000000000000000 a0 x0 := by
    refine Spec.step (State.modSec_spec _ _) rfl ?_
    exact Spec.refl
  clear_value x0
  extract_lets -underBinder -merge -useContext +onlyGivenNames x2
  have h3 : Spec 0xb80e0d00000000000000000000000022042400000000000a0400000000000000000000 a0 x2 := by
    refine Spec.step (State.fuseKeys_spec _ _ _) rfl ?_
    refine Spec.step (State.fuseLc_spec _ _) rfl ?_
    exact h1
  clear_value x2
  refine Spec.step (State.raiseReg_spec _ _ _ _) rfl ?_
  refine Spec.step (State.trapShut_spec _) rfl ?_
  refine Spec.step (State.extend_spec _ _ _) rfl ?_
  exact h3

end Sys2Proof.Machine
end

