-- ==== Sys2Proof/Laws/Frames13.lean ====
section
/-! SUPPORT. What each operation and each command of the files Machine/PowerOps, CelOps can do: one lemma each,
`<name>_spec`, whose first argument is the footprint (Laws/Spec.lean). -/
namespace Sys2Proof.Machine

theorem State.modCel_spec : ∀ a0 a1, Spec 0x400000000000000000000000000000000000000000000000000000000000000000000 a0 (State.modCel a0 a1) := by
  intro a0 a1
  delta State.modCel
  exact (Spec.set_cel rfl Spec.refl)

theorem State.wakeTxWrite_spec : ∀ a0 a1, Spec 0xf11c9e00000000000000000000000022000000850000000a0000000000200000300002 a0 (State.wakeTxWrite a0 a1) := by
  intro a0 a1
  delta State.wakeTxWrite
  extract_lets -underBinder -merge -useContext +onlyGivenNames x0
  have h1 : Spec 0xf11c9e00000000000000000000000022000000850000000a0000000000200000300002 a0 x0 := by
    refine Spec.wrs_cons ?_
    refine Spec.wrs_cons ?_
    refine Spec.wrs_cons ?_
    refine Spec.wrs_nil ?_
    refine Spec.step (State.wr_spec _ _ _ _) rfl ?_
    refine Spec.step (State.wr_spec _ _ _ _) rfl ?_
    refine Spec.step (State.wr_spec _ _ _ _) rfl ?_
    exact Spec.refl
  clear_value x0
  refine Spec.ite ?_ ?_
  · exact h1
  · extract_lets -underBinder -merge -useContext +onlyGivenNames x2
    clear_value x2
    extract_lets -underBinder -merge -useContext +onlyGivenNames x3
    have h6 : Spec 0xf11c9e00000000000000000000000022000000850000000a0000000000200000300002 a0 x3 := by
      refine Spec.fold _ ?_ ?_
      · intro t4 i5
        try dsimp -zeta only
        refine Spec.step (State.emit_spec _ _) rfl ?_
        refine Spec.step (State.txRefresh_spec _ _) rfl ?_
        refine Spec.step (State.modTx_spec _ _ _) rfl ?_
        exact Spec.refl
      · exact h1
    clear_value x3
    refine Spec.ite ?_ ?_
    · refine Spec.step (State.emit_spec _ _) rfl ?_
      exact h6
    · exact h6

theorem State.padsLive_spec : ∀ a0 a1, Spec 0x20000000000000000000000000000000000018000000000000000000000000000 a0 (State.padsLive a0 a1) := by
  intro a0 a1
  delta State.padsLive
  extract_lets -underBinder -merge -useContext +onlyGivenNames x0
  have h1 : Spec 0x20000000000000000000000000000000000018000000000000000000000000000 a0 x0 := by
    refine Spec.step (State.actRefresh_spec _) rfl ?_
    exact Spec.refl
  clear_value x0
  extract_lets -underBinder -merge -useContext +onlyGivenNames x2
  clear_value x2
  extract_lets -underBinder -merge -useContext +onlyGivenNames x3
  have h4 : Spec 0x20000000000000000000000000000000000018000000000000000000000000000 a0 x3 := by
    refine Spec.ite ?_ ?_
    · exact (Spec.set_pin rfl h1)
    · exact Spec.refl
  clear_value x3
  extract_lets -underBinder -merge -useContext +onlyGivenNames x5
  have h8 : Spec 0x20000000000000000000000000000000000018000000000000000000000000000 a0 x5 := by
    refine Spec.step (State.clkRefresh_spec _) rfl ?_
    refine Spec.fold _ ?_ ?_
    · intro t6 i7
      try dsimp -zeta only
      refine Spec.step (State.dacShow_spec _ _) rfl ?_
      exact Spec.refl
    · exact h4
  clear_value x5
  refine Spec.fold _ ?_ ?_
  · intro t9 i10
    try dsimp -zeta only
    refine Spec.step (State.aoutRefresh_spec _ _) rfl ?_
    exact Spec.refl
  · refine Spec.step (State.almRefresh_spec _) rfl ?_
    exact h8

theorem State.padRelease_spec : ∀ a0 a1, Spec 0x2008020000000000000000000000000000000100018000000000000000000000000000 a0 (State.padRelease a0 a1) := by
  intro a0 a1
  delta State.padRelease
  extract_lets -underBinder -merge -useContext +onlyGivenNames x0
  clear_value x0
  extract_lets -underBinder -merge -useContext +onlyGivenNames x1
  clear_value x1
  extract_lets -underBinder -merge -useContext +onlyGivenNames x2
  clear_value x2
  extract_lets -underBinder -merge -useContext +onlyGivenNames x3
  have h4 : Spec 0x2008020000000000000000000000000000000100018000000000000000000000000000 a0 x3 := by
    refine Spec.ite ?_ ?_
    · exact Spec.refl
    · refine Spec.step (State.setEv_spec _ _ _ _) rfl ?_
      exact Spec.refl
  clear_value x3
  refine Spec.ite ?_ ?_
  · exact h4
  · refine Spec.step (State.padsLive_spec _ _) rfl ?_
    refine Spec.step (State.wr_spec _ _ _ _) rfl ?_
    exact h4

theorem State.sramLost_spec : ∀ a0, Spec 0x1020d00000000000000000000000000000000000000000000000000000000000000000 a0 (State.sramLost a0) := by
  intro a0
  delta State.sramLost
  extract_lets -underBinder -merge -useContext +onlyGivenNames x0
  have h3 : Spec 0x1020d00000000000000000000000000000000000000000000000000000000000000000 a0 x0 := by
    refine Spec.fold _ ?_ ?_
    · intro t1 i2
      try dsimp -zeta only
      refine Spec.step (State.modTrib_spec _ _ _) rfl ?_
      exact Spec.refl
    · exact Spec.refl
  clear_value x0
  extract_lets -underBinder -merge -useContext +onlyGivenNames x4
  have h7 : Spec 0x1020d00000000000000000000000000000000000000000000000000000000000000000 a0 x4 := by
    refine Spec.fold _ ?_ ?_
    · intro t5 i6
      try dsimp -zeta only
      refine Spec.step (State.modGrp_spec _ _ _) rfl ?_
      exact Spec.refl
    · exact h3
  clear_value x4
  extract_lets -underBinder -merge -useContext +onlyGivenNames x8
  have h11 : Spec 0x1020d00000000000000000000000000000000000000000000000000000000000000000 a0 x8 := by
    refine Spec.fold _ ?_ ?_
    · intro t9 i10
      try dsimp -zeta only
      refine Spec.step (State.modFec_spec _ _ _) rfl ?_
      refine Spec.step (State.modTx_spec _ _ _) rfl ?_
      exact Spec.refl
    · exact h7
  clear_value x8
  extract_lets -underBinder -merge -useContext +onlyGivenNames x12
  have h13 : Spec 0x1020d00000000000000000000000000000000000000000000000000000000000000000 a0 x12 := by
    refine Spec.step (State.modPair_spec _ _) rfl ?_
    exact h11
  clear_value x12
  exact (Spec.set_perf rfl h13)

theorem State.padsFresh_spec : ∀ a0, Spec 0x100000000100000000000000000000000000000000 a0 (State.padsFresh a0) := by
  intro a0
  delta State.padsFresh
  refine Spec.wrs_cons ?_
  refine Spec.wrs_cons ?_
  refine Spec.wrs_nil ?_
  refine Spec.step (State.wr_spec _ _ _ _) rfl ?_
  refine Spec.step (State.wr_spec _ _ _ _) rfl ?_
  exact Spec.refl

theorem State.atRtc_spec : ∀ a0 a1, Spec 0x400000000000000000000000000000000000000000000000000000000000000000000 a0 (State.atRtc a0 a1) := by
  intro a0 a1
  delta State.atRtc
  refine Spec.step (State.modCel_spec _ _) rfl ?_
  exact Spec.refl

theorem State.hkSleep_spec : ∀ a0, Spec 0xb18c0c00000000000000000000000022000000090000004a0000000000000000000000 a0 (State.hkSleep a0) := by
  intro a0
  delta State.hkSleep
  refine Spec.step (State.hkShow_spec _) rfl ?_
  refine Spec.step (State.modHk_spec _ _) rfl ?_
  exact Spec.refl

theorem State.logShow_spec : ∀ a0, Spec 0x800000000000000000000000000000000 a0 (State.logShow a0) := by
  intro a0
  delta State.logShow
  refine Spec.step (State.wr_spec _ _ _ _) rfl ?_
  exact Spec.refl

theorem State.logAdd_spec : ∀ a0 a1 a2, Spec 0x400000000000000000000000000000000000800000000000000000000000000000000 a0 (State.logAdd a0 a1 a2) := by
  intro a0 a1 a2
  delta State.logAdd
  extract_lets -underBinder -merge -useContext +onlyGivenNames x0
  clear_value x0
  extract_lets -underBinder -merge -useContext +onlyGivenNames x1
  clear_value x1
  extract_lets -underBinder -merge -useContext +onlyGivenNames x2
  have h3 : Spec 0x400000000000000000000000000000000000800000000000000000000000000000000 a0 x2 := by
    refine Spec.step (State.modCel_spec _ _) rfl ?_
    exact Spec.refl
  clear_value x2
  extract_lets -underBinder -merge -useContext +onlyGivenNames x4
  have h5 : Spec 0x400000000000000000000000000000000000800000000000000000000000000000000 a0 x4 := by
    refine Spec.ite ?_ ?_
    · refine Spec.step (State.wr_spec _ _ _ _) rfl ?_
      exact h3
    · exact h3
  clear_value x4
  refine Spec.step (State.logShow_spec _) rfl ?_
  exact h5

theorem State.exitStart_spec : ∀ a0, Spec 0x600020000000000000000000000040000000810000000000000000000000000000000 a0 (State.exitStart a0) := by
  intro a0
  delta State.exitStart
  extract_lets -underBinder -merge -useContext +onlyGivenNames x0
  clear_value x0
  extract_lets -underBinder -merge -useContext +onlyGivenNames x1
  have h2 : Spec 0x600020000000000000000000000040000000810000000000000000000000000000000 a0 x1 := by
    refine Spec.step (State.modPwr_spec _ _) rfl ?_
    exact Spec.refl
  clear_value x1
  extract_lets -underBinder -merge -useContext +onlyGivenNames x3
  have h4 : Spec 0x600020000000000000000000000040000000810000000000000000000000000000000 a0 x3 := by
    refine Spec.wrs_cons ?_
    refine Spec.wrs_cons ?_
    refine Spec.wrs_nil ?_
    refine Spec.step (State.wr_spec _ _ _ _) rfl ?_
    refine Spec.step (State.wr_spec _ _ _ _) rfl ?_
    exact h2
  clear_value x3
  extract_lets -underBinder -merge -useContext +onlyGivenNames x5
  clear_value x5
  extract_lets -underBinder -merge -useContext +onlyGivenNames x6
  have h7 : Spec 0x600020000000000000000000000040000000810000000000000000000000000000000 a0 x6 := by
    refine Spec.ite ?_ ?_
    · exact (Spec.set_pin rfl h4)
    · exact h4
  clear_value x6
  refine Spec.step (State.logAdd_spec _ _ _) rfl ?_
  exact h7

theorem State.engSleep_spec : ∀ a0 a1, Spec 0xf11cde00000000000000000000000022000000050000000a001000000030a0003013a2 a0 (State.engSleep a0 a1) := by
  intro a0 a1
  delta State.engSleep
  extract_lets -underBinder -merge -useContext +onlyGivenNames x0
  have h1 : Spec 0xf11cde00000000000000000000000022000000050000000a001000000030a0003013a2 a0 x0 := by
    refine Spec.step (State.acqStop_spec _ _) rfl ?_
    refine Spec.step (State.txRefresh_spec _ _) rfl ?_
    refine Spec.step (State.applyAllShadows_spec _ _) rfl ?_
    exact Spec.refl
  clear_value x0
  refine Spec.step (State.modTx_spec _ _ _) rfl ?_
  refine Spec.step (State.chanDown_spec _ _) rfl ?_
  refine Spec.step (State.decSpoil_spec _ _) rfl ?_
  refine Spec.step (State.dropFmtFar_spec _ _) rfl ?_
  refine Spec.step (State.excessClear_spec _ _) rfl ?_
  refine Spec.step (State.clearDefects_spec _ _) rfl ?_
  exact h1

theorem State.sendDying_spec : ∀ a0 a1 a2, Spec 0x2020000000000000000000000000000000000000000000000000000000000000000000 a0 (State.sendDying a0 a1 a2) := by
  intro a0 a1 a2
  delta State.sendDying
  refine Spec.ite ?_ ?_
  · exact Spec.refl
  · extract_lets -underBinder -merge -useContext +onlyGivenNames x0
    clear_value x0
    refine Spec.step (State.modPair_spec _ _) rfl ?_
    refine Spec.step (State.sendAll_spec _ _) rfl ?_
    refine Spec.step (State.sendAll_spec _ _) rfl ?_
    exact Spec.refl

theorem State.tamperReport_spec : ∀ a0, Spec 0xb20c0c00000000000000000000000022002000000000000a0000000000000000000000 a0 (State.tamperReport a0) := by
  intro a0
  delta State.tamperReport
  refine Spec.ite ?_ ?_
  · refine Spec.step (State.raiseReg_spec _ _ _ _) rfl ?_
    refine Spec.step (State.modPwr_spec _ _) rfl ?_
    exact Spec.refl
  · exact Spec.refl

theorem State.portSleep_spec : ∀ a0 a1, Spec 0x200000000 a0 (State.portSleep a0 a1) := by
  intro a0 a1
  delta State.portSleep
  refine Spec.wrs_cons ?_
  refine Spec.wrs_cons ?_
  refine Spec.wrs_cons ?_
  refine Spec.wrs_cons ?_
  refine Spec.wrs_cons ?_
  refine Spec.wrs_cons ?_
  refine Spec.wrs_cons ?_
  refine Spec.wrs_nil ?_
  refine Spec.step (State.wr_spec _ _ _ _) rfl ?_
  refine Spec.step (State.wr_spec _ _ _ _) rfl ?_
  refine Spec.step (State.wr_spec _ _ _ _) rfl ?_
  refine Spec.step (State.wr_spec _ _ _ _) rfl ?_
  refine Spec.step (State.wr_spec _ _ _ _) rfl ?_
  refine Spec.step (State.wr_spec _ _ _ _) rfl ?_
  refine Spec.step (State.wr_spec _ _ _ _) rfl ?_
  exact Spec.refl

theorem State.lanesSleep_spec : ∀ a0, Spec 0xb02c4c00000000000000000000000022000000000000000a0000000094008000000000 a0 (State.lanesSleep a0) := by
  intro a0
  delta State.lanesSleep
  refine Spec.step (State.bridgeRefresh_spec _) rfl ?_
  refine Spec.step (State.wr_spec _ _ _ _) rfl ?_
  exact Spec.refl

theorem State.railsGone_spec : ∀ a0 a1, Spec 0x200000000000000000000000000000000 a0 (State.railsGone a0 a1) := by
  intro a0 a1
  delta State.railsGone
  refine Spec.step (State.wr_spec _ _ _ _) rfl ?_
  exact Spec.refl

theorem State.holdPads_spec : ∀ a0 a1, Spec 0x20000000000000000000000000000000100018000000000000000000000000000 a0 (State.holdPads a0 a1) := by
  intro a0 a1
  delta State.holdPads
  extract_lets -underBinder -merge -useContext +onlyGivenNames x0
  have h1 : Spec 0x20000000000000000000000000000000100018000000000000000000000000000 a0 x0 := by
    refine Spec.step (State.wr_spec _ _ _ _) rfl ?_
    exact Spec.refl
  clear_value x0
  extract_lets -underBinder -merge -useContext +onlyGivenNames x2
  clear_value x2
  extract_lets -underBinder -merge -useContext +onlyGivenNames x3
  have h4 : Spec 0x20000000000000000000000000000000100018000000000000000000000000000 a0 x3 := by
    refine Spec.ite ?_ ?_
    · exact (Spec.set_pin rfl h1)
    · exact h1
  clear_value x3
  extract_lets -underBinder -merge -useContext +onlyGivenNames x5
  have h8 : Spec 0x20000000000000000000000000000000100018000000000000000000000000000 a0 x5 := by
    refine Spec.fold _ ?_ ?_
    · intro t6 i7
      try dsimp -zeta only
      refine Spec.step (State.dacShow_spec _ _) rfl ?_
      exact Spec.refl
    · exact h4
  clear_value x5
  refine Spec.ite ?_ ?_
  · refine Spec.fold _ ?_ ?_
    · intro t9 i10
      try dsimp -zeta only
      refine Spec.step (State.aoutRefresh_spec _ _) rfl ?_
      exact Spec.refl
    · refine Spec.step (State.almRefresh_spec _) rfl ?_
      exact h8
  · exact h8

theorem State.refsSleep_spec : ∀ a0 a1, Spec 0xf04c1e00000000000000000000000022000000000000000a0004012400000000000000 a0 (State.refsSleep a0 a1) := by
  intro a0 a1
  delta State.refsSleep
  refine Spec.fold _ ?_ ?_
  · intro t0 i1
    try dsimp -zeta only
    refine Spec.step (State.refFail_spec _ _ _) rfl ?_
    exact Spec.refl
  · exact Spec.refl

theorem State.entryRecord_spec : ∀ a0, Spec 0x400000000000000000000000000000000000000000000000000000000000000000000 a0 (State.entryRecord a0) := by
  intro a0
  delta State.entryRecord
  extract_lets -underBinder -merge -useContext +onlyGivenNames x0
  clear_value x0
  refine Spec.step (State.modCel_spec _ _) rfl ?_
  exact Spec.refl

theorem State.mothball_spec : ∀ a0 a1, Spec 0xfdecde00000000000000000000000022004001090180004f2004012400000000000000 a0 (State.mothball a0 a1) := by
  intro a0 a1
  delta State.mothball
  extract_lets -underBinder -merge -useContext +onlyGivenNames x0
  have h1 : Spec 0xfdecde00000000000000000000000022004001090180004f2004012400000000000000 a0 x0 := by
    refine Spec.step (State.linkLoss_spec _) rfl ?_
    refine Spec.step (State.linkRegsDown_spec _) rfl ?_
    refine Spec.step (State.atTod_spec _ _) rfl ?_
    exact Spec.refl
  clear_value x0
  extract_lets -underBinder -merge -useContext +onlyGivenNames x2
  have h3 : Spec 0xfdecde00000000000000000000000022004001090180004f2004012400000000000000 a0 x2 := by
    refine Spec.step (State.hkSleep_spec _) rfl ?_
    refine Spec.step (State.refsSleep_spec _ _) rfl ?_
    exact h1
  clear_value x2
  extract_lets -underBinder -merge -useContext +onlyGivenNames x4
  have h5 : Spec 0xfdecde00000000000000000000000022004001090180004f2004012400000000000000 a0 x4 := by
    refine Spec.step (State.sramLost_spec _) rfl ?_
    refine Spec.step (State.entryRecord_spec _) rfl ?_
    exact h3
  clear_value x4
  extract_lets -underBinder -merge -useContext +onlyGivenNames x6
  clear_value x6
  extract_lets -underBinder -merge -useContext +onlyGivenNames x7
  have h8 : Spec 0xfdecde00000000000000000000000022004001090180004f2004012400000000000000 a0 x7 := by
    exact (Spec.set_tim rfl h5)
  clear_value x7
  extract_lets -underBinder -merge -useContext +onlyGivenNames x9
  have h10 : Spec 0xfdecde00000000000000000000000022004001090180004f2004012400000000000000 a0 x9 := by
    refine Spec.step (State.modSec_spec _ _) rfl ?_
    exact h8
  clear_value x9
  refine Spec.step (State.holdPads_spec _ _) rfl ?_
  refine Spec.step (State.wr_spec _ _ _ _) rfl ?_
  exact h10

theorem State.wake_spec : ∀ s (f : Fld) v, f.info.rg = .PWR_WAKE_SRC → Spec 0x2608020000000000000000000000040000000850000000000000000000000000000000 s (State.wake s f v) := by
  intro s f v hf
  have he : f.evBit ||| 0x2608020000000000000000000000040000000850000000000000000000000000000000 = 0x2608020000000000000000000000040000000850000000000000000000000000000000 := by unfold Fld.evBit Fld.bit; rw [hf]; rfl
  delta State.wake
  extract_lets -underBinder -merge -useContext +onlyGivenNames x
  have hx : Spec 0x2608020000000000000000000000040000000850000000000000000000000000000000 s x := Spec.step (State.setEv_spec _ _ _ _) he Spec.refl
  exact Spec.ite (Spec.step (State.modPwr_spec _ _) rfl hx) (Spec.ite hx (Spec.step (State.exitStart_spec _) rfl hx))

theorem State.sleep_spec : ∀ a0 a1, Spec 0xf17cde00000000000000000000000022000001150180000a001401249430a2003013a2 a0 (State.sleep a0 a1) := by
  intro a0 a1
  delta State.sleep
  extract_lets -underBinder -merge -useContext +onlyGivenNames x0
  have h1 : Spec 0xf17cde00000000000000000000000022000001150180000a001401249430a2003013a2 a0 x0 := by
    refine Spec.step (State.wr_spec _ _ _ _) rfl ?_
    exact Spec.refl
  clear_value x0
  extract_lets -underBinder -merge -useContext +onlyGivenNames x2
  clear_value x2
  extract_lets -underBinder -merge -useContext +onlyGivenNames x3
  have h4 : Spec 0xf17cde00000000000000000000000022000001150180000a001401249430a2003013a2 a0 x3 := by
    exact (Spec.set_mode rfl h1)
  clear_value x3
  extract_lets -underBinder -merge -useContext +onlyGivenNames x5
  have h8 : Spec 0xf17cde00000000000000000000000022000001150180000a001401249430a2003013a2 a0 x5 := by
    refine Spec.fold _ ?_ ?_
    · intro t6 i7
      try dsimp -zeta only
      refine Spec.ite ?_ ?_
      · refine Spec.step (State.engSleep_spec _ _) rfl ?_
        exact Spec.refl
      · exact Spec.refl
    · exact h4
  clear_value x5
  extract_lets -underBinder -merge -useContext +onlyGivenNames x9
  have h12 : Spec 0xf17cde00000000000000000000000022000001150180000a001401249430a2003013a2 a0 x9 := by
    refine Spec.fold _ ?_ ?_
    · intro t10 i11
      try dsimp -zeta only
      refine Spec.ite ?_ ?_
      · refine Spec.step (State.portSleep_spec _ _) rfl ?_
        exact Spec.refl
      · exact Spec.refl
    · exact h8
  clear_value x9
  refine Spec.step (State.holdPads_spec _ _) rfl ?_
  refine Spec.step (State.refsSleep_spec _ _) rfl ?_
  refine Spec.step (State.lanesSleep_spec _) rfl ?_
  exact h12

theorem State.mainOff_spec : ∀ a0 a1, Spec 0x20000000000000000000000000000000200000000000000000000000000000000 a0 (State.mainOff a0 a1) := by
  intro a0 a1
  delta State.mainOff
  refine Spec.step (State.wr_spec _ _ _ _) rfl ?_
  exact (Spec.set_pin rfl Spec.refl)

theorem State.railFail_spec : ∀ a0 a1, Spec 0xff3e9f0000000000000000000000002200000b050180000f2400000000200000300002 a0 (State.railFail a0 a1) := by
  intro a0 a1
  delta State.railFail
  extract_lets -underBinder -merge -useContext +onlyGivenNames x0
  have h1 : Spec 0xff3e9f0000000000000000000000002200000b050180000f2400000000200000300002 a0 x0 := by
    refine Spec.step (State.railsGone_spec _ _) rfl ?_
    refine Spec.step (State.burnCut_spec _) rfl ?_
    exact Spec.refl
  clear_value x0
  extract_lets -underBinder -merge -useContext +onlyGivenNames x2
  have h3 : Spec 0xff3e9f0000000000000000000000002200000b050180000f2400000000200000300002 a0 x2 := by
    refine Spec.step (State.sendDying_spec _ _ _) rfl ?_
    exact h1
  clear_value x2
  extract_lets -underBinder -merge -useContext +onlyGivenNames x4
  clear_value x4
  extract_lets -underBinder -merge -useContext +onlyGivenNames x5
  have h6 : Spec 0xff3e9f0000000000000000000000002200000b050180000f2400000000200000300002 a0 x5 := by
    exact (Spec.set_pin rfl h3)
  clear_value x5
  extract_lets -underBinder -merge -useContext +onlyGivenNames x7
  have h8 : Spec 0xff3e9f0000000000000000000000002200000b050180000f2400000000200000300002 a0 x7 := by
    refine Spec.step (State.modPwr_spec _ _) rfl ?_
    exact h6
  clear_value x7
  extract_lets -underBinder -merge -useContext +onlyGivenNames x9
  have h12 : Spec 0xff3e9f0000000000000000000000002200000b050180000f2400000000200000300002 a0 x9 := by
    refine Spec.fold _ ?_ ?_
    · intro t10 i11
      try dsimp -zeta only
      refine Spec.step (State.txRefresh_spec _ _) rfl ?_
      exact Spec.refl
    · exact h8
  clear_value x9
  extract_lets -underBinder -merge -useContext +onlyGivenNames x13
  have h14 : Spec 0xff3e9f0000000000000000000000002200000b050180000f2400000000200000300002 a0 x13 := by
    refine Spec.step (State.purgeAll_spec _) rfl ?_
    refine Spec.step (State.holdPads_spec _ _) rfl ?_
    exact h12
  clear_value x13
  extract_lets -underBinder -merge -useContext +onlyGivenNames x15
  have h16 : Spec 0xff3e9f0000000000000000000000002200000b050180000f2400000000200000300002 a0 x15 := by
    refine Spec.ite ?_ ?_
    · refine Spec.step (State.wr_spec _ _ _ _) rfl ?_
      exact h14
    · exact h14
  clear_value x15
  extract_lets -underBinder -merge -useContext +onlyGivenNames x17
  have h18 : Spec 0xff3e9f0000000000000000000000002200000b050180000f2400000000200000300002 a0 x17 := by
    refine Spec.step (State.linkLoss_spec _) rfl ?_
    refine Spec.step (State.linkRegsDown_spec _) rfl ?_
    refine Spec.step (State.logAdd_spec _ _ _) rfl ?_
    exact h16
  clear_value x17
  exact (Spec.set_pin rfl h18)

theorem State.cellarWrite_spec : ∀ a0 a1 a2, Spec 0xb40c0c00000000000000000000000022000008000000000a0000000000000000000000 a0 (State.cellarWrite a0 a1 a2) := by
  intro a0 a1 a2
  delta State.cellarWrite
  split
  · exact Spec.refl
  · refine Spec.ite ?_ ?_
    · exact Spec.refl
    · refine Spec.ite ?_ ?_
      · refine Spec.step (State.count_spec _ _ _) rfl ?_
        exact Spec.refl
      · refine Spec.step (State.wr_spec _ _ _ _) rfl ?_
        refine Spec.step (State.modCel_spec _ _) rfl ?_
        exact Spec.refl

theorem State.celAck_spec : ∀ a0, Spec 0x800000000000000000000000000000000 a0 (State.celAck a0) := by
  intro a0
  delta State.celAck
  refine Spec.step (State.wr_spec _ _ _ _) rfl ?_
  exact Spec.refl

theorem State.cellarApply_spec : ∀ a0 a1 a2, Spec 0x1ffffffffffffffffffffffffffffffffffffffffff a0 (State.cellarApply a0 a1 a2) := by
  intro a0 a1 a2
  delta State.cellarApply
  split
  · exact Spec.refl
  · extract_lets -underBinder -merge -useContext +onlyGivenNames x0
    have h1 : Spec 0x1ffffffffffffffffffffffffffffffffffffffffff a0 x0 := by
      refine Spec.step (State.writeW1c_spec _ _ _ _ _) (Rg.bit_absorb _ rfl) ?_
      refine Spec.step (State.writeRw_spec _ _ _ _ _) (Rg.bit_absorb _ rfl) ?_
      exact Spec.refl
    clear_value x0
    refine Spec.ite ?_ ?_
    · refine Spec.step (State.celAck_spec _) rfl ?_
      exact h1
    · exact h1

theorem State.cellarDone_spec : ∀ a0, Spec 0x400000000000000000000000001ffffffffffffffffffffffffffffffffffffffffff a0 (State.cellarDone a0) := by
  intro a0
  delta State.cellarDone
  split
  · exact Spec.refl
  · refine Spec.step (State.wr_spec _ _ _ _) rfl ?_
    refine Spec.step (State.cellarApply_spec _ _ _) rfl ?_
    refine Spec.step (State.modCel_spec _ _) rfl ?_
    exact Spec.refl

end Sys2Proof.Machine
end

