-- ==== Sys2Proof/Laws/Frames14.lean ====
section
/-! SUPPORT. What each operation and each command of the files Machine/PairLink, ResetOps, Switch can do: one lemma each,
`<name>_spec`, whose first argument is the footprint (Laws/Spec.lean). -/
namespace Sys2Proof.Machine

theorem State.pairEnWrite_spec : ∀ a0 a1, Spec 0xb02c4c00000000000000000000000022000000000000000a001000009e008000000000 a0 (State.pairEnWrite a0 a1) := by
  intro a0 a1
  delta State.pairEnWrite
  refine Spec.ite ?_ ?_
  · refine Spec.ite ?_ ?_
    · exact Spec.refl
    · refine Spec.step (State.modPair_spec _ _) rfl ?_
      refine Spec.step (State.wr_spec _ _ _ _) rfl ?_
      refine Spec.step (State.wr_spec _ _ _ _) rfl ?_
      exact Spec.refl
  · refine Spec.ite ?_ ?_
    · exact Spec.refl
    · extract_lets -underBinder -merge -useContext +onlyGivenNames x0
      have h1 : Spec 0xb02c4c00000000000000000000000022000000000000000a001000009e008000000000 a0 x0 := by
        refine Spec.step (State.modPair_spec _ _) rfl ?_
        exact Spec.refl
      clear_value x0
      refine Spec.step (State.setMember_spec _ _) rfl ?_
      refine Spec.step (State.bridgeRefresh_spec _) rfl ?_
      refine Spec.wrs_cons ?_
      refine Spec.wrs_cons ?_
      refine Spec.wrs_cons ?_
      refine Spec.wrs_cons ?_
      refine Spec.wrs_cons ?_
      refine Spec.wrs_cons ?_
      refine Spec.wrs_nil ?_
      refine Spec.step (State.wr_spec _ _ _ _) rfl ?_
      refine Spec.step (State.wr_spec _ _ _ _) rfl ?_
      refine Spec.step (State.wr_spec _ _ _ _) rfl ?_
      refine Spec.step (State.wr_spec _ _ _ _) rfl ?_
      refine Spec.step (State.wr_spec _ _ _ _) rfl ?_
      refine Spec.step (State.wr_spec _ _ _ _) rfl ?_
      exact h1

theorem State.laneEnWrite_spec : ∀ a0 a1, Spec 0xb02c4c00000000000000000000000022000000000000000a0000000096008000000000 a0 (State.laneEnWrite a0 a1) := by
  intro a0 a1
  delta State.laneEnWrite
  extract_lets -underBinder -merge -useContext +onlyGivenNames x0
  have h1 : Spec 0xb02c4c00000000000000000000000022000000000000000a0000000096008000000000 a0 x0 := by
    refine Spec.step (State.wr_spec _ _ _ _) rfl ?_
    exact Spec.refl
  clear_value x0
  extract_lets -underBinder -merge -useContext +onlyGivenNames x2
  clear_value x2
  refine Spec.ite ?_ ?_
  · exact h1
  · refine Spec.step (State.bridgeRefresh_spec _) rfl ?_
    refine Spec.step (State.wr_spec _ _ _ _) rfl ?_
    exact h1

theorem State.pairProve_spec : ∀ a0 a1, Spec 0xb02c0c00000000000000000000000022002000000000000a0010000000000000000000 a0 (State.pairProve a0 a1) := by
  intro a0 a1
  delta State.pairProve
  extract_lets -underBinder -merge -useContext +onlyGivenNames x0
  clear_value x0
  extract_lets -underBinder -merge -useContext +onlyGivenNames x1
  clear_value x1
  extract_lets -underBinder -merge -useContext +onlyGivenNames x2
  have h3 : Spec 0xb02c0c00000000000000000000000022002000000000000a0010000000000000000000 a0 x2 := by
    refine Spec.step (State.modPair_spec _ _) rfl ?_
    exact Spec.refl
  clear_value x2
  extract_lets -underBinder -merge -useContext +onlyGivenNames x4
  have h5 : Spec 0xb02c0c00000000000000000000000022002000000000000a0010000000000000000000 a0 x4 := by
    refine Spec.step (State.setMember_spec _ _) rfl ?_
    exact h3
  clear_value x4
  refine Spec.ite ?_ ?_
  · exact h5
  · refine Spec.step (State.raiseReg_spec _ _ _ _) rfl ?_
    exact h5

theorem State.pairCompare_spec : ∀ a0 a1, Spec 0xb02c4c00000000000000000000000022002000000000000a001000009c008000000000 a0 (State.pairCompare a0 a1) := by
  intro a0 a1
  delta State.pairCompare
  extract_lets -underBinder -merge -useContext +onlyGivenNames x0
  clear_value x0
  extract_lets -underBinder -merge -useContext +onlyGivenNames x1
  clear_value x1
  extract_lets -underBinder -merge -useContext +onlyGivenNames x2
  clear_value x2
  extract_lets -underBinder -merge -useContext +onlyGivenNames x3
  have h4 : Spec 0xb02c4c00000000000000000000000022002000000000000a001000009c008000000000 a0 x3 := by
    refine Spec.step (State.wr_spec _ _ _ _) rfl ?_
    exact Spec.refl
  clear_value x3
  refine Spec.ite ?_ ?_
  · refine Spec.step (State.raiseReg_spec _ _ _ _) rfl ?_
    refine Spec.step (State.wr_spec _ _ _ _) rfl ?_
    exact h4
  · extract_lets -underBinder -merge -useContext +onlyGivenNames x5
    have h6 : Spec 0xb02c4c00000000000000000000000022002000000000000a001000009c008000000000 a0 x5 := by
      refine Spec.wrs_cons ?_
      refine Spec.wrs_cons ?_
      refine Spec.wrs_nil ?_
      refine Spec.step (State.wr_spec _ _ _ _) rfl ?_
      refine Spec.step (State.wr_spec _ _ _ _) rfl ?_
      exact h4
    clear_value x5
    extract_lets -underBinder -merge -useContext +onlyGivenNames x7
    have h8 : Spec 0xb02c4c00000000000000000000000022002000000000000a001000009c008000000000 a0 x7 := by
      refine Spec.step (State.bridgeRefresh_spec _) rfl ?_
      refine Spec.step (State.pairProve_spec _ _) rfl ?_
      exact h6
    clear_value x7
    refine Spec.ite ?_ ?_
    · refine Spec.step (State.sendImage_spec _) rfl ?_
      exact h8
    · exact h8

theorem State.hbTake_spec : ∀ a0 a1 a2, Spec 0xf07cde00000000000000000000008422002000000000000a001400209c20a200080802 a0 (State.hbTake a0 a1 a2) := by
  intro a0 a1 a2
  delta State.hbTake
  extract_lets -underBinder -merge -useContext +onlyGivenNames x0
  clear_value x0
  extract_lets -underBinder -merge -useContext +onlyGivenNames x1
  clear_value x1
  extract_lets -underBinder -merge -useContext +onlyGivenNames x2
  clear_value x2
  extract_lets -underBinder -merge -useContext +onlyGivenNames x3
  clear_value x3
  extract_lets -underBinder -merge -useContext +onlyGivenNames x4
  have h5 : Spec 0xf07cde00000000000000000000008422002000000000000a001400209c20a200080802 a0 x4 := by
    refine Spec.step (State.modPair_spec _ _) rfl ?_
    exact Spec.refl
  clear_value x4
  extract_lets -underBinder -merge -useContext +onlyGivenNames x6
  have h7 : Spec 0xf07cde00000000000000000000008422002000000000000a001400209c20a200080802 a0 x6 := by
    refine Spec.step (State.wr_spec _ _ _ _) rfl ?_
    exact h5
  clear_value x6
  extract_lets -underBinder -merge -useContext +onlyGivenNames x8
  have h9 : Spec 0xf07cde00000000000000000000008422002000000000000a001400209c20a200080802 a0 x8 := by
    refine Spec.ite ?_ ?_
    · refine Spec.step (State.wr_spec _ _ _ _) rfl ?_
      exact h7
    · exact h7
  clear_value x8
  extract_lets -underBinder -merge -useContext +onlyGivenNames x10
  have h11 : Spec 0xf07cde00000000000000000000008422002000000000000a001400209c20a200080802 a0 x10 := by
    refine Spec.step (State.modPair_spec _ _) rfl ?_
    exact h9
  clear_value x10
  extract_lets -underBinder -merge -useContext +onlyGivenNames x12
  have h13 : Spec 0xf07cde00000000000000000000008422002000000000000a001400209c20a200080802 a0 x12 := by
    refine Spec.ite ?_ ?_
    · refine Spec.ite ?_ ?_
      · refine Spec.step (State.pairCompare_spec _ _) rfl ?_
        exact h11
      · exact h11
    · refine Spec.ite ?_ ?_
      · refine Spec.step (State.pairCompare_spec _ _) rfl ?_
        exact h9
      · exact h9
  clear_value x12
  extract_lets -underBinder -merge -useContext +onlyGivenNames x14
  have h15 : Spec 0xf07cde00000000000000000000008422002000000000000a001400209c20a200080802 a0 x14 := by
    refine Spec.ite ?_ ?_
    · refine Spec.step (State.sendImage_spec _) rfl ?_
      exact h13
    · exact h13
  clear_value x14
  extract_lets -underBinder -merge -useContext +onlyGivenNames x16
  have h17 : Spec 0xf07cde00000000000000000000008422002000000000000a001400209c20a200080802 a0 x16 := by
    refine Spec.ite ?_ ?_
    · refine Spec.step (State.standDown_spec _ _) rfl ?_
      exact h15
    · refine Spec.ite ?_ ?_
      · refine Spec.step (State.actRefresh_spec _) rfl ?_
        refine Spec.step (State.modPair_spec _ _) rfl ?_
        exact h15
      · exact h15
  clear_value x16
  extract_lets -underBinder -merge -useContext +onlyGivenNames x18
  have h19 : Spec 0xf07cde00000000000000000000008422002000000000000a001400209c20a200080802 a0 x18 := by
    refine Spec.step (State.modPair_spec _ _) rfl ?_
    exact h17
  clear_value x18
  extract_lets -underBinder -merge -useContext +onlyGivenNames x20
  have h21 : Spec 0xf07cde00000000000000000000008422002000000000000a001400209c20a200080802 a0 x20 := by
    refine Spec.step (State.mirAcked_spec _ _ _) rfl ?_
    exact h19
  clear_value x20
  extract_lets -underBinder -merge -useContext +onlyGivenNames x22
  have h25 : Spec 0xf07cde00000000000000000000008422002000000000000a001400209c20a200080802 a0 x22 := by
    refine Spec.ite ?_ ?_
    · refine Spec.fold _ ?_ ?_
      · intro t23 i24
        try dsimp -zeta only
        refine Spec.step (State.tryIssue_spec _ _) rfl ?_
        exact Spec.refl
      · exact h21
    · exact h17
  clear_value x22
  refine Spec.step (State.readyRefresh_spec _) rfl ?_
  exact h25

theorem execPeerAliveGained_spec : ∀ a0, SpecO 0x4000000000000 a0 (execPeerAliveGained a0) := by
  intro a0
  delta execPeerAliveGained
  refine SpecO.ok ?_
  refine Spec.step (State.wr_spec _ _ _ _) rfl ?_
  exact Spec.refl

theorem execBadCellRx_spec : ∀ a0 a1 a2, SpecO 0xb00c0c00000000000000000000000022000000000000000a0000000000000000000000 a2 (execBadCellRx a0 a1 a2) := by
  intro a0 a1 a2
  delta execBadCellRx
  refine SpecO.ok ?_
  extract_lets -underBinder -merge -useContext +onlyGivenNames x0
  clear_value x0
  refine Spec.ite ?_ ?_
  · refine Spec.step (State.count_spec _ _ _) rfl ?_
    exact Spec.refl
  · exact Spec.refl

theorem execPairLaneUp_spec : ∀ a0 a1, SpecO 0xb02c4c00000000000000000000000022000000000000000a0000000094008000000000 a1 (execPairLaneUp a0 a1) := by
  intro a0 a1
  delta execPairLaneUp
  refine SpecO.ok ?_
  refine Spec.ite ?_ ?_
  · refine Spec.step (State.bridgeRefresh_spec _) rfl ?_
    refine Spec.step (State.wr_spec _ _ _ _) rfl ?_
    exact Spec.refl
  · exact Spec.refl

theorem execHbLost_spec : ∀ a0, SpecO 0xf17cde00000000000000000000008422000000050000000a000400209c20a200380822 a0 (execHbLost a0) := by
  intro a0
  delta execHbLost
  refine SpecO.ok ?_
  refine Spec.ite ?_ ?_
  · exact Spec.refl
  · extract_lets -underBinder -merge -useContext +onlyGivenNames x0
    have h1 : Spec 0xf17cde00000000000000000000008422000000050000000a000400209c20a200380822 a0 x0 := by
      refine Spec.step (State.modPair_spec _ _) rfl ?_
      exact Spec.refl
    clear_value x0
    refine Spec.ite ?_ ?_
    · exact h1
    · extract_lets -underBinder -merge -useContext +onlyGivenNames x2
      have h3 : Spec 0xf17cde00000000000000000000008422000000050000000a000400209c20a200380822 a0 x2 := by
        refine Spec.wrs_cons ?_
        refine Spec.wrs_cons ?_
        refine Spec.wrs_nil ?_
        refine Spec.step (State.wr_spec _ _ _ _) rfl ?_
        refine Spec.step (State.wr_spec _ _ _ _) rfl ?_
        exact h1
      clear_value x2
      extract_lets -underBinder -merge -useContext +onlyGivenNames x4
      have h5 : Spec 0xf17cde00000000000000000000008422000000050000000a000400209c20a200380822 a0 x4 := by
        refine Spec.step (State.modPair_spec _ _) rfl ?_
        refine Spec.step (State.raiseReg_spec _ _ _ _) rfl ?_
        exact h3
      clear_value x4
      refine Spec.step (State.readyRefresh_spec _) rfl ?_
      refine Spec.step (State.d0LeaveFollow_spec _) rfl ?_
      refine Spec.step (State.judge_spec _) rfl ?_
      refine Spec.step (State.bridgeRefresh_spec _) rfl ?_
      exact h5

theorem execHbTick_spec : ∀ a0, SpecO 0x2020000000000000000000000000000000000000000000000000000004000000000000 a0 (execHbTick a0) := by
  intro a0
  delta execHbTick
  refine SpecO.ok ?_
  refine Spec.ite ?_ ?_
  · exact Spec.refl
  · extract_lets -underBinder -merge -useContext +onlyGivenNames x0
    have h1 : Spec 0x2020000000000000000000000000000000000000000000000000000004000000000000 a0 x0 := by
      refine Spec.step (State.modPair_spec _ _) rfl ?_
      exact Spec.refl
    clear_value x0
    extract_lets -underBinder -merge -useContext +onlyGivenNames x2
    have h3 : Spec 0x2020000000000000000000000000000000000000000000000000000004000000000000 a0 x2 := by
      refine Spec.step (State.readyRefresh_spec _) rfl ?_
      exact h1
    clear_value x2
    extract_lets -underBinder -merge -useContext +onlyGivenNames x4
    have h5 : Spec 0x2020000000000000000000000000000000000000000000000000000004000000000000 a0 x4 := by
      refine Spec.step (State.modPair_spec _ _) rfl ?_
      refine Spec.step (State.sendAll_spec _ _) rfl ?_
      exact h3
    clear_value x4
    refine Spec.ite ?_ ?_
    · refine Spec.step (State.sendImageOn_spec _ _) rfl ?_
      exact h5
    · exact h5

theorem execPairLaneDown_spec : ∀ a0 a1, SpecO 0xb02c4c00000000000000000000000022000000000000000a0000000094008000000000 a1 (execPairLaneDown a0 a1) := by
  intro a0 a1
  delta execPairLaneDown
  refine SpecO.ok ?_
  refine Spec.ite ?_ ?_
  · refine Spec.step (State.bridgeRefresh_spec _) rfl ?_
    refine Spec.step (State.wr_spec _ _ _ _) rfl ?_
    exact Spec.refl
  · exact Spec.refl

theorem execPeerAliveLost_spec : ∀ a0, SpecO 0xf17cde00000000000000000000008422000000050000000a000400201420a200380822 a0 (execPeerAliveLost a0) := by
  intro a0
  delta execPeerAliveLost
  refine SpecO.ok ?_
  refine Spec.ite ?_ ?_
  · refine Spec.step (State.judge_spec _) rfl ?_
    refine Spec.step (State.wr_spec _ _ _ _) rfl ?_
    exact Spec.refl
  · exact Spec.refl

theorem execHbRx_spec : ∀ a0 a1 a2, SpecO 0xf07cde00000000000000000000008422002000000000000a001400209c20a200080802 a2 (execHbRx a0 a1 a2) := by
  intro a0 a1 a2
  delta execHbRx
  refine SpecO.ok ?_
  refine Spec.ite ?_ ?_
  · refine Spec.step (State.hbTake_spec _ _ _) rfl ?_
    exact Spec.refl
  · exact Spec.refl

theorem State.warmReset_spec : ∀ a0, Spec 0xffffff0000000000000000000001ffffffffffffffffffffffffffffffffffffffffff a0 (State.warmReset a0) := by
  intro a0
  delta State.warmReset
  refine Spec.step (State.warmCore_spec _) rfl ?_
  refine Spec.step (State.burnCut_spec _) rfl ?_
  exact Spec.refl

theorem State.engineReset_spec : ∀ a0 a1, Spec 0xf15cde0000000000000000000001ffffffffffffffffffffffffffffffffffffffffff a0 (State.engineReset a0 a1) := by
  intro a0 a1
  delta State.engineReset
  extract_lets -underBinder -merge -useContext +onlyGivenNames x0
  clear_value x0
  extract_lets -underBinder -merge -useContext +onlyGivenNames x1
  have h2 : Spec 0xf15cde0000000000000000000001ffffffffffffffffffffffffffffffffffffffffff a0 x1 := by
    refine Spec.step (State.acqStop_spec _ _) rfl ?_
    exact Spec.refl
  clear_value x1
  extract_lets -underBinder -merge -useContext +onlyGivenNames x3
  clear_value x3
  extract_lets -underBinder -merge -useContext +onlyGivenNames x4
  have h5 : Spec 0xf15cde0000000000000000000001ffffffffffffffffffffffffffffffffffffffffff a0 x4 := by
    exact (Spec.trans h2 (Spec.set_regs rfl (fun h => regsWf_filter h _)))
  clear_value x4
  extract_lets -underBinder -merge -useContext +onlyGivenNames x6
  have h7 : Spec 0xf15cde0000000000000000000001ffffffffffffffffffffffffffffffffffffffffff a0 x6 := by
    refine Spec.step (State.keepCounters_spec _ _) rfl ?_
    exact h5
  clear_value x6
  extract_lets -underBinder -merge -useContext +onlyGivenNames x8
  clear_value x8
  extract_lets -underBinder -merge -useContext +onlyGivenNames x9
  have h10 : Spec 0xf15cde0000000000000000000001ffffffffffffffffffffffffffffffffffffffffff a0 x9 := by
    refine Spec.step (State.modFec_spec _ _ _) rfl ?_
    refine Spec.step (State.modAcq_spec _ _ _) rfl ?_
    exact h7
  clear_value x9
  extract_lets -underBinder -merge -useContext +onlyGivenNames x11
  have h12 : Spec 0xf15cde0000000000000000000001ffffffffffffffffffffffffffffffffffffffffff a0 x11 := by
    refine Spec.step (State.modRx_spec _ _ _) rfl ?_
    exact h10
  clear_value x11
  extract_lets -underBinder -merge -useContext +onlyGivenNames x13
  have h14 : Spec 0xf15cde0000000000000000000001ffffffffffffffffffffffffffffffffffffffffff a0 x13 := by
    refine Spec.step (State.modPm_spec _ _ _) rfl ?_
    exact h12
  clear_value x13
  extract_lets -underBinder -merge -useContext +onlyGivenNames x15
  have h16 : Spec 0xf15cde0000000000000000000001ffffffffffffffffffffffffffffffffffffffffff a0 x15 := by
    refine Spec.wrs_cons ?_
    refine Spec.wrs_cons ?_
    refine Spec.wrs_cons ?_
    refine Spec.wrs_nil ?_
    refine Spec.step (State.wr_spec _ _ _ _) rfl ?_
    refine Spec.step (State.wr_spec _ _ _ _) rfl ?_
    refine Spec.step (State.wr_spec _ _ _ _) rfl ?_
    exact h14
  clear_value x15
  extract_lets -underBinder -merge -useContext +onlyGivenNames x17
  have h18 : Spec 0xf15cde0000000000000000000001ffffffffffffffffffffffffffffffffffffffffff a0 x17 := by
    refine Spec.step (State.addShadow_spec _ _ _ _ _) rfl ?_
    exact h16
  clear_value x17
  refine Spec.step (State.ttAged_spec _ _) rfl ?_
  refine Spec.step (State.fabRefresh_spec _) rfl ?_
  refine Spec.step (State.pinRefresh_spec _ _) rfl ?_
  refine Spec.step (State.acqStart_spec _ _) rfl ?_
  refine Spec.step (State.txRefresh_spec _ _) rfl ?_
  exact h18

theorem State.engineResets_spec : ∀ a0 a1, Spec 0xf15cde0000000000000000000001ffffffffffffffffffffffffffffffffffffffffff a0 (State.engineResets a0 a1) := by
  intro a0 a1
  delta State.engineResets
  extract_lets -underBinder -merge -useContext +onlyGivenNames x0
  clear_value x0
  refine Spec.ite ?_ ?_
  · exact Spec.refl
  · refine Spec.ite ?_ ?_
    · refine Spec.step (State.raiseReg_spec _ _ _ _) rfl ?_
      exact Spec.refl
    · refine Spec.fold _ ?_ ?_
      · intro t1 i2
        try dsimp -zeta only
        refine Spec.step (State.engineReset_spec _ _) rfl ?_
        exact Spec.refl
      · exact Spec.refl

theorem State.sysResetWrite_spec : ∀ a0 a1 a2, Spec 0xffffff0000000000000000000001ffffffffffffffffffffffffffffffffffffffffff a0 (State.sysResetWrite a0 a1 a2) := by
  intro a0 a1 a2
  delta State.sysResetWrite
  refine Spec.ite ?_ ?_
  · refine Spec.step (State.raiseReg_spec _ _ _ _) rfl ?_
    exact Spec.refl
  · refine Spec.ite ?_ ?_
    · refine Spec.step (State.warmReset_spec _) rfl ?_
      exact Spec.refl
    · refine Spec.step (State.engineResets_spec _ _) rfl ?_
      exact Spec.refl

theorem State.coldReset_spec : ∀ a0 a1, Spec 0xffffff0000000000000000000001ffffffffffffffffffffffffffffffffffffffffff a0 (State.coldReset a0 a1) := by
  intro a0 a1
  delta State.coldReset
  refine Spec.step (State.coldCore_spec _ _) rfl ?_
  refine Spec.step (State.burnCut_spec _) rfl ?_
  exact Spec.refl

theorem State.pairSwitch_spec : ∀ a0 a1 a2, Spec 0xf07cde00000000000000000000008422000000000000000a000400200400a200080802 a0 (State.pairSwitch a0 a1 a2) := by
  intro a0 a1 a2
  delta State.pairSwitch
  extract_lets -underBinder -merge -useContext +onlyGivenNames x0
  clear_value x0
  split
  · refine Spec.step (State.done_spec _ _ _ _ _) rfl ?_
    exact Spec.refl
  · refine Spec.ite ?_ ?_
    · refine Spec.step (State.swDone_spec _ _ _ _) rfl ?_
      exact Spec.refl
    · refine Spec.ite ?_ ?_
      · refine Spec.step (State.swDone_spec _ _ _ _) rfl ?_
        exact Spec.refl
      · refine Spec.ite ?_ ?_
        · extract_lets -underBinder -merge -useContext +onlyGivenNames x1
          clear_value x1
          refine Spec.ite ?_ ?_
          · refine Spec.step (State.swDone_spec _ _ _ _) rfl ?_
            exact Spec.refl
          · refine Spec.ite ?_ ?_
            · refine Spec.step (State.swDone_spec _ _ _ _) rfl ?_
              refine Spec.step (State.switchAct_spec _ _ _ _) rfl ?_
              exact Spec.refl
            · refine Spec.step (State.switchAct_spec _ _ _ _) rfl ?_
              exact Spec.refl
        · refine Spec.ite ?_ ?_
          · refine Spec.step (State.swDone_spec _ _ _ _) rfl ?_
            exact Spec.refl
          · refine Spec.step (State.sendCmd_spec _ _ _ _ _ _) rfl ?_
            exact Spec.refl

theorem execPairSwitchForce_spec : ∀ a0 a1, SpecO 0xf07cde00000000000000000000008422000000000000000a000400200400a200080802 a1 (execPairSwitchForce a0 a1) := by
  intro a0 a1
  delta execPairSwitchForce
  refine SpecO.ok ?_
  extract_lets -underBinder -merge -useContext +onlyGivenNames x0
  have h1 : Spec 0xf07cde00000000000000000000008422000000000000000a000400200400a200080802 a1 x0 := by
    refine Spec.step (State.settle_spec _ _ _) rfl ?_
    exact Spec.refl
  clear_value x0
  split
  · exact h1
  · refine Spec.step (State.pairSwitch_spec _ _ _) rfl ?_
    refine Spec.step (State.popDesc_spec _ _) rfl ?_
    exact h1

theorem State.cmdTake_via {F : Nat} {s u : State} {c : List Byte} {r : Nat} {act : State → State}
    (hF : 0xb02c0c00000000000000000000000022000000000000000a0000000000000000000000 ||| F = F) (ha : ∀ t, Spec F t (act t)) (h : Spec F s u) : Spec F s (State.cmdTake u c r act) := by
  refine h.trans ?_
  delta State.cmdTake
  extract_lets -underBinder -merge -useContext +onlyGivenNames q x
  have hx : Spec F u x := by
    refine Spec.step (F := F) (G := 0xb02c0c00000000000000000000000022000000000000000a0000000000000000000000) ?_ hF Spec.refl
    exact Spec.step (State.sendCack_spec _ _ _ _) rfl (Spec.step (State.modPair_spec _ _) rfl Spec.refl)
  refine Spec.ite ?_ (Spec.ite (hx.trans (ha _)) hx)
  refine Spec.step (F := F) (G := 0xb02c0c00000000000000000000000022000000000000000a0000000000000000000000) ?_ hF Spec.refl
  exact Spec.step (State.sendCack_spec _ _ _ _) rfl (Spec.step (State.count_spec _ _ _) rfl Spec.refl)

theorem State.cmdSwitch_spec : ∀ a0 a1 a2, Spec 0xf17cde00000000000000000000008422000000050000000a000400201420a200380822 a0 (State.cmdSwitch a0 a1 a2) := by
  intro a0 a1 a2
  delta State.cmdSwitch
  refine Spec.ite ?_ ?_
  · refine State.cmdTake_via rfl ?_ ?_
    · intro t0
      try dsimp -zeta only
      refine Spec.step (State.switchAct_spec _ _ _ _) rfl ?_
      exact Spec.refl
    · exact Spec.refl
  · refine State.cmdTake_via rfl ?_ ?_
    · intro t1
      try dsimp -zeta only
      refine Spec.step (State.modPair_spec _ _) rfl ?_
      refine Spec.step (State.takeover_spec _) rfl ?_
      exact Spec.refl
    · exact Spec.refl

theorem execCmdManual_spec : ∀ a0 a1, SpecO 0xf17cde00000000000000000000008422000000050000000a000400201420a200380822 a1 (execCmdManual a0 a1) := by
  intro a0 a1
  delta execCmdManual
  refine SpecO.ok ?_
  refine Spec.ite ?_ ?_
  · refine Spec.step (State.cmdSwitch_spec _ _ _) rfl ?_
    exact Spec.refl
  · exact Spec.refl

theorem execCmdLockout_spec : ∀ a0 a1, SpecO 0xf07cde00000000000000000000008422000000000000000a000400200400a200080802 a1 (execCmdLockout a0 a1) := by
  intro a0 a1
  delta execCmdLockout
  refine SpecO.ok ?_
  refine Spec.ite ?_ ?_
  · refine State.cmdTake_via rfl ?_ ?_
    · intro t0
      try dsimp -zeta only
      refine Spec.step (State.switchAct_spec _ _ _ _) rfl ?_
      exact Spec.refl
    · exact Spec.refl
  · exact Spec.refl

theorem execReadyHoldEnd_spec : ∀ a0, SpecO 0x20000000000000000000000000000000000000000000000000000004000000000000 a0 (execReadyHoldEnd a0) := by
  intro a0
  delta execReadyHoldEnd
  refine SpecO.ok ?_
  refine Spec.step (State.readyRefresh_spec _) rfl ?_
  refine Spec.step (State.modPair_spec _ _) rfl ?_
  exact Spec.refl

theorem execPairSwitchClear_spec : ∀ a0 a1, SpecO 0xf07cde00000000000000000000008422000000000000000a000400200400a200080802 a1 (execPairSwitchClear a0 a1) := by
  intro a0 a1
  delta execPairSwitchClear
  refine SpecO.ok ?_
  extract_lets -underBinder -merge -useContext +onlyGivenNames x0
  have h1 : Spec 0xf07cde00000000000000000000008422000000000000000a000400200400a200080802 a1 x0 := by
    refine Spec.step (State.settle_spec _ _ _) rfl ?_
    exact Spec.refl
  clear_value x0
  split
  · exact h1
  · refine Spec.step (State.pairSwitch_spec _ _ _) rfl ?_
    refine Spec.step (State.popDesc_spec _ _) rfl ?_
    exact h1

theorem execCmdRelinquish_spec : ∀ a0 a1, SpecO 0xf17cde00000000000000000000008422000000050000000a000400201420a200380822 a1 (execCmdRelinquish a0 a1) := by
  intro a0 a1
  delta execCmdRelinquish
  refine SpecO.ok ?_
  refine Spec.ite ?_ ?_
  · refine State.cmdTake_via rfl ?_ ?_
    · intro t0
      try dsimp -zeta only
      refine Spec.step (State.takeover_spec _) rfl ?_
      exact Spec.refl
    · exact Spec.refl
  · exact Spec.refl

theorem execPairSwitchReserved_spec : ∀ a0 a1, SpecO 0xf07cde00000000000000000000008422000000000000000a000400200400a200080802 a1 (execPairSwitchReserved a0 a1) := by
  intro a0 a1
  delta execPairSwitchReserved
  refine SpecO.ok ?_
  extract_lets -underBinder -merge -useContext +onlyGivenNames x0
  have h1 : Spec 0xf07cde00000000000000000000008422000000000000000a000400200400a200080802 a1 x0 := by
    refine Spec.step (State.settle_spec _ _ _) rfl ?_
    exact Spec.refl
  clear_value x0
  split
  · exact h1
  · refine Spec.step (State.pairSwitch_spec _ _ _) rfl ?_
    refine Spec.step (State.popDesc_spec _ _) rfl ?_
    exact h1

theorem execCompareYield_spec : ∀ a0 a1, SpecO 0xf07cde00000000000000000000008422000000000000000a000400201400a200080802 a1 (execCompareYield a0 a1) := by
  intro a0 a1
  delta execCompareYield
  refine SpecO.ok ?_
  refine Spec.ite ?_ ?_
  · exact Spec.refl
  · refine Spec.ite ?_ ?_
    · refine Spec.step (State.faultYield_spec _ _) rfl ?_
      exact Spec.refl
    · refine Spec.step (State.readyRefresh_spec _) rfl ?_
      refine Spec.step (State.modPair_spec _ _) rfl ?_
      exact Spec.refl

theorem execCmdResend_spec : ∀ a0, SpecO 0x2034000000000000000000000000000000000000000000000000000000000000000000 a0 (execCmdResend a0) := by
  intro a0
  delta execCmdResend
  refine SpecO.ok ?_
  split
  · exact Spec.refl
  · refine Spec.ite ?_ ?_
    · refine Spec.step (State.modPair_spec _ _) rfl ?_
      refine Spec.step (State.sendCell_spec _ _ _) rfl ?_
      exact Spec.refl
    · extract_lets -underBinder -merge -useContext +onlyGivenNames x0
      have h1 : Spec 0x2034000000000000000000000000000000000000000000000000000000000000000000 a0 x0 := by
        refine Spec.step (State.modPair_spec _ _) rfl ?_
        exact Spec.refl
      clear_value x0
      split
      · exact h1
      · refine Spec.step (State.swDone_spec _ _ _ _) rfl ?_
        exact h1

theorem execPairSwitchManual_spec : ∀ a0 a1, SpecO 0xf07cde00000000000000000000008422000000000000000a000400200400a200080802 a1 (execPairSwitchManual a0 a1) := by
  intro a0 a1
  delta execPairSwitchManual
  refine SpecO.ok ?_
  extract_lets -underBinder -merge -useContext +onlyGivenNames x0
  have h1 : Spec 0xf07cde00000000000000000000008422000000000000000a000400200400a200080802 a1 x0 := by
    refine Spec.step (State.settle_spec _ _ _) rfl ?_
    exact Spec.refl
  clear_value x0
  split
  · exact h1
  · refine Spec.step (State.pairSwitch_spec _ _ _) rfl ?_
    refine Spec.step (State.popDesc_spec _ _) rfl ?_
    exact h1

theorem execCmdForce_spec : ∀ a0 a1, SpecO 0xf17cde00000000000000000000008422000000050000000a000400201420a200380822 a1 (execCmdForce a0 a1) := by
  intro a0 a1
  delta execCmdForce
  refine SpecO.ok ?_
  refine Spec.ite ?_ ?_
  · refine Spec.step (State.cmdSwitch_spec _ _ _) rfl ?_
    exact Spec.refl
  · exact Spec.refl

theorem execPairSwitchLockout_spec : ∀ a0 a1, SpecO 0xf07cde00000000000000000000008422000000000000000a000400200400a200080802 a1 (execPairSwitchLockout a0 a1) := by
  intro a0 a1
  delta execPairSwitchLockout
  refine SpecO.ok ?_
  extract_lets -underBinder -merge -useContext +onlyGivenNames x0
  have h1 : Spec 0xf07cde00000000000000000000008422000000000000000a000400200400a200080802 a1 x0 := by
    refine Spec.step (State.settle_spec _ _ _) rfl ?_
    exact Spec.refl
  clear_value x0
  split
  · exact h1
  · refine Spec.step (State.pairSwitch_spec _ _ _) rfl ?_
    refine Spec.step (State.popDesc_spec _ _) rfl ?_
    exact h1

theorem execCmdClear_spec : ∀ a0 a1, SpecO 0xf07cde00000000000000000000008422000000000000000a000400200400a200080802 a1 (execCmdClear a0 a1) := by
  intro a0 a1
  delta execCmdClear
  refine SpecO.ok ?_
  refine Spec.ite ?_ ?_
  · refine State.cmdTake_via rfl ?_ ?_
    · intro t0
      try dsimp -zeta only
      refine Spec.step (State.switchAct_spec _ _ _ _) rfl ?_
      exact Spec.refl
    · exact Spec.refl
  · exact Spec.refl

theorem execCackRx_spec : ∀ a0 a1, SpecO 0x34000000000000000000000000000000000000000000000000000000000000000000 a1 (execCackRx a0 a1) := by
  intro a0 a1
  delta execCackRx
  refine SpecO.ok ?_
  split
  · exact Spec.refl
  · refine Spec.ite ?_ ?_
    · exact Spec.refl
    · extract_lets -underBinder -merge -useContext +onlyGivenNames x0
      clear_value x0
      extract_lets -underBinder -merge -useContext +onlyGivenNames x1
      have h2 : Spec 0x34000000000000000000000000000000000000000000000000000000000000000000 a1 x1 := by
        refine Spec.step (State.modPair_spec _ _) rfl ?_
        exact Spec.refl
      clear_value x1
      split
      · exact h2
      · refine Spec.ite ?_ ?_
        · refine Spec.step (State.swDone_spec _ _ _ _) rfl ?_
          exact h2
        · refine Spec.step (State.swDone_spec _ _ _ _) rfl ?_
          exact h2

theorem execDyingRx_spec : ∀ a0 a1, SpecO 0xf17cde00000000000000000000008422000000050000000a000400201420a200380822 a1 (execDyingRx a0 a1) := by
  intro a0 a1
  delta execDyingRx
  refine SpecO.ok ?_
  refine Spec.ite ?_ ?_
  · refine Spec.step (State.judge_spec _) rfl ?_
    refine Spec.step (State.modPair_spec _ _) rfl ?_
    exact Spec.refl
  · exact Spec.refl

end Sys2Proof.Machine
end

