-- ==== Sys2Proof/Laws/Frames15.lean ====
section
/-! SUPPORT. What each operation and each command of the files Machine/RegWrite can do: one lemma each,
`<name>_spec`, whose first argument is the footprint (Laws/Spec.lean). -/
namespace Sys2Proof.Machine

theorem State.irqMaskWrite_spec : ∀ a0 a1, Spec 0x2008000000000000000000000000400000000000000000000000000000000000000000 a0 (State.irqMaskWrite a0 a1) := by
  intro a0 a1
  delta State.irqMaskWrite
  refine Spec.step (State.vector0_spec _ _) rfl ?_
  refine Spec.step (State.writeRw_spec _ _ _ _ _) rfl ?_
  exact Spec.refl

theorem State.lcCtrlWrite_spec : ∀ a0 a1 a2, Spec 0xb80c0d00000000000000000000000022002800000000000a0000000000000000000000 a0 (State.lcCtrlWrite a0 a1 a2) := by
  intro a0 a1 a2
  delta State.lcCtrlWrite
  extract_lets -underBinder -merge -useContext +onlyGivenNames x0
  have h1 : Spec 0xb80c0d00000000000000000000000022002800000000000a0000000000000000000000 a0 x0 := by
    refine Spec.step (State.writeW1c_spec _ _ _ _ _) rfl ?_
    exact Spec.refl
  clear_value x0
  extract_lets -underBinder -merge -useContext +onlyGivenNames x2
  have h3 : Spec 0xb80c0d00000000000000000000000022002800000000000a0000000000000000000000 a0 x2 := by
    refine Spec.ite ?_ ?_
    · exact h1
    · refine Spec.step (State.lcReq_spec _ _ _) rfl ?_
      exact h1
  clear_value x2
  refine Spec.ite ?_ ?_
  · refine Spec.step (State.rbRaise_spec _ _) rfl ?_
    exact h3
  · exact h3

theorem State.trapCtrlWrite_spec : ∀ a0 a1 a2, Spec 0xf80c0c00000000000000000000000022023400000000000a0000000000000000000000 a0 (State.trapCtrlWrite a0 a1 a2) := by
  intro a0 a1 a2
  delta State.trapCtrlWrite
  extract_lets -underBinder -merge -useContext +onlyGivenNames x0
  have h1 : Spec 0xf80c0c00000000000000000000000022023400000000000a0000000000000000000000 a0 x0 := by
    refine Spec.ite ?_ ?_
    · refine Spec.ite ?_ ?_
      · refine Spec.step (State.submitPcie_spec _) rfl ?_
        exact Spec.refl
      · refine Spec.step (State.submitTest_spec _) rfl ?_
        exact Spec.refl
    · exact Spec.refl
  clear_value x0
  extract_lets -underBinder -merge -useContext +onlyGivenNames x2
  have h3 : Spec 0xf80c0c00000000000000000000000022023400000000000a0000000000000000000000 a0 x2 := by
    refine Spec.ite ?_ ?_
    · refine Spec.step (State.trapClose_spec _ _) rfl ?_
      exact h1
    · exact h1
  clear_value x2
  refine Spec.ite ?_ ?_
  · refine Spec.step (State.nonceReq_spec _ _) rfl ?_
    exact h3
  · exact h3

theorem State.testMbox_spec : ∀ a0 a1 a2, Spec 0x800000000000000000000000000000000000000000000000000000000000000000000 a0 (State.testMbox a0 a1 a2) := by
  intro a0 a1 a2
  delta State.testMbox
  extract_lets -underBinder -merge -useContext +onlyGivenNames x0
  clear_value x0
  refine Spec.step (State.modTrap_spec _ _) rfl ?_
  exact Spec.refl

theorem State.pairCtrlWrite_spec : ∀ a0 a1, Spec 0xb02c4c00000000000000000000000022000000000000000a001000009e008000000000 a0 (State.pairCtrlWrite a0 a1) := by
  intro a0 a1
  delta State.pairCtrlWrite
  extract_lets -underBinder -merge -useContext +onlyGivenNames x0
  have h1 : Spec 0xb02c4c00000000000000000000000022000000000000000a001000009e008000000000 a0 x0 := by
    refine Spec.step (State.wr_spec _ _ _ _) rfl ?_
    exact Spec.refl
  clear_value x0
  refine Spec.step (State.pairEnWrite_spec _ _) rfl ?_
  refine Spec.step (State.laneEnWrite_spec _ _) rfl ?_
  exact h1

theorem State.pairStatusWrite_spec : ∀ a0 a1, Spec 0x4020000000000000000000000000000000000000000000000000000004000000000000 a0 (State.pairStatusWrite a0 a1) := by
  intro a0 a1
  delta State.pairStatusWrite
  refine Spec.ite ?_ ?_
  · refine Spec.ite ?_ ?_
    · refine Spec.step (State.tick_spec _) rfl ?_
      refine Spec.step (State.readyRefresh_spec _) rfl ?_
      refine Spec.step (State.modPair_spec _ _) rfl ?_
      refine Spec.step (State.wr_spec _ _ _ _) rfl ?_
      exact Spec.refl
    · refine Spec.step (State.tick_spec _) rfl ?_
      exact Spec.refl
  · exact Spec.refl

theorem State.ctxWrite_spec : ∀ a0 a1 a2 a3, Spec 0xb00c0c0000000000000000000001ffffffffffffffffffffffffffffffffffffffffff a0 (State.ctxWrite a0 a1 a2 a3) := by
  intro a0 a1 a2 a3
  delta State.ctxWrite
  refine Spec.ite ?_ ?_
  · refine Spec.step (State.writeRw_spec _ _ _ _ _) (Rg.bit_absorb _ rfl) ?_
    exact Spec.refl
  · refine Spec.step (State.raiseReg_spec _ _ _ _) rfl ?_
    exact Spec.refl

theorem State.hkCtrlWrite_spec : ∀ a0 a1, Spec 0xf18c0e000000000000000000000000220000000901a478ea0000000000000000000000 a0 (State.hkCtrlWrite a0 a1) := by
  intro a0 a1
  delta State.hkCtrlWrite
  extract_lets -underBinder -merge -useContext +onlyGivenNames x0
  clear_value x0
  extract_lets -underBinder -merge -useContext +onlyGivenNames x1
  have h2 : Spec 0xf18c0e000000000000000000000000220000000901a478ea0000000000000000000000 a0 x1 := by
    refine Spec.step (State.writeRw_spec _ _ _ _ _) rfl ?_
    exact Spec.refl
  clear_value x1
  extract_lets -underBinder -merge -useContext +onlyGivenNames x3
  have h4 : Spec 0xf18c0e000000000000000000000000220000000901a478ea0000000000000000000000 a0 x3 := by
    refine Spec.ite ?_ ?_
    · exact h2
    · refine Spec.ite ?_ ?_
      · refine Spec.step (State.compatOff_spec _) rfl ?_
        exact h2
      · refine Spec.step (State.compatOn_spec _) rfl ?_
        exact h2
  clear_value x3
  extract_lets -underBinder -merge -useContext +onlyGivenNames x5
  have h6 : Spec 0xf18c0e000000000000000000000000220000000901a478ea0000000000000000000000 a0 x5 := by
    refine Spec.ite ?_ ?_
    · refine Spec.step (State.hkSync_spec _) rfl ?_
      exact h4
    · exact h4
  clear_value x5
  extract_lets -underBinder -merge -useContext +onlyGivenNames x7
  have h8 : Spec 0xf18c0e000000000000000000000000220000000901a478ea0000000000000000000000 a0 x7 := by
    refine Spec.ite ?_ ?_
    · refine Spec.step (State.hkUrgent_spec _) rfl ?_
      exact h6
    · exact h6
  clear_value x7
  extract_lets -underBinder -merge -useContext +onlyGivenNames x9
  have h10 : Spec 0xf18c0e000000000000000000000000220000000901a478ea0000000000000000000000 a0 x9 := by
    refine Spec.ite ?_ ?_
    · refine Spec.step (State.hkStart_spec _) rfl ?_
      exact h8
    · exact h8
  clear_value x9
  refine Spec.step (State.hkShow_spec _) rfl ?_
  refine Spec.ite ?_ ?_
  · refine Spec.step (State.hkStop_spec _) rfl ?_
    exact h10
  · exact h10

theorem State.chCfgWrite_spec : ∀ a0 a1 a2, Spec 0xb18c0c00000000000000000000000022000000090000834a0000000000000000000000 a0 (State.chCfgWrite a0 a1 a2) := by
  intro a0 a1 a2
  delta State.chCfgWrite
  extract_lets -underBinder -merge -useContext +onlyGivenNames x0
  have h1 : Spec 0xb18c0c00000000000000000000000022000000090000834a0000000000000000000000 a0 x0 := by
    refine Spec.step (State.hkChWrite_spec _ _ _ _ rfl) rfl ?_
    exact Spec.refl
  clear_value x0
  extract_lets -underBinder -merge -useContext +onlyGivenNames x2
  have h3 : Spec 0xb18c0c00000000000000000000000022000000090000834a0000000000000000000000 a0 x2 := by
    refine Spec.ite ?_ ?_
    · refine Spec.step (State.chgClose_spec _ _) rfl ?_
      exact h1
    · exact h1
  clear_value x2
  refine Spec.ite ?_ ?_
  · refine Spec.step (State.modHkCh_spec _ _ _) rfl ?_
    exact h3
  · exact h3

theorem State.dithWrite_spec : ∀ a0 a1 a2, Spec 0x4000000000000000000000000 a0 (State.dithWrite a0 a1 a2) := by
  intro a0 a1 a2
  delta State.dithWrite
  refine Spec.step (State.wr_spec _ _ _ _) rfl ?_
  refine Spec.step (State.writeRw_spec _ _ _ _ _) rfl ?_
  exact Spec.refl

theorem State.i3cCtrlWrite_spec : ∀ a0 a1, Spec 0x80000000000000000000000000000000000000260000000000000000000000000000 a0 (State.i3cCtrlWrite a0 a1) := by
  intro a0 a1
  delta State.i3cCtrlWrite
  extract_lets -underBinder -merge -useContext +onlyGivenNames x0
  have h1 : Spec 0x80000000000000000000000000000000000000260000000000000000000000000000 a0 x0 := by
    refine Spec.step (State.wr_spec _ _ _ _) rfl ?_
    exact Spec.refl
  clear_value x0
  extract_lets -underBinder -merge -useContext +onlyGivenNames x2
  have h3 : Spec 0x80000000000000000000000000000000000000260000000000000000000000000000 a0 x2 := by
    refine Spec.ite ?_ ?_
    · refine Spec.step (State.i3cEnable_spec _) rfl ?_
      exact h1
    · refine Spec.step (State.i3cDisable_spec _) rfl ?_
      exact h1
  clear_value x2
  refine Spec.ite ?_ ?_
  · refine Spec.step (State.i3cRescan_spec _) rfl ?_
    exact h3
  · exact h3

theorem State.bgStop_spec : ∀ a0, Spec 0xb10c0c000000000000000000000000220000000d0000000a0000000000000000000000 a0 (State.bgStop a0) := by
  intro a0
  delta State.bgStop
  extract_lets -underBinder -merge -useContext +onlyGivenNames x0
  have h3 : Spec 0xb10c0c000000000000000000000000220000000d0000000a0000000000000000000000 a0 x0 := by
    refine Spec.fold _ ?_ ?_
    · intro t1 i2
      try dsimp -zeta only
      refine Spec.step (State.calStop_spec _ _ _) rfl ?_
      exact Spec.refl
    · exact Spec.refl
  clear_value x0
  refine Spec.step (State.forceCheck_spec _ _ _) rfl ?_
  refine Spec.step (State.wr_spec _ _ _ _) rfl ?_
  exact (Spec.set_cal rfl h3)

theorem State.calCtrlWrite_spec : ∀ a0 a1, Spec 0xb10c1e000000000000000000000000220000000d8080000a0000000000000000000000 a0 (State.calCtrlWrite a0 a1) := by
  intro a0 a1
  delta State.calCtrlWrite
  extract_lets -underBinder -merge -useContext +onlyGivenNames x0
  have h1 : Spec 0xb10c1e000000000000000000000000220000000d8080000a0000000000000000000000 a0 x0 := by
    refine Spec.step (State.writeRw_spec _ _ _ _ _) rfl ?_
    exact Spec.refl
  clear_value x0
  extract_lets -underBinder -merge -useContext +onlyGivenNames x2
  have h3 : Spec 0xb10c1e000000000000000000000000220000000d8080000a0000000000000000000000 a0 x2 := by
    refine Spec.ite ?_ ?_
    · exact h1
    · refine Spec.step (State.bgStop_spec _) rfl ?_
      exact h1
  clear_value x2
  refine Spec.ite ?_ ?_
  · refine Spec.step (State.calForce_spec _) rfl ?_
    exact h3
  · exact h3

theorem State.todHiWrite_spec : ∀ a0 a1 a2, Spec 0x2060000000000000000000000000000000000000000000000000022000000000000000 a0 (State.todHiWrite a0 a1 a2) := by
  intro a0 a1 a2
  delta State.todHiWrite
  extract_lets -underBinder -merge -useContext +onlyGivenNames x0
  have h1 : Spec 0x2060000000000000000000000000000000000000000000000000022000000000000000 a0 x0 := by
    refine Spec.step (State.mirroredHostWrite_TIM_TOD_SEC_HI_spec _ _ _ _) rfl ?_
    exact Spec.refl
  clear_value x0
  refine Spec.ite ?_ ?_
  · refine Spec.step (State.todSet_spec _) rfl ?_
    exact h1
  · exact h1

theorem State.invCtrlWrite_spec : ∀ a0 a1 a2, Spec 0xb020000000000000000000000000000020000000000000000000000000000000000000 a0 (State.invCtrlWrite a0 a1 a2) := by
  intro a0 a1 a2
  delta State.invCtrlWrite
  extract_lets -underBinder -merge -useContext +onlyGivenNames x0
  have h1 : Spec 0xb020000000000000000000000000000020000000000000000000000000000000000000 a0 x0 := by
    refine Spec.step (State.mirroredHostWrite_PERF_INV_CTRL_spec _ _ _ _) rfl ?_
    exact Spec.refl
  clear_value x0
  refine Spec.ite ?_ ?_
  · refine Spec.step (State.startWalk_spec _ _ _) rfl ?_
    exact h1
  · exact h1

theorem State.regEffect_spec : ∀ a0 a1 a2 a3 a4, Spec 0xffffff0000000000000000000001ffffffffffffffffffffffffffffffffffffffffff a0 (State.regEffect a0 a1 a2 a3 a4) := by
  intro a0 a1 a2 a3 a4
  delta State.regEffect
  split
  · refine Spec.step (State.sysResetWrite_spec _ _ _) rfl ?_
    exact Spec.refl
  · refine Spec.step (State.irqMaskWrite_spec _ _) rfl ?_
    exact Spec.refl
  · refine Spec.ite ?_ ?_
    · refine Spec.step (State.hostPrivDrop_spec _) rfl ?_
      exact Spec.refl
    · exact Spec.refl
  · refine Spec.step (State.lcCtrlWrite_spec _ _ _) rfl ?_
    exact Spec.refl
  · refine Spec.step (State.trapCtrlWrite_spec _ _ _) rfl ?_
    exact Spec.refl
  · refine Spec.ite ?_ ?_
    · refine Spec.step (State.testMbox_spec _ _ _) rfl ?_
      exact Spec.refl
    · refine Spec.step (State.writeRw_spec _ _ _ _ _) (Rg.bit_absorb _ rfl) ?_
      exact Spec.refl
  · refine Spec.step (State.commitIdle_spec _) rfl ?_
    refine Spec.step (State.wakeTxWrite_spec _ _) rfl ?_
    exact Spec.refl
  · refine Spec.step (State.commitIdle_spec _) rfl ?_
    refine Spec.step (State.mirroredHostWrite_spec _ _ _ _ _) rfl ?_
    exact Spec.refl
  · refine Spec.step (State.padRelease_spec _ _) rfl ?_
    refine Spec.step (State.clearW1c_spec _ _ _ _ _) (Rg.bit_absorb2 _ rfl rfl) ?_
    exact Spec.refl
  · refine Spec.step (State.pairCtrlWrite_spec _ _) rfl ?_
    exact Spec.refl
  · refine Spec.step (State.pairStatusWrite_spec _ _) rfl ?_
    exact Spec.refl
  · refine Spec.step (State.bridgeRefresh_spec _) rfl ?_
    refine Spec.step (State.writeRw_spec _ _ _ _ _) (Rg.bit_absorb _ rfl) ?_
    exact Spec.refl
  · refine Spec.step (State.lockEnWrite_spec _ _ _) rfl ?_
    refine Spec.step (State.writeRw_spec _ _ _ _ _) (Rg.bit_absorb _ rfl) ?_
    exact Spec.refl
  · refine Spec.step (State.ringCfgWrite_spec _ _ _ _) rfl ?_
    exact Spec.refl
  · refine Spec.step (State.ctxWrite_spec _ _ _ _) rfl ?_
    exact Spec.refl
  · refine Spec.step (State.ctxWrite_spec _ _ _ _) rfl ?_
    exact Spec.refl
  · refine Spec.step (State.ctxWrite_spec _ _ _ _) rfl ?_
    exact Spec.refl
  · refine Spec.step (State.ctxWrite_spec _ _ _ _) rfl ?_
    exact Spec.refl
  · refine Spec.step (State.hkCtrlWrite_spec _ _) rfl ?_
    exact Spec.refl
  · refine Spec.step (State.chCfgWrite_spec _ _ _) rfl ?_
    exact Spec.refl
  · refine Spec.step (State.hkChWrite_spec _ _ _ _ rfl) rfl ?_
    exact Spec.refl
  · refine Spec.step (State.dithWrite_spec _ _ _) rfl ?_
    exact Spec.refl
  · refine Spec.step (State.hkShow_spec _) rfl ?_
    refine Spec.step (State.writeRw_spec _ _ _ _ _) (Rg.bit_absorb _ rfl) ?_
    exact Spec.refl
  · refine Spec.step (State.hkShow_spec _) rfl ?_
    refine Spec.step (State.writeRw_spec _ _ _ _ _) (Rg.bit_absorb _ rfl) ?_
    exact Spec.refl
  · refine Spec.step (State.almRefresh_spec _) rfl ?_
    refine Spec.step (State.writeRw_spec _ _ _ _ _) (Rg.bit_absorb _ rfl) ?_
    exact Spec.refl
  · refine Spec.step (State.almRefresh_spec _) rfl ?_
    refine Spec.step (State.writeRw_spec _ _ _ _ _) (Rg.bit_absorb _ rfl) ?_
    exact Spec.refl
  · refine Spec.step (State.aoutWrite_spec _ _ _) rfl ?_
    exact Spec.refl
  · refine Spec.step (State.i3cCtrlWrite_spec _ _) rfl ?_
    exact Spec.refl
  · refine Spec.step (State.calCtrlWrite_spec _ _) rfl ?_
    exact Spec.refl
  · refine Spec.step (State.dpllPstep_spec _ _ _) rfl ?_
    exact Spec.refl
  · refine Spec.step (State.todHiWrite_spec _ _ _) rfl ?_
    exact Spec.refl
  · refine Spec.step (State.invCtrlWrite_spec _ _ _) rfl ?_
    exact Spec.refl
  · refine Spec.step (State.clearW1c_spec _ _ _ _ _) (Rg.bit_absorb2 _ rfl rfl) ?_
    refine Spec.ite ?_ ?_
    · refine Spec.step (State.mirroredHostWrite_spec _ _ _ _ _) rfl ?_
      exact Spec.refl
    · refine Spec.step (State.writeRw_spec _ _ _ _ _) (Rg.bit_absorb _ rfl) ?_
      exact Spec.refl

theorem State.regAct_spec : ∀ a0 a1 a2 a3 a4, Spec 0xffffff0000000000000000000001ffffffffffffffffffffffffffffffffffffffffff a0 (State.regAct a0 a1 a2 a3 a4) := by
  intro a0 a1 a2 a3 a4
  delta State.regAct
  refine Spec.ite ?_ ?_
  · exact Spec.refl
  · refine Spec.step (State.regEffect_spec _ _ _ _ _) rfl ?_
    exact Spec.refl

theorem State.regTake_CIPH_ENG_CTRL_spec : ∀ a0 a1 a3 a4, Spec 0xffffff0000000000000000000001ffffffffffffffffffffffffffffffffffffffffff a0 (State.regTake a0 a1 Rg.CIPH_ENG_CTRL a3 a4) := by
  intro a0 a1 a3 a4
  delta State.regTake
  try dsimp -zeta only
  split
  · exact Spec.refl
  · refine Spec.step (State.shadowDrop_spec _) rfl ?_
    exact Spec.refl
  · refine Spec.step (State.modPwr_spec _ _) rfl ?_
    exact Spec.refl
  · refine Spec.step (State.cellarWrite_spec _ _ _) rfl ?_
    exact Spec.refl
  · refine Spec.step (State.regAct_spec _ _ _ _ _) rfl ?_
    exact Spec.refl

theorem State.fieldWrite_CIPH_ENG_CTRL_kp_flip_spec : ∀ a0 a1 a3 a4, Spec 0xffffff0000000000000000000001ffffffffffffffffffffffffffffffffffffffffff a0 (State.fieldWrite a0 a1 Fld.CIPH_ENG_CTRL_kp_flip a3 a4) := by
  intro a0 a1 a3 a4
  delta State.fieldWrite
  try dsimp -zeta only
  refine Spec.step (State.regTake_CIPH_ENG_CTRL_spec _ _ _ _) rfl ?_
  exact Spec.refl

theorem State.msixWrite_spec : ∀ a0 a1 a2, Spec 0xb00c0c00000000000000000000000022000000000000000a0000000000000000000000 a0 (State.msixWrite a0 a1 a2) := by
  intro a0 a1 a2
  delta State.msixWrite
  refine Spec.ite ?_ ?_
  · refine Spec.step (State.accBad_spec _) rfl ?_
    exact Spec.refl
  · refine Spec.ite ?_ ?_
    · refine Spec.ite ?_ ?_
      · refine Spec.step (State.flushMsix_spec _) rfl ?_
        exact (Spec.set_host rfl Spec.refl)
      · exact (Spec.set_host rfl Spec.refl)
    · refine Spec.ite ?_ ?_
      · exact Spec.refl
      · refine Spec.step (State.accBad_spec _) rfl ?_
        exact Spec.refl

theorem State.debugWrite_spec : ∀ a0 a1 a2 a3, Spec 0x800000000000000000000000000000000000000000000000000000000000000000000 a0 (State.debugWrite a0 a1 a2 a3) := by
  intro a0 a1 a2 a3
  delta State.debugWrite
  refine Spec.ite ?_ ?_
  · refine Spec.step (State.modSec_spec _ _) rfl ?_
    exact Spec.refl
  · exact Spec.refl

theorem State.regTake_spec : ∀ a0 a1 a2 a3 a4, Spec 0xffffff0000000000000000000001ffffffffffffffffffffffffffffffffffffffffff a0 (State.regTake a0 a1 a2 a3 a4) := by
  intro a0 a1 a2 a3 a4
  delta State.regTake
  split
  · exact Spec.refl
  · refine Spec.step (State.shadowDrop_spec _) rfl ?_
    exact Spec.refl
  · refine Spec.step (State.modPwr_spec _ _) rfl ?_
    exact Spec.refl
  · refine Spec.step (State.cellarWrite_spec _ _ _) rfl ?_
    exact Spec.refl
  · refine Spec.step (State.regAct_spec _ _ _ _ _) rfl ?_
    exact Spec.refl

theorem State.regWrite_spec : ∀ a0 a1 a2 a3, Spec 0xffffff0000000000000000000001ffffffffffffffffffffffffffffffffffffffffff a0 (State.regWrite a0 a1 a2 a3) := by
  intro a0 a1 a2 a3
  delta State.regWrite
  refine Spec.ite ?_ ?_
  · refine Spec.ite ?_ ?_
    · exact Spec.refl
    · refine Spec.step (State.msixWrite_spec _ _ _) rfl ?_
      exact Spec.refl
  · refine Spec.ite ?_ ?_
    · refine Spec.ite ?_ ?_
      · exact Spec.refl
      · refine Spec.step (State.accBad_spec _) rfl ?_
        exact Spec.refl
    · refine Spec.ite ?_ ?_
      · refine Spec.step (State.debugWrite_spec _ _ _ _) rfl ?_
        exact Spec.refl
      · refine Spec.ite ?_ ?_
        · refine Spec.ite ?_ ?_
          · refine Spec.step (State.raiseReg_spec _ _ _ _) rfl ?_
            exact Spec.refl
          · exact Spec.refl
        · split
          · refine Spec.step (State.regTake_spec _ _ _ _ _) rfl ?_
            exact Spec.refl
          · exact Spec.refl

theorem State.regTake_HK_CTRL_spec : ∀ a0 a1 a3 a4, Spec 0xffffff0000000000000000000001ffffffffffffffffffffffffffffffffffffffffff a0 (State.regTake a0 a1 Rg.HK_CTRL a3 a4) := by
  intro a0 a1 a3 a4
  delta State.regTake
  try dsimp -zeta only
  split
  · exact Spec.refl
  · refine Spec.step (State.shadowDrop_spec _) rfl ?_
    exact Spec.refl
  · refine Spec.step (State.modPwr_spec _ _) rfl ?_
    exact Spec.refl
  · refine Spec.step (State.cellarWrite_spec _ _ _) rfl ?_
    exact Spec.refl
  · refine Spec.step (State.regAct_spec _ _ _ _ _) rfl ?_
    exact Spec.refl

theorem State.fieldWrite_HK_CTRL_inj_go_spec : ∀ a0 a1 a3 a4, Spec 0xffffff0000000000000000000001ffffffffffffffffffffffffffffffffffffffffff a0 (State.fieldWrite a0 a1 Fld.HK_CTRL_inj_go a3 a4) := by
  intro a0 a1 a3 a4
  delta State.fieldWrite
  try dsimp -zeta only
  refine Spec.step (State.regTake_HK_CTRL_spec _ _ _ _) rfl ?_
  exact Spec.refl

theorem State.clockReplay_spec : ∀ a0, Spec 0xffffff0000000000000000000001ffffffffffffffffffffffffffffffffffffffffff a0 (State.clockReplay a0) := by
  intro a0
  delta State.clockReplay
  refine Spec.fold _ ?_ ?_
  · intro t0 i1
    try dsimp -zeta only
    split
    · refine Spec.step (State.regAct_spec _ _ _ _ _) rfl ?_
      exact Spec.refl
    · exact Spec.refl
  · refine Spec.step (State.modPwr_spec _ _) rfl ?_
    exact Spec.refl

theorem State.regTake_CIPH_LOCK_CTRL_spec : ∀ a0 a1 a3 a4, Spec 0xffffff0000000000000000000001ffffffffffffffffffffffffffffffffffffffffff a0 (State.regTake a0 a1 Rg.CIPH_LOCK_CTRL a3 a4) := by
  intro a0 a1 a3 a4
  delta State.regTake
  try dsimp -zeta only
  split
  · exact Spec.refl
  · refine Spec.step (State.shadowDrop_spec _) rfl ?_
    exact Spec.refl
  · refine Spec.step (State.modPwr_spec _ _) rfl ?_
    exact Spec.refl
  · refine Spec.step (State.cellarWrite_spec _ _ _) rfl ?_
    exact Spec.refl
  · refine Spec.step (State.regAct_spec _ _ _ _ _) rfl ?_
    exact Spec.refl

theorem State.fieldWrite_CIPH_LOCK_CTRL_lock_en_spec : ∀ a0 a1 a3 a4, Spec 0xffffff0000000000000000000001ffffffffffffffffffffffffffffffffffffffffff a0 (State.fieldWrite a0 a1 Fld.CIPH_LOCK_CTRL_lock_en a3 a4) := by
  intro a0 a1 a3 a4
  delta State.fieldWrite
  try dsimp -zeta only
  refine Spec.step (State.regTake_CIPH_LOCK_CTRL_spec _ _ _ _) rfl ?_
  exact Spec.refl

theorem State.regTake_PAIR_CTRL_spec : ∀ a0 a1 a3 a4, Spec 0xffffff0000000000000000000001ffffffffffffffffffffffffffffffffffffffffff a0 (State.regTake a0 a1 Rg.PAIR_CTRL a3 a4) := by
  intro a0 a1 a3 a4
  delta State.regTake
  try dsimp -zeta only
  split
  · exact Spec.refl
  · refine Spec.step (State.shadowDrop_spec _) rfl ?_
    exact Spec.refl
  · refine Spec.step (State.modPwr_spec _ _) rfl ?_
    exact Spec.refl
  · refine Spec.step (State.cellarWrite_spec _ _ _) rfl ?_
    exact Spec.refl
  · refine Spec.step (State.regAct_spec _ _ _ _ _) rfl ?_
    exact Spec.refl

theorem State.fieldWrite_PAIR_CTRL_pair_en_spec : ∀ a0 a1 a3 a4, Spec 0xffffff0000000000000000000001ffffffffffffffffffffffffffffffffffffffffff a0 (State.fieldWrite a0 a1 Fld.PAIR_CTRL_pair_en a3 a4) := by
  intro a0 a1 a3 a4
  delta State.fieldWrite
  try dsimp -zeta only
  refine Spec.step (State.regTake_PAIR_CTRL_spec _ _ _ _) rfl ?_
  exact Spec.refl

theorem State.regTake_HK_CH_CFG_spec : ∀ a0 a1 a3 a4, Spec 0xffffff0000000000000000000001ffffffffffffffffffffffffffffffffffffffffff a0 (State.regTake a0 a1 Rg.HK_CH_CFG a3 a4) := by
  intro a0 a1 a3 a4
  delta State.regTake
  try dsimp -zeta only
  split
  · exact Spec.refl
  · refine Spec.step (State.shadowDrop_spec _) rfl ?_
    exact Spec.refl
  · refine Spec.step (State.modPwr_spec _ _) rfl ?_
    exact Spec.refl
  · refine Spec.step (State.cellarWrite_spec _ _ _) rfl ?_
    exact Spec.refl
  · refine Spec.step (State.regAct_spec _ _ _ _ _) rfl ?_
    exact Spec.refl

theorem State.fieldWrite_HK_CH_CFG_lin_commit_spec : ∀ a0 a1 a3 a4, Spec 0xffffff0000000000000000000001ffffffffffffffffffffffffffffffffffffffffff a0 (State.fieldWrite a0 a1 Fld.HK_CH_CFG_lin_commit a3 a4) := by
  intro a0 a1 a3 a4
  delta State.fieldWrite
  try dsimp -zeta only
  refine Spec.step (State.regTake_HK_CH_CFG_spec _ _ _ _) rfl ?_
  exact Spec.refl

theorem State.regTake_HOST_RCTX_CFG_spec : ∀ a0 a1 a3 a4, Spec 0xffffff0000000000000000000001ffffffffffffffffffffffffffffffffffffffffff a0 (State.regTake a0 a1 Rg.HOST_RCTX_CFG a3 a4) := by
  intro a0 a1 a3 a4
  delta State.regTake
  try dsimp -zeta only
  split
  · exact Spec.refl
  · refine Spec.step (State.shadowDrop_spec _) rfl ?_
    exact Spec.refl
  · refine Spec.step (State.modPwr_spec _ _) rfl ?_
    exact Spec.refl
  · refine Spec.step (State.cellarWrite_spec _ _ _) rfl ?_
    exact Spec.refl
  · refine Spec.step (State.regAct_spec _ _ _ _ _) rfl ?_
    exact Spec.refl

theorem State.regTake_LE_FEC_CTRL_spec : ∀ a0 a1 a3 a4, Spec 0xffffff0000000000000000000001ffffffffffffffffffffffffffffffffffffffffff a0 (State.regTake a0 a1 Rg.LE_FEC_CTRL a3 a4) := by
  intro a0 a1 a3 a4
  delta State.regTake
  try dsimp -zeta only
  split
  · exact Spec.refl
  · refine Spec.step (State.shadowDrop_spec _) rfl ?_
    exact Spec.refl
  · refine Spec.step (State.modPwr_spec _ _) rfl ?_
    exact Spec.refl
  · refine Spec.step (State.cellarWrite_spec _ _ _) rfl ?_
    exact Spec.refl
  · refine Spec.step (State.regAct_spec _ _ _ _ _) rfl ?_
    exact Spec.refl

theorem State.fieldWrite_LE_FEC_CTRL_fec_test_spec : ∀ a0 a1 a3 a4, Spec 0xffffff0000000000000000000001ffffffffffffffffffffffffffffffffffffffffff a0 (State.fieldWrite a0 a1 Fld.LE_FEC_CTRL_fec_test a3 a4) := by
  intro a0 a1 a3 a4
  delta State.fieldWrite
  try dsimp -zeta only
  refine Spec.step (State.regTake_LE_FEC_CTRL_spec _ _ _ _) rfl ?_
  exact Spec.refl

theorem State.regTake_HK_CH_FLT_spec : ∀ a0 a1 a3 a4, Spec 0xffffff0000000000000000000001ffffffffffffffffffffffffffffffffffffffffff a0 (State.regTake a0 a1 Rg.HK_CH_FLT a3 a4) := by
  intro a0 a1 a3 a4
  delta State.regTake
  try dsimp -zeta only
  split
  · exact Spec.refl
  · refine Spec.step (State.shadowDrop_spec _) rfl ?_
    exact Spec.refl
  · refine Spec.step (State.modPwr_spec _ _) rfl ?_
    exact Spec.refl
  · refine Spec.step (State.cellarWrite_spec _ _ _) rfl ?_
    exact Spec.refl
  · refine Spec.step (State.regAct_spec _ _ _ _ _) rfl ?_
    exact Spec.refl

theorem State.regTake_SEC_LC_CTRL_spec : ∀ a0 a1 a3 a4, Spec 0xffffff0000000000000000000001ffffffffffffffffffffffffffffffffffffffffff a0 (State.regTake a0 a1 Rg.SEC_LC_CTRL a3 a4) := by
  intro a0 a1 a3 a4
  delta State.regTake
  try dsimp -zeta only
  split
  · exact Spec.refl
  · refine Spec.step (State.shadowDrop_spec _) rfl ?_
    exact Spec.refl
  · refine Spec.step (State.modPwr_spec _ _) rfl ?_
    exact Spec.refl
  · refine Spec.step (State.cellarWrite_spec _ _ _) rfl ?_
    exact Spec.refl
  · refine Spec.step (State.regAct_spec _ _ _ _ _) rfl ?_
    exact Spec.refl

theorem State.fieldWrite_SEC_LC_CTRL_lc_req_spec : ∀ a0 a1 a3 a4, Spec 0xffffff0000000000000000000001ffffffffffffffffffffffffffffffffffffffffff a0 (State.fieldWrite a0 a1 Fld.SEC_LC_CTRL_lc_req a3 a4) := by
  intro a0 a1 a3 a4
  delta State.fieldWrite
  try dsimp -zeta only
  refine Spec.step (State.regTake_SEC_LC_CTRL_spec _ _ _ _) rfl ?_
  exact Spec.refl

theorem State.fieldWrite_SEC_LC_CTRL_rb_raise_spec : ∀ a0 a1 a3 a4, Spec 0xffffff0000000000000000000001ffffffffffffffffffffffffffffffffffffffffff a0 (State.fieldWrite a0 a1 Fld.SEC_LC_CTRL_rb_raise a3 a4) := by
  intro a0 a1 a3 a4
  delta State.fieldWrite
  try dsimp -zeta only
  refine Spec.step (State.regTake_SEC_LC_CTRL_spec _ _ _ _) rfl ?_
  exact Spec.refl

theorem State.regTake_SEC_TRAP_CTRL_spec : ∀ a0 a1 a3 a4, Spec 0xffffff0000000000000000000001ffffffffffffffffffffffffffffffffffffffffff a0 (State.regTake a0 a1 Rg.SEC_TRAP_CTRL a3 a4) := by
  intro a0 a1 a3 a4
  delta State.regTake
  try dsimp -zeta only
  split
  · exact Spec.refl
  · refine Spec.step (State.shadowDrop_spec _) rfl ?_
    exact Spec.refl
  · refine Spec.step (State.modPwr_spec _ _) rfl ?_
    exact Spec.refl
  · refine Spec.step (State.cellarWrite_spec _ _ _) rfl ?_
    exact Spec.refl
  · refine Spec.step (State.regAct_spec _ _ _ _ _) rfl ?_
    exact Spec.refl

theorem State.fieldWrite_SEC_TRAP_CTRL_submit_spec : ∀ a0 a1 a3 a4, Spec 0xffffff0000000000000000000001ffffffffffffffffffffffffffffffffffffffffff a0 (State.fieldWrite a0 a1 Fld.SEC_TRAP_CTRL_submit a3 a4) := by
  intro a0 a1 a3 a4
  delta State.fieldWrite
  try dsimp -zeta only
  refine Spec.step (State.regTake_SEC_TRAP_CTRL_spec _ _ _ _) rfl ?_
  exact Spec.refl

theorem State.regTake_TIM_DPLL0_CTRL_spec : ∀ a0 a1 a3 a4, Spec 0xffffff0000000000000000000001ffffffffffffffffffffffffffffffffffffffffff a0 (State.regTake a0 a1 Rg.TIM_DPLL0_CTRL a3 a4) := by
  intro a0 a1 a3 a4
  delta State.regTake
  try dsimp -zeta only
  split
  · exact Spec.refl
  · refine Spec.step (State.shadowDrop_spec _) rfl ?_
    exact Spec.refl
  · refine Spec.step (State.modPwr_spec _ _) rfl ?_
    exact Spec.refl
  · refine Spec.step (State.cellarWrite_spec _ _ _) rfl ?_
    exact Spec.refl
  · refine Spec.step (State.regAct_spec _ _ _ _ _) rfl ?_
    exact Spec.refl

theorem State.fieldWrite_TIM_DPLL0_CTRL_loop_open_spec : ∀ a0 a1 a3 a4, Spec 0xffffff0000000000000000000001ffffffffffffffffffffffffffffffffffffffffff a0 (State.fieldWrite a0 a1 Fld.TIM_DPLL0_CTRL_loop_open a3 a4) := by
  intro a0 a1 a3 a4
  delta State.fieldWrite
  try dsimp -zeta only
  refine Spec.step (State.regTake_TIM_DPLL0_CTRL_spec _ _ _ _) rfl ?_
  exact Spec.refl

theorem State.fieldWrite_SEC_TRAP_CTRL_nonce_req_spec : ∀ a0 a1 a3 a4, Spec 0xffffff0000000000000000000001ffffffffffffffffffffffffffffffffffffffffff a0 (State.fieldWrite a0 a1 Fld.SEC_TRAP_CTRL_nonce_req a3 a4) := by
  intro a0 a1 a3 a4
  delta State.fieldWrite
  try dsimp -zeta only
  refine Spec.step (State.regTake_SEC_TRAP_CTRL_spec _ _ _ _) rfl ?_
  exact Spec.refl

theorem State.regTake_FAB_GRP_CTRL_spec : ∀ a0 a1 a3 a4, Spec 0xffffff0000000000000000000001ffffffffffffffffffffffffffffffffffffffffff a0 (State.regTake a0 a1 Rg.FAB_GRP_CTRL a3 a4) := by
  intro a0 a1 a3 a4
  delta State.regTake
  try dsimp -zeta only
  split
  · exact Spec.refl
  · refine Spec.step (State.shadowDrop_spec _) rfl ?_
    exact Spec.refl
  · refine Spec.step (State.modPwr_spec _ _) rfl ?_
    exact Spec.refl
  · refine Spec.step (State.cellarWrite_spec _ _ _) rfl ?_
    exact Spec.refl
  · refine Spec.step (State.regAct_spec _ _ _ _ _) rfl ?_
    exact Spec.refl

theorem State.fieldWrite_FAB_GRP_CTRL_bins_req_spec : ∀ a0 a1 a3 a4, Spec 0xffffff0000000000000000000001ffffffffffffffffffffffffffffffffffffffffff a0 (State.fieldWrite a0 a1 Fld.FAB_GRP_CTRL_bins_req a3 a4) := by
  intro a0 a1 a3 a4
  delta State.fieldWrite
  try dsimp -zeta only
  refine Spec.step (State.regTake_FAB_GRP_CTRL_spec _ _ _ _) rfl ?_
  exact Spec.refl

theorem State.regTake_PERF_CNT_SEL_spec : ∀ a0 a1 a3 a4, Spec 0xffffff0000000000000000000001ffffffffffffffffffffffffffffffffffffffffff a0 (State.regTake a0 a1 Rg.PERF_CNT_SEL a3 a4) := by
  intro a0 a1 a3 a4
  delta State.regTake
  try dsimp -zeta only
  split
  · exact Spec.refl
  · refine Spec.step (State.shadowDrop_spec _) rfl ?_
    exact Spec.refl
  · refine Spec.step (State.modPwr_spec _ _) rfl ?_
    exact Spec.refl
  · refine Spec.step (State.cellarWrite_spec _ _ _) rfl ?_
    exact Spec.refl
  · refine Spec.step (State.regAct_spec _ _ _ _ _) rfl ?_
    exact Spec.refl

theorem State.regTake_PWR_PAD_spec : ∀ a0 a1 a3 a4, Spec 0xffffff0000000000000000000001ffffffffffffffffffffffffffffffffffffffffff a0 (State.regTake a0 a1 Rg.PWR_PAD a3 a4) := by
  intro a0 a1 a3 a4
  delta State.regTake
  try dsimp -zeta only
  split
  · exact Spec.refl
  · refine Spec.step (State.shadowDrop_spec _) rfl ?_
    exact Spec.refl
  · refine Spec.step (State.modPwr_spec _ _) rfl ?_
    exact Spec.refl
  · refine Spec.step (State.cellarWrite_spec _ _ _) rfl ?_
    exact Spec.refl
  · refine Spec.step (State.regAct_spec _ _ _ _ _) rfl ?_
    exact Spec.refl

theorem State.fieldWrite_PWR_PAD_pad_release_spec : ∀ a0 a1 a3 a4, Spec 0xffffff0000000000000000000001ffffffffffffffffffffffffffffffffffffffffff a0 (State.fieldWrite a0 a1 Fld.PWR_PAD_pad_release a3 a4) := by
  intro a0 a1 a3 a4
  delta State.fieldWrite
  try dsimp -zeta only
  refine Spec.step (State.regTake_PWR_PAD_spec _ _ _ _) rfl ?_
  exact Spec.refl

theorem State.regTake_SEC_STATE_spec : ∀ a0 a1 a3 a4, Spec 0xffffff0000000000000000000001ffffffffffffffffffffffffffffffffffffffffff a0 (State.regTake a0 a1 Rg.SEC_STATE a3 a4) := by
  intro a0 a1 a3 a4
  delta State.regTake
  try dsimp -zeta only
  split
  · exact Spec.refl
  · refine Spec.step (State.shadowDrop_spec _) rfl ?_
    exact Spec.refl
  · refine Spec.step (State.modPwr_spec _ _) rfl ?_
    exact Spec.refl
  · refine Spec.step (State.cellarWrite_spec _ _ _) rfl ?_
    exact Spec.refl
  · refine Spec.step (State.regAct_spec _ _ _ _ _) rfl ?_
    exact Spec.refl

theorem State.fieldWrite_SEC_STATE_host_priv_spec : ∀ a0 a1 a3 a4, Spec 0xffffff0000000000000000000001ffffffffffffffffffffffffffffffffffffffffff a0 (State.fieldWrite a0 a1 Fld.SEC_STATE_host_priv a3 a4) := by
  intro a0 a1 a3 a4
  delta State.fieldWrite
  try dsimp -zeta only
  refine Spec.step (State.regTake_SEC_STATE_spec _ _ _ _) rfl ?_
  exact Spec.refl

theorem State.fieldWrite_spec : ∀ a0 a1 a2 a3 a4, Spec 0xffffff0000000000000000000001ffffffffffffffffffffffffffffffffffffffffff a0 (State.fieldWrite a0 a1 a2 a3 a4) := by
  intro a0 a1 a2 a3 a4
  delta State.fieldWrite
  refine Spec.step (State.regTake_spec _ _ _ _ _) rfl ?_
  exact Spec.refl

theorem State.fieldWrite_SEC_TRAP_CTRL_close_spec : ∀ a0 a1 a3 a4, Spec 0xffffff0000000000000000000001ffffffffffffffffffffffffffffffffffffffffff a0 (State.fieldWrite a0 a1 Fld.SEC_TRAP_CTRL_close a3 a4) := by
  intro a0 a1 a3 a4
  delta State.fieldWrite
  try dsimp -zeta only
  refine Spec.step (State.regTake_SEC_TRAP_CTRL_spec _ _ _ _) rfl ?_
  exact Spec.refl

theorem State.fieldWrite_HK_CTRL_compat_en_spec : ∀ a0 a1 a3 a4, Spec 0xffffff0000000000000000000001ffffffffffffffffffffffffffffffffffffffffff a0 (State.fieldWrite a0 a1 Fld.HK_CTRL_compat_en a3 a4) := by
  intro a0 a1 a3 a4
  delta State.fieldWrite
  try dsimp -zeta only
  refine Spec.step (State.regTake_HK_CTRL_spec _ _ _ _) rfl ?_
  exact Spec.refl

theorem State.regTake_SYS_RESET_spec : ∀ a0 a1 a3 a4, Spec 0xffffff0000000000000000000001ffffffffffffffffffffffffffffffffffffffffff a0 (State.regTake a0 a1 Rg.SYS_RESET a3 a4) := by
  intro a0 a1 a3 a4
  delta State.regTake
  try dsimp -zeta only
  split
  · exact Spec.refl
  · refine Spec.step (State.shadowDrop_spec _) rfl ?_
    exact Spec.refl
  · refine Spec.step (State.modPwr_spec _ _) rfl ?_
    exact Spec.refl
  · refine Spec.step (State.cellarWrite_spec _ _ _) rfl ?_
    exact Spec.refl
  · refine Spec.step (State.regAct_spec _ _ _ _ _) rfl ?_
    exact Spec.refl

theorem State.fieldWrite_SYS_RESET_eng_rst_spec : ∀ a0 a1 a3 a4, Spec 0xffffff0000000000000000000001ffffffffffffffffffffffffffffffffffffffffff a0 (State.fieldWrite a0 a1 Fld.SYS_RESET_eng_rst a3 a4) := by
  intro a0 a1 a3 a4
  delta State.fieldWrite
  try dsimp -zeta only
  refine Spec.step (State.regTake_SYS_RESET_spec _ _ _ _) rfl ?_
  exact Spec.refl

theorem State.regTake_PERF_INV_CTRL_spec : ∀ a0 a1 a3 a4, Spec 0xffffff0000000000000000000001ffffffffffffffffffffffffffffffffffffffffff a0 (State.regTake a0 a1 Rg.PERF_INV_CTRL a3 a4) := by
  intro a0 a1 a3 a4
  delta State.regTake
  try dsimp -zeta only
  split
  · exact Spec.refl
  · refine Spec.step (State.shadowDrop_spec _) rfl ?_
    exact Spec.refl
  · refine Spec.step (State.modPwr_spec _ _) rfl ?_
    exact Spec.refl
  · refine Spec.step (State.cellarWrite_spec _ _ _) rfl ?_
    exact Spec.refl
  · refine Spec.step (State.regAct_spec _ _ _ _ _) rfl ?_
    exact Spec.refl

theorem State.fieldWrite_PERF_INV_CTRL_snap_now_spec : ∀ a0 a1 a3 a4, Spec 0xffffff0000000000000000000001ffffffffffffffffffffffffffffffffffffffffff a0 (State.fieldWrite a0 a1 Fld.PERF_INV_CTRL_snap_now a3 a4) := by
  intro a0 a1 a3 a4
  delta State.fieldWrite
  try dsimp -zeta only
  refine Spec.step (State.regTake_PERF_INV_CTRL_spec _ _ _ _) rfl ?_
  exact Spec.refl

theorem State.fieldWrite_HK_CTRL_seq_go_spec : ∀ a0 a1 a3 a4, Spec 0xffffff0000000000000000000001ffffffffffffffffffffffffffffffffffffffffff a0 (State.fieldWrite a0 a1 Fld.HK_CTRL_seq_go a3 a4) := by
  intro a0 a1 a3 a4
  delta State.fieldWrite
  try dsimp -zeta only
  refine Spec.step (State.regTake_HK_CTRL_spec _ _ _ _) rfl ?_
  exact Spec.refl

theorem State.regTake_TIM_TOD_SEC_HI_spec : ∀ a0 a1 a3 a4, Spec 0xffffff0000000000000000000001ffffffffffffffffffffffffffffffffffffffffff a0 (State.regTake a0 a1 Rg.TIM_TOD_SEC_HI a3 a4) := by
  intro a0 a1 a3 a4
  delta State.regTake
  try dsimp -zeta only
  split
  · exact Spec.refl
  · refine Spec.step (State.shadowDrop_spec _) rfl ?_
    exact Spec.refl
  · refine Spec.step (State.modPwr_spec _ _) rfl ?_
    exact Spec.refl
  · refine Spec.step (State.cellarWrite_spec _ _ _) rfl ?_
    exact Spec.refl
  · refine Spec.step (State.regAct_spec _ _ _ _ _) rfl ?_
    exact Spec.refl

theorem State.regTake_TIM_DPLL_PSTEP_spec : ∀ a0 a1 a3 a4, Spec 0xffffff0000000000000000000001ffffffffffffffffffffffffffffffffffffffffff a0 (State.regTake a0 a1 Rg.TIM_DPLL_PSTEP a3 a4) := by
  intro a0 a1 a3 a4
  delta State.regTake
  try dsimp -zeta only
  split
  · exact Spec.refl
  · refine Spec.step (State.shadowDrop_spec _) rfl ?_
    exact Spec.refl
  · refine Spec.step (State.modPwr_spec _ _) rfl ?_
    exact Spec.refl
  · refine Spec.step (State.cellarWrite_spec _ _ _) rfl ?_
    exact Spec.refl
  · refine Spec.step (State.regAct_spec _ _ _ _ _) rfl ?_
    exact Spec.refl

theorem State.fieldWrite_SYS_RESET_warm_spec : ∀ a0 a1 a3 a4, Spec 0xffffff0000000000000000000001ffffffffffffffffffffffffffffffffffffffffff a0 (State.fieldWrite a0 a1 Fld.SYS_RESET_warm a3 a4) := by
  intro a0 a1 a3 a4
  delta State.fieldWrite
  try dsimp -zeta only
  refine Spec.step (State.regTake_SYS_RESET_spec _ _ _ _) rfl ?_
  exact Spec.refl

theorem State.regTake_HK_I3C_CTRL_spec : ∀ a0 a1 a3 a4, Spec 0xffffff0000000000000000000001ffffffffffffffffffffffffffffffffffffffffff a0 (State.regTake a0 a1 Rg.HK_I3C_CTRL a3 a4) := by
  intro a0 a1 a3 a4
  delta State.regTake
  try dsimp -zeta only
  split
  · exact Spec.refl
  · refine Spec.step (State.shadowDrop_spec _) rfl ?_
    exact Spec.refl
  · refine Spec.step (State.modPwr_spec _ _) rfl ?_
    exact Spec.refl
  · refine Spec.step (State.cellarWrite_spec _ _ _) rfl ?_
    exact Spec.refl
  · refine Spec.step (State.regAct_spec _ _ _ _ _) rfl ?_
    exact Spec.refl

theorem State.fieldWrite_HK_I3C_CTRL_i3c_en_spec : ∀ a0 a1 a3 a4, Spec 0xffffff0000000000000000000001ffffffffffffffffffffffffffffffffffffffffff a0 (State.fieldWrite a0 a1 Fld.HK_I3C_CTRL_i3c_en a3 a4) := by
  intro a0 a1 a3 a4
  delta State.fieldWrite
  try dsimp -zeta only
  refine Spec.step (State.regTake_HK_I3C_CTRL_spec _ _ _ _) rfl ?_
  exact Spec.refl

theorem State.regTake_PWR_WAKE_TX_spec : ∀ a0 a1 a3 a4, Spec 0xffffff0000000000000000000001ffffffffffffffffffffffffffffffffffffffffff a0 (State.regTake a0 a1 Rg.PWR_WAKE_TX a3 a4) := by
  intro a0 a1 a3 a4
  delta State.regTake
  try dsimp -zeta only
  split
  · exact Spec.refl
  · refine Spec.step (State.shadowDrop_spec _) rfl ?_
    exact Spec.refl
  · refine Spec.step (State.modPwr_spec _ _) rfl ?_
    exact Spec.refl
  · refine Spec.step (State.cellarWrite_spec _ _ _) rfl ?_
    exact Spec.refl
  · refine Spec.step (State.regAct_spec _ _ _ _ _) rfl ?_
    exact Spec.refl

theorem State.fieldWrite_HK_CTRL_sync_now_spec : ∀ a0 a1 a3 a4, Spec 0xffffff0000000000000000000001ffffffffffffffffffffffffffffffffffffffffff a0 (State.fieldWrite a0 a1 Fld.HK_CTRL_sync_now a3 a4) := by
  intro a0 a1 a3 a4
  delta State.fieldWrite
  try dsimp -zeta only
  refine Spec.step (State.regTake_HK_CTRL_spec _ _ _ _) rfl ?_
  exact Spec.refl

theorem State.regTake_CAL_CTRL_spec : ∀ a0 a1 a3 a4, Spec 0xffffff0000000000000000000001ffffffffffffffffffffffffffffffffffffffffff a0 (State.regTake a0 a1 Rg.CAL_CTRL a3 a4) := by
  intro a0 a1 a3 a4
  delta State.regTake
  try dsimp -zeta only
  split
  · exact Spec.refl
  · refine Spec.step (State.shadowDrop_spec _) rfl ?_
    exact Spec.refl
  · refine Spec.step (State.modPwr_spec _ _) rfl ?_
    exact Spec.refl
  · refine Spec.step (State.cellarWrite_spec _ _ _) rfl ?_
    exact Spec.refl
  · refine Spec.step (State.regAct_spec _ _ _ _ _) rfl ?_
    exact Spec.refl

theorem State.fieldWrite_CAL_CTRL_cal_force_spec : ∀ a0 a1 a3 a4, Spec 0xffffff0000000000000000000001ffffffffffffffffffffffffffffffffffffffffff a0 (State.fieldWrite a0 a1 Fld.CAL_CTRL_cal_force a3 a4) := by
  intro a0 a1 a3 a4
  delta State.fieldWrite
  try dsimp -zeta only
  refine Spec.step (State.regTake_CAL_CTRL_spec _ _ _ _) rfl ?_
  exact Spec.refl

theorem State.fieldWrite_HK_CTRL_seq_stop_spec : ∀ a0 a1 a3 a4, Spec 0xffffff0000000000000000000001ffffffffffffffffffffffffffffffffffffffffff a0 (State.fieldWrite a0 a1 Fld.HK_CTRL_seq_stop a3 a4) := by
  intro a0 a1 a3 a4
  delta State.fieldWrite
  try dsimp -zeta only
  refine Spec.step (State.regTake_HK_CTRL_spec _ _ _ _) rfl ?_
  exact Spec.refl

theorem State.fieldWrite_HK_I3C_CTRL_rescan_spec : ∀ a0 a1 a3 a4, Spec 0xffffff0000000000000000000001ffffffffffffffffffffffffffffffffffffffffff a0 (State.fieldWrite a0 a1 Fld.HK_I3C_CTRL_rescan a3 a4) := by
  intro a0 a1 a3 a4
  delta State.fieldWrite
  try dsimp -zeta only
  refine Spec.step (State.regTake_HK_I3C_CTRL_spec _ _ _ _) rfl ?_
  exact Spec.refl

theorem State.fieldWrite_HK_CH_CFG_chg_rst_spec : ∀ a0 a1 a3 a4, Spec 0xffffff0000000000000000000001ffffffffffffffffffffffffffffffffffffffffff a0 (State.fieldWrite a0 a1 Fld.HK_CH_CFG_chg_rst a3 a4) := by
  intro a0 a1 a3 a4
  delta State.fieldWrite
  try dsimp -zeta only
  refine Spec.step (State.regTake_HK_CH_CFG_spec _ _ _ _) rfl ?_
  exact Spec.refl

end Sys2Proof.Machine
end

