-- ==== Sys2Proof/Laws/Frames16.lean ====
section
/-! SUPPORT. What each operation and each command of the files Machine/HostCmd, ShelfOps, Boot, Bridge, Cellar, FrameOps can do: one lemma each,
`<name>_spec`, whose first argument is the footprint (Laws/Spec.lean). -/
namespace Sys2Proof.Machine

theorem State.flashChange_spec : ∀ a0 a1 a2 a3, Spec 0x4000010000000000000000000000000000000000000000000000000000000000000000 a0 (State.flashChange a0 a1 a2 a3) := by
  intro a0 a1 a2 a3
  delta State.flashChange
  split
  · refine Spec.ite ?_ ?_
    · exact (Spec.set_free rfl (Spec.trans Spec.refl (Spec.set_fuse rfl rfl (by first | exact id | exact flashErase_wf | exact flashProgram_wf))))
    · refine Spec.ite ?_ ?_
      · exact (Spec.trans Spec.refl (Spec.set_fuse rfl rfl (by first | exact id | exact flashErase_wf | exact flashProgram_wf)))
      · exact Spec.refl

theorem State.flashGone_spec : ∀ a0 a1, Spec 0x8000000000000000000000000000000000000000000000000000000000000000000 a0 (State.flashGone a0 a1) := by
  intro a0 a1
  delta State.flashGone
  exact (Spec.set_host rfl Spec.refl)

theorem execFlashTimeout_spec : ∀ a0, SpecO 0x400c010000000000000000000000000000000000000000000000000000000000000000 a0 (execFlashTimeout a0) := by
  intro a0
  delta execFlashTimeout
  refine SpecO.ok ?_
  split
  · exact Spec.refl
  · extract_lets -underBinder -merge -useContext +onlyGivenNames x0
    clear_value x0
    extract_lets -underBinder -merge -useContext +onlyGivenNames x1
    clear_value x1
    refine Spec.step (State.done_spec _ _ _ _ _) rfl ?_
    refine Spec.step (State.flashChange_spec _ _ _ _) rfl ?_
    refine Spec.step (State.tick_spec _) rfl ?_
    refine Spec.step (State.flashGone_spec _ _) rfl ?_
    exact Spec.refl

theorem execOhbTx_spec : ∀ a0 a1 a2, SpecO 0xc100000000000000000000000000000000000000000000000000000000000000000 a2 (execOhbTx a0 a1 a2) := by
  intro a0 a1 a2
  delta execOhbTx
  refine SpecO.ok ?_
  extract_lets -underBinder -merge -useContext +onlyGivenNames x0
  have h1 : Spec 0xc100000000000000000000000000000000000000000000000000000000000000000 a2 x0 := by
    refine Spec.step (State.settle_spec _ _ _) rfl ?_
    exact Spec.refl
  clear_value x0
  split
  · exact h1
  · extract_lets -underBinder -merge -useContext +onlyGivenNames x2
    have h3 : Spec 0xc100000000000000000000000000000000000000000000000000000000000000000 a2 x2 := by
      refine Spec.step (State.popDesc_spec _ _) rfl ?_
      exact h1
    clear_value x2
    split
    · refine Spec.step (State.refuse_spec _ _ _) rfl ?_
      exact h3
    · refine Spec.ite ?_ ?_
      · refine Spec.step (State.done_spec _ _ _ _ _) rfl ?_
        exact h3
      · refine Spec.step (State.modTx_spec _ _ _) rfl ?_
        exact h3

theorem State.flashStart_spec : ∀ a0 a1 a2, Spec 0xc000000000000000000000000000000000000000000000000000000000000000000 a0 (State.flashStart a0 a1 a2) := by
  intro a0 a1 a2
  delta State.flashStart
  split
  · extract_lets -underBinder -merge -useContext +onlyGivenNames x0
    have h1 : Spec 0xc000000000000000000000000000000000000000000000000000000000000000000 a0 x0 := by
      refine Spec.step (State.popDesc_spec _ _) rfl ?_
      exact Spec.refl
    clear_value x0
    refine Spec.ite ?_ ?_
    · refine Spec.step (State.refuse_spec _ _ _) rfl ?_
      exact h1
    · refine Spec.ite ?_ ?_
      · refine Spec.step (State.refuse_spec _ _ _) rfl ?_
        exact h1
      · exact (Spec.set_host rfl h1)

theorem execFlashErase_spec : ∀ a0 a1, SpecO 0xc000000000000000000000000000000000000000000000000000000000000000000 a1 (execFlashErase a0 a1) := by
  intro a0 a1
  delta execFlashErase
  refine SpecO.ok ?_
  extract_lets -underBinder -merge -useContext +onlyGivenNames x0
  have h1 : Spec 0xc000000000000000000000000000000000000000000000000000000000000000000 a1 x0 := by
    refine Spec.step (State.settle_spec _ _ _) rfl ?_
    exact Spec.refl
  clear_value x0
  split
  · exact h1
  · refine Spec.step (State.flashStart_spec _ _ _) rfl ?_
    exact h1

theorem execNop_spec : ∀ a0 a1, SpecO 0xc000000000000000000000000000000000000000000000000000000000000000000 a1 (execNop a0 a1) := by
  intro a0 a1
  delta execNop
  refine SpecO.ok ?_
  extract_lets -underBinder -merge -useContext +onlyGivenNames x0
  have h1 : Spec 0xc000000000000000000000000000000000000000000000000000000000000000000 a1 x0 := by
    refine Spec.step (State.settle_spec _ _ _) rfl ?_
    exact Spec.refl
  clear_value x0
  split
  · exact h1
  · refine Spec.step (State.done_spec _ _ _ _ _) rfl ?_
    refine Spec.step (State.popDesc_spec _ _) rfl ?_
    exact h1

theorem State.flashEnd_spec : ∀ a0 a1 a2, Spec 0x600c010000000000000000000000000000000000000000000000000000000000000000 a0 (State.flashEnd a0 a1 a2) := by
  intro a0 a1 a2
  delta State.flashEnd
  extract_lets -underBinder -merge -useContext +onlyGivenNames x0
  clear_value x0
  split
  · extract_lets -underBinder -merge -useContext +onlyGivenNames x1
    have h2 : Spec 0x600c010000000000000000000000000000000000000000000000000000000000000000 a0 x1 := by
      refine Spec.step (State.flashGone_spec _ _) rfl ?_
      exact Spec.refl
    clear_value x1
    extract_lets -underBinder -merge -useContext +onlyGivenNames x3
    clear_value x3
    refine Spec.ite ?_ ?_
    · extract_lets -underBinder -merge -useContext +onlyGivenNames x4
      clear_value x4
      refine Spec.step (State.done_spec _ _ _ _ _) rfl ?_
      refine Spec.step (State.emit_spec _ _) rfl ?_
      exact h2
    · refine Spec.ite ?_ ?_
      · extract_lets -underBinder -merge -useContext +onlyGivenNames x5
        clear_value x5
        refine Spec.step (State.done_spec _ _ _ _ _) rfl ?_
        refine Spec.step (State.flashChange_spec _ _ _ _) rfl ?_
        exact h2
      · extract_lets -underBinder -merge -useContext +onlyGivenNames x6
        clear_value x6
        refine Spec.step (State.done_spec _ _ _ _ _) rfl ?_
        refine Spec.step (State.flashChange_spec _ _ _ _) rfl ?_
        exact h2

theorem execFlashOpDone_spec : ∀ a0 a1, SpecO 0x600c010000000000000000000000000000000000000000000000000000000000000000 a1 (execFlashOpDone a0 a1) := by
  intro a0 a1
  delta execFlashOpDone
  refine SpecO.ok ?_
  split
  · exact Spec.refl
  · refine Spec.ite ?_ ?_
    · refine Spec.step (State.flashEnd_spec _ _ _) rfl ?_
      exact Spec.refl
    · refine Spec.ite ?_ ?_
      · refine Spec.step (State.flashEnd_spec _ _ _) rfl ?_
        exact Spec.refl
      · exact Spec.refl

theorem execFlashWrite_spec : ∀ a0 a1 a2, SpecO 0xc000000000000000000000000000000000000000000000000000000000000000000 a2 (execFlashWrite a0 a1 a2) := by
  intro a0 a1 a2
  delta execFlashWrite
  refine SpecO.ok ?_
  extract_lets -underBinder -merge -useContext +onlyGivenNames x0
  have h1 : Spec 0xc000000000000000000000000000000000000000000000000000000000000000000 a2 x0 := by
    refine Spec.step (State.settle_spec _ _ _) rfl ?_
    exact Spec.refl
  clear_value x0
  split
  · exact h1
  · refine Spec.step (State.flashStart_spec _ _ _) rfl ?_
    exact h1

theorem execFlashRead_spec : ∀ a0 a1, SpecO 0xc000000000000000000000000000000000000000000000000000000000000000000 a1 (execFlashRead a0 a1) := by
  intro a0 a1
  delta execFlashRead
  refine SpecO.ok ?_
  extract_lets -underBinder -merge -useContext +onlyGivenNames x0
  have h1 : Spec 0xc000000000000000000000000000000000000000000000000000000000000000000 a1 x0 := by
    refine Spec.step (State.settle_spec _ _ _) rfl ?_
    exact Spec.refl
  clear_value x0
  split
  · exact h1
  · refine Spec.step (State.flashStart_spec _ _ _) rfl ?_
    exact h1

theorem execRxBuf_spec : ∀ a0 a1, SpecO 0xc000000000000000000000000000000000000000000000000000000000000000000 a1 (execRxBuf a0 a1) := by
  intro a0 a1
  delta execRxBuf
  refine SpecO.ok ?_
  extract_lets -underBinder -merge -useContext +onlyGivenNames x0
  have h1 : Spec 0xc000000000000000000000000000000000000000000000000000000000000000000 a1 x0 := by
    refine Spec.step (State.settle_spec _ _ _) rfl ?_
    exact Spec.refl
  clear_value x0
  split
  · exact h1
  · refine Spec.step (State.modRing_spec _ _ _) rfl ?_
    refine Spec.step (State.popDesc_spec _ _) rfl ?_
    exact h1

theorem State.shelfBad_spec : ∀ a0, Spec 0xb00c0c00000000000000000000000022002000000000000a0000000000000000000000 a0 (State.shelfBad a0) := by
  intro a0
  delta State.shelfBad
  refine Spec.step (State.raiseCountReg_spec _ _ _ _ _ _) rfl ?_
  exact Spec.refl

theorem State.shelfEval_spec : ∀ a0, Spec 0xb00c0c0000000000000000000000002201e000000000000a0000000000000000000000 a0 (State.shelfEval a0) := by
  intro a0
  delta State.shelfEval
  extract_lets -underBinder -merge -useContext +onlyGivenNames x0
  clear_value x0
  extract_lets -underBinder -merge -useContext +onlyGivenNames x1
  clear_value x1
  extract_lets -underBinder -merge -useContext +onlyGivenNames x2
  clear_value x2
  extract_lets -underBinder -merge -useContext +onlyGivenNames x3
  clear_value x3
  extract_lets -underBinder -merge -useContext +onlyGivenNames x4
  clear_value x4
  extract_lets -underBinder -merge -useContext +onlyGivenNames x5
  have h6 : Spec 0xb00c0c0000000000000000000000002201e000000000000a0000000000000000000000 a0 x5 := by
    refine Spec.wrs_cons ?_
    refine Spec.wrs_cons ?_
    refine Spec.wrs_cons ?_
    refine Spec.wrs_cons ?_
    refine Spec.wrs_cons ?_
    refine Spec.wrs_cons ?_
    refine Spec.wrs_cons ?_
    refine Spec.wrs_nil ?_
    refine Spec.step (State.wr_spec _ _ _ _) rfl ?_
    refine Spec.step (State.wr_spec _ _ _ _) rfl ?_
    refine Spec.step (State.wr_spec _ _ _ _) rfl ?_
    refine Spec.step (State.wr_spec _ _ _ _) rfl ?_
    refine Spec.step (State.wr_spec _ _ _ _) rfl ?_
    refine Spec.step (State.wr_spec _ _ _ _) rfl ?_
    refine Spec.step (State.wr_spec _ _ _ _) rfl ?_
    exact Spec.refl
  clear_value x5
  extract_lets -underBinder -merge -useContext +onlyGivenNames x7
  have h8 : Spec 0xb00c0c0000000000000000000000002201e000000000000a0000000000000000000000 a0 x7 := by
    refine Spec.ite ?_ ?_
    · exact h6
    · refine Spec.step (State.shelfBad_spec _) rfl ?_
      exact h6
  clear_value x7
  extract_lets -underBinder -merge -useContext +onlyGivenNames x9
  have h10 : Spec 0xb00c0c0000000000000000000000002201e000000000000a0000000000000000000000 a0 x9 := by
    refine Spec.ite ?_ ?_
    · exact h8
    · refine Spec.step (State.shelfBad_spec _) rfl ?_
      exact h8
  clear_value x9
  refine Spec.ite ?_ ?_
  · exact h10
  · refine Spec.step (State.raiseReg_spec _ _ _ _) rfl ?_
    exact h10

theorem State.shelfRestore_spec : ∀ a0 a1 a2, Spec 0xffffff0000000000000000000001ffffffffffffffffffffffffffffffffffffffffff a0 (State.shelfRestore a0 a1 a2) := by
  intro a0 a1 a2
  delta State.shelfRestore
  extract_lets -underBinder -merge -useContext +onlyGivenNames x0
  clear_value x0
  extract_lets -underBinder -merge -useContext +onlyGivenNames x1
  have h4 : Spec 0xffffff0000000000000000000001ffffffffffffffffffffffffffffffffffffffffff a0 x1 := by
    refine Spec.fold _ ?_ ?_
    · intro t2 i3
      try dsimp -zeta only
      refine Spec.step (State.regWrite_spec _ _ _ _) rfl ?_
      exact Spec.refl
    · exact Spec.refl
  clear_value x1
  extract_lets -underBinder -merge -useContext +onlyGivenNames x5
  have h6 : Spec 0xffffff0000000000000000000001ffffffffffffffffffffffffffffffffffffffffff a0 x5 := by
    refine Spec.step (State.extend_spec _ _ _) rfl ?_
    exact h4
  clear_value x5
  split
  · refine Spec.ite ?_ ?_
    · refine Spec.step (State.modeRequest_spec _ _ _) rfl ?_
      exact h6
    · exact h6
  · exact h6

theorem State.bootRun_spec : ∀ a0 a1 a2, Spec 0xffffff0000000000000000000001ffffffffffffffffffffffffffffffffffffffffff a0 (State.bootRun a0 a1 a2) := by
  intro a0 a1 a2
  delta State.bootRun
  extract_lets -underBinder -merge -useContext +onlyGivenNames x0
  have h1 : Spec 0xffffff0000000000000000000001ffffffffffffffffffffffffffffffffffffffffff a0 x0 := by
    refine Spec.wrs_cons ?_
    refine Spec.wrs_cons ?_
    refine Spec.wrs_cons ?_
    refine Spec.wrs_cons ?_
    refine Spec.wrs_nil ?_
    refine Spec.step (State.wr_spec _ _ _ _) rfl ?_
    refine Spec.step (State.wr_spec _ _ _ _) rfl ?_
    refine Spec.step (State.wr_spec _ _ _ _) rfl ?_
    refine Spec.step (State.wr_spec _ _ _ _) rfl ?_
    exact Spec.refl
  clear_value x0
  extract_lets -underBinder -merge -useContext +onlyGivenNames x2
  have h3 : Spec 0xffffff0000000000000000000001ffffffffffffffffffffffffffffffffffffffffff a0 x2 := by
    refine Spec.step (State.shelfEval_spec _) rfl ?_
    refine Spec.step (State.extend_spec _ _ _) rfl ?_
    refine Spec.step (State.modSec_spec _ _) rfl ?_
    exact h1
  clear_value x2
  extract_lets -underBinder -merge -useContext +onlyGivenNames x4
  have h5 : Spec 0xffffff0000000000000000000001ffffffffffffffffffffffffffffffffffffffffff a0 x4 := by
    refine Spec.step (State.wr_spec _ _ _ _) rfl ?_
    exact h3
  clear_value x4
  extract_lets -underBinder -merge -useContext +onlyGivenNames x6
  have h7 : Spec 0xffffff0000000000000000000001ffffffffffffffffffffffffffffffffffffffffff a0 x6 := by
    unfold x6
    split
    · refine Spec.ite ?_ ?_
      · exact h5
      · refine Spec.step (State.shelfRestore_spec _ _ _) rfl ?_
        exact h5
    · exact h5
  clear_value x6
  refine Spec.step (State.wr_spec _ _ _ _) rfl ?_
  exact h7

theorem State.bootFail_spec : ∀ a0, Spec 0xb00c0c00000000000000000000001022002400000000000a0000000000000000000000 a0 (State.bootFail a0) := by
  intro a0
  delta State.bootFail
  refine Spec.step (State.wr_spec _ _ _ _) rfl ?_
  refine Spec.step (State.raiseReg_spec _ _ _ _) rfl ?_
  refine Spec.wrs_cons ?_
  refine Spec.wrs_cons ?_
  refine Spec.wrs_nil ?_
  refine Spec.step (State.wr_spec _ _ _ _) rfl ?_
  refine Spec.step (State.wr_spec _ _ _ _) rfl ?_
  exact Spec.refl

theorem execBootComplete_spec : ∀ a0 a1, SpecO 0xffffff0000000000000000000001ffffffffffffffffffffffffffffffffffffffffff a1 (execBootComplete a0 a1) := by
  intro a0 a1
  delta execBootComplete
  refine SpecO.ok ?_
  refine Spec.ite ?_ ?_
  · exact Spec.refl
  · extract_lets -underBinder -merge -useContext +onlyGivenNames x0
    have h1 : Spec 0xffffff0000000000000000000001ffffffffffffffffffffffffffffffffffffffffff a1 x0 := by
      refine Spec.step (State.extend_spec _ _ _) rfl ?_
      exact Spec.refl
    clear_value x0
    extract_lets -underBinder -merge -useContext +onlyGivenNames x2
    clear_value x2
    extract_lets -underBinder -merge -useContext +onlyGivenNames x3
    have h4 : Spec 0xffffff0000000000000000000001ffffffffffffffffffffffffffffffffffffffffff a1 x3 := by
      exact (Spec.set_pin rfl h1)
    clear_value x3
    extract_lets -underBinder -merge -useContext +onlyGivenNames x5
    have h6 : Spec 0xffffff0000000000000000000001ffffffffffffffffffffffffffffffffffffffffff a1 x5 := by
      unfold x5
      split
      · refine Spec.step (State.bootRun_spec _ _ _) rfl ?_
        exact h4
      · refine Spec.step (State.bootFail_spec _) rfl ?_
        exact h4
    clear_value x5
    refine Spec.step (State.emit_spec _ _) rfl ?_
    refine Spec.step (State.tamperReport_spec _) rfl ?_
    refine Spec.step (State.actRefresh_spec _) rfl ?_
    exact h6

theorem State.bridgeUse_spec : ∀ a0 a1 a2, Spec 0xb02c4c00000000000000000000000022000000000000000a0000000090008000000000 a0 (State.bridgeUse a0 a1 a2) := by
  intro a0 a1 a2
  delta State.bridgeUse
  extract_lets -underBinder -merge -useContext +onlyGivenNames x0
  clear_value x0
  extract_lets -underBinder -merge -useContext +onlyGivenNames x1
  have h2 : Spec 0xb02c4c00000000000000000000000022000000000000000a0000000090008000000000 a0 x1 := by
    refine Spec.step (State.copyClear_spec _ _) rfl ?_
    refine Spec.step (State.wr_spec _ _ _ _) rfl ?_
    exact Spec.refl
  clear_value x1
  refine Spec.step (State.raiseReg_spec _ _ _ _) rfl ?_
  refine Spec.ite ?_ ?_
  · refine Spec.step (State.dlmHunt_spec _ _) rfl ?_
    exact h2
  · exact h2

theorem State.copyIn_spec : ∀ a0 a1 a2, Spec 0x20400000000000000000000000000000000000000000000000000000000000000000 a0 (State.copyIn a0 a1 a2) := by
  intro a0 a1 a2
  delta State.copyIn
  refine Spec.ite ?_ ?_
  · exact Spec.refl
  · refine Spec.ite ?_ ?_
    · extract_lets -underBinder -merge -useContext +onlyGivenNames x0
      clear_value x0
      extract_lets -underBinder -merge -useContext +onlyGivenNames x1
      clear_value x1
      refine Spec.step (State.modTrib_spec _ _ _) rfl ?_
      exact Spec.refl
    · refine Spec.step (State.modPair_spec _ _) rfl ?_
      exact Spec.refl

theorem execBridgeSelect_spec : ∀ a0 a1 a2, SpecO 0xb02c4c00000000000000000000000022000000000000000a0000000090008000000000 a2 (execBridgeSelect a0 a1 a2) := by
  intro a0 a1 a2
  delta execBridgeSelect
  refine SpecO.ok ?_
  refine Spec.ite ?_ ?_
  · extract_lets -underBinder -merge -useContext +onlyGivenNames x0
    have h1 : Spec 0xb02c4c00000000000000000000000022000000000000000a0000000090008000000000 a2 x0 := by
      refine Spec.ite ?_ ?_
      · refine Spec.step (State.bridgeUse_spec _ _ _) rfl ?_
        exact Spec.refl
      · exact Spec.refl
    clear_value x0
    refine Spec.step (State.copyIn_spec _ _ _) rfl ?_
    exact h1
  · exact Spec.refl

theorem execBridgeRestore_spec : ∀ a0 a1, SpecO 0xb02c4c00000000000000000000000022000000000000000a0000000090008000000000 a1 (execBridgeRestore a0 a1) := by
  intro a0 a1
  delta execBridgeRestore
  refine SpecO.ok ?_
  refine Spec.ite ?_ ?_
  · refine Spec.step (State.bridgeUse_spec _ _ _) rfl ?_
    exact Spec.refl
  · exact Spec.refl

theorem execCellarPowerLoss_spec : ∀ a0, SpecO 0x400000000000000000000000001ffffffffffffffffffffffffffffffffffffffffff a0 (execCellarPowerLoss a0) := by
  intro a0
  delta execCellarPowerLoss
  refine SpecO.ok ?_
  refine Spec.step (State.railsGone_spec _ _) rfl ?_
  refine Spec.step (State.cellarLost_spec _) rfl ?_
  exact Spec.refl

theorem execCelAck_spec : ∀ a0, SpecO 0x800000000000000000000000000000000 a0 (execCelAck a0) := by
  intro a0
  delta execCelAck
  refine SpecO.ok ?_
  refine Spec.step (State.celAck_spec _) rfl ?_
  exact Spec.refl

theorem execCellarRegWrite_spec : ∀ a0 a1 a2 a3, SpecO 0xffffff0000000000000000000001ffffffffffffffffffffffffffffffffffffffffff a3 (execCellarRegWrite a0 a1 a2 a3) := by
  intro a0 a1 a2 a3
  delta execCellarRegWrite
  refine SpecO.ok ?_
  split
  · refine Spec.ite ?_ ?_
    · refine Spec.step (State.regTake_spec _ _ _ _ _) rfl ?_
      exact Spec.refl
    · exact Spec.refl
  · exact Spec.refl

theorem execVbatSample_spec : ∀ a0 a1 a2, SpecO 0x400000000000000000000000000000000000a00000000000000000000000000000000 a2 (execVbatSample a0 a1 a2) := by
  intro a0 a1 a2
  delta execVbatSample
  refine SpecO.ok ?_
  extract_lets -underBinder -merge -useContext +onlyGivenNames x0
  have h1 : Spec 0x400000000000000000000000000000000000a00000000000000000000000000000000 a2 x0 := by
    refine Spec.step (State.atRtc_spec _ _) rfl ?_
    exact Spec.refl
  clear_value x0
  refine Spec.ite ?_ ?_
  · exact h1
  · extract_lets -underBinder -merge -useContext +onlyGivenNames x2
    have h3 : Spec 0x400000000000000000000000000000000000a00000000000000000000000000000000 a2 x2 := by
      refine Spec.wrs_cons ?_
      refine Spec.wrs_cons ?_
      refine Spec.wrs_nil ?_
      refine Spec.step (State.wr_spec _ _ _ _) rfl ?_
      refine Spec.step (State.wr_spec _ _ _ _) rfl ?_
      exact h1
    clear_value x2
    refine Spec.ite ?_ ?_
    · refine Spec.step (State.logAdd_spec _ _ _) rfl ?_
      exact h3
    · exact h3

theorem State.cellAlarm_spec : ∀ a0 a1, Spec 0xb00c0c00000000000000000000000022000000000000000a0000000000000000000000 a0 (State.cellAlarm a0 a1) := by
  intro a0 a1
  delta State.cellAlarm
  refine Spec.step (State.raisePerf_spec _ _ _) rfl ?_
  exact Spec.refl

theorem execTamperAssert_spec : ∀ a0 a1 a2, SpecO 0xbe0e0e00000000000000000000000422002408500000000a0400000000000000000000 a2 (execTamperAssert a0 a1 a2) := by
  intro a0 a1 a2
  delta execTamperAssert
  refine SpecO.ok ?_
  extract_lets -underBinder -merge -useContext +onlyGivenNames x0
  have h1 : Spec 0xbe0e0e00000000000000000000000422002408500000000a0400000000000000000000 a2 x0 := by
    refine Spec.step (State.atRtc_spec _ _) rfl ?_
    exact Spec.refl
  clear_value x0
  extract_lets -underBinder -merge -useContext +onlyGivenNames x2
  clear_value x2
  refine Spec.ite ?_ ?_
  · exact h1
  · extract_lets -underBinder -merge -useContext +onlyGivenNames x3
    clear_value x3
    extract_lets -underBinder -merge -useContext +onlyGivenNames x4
    have h5 : Spec 0xbe0e0e00000000000000000000000422002408500000000a0400000000000000000000 a2 x4 := by
      exact (Spec.set_pin rfl h1)
    clear_value x4
    extract_lets -underBinder -merge -useContext +onlyGivenNames x6
    have h7 : Spec 0xbe0e0e00000000000000000000000422002408500000000a0400000000000000000000 a2 x6 := by
      refine Spec.step (State.trapShut_spec _) rfl ?_
      refine Spec.step (State.purgeAll_spec _) rfl ?_
      refine Spec.step (State.logAdd_spec _ _ _) rfl ?_
      exact h5
    clear_value x6
    extract_lets -underBinder -merge -useContext +onlyGivenNames x8
    have h9 : Spec 0xbe0e0e00000000000000000000000422002408500000000a0400000000000000000000 a2 x8 := by
      refine Spec.step (State.tamperReport_spec _) rfl ?_
      refine Spec.step (State.modPwr_spec _ _) rfl ?_
      exact h7
    clear_value x8
    refine Spec.ite ?_ ?_
    · refine Spec.step (State.wake_spec _ _ _ rfl) rfl ?_
      exact h9
    · exact h9

theorem execCellarWriteDone_spec : ∀ a0, SpecO 0x400000000000000000000000001ffffffffffffffffffffffffffffffffffffffffff a0 (execCellarWriteDone a0) := by
  intro a0
  delta execCellarWriteDone
  refine SpecO.ok ?_
  refine Spec.step (State.cellarDone_spec _) rfl ?_
  exact Spec.refl

theorem execCellarSupplyChangeover_spec : ∀ a0 a1, SpecO 0xa00000000000000000000000000000000 a1 (execCellarSupplyChangeover a0 a1) := by
  intro a0 a1
  delta execCellarSupplyChangeover
  refine SpecO.ok ?_
  extract_lets -underBinder -merge -useContext +onlyGivenNames x0
  have h1 : Spec 0xa00000000000000000000000000000000 a1 x0 := by
    refine Spec.step (State.wr_spec _ _ _ _) rfl ?_
    exact Spec.refl
  clear_value x0
  refine Spec.ite ?_ ?_
  · refine Spec.step (State.railsGone_spec _ _) rfl ?_
    exact h1
  · exact h1

theorem execRtcWrap_spec : ∀ a0, SpecO 0x400000000000000000000000000000000000800000000000000000000000000000000 a0 (execRtcWrap a0) := by
  intro a0
  delta execRtcWrap
  refine SpecO.ok ?_
  refine Spec.step (State.logAdd_spec _ _ _) rfl ?_
  refine Spec.step (State.wr_spec _ _ _ _) rfl ?_
  refine Spec.step (State.atRtc_spec _ _) rfl ?_
  exact Spec.refl

theorem execMothballTodLoad_spec : ∀ a0 a1, SpecO 0xb64c0c00000000000000000000000022000000000000000a0004002000000000000000 a1 (execMothballTodLoad a0 a1) := by
  intro a0 a1
  delta execMothballTodLoad
  refine SpecO.ok ?_
  split
  · exact Spec.refl
  · refine Spec.ite ?_ ?_
    · exact Spec.refl
    · extract_lets -underBinder -merge -useContext +onlyGivenNames x0
      have h1 : Spec 0xb64c0c00000000000000000000000022000000000000000a0004002000000000000000 a1 x0 := by
        refine Spec.step (State.modPwr_spec _ _) rfl ?_
        refine Spec.step (State.atTod_spec _ _) rfl ?_
        refine Spec.step (State.atRtc_spec _ _) rfl ?_
        exact Spec.refl
      clear_value x0
      refine Spec.step (State.setTrace_spec _ _) rfl ?_
      refine Spec.step (State.stepTod_spec _ _) rfl ?_
      exact h1

theorem execCellAlarmReport_spec : ∀ a0, SpecO 0xb40c0c00000000000000000000000022000008000000000a0000000000000000000000 a0 (execCellAlarmReport a0) := by
  intro a0
  delta execCellAlarmReport
  refine SpecO.ok ?_
  refine Spec.ite ?_ ?_
  · extract_lets -underBinder -merge -useContext +onlyGivenNames x0
    have h3 : Spec 0xb40c0c00000000000000000000000022000008000000000a0000000000000000000000 a0 x0 := by
      refine Spec.fold _ ?_ ?_
      · intro t1 i2
        try dsimp -zeta only
        refine Spec.step (State.cellAlarm_spec _ _) rfl ?_
        exact Spec.refl
      · exact Spec.refl
    clear_value x0
    refine Spec.step (State.logShow_spec _) rfl ?_
    refine Spec.step (State.modCel_spec _ _) rfl ?_
    exact h3
  · exact Spec.refl

theorem State.gmpContainer_spec : ∀ a0 a1 a2 a3, SpecP 0x4000600000000000000000000000000000000000000000000000000000000000000000 a0 (State.gmpContainer a0 a1 a2 a3) := by
  intro a0 a1 a2 a3
  delta State.gmpContainer
  extract_lets -underBinder -merge -useContext +onlyGivenNames x0
  clear_value x0
  extract_lets -underBinder -merge -useContext +onlyGivenNames x1
  clear_value x1
  extract_lets -underBinder -merge -useContext +onlyGivenNames x2
  clear_value x2
  split
  rename_i y3 y4 h5q
  have h5 : SpecP 0x4000600000000000000000000000000000000000000000000000000000000000000000 a0 (y3, y4) := by
    rw [← h5q]
    refine SpecP.step (State.portSlip_spec _ _) rfl ?_
    exact Spec.refl
  clear h5q
  extract_lets -underBinder -merge -useContext +onlyGivenNames x6
  clear_value x6
  extract_lets -underBinder -merge -useContext +onlyGivenNames x7
  clear_value x7
  extract_lets -underBinder -merge -useContext +onlyGivenNames x8
  clear_value x8
  extract_lets -underBinder -merge -useContext +onlyGivenNames x9
  clear_value x9
  extract_lets -underBinder -merge -useContext +onlyGivenNames x10
  have h11 : Spec 0x4000600000000000000000000000000000000000000000000000000000000000000000 a0 x10 := by
    refine Spec.ite ?_ ?_
    · exact (Spec.set_free rfl h5)
    · exact h5
  clear_value x10
  refine SpecP.mk ?_
  refine Spec.step (State.modTrib_spec _ _ _) rfl ?_
  exact h11

theorem State.ownContainer_spec : ∀ a0 a1 a2 a3, SpecP 0x4000600000000000000000000000000000000000000000000000000000000000000000 a0 (State.ownContainer a0 a1 a2 a3) := by
  intro a0 a1 a2 a3
  delta State.ownContainer
  refine SpecP.ite ?_ ?_
  · refine SpecP.step (State.gmpContainer_spec _ _ _ _) rfl ?_
    exact Spec.refl
  · split
    · refine SpecP.mk ?_
      refine Spec.step (State.modTrib_spec _ _ _) rfl ?_
      exact Spec.refl

theorem State.container_spec : ∀ a0 a1 a2 a3, SpecP 0x6020600000000000000000000000000000000000000000000000000000000000000000 a0 (State.container a0 a1 a2 a3) := by
  intro a0 a1 a2 a3
  delta State.container
  split
  rename_i y0 y1 h2q
  have h2 : SpecP 0x6020600000000000000000000000000000000000000000000000000000000000000000 a0 (y0, y1) := by
    rw [← h2q]
    refine SpecP.step (State.ownContainer_spec _ _ _ _) rfl ?_
    exact Spec.refl
  clear h2q
  extract_lets -underBinder -merge -useContext +onlyGivenNames x3
  have h4 : Spec 0x6020600000000000000000000000000000000000000000000000000000000000000000 a0 x3 := by
    refine Spec.step (State.sendCopies_spec _ _ _ _) rfl ?_
    exact h2
  clear_value x3
  split
  · refine SpecP.mk ?_
    exact h4
  · extract_lets -underBinder -merge -useContext +onlyGivenNames x5
    clear_value x5
    extract_lets -underBinder -merge -useContext +onlyGivenNames x6
    have h7 : Spec 0x6020600000000000000000000000000000000000000000000000000000000000000000 a0 x6 := by
      refine Spec.step (State.modPair_spec _ _) rfl ?_
      exact h4
    clear_value x6
    refine SpecP.mk ?_
    exact (Spec.set_free rfl h7)

theorem State.formGf_spec : ∀ a0 a1 a2 a3, Spec 0x6020e00000000000000000000000000000000000000000000000000000000000000000 a0 (State.formGf a0 a1 a2 a3) := by
  intro a0 a1 a2 a3
  delta State.formGf
  extract_lets -underBinder -merge -useContext +onlyGivenNames x0
  clear_value x0
  extract_lets -underBinder -merge -useContext +onlyGivenNames x1
  clear_value x1
  extract_lets -underBinder -merge -useContext +onlyGivenNames x2
  clear_value x2
  extract_lets -underBinder -merge -useContext +onlyGivenNames x3
  clear_value x3
  split
  rename_i y4 y5 h6q
  have h6 : SpecP 0x6020e00000000000000000000000000000000000000000000000000000000000000000 a0 (y4, y5) := by
    rw [← h6q]
    refine SpecP.step (State.container_spec _ _ _ _) rfl ?_
    exact Spec.refl
  clear h6q
  split
  · refine Spec.step (State.modGrp_spec _ _ _) rfl ?_
    exact h6

theorem State.shareOf_spec : ∀ a0 a1 a2 a3 a4 a5, SpecP 0x6020e00000000000000000000000000000000000000000000000000000000000000000 a0 (State.shareOf a0 a1 a2 a3 a4 a5) := by
  intro a0 a1 a2 a3 a4 a5
  delta State.shareOf
  extract_lets -underBinder -merge -useContext +onlyGivenNames x0
  have h1 : Spec 0x6020e00000000000000000000000000000000000000000000000000000000000000000 a0 x0 := by
    refine Spec.ite ?_ ?_
    · refine Spec.step (State.formGf_spec _ _ _ _) rfl ?_
      exact Spec.refl
    · exact Spec.refl
  clear_value x0
  split
  · refine SpecP.mk ?_
    exact h1
  · extract_lets -underBinder -merge -useContext +onlyGivenNames x2
    have h3 : Spec 0x6020e00000000000000000000000000000000000000000000000000000000000000000 a0 x2 := by
      refine Spec.step (State.modGrp_spec _ _ _) rfl ?_
      exact h1
    clear_value x2
    extract_lets -underBinder -merge -useContext +onlyGivenNames x4
    clear_value x4
    split
    rename_i y5 y6 h7q
    have h7 : SpecP 0x6020e00000000000000000000000000000000000000000000000000000000000000000 a0 (y5, y6) := by
      rw [← h7q]
      refine SpecP.ite ?_ ?_
      · refine SpecP.step (State.container_spec _ _ _ _) rfl ?_
        exact h3
      · refine SpecP.mk ?_
        exact h3
    clear h7q
    refine SpecP.mk ?_
    exact h7

theorem State.frameBytes_spec : ∀ a0 a1 a2 a3, SpecP 0x6020e00000000000000000000000000000000000000000000000000000000000000000 a0 (State.frameBytes a0 a1 a2 a3) := by
  intro a0 a1 a2 a3
  delta State.frameBytes
  extract_lets -underBinder -merge -useContext +onlyGivenNames x0
  clear_value x0
  split
  · refine SpecP.step (State.shareOf_spec _ _ _ _ _ _) rfl ?_
    exact Spec.refl
  · refine SpecP.step (State.container_spec _ _ _ _) rfl ?_
    exact Spec.refl

theorem State.payload_spec : ∀ a0 a1 a2, SpecP 0x6020e00000000000000000000000000000000000000000000000000000000000000000 a0 (State.payload a0 a1 a2) := by
  intro a0 a1 a2
  delta State.payload
  extract_lets -underBinder -merge -useContext +onlyGivenNames x0
  clear_value x0
  extract_lets -underBinder -merge -useContext +onlyGivenNames x1
  clear_value x1
  split
  rename_i y5 y6 h7q
  have h7 : SpecP 0x6020e00000000000000000000000000000000000000000000000000000000000000000 a0 (y5, y6) := by
    rw [← h7q]
    refine SpecP.fold _ ?_ ?_
    · intro a3 t4 i2
      try dsimp -zeta only
      refine SpecP.mk ?_
      refine SpecP.fst ?_
      refine SpecP.step (State.frameBytes_spec _ _ _ _) rfl ?_
      exact Spec.refl
    · refine SpecP.mk ?_
      exact Spec.refl
  clear h7q
  refine SpecP.mk ?_
  exact h7

end Sys2Proof.Machine
end

