-- ==== Sys2Proof/Laws/Frames17.lean ====
section
/-! SUPPORT. What each operation and each command of the files Machine/TxFrame can do: one lemma each,
`<name>_spec`, whose first argument is the footprint (Laws/Spec.lean). -/
namespace Sys2Proof.Machine

theorem State.sendPositions_spec : ∀ a0 a1 a2 a3, Spec 0x2000100000000000000000000000000000000000000000000000000000000000000000 a0 (State.sendPositions a0 a1 a2 a3) := by
  intro a0 a1 a2 a3
  delta State.sendPositions
  refine Spec.fold _ ?_ ?_
  · intro t0 i1
    try dsimp -zeta only
    refine Spec.step (State.sendPosition_spec _ _ _) rfl ?_
    exact Spec.refl
  · exact Spec.refl

theorem State.frameOut_spec : ∀ a0 a1 a2 a3, Spec 0x2000100000000000000000000000000000000000000000000000000000000000000000 a0 (State.frameOut a0 a1 a2 a3) := by
  intro a0 a1 a2 a3
  delta State.frameOut
  extract_lets -underBinder -merge -useContext +onlyGivenNames x0
  have h1 : Spec 0x2000100000000000000000000000000000000000000000000000000000000000000000 a0 x0 := by
    unfold x0
    split
    · refine Spec.step (State.emit_spec _ _) rfl ?_
      exact Spec.refl
    · refine Spec.step (State.modTx_spec _ _ _) rfl ?_
      exact Spec.refl
    · exact Spec.refl
  clear_value x0
  refine Spec.step (State.sendPositions_spec _ _ _ _) rfl ?_
  exact h1

theorem State.txSlip_spec : ∀ a0 a1 a2, SpecP 0x4000100000000000000000000000000000000000000000000000000000000000000000 a0 (State.txSlip a0 a1 a2) := by
  intro a0 a1 a2
  delta State.txSlip
  refine SpecP.ite ?_ ?_
  · refine SpecP.mk ?_
    exact Spec.refl
  · extract_lets -underBinder -merge -useContext +onlyGivenNames x0
    have h1 : Spec 0x4000100000000000000000000000000000000000000000000000000000000000000000 a0 x0 := by
      refine Spec.step (State.modTx_spec _ _ _) rfl ?_
      exact Spec.refl
    clear_value x0
    refine SpecP.mk ?_
    exact (Spec.set_free rfl h1)

theorem State.slipClients_spec : ∀ a0 a1 a2, SpecP 0x4000100000000000000000000000000000000000000000000000000000000000000000 a0 (State.slipClients a0 a1 a2) := by
  intro a0 a1 a2
  delta State.slipClients
  refine SpecP.ite ?_ ?_
  · refine SpecP.mk ?_
    exact Spec.refl
  · extract_lets -underBinder -merge -useContext +onlyGivenNames x0
    clear_value x0
    refine SpecP.mk ?_
    extract_lets -underBinder -merge -useContext +onlyGivenNames x1
    have h2 : Spec 0x4000100000000000000000000000000000000000000000000000000000000000000000 a0 x1 := by
      refine Spec.step (State.modTx_spec _ _ _) rfl ?_
      exact Spec.refl
    clear_value x1
    exact (Spec.set_free rfl h2)

theorem State.interopFrame_spec : ∀ a0 a1, Spec 0x6000500000000000000000000000000000000000000000000000000000000000000000 a0 (State.interopFrame a0 a1) := by
  intro a0 a1
  delta State.interopFrame
  extract_lets -underBinder -merge -useContext +onlyGivenNames x0
  clear_value x0
  extract_lets -underBinder -merge -useContext +onlyGivenNames x1
  clear_value x1
  extract_lets -underBinder -merge -useContext +onlyGivenNames x2
  clear_value x2
  extract_lets -underBinder -merge -useContext +onlyGivenNames x3
  clear_value x3
  extract_lets -underBinder -merge -useContext +onlyGivenNames x4
  clear_value x4
  extract_lets -underBinder -merge -useContext +onlyGivenNames x5
  clear_value x5
  split
  rename_i y6 y7 h8q
  have h8 : SpecP 0x6000500000000000000000000000000000000000000000000000000000000000000000 a0 (y6, y7) := by
    rw [← h8q]
    refine SpecP.step (State.slipClients_spec _ _ _) rfl ?_
    exact Spec.refl
  clear h8q
  extract_lets -underBinder -merge -useContext +onlyGivenNames x9
  have h12 : Spec 0x6000500000000000000000000000000000000000000000000000000000000000000000 a0 x9 := by
    refine Spec.ite ?_ ?_
    · refine Spec.step (State.modTx_spec _ _ _) rfl ?_
      exact h8
    · refine Spec.fold _ ?_ ?_
      · intro t10 i11
        try dsimp -zeta only
        refine Spec.step (State.modTrib_spec _ _ _) rfl ?_
        exact Spec.refl
      · exact h8
  clear_value x9
  extract_lets -underBinder -merge -useContext +onlyGivenNames x13
  clear_value x13
  extract_lets -underBinder -merge -useContext +onlyGivenNames x14
  have h15 : Spec 0x6000500000000000000000000000000000000000000000000000000000000000000000 a0 x14 := by
    unfold x14
    split
    · refine Spec.step (State.emitInterop_spec _ _ _) rfl ?_
      exact h12
    · refine Spec.step (State.loopBits_spec _ _ _) rfl ?_
      refine Spec.step (State.modTx_spec _ _ _) rfl ?_
      exact h12
    · exact h12
  clear_value x14
  refine Spec.step (State.modTx_spec _ _ _) rfl ?_
  refine Spec.step (State.modFec_spec _ _ _) rfl ?_
  exact h15

theorem State.encrypt_spec : ∀ a0 a1 a2, SpecP 0x100000000000000000000000000000000000000000000000000000000000000000 a0 (State.encrypt a0 a1 a2) := by
  intro a0 a1 a2
  delta State.encrypt
  extract_lets -underBinder -merge -useContext +onlyGivenNames x0
  clear_value x0
  extract_lets -underBinder -merge -useContext +onlyGivenNames x1
  clear_value x1
  refine SpecP.ite ?_ ?_
  · refine SpecP.mk ?_
    exact Spec.refl
  · extract_lets -underBinder -merge -useContext +onlyGivenNames x2
    clear_value x2
    split
    · refine SpecP.mk ?_
      refine Spec.step (State.modTx_spec _ _ _) rfl ?_
      exact Spec.refl

theorem State.sendFrame_spec : ∀ a0 a1 a2 a3 a4 a5 a6 a7, Spec 0x2000100000000000000000000000000000000000000000000000000000000000000000 a0 (State.sendFrame a0 a1 a2 a3 a4 a5 a6 a7) := by
  intro a0 a1 a2 a3 a4 a5 a6 a7
  delta State.sendFrame
  extract_lets -underBinder -merge -useContext +onlyGivenNames x0
  clear_value x0
  extract_lets -underBinder -merge -useContext +onlyGivenNames x1
  clear_value x1
  extract_lets -underBinder -merge -useContext +onlyGivenNames x2
  have h3 : Spec 0x2000100000000000000000000000000000000000000000000000000000000000000000 a0 x2 := by
    refine Spec.step (State.frameOut_spec _ _ _ _) rfl ?_
    exact Spec.refl
  clear_value x2
  refine Spec.step (State.modTx_spec _ _ _) rfl ?_
  exact h3

theorem State.regenFrame_spec : ∀ a0 a1, Spec 0x6000100000000000000000000000000000000000000000000000000000000000000001 a0 (State.regenFrame a0 a1) := by
  intro a0 a1
  delta State.regenFrame
  extract_lets -underBinder -merge -useContext +onlyGivenNames x0
  clear_value x0
  extract_lets -underBinder -merge -useContext +onlyGivenNames x1
  clear_value x1
  split
  · extract_lets -underBinder -merge -useContext +onlyGivenNames x2
    clear_value x2
    extract_lets -underBinder -merge -useContext +onlyGivenNames x3
    have h4 : Spec 0x6000100000000000000000000000000000000000000000000000000000000000000001 a0 x3 := by
      refine Spec.step (State.modTx_spec _ _ _) rfl ?_
      exact Spec.refl
    clear_value x3
    split
    rename_i y5 y6 h7q
    have h7 : SpecP 0x6000100000000000000000000000000000000000000000000000000000000000000001 a0 (y5, y6) := by
      rw [← h7q]
      refine SpecP.step (State.txSlip_spec _ _ _) rfl ?_
      exact h4
    clear h7q
    split
    rename_i y8 y9 h10q
    have h10 : SpecP 0x6000100000000000000000000000000000000000000000000000000000000000000001 a0 (y8, y9) := by
      rw [← h10q]
      refine SpecP.ite ?_ ?_
      · refine SpecP.mk ?_
        exact h7
      · refine SpecP.step (State.encrypt_spec _ _ _) rfl ?_
        exact h7
    clear h10q
    extract_lets -underBinder -merge -useContext +onlyGivenNames x11
    clear_value x11
    split
    · refine Spec.step (State.sendFrame_spec _ _ _ _ _ _ _ _) rfl ?_
      refine Spec.step (State.wr_spec _ _ _ _) rfl ?_
      exact h10
  · extract_lets -underBinder -merge -useContext +onlyGivenNames x12
    clear_value x12
    extract_lets -underBinder -merge -useContext +onlyGivenNames x13
    clear_value x13
    extract_lets -underBinder -merge -useContext +onlyGivenNames x14
    clear_value x14
    extract_lets -underBinder -merge -useContext +onlyGivenNames x15
    clear_value x15
    split
    · refine Spec.step (State.sendFrame_spec _ _ _ _ _ _ _ _) rfl ?_
      refine Spec.step (State.wr_spec _ _ _ _) rfl ?_
      exact Spec.refl

theorem State.ownFrame_spec : ∀ a0 a1 a2, Spec 0x6020f00000000000000000000000000000000000000000000000000000000000000000 a0 (State.ownFrame a0 a1 a2) := by
  intro a0 a1 a2
  delta State.ownFrame
  extract_lets -underBinder -merge -useContext +onlyGivenNames x0
  clear_value x0
  extract_lets -underBinder -merge -useContext +onlyGivenNames x1
  clear_value x1
  split
  rename_i y2 y3 h4q
  have h4 : SpecP 0x6020f00000000000000000000000000000000000000000000000000000000000000000 a0 (y2, y3) := by
    rw [← h4q]
    refine SpecP.ite ?_ ?_
    · refine SpecP.mk ?_
      refine Spec.step (State.shareDrop_spec _ _) rfl ?_
      exact Spec.refl
    · refine SpecP.step (State.payload_spec _ _ _) rfl ?_
      exact Spec.refl
  clear h4q
  split
  rename_i y5 y6 h7q
  have h7 : SpecP 0x6020f00000000000000000000000000000000000000000000000000000000000000000 a0 (y5, y6) := by
    rw [← h7q]
    refine SpecP.step (State.txSlip_spec _ _ _) rfl ?_
    exact h4
  clear h7q
  split
  rename_i y8 y9 h10q
  have h10 : SpecP 0x6020f00000000000000000000000000000000000000000000000000000000000000000 a0 (y8, y9) := by
    rw [← h10q]
    refine SpecP.step (State.encrypt_spec _ _ _) rfl ?_
    exact h7
  clear h10q
  extract_lets -underBinder -merge -useContext +onlyGivenNames x11
  clear_value x11
  extract_lets -underBinder -merge -useContext +onlyGivenNames x12
  clear_value x12
  refine Spec.step (State.sendFrame_spec _ _ _ _ _ _ _ _) rfl ?_
  exact h10

theorem execTxFrame_spec : ∀ a0 a1 a2, SpecO 0x6020f00000000000000000000000000000000000000000000000000000000000000001 a2 (execTxFrame a0 a1 a2) := by
  intro a0 a1 a2
  delta execTxFrame
  extract_lets -underBinder -merge -useContext +onlyGivenNames x0
  clear_value x0
  refine SpecO.ok ?_
  refine Spec.ite ?_ ?_
  · exact Spec.refl
  · refine Spec.ite ?_ ?_
    · refine Spec.step (State.testPosition_spec _ _) rfl ?_
      exact Spec.refl
    · refine Spec.ite ?_ ?_
      · exact Spec.refl
      · refine Spec.ite ?_ ?_
        · refine Spec.step (State.interopFrame_spec _ _) rfl ?_
          exact Spec.refl
        · refine Spec.ite ?_ ?_
          · exact Spec.refl
          · extract_lets -underBinder -merge -useContext +onlyGivenNames x1
            have h2 : Spec 0x6020f00000000000000000000000000000000000000000000000000000000000000001 a2 x1 := by
              refine Spec.step (State.protRefresh_spec _ _) rfl ?_
              exact Spec.refl
            clear_value x1
            refine Spec.ite ?_ ?_
            · refine Spec.step (State.regenFrame_spec _ _) rfl ?_
              exact h2
            · refine Spec.step (State.ownFrame_spec _ _ _) rfl ?_
              exact h2

end Sys2Proof.Machine
end

