-- ==== Sys2Proof/Laws/Frames18.lean ====
section
/-! SUPPORT. What each operation and each command of the files Machine/RxOps can do: one lemma each,
`<name>_spec`, whose first argument is the footprint (Laws/Spec.lean). -/
namespace Sys2Proof.Machine

theorem State.rxKp_spec : ∀ a0 a1, Spec 0xb00c0c00000000000000000000000022000000000000000a0010000000000000000000 a0 (State.rxKp a0 a1) := by
  intro a0 a1
  delta State.rxKp
  extract_lets -underBinder -merge -useContext +onlyGivenNames x0
  clear_value x0
  refine Spec.ite ?_ ?_
  · refine Spec.step (State.wr_spec _ _ _ _) rfl ?_
    exact Spec.refl
  · refine Spec.ite ?_ ?_
    · refine Spec.step (State.wr_spec _ _ _ _) rfl ?_
      exact Spec.refl
    · refine Spec.ite ?_ ?_
      · refine Spec.step (State.count_spec _ _ _) rfl ?_
        exact Spec.refl
      · exact Spec.refl

theorem State.authBreak_spec : ∀ a0 a1 a2, Spec 0x100000000000000000000000000000000000000000000000000000000000000000 a0 (State.authBreak a0 a1 a2) := by
  intro a0 a1 a2
  delta State.authBreak
  refine Spec.step (State.modRx_spec _ _ _) rfl ?_
  exact Spec.refl

theorem State.scStart_spec : ∀ a0 a1, Spec 0x100000000000000000000000000000000000000000000000000000000000000000 a0 (State.scStart a0 a1) := by
  intro a0 a1
  delta State.scStart
  refine Spec.step (State.modRx_spec _ _ _) rfl ?_
  exact Spec.refl

theorem State.rxMessage_spec : ∀ a0 a1 a2 a3, Spec 0xb00c1c00000000000000000000000022000000000000000a0080000000000000000000 a0 (State.rxMessage a0 a1 a2 a3) := by
  intro a0 a1 a2 a3
  delta State.rxMessage
  extract_lets -underBinder -merge -useContext +onlyGivenNames x0
  clear_value x0
  extract_lets -underBinder -merge -useContext +onlyGivenNames x1
  clear_value x1
  extract_lets -underBinder -merge -useContext +onlyGivenNames x2
  clear_value x2
  extract_lets -underBinder -merge -useContext +onlyGivenNames x3
  clear_value x3
  extract_lets -underBinder -merge -useContext +onlyGivenNames x4
  clear_value x4
  extract_lets -underBinder -merge -useContext +onlyGivenNames x5
  clear_value x5
  extract_lets -underBinder -merge -useContext +onlyGivenNames x6
  clear_value x6
  extract_lets -underBinder -merge -useContext +onlyGivenNames x7
  clear_value x7
  extract_lets -underBinder -merge -useContext +onlyGivenNames x8
  have h9 : Spec 0xb00c1c00000000000000000000000022000000000000000a0080000000000000000000 a0 x8 := by
    refine Spec.step (State.modRx_spec _ _ _) rfl ?_
    exact Spec.refl
  clear_value x8
  extract_lets -underBinder -merge -useContext +onlyGivenNames x10
  have h11 : Spec 0xb00c1c00000000000000000000000022000000000000000a0080000000000000000000 a0 x10 := by
    refine Spec.ite ?_ ?_
    · refine Spec.step (State.count_spec _ _ _) rfl ?_
      exact h9
    · exact h9
  clear_value x10
  refine Spec.ite ?_ ?_
  · refine Spec.step (State.raiseCountReg_spec _ _ _ _ _ _) rfl ?_
    exact h11
  · exact h11

theorem State.rxMessages_spec : ∀ a0 a1 a2, Spec 0xb00c1c00000000000000000000000022000000000000000a0080000000000000000000 a0 (State.rxMessages a0 a1 a2) := by
  intro a0 a1 a2
  delta State.rxMessages
  extract_lets -underBinder -merge -useContext +onlyGivenNames x0
  clear_value x0
  extract_lets -underBinder -merge -useContext +onlyGivenNames x1
  clear_value x1
  extract_lets -underBinder -merge -useContext +onlyGivenNames x2
  have h3 : Spec 0xb00c1c00000000000000000000000022000000000000000a0080000000000000000000 a0 x2 := by
    refine Spec.ite ?_ ?_
    · exact Spec.refl
    · refine Spec.step (State.count_spec _ _ _) rfl ?_
      exact Spec.refl
  clear_value x2
  extract_lets -underBinder -merge -useContext +onlyGivenNames x4
  have h7 : Spec 0xb00c1c00000000000000000000000022000000000000000a0080000000000000000000 a0 x4 := by
    refine Spec.fold _ ?_ ?_
    · intro t5 i6
      try dsimp -zeta only
      refine Spec.ite ?_ ?_
      · refine Spec.step (State.authBreak_spec _ _ _) rfl ?_
        exact Spec.refl
      · exact Spec.refl
    · exact h3
  clear_value x4
  extract_lets -underBinder -merge -useContext +onlyGivenNames x8
  have h9 : Spec 0xb00c1c00000000000000000000000022000000000000000a0080000000000000000000 a0 x8 := by
    refine Spec.step (State.scStart_spec _ _) rfl ?_
    refine Spec.step (State.modRx_spec _ _ _) rfl ?_
    exact h7
  clear_value x8
  refine Spec.fold _ ?_ ?_
  · intro t10 i11
    try dsimp -zeta only
    refine Spec.step (State.rxMessage_spec _ _ _ _) rfl ?_
    exact Spec.refl
  · exact h9

theorem State.setDauth_spec : ∀ s n l v, Spec 0xb00ccc00000000000000000000000022000000000000000a00e000000000a000000000 s (State.setDauth s n l v) := by
  intro s n l v
  delta State.setDauth
  extract_lets -underBinder -merge -useContext +onlyGivenNames f w x
  have hx : Spec 0xb00ccc00000000000000000000000022000000000000000a00e000000000a000000000 s x := by
    refine Spec.step (State.wr_spec _ _ _ _) ?_ Spec.refl
    change Fld.bit (if _ then _ else _) ||| _ = _
    split <;> rfl
  refine Spec.step (State.fabRefresh_spec _) rfl ?_
  cases v <;> exact Spec.step (State.raiseReg_spec _ _ _ _) rfl hx

theorem State.authPass_spec : ∀ a0 a1 a2, Spec 0xb00cdc00000000000000000000000022000000000000000a00e000000000a000000000 a0 (State.authPass a0 a1 a2) := by
  intro a0 a1 a2
  delta State.authPass
  extract_lets -underBinder -merge -useContext +onlyGivenNames x0
  have h1 : Spec 0xb00cdc00000000000000000000000022000000000000000a00e000000000a000000000 a0 x0 := by
    refine Spec.step (State.modRx_spec _ _ _) rfl ?_
    exact Spec.refl
  clear_value x0
  refine Spec.ite ?_ ?_
  · refine Spec.step (State.setDauth_spec _ _ _ _) rfl ?_
    refine Spec.step (State.modRx_spec _ _ _) rfl ?_
    exact h1
  · exact h1

theorem State.authFail_spec : ∀ a0 a1 a2, Spec 0xb00cdc00000000000000000000000022000000000000000a00e000000000a000000000 a0 (State.authFail a0 a1 a2) := by
  intro a0 a1 a2
  delta State.authFail
  extract_lets -underBinder -merge -useContext +onlyGivenNames x0
  have h1 : Spec 0xb00cdc00000000000000000000000022000000000000000a00e000000000a000000000 a0 x0 := by
    refine Spec.step (State.modRx_spec _ _ _) rfl ?_
    exact Spec.refl
  clear_value x0
  refine Spec.ite ?_ ?_
  · refine Spec.step (State.setDauth_spec _ _ _ _) rfl ?_
    refine Spec.step (State.modRx_spec _ _ _) rfl ?_
    exact h1
  · exact h1

theorem State.rxVerify_spec : ∀ a0 a1 a2 a3 a4, Spec 0xb00edc00000000000000000000000022000000000000000a00e000000000a000000000 a0 (State.rxVerify a0 a1 a2 a3 a4) := by
  intro a0 a1 a2 a3 a4
  delta State.rxVerify
  refine Spec.ite ?_ ?_
  · refine Spec.step (State.count_spec _ _ _) rfl ?_
    exact Spec.refl
  · extract_lets -underBinder -merge -useContext +onlyGivenNames x0
    clear_value x0
    extract_lets -underBinder -merge -useContext +onlyGivenNames x1
    clear_value x1
    extract_lets -underBinder -merge -useContext +onlyGivenNames x2
    clear_value x2
    refine Spec.ite ?_ ?_
    · extract_lets -underBinder -merge -useContext +onlyGivenNames x3
      clear_value x3
      extract_lets -underBinder -merge -useContext +onlyGivenNames x4
      clear_value x4
      refine Spec.step (State.authPass_spec _ _ _) rfl ?_
      refine Spec.step (State.modLock_spec _ _ _) rfl ?_
      exact Spec.refl
    · extract_lets -underBinder -merge -useContext +onlyGivenNames x5
      have h6 : Spec 0xb00edc00000000000000000000000022000000000000000a00e000000000a000000000 a0 x5 := by
        refine Spec.step (State.count_spec _ _ _) rfl ?_
        exact Spec.refl
      clear_value x5
      extract_lets -underBinder -merge -useContext +onlyGivenNames x7
      have h8 : Spec 0xb00edc00000000000000000000000022000000000000000a00e000000000a000000000 a0 x7 := by
        refine Spec.ite ?_ ?_
        · refine Spec.step (State.count_spec _ _ _) rfl ?_
          exact h6
        · exact h6
      clear_value x7
      refine Spec.step (State.authFail_spec _ _ _) rfl ?_
      exact h8

theorem State.rxJudge_spec : ∀ a0 a1 a2, Spec 0xb00edc00000000000000000000000022000000000000000a00e000000000a000000000 a0 (State.rxJudge a0 a1 a2) := by
  intro a0 a1 a2
  delta State.rxJudge
  split
  · exact Spec.refl
  · extract_lets -underBinder -merge -useContext +onlyGivenNames x0
    have h1 : Spec 0xb00edc00000000000000000000000022000000000000000a00e000000000a000000000 a0 x0 := by
      refine Spec.step (State.modRx_spec _ _ _) rfl ?_
      exact Spec.refl
    clear_value x0
    refine Spec.ite ?_ ?_
    · refine Spec.step (State.authBreak_spec _ _ _) rfl ?_
      exact h1
    · refine Spec.ite ?_ ?_
      · refine Spec.step (State.count_spec _ _ _) rfl ?_
        exact h1
      · refine Spec.step (State.rxVerify_spec _ _ _ _ _) rfl ?_
        exact h1

theorem State.rxScNext_spec : ∀ a0 a1 a2, Spec 0x100000000000000000000000000000000000000000000000000000000000000000 a0 (State.rxScNext a0 a1 a2) := by
  intro a0 a1 a2
  delta State.rxScNext
  extract_lets -underBinder -merge -useContext +onlyGivenNames x0
  clear_value x0
  refine Spec.ite ?_ ?_
  · extract_lets -underBinder -merge -useContext +onlyGivenNames x1
    clear_value x1
    refine Spec.step (State.modRx_spec _ _ _) rfl ?_
    exact Spec.refl
  · exact Spec.refl

theorem State.rxDecrypt_spec : ∀ a0 a1 a2, SpecP 0xb00edc00000000000000000000000022000000000000000a00e000000000a000000000 a0 (State.rxDecrypt a0 a1 a2) := by
  intro a0 a1 a2
  delta State.rxDecrypt
  refine SpecP.ite ?_ ?_
  · refine SpecP.mk ?_
    exact Spec.refl
  · extract_lets -underBinder -merge -useContext +onlyGivenNames x0
    have h1 : Spec 0xb00edc00000000000000000000000022000000000000000a00e000000000a000000000 a0 x0 := by
      refine Spec.ite ?_ ?_
      · refine Spec.step (State.modRx_spec _ _ _) rfl ?_
        refine Spec.step (State.rxMessages_spec _ _ _) rfl ?_
        exact Spec.refl
      · exact Spec.refl
    clear_value x0
    extract_lets -underBinder -merge -useContext +onlyGivenNames x2
    have h3 : Spec 0xb00edc00000000000000000000000022000000000000000a00e000000000a000000000 a0 x2 := by
      refine Spec.ite ?_ ?_
      · refine Spec.step (State.rxJudge_spec _ _ _) rfl ?_
        exact h1
      · exact h1
    clear_value x2
    extract_lets -underBinder -merge -useContext +onlyGivenNames x4
    have h5 : Spec 0xb00edc00000000000000000000000022000000000000000a00e000000000a000000000 a0 x4 := by
      refine Spec.step (State.rxScNext_spec _ _ _) rfl ?_
      exact h3
    clear_value x4
    extract_lets -underBinder -merge -useContext +onlyGivenNames x6
    clear_value x6
    extract_lets -underBinder -merge -useContext +onlyGivenNames x7
    clear_value x7
    extract_lets -underBinder -merge -useContext +onlyGivenNames x8
    clear_value x8
    extract_lets -underBinder -merge -useContext +onlyGivenNames x9
    clear_value x9
    extract_lets -underBinder -merge -useContext +onlyGivenNames x10
    clear_value x10
    extract_lets -underBinder -merge -useContext +onlyGivenNames x11
    clear_value x11
    extract_lets -underBinder -merge -useContext +onlyGivenNames x12
    clear_value x12
    refine SpecP.mk ?_
    refine Spec.step (State.modRx_spec _ _ _) rfl ?_
    exact h5

theorem State.rxBlocks_spec : ∀ a0 a1 a2, Spec 0x100000000000000000000000000000000000000000000000000000000000000000 a0 (State.rxBlocks a0 a1 a2) := by
  intro a0 a1 a2
  delta State.rxBlocks
  refine Spec.step (State.modRx_spec _ _ _) rfl ?_
  exact Spec.refl

theorem State.rxBip_spec : ∀ a0 a1 a2, Spec 0x100000000000000000000000000000000000000000000000000000000000000000 a0 (State.rxBip a0 a1 a2) := by
  intro a0 a1 a2
  delta State.rxBip
  extract_lets -underBinder -merge -useContext +onlyGivenNames x0
  clear_value x0
  refine Spec.ite ?_ ?_
  · exact Spec.refl
  · extract_lets -underBinder -merge -useContext +onlyGivenNames x1
    clear_value x1
    refine Spec.step (State.modTx_spec _ _ _) rfl ?_
    refine Spec.step (State.modPm_spec _ _ _) rfl ?_
    exact Spec.refl

theorem State.rxBei_spec : ∀ a0 a1 a2, Spec 0x4000100000000000000000000000000000000000000000000000000000000000000000 a0 (State.rxBei a0 a1 a2) := by
  intro a0 a1 a2
  delta State.rxBei
  split
  rename_i y0 y1 h2q
  have h2 : SpecP 0x4000100000000000000000000000000000000000000000000000000000000000000000 a0 (y0, y1) := by
    rw [← h2q]
    refine SpecP.ite ?_ ?_
    · refine SpecP.mk ?_
      exact Spec.refl
    · refine SpecP.mk ?_
      refine Spec.step (State.tick_spec _) rfl ?_
      exact Spec.refl
  clear h2q
  refine Spec.step (State.modPm_spec _ _ _) rfl ?_
  exact h2

theorem State.rxStat_spec : ∀ a0 a1 a2, Spec 0xb00cdc00000000000000000000000022000000000000000a000000000000a000300000 a0 (State.rxStat a0 a1 a2) := by
  intro a0 a1 a2
  delta State.rxStat
  extract_lets -underBinder -merge -useContext +onlyGivenNames x0
  clear_value x0
  refine Spec.ite ?_ ?_
  · exact Spec.refl
  · split
    · extract_lets -underBinder -merge -useContext +onlyGivenNames x1
      have h2 : Spec 0xb00cdc00000000000000000000000022000000000000000a000000000000a000300000 a0 x1 := by
        refine Spec.step (State.modRx_spec _ _ _) rfl ?_
        exact Spec.refl
      clear_value x1
      extract_lets -underBinder -merge -useContext +onlyGivenNames x3
      have h4 : Spec 0xb00cdc00000000000000000000000022000000000000000a000000000000a000300000 a0 x3 := by
        refine Spec.ite ?_ ?_
        · refine Spec.step (State.setDefect_spec _ _ _ _) rfl ?_
          exact h2
        · exact h2
      clear_value x3
      refine Spec.ite ?_ ?_
      · refine Spec.step (State.clearBack_spec _ _) rfl ?_
        exact h4
      · split
        · extract_lets -underBinder -merge -useContext +onlyGivenNames x5
          have h6 : Spec 0xb00cdc00000000000000000000000022000000000000000a000000000000a000300000 a0 x5 := by
            refine Spec.step (State.modRx_spec _ _ _) rfl ?_
            exact h4
          clear_value x5
          extract_lets -underBinder -merge -useContext +onlyGivenNames x7
          have h8 : Spec 0xb00cdc00000000000000000000000022000000000000000a000000000000a000300000 a0 x7 := by
            refine Spec.ite ?_ ?_
            · refine Spec.step (State.setDefect_spec _ _ _ _) rfl ?_
              exact h6
            · exact h6
          clear_value x7
          split
          · extract_lets -underBinder -merge -useContext +onlyGivenNames x9
            have h10 : Spec 0xb00cdc00000000000000000000000022000000000000000a000000000000a000300000 a0 x9 := by
              refine Spec.step (State.modRx_spec _ _ _) rfl ?_
              exact h8
            clear_value x9
            refine Spec.ite ?_ ?_
            · refine Spec.step (State.setDefect_spec _ _ _ _) rfl ?_
              exact h10
            · exact h10

theorem State.rxTti_spec : ∀ a0 a1, Spec 0x100000000000000000000000000000000000000000000000000000000000000000 a0 (State.rxTti a0 a1) := by
  intro a0 a1
  delta State.rxTti
  refine Spec.step (State.modRx_spec _ _ _) rfl ?_
  exact Spec.refl

theorem State.rxFmt_spec : ∀ a0 a1 a2, Spec 0x100000000000000000000000000000000000000000000000000000000000100000 a0 (State.rxFmt a0 a1 a2) := by
  intro a0 a1 a2
  delta State.rxFmt
  extract_lets -underBinder -merge -useContext +onlyGivenNames x0
  clear_value x0
  extract_lets -underBinder -merge -useContext +onlyGivenNames x1
  clear_value x1
  extract_lets -underBinder -merge -useContext +onlyGivenNames x2
  clear_value x2
  extract_lets -underBinder -merge -useContext +onlyGivenNames x3
  have h4 : Spec 0x100000000000000000000000000000000000000000000000000000000000100000 a0 x3 := by
    refine Spec.step (State.modRx_spec _ _ _) rfl ?_
    exact Spec.refl
  clear_value x3
  refine Spec.ite ?_ ?_
  · refine Spec.step (State.modTx_spec _ _ _) rfl ?_
    refine Spec.step (State.wr_spec _ _ _ _) rfl ?_
    refine Spec.step (State.modRx_spec _ _ _) rfl ?_
    exact h4
  · exact h4

theorem State.rxMfc_spec : ∀ a0 a1 a2, Spec 0x100000000000000000000000000000000000000000000000000000000000100000 a0 (State.rxMfc a0 a1 a2) := by
  intro a0 a1 a2
  delta State.rxMfc
  extract_lets -underBinder -merge -useContext +onlyGivenNames x0
  clear_value x0
  refine Spec.ite ?_ ?_
  · extract_lets -underBinder -merge -useContext +onlyGivenNames x1
    have h2 : Spec 0x100000000000000000000000000000000000000000000000000000000000100000 a0 x1 := by
      refine Spec.step (State.modRx_spec _ _ _) rfl ?_
      exact Spec.refl
    clear_value x1
    refine Spec.ite ?_ ?_
    · refine Spec.step (State.rxTti_spec _ _) rfl ?_
      exact h2
    · exact h2
  · refine Spec.ite ?_ ?_
    · refine Spec.step (State.rxFmt_spec _ _ _) rfl ?_
      exact Spec.refl
    · refine Spec.ite ?_ ?_
      · refine Spec.step (State.modRx_spec _ _ _) rfl ?_
        exact Spec.refl
      · exact Spec.refl

theorem State.rxProtAccept_spec : ∀ a0 a1 a2, Spec 0xb00c1c00000000000000000000000022000000000000000a0000000000000000200000 a0 (State.rxProtAccept a0 a1 a2) := by
  intro a0 a1 a2
  delta State.rxProtAccept
  extract_lets -underBinder -merge -useContext +onlyGivenNames x0
  clear_value x0
  extract_lets -underBinder -merge -useContext +onlyGivenNames x1
  have h2 : Spec 0xb00c1c00000000000000000000000022000000000000000a0000000000000000200000 a0 x1 := by
    refine Spec.ite ?_ ?_
    · refine Spec.step (State.modTx_spec _ _ _) rfl ?_
      exact Spec.refl
    · exact Spec.refl
  clear_value x1
  split
  · refine Spec.ite ?_ ?_
    · refine Spec.ite ?_ ?_
      · exact h2
      · refine Spec.step (State.raiseCountReg_spec _ _ _ _ _ _) rfl ?_
        exact h2
    · refine Spec.step (State.modTx_spec _ _ _) rfl ?_
      refine Spec.step (State.modRx_spec _ _ _) rfl ?_
      exact h2
  · refine Spec.step (State.modTx_spec _ _ _) rfl ?_
    refine Spec.step (State.modRx_spec _ _ _) rfl ?_
    exact h2

theorem State.rxProt_spec : ∀ a0 a1 a2, Spec 0xb00c1c00000000000000000000000022000000000000000a0000000000000000200000 a0 (State.rxProt a0 a1 a2) := by
  intro a0 a1 a2
  delta State.rxProt
  extract_lets -underBinder -merge -useContext +onlyGivenNames x0
  clear_value x0
  extract_lets -underBinder -merge -useContext +onlyGivenNames x1
  clear_value x1
  extract_lets -underBinder -merge -useContext +onlyGivenNames x2
  clear_value x2
  extract_lets -underBinder -merge -useContext +onlyGivenNames x3
  have h4 : Spec 0xb00c1c00000000000000000000000022000000000000000a0000000000000000200000 a0 x3 := by
    refine Spec.step (State.modRx_spec _ _ _) rfl ?_
    exact Spec.refl
  clear_value x3
  refine Spec.ite ?_ ?_
  · refine Spec.step (State.rxProtAccept_spec _ _ _) rfl ?_
    exact h4
  · exact h4

theorem State.rxContainer_spec : ∀ a0 a1 a2, Spec 0x400000000000000000000000000000000000000000000000000000000000000000 a0 (State.rxContainer a0 a1 a2) := by
  intro a0 a1 a2
  delta State.rxContainer
  refine Spec.ite ?_ ?_
  · exact Spec.refl
  · extract_lets -underBinder -merge -useContext +onlyGivenNames x0
    clear_value x0
    refine Spec.step (State.modTrib_spec _ _ _) rfl ?_
    exact Spec.refl

theorem State.rxShareIn_spec : ∀ a0 a1 a2 a3 a4 a5, Spec 0xc00000000000000000000000000000000000000000000000000000000000000000 a0 (State.rxShareIn a0 a1 a2 a3 a4 a5) := by
  intro a0 a1 a2 a3 a4 a5
  delta State.rxShareIn
  extract_lets -underBinder -merge -useContext +onlyGivenNames x0
  clear_value x0
  extract_lets -underBinder -merge -useContext +onlyGivenNames x1
  clear_value x1
  extract_lets -underBinder -merge -useContext +onlyGivenNames x2
  have h3 : Spec 0xc00000000000000000000000000000000000000000000000000000000000000000 a0 x2 := by
    refine Spec.step (State.modGrp_spec _ _ _) rfl ?_
    exact Spec.refl
  clear_value x2
  split
  · exact h3
  · extract_lets -underBinder -merge -useContext +onlyGivenNames x4
    clear_value x4
    extract_lets -underBinder -merge -useContext +onlyGivenNames x5
    clear_value x5
    extract_lets -underBinder -merge -useContext +onlyGivenNames x6
    clear_value x6
    extract_lets -underBinder -merge -useContext +onlyGivenNames x7
    clear_value x7
    extract_lets -underBinder -merge -useContext +onlyGivenNames x8
    clear_value x8
    extract_lets -underBinder -merge -useContext +onlyGivenNames x9
    clear_value x9
    extract_lets -underBinder -merge -useContext +onlyGivenNames x10
    clear_value x10
    refine Spec.ite ?_ ?_
    · refine Spec.step (State.rxContainer_spec _ _ _) rfl ?_
      refine Spec.step (State.modGrp_spec _ _ _) rfl ?_
      exact h3
    · refine Spec.step (State.modGrp_spec _ _ _) rfl ?_
      exact h3

theorem State.rxSlots_spec : ∀ a0 a1 a2 a3, Spec 0xc00000000000000000000000000000000000000000000000000000000000000000 a0 (State.rxSlots a0 a1 a2 a3) := by
  intro a0 a1 a2 a3
  delta State.rxSlots
  refine Spec.ite ?_ ?_
  · exact Spec.refl
  · extract_lets -underBinder -merge -useContext +onlyGivenNames x0
    clear_value x0
    extract_lets -underBinder -merge -useContext +onlyGivenNames x1
    clear_value x1
    extract_lets -underBinder -merge -useContext +onlyGivenNames x2
    clear_value x2
    refine Spec.fold _ ?_ ?_
    · intro t3 i4
      try dsimp -zeta only
      extract_lets -underBinder -merge -useContext +onlyGivenNames x5
      clear_value x5
      refine Spec.ite ?_ ?_
      · exact Spec.refl
      · extract_lets -underBinder -merge -useContext +onlyGivenNames x6
        clear_value x6
        extract_lets -underBinder -merge -useContext +onlyGivenNames x7
        clear_value x7
        split
        · refine Spec.step (State.rxShareIn_spec _ _ _ _ _ _) rfl ?_
          exact Spec.refl
        · refine Spec.step (State.rxContainer_spec _ _ _) rfl ?_
          exact Spec.refl
    · exact Spec.refl

theorem State.rxHandOver_spec : ∀ a0 a1 a2 a3, Spec 0x100000000000000000000000000000000000000000000000000000000000000000 a0 (State.rxHandOver a0 a1 a2 a3) := by
  intro a0 a1 a2 a3
  delta State.rxHandOver
  extract_lets -underBinder -merge -useContext +onlyGivenNames x0
  clear_value x0
  extract_lets -underBinder -merge -useContext +onlyGivenNames x1
  clear_value x1
  extract_lets -underBinder -merge -useContext +onlyGivenNames x2
  clear_value x2
  extract_lets -underBinder -merge -useContext +onlyGivenNames x3
  clear_value x3
  refine Spec.ite ?_ ?_
  · exact Spec.refl
  · refine Spec.step (State.modTx_spec _ _ _) rfl ?_
    exact Spec.refl

theorem State.rxSuperEnd_spec : ∀ a0 a1, Spec 0xf04c1e00000000000000000000000022000000000000000a0004812400000000000000 a0 (State.rxSuperEnd a0 a1) := by
  intro a0 a1
  delta State.rxSuperEnd
  refine Spec.step (State.ttAgeStep_spec _ _) rfl ?_
  refine Spec.step (State.modRx_spec _ _ _) rfl ?_
  exact Spec.refl

theorem State.rxOverhead_spec : ∀ a0 a1 a2 a3, Spec 0xf04cde00000000000000000000000022000000000000000a000481240000a000300000 a0 (State.rxOverhead a0 a1 a2 a3) := by
  intro a0 a1 a2 a3
  delta State.rxOverhead
  extract_lets -underBinder -merge -useContext +onlyGivenNames x0
  clear_value x0
  extract_lets -underBinder -merge -useContext +onlyGivenNames x1
  clear_value x1
  extract_lets -underBinder -merge -useContext +onlyGivenNames x2
  have h3 : Spec 0xf04cde00000000000000000000000022000000000000000a000481240000a000300000 a0 x2 := by
    refine Spec.step (State.rxBlocks_spec _ _ _) rfl ?_
    exact Spec.refl
  clear_value x2
  extract_lets -underBinder -merge -useContext +onlyGivenNames x4
  have h5 : Spec 0xf04cde00000000000000000000000022000000000000000a000481240000a000300000 a0 x4 := by
    refine Spec.ite ?_ ?_
    · refine Spec.step (State.modRx_spec _ _ _) rfl ?_
      exact h3
    · exact h3
  clear_value x4
  extract_lets -underBinder -merge -useContext +onlyGivenNames x6
  have h7 : Spec 0xf04cde00000000000000000000000022000000000000000a000481240000a000300000 a0 x6 := by
    refine Spec.ite ?_ ?_
    · exact h5
    · refine Spec.step (State.rxBip_spec _ _ _) rfl ?_
      exact h5
  clear_value x6
  extract_lets -underBinder -merge -useContext +onlyGivenNames x8
  have h9 : Spec 0xf04cde00000000000000000000000022000000000000000a000481240000a000300000 a0 x8 := by
    refine Spec.step (State.rxBei_spec _ _ _) rfl ?_
    refine Spec.step (State.rxStat_spec _ _ _) rfl ?_
    exact h7
  clear_value x8
  extract_lets -underBinder -merge -useContext +onlyGivenNames x10
  have h11 : Spec 0xf04cde00000000000000000000000022000000000000000a000481240000a000300000 a0 x10 := by
    refine Spec.step (State.rxMfc_spec _ _ _) rfl ?_
    exact h9
  clear_value x10
  extract_lets -underBinder -merge -useContext +onlyGivenNames x12
  have h13 : Spec 0xf04cde00000000000000000000000022000000000000000a000481240000a000300000 a0 x12 := by
    refine Spec.ite ?_ ?_
    · exact h5
    · refine Spec.ite ?_ ?_
      · refine Spec.step (State.rxProt_spec _ _ _) rfl ?_
        exact h11
      · refine Spec.step (State.modRx_spec _ _ _) rfl ?_
        exact h11
  clear_value x12
  extract_lets -underBinder -merge -useContext +onlyGivenNames x14
  have h15 : Spec 0xf04cde00000000000000000000000022000000000000000a000481240000a000300000 a0 x14 := by
    refine Spec.step (State.modRx_spec _ _ _) rfl ?_
    exact h13
  clear_value x14
  extract_lets -underBinder -merge -useContext +onlyGivenNames x16
  have h17 : Spec 0xf04cde00000000000000000000000022000000000000000a000481240000a000300000 a0 x16 := by
    refine Spec.step (State.rxSlots_spec _ _ _ _) rfl ?_
    refine Spec.step (State.rxHandOver_spec _ _ _ _) rfl ?_
    exact h15
  clear_value x16
  refine Spec.ite ?_ ?_
  · refine Spec.step (State.rxSuperEnd_spec _ _) rfl ?_
    exact h17
  · exact h17

theorem State.rxProcess_spec : ∀ a0 a1 a2, Spec 0xf04ede00000000000000000000000022000000000000000a00e481240000a000300000 a0 (State.rxProcess a0 a1 a2) := by
  intro a0 a1 a2
  delta State.rxProcess
  split
  rename_i y0 y1 h2q
  have h2 : SpecP 0xf04ede00000000000000000000000022000000000000000a00e481240000a000300000 a0 (y0, y1) := by
    rw [← h2q]
    refine SpecP.step (State.rxDecrypt_spec _ _ _) rfl ?_
    exact Spec.refl
  clear h2q
  refine Spec.step (State.rxOverhead_spec _ _ _ _) rfl ?_
  exact h2

theorem State.rxMarker_spec : ∀ a0 a1 a2, Spec 0xb00cdc00000000000000000000000022000000000000000a000000000040a800200000 a0 (State.rxMarker a0 a1 a2) := by
  intro a0 a1 a2
  delta State.rxMarker
  extract_lets -underBinder -merge -useContext +onlyGivenNames x0
  clear_value x0
  split
  · refine Spec.ite ?_ ?_
    · extract_lets -underBinder -merge -useContext +onlyGivenNames x1
      have h2 : Spec 0xb00cdc00000000000000000000000022000000000000000a000000000040a800200000 a0 x1 := by
        refine Spec.step (State.modRx_spec _ _ _) rfl ?_
        exact Spec.refl
      clear_value x1
      extract_lets -underBinder -merge -useContext +onlyGivenNames x3
      have h4 : Spec 0xb00cdc00000000000000000000000022000000000000000a000000000040a800200000 a0 x3 := by
        refine Spec.wrs_cons ?_
        refine Spec.wrs_cons ?_
        refine Spec.wrs_nil ?_
        refine Spec.step (State.wr_spec _ _ _ _) rfl ?_
        refine Spec.step (State.wr_spec _ _ _ _) rfl ?_
        exact h2
      clear_value x3
      extract_lets -underBinder -merge -useContext +onlyGivenNames x5
      clear_value x5
      refine Spec.step (State.fabRefresh_spec _) rfl ?_
      refine Spec.fold _ ?_ ?_
      · intro t6 i7
        try dsimp -zeta only
        refine Spec.step (State.alignShow_spec _ _) rfl ?_
        exact Spec.refl
      · refine Spec.step (State.countStale_spec _ _) rfl ?_
        refine Spec.step (State.rxMapShow_spec _ _) rfl ?_
        exact h4
    · refine Spec.step (State.wr_spec _ _ _ _) rfl ?_
      refine Spec.step (State.mkMismatch_spec _ _ _) rfl ?_
      exact Spec.refl
  · refine Spec.step (State.wr_spec _ _ _ _) rfl ?_
    refine Spec.step (State.mkMismatch_spec _ _ _) rfl ?_
    exact Spec.refl

theorem State.rxMarkers_spec : ∀ a0 a1, Spec 0xb00cdc00000000000000000000000022000000000000000a000000000040a800200000 a0 (State.rxMarkers a0 a1) := by
  intro a0 a1
  delta State.rxMarkers
  refine Spec.ite ?_ ?_
  · exact Spec.refl
  · split
    · refine Spec.step (State.rxMarker_spec _ _ _) rfl ?_
      refine Spec.step (State.modRx_spec _ _ _) rfl ?_
      exact Spec.refl
    · exact Spec.refl

theorem State.rxLateMark_spec : ∀ a0 a1 a2, Spec 0xb00c1c00000000000000000000000022000000000000000a0000000000400000200000 a0 (State.rxLateMark a0 a1 a2) := by
  intro a0 a1 a2
  delta State.rxLateMark
  refine Spec.ite ?_ ?_
  · refine Spec.step (State.wr_spec _ _ _ _) rfl ?_
    refine Spec.step (State.mkMismatch_spec _ _ _) rfl ?_
    refine Spec.step (State.modRx_spec _ _ _) rfl ?_
    exact Spec.refl
  · exact Spec.refl

theorem State.rxTake_spec : ∀ a0 a1 a2, Spec 0xf04ede00000000000000000000000022000000000000000a00f481240040a800300000 a0 (State.rxTake a0 a1 a2) := by
  intro a0 a1 a2
  delta State.rxTake
  extract_lets -underBinder -merge -useContext +onlyGivenNames x0
  have h1 : Spec 0xf04ede00000000000000000000000022000000000000000a00f481240040a800300000 a0 x0 := by
    refine Spec.ite ?_ ?_
    · refine Spec.step (State.modRx_spec _ _ _) rfl ?_
      exact Spec.refl
    · exact Spec.refl
  clear_value x0
  extract_lets -underBinder -merge -useContext +onlyGivenNames x2
  clear_value x2
  extract_lets -underBinder -merge -useContext +onlyGivenNames x3
  have h4 : Spec 0xf04ede00000000000000000000000022000000000000000a00f481240040a800300000 a0 x3 := by
    refine Spec.step (State.modRx_spec _ _ _) rfl ?_
    exact h1
  clear_value x3
  extract_lets -underBinder -merge -useContext +onlyGivenNames x5
  have h6 : Spec 0xf04ede00000000000000000000000022000000000000000a00f481240040a800300000 a0 x5 := by
    unfold x5
    split
    · refine Spec.ite ?_ ?_
      · refine Spec.step (State.rxProcess_spec _ _ _) rfl ?_
        exact h4
      · exact h4
    · exact h4
  clear_value x5
  refine Spec.ite ?_ ?_
  · extract_lets -underBinder -merge -useContext +onlyGivenNames x7
    have h8 : Spec 0xf04ede00000000000000000000000022000000000000000a00f481240040a800300000 a0 x7 := by
      refine Spec.step (State.modRx_spec _ _ _) rfl ?_
      exact h6
    clear_value x7
    refine Spec.ite ?_ ?_
    · refine Spec.step (State.rxMarkers_spec _ _) rfl ?_
      refine Spec.step (State.rxKp_spec _ _) rfl ?_
      exact h8
    · exact h8
  · refine Spec.step (State.rxLateMark_spec _ _ _) rfl ?_
    exact h6

theorem State.frameReady_spec : ∀ a0 a1, Spec 0xf04ede00000000000000000000000022000000000000000a00f481240040a800300000 a0 (State.frameReady a0 a1) := by
  intro a0 a1
  delta State.frameReady
  split
  · exact Spec.refl
  · extract_lets -underBinder -merge -useContext +onlyGivenNames x0
    clear_value x0
    extract_lets -underBinder -merge -useContext +onlyGivenNames x1
    clear_value x1
    refine Spec.ite ?_ ?_
    · exact Spec.refl
    · extract_lets -underBinder -merge -useContext +onlyGivenNames x2
      clear_value x2
      refine Spec.step (State.rxTake_spec _ _ _) rfl ?_
      refine Spec.step (State.modRx_spec _ _ _) rfl ?_
      refine Spec.step (State.modFec_spec _ _ _) rfl ?_
      exact Spec.refl

theorem State.rxPilots_spec : ∀ a0 a1, Spec 0xb10c1c00000000000000000000000022000000040000000a0000000000000000000220 a0 (State.rxPilots a0 a1) := by
  intro a0 a1
  delta State.rxPilots
  extract_lets -underBinder -merge -useContext +onlyGivenNames x0
  clear_value x0
  extract_lets -underBinder -merge -useContext +onlyGivenNames x1
  clear_value x1
  extract_lets -underBinder -merge -useContext +onlyGivenNames x2
  clear_value x2
  split
  · extract_lets -underBinder -merge -useContext +onlyGivenNames x3
    have h4 : Spec 0xb10c1c00000000000000000000000022000000040000000a0000000000000000000220 a0 x3 := by
      refine Spec.ite ?_ ?_
      · refine Spec.step (State.count_spec _ _ _) rfl ?_
        exact Spec.refl
      · exact Spec.refl
    clear_value x3
    extract_lets -underBinder -merge -useContext +onlyGivenNames x5
    have h6 : Spec 0xb10c1c00000000000000000000000022000000040000000a0000000000000000000220 a0 x5 := by
      refine Spec.step (State.modRx_spec _ _ _) rfl ?_
      exact h4
    clear_value x5
    extract_lets -underBinder -merge -useContext +onlyGivenNames x7
    have h8 : Spec 0xb10c1c00000000000000000000000022000000040000000a0000000000000000000220 a0 x7 := by
      refine Spec.wrs_cons ?_
      refine Spec.wrs_cons ?_
      refine Spec.wrs_nil ?_
      refine Spec.step (State.wr_spec _ _ _ _) rfl ?_
      refine Spec.step (State.wr_spec _ _ _ _) rfl ?_
      exact h6
    clear_value x7
    extract_lets -underBinder -merge -useContext +onlyGivenNames x9
    clear_value x9
    extract_lets -underBinder -merge -useContext +onlyGivenNames x10
    have h11 : Spec 0xb10c1c00000000000000000000000022000000040000000a0000000000000000000220 a0 x10 := by
      refine Spec.ite ?_ ?_
      · exact (Spec.set_cal rfl h8)
      · exact h8
    clear_value x10
    refine Spec.ite ?_ ?_
    · refine Spec.step (State.decSpoil_spec _ _) rfl ?_
      refine Spec.step (State.winRestart_spec _ _) rfl ?_
      exact h11
    · exact h11

theorem State.rxPil_spec : ∀ a0 a1 a2 a3, Spec 0xb10c1c00000000000000000000000022000000040000000a0000000000000000000220 a0 (State.rxPil a0 a1 a2 a3) := by
  intro a0 a1 a2 a3
  delta State.rxPil
  extract_lets -underBinder -merge -useContext +onlyGivenNames x0
  have h1 : Spec 0xb10c1c00000000000000000000000022000000040000000a0000000000000000000220 a0 x0 := by
    refine Spec.ite ?_ ?_
    · refine Spec.step (State.modRx_spec _ _ _) rfl ?_
      exact Spec.refl
    · exact Spec.refl
  clear_value x0
  refine Spec.ite ?_ ?_
  · exact h1
  · extract_lets -underBinder -merge -useContext +onlyGivenNames x2
    have h3 : Spec 0xb10c1c00000000000000000000000022000000040000000a0000000000000000000220 a0 x2 := by
      refine Spec.step (State.modRx_spec _ _ _) rfl ?_
      exact h1
    clear_value x2
    refine Spec.ite ?_ ?_
    · refine Spec.step (State.modRx_spec _ _ _) rfl ?_
      refine Spec.step (State.rxPilots_spec _ _) rfl ?_
      exact h3
    · exact h3

theorem State.rxLook_spec : ∀ a0 a1 a2, Spec 0xf14ede00000000000000000000000022000000040000000a00f481240040a800300220 a0 (State.rxLook a0 a1 a2) := by
  intro a0 a1 a2
  delta State.rxLook
  extract_lets -underBinder -merge -useContext +onlyGivenNames x0
  clear_value x0
  extract_lets -underBinder -merge -useContext +onlyGivenNames x1
  have h2 : Spec 0xf14ede00000000000000000000000022000000040000000a00f481240040a800300220 a0 x1 := by
    refine Spec.step (State.rxPil_spec _ _ _ _) rfl ?_
    exact Spec.refl
  clear_value x1
  extract_lets -underBinder -merge -useContext +onlyGivenNames x3
  clear_value x3
  extract_lets -underBinder -merge -useContext +onlyGivenNames x4
  clear_value x4
  extract_lets -underBinder -merge -useContext +onlyGivenNames x5
  clear_value x5
  extract_lets -underBinder -merge -useContext +onlyGivenNames x6
  clear_value x6
  extract_lets -underBinder -merge -useContext +onlyGivenNames x7
  have h8 : Spec 0xf14ede00000000000000000000000022000000040000000a00f481240040a800300220 a0 x7 := by
    refine Spec.step (State.modFec_spec _ _ _) rfl ?_
    exact h2
  clear_value x7
  refine Spec.ite ?_ ?_
  · extract_lets -underBinder -merge -useContext +onlyGivenNames x9
    have h10 : Spec 0xf14ede00000000000000000000000022000000040000000a00f481240040a800300220 a0 x9 := by
      refine Spec.ite ?_ ?_
      · refine Spec.step (State.modFec_spec _ _ _) rfl ?_
        exact h8
      · exact h8
    clear_value x9
    refine Spec.step (State.modRx_spec _ _ _) rfl ?_
    exact h10
  · refine Spec.step (State.rxTake_spec _ _ _) rfl ?_
    exact h8

theorem State.rxSfm_spec : ∀ a0 a1 a2, Spec 0x100000000000000000000000000000000000000000000000000000000000000000 a0 (State.rxSfm a0 a1 a2) := by
  intro a0 a1 a2
  delta State.rxSfm
  refine Spec.step (State.modRx_spec _ _ _) rfl ?_
  exact Spec.refl

theorem State.rxRateTake_spec : ∀ a0 a1 a2, Spec 0x100000000000000000000000000000000000000000000000000000000000100200 a0 (State.rxRateTake a0 a1 a2) := by
  intro a0 a1 a2
  delta State.rxRateTake
  extract_lets -underBinder -merge -useContext +onlyGivenNames x0
  clear_value x0
  extract_lets -underBinder -merge -useContext +onlyGivenNames x1
  have h2 : Spec 0x100000000000000000000000000000000000000000000000000000000000100200 a0 x1 := by
    refine Spec.step (State.wr_spec _ _ _ _) rfl ?_
    refine Spec.step (State.modRx_spec _ _ _) rfl ?_
    exact Spec.refl
  clear_value x1
  extract_lets -underBinder -merge -useContext +onlyGivenNames x3
  have h4 : Spec 0x100000000000000000000000000000000000000000000000000000000000100200 a0 x3 := by
    refine Spec.step (State.modAcq_spec _ _ _) rfl ?_
    exact h2
  clear_value x3
  refine Spec.ite ?_ ?_
  · refine Spec.step (State.decSpoil_spec _ _) rfl ?_
    refine Spec.step (State.winRestart_spec _ _) rfl ?_
    exact h4
  · exact h4

theorem State.rxHeader_spec : ∀ a0 a1 a2, Spec 0xb00c1c00000000000000000000000022000000000000000a0000000000000000100200 a0 (State.rxHeader a0 a1 a2) := by
  intro a0 a1 a2
  delta State.rxHeader
  extract_lets -underBinder -merge -useContext +onlyGivenNames x0
  have h1 : Spec 0xb00c1c00000000000000000000000022000000000000000a0000000000000000100200 a0 x0 := by
    unfold x0
    split
    · exact Spec.refl
    · refine Spec.step (State.count_spec _ _ _) rfl ?_
      refine Spec.step (State.modAcq_spec _ _ _) rfl ?_
      exact Spec.refl
  clear_value x0
  extract_lets -underBinder -merge -useContext +onlyGivenNames x2
  clear_value x2
  extract_lets -underBinder -merge -useContext +onlyGivenNames x3
  clear_value x3
  extract_lets -underBinder -merge -useContext +onlyGivenNames x4
  have h5 : Spec 0xb00c1c00000000000000000000000022000000000000000a0000000000000000100200 a0 x4 := by
    refine Spec.ite ?_ ?_
    · refine Spec.step (State.modRx_spec _ _ _) rfl ?_
      exact h1
    · exact h1
  clear_value x4
  extract_lets -underBinder -merge -useContext +onlyGivenNames x6
  have h7 : Spec 0xb00c1c00000000000000000000000022000000000000000a0000000000000000100200 a0 x6 := by
    refine Spec.ite ?_ ?_
    · refine Spec.step (State.rxSfm_spec _ _ _) rfl ?_
      exact h5
    · exact h5
  clear_value x6
  refine Spec.ite ?_ ?_
  · refine Spec.step (State.rxRateTake_spec _ _ _) rfl ?_
    exact h7
  · refine Spec.ite ?_ ?_
    · refine Spec.step (State.count_spec _ _ _) rfl ?_
      exact h7
    · exact h7

end Sys2Proof.Machine
end

