-- ==== Sys2Proof/Laws/Frames19.lean ====
section
/-! SUPPORT. What each operation and each command of the files Machine/RxFrame, Defect, Faults, Reads can do: one lemma each,
`<name>_spec`, whose first argument is the footprint (Laws/Spec.lean). -/
namespace Sys2Proof.Machine

theorem State.rxInteropPay_spec : ∀ a0 a1 a2, Spec 0x2000500000000000000000000000000000000000000000000000000000000000000000 a0 (State.rxInteropPay a0 a1 a2) := by
  intro a0 a1 a2
  delta State.rxInteropPay
  refine Spec.ite ?_ ?_
  · extract_lets -underBinder -merge -useContext +onlyGivenNames x0
    clear_value x0
    refine Spec.ite ?_ ?_
    · refine Spec.step (State.modTx_spec _ _ _) rfl ?_
      exact Spec.refl
    · exact Spec.refl
  · extract_lets -underBinder -merge -useContext +onlyGivenNames x1
    clear_value x1
    refine Spec.fold _ ?_ ?_
    · intro t2 i3
      try dsimp -zeta only
      refine Spec.ite ?_ ?_
      · exact Spec.refl
      · extract_lets -underBinder -merge -useContext +onlyGivenNames x4
        clear_value x4
        refine Spec.step (State.toClient_spec _ _ _) rfl ?_
        refine SpecP.fst ?_
        refine SpecP.step (State.sendErr_spec _ _) rfl ?_
        refine SpecP.fst ?_
        refine SpecP.step (State.tribSlip_spec _ _) rfl ?_
        exact Spec.refl
    · exact Spec.refl

theorem State.rxRdi_spec : ∀ a0 a1 a2, Spec 0xb00cdc00000000000000000000000022000000000000000a000000000000a000300000 a0 (State.rxRdi a0 a1 a2) := by
  intro a0 a1 a2
  delta State.rxRdi
  refine Spec.ite ?_ ?_
  · exact Spec.refl
  · split
    · extract_lets -underBinder -merge -useContext +onlyGivenNames x0
      have h1 : Spec 0xb00cdc00000000000000000000000022000000000000000a000000000000a000300000 a0 x0 := by
        refine Spec.step (State.modRx_spec _ _ _) rfl ?_
        exact Spec.refl
      clear_value x0
      refine Spec.ite ?_ ?_
      · refine Spec.step (State.setDefect_spec _ _ _ _) rfl ?_
        exact h1
      · exact h1

theorem State.rxEnter_spec : ∀ a0 a1, Spec 0x4000100000000000000000000000000000000000000000000000000000000000100000 a0 (State.rxEnter a0 a1) := by
  intro a0 a1
  delta State.rxEnter
  extract_lets -underBinder -merge -useContext +onlyGivenNames x0
  have h1 : Spec 0x4000100000000000000000000000000000000000000000000000000000000000100000 a0 x0 := by
    refine Spec.step (State.modRx_spec _ _ _) rfl ?_
    exact Spec.refl
  clear_value x0
  extract_lets -underBinder -merge -useContext +onlyGivenNames x2
  have h3 : Spec 0x4000100000000000000000000000000000000000000000000000000000000000100000 a0 x2 := by
    refine Spec.step (State.modTx_spec _ _ _) rfl ?_
    refine Spec.step (State.wr_spec _ _ _ _) rfl ?_
    exact h1
  clear_value x2
  refine Spec.ite ?_ ?_
  · refine Spec.step (State.anchor_spec _ _) rfl ?_
    exact h3
  · exact h3

theorem State.rxVosko_spec : ∀ a0 a1 a2, Spec 0xf14ede00000000000000000000000022000000040000000a00f481240040a800300220 a0 (State.rxVosko a0 a1 a2) := by
  intro a0 a1 a2
  delta State.rxVosko
  extract_lets -underBinder -merge -useContext +onlyGivenNames x0
  clear_value x0
  extract_lets -underBinder -merge -useContext +onlyGivenNames x1
  clear_value x1
  extract_lets -underBinder -merge -useContext +onlyGivenNames x2
  clear_value x2
  split
  · exact Spec.refl
  · refine Spec.ite ?_ ?_
    · refine Spec.step (State.rxLook_spec _ _ _) rfl ?_
      refine Spec.step (State.rxHeader_spec _ _ _) rfl ?_
      refine Spec.step (State.rxEnter_spec _ _) rfl ?_
      refine Spec.step (State.modRx_spec _ _ _) rfl ?_
      exact Spec.refl
    · refine Spec.step (State.modRx_spec _ _ _) rfl ?_
      exact Spec.refl
  · extract_lets -underBinder -merge -useContext +onlyGivenNames x3
    clear_value x3
    refine Spec.ite ?_ ?_
    · refine Spec.step (State.rxLost_spec _ _) rfl ?_
      exact Spec.refl
    · refine Spec.step (State.rxLook_spec _ _ _) rfl ?_
      refine Spec.step (State.rxHeader_spec _ _ _) rfl ?_
      refine Spec.step (State.modRx_spec _ _ _) rfl ?_
      exact Spec.refl

theorem State.rxIds_spec : ∀ a0 a1 a2, Spec 0x100000000000000000000000000000000000000000000000000000000000000000 a0 (State.rxIds a0 a1 a2) := by
  intro a0 a1 a2
  delta State.rxIds
  refine Spec.ite ?_ ?_
  · exact Spec.refl
  · refine Spec.step (State.modRx_spec _ _ _) rfl ?_
    exact Spec.refl

theorem State.rxFcc_spec : ∀ a0 a1 a2, Spec 0x100000000000000000000000000000000000000000000000000000000000000000 a0 (State.rxFcc a0 a1 a2) := by
  intro a0 a1 a2
  delta State.rxFcc
  extract_lets -underBinder -merge -useContext +onlyGivenNames x0
  clear_value x0
  refine Spec.step (State.modRx_spec _ _ _) rfl ?_
  exact Spec.refl

theorem State.rxOther_spec : ∀ a0 a1 a2, Spec 0xf00cdc00000000000000000000000022000000000000000a000000000000a000300000 a0 (State.rxOther a0 a1 a2) := by
  intro a0 a1 a2
  delta State.rxOther
  extract_lets -underBinder -merge -useContext +onlyGivenNames x0
  clear_value x0
  extract_lets -underBinder -merge -useContext +onlyGivenNames x1
  clear_value x1
  extract_lets -underBinder -merge -useContext +onlyGivenNames x2
  have h3 : Spec 0xf00cdc00000000000000000000000022000000000000000a000000000000a000300000 a0 x2 := by
    refine Spec.step (State.modFec_spec _ _ _) rfl ?_
    exact Spec.refl
  clear_value x2
  extract_lets -underBinder -merge -useContext +onlyGivenNames x4
  clear_value x4
  refine Spec.ite ?_ ?_
  · refine Spec.ite ?_ ?_
    · refine Spec.step (State.rxLost_spec _ _) rfl ?_
      exact h3
    · exact h3
  · extract_lets -underBinder -merge -useContext +onlyGivenNames x5
    have h6 : Spec 0xf00cdc00000000000000000000000022000000000000000a000000000000a000300000 a0 x5 := by
      refine Spec.ite ?_ ?_
      · exact h3
      · refine Spec.step (State.rxEnter_spec _ _) rfl ?_
        exact h3
    clear_value x5
    extract_lets -underBinder -merge -useContext +onlyGivenNames x7
    have h8 : Spec 0xf00cdc00000000000000000000000022000000000000000a000000000000a000300000 a0 x7 := by
      refine Spec.ite ?_ ?_
      · exact h6
      · refine Spec.step (State.rxIds_spec _ _ _) rfl ?_
        refine Spec.step (State.rxRdi_spec _ _ _) rfl ?_
        exact h6
    clear_value x7
    refine Spec.step (State.rxInteropPay_spec _ _ _) rfl ?_
    refine Spec.step (State.rxFcc_spec _ _ _) rfl ?_
    exact h8

theorem State.rxAny_spec : ∀ a0 a1 a2, Spec 0xf14ede00000000000000000000000022000000040000000a00f481240040a800300220 a0 (State.rxAny a0 a1 a2) := by
  intro a0 a1 a2
  delta State.rxAny
  refine Spec.ite ?_ ?_
  · refine Spec.step (State.rxVosko_spec _ _ _) rfl ?_
    exact Spec.refl
  · refine Spec.step (State.rxOther_spec _ _ _) rfl ?_
    exact Spec.refl

theorem execRxFrame_spec : ∀ a0 a1 a2, SpecO 0xf14ede00000000000000000000000022000000040000000a00f481240040a800300220 a2 (execRxFrame a0 a1 a2) := by
  intro a0 a1 a2
  delta execRxFrame
  refine SpecO.ok ?_
  refine Spec.ite ?_ ?_
  · exact Spec.refl
  · refine Spec.ite ?_ ?_
    · split
      · exact Spec.refl
      · refine Spec.step (State.rxAny_spec _ _ _) rfl ?_
        refine Spec.step (State.modTx_spec _ _ _) rfl ?_
        exact Spec.refl
    · refine Spec.ite ?_ ?_
      · split
        · exact Spec.refl
        · refine Spec.step (State.rxAny_spec _ _ _) rfl ?_
          refine Spec.step (State.modTx_spec _ _ _) rfl ?_
          exact Spec.refl
      · refine Spec.step (State.rxAny_spec _ _ _) rfl ?_
        exact Spec.refl

theorem execPositionDecode_spec : ∀ a0 a1 a2, SpecO 0xf04ede00000000000000000000000022000000000000000a00f481240040a800343000 a2 (execPositionDecode a0 a1 a2) := by
  intro a0 a1 a2
  delta execPositionDecode
  refine SpecO.ok ?_
  refine Spec.ite ?_ ?_
  · exact Spec.refl
  · refine Spec.ite ?_ ?_
    · refine Spec.step (State.frameReady_spec _ _) rfl ?_
      refine Spec.step (State.positionTime_spec _ _ _) rfl ?_
      exact Spec.refl
    · refine Spec.step (State.blockTime_spec _ _ _) rfl ?_
      exact Spec.refl

theorem execRxFawFound_spec : ∀ a0 a1 a2 a3 a4, SpecO 0x100000000000000000000000000000000000000000000000000000000000000000 a4 (execRxFawFound a0 a1 a2 a3 a4) := by
  intro a0 a1 a2 a3 a4
  delta execRxFawFound
  refine SpecO.ok ?_
  refine Spec.ite ?_ ?_
  · exact Spec.refl
  · refine Spec.step (State.modAcq_spec _ _ _) rfl ?_
    refine Spec.step (State.modRx_spec _ _ _) rfl ?_
    exact Spec.refl

theorem execPostResetLosCheck_spec : ∀ a0 a1, SpecO 0xb01cdc00000000000000000000000022000000000000000a000000000030a000300000 a1 (execPostResetLosCheck a0 a1) := by
  intro a0 a1
  delta execPostResetLosCheck
  refine SpecO.ok ?_
  refine Spec.ite ?_ ?_
  · exact Spec.refl
  · extract_lets -underBinder -merge -useContext +onlyGivenNames x0
    have h1 : Spec 0xb01cdc00000000000000000000000022000000000000000a000000000030a000300000 a1 x0 := by
      refine Spec.step (State.modAcq_spec _ _ _) rfl ?_
      exact Spec.refl
    clear_value x0
    refine Spec.ite ?_ ?_
    · refine Spec.step (State.declareLos_spec _ _) rfl ?_
      exact h1
    · exact h1

theorem State.gccDrop_spec : ∀ a0 a1, Spec 0xb00c0c00000000000000000000000022000000000000000a0000000000000000200000 a0 (State.gccDrop a0 a1) := by
  intro a0 a1
  delta State.gccDrop
  refine Spec.step (State.raiseCountReg_spec _ _ _ _ _ _) rfl ?_
  exact Spec.refl

theorem State.ohbDeliver_spec : ∀ a0 a1 a2 a3, Spec 0xb00c0c00000000000000000000000022000000000000000a0000000000000000200000 a0 (State.ohbDeliver a0 a1 a2 a3) := by
  intro a0 a1 a2 a3
  delta State.ohbDeliver
  split
  · refine Spec.step (State.fillBuf_spec _ _ _ _ _) rfl ?_
    exact Spec.refl
  · refine Spec.step (State.raiseCountReg_spec _ _ _ _ _ _) rfl ?_
    exact Spec.refl

theorem execGccBlockReceive_spec : ∀ a0 a1 a2, SpecO 0xb00c1c00000000000000000000000022000000000000000a0000000000000000200000 a2 (execGccBlockReceive a0 a1 a2) := by
  intro a0 a1 a2
  delta execGccBlockReceive
  refine SpecO.ok ?_
  refine Spec.ite ?_ ?_
  · exact Spec.refl
  · refine Spec.ite ?_ ?_
    · split
      · exact Spec.refl
      · extract_lets -underBinder -merge -useContext +onlyGivenNames x0
        have h1 : Spec 0xb00c1c00000000000000000000000022000000000000000a0000000000000000200000 a2 x0 := by
          refine Spec.step (State.modRx_spec _ _ _) rfl ?_
          exact Spec.refl
        clear_value x0
        refine Spec.ite ?_ ?_
        · refine Spec.step (State.ohbDeliver_spec _ _ _ _) rfl ?_
          exact h1
        · exact h1
    · split
      · exact Spec.refl
      · extract_lets -underBinder -merge -useContext +onlyGivenNames x2
        have h3 : Spec 0xb00c1c00000000000000000000000022000000000000000a0000000000000000200000 a2 x2 := by
          refine Spec.step (State.modRx_spec _ _ _) rfl ?_
          exact Spec.refl
        clear_value x2
        refine Spec.ite ?_ ?_
        · exact h3
        · refine Spec.ite ?_ ?_
          · refine Spec.step (State.gccDrop_spec _ _) rfl ?_
            exact h3
          · refine Spec.step (State.ohbDeliver_spec _ _ _ _) rfl ?_
            exact h3

theorem execDlofClear_spec : ∀ a0 a1, SpecO 0xb00cdc00000000000000000000000022000000000000000a000000000000a000300000 a1 (execDlofClear a0 a1) := by
  intro a0 a1
  delta execDlofClear
  refine SpecO.ok ?_
  refine Spec.ite ?_ ?_
  · refine Spec.step (State.setDefect_spec _ _ _ _) rfl ?_
    exact Spec.refl
  · exact Spec.refl

theorem execDlofDeclare_spec : ∀ a0 a1, SpecO 0xb01cdc00000000000000000000000022000000000000000a000000000030a000300000 a1 (execDlofDeclare a0 a1) := by
  intro a0 a1
  delta execDlofDeclare
  refine SpecO.ok ?_
  refine Spec.ite ?_ ?_
  · exact Spec.refl
  · extract_lets -underBinder -merge -useContext +onlyGivenNames x0
    have h1 : Spec 0xb01cdc00000000000000000000000022000000000000000a000000000030a000300000 a1 x0 := by
      refine Spec.step (State.modRx_spec _ _ _) rfl ?_
      exact Spec.refl
    clear_value x0
    refine Spec.ite ?_ ?_
    · exact h1
    · refine Spec.step (State.declareLof_spec _ _) rfl ?_
      exact h1

theorem State.abortCmds_spec : ∀ a0, Spec 0x3c000000000000000000000000040000000000000000000000000000000000000000 a0 (State.abortCmds a0) := by
  intro a0
  delta State.abortCmds
  extract_lets -underBinder -merge -useContext +onlyGivenNames x0
  clear_value x0
  extract_lets -underBinder -merge -useContext +onlyGivenNames x1
  clear_value x1
  extract_lets -underBinder -merge -useContext +onlyGivenNames x2
  clear_value x2
  extract_lets -underBinder -merge -useContext +onlyGivenNames x3
  have h4 : Spec 0x3c000000000000000000000000040000000000000000000000000000000000000000 a0 x3 := by
    exact (Spec.set_host rfl Spec.refl)
  clear_value x3
  extract_lets -underBinder -merge -useContext +onlyGivenNames x5
  clear_value x5
  extract_lets -underBinder -merge -useContext +onlyGivenNames x6
  have h7 : Spec 0x3c000000000000000000000000040000000000000000000000000000000000000000 a0 x6 := by
    exact (Spec.set_mode rfl h4)
  clear_value x6
  extract_lets -underBinder -merge -useContext +onlyGivenNames x8
  have h9 : Spec 0x3c000000000000000000000000040000000000000000000000000000000000000000 a0 x8 := by
    refine Spec.step (State.modPair_spec _ _) rfl ?_
    exact h7
  clear_value x8
  refine Spec.step (State.abortAll_spec _ _) rfl ?_
  refine Spec.ite ?_ ?_
  · exact h9
  · refine Spec.step (State.wr_spec _ _ _ _) rfl ?_
    exact h9

theorem State.lockstep_spec : ∀ a0, Spec 0xb83c0e00000000000000000000000422000000000000000a0000000004000000000000 a0 (State.lockstep a0) := by
  intro a0
  delta State.lockstep
  extract_lets -underBinder -merge -useContext +onlyGivenNames x0
  have h1 : Spec 0xb83c0e00000000000000000000000422000000000000000a0000000004000000000000 a0 x0 := by
    refine Spec.step (State.modSec_spec _ _) rfl ?_
    refine Spec.step (State.count_spec _ _ _) rfl ?_
    exact Spec.refl
  clear_value x0
  extract_lets -underBinder -merge -useContext +onlyGivenNames x2
  clear_value x2
  extract_lets -underBinder -merge -useContext +onlyGivenNames x3
  have h4 : Spec 0xb83c0e00000000000000000000000422000000000000000a0000000004000000000000 a0 x3 := by
    exact (Spec.set_pin rfl h1)
  clear_value x3
  refine Spec.step (State.readyRefresh_spec _) rfl ?_
  refine Spec.step (State.abortCmds_spec _) rfl ?_
  refine Spec.step (State.sendDying_spec _ _ _) rfl ?_
  exact h4

theorem State.localFault_spec : ∀ a0, Spec 0xf07cde00000000000000000000008422000000000000000a000400201400a200080802 a0 (State.localFault a0) := by
  intro a0
  delta State.localFault
  refine Spec.ite ?_ ?_
  · exact Spec.refl
  · refine Spec.step (State.faultYield_spec _ _) rfl ?_
    exact Spec.refl

theorem State.roFlip_spec : ∀ a0 a1 a2 a3 a4, Spec 0x1000000000000000000000000000000000000000000000000000000000000000000000 a0 (State.roFlip a0 a1 a2 a3 a4) := by
  intro a0 a1 a2 a3 a4
  delta State.roFlip
  refine Spec.ite ?_ ?_
  · exact (Spec.set_perf rfl Spec.refl)
  · exact Spec.refl

theorem State.parityMark_spec : ∀ a0 a1, Spec 0x4020700000000000000000000000000000000000000000000000000000000000000000 a0 (State.parityMark a0 a1) := by
  intro a0 a1
  delta State.parityMark
  split
  · exact Spec.refl
  · refine Spec.step (State.tick_spec _) rfl ?_
    refine Spec.step (State.slipMark_spec _ _ _) rfl ?_
    exact Spec.refl
  · refine Spec.step (State.tick_spec _) rfl ?_
    refine Spec.step (State.slipMark_spec _ _ _) rfl ?_
    exact Spec.refl

theorem execParityScan_spec : ∀ a0 a1, SpecO 0xf07cfe00000000000000000000008422000000000000000a000400201400a200080802 a1 (execParityScan a0 a1) := by
  intro a0 a1
  delta execParityScan
  refine SpecO.ok ?_
  split
  · split
    · exact Spec.refl
    · refine Spec.ite ?_ ?_
      · exact Spec.refl
      · extract_lets -underBinder -merge -useContext +onlyGivenNames x0
        clear_value x0
        refine Spec.step (State.localFault_spec _) rfl ?_
        refine Spec.step (State.raiseCountPerf_spec _ _ _ _ _) rfl ?_
        refine Spec.step (State.roFlip_spec _ _ _ _ _) rfl ?_
        exact Spec.refl
  · refine Spec.ite ?_ ?_
    · refine Spec.step (State.localFault_spec _) rfl ?_
      refine Spec.step (State.raiseCountPerf_spec _ _ _ _ _) rfl ?_
      refine Spec.step (State.parityMark_spec _ _) rfl ?_
      exact Spec.refl
    · exact Spec.refl
  · refine Spec.step (State.localFault_spec _) rfl ?_
    refine Spec.step (State.raiseCountPerf_spec _ _ _ _ _) rfl ?_
    refine Spec.step (State.parityMark_spec _ _) rfl ?_
    exact Spec.refl

theorem State.localFaultOf_spec : ∀ a0 a1 a2, Spec 0xf07cde00000000000000000000008422000000000000000a000400201400a200080802 a0 (State.localFaultOf a0 a1 a2) := by
  intro a0 a1 a2
  delta State.localFaultOf
  refine Spec.step (State.localFault_spec _) rfl ?_
  refine Spec.step (State.modPair_spec _ _) rfl ?_
  exact Spec.refl

theorem execClockLoss_spec : ∀ a0 a1, SpecO 0xf07cde00000000000000000000008422000000000000000a000400201400a200080802 a1 (execClockLoss a0 a1) := by
  intro a0 a1
  delta execClockLoss
  refine SpecO.ok ?_
  refine Spec.step (State.localFaultOf_spec _ _ _) rfl ?_
  refine Spec.step (State.raiseCountPerf_spec _ _ _ _ _) rfl ?_
  exact Spec.refl

theorem execCrossingSlip_spec : ∀ a0 a1 a2, SpecO 0xf07cfe00000000000000000000008422000000000000000a000400201400a200080802 a2 (execCrossingSlip a0 a1 a2) := by
  intro a0 a1 a2
  delta execCrossingSlip
  refine SpecO.ok ?_
  refine Spec.step (State.localFault_spec _) rfl ?_
  refine Spec.ite ?_ ?_
  · exact Spec.refl
  · extract_lets -underBinder -merge -useContext +onlyGivenNames x0
    clear_value x0
    refine Spec.step (State.raiseCountPerf_spec _ _ _ _ _) rfl ?_
    refine Spec.step (State.slipMark_spec _ _ _) rfl ?_
    exact Spec.refl

theorem State.swRestart_spec : ∀ a0 a1, Spec 0x10100000000000000000000000000000000000000000000000000000200000000000 a0 (State.swRestart a0 a1) := by
  intro a0 a1
  delta State.swRestart
  extract_lets -underBinder -merge -useContext +onlyGivenNames x0
  have h1 : Spec 0x10100000000000000000000000000000000000000000000000000000200000000000 a0 x0 := by
    refine Spec.ite ?_ ?_
    · exact Spec.refl
    · refine Spec.step (State.withdraw_spec _ _) rfl ?_
      exact Spec.refl
  clear_value x0
  extract_lets -underBinder -merge -useContext +onlyGivenNames x2
  have h3 : Spec 0x10100000000000000000000000000000000000000000000000000000200000000000 a0 x2 := by
    refine Spec.step (State.modSk_spec _ _ _) rfl ?_
    exact h1
  clear_value x2
  refine Spec.step (State.setSw_spec _ _ _) rfl ?_
  exact h3

theorem execControlRestartDone_spec : ∀ a0, SpecO 0xb81c1e00000000000000000000000022000000000000000a0000000000200000000000 a0 (execControlRestartDone a0) := by
  intro a0
  delta execControlRestartDone
  refine SpecO.ok ?_
  refine Spec.ite ?_ ?_
  · exact Spec.refl
  · extract_lets -underBinder -merge -useContext +onlyGivenNames x0
    have h1 : Spec 0xb81c1e00000000000000000000000022000000000000000a0000000000200000000000 a0 x0 := by
      refine Spec.step (State.modSec_spec _ _) rfl ?_
      exact Spec.refl
    clear_value x0
    extract_lets -underBinder -merge -useContext +onlyGivenNames x2
    have h5 : Spec 0xb81c1e00000000000000000000000022000000000000000a0000000000200000000000 a0 x2 := by
      refine Spec.fold _ ?_ ?_
      · intro t3 i4
        try dsimp -zeta only
        refine Spec.step (State.swRestart_spec _ _) rfl ?_
        exact Spec.refl
      · exact h1
    clear_value x2
    extract_lets -underBinder -merge -useContext +onlyGivenNames x6
    clear_value x6
    extract_lets -underBinder -merge -useContext +onlyGivenNames x7
    have h8 : Spec 0xb81c1e00000000000000000000000022000000000000000a0000000000200000000000 a0 x7 := by
      exact (Spec.set_pin rfl h5)
    clear_value x7
    refine Spec.step (State.emit_spec _ _) rfl ?_
    refine Spec.step (State.raisePerf_spec _ _ _) rfl ?_
    refine Spec.step (State.actRefresh_spec _) rfl ?_
    exact h8

theorem State.sramMark_spec : ∀ a0 a1 a2, Spec 0x4020700000000000000000000000000000000000000000000000000000000000000000 a0 (State.sramMark a0 a1 a2) := by
  intro a0 a1 a2
  delta State.sramMark
  extract_lets -underBinder -merge -useContext +onlyGivenNames x0
  clear_value x0
  split
  · refine Spec.step (State.modFec_spec _ _ _) rfl ?_
    exact Spec.refl
  · split
    · exact Spec.refl
    · split
      · refine Spec.step (State.modTrib_spec _ _ _) rfl ?_
        exact Spec.refl
      · exact Spec.refl
  · refine Spec.step (State.tick_spec _) rfl ?_
    refine Spec.step (State.slipMark_spec _ _ _) rfl ?_
    exact Spec.refl
  · refine Spec.ite ?_ ?_
    · refine Spec.step (State.tick_spec _) rfl ?_
      refine Spec.step (State.modRx_spec _ _ _) rfl ?_
      exact Spec.refl
    · refine Spec.step (State.tick_spec _) rfl ?_
      refine Spec.step (State.modTx_spec _ _ _) rfl ?_
      exact Spec.refl
  · exact Spec.refl
  · exact Spec.refl
  · exact Spec.refl

theorem execSramScrub_spec : ∀ a0 a1 a2 a3, SpecO 0xf87cfe00000000000000000000008422000000000000000a000400201400a200080802 a3 (execSramScrub a0 a1 a2 a3) := by
  intro a0 a1 a2 a3
  delta execSramScrub
  refine SpecO.ok ?_
  split
  · extract_lets -underBinder -merge -useContext +onlyGivenNames x0
    clear_value x0
    refine Spec.ite ?_ ?_
    · exact Spec.refl
    · refine Spec.ite ?_ ?_
      · refine Spec.step (State.raiseCountPerf_spec _ _ _ _ _) rfl ?_
        exact Spec.refl
      · extract_lets -underBinder -merge -useContext +onlyGivenNames x1
        have h2 : Spec 0xf87cfe00000000000000000000008422000000000000000a000400201400a200080802 a3 x1 := by
          refine Spec.step (State.raiseCountPerf_spec _ _ _ _ _) rfl ?_
          refine Spec.step (State.sramMark_spec _ _ _) rfl ?_
          exact Spec.refl
        clear_value x1
        refine Spec.ite ?_ ?_
        · refine Spec.step (State.localFault_spec _) rfl ?_
          exact h2
        · refine Spec.ite ?_ ?_
          · refine Spec.step (State.lockstep_spec _) rfl ?_
            exact h2
          · exact h2

theorem execLockstepMismatch_spec : ∀ a0, SpecO 0xb83c0e00000000000000000000000422000000000000000a0000000004000000000000 a0 (execLockstepMismatch a0) := by
  intro a0
  delta execLockstepMismatch
  refine SpecO.ok ?_
  refine Spec.ite ?_ ?_
  · exact Spec.refl
  · refine Spec.step (State.lockstep_spec _) rfl ?_
    exact Spec.refl

theorem execTxMonitorFault_spec : ∀ a0 a1, SpecO 0xf07cde00000000000000000000008422000000000000000a000400201400a200080802 a1 (execTxMonitorFault a0 a1) := by
  intro a0 a1
  delta execTxMonitorFault
  refine SpecO.ok ?_
  refine Spec.ite ?_ ?_
  · refine Spec.step (State.localFaultOf_spec _ _ _) rfl ?_
    exact Spec.refl
  · exact Spec.refl

theorem execLaneTxFault_spec : ∀ a0 a1, SpecO 0xf07cde00000000000000000000008422000000000000000a000400201400a200080802 a1 (execLaneTxFault a0 a1) := by
  intro a0 a1
  delta execLaneTxFault
  refine SpecO.ok ?_
  refine Spec.ite ?_ ?_
  · refine Spec.step (State.localFaultOf_spec _ _ _) rfl ?_
    refine Spec.step (State.raisePerf_spec _ _ _) rfl ?_
    exact Spec.refl
  · exact Spec.refl

theorem State.rtcLoRead_spec : ∀ a0 a1, Spec 0x2400000000000000000000000000000000002000000000000000000000000000000000 a0 (State.rtcLoRead a0 a1) := by
  intro a0 a1
  delta State.rtcLoRead
  refine State.answer_via rfl ?_ ?_
  · intro t0
    try dsimp -zeta only
    extract_lets -underBinder -merge -useContext +onlyGivenNames x1
    have h2 : Spec 0x2400000000000000000000000000000000002000000000000000000000000000000000 t0 x1 := by
      refine Spec.step (State.atRtc_spec _ _) rfl ?_
      exact Spec.refl
    clear_value x1
    refine Spec.step (State.wr_spec _ _ _ _) rfl ?_
    exact h2
  · exact Spec.refl

theorem execRtcLoRead_spec : ∀ a0 a1, SpecO 0x2400000000000000000000000000000000002000000000000000000000000000000000 a1 (execRtcLoRead a0 a1) := by
  intro a0 a1
  delta execRtcLoRead
  refine SpecO.ok ?_
  refine Spec.step (State.rtcLoRead_spec _ _) rfl ?_
  exact Spec.refl

theorem State.hkRawRead_spec : ∀ a0 a1, Spec 0x2080000000000000000000000000000000000000000070000000000000000000000000 a0 (State.hkRawRead a0 a1) := by
  intro a0 a1
  delta State.hkRawRead
  refine State.answer_via rfl ?_ ?_
  · intro t0
    try dsimp -zeta only
    extract_lets -underBinder -merge -useContext +onlyGivenNames x1
    clear_value x1
    extract_lets -underBinder -merge -useContext +onlyGivenNames x2
    have h3 : Spec 0x2080000000000000000000000000000000000000000070000000000000000000000000 t0 x2 := by
      refine Spec.step (State.wrInt_spec _ _ _ _) rfl ?_
      refine Spec.step (State.wrInt_spec _ _ _ _) rfl ?_
      refine Spec.step (State.wrInt_spec _ _ _ _) rfl ?_
      exact Spec.refl
    clear_value x2
    refine Spec.step (State.modHkCh_spec _ _ _) rfl ?_
    exact h3
  · exact Spec.refl

theorem State.testErrRead_spec : ∀ a0 a1 a2, Spec 0x2000000000000000000000000000000000000000000000000000000000000000040000 a0 (State.testErrRead a0 a1 a2) := by
  intro a0 a1 a2
  delta State.testErrRead
  extract_lets -underBinder -merge -useContext +onlyGivenNames x0
  have h2 : Spec 0x2000000000000000000000000000000000000000000000000000000000000000040000 a0 x0 := by
    refine State.answer_via rfl ?_ ?_
    · intro t1
      try dsimp -zeta only
      exact Spec.refl
    · exact Spec.refl
  clear_value x0
  refine Spec.ite ?_ ?_
  · refine Spec.step (State.wr_spec _ _ _ _) rfl ?_
    exact h2
  · exact h2

theorem State.todNsRead_spec : ∀ a0 a1, Spec 0x2040000000000000000000000000000000000000000000000000080000000000000000 a0 (State.todNsRead a0 a1) := by
  intro a0 a1
  delta State.todNsRead
  refine State.answer_via rfl ?_ ?_
  · intro t0
    try dsimp -zeta only
    extract_lets -underBinder -merge -useContext +onlyGivenNames x1
    have h2 : Spec 0x2040000000000000000000000000000000000000000000000000080000000000000000 t0 x1 := by
      refine Spec.step (State.wr_spec _ _ _ _) rfl ?_
      refine Spec.step (State.atTod_spec _ _) rfl ?_
      exact Spec.refl
    clear_value x1
    exact (Spec.set_tim rfl h2)
  · exact Spec.refl

theorem State.hostRead_spec : ∀ a0 a1 a2, Spec 0x24c0000000000000000000000000000000002000000070000000080000000000040000 a0 (State.hostRead a0 a1 a2) := by
  intro a0 a1 a2
  delta State.hostRead
  split
  · refine Spec.step (State.testErrRead_spec _ _ _) rfl ?_
    exact Spec.refl
  · refine Spec.step (State.todNsRead_spec _ _) rfl ?_
    exact Spec.refl
  · refine Spec.step (State.rtcLoRead_spec _ _) rfl ?_
    exact Spec.refl
  · refine Spec.step (State.hkRawRead_spec _ _) rfl ?_
    exact Spec.refl
  · refine State.answer_via rfl ?_ ?_
    · intro t0
      try dsimp -zeta only
      exact Spec.refl
    · exact Spec.refl

theorem State.bar0Read_spec : ∀ a0 a1, Spec 0x24c0000000000000000000000000000000002000000070000000080000000000040000 a0 (State.bar0Read a0 a1) := by
  intro a0 a1
  delta State.bar0Read
  refine Spec.ite ?_ ?_
  · refine Spec.step (State.emit_spec _ _) rfl ?_
    exact Spec.refl
  · split
    · refine Spec.step (State.hostRead_spec _ _ _) rfl ?_
      exact Spec.refl
    · refine Spec.step (State.emit_spec _ _) rfl ?_
      exact Spec.refl

theorem execBadAccess_spec : ∀ a0 a1 a2 a3 a4, SpecO 0xb4cc0c00000000000000000000000022000020000000700a0000080000000000040000 a4 (execBadAccess a0 a1 a2 a3 a4) := by
  intro a0 a1 a2 a3 a4
  delta execBadAccess
  refine SpecO.ok ?_
  refine Spec.ite ?_ ?_
  · exact Spec.refl
  · refine Spec.ite ?_ ?_
    · refine Spec.ite ?_ ?_
      · exact Spec.refl
      · refine Spec.step (State.emit_spec _ _) rfl ?_
        exact Spec.refl
    · refine Spec.ite ?_ ?_
      · extract_lets -underBinder -merge -useContext +onlyGivenNames x0
        have h1 : Spec 0xb4cc0c00000000000000000000000022000020000000700a0000080000000000040000 a4 x0 := by
          refine Spec.step (State.accBad_spec _) rfl ?_
          exact Spec.refl
        clear_value x0
        refine Spec.ite ?_ ?_
        · exact h1
        · refine Spec.step (State.emit_spec _ _) rfl ?_
          exact h1
      · refine Spec.ite ?_ ?_
        · exact Spec.refl
        · refine Spec.ite ?_ ?_
          · refine Spec.step (State.emit_spec _ _) rfl ?_
            exact Spec.refl
          · refine Spec.ite ?_ ?_
            · refine Spec.step (State.bar0Read_spec _ _) rfl ?_
              exact Spec.refl
            · refine Spec.step (State.emit_spec _ _) rfl ?_
              exact Spec.refl

theorem execTestErrRead_spec : ∀ a0 a1 a2, SpecO 0x2000000000000000000000000000000000000000000000000000000000000000040000 a2 (execTestErrRead a0 a1 a2) := by
  intro a0 a1 a2
  delta execTestErrRead
  refine SpecO.ok ?_
  refine Spec.step (State.testErrRead_spec _ _ _) rfl ?_
  exact Spec.refl

theorem execTodNsRead_spec : ∀ a0 a1, SpecO 0x2040000000000000000000000000000000000000000000000000080000000000000000 a1 (execTodNsRead a0 a1) := by
  intro a0 a1
  delta execTodNsRead
  refine SpecO.ok ?_
  refine Spec.step (State.todNsRead_spec _ _) rfl ?_
  exact Spec.refl

end Sys2Proof.Machine
end

