-- ==== Sys2Proof/Laws/Frames20.lean ====
section
/-! SUPPORT. What each operation and each command of the files Machine/Hk, Margin can do: one lemma each,
`<name>_spec`, whose first argument is the footprint (Laws/Spec.lean). -/
namespace Sys2Proof.Machine

theorem execHkUrgentReq_spec : ∀ a0 a1, SpecO 0xffffff0000000000000000000001ffffffffffffffffffffffffffffffffffffffffff a1 (execHkUrgentReq a0 a1) := by
  intro a0 a1
  delta execHkUrgentReq
  refine SpecO.ok ?_
  refine Spec.ite ?_ ?_
  · refine Spec.ite ?_ ?_
    · refine Spec.step (State.hkUrgent_spec _) rfl ?_
      exact Spec.refl
    · exact Spec.refl
  · refine Spec.step (State.fieldWrite_HK_CTRL_inj_go_spec _ _ _ _) rfl ?_
    exact Spec.refl

theorem execHkRawRead_spec : ∀ a0 a1, SpecO 0x2080000000000000000000000000000000000000000070000000000000000000000000 a1 (execHkRawRead a0 a1) := by
  intro a0 a1
  delta execHkRawRead
  refine SpecO.ok ?_
  refine Spec.step (State.hkRawRead_spec _ _) rfl ?_
  exact Spec.refl

theorem execHkLinCommit_spec : ∀ a0 a1, SpecO 0xffffff0000000000000000000001ffffffffffffffffffffffffffffffffffffffffff a1 (execHkLinCommit a0 a1) := by
  intro a0 a1
  delta execHkLinCommit
  refine SpecO.ok ?_
  refine Spec.step (State.fieldWrite_HK_CH_CFG_lin_commit_spec _ _ _ _) rfl ?_
  exact Spec.refl

theorem execHkFilterWrite_spec : ∀ a0 a1 a2 a3, SpecO 0xffffff0000000000000000000001ffffffffffffffffffffffffffffffffffffffffff a3 (execHkFilterWrite a0 a1 a2 a3) := by
  intro a0 a1 a2 a3
  delta execHkFilterWrite
  refine SpecO.ok ?_
  refine Spec.step (State.regTake_HK_CH_FLT_spec _ _ _ _) rfl ?_
  refine Spec.step (State.regTake_HK_CH_CFG_spec _ _ _ _) rfl ?_
  exact Spec.refl

theorem execAlmStuck_spec : ∀ a0, SpecO 0xb00c0c00000000000000000000000022000000000100008a0000000000000000000000 a0 (execAlmStuck a0) := by
  intro a0
  delta execAlmStuck
  refine SpecO.ok ?_
  refine Spec.ite ?_ ?_
  · exact Spec.refl
  · refine Spec.step (State.raiseReg_spec _ _ _ _) rfl ?_
    refine Spec.step (State.wr_spec _ _ _ _) rfl ?_
    exact Spec.refl

theorem execAoutIlim_spec : ∀ a0 a1, SpecO 0xb00c0e00000000000000000000000022000000000080008a0000000000000000000000 a1 (execAoutIlim a0 a1) := by
  intro a0 a1
  delta execAoutIlim
  refine SpecO.ok ?_
  refine Spec.ite ?_ ?_
  · exact Spec.refl
  · refine Spec.step (State.raiseReg_spec _ _ _ _) rfl ?_
    refine Spec.step (State.aoutRefresh_spec _ _) rfl ?_
    refine Spec.step (State.wr_spec _ _ _ _) rfl ?_
    exact Spec.refl

theorem execHkOutputRetry_spec : ∀ a0 a1 a2, SpecO 0x20000000000000000000000000000000000018000000000000000000000000000 a2 (execHkOutputRetry a0 a1 a2) := by
  intro a0 a1 a2
  delta execHkOutputRetry
  extract_lets -underBinder -merge -useContext +onlyGivenNames x0
  have h4 : Spec 0x20000000000000000000000000000000000018000000000000000000000000000 a2 x0 := by
    refine Spec.fold _ ?_ ?_
    · intro t1 i2
      try dsimp -zeta only
      extract_lets -underBinder -merge -useContext +onlyGivenNames x3
      clear_value x3
      refine Spec.ite ?_ ?_
      · exact Spec.refl
      · refine Spec.step (State.aoutRefresh_spec _ _) rfl ?_
        refine Spec.step (State.wr_spec _ _ _ _) rfl ?_
        refine Spec.step (State.wr_spec _ _ _ _) rfl ?_
        exact Spec.refl
    · exact Spec.refl
  clear_value x0
  refine SpecO.ok ?_
  refine Spec.ite ?_ ?_
  · refine Spec.step (State.almRefresh_spec _) rfl ?_
    refine Spec.step (State.wr_spec _ _ _ _) rfl ?_
    exact h4
  · exact h4

theorem execAlmShort_spec : ∀ a0, SpecO 0xb00c0c00000000000000000000000022000000000100008a0000000000000000000000 a0 (execAlmShort a0) := by
  intro a0
  delta execAlmShort
  refine SpecO.ok ?_
  refine Spec.ite ?_ ?_
  · refine Spec.step (State.raiseReg_spec _ _ _ _) rfl ?_
    refine Spec.step (State.almRefresh_spec _) rfl ?_
    refine Spec.step (State.wr_spec _ _ _ _) rfl ?_
    exact Spec.refl
  · exact Spec.refl

theorem execHkCompatEnable_spec : ∀ a0, SpecO 0xffffff0000000000000000000001ffffffffffffffffffffffffffffffffffffffffff a0 (execHkCompatEnable a0) := by
  intro a0
  delta execHkCompatEnable
  refine SpecO.ok ?_
  refine Spec.step (State.fieldWrite_HK_CTRL_compat_en_spec _ _ _ _) rfl ?_
  exact Spec.refl

theorem execHkSlotEnd_spec : ∀ a0, SpecO 0xb18c0e0000000000000000000000002200000009008000ca0000000000000000000000 a0 (execHkSlotEnd a0) := by
  intro a0
  delta execHkSlotEnd
  refine SpecO.ok ?_
  refine Spec.ite ?_ ?_
  · exact Spec.refl
  · refine Spec.step (State.slotEnd_spec _) rfl ?_
    exact Spec.refl

theorem execHkWord_spec : ∀ a0 a1 a2, SpecO 0xf18c0e000000000000000000000000220000000901a478ca0000000000000000000000 a2 (execHkWord a0 a1 a2) := by
  intro a0 a1 a2
  delta execHkWord
  refine SpecO.ok ?_
  refine Spec.ite ?_ ?_
  · refine Spec.step (State.filterFrame_spec _ _) rfl ?_
    refine Spec.step (State.deliver_spec _ _ _) rfl ?_
    exact Spec.refl
  · exact Spec.refl

theorem execHkStartReq_spec : ∀ a0 a1, SpecO 0xffffff0000000000000000000001ffffffffffffffffffffffffffffffffffffffffff a1 (execHkStartReq a0 a1) := by
  intro a0 a1
  delta execHkStartReq
  refine SpecO.ok ?_
  refine Spec.ite ?_ ?_
  · refine Spec.ite ?_ ?_
    · refine Spec.step (State.hkStart_spec _) rfl ?_
      exact Spec.refl
    · exact Spec.refl
  · refine Spec.step (State.fieldWrite_HK_CTRL_seq_go_spec _ _ _ _) rfl ?_
    exact Spec.refl

theorem execHkExcMonitor_spec : ∀ a0 a1 a2 a3, SpecO 0xb08c0c00000000000000000000000022000000000000808a0000000000000000000000 a3 (execHkExcMonitor a0 a1 a2 a3) := by
  intro a0 a1 a2 a3
  delta execHkExcMonitor
  extract_lets -underBinder -merge -useContext +onlyGivenNames x0
  clear_value x0
  refine SpecO.ok ?_
  refine Spec.ite ?_ ?_
  · exact Spec.refl
  · extract_lets -underBinder -merge -useContext +onlyGivenNames x1
    clear_value x1
    extract_lets -underBinder -merge -useContext +onlyGivenNames x2
    have h3 : Spec 0xb08c0c00000000000000000000000022000000000000808a0000000000000000000000 a3 x2 := by
      refine Spec.step (State.wr_spec _ _ _ _) rfl ?_
      exact Spec.refl
    clear_value x2
    extract_lets -underBinder -merge -useContext +onlyGivenNames x4
    have h5 : Spec 0xb08c0c00000000000000000000000022000000000000808a0000000000000000000000 a3 x4 := by
      refine Spec.step (State.modHkCh_spec _ _ _) rfl ?_
      exact h3
    clear_value x4
    extract_lets -underBinder -merge -useContext +onlyGivenNames x6
    clear_value x6
    refine Spec.ite ?_ ?_
    · refine Spec.step (State.raiseReg_spec _ _ _ _) rfl ?_
      refine Spec.step (State.wr_spec _ _ _ _) rfl ?_
      exact h5
    · refine Spec.ite ?_ ?_
      · refine Spec.step (State.wr_spec _ _ _ _) rfl ?_
        exact h5
      · exact h5

theorem execHkChgRstEnd_spec : ∀ a0 a1, SpecO 0x80000000000000000000000000000000000000000080000000000000000000000000 a1 (execHkChgRstEnd a0 a1) := by
  intro a0 a1
  delta execHkChgRstEnd
  refine SpecO.ok ?_
  refine Spec.ite ?_ ?_
  · refine Spec.step (State.decimReset_spec _ _) rfl ?_
    refine Spec.step (State.wr_spec _ _ _ _) rfl ?_
    exact Spec.refl
  · exact Spec.refl

theorem execHkClamp_spec : ∀ a0 a1, SpecO 0xb08c0c00000000000000000000000022000000000000808a0000000000000000000000 a1 (execHkClamp a0 a1) := by
  intro a0 a1
  delta execHkClamp
  refine SpecO.ok ?_
  refine Spec.ite ?_ ?_
  · exact Spec.refl
  · refine Spec.step (State.raiseCountReg_spec _ _ _ _ _ _) rfl ?_
    refine Spec.step (State.modHkCh_spec _ _ _) rfl ?_
    refine Spec.step (State.wr_spec _ _ _ _) rfl ?_
    exact Spec.refl

theorem execHkClampRelease_spec : ∀ a0 a1, SpecO 0x80000000000000000000000000000000000000000080000000000000000000000000 a1 (execHkClampRelease a0 a1) := by
  intro a0 a1
  delta execHkClampRelease
  extract_lets -underBinder -merge -useContext +onlyGivenNames x0
  clear_value x0
  refine SpecO.ok ?_
  refine Spec.ite ?_ ?_
  · extract_lets -underBinder -merge -useContext +onlyGivenNames x1
    have h2 : Spec 0x80000000000000000000000000000000000000000080000000000000000000000000 a1 x1 := by
      refine Spec.ite ?_ ?_
      · refine Spec.step (State.modHkCh_spec _ _ _) rfl ?_
        exact Spec.refl
      · exact Spec.refl
    clear_value x1
    refine Spec.step (State.chgClose_spec _ _) rfl ?_
    refine Spec.step (State.wr_spec _ _ _ _) rfl ?_
    exact h2
  · exact Spec.refl

theorem execAoutOvervolt_spec : ∀ a0 a1, SpecO 0xb00c0e00000000000000000000000022000000000080008a0000000000000000000000 a1 (execAoutOvervolt a0 a1) := by
  intro a0 a1
  delta execAoutOvervolt
  refine SpecO.ok ?_
  refine Spec.ite ?_ ?_
  · exact Spec.refl
  · refine Spec.step (State.raiseReg_spec _ _ _ _) rfl ?_
    refine Spec.step (State.aoutRefresh_spec _ _) rfl ?_
    refine Spec.step (State.wr_spec _ _ _ _) rfl ?_
    exact Spec.refl

theorem execAoutWired_spec : ∀ a0 a1 a2, SpecO 0xb00c0e00000000000000000000000022000000000080008a0000000000000000000000 a2 (execAoutWired a0 a1 a2) := by
  intro a0 a1 a2
  delta execAoutWired
  refine SpecO.ok ?_
  refine Spec.ite ?_ ?_
  · extract_lets -underBinder -merge -useContext +onlyGivenNames x0
    have h1 : Spec 0xb00c0e00000000000000000000000022000000000080008a0000000000000000000000 a2 x0 := by
      refine Spec.wrs_cons ?_
      refine Spec.wrs_cons ?_
      refine Spec.wrs_cons ?_
      refine Spec.wrs_cons ?_
      refine Spec.wrs_cons ?_
      refine Spec.wrs_cons ?_
      refine Spec.wrs_nil ?_
      refine Spec.step (State.wr_spec _ _ _ _) rfl ?_
      refine Spec.step (State.wr_spec _ _ _ _) rfl ?_
      refine Spec.step (State.wr_spec _ _ _ _) rfl ?_
      refine Spec.step (State.wr_spec _ _ _ _) rfl ?_
      refine Spec.step (State.wr_spec _ _ _ _) rfl ?_
      refine Spec.step (State.wr_spec _ _ _ _) rfl ?_
      exact Spec.refl
    clear_value x0
    refine Spec.step (State.raiseReg_spec _ _ _ _) rfl ?_
    refine Spec.step (State.aoutRefresh_spec _ _) rfl ?_
    refine Spec.step (State.aoutRefresh_spec _ _) rfl ?_
    exact h1
  · exact Spec.refl

theorem execHkSyncCmd_spec : ∀ a0 a1, SpecO 0xffffff0000000000000000000001ffffffffffffffffffffffffffffffffffffffffff a1 (execHkSyncCmd a0 a1) := by
  intro a0 a1
  delta execHkSyncCmd
  extract_lets -underBinder -merge -useContext +onlyGivenNames x0
  have h1 : Spec 0xffffff0000000000000000000001ffffffffffffffffffffffffffffffffffffffffff a1 x0 := by
    refine Spec.ite ?_ ?_
    · refine Spec.ite ?_ ?_
      · refine Spec.step (State.hkSync_spec _) rfl ?_
        exact Spec.refl
      · exact Spec.refl
    · refine Spec.step (State.fieldWrite_HK_CTRL_sync_now_spec _ _ _ _) rfl ?_
      exact Spec.refl
  clear_value x0
  refine SpecO.ok ?_
  split
  · exact h1
  · refine Spec.ite ?_ ?_
    · refine Spec.step (State.modHkCh_spec _ _ _) rfl ?_
      exact h1
    · exact h1

theorem execHkSeqStop_spec : ∀ a0, SpecO 0xffffff0000000000000000000001ffffffffffffffffffffffffffffffffffffffffff a0 (execHkSeqStop a0) := by
  intro a0
  delta execHkSeqStop
  refine SpecO.ok ?_
  refine Spec.step (State.fieldWrite_HK_CTRL_seq_stop_spec _ _ _ _) rfl ?_
  exact Spec.refl

theorem execHkChgRst_spec : ∀ a0 a1, SpecO 0xffffff0000000000000000000001ffffffffffffffffffffffffffffffffffffffffff a1 (execHkChgRst a0 a1) := by
  intro a0 a1
  delta execHkChgRst
  refine SpecO.ok ?_
  refine Spec.step (State.fieldWrite_HK_CH_CFG_chg_rst_spec _ _ _ _) rfl ?_
  exact Spec.refl

theorem State.marginCompute_spec : ∀ a0 a1 a2, Spec 0xf00cdc00000000000000000000000022000000040000000a000000000000a00003f7a0 a0 (State.marginCompute a0 a1 a2) := by
  intro a0 a1 a2
  delta State.marginCompute
  extract_lets -underBinder -merge -useContext +onlyGivenNames x0
  clear_value x0
  extract_lets -underBinder -merge -useContext +onlyGivenNames x1
  clear_value x1
  extract_lets -underBinder -merge -useContext +onlyGivenNames x2
  have h3 : Spec 0xf00cdc00000000000000000000000022000000040000000a000000000000a00003f7a0 a0 x2 := by
    refine Spec.step (State.modAcq_spec _ _ _) rfl ?_
    refine Spec.step (State.reqUsed_spec _ _) rfl ?_
    exact Spec.refl
  clear_value x2
  extract_lets -underBinder -merge -useContext +onlyGivenNames x4
  clear_value x4
  extract_lets -underBinder -merge -useContext +onlyGivenNames x5
  clear_value x5
  extract_lets -underBinder -merge -useContext +onlyGivenNames x6
  have h7 : Spec 0xf00cdc00000000000000000000000022000000040000000a000000000000a00003f7a0 a0 x6 := by
    refine Spec.step (State.modAcq_spec _ _ _) rfl ?_
    exact h3
  clear_value x6
  extract_lets -underBinder -merge -useContext +onlyGivenNames x8
  clear_value x8
  extract_lets -underBinder -merge -useContext +onlyGivenNames x9
  have h10 : Spec 0xf00cdc00000000000000000000000022000000040000000a000000000000a00003f7a0 a0 x9 := by
    refine Spec.step (State.wr_spec _ _ _ _) rfl ?_
    exact h7
  clear_value x9
  extract_lets -underBinder -merge -useContext +onlyGivenNames x11
  have h12 : Spec 0xf00cdc00000000000000000000000022000000040000000a000000000000a00003f7a0 a0 x11 := by
    refine Spec.wrs_cons ?_
    refine Spec.wrs_cons ?_
    refine Spec.wrs_cons ?_
    refine Spec.wrs_cons ?_
    refine Spec.wrs_cons ?_
    refine Spec.wrs_nil ?_
    refine Spec.step (State.wr_spec _ _ _ _) rfl ?_
    refine Spec.step (State.wr_spec _ _ _ _) rfl ?_
    refine Spec.step (State.wr_spec _ _ _ _) rfl ?_
    refine Spec.step (State.wr_spec _ _ _ _) rfl ?_
    refine Spec.step (State.wr_spec _ _ _ _) rfl ?_
    exact h10
  clear_value x11
  extract_lets -underBinder -merge -useContext +onlyGivenNames x13
  have h14 : Spec 0xf00cdc00000000000000000000000022000000040000000a000000000000a00003f7a0 a0 x13 := by
    refine Spec.step (State.wrInt_spec _ _ _ _) rfl ?_
    refine Spec.step (State.wr_spec _ _ _ _) rfl ?_
    exact h12
  clear_value x13
  extract_lets -underBinder -merge -useContext +onlyGivenNames x15
  have h16 : Spec 0xf00cdc00000000000000000000000022000000040000000a000000000000a00003f7a0 a0 x15 := by
    refine Spec.step (State.wrInt_spec _ _ _ _) rfl ?_
    exact h14
  clear_value x15
  extract_lets -underBinder -merge -useContext +onlyGivenNames x17
  have h18 : Spec 0xf00cdc00000000000000000000000022000000040000000a000000000000a00003f7a0 a0 x17 := by
    refine Spec.step (State.modAcq_spec _ _ _) rfl ?_
    exact h16
  clear_value x17
  extract_lets -underBinder -merge -useContext +onlyGivenNames x19
  have h20 : Spec 0xf00cdc00000000000000000000000022000000040000000a000000000000a00003f7a0 a0 x19 := by
    refine Spec.step (State.wrInt_spec _ _ _ _) rfl ?_
    exact h18
  clear_value x19
  extract_lets -underBinder -merge -useContext +onlyGivenNames x21
  have h22 : Spec 0xf00cdc00000000000000000000000022000000040000000a000000000000a00003f7a0 a0 x21 := by
    refine Spec.step (State.modAcq_spec _ _ _) rfl ?_
    exact h20
  clear_value x21
  extract_lets -underBinder -merge -useContext +onlyGivenNames x23
  have h24 : Spec 0xf00cdc00000000000000000000000022000000040000000a000000000000a00003f7a0 a0 x23 := by
    refine Spec.step (State.fecComputed_spec _ _) rfl ?_
    refine Spec.step (State.wrInt_spec _ _ _ _) rfl ?_
    exact h22
  clear_value x23
  refine Spec.step (State.requestCheck_spec _ _) rfl ?_
  refine Spec.step (State.modSk_spec _ _ _) rfl ?_
  exact h24

theorem execMarginCompute_spec : ∀ a0 a1 a2, SpecO 0xf00cdc00000000000000000000000022000000040000000a000000000000a00003f7a0 a2 (execMarginCompute a0 a1 a2) := by
  intro a0 a1 a2
  delta execMarginCompute
  refine SpecO.ok ?_
  refine Spec.ite ?_ ?_
  · refine Spec.step (State.marginCompute_spec _ _ _) rfl ?_
    exact Spec.refl
  · exact Spec.refl

theorem execMarginReport_spec : ∀ a0 a1, SpecO 0x100000000000000000000000000000000000000000000000000000000000000000 a1 (execMarginReport a0 a1) := by
  intro a0 a1
  delta execMarginReport
  refine SpecO.ok ?_
  refine Spec.ite ?_ ?_
  · refine Spec.step (State.modSk_spec _ _ _) rfl ?_
    exact Spec.refl
  · exact Spec.refl

end Sys2Proof.Machine
end

