-- ==== Sys2Proof/Laws/Frames21.lean ====
section
/-! SUPPORT. What each operation and each command of the files Machine/MirrorOps, Mirror, Mode, TimeFibre can do: one lemma each,
`<name>_spec`, whose first argument is the footprint (Laws/Spec.lean). -/
namespace Sys2Proof.Machine

theorem State.sendMack_spec : ∀ a0 a1 a2, Spec 0x2000000000000000000000000000000000000000000000000000000000000000000000 a0 (State.sendMack a0 a1 a2) := by
  intro a0 a1 a2
  delta State.sendMack
  refine Spec.step (State.sendCell_spec _ _ _) rfl ?_
  exact Spec.refl

theorem State.mirrorKeep_spec : ∀ a0 a1 a2 a3, Spec 0x20000000000000000000000000000000000000000000000000000000000000000000 a0 (State.mirrorKeep a0 a1 a2 a3) := by
  intro a0 a1 a2 a3
  delta State.mirrorKeep
  refine Spec.step (State.modPair_spec _ _) rfl ?_
  exact Spec.refl

theorem State.mirrorRegRec_spec : ∀ a0 a1 a2 a3 a4, Spec 0xf17dfe0000000000000000000001ffffffffffffffffffffffffffffffffffffffffff a0 (State.mirrorRegRec a0 a1 a2 a3 a4) := by
  intro a0 a1 a2 a3 a4
  delta State.mirrorRegRec
  split
  · exact Spec.refl
  · refine Spec.ite ?_ ?_
    · exact Spec.refl
    · extract_lets -underBinder -merge -useContext +onlyGivenNames x0
      clear_value x0
      refine Spec.ite ?_ ?_
      · refine Spec.step (State.count_spec _ _ _) rfl ?_
        exact Spec.refl
      · extract_lets -underBinder -merge -useContext +onlyGivenNames x1
        have h2 : Spec 0xf17dfe0000000000000000000001ffffffffffffffffffffffffffffffffffffffffff a0 x1 := by
          refine Spec.step (State.mirroredWrite_spec _ _ _ _ _ _) rfl ?_
          refine Spec.step (State.mirrorKeep_spec _ _ _ _) rfl ?_
          exact Spec.refl
        clear_value x1
        extract_lets -underBinder -merge -useContext +onlyGivenNames x3
        have h4 : Spec 0xf17dfe0000000000000000000001ffffffffffffffffffffffffffffffffffffffffff a0 x3 := by
          refine Spec.ite ?_ ?_
          · refine Spec.step (State.commitIdle_spec _) rfl ?_
            exact h2
          · exact h2
        clear_value x3
        refine Spec.ite ?_ ?_
        · refine Spec.step (State.wr_spec _ _ _ _) rfl ?_
          exact h4
        · exact h4

theorem State.mirrorMode_spec : ∀ a0 a1, Spec 0xf13cfe00000000000000000000008422000000050000000a001000009570aa80781ba3 a0 (State.mirrorMode a0 a1) := by
  intro a0 a1
  delta State.mirrorMode
  extract_lets -underBinder -merge -useContext +onlyGivenNames x0
  clear_value x0
  extract_lets -underBinder -merge -useContext +onlyGivenNames x1
  have h8 : Spec 0xf13cfe00000000000000000000008422000000050000000a001000009570aa80781ba3 a0 x1 := by
    unfold x1
    split
    · refine Spec.ite ?_ ?_
      · exact Spec.refl
      · extract_lets -underBinder -merge -useContext +onlyGivenNames x2
        have h5 : Spec 0xf13cfe00000000000000000000008422000000050000000a001000009570aa80781ba3 a0 x2 := by
          refine Spec.fold _ ?_ ?_
          · intro t3 i4
            try dsimp -zeta only
            refine Spec.step (State.commitEng_spec _ _ _ _) rfl ?_
            exact Spec.refl
          · exact Spec.refl
        clear_value x2
        extract_lets -underBinder -merge -useContext +onlyGivenNames x6
        have h7 : Spec 0xf13cfe00000000000000000000008422000000050000000a001000009570aa80781ba3 a0 x6 := by
          refine Spec.step (State.commitLast_spec _ _) rfl ?_
          exact h5
        clear_value x6
        exact (Spec.set_mode rfl h7)
    · exact Spec.refl
  clear_value x1
  refine Spec.ite ?_ ?_
  · refine Spec.step (State.commitLast_spec _ _) rfl ?_
    refine Spec.fold _ ?_ ?_
    · intro t9 i10
      try dsimp -zeta only
      refine Spec.step (State.commitEng_spec _ _ _ _) rfl ?_
      exact Spec.refl
    · exact h8
  · extract_lets -underBinder -merge -useContext +onlyGivenNames x11
    have h12 : Spec 0xf13cfe00000000000000000000008422000000050000000a001000009570aa80781ba3 a0 x11 := by
      refine Spec.step (State.transBegin_spec _ _) rfl ?_
      exact h8
    clear_value x11
    split
    · refine Spec.ite ?_ ?_
      · exact (Spec.set_mode rfl h12)
      · exact h12
    · exact h12

theorem State.mirrorLockerRec_spec : ∀ a0 a1 a2, Spec 0x22000000000000000000000000000000000000000000000400000000000000000000 a0 (State.mirrorLockerRec a0 a1 a2) := by
  intro a0 a1 a2
  delta State.mirrorLockerRec
  split
  · exact Spec.refl
  · extract_lets -underBinder -merge -useContext +onlyGivenNames x0
    clear_value x0
    extract_lets -underBinder -merge -useContext +onlyGivenNames x1
    clear_value x1
    extract_lets -underBinder -merge -useContext +onlyGivenNames x2
    clear_value x2
    extract_lets -underBinder -merge -useContext +onlyGivenNames x3
    clear_value x3
    extract_lets -underBinder -merge -useContext +onlyGivenNames x4
    have h5 : Spec 0x22000000000000000000000000000000000000000000000400000000000000000000 a0 x4 := by
      refine Spec.step (State.modLock_spec _ _ _) rfl ?_
      exact Spec.refl
    clear_value x4
    extract_lets -underBinder -merge -useContext +onlyGivenNames x6
    have h7 : Spec 0x22000000000000000000000000000000000000000000000400000000000000000000 a0 x6 := by
      refine Spec.step (State.lockShow_spec _ _) rfl ?_
      refine Spec.wrs_cons ?_
      refine Spec.wrs_cons ?_
      refine Spec.wrs_nil ?_
      refine Spec.step (State.wr_spec _ _ _ _) rfl ?_
      refine Spec.step (State.wr_spec _ _ _ _) rfl ?_
      exact h5
    clear_value x6
    refine Spec.step (State.modPair_spec _ _) rfl ?_
    exact h7

theorem State.mirrorMarker_spec : ∀ a0 a1 a2 a3, Spec 0x10100000000000000000000000000000000000000000000000000000200000000000 a0 (State.mirrorMarker a0 a1 a2 a3) := by
  intro a0 a1 a2 a3
  delta State.mirrorMarker
  refine Spec.step (State.setSw_spec _ _ _) rfl ?_
  refine Spec.step (State.mkIssue_spec _ _ _ _) rfl ?_
  exact Spec.refl

theorem State.imageMap_spec : ∀ a0 a1 a2, Spec 0x2030d0000000000000000000000000000000000000000000000000000160a000000001 a0 (State.imageMap a0 a1 a2) := by
  intro a0 a1 a2
  delta State.imageMap
  extract_lets -underBinder -merge -useContext +onlyGivenNames x0
  clear_value x0
  extract_lets -underBinder -merge -useContext +onlyGivenNames x1
  have h2 : Spec 0x2030d0000000000000000000000000000000000000000000000000000160a000000001 a0 x1 := by
    refine Spec.step (State.modPair_spec _ _) rfl ?_
    exact Spec.refl
  clear_value x1
  refine Spec.ite ?_ ?_
  · refine Spec.step (State.rxMapShow_spec _ _) rfl ?_
    refine Spec.step (State.modRx_spec _ _ _) rfl ?_
    exact h2
  · refine Spec.ite ?_ ?_
    · refine Spec.step (State.swBegin_spec _ _ _ _) rfl ?_
      refine Spec.step (State.modSk_spec _ _ _) rfl ?_
      exact h2
    · refine Spec.ite ?_ ?_
      · refine Spec.step (State.mirrorMarker_spec _ _ _ _) rfl ?_
        exact h2
      · extract_lets -underBinder -merge -useContext +onlyGivenNames x3
        have h6 : Spec 0x2030d0000000000000000000000000000000000000000000000000000160a000000001 a0 x3 := by
          refine Spec.ite ?_ ?_
          · refine Spec.fold _ ?_ ?_
            · intro t4 i5
              try dsimp -zeta only
              refine Spec.step (State.takePolicy_spec _ _) rfl ?_
              exact Spec.refl
            · exact h2
          · exact h2
        clear_value x3
        refine Spec.step (State.placeShowAll_spec _) rfl ?_
        refine Spec.step (State.txMapShow_spec _ _) rfl ?_
        refine Spec.step (State.modTx_spec _ _ _) rfl ?_
        refine Spec.step (State.modSk_spec _ _ _) rfl ?_
        exact h6

theorem State.mirrorNext_spec : ∀ a0 a1 a2, Spec 0xb03cdc00000000000000000000000022000000000000000a0000000001300000000000 a0 (State.mirrorNext a0 a1 a2) := by
  intro a0 a1 a2
  delta State.mirrorNext
  extract_lets -underBinder -merge -useContext +onlyGivenNames x0
  clear_value x0
  extract_lets -underBinder -merge -useContext +onlyGivenNames x1
  clear_value x1
  split
  rename_i y2 y3 h4q
  have h4 : SpecL 0xb03cdc00000000000000000000000022000000000000000a0000000001300000000000 a0 (y2, y3) := by
    rw [← h4q]
    refine SpecL.ite ?_ ?_
    · refine SpecL.mk ?_
      exact Spec.refl
    · refine SpecL.ite ?_ ?_
      · refine SpecL.step (State.placePass_spec _) rfl ?_
        exact Spec.refl
      · refine SpecL.mk ?_
        exact Spec.refl
  clear h4q
  extract_lets -underBinder -merge -useContext +onlyGivenNames x5
  have h6 : Spec 0xb03cdc00000000000000000000000022000000000000000a0000000001300000000000 a0 x5 := by
    refine Spec.step (State.modPair_spec _ _) rfl ?_
    exact h4
  clear_value x5
  extract_lets -underBinder -merge -useContext +onlyGivenNames x7
  clear_value x7
  extract_lets -underBinder -merge -useContext +onlyGivenNames x8
  clear_value x8
  extract_lets -underBinder -merge -useContext +onlyGivenNames x9
  have h10 : Spec 0xb03cdc00000000000000000000000022000000000000000a0000000001300000000000 a0 x9 := by
    refine Spec.ite ?_ ?_
    · exact h6
    · refine Spec.step (State.raiseReg_spec _ _ _ _) rfl ?_
      exact h6
  clear_value x9
  refine Spec.step (State.swBegin_spec _ _ _ _) rfl ?_
  refine Spec.step (State.modSk_spec _ _ _) rfl ?_
  exact h10

theorem State.mirrorPlaceIn_spec : ∀ a0 a1 a2 a3 a4, Spec 0xb03cdc00000000000000000000000022000000000000000a000000000130a000200000 a0 (State.mirrorPlaceIn a0 a1 a2 a3 a4) := by
  intro a0 a1 a2 a3 a4
  delta State.mirrorPlaceIn
  refine Spec.ite ?_ ?_
  · refine Spec.step (State.demandNew_spec _ _) rfl ?_
    exact Spec.refl
  · refine Spec.ite ?_ ?_
    · exact Spec.refl
    · split
      · refine Spec.ite ?_ ?_
        · refine Spec.step (State.modSk_spec _ _ _) rfl ?_
          refine Spec.step (State.blockNote_spec _ _ _) rfl ?_
          exact Spec.refl
        · refine Spec.step (State.blockSwitch_spec _ _) rfl ?_
          refine Spec.step (State.blockInput_spec _ _ _) rfl ?_
          exact Spec.refl
      · extract_lets -underBinder -merge -useContext +onlyGivenNames x0
        clear_value x0
        extract_lets -underBinder -merge -useContext +onlyGivenNames x1
        clear_value x1
        refine Spec.step (State.stageReport_spec _ _ _ _) rfl ?_
        exact Spec.refl
      · exact Spec.refl

theorem State.applyRec_spec : ∀ a0 a1 a2 a3 a4, Spec 0xf17ffe0000000000000000000001ffffffffffffffffffffffffffffffffffffffffff a0 (State.applyRec a0 a1 a2 a3 a4) := by
  intro a0 a1 a2 a3 a4
  delta State.applyRec
  extract_lets -underBinder -merge -useContext +onlyGivenNames x0
  have h1 : Spec 0xf17ffe0000000000000000000001ffffffffffffffffffffffffffffffffffffffffff a0 x0 := by
    refine Spec.ite ?_ ?_
    · exact Spec.refl
    · refine Spec.step (State.modPair_spec _ _) rfl ?_
      exact Spec.refl
  clear_value x0
  split
  · refine Spec.step (State.mirrorRegRec_spec _ _ _ _ _) rfl ?_
    exact h1
  · refine Spec.step (State.mirrorMode_spec _ _) rfl ?_
    exact h1
  · refine Spec.ite ?_ ?_
    · refine Spec.step (State.mirrorLockerRec_spec _ _ _) rfl ?_
      exact h1
    · refine Spec.step (State.count_spec _ _ _) rfl ?_
      exact h1
  · extract_lets -underBinder -merge -useContext +onlyGivenNames x2
    clear_value x2
    extract_lets -underBinder -merge -useContext +onlyGivenNames x3
    clear_value x3
    extract_lets -underBinder -merge -useContext +onlyGivenNames x4
    clear_value x4
    refine Spec.ite ?_ ?_
    · exact h1
    · refine Spec.ite ?_ ?_
      · refine Spec.step (State.imageMap_spec _ _ _) rfl ?_
        exact h1
      · refine Spec.ite ?_ ?_
        · refine Spec.step (State.mirrorMarker_spec _ _ _ _) rfl ?_
          exact h1
        · refine Spec.step (State.mirrorNext_spec _ _ _) rfl ?_
          exact h1
  · refine Spec.step (State.commitIdle_spec _) rfl ?_
    refine Spec.step (State.mirrorPlaceIn_spec _ _ _ _ _) rfl ?_
    exact h1
  · refine Spec.ite ?_ ?_
    · refine Spec.step (State.addShadow_spec _ _ _ _ _) rfl ?_
      exact h1
    · exact h1
  · extract_lets -underBinder -merge -useContext +onlyGivenNames x5
    clear_value x5
    refine Spec.ite ?_ ?_
    · refine Spec.step (State.modSk_spec _ _ _) rfl ?_
      exact h1
    · exact h1
  · exact h1

theorem State.mirApply_spec : ∀ a0 a1, Spec 0xf17ffe0000000000000000000001ffffffffffffffffffffffffffffffffffffffffff a0 (State.mirApply a0 a1) := by
  intro a0 a1
  delta State.mirApply
  extract_lets -underBinder -merge -useContext +onlyGivenNames x0
  clear_value x0
  extract_lets -underBinder -merge -useContext +onlyGivenNames x1
  clear_value x1
  extract_lets -underBinder -merge -useContext +onlyGivenNames x2
  clear_value x2
  extract_lets -underBinder -merge -useContext +onlyGivenNames x3
  clear_value x3
  extract_lets -underBinder -merge -useContext +onlyGivenNames x4
  have h5 : Spec 0xf17ffe0000000000000000000001ffffffffffffffffffffffffffffffffffffffffff a0 x4 := by
    refine Spec.ite ?_ ?_
    · refine Spec.step (State.count_spec _ _ _) rfl ?_
      refine Spec.step (State.wr_spec _ _ _ _) rfl ?_
      refine Spec.step (State.modPair_spec _ _) rfl ?_
      exact Spec.refl
    · exact Spec.refl
  clear_value x4
  extract_lets -underBinder -merge -useContext +onlyGivenNames x6
  clear_value x6
  extract_lets -underBinder -merge -useContext +onlyGivenNames x7
  clear_value x7
  split
  · extract_lets -underBinder -merge -useContext +onlyGivenNames x8
    have h9 : Spec 0xf17ffe0000000000000000000001ffffffffffffffffffffffffffffffffffffffffff a0 x8 := by
      refine Spec.step (State.modPair_spec _ _) rfl ?_
      exact h5
    clear_value x8
    refine Spec.fold _ ?_ ?_
    · intro t10 i11
      try dsimp -zeta only
      refine Spec.ite ?_ ?_
      · refine Spec.step (State.count_spec _ _ _) rfl ?_
        exact Spec.refl
      · refine Spec.step (State.applyRec_spec _ _ _ _ _) rfl ?_
        exact Spec.refl
    · exact h9

theorem State.mirDrain_spec : ∀ n s, Spec 0xf17ffe0000000000000000000001ffffffffffffffffffffffffffffffffffffffffff s (State.mirDrain n s) := by
  intro n
  induction n with
  | zero => intro s; exact Spec.refl
  | succ n ih =>
    intro s
    unfold State.mirDrain
    extract_lets -underBinder -merge -useContext +onlyGivenNames q
    split
    · exact Spec.refl
    · exact Spec.trans (Spec.step (State.mirApply_spec _ _) rfl (Spec.step (State.modPair_spec _ _) rfl Spec.refl)) (ih _)

theorem State.mirTake_spec : ∀ a0 a1, Spec 0xf17ffe0000000000000000000001ffffffffffffffffffffffffffffffffffffffffff a0 (State.mirTake a0 a1) := by
  intro a0 a1
  delta State.mirTake
  extract_lets -underBinder -merge -useContext +onlyGivenNames x0
  clear_value x0
  extract_lets -underBinder -merge -useContext +onlyGivenNames x1
  clear_value x1
  refine Spec.ite ?_ ?_
  · refine Spec.step (State.count_spec _ _ _) rfl ?_
    exact Spec.refl
  · refine Spec.ite ?_ ?_
    · refine Spec.step (State.sendMack_spec _ _ _) rfl ?_
      exact Spec.refl
    · refine Spec.ite ?_ ?_
      · refine Spec.step (State.sendMack_spec _ _ _) rfl ?_
        refine Spec.step (State.modPair_spec _ _) rfl ?_
        exact Spec.refl
      · extract_lets -underBinder -merge -useContext +onlyGivenNames x2
        have h3 : Spec 0xf17ffe0000000000000000000001ffffffffffffffffffffffffffffffffffffffffff a0 x2 := by
          refine Spec.step (State.mirApply_spec _ _) rfl ?_
          exact Spec.refl
        clear_value x2
        refine Spec.step (State.sendMack_spec _ _ _) rfl ?_
        refine Spec.step (State.readyRefresh_spec _) rfl ?_
        refine Spec.step (State.mirDrain_spec _ _) rfl ?_
        exact h3

theorem State.takeGens_spec : ∀ a0 a1, Spec 0x8000000000 a0 (State.takeGens a0 a1) := by
  intro a0 a1
  delta State.takeGens
  refine Spec.fold _ ?_ ?_
  · intro t0 i1
    try dsimp -zeta only
    refine Spec.step (State.wr_spec _ _ _ _) rfl ?_
    exact Spec.refl
  · exact Spec.refl

theorem State.mirrorDiscard_spec : ∀ a0, Spec 0xf13ffe0000000000000000000001ffffffffffffffffffffffffffffffffffffffffff a0 (State.mirrorDiscard a0) := by
  intro a0
  delta State.mirrorDiscard
  extract_lets -underBinder -merge -useContext +onlyGivenNames x0
  clear_value x0
  extract_lets -underBinder -merge -useContext +onlyGivenNames x1
  have h4 : Spec 0xf13ffe0000000000000000000001ffffffffffffffffffffffffffffffffffffffffff a0 x1 := by
    refine Spec.ite ?_ ?_
    · exact Spec.refl
    · refine Spec.step (State.modPair_spec _ _) rfl ?_
      refine Spec.step (State.commitClients_spec _ _ _) rfl ?_
      refine Spec.fold _ ?_ ?_
      · intro t2 i3
        try dsimp -zeta only
        refine Spec.step (State.commitEng_spec _ _ _ _) rfl ?_
        exact Spec.refl
      · exact Spec.refl
  clear_value x1
  extract_lets -underBinder -merge -useContext +onlyGivenNames x5
  clear_value x5
  extract_lets -underBinder -merge -useContext +onlyGivenNames x6
  have h7 : Spec 0xf13ffe0000000000000000000001ffffffffffffffffffffffffffffffffffffffffff a0 x6 := by
    exact (Spec.set_mode rfl (Spec.trans h4 (Spec.set_regs rfl (fun h => regsWf_filter h _))))
  clear_value x6
  extract_lets -underBinder -merge -useContext +onlyGivenNames x8
  have h11 : Spec 0xf13ffe0000000000000000000001ffffffffffffffffffffffffffffffffffffffffff a0 x8 := by
    refine Spec.fold _ ?_ ?_
    · intro t9 i10
      try dsimp -zeta only
      refine Spec.wrs_cons ?_
      refine Spec.wrs_cons ?_
      refine Spec.wrs_cons ?_
      refine Spec.wrs_nil ?_
      refine Spec.step (State.wr_spec _ _ _ _) rfl ?_
      refine Spec.step (State.wr_spec _ _ _ _) rfl ?_
      refine Spec.step (State.wr_spec _ _ _ _) rfl ?_
      exact Spec.refl
    · exact (Spec.set_bins rfl (fun _ => rfl) h7)
  clear_value x8
  extract_lets -underBinder -merge -useContext +onlyGivenNames x12
  have h13 : Spec 0xf13ffe0000000000000000000001ffffffffffffffffffffffffffffffffffffffffff a0 x12 := by
    refine Spec.step (State.wr_spec _ _ _ _) rfl ?_
    exact h11
  clear_value x12
  extract_lets -underBinder -merge -useContext +onlyGivenNames x14
  have h17 : Spec 0xf13ffe0000000000000000000001ffffffffffffffffffffffffffffffffffffffffff a0 x14 := by
    refine Spec.fold _ ?_ ?_
    · intro t15 i16
      try dsimp -zeta only
      refine Spec.step (State.lockShow_spec _ _) rfl ?_
      refine Spec.wrs_cons ?_
      refine Spec.wrs_cons ?_
      refine Spec.wrs_nil ?_
      refine Spec.step (State.wr_spec _ _ _ _) rfl ?_
      refine Spec.step (State.wr_spec _ _ _ _) rfl ?_
      refine Spec.step (State.modLock_spec _ _ _) rfl ?_
      exact Spec.refl
    · exact h13
  clear_value x14
  extract_lets -underBinder -merge -useContext +onlyGivenNames x18
  have h21 : Spec 0xf13ffe0000000000000000000001ffffffffffffffffffffffffffffffffffffffffff a0 x18 := by
    refine Spec.fold _ ?_ ?_
    · intro t19 i20
      try dsimp -zeta only
      refine Spec.step (State.modTx_spec _ _ _) rfl ?_
      refine Spec.wrs_cons ?_
      refine Spec.wrs_cons ?_
      refine Spec.wrs_nil ?_
      refine Spec.step (State.wr_spec _ _ _ _) rfl ?_
      refine Spec.step (State.wr_spec _ _ _ _) rfl ?_
      exact Spec.refl
    · exact h17
  clear_value x18
  refine Spec.step (State.wr_spec _ _ _ _) rfl ?_
  refine Spec.step (State.modPair_spec _ _) rfl ?_
  exact h21

theorem State.takePlaced_spec : ∀ a0, Spec 0x20400000000000000000000000000000000000000000000000000000000000000000 a0 (State.takePlaced a0) := by
  intro a0
  delta State.takePlaced
  refine Spec.step (State.modPair_spec _ _) rfl ?_
  refine Spec.fold _ ?_ ?_
  · intro t0 i1
    try dsimp -zeta only
    refine Spec.ite ?_ ?_
    · refine Spec.step (State.modTrib_spec _ _ _) rfl ?_
      exact Spec.refl
    · refine Spec.step (State.modTrib_spec _ _ _) rfl ?_
      exact Spec.refl
  · exact Spec.refl

theorem State.imageApply_spec : ∀ a0 a1, Spec 0xf17ffe0000000000000000000001ffffffffffffffffffffffffffffffffffffffffff a0 (State.imageApply a0 a1) := by
  intro a0 a1
  delta State.imageApply
  extract_lets -underBinder -merge -useContext +onlyGivenNames x0
  clear_value x0
  split
  · extract_lets -underBinder -merge -useContext +onlyGivenNames x1
    have h4 : Spec 0xf17ffe0000000000000000000001ffffffffffffffffffffffffffffffffffffffffff a0 x1 := by
      refine Spec.step (State.takePlaced_spec _) rfl ?_
      refine Spec.fold _ ?_ ?_
      · intro t2 i3
        try dsimp -zeta only
        refine Spec.step (State.applyRec_spec _ _ _ _ _) rfl ?_
        exact Spec.refl
      · exact Spec.refl
    clear_value x1
    extract_lets -underBinder -merge -useContext +onlyGivenNames x5
    have h6 : Spec 0xf17ffe0000000000000000000001ffffffffffffffffffffffffffffffffffffffffff a0 x5 := by
      refine Spec.step (State.modPair_spec _ _) rfl ?_
      exact h4
    clear_value x5
    refine Spec.step (State.readyRefresh_spec _) rfl ?_
    refine Spec.step (State.engRefresh_spec _) rfl ?_
    refine Spec.step (State.mirDrain_spec _ _) rfl ?_
    exact h6

theorem State.bulkTake_spec : ∀ a0 a1, Spec 0xf17ffe0000000000000000000001ffffffffffffffffffffffffffffffffffffffffff a0 (State.bulkTake a0 a1) := by
  intro a0 a1
  delta State.bulkTake
  extract_lets -underBinder -merge -useContext +onlyGivenNames x0
  clear_value x0
  extract_lets -underBinder -merge -useContext +onlyGivenNames x1
  clear_value x1
  extract_lets -underBinder -merge -useContext +onlyGivenNames x2
  clear_value x2
  extract_lets -underBinder -merge -useContext +onlyGivenNames x3
  clear_value x3
  extract_lets -underBinder -merge -useContext +onlyGivenNames x4
  clear_value x4
  extract_lets -underBinder -merge -useContext +onlyGivenNames x5
  have h6 : Spec 0xf17ffe0000000000000000000001ffffffffffffffffffffffffffffffffffffffffff a0 x5 := by
    refine Spec.ite ?_ ?_
    · refine Spec.step (State.modPair_spec _ _) rfl ?_
      refine Spec.step (State.takeGens_spec _ _) rfl ?_
      refine Spec.step (State.mirrorDiscard_spec _) rfl ?_
      exact Spec.refl
    · refine Spec.ite ?_ ?_
      · refine Spec.step (State.modPair_spec _ _) rfl ?_
        exact Spec.refl
      · exact Spec.refl
  clear_value x5
  refine Spec.ite ?_ ?_
  · refine Spec.step (State.imageApply_spec _ _) rfl ?_
    exact h6
  · exact h6

theorem execMirRx_spec : ∀ a0 a1, SpecO 0xf17ffe0000000000000000000001ffffffffffffffffffffffffffffffffffffffffff a1 (execMirRx a0 a1) := by
  intro a0 a1
  delta execMirRx
  refine SpecO.ok ?_
  refine Spec.ite ?_ ?_
  · refine Spec.step (State.mirTake_spec _ _) rfl ?_
    exact Spec.refl
  · exact Spec.refl

theorem execBulkRx_spec : ∀ a0 a1, SpecO 0xf17ffe0000000000000000000001ffffffffffffffffffffffffffffffffffffffffff a1 (execBulkRx a0 a1) := by
  intro a0 a1
  delta execBulkRx
  refine SpecO.ok ?_
  refine Spec.ite ?_ ?_
  · refine Spec.step (State.bulkTake_spec _ _) rfl ?_
    exact Spec.refl
  · exact Spec.refl

theorem execMirResend_spec : ∀ a0 a1, SpecO 0xb02c0c00000000000000000000000022000000000000000a0000000010000000000000 a1 (execMirResend a0 a1) := by
  intro a0 a1
  delta execMirResend
  refine SpecO.ok ?_
  split
  · exact Spec.refl
  · refine Spec.ite ?_ ?_
    · exact Spec.refl
    · refine Spec.ite ?_ ?_
      · refine Spec.step (State.modPair_spec _ _) rfl ?_
        refine Spec.step (State.sendCellOf_spec _ _ _ _) rfl ?_
        exact Spec.refl
      · refine Spec.step (State.sendImage_spec _) rfl ?_
        refine Spec.step (State.raiseReg_spec _ _ _ _) rfl ?_
        exact Spec.refl

theorem execMackRx_spec : ∀ a0 a1, SpecO 0x2030100000000000000000000000000000000000000000000000000000200000000000 a1 (execMackRx a0 a1) := by
  intro a0 a1
  delta execMackRx
  refine SpecO.ok ?_
  refine Spec.ite ?_ ?_
  · extract_lets -underBinder -merge -useContext +onlyGivenNames x0
    clear_value x0
    extract_lets -underBinder -merge -useContext +onlyGivenNames x1
    clear_value x1
    extract_lets -underBinder -merge -useContext +onlyGivenNames x2
    have h3 : Spec 0x2030100000000000000000000000000000000000000000000000000000200000000000 a1 x2 := by
      refine Spec.step (State.mirAcked_spec _ _ _) rfl ?_
      exact Spec.refl
    clear_value x2
    refine Spec.fold _ ?_ ?_
    · intro t4 i5
      try dsimp -zeta only
      refine Spec.step (State.tryIssue_spec _ _) rfl ?_
      exact Spec.refl
    · exact h3
  · exact Spec.refl

theorem execHeldModeResume_spec : ∀ a0, SpecO 0xf11cde00000000000000000000000022000000050000000a000000000160a200300023 a0 (execHeldModeResume a0) := by
  intro a0
  delta execHeldModeResume
  refine SpecO.ok ?_
  refine Spec.ite ?_ ?_
  · exact Spec.refl
  · extract_lets -underBinder -merge -useContext +onlyGivenNames x0
    clear_value x0
    extract_lets -underBinder -merge -useContext +onlyGivenNames x1
    clear_value x1
    extract_lets -underBinder -merge -useContext +onlyGivenNames x2
    have h3 : Spec 0xf11cde00000000000000000000000022000000050000000a000000000160a200300023 a0 x2 := by
      exact (Spec.set_mode rfl Spec.refl)
    clear_value x2
    extract_lets -underBinder -merge -useContext +onlyGivenNames x4
    have h8 : Spec 0xf11cde00000000000000000000000022000000050000000a000000000160a200300023 a0 x4 := by
      refine Spec.fold _ ?_ ?_
      · intro t5 i6
        try dsimp -zeta only
        extract_lets -underBinder -merge -useContext +onlyGivenNames x7
        clear_value x7
        refine Spec.step (State.setMaps_spec _ _ _ _) rfl ?_
        exact Spec.refl
      · exact h3
    clear_value x4
    extract_lets -underBinder -merge -useContext +onlyGivenNames x9
    have h12 : Spec 0xf11cde00000000000000000000000022000000050000000a000000000160a200300023 a0 x9 := by
      refine Spec.fold _ ?_ ?_
      · intro t10 i11
        try dsimp -zeta only
        refine Spec.step (State.wr_spec _ _ _ _) rfl ?_
        exact Spec.refl
      · exact h8
    clear_value x9
    extract_lets -underBinder -merge -useContext +onlyGivenNames x13
    have h14 : Spec 0xf11cde00000000000000000000000022000000050000000a000000000160a200300023 a0 x13 := by
      refine Spec.step (State.clientStart_spec _ _) rfl ?_
      exact h12
    clear_value x13
    refine Spec.step (State.placeShowAll_spec _) rfl ?_
    refine Spec.step (State.engRefresh_spec _) rfl ?_
    exact h14

theorem execModeSetComplete_spec : ∀ a0, SpecO 0x14000000000000000000000000040000000000000000000000000000000000000000 a0 (execModeSetComplete a0) := by
  intro a0
  delta execModeSetComplete
  refine SpecO.ok ?_
  split
  · exact Spec.refl
  · refine Spec.ite ?_ ?_
    · exact Spec.refl
    · extract_lets -underBinder -merge -useContext +onlyGivenNames x0
      clear_value x0
      refine Spec.step (State.modeDone_spec _ _ _ _ _) rfl ?_
      refine Spec.step (State.wr_spec _ _ _ _) rfl ?_
      exact (Spec.set_mode rfl Spec.refl)

theorem execModeSet_spec : ∀ a0 a1, SpecO 0xf17cfe00000000000000000000008422000000050000000a001400209570aa80781ba3 a1 (execModeSet a0 a1) := by
  intro a0 a1
  delta execModeSet
  refine SpecO.ok ?_
  extract_lets -underBinder -merge -useContext +onlyGivenNames x0
  have h1 : Spec 0xf17cfe00000000000000000000008422000000050000000a001400209570aa80781ba3 a1 x0 := by
    refine Spec.step (State.settle_spec _ _ _) rfl ?_
    exact Spec.refl
  clear_value x0
  split
  · exact h1
  · extract_lets -underBinder -merge -useContext +onlyGivenNames x2
    have h3 : Spec 0xf17cfe00000000000000000000008422000000050000000a001400209570aa80781ba3 a1 x2 := by
      refine Spec.step (State.popDesc_spec _ _) rfl ?_
      exact h1
    clear_value x2
    extract_lets -underBinder -merge -useContext +onlyGivenNames x4
    clear_value x4
    split
    · refine Spec.step (State.done_spec _ _ _ _ _) rfl ?_
      refine Spec.step (State.wr_spec _ _ _ _) rfl ?_
      exact h3
    · refine Spec.ite ?_ ?_
      · refine Spec.step (State.modeCheckOnly_spec _ _ _) rfl ?_
        exact h3
      · refine Spec.step (State.modeRequest_spec _ _ _) rfl ?_
        exact h3

theorem State.ttUsed_spec : ∀ a0 a1 a2 a3, Spec 0xf04c1e00000000000000000000000022000000000000000a0004812400000000000000 a0 (State.ttUsed a0 a1 a2 a3) := by
  intro a0 a1 a2 a3
  delta State.ttUsed
  extract_lets -underBinder -merge -useContext +onlyGivenNames x0
  clear_value x0
  extract_lets -underBinder -merge -useContext +onlyGivenNames x1
  clear_value x1
  extract_lets -underBinder -merge -useContext +onlyGivenNames x2
  clear_value x2
  extract_lets -underBinder -merge -useContext +onlyGivenNames x3
  clear_value x3
  extract_lets -underBinder -merge -useContext +onlyGivenNames x4
  have h5 : Spec 0xf04c1e00000000000000000000000022000000000000000a0004812400000000000000 a0 x4 := by
    exact (Spec.set_tim rfl Spec.refl)
  clear_value x4
  extract_lets -underBinder -merge -useContext +onlyGivenNames x6
  have h7 : Spec 0xf04c1e00000000000000000000000022000000000000000a0004812400000000000000 a0 x6 := by
    refine Spec.step (State.modRef_spec _ _ _) rfl ?_
    refine Spec.step (State.modRx_spec _ _ _) rfl ?_
    exact h5
  clear_value x6
  extract_lets -underBinder -merge -useContext +onlyGivenNames x8
  have h9 : Spec 0xf04c1e00000000000000000000000022000000000000000a0004812400000000000000 a0 x8 := by
    refine Spec.wrs_cons ?_
    refine Spec.wrs_cons ?_
    refine Spec.wrs_cons ?_
    refine Spec.wrs_nil ?_
    refine Spec.step (State.wr_spec _ _ _ _) rfl ?_
    refine Spec.step (State.wr_spec _ _ _ _) rfl ?_
    refine Spec.step (State.wr_spec _ _ _ _) rfl ?_
    exact h7
  clear_value x8
  extract_lets -underBinder -merge -useContext +onlyGivenNames x10
  have h11 : Spec 0xf04c1e00000000000000000000000022000000000000000a0004812400000000000000 a0 x10 := by
    refine Spec.step (State.modRef_spec _ _ _) rfl ?_
    exact h9
  clear_value x10
  extract_lets -underBinder -merge -useContext +onlyGivenNames x12
  clear_value x12
  extract_lets -underBinder -merge -useContext +onlyGivenNames x13
  have h14 : Spec 0xf04c1e00000000000000000000000022000000000000000a0004812400000000000000 a0 x13 := by
    refine Spec.step (State.dtauRefresh_spec _) rfl ?_
    exact h11
  clear_value x13
  extract_lets -underBinder -merge -useContext +onlyGivenNames x15
  have h16 : Spec 0xf04c1e00000000000000000000000022000000000000000a0004812400000000000000 a0 x15 := by
    refine Spec.ite ?_ ?_
    · exact h7
    · refine Spec.ite ?_ ?_
      · refine Spec.step (State.dtauRefresh_spec _) rfl ?_
        exact (Spec.set_tim rfl h11)
      · split
        · exact h14
        · refine Spec.ite ?_ ?_
          · exact h14
          · exact (Spec.set_tim rfl h14)
  clear_value x15
  refine Spec.step (State.timSelect_spec _) rfl ?_
  exact h16

theorem State.ttTake_spec : ∀ a0 a1 a2 a3 a4, Spec 0xf04c1e00000000000000000000000022000000000000000a0004812400000000000000 a0 (State.ttTake a0 a1 a2 a3 a4) := by
  intro a0 a1 a2 a3 a4
  delta State.ttTake
  refine Spec.ite ?_ ?_
  · refine Spec.step (State.ttUsed_spec _ _ _ _) rfl ?_
    exact Spec.refl
  · exact Spec.refl

theorem State.timeSample_spec : ∀ a0 a1, Spec 0xf04c1e00000000000000000000000022000000000000000a0004012400000000000000 a0 (State.timeSample a0 a1) := by
  intro a0 a1
  delta State.timeSample
  extract_lets -underBinder -merge -useContext +onlyGivenNames x0
  clear_value x0
  extract_lets -underBinder -merge -useContext +onlyGivenNames x1
  clear_value x1
  extract_lets -underBinder -merge -useContext +onlyGivenNames x2
  clear_value x2
  refine Spec.ite ?_ ?_
  · refine Spec.step (State.refuse_spec _ _ _) rfl ?_
    exact Spec.refl
  · refine Spec.ite ?_ ?_
    · refine Spec.step (State.done_spec _ _ _ _ _) rfl ?_
      exact Spec.refl
    · extract_lets -underBinder -merge -useContext +onlyGivenNames x3
      clear_value x3
      extract_lets -underBinder -merge -useContext +onlyGivenNames x4
      have h5 : Spec 0xf04c1e00000000000000000000000022000000000000000a0004012400000000000000 a0 x4 := by
        exact (Spec.set_host rfl Spec.refl)
      clear_value x4
      refine Spec.step (State.done_spec _ _ _ _ _) rfl ?_
      refine Spec.step (State.timSelect_spec _) rfl ?_
      refine Spec.step (State.measured_spec _ _) rfl ?_
      refine Spec.step (State.modRef_spec _ _ _) rfl ?_
      exact h5

theorem execTtBlockRx_spec : ∀ a0 a1 a2 a3, SpecO 0xf04c1e00000000000000000000000022000000000000000a0004812400000000000000 a3 (execTtBlockRx a0 a1 a2 a3) := by
  intro a0 a1 a2 a3
  delta execTtBlockRx
  refine SpecO.ok ?_
  refine Spec.ite ?_ ?_
  · refine Spec.step (State.ttTake_spec _ _ _ _ _) rfl ?_
    exact Spec.refl
  · split
    · exact Spec.refl
    · refine Spec.step (State.ttTake_spec _ _ _ _ _) rfl ?_
      refine Spec.step (State.modRx_spec _ _ _) rfl ?_
      exact Spec.refl

theorem execCdHoldExpire_spec : ∀ a0, SpecO 0xf04c1e00000000000000000000000022000000000000000a0004012400000000000000 a0 (execCdHoldExpire a0) := by
  intro a0
  delta execCdHoldExpire
  refine SpecO.ok ?_
  refine Spec.ite ?_ ?_
  · refine Spec.step (State.refFail_spec _ _ _) rfl ?_
    exact Spec.refl
  · exact Spec.refl

theorem execTtDiscardEnd_spec : ∀ a0, SpecO 0x40000000000000000000000000000000000000000000000000000000000000000000 a0 (execTtDiscardEnd a0) := by
  intro a0
  delta execTtDiscardEnd
  refine SpecO.ok ?_
  exact (Spec.set_tim rfl Spec.refl)

theorem execTimeSample_spec : ∀ a0 a1, SpecO 0xf04c1e00000000000000000000000022000000000000000a0004012400000000000000 a1 (execTimeSample a0 a1) := by
  intro a0 a1
  delta execTimeSample
  refine SpecO.ok ?_
  extract_lets -underBinder -merge -useContext +onlyGivenNames x0
  have h1 : Spec 0xf04c1e00000000000000000000000022000000000000000a0004012400000000000000 a1 x0 := by
    refine Spec.step (State.settle_spec _ _ _) rfl ?_
    exact Spec.refl
  clear_value x0
  split
  · exact h1
  · refine Spec.step (State.timeSample_spec _ _) rfl ?_
    refine Spec.step (State.popDesc_spec _ _) rfl ?_
    exact h1

end Sys2Proof.Machine
end

