-- ==== Sys2Proof/Laws/Frames22.lean ====
section
/-! SUPPORT. What each operation and each command of the files Machine/TxSfm, PairTime, Perf, PlaceIn, Pm can do: one lemma each,
`<name>_spec`, whose first argument is the footprint (Laws/Spec.lean). -/
namespace Sys2Proof.Machine

theorem State.offNominal_spec : ∀ a0 a1, Spec 0x10100000000000000000000000000000000000000000000000000000200000000000 a0 (State.offNominal a0 a1) := by
  intro a0 a1
  delta State.offNominal
  refine Spec.ite ?_ ?_
  · extract_lets -underBinder -merge -useContext +onlyGivenNames x0
    have h1 : Spec 0x10100000000000000000000000000000000000000000000000000000200000000000 a0 x0 := by
      refine Spec.step (State.modSk_spec _ _ _) rfl ?_
      refine Spec.step (State.withdraw_spec _ _) rfl ?_
      exact Spec.refl
    clear_value x0
    refine Spec.ite ?_ ?_
    · refine Spec.step (State.setSw_spec _ _ _) rfl ?_
      exact h1
    · exact h1
  · exact Spec.refl

theorem State.pilotStep_spec : ∀ a0 a1, Spec 0x2020100000000000000000000000000000000000000000000000000000000000000000 a0 (State.pilotStep a0 a1) := by
  intro a0 a1
  delta State.pilotStep
  extract_lets -underBinder -merge -useContext +onlyGivenNames x0
  clear_value x0
  refine Spec.ite ?_ ?_
  · exact Spec.refl
  · extract_lets -underBinder -merge -useContext +onlyGivenNames x1
    clear_value x1
    refine Spec.step (State.mirror_spec _ _ _ _) rfl ?_
    refine Spec.step (State.addShadow_spec _ _ _ _ _) rfl ?_
    exact Spec.refl

theorem State.markerStep_spec : ∀ a0 a1 a2, Spec 0xb01cdc00000000000000000000000022000000000000000a000000000120a800200001 a0 (State.markerStep a0 a1 a2) := by
  intro a0 a1 a2
  delta State.markerStep
  extract_lets -underBinder -merge -useContext +onlyGivenNames x0
  clear_value x0
  split
  · refine Spec.ite ?_ ?_
    · extract_lets -underBinder -merge -useContext +onlyGivenNames x1
      clear_value x1
      refine Spec.step (State.markerMeet_spec _ _ _) rfl ?_
      refine Spec.step (State.modTx_spec _ _ _) rfl ?_
      exact Spec.refl
    · refine Spec.step (State.modTx_spec _ _ _) rfl ?_
      exact Spec.refl
  · refine Spec.step (State.modTx_spec _ _ _) rfl ?_
    exact Spec.refl

theorem State.nominalReturn_spec : ∀ a0 a1, Spec 0x2010d0000000000000000000000000000000000000000000000000000120a000000001 a0 (State.nominalReturn a0 a1) := by
  intro a0 a1
  delta State.nominalReturn
  extract_lets -underBinder -merge -useContext +onlyGivenNames x0
  clear_value x0
  extract_lets -underBinder -merge -useContext +onlyGivenNames x1
  clear_value x1
  extract_lets -underBinder -merge -useContext +onlyGivenNames x2
  clear_value x2
  split
  rename_i y3 y4 h5q
  have h5 : SpecP 0x2010d0000000000000000000000000000000000000000000000000000120a000000001 a0 (y3, y4) := by
    rw [← h5q]
    refine SpecP.step (State.nextGen_spec _ _) rfl ?_
    exact Spec.refl
  clear h5q
  extract_lets -underBinder -merge -useContext +onlyGivenNames x6
  clear_value x6
  extract_lets -underBinder -merge -useContext +onlyGivenNames x7
  have h8 : Spec 0x2010d0000000000000000000000000000000000000000000000000000120a000000001 a0 x7 := by
    refine Spec.step (State.modTx_spec _ _ _) rfl ?_
    exact h5
  clear_value x7
  extract_lets -underBinder -merge -useContext +onlyGivenNames x9
  have h10 : Spec 0x2010d0000000000000000000000000000000000000000000000000000120a000000001 a0 x9 := by
    refine Spec.step (State.modSk_spec _ _ _) rfl ?_
    exact h8
  clear_value x9
  extract_lets -underBinder -merge -useContext +onlyGivenNames x11
  have h12 : Spec 0x2010d0000000000000000000000000000000000000000000000000000120a000000001 a0 x11 := by
    refine Spec.step (State.txMapShow_spec _ _) rfl ?_
    refine Spec.step (State.setSw_spec _ _ _) rfl ?_
    refine Spec.step (State.recutShares_spec _ _) rfl ?_
    exact h10
  clear_value x11
  refine Spec.step (State.placeShowAll_spec _) rfl ?_
  refine Spec.fold _ ?_ ?_
  · intro t13 i14
    try dsimp -zeta only
    refine Spec.step (State.placeShow_spec _ _ _ _) rfl ?_
    refine Spec.step (State.modTrib_spec _ _ _) rfl ?_
    exact Spec.refl
  · exact h12

theorem State.levelStep_spec : ∀ a0 a1, Spec 0xb01cdc00000000000000000000000022000000000000000a000000000120a000300001 a0 (State.levelStep a0 a1) := by
  intro a0 a1
  delta State.levelStep
  extract_lets -underBinder -merge -useContext +onlyGivenNames x0
  clear_value x0
  extract_lets -underBinder -merge -useContext +onlyGivenNames x1
  clear_value x1
  extract_lets -underBinder -merge -useContext +onlyGivenNames x2
  have h3 : Spec 0xb01cdc00000000000000000000000022000000000000000a000000000120a000300001 a0 x2 := by
    refine Spec.step (State.modTx_spec _ _ _) rfl ?_
    exact Spec.refl
  clear_value x2
  extract_lets -underBinder -merge -useContext +onlyGivenNames x4
  have h5 : Spec 0xb01cdc00000000000000000000000022000000000000000a000000000120a000300001 a0 x4 := by
    refine Spec.ite ?_ ?_
    · exact h3
    · refine Spec.step (State.setLevel_spec _ _ _) rfl ?_
      exact h3
  clear_value x4
  refine Spec.ite ?_ ?_
  · refine Spec.ite ?_ ?_
    · refine Spec.step (State.nominalReturn_spec _ _) rfl ?_
      exact h5
    · refine Spec.step (State.offNominal_spec _ _) rfl ?_
      exact h5
  · exact h5

theorem State.scStep_spec : ∀ a0 a1, Spec 0x2000000000000000000000000000000000000000000000000000000000000000000 a0 (State.scStep a0 a1) := by
  intro a0 a1
  delta State.scStep
  refine Spec.fold _ ?_ ?_
  · intro t0 i1
    try dsimp -zeta only
    refine Spec.step (State.modLock_spec _ _ _) rfl ?_
    exact Spec.refl
  · exact Spec.refl

theorem State.messageStep_spec : ∀ a0 a1, Spec 0xb80e1c00000000000000000000000022000000000000000a0080000000000000000000 a0 (State.messageStep a0 a1) := by
  intro a0 a1
  delta State.messageStep
  extract_lets -underBinder -merge -useContext +onlyGivenNames x0
  have h1 : Spec 0xb80e1c00000000000000000000000022000000000000000a0080000000000000000000 a0 x0 := by
    refine Spec.step (State.haltEnd_spec _) rfl ?_
    exact Spec.refl
  clear_value x0
  extract_lets -underBinder -merge -useContext +onlyGivenNames x2
  clear_value x2
  extract_lets -underBinder -merge -useContext +onlyGivenNames x3
  clear_value x3
  extract_lets -underBinder -merge -useContext +onlyGivenNames x4
  clear_value x4
  extract_lets -underBinder -merge -useContext +onlyGivenNames x5
  have h6 : Spec 0xb80e1c00000000000000000000000022000000000000000a0080000000000000000000 a0 x5 := by
    refine Spec.step (State.modTx_spec _ _ _) rfl ?_
    exact h1
  clear_value x5
  extract_lets -underBinder -merge -useContext +onlyGivenNames x7
  have h8 : Spec 0xb80e1c00000000000000000000000022000000000000000a0080000000000000000000 a0 x7 := by
    refine Spec.ite ?_ ?_
    · exact h6
    · refine Spec.step (State.count_spec _ _ _) rfl ?_
      exact h6
  clear_value x7
  refine Spec.step (State.scStep_spec _ _) rfl ?_
  exact h8

theorem State.ttStep_spec : ∀ a0 a1 a2, Spec 0x4000100000000000000000000000000000000000000000000000000000000000000000 a0 (State.ttStep a0 a1 a2) := by
  intro a0 a1 a2
  delta State.ttStep
  refine Spec.ite ?_ ?_
  · extract_lets -underBinder -merge -useContext +onlyGivenNames x0
    clear_value x0
    extract_lets -underBinder -merge -useContext +onlyGivenNames x1
    have h2 : Spec 0x4000100000000000000000000000000000000000000000000000000000000000000000 a0 x1 := by
      refine Spec.step (State.modTx_spec _ _ _) rfl ?_
      exact Spec.refl
    clear_value x1
    exact (Spec.set_free rfl h2)
  · refine Spec.step (State.modTx_spec _ _ _) rfl ?_
    exact Spec.refl

theorem State.ohbSend_spec : ∀ a0 a1 a2, Spec 0x4100000000000000000000000000000000000000000000000000000000000000000 a0 (State.ohbSend a0 a1 a2) := by
  intro a0 a1 a2
  delta State.ohbSend
  split
  · refine Spec.step (State.modTx_spec _ _ _) rfl ?_
    exact Spec.refl
  · refine Spec.ite ?_ ?_
    · refine Spec.step (State.modTx_spec _ _ _) rfl ?_
      exact Spec.refl
    · extract_lets -underBinder -merge -useContext +onlyGivenNames x0
      have h1 : Spec 0x4100000000000000000000000000000000000000000000000000000000000000000 a0 x0 := by
        refine Spec.step (State.modTx_spec _ _ _) rfl ?_
        exact Spec.refl
      clear_value x0
      refine Spec.step (State.complete_spec _ _) rfl ?_
      exact h1

theorem State.gccStep_spec : ∀ a0 a1, Spec 0x4100000000000000000000000000000000000000000000000000000000000000000 a0 (State.gccStep a0 a1) := by
  intro a0 a1
  delta State.gccStep
  refine Spec.ite ?_ ?_
  · refine Spec.step (State.ohbSend_spec _ _ _) rfl ?_
    exact Spec.refl
  · refine Spec.ite ?_ ?_
    · extract_lets -underBinder -merge -useContext +onlyGivenNames x0
      clear_value x0
      refine Spec.step (State.modTx_spec _ _ _) rfl ?_
      exact Spec.refl
    · refine Spec.step (State.modTx_spec _ _ _) rfl ?_
      exact Spec.refl

theorem State.sfmVosko_spec : ∀ a0 a1 a2, Spec 0xf81edc00000000000000000000000022000000000000000a008000000120a800300001 a0 (State.sfmVosko a0 a1 a2) := by
  intro a0 a1 a2
  delta State.sfmVosko
  extract_lets -underBinder -merge -useContext +onlyGivenNames x0
  have h1 : Spec 0xf81edc00000000000000000000000022000000000000000a008000000120a800300001 a0 x0 := by
    refine Spec.step (State.markerStep_spec _ _ _) rfl ?_
    refine Spec.step (State.levelStep_spec _ _) rfl ?_
    exact Spec.refl
  clear_value x0
  extract_lets -underBinder -merge -useContext +onlyGivenNames x2
  have h3 : Spec 0xf81edc00000000000000000000000022000000000000000a008000000120a800300001 a0 x2 := by
    refine Spec.step (State.messageStep_spec _ _) rfl ?_
    exact h1
  clear_value x2
  extract_lets -underBinder -merge -useContext +onlyGivenNames x4
  have h5 : Spec 0xf81edc00000000000000000000000022000000000000000a008000000120a800300001 a0 x4 := by
    refine Spec.step (State.ttStep_spec _ _ _) rfl ?_
    refine Spec.step (State.gccStep_spec _ _) rfl ?_
    exact h3
  clear_value x4
  refine Spec.step (State.modTx_spec _ _ _) rfl ?_
  exact h5

theorem State.txStamp_spec : ∀ a0 a1 a2 a3, Spec 0x60000000000000000000000000000000000000000000000000000000000000000000 a0 (State.txStamp a0 a1 a2 a3) := by
  intro a0 a1 a2 a3
  delta State.txStamp
  extract_lets -underBinder -merge -useContext +onlyGivenNames x0
  clear_value x0
  extract_lets -underBinder -merge -useContext +onlyGivenNames x1
  clear_value x1
  extract_lets -underBinder -merge -useContext +onlyGivenNames x2
  clear_value x2
  extract_lets -underBinder -merge -useContext +onlyGivenNames x3
  have h4 : Spec 0x60000000000000000000000000000000000000000000000000000000000000000000 a0 x3 := by
    exact (Spec.set_tim rfl Spec.refl)
  clear_value x3
  exact (Spec.set_pair rfl h4)

theorem State.txSuperframe_spec : ∀ a0 a1 a2, Spec 0xf97efe00000000000000000000008422000000050000000a009481249570aa80781ba3 a0 (State.txSuperframe a0 a1 a2) := by
  intro a0 a1 a2
  delta State.txSuperframe
  extract_lets -underBinder -merge -useContext +onlyGivenNames x0
  have h1 : Spec 0xf97efe00000000000000000000008422000000050000000a009481249570aa80781ba3 a0 x0 := by
    refine Spec.step (State.atTod_spec _ _) rfl ?_
    exact Spec.refl
  clear_value x0
  extract_lets -underBinder -merge -useContext +onlyGivenNames x2
  clear_value x2
  extract_lets -underBinder -merge -useContext +onlyGivenNames x3
  have h4 : Spec 0xf97efe00000000000000000000008422000000050000000a009481249570aa80781ba3 a0 x3 := by
    refine Spec.step (State.modTx_spec _ _ _) rfl ?_
    exact h1
  clear_value x3
  extract_lets -underBinder -merge -useContext +onlyGivenNames x5
  have h6 : Spec 0xf97efe00000000000000000000008422000000050000000a009481249570aa80781ba3 a0 x5 := by
    refine Spec.step (State.applyShadows_spec _ _ _) rfl ?_
    refine Spec.step (State.pilotStep_spec _ _) rfl ?_
    refine Spec.step (State.commitAtSfm_spec _ _) rfl ?_
    exact h4
  clear_value x5
  refine Spec.ite ?_ ?_
  · exact h6
  · extract_lets -underBinder -merge -useContext +onlyGivenNames x7
    have h8 : Spec 0xf97efe00000000000000000000008422000000050000000a009481249570aa80781ba3 a0 x7 := by
      refine Spec.ite ?_ ?_
      · refine Spec.step (State.sfmVosko_spec _ _ _) rfl ?_
        refine Spec.step (State.ttBlind_spec _ _) rfl ?_
        exact h6
      · refine Spec.step (State.gccStep_spec _ _) rfl ?_
        refine Spec.step (State.modTx_spec _ _ _) rfl ?_
        refine Spec.step (State.scStep_spec _ _) rfl ?_
        refine Spec.step (State.haltEnd_spec _) rfl ?_
        exact h6
    clear_value x7
    refine Spec.step (State.txStamp_spec _ _ _ _) rfl ?_
    exact h8

theorem execTxSfm_spec : ∀ a0 a1 a2, SpecO 0xf97efe00000000000000000000008422000000050000000a009481249570aa80781ba3 a2 (execTxSfm a0 a1 a2) := by
  intro a0 a1 a2
  delta execTxSfm
  refine SpecO.ok ?_
  refine Spec.ite ?_ ?_
  · exact Spec.refl
  · refine Spec.step (State.txSuperframe_spec _ _ _) rfl ?_
    exact Spec.refl

theorem State.sfmSkew_spec : ∀ a0 a1 a2 a3, Spec 0xf00c1e00000000000000000000000022000000000000000a0004000040000000000000 a0 (State.sfmSkew a0 a1 a2 a3) := by
  intro a0 a1 a2 a3
  delta State.sfmSkew
  split
  · exact Spec.refl
  · extract_lets -underBinder -merge -useContext +onlyGivenNames x0
    clear_value x0
    extract_lets -underBinder -merge -useContext +onlyGivenNames x1
    clear_value x1
    refine Spec.step (State.clampRefresh_spec _) rfl ?_
    refine Spec.step (State.tick_spec _) rfl ?_
    refine Spec.step (State.modTx_spec _ _ _) rfl ?_
    refine Spec.step (State.wrInt_spec _ _ _ _) rfl ?_
    exact Spec.refl

theorem State.followTod_spec : ∀ a0 a1, Spec 0xb06c0c00000000000000000000000022000000000000000a0004000000000000000000 a0 (State.followTod a0 a1) := by
  intro a0 a1
  delta State.followTod
  extract_lets -underBinder -merge -useContext +onlyGivenNames x0
  clear_value x0
  extract_lets -underBinder -merge -useContext +onlyGivenNames x1
  have h2 : Spec 0xb06c0c00000000000000000000000022000000000000000a0004000000000000000000 a0 x1 := by
    refine Spec.step (State.atTod_spec _ _) rfl ?_
    exact Spec.refl
  clear_value x1
  extract_lets -underBinder -merge -useContext +onlyGivenNames x3
  clear_value x3
  extract_lets -underBinder -merge -useContext +onlyGivenNames x4
  have h5 : Spec 0xb06c0c00000000000000000000000022000000000000000a0004000000000000000000 a0 x4 := by
    refine Spec.ite ?_ ?_
    · refine Spec.step (State.stepTod_spec _ _) rfl ?_
      exact Spec.refl
    · exact (Spec.set_tim rfl h2)
  clear_value x4
  extract_lets -underBinder -merge -useContext +onlyGivenNames x6
  clear_value x6
  refine Spec.step (State.modPair_spec _ _) rfl ?_
  exact h5

theorem State.setPsc_spec : ∀ a0 a1 a2 a3, Spec 0x20100000000000000000000000000000000000000000000000000000000000000000 a0 (State.setPsc a0 a1 a2 a3) := by
  intro a0 a1 a2 a3
  delta State.setPsc
  refine Spec.ite ?_ ?_
  · exact Spec.refl
  · extract_lets -underBinder -merge -useContext +onlyGivenNames x0
    clear_value x0
    extract_lets -underBinder -merge -useContext +onlyGivenNames x1
    clear_value x1
    refine Spec.step (State.modPair_spec _ _) rfl ?_
    refine Spec.step (State.modTx_spec _ _ _) rfl ?_
    exact Spec.refl

theorem State.timeTake_spec : ∀ a0 a1 a2, Spec 0xf06c1e00000000000000000000000022000000000000000a0004002044000000000000 a0 (State.timeTake a0 a1 a2) := by
  intro a0 a1 a2
  delta State.timeTake
  extract_lets -underBinder -merge -useContext +onlyGivenNames x0
  clear_value x0
  extract_lets -underBinder -merge -useContext +onlyGivenNames x1
  have h2 : Spec 0xf06c1e00000000000000000000000022000000000000000a0004002044000000000000 a0 x1 := by
    refine Spec.step (State.atTod_spec _ _) rfl ?_
    exact Spec.refl
  clear_value x1
  extract_lets -underBinder -merge -useContext +onlyGivenNames x3
  clear_value x3
  extract_lets -underBinder -merge -useContext +onlyGivenNames x4
  have h5 : Spec 0xf06c1e00000000000000000000000022000000000000000a0004002044000000000000 a0 x4 := by
    refine Spec.step (State.modPair_spec _ _) rfl ?_
    exact h2
  clear_value x4
  refine Spec.ite ?_ ?_
  · exact h5
  · extract_lets -underBinder -merge -useContext +onlyGivenNames x6
    have h7 : Spec 0xf06c1e00000000000000000000000022000000000000000a0004002044000000000000 a0 x6 := by
      unfold x6
      split
      · refine Spec.step (State.followTod_spec _ _) rfl ?_
        exact h5
      · exact h5
    clear_value x6
    extract_lets -underBinder -merge -useContext +onlyGivenNames x8
    clear_value x8
    extract_lets -underBinder -merge -useContext +onlyGivenNames x9
    have h10 : Spec 0xf06c1e00000000000000000000000022000000000000000a0004002044000000000000 a0 x9 := by
      refine Spec.ite ?_ ?_
      · exact h7
      · refine Spec.step (State.setTrace_spec _ _) rfl ?_
        exact h7
    clear_value x9
    extract_lets -underBinder -merge -useContext +onlyGivenNames x11
    clear_value x11
    extract_lets -underBinder -merge -useContext +onlyGivenNames x12
    clear_value x12
    extract_lets -underBinder -merge -useContext +onlyGivenNames x13
    clear_value x13
    refine Spec.ite ?_ ?_
    · exact h10
    · refine Spec.step (State.readyRefresh_spec _) rfl ?_
      refine Spec.step (State.sfmSkew_spec _ _ _ _) rfl ?_
      refine Spec.step (State.setPsc_spec _ _ _ _) rfl ?_
      exact h10

theorem execTimeCellRx_spec : ∀ a0 a1 a2, SpecO 0xf06c1e00000000000000000000000022000000000000000a0004002044000000000000 a2 (execTimeCellRx a0 a1 a2) := by
  intro a0 a1 a2
  delta execTimeCellRx
  refine SpecO.ok ?_
  refine Spec.ite ?_ ?_
  · refine Spec.step (State.timeTake_spec _ _ _) rfl ?_
    exact Spec.refl
  · exact Spec.refl

theorem State.timeCell_spec : ∀ a0 a1, Spec 0x2060000000000000000000000000000000000000000000000000000000000000000000 a0 (State.timeCell a0 a1) := by
  intro a0 a1
  delta State.timeCell
  extract_lets -underBinder -merge -useContext +onlyGivenNames x0
  clear_value x0
  extract_lets -underBinder -merge -useContext +onlyGivenNames x1
  have h2 : Spec 0x2060000000000000000000000000000000000000000000000000000000000000000000 a0 x1 := by
    refine Spec.step (State.atTod_spec _ _) rfl ?_
    exact Spec.refl
  clear_value x1
  extract_lets -underBinder -merge -useContext +onlyGivenNames x3
  clear_value x3
  extract_lets -underBinder -merge -useContext +onlyGivenNames x4
  clear_value x4
  extract_lets -underBinder -merge -useContext +onlyGivenNames x5
  clear_value x5
  extract_lets -underBinder -merge -useContext +onlyGivenNames x6
  clear_value x6
  extract_lets -underBinder -merge -useContext +onlyGivenNames x7
  clear_value x7
  refine Spec.step (State.modPair_spec _ _) rfl ?_
  refine Spec.step (State.sendCell_spec _ _ _) rfl ?_
  exact h2

theorem execTimeCellTick_spec : ∀ a0 a1, SpecO 0x2060000000000000000000000000000000000000000000000000000000000000000000 a1 (execTimeCellTick a0 a1) := by
  intro a0 a1
  delta execTimeCellTick
  refine SpecO.ok ?_
  refine Spec.ite ?_ ?_
  · refine Spec.step (State.timeCell_spec _ _) rfl ?_
    exact Spec.refl
  · exact Spec.refl

theorem State.laserMatch_spec : ∀ a0 a1, Spec 0x2020000000000000000000000000000000000000000000000000000020000000000000 a0 (State.laserMatch a0 a1) := by
  intro a0 a1
  delta State.laserMatch
  split
  · refine Spec.step (State.modPair_spec _ _) rfl ?_
    exact Spec.refl
  · extract_lets -underBinder -merge -useContext +onlyGivenNames x0
    clear_value x0
    extract_lets -underBinder -merge -useContext +onlyGivenNames x1
    clear_value x1
    extract_lets -underBinder -merge -useContext +onlyGivenNames x2
    have h3 : Spec 0x2020000000000000000000000000000000000000000000000000000020000000000000 a0 x2 := by
      refine Spec.step (State.wr_spec _ _ _ _) rfl ?_
      exact Spec.refl
    clear_value x2
    extract_lets -underBinder -merge -useContext +onlyGivenNames x4
    have h5 : Spec 0x2020000000000000000000000000000000000000000000000000000020000000000000 a0 x4 := by
      refine Spec.step (State.modPair_spec _ _) rfl ?_
      exact h3
    clear_value x4
    refine Spec.ite ?_ ?_
    · refine Spec.step (State.emit_spec _ _) rfl ?_
      refine Spec.step (State.modPair_spec _ _) rfl ?_
      exact h5
    · exact h5

theorem execLaserMatchTick_spec : ∀ a0, SpecO 0x2020000000000000000000000000000000000000000000000000000024000000000000 a0 (execLaserMatchTick a0) := by
  intro a0
  delta execLaserMatchTick
  refine SpecO.ok ?_
  refine Spec.ite ?_ ?_
  · refine Spec.step (State.readyRefresh_spec _) rfl ?_
    refine Spec.fold _ ?_ ?_
    · intro t0 i1
      try dsimp -zeta only
      refine Spec.step (State.laserMatch_spec _ _) rfl ?_
      exact Spec.refl
    · exact Spec.refl
  · exact Spec.refl

theorem execHkRecordFlush_spec : ∀ a0, SpecO 0xb00c0c00000000000000000000000022000000000000000a0000000000000000000000 a0 (execHkRecordFlush a0) := by
  intro a0
  delta execHkRecordFlush
  refine SpecO.ok ?_
  refine Spec.step (State.writeHkRecord_spec _) rfl ?_
  exact Spec.refl

theorem execCounterLatch_spec : ∀ a0 a1, SpecO 0xffffff0000000000000000000001ffffffffffffffffffffffffffffffffffffffffff a1 (execCounterLatch a0 a1) := by
  intro a0 a1
  delta execCounterLatch
  refine SpecO.ok ?_
  refine Spec.step (State.regTake_PERF_CNT_SEL_spec _ _ _ _) rfl ?_
  exact Spec.refl

theorem execSnapNow_spec : ∀ a0 a1, SpecO 0xffffff0000000000000000000001ffffffffffffffffffffffffffffffffffffffffff a1 (execSnapNow a0 a1) := by
  intro a0 a1
  delta execSnapNow
  refine SpecO.ok ?_
  refine Spec.step (State.fieldWrite_PERF_INV_CTRL_snap_now_spec _ _ _ _) rfl ?_
  refine Spec.step (State.atTod_spec _ _) rfl ?_
  exact Spec.refl

theorem execSnapPeriod_spec : ∀ a0 a1, SpecO 0x9000000000000000000000000000000000000000000000000000000000000000000000 a1 (execSnapPeriod a0 a1) := by
  intro a0 a1
  delta execSnapPeriod
  refine SpecO.ok ?_
  refine Spec.ite ?_ ?_
  · exact Spec.refl
  · refine Spec.step (State.startWalk_spec _ _ _) rfl ?_
    exact Spec.refl

theorem execWalkEnd_spec : ∀ a0 a1, SpecO 0xf00c0c00000000000000000000000022000000000000000a0000000000000000000000 a1 (execWalkEnd a0 a1) := by
  intro a0 a1
  delta execWalkEnd
  refine SpecO.ok ?_
  split
  · exact Spec.refl
  · extract_lets -underBinder -merge -useContext +onlyGivenNames x0
    clear_value x0
    extract_lets -underBinder -merge -useContext +onlyGivenNames x1
    clear_value x1
    extract_lets -underBinder -merge -useContext +onlyGivenNames x2
    have h3 : Spec 0xf00c0c00000000000000000000000022000000000000000a0000000000000000000000 a1 x2 := by
      refine Spec.step (State.writeSnap_spec _ _) rfl ?_
      exact (Spec.set_perf rfl Spec.refl)
    clear_value x2
    extract_lets -underBinder -merge -useContext +onlyGivenNames x4
    have h5 : Spec 0xf00c0c00000000000000000000000022000000000000000a0000000000000000000000 a1 x4 := by
      exact (Spec.set_wlog rfl h3)
    clear_value x4
    split
    · exact h5
    · refine Spec.step (State.startWalk_spec _ _ _) rfl ?_
      exact h5

theorem State.placeBlockIn_spec : ∀ a0 a1 a2 a3, Spec 0xf13cfe00000000000000000000008422000000050000000a001000009570aa80781ba3 a0 (State.placeBlockIn a0 a1 a2 a3) := by
  intro a0 a1 a2 a3
  delta State.placeBlockIn
  refine Spec.ite ?_ ?_
  · exact Spec.refl
  · refine Spec.ite ?_ ?_
    · refine Spec.step (State.count_spec _ _ _) rfl ?_
      refine Spec.step (State.modSk_spec _ _ _) rfl ?_
      exact Spec.refl
    · extract_lets -underBinder -merge -useContext +onlyGivenNames x0
      have h1 : Spec 0xf13cfe00000000000000000000008422000000050000000a001000009570aa80781ba3 a0 x0 := by
        refine Spec.step (State.manTake_spec _ _ _) rfl ?_
        refine Spec.step (State.mirror_spec _ _ _ _) rfl ?_
        exact Spec.refl
      clear_value x0
      refine Spec.ite ?_ ?_
      · exact h1
      · refine Spec.step (State.commitIdle_spec _) rfl ?_
        refine Spec.step (State.blockSwitch_spec _ _) rfl ?_
        refine Spec.step (State.blockInput_spec _ _ _) rfl ?_
        exact h1

theorem execPlaceBlockRx_spec : ∀ a0 a1 a2 a3, SpecO 0xf13cfe00000000000000000000008422000000050000000a001000009570aa80781ba3 a3 (execPlaceBlockRx a0 a1 a2 a3) := by
  intro a0 a1 a2 a3
  delta execPlaceBlockRx
  refine SpecO.ok ?_
  refine Spec.ite ?_ ?_
  · refine Spec.step (State.placeBlockIn_spec _ _ _ _) rfl ?_
    exact Spec.refl
  · split
    · exact Spec.refl
    · refine Spec.step (State.placeBlockIn_spec _ _ _ _) rfl ?_
      refine Spec.step (State.modRx_spec _ _ _) rfl ?_
      exact Spec.refl

theorem execMapStageReport_spec : ∀ a0 a1 a2 a3, SpecO 0xf13cfe00000000000000000000008422000000050000000a001000009570aa80781ba3 a3 (execMapStageReport a0 a1 a2 a3) := by
  intro a0 a1 a2 a3
  delta execMapStageReport
  refine SpecO.ok ?_
  refine Spec.ite ?_ ?_
  · exact Spec.refl
  · extract_lets -underBinder -merge -useContext +onlyGivenNames x0
    clear_value x0
    refine Spec.step (State.commitIdle_spec _) rfl ?_
    refine Spec.step (State.stageReport_spec _ _ _ _) rfl ?_
    refine Spec.step (State.mirror_spec _ _ _ _) rfl ?_
    exact Spec.refl

theorem State.pmLatch_spec : ∀ a0 a1 a2, Spec 0x10000000000000000000000000000000000000000000000000000000001f800000 a0 (State.pmLatch a0 a1 a2) := by
  intro a0 a1 a2
  delta State.pmLatch
  extract_lets -underBinder -merge -useContext +onlyGivenNames x0
  clear_value x0
  extract_lets -underBinder -merge -useContext +onlyGivenNames x1
  clear_value x1
  extract_lets -underBinder -merge -useContext +onlyGivenNames x2
  clear_value x2
  extract_lets -underBinder -merge -useContext +onlyGivenNames x3
  clear_value x3
  extract_lets -underBinder -merge -useContext +onlyGivenNames x4
  clear_value x4
  extract_lets -underBinder -merge -useContext +onlyGivenNames x5
  clear_value x5
  extract_lets -underBinder -merge -useContext +onlyGivenNames x6
  clear_value x6
  extract_lets -underBinder -merge -useContext +onlyGivenNames x7
  clear_value x7
  extract_lets -underBinder -merge -useContext +onlyGivenNames x8
  clear_value x8
  extract_lets -underBinder -merge -useContext +onlyGivenNames x9
  clear_value x9
  extract_lets -underBinder -merge -useContext +onlyGivenNames x10
  clear_value x10
  extract_lets -underBinder -merge -useContext +onlyGivenNames x11
  clear_value x11
  extract_lets -underBinder -merge -useContext +onlyGivenNames x12
  have h13 : Spec 0x10000000000000000000000000000000000000000000000000000000001f800000 a0 x12 := by
    refine Spec.wrs_cons ?_
    refine Spec.wrs_cons ?_
    refine Spec.wrs_cons ?_
    refine Spec.wrs_cons ?_
    refine Spec.wrs_cons ?_
    refine Spec.wrs_cons ?_
    refine Spec.wrs_cons ?_
    refine Spec.wrs_cons ?_
    refine Spec.wrs_cons ?_
    refine Spec.wrs_cons ?_
    refine Spec.wrs_cons ?_
    refine Spec.wrs_cons ?_
    refine Spec.wrs_cons ?_
    refine Spec.wrs_cons ?_
    refine Spec.wrs_cons ?_
    refine Spec.wrs_nil ?_
    refine Spec.step (State.wr_spec _ _ _ _) rfl ?_
    refine Spec.step (State.wr_spec _ _ _ _) rfl ?_
    refine Spec.step (State.wr_spec _ _ _ _) rfl ?_
    refine Spec.step (State.wr_spec _ _ _ _) rfl ?_
    refine Spec.step (State.wr_spec _ _ _ _) rfl ?_
    refine Spec.step (State.wr_spec _ _ _ _) rfl ?_
    refine Spec.step (State.wr_spec _ _ _ _) rfl ?_
    refine Spec.step (State.wr_spec _ _ _ _) rfl ?_
    refine Spec.step (State.wr_spec _ _ _ _) rfl ?_
    refine Spec.step (State.wr_spec _ _ _ _) rfl ?_
    refine Spec.step (State.wr_spec _ _ _ _) rfl ?_
    refine Spec.step (State.wr_spec _ _ _ _) rfl ?_
    refine Spec.step (State.wr_spec _ _ _ _) rfl ?_
    refine Spec.step (State.wr_spec _ _ _ _) rfl ?_
    refine Spec.step (State.wr_spec _ _ _ _) rfl ?_
    exact Spec.refl
  clear_value x12
  refine Spec.step (State.modPm_spec _ _ _) rfl ?_
  exact h13

theorem State.pmEnd_spec : ∀ a0 a1, Spec 0xb04c1c00000000000000000000000022000000000000000a000000000000001f800000 a0 (State.pmEnd a0 a1) := by
  intro a0 a1
  delta State.pmEnd
  extract_lets -underBinder -merge -useContext +onlyGivenNames x0
  clear_value x0
  extract_lets -underBinder -merge -useContext +onlyGivenNames x1
  have h4 : Spec 0xb04c1c00000000000000000000000022000000000000000a000000000000001f800000 a0 x1 := by
    refine Spec.fold _ ?_ ?_
    · intro t2 i3
      try dsimp -zeta only
      refine Spec.ite ?_ ?_
      · refine Spec.step (State.pmLatch_spec _ _ _) rfl ?_
        exact Spec.refl
      · exact Spec.refl
    · exact Spec.refl
  clear_value x1
  extract_lets -underBinder -merge -useContext +onlyGivenNames x5
  clear_value x5
  extract_lets -underBinder -merge -useContext +onlyGivenNames x6
  have h7 : Spec 0xb04c1c00000000000000000000000022000000000000000a000000000000001f800000 a0 x6 := by
    exact (Spec.set_tim rfl h4)
  clear_value x6
  extract_lets -underBinder -merge -useContext +onlyGivenNames x8
  have h9 : Spec 0xb04c1c00000000000000000000000022000000000000000a000000000000001f800000 a0 x8 := by
    refine Spec.step (State.summaries_spec _) rfl ?_
    exact h7
  clear_value x8
  refine Spec.ite ?_ ?_
  · refine Spec.step (State.startWalk_spec _ _ _) rfl ?_
    exact h9
  · exact h9

theorem execPmSyncEdge_spec : ∀ a0 a1, SpecO 0xb04c1c00000000000000000000000022000000000000000a000000000000007f800000 a1 (execPmSyncEdge a0 a1) := by
  intro a0 a1
  delta execPmSyncEdge
  refine SpecO.ok ?_
  extract_lets -underBinder -merge -useContext +onlyGivenNames x0
  have h1 : Spec 0xb04c1c00000000000000000000000022000000000000000a000000000000007f800000 a1 x0 := by
    refine Spec.step (State.atTod_spec _ _) rfl ?_
    exact Spec.refl
  clear_value x0
  refine Spec.ite ?_ ?_
  · exact h1
  · refine Spec.ite ?_ ?_
    · refine Spec.step (State.wr_spec _ _ _ _) rfl ?_
      exact h1
    · extract_lets -underBinder -merge -useContext +onlyGivenNames x2
      clear_value x2
      extract_lets -underBinder -merge -useContext +onlyGivenNames x3
      clear_value x3
      extract_lets -underBinder -merge -useContext +onlyGivenNames x4
      have h5 : Spec 0xb04c1c00000000000000000000000022000000000000000a000000000000007f800000 a1 x4 := by
        exact (Spec.set_tim rfl h1)
      clear_value x4
      refine Spec.ite ?_ ?_
      · refine Spec.step (State.raisePerf_spec _ _ _) rfl ?_
        refine Spec.step (State.setEv_spec _ _ _ _) rfl ?_
        exact h5
      · extract_lets -underBinder -merge -useContext +onlyGivenNames x6
        have h7 : Spec 0xb04c1c00000000000000000000000022000000000000000a000000000000007f800000 a1 x6 := by
          refine Spec.step (State.wrInt_spec _ _ _ _) rfl ?_
          exact h5
        clear_value x6
        refine Spec.ite ?_ ?_
        · refine Spec.step (State.pmEnd_spec _ _) rfl ?_
          exact h7
        · exact h7

theorem execPmBoundary_spec : ∀ a0 a1, SpecO 0xb04c1c00000000000000000000000022000000000000000a000000000000001f800000 a1 (execPmBoundary a0 a1) := by
  intro a0 a1
  delta execPmBoundary
  refine SpecO.ok ?_
  extract_lets -underBinder -merge -useContext +onlyGivenNames x0
  have h1 : Spec 0xb04c1c00000000000000000000000022000000000000000a000000000000001f800000 a1 x0 := by
    refine Spec.step (State.atTod_spec _ _) rfl ?_
    exact Spec.refl
  clear_value x0
  refine Spec.ite ?_ ?_
  · exact h1
  · split
    · refine Spec.ite ?_ ?_
      · exact h1
      · refine Spec.step (State.pmEnd_spec _ _) rfl ?_
        exact h1
    · refine Spec.step (State.pmEnd_spec _ _) rfl ?_
      exact h1

end Sys2Proof.Machine
end

