-- ==== Sys2Proof/Laws/Frames23.lean ====
section
/-! SUPPORT. What each operation and each command of the files Machine/Power, Prot, Rails, Reset, Ring, Sec, Shelf, Sys can do: one lemma each,
`<name>_spec`, whose first argument is the footprint (Laws/Spec.lean). -/
namespace Sys2Proof.Machine

theorem State.powerDone_spec : ∀ a0 a1 a2 a3, Spec 0x14000000000000000000000000000000000000000000000000000000000000000000 a0 (State.powerDone a0 a1 a2 a3) := by
  intro a0 a1 a2 a3
  delta State.powerDone
  refine Spec.step (State.done_spec _ _ _ _ _) rfl ?_
  exact (Spec.set_mode rfl Spec.refl)

theorem State.powerRefuse_spec : ∀ a0 a1 a2, Spec 0xb01c0c00000000000000000000000022000000000000000a0000000000000000000000 a0 (State.powerRefuse a0 a1 a2) := by
  intro a0 a1 a2
  delta State.powerRefuse
  extract_lets -underBinder -merge -useContext +onlyGivenNames x0
  clear_value x0
  refine Spec.step (State.powerDone_spec _ _ _ _) rfl ?_
  refine Spec.step (State.raiseCountPerf_spec _ _ _ _ _) rfl ?_
  exact Spec.refl

theorem State.exitDone_spec : ∀ a0 a1, Spec 0xffffff0000000000000000000001ffffffffffffffffffffffffffffffffffffffffff a0 (State.exitDone a0 a1) := by
  intro a0 a1
  delta State.exitDone
  extract_lets -underBinder -merge -useContext +onlyGivenNames x0
  have h1 : Spec 0xffffff0000000000000000000001ffffffffffffffffffffffffffffffffffffffffff a0 x0 := by
    refine Spec.wrs_cons ?_
    refine Spec.wrs_cons ?_
    refine Spec.wrs_cons ?_
    refine Spec.wrs_nil ?_
    refine Spec.step (State.wr_spec _ _ _ _) rfl ?_
    refine Spec.step (State.wr_spec _ _ _ _) rfl ?_
    refine Spec.step (State.wr_spec _ _ _ _) rfl ?_
    refine Spec.step (State.modPwr_spec _ _) rfl ?_
    exact Spec.refl
  clear_value x0
  extract_lets -underBinder -merge -useContext +onlyGivenNames x2
  have h3 : Spec 0xffffff0000000000000000000001ffffffffffffffffffffffffffffffffffffffffff a0 x2 := by
    refine Spec.ite ?_ ?_
    · refine Spec.step (State.modPwr_spec _ _) rfl ?_
      refine Spec.step (State.setD0_spec _ _) rfl ?_
      refine Spec.step (State.wr_spec _ _ _ _) rfl ?_
      exact h1
    · exact h1
  clear_value x2
  extract_lets -underBinder -merge -useContext +onlyGivenNames x4
  clear_value x4
  extract_lets -underBinder -merge -useContext +onlyGivenNames x5
  have h6 : Spec 0xffffff0000000000000000000001ffffffffffffffffffffffffffffffffffffffffff a0 x5 := by
    exact (Spec.set_mode rfl h3)
  clear_value x5
  refine Spec.step (State.tamperReport_spec _) rfl ?_
  refine Spec.step (State.clockReplay_spec _) rfl ?_
  exact h6

theorem execPowerExitDone_spec : ∀ a0, SpecO 0xffffff0000000000000000000001ffffffffffffffffffffffffffffffffffffffffff a0 (execPowerExitDone a0) := by
  intro a0
  delta execPowerExitDone
  refine SpecO.ok ?_
  split
  · exact Spec.refl
  · refine Spec.ite ?_ ?_
    · exact Spec.refl
    · refine Spec.step (State.exitDone_spec _ _) rfl ?_
      exact Spec.refl

theorem State.powerCommit_spec : ∀ a0 a1, Spec 0xbe0e0e00000000000000000000000422002408500000000a0400000000000000000000 a0 (State.powerCommit a0 a1) := by
  intro a0 a1
  delta State.powerCommit
  refine Spec.ite ?_ ?_
  · refine Spec.ite ?_ ?_
    · refine Spec.step (State.wake_spec _ _ _ rfl) rfl ?_
      exact Spec.refl
    · refine Spec.step (State.wr_spec _ _ _ _) rfl ?_
      exact Spec.refl
  · extract_lets -underBinder -merge -useContext +onlyGivenNames x0
    have h1 : Spec 0xbe0e0e00000000000000000000000422002408500000000a0400000000000000000000 a0 x0 := by
      refine Spec.wrs_cons ?_
      refine Spec.wrs_cons ?_
      refine Spec.wrs_nil ?_
      refine Spec.step (State.wr_spec _ _ _ _) rfl ?_
      refine Spec.step (State.wr_spec _ _ _ _) rfl ?_
      refine Spec.step (State.modPwr_spec _ _) rfl ?_
      exact Spec.refl
    clear_value x0
    refine Spec.ite ?_ ?_
    · exact h1
    · extract_lets -underBinder -merge -useContext +onlyGivenNames x2
      have h3 : Spec 0xbe0e0e00000000000000000000000422002408500000000a0400000000000000000000 a0 x2 := by
        refine Spec.step (State.trapShut_spec _) rfl ?_
        exact h1
      clear_value x2
      refine Spec.ite ?_ ?_
      · refine Spec.step (State.purgeAll_spec _) rfl ?_
        exact h3
      · exact h3

theorem State.powerSet_spec : ∀ a0 a1, Spec 0xbe1e0e00000000000000000000000422002408500000000a0400000000000000000000 a0 (State.powerSet a0 a1) := by
  intro a0 a1
  delta State.powerSet
  extract_lets -underBinder -merge -useContext +onlyGivenNames x0
  clear_value x0
  split
  · refine Spec.step (State.done_spec _ _ _ _ _) rfl ?_
    exact Spec.refl
  · extract_lets -underBinder -merge -useContext +onlyGivenNames x1
    clear_value x1
    refine Spec.ite ?_ ?_
    · refine Spec.step (State.powerRefuse_spec _ _ _) rfl ?_
      exact Spec.refl
    · extract_lets -underBinder -merge -useContext +onlyGivenNames x2
      have h3 : Spec 0xbe1e0e00000000000000000000000422002408500000000a0400000000000000000000 a0 x2 := by
        refine Spec.step (State.powerDone_spec _ _ _ _) rfl ?_
        exact Spec.refl
      clear_value x2
      refine Spec.ite ?_ ?_
      · exact h3
      · refine Spec.step (State.powerCommit_spec _ _) rfl ?_
        exact h3

theorem execPowerSet_spec : ∀ a0 a1, SpecO 0xbe1e0e00000000000000000000000422002408500000000a0400000000000000000000 a1 (execPowerSet a0 a1) := by
  intro a0 a1
  delta execPowerSet
  refine SpecO.ok ?_
  extract_lets -underBinder -merge -useContext +onlyGivenNames x0
  have h1 : Spec 0xbe1e0e00000000000000000000000422002408500000000a0400000000000000000000 a1 x0 := by
    refine Spec.step (State.settle_spec _ _ _) rfl ?_
    exact Spec.refl
  clear_value x0
  split
  · exact h1
  · refine Spec.step (State.powerSet_spec _ _) rfl ?_
    refine Spec.step (State.popDesc_spec _ _) rfl ?_
    exact h1

theorem State.entryDone_spec : ∀ a0 a1 a2 a3, Spec 0xfffede0000000000000000000000042200400b1d0180004f241401249430a2003013a2 a0 (State.entryDone a0 a1 a2 a3) := by
  intro a0 a1 a2 a3
  delta State.entryDone
  extract_lets -underBinder -merge -useContext +onlyGivenNames x0
  have h1 : Spec 0xfffede0000000000000000000000042200400b1d0180004f241401249430a2003013a2 a0 x0 := by
    refine Spec.wrs_cons ?_
    refine Spec.wrs_cons ?_
    refine Spec.wrs_nil ?_
    refine Spec.step (State.wr_spec _ _ _ _) rfl ?_
    refine Spec.step (State.wr_spec _ _ _ _) rfl ?_
    refine Spec.step (State.modPwr_spec _ _) rfl ?_
    exact Spec.refl
  clear_value x0
  extract_lets -underBinder -merge -useContext +onlyGivenNames x2
  have h3 : Spec 0xfffede0000000000000000000000042200400b1d0180004f241401249430a2003013a2 a0 x2 := by
    refine Spec.step (State.atRtc_spec _ _) rfl ?_
    exact h1
  clear_value x2
  split
  · refine Spec.step (State.sleep_spec _ _) rfl ?_
    exact h3
  · refine Spec.step (State.logAdd_spec _ _ _) rfl ?_
    refine Spec.step (State.mainOff_spec _ _) rfl ?_
    refine Spec.step (State.mothball_spec _ _) rfl ?_
    refine Spec.step (State.sleep_spec _ _) rfl ?_
    exact h3
  · refine Spec.step (State.logAdd_spec _ _ _) rfl ?_
    refine Spec.step (State.mainOff_spec _ _) rfl ?_
    refine Spec.step (State.purgeAll_spec _) rfl ?_
    refine Spec.step (State.mothball_spec _ _) rfl ?_
    refine Spec.step (State.sleep_spec _ _) rfl ?_
    exact h3

theorem execPowerEntryDone_spec : ∀ a0 a1 a2, SpecO 0xfffede0000000000000000000000042200400b1d0180004f241401249430a2003013a2 a2 (execPowerEntryDone a0 a1 a2) := by
  intro a0 a1 a2
  delta execPowerEntryDone
  refine SpecO.ok ?_
  split
  · exact Spec.refl
  · extract_lets -underBinder -merge -useContext +onlyGivenNames x0
    have h1 : Spec 0xfffede0000000000000000000000042200400b1d0180004f241401249430a2003013a2 a2 x0 := by
      refine Spec.step (State.entryDone_spec _ _ _ _) rfl ?_
      exact Spec.refl
    clear_value x0
    refine Spec.ite ?_ ?_
    · refine Spec.step (State.exitStart_spec _) rfl ?_
      exact h1
    · exact h1

theorem State.protTake_spec : ∀ a0 a1, Spec 0x100000000000000000000000000000000000000000000000000000000000000000 a0 (State.protTake a0 a1) := by
  intro a0 a1
  delta State.protTake
  refine Spec.step (State.modTx_spec _ _ _) rfl ?_
  refine Spec.step (State.modRx_spec _ _ _) rfl ?_
  exact Spec.refl

theorem execProtUnprotected_spec : ∀ a0 a1, SpecO 0xb00c1c00000000000000000000000022000000000000000a0000000010000000000000 a1 (execProtUnprotected a0 a1) := by
  intro a0 a1
  delta execProtUnprotected
  refine SpecO.ok ?_
  refine Spec.ite ?_ ?_
  · refine Spec.step (State.protRefresh_spec _ _) rfl ?_
    refine Spec.step (State.raiseReg_spec _ _ _ _) rfl ?_
    refine Spec.step (State.protTake_spec _ _) rfl ?_
    exact Spec.refl
  · exact Spec.refl

theorem execProtSwitched_spec : ∀ a0 a1, SpecO 0xb04c1c00000000000000000000000022000000000000000a0000000010000000000000 a1 (execProtSwitched a0 a1) := by
  intro a0 a1
  delta execProtSwitched
  refine SpecO.ok ?_
  refine Spec.ite ?_ ?_
  · refine Spec.step (State.protRefresh_spec _ _) rfl ?_
    refine Spec.step (State.ttDiscard_spec _ _) rfl ?_
    refine Spec.step (State.raiseReg_spec _ _ _ _) rfl ?_
    refine Spec.step (State.protTake_spec _ _) rfl ?_
    exact Spec.refl
  · exact Spec.refl

theorem execProtAckTimeout_spec : ∀ a0 a1, SpecO 0xb00c1c00000000000000000000000022000000000000000a0000000000000000200000 a1 (execProtAckTimeout a0 a1) := by
  intro a0 a1
  delta execProtAckTimeout
  refine SpecO.ok ?_
  extract_lets -underBinder -merge -useContext +onlyGivenNames x0
  clear_value x0
  refine Spec.ite ?_ ?_
  · refine Spec.step (State.raiseReg_spec _ _ _ _) rfl ?_
    refine Spec.step (State.modTx_spec _ _ _) rfl ?_
    exact Spec.refl
  · exact Spec.refl

theorem execProtNr_spec : ∀ a0 a1, SpecO 0x100000000000000000000000000000000000000000000000000000000000000000 a1 (execProtNr a0 a1) := by
  intro a0 a1
  delta execProtNr
  refine SpecO.ok ?_
  refine Spec.ite ?_ ?_
  · refine Spec.step (State.protRefresh_spec _ _) rfl ?_
    refine Spec.step (State.protTake_spec _ _) rfl ?_
    exact Spec.refl
  · exact Spec.refl

theorem execProtBadCode_spec : ∀ a0 a1, SpecO 0xb00c1c00000000000000000000000022000000000000000a0000000000000000000000 a1 (execProtBadCode a0 a1) := by
  intro a0 a1
  delta execProtBadCode
  refine SpecO.ok ?_
  refine Spec.ite ?_ ?_
  · refine Spec.step (State.protRefresh_spec _ _) rfl ?_
    refine Spec.step (State.count_spec _ _ _) rfl ?_
    refine Spec.step (State.protTake_spec _ _) rfl ?_
    exact Spec.refl
  · exact Spec.refl

theorem execTxSuspectStart_spec : ∀ a0 a1, SpecO 0x100000000000000000000000000000000000000000000000000000000000000000 a1 (execTxSuspectStart a0 a1) := by
  intro a0 a1
  delta execTxSuspectStart
  refine SpecO.ok ?_
  refine Spec.ite ?_ ?_
  · refine Spec.step (State.protRefresh_spec _ _) rfl ?_
    refine Spec.step (State.modTx_spec _ _ _) rfl ?_
    exact Spec.refl
  · exact Spec.refl

theorem execProtTxSuspect_spec : ∀ a0 a1, SpecO 0xf07cde00000000000000000000008422000000000000000a000400201400a200080802 a1 (execProtTxSuspect a0 a1) := by
  intro a0 a1
  delta execProtTxSuspect
  refine SpecO.ok ?_
  refine Spec.ite ?_ ?_
  · extract_lets -underBinder -merge -useContext +onlyGivenNames x0
    have h1 : Spec 0xf07cde00000000000000000000008422000000000000000a000400201400a200080802 a1 x0 := by
      refine Spec.step (State.protTake_spec _ _) rfl ?_
      exact Spec.refl
    clear_value x0
    refine Spec.ite ?_ ?_
    · refine Spec.step (State.faultYield_spec _ _) rfl ?_
      exact h1
    · refine Spec.step (State.protRefresh_spec _ _) rfl ?_
      refine Spec.step (State.modTx_spec _ _ _) rfl ?_
      exact h1
  · exact Spec.refl

theorem execVddSramUp_spec : ∀ a0, SpecO 0x200020000000000000000000000000000000200000000000000000000000000000000 a0 (execVddSramUp a0) := by
  intro a0
  delta execVddSramUp
  refine SpecO.ok ?_
  refine Spec.ite ?_ ?_
  · extract_lets -underBinder -merge -useContext +onlyGivenNames x0
    have h1 : Spec 0x200020000000000000000000000000000000200000000000000000000000000000000 a0 x0 := by
      refine Spec.step (State.modPwr_spec _ _) rfl ?_
      exact Spec.refl
    clear_value x0
    refine Spec.step (State.wr_spec _ _ _ _) rfl ?_
    exact (Spec.set_pin rfl h1)
  · refine Spec.ite ?_ ?_
    · refine Spec.step (State.wr_spec _ _ _ _) rfl ?_
      refine Spec.step (State.modPwr_spec _ _) rfl ?_
      exact Spec.refl
    · exact Spec.refl

theorem execRailStartTimeout_spec : ∀ a0 a1 a2, SpecO 0x600020000000000000000000000000000000800000000000000000000000000000000 a2 (execRailStartTimeout a0 a1 a2) := by
  intro a0 a1 a2
  delta execRailStartTimeout
  refine SpecO.ok ?_
  refine Spec.ite ?_ ?_
  · extract_lets -underBinder -merge -useContext +onlyGivenNames x0
    have h1 : Spec 0x600020000000000000000000000000000000800000000000000000000000000000000 a2 x0 := by
      refine Spec.step (State.modPwr_spec _ _) rfl ?_
      refine Spec.step (State.atRtc_spec _ _) rfl ?_
      exact Spec.refl
    clear_value x0
    refine Spec.step (State.logAdd_spec _ _ _) rfl ?_
    exact (Spec.set_pin rfl h1)
  · exact Spec.refl

theorem execVddIoUp_spec : ∀ a0, SpecO 0x200020000000000000000000000100000000300000000000000000000000000000000 a0 (execVddIoUp a0) := by
  intro a0
  delta execVddIoUp
  refine SpecO.ok ?_
  refine Spec.ite ?_ ?_
  · extract_lets -underBinder -merge -useContext +onlyGivenNames x0
    have h1 : Spec 0x200020000000000000000000000100000000300000000000000000000000000000000 a0 x0 := by
      refine Spec.step (State.modPwr_spec _ _) rfl ?_
      exact Spec.refl
    clear_value x0
    extract_lets -underBinder -merge -useContext +onlyGivenNames x2
    clear_value x2
    extract_lets -underBinder -merge -useContext +onlyGivenNames x3
    have h4 : Spec 0x200020000000000000000000000100000000300000000000000000000000000000000 a0 x3 := by
      exact (Spec.set_pin rfl h1)
    clear_value x3
    refine Spec.step (State.wr_spec _ _ _ _) rfl ?_
    refine Spec.step (State.padsFresh_spec _) rfl ?_
    exact h4
  · exact Spec.refl

theorem execRailRetry_spec : ∀ a0, SpecO 0x20000000000000000000000000000000000000000000000000000000000000000 a0 (execRailRetry a0) := by
  intro a0
  delta execRailRetry
  refine SpecO.ok ?_
  refine Spec.ite ?_ ?_
  · exact (Spec.set_pin rfl Spec.refl)
  · exact Spec.refl

theorem execRailFail_spec : ∀ a0 a1 a2, SpecO 0xff3e9f0000000000000000000000002200000b050180000f2400000004200000300002 a2 (execRailFail a0 a1 a2) := by
  intro a0 a1 a2
  delta execRailFail
  refine SpecO.ok ?_
  extract_lets -underBinder -merge -useContext +onlyGivenNames x0
  have h1 : Spec 0xff3e9f0000000000000000000000002200000b050180000f2400000004200000300002 a2 x0 := by
    refine Spec.step (State.atRtc_spec _ _) rfl ?_
    exact Spec.refl
  clear_value x0
  extract_lets -underBinder -merge -useContext +onlyGivenNames x2
  clear_value x2
  extract_lets -underBinder -merge -useContext +onlyGivenNames x3
  clear_value x3
  extract_lets -underBinder -merge -useContext +onlyGivenNames x4
  have h5 : Spec 0xff3e9f0000000000000000000000002200000b050180000f2400000004200000300002 a2 x4 := by
    refine Spec.ite ?_ ?_
    · refine Spec.step (State.modPwr_spec _ _) rfl ?_
      exact h1
    · exact h1
  clear_value x4
  extract_lets -underBinder -merge -useContext +onlyGivenNames x6
  have h7 : Spec 0xff3e9f0000000000000000000000002200000b050180000f2400000004200000300002 a2 x6 := by
    refine Spec.ite ?_ ?_
    · exact h5
    · refine Spec.step (State.readyRefresh_spec _) rfl ?_
      refine Spec.step (State.railFail_spec _ _) rfl ?_
      exact h5
  clear_value x6
  refine Spec.ite ?_ ?_
  · exact h7
  · refine Spec.step (State.railsGone_spec _ _) rfl ?_
    exact h7

theorem State.pinReset_spec : ∀ a0, Spec 0xffffff0000000000000000000001ffffffffffffffffffffffffffffffffffffffffff a0 (State.pinReset a0) := by
  intro a0
  delta State.pinReset
  refine Spec.ite ?_ ?_
  · refine Spec.step (State.coldReset_spec _ _) rfl ?_
    exact Spec.refl
  · refine Spec.ite ?_ ?_
    · exact Spec.refl
    · extract_lets -underBinder -merge -useContext +onlyGivenNames x0
      clear_value x0
      extract_lets -underBinder -merge -useContext +onlyGivenNames x1
      clear_value x1
      extract_lets -underBinder -merge -useContext +onlyGivenNames x2
      have h3 : Spec 0xffffff0000000000000000000001ffffffffffffffffffffffffffffffffffffffffff a0 x2 := by
        refine Spec.step (State.modPwr_spec _ _) rfl ?_
        refine Spec.step (State.padsFresh_spec _) rfl ?_
        exact Spec.refl
      clear_value x2
      exact (Spec.set_pin rfl h3)

theorem execResetPin_spec : ∀ a0 a1, SpecO 0xffffff0000000000000000000001ffffffffffffffffffffffffffffffffffffffffff a1 (execResetPin a0 a1) := by
  intro a0 a1
  delta execResetPin
  refine SpecO.ok ?_
  refine Spec.ite ?_ ?_
  · refine Spec.step (State.pinReset_spec _) rfl ?_
    exact Spec.refl
  · refine Spec.ite ?_ ?_
    · exact Spec.refl
    · extract_lets -underBinder -merge -useContext +onlyGivenNames x0
      clear_value x0
      refine Spec.ite ?_ ?_
      · refine Spec.step (State.pinReset_spec _) rfl ?_
        refine Spec.step (State.tick_spec _) rfl ?_
        exact Spec.refl
      · refine Spec.step (State.tick_spec _) rfl ?_
        exact Spec.refl

theorem execEngineReset_spec : ∀ a0 a1 a2, SpecO 0xffffff0000000000000000000001ffffffffffffffffffffffffffffffffffffffffff a2 (execEngineReset a0 a1 a2) := by
  intro a0 a1 a2
  delta execEngineReset
  refine SpecO.ok ?_
  refine Spec.step (State.fieldWrite_SYS_RESET_eng_rst_spec _ _ _ _) rfl ?_
  exact Spec.refl

theorem execColdResetRelease_spec : ∀ a0, SpecO 0xffffff0000000000000000000001ffffffffffffffffffffffffffffffffffffffffff a0 (execColdResetRelease a0) := by
  intro a0
  delta execColdResetRelease
  refine SpecO.ok ?_
  refine Spec.ite ?_ ?_
  · refine Spec.step (State.coldReset_spec _ _) rfl ?_
    exact Spec.refl
  · exact Spec.refl

theorem execWarmReset_spec : ∀ a0 a1, SpecO 0xffffff0000000000000000000001ffffffffffffffffffffffffffffffffffffffffff a1 (execWarmReset a0 a1) := by
  intro a0 a1
  delta execWarmReset
  refine SpecO.ok ?_
  refine Spec.step (State.fieldWrite_SYS_RESET_warm_spec _ _ _ _) rfl ?_
  exact Spec.refl

theorem execMsixModTimer_spec : ∀ a0 a1, SpecO 0x200c000000000000000000000000000000000000000000000000000000000000000000 a1 (execMsixModTimer a0 a1) := by
  intro a0 a1
  delta execMsixModTimer
  refine SpecO.ok ?_
  refine Spec.ite ?_ ?_
  · refine Spec.step (State.cqMessage_spec _ _) rfl ?_
    exact Spec.refl
  · exact Spec.refl

theorem execMsixUnmask_spec : ∀ a0 a1, SpecO 0x2008000000000000000000000000000000000000000000000000000000000000000000 a1 (execMsixUnmask a0 a1) := by
  intro a0 a1
  delta execMsixUnmask
  refine SpecO.ok ?_
  split
  · refine Spec.step (State.flushMsix_spec _) rfl ?_
    exact (Spec.set_host rfl Spec.refl)
  · refine Spec.step (State.flushMsix_spec _) rfl ?_
    exact (Spec.set_host rfl Spec.refl)

theorem execRingQuiesced_spec : ∀ a0 a1, SpecO 0x10000000000000000000000 a1 (execRingQuiesced a0 a1) := by
  intro a0 a1
  delta execRingQuiesced
  refine SpecO.ok ?_
  refine Spec.ite ?_ ?_
  · refine Spec.step (State.wr_spec _ _ _ _) rfl ?_
    exact Spec.refl
  · exact Spec.refl

theorem execRingEnable_spec : ∀ a0 a1 a2 a3, SpecO 0xffffff0000000000000000000001ffffffffffffffffffffffffffffffffffffffffff a3 (execRingEnable a0 a1 a2 a3) := by
  intro a0 a1 a2 a3
  delta execRingEnable
  refine SpecO.ok ?_
  refine Spec.step (State.regTake_HOST_RCTX_CFG_spec _ _ _ _) rfl ?_
  exact Spec.refl

theorem State.echoTag_spec : ∀ a0 a1 a2 a3, Spec 0x2000000000000000000000000000000000000000000000000000000000000000000000 a0 (State.echoTag a0 a1 a2 a3) := by
  intro a0 a1 a2 a3
  delta State.echoTag
  refine Spec.ite ?_ ?_
  · refine Spec.step (State.emit_spec _ _) rfl ?_
    exact Spec.refl
  · exact Spec.refl

theorem execSqDoorbell_spec : ∀ a0 a1 a2, SpecO 0xb00c0c00000000000000000000000022000000000000000a0000000000000000000000 a2 (execSqDoorbell a0 a1 a2) := by
  intro a0 a1 a2
  delta execSqDoorbell
  refine SpecO.ok ?_
  refine Spec.step (State.doorbell_spec _ _ _) rfl ?_
  exact Spec.refl

theorem execCqDoorbell_spec : ∀ a0 a1 a2, SpecO 0xb00c0c00000000000000000000000022000000000000000a0000000000000000000000 a2 (execCqDoorbell a0 a1 a2) := by
  intro a0 a1 a2
  delta execCqDoorbell
  refine SpecO.ok ?_
  refine Spec.step (State.doorbell_spec _ _ _) rfl ?_
  exact Spec.refl

theorem execEvtOverflow_spec : ∀ a0 a1, SpecO 0x300c000000000000000000000000000200000000000000020000000000000000000000 a1 (execEvtOverflow a0 a1) := by
  intro a0 a1
  delta execEvtOverflow
  refine SpecO.ok ?_
  extract_lets -underBinder -merge -useContext +onlyGivenNames x0
  clear_value x0
  refine Spec.ite ?_ ?_
  · extract_lets -underBinder -merge -useContext +onlyGivenNames x1
    clear_value x1
    extract_lets -underBinder -merge -useContext +onlyGivenNames x2
    have h3 : Spec 0x300c000000000000000000000000000200000000000000020000000000000000000000 a1 x2 := by
      refine Spec.step (State.evBit_spec _ _) rfl ?_
      exact Spec.refl
    clear_value x2
    extract_lets -underBinder -merge -useContext +onlyGivenNames x4
    clear_value x4
    extract_lets -underBinder -merge -useContext +onlyGivenNames x5
    have h6 : Spec 0x300c000000000000000000000000000200000000000000020000000000000000000000 a1 x5 := by
      exact (Spec.set_perf rfl h3)
    clear_value x5
    extract_lets -underBinder -merge -useContext +onlyGivenNames x7
    have h8 : Spec 0x300c000000000000000000000000000200000000000000020000000000000000000000 a1 x7 := by
      refine Spec.step (State.modRing_spec _ _ _) rfl ?_
      exact h6
    clear_value x7
    refine Spec.step (State.writeEntry_spec _ _ _ _ _) rfl ?_
    exact h8
  · exact Spec.refl

theorem execCompletionWrite_spec : ∀ a0 a1, SpecO 0xb00c0c00000000000000000000000022000000000000000a0000000000000000000000 a1 (execCompletionWrite a0 a1) := by
  intro a0 a1
  delta execCompletionWrite
  refine SpecO.ok ?_
  split
  · exact Spec.refl
  · extract_lets -underBinder -merge -useContext +onlyGivenNames x0
    have h1 : Spec 0xb00c0c00000000000000000000000022000000000000000a0000000000000000000000 a1 x0 := by
      refine Spec.step (State.modRing_spec _ _ _) rfl ?_
      exact Spec.refl
    clear_value x0
    refine Spec.ite ?_ ?_
    · refine Spec.ite ?_ ?_
      · exact Spec.refl
      · refine Spec.step (State.echoTag_spec _ _ _ _) rfl ?_
        refine Spec.step (State.writeEntry_spec _ _ _ _ _) rfl ?_
        exact h1
    · refine Spec.step (State.stale_spec _) rfl ?_
      exact h1

theorem execRingDisable_spec : ∀ a0 a1 a2, SpecO 0xffffff0000000000000000000001ffffffffffffffffffffffffffffffffffffffffff a2 (execRingDisable a0 a1 a2) := by
  intro a0 a1 a2
  delta execRingDisable
  refine SpecO.ok ?_
  refine Spec.step (State.regTake_HOST_RCTX_CFG_spec _ _ _ _) rfl ?_
  exact Spec.refl

theorem execDescFetch_spec : ∀ a0 a1 a2, SpecO 0xb00c0c00000000000000000000000022000000000000000b0000000000000000000000 a2 (execDescFetch a0 a1 a2) := by
  intro a0 a1 a2
  delta execDescFetch
  refine SpecO.ok ?_
  refine Spec.ite ?_ ?_
  · refine Spec.step (State.descFetch_spec _ _ _) rfl ?_
    exact Spec.refl
  · exact Spec.refl

theorem execLcReqProvision_spec : ∀ a0 a1, SpecO 0xffffff0000000000000000000001ffffffffffffffffffffffffffffffffffffffffff a1 (execLcReqProvision a0 a1) := by
  intro a0 a1
  delta execLcReqProvision
  refine SpecO.ok ?_
  refine Spec.step (State.fieldWrite_SEC_LC_CTRL_lc_req_spec _ _ _ _) rfl ?_
  exact Spec.refl

theorem execRbRaise_spec : ∀ a0 a1, SpecO 0xffffff0000000000000000000001ffffffffffffffffffffffffffffffffffffffffff a1 (execRbRaise a0 a1) := by
  intro a0 a1
  delta execRbRaise
  refine SpecO.ok ?_
  refine Spec.step (State.fieldWrite_SEC_LC_CTRL_rb_raise_spec _ _ _ _) rfl ?_
  exact Spec.refl

theorem execLcTransitionDone_spec : ∀ a0, SpecO 0xb80e0d00000000000000000000000022042400000000000a0400000000000000000000 a0 (execLcTransitionDone a0) := by
  intro a0
  delta execLcTransitionDone
  refine SpecO.ok ?_
  split
  · exact Spec.refl
  · refine Spec.step (State.lcDone_spec _ _ _) rfl ?_
    exact Spec.refl

theorem execLcReqReturn_spec : ∀ a0 a1, SpecO 0xffffff0000000000000000000001ffffffffffffffffffffffffffffffffffffffffff a1 (execLcReqReturn a0 a1) := by
  intro a0 a1
  delta execLcReqReturn
  refine SpecO.ok ?_
  refine Spec.step (State.fieldWrite_SEC_LC_CTRL_lc_req_spec _ _ _ _) rfl ?_
  exact Spec.refl

theorem execHostPrivDrop_spec : ∀ a0, SpecO 0xffffff0000000000000000000001ffffffffffffffffffffffffffffffffffffffffff a0 (execHostPrivDrop a0) := by
  intro a0
  delta execHostPrivDrop
  refine SpecO.ok ?_
  refine Spec.step (State.fieldWrite_SEC_STATE_host_priv_spec _ _ _ _) rfl ?_
  exact Spec.refl

theorem execLcReqSeal_spec : ∀ a0 a1, SpecO 0xffffff0000000000000000000001ffffffffffffffffffffffffffffffffffffffffff a1 (execLcReqSeal a0 a1) := by
  intro a0 a1
  delta execLcReqSeal
  refine SpecO.ok ?_
  refine Spec.step (State.fieldWrite_SEC_LC_CTRL_lc_req_spec _ _ _ _) rfl ?_
  exact Spec.refl

theorem State.setStage_spec : ∀ a0 a1 a2, Spec 0x800000000000000000000000000000000400000000000000000000000000000000000 a0 (State.setStage a0 a1 a2) := by
  intro a0 a1 a2
  delta State.setStage
  refine Spec.step (State.wr_spec _ _ _ _) rfl ?_
  refine Spec.step (State.modSec_spec _ _) rfl ?_
  exact Spec.refl

theorem State.commitShelf_spec : ∀ s k h, Spec 0xf80c0d00000000000000000000000022006000000000000a0000000000000000000000 s (State.commitShelf s k h) := by
  intro s k h
  delta State.commitShelf
  extract_lets -underBinder -merge -useContext +onlyGivenNames x y
  have hx : Spec 0xf80c0d00000000000000000000000022006000000000000a0000000000000000000000 s x := Spec.step (State.setStage_spec _ _ _) rfl (Spec.step (State.shelfProgram_spec _ _ _ _) rfl Spec.refl)
  have hy : Spec 0xf80c0d00000000000000000000000022006000000000000a0000000000000000000000 s y := by
    refine Spec.wrs_cons (Spec.wrs_cons (Spec.wrs_cons (Spec.wrs_cons (Spec.wrs_nil ?_))))
    refine Spec.step (State.wr_spec _ _ _ _) rfl (Spec.step (State.wr_spec _ _ _ _) rfl
      (Spec.step (State.wr_spec _ _ _ _) rfl (Spec.step (State.wr_spec _ _ _ _) ?_ hx)))
    unfold shelfFld
    split <;> rfl
  exact Spec.step (State.raiseReg_spec _ _ _ _) rfl hy

theorem State.stageBegin_spec : ∀ s, Spec 0x800010000000000000000000000000000400000000000000000000000000000000000 s (State.stageBegin s) := by
  intro s
  delta State.stageBegin
  extract_lets -underBinder -merge -useContext +onlyGivenNames k src x
  have hx : Spec 0x800010000000000000000000000000000400000000000000000000000000000000000 s x := Spec.set_fuse (s := s) rfl rfl flashErase_wf
  refine Spec.step (State.setStage_spec _ _ _) rfl (Spec.step (State.wr_spec _ _ _ _) ?_ hx)
  unfold shelfFld
  split <;> rfl

theorem State.shelfTake_spec : ∀ a0 a1 a2, Spec 0x4800010000000000000000000000000000400000000000000000000000000000000000 a0 (State.shelfTake a0 a1 a2) := by
  intro a0 a1 a2
  delta State.shelfTake
  extract_lets -underBinder -merge -useContext +onlyGivenNames x0
  have h1 : Spec 0x4800010000000000000000000000000000400000000000000000000000000000000000 a0 x0 := by
    refine Spec.ite ?_ ?_
    · refine Spec.step (State.stageBegin_spec _) rfl ?_
      exact Spec.refl
    · exact Spec.refl
  clear_value x0
  extract_lets -underBinder -merge -useContext +onlyGivenNames x2
  clear_value x2
  extract_lets -underBinder -merge -useContext +onlyGivenNames x3
  clear_value x3
  extract_lets -underBinder -merge -useContext +onlyGivenNames x4
  have h5 : Spec 0x4800010000000000000000000000000000400000000000000000000000000000000000 a0 x4 := by
    refine Spec.ite ?_ ?_
    · refine Spec.step (State.setStage_spec _ _ _) rfl ?_
      exact h1
    · refine Spec.step (State.setStage_spec _ _ _) rfl ?_
      exact h1
  clear_value x4
  refine Spec.step (State.shelfProgram_spec _ _ _ _) rfl ?_
  exact h5

theorem execShelfWrite_spec : ∀ a0 a1 a2 a3, SpecO 0x480c010000000000000000000000000000400000000000000000000000000000000000 a3 (execShelfWrite a0 a1 a2 a3) := by
  intro a0 a1 a2 a3
  delta execShelfWrite
  refine SpecO.ok ?_
  extract_lets -underBinder -merge -useContext +onlyGivenNames x0
  have h1 : Spec 0x480c010000000000000000000000000000400000000000000000000000000000000000 a3 x0 := by
    refine Spec.step (State.settle_spec _ _ _) rfl ?_
    exact Spec.refl
  clear_value x0
  split
  · exact h1
  · extract_lets -underBinder -merge -useContext +onlyGivenNames x2
    have h3 : Spec 0x480c010000000000000000000000000000400000000000000000000000000000000000 a3 x2 := by
      refine Spec.step (State.popDesc_spec _ _) rfl ?_
      exact h1
    clear_value x2
    extract_lets -underBinder -merge -useContext +onlyGivenNames x4
    clear_value x4
    refine Spec.ite ?_ ?_
    · refine Spec.step (State.refuse_spec _ _ _) rfl ?_
      exact h3
    · refine Spec.ite ?_ ?_
      · refine Spec.step (State.refuse_spec _ _ _) rfl ?_
        exact h3
      · refine Spec.ite ?_ ?_
        · refine Spec.step (State.done_spec _ _ _ _ _) rfl ?_
          exact h3
        · extract_lets -underBinder -merge -useContext +onlyGivenNames x5
          clear_value x5
          extract_lets -underBinder -merge -useContext +onlyGivenNames x6
          have h7 : Spec 0x480c010000000000000000000000000000400000000000000000000000000000000000 a3 x6 := by
            refine Spec.step (State.shelfTake_spec _ _ _) rfl ?_
            exact h3
          clear_value x6
          refine Spec.ite ?_ ?_
          · refine Spec.step (State.done_spec _ _ _ _ _) rfl ?_
            refine Spec.step (State.setStage_spec _ _ _) rfl ?_
            refine Spec.step (State.shelfSpoil_spec _ _ _ _) rfl ?_
            exact h7
          · refine Spec.step (State.done_spec _ _ _ _ _) rfl ?_
            exact h7

theorem execShelfCommit_spec : ∀ a0 a1 a2, SpecO 0xf80c0d00000000000000000000000022006000000000000a0000000000000000000000 a2 (execShelfCommit a0 a1 a2) := by
  intro a0 a1 a2
  delta execShelfCommit
  refine SpecO.ok ?_
  extract_lets -underBinder -merge -useContext +onlyGivenNames x0
  have h1 : Spec 0xf80c0d00000000000000000000000022006000000000000a0000000000000000000000 a2 x0 := by
    refine Spec.step (State.settle_spec _ _ _) rfl ?_
    exact Spec.refl
  clear_value x0
  split
  · exact h1
  · extract_lets -underBinder -merge -useContext +onlyGivenNames x2
    have h3 : Spec 0xf80c0d00000000000000000000000022006000000000000a0000000000000000000000 a2 x2 := by
      refine Spec.step (State.popDesc_spec _ _) rfl ?_
      exact h1
    clear_value x2
    extract_lets -underBinder -merge -useContext +onlyGivenNames x4
    clear_value x4
    extract_lets -underBinder -merge -useContext +onlyGivenNames x5
    clear_value x5
    refine Spec.ite ?_ ?_
    · refine Spec.step (State.done_spec _ _ _ _ _) rfl ?_
      exact h3
    · extract_lets -underBinder -merge -useContext +onlyGivenNames x6
      clear_value x6
      refine Spec.ite ?_ ?_
      · refine Spec.step (State.refuse_spec _ _ _) rfl ?_
        exact h3
      · refine Spec.ite ?_ ?_
        · refine Spec.step (State.done_spec _ _ _ _ _) rfl ?_
          refine Spec.step (State.setStage_spec _ _ _) rfl ?_
          refine Spec.step (State.hdrSpoil_spec _ _) rfl ?_
          exact h3
        · refine Spec.step (State.done_spec _ _ _ _ _) rfl ?_
          refine Spec.step (State.commitShelf_spec _ _ _) rfl ?_
          exact h3

theorem execKpFlip_spec : ∀ a0 a1, SpecO 0xffffff0000000000000000000001ffffffffffffffffffffffffffffffffffffffffff a1 (execKpFlip a0 a1) := by
  intro a0 a1
  delta execKpFlip
  refine SpecO.ok ?_
  refine Spec.step (State.fieldWrite_CIPH_ENG_CTRL_kp_flip_spec _ _ _ _) rfl ?_
  exact Spec.refl

theorem execLockerRelease_spec : ∀ a0 a1 a2, SpecO 0xffffff0000000000000000000001ffffffffffffffffffffffffffffffffffffffffff a2 (execLockerRelease a0 a1 a2) := by
  intro a0 a1 a2
  delta execLockerRelease
  refine SpecO.ok ?_
  refine Spec.step (State.fieldWrite_CIPH_LOCK_CTRL_lock_en_spec _ _ _ _) rfl ?_
  exact Spec.refl

theorem execPairEnWrite_spec : ∀ a0 a1, SpecO 0xffffff0000000000000000000001ffffffffffffffffffffffffffffffffffffffffff a1 (execPairEnWrite a0 a1) := by
  intro a0 a1
  delta execPairEnWrite
  refine SpecO.ok ?_
  refine Spec.step (State.fieldWrite_PAIR_CTRL_pair_en_spec _ _ _ _) rfl ?_
  exact Spec.refl

theorem execFecTestWrite_spec : ∀ a0 a1 a2, SpecO 0xffffff0000000000000000000001ffffffffffffffffffffffffffffffffffffffffff a2 (execFecTestWrite a0 a1 a2) := by
  intro a0 a1 a2
  delta execFecTestWrite
  refine SpecO.ok ?_
  refine Spec.step (State.fieldWrite_LE_FEC_CTRL_fec_test_spec _ _ _ _) rfl ?_
  exact Spec.refl

theorem execLoopOpenWrite_spec : ∀ a0 a1 a2, SpecO 0xffffff0000000000000000000001ffffffffffffffffffffffffffffffffffffffffff a2 (execLoopOpenWrite a0 a1 a2) := by
  intro a0 a1 a2
  delta execLoopOpenWrite
  refine SpecO.ok ?_
  refine Spec.step (State.fieldWrite_TIM_DPLL0_CTRL_loop_open_spec _ _ _ _) rfl ?_
  exact Spec.refl

theorem execBinsReqWrite_spec : ∀ a0 a1 a2, SpecO 0xffffff0000000000000000000001ffffffffffffffffffffffffffffffffffffffffff a2 (execBinsReqWrite a0 a1 a2) := by
  intro a0 a1 a2
  delta execBinsReqWrite
  refine SpecO.ok ?_
  refine Spec.step (State.fieldWrite_FAB_GRP_CTRL_bins_req_spec _ _ _ _) rfl ?_
  exact Spec.refl

theorem execTodSet_spec : ∀ a0 a1, SpecO 0xffffff0000000000000000000001ffffffffffffffffffffffffffffffffffffffffff a1 (execTodSet a0 a1) := by
  intro a0 a1
  delta execTodSet
  refine SpecO.ok ?_
  refine Spec.step (State.regTake_TIM_TOD_SEC_HI_spec _ _ _ _) rfl ?_
  exact Spec.refl

theorem execDpllPstep_spec : ∀ a0 a1 a2, SpecO 0xffffff0000000000000000000001ffffffffffffffffffffffffffffffffffffffffff a2 (execDpllPstep a0 a1 a2) := by
  intro a0 a1 a2
  delta execDpllPstep
  refine SpecO.ok ?_
  refine Spec.step (State.regTake_TIM_DPLL_PSTEP_spec _ _ _ _) rfl ?_
  exact Spec.refl

theorem execI3cDisable_spec : ∀ a0, SpecO 0xffffff0000000000000000000001ffffffffffffffffffffffffffffffffffffffffff a0 (execI3cDisable a0) := by
  intro a0
  delta execI3cDisable
  refine SpecO.ok ?_
  refine Spec.step (State.fieldWrite_HK_I3C_CTRL_i3c_en_spec _ _ _ _) rfl ?_
  exact Spec.refl

theorem execI3cEnable_spec : ∀ a0, SpecO 0xffffff0000000000000000000001ffffffffffffffffffffffffffffffffffffffffff a0 (execI3cEnable a0) := by
  intro a0
  delta execI3cEnable
  refine SpecO.ok ?_
  refine Spec.step (State.fieldWrite_HK_I3C_CTRL_i3c_en_spec _ _ _ _) rfl ?_
  exact Spec.refl

theorem execRegWrite_spec : ∀ a0 a1 a2 a3, SpecO 0xffffff0000000000000000000001ffffffffffffffffffffffffffffffffffffffffff a3 (execRegWrite a0 a1 a2 a3) := by
  intro a0 a1 a2 a3
  delta execRegWrite
  refine SpecO.ok ?_
  refine Spec.step (State.regWrite_spec _ _ _ _) rfl ?_
  exact Spec.refl

theorem execCalForce_spec : ∀ a0, SpecO 0xffffff0000000000000000000001ffffffffffffffffffffffffffffffffffffffffff a0 (execCalForce a0) := by
  intro a0
  delta execCalForce
  refine SpecO.ok ?_
  refine Spec.step (State.fieldWrite_CAL_CTRL_cal_force_spec _ _ _ _) rfl ?_
  exact Spec.refl

theorem execI3cRescan_spec : ∀ a0, SpecO 0xffffff0000000000000000000001ffffffffffffffffffffffffffffffffffffffffff a0 (execI3cRescan a0) := by
  intro a0
  delta execI3cRescan
  refine SpecO.ok ?_
  refine Spec.step (State.fieldWrite_HK_I3C_CTRL_rescan_spec _ _ _ _) rfl ?_
  exact Spec.refl

end Sys2Proof.Machine
end

