-- ==== Sys2Proof/Laws/Frames24.lean ====
section
/-! SUPPORT. What each operation and each command of the files Machine/Trapdoor, Wake can do: one lemma each,
`<name>_spec`, whose first argument is the footprint (Laws/Spec.lean). -/
namespace Sys2Proof.Machine

theorem execNonceExpire_spec : ∀ a0 a1, SpecO 0x800000000000000000000000000000000000000000000000000000000000000000000 a1 (execNonceExpire a0 a1) := by
  intro a0 a1
  delta execNonceExpire
  refine SpecO.ok ?_
  refine Spec.step (State.modTrap_spec _ _) rfl ?_
  exact Spec.refl

theorem execCredentialVerified_spec : ∀ a0, SpecO 0xb80e0c00000000000000000000000022043400000000000a0400000000000000000000 a0 (execCredentialVerified a0) := by
  intro a0
  delta execCredentialVerified
  refine SpecO.ok ?_
  split
  · exact Spec.refl
  · extract_lets -underBinder -merge -useContext +onlyGivenNames x0
    have h1 : Spec 0xb80e0c00000000000000000000000022043400000000000a0400000000000000000000 a0 x0 := by
      refine Spec.step (State.wr_spec _ _ _ _) rfl ?_
      refine Spec.step (State.modTrap_spec _ _) rfl ?_
      exact Spec.refl
    clear_value x0
    extract_lets -underBinder -merge -useContext +onlyGivenNames x2
    clear_value x2
    refine Spec.ite ?_ ?_
    · refine Spec.step (State.trapRefuse_spec _ _) rfl ?_
      exact h1
    · extract_lets -underBinder -merge -useContext +onlyGivenNames x3
      have h4 : Spec 0xb80e0c00000000000000000000000022043400000000000a0400000000000000000000 a0 x3 := by
        refine Spec.step (State.extend_spec _ _ _) rfl ?_
        refine Spec.step (State.wr_spec _ _ _ _) rfl ?_
        exact h1
      clear_value x3
      extract_lets -underBinder -merge -useContext +onlyGivenNames x5
      clear_value x5
      refine Spec.ite ?_ ?_
      · refine Spec.step (State.modTrap_spec _ _) rfl ?_
        exact h4
      · refine Spec.step (State.trapOpen_spec _ _ _ _) rfl ?_
        exact h4

theorem execCredentialSubmit_spec : ∀ a0 a1 a2, SpecO 0xffffff0000000000000000000001ffffffffffffffffffffffffffffffffffffffffff a2 (execCredentialSubmit a0 a1 a2) := by
  intro a0 a1 a2
  delta execCredentialSubmit
  refine SpecO.ok ?_
  refine Spec.ite ?_ ?_
  · refine Spec.step (State.fieldWrite_SEC_TRAP_CTRL_submit_spec _ _ _ _) rfl ?_
    refine Spec.step (State.fieldWrite_SEC_TRAP_CTRL_submit_spec _ _ _ _) rfl ?_
    exact Spec.refl
  · refine Spec.step (State.fieldWrite_SEC_TRAP_CTRL_submit_spec _ _ _ _) rfl ?_
    exact Spec.refl

theorem execNonceReq_spec : ∀ a0 a1, SpecO 0xffffff0000000000000000000001ffffffffffffffffffffffffffffffffffffffffff a1 (execNonceReq a0 a1) := by
  intro a0 a1
  delta execNonceReq
  refine SpecO.ok ?_
  refine Spec.step (State.fieldWrite_SEC_TRAP_CTRL_nonce_req_spec _ _ _ _) rfl ?_
  exact Spec.refl

theorem execTrapClose_spec : ∀ a0 a1, SpecO 0xffffff0000000000000000000001ffffffffffffffffffffffffffffffffffffffffff a1 (execTrapClose a0 a1) := by
  intro a0 a1
  delta execTrapClose
  refine SpecO.ok ?_
  refine Spec.step (State.fieldWrite_SEC_TRAP_CTRL_close_spec _ _ _ _) rfl ?_
  exact Spec.refl

theorem execSessionExpire_spec : ∀ a0, SpecO 0xb80c0c00000000000000000000000022002400000000000a0000000000000000000000 a0 (execSessionExpire a0) := by
  intro a0
  delta execSessionExpire
  refine SpecO.ok ?_
  refine Spec.step (State.trapShut_spec _) rfl ?_
  exact Spec.refl

theorem execWakeTxEnd_spec : ∀ a0, SpecO 0xf11c9e00000000000000000000000022000000850000000a0000000000200000300002 a0 (execWakeTxEnd a0) := by
  intro a0
  delta execWakeTxEnd
  refine SpecO.ok ?_
  refine Spec.fold _ ?_ ?_
  · intro t0 i1
    try dsimp -zeta only
    refine Spec.step (State.txRefresh_spec _ _) rfl ?_
    refine Spec.step (State.modTx_spec _ _ _) rfl ?_
    exact Spec.refl
  · refine Spec.wrs_cons ?_
    refine Spec.wrs_cons ?_
    refine Spec.wrs_nil ?_
    refine Spec.step (State.wr_spec _ _ _ _) rfl ?_
    refine Spec.step (State.wr_spec _ _ _ _) rfl ?_
    exact Spec.refl

theorem State.wakeTick_spec : ∀ a0 a1, Spec 0x4000000000000000000000000000000000000000000000000000000000000000000000 a0 (State.wakeTick a0 a1) := by
  intro a0 a1
  delta State.wakeTick
  exact (Spec.set_free rfl Spec.refl)

theorem execPadRelease_spec : ∀ a0 a1, SpecO 0xffffff0000000000000000000001ffffffffffffffffffffffffffffffffffffffffff a1 (execPadRelease a0 a1) := by
  intro a0 a1
  delta execPadRelease
  refine SpecO.ok ?_
  refine Spec.step (State.fieldWrite_PWR_PAD_pad_release_spec _ _ _ _) rfl ?_
  exact Spec.refl

theorem execWakeLine_spec : ∀ a0 a1 a2, SpecO 0x6608020000000000000000000000040000000850000000000000000000000000000000 a2 (execWakeLine a0 a1 a2) := by
  intro a0 a1 a2
  delta execWakeLine
  refine SpecO.ok ?_
  refine Spec.ite ?_ ?_
  · refine Spec.step (State.wake_spec _ _ _ rfl) rfl ?_
    refine Spec.step (State.wakeTick_spec _ _) rfl ?_
    exact Spec.refl
  · refine Spec.step (State.wakeTick_spec _ _) rfl ?_
    exact Spec.refl

theorem execWakePin_spec : ∀ a0, SpecO 0x2608020000000000000000000000040000000850000000000000000000000000000000 a0 (execWakePin a0) := by
  intro a0
  delta execWakePin
  refine SpecO.ok ?_
  refine Spec.ite ?_ ?_
  · refine Spec.step (State.wake_spec _ _ _ rfl) rfl ?_
    exact Spec.refl
  · exact Spec.refl

theorem execWakeClient_spec : ∀ a0 a1 a2, SpecO 0x6608020000000000000000000000040000000850000000000000000000000000000000 a2 (execWakeClient a0 a1 a2) := by
  intro a0 a1 a2
  delta execWakeClient
  refine SpecO.ok ?_
  refine Spec.ite ?_ ?_
  · extract_lets -underBinder -merge -useContext +onlyGivenNames x0
    have h1 : Spec 0x6608020000000000000000000000040000000850000000000000000000000000000000 a2 x0 := by
      refine Spec.step (State.wakeTick_spec _ _) rfl ?_
      exact Spec.refl
    clear_value x0
    extract_lets -underBinder -merge -useContext +onlyGivenNames x2
    have h3 : Spec 0x6608020000000000000000000000040000000850000000000000000000000000000000 a2 x2 := by
      refine Spec.ite ?_ ?_
      · exact h1
      · refine Spec.step (State.wr_spec _ _ _ _) rfl ?_
        exact h1
    clear_value x2
    refine Spec.step (State.wake_spec _ _ _ rfl) rfl ?_
    exact h3
  · refine Spec.step (State.wakeTick_spec _ _) rfl ?_
    exact Spec.refl

theorem execWakeTxSend_spec : ∀ a0 a1, SpecO 0xffffff0000000000000000000001ffffffffffffffffffffffffffffffffffffffffff a1 (execWakeTxSend a0 a1) := by
  intro a0 a1
  delta execWakeTxSend
  refine SpecO.ok ?_
  refine Spec.step (State.regTake_PWR_WAKE_TX_spec _ _ _ _) rfl ?_
  exact Spec.refl

theorem execWakeRtc_spec : ∀ a0 a1, SpecO 0x2608020000000000000000000000040000000850000000000000000000000000000000 a1 (execWakeRtc a0 a1) := by
  intro a0 a1
  delta execWakeRtc
  refine SpecO.ok ?_
  extract_lets -underBinder -merge -useContext +onlyGivenNames x0
  have h1 : Spec 0x2608020000000000000000000000040000000850000000000000000000000000000000 a1 x0 := by
    refine Spec.step (State.atRtc_spec _ _) rfl ?_
    exact Spec.refl
  clear_value x0
  refine Spec.ite ?_ ?_
  · refine Spec.step (State.wake_spec _ _ _ rfl) rfl ?_
    exact h1
  · exact h1

end Sys2Proof.Machine
end

