-- ==== Sys2Proof/Laws/Exec.lean ====
section
/-! SUPPORT. What a command can do: its footprint, and the lemma that exec answers a next state within it. -/
namespace Sys2Proof.Machine

/-- The footprint of a command (Laws/Spec.lean). -/
def cmdMask (c : Instr) : Nat :=
  match c with
  | .regWrite _ _ _ => 0xffffff0000000000000000000001ffffffffffffffffffffffffffffffffffffffffff
  | .cellarRegWrite _ _ _ => 0xffffff0000000000000000000001ffffffffffffffffffffffffffffffffffffffffff
  | .cellarWriteDone => 0x400000000000000000000000001ffffffffffffffffffffffffffffffffffffffffff
  | .crossingSlip _ _ => 0xf07cfe00000000000000000000008422000000000000000a000400201400a200080802
  | .txSfm _ _ => 0xf97efe00000000000000000000008422000000050000000a009481249570aa80781ba3
  | .txFrame _ _ => 0x6020f00000000000000000000000000000000000000000000000000000000000000001
  | .idleShadowApply _ => 0x100100000000000000000000000000000000004000000000010000000000000000000
  | .markerApplyNotFraming _ => 0xb01cdc00000000000000000000000022000000000000000a000000000120a800200001
  | .mapStageReport _ _ _ => 0xf13cfe00000000000000000000008422000000050000000a001000009570aa80781ba3
  | .rxFawFound _ _ _ _ => 0x100000000000000000000000000000000000000000000000000000000000000000
  | .rxFrame _ _ => 0xf14ede00000000000000000000000022000000040000000a00f481240040a800300220
  | .dlofDeclare _ => 0xb01cdc00000000000000000000000022000000000000000a000000000030a000300000
  | .dlofClear _ => 0xb00cdc00000000000000000000000022000000000000000a000000000000a000300000
  | .protNr _ => 0x100000000000000000000000000000000000000000000000000000000000000000
  | .protTxSuspect _ => 0xf07cde00000000000000000000008422000000000000000a000400201400a200080802
  | .protSwitched _ => 0xb04c1c00000000000000000000000022000000000000000a0000000010000000000000
  | .protUnprotected _ => 0xb00c1c00000000000000000000000022000000000000000a0000000010000000000000
  | .protBadCode _ => 0xb00c1c00000000000000000000000022000000000000000a0000000000000000000000
  | .protAckTimeout _ => 0xb00c1c00000000000000000000000022000000000000000a0000000000000000200000
  | .gccBlockReceive _ _ => 0xb00c1c00000000000000000000000022000000000000000a0000000000000000200000
  | .pmBoundary _ => 0xb04c1c00000000000000000000000022000000000000000a000000000000001f800000
  | .pmSyncEdge _ => 0xb04c1c00000000000000000000000022000000000000000a000000000000007f800000
  | .sigWindow _ _ => 0xb11cdc00000000000000000000000022000000050000000a000000000030a0003013e0
  | .clipWindow _ _ _ => 0xb00c0c00000000000000000000000022000000000000000a0000000000000000000060
  | .acqCdSearchEnd _ _ => 0x100000000000000000000000000000000000000000000000000000000000000020
  | .acqClkLock _ _ => 0x100000000000000000000000000000000000000000000000000000000000000020
  | .acqClkTimeout _ => 0xb00c1c00000000000000000000000022000000000000000a0000000000000000000060
  | .acqEqConverge _ => 0x100000000000000000000000000000000000000000000000000000000000000020
  | .acqEqTimeout _ => 0xb00c1c00000000000000000000000022000000000000000a0000000000000000000060
  | .acqCarLock _ _ _ => 0xf10c1c00000000000000000000000022000000000000000a0000000000000000000260
  | .acqCarTimeout _ => 0xb00c1c00000000000000000000000022000000000000000a0000000000000000000060
  | .acqUnlock _ _ => 0xf10c1c00000000000000000000000022000000050000000a00000000000000001013e0
  | .acqHoldRelock _ _ _ => 0xf10c1c00000000000000000000000022000000000000000a0000000000000000000260
  | .acqHoldTimeout _ => 0x100000000000000000000000000000000000000000000000000000000000000020
  | .marginCompute _ _ => 0xf00cdc00000000000000000000000022000000040000000a000000000000a00003f7a0
  | .marginReport _ => 0x100000000000000000000000000000000000000000000000000000000000000000
  | .pilotWaitExpire _ => 0xb10c0c00000000000000000000000022000000050000000a0000000000000000000000
  | .positionDecode _ _ => 0xf04ede00000000000000000000000022000000000000000a00f481240040a800343000
  | .fecWindowEnd _ => 0xb00cdc00000000000000000000000022000000000000000a000000000000a00003f000
  | .fecReadingReport _ => 0x100000000000000000000000000000000000000000000000000000000000000000
  | .testSyncBlock _ _ => 0x6000100000000000000000000000000000000000000000000000000000000000001000
  | .fecTestWrite _ _ => 0xffffff0000000000000000000001ffffffffffffffffffffffffffffffffffffffffff
  | .ethIngressFrame _ _ _ => 0xb00c6c00000000000000000000000022000000000000000a0000000000000800000000
  | .ethOsetChange _ _ => 0x400000000000000000000000000000000000000000000000000000000200000000
  | .osetRepeat _ => 0x400000000000000000000000000000000000000000000000000000000000000000
  | .dlmBlockHeader _ _ => 0xb02c4c00000000000000000000000022000000000000000a0000000000008800000000
  | .egressOsetTimeout _ => 0x400000000000000000000000000000000000000000000000000000000000000000
  | .gmpWordRx _ _ _ => 0xf02cee00000000000000000000000022000000000000000a000000000000a800000000
  | .flexeCalendarSwitch _ _ => 0xb02c6c00000000000000000000000022000000000000000a0000000095008000000000
  | .groupTagRx _ _ _ _ _ => 0xb00ccc00000000000000000000000022000000000000000a000000000000a800000000
  | .binsReqWrite _ _ => 0xffffff0000000000000000000001ffffffffffffffffffffffffffffffffffffffffff
  | .skewMeasure _ _ => 0x800000000000000000000000000000000000000000000000000000002000000000
  | .dskewDeclare _ _ => 0xb00ccc00000000000000000000000022000000000000000a000000000000a800000000
  | .dskewClear _ => 0xb00ccc00000000000000000000000022000000000000000a000000000000a800000000
  | .clientRxFault _ _ => 0x600000000000000000000000000000000000000000000000000000000200000000
  | .placeBlockRx _ _ _ => 0xf13cfe00000000000000000000008422000000050000000a001000009570aa80781ba3
  | .placeChanDown _ => 0xb01c1c00000000000000000000000022000000000000000a0000000000300000000000
  | .placeRxShadowLoaded _ => 0xb00c1c00000000000000000000000022000000000000000a0000000000400000000000
  | .swStart _ => 0xb03cdc00000000000000000000000022000000000000000a000000000130a000000000
  | .swReadyTimeout _ => 0xb01cdc00000000000000000000000022000000000000000a000000000130a000000000
  | .swSwitchTimeout _ => 0xb01c0c00000000000000000000000022000000000000000a0000000000300000000000
  | .peerAliveLost => 0xf17cde00000000000000000000008422000000050000000a000400201420a200380822
  | .peerAliveGained => 0x4000000000000
  | .pairLaneDown _ => 0xb02c4c00000000000000000000000022000000000000000a0000000094008000000000
  | .pairLaneUp _ => 0xb02c4c00000000000000000000000022000000000000000a0000000094008000000000
  | .hbTick => 0x2020000000000000000000000000000000000000000000000000000004000000000000
  | .hbRx _ _ => 0xf07cde00000000000000000000008422002000000000000a001400209c20a200080802
  | .hbLost => 0xf17cde00000000000000000000008422000000050000000a000400209c20a200380822
  | .pairEnWrite _ => 0xffffff0000000000000000000001ffffffffffffffffffffffffffffffffffffffffff
  | .mirRx _ => 0xf17ffe0000000000000000000001ffffffffffffffffffffffffffffffffffffffffff
  | .mackRx _ => 0x2030100000000000000000000000000000000000000000000000000000200000000000
  | .mirResend _ => 0xb02c0c00000000000000000000000022000000000000000a0000000010000000000000
  | .bulkRx _ => 0xf17ffe0000000000000000000001ffffffffffffffffffffffffffffffffffffffffff
  | .cmdClear _ => 0xf07cde00000000000000000000008422000000000000000a000400200400a200080802
  | .cmdLockout _ => 0xf07cde00000000000000000000008422000000000000000a000400200400a200080802
  | .cmdForce _ => 0xf17cde00000000000000000000008422000000050000000a000400201420a200380822
  | .cmdManual _ => 0xf17cde00000000000000000000008422000000050000000a000400201420a200380822
  | .cmdRelinquish _ => 0xf17cde00000000000000000000008422000000050000000a000400201420a200380822
  | .cackRx _ => 0x34000000000000000000000000000000000000000000000000000000000000000000
  | .cmdResend => 0x2034000000000000000000000000000000000000000000000000000000000000000000
  | .timeCellTick _ => 0x2060000000000000000000000000000000000000000000000000000000000000000000
  | .timeCellRx _ _ => 0xf06c1e00000000000000000000000022000000000000000a0004002044000000000000
  | .dyingRx _ => 0xf17cde00000000000000000000008422000000050000000a000400201420a200380822
  | .laserMatchTick => 0x2020000000000000000000000000000000000000000000000000000024000000000000
  | .bridgeSelect _ _ => 0xb02c4c00000000000000000000000022000000000000000a0000000090008000000000
  | .bridgeRestore _ => 0xb02c4c00000000000000000000000022000000000000000a0000000090008000000000
  | .compareYield _ => 0xf07cde00000000000000000000008422000000000000000a000400201400a200080802
  | .readyHoldEnd => 0x20000000000000000000000000000000000000000000000000000004000000000000
  | .txSuspectStart _ => 0x100000000000000000000000000000000000000000000000000000000000000000
  | .pairSwitchClear _ => 0xf07cde00000000000000000000008422000000000000000a000400200400a200080802
  | .pairSwitchLockout _ => 0xf07cde00000000000000000000008422000000000000000a000400200400a200080802
  | .pairSwitchForce _ => 0xf07cde00000000000000000000008422000000000000000a000400200400a200080802
  | .pairSwitchManual _ => 0xf07cde00000000000000000000008422000000000000000a000400200400a200080802
  | .todSecond => 0xf04c1e00000000000000000000000022000400000000000a0004e12400000000000000
  | .todSet _ => 0xffffff0000000000000000000001ffffffffffffffffffffffffffffffffffffffffff
  | .ppsEdge _ _ => 0x40000000000000000000000000000000000000000000000000000000000000000000
  | .refFail _ _ => 0xf04c1e00000000000000000000000022000000000000000a0004012400000000000000
  | .refQualify _ _ _ => 0xf04c1e00000000000000000000000022000000000000000a0004012400000000000000
  | .d0Lock _ => 0xf04c1e00000000000000000000000022000000000000000a0004012000000000000000
  | .d0Unlock _ => 0xf04c1e00000000000000000000000022000000000000000a0004012000000000000000
  | .loopOpenWrite _ _ => 0xffffff0000000000000000000001ffffffffffffffffffffffffffffffffffffffffff
  | .todPhaseStep _ => 0xb04c0c00000000000000000000000022000000000000000a0004002000000000000000
  | .dpllPstep _ _ => 0xffffff0000000000000000000001ffffffffffffffffffffffffffffffffffffffffff
  | .pstepDone _ => 0x40020000000000000000000000000000000000000000000000010000000000000000
  | .modelReady _ => 0x40000000000000000000000000000000000000000000000000002000000000000000
  | .modelSave _ => 0x440000000000000000000000000000000000000000000000000000000000000000000
  | .traceAcquire _ => 0x40000000000000000000000000000000000000000000000000002000000000000000
  | .holdExpire => 0xb04c0c00000000000000000000000022000000000000000a0004002000000000000000
  | .ttBlockRx _ _ _ => 0xf04c1e00000000000000000000000022000000000000000a0004812400000000000000
  | .cdHoldExpire => 0xf04c1e00000000000000000000000022000000000000000a0004012400000000000000
  | .ttDiscardEnd => 0x40000000000000000000000000000000000000000000000000000000000000000000
  | .kpFlip _ => 0xffffff0000000000000000000001ffffffffffffffffffffffffffffffffffffffffff
  | .keyLoad _ _ => 0xb02e0c00000000000000000000000022000000000000000a0400000000000000000000
  | .keyErase _ => 0xb02e0c00000000000000000000000022000000000000000a0400000000000000000000
  | .keyPromote _ => 0xb02e0c00000000000000000000000022000000000000000a0400000000000000000000
  | .lockerRelease _ _ => 0xffffff0000000000000000000001ffffffffffffffffffffffffffffffffffffffffff
  | .entropyReseed _ => 0x800000000000000000000000000000000000000000000000000000000000000000000
  | .entropyTestFail => 0xb80c0c00000000000000000000000022000000000000000a0080000000000000000000
  | .cipherHalt => 0xb80c0c00000000000000000000000022000000000000000a0080000000000000000000
  | .badAccess _ _ _ _ => 0xb4cc0c00000000000000000000000022000020000000700a0000080000000000040000
  | .ringEnable _ _ _ => 0xffffff0000000000000000000001ffffffffffffffffffffffffffffffffffffffffff
  | .ringDisable _ _ => 0xffffff0000000000000000000001ffffffffffffffffffffffffffffffffffffffffff
  | .ringQuiesced _ => 0x10000000000000000000000
  | .sqDoorbell _ _ => 0xb00c0c00000000000000000000000022000000000000000a0000000000000000000000
  | .cqDoorbell _ _ => 0xb00c0c00000000000000000000000022000000000000000a0000000000000000000000
  | .descFetch _ _ => 0xb00c0c00000000000000000000000022000000000000000b0000000000000000000000
  | .nop _ => 0xc000000000000000000000000000000000000000000000000000000000000000000
  | .modeSet _ => 0xf17cfe00000000000000000000008422000000050000000a001400209570aa80781ba3
  | .modeSetComplete => 0x14000000000000000000000000040000000000000000000000000000000000000000
  | .heldModeResume => 0xf11cde00000000000000000000000022000000050000000a000000000160a200300023
  | .powerSet _ => 0xbe1e0e00000000000000000000000422002408500000000a0400000000000000000000
  | .powerEntryDone _ _ => 0xfffede0000000000000000000000042200400b1d0180004f241401249430a2003013a2
  | .shelfWrite _ _ _ => 0x480c010000000000000000000000000000400000000000000000000000000000000000
  | .shelfCommit _ _ => 0xf80c0d00000000000000000000000022006000000000000a0000000000000000000000
  | .flashRead _ => 0xc000000000000000000000000000000000000000000000000000000000000000000
  | .flashWrite _ _ => 0xc000000000000000000000000000000000000000000000000000000000000000000
  | .flashErase _ => 0xc000000000000000000000000000000000000000000000000000000000000000000
  | .flashOpDone _ => 0x600c010000000000000000000000000000000000000000000000000000000000000000
  | .flashTimeout => 0x400c010000000000000000000000000000000000000000000000000000000000000000
  | .i3cXfer _ _ => 0xb00c0c00000000000000000000000022000000000000000a0000000000000000000000
  | .i3cXferDone _ => 0x200c000000000000000000000000000000000000000000000000000000000000000000
  | .i3cXferTimeout => 0xc000000000000000000000000000000000000000000000000000000000000000000
  | .ohbTx _ _ => 0xc100000000000000000000000000000000000000000000000000000000000000000
  | .rxBuf _ => 0xc000000000000000000000000000000000000000000000000000000000000000000
  | .timeSample _ => 0xf04c1e00000000000000000000000022000000000000000a0004012400000000000000
  | .completionWrite _ => 0xb00c0c00000000000000000000000022000000000000000a0000000000000000000000
  | .evtOverflow _ => 0x300c000000000000000000000000000200000000000000020000000000000000000000
  | .msixModTimer _ => 0x200c000000000000000000000000000000000000000000000000000000000000000000
  | .msixUnmask _ => 0x2008000000000000000000000000000000000000000000000000000000000000000000
  | .pcieLinkDown => 0xb00c1c00000000000000000000000022000000000000000f2000000000000000000000
  | .pcieHotReset => 0xb00c1c00000000000000000000000022000000000000000f2000000000000000000000
  | .pcieFlr => 0xb00c1c00000000000000000000000022000000000000000b2000000000000000000000
  | .hkSlotEnd => 0xb18c0e0000000000000000000000002200000009008000ca0000000000000000000000
  | .hkWord _ _ => 0xf18c0e000000000000000000000000220000000901a478ca0000000000000000000000
  | .hkStartReq _ => 0xffffff0000000000000000000001ffffffffffffffffffffffffffffffffffffffffff
  | .hkUrgentReq _ => 0xffffff0000000000000000000001ffffffffffffffffffffffffffffffffffffffffff
  | .hkSyncCmd _ => 0xffffff0000000000000000000001ffffffffffffffffffffffffffffffffffffffffff
  | .hkSeqStop => 0xffffff0000000000000000000001ffffffffffffffffffffffffffffffffffffffffff
  | .hkFilterWrite _ _ _ => 0xffffff0000000000000000000001ffffffffffffffffffffffffffffffffffffffffff
  | .hkChgRst _ => 0xffffff0000000000000000000001ffffffffffffffffffffffffffffffffffffffffff
  | .hkChgRstEnd _ => 0x80000000000000000000000000000000000000000080000000000000000000000000
  | .hkClamp _ => 0xb08c0c00000000000000000000000022000000000000808a0000000000000000000000
  | .hkClampRelease _ => 0x80000000000000000000000000000000000000000080000000000000000000000000
  | .hkExcMonitor _ _ _ => 0xb08c0c00000000000000000000000022000000000000808a0000000000000000000000
  | .hkLinCommit _ => 0xffffff0000000000000000000001ffffffffffffffffffffffffffffffffffffffffff
  | .hkCompatEnable => 0xffffff0000000000000000000001ffffffffffffffffffffffffffffffffffffffffff
  | .hkRawRead _ => 0x2080000000000000000000000000000000000000000070000000000000000000000000
  | .aoutOvervolt _ => 0xb00c0e00000000000000000000000022000000000080008a0000000000000000000000
  | .aoutIlim _ => 0xb00c0e00000000000000000000000022000000000080008a0000000000000000000000
  | .aoutWired _ _ => 0xb00c0e00000000000000000000000022000000000080008a0000000000000000000000
  | .almShort => 0xb00c0c00000000000000000000000022000000000100008a0000000000000000000000
  | .almStuck => 0xb00c0c00000000000000000000000022000000000100008a0000000000000000000000
  | .hkOutputRetry _ _ => 0x20000000000000000000000000000000000018000000000000000000000000000
  | .i3cEnable => 0xffffff0000000000000000000001ffffffffffffffffffffffffffffffffffffffffff
  | .i3cDisable => 0xffffff0000000000000000000001ffffffffffffffffffffffffffffffffffffffffff
  | .i3cEntdaaRoundEnd _ _ _ => 0x800000000000000000000000000000000000003c0000000000000000000000000000
  | .i3cNoTarget => 0x80000000000000000000000000000000000000040000000000000000000000000000
  | .i3cRoundAbort => 0xb00c0c00000000000000000000000022000000000400008a0000000000000000000000
  | .i3cTableFull => 0xb00c0c00000000000000000000000022000000000400008a0000000000000000000000
  | .i3cHotJoin => 0xb08c0c00000000000000000000000022000000000400008a0000000000000000000000
  | .i3cSettleTimeout => 0xb00c0c00000000000000000000000022000000000400008a0000000000000000000000
  | .i3cRescan => 0xffffff0000000000000000000001ffffffffffffffffffffffffffffffffffffffffff
  | .i3cStatusPoll _ => 0xb08c0c00000000000000000000000022000000002400008a0000000000000000000000
  | .calRefCompare _ => 0xb10c1c00000000000000000000000022000000090000000a0000000000000000000000
  | .calEstimate _ _ _ _ => 0xb18c1c000000000000000000000000220000000f0000000a0000000000000000000000
  | .calForce => 0xffffff0000000000000000000001ffffffffffffffffffffffffffffffffffffffffff
  | .pilotFailTimeout _ => 0xb00c0c00000000000000000000000022000000010000000a0000000000000000000000
  | .wakeLine _ _ => 0x6608020000000000000000000000040000000850000000000000000000000000000000
  | .wakeClient _ _ => 0x6608020000000000000000000000040000000850000000000000000000000000000000
  | .wakePin => 0x2608020000000000000000000000040000000850000000000000000000000000000000
  | .wakeRtc _ => 0x2608020000000000000000000000040000000850000000000000000000000000000000
  | .wakeTxSend _ => 0xffffff0000000000000000000001ffffffffffffffffffffffffffffffffffffffffff
  | .wakeTxEnd => 0xf11c9e00000000000000000000000022000000850000000a0000000000200000300002
  | .padRelease _ => 0xffffff0000000000000000000001ffffffffffffffffffffffffffffffffffffffffff
  | .rtcWrap => 0x400000000000000000000000000000000000800000000000000000000000000000000
  | .vbatSample _ _ => 0x400000000000000000000000000000000000a00000000000000000000000000000000
  | .tamperAssert _ _ => 0xbe0e0e00000000000000000000000422002408500000000a0400000000000000000000
  | .cellAlarmReport => 0xb40c0c00000000000000000000000022000008000000000a0000000000000000000000
  | .cellarPowerLoss => 0x400000000000000000000000001ffffffffffffffffffffffffffffffffffffffffff
  | .mothballTodLoad _ => 0xb64c0c00000000000000000000000022000000000000000a0004002000000000000000
  | .railFail _ _ => 0xff3e9f0000000000000000000000002200000b050180000f2400000004200000300002
  | .vddIoUp => 0x200020000000000000000000000100000000300000000000000000000000000000000
  | .vddSramUp => 0x200020000000000000000000000000000000200000000000000000000000000000000
  | .coldResetRelease => 0xffffff0000000000000000000001ffffffffffffffffffffffffffffffffffffffffff
  | .railStartTimeout _ _ => 0x600020000000000000000000000000000000800000000000000000000000000000000
  | .railRetry => 0x20000000000000000000000000000000000000000000000000000000000000000
  | .resetPin _ => 0xffffff0000000000000000000001ffffffffffffffffffffffffffffffffffffffffff
  | .warmReset _ => 0xffffff0000000000000000000001ffffffffffffffffffffffffffffffffffffffffff
  | .engineReset _ _ => 0xffffff0000000000000000000001ffffffffffffffffffffffffffffffffffffffffff
  | .bootComplete _ => 0xffffff0000000000000000000001ffffffffffffffffffffffffffffffffffffffffff
  | .lcReqProvision _ => 0xffffff0000000000000000000001ffffffffffffffffffffffffffffffffffffffffff
  | .lcReqSeal _ => 0xffffff0000000000000000000001ffffffffffffffffffffffffffffffffffffffffff
  | .lcReqReturn _ => 0xffffff0000000000000000000001ffffffffffffffffffffffffffffffffffffffffff
  | .lcTransitionDone => 0xb80e0d00000000000000000000000022042400000000000a0400000000000000000000
  | .nonceReq _ => 0xffffff0000000000000000000001ffffffffffffffffffffffffffffffffffffffffff
  | .nonceExpire _ => 0x800000000000000000000000000000000000000000000000000000000000000000000
  | .credentialSubmit _ _ => 0xffffff0000000000000000000001ffffffffffffffffffffffffffffffffffffffffff
  | .credentialVerified => 0xb80e0c00000000000000000000000022043400000000000a0400000000000000000000
  | .trapClose _ => 0xffffff0000000000000000000001ffffffffffffffffffffffffffffffffffffffffff
  | .sessionExpire => 0xb80c0c00000000000000000000000022002400000000000a0000000000000000000000
  | .hostPrivDrop => 0xffffff0000000000000000000001ffffffffffffffffffffffffffffffffffffffffff
  | .rbRaise _ => 0xffffff0000000000000000000001ffffffffffffffffffffffffffffffffffffffffff
  | .snapNow _ => 0xffffff0000000000000000000001ffffffffffffffffffffffffffffffffffffffffff
  | .snapPeriod _ => 0x9000000000000000000000000000000000000000000000000000000000000000000000
  | .walkEnd _ => 0xf00c0c00000000000000000000000022000000000000000a0000000000000000000000
  | .hkRecordFlush => 0xb00c0c00000000000000000000000022000000000000000a0000000000000000000000
  | .counterLatch _ => 0xffffff0000000000000000000001ffffffffffffffffffffffffffffffffffffffffff
  | .testErrRead _ _ => 0x2000000000000000000000000000000000000000000000000000000000000000040000
  | .todNsRead _ => 0x2040000000000000000000000000000000000000000000000000080000000000000000
  | .rtcLoRead _ => 0x2400000000000000000000000000000000002000000000000000000000000000000000
  | .sramScrub _ _ _ => 0xf87cfe00000000000000000000008422000000000000000a000400201400a200080802
  | .parityScan _ => 0xf07cfe00000000000000000000008422000000000000000a000400201400a200080802
  | .lockstepMismatch => 0xb83c0e00000000000000000000000422000000000000000a0000000004000000000000
  | .controlRestartDone => 0xb81c1e00000000000000000000000022000000000000000a0000000000200000000000
  | .clockLoss _ => 0xf07cde00000000000000000000008422000000000000000a000400201400a200080802
  | .laneTxFault _ => 0xf07cde00000000000000000000008422000000000000000a000400201400a200080802
  | .txMonitorFault _ => 0xf07cde00000000000000000000008422000000000000000a000400201400a200080802
  | .cellarSupplyChangeover _ => 0xa00000000000000000000000000000000
  | .pcieLinkUp _ _ _ => 0x40000000000000000000000
  | .clientRxRecover _ => 0x600000000000000000000000000000000000000000000000000000000200000000
  | .keyReservedOp _ => 0xb00c0c00000000000000000000000022000000000000000a0000000000000000000000
  | .pairSwitchReserved _ => 0xf07cde00000000000000000000008422000000000000000a000400200400a200080802
  | .badCellRx _ _ => 0xb00c0c00000000000000000000000022000000000000000a0000000000000000000000
  | .postResetLosCheck _ => 0xb01cdc00000000000000000000000022000000000000000a000000000030a000300000
  | .powerExitDone => 0xffffff0000000000000000000001ffffffffffffffffffffffffffffffffffffffffff
  | .celAck => 0x800000000000000000000000000000000

/-- Every command answers a next state, and changes nothing outside its footprint. -/
theorem exec_spec (c : Instr) (s : State) : SpecO (cmdMask c) s (exec c s) := by
  cases c with
  | regWrite a b c => exact execRegWrite_spec _ _ _ _
  | cellarRegWrite a b c => exact execCellarRegWrite_spec _ _ _ _
  | cellarWriteDone => exact execCellarWriteDone_spec _
  | crossingSlip a b => exact execCrossingSlip_spec _ _ _
  | txSfm a b => exact execTxSfm_spec _ _ _
  | txFrame a b => exact execTxFrame_spec _ _ _
  | idleShadowApply a => exact execIdleShadowApply_spec _ _
  | markerApplyNotFraming a => exact execMarkerApplyNotFraming_spec _ _
  | mapStageReport a b c => exact execMapStageReport_spec _ _ _ _
  | rxFawFound a b c d => exact execRxFawFound_spec _ _ _ _ _
  | rxFrame a b => exact execRxFrame_spec _ _ _
  | dlofDeclare a => exact execDlofDeclare_spec _ _
  | dlofClear a => exact execDlofClear_spec _ _
  | protNr a => exact execProtNr_spec _ _
  | protTxSuspect a => exact execProtTxSuspect_spec _ _
  | protSwitched a => exact execProtSwitched_spec _ _
  | protUnprotected a => exact execProtUnprotected_spec _ _
  | protBadCode a => exact execProtBadCode_spec _ _
  | protAckTimeout a => exact execProtAckTimeout_spec _ _
  | gccBlockReceive a b => exact execGccBlockReceive_spec _ _ _
  | pmBoundary a => exact execPmBoundary_spec _ _
  | pmSyncEdge a => exact execPmSyncEdge_spec _ _
  | sigWindow a b => exact execSigWindow_spec _ _ _
  | clipWindow a b c => exact execClipWindow_spec _ _ _ _
  | acqCdSearchEnd a b => exact execAcqCdSearchEnd_spec _ _ _
  | acqClkLock a b => exact execAcqClkLock_spec _ _ _
  | acqClkTimeout a => exact execAcqClkTimeout_spec _ _
  | acqEqConverge a => exact execAcqEqConverge_spec _ _
  | acqEqTimeout a => exact execAcqEqTimeout_spec _ _
  | acqCarLock a b c => exact execAcqCarLock_spec _ _ _ _
  | acqCarTimeout a => exact execAcqCarTimeout_spec _ _
  | acqUnlock a b => exact execAcqUnlock_spec _ _ _
  | acqHoldRelock a b c => exact execAcqHoldRelock_spec _ _ _ _
  | acqHoldTimeout a => exact execAcqHoldTimeout_spec _ _
  | marginCompute a b => exact execMarginCompute_spec _ _ _
  | marginReport a => exact execMarginReport_spec _ _
  | pilotWaitExpire a => exact execPilotWaitExpire_spec _ _
  | positionDecode a b => exact execPositionDecode_spec _ _ _
  | fecWindowEnd a => exact execFecWindowEnd_spec _ _
  | fecReadingReport a => exact execFecReadingReport_spec _ _
  | testSyncBlock a b => exact execTestSyncBlock_spec _ _ _
  | fecTestWrite a b => exact execFecTestWrite_spec _ _ _
  | ethIngressFrame a b c => exact execEthIngressFrame_spec _ _ _ _
  | ethOsetChange a b => exact execEthOsetChange_spec _ _ _
  | osetRepeat a => exact execOsetRepeat_spec _ _
  | dlmBlockHeader a b => exact execDlmBlockHeader_spec _ _ _
  | egressOsetTimeout a => exact execEgressOsetTimeout_spec _ _
  | gmpWordRx a b c => exact execGmpWordRx_spec _ _ _ _
  | flexeCalendarSwitch a b => exact execFlexeCalendarSwitch_spec _ _ _
  | groupTagRx a b c d e => exact execGroupTagRx_spec _ _ _ _ _ _
  | binsReqWrite a b => exact execBinsReqWrite_spec _ _ _
  | skewMeasure a b => exact execSkewMeasure_spec _ _ _
  | dskewDeclare a b => exact execDskewDeclare_spec _ _ _
  | dskewClear a => exact execDskewClear_spec _ _
  | clientRxFault a b => exact execClientRxFault_spec _ _ _
  | placeBlockRx a b c => exact execPlaceBlockRx_spec _ _ _ _
  | placeChanDown a => exact execPlaceChanDown_spec _ _
  | placeRxShadowLoaded a => exact execPlaceRxShadowLoaded_spec _ _
  | swStart a => exact execSwStart_spec _ _
  | swReadyTimeout a => exact execSwReadyTimeout_spec _ _
  | swSwitchTimeout a => exact execSwSwitchTimeout_spec _ _
  | peerAliveLost => exact execPeerAliveLost_spec _
  | peerAliveGained => exact execPeerAliveGained_spec _
  | pairLaneDown a => exact execPairLaneDown_spec _ _
  | pairLaneUp a => exact execPairLaneUp_spec _ _
  | hbTick => exact execHbTick_spec _
  | hbRx a b => exact execHbRx_spec _ _ _
  | hbLost => exact execHbLost_spec _
  | pairEnWrite a => exact execPairEnWrite_spec _ _
  | mirRx a => exact execMirRx_spec _ _
  | mackRx a => exact execMackRx_spec _ _
  | mirResend a => exact execMirResend_spec _ _
  | bulkRx a => exact execBulkRx_spec _ _
  | cmdClear a => exact execCmdClear_spec _ _
  | cmdLockout a => exact execCmdLockout_spec _ _
  | cmdForce a => exact execCmdForce_spec _ _
  | cmdManual a => exact execCmdManual_spec _ _
  | cmdRelinquish a => exact execCmdRelinquish_spec _ _
  | cackRx a => exact execCackRx_spec _ _
  | cmdResend => exact execCmdResend_spec _
  | timeCellTick a => exact execTimeCellTick_spec _ _
  | timeCellRx a b => exact execTimeCellRx_spec _ _ _
  | dyingRx a => exact execDyingRx_spec _ _
  | laserMatchTick => exact execLaserMatchTick_spec _
  | bridgeSelect a b => exact execBridgeSelect_spec _ _ _
  | bridgeRestore a => exact execBridgeRestore_spec _ _
  | compareYield a => exact execCompareYield_spec _ _
  | readyHoldEnd => exact execReadyHoldEnd_spec _
  | txSuspectStart a => exact execTxSuspectStart_spec _ _
  | pairSwitchClear a => exact execPairSwitchClear_spec _ _
  | pairSwitchLockout a => exact execPairSwitchLockout_spec _ _
  | pairSwitchForce a => exact execPairSwitchForce_spec _ _
  | pairSwitchManual a => exact execPairSwitchManual_spec _ _
  | todSecond => exact execTodSecond_spec _
  | todSet a => exact execTodSet_spec _ _
  | ppsEdge a b => exact execPpsEdge_spec _ _ _
  | refFail a b => exact execRefFail_spec _ _ _
  | refQualify a b c => exact execRefQualify_spec _ _ _ _
  | d0Lock a => exact execD0Lock_spec _ _
  | d0Unlock a => exact execD0Unlock_spec _ _
  | loopOpenWrite a b => exact execLoopOpenWrite_spec _ _ _
  | todPhaseStep a => exact execTodPhaseStep_spec _ _
  | dpllPstep a b => exact execDpllPstep_spec _ _ _
  | pstepDone a => exact execPstepDone_spec _ _
  | modelReady a => exact execModelReady_spec _ _
  | modelSave a => exact execModelSave_spec _ _
  | traceAcquire a => exact execTraceAcquire_spec _ _
  | holdExpire => exact execHoldExpire_spec _
  | ttBlockRx a b c => exact execTtBlockRx_spec _ _ _ _
  | cdHoldExpire => exact execCdHoldExpire_spec _
  | ttDiscardEnd => exact execTtDiscardEnd_spec _
  | kpFlip a => exact execKpFlip_spec _ _
  | keyLoad a b => exact execKeyLoad_spec _ _ _
  | keyErase a => exact execKeyErase_spec _ _
  | keyPromote a => exact execKeyPromote_spec _ _
  | lockerRelease a b => exact execLockerRelease_spec _ _ _
  | entropyReseed a => exact execEntropyReseed_spec _ _
  | entropyTestFail => exact execEntropyTestFail_spec _
  | cipherHalt => exact execCipherHalt_spec _
  | badAccess a b c d => exact execBadAccess_spec _ _ _ _ _
  | ringEnable a b c => exact execRingEnable_spec _ _ _ _
  | ringDisable a b => exact execRingDisable_spec _ _ _
  | ringQuiesced a => exact execRingQuiesced_spec _ _
  | sqDoorbell a b => exact execSqDoorbell_spec _ _ _
  | cqDoorbell a b => exact execCqDoorbell_spec _ _ _
  | descFetch a b => exact execDescFetch_spec _ _ _
  | nop a => exact execNop_spec _ _
  | modeSet a => exact execModeSet_spec _ _
  | modeSetComplete => exact execModeSetComplete_spec _
  | heldModeResume => exact execHeldModeResume_spec _
  | powerSet a => exact execPowerSet_spec _ _
  | powerEntryDone a b => exact execPowerEntryDone_spec _ _ _
  | shelfWrite a b c => exact execShelfWrite_spec _ _ _ _
  | shelfCommit a b => exact execShelfCommit_spec _ _ _
  | flashRead a => exact execFlashRead_spec _ _
  | flashWrite a b => exact execFlashWrite_spec _ _ _
  | flashErase a => exact execFlashErase_spec _ _
  | flashOpDone a => exact execFlashOpDone_spec _ _
  | flashTimeout => exact execFlashTimeout_spec _
  | i3cXfer a b => exact execI3cXfer_spec _ _ _
  | i3cXferDone a => exact execI3cXferDone_spec _ _
  | i3cXferTimeout => exact execI3cXferTimeout_spec _
  | ohbTx a b => exact execOhbTx_spec _ _ _
  | rxBuf a => exact execRxBuf_spec _ _
  | timeSample a => exact execTimeSample_spec _ _
  | completionWrite a => exact execCompletionWrite_spec _ _
  | evtOverflow a => exact execEvtOverflow_spec _ _
  | msixModTimer a => exact execMsixModTimer_spec _ _
  | msixUnmask a => exact execMsixUnmask_spec _ _
  | pcieLinkDown => exact execPcieLinkDown_spec _
  | pcieHotReset => exact execPcieHotReset_spec _
  | pcieFlr => exact execPcieFlr_spec _
  | hkSlotEnd => exact execHkSlotEnd_spec _
  | hkWord a b => exact execHkWord_spec _ _ _
  | hkStartReq a => exact execHkStartReq_spec _ _
  | hkUrgentReq a => exact execHkUrgentReq_spec _ _
  | hkSyncCmd a => exact execHkSyncCmd_spec _ _
  | hkSeqStop => exact execHkSeqStop_spec _
  | hkFilterWrite a b c => exact execHkFilterWrite_spec _ _ _ _
  | hkChgRst a => exact execHkChgRst_spec _ _
  | hkChgRstEnd a => exact execHkChgRstEnd_spec _ _
  | hkClamp a => exact execHkClamp_spec _ _
  | hkClampRelease a => exact execHkClampRelease_spec _ _
  | hkExcMonitor a b c => exact execHkExcMonitor_spec _ _ _ _
  | hkLinCommit a => exact execHkLinCommit_spec _ _
  | hkCompatEnable => exact execHkCompatEnable_spec _
  | hkRawRead a => exact execHkRawRead_spec _ _
  | aoutOvervolt a => exact execAoutOvervolt_spec _ _
  | aoutIlim a => exact execAoutIlim_spec _ _
  | aoutWired a b => exact execAoutWired_spec _ _ _
  | almShort => exact execAlmShort_spec _
  | almStuck => exact execAlmStuck_spec _
  | hkOutputRetry a b => exact execHkOutputRetry_spec _ _ _
  | i3cEnable => exact execI3cEnable_spec _
  | i3cDisable => exact execI3cDisable_spec _
  | i3cEntdaaRoundEnd a b c => exact execI3cEntdaaRoundEnd_spec _ _ _ _
  | i3cNoTarget => exact execI3cNoTarget_spec _
  | i3cRoundAbort => exact execI3cRoundAbort_spec _
  | i3cTableFull => exact execI3cTableFull_spec _
  | i3cHotJoin => exact execI3cHotJoin_spec _
  | i3cSettleTimeout => exact execI3cSettleTimeout_spec _
  | i3cRescan => exact execI3cRescan_spec _
  | i3cStatusPoll a => exact execI3cStatusPoll_spec _ _
  | calRefCompare a => exact execCalRefCompare_spec _ _
  | calEstimate a b c d => exact execCalEstimate_spec _ _ _ _ _
  | calForce => exact execCalForce_spec _
  | pilotFailTimeout a => exact execPilotFailTimeout_spec _ _
  | wakeLine a b => exact execWakeLine_spec _ _ _
  | wakeClient a b => exact execWakeClient_spec _ _ _
  | wakePin => exact execWakePin_spec _
  | wakeRtc a => exact execWakeRtc_spec _ _
  | wakeTxSend a => exact execWakeTxSend_spec _ _
  | wakeTxEnd => exact execWakeTxEnd_spec _
  | padRelease a => exact execPadRelease_spec _ _
  | rtcWrap => exact execRtcWrap_spec _
  | vbatSample a b => exact execVbatSample_spec _ _ _
  | tamperAssert a b => exact execTamperAssert_spec _ _ _
  | cellAlarmReport => exact execCellAlarmReport_spec _
  | cellarPowerLoss => exact execCellarPowerLoss_spec _
  | mothballTodLoad a => exact execMothballTodLoad_spec _ _
  | railFail a b => exact execRailFail_spec _ _ _
  | vddIoUp => exact execVddIoUp_spec _
  | vddSramUp => exact execVddSramUp_spec _
  | coldResetRelease => exact execColdResetRelease_spec _
  | railStartTimeout a b => exact execRailStartTimeout_spec _ _ _
  | railRetry => exact execRailRetry_spec _
  | resetPin a => exact execResetPin_spec _ _
  | warmReset a => exact execWarmReset_spec _ _
  | engineReset a b => exact execEngineReset_spec _ _ _
  | bootComplete a => exact execBootComplete_spec _ _
  | lcReqProvision a => exact execLcReqProvision_spec _ _
  | lcReqSeal a => exact execLcReqSeal_spec _ _
  | lcReqReturn a => exact execLcReqReturn_spec _ _
  | lcTransitionDone => exact execLcTransitionDone_spec _
  | nonceReq a => exact execNonceReq_spec _ _
  | nonceExpire a => exact execNonceExpire_spec _ _
  | credentialSubmit a b => exact execCredentialSubmit_spec _ _ _
  | credentialVerified => exact execCredentialVerified_spec _
  | trapClose a => exact execTrapClose_spec _ _
  | sessionExpire => exact execSessionExpire_spec _
  | hostPrivDrop => exact execHostPrivDrop_spec _
  | rbRaise a => exact execRbRaise_spec _ _
  | snapNow a => exact execSnapNow_spec _ _
  | snapPeriod a => exact execSnapPeriod_spec _ _
  | walkEnd a => exact execWalkEnd_spec _ _
  | hkRecordFlush => exact execHkRecordFlush_spec _
  | counterLatch a => exact execCounterLatch_spec _ _
  | testErrRead a b => exact execTestErrRead_spec _ _ _
  | todNsRead a => exact execTodNsRead_spec _ _
  | rtcLoRead a => exact execRtcLoRead_spec _ _
  | sramScrub a b c => exact execSramScrub_spec _ _ _ _
  | parityScan a => exact execParityScan_spec _ _
  | lockstepMismatch => exact execLockstepMismatch_spec _
  | controlRestartDone => exact execControlRestartDone_spec _
  | clockLoss a => exact execClockLoss_spec _ _
  | laneTxFault a => exact execLaneTxFault_spec _ _
  | txMonitorFault a => exact execTxMonitorFault_spec _ _
  | cellarSupplyChangeover a => exact execCellarSupplyChangeover_spec _ _
  | pcieLinkUp a b c => exact execPcieLinkUp_spec _ _ _ _
  | clientRxRecover a => exact execClientRxRecover_spec _ _
  | keyReservedOp a => exact execKeyReservedOp_spec _ _
  | pairSwitchReserved a => exact execPairSwitchReserved_spec _ _
  | badCellRx a b => exact execBadCellRx_spec _ _ _
  | postResetLosCheck a => exact execPostResetLosCheck_spec _ _
  | powerExitDone => exact execPowerExitDone_spec _
  | celAck => exact execCelAck_spec _

theorem exec_next (c : Instr) (s : State) : ∃ t, exec c s = .next t := by
  obtain ⟨t, h, _⟩ := exec_spec c s
  exact ⟨t, h⟩

theorem exec_change {c : Instr} {s t : State} (h : exec c s = .next t) : Spec (cmdMask c) s t := (exec_spec c s).out h

end Sys2Proof.Machine
end

