-- ==== Sys2Proof/Laws/PerInstr.lean ====
section
/-! SUPPORT. No family of statements is made per constructor: LAWS.json names none, and the statements of Certificates/Slice0 name the commands they cover. -/
end

