-- ==== Sys2Proof/Laws/State.lean ====
section
/-! SUPPORT. One lemma per field per update, true by rfl: what an update of one part leaves of the others. -/
namespace Sys2Proof.Machine

variable (s : State)

@[simp] theorem State.wr_fuse (f : Fld) (i v : Nat) : (s.wr f i v).fuse = s.fuse := rfl
@[simp] theorem State.wr_pin (f : Fld) (i v : Nat) : (s.wr f i v).pin = s.pin := rfl
@[simp] theorem State.wr_cnt (f : Fld) (i v : Nat) : (s.wr f i v).cnt = s.cnt := rfl
@[simp] theorem State.wr_wrapc (f : Fld) (i v : Nat) : (s.wr f i v).wrapc = s.wrapc := rfl
@[simp] theorem State.wr_eng (f : Fld) (i v : Nat) : (s.wr f i v).eng = s.eng := rfl
@[simp] theorem State.wr_port (f : Fld) (i v : Nat) : (s.wr f i v).port = s.port := rfl
@[simp] theorem State.wr_trib (f : Fld) (i v : Nat) : (s.wr f i v).trib = s.trib := rfl
@[simp] theorem State.wr_grp (f : Fld) (i v : Nat) : (s.wr f i v).grp = s.grp := rfl
@[simp] theorem State.wr_bins (f : Fld) (i v : Nat) : (s.wr f i v).bins = s.bins := rfl
@[simp] theorem State.wr_lock (f : Fld) (i v : Nat) : (s.wr f i v).lock = s.lock := rfl
@[simp] theorem State.wr_ring (f : Fld) (i v : Nat) : (s.wr f i v).ring = s.ring := rfl
@[simp] theorem State.wr_host (f : Fld) (i v : Nat) : (s.wr f i v).host = s.host := rfl
@[simp] theorem State.wr_mode (f : Fld) (i v : Nat) : (s.wr f i v).mode = s.mode := rfl
@[simp] theorem State.wr_pair (f : Fld) (i v : Nat) : (s.wr f i v).pair = s.pair := rfl
@[simp] theorem State.wr_tim (f : Fld) (i v : Nat) : (s.wr f i v).tim = s.tim := rfl
@[simp] theorem State.wr_hk (f : Fld) (i v : Nat) : (s.wr f i v).hk = s.hk := rfl
@[simp] theorem State.wr_cal (f : Fld) (i v : Nat) : (s.wr f i v).cal = s.cal := rfl
@[simp] theorem State.wr_pwr (f : Fld) (i v : Nat) : (s.wr f i v).pwr = s.pwr := rfl
@[simp] theorem State.wr_cel (f : Fld) (i v : Nat) : (s.wr f i v).cel = s.cel := rfl
@[simp] theorem State.wr_sec (f : Fld) (i v : Nat) : (s.wr f i v).sec = s.sec := rfl
@[simp] theorem State.wr_perf (f : Fld) (i v : Nat) : (s.wr f i v).perf = s.perf := rfl
@[simp] theorem State.wr_out (f : Fld) (i v : Nat) : (s.wr f i v).out = s.out := rfl
@[simp] theorem State.wr_free (f : Fld) (i v : Nat) : (s.wr f i v).free = s.free := rfl
@[simp] theorem State.wr_wlog (f : Fld) (i v : Nat) : (s.wr f i v).wlog = s.wlog := rfl
@[simp] theorem State.wr_pending (f : Fld) (i v : Nat) : (s.wr f i v).pending = s.pending := rfl
@[simp] theorem State.engOf_wr (f : Fld) (i v : Nat) (k : Nat) : (s.wr f i v).engOf k = s.engOf k := rfl
@[simp] theorem State.acqOf_wr (f : Fld) (i v : Nat) (k : Nat) : (s.wr f i v).acqOf k = s.acqOf k := rfl
@[simp] theorem State.fecOf_wr (f : Fld) (i v : Nat) (k : Nat) : (s.wr f i v).fecOf k = s.fecOf k := rfl
@[simp] theorem State.txOf_wr (f : Fld) (i v : Nat) (k : Nat) : (s.wr f i v).txOf k = s.txOf k := rfl
@[simp] theorem State.rxOf_wr (f : Fld) (i v : Nat) (k : Nat) : (s.wr f i v).rxOf k = s.rxOf k := rfl
@[simp] theorem State.pmOf_wr (f : Fld) (i v : Nat) (k : Nat) : (s.wr f i v).pmOf k = s.pmOf k := rfl
@[simp] theorem State.skOf_wr (f : Fld) (i v : Nat) (k : Nat) : (s.wr f i v).skOf k = s.skOf k := rfl
@[simp] theorem State.portOf_wr (f : Fld) (i v : Nat) (k : Nat) : (s.wr f i v).portOf k = s.portOf k := rfl
@[simp] theorem State.tribOf_wr (f : Fld) (i v : Nat) (k : Nat) : (s.wr f i v).tribOf k = s.tribOf k := rfl
@[simp] theorem State.grpOf_wr (f : Fld) (i v : Nat) (k : Nat) : (s.wr f i v).grpOf k = s.grpOf k := rfl
@[simp] theorem State.lockOf_wr (f : Fld) (i v : Nat) (k : Nat) : (s.wr f i v).lockOf k = s.lockOf k := rfl
@[simp] theorem State.ringOf_wr (f : Fld) (i v : Nat) (k : Nat) : (s.wr f i v).ringOf k = s.ringOf k := rfl
@[simp] theorem State.cntOf_wr (f : Fld) (i v : Nat) (k : Nat) : (s.wr f i v).cntOf k = s.cntOf k := rfl

@[simp] theorem State.wrInt_fuse (f : Fld) (i : Nat) (v : Int) : (s.wrInt f i v).fuse = s.fuse := rfl
@[simp] theorem State.wrInt_pin (f : Fld) (i : Nat) (v : Int) : (s.wrInt f i v).pin = s.pin := rfl
@[simp] theorem State.wrInt_cnt (f : Fld) (i : Nat) (v : Int) : (s.wrInt f i v).cnt = s.cnt := rfl
@[simp] theorem State.wrInt_wrapc (f : Fld) (i : Nat) (v : Int) : (s.wrInt f i v).wrapc = s.wrapc := rfl
@[simp] theorem State.wrInt_eng (f : Fld) (i : Nat) (v : Int) : (s.wrInt f i v).eng = s.eng := rfl
@[simp] theorem State.wrInt_port (f : Fld) (i : Nat) (v : Int) : (s.wrInt f i v).port = s.port := rfl
@[simp] theorem State.wrInt_trib (f : Fld) (i : Nat) (v : Int) : (s.wrInt f i v).trib = s.trib := rfl
@[simp] theorem State.wrInt_grp (f : Fld) (i : Nat) (v : Int) : (s.wrInt f i v).grp = s.grp := rfl
@[simp] theorem State.wrInt_bins (f : Fld) (i : Nat) (v : Int) : (s.wrInt f i v).bins = s.bins := rfl
@[simp] theorem State.wrInt_lock (f : Fld) (i : Nat) (v : Int) : (s.wrInt f i v).lock = s.lock := rfl
@[simp] theorem State.wrInt_ring (f : Fld) (i : Nat) (v : Int) : (s.wrInt f i v).ring = s.ring := rfl
@[simp] theorem State.wrInt_host (f : Fld) (i : Nat) (v : Int) : (s.wrInt f i v).host = s.host := rfl
@[simp] theorem State.wrInt_mode (f : Fld) (i : Nat) (v : Int) : (s.wrInt f i v).mode = s.mode := rfl
@[simp] theorem State.wrInt_pair (f : Fld) (i : Nat) (v : Int) : (s.wrInt f i v).pair = s.pair := rfl
@[simp] theorem State.wrInt_tim (f : Fld) (i : Nat) (v : Int) : (s.wrInt f i v).tim = s.tim := rfl
@[simp] theorem State.wrInt_hk (f : Fld) (i : Nat) (v : Int) : (s.wrInt f i v).hk = s.hk := rfl
@[simp] theorem State.wrInt_cal (f : Fld) (i : Nat) (v : Int) : (s.wrInt f i v).cal = s.cal := rfl
@[simp] theorem State.wrInt_pwr (f : Fld) (i : Nat) (v : Int) : (s.wrInt f i v).pwr = s.pwr := rfl
@[simp] theorem State.wrInt_cel (f : Fld) (i : Nat) (v : Int) : (s.wrInt f i v).cel = s.cel := rfl
@[simp] theorem State.wrInt_sec (f : Fld) (i : Nat) (v : Int) : (s.wrInt f i v).sec = s.sec := rfl
@[simp] theorem State.wrInt_perf (f : Fld) (i : Nat) (v : Int) : (s.wrInt f i v).perf = s.perf := rfl
@[simp] theorem State.wrInt_out (f : Fld) (i : Nat) (v : Int) : (s.wrInt f i v).out = s.out := rfl
@[simp] theorem State.wrInt_free (f : Fld) (i : Nat) (v : Int) : (s.wrInt f i v).free = s.free := rfl
@[simp] theorem State.wrInt_wlog (f : Fld) (i : Nat) (v : Int) : (s.wrInt f i v).wlog = s.wlog := rfl
@[simp] theorem State.wrInt_pending (f : Fld) (i : Nat) (v : Int) : (s.wrInt f i v).pending = s.pending := rfl
@[simp] theorem State.engOf_wrInt (f : Fld) (i : Nat) (v : Int) (k : Nat) : (s.wrInt f i v).engOf k = s.engOf k := rfl
@[simp] theorem State.acqOf_wrInt (f : Fld) (i : Nat) (v : Int) (k : Nat) : (s.wrInt f i v).acqOf k = s.acqOf k := rfl
@[simp] theorem State.fecOf_wrInt (f : Fld) (i : Nat) (v : Int) (k : Nat) : (s.wrInt f i v).fecOf k = s.fecOf k := rfl
@[simp] theorem State.txOf_wrInt (f : Fld) (i : Nat) (v : Int) (k : Nat) : (s.wrInt f i v).txOf k = s.txOf k := rfl
@[simp] theorem State.rxOf_wrInt (f : Fld) (i : Nat) (v : Int) (k : Nat) : (s.wrInt f i v).rxOf k = s.rxOf k := rfl
@[simp] theorem State.pmOf_wrInt (f : Fld) (i : Nat) (v : Int) (k : Nat) : (s.wrInt f i v).pmOf k = s.pmOf k := rfl
@[simp] theorem State.skOf_wrInt (f : Fld) (i : Nat) (v : Int) (k : Nat) : (s.wrInt f i v).skOf k = s.skOf k := rfl
@[simp] theorem State.portOf_wrInt (f : Fld) (i : Nat) (v : Int) (k : Nat) : (s.wrInt f i v).portOf k = s.portOf k := rfl
@[simp] theorem State.tribOf_wrInt (f : Fld) (i : Nat) (v : Int) (k : Nat) : (s.wrInt f i v).tribOf k = s.tribOf k := rfl
@[simp] theorem State.grpOf_wrInt (f : Fld) (i : Nat) (v : Int) (k : Nat) : (s.wrInt f i v).grpOf k = s.grpOf k := rfl
@[simp] theorem State.lockOf_wrInt (f : Fld) (i : Nat) (v : Int) (k : Nat) : (s.wrInt f i v).lockOf k = s.lockOf k := rfl
@[simp] theorem State.ringOf_wrInt (f : Fld) (i : Nat) (v : Int) (k : Nat) : (s.wrInt f i v).ringOf k = s.ringOf k := rfl
@[simp] theorem State.cntOf_wrInt (f : Fld) (i : Nat) (v : Int) (k : Nat) : (s.wrInt f i v).cntOf k = s.cntOf k := rfl

@[simp] theorem State.tick_fuse  : (s.tick ).fuse = s.fuse := rfl
@[simp] theorem State.tick_pin  : (s.tick ).pin = s.pin := rfl
@[simp] theorem State.tick_regs  : (s.tick ).regs = s.regs := rfl
@[simp] theorem State.tick_cnt  : (s.tick ).cnt = s.cnt := rfl
@[simp] theorem State.tick_wrapc  : (s.tick ).wrapc = s.wrapc := rfl
@[simp] theorem State.tick_eng  : (s.tick ).eng = s.eng := rfl
@[simp] theorem State.tick_port  : (s.tick ).port = s.port := rfl
@[simp] theorem State.tick_trib  : (s.tick ).trib = s.trib := rfl
@[simp] theorem State.tick_grp  : (s.tick ).grp = s.grp := rfl
@[simp] theorem State.tick_bins  : (s.tick ).bins = s.bins := rfl
@[simp] theorem State.tick_lock  : (s.tick ).lock = s.lock := rfl
@[simp] theorem State.tick_ring  : (s.tick ).ring = s.ring := rfl
@[simp] theorem State.tick_host  : (s.tick ).host = s.host := rfl
@[simp] theorem State.tick_mode  : (s.tick ).mode = s.mode := rfl
@[simp] theorem State.tick_pair  : (s.tick ).pair = s.pair := rfl
@[simp] theorem State.tick_tim  : (s.tick ).tim = s.tim := rfl
@[simp] theorem State.tick_hk  : (s.tick ).hk = s.hk := rfl
@[simp] theorem State.tick_cal  : (s.tick ).cal = s.cal := rfl
@[simp] theorem State.tick_pwr  : (s.tick ).pwr = s.pwr := rfl
@[simp] theorem State.tick_cel  : (s.tick ).cel = s.cel := rfl
@[simp] theorem State.tick_sec  : (s.tick ).sec = s.sec := rfl
@[simp] theorem State.tick_perf  : (s.tick ).perf = s.perf := rfl
@[simp] theorem State.tick_out  : (s.tick ).out = s.out := rfl
@[simp] theorem State.tick_wlog  : (s.tick ).wlog = s.wlog := rfl
@[simp] theorem State.tick_pending  : (s.tick ).pending = s.pending := rfl
@[simp] theorem State.engOf_tick  (k : Nat) : (s.tick ).engOf k = s.engOf k := rfl
@[simp] theorem State.acqOf_tick  (k : Nat) : (s.tick ).acqOf k = s.acqOf k := rfl
@[simp] theorem State.fecOf_tick  (k : Nat) : (s.tick ).fecOf k = s.fecOf k := rfl
@[simp] theorem State.txOf_tick  (k : Nat) : (s.tick ).txOf k = s.txOf k := rfl
@[simp] theorem State.rxOf_tick  (k : Nat) : (s.tick ).rxOf k = s.rxOf k := rfl
@[simp] theorem State.pmOf_tick  (k : Nat) : (s.tick ).pmOf k = s.pmOf k := rfl
@[simp] theorem State.skOf_tick  (k : Nat) : (s.tick ).skOf k = s.skOf k := rfl
@[simp] theorem State.portOf_tick  (k : Nat) : (s.tick ).portOf k = s.portOf k := rfl
@[simp] theorem State.tribOf_tick  (k : Nat) : (s.tick ).tribOf k = s.tribOf k := rfl
@[simp] theorem State.grpOf_tick  (k : Nat) : (s.tick ).grpOf k = s.grpOf k := rfl
@[simp] theorem State.lockOf_tick  (k : Nat) : (s.tick ).lockOf k = s.lockOf k := rfl
@[simp] theorem State.ringOf_tick  (k : Nat) : (s.tick ).ringOf k = s.ringOf k := rfl
@[simp] theorem State.cntOf_tick  (k : Nat) : (s.tick ).cntOf k = s.cntOf k := rfl
@[simp] theorem State.rd_tick  (f : Fld) (j : Nat) : (s.tick ).rd f j = s.rd f j := rfl

@[simp] theorem State.setEng_fuse (n : Nat) (e : Engine) : (s.setEng n e).fuse = s.fuse := rfl
@[simp] theorem State.setEng_pin (n : Nat) (e : Engine) : (s.setEng n e).pin = s.pin := rfl
@[simp] theorem State.setEng_regs (n : Nat) (e : Engine) : (s.setEng n e).regs = s.regs := rfl
@[simp] theorem State.setEng_cnt (n : Nat) (e : Engine) : (s.setEng n e).cnt = s.cnt := rfl
@[simp] theorem State.setEng_wrapc (n : Nat) (e : Engine) : (s.setEng n e).wrapc = s.wrapc := rfl
@[simp] theorem State.setEng_port (n : Nat) (e : Engine) : (s.setEng n e).port = s.port := rfl
@[simp] theorem State.setEng_trib (n : Nat) (e : Engine) : (s.setEng n e).trib = s.trib := rfl
@[simp] theorem State.setEng_grp (n : Nat) (e : Engine) : (s.setEng n e).grp = s.grp := rfl
@[simp] theorem State.setEng_bins (n : Nat) (e : Engine) : (s.setEng n e).bins = s.bins := rfl
@[simp] theorem State.setEng_lock (n : Nat) (e : Engine) : (s.setEng n e).lock = s.lock := rfl
@[simp] theorem State.setEng_ring (n : Nat) (e : Engine) : (s.setEng n e).ring = s.ring := rfl
@[simp] theorem State.setEng_host (n : Nat) (e : Engine) : (s.setEng n e).host = s.host := rfl
@[simp] theorem State.setEng_mode (n : Nat) (e : Engine) : (s.setEng n e).mode = s.mode := rfl
@[simp] theorem State.setEng_pair (n : Nat) (e : Engine) : (s.setEng n e).pair = s.pair := rfl
@[simp] theorem State.setEng_tim (n : Nat) (e : Engine) : (s.setEng n e).tim = s.tim := rfl
@[simp] theorem State.setEng_hk (n : Nat) (e : Engine) : (s.setEng n e).hk = s.hk := rfl
@[simp] theorem State.setEng_cal (n : Nat) (e : Engine) : (s.setEng n e).cal = s.cal := rfl
@[simp] theorem State.setEng_pwr (n : Nat) (e : Engine) : (s.setEng n e).pwr = s.pwr := rfl
@[simp] theorem State.setEng_cel (n : Nat) (e : Engine) : (s.setEng n e).cel = s.cel := rfl
@[simp] theorem State.setEng_sec (n : Nat) (e : Engine) : (s.setEng n e).sec = s.sec := rfl
@[simp] theorem State.setEng_perf (n : Nat) (e : Engine) : (s.setEng n e).perf = s.perf := rfl
@[simp] theorem State.setEng_out (n : Nat) (e : Engine) : (s.setEng n e).out = s.out := rfl
@[simp] theorem State.setEng_free (n : Nat) (e : Engine) : (s.setEng n e).free = s.free := rfl
@[simp] theorem State.setEng_wlog (n : Nat) (e : Engine) : (s.setEng n e).wlog = s.wlog := rfl
@[simp] theorem State.setEng_pending (n : Nat) (e : Engine) : (s.setEng n e).pending = s.pending := rfl
@[simp] theorem State.portOf_setEng (n : Nat) (e : Engine) (k : Nat) : (s.setEng n e).portOf k = s.portOf k := rfl
@[simp] theorem State.tribOf_setEng (n : Nat) (e : Engine) (k : Nat) : (s.setEng n e).tribOf k = s.tribOf k := rfl
@[simp] theorem State.grpOf_setEng (n : Nat) (e : Engine) (k : Nat) : (s.setEng n e).grpOf k = s.grpOf k := rfl
@[simp] theorem State.lockOf_setEng (n : Nat) (e : Engine) (k : Nat) : (s.setEng n e).lockOf k = s.lockOf k := rfl
@[simp] theorem State.ringOf_setEng (n : Nat) (e : Engine) (k : Nat) : (s.setEng n e).ringOf k = s.ringOf k := rfl
@[simp] theorem State.cntOf_setEng (n : Nat) (e : Engine) (k : Nat) : (s.setEng n e).cntOf k = s.cntOf k := rfl
@[simp] theorem State.rd_setEng (n : Nat) (e : Engine) (f : Fld) (j : Nat) : (s.setEng n e).rd f j = s.rd f j := rfl

@[simp] theorem State.modEng_fuse (n : Nat) (g : Engine → Engine) : (s.modEng n g).fuse = s.fuse := rfl
@[simp] theorem State.modEng_pin (n : Nat) (g : Engine → Engine) : (s.modEng n g).pin = s.pin := rfl
@[simp] theorem State.modEng_regs (n : Nat) (g : Engine → Engine) : (s.modEng n g).regs = s.regs := rfl
@[simp] theorem State.modEng_cnt (n : Nat) (g : Engine → Engine) : (s.modEng n g).cnt = s.cnt := rfl
@[simp] theorem State.modEng_wrapc (n : Nat) (g : Engine → Engine) : (s.modEng n g).wrapc = s.wrapc := rfl
@[simp] theorem State.modEng_port (n : Nat) (g : Engine → Engine) : (s.modEng n g).port = s.port := rfl
@[simp] theorem State.modEng_trib (n : Nat) (g : Engine → Engine) : (s.modEng n g).trib = s.trib := rfl
@[simp] theorem State.modEng_grp (n : Nat) (g : Engine → Engine) : (s.modEng n g).grp = s.grp := rfl
@[simp] theorem State.modEng_bins (n : Nat) (g : Engine → Engine) : (s.modEng n g).bins = s.bins := rfl
@[simp] theorem State.modEng_lock (n : Nat) (g : Engine → Engine) : (s.modEng n g).lock = s.lock := rfl
@[simp] theorem State.modEng_ring (n : Nat) (g : Engine → Engine) : (s.modEng n g).ring = s.ring := rfl
@[simp] theorem State.modEng_host (n : Nat) (g : Engine → Engine) : (s.modEng n g).host = s.host := rfl
@[simp] theorem State.modEng_mode (n : Nat) (g : Engine → Engine) : (s.modEng n g).mode = s.mode := rfl
@[simp] theorem State.modEng_pair (n : Nat) (g : Engine → Engine) : (s.modEng n g).pair = s.pair := rfl
@[simp] theorem State.modEng_tim (n : Nat) (g : Engine → Engine) : (s.modEng n g).tim = s.tim := rfl
@[simp] theorem State.modEng_hk (n : Nat) (g : Engine → Engine) : (s.modEng n g).hk = s.hk := rfl
@[simp] theorem State.modEng_cal (n : Nat) (g : Engine → Engine) : (s.modEng n g).cal = s.cal := rfl
@[simp] theorem State.modEng_pwr (n : Nat) (g : Engine → Engine) : (s.modEng n g).pwr = s.pwr := rfl
@[simp] theorem State.modEng_cel (n : Nat) (g : Engine → Engine) : (s.modEng n g).cel = s.cel := rfl
@[simp] theorem State.modEng_sec (n : Nat) (g : Engine → Engine) : (s.modEng n g).sec = s.sec := rfl
@[simp] theorem State.modEng_perf (n : Nat) (g : Engine → Engine) : (s.modEng n g).perf = s.perf := rfl
@[simp] theorem State.modEng_out (n : Nat) (g : Engine → Engine) : (s.modEng n g).out = s.out := rfl
@[simp] theorem State.modEng_free (n : Nat) (g : Engine → Engine) : (s.modEng n g).free = s.free := rfl
@[simp] theorem State.modEng_wlog (n : Nat) (g : Engine → Engine) : (s.modEng n g).wlog = s.wlog := rfl
@[simp] theorem State.modEng_pending (n : Nat) (g : Engine → Engine) : (s.modEng n g).pending = s.pending := rfl
@[simp] theorem State.portOf_modEng (n : Nat) (g : Engine → Engine) (k : Nat) : (s.modEng n g).portOf k = s.portOf k := rfl
@[simp] theorem State.tribOf_modEng (n : Nat) (g : Engine → Engine) (k : Nat) : (s.modEng n g).tribOf k = s.tribOf k := rfl
@[simp] theorem State.grpOf_modEng (n : Nat) (g : Engine → Engine) (k : Nat) : (s.modEng n g).grpOf k = s.grpOf k := rfl
@[simp] theorem State.lockOf_modEng (n : Nat) (g : Engine → Engine) (k : Nat) : (s.modEng n g).lockOf k = s.lockOf k := rfl
@[simp] theorem State.ringOf_modEng (n : Nat) (g : Engine → Engine) (k : Nat) : (s.modEng n g).ringOf k = s.ringOf k := rfl
@[simp] theorem State.cntOf_modEng (n : Nat) (g : Engine → Engine) (k : Nat) : (s.modEng n g).cntOf k = s.cntOf k := rfl
@[simp] theorem State.rd_modEng (n : Nat) (g : Engine → Engine) (f : Fld) (j : Nat) : (s.modEng n g).rd f j = s.rd f j := rfl

@[simp] theorem State.modAcq_fuse (n : Nat) (g : EngAcq → EngAcq) : (s.modAcq n g).fuse = s.fuse := rfl
@[simp] theorem State.modAcq_pin (n : Nat) (g : EngAcq → EngAcq) : (s.modAcq n g).pin = s.pin := rfl
@[simp] theorem State.modAcq_regs (n : Nat) (g : EngAcq → EngAcq) : (s.modAcq n g).regs = s.regs := rfl
@[simp] theorem State.modAcq_cnt (n : Nat) (g : EngAcq → EngAcq) : (s.modAcq n g).cnt = s.cnt := rfl
@[simp] theorem State.modAcq_wrapc (n : Nat) (g : EngAcq → EngAcq) : (s.modAcq n g).wrapc = s.wrapc := rfl
@[simp] theorem State.modAcq_port (n : Nat) (g : EngAcq → EngAcq) : (s.modAcq n g).port = s.port := rfl
@[simp] theorem State.modAcq_trib (n : Nat) (g : EngAcq → EngAcq) : (s.modAcq n g).trib = s.trib := rfl
@[simp] theorem State.modAcq_grp (n : Nat) (g : EngAcq → EngAcq) : (s.modAcq n g).grp = s.grp := rfl
@[simp] theorem State.modAcq_bins (n : Nat) (g : EngAcq → EngAcq) : (s.modAcq n g).bins = s.bins := rfl
@[simp] theorem State.modAcq_lock (n : Nat) (g : EngAcq → EngAcq) : (s.modAcq n g).lock = s.lock := rfl
@[simp] theorem State.modAcq_ring (n : Nat) (g : EngAcq → EngAcq) : (s.modAcq n g).ring = s.ring := rfl
@[simp] theorem State.modAcq_host (n : Nat) (g : EngAcq → EngAcq) : (s.modAcq n g).host = s.host := rfl
@[simp] theorem State.modAcq_mode (n : Nat) (g : EngAcq → EngAcq) : (s.modAcq n g).mode = s.mode := rfl
@[simp] theorem State.modAcq_pair (n : Nat) (g : EngAcq → EngAcq) : (s.modAcq n g).pair = s.pair := rfl
@[simp] theorem State.modAcq_tim (n : Nat) (g : EngAcq → EngAcq) : (s.modAcq n g).tim = s.tim := rfl
@[simp] theorem State.modAcq_hk (n : Nat) (g : EngAcq → EngAcq) : (s.modAcq n g).hk = s.hk := rfl
@[simp] theorem State.modAcq_cal (n : Nat) (g : EngAcq → EngAcq) : (s.modAcq n g).cal = s.cal := rfl
@[simp] theorem State.modAcq_pwr (n : Nat) (g : EngAcq → EngAcq) : (s.modAcq n g).pwr = s.pwr := rfl
@[simp] theorem State.modAcq_cel (n : Nat) (g : EngAcq → EngAcq) : (s.modAcq n g).cel = s.cel := rfl
@[simp] theorem State.modAcq_sec (n : Nat) (g : EngAcq → EngAcq) : (s.modAcq n g).sec = s.sec := rfl
@[simp] theorem State.modAcq_perf (n : Nat) (g : EngAcq → EngAcq) : (s.modAcq n g).perf = s.perf := rfl
@[simp] theorem State.modAcq_out (n : Nat) (g : EngAcq → EngAcq) : (s.modAcq n g).out = s.out := rfl
@[simp] theorem State.modAcq_free (n : Nat) (g : EngAcq → EngAcq) : (s.modAcq n g).free = s.free := rfl
@[simp] theorem State.modAcq_wlog (n : Nat) (g : EngAcq → EngAcq) : (s.modAcq n g).wlog = s.wlog := rfl
@[simp] theorem State.modAcq_pending (n : Nat) (g : EngAcq → EngAcq) : (s.modAcq n g).pending = s.pending := rfl
@[simp] theorem State.portOf_modAcq (n : Nat) (g : EngAcq → EngAcq) (k : Nat) : (s.modAcq n g).portOf k = s.portOf k := rfl
@[simp] theorem State.tribOf_modAcq (n : Nat) (g : EngAcq → EngAcq) (k : Nat) : (s.modAcq n g).tribOf k = s.tribOf k := rfl
@[simp] theorem State.grpOf_modAcq (n : Nat) (g : EngAcq → EngAcq) (k : Nat) : (s.modAcq n g).grpOf k = s.grpOf k := rfl
@[simp] theorem State.lockOf_modAcq (n : Nat) (g : EngAcq → EngAcq) (k : Nat) : (s.modAcq n g).lockOf k = s.lockOf k := rfl
@[simp] theorem State.ringOf_modAcq (n : Nat) (g : EngAcq → EngAcq) (k : Nat) : (s.modAcq n g).ringOf k = s.ringOf k := rfl
@[simp] theorem State.cntOf_modAcq (n : Nat) (g : EngAcq → EngAcq) (k : Nat) : (s.modAcq n g).cntOf k = s.cntOf k := rfl
@[simp] theorem State.rd_modAcq (n : Nat) (g : EngAcq → EngAcq) (f : Fld) (j : Nat) : (s.modAcq n g).rd f j = s.rd f j := rfl

@[simp] theorem State.modFec_fuse (n : Nat) (g : EngFec → EngFec) : (s.modFec n g).fuse = s.fuse := rfl
@[simp] theorem State.modFec_pin (n : Nat) (g : EngFec → EngFec) : (s.modFec n g).pin = s.pin := rfl
@[simp] theorem State.modFec_regs (n : Nat) (g : EngFec → EngFec) : (s.modFec n g).regs = s.regs := rfl
@[simp] theorem State.modFec_cnt (n : Nat) (g : EngFec → EngFec) : (s.modFec n g).cnt = s.cnt := rfl
@[simp] theorem State.modFec_wrapc (n : Nat) (g : EngFec → EngFec) : (s.modFec n g).wrapc = s.wrapc := rfl
@[simp] theorem State.modFec_port (n : Nat) (g : EngFec → EngFec) : (s.modFec n g).port = s.port := rfl
@[simp] theorem State.modFec_trib (n : Nat) (g : EngFec → EngFec) : (s.modFec n g).trib = s.trib := rfl
@[simp] theorem State.modFec_grp (n : Nat) (g : EngFec → EngFec) : (s.modFec n g).grp = s.grp := rfl
@[simp] theorem State.modFec_bins (n : Nat) (g : EngFec → EngFec) : (s.modFec n g).bins = s.bins := rfl
@[simp] theorem State.modFec_lock (n : Nat) (g : EngFec → EngFec) : (s.modFec n g).lock = s.lock := rfl
@[simp] theorem State.modFec_ring (n : Nat) (g : EngFec → EngFec) : (s.modFec n g).ring = s.ring := rfl
@[simp] theorem State.modFec_host (n : Nat) (g : EngFec → EngFec) : (s.modFec n g).host = s.host := rfl
@[simp] theorem State.modFec_mode (n : Nat) (g : EngFec → EngFec) : (s.modFec n g).mode = s.mode := rfl
@[simp] theorem State.modFec_pair (n : Nat) (g : EngFec → EngFec) : (s.modFec n g).pair = s.pair := rfl
@[simp] theorem State.modFec_tim (n : Nat) (g : EngFec → EngFec) : (s.modFec n g).tim = s.tim := rfl
@[simp] theorem State.modFec_hk (n : Nat) (g : EngFec → EngFec) : (s.modFec n g).hk = s.hk := rfl
@[simp] theorem State.modFec_cal (n : Nat) (g : EngFec → EngFec) : (s.modFec n g).cal = s.cal := rfl
@[simp] theorem State.modFec_pwr (n : Nat) (g : EngFec → EngFec) : (s.modFec n g).pwr = s.pwr := rfl
@[simp] theorem State.modFec_cel (n : Nat) (g : EngFec → EngFec) : (s.modFec n g).cel = s.cel := rfl
@[simp] theorem State.modFec_sec (n : Nat) (g : EngFec → EngFec) : (s.modFec n g).sec = s.sec := rfl
@[simp] theorem State.modFec_perf (n : Nat) (g : EngFec → EngFec) : (s.modFec n g).perf = s.perf := rfl
@[simp] theorem State.modFec_out (n : Nat) (g : EngFec → EngFec) : (s.modFec n g).out = s.out := rfl
@[simp] theorem State.modFec_free (n : Nat) (g : EngFec → EngFec) : (s.modFec n g).free = s.free := rfl
@[simp] theorem State.modFec_wlog (n : Nat) (g : EngFec → EngFec) : (s.modFec n g).wlog = s.wlog := rfl
@[simp] theorem State.modFec_pending (n : Nat) (g : EngFec → EngFec) : (s.modFec n g).pending = s.pending := rfl
@[simp] theorem State.portOf_modFec (n : Nat) (g : EngFec → EngFec) (k : Nat) : (s.modFec n g).portOf k = s.portOf k := rfl
@[simp] theorem State.tribOf_modFec (n : Nat) (g : EngFec → EngFec) (k : Nat) : (s.modFec n g).tribOf k = s.tribOf k := rfl
@[simp] theorem State.grpOf_modFec (n : Nat) (g : EngFec → EngFec) (k : Nat) : (s.modFec n g).grpOf k = s.grpOf k := rfl
@[simp] theorem State.lockOf_modFec (n : Nat) (g : EngFec → EngFec) (k : Nat) : (s.modFec n g).lockOf k = s.lockOf k := rfl
@[simp] theorem State.ringOf_modFec (n : Nat) (g : EngFec → EngFec) (k : Nat) : (s.modFec n g).ringOf k = s.ringOf k := rfl
@[simp] theorem State.cntOf_modFec (n : Nat) (g : EngFec → EngFec) (k : Nat) : (s.modFec n g).cntOf k = s.cntOf k := rfl
@[simp] theorem State.rd_modFec (n : Nat) (g : EngFec → EngFec) (f : Fld) (j : Nat) : (s.modFec n g).rd f j = s.rd f j := rfl

@[simp] theorem State.modTx_fuse (n : Nat) (g : EngTx → EngTx) : (s.modTx n g).fuse = s.fuse := rfl
@[simp] theorem State.modTx_pin (n : Nat) (g : EngTx → EngTx) : (s.modTx n g).pin = s.pin := rfl
@[simp] theorem State.modTx_regs (n : Nat) (g : EngTx → EngTx) : (s.modTx n g).regs = s.regs := rfl
@[simp] theorem State.modTx_cnt (n : Nat) (g : EngTx → EngTx) : (s.modTx n g).cnt = s.cnt := rfl
@[simp] theorem State.modTx_wrapc (n : Nat) (g : EngTx → EngTx) : (s.modTx n g).wrapc = s.wrapc := rfl
@[simp] theorem State.modTx_port (n : Nat) (g : EngTx → EngTx) : (s.modTx n g).port = s.port := rfl
@[simp] theorem State.modTx_trib (n : Nat) (g : EngTx → EngTx) : (s.modTx n g).trib = s.trib := rfl
@[simp] theorem State.modTx_grp (n : Nat) (g : EngTx → EngTx) : (s.modTx n g).grp = s.grp := rfl
@[simp] theorem State.modTx_bins (n : Nat) (g : EngTx → EngTx) : (s.modTx n g).bins = s.bins := rfl
@[simp] theorem State.modTx_lock (n : Nat) (g : EngTx → EngTx) : (s.modTx n g).lock = s.lock := rfl
@[simp] theorem State.modTx_ring (n : Nat) (g : EngTx → EngTx) : (s.modTx n g).ring = s.ring := rfl
@[simp] theorem State.modTx_host (n : Nat) (g : EngTx → EngTx) : (s.modTx n g).host = s.host := rfl
@[simp] theorem State.modTx_mode (n : Nat) (g : EngTx → EngTx) : (s.modTx n g).mode = s.mode := rfl
@[simp] theorem State.modTx_pair (n : Nat) (g : EngTx → EngTx) : (s.modTx n g).pair = s.pair := rfl
@[simp] theorem State.modTx_tim (n : Nat) (g : EngTx → EngTx) : (s.modTx n g).tim = s.tim := rfl
@[simp] theorem State.modTx_hk (n : Nat) (g : EngTx → EngTx) : (s.modTx n g).hk = s.hk := rfl
@[simp] theorem State.modTx_cal (n : Nat) (g : EngTx → EngTx) : (s.modTx n g).cal = s.cal := rfl
@[simp] theorem State.modTx_pwr (n : Nat) (g : EngTx → EngTx) : (s.modTx n g).pwr = s.pwr := rfl
@[simp] theorem State.modTx_cel (n : Nat) (g : EngTx → EngTx) : (s.modTx n g).cel = s.cel := rfl
@[simp] theorem State.modTx_sec (n : Nat) (g : EngTx → EngTx) : (s.modTx n g).sec = s.sec := rfl
@[simp] theorem State.modTx_perf (n : Nat) (g : EngTx → EngTx) : (s.modTx n g).perf = s.perf := rfl
@[simp] theorem State.modTx_out (n : Nat) (g : EngTx → EngTx) : (s.modTx n g).out = s.out := rfl
@[simp] theorem State.modTx_free (n : Nat) (g : EngTx → EngTx) : (s.modTx n g).free = s.free := rfl
@[simp] theorem State.modTx_wlog (n : Nat) (g : EngTx → EngTx) : (s.modTx n g).wlog = s.wlog := rfl
@[simp] theorem State.modTx_pending (n : Nat) (g : EngTx → EngTx) : (s.modTx n g).pending = s.pending := rfl
@[simp] theorem State.portOf_modTx (n : Nat) (g : EngTx → EngTx) (k : Nat) : (s.modTx n g).portOf k = s.portOf k := rfl
@[simp] theorem State.tribOf_modTx (n : Nat) (g : EngTx → EngTx) (k : Nat) : (s.modTx n g).tribOf k = s.tribOf k := rfl
@[simp] theorem State.grpOf_modTx (n : Nat) (g : EngTx → EngTx) (k : Nat) : (s.modTx n g).grpOf k = s.grpOf k := rfl
@[simp] theorem State.lockOf_modTx (n : Nat) (g : EngTx → EngTx) (k : Nat) : (s.modTx n g).lockOf k = s.lockOf k := rfl
@[simp] theorem State.ringOf_modTx (n : Nat) (g : EngTx → EngTx) (k : Nat) : (s.modTx n g).ringOf k = s.ringOf k := rfl
@[simp] theorem State.cntOf_modTx (n : Nat) (g : EngTx → EngTx) (k : Nat) : (s.modTx n g).cntOf k = s.cntOf k := rfl
@[simp] theorem State.rd_modTx (n : Nat) (g : EngTx → EngTx) (f : Fld) (j : Nat) : (s.modTx n g).rd f j = s.rd f j := rfl

@[simp] theorem State.modRx_fuse (n : Nat) (g : EngRx → EngRx) : (s.modRx n g).fuse = s.fuse := rfl
@[simp] theorem State.modRx_pin (n : Nat) (g : EngRx → EngRx) : (s.modRx n g).pin = s.pin := rfl
@[simp] theorem State.modRx_regs (n : Nat) (g : EngRx → EngRx) : (s.modRx n g).regs = s.regs := rfl
@[simp] theorem State.modRx_cnt (n : Nat) (g : EngRx → EngRx) : (s.modRx n g).cnt = s.cnt := rfl
@[simp] theorem State.modRx_wrapc (n : Nat) (g : EngRx → EngRx) : (s.modRx n g).wrapc = s.wrapc := rfl
@[simp] theorem State.modRx_port (n : Nat) (g : EngRx → EngRx) : (s.modRx n g).port = s.port := rfl
@[simp] theorem State.modRx_trib (n : Nat) (g : EngRx → EngRx) : (s.modRx n g).trib = s.trib := rfl
@[simp] theorem State.modRx_grp (n : Nat) (g : EngRx → EngRx) : (s.modRx n g).grp = s.grp := rfl
@[simp] theorem State.modRx_bins (n : Nat) (g : EngRx → EngRx) : (s.modRx n g).bins = s.bins := rfl
@[simp] theorem State.modRx_lock (n : Nat) (g : EngRx → EngRx) : (s.modRx n g).lock = s.lock := rfl
@[simp] theorem State.modRx_ring (n : Nat) (g : EngRx → EngRx) : (s.modRx n g).ring = s.ring := rfl
@[simp] theorem State.modRx_host (n : Nat) (g : EngRx → EngRx) : (s.modRx n g).host = s.host := rfl
@[simp] theorem State.modRx_mode (n : Nat) (g : EngRx → EngRx) : (s.modRx n g).mode = s.mode := rfl
@[simp] theorem State.modRx_pair (n : Nat) (g : EngRx → EngRx) : (s.modRx n g).pair = s.pair := rfl
@[simp] theorem State.modRx_tim (n : Nat) (g : EngRx → EngRx) : (s.modRx n g).tim = s.tim := rfl
@[simp] theorem State.modRx_hk (n : Nat) (g : EngRx → EngRx) : (s.modRx n g).hk = s.hk := rfl
@[simp] theorem State.modRx_cal (n : Nat) (g : EngRx → EngRx) : (s.modRx n g).cal = s.cal := rfl
@[simp] theorem State.modRx_pwr (n : Nat) (g : EngRx → EngRx) : (s.modRx n g).pwr = s.pwr := rfl
@[simp] theorem State.modRx_cel (n : Nat) (g : EngRx → EngRx) : (s.modRx n g).cel = s.cel := rfl
@[simp] theorem State.modRx_sec (n : Nat) (g : EngRx → EngRx) : (s.modRx n g).sec = s.sec := rfl
@[simp] theorem State.modRx_perf (n : Nat) (g : EngRx → EngRx) : (s.modRx n g).perf = s.perf := rfl
@[simp] theorem State.modRx_out (n : Nat) (g : EngRx → EngRx) : (s.modRx n g).out = s.out := rfl
@[simp] theorem State.modRx_free (n : Nat) (g : EngRx → EngRx) : (s.modRx n g).free = s.free := rfl
@[simp] theorem State.modRx_wlog (n : Nat) (g : EngRx → EngRx) : (s.modRx n g).wlog = s.wlog := rfl
@[simp] theorem State.modRx_pending (n : Nat) (g : EngRx → EngRx) : (s.modRx n g).pending = s.pending := rfl
@[simp] theorem State.portOf_modRx (n : Nat) (g : EngRx → EngRx) (k : Nat) : (s.modRx n g).portOf k = s.portOf k := rfl
@[simp] theorem State.tribOf_modRx (n : Nat) (g : EngRx → EngRx) (k : Nat) : (s.modRx n g).tribOf k = s.tribOf k := rfl
@[simp] theorem State.grpOf_modRx (n : Nat) (g : EngRx → EngRx) (k : Nat) : (s.modRx n g).grpOf k = s.grpOf k := rfl
@[simp] theorem State.lockOf_modRx (n : Nat) (g : EngRx → EngRx) (k : Nat) : (s.modRx n g).lockOf k = s.lockOf k := rfl
@[simp] theorem State.ringOf_modRx (n : Nat) (g : EngRx → EngRx) (k : Nat) : (s.modRx n g).ringOf k = s.ringOf k := rfl
@[simp] theorem State.cntOf_modRx (n : Nat) (g : EngRx → EngRx) (k : Nat) : (s.modRx n g).cntOf k = s.cntOf k := rfl
@[simp] theorem State.rd_modRx (n : Nat) (g : EngRx → EngRx) (f : Fld) (j : Nat) : (s.modRx n g).rd f j = s.rd f j := rfl

@[simp] theorem State.modPm_fuse (n : Nat) (g : EngPm → EngPm) : (s.modPm n g).fuse = s.fuse := rfl
@[simp] theorem State.modPm_pin (n : Nat) (g : EngPm → EngPm) : (s.modPm n g).pin = s.pin := rfl
@[simp] theorem State.modPm_regs (n : Nat) (g : EngPm → EngPm) : (s.modPm n g).regs = s.regs := rfl
@[simp] theorem State.modPm_cnt (n : Nat) (g : EngPm → EngPm) : (s.modPm n g).cnt = s.cnt := rfl
@[simp] theorem State.modPm_wrapc (n : Nat) (g : EngPm → EngPm) : (s.modPm n g).wrapc = s.wrapc := rfl
@[simp] theorem State.modPm_port (n : Nat) (g : EngPm → EngPm) : (s.modPm n g).port = s.port := rfl
@[simp] theorem State.modPm_trib (n : Nat) (g : EngPm → EngPm) : (s.modPm n g).trib = s.trib := rfl
@[simp] theorem State.modPm_grp (n : Nat) (g : EngPm → EngPm) : (s.modPm n g).grp = s.grp := rfl
@[simp] theorem State.modPm_bins (n : Nat) (g : EngPm → EngPm) : (s.modPm n g).bins = s.bins := rfl
@[simp] theorem State.modPm_lock (n : Nat) (g : EngPm → EngPm) : (s.modPm n g).lock = s.lock := rfl
@[simp] theorem State.modPm_ring (n : Nat) (g : EngPm → EngPm) : (s.modPm n g).ring = s.ring := rfl
@[simp] theorem State.modPm_host (n : Nat) (g : EngPm → EngPm) : (s.modPm n g).host = s.host := rfl
@[simp] theorem State.modPm_mode (n : Nat) (g : EngPm → EngPm) : (s.modPm n g).mode = s.mode := rfl
@[simp] theorem State.modPm_pair (n : Nat) (g : EngPm → EngPm) : (s.modPm n g).pair = s.pair := rfl
@[simp] theorem State.modPm_tim (n : Nat) (g : EngPm → EngPm) : (s.modPm n g).tim = s.tim := rfl
@[simp] theorem State.modPm_hk (n : Nat) (g : EngPm → EngPm) : (s.modPm n g).hk = s.hk := rfl
@[simp] theorem State.modPm_cal (n : Nat) (g : EngPm → EngPm) : (s.modPm n g).cal = s.cal := rfl
@[simp] theorem State.modPm_pwr (n : Nat) (g : EngPm → EngPm) : (s.modPm n g).pwr = s.pwr := rfl
@[simp] theorem State.modPm_cel (n : Nat) (g : EngPm → EngPm) : (s.modPm n g).cel = s.cel := rfl
@[simp] theorem State.modPm_sec (n : Nat) (g : EngPm → EngPm) : (s.modPm n g).sec = s.sec := rfl
@[simp] theorem State.modPm_perf (n : Nat) (g : EngPm → EngPm) : (s.modPm n g).perf = s.perf := rfl
@[simp] theorem State.modPm_out (n : Nat) (g : EngPm → EngPm) : (s.modPm n g).out = s.out := rfl
@[simp] theorem State.modPm_free (n : Nat) (g : EngPm → EngPm) : (s.modPm n g).free = s.free := rfl
@[simp] theorem State.modPm_wlog (n : Nat) (g : EngPm → EngPm) : (s.modPm n g).wlog = s.wlog := rfl
@[simp] theorem State.modPm_pending (n : Nat) (g : EngPm → EngPm) : (s.modPm n g).pending = s.pending := rfl
@[simp] theorem State.portOf_modPm (n : Nat) (g : EngPm → EngPm) (k : Nat) : (s.modPm n g).portOf k = s.portOf k := rfl
@[simp] theorem State.tribOf_modPm (n : Nat) (g : EngPm → EngPm) (k : Nat) : (s.modPm n g).tribOf k = s.tribOf k := rfl
@[simp] theorem State.grpOf_modPm (n : Nat) (g : EngPm → EngPm) (k : Nat) : (s.modPm n g).grpOf k = s.grpOf k := rfl
@[simp] theorem State.lockOf_modPm (n : Nat) (g : EngPm → EngPm) (k : Nat) : (s.modPm n g).lockOf k = s.lockOf k := rfl
@[simp] theorem State.ringOf_modPm (n : Nat) (g : EngPm → EngPm) (k : Nat) : (s.modPm n g).ringOf k = s.ringOf k := rfl
@[simp] theorem State.cntOf_modPm (n : Nat) (g : EngPm → EngPm) (k : Nat) : (s.modPm n g).cntOf k = s.cntOf k := rfl
@[simp] theorem State.rd_modPm (n : Nat) (g : EngPm → EngPm) (f : Fld) (j : Nat) : (s.modPm n g).rd f j = s.rd f j := rfl

@[simp] theorem State.modSk_fuse (n : Nat) (g : EngSk → EngSk) : (s.modSk n g).fuse = s.fuse := rfl
@[simp] theorem State.modSk_pin (n : Nat) (g : EngSk → EngSk) : (s.modSk n g).pin = s.pin := rfl
@[simp] theorem State.modSk_regs (n : Nat) (g : EngSk → EngSk) : (s.modSk n g).regs = s.regs := rfl
@[simp] theorem State.modSk_cnt (n : Nat) (g : EngSk → EngSk) : (s.modSk n g).cnt = s.cnt := rfl
@[simp] theorem State.modSk_wrapc (n : Nat) (g : EngSk → EngSk) : (s.modSk n g).wrapc = s.wrapc := rfl
@[simp] theorem State.modSk_port (n : Nat) (g : EngSk → EngSk) : (s.modSk n g).port = s.port := rfl
@[simp] theorem State.modSk_trib (n : Nat) (g : EngSk → EngSk) : (s.modSk n g).trib = s.trib := rfl
@[simp] theorem State.modSk_grp (n : Nat) (g : EngSk → EngSk) : (s.modSk n g).grp = s.grp := rfl
@[simp] theorem State.modSk_bins (n : Nat) (g : EngSk → EngSk) : (s.modSk n g).bins = s.bins := rfl
@[simp] theorem State.modSk_lock (n : Nat) (g : EngSk → EngSk) : (s.modSk n g).lock = s.lock := rfl
@[simp] theorem State.modSk_ring (n : Nat) (g : EngSk → EngSk) : (s.modSk n g).ring = s.ring := rfl
@[simp] theorem State.modSk_host (n : Nat) (g : EngSk → EngSk) : (s.modSk n g).host = s.host := rfl
@[simp] theorem State.modSk_mode (n : Nat) (g : EngSk → EngSk) : (s.modSk n g).mode = s.mode := rfl
@[simp] theorem State.modSk_pair (n : Nat) (g : EngSk → EngSk) : (s.modSk n g).pair = s.pair := rfl
@[simp] theorem State.modSk_tim (n : Nat) (g : EngSk → EngSk) : (s.modSk n g).tim = s.tim := rfl
@[simp] theorem State.modSk_hk (n : Nat) (g : EngSk → EngSk) : (s.modSk n g).hk = s.hk := rfl
@[simp] theorem State.modSk_cal (n : Nat) (g : EngSk → EngSk) : (s.modSk n g).cal = s.cal := rfl
@[simp] theorem State.modSk_pwr (n : Nat) (g : EngSk → EngSk) : (s.modSk n g).pwr = s.pwr := rfl
@[simp] theorem State.modSk_cel (n : Nat) (g : EngSk → EngSk) : (s.modSk n g).cel = s.cel := rfl
@[simp] theorem State.modSk_sec (n : Nat) (g : EngSk → EngSk) : (s.modSk n g).sec = s.sec := rfl
@[simp] theorem State.modSk_perf (n : Nat) (g : EngSk → EngSk) : (s.modSk n g).perf = s.perf := rfl
@[simp] theorem State.modSk_out (n : Nat) (g : EngSk → EngSk) : (s.modSk n g).out = s.out := rfl
@[simp] theorem State.modSk_free (n : Nat) (g : EngSk → EngSk) : (s.modSk n g).free = s.free := rfl
@[simp] theorem State.modSk_wlog (n : Nat) (g : EngSk → EngSk) : (s.modSk n g).wlog = s.wlog := rfl
@[simp] theorem State.modSk_pending (n : Nat) (g : EngSk → EngSk) : (s.modSk n g).pending = s.pending := rfl
@[simp] theorem State.portOf_modSk (n : Nat) (g : EngSk → EngSk) (k : Nat) : (s.modSk n g).portOf k = s.portOf k := rfl
@[simp] theorem State.tribOf_modSk (n : Nat) (g : EngSk → EngSk) (k : Nat) : (s.modSk n g).tribOf k = s.tribOf k := rfl
@[simp] theorem State.grpOf_modSk (n : Nat) (g : EngSk → EngSk) (k : Nat) : (s.modSk n g).grpOf k = s.grpOf k := rfl
@[simp] theorem State.lockOf_modSk (n : Nat) (g : EngSk → EngSk) (k : Nat) : (s.modSk n g).lockOf k = s.lockOf k := rfl
@[simp] theorem State.ringOf_modSk (n : Nat) (g : EngSk → EngSk) (k : Nat) : (s.modSk n g).ringOf k = s.ringOf k := rfl
@[simp] theorem State.cntOf_modSk (n : Nat) (g : EngSk → EngSk) (k : Nat) : (s.modSk n g).cntOf k = s.cntOf k := rfl
@[simp] theorem State.rd_modSk (n : Nat) (g : EngSk → EngSk) (f : Fld) (j : Nat) : (s.modSk n g).rd f j = s.rd f j := rfl

@[simp] theorem State.modPort_fuse (n : Nat) (g : Port → Port) : (s.modPort n g).fuse = s.fuse := rfl
@[simp] theorem State.modPort_pin (n : Nat) (g : Port → Port) : (s.modPort n g).pin = s.pin := rfl
@[simp] theorem State.modPort_regs (n : Nat) (g : Port → Port) : (s.modPort n g).regs = s.regs := rfl
@[simp] theorem State.modPort_cnt (n : Nat) (g : Port → Port) : (s.modPort n g).cnt = s.cnt := rfl
@[simp] theorem State.modPort_wrapc (n : Nat) (g : Port → Port) : (s.modPort n g).wrapc = s.wrapc := rfl
@[simp] theorem State.modPort_eng (n : Nat) (g : Port → Port) : (s.modPort n g).eng = s.eng := rfl
@[simp] theorem State.modPort_trib (n : Nat) (g : Port → Port) : (s.modPort n g).trib = s.trib := rfl
@[simp] theorem State.modPort_grp (n : Nat) (g : Port → Port) : (s.modPort n g).grp = s.grp := rfl
@[simp] theorem State.modPort_bins (n : Nat) (g : Port → Port) : (s.modPort n g).bins = s.bins := rfl
@[simp] theorem State.modPort_lock (n : Nat) (g : Port → Port) : (s.modPort n g).lock = s.lock := rfl
@[simp] theorem State.modPort_ring (n : Nat) (g : Port → Port) : (s.modPort n g).ring = s.ring := rfl
@[simp] theorem State.modPort_host (n : Nat) (g : Port → Port) : (s.modPort n g).host = s.host := rfl
@[simp] theorem State.modPort_mode (n : Nat) (g : Port → Port) : (s.modPort n g).mode = s.mode := rfl
@[simp] theorem State.modPort_pair (n : Nat) (g : Port → Port) : (s.modPort n g).pair = s.pair := rfl
@[simp] theorem State.modPort_tim (n : Nat) (g : Port → Port) : (s.modPort n g).tim = s.tim := rfl
@[simp] theorem State.modPort_hk (n : Nat) (g : Port → Port) : (s.modPort n g).hk = s.hk := rfl
@[simp] theorem State.modPort_cal (n : Nat) (g : Port → Port) : (s.modPort n g).cal = s.cal := rfl
@[simp] theorem State.modPort_pwr (n : Nat) (g : Port → Port) : (s.modPort n g).pwr = s.pwr := rfl
@[simp] theorem State.modPort_cel (n : Nat) (g : Port → Port) : (s.modPort n g).cel = s.cel := rfl
@[simp] theorem State.modPort_sec (n : Nat) (g : Port → Port) : (s.modPort n g).sec = s.sec := rfl
@[simp] theorem State.modPort_perf (n : Nat) (g : Port → Port) : (s.modPort n g).perf = s.perf := rfl
@[simp] theorem State.modPort_out (n : Nat) (g : Port → Port) : (s.modPort n g).out = s.out := rfl
@[simp] theorem State.modPort_free (n : Nat) (g : Port → Port) : (s.modPort n g).free = s.free := rfl
@[simp] theorem State.modPort_wlog (n : Nat) (g : Port → Port) : (s.modPort n g).wlog = s.wlog := rfl
@[simp] theorem State.modPort_pending (n : Nat) (g : Port → Port) : (s.modPort n g).pending = s.pending := rfl
@[simp] theorem State.engOf_modPort (n : Nat) (g : Port → Port) (k : Nat) : (s.modPort n g).engOf k = s.engOf k := rfl
@[simp] theorem State.acqOf_modPort (n : Nat) (g : Port → Port) (k : Nat) : (s.modPort n g).acqOf k = s.acqOf k := rfl
@[simp] theorem State.fecOf_modPort (n : Nat) (g : Port → Port) (k : Nat) : (s.modPort n g).fecOf k = s.fecOf k := rfl
@[simp] theorem State.txOf_modPort (n : Nat) (g : Port → Port) (k : Nat) : (s.modPort n g).txOf k = s.txOf k := rfl
@[simp] theorem State.rxOf_modPort (n : Nat) (g : Port → Port) (k : Nat) : (s.modPort n g).rxOf k = s.rxOf k := rfl
@[simp] theorem State.pmOf_modPort (n : Nat) (g : Port → Port) (k : Nat) : (s.modPort n g).pmOf k = s.pmOf k := rfl
@[simp] theorem State.skOf_modPort (n : Nat) (g : Port → Port) (k : Nat) : (s.modPort n g).skOf k = s.skOf k := rfl
@[simp] theorem State.tribOf_modPort (n : Nat) (g : Port → Port) (k : Nat) : (s.modPort n g).tribOf k = s.tribOf k := rfl
@[simp] theorem State.grpOf_modPort (n : Nat) (g : Port → Port) (k : Nat) : (s.modPort n g).grpOf k = s.grpOf k := rfl
@[simp] theorem State.lockOf_modPort (n : Nat) (g : Port → Port) (k : Nat) : (s.modPort n g).lockOf k = s.lockOf k := rfl
@[simp] theorem State.ringOf_modPort (n : Nat) (g : Port → Port) (k : Nat) : (s.modPort n g).ringOf k = s.ringOf k := rfl
@[simp] theorem State.cntOf_modPort (n : Nat) (g : Port → Port) (k : Nat) : (s.modPort n g).cntOf k = s.cntOf k := rfl
@[simp] theorem State.rd_modPort (n : Nat) (g : Port → Port) (f : Fld) (j : Nat) : (s.modPort n g).rd f j = s.rd f j := rfl

@[simp] theorem State.modTrib_fuse (n : Nat) (g : Trib → Trib) : (s.modTrib n g).fuse = s.fuse := rfl
@[simp] theorem State.modTrib_pin (n : Nat) (g : Trib → Trib) : (s.modTrib n g).pin = s.pin := rfl
@[simp] theorem State.modTrib_regs (n : Nat) (g : Trib → Trib) : (s.modTrib n g).regs = s.regs := rfl
@[simp] theorem State.modTrib_cnt (n : Nat) (g : Trib → Trib) : (s.modTrib n g).cnt = s.cnt := rfl
@[simp] theorem State.modTrib_wrapc (n : Nat) (g : Trib → Trib) : (s.modTrib n g).wrapc = s.wrapc := rfl
@[simp] theorem State.modTrib_eng (n : Nat) (g : Trib → Trib) : (s.modTrib n g).eng = s.eng := rfl
@[simp] theorem State.modTrib_port (n : Nat) (g : Trib → Trib) : (s.modTrib n g).port = s.port := rfl
@[simp] theorem State.modTrib_grp (n : Nat) (g : Trib → Trib) : (s.modTrib n g).grp = s.grp := rfl
@[simp] theorem State.modTrib_bins (n : Nat) (g : Trib → Trib) : (s.modTrib n g).bins = s.bins := rfl
@[simp] theorem State.modTrib_lock (n : Nat) (g : Trib → Trib) : (s.modTrib n g).lock = s.lock := rfl
@[simp] theorem State.modTrib_ring (n : Nat) (g : Trib → Trib) : (s.modTrib n g).ring = s.ring := rfl
@[simp] theorem State.modTrib_host (n : Nat) (g : Trib → Trib) : (s.modTrib n g).host = s.host := rfl
@[simp] theorem State.modTrib_mode (n : Nat) (g : Trib → Trib) : (s.modTrib n g).mode = s.mode := rfl
@[simp] theorem State.modTrib_pair (n : Nat) (g : Trib → Trib) : (s.modTrib n g).pair = s.pair := rfl
@[simp] theorem State.modTrib_tim (n : Nat) (g : Trib → Trib) : (s.modTrib n g).tim = s.tim := rfl
@[simp] theorem State.modTrib_hk (n : Nat) (g : Trib → Trib) : (s.modTrib n g).hk = s.hk := rfl
@[simp] theorem State.modTrib_cal (n : Nat) (g : Trib → Trib) : (s.modTrib n g).cal = s.cal := rfl
@[simp] theorem State.modTrib_pwr (n : Nat) (g : Trib → Trib) : (s.modTrib n g).pwr = s.pwr := rfl
@[simp] theorem State.modTrib_cel (n : Nat) (g : Trib → Trib) : (s.modTrib n g).cel = s.cel := rfl
@[simp] theorem State.modTrib_sec (n : Nat) (g : Trib → Trib) : (s.modTrib n g).sec = s.sec := rfl
@[simp] theorem State.modTrib_perf (n : Nat) (g : Trib → Trib) : (s.modTrib n g).perf = s.perf := rfl
@[simp] theorem State.modTrib_out (n : Nat) (g : Trib → Trib) : (s.modTrib n g).out = s.out := rfl
@[simp] theorem State.modTrib_free (n : Nat) (g : Trib → Trib) : (s.modTrib n g).free = s.free := rfl
@[simp] theorem State.modTrib_wlog (n : Nat) (g : Trib → Trib) : (s.modTrib n g).wlog = s.wlog := rfl
@[simp] theorem State.modTrib_pending (n : Nat) (g : Trib → Trib) : (s.modTrib n g).pending = s.pending := rfl
@[simp] theorem State.engOf_modTrib (n : Nat) (g : Trib → Trib) (k : Nat) : (s.modTrib n g).engOf k = s.engOf k := rfl
@[simp] theorem State.acqOf_modTrib (n : Nat) (g : Trib → Trib) (k : Nat) : (s.modTrib n g).acqOf k = s.acqOf k := rfl
@[simp] theorem State.fecOf_modTrib (n : Nat) (g : Trib → Trib) (k : Nat) : (s.modTrib n g).fecOf k = s.fecOf k := rfl
@[simp] theorem State.txOf_modTrib (n : Nat) (g : Trib → Trib) (k : Nat) : (s.modTrib n g).txOf k = s.txOf k := rfl
@[simp] theorem State.rxOf_modTrib (n : Nat) (g : Trib → Trib) (k : Nat) : (s.modTrib n g).rxOf k = s.rxOf k := rfl
@[simp] theorem State.pmOf_modTrib (n : Nat) (g : Trib → Trib) (k : Nat) : (s.modTrib n g).pmOf k = s.pmOf k := rfl
@[simp] theorem State.skOf_modTrib (n : Nat) (g : Trib → Trib) (k : Nat) : (s.modTrib n g).skOf k = s.skOf k := rfl
@[simp] theorem State.portOf_modTrib (n : Nat) (g : Trib → Trib) (k : Nat) : (s.modTrib n g).portOf k = s.portOf k := rfl
@[simp] theorem State.grpOf_modTrib (n : Nat) (g : Trib → Trib) (k : Nat) : (s.modTrib n g).grpOf k = s.grpOf k := rfl
@[simp] theorem State.lockOf_modTrib (n : Nat) (g : Trib → Trib) (k : Nat) : (s.modTrib n g).lockOf k = s.lockOf k := rfl
@[simp] theorem State.ringOf_modTrib (n : Nat) (g : Trib → Trib) (k : Nat) : (s.modTrib n g).ringOf k = s.ringOf k := rfl
@[simp] theorem State.cntOf_modTrib (n : Nat) (g : Trib → Trib) (k : Nat) : (s.modTrib n g).cntOf k = s.cntOf k := rfl
@[simp] theorem State.rd_modTrib (n : Nat) (g : Trib → Trib) (f : Fld) (j : Nat) : (s.modTrib n g).rd f j = s.rd f j := rfl

@[simp] theorem State.modGrp_fuse (n : Nat) (g : Grp → Grp) : (s.modGrp n g).fuse = s.fuse := rfl
@[simp] theorem State.modGrp_pin (n : Nat) (g : Grp → Grp) : (s.modGrp n g).pin = s.pin := rfl
@[simp] theorem State.modGrp_regs (n : Nat) (g : Grp → Grp) : (s.modGrp n g).regs = s.regs := rfl
@[simp] theorem State.modGrp_cnt (n : Nat) (g : Grp → Grp) : (s.modGrp n g).cnt = s.cnt := rfl
@[simp] theorem State.modGrp_wrapc (n : Nat) (g : Grp → Grp) : (s.modGrp n g).wrapc = s.wrapc := rfl
@[simp] theorem State.modGrp_eng (n : Nat) (g : Grp → Grp) : (s.modGrp n g).eng = s.eng := rfl
@[simp] theorem State.modGrp_port (n : Nat) (g : Grp → Grp) : (s.modGrp n g).port = s.port := rfl
@[simp] theorem State.modGrp_trib (n : Nat) (g : Grp → Grp) : (s.modGrp n g).trib = s.trib := rfl
@[simp] theorem State.modGrp_bins (n : Nat) (g : Grp → Grp) : (s.modGrp n g).bins = s.bins := rfl
@[simp] theorem State.modGrp_lock (n : Nat) (g : Grp → Grp) : (s.modGrp n g).lock = s.lock := rfl
@[simp] theorem State.modGrp_ring (n : Nat) (g : Grp → Grp) : (s.modGrp n g).ring = s.ring := rfl
@[simp] theorem State.modGrp_host (n : Nat) (g : Grp → Grp) : (s.modGrp n g).host = s.host := rfl
@[simp] theorem State.modGrp_mode (n : Nat) (g : Grp → Grp) : (s.modGrp n g).mode = s.mode := rfl
@[simp] theorem State.modGrp_pair (n : Nat) (g : Grp → Grp) : (s.modGrp n g).pair = s.pair := rfl
@[simp] theorem State.modGrp_tim (n : Nat) (g : Grp → Grp) : (s.modGrp n g).tim = s.tim := rfl
@[simp] theorem State.modGrp_hk (n : Nat) (g : Grp → Grp) : (s.modGrp n g).hk = s.hk := rfl
@[simp] theorem State.modGrp_cal (n : Nat) (g : Grp → Grp) : (s.modGrp n g).cal = s.cal := rfl
@[simp] theorem State.modGrp_pwr (n : Nat) (g : Grp → Grp) : (s.modGrp n g).pwr = s.pwr := rfl
@[simp] theorem State.modGrp_cel (n : Nat) (g : Grp → Grp) : (s.modGrp n g).cel = s.cel := rfl
@[simp] theorem State.modGrp_sec (n : Nat) (g : Grp → Grp) : (s.modGrp n g).sec = s.sec := rfl
@[simp] theorem State.modGrp_perf (n : Nat) (g : Grp → Grp) : (s.modGrp n g).perf = s.perf := rfl
@[simp] theorem State.modGrp_out (n : Nat) (g : Grp → Grp) : (s.modGrp n g).out = s.out := rfl
@[simp] theorem State.modGrp_free (n : Nat) (g : Grp → Grp) : (s.modGrp n g).free = s.free := rfl
@[simp] theorem State.modGrp_wlog (n : Nat) (g : Grp → Grp) : (s.modGrp n g).wlog = s.wlog := rfl
@[simp] theorem State.modGrp_pending (n : Nat) (g : Grp → Grp) : (s.modGrp n g).pending = s.pending := rfl
@[simp] theorem State.engOf_modGrp (n : Nat) (g : Grp → Grp) (k : Nat) : (s.modGrp n g).engOf k = s.engOf k := rfl
@[simp] theorem State.acqOf_modGrp (n : Nat) (g : Grp → Grp) (k : Nat) : (s.modGrp n g).acqOf k = s.acqOf k := rfl
@[simp] theorem State.fecOf_modGrp (n : Nat) (g : Grp → Grp) (k : Nat) : (s.modGrp n g).fecOf k = s.fecOf k := rfl
@[simp] theorem State.txOf_modGrp (n : Nat) (g : Grp → Grp) (k : Nat) : (s.modGrp n g).txOf k = s.txOf k := rfl
@[simp] theorem State.rxOf_modGrp (n : Nat) (g : Grp → Grp) (k : Nat) : (s.modGrp n g).rxOf k = s.rxOf k := rfl
@[simp] theorem State.pmOf_modGrp (n : Nat) (g : Grp → Grp) (k : Nat) : (s.modGrp n g).pmOf k = s.pmOf k := rfl
@[simp] theorem State.skOf_modGrp (n : Nat) (g : Grp → Grp) (k : Nat) : (s.modGrp n g).skOf k = s.skOf k := rfl
@[simp] theorem State.portOf_modGrp (n : Nat) (g : Grp → Grp) (k : Nat) : (s.modGrp n g).portOf k = s.portOf k := rfl
@[simp] theorem State.tribOf_modGrp (n : Nat) (g : Grp → Grp) (k : Nat) : (s.modGrp n g).tribOf k = s.tribOf k := rfl
@[simp] theorem State.lockOf_modGrp (n : Nat) (g : Grp → Grp) (k : Nat) : (s.modGrp n g).lockOf k = s.lockOf k := rfl
@[simp] theorem State.ringOf_modGrp (n : Nat) (g : Grp → Grp) (k : Nat) : (s.modGrp n g).ringOf k = s.ringOf k := rfl
@[simp] theorem State.cntOf_modGrp (n : Nat) (g : Grp → Grp) (k : Nat) : (s.modGrp n g).cntOf k = s.cntOf k := rfl
@[simp] theorem State.rd_modGrp (n : Nat) (g : Grp → Grp) (f : Fld) (j : Nat) : (s.modGrp n g).rd f j = s.rd f j := rfl

@[simp] theorem State.modLock_fuse (n : Nat) (g : Locker → Locker) : (s.modLock n g).fuse = s.fuse := rfl
@[simp] theorem State.modLock_pin (n : Nat) (g : Locker → Locker) : (s.modLock n g).pin = s.pin := rfl
@[simp] theorem State.modLock_regs (n : Nat) (g : Locker → Locker) : (s.modLock n g).regs = s.regs := rfl
@[simp] theorem State.modLock_cnt (n : Nat) (g : Locker → Locker) : (s.modLock n g).cnt = s.cnt := rfl
@[simp] theorem State.modLock_wrapc (n : Nat) (g : Locker → Locker) : (s.modLock n g).wrapc = s.wrapc := rfl
@[simp] theorem State.modLock_eng (n : Nat) (g : Locker → Locker) : (s.modLock n g).eng = s.eng := rfl
@[simp] theorem State.modLock_port (n : Nat) (g : Locker → Locker) : (s.modLock n g).port = s.port := rfl
@[simp] theorem State.modLock_trib (n : Nat) (g : Locker → Locker) : (s.modLock n g).trib = s.trib := rfl
@[simp] theorem State.modLock_grp (n : Nat) (g : Locker → Locker) : (s.modLock n g).grp = s.grp := rfl
@[simp] theorem State.modLock_bins (n : Nat) (g : Locker → Locker) : (s.modLock n g).bins = s.bins := rfl
@[simp] theorem State.modLock_ring (n : Nat) (g : Locker → Locker) : (s.modLock n g).ring = s.ring := rfl
@[simp] theorem State.modLock_host (n : Nat) (g : Locker → Locker) : (s.modLock n g).host = s.host := rfl
@[simp] theorem State.modLock_mode (n : Nat) (g : Locker → Locker) : (s.modLock n g).mode = s.mode := rfl
@[simp] theorem State.modLock_pair (n : Nat) (g : Locker → Locker) : (s.modLock n g).pair = s.pair := rfl
@[simp] theorem State.modLock_tim (n : Nat) (g : Locker → Locker) : (s.modLock n g).tim = s.tim := rfl
@[simp] theorem State.modLock_hk (n : Nat) (g : Locker → Locker) : (s.modLock n g).hk = s.hk := rfl
@[simp] theorem State.modLock_cal (n : Nat) (g : Locker → Locker) : (s.modLock n g).cal = s.cal := rfl
@[simp] theorem State.modLock_pwr (n : Nat) (g : Locker → Locker) : (s.modLock n g).pwr = s.pwr := rfl
@[simp] theorem State.modLock_cel (n : Nat) (g : Locker → Locker) : (s.modLock n g).cel = s.cel := rfl
@[simp] theorem State.modLock_sec (n : Nat) (g : Locker → Locker) : (s.modLock n g).sec = s.sec := rfl
@[simp] theorem State.modLock_perf (n : Nat) (g : Locker → Locker) : (s.modLock n g).perf = s.perf := rfl
@[simp] theorem State.modLock_out (n : Nat) (g : Locker → Locker) : (s.modLock n g).out = s.out := rfl
@[simp] theorem State.modLock_free (n : Nat) (g : Locker → Locker) : (s.modLock n g).free = s.free := rfl
@[simp] theorem State.modLock_wlog (n : Nat) (g : Locker → Locker) : (s.modLock n g).wlog = s.wlog := rfl
@[simp] theorem State.modLock_pending (n : Nat) (g : Locker → Locker) : (s.modLock n g).pending = s.pending := rfl
@[simp] theorem State.engOf_modLock (n : Nat) (g : Locker → Locker) (k : Nat) : (s.modLock n g).engOf k = s.engOf k := rfl
@[simp] theorem State.acqOf_modLock (n : Nat) (g : Locker → Locker) (k : Nat) : (s.modLock n g).acqOf k = s.acqOf k := rfl
@[simp] theorem State.fecOf_modLock (n : Nat) (g : Locker → Locker) (k : Nat) : (s.modLock n g).fecOf k = s.fecOf k := rfl
@[simp] theorem State.txOf_modLock (n : Nat) (g : Locker → Locker) (k : Nat) : (s.modLock n g).txOf k = s.txOf k := rfl
@[simp] theorem State.rxOf_modLock (n : Nat) (g : Locker → Locker) (k : Nat) : (s.modLock n g).rxOf k = s.rxOf k := rfl
@[simp] theorem State.pmOf_modLock (n : Nat) (g : Locker → Locker) (k : Nat) : (s.modLock n g).pmOf k = s.pmOf k := rfl
@[simp] theorem State.skOf_modLock (n : Nat) (g : Locker → Locker) (k : Nat) : (s.modLock n g).skOf k = s.skOf k := rfl
@[simp] theorem State.portOf_modLock (n : Nat) (g : Locker → Locker) (k : Nat) : (s.modLock n g).portOf k = s.portOf k := rfl
@[simp] theorem State.tribOf_modLock (n : Nat) (g : Locker → Locker) (k : Nat) : (s.modLock n g).tribOf k = s.tribOf k := rfl
@[simp] theorem State.grpOf_modLock (n : Nat) (g : Locker → Locker) (k : Nat) : (s.modLock n g).grpOf k = s.grpOf k := rfl
@[simp] theorem State.ringOf_modLock (n : Nat) (g : Locker → Locker) (k : Nat) : (s.modLock n g).ringOf k = s.ringOf k := rfl
@[simp] theorem State.cntOf_modLock (n : Nat) (g : Locker → Locker) (k : Nat) : (s.modLock n g).cntOf k = s.cntOf k := rfl
@[simp] theorem State.rd_modLock (n : Nat) (g : Locker → Locker) (f : Fld) (j : Nat) : (s.modLock n g).rd f j = s.rd f j := rfl

@[simp] theorem State.modRing_fuse (n : Nat) (g : RingSt → RingSt) : (s.modRing n g).fuse = s.fuse := rfl
@[simp] theorem State.modRing_pin (n : Nat) (g : RingSt → RingSt) : (s.modRing n g).pin = s.pin := rfl
@[simp] theorem State.modRing_regs (n : Nat) (g : RingSt → RingSt) : (s.modRing n g).regs = s.regs := rfl
@[simp] theorem State.modRing_cnt (n : Nat) (g : RingSt → RingSt) : (s.modRing n g).cnt = s.cnt := rfl
@[simp] theorem State.modRing_wrapc (n : Nat) (g : RingSt → RingSt) : (s.modRing n g).wrapc = s.wrapc := rfl
@[simp] theorem State.modRing_eng (n : Nat) (g : RingSt → RingSt) : (s.modRing n g).eng = s.eng := rfl
@[simp] theorem State.modRing_port (n : Nat) (g : RingSt → RingSt) : (s.modRing n g).port = s.port := rfl
@[simp] theorem State.modRing_trib (n : Nat) (g : RingSt → RingSt) : (s.modRing n g).trib = s.trib := rfl
@[simp] theorem State.modRing_grp (n : Nat) (g : RingSt → RingSt) : (s.modRing n g).grp = s.grp := rfl
@[simp] theorem State.modRing_bins (n : Nat) (g : RingSt → RingSt) : (s.modRing n g).bins = s.bins := rfl
@[simp] theorem State.modRing_lock (n : Nat) (g : RingSt → RingSt) : (s.modRing n g).lock = s.lock := rfl
@[simp] theorem State.modRing_host (n : Nat) (g : RingSt → RingSt) : (s.modRing n g).host = s.host := rfl
@[simp] theorem State.modRing_mode (n : Nat) (g : RingSt → RingSt) : (s.modRing n g).mode = s.mode := rfl
@[simp] theorem State.modRing_pair (n : Nat) (g : RingSt → RingSt) : (s.modRing n g).pair = s.pair := rfl
@[simp] theorem State.modRing_tim (n : Nat) (g : RingSt → RingSt) : (s.modRing n g).tim = s.tim := rfl
@[simp] theorem State.modRing_hk (n : Nat) (g : RingSt → RingSt) : (s.modRing n g).hk = s.hk := rfl
@[simp] theorem State.modRing_cal (n : Nat) (g : RingSt → RingSt) : (s.modRing n g).cal = s.cal := rfl
@[simp] theorem State.modRing_pwr (n : Nat) (g : RingSt → RingSt) : (s.modRing n g).pwr = s.pwr := rfl
@[simp] theorem State.modRing_cel (n : Nat) (g : RingSt → RingSt) : (s.modRing n g).cel = s.cel := rfl
@[simp] theorem State.modRing_sec (n : Nat) (g : RingSt → RingSt) : (s.modRing n g).sec = s.sec := rfl
@[simp] theorem State.modRing_perf (n : Nat) (g : RingSt → RingSt) : (s.modRing n g).perf = s.perf := rfl
@[simp] theorem State.modRing_out (n : Nat) (g : RingSt → RingSt) : (s.modRing n g).out = s.out := rfl
@[simp] theorem State.modRing_free (n : Nat) (g : RingSt → RingSt) : (s.modRing n g).free = s.free := rfl
@[simp] theorem State.modRing_wlog (n : Nat) (g : RingSt → RingSt) : (s.modRing n g).wlog = s.wlog := rfl
@[simp] theorem State.modRing_pending (n : Nat) (g : RingSt → RingSt) : (s.modRing n g).pending = s.pending := rfl
@[simp] theorem State.engOf_modRing (n : Nat) (g : RingSt → RingSt) (k : Nat) : (s.modRing n g).engOf k = s.engOf k := rfl
@[simp] theorem State.acqOf_modRing (n : Nat) (g : RingSt → RingSt) (k : Nat) : (s.modRing n g).acqOf k = s.acqOf k := rfl
@[simp] theorem State.fecOf_modRing (n : Nat) (g : RingSt → RingSt) (k : Nat) : (s.modRing n g).fecOf k = s.fecOf k := rfl
@[simp] theorem State.txOf_modRing (n : Nat) (g : RingSt → RingSt) (k : Nat) : (s.modRing n g).txOf k = s.txOf k := rfl
@[simp] theorem State.rxOf_modRing (n : Nat) (g : RingSt → RingSt) (k : Nat) : (s.modRing n g).rxOf k = s.rxOf k := rfl
@[simp] theorem State.pmOf_modRing (n : Nat) (g : RingSt → RingSt) (k : Nat) : (s.modRing n g).pmOf k = s.pmOf k := rfl
@[simp] theorem State.skOf_modRing (n : Nat) (g : RingSt → RingSt) (k : Nat) : (s.modRing n g).skOf k = s.skOf k := rfl
@[simp] theorem State.portOf_modRing (n : Nat) (g : RingSt → RingSt) (k : Nat) : (s.modRing n g).portOf k = s.portOf k := rfl
@[simp] theorem State.tribOf_modRing (n : Nat) (g : RingSt → RingSt) (k : Nat) : (s.modRing n g).tribOf k = s.tribOf k := rfl
@[simp] theorem State.grpOf_modRing (n : Nat) (g : RingSt → RingSt) (k : Nat) : (s.modRing n g).grpOf k = s.grpOf k := rfl
@[simp] theorem State.lockOf_modRing (n : Nat) (g : RingSt → RingSt) (k : Nat) : (s.modRing n g).lockOf k = s.lockOf k := rfl
@[simp] theorem State.cntOf_modRing (n : Nat) (g : RingSt → RingSt) (k : Nat) : (s.modRing n g).cntOf k = s.cntOf k := rfl
@[simp] theorem State.rd_modRing (n : Nat) (g : RingSt → RingSt) (f : Fld) (j : Nat) : (s.modRing n g).rd f j = s.rd f j := rfl

@[simp] theorem State.modHk_fuse (g : HkSt → HkSt) : (s.modHk g).fuse = s.fuse := rfl
@[simp] theorem State.modHk_pin (g : HkSt → HkSt) : (s.modHk g).pin = s.pin := rfl
@[simp] theorem State.modHk_regs (g : HkSt → HkSt) : (s.modHk g).regs = s.regs := rfl
@[simp] theorem State.modHk_cnt (g : HkSt → HkSt) : (s.modHk g).cnt = s.cnt := rfl
@[simp] theorem State.modHk_wrapc (g : HkSt → HkSt) : (s.modHk g).wrapc = s.wrapc := rfl
@[simp] theorem State.modHk_eng (g : HkSt → HkSt) : (s.modHk g).eng = s.eng := rfl
@[simp] theorem State.modHk_port (g : HkSt → HkSt) : (s.modHk g).port = s.port := rfl
@[simp] theorem State.modHk_trib (g : HkSt → HkSt) : (s.modHk g).trib = s.trib := rfl
@[simp] theorem State.modHk_grp (g : HkSt → HkSt) : (s.modHk g).grp = s.grp := rfl
@[simp] theorem State.modHk_bins (g : HkSt → HkSt) : (s.modHk g).bins = s.bins := rfl
@[simp] theorem State.modHk_lock (g : HkSt → HkSt) : (s.modHk g).lock = s.lock := rfl
@[simp] theorem State.modHk_ring (g : HkSt → HkSt) : (s.modHk g).ring = s.ring := rfl
@[simp] theorem State.modHk_host (g : HkSt → HkSt) : (s.modHk g).host = s.host := rfl
@[simp] theorem State.modHk_mode (g : HkSt → HkSt) : (s.modHk g).mode = s.mode := rfl
@[simp] theorem State.modHk_pair (g : HkSt → HkSt) : (s.modHk g).pair = s.pair := rfl
@[simp] theorem State.modHk_tim (g : HkSt → HkSt) : (s.modHk g).tim = s.tim := rfl
@[simp] theorem State.modHk_cal (g : HkSt → HkSt) : (s.modHk g).cal = s.cal := rfl
@[simp] theorem State.modHk_pwr (g : HkSt → HkSt) : (s.modHk g).pwr = s.pwr := rfl
@[simp] theorem State.modHk_cel (g : HkSt → HkSt) : (s.modHk g).cel = s.cel := rfl
@[simp] theorem State.modHk_sec (g : HkSt → HkSt) : (s.modHk g).sec = s.sec := rfl
@[simp] theorem State.modHk_perf (g : HkSt → HkSt) : (s.modHk g).perf = s.perf := rfl
@[simp] theorem State.modHk_out (g : HkSt → HkSt) : (s.modHk g).out = s.out := rfl
@[simp] theorem State.modHk_free (g : HkSt → HkSt) : (s.modHk g).free = s.free := rfl
@[simp] theorem State.modHk_wlog (g : HkSt → HkSt) : (s.modHk g).wlog = s.wlog := rfl
@[simp] theorem State.modHk_pending (g : HkSt → HkSt) : (s.modHk g).pending = s.pending := rfl
@[simp] theorem State.engOf_modHk (g : HkSt → HkSt) (k : Nat) : (s.modHk g).engOf k = s.engOf k := rfl
@[simp] theorem State.acqOf_modHk (g : HkSt → HkSt) (k : Nat) : (s.modHk g).acqOf k = s.acqOf k := rfl
@[simp] theorem State.fecOf_modHk (g : HkSt → HkSt) (k : Nat) : (s.modHk g).fecOf k = s.fecOf k := rfl
@[simp] theorem State.txOf_modHk (g : HkSt → HkSt) (k : Nat) : (s.modHk g).txOf k = s.txOf k := rfl
@[simp] theorem State.rxOf_modHk (g : HkSt → HkSt) (k : Nat) : (s.modHk g).rxOf k = s.rxOf k := rfl
@[simp] theorem State.pmOf_modHk (g : HkSt → HkSt) (k : Nat) : (s.modHk g).pmOf k = s.pmOf k := rfl
@[simp] theorem State.skOf_modHk (g : HkSt → HkSt) (k : Nat) : (s.modHk g).skOf k = s.skOf k := rfl
@[simp] theorem State.portOf_modHk (g : HkSt → HkSt) (k : Nat) : (s.modHk g).portOf k = s.portOf k := rfl
@[simp] theorem State.tribOf_modHk (g : HkSt → HkSt) (k : Nat) : (s.modHk g).tribOf k = s.tribOf k := rfl
@[simp] theorem State.grpOf_modHk (g : HkSt → HkSt) (k : Nat) : (s.modHk g).grpOf k = s.grpOf k := rfl
@[simp] theorem State.lockOf_modHk (g : HkSt → HkSt) (k : Nat) : (s.modHk g).lockOf k = s.lockOf k := rfl
@[simp] theorem State.ringOf_modHk (g : HkSt → HkSt) (k : Nat) : (s.modHk g).ringOf k = s.ringOf k := rfl
@[simp] theorem State.cntOf_modHk (g : HkSt → HkSt) (k : Nat) : (s.modHk g).cntOf k = s.cntOf k := rfl
@[simp] theorem State.rd_modHk (g : HkSt → HkSt) (f : Fld) (j : Nat) : (s.modHk g).rd f j = s.rd f j := rfl

@[simp] theorem State.modSec_fuse (g : SecSt → SecSt) : (s.modSec g).fuse = s.fuse := rfl
@[simp] theorem State.modSec_pin (g : SecSt → SecSt) : (s.modSec g).pin = s.pin := rfl
@[simp] theorem State.modSec_regs (g : SecSt → SecSt) : (s.modSec g).regs = s.regs := rfl
@[simp] theorem State.modSec_cnt (g : SecSt → SecSt) : (s.modSec g).cnt = s.cnt := rfl
@[simp] theorem State.modSec_wrapc (g : SecSt → SecSt) : (s.modSec g).wrapc = s.wrapc := rfl
@[simp] theorem State.modSec_eng (g : SecSt → SecSt) : (s.modSec g).eng = s.eng := rfl
@[simp] theorem State.modSec_port (g : SecSt → SecSt) : (s.modSec g).port = s.port := rfl
@[simp] theorem State.modSec_trib (g : SecSt → SecSt) : (s.modSec g).trib = s.trib := rfl
@[simp] theorem State.modSec_grp (g : SecSt → SecSt) : (s.modSec g).grp = s.grp := rfl
@[simp] theorem State.modSec_bins (g : SecSt → SecSt) : (s.modSec g).bins = s.bins := rfl
@[simp] theorem State.modSec_lock (g : SecSt → SecSt) : (s.modSec g).lock = s.lock := rfl
@[simp] theorem State.modSec_ring (g : SecSt → SecSt) : (s.modSec g).ring = s.ring := rfl
@[simp] theorem State.modSec_host (g : SecSt → SecSt) : (s.modSec g).host = s.host := rfl
@[simp] theorem State.modSec_mode (g : SecSt → SecSt) : (s.modSec g).mode = s.mode := rfl
@[simp] theorem State.modSec_pair (g : SecSt → SecSt) : (s.modSec g).pair = s.pair := rfl
@[simp] theorem State.modSec_tim (g : SecSt → SecSt) : (s.modSec g).tim = s.tim := rfl
@[simp] theorem State.modSec_hk (g : SecSt → SecSt) : (s.modSec g).hk = s.hk := rfl
@[simp] theorem State.modSec_cal (g : SecSt → SecSt) : (s.modSec g).cal = s.cal := rfl
@[simp] theorem State.modSec_pwr (g : SecSt → SecSt) : (s.modSec g).pwr = s.pwr := rfl
@[simp] theorem State.modSec_cel (g : SecSt → SecSt) : (s.modSec g).cel = s.cel := rfl
@[simp] theorem State.modSec_perf (g : SecSt → SecSt) : (s.modSec g).perf = s.perf := rfl
@[simp] theorem State.modSec_out (g : SecSt → SecSt) : (s.modSec g).out = s.out := rfl
@[simp] theorem State.modSec_free (g : SecSt → SecSt) : (s.modSec g).free = s.free := rfl
@[simp] theorem State.modSec_wlog (g : SecSt → SecSt) : (s.modSec g).wlog = s.wlog := rfl
@[simp] theorem State.modSec_pending (g : SecSt → SecSt) : (s.modSec g).pending = s.pending := rfl
@[simp] theorem State.engOf_modSec (g : SecSt → SecSt) (k : Nat) : (s.modSec g).engOf k = s.engOf k := rfl
@[simp] theorem State.acqOf_modSec (g : SecSt → SecSt) (k : Nat) : (s.modSec g).acqOf k = s.acqOf k := rfl
@[simp] theorem State.fecOf_modSec (g : SecSt → SecSt) (k : Nat) : (s.modSec g).fecOf k = s.fecOf k := rfl
@[simp] theorem State.txOf_modSec (g : SecSt → SecSt) (k : Nat) : (s.modSec g).txOf k = s.txOf k := rfl
@[simp] theorem State.rxOf_modSec (g : SecSt → SecSt) (k : Nat) : (s.modSec g).rxOf k = s.rxOf k := rfl
@[simp] theorem State.pmOf_modSec (g : SecSt → SecSt) (k : Nat) : (s.modSec g).pmOf k = s.pmOf k := rfl
@[simp] theorem State.skOf_modSec (g : SecSt → SecSt) (k : Nat) : (s.modSec g).skOf k = s.skOf k := rfl
@[simp] theorem State.portOf_modSec (g : SecSt → SecSt) (k : Nat) : (s.modSec g).portOf k = s.portOf k := rfl
@[simp] theorem State.tribOf_modSec (g : SecSt → SecSt) (k : Nat) : (s.modSec g).tribOf k = s.tribOf k := rfl
@[simp] theorem State.grpOf_modSec (g : SecSt → SecSt) (k : Nat) : (s.modSec g).grpOf k = s.grpOf k := rfl
@[simp] theorem State.lockOf_modSec (g : SecSt → SecSt) (k : Nat) : (s.modSec g).lockOf k = s.lockOf k := rfl
@[simp] theorem State.ringOf_modSec (g : SecSt → SecSt) (k : Nat) : (s.modSec g).ringOf k = s.ringOf k := rfl
@[simp] theorem State.cntOf_modSec (g : SecSt → SecSt) (k : Nat) : (s.modSec g).cntOf k = s.cntOf k := rfl
@[simp] theorem State.rd_modSec (g : SecSt → SecSt) (f : Fld) (j : Nat) : (s.modSec g).rd f j = s.rd f j := rfl

@[simp] theorem State.modTrap_fuse (g : Trap → Trap) : (s.modTrap g).fuse = s.fuse := rfl
@[simp] theorem State.modTrap_pin (g : Trap → Trap) : (s.modTrap g).pin = s.pin := rfl
@[simp] theorem State.modTrap_regs (g : Trap → Trap) : (s.modTrap g).regs = s.regs := rfl
@[simp] theorem State.modTrap_cnt (g : Trap → Trap) : (s.modTrap g).cnt = s.cnt := rfl
@[simp] theorem State.modTrap_wrapc (g : Trap → Trap) : (s.modTrap g).wrapc = s.wrapc := rfl
@[simp] theorem State.modTrap_eng (g : Trap → Trap) : (s.modTrap g).eng = s.eng := rfl
@[simp] theorem State.modTrap_port (g : Trap → Trap) : (s.modTrap g).port = s.port := rfl
@[simp] theorem State.modTrap_trib (g : Trap → Trap) : (s.modTrap g).trib = s.trib := rfl
@[simp] theorem State.modTrap_grp (g : Trap → Trap) : (s.modTrap g).grp = s.grp := rfl
@[simp] theorem State.modTrap_bins (g : Trap → Trap) : (s.modTrap g).bins = s.bins := rfl
@[simp] theorem State.modTrap_lock (g : Trap → Trap) : (s.modTrap g).lock = s.lock := rfl
@[simp] theorem State.modTrap_ring (g : Trap → Trap) : (s.modTrap g).ring = s.ring := rfl
@[simp] theorem State.modTrap_host (g : Trap → Trap) : (s.modTrap g).host = s.host := rfl
@[simp] theorem State.modTrap_mode (g : Trap → Trap) : (s.modTrap g).mode = s.mode := rfl
@[simp] theorem State.modTrap_pair (g : Trap → Trap) : (s.modTrap g).pair = s.pair := rfl
@[simp] theorem State.modTrap_tim (g : Trap → Trap) : (s.modTrap g).tim = s.tim := rfl
@[simp] theorem State.modTrap_hk (g : Trap → Trap) : (s.modTrap g).hk = s.hk := rfl
@[simp] theorem State.modTrap_cal (g : Trap → Trap) : (s.modTrap g).cal = s.cal := rfl
@[simp] theorem State.modTrap_pwr (g : Trap → Trap) : (s.modTrap g).pwr = s.pwr := rfl
@[simp] theorem State.modTrap_cel (g : Trap → Trap) : (s.modTrap g).cel = s.cel := rfl
@[simp] theorem State.modTrap_perf (g : Trap → Trap) : (s.modTrap g).perf = s.perf := rfl
@[simp] theorem State.modTrap_out (g : Trap → Trap) : (s.modTrap g).out = s.out := rfl
@[simp] theorem State.modTrap_free (g : Trap → Trap) : (s.modTrap g).free = s.free := rfl
@[simp] theorem State.modTrap_wlog (g : Trap → Trap) : (s.modTrap g).wlog = s.wlog := rfl
@[simp] theorem State.modTrap_pending (g : Trap → Trap) : (s.modTrap g).pending = s.pending := rfl
@[simp] theorem State.engOf_modTrap (g : Trap → Trap) (k : Nat) : (s.modTrap g).engOf k = s.engOf k := rfl
@[simp] theorem State.acqOf_modTrap (g : Trap → Trap) (k : Nat) : (s.modTrap g).acqOf k = s.acqOf k := rfl
@[simp] theorem State.fecOf_modTrap (g : Trap → Trap) (k : Nat) : (s.modTrap g).fecOf k = s.fecOf k := rfl
@[simp] theorem State.txOf_modTrap (g : Trap → Trap) (k : Nat) : (s.modTrap g).txOf k = s.txOf k := rfl
@[simp] theorem State.rxOf_modTrap (g : Trap → Trap) (k : Nat) : (s.modTrap g).rxOf k = s.rxOf k := rfl
@[simp] theorem State.pmOf_modTrap (g : Trap → Trap) (k : Nat) : (s.modTrap g).pmOf k = s.pmOf k := rfl
@[simp] theorem State.skOf_modTrap (g : Trap → Trap) (k : Nat) : (s.modTrap g).skOf k = s.skOf k := rfl
@[simp] theorem State.portOf_modTrap (g : Trap → Trap) (k : Nat) : (s.modTrap g).portOf k = s.portOf k := rfl
@[simp] theorem State.tribOf_modTrap (g : Trap → Trap) (k : Nat) : (s.modTrap g).tribOf k = s.tribOf k := rfl
@[simp] theorem State.grpOf_modTrap (g : Trap → Trap) (k : Nat) : (s.modTrap g).grpOf k = s.grpOf k := rfl
@[simp] theorem State.lockOf_modTrap (g : Trap → Trap) (k : Nat) : (s.modTrap g).lockOf k = s.lockOf k := rfl
@[simp] theorem State.ringOf_modTrap (g : Trap → Trap) (k : Nat) : (s.modTrap g).ringOf k = s.ringOf k := rfl
@[simp] theorem State.cntOf_modTrap (g : Trap → Trap) (k : Nat) : (s.modTrap g).cntOf k = s.cntOf k := rfl
@[simp] theorem State.rd_modTrap (g : Trap → Trap) (f : Fld) (j : Nat) : (s.modTrap g).rd f j = s.rd f j := rfl

@[simp] theorem State.modPwr_fuse (g : PwrSt → PwrSt) : (s.modPwr g).fuse = s.fuse := rfl
@[simp] theorem State.modPwr_pin (g : PwrSt → PwrSt) : (s.modPwr g).pin = s.pin := rfl
@[simp] theorem State.modPwr_regs (g : PwrSt → PwrSt) : (s.modPwr g).regs = s.regs := rfl
@[simp] theorem State.modPwr_cnt (g : PwrSt → PwrSt) : (s.modPwr g).cnt = s.cnt := rfl
@[simp] theorem State.modPwr_wrapc (g : PwrSt → PwrSt) : (s.modPwr g).wrapc = s.wrapc := rfl
@[simp] theorem State.modPwr_eng (g : PwrSt → PwrSt) : (s.modPwr g).eng = s.eng := rfl
@[simp] theorem State.modPwr_port (g : PwrSt → PwrSt) : (s.modPwr g).port = s.port := rfl
@[simp] theorem State.modPwr_trib (g : PwrSt → PwrSt) : (s.modPwr g).trib = s.trib := rfl
@[simp] theorem State.modPwr_grp (g : PwrSt → PwrSt) : (s.modPwr g).grp = s.grp := rfl
@[simp] theorem State.modPwr_bins (g : PwrSt → PwrSt) : (s.modPwr g).bins = s.bins := rfl
@[simp] theorem State.modPwr_lock (g : PwrSt → PwrSt) : (s.modPwr g).lock = s.lock := rfl
@[simp] theorem State.modPwr_ring (g : PwrSt → PwrSt) : (s.modPwr g).ring = s.ring := rfl
@[simp] theorem State.modPwr_host (g : PwrSt → PwrSt) : (s.modPwr g).host = s.host := rfl
@[simp] theorem State.modPwr_mode (g : PwrSt → PwrSt) : (s.modPwr g).mode = s.mode := rfl
@[simp] theorem State.modPwr_pair (g : PwrSt → PwrSt) : (s.modPwr g).pair = s.pair := rfl
@[simp] theorem State.modPwr_tim (g : PwrSt → PwrSt) : (s.modPwr g).tim = s.tim := rfl
@[simp] theorem State.modPwr_hk (g : PwrSt → PwrSt) : (s.modPwr g).hk = s.hk := rfl
@[simp] theorem State.modPwr_cal (g : PwrSt → PwrSt) : (s.modPwr g).cal = s.cal := rfl
@[simp] theorem State.modPwr_cel (g : PwrSt → PwrSt) : (s.modPwr g).cel = s.cel := rfl
@[simp] theorem State.modPwr_sec (g : PwrSt → PwrSt) : (s.modPwr g).sec = s.sec := rfl
@[simp] theorem State.modPwr_perf (g : PwrSt → PwrSt) : (s.modPwr g).perf = s.perf := rfl
@[simp] theorem State.modPwr_out (g : PwrSt → PwrSt) : (s.modPwr g).out = s.out := rfl
@[simp] theorem State.modPwr_free (g : PwrSt → PwrSt) : (s.modPwr g).free = s.free := rfl
@[simp] theorem State.modPwr_wlog (g : PwrSt → PwrSt) : (s.modPwr g).wlog = s.wlog := rfl
@[simp] theorem State.modPwr_pending (g : PwrSt → PwrSt) : (s.modPwr g).pending = s.pending := rfl
@[simp] theorem State.engOf_modPwr (g : PwrSt → PwrSt) (k : Nat) : (s.modPwr g).engOf k = s.engOf k := rfl
@[simp] theorem State.acqOf_modPwr (g : PwrSt → PwrSt) (k : Nat) : (s.modPwr g).acqOf k = s.acqOf k := rfl
@[simp] theorem State.fecOf_modPwr (g : PwrSt → PwrSt) (k : Nat) : (s.modPwr g).fecOf k = s.fecOf k := rfl
@[simp] theorem State.txOf_modPwr (g : PwrSt → PwrSt) (k : Nat) : (s.modPwr g).txOf k = s.txOf k := rfl
@[simp] theorem State.rxOf_modPwr (g : PwrSt → PwrSt) (k : Nat) : (s.modPwr g).rxOf k = s.rxOf k := rfl
@[simp] theorem State.pmOf_modPwr (g : PwrSt → PwrSt) (k : Nat) : (s.modPwr g).pmOf k = s.pmOf k := rfl
@[simp] theorem State.skOf_modPwr (g : PwrSt → PwrSt) (k : Nat) : (s.modPwr g).skOf k = s.skOf k := rfl
@[simp] theorem State.portOf_modPwr (g : PwrSt → PwrSt) (k : Nat) : (s.modPwr g).portOf k = s.portOf k := rfl
@[simp] theorem State.tribOf_modPwr (g : PwrSt → PwrSt) (k : Nat) : (s.modPwr g).tribOf k = s.tribOf k := rfl
@[simp] theorem State.grpOf_modPwr (g : PwrSt → PwrSt) (k : Nat) : (s.modPwr g).grpOf k = s.grpOf k := rfl
@[simp] theorem State.lockOf_modPwr (g : PwrSt → PwrSt) (k : Nat) : (s.modPwr g).lockOf k = s.lockOf k := rfl
@[simp] theorem State.ringOf_modPwr (g : PwrSt → PwrSt) (k : Nat) : (s.modPwr g).ringOf k = s.ringOf k := rfl
@[simp] theorem State.cntOf_modPwr (g : PwrSt → PwrSt) (k : Nat) : (s.modPwr g).cntOf k = s.cntOf k := rfl
@[simp] theorem State.rd_modPwr (g : PwrSt → PwrSt) (f : Fld) (j : Nat) : (s.modPwr g).rd f j = s.rd f j := rfl

@[simp] theorem State.modCel_fuse (g : CelSt → CelSt) : (s.modCel g).fuse = s.fuse := rfl
@[simp] theorem State.modCel_pin (g : CelSt → CelSt) : (s.modCel g).pin = s.pin := rfl
@[simp] theorem State.modCel_regs (g : CelSt → CelSt) : (s.modCel g).regs = s.regs := rfl
@[simp] theorem State.modCel_cnt (g : CelSt → CelSt) : (s.modCel g).cnt = s.cnt := rfl
@[simp] theorem State.modCel_wrapc (g : CelSt → CelSt) : (s.modCel g).wrapc = s.wrapc := rfl
@[simp] theorem State.modCel_eng (g : CelSt → CelSt) : (s.modCel g).eng = s.eng := rfl
@[simp] theorem State.modCel_port (g : CelSt → CelSt) : (s.modCel g).port = s.port := rfl
@[simp] theorem State.modCel_trib (g : CelSt → CelSt) : (s.modCel g).trib = s.trib := rfl
@[simp] theorem State.modCel_grp (g : CelSt → CelSt) : (s.modCel g).grp = s.grp := rfl
@[simp] theorem State.modCel_bins (g : CelSt → CelSt) : (s.modCel g).bins = s.bins := rfl
@[simp] theorem State.modCel_lock (g : CelSt → CelSt) : (s.modCel g).lock = s.lock := rfl
@[simp] theorem State.modCel_ring (g : CelSt → CelSt) : (s.modCel g).ring = s.ring := rfl
@[simp] theorem State.modCel_host (g : CelSt → CelSt) : (s.modCel g).host = s.host := rfl
@[simp] theorem State.modCel_mode (g : CelSt → CelSt) : (s.modCel g).mode = s.mode := rfl
@[simp] theorem State.modCel_pair (g : CelSt → CelSt) : (s.modCel g).pair = s.pair := rfl
@[simp] theorem State.modCel_tim (g : CelSt → CelSt) : (s.modCel g).tim = s.tim := rfl
@[simp] theorem State.modCel_hk (g : CelSt → CelSt) : (s.modCel g).hk = s.hk := rfl
@[simp] theorem State.modCel_cal (g : CelSt → CelSt) : (s.modCel g).cal = s.cal := rfl
@[simp] theorem State.modCel_pwr (g : CelSt → CelSt) : (s.modCel g).pwr = s.pwr := rfl
@[simp] theorem State.modCel_sec (g : CelSt → CelSt) : (s.modCel g).sec = s.sec := rfl
@[simp] theorem State.modCel_perf (g : CelSt → CelSt) : (s.modCel g).perf = s.perf := rfl
@[simp] theorem State.modCel_out (g : CelSt → CelSt) : (s.modCel g).out = s.out := rfl
@[simp] theorem State.modCel_free (g : CelSt → CelSt) : (s.modCel g).free = s.free := rfl
@[simp] theorem State.modCel_wlog (g : CelSt → CelSt) : (s.modCel g).wlog = s.wlog := rfl
@[simp] theorem State.modCel_pending (g : CelSt → CelSt) : (s.modCel g).pending = s.pending := rfl
@[simp] theorem State.engOf_modCel (g : CelSt → CelSt) (k : Nat) : (s.modCel g).engOf k = s.engOf k := rfl
@[simp] theorem State.acqOf_modCel (g : CelSt → CelSt) (k : Nat) : (s.modCel g).acqOf k = s.acqOf k := rfl
@[simp] theorem State.fecOf_modCel (g : CelSt → CelSt) (k : Nat) : (s.modCel g).fecOf k = s.fecOf k := rfl
@[simp] theorem State.txOf_modCel (g : CelSt → CelSt) (k : Nat) : (s.modCel g).txOf k = s.txOf k := rfl
@[simp] theorem State.rxOf_modCel (g : CelSt → CelSt) (k : Nat) : (s.modCel g).rxOf k = s.rxOf k := rfl
@[simp] theorem State.pmOf_modCel (g : CelSt → CelSt) (k : Nat) : (s.modCel g).pmOf k = s.pmOf k := rfl
@[simp] theorem State.skOf_modCel (g : CelSt → CelSt) (k : Nat) : (s.modCel g).skOf k = s.skOf k := rfl
@[simp] theorem State.portOf_modCel (g : CelSt → CelSt) (k : Nat) : (s.modCel g).portOf k = s.portOf k := rfl
@[simp] theorem State.tribOf_modCel (g : CelSt → CelSt) (k : Nat) : (s.modCel g).tribOf k = s.tribOf k := rfl
@[simp] theorem State.grpOf_modCel (g : CelSt → CelSt) (k : Nat) : (s.modCel g).grpOf k = s.grpOf k := rfl
@[simp] theorem State.lockOf_modCel (g : CelSt → CelSt) (k : Nat) : (s.modCel g).lockOf k = s.lockOf k := rfl
@[simp] theorem State.ringOf_modCel (g : CelSt → CelSt) (k : Nat) : (s.modCel g).ringOf k = s.ringOf k := rfl
@[simp] theorem State.cntOf_modCel (g : CelSt → CelSt) (k : Nat) : (s.modCel g).cntOf k = s.cntOf k := rfl
@[simp] theorem State.rd_modCel (g : CelSt → CelSt) (f : Fld) (j : Nat) : (s.modCel g).rd f j = s.rd f j := rfl

@[simp] theorem State.modPair_fuse (g : PairSt → PairSt) : (s.modPair g).fuse = s.fuse := rfl
@[simp] theorem State.modPair_pin (g : PairSt → PairSt) : (s.modPair g).pin = s.pin := rfl
@[simp] theorem State.modPair_regs (g : PairSt → PairSt) : (s.modPair g).regs = s.regs := rfl
@[simp] theorem State.modPair_cnt (g : PairSt → PairSt) : (s.modPair g).cnt = s.cnt := rfl
@[simp] theorem State.modPair_wrapc (g : PairSt → PairSt) : (s.modPair g).wrapc = s.wrapc := rfl
@[simp] theorem State.modPair_eng (g : PairSt → PairSt) : (s.modPair g).eng = s.eng := rfl
@[simp] theorem State.modPair_port (g : PairSt → PairSt) : (s.modPair g).port = s.port := rfl
@[simp] theorem State.modPair_trib (g : PairSt → PairSt) : (s.modPair g).trib = s.trib := rfl
@[simp] theorem State.modPair_grp (g : PairSt → PairSt) : (s.modPair g).grp = s.grp := rfl
@[simp] theorem State.modPair_bins (g : PairSt → PairSt) : (s.modPair g).bins = s.bins := rfl
@[simp] theorem State.modPair_lock (g : PairSt → PairSt) : (s.modPair g).lock = s.lock := rfl
@[simp] theorem State.modPair_ring (g : PairSt → PairSt) : (s.modPair g).ring = s.ring := rfl
@[simp] theorem State.modPair_host (g : PairSt → PairSt) : (s.modPair g).host = s.host := rfl
@[simp] theorem State.modPair_mode (g : PairSt → PairSt) : (s.modPair g).mode = s.mode := rfl
@[simp] theorem State.modPair_tim (g : PairSt → PairSt) : (s.modPair g).tim = s.tim := rfl
@[simp] theorem State.modPair_hk (g : PairSt → PairSt) : (s.modPair g).hk = s.hk := rfl
@[simp] theorem State.modPair_cal (g : PairSt → PairSt) : (s.modPair g).cal = s.cal := rfl
@[simp] theorem State.modPair_pwr (g : PairSt → PairSt) : (s.modPair g).pwr = s.pwr := rfl
@[simp] theorem State.modPair_cel (g : PairSt → PairSt) : (s.modPair g).cel = s.cel := rfl
@[simp] theorem State.modPair_sec (g : PairSt → PairSt) : (s.modPair g).sec = s.sec := rfl
@[simp] theorem State.modPair_perf (g : PairSt → PairSt) : (s.modPair g).perf = s.perf := rfl
@[simp] theorem State.modPair_out (g : PairSt → PairSt) : (s.modPair g).out = s.out := rfl
@[simp] theorem State.modPair_free (g : PairSt → PairSt) : (s.modPair g).free = s.free := rfl
@[simp] theorem State.modPair_wlog (g : PairSt → PairSt) : (s.modPair g).wlog = s.wlog := rfl
@[simp] theorem State.modPair_pending (g : PairSt → PairSt) : (s.modPair g).pending = s.pending := rfl
@[simp] theorem State.engOf_modPair (g : PairSt → PairSt) (k : Nat) : (s.modPair g).engOf k = s.engOf k := rfl
@[simp] theorem State.acqOf_modPair (g : PairSt → PairSt) (k : Nat) : (s.modPair g).acqOf k = s.acqOf k := rfl
@[simp] theorem State.fecOf_modPair (g : PairSt → PairSt) (k : Nat) : (s.modPair g).fecOf k = s.fecOf k := rfl
@[simp] theorem State.txOf_modPair (g : PairSt → PairSt) (k : Nat) : (s.modPair g).txOf k = s.txOf k := rfl
@[simp] theorem State.rxOf_modPair (g : PairSt → PairSt) (k : Nat) : (s.modPair g).rxOf k = s.rxOf k := rfl
@[simp] theorem State.pmOf_modPair (g : PairSt → PairSt) (k : Nat) : (s.modPair g).pmOf k = s.pmOf k := rfl
@[simp] theorem State.skOf_modPair (g : PairSt → PairSt) (k : Nat) : (s.modPair g).skOf k = s.skOf k := rfl
@[simp] theorem State.portOf_modPair (g : PairSt → PairSt) (k : Nat) : (s.modPair g).portOf k = s.portOf k := rfl
@[simp] theorem State.tribOf_modPair (g : PairSt → PairSt) (k : Nat) : (s.modPair g).tribOf k = s.tribOf k := rfl
@[simp] theorem State.grpOf_modPair (g : PairSt → PairSt) (k : Nat) : (s.modPair g).grpOf k = s.grpOf k := rfl
@[simp] theorem State.lockOf_modPair (g : PairSt → PairSt) (k : Nat) : (s.modPair g).lockOf k = s.lockOf k := rfl
@[simp] theorem State.ringOf_modPair (g : PairSt → PairSt) (k : Nat) : (s.modPair g).ringOf k = s.ringOf k := rfl
@[simp] theorem State.cntOf_modPair (g : PairSt → PairSt) (k : Nat) : (s.modPair g).cntOf k = s.cntOf k := rfl
@[simp] theorem State.rd_modPair (g : PairSt → PairSt) (f : Fld) (j : Nat) : (s.modPair g).rd f j = s.rd f j := rfl

@[simp] theorem State.modPeer_fuse (g : Peer → Peer) : (s.modPeer g).fuse = s.fuse := rfl
@[simp] theorem State.modPeer_pin (g : Peer → Peer) : (s.modPeer g).pin = s.pin := rfl
@[simp] theorem State.modPeer_regs (g : Peer → Peer) : (s.modPeer g).regs = s.regs := rfl
@[simp] theorem State.modPeer_cnt (g : Peer → Peer) : (s.modPeer g).cnt = s.cnt := rfl
@[simp] theorem State.modPeer_wrapc (g : Peer → Peer) : (s.modPeer g).wrapc = s.wrapc := rfl
@[simp] theorem State.modPeer_eng (g : Peer → Peer) : (s.modPeer g).eng = s.eng := rfl
@[simp] theorem State.modPeer_port (g : Peer → Peer) : (s.modPeer g).port = s.port := rfl
@[simp] theorem State.modPeer_trib (g : Peer → Peer) : (s.modPeer g).trib = s.trib := rfl
@[simp] theorem State.modPeer_grp (g : Peer → Peer) : (s.modPeer g).grp = s.grp := rfl
@[simp] theorem State.modPeer_bins (g : Peer → Peer) : (s.modPeer g).bins = s.bins := rfl
@[simp] theorem State.modPeer_lock (g : Peer → Peer) : (s.modPeer g).lock = s.lock := rfl
@[simp] theorem State.modPeer_ring (g : Peer → Peer) : (s.modPeer g).ring = s.ring := rfl
@[simp] theorem State.modPeer_host (g : Peer → Peer) : (s.modPeer g).host = s.host := rfl
@[simp] theorem State.modPeer_mode (g : Peer → Peer) : (s.modPeer g).mode = s.mode := rfl
@[simp] theorem State.modPeer_tim (g : Peer → Peer) : (s.modPeer g).tim = s.tim := rfl
@[simp] theorem State.modPeer_hk (g : Peer → Peer) : (s.modPeer g).hk = s.hk := rfl
@[simp] theorem State.modPeer_cal (g : Peer → Peer) : (s.modPeer g).cal = s.cal := rfl
@[simp] theorem State.modPeer_pwr (g : Peer → Peer) : (s.modPeer g).pwr = s.pwr := rfl
@[simp] theorem State.modPeer_cel (g : Peer → Peer) : (s.modPeer g).cel = s.cel := rfl
@[simp] theorem State.modPeer_sec (g : Peer → Peer) : (s.modPeer g).sec = s.sec := rfl
@[simp] theorem State.modPeer_perf (g : Peer → Peer) : (s.modPeer g).perf = s.perf := rfl
@[simp] theorem State.modPeer_out (g : Peer → Peer) : (s.modPeer g).out = s.out := rfl
@[simp] theorem State.modPeer_free (g : Peer → Peer) : (s.modPeer g).free = s.free := rfl
@[simp] theorem State.modPeer_wlog (g : Peer → Peer) : (s.modPeer g).wlog = s.wlog := rfl
@[simp] theorem State.modPeer_pending (g : Peer → Peer) : (s.modPeer g).pending = s.pending := rfl
@[simp] theorem State.engOf_modPeer (g : Peer → Peer) (k : Nat) : (s.modPeer g).engOf k = s.engOf k := rfl
@[simp] theorem State.acqOf_modPeer (g : Peer → Peer) (k : Nat) : (s.modPeer g).acqOf k = s.acqOf k := rfl
@[simp] theorem State.fecOf_modPeer (g : Peer → Peer) (k : Nat) : (s.modPeer g).fecOf k = s.fecOf k := rfl
@[simp] theorem State.txOf_modPeer (g : Peer → Peer) (k : Nat) : (s.modPeer g).txOf k = s.txOf k := rfl
@[simp] theorem State.rxOf_modPeer (g : Peer → Peer) (k : Nat) : (s.modPeer g).rxOf k = s.rxOf k := rfl
@[simp] theorem State.pmOf_modPeer (g : Peer → Peer) (k : Nat) : (s.modPeer g).pmOf k = s.pmOf k := rfl
@[simp] theorem State.skOf_modPeer (g : Peer → Peer) (k : Nat) : (s.modPeer g).skOf k = s.skOf k := rfl
@[simp] theorem State.portOf_modPeer (g : Peer → Peer) (k : Nat) : (s.modPeer g).portOf k = s.portOf k := rfl
@[simp] theorem State.tribOf_modPeer (g : Peer → Peer) (k : Nat) : (s.modPeer g).tribOf k = s.tribOf k := rfl
@[simp] theorem State.grpOf_modPeer (g : Peer → Peer) (k : Nat) : (s.modPeer g).grpOf k = s.grpOf k := rfl
@[simp] theorem State.lockOf_modPeer (g : Peer → Peer) (k : Nat) : (s.modPeer g).lockOf k = s.lockOf k := rfl
@[simp] theorem State.ringOf_modPeer (g : Peer → Peer) (k : Nat) : (s.modPeer g).ringOf k = s.ringOf k := rfl
@[simp] theorem State.cntOf_modPeer (g : Peer → Peer) (k : Nat) : (s.modPeer g).cntOf k = s.cntOf k := rfl
@[simp] theorem State.rd_modPeer (g : Peer → Peer) (f : Fld) (j : Nat) : (s.modPeer g).rd f j = s.rd f j := rfl

@[simp] theorem State.modRef_fuse (n : Nat) (g : RefSt → RefSt) : (s.modRef n g).fuse = s.fuse := rfl
@[simp] theorem State.modRef_pin (n : Nat) (g : RefSt → RefSt) : (s.modRef n g).pin = s.pin := rfl
@[simp] theorem State.modRef_regs (n : Nat) (g : RefSt → RefSt) : (s.modRef n g).regs = s.regs := rfl
@[simp] theorem State.modRef_cnt (n : Nat) (g : RefSt → RefSt) : (s.modRef n g).cnt = s.cnt := rfl
@[simp] theorem State.modRef_wrapc (n : Nat) (g : RefSt → RefSt) : (s.modRef n g).wrapc = s.wrapc := rfl
@[simp] theorem State.modRef_eng (n : Nat) (g : RefSt → RefSt) : (s.modRef n g).eng = s.eng := rfl
@[simp] theorem State.modRef_port (n : Nat) (g : RefSt → RefSt) : (s.modRef n g).port = s.port := rfl
@[simp] theorem State.modRef_trib (n : Nat) (g : RefSt → RefSt) : (s.modRef n g).trib = s.trib := rfl
@[simp] theorem State.modRef_grp (n : Nat) (g : RefSt → RefSt) : (s.modRef n g).grp = s.grp := rfl
@[simp] theorem State.modRef_bins (n : Nat) (g : RefSt → RefSt) : (s.modRef n g).bins = s.bins := rfl
@[simp] theorem State.modRef_lock (n : Nat) (g : RefSt → RefSt) : (s.modRef n g).lock = s.lock := rfl
@[simp] theorem State.modRef_ring (n : Nat) (g : RefSt → RefSt) : (s.modRef n g).ring = s.ring := rfl
@[simp] theorem State.modRef_host (n : Nat) (g : RefSt → RefSt) : (s.modRef n g).host = s.host := rfl
@[simp] theorem State.modRef_mode (n : Nat) (g : RefSt → RefSt) : (s.modRef n g).mode = s.mode := rfl
@[simp] theorem State.modRef_pair (n : Nat) (g : RefSt → RefSt) : (s.modRef n g).pair = s.pair := rfl
@[simp] theorem State.modRef_hk (n : Nat) (g : RefSt → RefSt) : (s.modRef n g).hk = s.hk := rfl
@[simp] theorem State.modRef_cal (n : Nat) (g : RefSt → RefSt) : (s.modRef n g).cal = s.cal := rfl
@[simp] theorem State.modRef_pwr (n : Nat) (g : RefSt → RefSt) : (s.modRef n g).pwr = s.pwr := rfl
@[simp] theorem State.modRef_cel (n : Nat) (g : RefSt → RefSt) : (s.modRef n g).cel = s.cel := rfl
@[simp] theorem State.modRef_sec (n : Nat) (g : RefSt → RefSt) : (s.modRef n g).sec = s.sec := rfl
@[simp] theorem State.modRef_perf (n : Nat) (g : RefSt → RefSt) : (s.modRef n g).perf = s.perf := rfl
@[simp] theorem State.modRef_out (n : Nat) (g : RefSt → RefSt) : (s.modRef n g).out = s.out := rfl
@[simp] theorem State.modRef_free (n : Nat) (g : RefSt → RefSt) : (s.modRef n g).free = s.free := rfl
@[simp] theorem State.modRef_wlog (n : Nat) (g : RefSt → RefSt) : (s.modRef n g).wlog = s.wlog := rfl
@[simp] theorem State.modRef_pending (n : Nat) (g : RefSt → RefSt) : (s.modRef n g).pending = s.pending := rfl
@[simp] theorem State.engOf_modRef (n : Nat) (g : RefSt → RefSt) (k : Nat) : (s.modRef n g).engOf k = s.engOf k := rfl
@[simp] theorem State.acqOf_modRef (n : Nat) (g : RefSt → RefSt) (k : Nat) : (s.modRef n g).acqOf k = s.acqOf k := rfl
@[simp] theorem State.fecOf_modRef (n : Nat) (g : RefSt → RefSt) (k : Nat) : (s.modRef n g).fecOf k = s.fecOf k := rfl
@[simp] theorem State.txOf_modRef (n : Nat) (g : RefSt → RefSt) (k : Nat) : (s.modRef n g).txOf k = s.txOf k := rfl
@[simp] theorem State.rxOf_modRef (n : Nat) (g : RefSt → RefSt) (k : Nat) : (s.modRef n g).rxOf k = s.rxOf k := rfl
@[simp] theorem State.pmOf_modRef (n : Nat) (g : RefSt → RefSt) (k : Nat) : (s.modRef n g).pmOf k = s.pmOf k := rfl
@[simp] theorem State.skOf_modRef (n : Nat) (g : RefSt → RefSt) (k : Nat) : (s.modRef n g).skOf k = s.skOf k := rfl
@[simp] theorem State.portOf_modRef (n : Nat) (g : RefSt → RefSt) (k : Nat) : (s.modRef n g).portOf k = s.portOf k := rfl
@[simp] theorem State.tribOf_modRef (n : Nat) (g : RefSt → RefSt) (k : Nat) : (s.modRef n g).tribOf k = s.tribOf k := rfl
@[simp] theorem State.grpOf_modRef (n : Nat) (g : RefSt → RefSt) (k : Nat) : (s.modRef n g).grpOf k = s.grpOf k := rfl
@[simp] theorem State.lockOf_modRef (n : Nat) (g : RefSt → RefSt) (k : Nat) : (s.modRef n g).lockOf k = s.lockOf k := rfl
@[simp] theorem State.ringOf_modRef (n : Nat) (g : RefSt → RefSt) (k : Nat) : (s.modRef n g).ringOf k = s.ringOf k := rfl
@[simp] theorem State.cntOf_modRef (n : Nat) (g : RefSt → RefSt) (k : Nat) : (s.modRef n g).cntOf k = s.cntOf k := rfl
@[simp] theorem State.rd_modRef (n : Nat) (g : RefSt → RefSt) (f : Fld) (j : Nat) : (s.modRef n g).rd f j = s.rd f j := rfl

/-! ### Reads after a plain update of one part -/

section Parts
variable
  {fuse : Fuses}
  {pin : Pins}
  {regs : SMap Nat}
  {cnt : SMap Nat}
  {wrapc : SMap Nat}
  {eng : SMap Engine}
  {port : SMap Port}
  {trib : SMap Trib}
  {grp : SMap Grp}
  {bins : SMap Nat}
  {lock : SMap Locker}
  {ring : SMap RingSt}
  {host : HostSt}
  {mode : ModeSt}
  {pair : PairSt}
  {tim : TimSt}
  {hk : HkSt}
  {cal : CalSt}
  {pwr : PwrSt}
  {cel : CelSt}
  {sec : SecSt}
  {perf : PerfSt}
  {out : List Out}
  {free : Nat}
  {wlog : List (Nat × Nat × Nat)}
  {pending : List Instr}

@[simp] theorem State.rd_mk (f : Fld) (j : Nat) :
    (State.mk fuse pin s.regs cnt wrapc eng port trib grp bins lock ring host mode pair tim hk cal pwr cel sec perf out free wlog pending).rd f j = s.rd f j := rfl
@[simp] theorem State.engOf_mk (n : Nat) :
    (State.mk fuse pin regs cnt wrapc s.eng port trib grp bins lock ring host mode pair tim hk cal pwr cel sec perf out free wlog pending).engOf n = s.engOf n := rfl
@[simp] theorem State.acqOf_mk (n : Nat) :
    (State.mk fuse pin regs cnt wrapc s.eng port trib grp bins lock ring host mode pair tim hk cal pwr cel sec perf out free wlog pending).acqOf n = s.acqOf n := rfl
@[simp] theorem State.fecOf_mk (n : Nat) :
    (State.mk fuse pin regs cnt wrapc s.eng port trib grp bins lock ring host mode pair tim hk cal pwr cel sec perf out free wlog pending).fecOf n = s.fecOf n := rfl
@[simp] theorem State.txOf_mk (n : Nat) :
    (State.mk fuse pin regs cnt wrapc s.eng port trib grp bins lock ring host mode pair tim hk cal pwr cel sec perf out free wlog pending).txOf n = s.txOf n := rfl
@[simp] theorem State.rxOf_mk (n : Nat) :
    (State.mk fuse pin regs cnt wrapc s.eng port trib grp bins lock ring host mode pair tim hk cal pwr cel sec perf out free wlog pending).rxOf n = s.rxOf n := rfl
@[simp] theorem State.pmOf_mk (n : Nat) :
    (State.mk fuse pin regs cnt wrapc s.eng port trib grp bins lock ring host mode pair tim hk cal pwr cel sec perf out free wlog pending).pmOf n = s.pmOf n := rfl
@[simp] theorem State.skOf_mk (n : Nat) :
    (State.mk fuse pin regs cnt wrapc s.eng port trib grp bins lock ring host mode pair tim hk cal pwr cel sec perf out free wlog pending).skOf n = s.skOf n := rfl
@[simp] theorem State.portOf_mk (n : Nat) :
    (State.mk fuse pin regs cnt wrapc eng s.port trib grp bins lock ring host mode pair tim hk cal pwr cel sec perf out free wlog pending).portOf n = s.portOf n := rfl
@[simp] theorem State.tribOf_mk (n : Nat) :
    (State.mk fuse pin regs cnt wrapc eng port s.trib grp bins lock ring host mode pair tim hk cal pwr cel sec perf out free wlog pending).tribOf n = s.tribOf n := rfl
@[simp] theorem State.grpOf_mk (n : Nat) :
    (State.mk fuse pin regs cnt wrapc eng port trib s.grp bins lock ring host mode pair tim hk cal pwr cel sec perf out free wlog pending).grpOf n = s.grpOf n := rfl
@[simp] theorem State.lockOf_mk (n : Nat) :
    (State.mk fuse pin regs cnt wrapc eng port trib grp bins s.lock ring host mode pair tim hk cal pwr cel sec perf out free wlog pending).lockOf n = s.lockOf n := rfl
@[simp] theorem State.ringOf_mk (n : Nat) :
    (State.mk fuse pin regs cnt wrapc eng port trib grp bins lock s.ring host mode pair tim hk cal pwr cel sec perf out free wlog pending).ringOf n = s.ringOf n := rfl
@[simp] theorem State.cntOf_mk (n : Nat) :
    (State.mk fuse pin regs s.cnt wrapc eng port trib grp bins lock ring host mode pair tim hk cal pwr cel sec perf out free wlog pending).cntOf n = s.cntOf n := rfl

end Parts

/-! ### Tables -/

@[simp] theorem State.engOf_setEng (n : Nat) (e : Engine) : (s.setEng n e).engOf n = e := by
  simp [State.engOf, State.setEng]
@[simp] theorem State.engOf_modEng (n : Nat) (g : Engine → Engine) : (s.modEng n g).engOf n = g (s.engOf n) := by
  simp [State.modEng]
theorem State.engOf_modEng_ne {n k : Nat} (g : Engine → Engine) (h : n ≠ k) : (s.modEng n g).engOf k = s.engOf k :=
  SMap.get_set_ne _ _ _ h

@[simp] theorem State.acqOf_modAcq (n : Nat) (g : EngAcq → EngAcq) : (s.modAcq n g).acqOf n = g (s.acqOf n) := by
  simp [State.modAcq, State.acqOf]
theorem State.acqOf_modAcq_ne {n k : Nat} (g : EngAcq → EngAcq) (h : n ≠ k) : (s.modAcq n g).acqOf k = s.acqOf k := by
  simp [State.modAcq, State.acqOf, State.engOf_modEng_ne s _ h]
@[simp] theorem State.fecOf_modAcq (n : Nat) (g : EngAcq → EngAcq) : (s.modAcq n g).fecOf n = s.fecOf n := by
  simp [State.modAcq, State.fecOf]
@[simp] theorem State.fecOf_modAcq_any (n k : Nat) (g : EngAcq → EngAcq) : (s.modAcq n g).fecOf k = s.fecOf k := by
  by_cases h : n = k
  · subst h; simp
  · simp [State.modAcq, State.fecOf, State.engOf_modEng_ne s _ h]
@[simp] theorem State.txOf_modAcq (n : Nat) (g : EngAcq → EngAcq) : (s.modAcq n g).txOf n = s.txOf n := by
  simp [State.modAcq, State.txOf]
@[simp] theorem State.txOf_modAcq_any (n k : Nat) (g : EngAcq → EngAcq) : (s.modAcq n g).txOf k = s.txOf k := by
  by_cases h : n = k
  · subst h; simp
  · simp [State.modAcq, State.txOf, State.engOf_modEng_ne s _ h]
@[simp] theorem State.rxOf_modAcq (n : Nat) (g : EngAcq → EngAcq) : (s.modAcq n g).rxOf n = s.rxOf n := by
  simp [State.modAcq, State.rxOf]
@[simp] theorem State.rxOf_modAcq_any (n k : Nat) (g : EngAcq → EngAcq) : (s.modAcq n g).rxOf k = s.rxOf k := by
  by_cases h : n = k
  · subst h; simp
  · simp [State.modAcq, State.rxOf, State.engOf_modEng_ne s _ h]
@[simp] theorem State.pmOf_modAcq (n : Nat) (g : EngAcq → EngAcq) : (s.modAcq n g).pmOf n = s.pmOf n := by
  simp [State.modAcq, State.pmOf]
@[simp] theorem State.pmOf_modAcq_any (n k : Nat) (g : EngAcq → EngAcq) : (s.modAcq n g).pmOf k = s.pmOf k := by
  by_cases h : n = k
  · subst h; simp
  · simp [State.modAcq, State.pmOf, State.engOf_modEng_ne s _ h]
@[simp] theorem State.skOf_modAcq (n : Nat) (g : EngAcq → EngAcq) : (s.modAcq n g).skOf n = s.skOf n := by
  simp [State.modAcq, State.skOf]
@[simp] theorem State.skOf_modAcq_any (n k : Nat) (g : EngAcq → EngAcq) : (s.modAcq n g).skOf k = s.skOf k := by
  by_cases h : n = k
  · subst h; simp
  · simp [State.modAcq, State.skOf, State.engOf_modEng_ne s _ h]
@[simp] theorem State.acqOf_modFec (n : Nat) (g : EngFec → EngFec) : (s.modFec n g).acqOf n = s.acqOf n := by
  simp [State.modFec, State.acqOf]
@[simp] theorem State.acqOf_modFec_any (n k : Nat) (g : EngFec → EngFec) : (s.modFec n g).acqOf k = s.acqOf k := by
  by_cases h : n = k
  · subst h; simp
  · simp [State.modFec, State.acqOf, State.engOf_modEng_ne s _ h]
@[simp] theorem State.fecOf_modFec (n : Nat) (g : EngFec → EngFec) : (s.modFec n g).fecOf n = g (s.fecOf n) := by
  simp [State.modFec, State.fecOf]
theorem State.fecOf_modFec_ne {n k : Nat} (g : EngFec → EngFec) (h : n ≠ k) : (s.modFec n g).fecOf k = s.fecOf k := by
  simp [State.modFec, State.fecOf, State.engOf_modEng_ne s _ h]
@[simp] theorem State.txOf_modFec (n : Nat) (g : EngFec → EngFec) : (s.modFec n g).txOf n = s.txOf n := by
  simp [State.modFec, State.txOf]
@[simp] theorem State.txOf_modFec_any (n k : Nat) (g : EngFec → EngFec) : (s.modFec n g).txOf k = s.txOf k := by
  by_cases h : n = k
  · subst h; simp
  · simp [State.modFec, State.txOf, State.engOf_modEng_ne s _ h]
@[simp] theorem State.rxOf_modFec (n : Nat) (g : EngFec → EngFec) : (s.modFec n g).rxOf n = s.rxOf n := by
  simp [State.modFec, State.rxOf]
@[simp] theorem State.rxOf_modFec_any (n k : Nat) (g : EngFec → EngFec) : (s.modFec n g).rxOf k = s.rxOf k := by
  by_cases h : n = k
  · subst h; simp
  · simp [State.modFec, State.rxOf, State.engOf_modEng_ne s _ h]
@[simp] theorem State.pmOf_modFec (n : Nat) (g : EngFec → EngFec) : (s.modFec n g).pmOf n = s.pmOf n := by
  simp [State.modFec, State.pmOf]
@[simp] theorem State.pmOf_modFec_any (n k : Nat) (g : EngFec → EngFec) : (s.modFec n g).pmOf k = s.pmOf k := by
  by_cases h : n = k
  · subst h; simp
  · simp [State.modFec, State.pmOf, State.engOf_modEng_ne s _ h]
@[simp] theorem State.skOf_modFec (n : Nat) (g : EngFec → EngFec) : (s.modFec n g).skOf n = s.skOf n := by
  simp [State.modFec, State.skOf]
@[simp] theorem State.skOf_modFec_any (n k : Nat) (g : EngFec → EngFec) : (s.modFec n g).skOf k = s.skOf k := by
  by_cases h : n = k
  · subst h; simp
  · simp [State.modFec, State.skOf, State.engOf_modEng_ne s _ h]
@[simp] theorem State.acqOf_modTx (n : Nat) (g : EngTx → EngTx) : (s.modTx n g).acqOf n = s.acqOf n := by
  simp [State.modTx, State.acqOf]
@[simp] theorem State.acqOf_modTx_any (n k : Nat) (g : EngTx → EngTx) : (s.modTx n g).acqOf k = s.acqOf k := by
  by_cases h : n = k
  · subst h; simp
  · simp [State.modTx, State.acqOf, State.engOf_modEng_ne s _ h]
@[simp] theorem State.fecOf_modTx (n : Nat) (g : EngTx → EngTx) : (s.modTx n g).fecOf n = s.fecOf n := by
  simp [State.modTx, State.fecOf]
@[simp] theorem State.fecOf_modTx_any (n k : Nat) (g : EngTx → EngTx) : (s.modTx n g).fecOf k = s.fecOf k := by
  by_cases h : n = k
  · subst h; simp
  · simp [State.modTx, State.fecOf, State.engOf_modEng_ne s _ h]
@[simp] theorem State.txOf_modTx (n : Nat) (g : EngTx → EngTx) : (s.modTx n g).txOf n = g (s.txOf n) := by
  simp [State.modTx, State.txOf]
theorem State.txOf_modTx_ne {n k : Nat} (g : EngTx → EngTx) (h : n ≠ k) : (s.modTx n g).txOf k = s.txOf k := by
  simp [State.modTx, State.txOf, State.engOf_modEng_ne s _ h]
@[simp] theorem State.rxOf_modTx (n : Nat) (g : EngTx → EngTx) : (s.modTx n g).rxOf n = s.rxOf n := by
  simp [State.modTx, State.rxOf]
@[simp] theorem State.rxOf_modTx_any (n k : Nat) (g : EngTx → EngTx) : (s.modTx n g).rxOf k = s.rxOf k := by
  by_cases h : n = k
  · subst h; simp
  · simp [State.modTx, State.rxOf, State.engOf_modEng_ne s _ h]
@[simp] theorem State.pmOf_modTx (n : Nat) (g : EngTx → EngTx) : (s.modTx n g).pmOf n = s.pmOf n := by
  simp [State.modTx, State.pmOf]
@[simp] theorem State.pmOf_modTx_any (n k : Nat) (g : EngTx → EngTx) : (s.modTx n g).pmOf k = s.pmOf k := by
  by_cases h : n = k
  · subst h; simp
  · simp [State.modTx, State.pmOf, State.engOf_modEng_ne s _ h]
@[simp] theorem State.skOf_modTx (n : Nat) (g : EngTx → EngTx) : (s.modTx n g).skOf n = s.skOf n := by
  simp [State.modTx, State.skOf]
@[simp] theorem State.skOf_modTx_any (n k : Nat) (g : EngTx → EngTx) : (s.modTx n g).skOf k = s.skOf k := by
  by_cases h : n = k
  · subst h; simp
  · simp [State.modTx, State.skOf, State.engOf_modEng_ne s _ h]
@[simp] theorem State.acqOf_modRx (n : Nat) (g : EngRx → EngRx) : (s.modRx n g).acqOf n = s.acqOf n := by
  simp [State.modRx, State.acqOf]
@[simp] theorem State.acqOf_modRx_any (n k : Nat) (g : EngRx → EngRx) : (s.modRx n g).acqOf k = s.acqOf k := by
  by_cases h : n = k
  · subst h; simp
  · simp [State.modRx, State.acqOf, State.engOf_modEng_ne s _ h]
@[simp] theorem State.fecOf_modRx (n : Nat) (g : EngRx → EngRx) : (s.modRx n g).fecOf n = s.fecOf n := by
  simp [State.modRx, State.fecOf]
@[simp] theorem State.fecOf_modRx_any (n k : Nat) (g : EngRx → EngRx) : (s.modRx n g).fecOf k = s.fecOf k := by
  by_cases h : n = k
  · subst h; simp
  · simp [State.modRx, State.fecOf, State.engOf_modEng_ne s _ h]
@[simp] theorem State.txOf_modRx (n : Nat) (g : EngRx → EngRx) : (s.modRx n g).txOf n = s.txOf n := by
  simp [State.modRx, State.txOf]
@[simp] theorem State.txOf_modRx_any (n k : Nat) (g : EngRx → EngRx) : (s.modRx n g).txOf k = s.txOf k := by
  by_cases h : n = k
  · subst h; simp
  · simp [State.modRx, State.txOf, State.engOf_modEng_ne s _ h]
@[simp] theorem State.rxOf_modRx (n : Nat) (g : EngRx → EngRx) : (s.modRx n g).rxOf n = g (s.rxOf n) := by
  simp [State.modRx, State.rxOf]
theorem State.rxOf_modRx_ne {n k : Nat} (g : EngRx → EngRx) (h : n ≠ k) : (s.modRx n g).rxOf k = s.rxOf k := by
  simp [State.modRx, State.rxOf, State.engOf_modEng_ne s _ h]
@[simp] theorem State.pmOf_modRx (n : Nat) (g : EngRx → EngRx) : (s.modRx n g).pmOf n = s.pmOf n := by
  simp [State.modRx, State.pmOf]
@[simp] theorem State.pmOf_modRx_any (n k : Nat) (g : EngRx → EngRx) : (s.modRx n g).pmOf k = s.pmOf k := by
  by_cases h : n = k
  · subst h; simp
  · simp [State.modRx, State.pmOf, State.engOf_modEng_ne s _ h]
@[simp] theorem State.skOf_modRx (n : Nat) (g : EngRx → EngRx) : (s.modRx n g).skOf n = s.skOf n := by
  simp [State.modRx, State.skOf]
@[simp] theorem State.skOf_modRx_any (n k : Nat) (g : EngRx → EngRx) : (s.modRx n g).skOf k = s.skOf k := by
  by_cases h : n = k
  · subst h; simp
  · simp [State.modRx, State.skOf, State.engOf_modEng_ne s _ h]
@[simp] theorem State.acqOf_modPm (n : Nat) (g : EngPm → EngPm) : (s.modPm n g).acqOf n = s.acqOf n := by
  simp [State.modPm, State.acqOf]
@[simp] theorem State.acqOf_modPm_any (n k : Nat) (g : EngPm → EngPm) : (s.modPm n g).acqOf k = s.acqOf k := by
  by_cases h : n = k
  · subst h; simp
  · simp [State.modPm, State.acqOf, State.engOf_modEng_ne s _ h]
@[simp] theorem State.fecOf_modPm (n : Nat) (g : EngPm → EngPm) : (s.modPm n g).fecOf n = s.fecOf n := by
  simp [State.modPm, State.fecOf]
@[simp] theorem State.fecOf_modPm_any (n k : Nat) (g : EngPm → EngPm) : (s.modPm n g).fecOf k = s.fecOf k := by
  by_cases h : n = k
  · subst h; simp
  · simp [State.modPm, State.fecOf, State.engOf_modEng_ne s _ h]
@[simp] theorem State.txOf_modPm (n : Nat) (g : EngPm → EngPm) : (s.modPm n g).txOf n = s.txOf n := by
  simp [State.modPm, State.txOf]
@[simp] theorem State.txOf_modPm_any (n k : Nat) (g : EngPm → EngPm) : (s.modPm n g).txOf k = s.txOf k := by
  by_cases h : n = k
  · subst h; simp
  · simp [State.modPm, State.txOf, State.engOf_modEng_ne s _ h]
@[simp] theorem State.rxOf_modPm (n : Nat) (g : EngPm → EngPm) : (s.modPm n g).rxOf n = s.rxOf n := by
  simp [State.modPm, State.rxOf]
@[simp] theorem State.rxOf_modPm_any (n k : Nat) (g : EngPm → EngPm) : (s.modPm n g).rxOf k = s.rxOf k := by
  by_cases h : n = k
  · subst h; simp
  · simp [State.modPm, State.rxOf, State.engOf_modEng_ne s _ h]
@[simp] theorem State.pmOf_modPm (n : Nat) (g : EngPm → EngPm) : (s.modPm n g).pmOf n = g (s.pmOf n) := by
  simp [State.modPm, State.pmOf]
theorem State.pmOf_modPm_ne {n k : Nat} (g : EngPm → EngPm) (h : n ≠ k) : (s.modPm n g).pmOf k = s.pmOf k := by
  simp [State.modPm, State.pmOf, State.engOf_modEng_ne s _ h]
@[simp] theorem State.skOf_modPm (n : Nat) (g : EngPm → EngPm) : (s.modPm n g).skOf n = s.skOf n := by
  simp [State.modPm, State.skOf]
@[simp] theorem State.skOf_modPm_any (n k : Nat) (g : EngPm → EngPm) : (s.modPm n g).skOf k = s.skOf k := by
  by_cases h : n = k
  · subst h; simp
  · simp [State.modPm, State.skOf, State.engOf_modEng_ne s _ h]
@[simp] theorem State.acqOf_modSk (n : Nat) (g : EngSk → EngSk) : (s.modSk n g).acqOf n = s.acqOf n := by
  simp [State.modSk, State.acqOf]
@[simp] theorem State.acqOf_modSk_any (n k : Nat) (g : EngSk → EngSk) : (s.modSk n g).acqOf k = s.acqOf k := by
  by_cases h : n = k
  · subst h; simp
  · simp [State.modSk, State.acqOf, State.engOf_modEng_ne s _ h]
@[simp] theorem State.fecOf_modSk (n : Nat) (g : EngSk → EngSk) : (s.modSk n g).fecOf n = s.fecOf n := by
  simp [State.modSk, State.fecOf]
@[simp] theorem State.fecOf_modSk_any (n k : Nat) (g : EngSk → EngSk) : (s.modSk n g).fecOf k = s.fecOf k := by
  by_cases h : n = k
  · subst h; simp
  · simp [State.modSk, State.fecOf, State.engOf_modEng_ne s _ h]
@[simp] theorem State.txOf_modSk (n : Nat) (g : EngSk → EngSk) : (s.modSk n g).txOf n = s.txOf n := by
  simp [State.modSk, State.txOf]
@[simp] theorem State.txOf_modSk_any (n k : Nat) (g : EngSk → EngSk) : (s.modSk n g).txOf k = s.txOf k := by
  by_cases h : n = k
  · subst h; simp
  · simp [State.modSk, State.txOf, State.engOf_modEng_ne s _ h]
@[simp] theorem State.rxOf_modSk (n : Nat) (g : EngSk → EngSk) : (s.modSk n g).rxOf n = s.rxOf n := by
  simp [State.modSk, State.rxOf]
@[simp] theorem State.rxOf_modSk_any (n k : Nat) (g : EngSk → EngSk) : (s.modSk n g).rxOf k = s.rxOf k := by
  by_cases h : n = k
  · subst h; simp
  · simp [State.modSk, State.rxOf, State.engOf_modEng_ne s _ h]
@[simp] theorem State.pmOf_modSk (n : Nat) (g : EngSk → EngSk) : (s.modSk n g).pmOf n = s.pmOf n := by
  simp [State.modSk, State.pmOf]
@[simp] theorem State.pmOf_modSk_any (n k : Nat) (g : EngSk → EngSk) : (s.modSk n g).pmOf k = s.pmOf k := by
  by_cases h : n = k
  · subst h; simp
  · simp [State.modSk, State.pmOf, State.engOf_modEng_ne s _ h]
@[simp] theorem State.skOf_modSk (n : Nat) (g : EngSk → EngSk) : (s.modSk n g).skOf n = g (s.skOf n) := by
  simp [State.modSk, State.skOf]
theorem State.skOf_modSk_ne {n k : Nat} (g : EngSk → EngSk) (h : n ≠ k) : (s.modSk n g).skOf k = s.skOf k := by
  simp [State.modSk, State.skOf, State.engOf_modEng_ne s _ h]
@[simp] theorem State.portOf_modPort (n : Nat) (g : Port → Port) : (s.modPort n g).portOf n = g (s.portOf n) :=
  SMap.get_mod_self _ _ _ _
theorem State.portOf_modPort_ne {n k : Nat} (g : Port → Port) (h : n ≠ k) : (s.modPort n g).portOf k = s.portOf k :=
  SMap.get_mod_ne _ _ _ h
@[simp] theorem State.tribOf_modTrib (n : Nat) (g : Trib → Trib) : (s.modTrib n g).tribOf n = g (s.tribOf n) :=
  SMap.get_mod_self _ _ _ _
theorem State.tribOf_modTrib_ne {n k : Nat} (g : Trib → Trib) (h : n ≠ k) : (s.modTrib n g).tribOf k = s.tribOf k :=
  SMap.get_mod_ne _ _ _ h
@[simp] theorem State.grpOf_modGrp (n : Nat) (g : Grp → Grp) : (s.modGrp n g).grpOf n = g (s.grpOf n) :=
  SMap.get_mod_self _ _ _ _
theorem State.grpOf_modGrp_ne {n k : Nat} (g : Grp → Grp) (h : n ≠ k) : (s.modGrp n g).grpOf k = s.grpOf k :=
  SMap.get_mod_ne _ _ _ h
@[simp] theorem State.lockOf_modLock (n : Nat) (g : Locker → Locker) : (s.modLock n g).lockOf n = g (s.lockOf n) :=
  SMap.get_mod_self _ _ _ _
theorem State.lockOf_modLock_ne {n k : Nat} (g : Locker → Locker) (h : n ≠ k) : (s.modLock n g).lockOf k = s.lockOf k :=
  SMap.get_mod_ne _ _ _ h
@[simp] theorem State.ringOf_modRing (n : Nat) (g : RingSt → RingSt) : (s.modRing n g).ringOf n = g (s.ringOf n) :=
  SMap.get_mod_self _ _ _ _
theorem State.ringOf_modRing_ne {n k : Nat} (g : RingSt → RingSt) (h : n ≠ k) : (s.modRing n g).ringOf k = s.ringOf k :=
  SMap.get_mod_ne _ _ _ h

/-! ### What depends on the registers alone -/

theorem State.on_eq (f : Fld) (i : Nat) : s.on f i = (s.rd f i != 0) := rfl
theorem State.rdInt_eq (f : Fld) (i : Nat) : s.rdInt f i = ofTwos f.info.w (s.rd f i) := rfl

theorem State.rd_wrInt (f g : Fld) (i j : Nat) (v : Int) :
    (s.wrInt f i v).rd g j = if f = g ∧ i = j then toTwos f.info.w v % 2 ^ f.info.w else s.rd g j := s.rd_wr f g i j _

theorem State.rd_wrs_nil (f : Fld) (j : Nat) : (s.wrs []).rd f j = s.rd f j := rfl
@[simp] theorem State.wrs_nil : s.wrs [] = s := rfl
@[simp] theorem State.wrs_cons (f : Fld) (i v : Nat) (l : List (Fld × Nat × Nat)) :
    s.wrs ((f, i, v) :: l) = (s.wr f i v).wrs l := rfl

/-- What the two's complement field holds reads back as the value, where the value lies in its range. -/
theorem ofTwos_toTwos {w : Nat} {v : Int} (hw : 0 < w) (lo : -(2 ^ (w - 1) : Int) ≤ v) (hi : v < 2 ^ (w - 1)) :
    ofTwos w (toTwos w v % 2 ^ w) = v := by
  obtain ⟨k, rfl⟩ : ∃ k, w = k + 1 := ⟨w - 1, by omega⟩
  simp only [Nat.add_sub_cancel] at lo hi
  have e : (2 ^ (k + 1) : Nat) = 2 * 2 ^ k := by rw [Nat.pow_succ, Nat.mul_comm]
  have p : 0 < 2 ^ k := Nat.two_pow_pos k
  have c : ((2 ^ k : Nat) : Int) = 2 ^ k := by push_cast; rfl
  rw [← c] at lo hi
  unfold ofTwos toTwos
  rw [e, Nat.add_sub_cancel]
  generalize 2 ^ k = M at *
  have hm : 0 ≤ v % ((2 * M : Nat) : Int) := Int.emod_nonneg _ (by omega)
  have hl : v % ((2 * M : Nat) : Int) < (2 * M : Nat) := Int.emod_lt_of_pos _ (by omega)
  have hv : v % ((2 * M : Nat) : Int) = if 0 ≤ v then v else v + (2 * M : Nat) := by
    split
    · exact Int.emod_eq_of_lt (by omega) (by push_cast; omega)
    · rw [← Int.add_emod_right, Int.emod_eq_of_lt] <;> push_cast <;> omega
  have ht : (v % ((2 * M : Nat) : Int)).toNat % (2 * M) = (v % ((2 * M : Nat) : Int)).toNat := Nat.mod_eq_of_lt (by omega)
  rw [ht, ht, hv]
  split <;> split <;> push_cast at * <;> omega

end Sys2Proof.Machine
end

