-- ==== Sys2Proof/Laws/Results.lean ====
section
/-! SUPPORT. What the shared operations leave in the registers and in the rings: events, counters, completions. -/
namespace Sys2Proof.Machine

theorem Rg.ctorIdx_lt (r : Rg) : r.ctorIdx < 256 := by
  have h : ∀ r : Rg, decide (r.ctorIdx < 256) = true := by intro r; cases r <;> rfl
  exact of_decide_eq_true (h r)

/-- A footprint of parts alone touches no register. -/
theorem Spec.rd_part {F : Nat} {s t : State} (h : Spec (F <<< 256) s t) (f : Fld) (j : Nat) : t.rd f j = s.rd f j :=
  h.rd f j (by
    rw [Nat.testBit_shiftLeft]
    have := f.info.rg.ctorIdx_lt
    simp [show ¬ 256 ≤ f.info.rg.ctorIdx by omega])

variable (s : State)

theorem State.engOf_congr {s t : State} (h : t.eng = s.eng) (k : Nat) : t.engOf k = s.engOf k := by
  simp [State.engOf, h]
theorem State.acqOf_congr {s t : State} (h : t.eng = s.eng) (k : Nat) : t.acqOf k = s.acqOf k := by
  simp [State.acqOf, State.engOf, h]
theorem State.fecOf_congr {s t : State} (h : t.eng = s.eng) (k : Nat) : t.fecOf k = s.fecOf k := by
  simp [State.fecOf, State.engOf, h]
theorem State.txOf_congr {s t : State} (h : t.eng = s.eng) (k : Nat) : t.txOf k = s.txOf k := by
  simp [State.txOf, State.engOf, h]
theorem State.rxOf_congr {s t : State} (h : t.eng = s.eng) (k : Nat) : t.rxOf k = s.rxOf k := by
  simp [State.rxOf, State.engOf, h]
theorem State.pmOf_congr {s t : State} (h : t.eng = s.eng) (k : Nat) : t.pmOf k = s.pmOf k := by
  simp [State.pmOf, State.engOf, h]
theorem State.skOf_congr {s t : State} (h : t.eng = s.eng) (k : Nat) : t.skOf k = s.skOf k := by
  simp [State.skOf, State.engOf, h]
theorem State.portOf_congr {s t : State} (h : t.port = s.port) (k : Nat) : t.portOf k = s.portOf k := by
  simp [State.portOf, h]
theorem State.tribOf_congr {s t : State} (h : t.trib = s.trib) (k : Nat) : t.tribOf k = s.tribOf k := by
  simp [State.tribOf, h]
theorem State.grpOf_congr {s t : State} (h : t.grp = s.grp) (k : Nat) : t.grpOf k = s.grpOf k := by
  simp [State.grpOf, h]
theorem State.lockOf_congr {s t : State} (h : t.lock = s.lock) (k : Nat) : t.lockOf k = s.lockOf k := by
  simp [State.lockOf, h]
theorem State.ringOf_congr {s t : State} (h : t.ring = s.ring) (k : Nat) : t.ringOf k = s.ringOf k := by
  simp [State.ringOf, h]
theorem State.cntOf_congr {s t : State} (h : t.cnt = s.cnt) (k : Nat) : t.cntOf k = s.cntOf k := by
  simp [State.cntOf, h]
@[simp] theorem State.rd_emit (o : Out) (f : Fld) (j : Nat) : (s.emit o).rd f j = s.rd f j :=
  Spec.rd_part (F := 2097152) (s.emit_spec o) f j
@[simp] theorem State.emit_fuse (o : Out) : (s.emit o).fuse = s.fuse := (s.emit_spec o).keep .fuse rfl
@[simp] theorem State.emit_pin (o : Out) : (s.emit o).pin = s.pin := (s.emit_spec o).keep .pin rfl
@[simp] theorem State.emit_cnt (o : Out) : (s.emit o).cnt = s.cnt := (s.emit_spec o).keep .cnt rfl
@[simp] theorem State.emit_wrapc (o : Out) : (s.emit o).wrapc = s.wrapc := (s.emit_spec o).keep .wrapc rfl
@[simp] theorem State.emit_eng (o : Out) : (s.emit o).eng = s.eng := (s.emit_spec o).keep .eng rfl
@[simp] theorem State.emit_port (o : Out) : (s.emit o).port = s.port := (s.emit_spec o).keep .port rfl
@[simp] theorem State.emit_trib (o : Out) : (s.emit o).trib = s.trib := (s.emit_spec o).keep .trib rfl
@[simp] theorem State.emit_grp (o : Out) : (s.emit o).grp = s.grp := (s.emit_spec o).keep .grp rfl
@[simp] theorem State.emit_bins (o : Out) : (s.emit o).bins = s.bins := (s.emit_spec o).keep .bins rfl
@[simp] theorem State.emit_lock (o : Out) : (s.emit o).lock = s.lock := (s.emit_spec o).keep .lock rfl
@[simp] theorem State.emit_ring (o : Out) : (s.emit o).ring = s.ring := (s.emit_spec o).keep .ring rfl
@[simp] theorem State.emit_host (o : Out) : (s.emit o).host = s.host := (s.emit_spec o).keep .host rfl
@[simp] theorem State.emit_mode (o : Out) : (s.emit o).mode = s.mode := (s.emit_spec o).keep .mode rfl
@[simp] theorem State.emit_pair (o : Out) : (s.emit o).pair = s.pair := (s.emit_spec o).keep .pair rfl
@[simp] theorem State.emit_tim (o : Out) : (s.emit o).tim = s.tim := (s.emit_spec o).keep .tim rfl
@[simp] theorem State.emit_hk (o : Out) : (s.emit o).hk = s.hk := (s.emit_spec o).keep .hk rfl
@[simp] theorem State.emit_cal (o : Out) : (s.emit o).cal = s.cal := (s.emit_spec o).keep .cal rfl
@[simp] theorem State.emit_pwr (o : Out) : (s.emit o).pwr = s.pwr := (s.emit_spec o).keep .pwr rfl
@[simp] theorem State.emit_cel (o : Out) : (s.emit o).cel = s.cel := (s.emit_spec o).keep .cel rfl
@[simp] theorem State.emit_sec (o : Out) : (s.emit o).sec = s.sec := (s.emit_spec o).keep .sec rfl
@[simp] theorem State.emit_perf (o : Out) : (s.emit o).perf = s.perf := (s.emit_spec o).keep .perf rfl
@[simp] theorem State.emit_free (o : Out) : (s.emit o).free = s.free := (s.emit_spec o).keep .free rfl
@[simp] theorem State.emit_wlog (o : Out) : (s.emit o).wlog = s.wlog := (s.emit_spec o).keep .wlog rfl
@[simp] theorem State.engOf_emit (o : Out) (m : Nat) : (s.emit o).engOf m = s.engOf m :=
  State.engOf_congr (by simp) m
@[simp] theorem State.acqOf_emit (o : Out) (m : Nat) : (s.emit o).acqOf m = s.acqOf m :=
  State.acqOf_congr (by simp) m
@[simp] theorem State.fecOf_emit (o : Out) (m : Nat) : (s.emit o).fecOf m = s.fecOf m :=
  State.fecOf_congr (by simp) m
@[simp] theorem State.txOf_emit (o : Out) (m : Nat) : (s.emit o).txOf m = s.txOf m :=
  State.txOf_congr (by simp) m
@[simp] theorem State.rxOf_emit (o : Out) (m : Nat) : (s.emit o).rxOf m = s.rxOf m :=
  State.rxOf_congr (by simp) m
@[simp] theorem State.pmOf_emit (o : Out) (m : Nat) : (s.emit o).pmOf m = s.pmOf m :=
  State.pmOf_congr (by simp) m
@[simp] theorem State.skOf_emit (o : Out) (m : Nat) : (s.emit o).skOf m = s.skOf m :=
  State.skOf_congr (by simp) m
@[simp] theorem State.portOf_emit (o : Out) (m : Nat) : (s.emit o).portOf m = s.portOf m :=
  State.portOf_congr (by simp) m
@[simp] theorem State.tribOf_emit (o : Out) (m : Nat) : (s.emit o).tribOf m = s.tribOf m :=
  State.tribOf_congr (by simp) m
@[simp] theorem State.grpOf_emit (o : Out) (m : Nat) : (s.emit o).grpOf m = s.grpOf m :=
  State.grpOf_congr (by simp) m
@[simp] theorem State.lockOf_emit (o : Out) (m : Nat) : (s.emit o).lockOf m = s.lockOf m :=
  State.lockOf_congr (by simp) m
@[simp] theorem State.ringOf_emit (o : Out) (m : Nat) : (s.emit o).ringOf m = s.ringOf m :=
  State.ringOf_congr (by simp) m
@[simp] theorem State.cntOf_emit (o : Out) (m : Nat) : (s.emit o).cntOf m = s.cntOf m :=
  State.cntOf_congr (by simp) m
@[simp] theorem State.emit_pending (o : Out) : (s.emit o).pending = s.pending := (s.emit_spec o).pending

@[simp] theorem State.rd_sendVector (v : Nat) (f : Fld) (j : Nat) : (s.sendVector v).rd f j = s.rd f j :=
  Spec.rd_part (F := 2099200) (s.sendVector_spec v) f j
@[simp] theorem State.sendVector_fuse (v : Nat) : (s.sendVector v).fuse = s.fuse := (s.sendVector_spec v).keep .fuse rfl
@[simp] theorem State.sendVector_pin (v : Nat) : (s.sendVector v).pin = s.pin := (s.sendVector_spec v).keep .pin rfl
@[simp] theorem State.sendVector_cnt (v : Nat) : (s.sendVector v).cnt = s.cnt := (s.sendVector_spec v).keep .cnt rfl
@[simp] theorem State.sendVector_wrapc (v : Nat) : (s.sendVector v).wrapc = s.wrapc := (s.sendVector_spec v).keep .wrapc rfl
@[simp] theorem State.sendVector_eng (v : Nat) : (s.sendVector v).eng = s.eng := (s.sendVector_spec v).keep .eng rfl
@[simp] theorem State.sendVector_port (v : Nat) : (s.sendVector v).port = s.port := (s.sendVector_spec v).keep .port rfl
@[simp] theorem State.sendVector_trib (v : Nat) : (s.sendVector v).trib = s.trib := (s.sendVector_spec v).keep .trib rfl
@[simp] theorem State.sendVector_grp (v : Nat) : (s.sendVector v).grp = s.grp := (s.sendVector_spec v).keep .grp rfl
@[simp] theorem State.sendVector_bins (v : Nat) : (s.sendVector v).bins = s.bins := (s.sendVector_spec v).keep .bins rfl
@[simp] theorem State.sendVector_lock (v : Nat) : (s.sendVector v).lock = s.lock := (s.sendVector_spec v).keep .lock rfl
@[simp] theorem State.sendVector_ring (v : Nat) : (s.sendVector v).ring = s.ring := (s.sendVector_spec v).keep .ring rfl
@[simp] theorem State.sendVector_mode (v : Nat) : (s.sendVector v).mode = s.mode := (s.sendVector_spec v).keep .mode rfl
@[simp] theorem State.sendVector_pair (v : Nat) : (s.sendVector v).pair = s.pair := (s.sendVector_spec v).keep .pair rfl
@[simp] theorem State.sendVector_tim (v : Nat) : (s.sendVector v).tim = s.tim := (s.sendVector_spec v).keep .tim rfl
@[simp] theorem State.sendVector_hk (v : Nat) : (s.sendVector v).hk = s.hk := (s.sendVector_spec v).keep .hk rfl
@[simp] theorem State.sendVector_cal (v : Nat) : (s.sendVector v).cal = s.cal := (s.sendVector_spec v).keep .cal rfl
@[simp] theorem State.sendVector_pwr (v : Nat) : (s.sendVector v).pwr = s.pwr := (s.sendVector_spec v).keep .pwr rfl
@[simp] theorem State.sendVector_cel (v : Nat) : (s.sendVector v).cel = s.cel := (s.sendVector_spec v).keep .cel rfl
@[simp] theorem State.sendVector_sec (v : Nat) : (s.sendVector v).sec = s.sec := (s.sendVector_spec v).keep .sec rfl
@[simp] theorem State.sendVector_perf (v : Nat) : (s.sendVector v).perf = s.perf := (s.sendVector_spec v).keep .perf rfl
@[simp] theorem State.sendVector_free (v : Nat) : (s.sendVector v).free = s.free := (s.sendVector_spec v).keep .free rfl
@[simp] theorem State.sendVector_wlog (v : Nat) : (s.sendVector v).wlog = s.wlog := (s.sendVector_spec v).keep .wlog rfl
@[simp] theorem State.engOf_sendVector (v : Nat) (m : Nat) : (s.sendVector v).engOf m = s.engOf m :=
  State.engOf_congr (by simp) m
@[simp] theorem State.acqOf_sendVector (v : Nat) (m : Nat) : (s.sendVector v).acqOf m = s.acqOf m :=
  State.acqOf_congr (by simp) m
@[simp] theorem State.fecOf_sendVector (v : Nat) (m : Nat) : (s.sendVector v).fecOf m = s.fecOf m :=
  State.fecOf_congr (by simp) m
@[simp] theorem State.txOf_sendVector (v : Nat) (m : Nat) : (s.sendVector v).txOf m = s.txOf m :=
  State.txOf_congr (by simp) m
@[simp] theorem State.rxOf_sendVector (v : Nat) (m : Nat) : (s.sendVector v).rxOf m = s.rxOf m :=
  State.rxOf_congr (by simp) m
@[simp] theorem State.pmOf_sendVector (v : Nat) (m : Nat) : (s.sendVector v).pmOf m = s.pmOf m :=
  State.pmOf_congr (by simp) m
@[simp] theorem State.skOf_sendVector (v : Nat) (m : Nat) : (s.sendVector v).skOf m = s.skOf m :=
  State.skOf_congr (by simp) m
@[simp] theorem State.portOf_sendVector (v : Nat) (m : Nat) : (s.sendVector v).portOf m = s.portOf m :=
  State.portOf_congr (by simp) m
@[simp] theorem State.tribOf_sendVector (v : Nat) (m : Nat) : (s.sendVector v).tribOf m = s.tribOf m :=
  State.tribOf_congr (by simp) m
@[simp] theorem State.grpOf_sendVector (v : Nat) (m : Nat) : (s.sendVector v).grpOf m = s.grpOf m :=
  State.grpOf_congr (by simp) m
@[simp] theorem State.lockOf_sendVector (v : Nat) (m : Nat) : (s.sendVector v).lockOf m = s.lockOf m :=
  State.lockOf_congr (by simp) m
@[simp] theorem State.ringOf_sendVector (v : Nat) (m : Nat) : (s.sendVector v).ringOf m = s.ringOf m :=
  State.ringOf_congr (by simp) m
@[simp] theorem State.cntOf_sendVector (v : Nat) (m : Nat) : (s.sendVector v).cntOf m = s.cntOf m :=
  State.cntOf_congr (by simp) m
@[simp] theorem State.sendVector_pending (v : Nat) : (s.sendVector v).pending = s.pending := (s.sendVector_spec v).pending

@[simp] theorem State.rd_cqMessage (r : Nat) (f : Fld) (j : Nat) : (s.cqMessage r).rd f j = s.rd f j :=
  Spec.rd_part (F := 2100224) (s.cqMessage_spec r) f j
@[simp] theorem State.cqMessage_fuse (r : Nat) : (s.cqMessage r).fuse = s.fuse := (s.cqMessage_spec r).keep .fuse rfl
@[simp] theorem State.cqMessage_pin (r : Nat) : (s.cqMessage r).pin = s.pin := (s.cqMessage_spec r).keep .pin rfl
@[simp] theorem State.cqMessage_cnt (r : Nat) : (s.cqMessage r).cnt = s.cnt := (s.cqMessage_spec r).keep .cnt rfl
@[simp] theorem State.cqMessage_wrapc (r : Nat) : (s.cqMessage r).wrapc = s.wrapc := (s.cqMessage_spec r).keep .wrapc rfl
@[simp] theorem State.cqMessage_eng (r : Nat) : (s.cqMessage r).eng = s.eng := (s.cqMessage_spec r).keep .eng rfl
@[simp] theorem State.cqMessage_port (r : Nat) : (s.cqMessage r).port = s.port := (s.cqMessage_spec r).keep .port rfl
@[simp] theorem State.cqMessage_trib (r : Nat) : (s.cqMessage r).trib = s.trib := (s.cqMessage_spec r).keep .trib rfl
@[simp] theorem State.cqMessage_grp (r : Nat) : (s.cqMessage r).grp = s.grp := (s.cqMessage_spec r).keep .grp rfl
@[simp] theorem State.cqMessage_bins (r : Nat) : (s.cqMessage r).bins = s.bins := (s.cqMessage_spec r).keep .bins rfl
@[simp] theorem State.cqMessage_lock (r : Nat) : (s.cqMessage r).lock = s.lock := (s.cqMessage_spec r).keep .lock rfl
@[simp] theorem State.cqMessage_mode (r : Nat) : (s.cqMessage r).mode = s.mode := (s.cqMessage_spec r).keep .mode rfl
@[simp] theorem State.cqMessage_pair (r : Nat) : (s.cqMessage r).pair = s.pair := (s.cqMessage_spec r).keep .pair rfl
@[simp] theorem State.cqMessage_tim (r : Nat) : (s.cqMessage r).tim = s.tim := (s.cqMessage_spec r).keep .tim rfl
@[simp] theorem State.cqMessage_hk (r : Nat) : (s.cqMessage r).hk = s.hk := (s.cqMessage_spec r).keep .hk rfl
@[simp] theorem State.cqMessage_cal (r : Nat) : (s.cqMessage r).cal = s.cal := (s.cqMessage_spec r).keep .cal rfl
@[simp] theorem State.cqMessage_pwr (r : Nat) : (s.cqMessage r).pwr = s.pwr := (s.cqMessage_spec r).keep .pwr rfl
@[simp] theorem State.cqMessage_cel (r : Nat) : (s.cqMessage r).cel = s.cel := (s.cqMessage_spec r).keep .cel rfl
@[simp] theorem State.cqMessage_sec (r : Nat) : (s.cqMessage r).sec = s.sec := (s.cqMessage_spec r).keep .sec rfl
@[simp] theorem State.cqMessage_perf (r : Nat) : (s.cqMessage r).perf = s.perf := (s.cqMessage_spec r).keep .perf rfl
@[simp] theorem State.cqMessage_free (r : Nat) : (s.cqMessage r).free = s.free := (s.cqMessage_spec r).keep .free rfl
@[simp] theorem State.cqMessage_wlog (r : Nat) : (s.cqMessage r).wlog = s.wlog := (s.cqMessage_spec r).keep .wlog rfl
@[simp] theorem State.engOf_cqMessage (r : Nat) (m : Nat) : (s.cqMessage r).engOf m = s.engOf m :=
  State.engOf_congr (by simp) m
@[simp] theorem State.acqOf_cqMessage (r : Nat) (m : Nat) : (s.cqMessage r).acqOf m = s.acqOf m :=
  State.acqOf_congr (by simp) m
@[simp] theorem State.fecOf_cqMessage (r : Nat) (m : Nat) : (s.cqMessage r).fecOf m = s.fecOf m :=
  State.fecOf_congr (by simp) m
@[simp] theorem State.txOf_cqMessage (r : Nat) (m : Nat) : (s.cqMessage r).txOf m = s.txOf m :=
  State.txOf_congr (by simp) m
@[simp] theorem State.rxOf_cqMessage (r : Nat) (m : Nat) : (s.cqMessage r).rxOf m = s.rxOf m :=
  State.rxOf_congr (by simp) m
@[simp] theorem State.pmOf_cqMessage (r : Nat) (m : Nat) : (s.cqMessage r).pmOf m = s.pmOf m :=
  State.pmOf_congr (by simp) m
@[simp] theorem State.skOf_cqMessage (r : Nat) (m : Nat) : (s.cqMessage r).skOf m = s.skOf m :=
  State.skOf_congr (by simp) m
@[simp] theorem State.portOf_cqMessage (r : Nat) (m : Nat) : (s.cqMessage r).portOf m = s.portOf m :=
  State.portOf_congr (by simp) m
@[simp] theorem State.tribOf_cqMessage (r : Nat) (m : Nat) : (s.cqMessage r).tribOf m = s.tribOf m :=
  State.tribOf_congr (by simp) m
@[simp] theorem State.grpOf_cqMessage (r : Nat) (m : Nat) : (s.cqMessage r).grpOf m = s.grpOf m :=
  State.grpOf_congr (by simp) m
@[simp] theorem State.lockOf_cqMessage (r : Nat) (m : Nat) : (s.cqMessage r).lockOf m = s.lockOf m :=
  State.lockOf_congr (by simp) m
@[simp] theorem State.cntOf_cqMessage (r : Nat) (m : Nat) : (s.cqMessage r).cntOf m = s.cntOf m :=
  State.cntOf_congr (by simp) m
@[simp] theorem State.cqMessage_pending (r : Nat) : (s.cqMessage r).pending = s.pending := (s.cqMessage_spec r).pending

@[simp] theorem State.rd_complete (c : Cpl) (f : Fld) (j : Nat) : (s.complete c).rd f j = s.rd f j :=
  Spec.rd_part (F := 1024) (s.complete_spec c) f j
@[simp] theorem State.complete_fuse (c : Cpl) : (s.complete c).fuse = s.fuse := (s.complete_spec c).keep .fuse rfl
@[simp] theorem State.complete_pin (c : Cpl) : (s.complete c).pin = s.pin := (s.complete_spec c).keep .pin rfl
@[simp] theorem State.complete_cnt (c : Cpl) : (s.complete c).cnt = s.cnt := (s.complete_spec c).keep .cnt rfl
@[simp] theorem State.complete_wrapc (c : Cpl) : (s.complete c).wrapc = s.wrapc := (s.complete_spec c).keep .wrapc rfl
@[simp] theorem State.complete_eng (c : Cpl) : (s.complete c).eng = s.eng := (s.complete_spec c).keep .eng rfl
@[simp] theorem State.complete_port (c : Cpl) : (s.complete c).port = s.port := (s.complete_spec c).keep .port rfl
@[simp] theorem State.complete_trib (c : Cpl) : (s.complete c).trib = s.trib := (s.complete_spec c).keep .trib rfl
@[simp] theorem State.complete_grp (c : Cpl) : (s.complete c).grp = s.grp := (s.complete_spec c).keep .grp rfl
@[simp] theorem State.complete_bins (c : Cpl) : (s.complete c).bins = s.bins := (s.complete_spec c).keep .bins rfl
@[simp] theorem State.complete_lock (c : Cpl) : (s.complete c).lock = s.lock := (s.complete_spec c).keep .lock rfl
@[simp] theorem State.complete_host (c : Cpl) : (s.complete c).host = s.host := (s.complete_spec c).keep .host rfl
@[simp] theorem State.complete_mode (c : Cpl) : (s.complete c).mode = s.mode := (s.complete_spec c).keep .mode rfl
@[simp] theorem State.complete_pair (c : Cpl) : (s.complete c).pair = s.pair := (s.complete_spec c).keep .pair rfl
@[simp] theorem State.complete_tim (c : Cpl) : (s.complete c).tim = s.tim := (s.complete_spec c).keep .tim rfl
@[simp] theorem State.complete_hk (c : Cpl) : (s.complete c).hk = s.hk := (s.complete_spec c).keep .hk rfl
@[simp] theorem State.complete_cal (c : Cpl) : (s.complete c).cal = s.cal := (s.complete_spec c).keep .cal rfl
@[simp] theorem State.complete_pwr (c : Cpl) : (s.complete c).pwr = s.pwr := (s.complete_spec c).keep .pwr rfl
@[simp] theorem State.complete_cel (c : Cpl) : (s.complete c).cel = s.cel := (s.complete_spec c).keep .cel rfl
@[simp] theorem State.complete_sec (c : Cpl) : (s.complete c).sec = s.sec := (s.complete_spec c).keep .sec rfl
@[simp] theorem State.complete_perf (c : Cpl) : (s.complete c).perf = s.perf := (s.complete_spec c).keep .perf rfl
@[simp] theorem State.complete_out (c : Cpl) : (s.complete c).out = s.out := (s.complete_spec c).keep .out rfl
@[simp] theorem State.complete_free (c : Cpl) : (s.complete c).free = s.free := (s.complete_spec c).keep .free rfl
@[simp] theorem State.complete_wlog (c : Cpl) : (s.complete c).wlog = s.wlog := (s.complete_spec c).keep .wlog rfl
@[simp] theorem State.engOf_complete (c : Cpl) (m : Nat) : (s.complete c).engOf m = s.engOf m :=
  State.engOf_congr (by simp) m
@[simp] theorem State.acqOf_complete (c : Cpl) (m : Nat) : (s.complete c).acqOf m = s.acqOf m :=
  State.acqOf_congr (by simp) m
@[simp] theorem State.fecOf_complete (c : Cpl) (m : Nat) : (s.complete c).fecOf m = s.fecOf m :=
  State.fecOf_congr (by simp) m
@[simp] theorem State.txOf_complete (c : Cpl) (m : Nat) : (s.complete c).txOf m = s.txOf m :=
  State.txOf_congr (by simp) m
@[simp] theorem State.rxOf_complete (c : Cpl) (m : Nat) : (s.complete c).rxOf m = s.rxOf m :=
  State.rxOf_congr (by simp) m
@[simp] theorem State.pmOf_complete (c : Cpl) (m : Nat) : (s.complete c).pmOf m = s.pmOf m :=
  State.pmOf_congr (by simp) m
@[simp] theorem State.skOf_complete (c : Cpl) (m : Nat) : (s.complete c).skOf m = s.skOf m :=
  State.skOf_congr (by simp) m
@[simp] theorem State.portOf_complete (c : Cpl) (m : Nat) : (s.complete c).portOf m = s.portOf m :=
  State.portOf_congr (by simp) m
@[simp] theorem State.tribOf_complete (c : Cpl) (m : Nat) : (s.complete c).tribOf m = s.tribOf m :=
  State.tribOf_congr (by simp) m
@[simp] theorem State.grpOf_complete (c : Cpl) (m : Nat) : (s.complete c).grpOf m = s.grpOf m :=
  State.grpOf_congr (by simp) m
@[simp] theorem State.lockOf_complete (c : Cpl) (m : Nat) : (s.complete c).lockOf m = s.lockOf m :=
  State.lockOf_congr (by simp) m
@[simp] theorem State.cntOf_complete (c : Cpl) (m : Nat) : (s.complete c).cntOf m = s.cntOf m :=
  State.cntOf_congr (by simp) m
@[simp] theorem State.complete_pending (c : Cpl) : (s.complete c).pending = s.pending := (s.complete_spec c).pending

@[simp] theorem State.rd_done (d : Desc) (a b c : Nat) (f : Fld) (j : Nat) : (s.done d a b c).rd f j = s.rd f j :=
  Spec.rd_part (F := 1024) (s.done_spec d a b c) f j
@[simp] theorem State.done_fuse (d : Desc) (a b c : Nat) : (s.done d a b c).fuse = s.fuse := (s.done_spec d a b c).keep .fuse rfl
@[simp] theorem State.done_pin (d : Desc) (a b c : Nat) : (s.done d a b c).pin = s.pin := (s.done_spec d a b c).keep .pin rfl
@[simp] theorem State.done_cnt (d : Desc) (a b c : Nat) : (s.done d a b c).cnt = s.cnt := (s.done_spec d a b c).keep .cnt rfl
@[simp] theorem State.done_wrapc (d : Desc) (a b c : Nat) : (s.done d a b c).wrapc = s.wrapc := (s.done_spec d a b c).keep .wrapc rfl
@[simp] theorem State.done_eng (d : Desc) (a b c : Nat) : (s.done d a b c).eng = s.eng := (s.done_spec d a b c).keep .eng rfl
@[simp] theorem State.done_port (d : Desc) (a b c : Nat) : (s.done d a b c).port = s.port := (s.done_spec d a b c).keep .port rfl
@[simp] theorem State.done_trib (d : Desc) (a b c : Nat) : (s.done d a b c).trib = s.trib := (s.done_spec d a b c).keep .trib rfl
@[simp] theorem State.done_grp (d : Desc) (a b c : Nat) : (s.done d a b c).grp = s.grp := (s.done_spec d a b c).keep .grp rfl
@[simp] theorem State.done_bins (d : Desc) (a b c : Nat) : (s.done d a b c).bins = s.bins := (s.done_spec d a b c).keep .bins rfl
@[simp] theorem State.done_lock (d : Desc) (a b c : Nat) : (s.done d a b c).lock = s.lock := (s.done_spec d a b c).keep .lock rfl
@[simp] theorem State.done_host (d : Desc) (a b c : Nat) : (s.done d a b c).host = s.host := (s.done_spec d a b c).keep .host rfl
@[simp] theorem State.done_mode (d : Desc) (a b c : Nat) : (s.done d a b c).mode = s.mode := (s.done_spec d a b c).keep .mode rfl
@[simp] theorem State.done_pair (d : Desc) (a b c : Nat) : (s.done d a b c).pair = s.pair := (s.done_spec d a b c).keep .pair rfl
@[simp] theorem State.done_tim (d : Desc) (a b c : Nat) : (s.done d a b c).tim = s.tim := (s.done_spec d a b c).keep .tim rfl
@[simp] theorem State.done_hk (d : Desc) (a b c : Nat) : (s.done d a b c).hk = s.hk := (s.done_spec d a b c).keep .hk rfl
@[simp] theorem State.done_cal (d : Desc) (a b c : Nat) : (s.done d a b c).cal = s.cal := (s.done_spec d a b c).keep .cal rfl
@[simp] theorem State.done_pwr (d : Desc) (a b c : Nat) : (s.done d a b c).pwr = s.pwr := (s.done_spec d a b c).keep .pwr rfl
@[simp] theorem State.done_cel (d : Desc) (a b c : Nat) : (s.done d a b c).cel = s.cel := (s.done_spec d a b c).keep .cel rfl
@[simp] theorem State.done_sec (d : Desc) (a b c : Nat) : (s.done d a b c).sec = s.sec := (s.done_spec d a b c).keep .sec rfl
@[simp] theorem State.done_perf (d : Desc) (a b c : Nat) : (s.done d a b c).perf = s.perf := (s.done_spec d a b c).keep .perf rfl
@[simp] theorem State.done_out (d : Desc) (a b c : Nat) : (s.done d a b c).out = s.out := (s.done_spec d a b c).keep .out rfl
@[simp] theorem State.done_free (d : Desc) (a b c : Nat) : (s.done d a b c).free = s.free := (s.done_spec d a b c).keep .free rfl
@[simp] theorem State.done_wlog (d : Desc) (a b c : Nat) : (s.done d a b c).wlog = s.wlog := (s.done_spec d a b c).keep .wlog rfl
@[simp] theorem State.engOf_done (d : Desc) (a b c : Nat) (m : Nat) : (s.done d a b c).engOf m = s.engOf m :=
  State.engOf_congr (by simp) m
@[simp] theorem State.acqOf_done (d : Desc) (a b c : Nat) (m : Nat) : (s.done d a b c).acqOf m = s.acqOf m :=
  State.acqOf_congr (by simp) m
@[simp] theorem State.fecOf_done (d : Desc) (a b c : Nat) (m : Nat) : (s.done d a b c).fecOf m = s.fecOf m :=
  State.fecOf_congr (by simp) m
@[simp] theorem State.txOf_done (d : Desc) (a b c : Nat) (m : Nat) : (s.done d a b c).txOf m = s.txOf m :=
  State.txOf_congr (by simp) m
@[simp] theorem State.rxOf_done (d : Desc) (a b c : Nat) (m : Nat) : (s.done d a b c).rxOf m = s.rxOf m :=
  State.rxOf_congr (by simp) m
@[simp] theorem State.pmOf_done (d : Desc) (a b c : Nat) (m : Nat) : (s.done d a b c).pmOf m = s.pmOf m :=
  State.pmOf_congr (by simp) m
@[simp] theorem State.skOf_done (d : Desc) (a b c : Nat) (m : Nat) : (s.done d a b c).skOf m = s.skOf m :=
  State.skOf_congr (by simp) m
@[simp] theorem State.portOf_done (d : Desc) (a b c : Nat) (m : Nat) : (s.done d a b c).portOf m = s.portOf m :=
  State.portOf_congr (by simp) m
@[simp] theorem State.tribOf_done (d : Desc) (a b c : Nat) (m : Nat) : (s.done d a b c).tribOf m = s.tribOf m :=
  State.tribOf_congr (by simp) m
@[simp] theorem State.grpOf_done (d : Desc) (a b c : Nat) (m : Nat) : (s.done d a b c).grpOf m = s.grpOf m :=
  State.grpOf_congr (by simp) m
@[simp] theorem State.lockOf_done (d : Desc) (a b c : Nat) (m : Nat) : (s.done d a b c).lockOf m = s.lockOf m :=
  State.lockOf_congr (by simp) m
@[simp] theorem State.cntOf_done (d : Desc) (a b c : Nat) (m : Nat) : (s.done d a b c).cntOf m = s.cntOf m :=
  State.cntOf_congr (by simp) m
@[simp] theorem State.done_pending (d : Desc) (a b c : Nat) : (s.done d a b c).pending = s.pending := (s.done_spec d a b c).pending

@[simp] theorem State.rd_refuse (d : Desc) (a : Nat) (f : Fld) (j : Nat) : (s.refuse d a).rd f j = s.rd f j :=
  Spec.rd_part (F := 1024) (s.refuse_spec d a) f j
@[simp] theorem State.refuse_fuse (d : Desc) (a : Nat) : (s.refuse d a).fuse = s.fuse := (s.refuse_spec d a).keep .fuse rfl
@[simp] theorem State.refuse_pin (d : Desc) (a : Nat) : (s.refuse d a).pin = s.pin := (s.refuse_spec d a).keep .pin rfl
@[simp] theorem State.refuse_cnt (d : Desc) (a : Nat) : (s.refuse d a).cnt = s.cnt := (s.refuse_spec d a).keep .cnt rfl
@[simp] theorem State.refuse_wrapc (d : Desc) (a : Nat) : (s.refuse d a).wrapc = s.wrapc := (s.refuse_spec d a).keep .wrapc rfl
@[simp] theorem State.refuse_eng (d : Desc) (a : Nat) : (s.refuse d a).eng = s.eng := (s.refuse_spec d a).keep .eng rfl
@[simp] theorem State.refuse_port (d : Desc) (a : Nat) : (s.refuse d a).port = s.port := (s.refuse_spec d a).keep .port rfl
@[simp] theorem State.refuse_trib (d : Desc) (a : Nat) : (s.refuse d a).trib = s.trib := (s.refuse_spec d a).keep .trib rfl
@[simp] theorem State.refuse_grp (d : Desc) (a : Nat) : (s.refuse d a).grp = s.grp := (s.refuse_spec d a).keep .grp rfl
@[simp] theorem State.refuse_bins (d : Desc) (a : Nat) : (s.refuse d a).bins = s.bins := (s.refuse_spec d a).keep .bins rfl
@[simp] theorem State.refuse_lock (d : Desc) (a : Nat) : (s.refuse d a).lock = s.lock := (s.refuse_spec d a).keep .lock rfl
@[simp] theorem State.refuse_host (d : Desc) (a : Nat) : (s.refuse d a).host = s.host := (s.refuse_spec d a).keep .host rfl
@[simp] theorem State.refuse_mode (d : Desc) (a : Nat) : (s.refuse d a).mode = s.mode := (s.refuse_spec d a).keep .mode rfl
@[simp] theorem State.refuse_pair (d : Desc) (a : Nat) : (s.refuse d a).pair = s.pair := (s.refuse_spec d a).keep .pair rfl
@[simp] theorem State.refuse_tim (d : Desc) (a : Nat) : (s.refuse d a).tim = s.tim := (s.refuse_spec d a).keep .tim rfl
@[simp] theorem State.refuse_hk (d : Desc) (a : Nat) : (s.refuse d a).hk = s.hk := (s.refuse_spec d a).keep .hk rfl
@[simp] theorem State.refuse_cal (d : Desc) (a : Nat) : (s.refuse d a).cal = s.cal := (s.refuse_spec d a).keep .cal rfl
@[simp] theorem State.refuse_pwr (d : Desc) (a : Nat) : (s.refuse d a).pwr = s.pwr := (s.refuse_spec d a).keep .pwr rfl
@[simp] theorem State.refuse_cel (d : Desc) (a : Nat) : (s.refuse d a).cel = s.cel := (s.refuse_spec d a).keep .cel rfl
@[simp] theorem State.refuse_sec (d : Desc) (a : Nat) : (s.refuse d a).sec = s.sec := (s.refuse_spec d a).keep .sec rfl
@[simp] theorem State.refuse_perf (d : Desc) (a : Nat) : (s.refuse d a).perf = s.perf := (s.refuse_spec d a).keep .perf rfl
@[simp] theorem State.refuse_out (d : Desc) (a : Nat) : (s.refuse d a).out = s.out := (s.refuse_spec d a).keep .out rfl
@[simp] theorem State.refuse_free (d : Desc) (a : Nat) : (s.refuse d a).free = s.free := (s.refuse_spec d a).keep .free rfl
@[simp] theorem State.refuse_wlog (d : Desc) (a : Nat) : (s.refuse d a).wlog = s.wlog := (s.refuse_spec d a).keep .wlog rfl
@[simp] theorem State.engOf_refuse (d : Desc) (a : Nat) (m : Nat) : (s.refuse d a).engOf m = s.engOf m :=
  State.engOf_congr (by simp) m
@[simp] theorem State.acqOf_refuse (d : Desc) (a : Nat) (m : Nat) : (s.refuse d a).acqOf m = s.acqOf m :=
  State.acqOf_congr (by simp) m
@[simp] theorem State.fecOf_refuse (d : Desc) (a : Nat) (m : Nat) : (s.refuse d a).fecOf m = s.fecOf m :=
  State.fecOf_congr (by simp) m
@[simp] theorem State.txOf_refuse (d : Desc) (a : Nat) (m : Nat) : (s.refuse d a).txOf m = s.txOf m :=
  State.txOf_congr (by simp) m
@[simp] theorem State.rxOf_refuse (d : Desc) (a : Nat) (m : Nat) : (s.refuse d a).rxOf m = s.rxOf m :=
  State.rxOf_congr (by simp) m
@[simp] theorem State.pmOf_refuse (d : Desc) (a : Nat) (m : Nat) : (s.refuse d a).pmOf m = s.pmOf m :=
  State.pmOf_congr (by simp) m
@[simp] theorem State.skOf_refuse (d : Desc) (a : Nat) (m : Nat) : (s.refuse d a).skOf m = s.skOf m :=
  State.skOf_congr (by simp) m
@[simp] theorem State.portOf_refuse (d : Desc) (a : Nat) (m : Nat) : (s.refuse d a).portOf m = s.portOf m :=
  State.portOf_congr (by simp) m
@[simp] theorem State.tribOf_refuse (d : Desc) (a : Nat) (m : Nat) : (s.refuse d a).tribOf m = s.tribOf m :=
  State.tribOf_congr (by simp) m
@[simp] theorem State.grpOf_refuse (d : Desc) (a : Nat) (m : Nat) : (s.refuse d a).grpOf m = s.grpOf m :=
  State.grpOf_congr (by simp) m
@[simp] theorem State.lockOf_refuse (d : Desc) (a : Nat) (m : Nat) : (s.refuse d a).lockOf m = s.lockOf m :=
  State.lockOf_congr (by simp) m
@[simp] theorem State.cntOf_refuse (d : Desc) (a : Nat) (m : Nat) : (s.refuse d a).cntOf m = s.cntOf m :=
  State.cntOf_congr (by simp) m
@[simp] theorem State.refuse_pending (d : Desc) (a : Nat) : (s.refuse d a).pending = s.pending := (s.refuse_spec d a).pending

@[simp] theorem State.rd_popDesc (r : Nat) (f : Fld) (j : Nat) : (s.popDesc r).rd f j = s.rd f j :=
  Spec.rd_part (F := 3072) (s.popDesc_spec r) f j
@[simp] theorem State.popDesc_fuse (r : Nat) : (s.popDesc r).fuse = s.fuse := (s.popDesc_spec r).keep .fuse rfl
@[simp] theorem State.popDesc_pin (r : Nat) : (s.popDesc r).pin = s.pin := (s.popDesc_spec r).keep .pin rfl
@[simp] theorem State.popDesc_cnt (r : Nat) : (s.popDesc r).cnt = s.cnt := (s.popDesc_spec r).keep .cnt rfl
@[simp] theorem State.popDesc_wrapc (r : Nat) : (s.popDesc r).wrapc = s.wrapc := (s.popDesc_spec r).keep .wrapc rfl
@[simp] theorem State.popDesc_eng (r : Nat) : (s.popDesc r).eng = s.eng := (s.popDesc_spec r).keep .eng rfl
@[simp] theorem State.popDesc_port (r : Nat) : (s.popDesc r).port = s.port := (s.popDesc_spec r).keep .port rfl
@[simp] theorem State.popDesc_trib (r : Nat) : (s.popDesc r).trib = s.trib := (s.popDesc_spec r).keep .trib rfl
@[simp] theorem State.popDesc_grp (r : Nat) : (s.popDesc r).grp = s.grp := (s.popDesc_spec r).keep .grp rfl
@[simp] theorem State.popDesc_bins (r : Nat) : (s.popDesc r).bins = s.bins := (s.popDesc_spec r).keep .bins rfl
@[simp] theorem State.popDesc_lock (r : Nat) : (s.popDesc r).lock = s.lock := (s.popDesc_spec r).keep .lock rfl
@[simp] theorem State.popDesc_mode (r : Nat) : (s.popDesc r).mode = s.mode := (s.popDesc_spec r).keep .mode rfl
@[simp] theorem State.popDesc_pair (r : Nat) : (s.popDesc r).pair = s.pair := (s.popDesc_spec r).keep .pair rfl
@[simp] theorem State.popDesc_tim (r : Nat) : (s.popDesc r).tim = s.tim := (s.popDesc_spec r).keep .tim rfl
@[simp] theorem State.popDesc_hk (r : Nat) : (s.popDesc r).hk = s.hk := (s.popDesc_spec r).keep .hk rfl
@[simp] theorem State.popDesc_cal (r : Nat) : (s.popDesc r).cal = s.cal := (s.popDesc_spec r).keep .cal rfl
@[simp] theorem State.popDesc_pwr (r : Nat) : (s.popDesc r).pwr = s.pwr := (s.popDesc_spec r).keep .pwr rfl
@[simp] theorem State.popDesc_cel (r : Nat) : (s.popDesc r).cel = s.cel := (s.popDesc_spec r).keep .cel rfl
@[simp] theorem State.popDesc_sec (r : Nat) : (s.popDesc r).sec = s.sec := (s.popDesc_spec r).keep .sec rfl
@[simp] theorem State.popDesc_perf (r : Nat) : (s.popDesc r).perf = s.perf := (s.popDesc_spec r).keep .perf rfl
@[simp] theorem State.popDesc_out (r : Nat) : (s.popDesc r).out = s.out := (s.popDesc_spec r).keep .out rfl
@[simp] theorem State.popDesc_free (r : Nat) : (s.popDesc r).free = s.free := (s.popDesc_spec r).keep .free rfl
@[simp] theorem State.popDesc_wlog (r : Nat) : (s.popDesc r).wlog = s.wlog := (s.popDesc_spec r).keep .wlog rfl
@[simp] theorem State.engOf_popDesc (r : Nat) (m : Nat) : (s.popDesc r).engOf m = s.engOf m :=
  State.engOf_congr (by simp) m
@[simp] theorem State.acqOf_popDesc (r : Nat) (m : Nat) : (s.popDesc r).acqOf m = s.acqOf m :=
  State.acqOf_congr (by simp) m
@[simp] theorem State.fecOf_popDesc (r : Nat) (m : Nat) : (s.popDesc r).fecOf m = s.fecOf m :=
  State.fecOf_congr (by simp) m
@[simp] theorem State.txOf_popDesc (r : Nat) (m : Nat) : (s.popDesc r).txOf m = s.txOf m :=
  State.txOf_congr (by simp) m
@[simp] theorem State.rxOf_popDesc (r : Nat) (m : Nat) : (s.popDesc r).rxOf m = s.rxOf m :=
  State.rxOf_congr (by simp) m
@[simp] theorem State.pmOf_popDesc (r : Nat) (m : Nat) : (s.popDesc r).pmOf m = s.pmOf m :=
  State.pmOf_congr (by simp) m
@[simp] theorem State.skOf_popDesc (r : Nat) (m : Nat) : (s.popDesc r).skOf m = s.skOf m :=
  State.skOf_congr (by simp) m
@[simp] theorem State.portOf_popDesc (r : Nat) (m : Nat) : (s.popDesc r).portOf m = s.portOf m :=
  State.portOf_congr (by simp) m
@[simp] theorem State.tribOf_popDesc (r : Nat) (m : Nat) : (s.popDesc r).tribOf m = s.tribOf m :=
  State.tribOf_congr (by simp) m
@[simp] theorem State.grpOf_popDesc (r : Nat) (m : Nat) : (s.popDesc r).grpOf m = s.grpOf m :=
  State.grpOf_congr (by simp) m
@[simp] theorem State.lockOf_popDesc (r : Nat) (m : Nat) : (s.popDesc r).lockOf m = s.lockOf m :=
  State.lockOf_congr (by simp) m
@[simp] theorem State.cntOf_popDesc (r : Nat) (m : Nat) : (s.popDesc r).cntOf m = s.cntOf m :=
  State.cntOf_congr (by simp) m
@[simp] theorem State.popDesc_pending (r : Nat) : (s.popDesc r).pending = s.pending := (s.popDesc_spec r).pending

theorem Fld.evBit_part (f : Fld) (k : Nat) (h : Nat.testBit 0x2008000000000000000000000000000000000000000000000000000000000000000000 (256 + k) = false) :
    f.evBit.testBit (256 + k) = false := by
  rw [Fld.evBit, Nat.testBit_or, f.bit_high, h, Bool.or_false]

theorem Fld.recBit_part (f : Fld) (k : Nat) (h : Nat.testBit 0x2008000000000000000000000000000000000000000000000000000000000000000000 (256 + k) = false)
    (g : recMask.testBit (256 + k) = false) : (f.evBit ||| recMask).testBit (256 + k) = false := by
  rw [Nat.testBit_or, f.evBit_part k h, g, Bool.or_false]

@[simp] theorem State.setEv_fuse (f : Fld) (i v : Nat) : (s.setEv f i v).fuse = s.fuse := (s.setEv_spec f i v).keep .fuse (f.evBit_part 0 rfl)
@[simp] theorem State.setEv_pin (f : Fld) (i v : Nat) : (s.setEv f i v).pin = s.pin := (s.setEv_spec f i v).keep .pin (f.evBit_part 1 rfl)
@[simp] theorem State.setEv_cnt (f : Fld) (i v : Nat) : (s.setEv f i v).cnt = s.cnt := (s.setEv_spec f i v).keep .cnt (f.evBit_part 2 rfl)
@[simp] theorem State.setEv_wrapc (f : Fld) (i v : Nat) : (s.setEv f i v).wrapc = s.wrapc := (s.setEv_spec f i v).keep .wrapc (f.evBit_part 3 rfl)
@[simp] theorem State.setEv_eng (f : Fld) (i v : Nat) : (s.setEv f i v).eng = s.eng := (s.setEv_spec f i v).keep .eng (f.evBit_part 4 rfl)
@[simp] theorem State.setEv_port (f : Fld) (i v : Nat) : (s.setEv f i v).port = s.port := (s.setEv_spec f i v).keep .port (f.evBit_part 5 rfl)
@[simp] theorem State.setEv_trib (f : Fld) (i v : Nat) : (s.setEv f i v).trib = s.trib := (s.setEv_spec f i v).keep .trib (f.evBit_part 6 rfl)
@[simp] theorem State.setEv_grp (f : Fld) (i v : Nat) : (s.setEv f i v).grp = s.grp := (s.setEv_spec f i v).keep .grp (f.evBit_part 7 rfl)
@[simp] theorem State.setEv_bins (f : Fld) (i v : Nat) : (s.setEv f i v).bins = s.bins := (s.setEv_spec f i v).keep .bins (f.evBit_part 8 rfl)
@[simp] theorem State.setEv_lock (f : Fld) (i v : Nat) : (s.setEv f i v).lock = s.lock := (s.setEv_spec f i v).keep .lock (f.evBit_part 9 rfl)
@[simp] theorem State.setEv_ring (f : Fld) (i v : Nat) : (s.setEv f i v).ring = s.ring := (s.setEv_spec f i v).keep .ring (f.evBit_part 10 rfl)
@[simp] theorem State.setEv_mode (f : Fld) (i v : Nat) : (s.setEv f i v).mode = s.mode := (s.setEv_spec f i v).keep .mode (f.evBit_part 12 rfl)
@[simp] theorem State.setEv_pair (f : Fld) (i v : Nat) : (s.setEv f i v).pair = s.pair := (s.setEv_spec f i v).keep .pair (f.evBit_part 13 rfl)
@[simp] theorem State.setEv_tim (f : Fld) (i v : Nat) : (s.setEv f i v).tim = s.tim := (s.setEv_spec f i v).keep .tim (f.evBit_part 14 rfl)
@[simp] theorem State.setEv_hk (f : Fld) (i v : Nat) : (s.setEv f i v).hk = s.hk := (s.setEv_spec f i v).keep .hk (f.evBit_part 15 rfl)
@[simp] theorem State.setEv_cal (f : Fld) (i v : Nat) : (s.setEv f i v).cal = s.cal := (s.setEv_spec f i v).keep .cal (f.evBit_part 16 rfl)
@[simp] theorem State.setEv_pwr (f : Fld) (i v : Nat) : (s.setEv f i v).pwr = s.pwr := (s.setEv_spec f i v).keep .pwr (f.evBit_part 17 rfl)
@[simp] theorem State.setEv_cel (f : Fld) (i v : Nat) : (s.setEv f i v).cel = s.cel := (s.setEv_spec f i v).keep .cel (f.evBit_part 18 rfl)
@[simp] theorem State.setEv_sec (f : Fld) (i v : Nat) : (s.setEv f i v).sec = s.sec := (s.setEv_spec f i v).keep .sec (f.evBit_part 19 rfl)
@[simp] theorem State.setEv_perf (f : Fld) (i v : Nat) : (s.setEv f i v).perf = s.perf := (s.setEv_spec f i v).keep .perf (f.evBit_part 20 rfl)
@[simp] theorem State.setEv_free (f : Fld) (i v : Nat) : (s.setEv f i v).free = s.free := (s.setEv_spec f i v).keep .free (f.evBit_part 22 rfl)
@[simp] theorem State.setEv_wlog (f : Fld) (i v : Nat) : (s.setEv f i v).wlog = s.wlog := (s.setEv_spec f i v).keep .wlog (f.evBit_part 23 rfl)
@[simp] theorem State.engOf_setEv (f : Fld) (i v : Nat) (m : Nat) : (s.setEv f i v).engOf m = s.engOf m :=
  State.engOf_congr (by simp) m
@[simp] theorem State.acqOf_setEv (f : Fld) (i v : Nat) (m : Nat) : (s.setEv f i v).acqOf m = s.acqOf m :=
  State.acqOf_congr (by simp) m
@[simp] theorem State.fecOf_setEv (f : Fld) (i v : Nat) (m : Nat) : (s.setEv f i v).fecOf m = s.fecOf m :=
  State.fecOf_congr (by simp) m
@[simp] theorem State.txOf_setEv (f : Fld) (i v : Nat) (m : Nat) : (s.setEv f i v).txOf m = s.txOf m :=
  State.txOf_congr (by simp) m
@[simp] theorem State.rxOf_setEv (f : Fld) (i v : Nat) (m : Nat) : (s.setEv f i v).rxOf m = s.rxOf m :=
  State.rxOf_congr (by simp) m
@[simp] theorem State.pmOf_setEv (f : Fld) (i v : Nat) (m : Nat) : (s.setEv f i v).pmOf m = s.pmOf m :=
  State.pmOf_congr (by simp) m
@[simp] theorem State.skOf_setEv (f : Fld) (i v : Nat) (m : Nat) : (s.setEv f i v).skOf m = s.skOf m :=
  State.skOf_congr (by simp) m
@[simp] theorem State.portOf_setEv (f : Fld) (i v : Nat) (m : Nat) : (s.setEv f i v).portOf m = s.portOf m :=
  State.portOf_congr (by simp) m
@[simp] theorem State.tribOf_setEv (f : Fld) (i v : Nat) (m : Nat) : (s.setEv f i v).tribOf m = s.tribOf m :=
  State.tribOf_congr (by simp) m
@[simp] theorem State.grpOf_setEv (f : Fld) (i v : Nat) (m : Nat) : (s.setEv f i v).grpOf m = s.grpOf m :=
  State.grpOf_congr (by simp) m
@[simp] theorem State.lockOf_setEv (f : Fld) (i v : Nat) (m : Nat) : (s.setEv f i v).lockOf m = s.lockOf m :=
  State.lockOf_congr (by simp) m
@[simp] theorem State.ringOf_setEv (f : Fld) (i v : Nat) (m : Nat) : (s.setEv f i v).ringOf m = s.ringOf m :=
  State.ringOf_congr (by simp) m
@[simp] theorem State.cntOf_setEv (f : Fld) (i v : Nat) (m : Nat) : (s.setEv f i v).cntOf m = s.cntOf m :=
  State.cntOf_congr (by simp) m

@[simp] theorem State.raiseReg_fuse (f : Fld) (i : Nat) (a : EvArg) : (s.raiseReg f i a).fuse = s.fuse := (s.raiseReg_spec f i a).keep .fuse (f.recBit_part 0 rfl rfl)
@[simp] theorem State.raiseReg_pin (f : Fld) (i : Nat) (a : EvArg) : (s.raiseReg f i a).pin = s.pin := (s.raiseReg_spec f i a).keep .pin (f.recBit_part 1 rfl rfl)
@[simp] theorem State.raiseReg_eng (f : Fld) (i : Nat) (a : EvArg) : (s.raiseReg f i a).eng = s.eng := (s.raiseReg_spec f i a).keep .eng (f.recBit_part 4 rfl rfl)
@[simp] theorem State.raiseReg_port (f : Fld) (i : Nat) (a : EvArg) : (s.raiseReg f i a).port = s.port := (s.raiseReg_spec f i a).keep .port (f.recBit_part 5 rfl rfl)
@[simp] theorem State.raiseReg_trib (f : Fld) (i : Nat) (a : EvArg) : (s.raiseReg f i a).trib = s.trib := (s.raiseReg_spec f i a).keep .trib (f.recBit_part 6 rfl rfl)
@[simp] theorem State.raiseReg_grp (f : Fld) (i : Nat) (a : EvArg) : (s.raiseReg f i a).grp = s.grp := (s.raiseReg_spec f i a).keep .grp (f.recBit_part 7 rfl rfl)
@[simp] theorem State.raiseReg_bins (f : Fld) (i : Nat) (a : EvArg) : (s.raiseReg f i a).bins = s.bins := (s.raiseReg_spec f i a).keep .bins (f.recBit_part 8 rfl rfl)
@[simp] theorem State.raiseReg_lock (f : Fld) (i : Nat) (a : EvArg) : (s.raiseReg f i a).lock = s.lock := (s.raiseReg_spec f i a).keep .lock (f.recBit_part 9 rfl rfl)
@[simp] theorem State.raiseReg_mode (f : Fld) (i : Nat) (a : EvArg) : (s.raiseReg f i a).mode = s.mode := (s.raiseReg_spec f i a).keep .mode (f.recBit_part 12 rfl rfl)
@[simp] theorem State.raiseReg_pair (f : Fld) (i : Nat) (a : EvArg) : (s.raiseReg f i a).pair = s.pair := (s.raiseReg_spec f i a).keep .pair (f.recBit_part 13 rfl rfl)
@[simp] theorem State.raiseReg_tim (f : Fld) (i : Nat) (a : EvArg) : (s.raiseReg f i a).tim = s.tim := (s.raiseReg_spec f i a).keep .tim (f.recBit_part 14 rfl rfl)
@[simp] theorem State.raiseReg_hk (f : Fld) (i : Nat) (a : EvArg) : (s.raiseReg f i a).hk = s.hk := (s.raiseReg_spec f i a).keep .hk (f.recBit_part 15 rfl rfl)
@[simp] theorem State.raiseReg_cal (f : Fld) (i : Nat) (a : EvArg) : (s.raiseReg f i a).cal = s.cal := (s.raiseReg_spec f i a).keep .cal (f.recBit_part 16 rfl rfl)
@[simp] theorem State.raiseReg_pwr (f : Fld) (i : Nat) (a : EvArg) : (s.raiseReg f i a).pwr = s.pwr := (s.raiseReg_spec f i a).keep .pwr (f.recBit_part 17 rfl rfl)
@[simp] theorem State.raiseReg_cel (f : Fld) (i : Nat) (a : EvArg) : (s.raiseReg f i a).cel = s.cel := (s.raiseReg_spec f i a).keep .cel (f.recBit_part 18 rfl rfl)
@[simp] theorem State.raiseReg_sec (f : Fld) (i : Nat) (a : EvArg) : (s.raiseReg f i a).sec = s.sec := (s.raiseReg_spec f i a).keep .sec (f.recBit_part 19 rfl rfl)
@[simp] theorem State.raiseReg_free (f : Fld) (i : Nat) (a : EvArg) : (s.raiseReg f i a).free = s.free := (s.raiseReg_spec f i a).keep .free (f.recBit_part 22 rfl rfl)
@[simp] theorem State.engOf_raiseReg (f : Fld) (i : Nat) (a : EvArg) (m : Nat) : (s.raiseReg f i a).engOf m = s.engOf m :=
  State.engOf_congr (by simp) m
@[simp] theorem State.acqOf_raiseReg (f : Fld) (i : Nat) (a : EvArg) (m : Nat) : (s.raiseReg f i a).acqOf m = s.acqOf m :=
  State.acqOf_congr (by simp) m
@[simp] theorem State.fecOf_raiseReg (f : Fld) (i : Nat) (a : EvArg) (m : Nat) : (s.raiseReg f i a).fecOf m = s.fecOf m :=
  State.fecOf_congr (by simp) m
@[simp] theorem State.txOf_raiseReg (f : Fld) (i : Nat) (a : EvArg) (m : Nat) : (s.raiseReg f i a).txOf m = s.txOf m :=
  State.txOf_congr (by simp) m
@[simp] theorem State.rxOf_raiseReg (f : Fld) (i : Nat) (a : EvArg) (m : Nat) : (s.raiseReg f i a).rxOf m = s.rxOf m :=
  State.rxOf_congr (by simp) m
@[simp] theorem State.pmOf_raiseReg (f : Fld) (i : Nat) (a : EvArg) (m : Nat) : (s.raiseReg f i a).pmOf m = s.pmOf m :=
  State.pmOf_congr (by simp) m
@[simp] theorem State.skOf_raiseReg (f : Fld) (i : Nat) (a : EvArg) (m : Nat) : (s.raiseReg f i a).skOf m = s.skOf m :=
  State.skOf_congr (by simp) m
@[simp] theorem State.portOf_raiseReg (f : Fld) (i : Nat) (a : EvArg) (m : Nat) : (s.raiseReg f i a).portOf m = s.portOf m :=
  State.portOf_congr (by simp) m
@[simp] theorem State.tribOf_raiseReg (f : Fld) (i : Nat) (a : EvArg) (m : Nat) : (s.raiseReg f i a).tribOf m = s.tribOf m :=
  State.tribOf_congr (by simp) m
@[simp] theorem State.grpOf_raiseReg (f : Fld) (i : Nat) (a : EvArg) (m : Nat) : (s.raiseReg f i a).grpOf m = s.grpOf m :=
  State.grpOf_congr (by simp) m
@[simp] theorem State.lockOf_raiseReg (f : Fld) (i : Nat) (a : EvArg) (m : Nat) : (s.raiseReg f i a).lockOf m = s.lockOf m :=
  State.lockOf_congr (by simp) m

@[simp] theorem State.count_fuse (k n : Nat) : (s.count k n).fuse = s.fuse := (s.count_spec k n).keep .fuse rfl
@[simp] theorem State.count_pin (k n : Nat) : (s.count k n).pin = s.pin := (s.count_spec k n).keep .pin rfl
@[simp] theorem State.count_eng (k n : Nat) : (s.count k n).eng = s.eng := (s.count_spec k n).keep .eng rfl
@[simp] theorem State.count_port (k n : Nat) : (s.count k n).port = s.port := (s.count_spec k n).keep .port rfl
@[simp] theorem State.count_trib (k n : Nat) : (s.count k n).trib = s.trib := (s.count_spec k n).keep .trib rfl
@[simp] theorem State.count_grp (k n : Nat) : (s.count k n).grp = s.grp := (s.count_spec k n).keep .grp rfl
@[simp] theorem State.count_bins (k n : Nat) : (s.count k n).bins = s.bins := (s.count_spec k n).keep .bins rfl
@[simp] theorem State.count_lock (k n : Nat) : (s.count k n).lock = s.lock := (s.count_spec k n).keep .lock rfl
@[simp] theorem State.count_mode (k n : Nat) : (s.count k n).mode = s.mode := (s.count_spec k n).keep .mode rfl
@[simp] theorem State.count_pair (k n : Nat) : (s.count k n).pair = s.pair := (s.count_spec k n).keep .pair rfl
@[simp] theorem State.count_tim (k n : Nat) : (s.count k n).tim = s.tim := (s.count_spec k n).keep .tim rfl
@[simp] theorem State.count_hk (k n : Nat) : (s.count k n).hk = s.hk := (s.count_spec k n).keep .hk rfl
@[simp] theorem State.count_cal (k n : Nat) : (s.count k n).cal = s.cal := (s.count_spec k n).keep .cal rfl
@[simp] theorem State.count_pwr (k n : Nat) : (s.count k n).pwr = s.pwr := (s.count_spec k n).keep .pwr rfl
@[simp] theorem State.count_cel (k n : Nat) : (s.count k n).cel = s.cel := (s.count_spec k n).keep .cel rfl
@[simp] theorem State.count_sec (k n : Nat) : (s.count k n).sec = s.sec := (s.count_spec k n).keep .sec rfl
@[simp] theorem State.count_free (k n : Nat) : (s.count k n).free = s.free := (s.count_spec k n).keep .free rfl
@[simp] theorem State.engOf_count (k n : Nat) (m : Nat) : (s.count k n).engOf m = s.engOf m :=
  State.engOf_congr (by simp) m
@[simp] theorem State.acqOf_count (k n : Nat) (m : Nat) : (s.count k n).acqOf m = s.acqOf m :=
  State.acqOf_congr (by simp) m
@[simp] theorem State.fecOf_count (k n : Nat) (m : Nat) : (s.count k n).fecOf m = s.fecOf m :=
  State.fecOf_congr (by simp) m
@[simp] theorem State.txOf_count (k n : Nat) (m : Nat) : (s.count k n).txOf m = s.txOf m :=
  State.txOf_congr (by simp) m
@[simp] theorem State.rxOf_count (k n : Nat) (m : Nat) : (s.count k n).rxOf m = s.rxOf m :=
  State.rxOf_congr (by simp) m
@[simp] theorem State.pmOf_count (k n : Nat) (m : Nat) : (s.count k n).pmOf m = s.pmOf m :=
  State.pmOf_congr (by simp) m
@[simp] theorem State.skOf_count (k n : Nat) (m : Nat) : (s.count k n).skOf m = s.skOf m :=
  State.skOf_congr (by simp) m
@[simp] theorem State.portOf_count (k n : Nat) (m : Nat) : (s.count k n).portOf m = s.portOf m :=
  State.portOf_congr (by simp) m
@[simp] theorem State.tribOf_count (k n : Nat) (m : Nat) : (s.count k n).tribOf m = s.tribOf m :=
  State.tribOf_congr (by simp) m
@[simp] theorem State.grpOf_count (k n : Nat) (m : Nat) : (s.count k n).grpOf m = s.grpOf m :=
  State.grpOf_congr (by simp) m
@[simp] theorem State.lockOf_count (k n : Nat) (m : Nat) : (s.count k n).lockOf m = s.lockOf m :=
  State.lockOf_congr (by simp) m

@[simp] theorem State.bump_fuse (k n : Nat) : (s.bump k n).fuse = s.fuse := (s.bump_spec k n).keep .fuse rfl
@[simp] theorem State.bump_pin (k n : Nat) : (s.bump k n).pin = s.pin := (s.bump_spec k n).keep .pin rfl
@[simp] theorem State.bump_eng (k n : Nat) : (s.bump k n).eng = s.eng := (s.bump_spec k n).keep .eng rfl
@[simp] theorem State.bump_port (k n : Nat) : (s.bump k n).port = s.port := (s.bump_spec k n).keep .port rfl
@[simp] theorem State.bump_trib (k n : Nat) : (s.bump k n).trib = s.trib := (s.bump_spec k n).keep .trib rfl
@[simp] theorem State.bump_grp (k n : Nat) : (s.bump k n).grp = s.grp := (s.bump_spec k n).keep .grp rfl
@[simp] theorem State.bump_bins (k n : Nat) : (s.bump k n).bins = s.bins := (s.bump_spec k n).keep .bins rfl
@[simp] theorem State.bump_lock (k n : Nat) : (s.bump k n).lock = s.lock := (s.bump_spec k n).keep .lock rfl
@[simp] theorem State.bump_ring (k n : Nat) : (s.bump k n).ring = s.ring := (s.bump_spec k n).keep .ring rfl
@[simp] theorem State.bump_host (k n : Nat) : (s.bump k n).host = s.host := (s.bump_spec k n).keep .host rfl
@[simp] theorem State.bump_mode (k n : Nat) : (s.bump k n).mode = s.mode := (s.bump_spec k n).keep .mode rfl
@[simp] theorem State.bump_pair (k n : Nat) : (s.bump k n).pair = s.pair := (s.bump_spec k n).keep .pair rfl
@[simp] theorem State.bump_tim (k n : Nat) : (s.bump k n).tim = s.tim := (s.bump_spec k n).keep .tim rfl
@[simp] theorem State.bump_hk (k n : Nat) : (s.bump k n).hk = s.hk := (s.bump_spec k n).keep .hk rfl
@[simp] theorem State.bump_cal (k n : Nat) : (s.bump k n).cal = s.cal := (s.bump_spec k n).keep .cal rfl
@[simp] theorem State.bump_pwr (k n : Nat) : (s.bump k n).pwr = s.pwr := (s.bump_spec k n).keep .pwr rfl
@[simp] theorem State.bump_cel (k n : Nat) : (s.bump k n).cel = s.cel := (s.bump_spec k n).keep .cel rfl
@[simp] theorem State.bump_sec (k n : Nat) : (s.bump k n).sec = s.sec := (s.bump_spec k n).keep .sec rfl
@[simp] theorem State.bump_perf (k n : Nat) : (s.bump k n).perf = s.perf := (s.bump_spec k n).keep .perf rfl
@[simp] theorem State.bump_out (k n : Nat) : (s.bump k n).out = s.out := (s.bump_spec k n).keep .out rfl
@[simp] theorem State.bump_free (k n : Nat) : (s.bump k n).free = s.free := (s.bump_spec k n).keep .free rfl
@[simp] theorem State.engOf_bump (k n : Nat) (m : Nat) : (s.bump k n).engOf m = s.engOf m :=
  State.engOf_congr (by simp) m
@[simp] theorem State.acqOf_bump (k n : Nat) (m : Nat) : (s.bump k n).acqOf m = s.acqOf m :=
  State.acqOf_congr (by simp) m
@[simp] theorem State.fecOf_bump (k n : Nat) (m : Nat) : (s.bump k n).fecOf m = s.fecOf m :=
  State.fecOf_congr (by simp) m
@[simp] theorem State.txOf_bump (k n : Nat) (m : Nat) : (s.bump k n).txOf m = s.txOf m :=
  State.txOf_congr (by simp) m
@[simp] theorem State.rxOf_bump (k n : Nat) (m : Nat) : (s.bump k n).rxOf m = s.rxOf m :=
  State.rxOf_congr (by simp) m
@[simp] theorem State.pmOf_bump (k n : Nat) (m : Nat) : (s.bump k n).pmOf m = s.pmOf m :=
  State.pmOf_congr (by simp) m
@[simp] theorem State.skOf_bump (k n : Nat) (m : Nat) : (s.bump k n).skOf m = s.skOf m :=
  State.skOf_congr (by simp) m
@[simp] theorem State.portOf_bump (k n : Nat) (m : Nat) : (s.bump k n).portOf m = s.portOf m :=
  State.portOf_congr (by simp) m
@[simp] theorem State.tribOf_bump (k n : Nat) (m : Nat) : (s.bump k n).tribOf m = s.tribOf m :=
  State.tribOf_congr (by simp) m
@[simp] theorem State.grpOf_bump (k n : Nat) (m : Nat) : (s.bump k n).grpOf m = s.grpOf m :=
  State.grpOf_congr (by simp) m
@[simp] theorem State.lockOf_bump (k n : Nat) (m : Nat) : (s.bump k n).lockOf m = s.lockOf m :=
  State.lockOf_congr (by simp) m
@[simp] theorem State.ringOf_bump (k n : Nat) (m : Nat) : (s.bump k n).ringOf m = s.ringOf m :=
  State.ringOf_congr (by simp) m

/-! ### Events -/

/-- Setting an event bit is a write of the field. -/
theorem State.rd_setEv (f g : Fld) (i j v : Nat) :
    (s.setEv f i v).rd g j = if f = g ∧ i = j then v % 2 ^ f.info.w else s.rd g j := by
  rw [← s.rd_wr]
  unfold State.setEv
  dsimp only
  split
  · exact State.rd_sendVector _ _ _ _
  · rfl

/-- After its bit, an event touches only what its record and the counters it bears on need. -/
theorem State.raiseN_after (n : Nat) (s : State) (e : Ev) (a : EvArg) : Spec recMask (s.evBit e) (State.raiseN (n + 1) s e a) := by
  unfold State.raiseN
  extract_lets +onlyGivenNames count sev seq s1 src s2
  have hc : ∀ t k, Spec recMask t (count t k) := by
    intro t k
    have hb : Spec recMask t (t.bump k 1) := Spec.step (t.bump_spec k 1) rfl Spec.refl
    exact Spec.ite (Spec.step (G := Fld.evBit .PERF_EV_ev ||| recMask) (State.raiseN_spec _ _ (.perf .counterWrap) _) rfl hb) hb
  have h2 : Spec recMask s1 s2 := Spec.set_perf rfl Spec.refl
  change Spec recMask s1 _
  clear_value count s2
  split
  · exact Spec.ite ((Spec.step (State.setEv_spec _ _ _ _) rfl h2).trans (hc _ _)) h2
  · extract_lets +onlyGivenNames key
    refine Spec.ite ((Spec.set_perf rfl h2).trans (hc _ _)) ?_
    refine Spec.ite (Spec.trans (Spec.step (State.setEv_spec _ _ _ _) rfl
      (Spec.step (State.modRing_spec _ _ _) rfl h2)) (hc _ _)) ?_
    exact Spec.step (State.writeEntry_spec _ _ _ _ _) rfl (Spec.set_perf rfl h2)

theorem State.raise_after (e : Ev) (a : EvArg) : Spec recMask (s.evBit e) (s.raise e a) := State.raiseN_after 3 s e a

/-- What an event leaves in a register outside its record: its own bit set, and every other field as it was. -/
theorem State.rd_raiseReg (f g : Fld) (i j : Nat) (a : EvArg) (h : recMask.testBit g.info.rg.ctorIdx = false) :
    (s.raiseReg f i a).rd g j = if f = g ∧ i = j then (s.rd f i ||| 1) % 2 ^ f.info.w else s.rd g j :=
  ((s.raise_after (.reg f i) a).rd g j h).trans (s.rd_setEv f g i j _)

/-- The bit of an event is set by it. -/
theorem State.rd_raiseReg_self (f : Fld) (i : Nat) (a : EvArg) (h : recMask.testBit f.info.rg.ctorIdx = false)
    (hw : f.info.w = 1) : (s.raiseReg f i a).rd f i = 1 := by
  rw [State.rd_raiseReg _ _ _ _ _ _ h, if_pos ⟨rfl, rfl⟩, hw, Nat.pow_one, Nat.or_mod_two_eq_one]
  right; rfl

theorem State.rd_raise (p : PerfEv) (g : Fld) (j : Nat) (a : EvArg) (h : recMask.testBit g.info.rg.ctorIdx = false) :
    (s.raise (.perf p) a).rd g j = s.rd g j := (State.raisePerf_spec s p a).rd g j h

theorem State.rd_count (k n : Nat) (g : Fld) (j : Nat) (h : recMask.testBit g.info.rg.ctorIdx = false) :
    (s.count k n).rd g j = s.rd g j := (s.count_spec k n).rd g j h

/-! ### Completions (11_host_rings.md R394, R400) -/

/-- A completion that waits in its SQ or for its CQ still does after the SQ's turn has moved on. -/
theorem State.flushCpl_keeps {c : Cpl} : ∀ n (s : State) r,
    c ∈ (s.ringOf c.d.sq).held ++ (s.ringOf c.d.cq).cplq →
    c ∈ ((State.flushCpl n s r).ringOf c.d.sq).held ++ ((State.flushCpl n s r).ringOf c.d.cq).cplq := by
  intro n
  induction n with
  | zero => intro s r h; exact h
  | succ n ih =>
    intro s r h
    unfold State.flushCpl
    extract_lets +onlyGivenNames q
    split
    · exact h
    · rename_i x hx
      apply ih
      have hr : ∀ (t : State) (k j : Nat) (g : RingSt → RingSt),
          ((t.modRing k g).ringOf j) = if k = j then g (t.ringOf j) else t.ringOf j := by
        intro t k j g
        by_cases e : k = j
        · subst e; simp
        · rw [if_neg e, State.ringOf_modRing_ne _ _ e]
      rw [List.mem_append] at h ⊢
      simp only [hr]
      rcases h with h | h
      · by_cases e : c = x
        · right
          subst e
          simp
        · left
          split <;> split <;> simp_all [q, List.mem_erase_of_ne]
      · right
        split <;> split <;> simp_all

theorem State.complete_ended (c : Cpl) :
    c ∈ ((s.complete c).ringOf c.d.sq).held ++ ((s.complete c).ringOf c.d.cq).cplq := by
  apply State.flushCpl_keeps
  rw [List.mem_append]
  left
  simp

theorem State.done_ended (d : Desc) (a b m : Nat) : (s.done d a b m).ended d a b m :=
  ⟨_, s.complete_ended { d := d, status := a, detail := b, moved := m }, rfl, rfl, rfl, rfl⟩

theorem State.refuse_ended (d : Desc) (b : Nat) : (s.refuse d b).ended d 1 b 0 := s.done_ended d 1 b 0

/-- What leaves the rings alone leaves an ended descriptor so. -/
theorem State.ended_ring {s t : State} {d : Desc} {a b m : Nat} (h : s.ended d a b m) (e : t.ring = s.ring) :
    t.ended d a b m := by
  unfold State.ended State.ringOf at *
  rw [e]
  exact h

/-! ### The PERF catalogue: its bits rise and stay (16_counters_and_events.md R530) -/

/-- Bit `k` of PERF_EV is set. -/
def State.perfBit (s : State) (k : Nat) : Prop := (s.rd .PERF_EV_ev 0).testBit k = true

theorem State.perfBit_of_rd {s t : State} {k : Nat} (h : s.perfBit k) (e : t.rd .PERF_EV_ev 0 = s.rd .PERF_EV_ev 0) :
    t.perfBit k := by
  unfold State.perfBit
  rw [e]
  exact h

theorem PerfEv.ctorIdx_lt (p : PerfEv) : p.ctorIdx < 14 := by cases p <;> decide

theorem State.perfBit_evBit {s : State} {k : Nat} (hk : k < 14) (e : Ev)
    (h : s.perfBit k ∨ ∃ p : PerfEv, e = .perf p ∧ p.ctorIdx = k) : (s.evBit e).perfBit k := by
  have hw : (2 : Nat) ^ (Fld.PERF_EV_ev).info.w = 2 ^ 14 := rfl
  unfold State.perfBit
  cases e with
  | reg f i =>
    have h' : s.perfBit k := by
      rcases h with h | ⟨p, hp, _⟩
      · exact h
      · cases hp
    change ((s.setEv f i _).rd .PERF_EV_ev 0).testBit k = true
    rw [State.rd_setEv]
    split
    · rename_i e
      obtain ⟨rfl, rfl⟩ := e
      rw [hw, Nat.testBit_mod_two_pow, Nat.testBit_or]
      simp only [hk, decide_true, Bool.true_and, Bool.or_eq_true]
      exact Or.inl h'
    · exact h'
  | perf p =>
    change ((s.setEv .PERF_EV_ev 0 _).rd .PERF_EV_ev 0).testBit k = true
    rw [State.rd_setEv, if_pos ⟨rfl, rfl⟩, hw, Nat.testBit_mod_two_pow, Nat.testBit_or]
    simp only [hk, decide_true, Bool.true_and, Bool.or_eq_true]
    rcases h with h | ⟨q, hq, e⟩
    · exact Or.inl h
    · cases hq
      right
      rw [e, Nat.testBit_two_pow_self]

theorem State.perfBit_raiseN {k : Nat} (hk : k < 14) : ∀ n (s : State) e a,
    (s.perfBit k ∨ (0 < n ∧ ∃ p : PerfEv, e = .perf p ∧ p.ctorIdx = k)) → (State.raiseN n s e a).perfBit k := by
  intro n
  induction n with
  | zero =>
    intro s e a h
    rcases h with h | ⟨h, _⟩
    · exact h
    · exact absurd h (by decide)
  | succ n ih =>
    intro s e a h
    unfold State.raiseN
    extract_lets +onlyGivenNames count sev seq s1 src s2
    have h1 : s1.perfBit k := State.perfBit_evBit hk e (h.imp_right And.right)
    have h2 : s2.perfBit k := State.perfBit_of_rd h1 rfl
    have hc : ∀ t j, t.perfBit k → (count t j).perfBit k := by
      intro t j ht
      have hb : (t.bump j 1).perfBit k := State.perfBit_of_rd ht ((t.bump_spec j 1).rd _ _ rfl)
      dsimp only [count]
      split
      · exact ih _ _ _ (Or.inl hb)
      · exact hb
    clear_value count s2
    split
    · split
      · refine hc _ _ (State.perfBit_of_rd h2 ?_)
        rw [State.rd_setEv, if_neg (by decide)]
      · exact h2
    · extract_lets +onlyGivenNames key
      split
      · exact hc _ _ (State.perfBit_of_rd h2 rfl)
      · split
        · refine hc _ _ (State.perfBit_of_rd h2 ?_)
          rw [State.rd_setEv, if_neg (by decide), State.rd_modRing]
        · exact State.perfBit_of_rd h2 ((State.writeEntry_spec _ _ _ _ _).rd _ _ rfl)

/-- An event of the PERF catalogue sets its bit. -/
theorem State.perfBit_raise (p : PerfEv) (a : EvArg) : (s.raise (.perf p) a).perfBit p.ctorIdx :=
  State.perfBit_raiseN p.ctorIdx_lt 4 s _ a (Or.inr ⟨by decide, p, rfl, rfl⟩)

theorem State.perfBit_count {s : State} {k : Nat} (hk : k < 14) (j n : Nat) (h : s.perfBit k) : (s.count j n).perfBit k := by
  have hb : (s.bump j n).perfBit k := State.perfBit_of_rd h ((s.bump_spec j n).rd _ _ rfl)
  unfold State.count
  dsimp only
  split
  · exact State.perfBit_raiseN hk 4 _ _ _ (Or.inl hb)
  · exact hb

/-! ### Counters (16_counters_and_events.md R517, R520) -/

theorem State.cntOf_bump (k j n : Nat) :
    (s.bump k n).cntOf j = if s.cntValid k = true ∧ k = j then (s.cntOf k + n) % 2 ^ 48 else s.cntOf j := by
  have h : ∀ t : State, (t.wr .PERF_WRAP_wrap (k / 32) (t.rd .PERF_WRAP_wrap (k / 32) ||| 2 ^ (k % 32))).cntOf j = t.cntOf j :=
    fun t => rfl
  unfold State.bump
  by_cases hv : s.cntValid k = true
  · rw [if_neg (by simp [hv])]
    dsimp only
    have e : SMap.get 0 (SMap.set 0 s.cnt k ((s.cntOf k + n) % 2 ^ 48)) j
        = if s.cntValid k = true ∧ k = j then (s.cntOf k + n) % 2 ^ 48 else s.cntOf j := by
      rw [SMap.get_set]
      simp only [hv, true_and]
      rfl
    split
    · exact e
    · exact e
  · rw [if_pos (by simp [hv]), if_neg (by simp [hv])]

/-- The counters that the record of an event may bear on: records discarded as stale, dropped and suppressed. -/
def evCounters : List Nat := [522, 523, 536]

theorem State.cntOf_raiseN : ∀ n (s : State) e a k, k ∉ evCounters → (State.raiseN n s e a).cntOf k = s.cntOf k := by
  intro n
  induction n with
  | zero => intro s e a k _; rfl
  | succ n ih =>
    intro s e a k hk
    have h522 : (522 : Nat) ≠ k := fun e => hk (by simp [evCounters, ← e])
    have h523 : (523 : Nat) ≠ k := fun e => hk (by simp [evCounters, ← e])
    have h536 : (536 : Nat) ≠ k := fun e => hk (by simp [evCounters, ← e])
    unfold State.raiseN
    extract_lets +onlyGivenNames count sev seq s1 src s2
    have h1 : s1.cntOf k = s.cntOf k := State.cntOf_congr (by dsimp only [s1]; cases e <;> exact State.setEv_cnt _ _ _ _) k
    have h2 : s2.cntOf k = s.cntOf k := h1
    have hc : ∀ t j, j ≠ k → (count t j).cntOf k = t.cntOf k := by
      intro t j hj
      have hb : (t.bump j 1).cntOf k = t.cntOf k := by rw [State.cntOf_bump, if_neg (fun e => hj e.2)]
      dsimp only [count]
      split
      · exact (ih _ _ _ _ hk).trans hb
      · exact hb
    clear_value count s2
    split
    · split
      · exact (hc _ _ h522).trans ((State.cntOf_congr (State.setEv_cnt _ _ _ _) k).trans h2)
      · exact h2
    · extract_lets +onlyGivenNames key
      split
      · exact (hc _ _ h536).trans h2
      · split
        · refine (hc _ _ h523).trans ((State.cntOf_congr ?_ k).trans h2)
          rw [State.setEv_cnt, State.modRing_cnt]
        · exact (State.cntOf_congr ((State.writeEntry_spec _ _ _ _ _).keep .cnt rfl) k).trans h2

theorem State.cntOf_raiseReg (f : Fld) (i : Nat) (a : EvArg) {k : Nat} (hk : k ∉ evCounters) :
    (s.raiseReg f i a).cntOf k = s.cntOf k := State.cntOf_raiseN 4 s _ a k hk
theorem State.cntOf_raise (e : Ev) (a : EvArg) {k : Nat} (hk : k ∉ evCounters) :
    (s.raise e a).cntOf k = s.cntOf k := State.cntOf_raiseN 4 s e a k hk

/-- Adding to a counter adds to it, modulo 2^48, and to no other but those of the event records. -/
theorem State.cntOf_count (k j n : Nat) (hj : j ∉ evCounters) :
    (s.count k n).cntOf j = if s.cntValid k = true ∧ k = j then (s.cntOf k + n) % 2 ^ 48 else s.cntOf j := by
  rw [← State.cntOf_bump]
  unfold State.count
  dsimp only
  split
  · exact State.cntOf_raise _ _ _ hj
  · rfl

/-- An event and its counter add to that counter, and to no other but those of the event records. -/
theorem State.cntOf_raiseCount (e : Ev) (a : EvArg) (k j n : Nat) (hk : k ∉ evCounters) (hj : j ∉ evCounters)
    (hv : (s.raise e a).cntValid k = s.cntValid k) :
    (s.raiseCount e a k n).cntOf j = if s.cntValid k = true ∧ k = j then (s.cntOf k + n) % 2 ^ 48 else s.cntOf j := by
  unfold State.raiseCount
  split
  · rw [State.cntOf_count _ _ _ _ hj, hv, State.cntOf_raise _ _ _ hk, State.cntOf_raise _ _ _ hj]
  · rw [State.cntOf_raise _ _ _ hj, State.cntOf_count _ _ _ _ hj]

end Sys2Proof.Machine
end

