-- ==== Sys2Proof/WellFormed.lean ====
section
/-! DEFINITION. The commands whose operands name something that the block's interface can carry. Every command has its
meaning in exec whether or not it is well formed; an ill-formed one stands for no event of the hardware. -/
namespace Sys2Proof

/-- A 32-bit word (00_scope.md R9). -/
def wfWord (v : Nat) : Bool := decide (v < 2 ^ 32)

/-- A register write carries a 32-bit value to an aligned address of BAR0, or of BAR4 above it (17_register_map.md R9, R536;
11_host_rings.md R376; log entry 8). -/
def wfRegWrite (addr val : Nat) : Bool := addr % 4 == 0 && decide (addr < 0x1004000) && wfWord val

/-- A ToD value, in 2^-16 ns: 48 bits of seconds (09_timing.md R310, R313). -/
def wfTod (t : Nat) : Bool := decide (t < 2 ^ 48 * (1000000000 * 65536))

/-- A count of the RTC, 47 bits (14_power_and_cellar.md R477). -/
def wfRtc (r : Nat) : Bool := decide (r < 2 ^ 47)

/-- A cell of the pair link, 40 bytes (08_pair_protection.md R270). -/
def wfCell (c : List Byte) : Bool := c.length == 40

/-- A cell of 40 bytes; the generations it carries are of 8 bits, of tributaries, groups, lockers and rings there are, and what an image
carries beside them are words (08_pair_protection.md R284; log entries 45, 99). -/
def wfMirCell (c : MirCell) : Bool :=
  wfCell c.bytes && c.gens.all (fun x => decide (x.1 < 32768) && (if x.1 < 8192 then decide (x.2 < 256) else wfWord x.2))

/-- A doorbell: an aligned offset of BAR2 and a 32-bit word (11_host_rings.md R386). -/
def wfDoorbell (off word : Nat) : Bool := off % 4 == 0 && decide (off < 0x40000) && wfWord word

/-- A mask of `w` bits. -/
def wfMask (w m : Nat) : Bool := decide (m < 2 ^ w)

/-- A signed number of 32 bits. -/
def wfInt32 (x : Int) : Bool := decide (-(2 ^ 31 : Int) ≤ x) && decide (x < 2 ^ 31)

/-- The well-formed commands. -/
def Instr.wf : Instr → Bool
  | .regWrite _ a v => wfRegWrite a v
  | .cellarRegWrite _ a v => wfRegWrite a v && decide (0x20100 ≤ a) && decide (a < 0x20128)
  | .txSfm _ t => wfTod t
  | .rxFawFound _ _ _ fn => wfMask 8 fn
  | .pmBoundary t => wfTod t
  | .pmSyncEdge t => wfTod t
  | .ppsEdge _ t => wfTod t
  | .timeCellTick t => wfTod t
  | .timeCellRx c t => wfCell c && wfTod t
  | .hbRx c _ => wfCell c
  | .mirRx c => wfMirCell c
  | .mackRx c => wfCell c
  | .bulkRx c => wfMirCell c
  | .cmdClear c => wfCell c
  | .cmdLockout c => wfCell c
  | .cmdForce c => wfCell c
  | .cmdManual c => wfCell c
  | .cmdRelinquish c => wfCell c
  | .cackRx c => wfCell c
  | .dyingRx c => wfCell c
  | .badCellRx c _ => wfCell c
  | .mirResend q => wfWord q
  | .gmpWordRx _ w _ => wfWord w
  | .binsReqWrite _ b => wfMask 9 b
  | .placeBlockRx _ b _ => b.length == 2048 || b.isEmpty
  | .ttBlockRx _ b _ => b.length == 32 || b.isEmpty
  | .todSet hi => wfWord hi
  | .dpllPstep _ ps => wfInt32 ps
  | .ringEnable _ _ c => wfWord c
  | .ringDisable _ c => wfWord c
  | .sqDoorbell o w => wfDoorbell o w
  | .cqDoorbell o w => wfDoorbell o w
  | .powerEntryDone r t => wfRtc r && wfTod t
  | .hkFilterWrite _ c f => wfWord c && wfWord f
  | .i3cEntdaaRoundEnd x b d => wfMask 48 x.pid && wfMask 8 b && wfMask 8 d && wfMask 16 x.aged
  | .i3cStatusPoll a => a.length == 16
  | .hkOutputRetry a b => a.length == 5 && b.length == 5
  | .calEstimate item _ _ _ => decide (item < 12)
  | .wakeRtc r => wfRtc r
  | .wakeTxSend v => wfWord v
  | .padRelease g => wfMask 6 g
  | .vbatSample _ r => wfRtc r
  | .tamperAssert x r => wfMask 2 x.inputs && wfRtc r
  | .mothballTodLoad r => wfRtc r
  | .railFail seen r => seen.length == 6 && seen.all (fun x => decide (x.1 ≤ x.2)) && wfRtc r
  | .railStartTimeout m r => wfMask 7 m && wfRtc r
  | .engineReset _ m => wfMask 4 m
  | .snapNow t => wfTod t
  | .snapPeriod t => wfTod t
  | .walkEnd t => wfTod t
  | .counterLatch v => wfWord v
  | .todNsRead t => wfTod t
  | .rtcLoRead r => wfRtc r
  | .parityScan (.reg a b) => a % 4 == 0 && decide (a < 0xA00000) && decide (b < 32)
  | .parityScan (.engine ..) | .parityScan (.stage ..) => true
  | .cellarWriteDone | .crossingSlip .. | .txFrame .. | .idleShadowApply .. | .markerApplyNotFraming ..
  | .mapStageReport .. | .rxFrame .. | .dlofDeclare .. | .dlofClear .. | .protNr .. | .protTxSuspect ..
  | .protSwitched .. | .protUnprotected .. | .protBadCode .. | .protAckTimeout .. | .gccBlockReceive ..
  | .sigWindow .. | .clipWindow .. | .acqCdSearchEnd .. | .acqClkLock .. | .acqClkTimeout .. | .acqEqConverge ..
  | .acqEqTimeout .. | .acqCarLock .. | .acqCarTimeout .. | .acqUnlock .. | .acqHoldRelock .. | .acqHoldTimeout ..
  | .marginCompute .. | .marginReport .. | .pilotWaitExpire .. | .positionDecode .. | .fecWindowEnd ..
  | .fecReadingReport .. | .testSyncBlock .. | .fecTestWrite .. | .ethIngressFrame .. | .ethOsetChange ..
  | .osetRepeat .. | .dlmBlockHeader .. | .egressOsetTimeout .. | .flexeCalendarSwitch .. | .groupTagRx ..
  | .skewMeasure .. | .dskewDeclare .. | .dskewClear .. | .clientRxFault .. | .placeChanDown ..
  | .placeRxShadowLoaded .. | .swStart .. | .swReadyTimeout .. | .swSwitchTimeout .. | .peerAliveLost
  | .peerAliveGained | .pairLaneDown .. | .pairLaneUp .. | .hbTick | .hbLost | .pairEnWrite .. | .cmdResend
  | .laserMatchTick | .bridgeSelect .. | .bridgeRestore .. | .compareYield .. | .readyHoldEnd | .txSuspectStart ..
  | .pairSwitchClear .. | .pairSwitchLockout .. | .pairSwitchForce .. | .pairSwitchManual .. | .todSecond
  | .refFail .. | .refQualify .. | .d0Lock .. | .d0Unlock .. | .loopOpenWrite .. | .todPhaseStep .. | .pstepDone ..
  | .modelReady .. | .modelSave .. | .traceAcquire .. | .holdExpire | .cdHoldExpire | .ttDiscardEnd | .kpFlip ..
  | .keyLoad .. | .keyErase .. | .keyPromote .. | .lockerRelease .. | .entropyReseed .. | .entropyTestFail
  | .cipherHalt | .badAccess .. | .ringQuiesced .. | .descFetch .. | .nop .. | .modeSet .. | .modeSetComplete
  | .heldModeResume | .powerSet .. | .shelfWrite .. | .shelfCommit .. | .flashRead .. | .flashWrite ..
  | .flashErase .. | .flashOpDone .. | .flashTimeout .. | .i3cXfer .. | .i3cXferDone .. | .i3cXferTimeout .. | .ohbTx ..
  | .rxBuf .. | .timeSample .. | .completionWrite .. | .evtOverflow .. | .msixModTimer .. | .msixUnmask ..
  | .pcieLinkDown | .pcieHotReset | .pcieFlr | .hkSlotEnd | .hkWord .. | .hkStartReq .. | .hkUrgentReq ..
  | .hkSyncCmd .. | .hkSeqStop | .hkChgRst .. | .hkChgRstEnd .. | .hkClamp .. | .hkClampRelease ..
  | .hkExcMonitor .. | .hkLinCommit .. | .hkCompatEnable | .hkRawRead .. | .aoutOvervolt .. | .aoutIlim ..
  | .aoutWired .. | .almShort | .almStuck | .i3cEnable | .i3cDisable | .i3cNoTarget | .i3cRoundAbort | .i3cTableFull
  | .i3cHotJoin | .i3cSettleTimeout | .i3cRescan | .calRefCompare .. | .calForce | .pilotFailTimeout ..
  | .wakeLine .. | .wakeClient .. | .wakePin | .wakeTxEnd | .rtcWrap | .cellAlarmReport | .cellarPowerLoss
  | .vddIoUp | .vddSramUp | .coldResetRelease | .railRetry | .resetPin .. | .warmReset .. | .bootComplete ..
  | .lcReqProvision .. | .lcReqSeal .. | .lcReqReturn .. | .lcTransitionDone | .nonceReq .. | .nonceExpire ..
  | .credentialSubmit .. | .credentialVerified | .trapClose .. | .sessionExpire | .hostPrivDrop | .rbRaise ..
  | .hkRecordFlush | .testErrRead .. | .sramScrub .. | .lockstepMismatch | .controlRestartDone | .clockLoss ..
  | .laneTxFault .. | .txMonitorFault .. | .cellarSupplyChangeover .. | .pcieLinkUp .. | .clientRxRecover ..
  | .keyReservedOp .. | .pairSwitchReserved .. | .postResetLosCheck .. | .powerExitDone | .celAck =>
    true

end Sys2Proof
end

