-- ==== Sys2Proof/Tests/Slice0.lean ====
section
/-! SUPPORT. Tests: ill-formed commands that WellFormed refuses, and a state and operands that meet the hypotheses of each
clause of the statements. -/
open Sys2Proof Sys2Proof.Machine
section
set_option linter.unusedVariables false
set_option maxRecDepth 8000

/-- A small state: reset with some fields written. -/
def smallState (l : List (Fld × Nat × Nat)) : State := State.reset.wrs l

/-! ### WellFormed: a term for each check that fails it, and some that pass -/
theorem test_wf_refuses_reg_unaligned : Instr.wf (.regWrite .host 0x60006 1) = false := by decide
theorem test_wf_refuses_reg_value : Instr.wf (.regWrite .host 0x60008 (2 ^ 32)) = false := by decide
theorem test_wf_refuses_reg_address : Instr.wf (.regWrite .host 0x1004000 1) = false := by decide
theorem test_wf_refuses_cellar_address : Instr.wf (.cellarRegWrite .host 0x60008 1) = false := by decide
theorem test_wf_refuses_cellar_value : Instr.wf (.cellarRegWrite .host 0x20100 (2 ^ 32)) = false := by decide
theorem test_wf_refuses_sfm_tod : Instr.wf (.txSfm 0 (2 ^ 48 * (1000000000 * 65536))) = false := by decide
theorem test_wf_refuses_faw_frame : Instr.wf (.rxFawFound 0 0 0 256) = false := by decide
theorem test_wf_refuses_pm_tod : Instr.wf (.pmBoundary (2 ^ 94)) = false := by decide
theorem test_wf_refuses_pm_sync_tod : Instr.wf (.pmSyncEdge (2 ^ 94)) = false := by decide
theorem test_wf_refuses_pps_tod : Instr.wf (.ppsEdge 0 (2 ^ 94)) = false := by decide
theorem test_wf_refuses_time_tick_tod : Instr.wf (.timeCellTick (2 ^ 94)) = false := by decide
theorem test_wf_refuses_time_cell : Instr.wf (.timeCellRx [] 0) = false := by decide
theorem test_wf_refuses_hb_cell : Instr.wf (.hbRx [1] {}) = false := by decide
theorem test_wf_refuses_mir_cell : Instr.wf (.mirRx {}) = false := by decide
theorem test_wf_refuses_mack_cell : Instr.wf (.mackRx []) = false := by decide
theorem test_wf_refuses_bulk_cell : Instr.wf (.bulkRx {}) = false := by decide
theorem test_wf_refuses_clear_cell : Instr.wf (.cmdClear []) = false := by decide
theorem test_wf_refuses_lockout_cell : Instr.wf (.cmdLockout []) = false := by decide
theorem test_wf_refuses_force_cell : Instr.wf (.cmdForce []) = false := by decide
theorem test_wf_refuses_manual_cell : Instr.wf (.cmdManual []) = false := by decide
theorem test_wf_refuses_relinquish_cell : Instr.wf (.cmdRelinquish []) = false := by decide
theorem test_wf_refuses_cack_cell : Instr.wf (.cackRx []) = false := by decide
theorem test_wf_refuses_dying_cell : Instr.wf (.dyingRx []) = false := by decide
theorem test_wf_refuses_bad_cell : Instr.wf (.badCellRx [] true) = false := by decide
theorem test_wf_refuses_mir_seq : Instr.wf (.mirResend (2 ^ 32)) = false := by decide
theorem test_wf_refuses_gmp_word : Instr.wf (.gmpWordRx 0 (2 ^ 32) false) = false := by decide
theorem test_wf_refuses_bins : Instr.wf (.binsReqWrite 0 512) = false := by decide
theorem test_wf_refuses_place_block : Instr.wf (.placeBlockRx 0 [0] false) = false := by decide
theorem test_wf_refuses_tt_block : Instr.wf (.ttBlockRx 0 [0] false) = false := by decide
theorem test_wf_refuses_tod_set : Instr.wf (.todSet (2 ^ 32)) = false := by decide
theorem test_wf_refuses_pstep : Instr.wf (.dpllPstep 0 (2 ^ 31)) = false := by decide
theorem test_wf_refuses_pstep_low : Instr.wf (.dpllPstep 0 (-(2 ^ 31) - 1)) = false := by decide
theorem test_wf_refuses_ring_cfg : Instr.wf (.ringEnable .host 5 (2 ^ 32)) = false := by decide
theorem test_wf_refuses_ring_disable : Instr.wf (.ringDisable 5 (2 ^ 32)) = false := by decide
theorem test_wf_refuses_doorbell_unaligned : Instr.wf (.sqDoorbell 2 0) = false := by decide
theorem test_wf_refuses_doorbell_offset : Instr.wf (.cqDoorbell 0x40000 0) = false := by decide
theorem test_wf_refuses_doorbell_word : Instr.wf (.sqDoorbell 0 (2 ^ 32)) = false := by decide
theorem test_wf_refuses_entry_rtc : Instr.wf (.powerEntryDone (2 ^ 47) 0) = false := by decide
theorem test_wf_refuses_entry_tod : Instr.wf (.powerEntryDone 0 (2 ^ 94)) = false := by decide
theorem test_wf_refuses_filter_cfg : Instr.wf (.hkFilterWrite 0 (2 ^ 32) 0) = false := by decide
theorem test_wf_refuses_filter_flt : Instr.wf (.hkFilterWrite 0 0 (2 ^ 32)) = false := by decide
theorem test_wf_refuses_i3c_pid : Instr.wf (.i3cEntdaaRoundEnd { pid := 2 ^ 48 } 0 0) = false := by decide
theorem test_wf_refuses_i3c_bcr : Instr.wf (.i3cEntdaaRoundEnd {} 256 0) = false := by decide
theorem test_wf_refuses_i3c_dcr : Instr.wf (.i3cEntdaaRoundEnd {} 0 256) = false := by decide
theorem test_wf_refuses_i3c_aged : Instr.wf (.i3cEntdaaRoundEnd { aged := 65536 } 0 0) = false := by decide
theorem test_wf_refuses_mir_gens : Instr.wf (.mirRx { bytes := List.replicate 40 0, gens := [(32768, 0)] }) = false := by decide
theorem test_wf_refuses_mir_gen : Instr.wf (.mirRx { bytes := List.replicate 40 0, gens := [(0, 256)] }) = false := by decide
theorem test_wf_refuses_poll : Instr.wf (.i3cStatusPoll []) = false := by decide
theorem test_wf_refuses_retry : Instr.wf (.hkOutputRetry [] []) = false := by decide
theorem test_wf_refuses_retry_back : Instr.wf (.hkOutputRetry [true, true, true, true, true] []) = false := by decide
theorem test_wf_refuses_cal_item : Instr.wf (.calEstimate 12 0 0 0) = false := by decide
theorem test_wf_refuses_wake_rtc : Instr.wf (.wakeRtc (2 ^ 47)) = false := by decide
theorem test_wf_refuses_wake_tx : Instr.wf (.wakeTxSend (2 ^ 32)) = false := by decide
theorem test_wf_refuses_pads : Instr.wf (.padRelease 64) = false := by decide
theorem test_wf_refuses_vbat_rtc : Instr.wf (.vbatSample 0 (2 ^ 47)) = false := by decide
theorem test_wf_refuses_tamper : Instr.wf (.tamperAssert { inputs := 4, ticks := 32 } 0) = false := by decide
theorem test_wf_refuses_tamper_rtc : Instr.wf (.tamperAssert { inputs := 1, ticks := 32 } (2 ^ 47)) = false := by decide
theorem test_wf_refuses_mothball_rtc : Instr.wf (.mothballTodLoad (2 ^ 47)) = false := by decide
theorem test_wf_refuses_rails : Instr.wf (.railFail [] 0) = false := by decide
theorem test_wf_refuses_rails_order : Instr.wf (.railFail (List.replicate 6 (2, 1)) 0) = false := by decide
theorem test_wf_refuses_rails_rtc : Instr.wf (.railFail (List.replicate 6 (1, 2)) (2 ^ 47)) = false := by decide
theorem test_wf_refuses_rail_start : Instr.wf (.railStartTimeout 128 0) = false := by decide
theorem test_wf_refuses_rail_start_rtc : Instr.wf (.railStartTimeout 1 (2 ^ 47)) = false := by decide
theorem test_wf_refuses_engines : Instr.wf (.engineReset .host 16) = false := by decide
theorem test_wf_refuses_snap : Instr.wf (.snapNow (2 ^ 94)) = false := by decide
theorem test_wf_refuses_snap_period : Instr.wf (.snapPeriod (2 ^ 94)) = false := by decide
theorem test_wf_refuses_walk : Instr.wf (.walkEnd (2 ^ 94)) = false := by decide
theorem test_wf_refuses_latch : Instr.wf (.counterLatch (2 ^ 32)) = false := by decide
theorem test_wf_refuses_tod_read : Instr.wf (.todNsRead (2 ^ 94)) = false := by decide
theorem test_wf_refuses_rtc_read : Instr.wf (.rtcLoRead (2 ^ 47)) = false := by decide
theorem test_wf_refuses_parity_unaligned : Instr.wf (.parityScan (.reg 2 0)) = false := by decide
theorem test_wf_refuses_parity_address : Instr.wf (.parityScan (.reg 0xA00000 0)) = false := by decide
theorem test_wf_refuses_parity_bit : Instr.wf (.parityScan (.reg 0 32)) = false := by decide
theorem test_wf_accepts_reg_write : Instr.wf (.regWrite .host 0x60008 0xFFFFFFFF) = true := by decide
theorem test_wf_accepts_msix_write : Instr.wf (.regWrite .host 0x1000000 5) = true := by decide
theorem test_wf_accepts_cell : Instr.wf (.mirRx { bytes := List.replicate 40 0, gens := [(1023, 255)] }) = true := by decide
theorem test_wf_accepts_doorbell : Instr.wf (.sqDoorbell 0x3FFFC 0xFFFF0001) = true := by decide
theorem test_wf_accepts_tamper : Instr.wf (.tamperAssert { inputs := 3, ticks := 32 } 5) = true := by decide

/-! ### The table gives no word any bits -/

theorem test_no_word_spells_a_command : decodeTableWord 32 0x12345678 = none := rfl

/-! ### A valid placement block -/

theorem fromLE_leBytes (n : Nat) (h : n < 2 ^ 32) : fromLE (leBytes 4 n) = n := by
  simp [fromLE, leBytes]
  omega

theorem crc32_lt (b : List Byte) : crc32 b < 2 ^ 32 := by
  have step : ∀ r : Nat, r < 2 ^ 32 → (if r % 2 = 1 then (r / 2) ^^^ 0xEDB88320 else r / 2) < 2 ^ 32 := by
    intro r h
    split
    · exact Nat.xor_lt_two_pow (by omega) (by decide)
    · omega
  have byte : ∀ r x : Nat, r < 2 ^ 32 → x < 256 → crc32Byte r x < 2 ^ 32 := by
    intro r x hr hx
    have h0 : r ^^^ x < 2 ^ 32 := Nat.xor_lt_two_pow hr (by omega)
    have go : ∀ (l : List Nat) (a : Nat), a < 2 ^ 32 →
        l.foldl (fun a _ => if a % 2 = 1 then (a / 2) ^^^ 0xEDB88320 else a / 2) a < 2 ^ 32 := by
      intro l
      induction l with
      | nil => exact fun a h => h
      | cons _ l ih => exact fun a h => ih _ (step a h)
    exact go _ _ h0
  have go : ∀ (l : List Byte) (a : Nat), a < 2 ^ 32 → l.foldl (fun r b => crc32Byte r b.toNat) a < 2 ^ 32 := by
    intro l
    induction l with
    | nil => exact fun a h => h
    | cons x l ih => exact fun a h => ih _ (byte a _ h x.isLt)
  exact Nat.xor_lt_two_pow (go b _ (by decide)) (by decide)

theorem blockValid_of (b : List Byte) (hl : b.length = 2044) (h3 : b.take 3 = [0x5A, 0x7E, 0x01]) :
    blockValid (b ++ leBytes 4 (crc32 b)) false = true := by
  have hs : (leBytes 4 (crc32 b)).length = 4 := by simp [leBytes]
  have h1 : slice (b ++ leBytes 4 (crc32 b)) 0 2044 = b := by
    rw [slice, List.drop_zero, ← hl, List.take_left]
  have h2 : slice (b ++ leBytes 4 (crc32 b)) 2044 4 = leBytes 4 (crc32 b) := by
    rw [slice, ← hl, List.drop_left]
    exact List.take_of_length_le (by omega)
  have h3' : slice (b ++ leBytes 4 (crc32 b)) 0 3 = [0x5A, 0x7E, 0x01] := by
    rw [slice, List.drop_zero, List.take_append_of_le_length (by omega), h3]
  have h4 : (b ++ leBytes 4 (crc32 b)).length = 2048 := by rw [List.length_append, hl, hs]
  rw [blockValid, h1, h2, h3', h4, fromLE_leBytes _ (crc32_lt b)]
  simp

/-- A placement block whose fields are all 0. -/
def blockBody (n : Nat) : List Byte := 0x5A :: 0x7E :: 0x01 :: List.replicate n 0

theorem test_block_valid : blockValid (blockBody 2041 ++ leBytes 4 (crc32 (blockBody 2041))) false = true :=
  blockValid_of _ (by rw [blockBody, List.length_cons, List.length_cons, List.length_cons, List.length_replicate]) rfl

/-! ### States that meet the hypotheses of each clause -/
theorem test_AcquisitionGoesOn_1 : (fun (n : Eng) (tone : List Nat) (s : State) => s.inAcq n 2 = true)
      (1) ([0, 5]) (smallState [(.LE_STATUS_acq_state, 1, 2), (.LE_PROFILE_prof_active, 1, 5)]) := by decide

theorem test_AcquisitionGoesOn_2 : (fun (n : Eng) (ppb : Int) (s : State) => s.inAcq n 3 = true
      ∧ ppb.natAbs ≤ 1000)
      (1) (1000) (smallState [(.LE_STATUS_acq_state, 1, 3)]) := by decide

theorem test_AcquisitionGoesOn_3 : (fun (n : Eng) (s : State) => s.inAcq n 4 = true)
      (1) (smallState [(.LE_STATUS_acq_state, 1, 4)]) := by decide

theorem test_AcquisitionGoesOn_4 : (fun (n : Eng) (fo snrMin : Int) (s : State) => s.inAcq n 5 = true
      ∧ fo.natAbs ≤ 100 * (s.acqOf n).foRange
      ∧ s.snrLocks n snrMin = true)
      (1) (-3000) (9000) ((smallState [(.LE_STATUS_acq_state, 1, 5), (.LE_PROFILE_prof_active, 1, 1)]).modAcq 1 (fun a => { a with foRange := 50 })) := by decide

theorem test_AcquisitionGoesOn_5 : (fun (n : Eng) (fo snrMin : Int) (s : State) => s.inAcq n 7 = true
      ∧ s.on .LE_STATUS_sig_present n = true
      ∧ s.snrLocks n snrMin = true)
      (1) (7) (9000) (smallState [(.LE_STATUS_acq_state, 1, 7), (.LE_STATUS_sig_present, 1, 1), (.LE_PROFILE_prof_active, 1, 1)]) := by decide

theorem test_AcquisitionFallsBack_1 : (fun (n : Eng) (s : State) (c : Instr) => (s.inAcq n 3 = true ∧ c = .acqClkTimeout n ∨ s.inAcq n 4 = true ∧ c = .acqEqTimeout n
      ∨ s.inAcq n 5 = true ∧ c = .acqCarTimeout n))
      (1) (smallState [(.LE_STATUS_acq_state, 1, 4)]) (.acqEqTimeout 1) := by decide

theorem test_AcquisitionFallsBack_2 : (fun (n : Eng) (why : UnlockObs) (s : State) => s.inAcq n 6 = true
      ∧ s.mustUnlock n why = true)
      (1) (.sigLost) (smallState [(.LE_STATUS_acq_state, 1, 6), (.LE_STATUS_dsp_lock, 1, 1)]) := by decide

theorem test_AcquisitionFallsBack_3 : (fun (n : Eng) (s : State) => s.inAcq n 7 = true)
      (1) (smallState [(.LE_STATUS_acq_state, 1, 7)]) := by decide

theorem test_SignalWindows_1 : (fun (n : Eng) (pwr : Int) (s : State) => s.hasEng n = true
      ∧ s.rd .LE_STATUS_acq_state n ≠ 0
      ∧ (s.sigThr n).1 ≤ pwr
      ∧ 9 ≤ (s.acqOf n).sigHi
      ∧ (s.acqOf n).sigSkip = false)
      (1) (0) ((smallState [(.LE_STATUS_acq_state, 1, 1)]).modAcq 1 (fun a => { a with sigHi := 9 })) := by decide

theorem test_SignalWindows_2 : (fun (n : Eng) (pwr : Int) (s : State) => s.hasEng n = true
      ∧ s.rd .LE_STATUS_acq_state n ≠ 0
      ∧ pwr < (s.sigThr n).2
      ∧ 9 ≤ (s.acqOf n).sigLo
      ∧ (s.acqOf n).sigSkip = false
      ∧ s.on .LE_STATUS_sig_present n = true)
      (1) (-9000) ((smallState [(.LE_STATUS_acq_state, 1, 6), (.LE_STATUS_sig_present, 1, 1)]).modAcq 1 (fun a => { a with sigLo := 9 })) := by decide

theorem test_SignalWindows_3 : (fun (n : Eng) (pwr : Int) (s : State) => s.hasEng n = true
      ∧ s.rd .LE_STATUS_acq_state n ≠ 0
      ∧ (s.acqOf n).sigSkip = true
      ∧ (s.acqOf n).sigHi ≠ 10
      ∧ (s.acqOf n).sigLo ≠ 10)
      (1) (5) ((smallState [(.LE_STATUS_acq_state, 1, 1)]).modAcq 1 (fun a => { a with sigSkip := true })) := by decide

theorem test_SignalWindows_4 : (fun (n : Eng) (clipped : List Nat) (samples : Nat) (s : State) => s.hasEng n = true
      ∧ s.rd .LE_STATUS_acq_state n ≠ 0)
      (1) ([2]) (9999) (smallState [(.LE_STATUS_acq_state, 1, 1)]) := by decide

theorem test_SignalWindows_5 : (fun (n : Eng) (m : MarginObs) (s : State) => s.inAcq n 6 = true)
      (1) ({ snr := 1600 }) (smallState [(.LE_STATUS_acq_state, 1, 6), (.LE_PROFILE_prof_active, 1, 1)]) := by decide

theorem test_SignalWindows_6 : (fun (n : Eng) (s : State) => s.hasEng n = true
      ∧ s.inService n = true)
      (1) (smallState [(.LE_PROFILE_prof_active, 1, 1)]) := by decide

theorem test_FecReadings_1 : (fun (n : Eng) (p : PosObs) (s : State) => s.hasEng n = true
      ∧ s.inService n = true
      ∧ s.lpn n = true
      ∧ (s.fecOf n).win.length ≤ 64)
      (1) ({ llr := [5] }) (smallState [(.LE_PROFILE_prof_active, 1, 5), (.LE_STATUS_dsp_lock, 1, 1), (.LE_STATUS_sig_present, 1, 1)]) := by decide

theorem test_FecReadings_2 : (fun (n : Eng) (p : PosObs) (q : FecPos) (s : State) => s.hasEng n = true
      ∧ s.inService n = true
      ∧ s.lpn n = true
      ∧ (s.fecOf n).win.length = 64
      ∧ (s.fecOf n).win.head? = some q
      ∧ q.zero = false)
      (1) ({}) ({}) ((smallState [(.LE_PROFILE_prof_active, 1, 5)]).modFec 1 (fun f => { f with win := List.replicate 64 {} })) := by decide

theorem test_FecReadings_3 : (fun (n : Eng) (p : PosObs) (s : State) => s.hasEng n = true
      ∧ s.inService n = true
      ∧ s.on .LE_STATUS_dsp_lock n = false ∨ s.on .LE_STATUS_sig_present n = false)
      (1) ({}) (smallState [(.LE_PROFILE_prof_active, 1, 5)]) := by decide

theorem test_FecReadings_4 : (fun (n : Eng) (s : State) => s.hasEng n = true
      ∧ s.inService n = true
      ∧ s.on .LE_STATUS_dsp_lock n = false)
      (1) (smallState [(.LE_PROFILE_prof_active, 1, 5)]) := by decide

theorem test_FecReadings_5 : (fun (n : Eng) (s : State) => s.hasEng n = true
      ∧ s.inService n = true
      ∧ s.on .LE_STATUS_dsp_lock n = true
      ∧ (s.fecOf n).ended = false)
      (1) (smallState [(.LE_PROFILE_prof_active, 1, 5), (.LE_STATUS_dsp_lock, 1, 1)]) := by decide

theorem test_FecReadings_6 : (fun (n : Eng) (m : MarginObs) (l : List Nat) (s : State) => s.inAcq n 6 = true
      ∧ (s.fecOf n).staged = some l)
      (1) ({}) ([7, 0, 1, 0, 0, 0, 0]) ((smallState [(.LE_STATUS_acq_state, 1, 6), (.LE_PROFILE_prof_active, 1, 5)]).modFec 1 (fun f => { f with staged := some [7, 0, 1, 0, 0, 0, 0] })) := by decide

theorem test_FecReadings_7 : (fun (n : Eng) (s : State) => s.hasEng n = true
      ∧ s.inService n = true)
      (1) (smallState [(.LE_PROFILE_prof_active, 1, 5)]) := by decide

theorem test_FecReadings_8 : (fun (n : Eng) (differ : List Nat) (s : State) => s.hasEng n = true
      ∧ s.fecTest n = true)
      (1) ([32]) ((smallState [(.LE_PROFILE_prof_active, 1, 5), (.SYS_MODE_mode, 0, 4), (.LE_FEC_CTRL_fec_test, 1, 1)]).modFec 1 (fun f => { f with hit := 2 })) := by decide

theorem test_CalibrationSteps_2 : (fun (item : Nat) (n : Eng) (idx : Nat) (est : Int) (s : State) => item < 8
      ∧ idx < (trimItem item).2.2
      ∧ s.estRuns item n = true
      ∧ (trimItem item).1 < est.natAbs)
      (3) (1) (1) (-101) (smallState [(.CAL_CTRL_bg_en, 0, 1), (.LE_PROFILE_prof_active, 1, 5), (.LE_STATUS_dsp_lock, 1, 1)]) := by decide

theorem test_CalibrationSteps_3 : (fun (item : Nat) (n : Eng) (idx : Nat) (est : Int) (s : State) => item < 8
      ∧ idx < (trimItem item).2.2
      ∧ s.estRuns item n = true
      ∧ s.on .CAL_HK_STATUS_ref_fault = false
      ∧ s.implausible item n idx est = none)
      (3) (1) (1) (9) (smallState [(.CAL_CTRL_bg_en, 0, 1), (.LE_PROFILE_prof_active, 1, 5), (.LE_STATUS_dsp_lock, 1, 1)]) := by decide

theorem test_CalibrationSteps_4 : (fun (item : Nat) (n : Eng) (idx : Nat) (est : Int) (s : State) => 8 ≤ item
      ∧ (s.itemInst item).contains idx = true
      ∧ s.estRuns item 0 = true
      ∧ s.hk.calDone = some (item, idx)
      ∧ s.on .CAL_HK_STATUS_ref_fault = false
      ∧ s.implausible item 0 idx est = none)
      (8) (1) (1) (9) ({ smallState [(.CAL_CTRL_bg_en, 0, 1), (.HK_SEQ_chan, 0, 32), (.HK_SEQ_count, 0, 60)] with hk := { reg := true, calDone := some (8, 1) } }) := by decide

theorem test_CalibrationSteps_5 : (fun (n : Eng) (s : State) => s.hasEng n = true
      ∧ s.on .LE_STATUS_dsp_lock n = true
      ∧ s.rxConverged n = false
      ∧ s.lpn n = true
      ∧ s.rd .CAL_ENG_STATUS_requesting n = 0)
      (1) (smallState [(.LE_PROFILE_prof_active, 1, 5), (.LE_STATUS_dsp_lock, 1, 1)]) := by decide

theorem test_CalibrationSteps_6 : (fun (n : Eng) (s : State) => s.hasEng n = true
      ∧ s.on .LE_STATUS_dsp_lock n = true
      ∧ s.rxConverged n = false
      ∧ s.lpn n = false
      ∧ SMap.get false s.cal.estStuck n = false)
      (1) (smallState [(.LE_PROFILE_prof_active, 1, 2), (.LE_STATUS_dsp_lock, 1, 1)]) := by decide

theorem test_CalibrationSteps_7 : (fun (n : Eng) (s : State) => s.hasEng n = true
      ∧ s.on .CAL_ENG_STATUS_requesting n = true)
      (1) (smallState [(.CAL_ENG_STATUS_requesting, 1, 1)]) := by decide

theorem test_ReceiveFraming_1 : (fun (n : Eng) (errs rot fn : Nat) (s : State) => s.hasEng n = true
      ∧ s.lpn n = true
      ∧ s.on .LE_STATUS_dsp_lock n = true
      ∧ (s.rxOf n).st = .oof
      ∧ errs ≤ 2)
      (1) (2) (9) (300) (smallState [(.LE_PROFILE_prof_active, 1, 5), (.LE_STATUS_dsp_lock, 1, 1)]) := by decide

theorem test_ReceiveFraming_2 : (fun (n : Eng) (f : RxFrameObs) (s : State) => s.hasEng n = true
      ∧ s.lpn n = true
      ∧ s.on .LE_STATUS_dsp_lock n = true
      ∧ s.loopback n ≠ 1
      ∧ (s.rxOf n).st = .cand
      ∧ f.faw ≤ 2
      ∧ hdrOk f.hdr = true
      ∧ byteAt f.hdr 0 = ((s.rxOf n).fn + 1) % 256)
      (1) ({ hdr := (frameHeader 3 3 8).drop 4, oh := [1] }) ((smallState [(.LE_PROFILE_prof_active, 1, 5), (.LE_STATUS_dsp_lock, 1, 1)]).modRx 1 (fun x => { x with st := .cand, fn := 2 })) := by decide

theorem test_ReceiveFraming_3 : (fun (n : Eng) (f : RxFrameObs) (s : State) => s.hasEng n = true
      ∧ s.lpn n = true
      ∧ s.on .LE_STATUS_dsp_lock n = true
      ∧ s.loopback n ≠ 1
      ∧ 2 < f.faw
      ∧ (s.rxOf n).st = .cand)
      (1) ({ faw := 3 }) ((smallState [(.LE_PROFILE_prof_active, 1, 5), (.LE_STATUS_dsp_lock, 1, 1)]).modRx 1 (fun x => { x with st := .cand })) := by decide

theorem test_ReceiveFraming_4 : (fun (n : Eng) (f : RxFrameObs) (s : State) => s.hasEng n = true
      ∧ s.lpn n = true
      ∧ s.on .LE_STATUS_dsp_lock n = true
      ∧ s.loopback n ≠ 1
      ∧ 2 < f.faw
      ∧ (s.rxOf n).st = .inFrame
      ∧ (s.rxOf n).bad = 4)
      (1) ({ faw := 3 }) ((smallState [(.LE_PROFILE_prof_active, 1, 5), (.LE_STATUS_dsp_lock, 1, 1), (.LE_FRM_STATUS_in_frame, 1, 1)]).modRx 1 (fun x => { x with st := .inFrame, bad := 4 })) := by decide

theorem test_ReceiveFraming_5 : (fun (n : Eng) (f : RxFrameObs) (s : State) => s.hasEng n = true
      ∧ s.inService n = true
      ∧ s.lpn n = false
      ∧ s.on .LE_STATUS_dsp_lock n = true)
      (1) ({ aligned := true }) (smallState [(.LE_PROFILE_prof_active, 1, 2), (.LE_STATUS_dsp_lock, 1, 1)]) := by decide

theorem test_ReceiveFraming_6 : (fun (n : Eng) (s : State) => s.hasEng n = true
      ∧ s.inService n = true
      ∧ s.on .LE_FRM_STATUS_in_frame n = false
      ∧ s.on .LE_FRM_STATUS_dlos n = false)
      (1) (smallState [(.LE_PROFILE_prof_active, 1, 5)]) := by decide

theorem test_ReceiveFraming_7 : (fun (n : Eng) (s : State) => s.hasEng n = true
      ∧ s.inService n = true
      ∧ s.on .LE_FRM_STATUS_in_frame n = true)
      (1) (smallState [(.LE_PROFILE_prof_active, 1, 5), (.LE_FRM_STATUS_in_frame, 1, 1), (.LE_FRM_STATUS_dlof, 1, 1)]) := by decide

theorem test_ReceiveFraming_8 : (fun (n : Eng) (s : State) (b : RxBlock) => s.hasEng n = true
      ∧ (s.rxOf n).gccDone = some b
      ∧ b.bad = true
      ∧ s.on .LE_FRM_CTRL_ohb_gcc_en n = true)
      (1) ((smallState [(.LE_FRM_CTRL_ohb_gcc_en, 1, 1)]).modRx 1 (fun x => { x with gccDone := some { bad := true } })) ({ bad := true }) := by decide

theorem test_ReceiveFraming_9 : (fun (n : Eng) (s : State) (b : RxBlock) (d : Desc) => s.hasEng n = true
      ∧ (s.rxOf n).gccDone = some b
      ∧ b.bad = false
      ∧ s.on .LE_FRM_CTRL_ohb_gcc_en n = true
      ∧ s.ohbBuf n = some d)
      (1) ((smallState [(.LE_FRM_CTRL_ohb_gcc_en, 1, 1), (.HOST_OHB_BIND_rx_ring, 1, 4), (.HOST_RCTX_STATE_state, 4, 1), (.HOST_RCTX_CFG_class, 4, 2), (.HOST_RCTX_CFG_log2size, 9, 6)]).modRx 1 (fun x => { x with gccDone := some { data := [7] } }) |>.modRing 4 (fun q => { q with rxq := [{ sq := 4, cq := 9, len := 64 }] })) ({ data := [7] }) ({ sq := 4, cq := 9, len := 64 }) := by decide

theorem test_ReceiveFraming_10 : (fun (n : Eng) (s : State) (b : RxBlock) => s.hasEng n = true
      ∧ (s.rxOf n).mfcDone = some b
      ∧ s.on .LE_FRM_CTRL_ohb_mfc_en n = false)
      (1) (State.reset.modRx 1 (fun x => { x with mfcDone := some {} })) ({}) := by decide

theorem test_ReceiveFraming_11 : (fun (n : Eng) (s : State) => s.hasEng n = true
      ∧ (s.acqOf n).postReset = true
      ∧ s.inService n = true
      ∧ s.on .LE_STATUS_sig_present n = false)
      (1) ((smallState [(.LE_PROFILE_prof_active, 1, 5)]).modAcq 1 (fun a => { a with postReset := true })) := by decide

theorem test_ProtectionMessages_1 : (fun (n : Eng) (s : State) (m : ProtMsg) (l : List ProtMsg) => s.hasEng n = true
      ∧ (s.rxOf n).protQ = m :: l
      ∧ m.code = 0)
      (1) (State.reset.modRx 1 (fun x => { x with protQ := [{ code := 0 }] })) ({ code := 0 }) ([]) := by decide

theorem test_ProtectionMessages_2 : (fun (n : Eng) (s : State) (m : ProtMsg) (l : List ProtMsg) => s.hasEng n = true
      ∧ (s.rxOf n).protQ = m :: l
      ∧ m.code = 1
      ∧ s.role ≠ 1
      ∧ (s.txOf n).swLeft = 0
      ∧ (s.txOf n).suspect = false)
      (1) (State.reset.modRx 1 (fun x => { x with protQ := [{ code := 1 }] })) ({ code := 1 }) ([]) := by decide

theorem test_ProtectionMessages_3 : (fun (n : Eng) (s : State) (m : ProtMsg) (l : List ProtMsg) => s.hasEng n = true
      ∧ (s.rxOf n).protQ = m :: l
      ∧ m.code = 1
      ∧ s.role = 1)
      (1) ((smallState [(.SYS_MODE_mode, 0, 1), (.SYS_MODE_role, 0, 1), (.PAIR_STATUS_link_state, 0, 2), (.PAIR_STATUS_ready, 0, 1)]).modRx 1 (fun x => { x with protQ := [{ code := 1 }] })) ({ code := 1 }) ([]) := by decide

theorem test_ProtectionMessages_4 : (fun (n : Eng) (s : State) (m : ProtMsg) (l : List ProtMsg) => s.hasEng n = true
      ∧ (s.rxOf n).protQ = m :: l
      ∧ m.code = 2)
      (1) (State.reset.modRx 1 (fun x => { x with protQ := [{ code := 2 }] })) ({ code := 2 }) ([]) := by decide

theorem test_ProtectionMessages_5 : (fun (n : Eng) (s : State) (m : ProtMsg) (l : List ProtMsg) => s.hasEng n = true
      ∧ (s.rxOf n).protQ = m :: l
      ∧ m.code = 3)
      (1) (State.reset.modRx 1 (fun x => { x with protQ := [{ code := 3 }] })) ({ code := 3 }) ([]) := by decide

theorem test_ProtectionMessages_6 : (fun (n : Eng) (s : State) (m : ProtMsg) (l : List ProtMsg) => s.hasEng n = true
      ∧ (s.rxOf n).protQ = m :: l
      ∧ 3 < m.code)
      (1) (State.reset.modRx 1 (fun x => { x with protQ := [{ code := 4 }] })) ({ code := 4 }) ([]) := by decide

theorem test_ProtectionMessages_7 : (fun (n : Eng) (s : State) => s.hasEng n = true
      ∧ (s.txOf n).on = true
      ∧ (s.txOf n).protAcked = false
      ∧ (s.txOf n).ackLost = false)
      (1) (State.reset.modTx 1 (fun x => { x with on := true, protAcked := false })) := by decide

theorem test_ProtectionMessages_8 : (fun (n : Eng) (s : State) => s.lpn n = true
      ∧ s.on .LE_STATUS_sig_present n = true
      ∧ s.on .LE_FRM_STATUS_in_frame n = false)
      (1) (smallState [(.LE_PROFILE_prof_active, 1, 5), (.LE_STATUS_sig_present, 1, 1)]) := by decide

theorem test_PerformanceIntervals_1 : (fun (n : Eng) (tod : Nat) (s : State) => s.hasEng n = true
      ∧ s.inService n = true
      ∧ s.pmDue tod = true
      ∧ (s.tim.stepAt.all fun a => decide (todSec / 10 ≤ todElapsed a tod)) = true)
      (1) (65536000000000) (smallState [(.LE_PROFILE_prof_active, 1, 5)]) := by decide

theorem test_PerformanceIntervals_2 : (fun (tod e : Nat) (s : State) => s.on .PERF_PM_SYNC_pm_sync_en = true
      ∧ s.tim.pmEdge = some e
      ∧ todElapsed e tod ≤ todSec * 9 / 10)
      (65536000) (0) ({ smallState [(.PERF_PM_SYNC_pm_sync_en, 0, 1)] with tim := { pmEdge := some 0 } }) := by decide

theorem test_PerformanceIntervals_3 : (fun (tod : Nat) (s : State) => s.on .PERF_PM_SYNC_pm_sync_en = true
      ∧ (s.tim.pmEdge.all fun e => decide (todSec * 9 / 10 < todElapsed e tod)) = true
      ∧ (s.pmDelta tod).natAbs ≤ 50000000)
      (65535000000000) (smallState [(.PERF_PM_SYNC_pm_sync_en, 0, 1)]) := by decide

theorem test_PerformanceIntervals_4 : (fun (tod : Nat) (s : State) => s.on .PERF_PM_SYNC_pm_sync_en = true
      ∧ s.tim.pmEdge = none
      ∧ 50000000 < (s.pmDelta tod).natAbs)
      (20000000000000) (smallState [(.PERF_PM_SYNC_pm_sync_en, 0, 1)]) := by decide

theorem test_ClientFramesIn_1 : (fun (k : TribId) (frame : List Byte) (bad : Bool) (s : State) => s.ethTrib k = true
      ∧ (s.portOf (s.srcPort k)).txLf = false
      ∧ frame ≠ []
      ∧ frame.length ≤ 16383
      ∧ s.ingress (s.srcPort k) < 32768)
      (3) ([1, 2, 3]) (false) (smallState [(.FAB_TRIB_STATUS_active, 3, 1)]) := by decide

theorem test_ClientFramesIn_2 : (fun (k : TribId) (frame : List Byte) (bad : Bool) (s : State) => s.tribOn k = true
      ∧ s.isGmp k = false
      ∧ (s.tribOf k).oz.isSome = true
      ∧ (s.portOf (s.srcPort k)).txLf = false
      ∧ frame ≠ [])
      (3) ([1, 2, 3]) (false) ((smallState [(.FAB_TRIB_STATUS_active, 3, 1)]).modTrib 3 (fun x => { x with oz := some 1 })) := by decide

theorem test_ClientFramesIn_3 : (fun (k : TribId) (frame : List Byte) (bad : Bool) (s : State) => s.ethTrib k = true
      ∧ (s.portOf (s.srcPort k)).txLf = false
      ∧ 16383 < frame.length
      ∧ s.ingress (s.srcPort k) < 32768)
      (3) (List.replicate 16384 0) (false) (smallState [(.FAB_TRIB_STATUS_active, 3, 1)]) := by decide +kernel

theorem test_ClientFramesIn_4 : (fun (k : TribId) (frame : List Byte) (bad : Bool) (s : State) => s.ethTrib k = true
      ∧ (s.portOf (s.srcPort k)).txLf = false
      ∧ frame ≠ []
      ∧ 32768 ≤ s.ingress (s.srcPort k))
      (3) ([1]) (false) ((smallState [(.FAB_TRIB_STATUS_active, 3, 1)]).modTrib 3 (fun x => { x with q := List.replicate 32768 0 })) := by decide +kernel

theorem test_ClientFramesIn_5 : (fun (k : TribId) (os : Option Nat) (s : State) => s.ethTrib k = true
      ∧ (s.portOf (s.srcPort k)).txLf = false)
      (3) (some 1) (smallState [(.FAB_TRIB_STATUS_active, 3, 1)]) := by decide

theorem test_ClientFramesIn_6 : (fun (k : TribId) (v : Nat) (s : State) => s.ethTrib k = true
      ∧ (s.tribOf k).oset = some v)
      (3) (1) ((smallState [(.FAB_TRIB_STATUS_active, 3, 1)]).modTrib 3 (fun x => { x with oset := some 1 })) := by decide

theorem test_ClientFramesIn_7 : (fun (p : PortId) (why : ClientObs) (s : State) => s.typeOf p ≠ 0
      ∧ s.hasPort p = true)
      (5) (.hiber) (smallState [(.CLI_PORT_CFG_type_active, 5, 6)]) := by decide

theorem test_ClientFramesIn_8 : (fun (p : PortId) (s : State) => s.typeOf p ≠ 0
      ∧ s.hasPort p = true)
      (5) ((smallState [(.CLI_PORT_CFG_type_active, 5, 6), (.CLI_PORT_STATUS_rx_hiber, 5, 1)]).modPort 5 (fun x => { x with txLf := true })) := by decide

theorem test_ClientFramesOut_1 : (fun (k : TribId) (b : BlkObs) (s : State) => s.ethTrib k = true
      ∧ s.on .FAB_TRIB_STATUS_sf k = false ∨ s.lineCopy k = true
      ∧ (readHeader b.hdr).isSome = true
      ∧ (s.tribOf k).dlm = .hunt)
      (3) ({ hdr := blkHeader 0 false 0 }) (smallState [(.FAB_TRIB_STATUS_active, 3, 1)]) := by decide

theorem test_ClientFramesOut_2 : (fun (k : TribId) (b : BlkObs) (s : State) => s.ethTrib k = true
      ∧ s.on .FAB_TRIB_STATUS_sf k = false ∨ s.lineCopy k = true
      ∧ (readHeader b.hdr).isSome = true
      ∧ (s.tribOf k).dlm = .presync)
      (3) ({ hdr := blkHeader 0 false 0 }) ((smallState [(.FAB_TRIB_STATUS_active, 3, 1)]).modTrib 3 (fun x => { x with dlm := .presync })) := by decide

theorem test_ClientFramesOut_3 : (fun (k : TribId) (b : BlkObs) (s : State) => s.ethTrib k = true
      ∧ s.on .FAB_TRIB_STATUS_sf k = false ∨ s.lineCopy k = true
      ∧ b.hdr ≠ []
      ∧ readHeader b.hdr = none ∨ b.mark = true
      ∧ (s.tribOf k).dlm = .sync)
      (3) ({ hdr := [0, 0, 0] }) ((smallState [(.FAB_TRIB_STATUS_active, 3, 1), (.FAB_TRIB_STATUS_adapt_ok, 3, 1)]).modTrib 3 (fun x => { x with dlm := .sync })) := by decide

theorem test_ClientFramesOut_4 : (fun (k : TribId) (b : BlkObs) (s : State) => s.ethTrib k = true
      ∧ s.on .FAB_TRIB_STATUS_sf k = false
      ∧ s.lineCopy k = false
      ∧ b.hdr = []
      ∧ (s.tribOf k).dlm = .hunt
      ∧ (readHeader (((s.tribOf k).rxQ.take 3).map (·.1))).isSome = true)
      (3) ({}) ((smallState [(.FAB_TRIB_STATUS_active, 3, 1)]).modTrib 3 (fun x => { x with rxQ := (blkHeader 0 false 0).map (fun y => (y, false)) })) := by decide

theorem test_ClientFramesOut_5 : (fun (k : TribId) (b : BlkObs) (s : State) => s.ethTrib k = true
      ∧ s.on .FAB_TRIB_STATUS_sf k = false
      ∧ s.lineCopy k = false
      ∧ b.hdr = []
      ∧ (s.tribOf k).dlm = .hunt
      ∧ 3 ≤ (s.tribOf k).rxQ.length
      ∧ readHeader (((s.tribOf k).rxQ.take 3).map (·.1)) = none)
      (3) ({}) ((smallState [(.FAB_TRIB_STATUS_active, 3, 1)]).modTrib 3 (fun x => { x with rxQ := [(1, false), (2, false), (3, false)] })) := by decide

theorem test_ClientFramesOut_6 : (fun (k : TribId) (b : BlkObs) (err : Bool) (len : Nat) (s : State) => s.ethTrib k = true
      ∧ s.on .FAB_TRIB_STATUS_sf k = false
      ∧ b.mark = false
      ∧ b.payMark = false
      ∧ b.full = false
      ∧ s.modeNow ≠ 5
      ∧ (s.upMark k).1 = false
      ∧ readHeader b.hdr = some (2, err, len)
      ∧ (s.tribOf k).dlm = .sync
      ∧ (s.tribOf k).frm = []
      ∧ (s.tribOf k).err = false
      ∧ (s.tribOf k).drop = false
      ∧ b.pay.take len ≠ []
      ∧ s.tribTx k = true
      ∧ s.padHeld 1 = false)
      (3) ({ hdr := blkHeader 2 false 2, pay := [1, 2, 3] }) (false) (3) ((smallState [(.FAB_TRIB_STATUS_active, 3, 1), (.CLI_PORT_STATUS_tx_on, 0, 1)]).modTrib 3 (fun x => { x with dlm := .sync })) := by decide

theorem test_ClientFramesOut_7 : (fun (k : TribId) (b : BlkObs) (err : Bool) (len : Nat) (s : State) => s.ethTrib k = true
      ∧ s.on .FAB_TRIB_STATUS_sf k = false
      ∧ b.mark = false
      ∧ (s.upMark k).1 = false
      ∧ readHeader b.hdr = some (3, err, len)
      ∧ (s.tribOf k).dlm = .sync
      ∧ (s.tribOf k).rxOset ≠ some (fromBE (b.pay.take 4))
      ∧ s.tribTx k = true
      ∧ s.modeNow ≠ 5
      ∧ s.padHeld 1 = false)
      (3) ({ hdr := blkHeader 3 false 3, pay := [0, 0, 0, 2] }) (false) (4) ((smallState [(.FAB_TRIB_STATUS_active, 3, 1), (.CLI_PORT_STATUS_tx_on, 0, 1)]).modTrib 3 (fun x => { x with dlm := .sync })) := by decide

theorem test_ClientFramesOut_9 : (fun (k : TribId) (word : Nat) (s : State) => s.tribOn k = true
      ∧ s.isGmp k = true
      ∧ crc8 (bitsHigh 24 (word % 2 ^ 32 / 256)) = word % 256
      ∧ (s.upMark k).1 = false
      ∧ ((s.tribOf k).rxQ.take (min 4 ((s.tribOf k).rxLen.headD 0))).any (·.2) = false)
      (3) (fromBE (gmpWord 9000 5)) (((smallState [(.FAB_TRIB_STATUS_active, 3, 1), (.CLI_PORT_CFG_type_active, 2, 7)]).modTrib 3 (fun x => { x with cfg := { kind := 1, port := 2 }, gmpBad := 3 }))) := by decide

theorem test_ClientFramesOut_10 : (fun (k : TribId) (word : Nat) (s : State) => s.tribOn k = true
      ∧ s.isGmp k = true
      ∧ s.lineCopy k = false
      ∧ s.on .FAB_TRIB_STATUS_sf k = false
      ∧ (s.tribOf k).rxQ.take ((s.tribOf k).rxLen.headD 0) ≠ []
      ∧ s.tribTx k = true
      ∧ s.padHeld 1 = false
      ∧ s.modeNow ≠ 5)
      (3) (fromBE (gmpWord 9000 5)) (((smallState [(.FAB_TRIB_STATUS_active, 3, 1), (.CLI_PORT_CFG_type_active, 2, 7), (.CLI_PORT_STATUS_tx_on, 2, 1)]).modTrib 3 (fun x => { x with cfg := { kind := 1, port := 2 }, cmRx := 2, rxLen := [8], rxQ := [1, 2, 3, 4, 5, 6, 7, 8].map (fun y => (y, false)) }))) := by decide

theorem test_ClientFramesOut_11 : (fun (k : TribId) (word : Nat) (s : State) => s.tribOn k = true
      ∧ s.isGmp k = true
      ∧ (s.tribOf k).gmpBad = 4
      ∧ (s.tribOf k).gmpLoss = false)
      (3) (0) (((smallState [(.FAB_TRIB_STATUS_active, 3, 1), (.CLI_PORT_CFG_type_active, 2, 7), (.FAB_TRIB_STATUS_adapt_ok, 3, 1)]).modTrib 3 (fun x => { x with cfg := { kind := 1, port := 2 }, gmpBad := 4 }))) := by decide

theorem test_ClientFramesOut_12 : (fun (head : PortId) (id r k : Nat) (s : State) => fxRateOk r = true
      ∧ s.activeTribs.find? (fun x => let c := (s.tribOf x).cfg; c.kind == 2 && c.port == head.val && c.fx == id) = some k)
      (4) (7) (25) (3) ((smallState [(.FAB_TRIB_STATUS_active, 3, 1)]).modTrib 3 (fun x => { x with cfg := { kind := 2, port := 4, fx := 7 } })) := by decide

theorem test_ClientFramesOut_13 : (fun (head : PortId) (id r : Nat) (s : State) => fxRateOk r = false)
      (4) (7) (11) ((smallState [(.FAB_TRIB_STATUS_active, 3, 1)]).modTrib 3 (fun x => { x with cfg := { kind := 2, port := 4, fx := 7 } })) := by decide

theorem test_ClientFramesOut_14 : (fun (x : Fin 17) (who : Nat) (s : State) => 1 ≤ x.val ∧ x.val ≤ 7 ∨ x.val = 10
      ∧ s.cntValid (if x.val = 7 then 513 else if x.val = 5 ∨ x.val = 6 then cPort (who % 64) 5 else cEng (who % 4) 21) = true)
      (5) (2) (smallState []) := by decide

theorem test_TributaryGroups_1 : (fun (g : GrpId) (n : Eng) (tag : Nat) (join : Bool) (s : State) => (s.grpMembers true g).contains n = true
      ∧ crc8 (bitsHigh 24 (tag % 2 ^ 32 / 256)) = tag % 256
      ∧ ((SMap.get {} (s.grpOf g).mem n).last.map fun x => (x + 256) % 2 ^ 24) = some (tag % 2 ^ 32 / 256)
      ∧ 1 ≤ (SMap.get {} (s.grpOf g).mem n).good ∨ join = true
      ∧ (s.grpTrib g).all (fun k => !(s.tribOf k).slip && !s.keyMark n k) = true)
      (2) (1) (0x104 * 2 ^ 8 + crc8 (bitsHigh 24 0x104)) (false) (((smallState [(.FAB_TRIB_STATUS_active, 3, 1)]).modTrib 3 (fun x => { x with grp := some 2 })).modRx 1 (fun x => { x with map := { x.map with rate := 8, tab := [(0, { on := true, trib := 3 })] } }) |>.modGrp 2 (fun g => { g with mem := [(1, { last := some 4, good := 1 })] })) := by decide

theorem test_TributaryGroups_2 : (fun (g : GrpId) (n : Eng) (tag : Nat) (join : Bool) (s : State) => (s.grpMembers true g).contains n = true
      ∧ (SMap.get {} (s.grpOf g).mem n).bad = 1
      ∧ (SMap.get {} (s.grpOf g).mem n).ok = true)
      (2) (1) (0) (true) (((smallState [(.FAB_TRIB_STATUS_active, 3, 1)]).modTrib 3 (fun x => { x with grp := some 2 })).modRx 1 (fun x => { x with map := { x.map with rate := 8, tab := [(0, { on := true, trib := 3 })] } }) |>.modGrp 2 (fun g => { g with mem := [(1, { last := some 4, bad := 1, ok := true })] })) := by decide

theorem test_TributaryGroups_3 : (fun (g : GrpId) (bins : Nat) (s : State) => s.fate .host .FAB_GRP_CTRL g = .takes
      ∧ bins < 512
      ∧ bins ≠ s.rd .FAB_GRP_CTRL_bins_req g
      ∧ s.binsErr g bins = 0
      ∧ s.namesAbsent .FAB_GRP_CTRL g (s.fieldWord .FAB_GRP_CTRL_bins_req g bins) = false)
      (2) (8) (smallState [(.SYS_RST_STATUS_boot_ready, 0, 1), (.SYS_MODE_mode, 0, 1), (.FAB_GRP_CTRL_member_mask, 2, 3)]) := by decide

theorem test_TributaryGroups_4 : (fun (g : GrpId) (bins : Nat) (s : State) => s.fate .host .FAB_GRP_CTRL g = .takes
      ∧ bins < 512
      ∧ bins ≠ s.rd .FAB_GRP_CTRL_bins_req g
      ∧ s.binsErr g bins ≠ 0
      ∧ s.namesAbsent .FAB_GRP_CTRL g (s.fieldWord .FAB_GRP_CTRL_bins_req g bins) = false)
      (2) (385) (smallState [(.SYS_RST_STATUS_boot_ready, 0, 1), (.SYS_MODE_mode, 0, 1), (.FAB_GRP_CTRL_member_mask, 2, 3)]) := by decide

theorem test_TributaryGroups_5 : (fun (g : GrpId) (ns : Nat) (s : State) => s.rd .FAB_GRP_STATUS_bins_held g ≠ 0)
      (2) (66) (smallState [(.FAB_GRP_STATUS_bins_held, 2, 8)]) := by decide

theorem test_TributaryGroups_6 : (fun (g : GrpId) (held : Nat) (s : State) => s.grpRoom g (s.grpSize true g) < held
      ∧ s.grpMembers true g ≠ [])
      (2) (1) (((smallState [(.FAB_TRIB_STATUS_active, 3, 1)]).modTrib 3 (fun x => { x with grp := some 2 })).modRx 1 (fun x => { x with map := { x.map with rate := 8, tab := [(0, { on := true, trib := 3 })] } })) := by decide

theorem test_TributaryGroups_7 : (fun (g : GrpId) (s : State) => (s.grpOf g).low = true
      ∧ s.on .FAB_GRP_STATUS_dskew g = true)
      (2) ((smallState [(.FAB_GRP_STATUS_dskew, 2, 1)]).modGrp 2 (fun g => { g with low := true })) := by decide

theorem test_TransmitSuperframes_1 : (fun (n : Eng) (tod : Nat) (s : State) => s.hasEng n = true
      ∧ (s.txOf n).on = true
      ∧ (s.lpn n = true → (s.txOf n).fn = 0 ∧ (s.txOf n).sfm = false)
      ∧ s.mode.tr = none)
      (1) (12345) ((smallState [(.LE_PROFILE_prof_active, 1, 5)]).modTx 1 (fun x => { x with on := true })) := by decide

theorem test_TransmitSuperframes_2 : (fun (n : Eng) (gmp : List GmpMeas) (s : State) => s.hasEng n = true
      ∧ s.lpn n = true
      ∧ (s.txOf n).on = true
      ∧ ((s.txOf n).fn ≠ 0 ∨ (s.txOf n).sfm = true)
      ∧ s.modeNow ≠ 3
      ∧ s.padHeld 0 = false
      ∧ 1 ≤ (s.txOf n).map.rate
      ∧ s.loopback n = 0
      ∧ (s.fecTest n && s.on .LE_TX_CTRL_tx_active n) = false)
      (1) ([]) ((smallState [(.LE_PROFILE_prof_active, 1, 5), (.SYS_MODE_mode, 0, 2)]).modTx 1 (fun x => { x with on := true, fn := 255, lvl := 3, map := { rate := 8 } })) := by decide

theorem test_TransmitSuperframes_3 : (fun (n : Eng) (gmp : List GmpMeas) (f : RegenFrame) (s : State) => s.hasEng n = true
      ∧ s.lpn n = true
      ∧ (s.txOf n).on = true
      ∧ ((s.txOf n).fn ≠ 0 ∨ (s.txOf n).sfm = true)
      ∧ s.modeNow = 3
      ∧ (s.fecTest n && s.on .LE_TX_CTRL_tx_active n) = false
      ∧ (s.txOf n).regenQ.head? = some f)
      (1) ([]) ({ fn := 9, rate := 8 }) ((smallState [(.LE_PROFILE_prof_active, 1, 5), (.SYS_MODE_mode, 0, 3)]).modTx 1 (fun x => { x with on := true, fn := 8, lvl := 3, regenQ := [{ fn := 9, rate := 8 }] })) := by decide

theorem test_TransmitSuperframes_4 : (fun (n : Eng) (gmp : List GmpMeas) (s : State) => s.hasEng n = true
      ∧ s.lpn n = false
      ∧ (s.txOf n).on = true
      ∧ s.padHeld 0 = false
      ∧ s.loopback n = 0)
      (1) ([]) ((smallState [(.LE_PROFILE_prof_active, 1, 1), (.SYS_MODE_mode, 0, 1)]).modTx 1 (fun x => { x with on := true })) := by decide

theorem test_TransmitSuperframes_5 : (fun (n : Eng) (gmp : List GmpMeas) (s : State) => s.hasEng n = true
      ∧ s.lpn n = true
      ∧ s.fecTest n = true
      ∧ s.on .LE_TX_CTRL_tx_active n = true)
      (1) ([]) (smallState [(.LE_PROFILE_prof_active, 1, 5), (.SYS_MODE_mode, 0, 4), (.LE_FEC_CTRL_fec_test, 1, 1), (.LE_TX_CTRL_tx_active, 1, 1)]) := by decide

theorem test_TransmitSuperframes_6 : (fun (n : Eng) (s : State) => s.hasEng n = true
      ∧ s.awake = true
      ∧ (s.txOf n).on = false)
      (1) ((smallState []).modTx 1 (fun x => { x with shadows := [{ what := .rolloff, val := 2, target := some 9 }] })) := by decide

theorem test_TransmitSuperframes_7 : (fun (n : Eng) (g : Nat) (target : Option Nat) (m : Slots) (s : State) => (s.txOf n).on = false
      ∧ (s.txOf n).marker = some (g, target)
      ∧ (s.txOf n).next = some m
      ∧ m.gen = g)
      (1) (7) (none) ({ gen := 7, rate := 6 }) ((smallState []).modTx 1 (fun x => { x with marker := some (7, none), next := some { gen := 7, rate := 6 } })) := by decide

theorem test_TransmitSuperframes_8 : (fun (n : Eng) (g : Nat) (target : Option Nat) (s : State) => (s.txOf n).on = false
      ∧ (s.txOf n).marker = some (g, target)
      ∧ (s.txOf n).next.any (fun m => m.gen == g) = false
      ∧ s.hasEng n = true
      ∧ (s.skOf n).mkRep = [])
      (1) (7) (none) ((smallState []).modTx 1 (fun x => { x with marker := some (7, none) })) := by decide

theorem test_TransmitSuperframes_9 : (fun (n : Eng) (v : Bool) (s : State) => s.hasEng n = true
      ∧ s.fate .host .LE_FEC_CTRL n = .takes
      ∧ (v = true ∨ s.rd .LE_FEC_CTRL_rate_active n = 0))
      (1) (true) (smallState [(.SYS_RST_STATUS_boot_ready, 0, 1), (.SYS_MODE_mode, 0, 4), (.LE_FEC_STATUS_test_sync, 1, 1)]) := by decide

theorem test_PlacementChannel_1 : (fun (n : Eng) (blk : List Byte) (mark : Bool) (s : State) => s.hasChan n = true
      ∧ blk ≠ []
      ∧ blockValid blk mark = false)
      (1) ([1]) (false) (smallState [(.LE_PROFILE_prof_active, 1, 5), (.SYS_MODE_mode, 0, 2)]) := by decide

theorem test_PlacementChannel_2 : (fun (n : Eng) (blk : List Byte) (s : State) => s.hasChan n = true
      ∧ blockValid blk false = true
      ∧ s.mode.tr = none)
      (1) (blockBody 2041 ++ leBytes 4 (crc32 (blockBody 2041))) ((smallState [(.LE_PROFILE_prof_active, 1, 5), (.SYS_MODE_mode, 0, 2)]).modSk 1 (fun k => { k with okRun := 7 })) := ⟨by decide, test_block_valid, by decide⟩

theorem test_PlacementChannel_3 : (fun (n : Eng) (s : State) => s.hasChan n = true
      ∧ s.on .PLACE_ENG_STATUS_chan_up n = true)
      (1) (smallState [(.LE_PROFILE_prof_active, 1, 5), (.SYS_MODE_mode, 0, 2), (.PLACE_ENG_STATUS_chan_up, 1, 1)]) := by decide

theorem test_PlacementChannel_4 : (fun (n : Eng) (m : Slots) (s : State) => (s.rxOf n).loading = some m)
      (1) ({ gen := 9, rate := 8, tab := [(0, { on := true, trib := 3 })] }) ((smallState []).modRx 1 (fun x => { x with loading := some { gen := 9, rate := 8, tab := [(0, { on := true, trib := 3 })] } })) := by decide

theorem test_PlacementSwitch_1 : (fun (n : Eng) (st : MapStage) (m : Slots) (s : State) => s.hasEng n = true
      ∧ s.swState n = 1
      ∧ (s.skOf n).man = some m
      ∧ (s.txOf n).next.map (·.gen) = some m.gen
      ∧ (s.txOf n).next.any (fun x => rateOk (s.prof n) x.rate) = true
      ∧ s.mode.tr = none)
      (1) (.framer) ({ gen := 7 }) (((smallState [(.PLACE_ENG_STATUS_sw_state, 1, 1), (.LE_PROFILE_prof_active, 1, 4)]).modTx 1 (fun x => { x with next := some { gen := 7, rate := 8 } })).modSk 1 (fun k => { k with man := some { gen := 7 } })) := by decide

theorem test_PlacementSwitch_2 : (fun (n : Eng) (st : MapStage) (m : Slots) (s : State) => s.hasEng n = true
      ∧ s.swState n = 1
      ∧ (s.skOf n).man = some m
      ∧ (s.txOf n).next.map (·.gen) = some m.gen
      ∧ (s.txOf n).next.any (fun x => rateOk (s.prof n) x.rate) = true
      ∧ allStages (st :: (s.skOf n).loaded) = true
      ∧ (s.skOf n).farReady = 0x8000 + m.gen
      ∧ s.modeNow = 2
      ∧ s.mode.tr = none
      ∧ (s.skOf n).markerOut = false
      ∧ s.mirroring = false)
      (1) (.cipher) ({ gen := 7 }) (((smallState [(.PLACE_ENG_STATUS_sw_state, 1, 1), (.SYS_MODE_mode, 0, 2), (.LE_PROFILE_prof_active, 1, 4)]).modTx 1 (fun x => { x with next := some { gen := 7, rate := 8 } })).modSk 1 (fun k => { k with man := some { gen := 7 }, farReady := 0x8007, loaded := [.mapper, .fabric, .framer] })) := by decide

theorem test_PlacementSwitch_3 : (fun (n : Eng) (st : MapStage) (s : State) => s.hasEng n = true
      ∧ s.swState n = 1)
      (1) (.mapper) (((smallState [(.PLACE_ENG_STATUS_sw_state, 1, 1)]).modTx 1 (fun x => { x with next := some { gen := 7 } })).modSk 1 (fun k => { k with man := some { gen := 7 } })) := by decide

theorem test_PlacementSwitch_4 : (fun (n : Eng) (st : MapStage) (s : State) => s.hasEng n = true
      ∧ s.swState n = 1
      ∧ (s.txOf n).next.map (·.gen) = (s.skOf n).man.map (·.gen)
      ∧ (s.txOf n).next.any (fun x => rateOk (s.prof n) x.rate) = false)
      (1) (.mapper) ((smallState [(.PLACE_ENG_STATUS_sw_state, 1, 1)]).modTx 1 (fun x => { x with next := some { gen := 0, rate := 30 } })|>.modSk 1 (fun k => { k with man := some { gen := 0 } })) := by decide

theorem test_PlacementSwitch_5 : (fun (n : Eng) (st : MapStage) (m : Slots) (s : State) => s.hasEng n = true
      ∧ s.swState n = 2
      ∧ (s.skOf n).man = some m
      ∧ (s.txOf n).map.gen = (s.skOf n).mkGen
      ∧ s.mkAwaits n st = true
      ∧ (s.txOf n).marker = none
      ∧ (s.skOf n).mkCnt = false
      ∧ s.mode.tr = none)
      (1) (.mapper) ({ gen := 7 }) (((smallState [(.PLACE_ENG_STATUS_sw_state, 1, 2)]).modTx 1 (fun x => { x with map := { gen := 7 } })).modSk 1 (fun k => { k with man := some { gen := 7 }, markerOut := true, mkGen := 7, farDone := some 7, applied := [.cipher, .fabric, .framer] })) := by decide

theorem test_PlacementSwitch_6 : (fun (n : Eng) (st : MapStage) (s : State) => s.hasEng n = true
      ∧ s.swState n = 2
      ∧ s.modeNow ≠ 5
      ∧ s.mkAwaits n st = true)
      (1) (.mapper) ((smallState [(.PLACE_ENG_STATUS_sw_state, 1, 2), (.SYS_MODE_mode, 0, 2)]).modSk 1 (fun k => { k with markerOut := true })) := by decide

theorem test_PlacementSwitch_7 : (fun (n : Eng) (s : State) => s.hasEng n = true
      ∧ s.lpn n = true
      ∧ s.swState n = 0
      ∧ s.pinned n = false
      ∧ (s.skOf n).resync = true
      ∧ s.modeNow = 2)
      (1) (((smallState [(.LE_PROFILE_prof_active, 1, 5), (.SYS_MODE_mode, 0, 2), (.PLACE_ENG_STATUS_chan_up, 1, 1), (.LE_FRM_STATUS_fmt_tx, 1, 3)])).modSk 1 (fun k => { k with resync := true })) := by decide

theorem test_PlacementSwitch_8 : (fun (n : Eng) (m : Slots) (work : Nat) (s : State) => s.hasEng n = true
      ∧ s.lpn n = true
      ∧ s.swState n = 0
      ∧ s.pinned n = false
      ∧ (s.skOf n).resync = false
      ∧ s.modeNow = 2
      ∧ s.mode.tr = none
      ∧ s.placePass.2 = [(n.val, m, work)])
      (1) ({ rate := 9 }) (2) (((smallState [(.LE_PROFILE_prof_active, 1, 5), (.SYS_MODE_mode, 0, 2), (.PLACE_ENG_STATUS_chan_up, 1, 1), (.LE_FRM_STATUS_fmt_tx, 1, 3)]).modTx 1 (fun x => { x with map := { rate := 8 } })).modSk 1 (fun k => { k with want := 1 })) := by decide +kernel

theorem test_PlacementSwitch_9 : (fun (n : Eng) (c : Instr) (s : State) => s.hasEng n = true
      ∧ (s.swState n = 1 ∧ c = .swReadyTimeout n ∨ s.swState n = 2 ∧ c = .swSwitchTimeout n))
      (1) (.swReadyTimeout 1) ((smallState [(.PLACE_ENG_STATUS_sw_state, 1, 1)]).modSk 1 (fun k => { k with man := some { gen := 7 } })) := by decide

theorem test_PairLinkState_1 : (fun (s : State) => s.role ≠ 2)
      (smallState [(.PAIR_STATUS_peer_alive, 0, 1)]) := by decide

theorem test_PairLinkState_2 : (fun (s : State) => s.role = 2
      ∧ s.on .PAIR_STATUS_peer_alive = true
      ∧ s.pair.dying = false)
      ((smallState [(.PAIR_STATUS_peer_alive, 0, 1), (.SYS_MODE_mode, 0, 5), (.SYS_MODE_role, 0, 2)]).modPair (fun p => { p with hbLost := true })) := by decide

theorem test_PairLinkState_5 : (fun (k : LaneId) (s : State) => s.linkState ≠ 0
      ∧ (s.rd .PAIR_CTRL_lane_en).testBit k = true)
      (3) (smallState [(.PAIR_STATUS_link_state, 0, 1), (.PAIR_CTRL_lane_en, 0, 255)]) := by decide

theorem test_PairLinkState_6 : (fun (s : State) => s.fate .host .PAIR_CTRL 0 = .takes
      ∧ s.linkState = 0)
      (smallState [(.SYS_RST_STATUS_boot_ready, 0, 1)]) := by decide

theorem test_PairLinkState_7 : (fun (s : State) => s.fate .host .PAIR_CTRL 0 = .takes)
      (smallState [(.SYS_RST_STATUS_boot_ready, 0, 1), (.PAIR_STATUS_link_state, 0, 2), (.PAIR_CTRL_pair_en, 0, 1)]) := by decide

theorem test_PairLinkState_8 : (fun (s : State) => s.linkState ≠ 0
      ∧ s.awake = true
      ∧ s.padHeld 2 = false)
      (smallState [(.PAIR_STATUS_link_state, 0, 1), (.PAIR_CTRL_lane_en, 0, 255), (.PAIR_STATUS_lanes_up, 0, 5)]) := by decide

theorem test_PairLinkState_9 : (fun (cell : List Byte) (id : PeerId) (s : State) => s.linkState ≠ 0
      ∧ cellOk 1 cell = true)
      (mkCell 1 [0x10, 0, 5, 1, 3, 1]) ({ devid := 9 }) ((smallState [(.PAIR_STATUS_link_state, 0, 1), (.PAIR_LEVEL_fl_run, 0, 2)]).modPair (fun p => { p with hbLost := true, hbRun := 3, peer := { seen := true, seq := 4 } })) := by decide +kernel

theorem test_PairLinkState_10 : (fun (cell : List Byte) (id : PeerId) (s : State) => s.linkState = 1
      ∧ cellOk 1 cell = true
      ∧ s.pair.hbLost = true
      ∧ s.pair.hbRun = 3
      ∧ s.pair.peer.seen = true
      ∧ cellField cell 2 2 = (s.pair.peer.seq + 1) % 65536
      ∧ cellField cell 2 2 ≠ s.pair.peer.seq
      ∧ byteAt cell 4 ≠ s.partCode)
      (mkCell 1 [0x10, 0, 5, 2, 3, 1]) ({ devid := 9 }) ((smallState [(.PAIR_STATUS_link_state, 0, 1), (.PAIR_LEVEL_fl_run, 0, 2)]).modPair (fun p => { p with hbLost := true, hbRun := 3, peer := { seen := true, seq := 4 } })) := by decide +kernel

theorem test_PairLinkState_11 : (fun (cell : List Byte) (id : PeerId) (s : State) => s.linkState = 1
      ∧ cellOk 1 cell = true
      ∧ s.pair.hbLost = true
      ∧ s.pair.hbRun = 3
      ∧ s.pair.peer.seen = true
      ∧ cellField cell 2 2 = (s.pair.peer.seq + 1) % 65536
      ∧ cellField cell 2 2 ≠ s.pair.peer.seq
      ∧ byteAt cell 4 = s.partCode
      ∧ min (s.rd .PAIR_LEVEL_fl_run) (byteAt cell 5) < s.rd .PAIR_LEVEL_fl_floor
      ∨ min (s.rd .PAIR_LEVEL_fl_run) (byteAt cell 5) < byteAt cell 6)
      (mkCell 1 [0x10, 0, 5, 1, 3, 3]) ({ devid := 9 }) ((smallState [(.PAIR_STATUS_link_state, 0, 1), (.PAIR_LEVEL_fl_run, 0, 2)]).modPair (fun p => { p with hbLost := true, hbRun := 3, peer := { seen := true, seq := 4 } })) := by decide +kernel

theorem test_PairLinkState_12 : (fun (s : State) => s.linkState = 2
      ∧ s.pair.hbLost = false)
      ((smallState [(.PAIR_STATUS_link_state, 0, 2), (.PAIR_LEVEL_fl_agreed, 0, 2)]).modPair (fun p => { p with hbLost := false })) := by decide

theorem test_PairLinkState_13 : (fun (cell : List Byte) (unc : Bool) (s : State) => unc = true ∨ (∀ k : Fin 9, cellOk k cell = false) ∨ byteAt cell 0 = 4 ∧ 4 < byteAt cell 3)
      ([1, 2, 3]) (false) (smallState []) := by decide

theorem test_MirrorAndImage_1 : (fun (m : MirCell) (val : Nat) (s : State) => s.modeNow = 5
      ∧ s.linkState ≠ 0
      ∧ cellOk 2 m.bytes = true
      ∧ s.pair.loaded = true
      ∧ s.pair.mirHeld = []
      ∧ s.pair.mirBuf = []
      ∧ cellField m.bytes 1 4 = (s.pair.mirIn + 1) % 2 ^ 32
      ∧ slice m.bytes 10 28 = padTo 28 (changeRec 1 (beBytes 4 (Rg.PLACE_GUARD.addr 0) ++ beBytes 4 val)))
      ({ bytes := mkCell 2 (beBytes 4 5 ++ [0xFF] ++ beBytes 4 0 ++ changeRec 1 (beBytes 4 (Rg.PLACE_GUARD.addr 0) ++ beBytes 4 0x123456)) }) (0x123456) ((smallState [(.SYS_MODE_mode, 0, 5), (.PAIR_STATUS_link_state, 0, 2)]).modPair (fun p => { p with loaded := true, mirIn := 4 })) := by decide +kernel

theorem test_MirrorAndImage_2 : (fun (m : MirCell) (i : TribId) (g val : Nat) (s : State) => s.modeNow = 5
      ∧ s.linkState ≠ 0
      ∧ cellOk 2 m.bytes = true
      ∧ s.pair.loaded = true
      ∧ s.pair.mirHeld = []
      ∧ s.pair.mirBuf = []
      ∧ cellField m.bytes 1 4 = (s.pair.mirIn + 1) % 2 ^ 32
      ∧ cellField m.bytes 6 4 = 0
      ∧ slice m.bytes 10 28 = padTo 28 (changeRec 1 (beBytes 4 (Rg.PLACE_TRIB_POL.addr i) ++ beBytes 4 val))
      ∧ m.gens = [(i.val, g)]
      ∧ g ≠ s.rd .FAB_TRIB_STATUS_trib_gen i)
      ({ bytes := mkCell 2 (beBytes 4 5 ++ [0xFF] ++ beBytes 4 0 ++ changeRec 1 (beBytes 4 (Rg.PLACE_TRIB_POL.addr 9) ++ beBytes 4 0x123456)), gens := [(9, 3)] }) (9) (3) (0x123456) ((smallState [(.SYS_MODE_mode, 0, 5), (.PAIR_STATUS_link_state, 0, 2), (.FAB_TRIB_STATUS_trib_gen, 9, 4)]).modPair (fun p => { p with loaded := true, mirIn := 4 })) := by decide +kernel

theorem test_MirrorAndImage_3 : (fun (m : MirCell) (s : State) => s.modeNow = 5
      ∧ s.linkState ≠ 0
      ∧ cellOk 2 m.bytes = true
      ∧ serLater (cellField m.bytes 1 4) s.pair.mirIn = true
      ∧ cellField m.bytes 1 4 ≠ (s.pair.mirIn + 1) % 2 ^ 32)
      ({ bytes := mkCell 2 (beBytes 4 6) }) ((smallState [(.SYS_MODE_mode, 0, 5), (.PAIR_STATUS_link_state, 0, 2)]).modPair (fun p => { p with loaded := true, mirIn := 4 })) := by decide +kernel

theorem test_MirrorAndImage_4 : (fun (m : MirCell) (s : State) => s.modeNow = 5
      ∧ s.linkState ≠ 0
      ∧ cellOk 2 m.bytes = true
      ∧ serLater (cellField m.bytes 1 4) s.pair.mirIn = false)
      ({ bytes := mkCell 2 (beBytes 4 3) }) ((smallState [(.SYS_MODE_mode, 0, 5), (.PAIR_STATUS_link_state, 0, 2), (.PAIR_STATUS_lanes_up, 0, 4)]).modPair (fun p => { p with loaded := true, mirIn := 4 })) := by decide +kernel

theorem test_MirrorAndImage_5 : (fun (cell : List Byte) (s : State) => s.role = 1
      ∧ s.linkUp = true
      ∧ cellOk 3 cell = true
      ∧ (∀ n : Eng, s.swState n ≠ 1)
      ∧ (∀ m ∈ s.pair.mirOut, cellField m.cell 6 4 = 0))
      (mkCell 3 (beBytes 4 7 ++ beBytes 4 9)) ((smallState [(.SYS_MODE_mode, 0, 1), (.SYS_MODE_role, 0, 1), (.PAIR_STATUS_link_state, 0, 2)]).modPair (fun p => { p with mirOut := [{ seq := 7 }, { seq := 8 }, { seq := 9 }] })) := by decide +kernel

theorem test_MirrorAndImage_6 : (fun (cell : List Byte) (m : MirOut) (s : State) => s.mirroring = true
      ∧ cellOk 3 cell = true
      ∧ m ∈ s.pair.mirOut
      ∧ m.got = false
      ∧ m.seq = cellField cell 5 4
      ∧ cellField m.cell 6 4 ≠ 0
      ∧ s.hasEng (byteAt m.cell 5) = true
      ∧ dueAt (s.txOf (byteAt m.cell 5)).psc (some (cellField m.cell 6 4)) = true)
      (mkCell 3 (beBytes 4 6 ++ beBytes 4 7)) ({ seq := 7, cell := mkCell 2 ([0, 0, 0, 7, 1] ++ beBytes 4 5) }) ((smallState [(.SYS_MODE_mode, 0, 1), (.SYS_MODE_role, 0, 1), (.PAIR_STATUS_link_state, 0, 2)]).modPair (fun p => { p with peer := { mode := 5 }, mirOut := [{ seq := 7, cell := mkCell 2 ([0, 0, 0, 7, 1] ++ beBytes 4 5) }] }) |>.modTx 1 (fun x => { x with psc := 6 })) := by decide +kernel

theorem test_MirrorAndImage_7 : (fun (seq : Nat) (m : MirOut) (s : State) => s.pair.mirOut.find? (fun m => m.seq == seq) = some m
      ∧ m.got = false
      ∧ s.mirroring = true)
      (7) ({ seq := 7, sends := 3 }) ((smallState [(.SYS_MODE_mode, 0, 1), (.SYS_MODE_role, 0, 1), (.PAIR_STATUS_link_state, 0, 2)]).modPair (fun p => { p with peer := { mode := 5 }, mirOut := [{ seq := 7, sends := 3 }, { seq := 8 }] })) := by decide

theorem test_MirrorAndImage_8 : (fun (m : MirCell) (i : TribId) (s : State) => s.modeNow = 5
      ∧ s.linkState ≠ 0
      ∧ cellOk 8 m.bytes = true
      ∧ cellField m.bytes 5 4 = 0
      ∧ cellField m.bytes 9 4 ≠ 0)
      ({ bytes := mkCell 8 (beBytes 4 70 ++ beBytes 4 0 ++ beBytes 4 3 ++ [1, 2, 3]), gens := [(9, 3)] }) (9) ((smallState [(.SYS_MODE_mode, 0, 5), (.PAIR_STATUS_link_state, 0, 2), (.PAIR_STATUS_ready, 0, 1), (.PLACE_GUARD_ber_guard, 0, 9)]).modPair (fun p => { p with loaded := true })) := by decide +kernel

theorem test_MirrorAndImage_9 : (fun (m : MirCell) (s : State) => s.modeNow = 5
      ∧ s.linkState ≠ 0
      ∧ cellOk 8 m.bytes = true
      ∧ cellField m.bytes 5 4 ≠ 0
      ∧ cellField m.bytes 5 4 = s.pair.bulkNext
      ∧ cellField m.bytes 1 4 = s.pair.bulkBase)
      ({ bytes := mkCell 8 (beBytes 4 70 ++ beBytes 4 3 ++ beBytes 4 3) }) ((smallState [(.SYS_MODE_mode, 0, 5), (.PAIR_STATUS_link_state, 0, 2)]).modPair (fun p => { p with bulkBase := 70, bulkNext := 3, bulkRx := List.replicate 75 0 })) := by decide +kernel

theorem test_MirrorAndImage_10 : (fun (tod : Nat) (s : State) => s.linkUp = true
      ∧ s.awake = true)
      (5 * 65536 + 777) (smallState [(.PAIR_STATUS_link_state, 0, 2), (.PAIR_STATUS_lanes_up, 0, 4)]) := by decide

theorem test_MirrorAndImage_11 : (fun (cell : List Byte) (tod : Nat) (s : State) => s.linkUp = true
      ∧ cellOk 6 cell = true)
      (mkCell 6 (List.replicate 10 0 ++ [0, 7] ++ List.replicate 12 0 ++ [2])) (5 * 65536 + 777) (smallState [(.PAIR_STATUS_link_state, 0, 2), (.TIM_DPLL0_STATUS_d0_state, 0, 5)]) := by decide +kernel

theorem test_SwitchCommands_1 : (fun (cell : List Byte) (req : Fin 2) (s : State) => s.linkState ≠ 0
      ∧ cellOk 4 cell = true
      ∧ byteAt cell 3 = req.val
      ∧ s.role = 1
      ∧ s.pair.cmdIn ≠ some (cellField cell 1 2))
      (mkCell 4 (beBytes 2 7 ++ [0])) (0) (smallState [(.SYS_MODE_mode, 0, 1), (.SYS_MODE_role, 0, 1), (.PAIR_STATUS_link_state, 0, 2), (.PAIR_STATUS_lockout, 0, 1)]) := by decide +kernel

theorem test_SwitchCommands_2 : (fun (cell : List Byte) (c : Instr) (s : State) => s.linkState ≠ 0
      ∧ cellOk 4 cell = true
      ∧ s.role = 2
      ∧ (c = .cmdForce cell ∧ byteAt cell 3 = 2 ∧ (byteAt cell 7).testBit 0 = false
      ∨ c = .cmdManual cell ∧ byteAt cell 3 = 3 ∧ (byteAt cell 7).testBit 0 = false
      ∨ c = .cmdRelinquish cell ∧ byteAt cell 3 = 4)
      ∧ s.pair.cmdIn ≠ some (cellField cell 1 2))
      (mkCell 4 (beBytes 2 7 ++ [3])) (.cmdManual (mkCell 4 (beBytes 2 7 ++ [3]))) ((smallState [(.SYS_MODE_mode, 0, 5), (.SYS_MODE_role, 0, 2), (.PAIR_STATUS_link_state, 0, 2)]).modPair (fun p => { p with mirMode := 2 })) := by decide +kernel

theorem test_SwitchCommands_3 : (fun (cell : List Byte) (force : Bool) (s : State) => s.linkState ≠ 0
      ∧ cellOk 4 cell = true
      ∧ s.role = 1
      ∧ byteAt cell 3 = (if force then 2 else 3)
      ∧ (byteAt cell 7).testBit 0 = true
      ∧ s.switchErr (if force then 2 else 3) = 0
      ∧ s.pair.cmdIn ≠ some (cellField cell 1 2))
      (mkCell 4 (beBytes 2 7 ++ [2, 0, 0, 9, 1])) (true) ((smallState [(.SYS_MODE_mode, 0, 1), (.SYS_MODE_role, 0, 1), (.PAIR_STATUS_link_state, 0, 2)]).modPair (fun p => { p with peer := { mode := 5 } })) := by decide +kernel

theorem test_SwitchCommands_4 : (fun (cell : List Byte) (c : Instr) (s : State) => s.linkState ≠ 0
      ∧ cellOk 4 cell = true
      ∧ s.role ≠ 2
      ∧ (c = .cmdForce cell ∧ byteAt cell 3 = 2 ∧ (byteAt cell 7).testBit 0 = false
      ∨ c = .cmdManual cell ∧ byteAt cell 3 = 3 ∧ (byteAt cell 7).testBit 0 = false
      ∨ c = .cmdRelinquish cell ∧ byteAt cell 3 = 4)
      ∧ s.pair.cmdIn ≠ some (cellField cell 1 2))
      (mkCell 4 (beBytes 2 7 ++ [4])) (.cmdRelinquish (mkCell 4 (beBytes 2 7 ++ [4]))) (smallState [(.SYS_MODE_mode, 0, 1), (.SYS_MODE_role, 0, 1), (.PAIR_STATUS_link_state, 0, 2)]) := by decide +kernel

theorem test_SwitchCommands_5 : (fun (cell : List Byte) (c : Instr) (s : State) => s.linkState ≠ 0
      ∧ cellOk 4 cell = true
      ∧ (c = .cmdClear cell ∧ byteAt cell 3 = 0 ∨ c = .cmdLockout cell ∧ byteAt cell 3 = 1
      ∨ c = .cmdForce cell ∧ byteAt cell 3 = 2 ∨ c = .cmdManual cell ∧ byteAt cell 3 = 3
      ∨ c = .cmdRelinquish cell ∧ byteAt cell 3 = 4)
      ∧ s.pair.cmdIn = some (cellField cell 1 2))
      (mkCell 4 (beBytes 2 7 ++ [1])) (.cmdLockout (mkCell 4 (beBytes 2 7 ++ [1]))) ((smallState [(.SYS_MODE_mode, 0, 5), (.SYS_MODE_role, 0, 1), (.PAIR_STATUS_link_state, 0, 2), (.PAIR_STATUS_lanes_up, 0, 4)]).modPair (fun p => { p with cmdIn := some 7 })) := by decide +kernel

theorem test_SwitchCommands_6 : (fun (cell : List Byte) (o : CmdOut) (s : State) => s.pair.cmdOut = some o
      ∧ s.linkState ≠ 0
      ∧ cellOk 5 cell = true
      ∧ cellField cell 1 2 = cellField o.cell 1 2)
      (mkCell 5 (beBytes 2 7 ++ [3])) ({ cell := mkCell 4 (beBytes 2 7), d := some { sq := 4 } }) ((smallState [(.PAIR_STATUS_link_state, 0, 2)]).modPair (fun p => { p with cmdOut := some { cell := mkCell 4 (beBytes 2 7), d := some { sq := 4 } } })) := by decide +kernel

theorem test_SwitchCommands_7 : (fun (o : CmdOut) (s : State) => s.pair.cmdOut = some o)
      ({ cell := mkCell 4 (beBytes 2 7), sends := 8, d := some { sq := 4 } }) ((smallState [(.PAIR_STATUS_link_state, 0, 2)]).modPair (fun p => { p with cmdOut := some { cell := mkCell 4 (beBytes 2 7), sends := 8, d := some { sq := 4 } } })) := by decide +kernel

theorem test_SwitchCommands_8 : (fun (cell : List Byte) (s : State) => s.linkState ≠ 0
      ∧ cellOk 7 cell = true
      ∧ s.role = 2
      ∧ (cellField cell 3 2 + 65536 - s.pair.peer.seq) % 65536 ≤ 8)
      (mkCell 7 [0, 0, 0, 5]) ((smallState [(.SYS_MODE_mode, 0, 5), (.SYS_MODE_role, 0, 2), (.PAIR_STATUS_link_state, 0, 2)]).modPair (fun p => { p with peer := { seq := 3, mode := 1 } })) := by decide +kernel

theorem test_SwitchCommands_9 : (fun (why : YieldObs) (s : State) => s.role = 1
      ∧ s.linkUp = true
      ∧ s.localOnly why = true)
      (.port 3) ((smallState [(.SYS_MODE_mode, 0, 1), (.SYS_MODE_role, 0, 1), (.PAIR_STATUS_link_state, 0, 2), (.PAIR_STATUS_ready, 0, 1), (.CLI_PORT_CFG_type_active, 3, 1)]).modPair (fun p => { p with peer := { portOk := 8 } })) := by decide

theorem test_SwitchCommands_10 : (fun (why : YieldObs) (s : State) => s.role ≠ 1
      ∧ s.linkUp = true
      ∧ s.localOnly why = true)
      (.port 3) ((smallState [(.SYS_MODE_mode, 0, 5), (.SYS_MODE_role, 0, 2), (.PAIR_STATUS_link_state, 0, 2), (.PAIR_STATUS_ready, 0, 1), (.CLI_PORT_CFG_type_active, 3, 1)]).modPair (fun p => { p with peer := { portOk := 8 } })) := by decide

theorem test_SwitchDescriptors_1 : (fun (r : RingId) (d : Desc) (s : State) => s.headDesc r 2 = some d
      ∧ fieldOf d.param0 4 12 = 0
      ∧ s.mode.swMem.find? (fun m => m.tag == fieldOf d.param0 16 16) = none
      ∧ s.linkUp = false ∨ s.role = 0
      ∧ d.param0 % 16 ≤ 3)
      (4) ({ sq := 4, opcode := 2, param0 := 1 }) (smallState [(.HOST_RCTX_CFG_class, 4, 2)] |>.modRing 4 (fun q => { q with fetched := [{ sq := 4, opcode := 2, param0 := 1 }] })) := by decide

theorem test_SwitchDescriptors_2 : (fun (r : RingId) (req : Fin 2) (d : Desc) (s : State) => s.headDesc r 2 = some d
      ∧ d.param0 % 16 = req.val
      ∧ fieldOf d.param0 4 12 = 0
      ∧ s.mode.swMem.find? (fun m => m.tag == fieldOf d.param0 16 16) = none
      ∧ s.linkUp = true
      ∧ s.role = 1)
      (4) (1) ({ sq := 4, opcode := 2, param0 := 1 }) ((smallState [(.HOST_RCTX_CFG_class, 4, 2), (.SYS_MODE_mode, 0, 1), (.SYS_MODE_role, 0, 1), (.PAIR_STATUS_link_state, 0, 2)]) |>.modRing 4 (fun q => { q with fetched := [{ sq := 4, opcode := 2, param0 := 1 }] })) := by decide

theorem test_SwitchDescriptors_3 : (fun (r : RingId) (force : Bool) (d : Desc) (s : State) => s.headDesc r 2 = some d
      ∧ d.param0 % 16 = (if force then 2 else 3)
      ∧ fieldOf d.param0 4 12 = 0
      ∧ s.mode.swMem.find? (fun m => m.tag == fieldOf d.param0 16 16) = none
      ∧ s.linkUp = true
      ∧ s.role = 1
      ∧ s.switchErr (if force then 2 else 3) = 0)
      (4) (true) ({ sq := 4, opcode := 2, param0 := 2 }) ((smallState [(.HOST_RCTX_CFG_class, 4, 2), (.SYS_MODE_mode, 0, 1), (.SYS_MODE_role, 0, 1), (.PAIR_STATUS_link_state, 0, 2)]).modPair (fun p => { p with peer := { mode := 5 } }) |>.modRing 4 (fun q => { q with fetched := [{ sq := 4, opcode := 2, param0 := 2 }] })) := by decide

theorem test_SwitchDescriptors_4 : (fun (r : RingId) (req : Fin 4) (d : Desc) (s : State) => s.headDesc r 2 = some d
      ∧ d.param0 % 16 = req.val
      ∧ fieldOf d.param0 4 12 = 0
      ∧ s.mode.swMem.find? (fun m => m.tag == fieldOf d.param0 16 16) = none
      ∧ s.linkUp = true
      ∧ s.role = 2
      ∧ s.pair.cmdOut = none)
      (4) (2) ({ sq := 4, opcode := 2, param0 := 2 }) ((smallState [(.HOST_RCTX_CFG_class, 4, 2), (.SYS_MODE_mode, 0, 5), (.SYS_MODE_role, 0, 2), (.PAIR_STATUS_link_state, 0, 2)]) |>.modRing 4 (fun q => { q with fetched := [{ sq := 4, opcode := 2, param0 := 2 }] })) := by decide

theorem test_SwitchDescriptors_5 : (fun (r : RingId) (d : Desc) (s : State) => s.headDesc r 2 = some d
      ∧ 3 < d.param0 % 16
      ∧ s.mode.swMem.find? (fun m => m.tag == fieldOf d.param0 16 16) = none)
      (4) ({ sq := 4, opcode := 2, param0 := 9 }) ((smallState [(.HOST_RCTX_CFG_class, 4, 2)]) |>.modRing 4 (fun q => { q with fetched := [{ sq := 4, opcode := 2, param0 := 9 }] })) := by decide

theorem test_SwitchDescriptors_6 : (fun (k : BridgeId) (copy : CopyObs) (s : State) => copy.sf = false
      ∧ s.role = 1
      ∧ s.linkUp = true
      ∧ s.on .PAIR_BRIDGE_admitted k = true
      ∧ s.on .PAIR_BRIDGE_selected k = false
      ∧ s.bridgeFailed k = true)
      (3) ({}) (smallState [(.SYS_MODE_role, 0, 1), (.PAIR_STATUS_link_state, 0, 2), (.PAIR_BRIDGE_admitted, 3, 1)]) := by decide

theorem test_SwitchDescriptors_7 : (fun (k : BridgeId) (s : State) => s.role = 1
      ∧ s.on .PAIR_BRIDGE_selected k = true
      ∧ s.bridgeFailed k = false)
      (3) (smallState [(.SYS_MODE_role, 0, 1), (.PAIR_BRIDGE_selected, 3, 1), (.CLI_PORT_STATUS_rx_lock, 0, 1)]) := by decide

theorem test_SwitchDescriptors_8 : (fun (n : Eng) (df : Int) (s : State) => s.modeNow = 5
      ∧ s.awake = true
      ∧ s.hasEng n = true
      ∧ s.inService n = true
      ∧ s.dfNow n = some df)
      (1) (30) ((smallState [(.SYS_MODE_mode, 0, 5), (.LE_PROFILE_prof_active, 1, 5), (.LE_FO_EST_fo_valid, 1, 1), (.PAIR_STATUS_link_state, 0, 2)]).wrInt .LE_FO_EST_fo_est 1 30 |>.modPair (fun p => { p with peer := { engOk := 2 } })) := by decide

theorem test_TimeOfDay_1 : (fun (s : State) => s.padHeld 3 = false
      ∧ s.on .SYS_RST_STATUS_boot_ready = true)
      (smallState [(.SYS_RST_STATUS_boot_ready, 0, 1)]) := by decide

theorem test_TimeOfDay_2 : (fun (hi : Nat) (s : State) => s.fate .host .TIM_TOD_SEC_HI 0 = .takes)
      (5) (smallState [(.SYS_RST_STATUS_boot_ready, 0, 1), (.TIM_TOD_SEC_LO_sec_lo, 0, 77)]) := by decide

theorem test_TimeOfDay_3 : (fun (i : Fin 2) (tod : Nat) (s : State) => s.on .TIM_REF_CFG_pps_en i = true)
      (1) (65536000) (smallState [(.TIM_REF_CFG_pps_en, 1, 1)]) := by decide

theorem test_TimeOfDay_4 : (fun (e : Int) (s : State) => s.timeSrc ≠ 15
      ∧ s.d0 ≠ 4
      ∧ s.d0 ≠ 5
      ∧ s.tim.discard = false
      ∧ 10 * max 1 (s.rd .TIM_DPLL0_CTRL_step_thr) * 65536 < e.natAbs
      ∧ s.tim.tod < todMod)
      (1000000000 * 65536) (smallState [(.TIM_DPLL0_STATUS_time_src, 0, 1)]) := by decide

theorem test_TimeOfDay_5 : (fun (rq : Requester) (v : Bool) (s : State) => s.fate rq .TIM_DPLL0_CTRL 0 = .takes
      ∧ s.rd .TIM_DPLL0_CTRL_loop_open ≠ b2n v)
      (.ctl) (true) (smallState []) := by decide

theorem test_TimeOfDay_6 : (fun (k : Fin 5) (ps : Int) (s : State) => s.fate .host .TIM_DPLL_PSTEP k = .takes
      ∧ -2 ^ 31 ≤ ps
      ∧ ps < 2 ^ 31)
      (2) (-5) (smallState [(.SYS_RST_STATUS_boot_ready, 0, 1)]) := by decide

theorem test_TimingReferences_1 : (fun (i : RefId) (why : RefFault) (s : State) => s.hasRef i = true
      ∧ s.qualRefresh.faultHolds i why = true)
      (0) (.activity) (smallState [(.TIM_REF_STATUS_qualified, 0, 1), (.TIM_REF_CFG_prio, 0, 1), (.TIM_DPLL0_STATUS_freq_src, 0, 0)]) := by decide

theorem test_TimingReferences_2 : (fun (i : RefId) (ppb : Int) (secs : Nat) (s : State) => s.hasRef i = true
      ∧ s.on .TIM_REF_STATUS_qualified i = false
      ∧ s.qualRefresh.refNoQual i = false
      ∧ s.refInactive i = false
      ∧ (i.val < 10 → ppb.natAbs ≤ 10000)
      ∧ (if (s.refOf i).ever then s.rd .TIM_SEL_CTRL_wtr else 10) ≤ secs)
      (0) (5) (10) (smallState [(.TIM_REF_CFG_prio, 0, 1), (.TIM_REF_CFG_qual_sw, 0, 1), (.TIM_REF_CFG_freq_code, 0, 1)]) := by decide

theorem test_TimingReferences_3 : (fun (i : RefId) (ppb : Int) (secs : Nat) (s : State) => s.hasRef i = true
      ∧ s.on .TIM_REF_STATUS_qualified i = false
      ∧ s.qualRefresh.refNoQual i = false
      ∧ s.refInactive i = false
      ∧ (i.val < 10 → ppb.natAbs ≤ 10000)
      ∧ secs < (if (s.refOf i).ever then s.rd .TIM_SEL_CTRL_wtr else 10))
      (0) (5) (9) (smallState [(.TIM_REF_CFG_prio, 0, 1), (.TIM_REF_CFG_qual_sw, 0, 1), (.TIM_REF_CFG_freq_code, 0, 1)]) := by decide

theorem test_TimingReferences_4 : (fun (k : Fin 6) (c : Instr) (v : Nat) (s : State) => (c = .d0Lock k ∧ v = 2 ∨ c = .d0Unlock k ∧ v = 1)
      ∧ (k.val = 0 → s.d0 = 3 - v)
      ∧ (k.val ≠ 0 → s.rd .TIM_DPLL_STATUS_dk_state (k - 1) = 3 - v))
      (0) (.d0Lock 0) (2) (smallState [(.TIM_DPLL0_STATUS_d0_state, 0, 1)]) := by decide

theorem test_TimingReferences_5 : (fun (m : ModelObs) (c : Instr) (s : State) => s.learning = true
      ∧ (c = .modelReady m ∨ c = .modelSave m ∧ s.on .TIM_DPLL0_STATUS_model_ready = true))
      ({ mean := some 4, drift := some 1 }) (.modelSave { mean := some 4, drift := some 1 }) (smallState [(.TIM_DPLL0_STATUS_d0_state, 0, 2), (.TIM_DPLL0_STATUS_freq_src, 0, 1), (.TIM_REF_STATUS_qual_eff, 1, 3), (.TIM_DPLL0_STATUS_model_ready, 0, 1)]) := by decide

theorem test_TimingReferences_6 : (fun (e : Int) (s : State) => s.srcQual s.timeSrc = 1 ∨ s.srcQual s.timeSrc = 2
      ∧ s.d0 = 2
      ∧ e.natAbs ≤ max 1 (s.rd .TIM_DPLL0_CTRL_lock_thr) * 65536)
      (65536) (smallState [(.TIM_DPLL0_STATUS_d0_state, 0, 2), (.TIM_DPLL0_STATUS_time_src, 0, 1), (.TIM_REF_STATUS_qual_eff, 1, 1), (.TIM_DPLL0_STATUS_tod_trace, 0, 3)]) := by decide

theorem test_TimingReferences_7 : (fun (s : State) => s.rd .TIM_DPLL0_STATUS_tod_trace = 2
      ∧ s.d0 ≠ 5
      ∧ 60 * max 1 (s.rd .TIM_SEL_CTRL_hold_limit) ≤ s.tim.holdS)
      ({ State.reset.wrs [(.TIM_DPLL0_STATUS_tod_trace, 0, 2)] with tim := { holdS := 1000000 } }) := by decide

theorem test_TimingReferences_8 : (fun (r : RingId) (d : Desc) (s : State) => s.headDesc r 0x40 = some d)
      (4) ({ sq := 4, opcode := 0x40 }) ((smallState [(.HOST_RCTX_CFG_class, 4, 5)]).modRing 4 (fun q => { q with fetched := [{ sq := 4, opcode := 0x40 }] })) := by decide

theorem test_TimeTransfer_1 : (fun (n : Eng) (blk : List Byte) (s : State) => s.lpn n = true
      ∧ 2 ≤ (s.rxOf n).lvl
      ∧ crc16 (slice blk 0 30) = fromBE (slice blk 30 2))
      (1) (List.replicate 30 0 ++ beBytes 2 (crc16 (List.replicate 30 0))) ((smallState [(.LE_PROFILE_prof_active, 1, 5), (.TIM_TT_CTRL_tt_engine, 0, 1)]).modRx 1 (fun x => { x with lvl := 2 })) := by decide +kernel

theorem test_TimeTransfer_2 : (fun (n : Eng) (blk : List Byte) (mark : Bool) (s : State) => blk ≠ []
      ∧ mark = true ∨ crc16 (slice blk 0 30) ≠ fromBE (slice blk 30 2) ∨ (s.rxOf n).lvl < 2)
      (1) (List.replicate 32 0) (true) (smallState [(.LE_PROFILE_prof_active, 1, 5)]) := by decide

theorem test_TimeTransfer_3 : (fun (s : State) => s.on .TIM_TT_STATUS_cd_hold = true)
      (smallState [(.TIM_TT_STATUS_cd_hold, 0, 1), (.TIM_REF_STATUS_qualified, 11, 1)]) := by decide

theorem test_KeyCommands_1 : (fun (r : RingId) (d : Desc) (data : BufRead) (s : State) => s.headDesc r 0x30 = some d
      ∧ keyOp d.param0 = 1
      ∧ data.err = false
      ∧ s.keyErr d = 0)
      (4) ({ sq := 4, opcode := 0x30, len := 40, param0 := 0x05000001 }) ({}) ({ smallState [(.HOST_RCTX_CFG_class, 4, 4), (.CIPH_LOCK_CTRL_key_ring, 0, 4), (.CIPH_LOCK_CTRL_lock_en, 0, 1)] with fuse := { lc0 := 1, lc1 := 1, lc2 := 1, kek := some 9 } } |>.modRing 4 (fun q => { q with fetched := [{ sq := 4, opcode := 0x30, len := 40, param0 := 0x05000001 }] })) := by decide +kernel

theorem test_KeyCommands_2 : (fun (r : RingId) (d : Desc) (data : BufRead) (s : State) => s.headDesc r 0x30 = some d
      ∧ keyOp d.param0 = 1
      ∧ data.err = true)
      (4) ({ sq := 4, opcode := 0x30, param0 := 1 }) ({ err := true }) (smallState [(.HOST_RCTX_CFG_class, 4, 4)] |>.modRing 4 (fun q => { q with fetched := [{ sq := 4, opcode := 0x30, param0 := 1 }] })) := by decide

theorem test_KeyCommands_3 : (fun (r : RingId) (d : Desc) (data : BufRead) (c : Instr) (s : State) => s.headDesc r 0x30 = some d
      ∧ (c = .keyLoad r data ∧ data.err = false ∧ keyOp d.param0 = 1 ∨ c = .keyErase r ∧ keyOp d.param0 = 2
      ∨ c = .keyPromote r ∧ keyOp d.param0 = 3)
      ∧ s.keyErr d ≠ 0)
      (4) ({ sq := 4, opcode := 0x30, param0 := 3 }) ({}) (.keyPromote 4) (smallState [(.HOST_RCTX_CFG_class, 4, 4)] |>.modRing 4 (fun q => { q with fetched := [{ sq := 4, opcode := 0x30, param0 := 3 }] })) := by decide

theorem test_KeyCommands_4 : (fun (r : RingId) (d : Desc) (s : State) => s.headDesc r 0x30 = some d
      ∧ keyOp d.param0 = 2
      ∧ s.keyErr d = 0)
      (4) ({ sq := 4, opcode := 0x30, param0 := 0x402 }) (smallState [(.HOST_RCTX_CFG_class, 4, 4), (.CIPH_LOCK_CTRL_key_ring, 0, 4), (.CIPH_LOCK_CTRL_lock_en, 0, 1), (.CIPH_LOCK_STATUS_nxt_valid, 0, 1)] |>.modRing 4 (fun q => { q with fetched := [{ sq := 4, opcode := 0x30, param0 := 0x402 }] }) |> fun s => { s with fuse := { lc0 := 1, lc1 := 1, lc2 := 1 } }) := by decide +kernel

theorem test_KeyCommands_5 : (fun (r : RingId) (d : Desc) (s : State) => s.headDesc r 0x30 = some d
      ∧ keyOp d.param0 = 3
      ∧ s.keyErr d = 0)
      (4) ({ sq := 4, opcode := 0x30, param0 := 3 }) (smallState [(.HOST_RCTX_CFG_class, 4, 4), (.CIPH_LOCK_CTRL_key_ring, 0, 4), (.CIPH_LOCK_CTRL_lock_en, 0, 1)] |>.modRing 4 (fun q => { q with fetched := [{ sq := 4, opcode := 0x30, param0 := 3 }] }) |>.modLock 0 (fun k => { k with nxt := { key := some 7, kgen := 3 } }) |> fun s => { s with fuse := { lc0 := 1, lc1 := 1, lc2 := 1 } }) := by decide +kernel

theorem test_KeyCommands_6 : (fun (r : RingId) (d : Desc) (s : State) => s.headDesc r 0x30 = some d
      ∧ keyOp d.param0 = 0 ∨ 3 < keyOp d.param0)
      (4) ({ sq := 4, opcode := 0x30, param0 := 4 }) (smallState [(.HOST_RCTX_CFG_class, 4, 4)] |>.modRing 4 (fun q => { q with fetched := [{ sq := 4, opcode := 0x30, param0 := 4 }] })) := by decide

theorem test_CipherControl_1 : (fun (rq : Requester) (l : LockId) (s : State) => s.fate rq .CIPH_LOCK_CTRL l = .takes)
      (.ctl) (5) ((smallState [(.CIPH_LOCK_CTRL_lock_en, 5, 1), (.CIPH_LOCK_STATUS_lgen, 5, 255)]).modLock 5 (fun k => { k with cur := { key := some 7 } })) := by decide

theorem test_CipherControl_2 : (fun (rq : Requester) (l : LockId) (s : State) => s.privileged rq = false)
      (.host) (5) ((smallState [(.SYS_RST_STATUS_boot_ready, 0, 1), (.CIPH_LOCK_CTRL_lock_en, 5, 1)]).modLock 5 (fun k => { k with cur := { key := some 7 } })) := by decide

theorem test_CipherControl_3 : (fun (n : Eng) (s : State) => s.fate .host .CIPH_ENG_CTRL n = .takes
      ∧ s.on .CIPH_ENG_CTRL_kp_pend n = false)
      (1) (smallState [(.SYS_RST_STATUS_boot_ready, 0, 1)]) := by decide

theorem test_CipherControl_6 : (fun (s : State) => s.sec.reseedOk = false
      ∧ s.on .CIPH_EV_halted = false)
      ({ smallState [] with sec := { reseedOk := false } }) := by decide

theorem test_RingContexts_1 : (fun (rq : Requester) (r : RingId) (cfg : Nat) (s : State) => s.fate rq .HOST_RCTX_CFG r = .takes
      ∧ cfg < 2 ^ 32
      ∧ s.rd .HOST_RCTX_STATE_state r = 0)
      (.host) (4) (0x60B) (smallState [(.SYS_RST_STATUS_boot_ready, 0, 1), (.HOST_RCTX_IRQ_vector, 4, 5)]) := by decide

theorem test_RingContexts_2 : (fun (rq : Requester) (r : RingId) (cfg : Nat) (s : State) => s.fate rq .HOST_RCTX_CFG r = .takes
      ∧ s.rd .HOST_RCTX_STATE_state r ≠ 0)
      (.host) (4) (1) (smallState [(.SYS_RST_STATUS_boot_ready, 0, 1), (.HOST_RCTX_STATE_state, 4, 1)]) := by decide

theorem test_RingContexts_3 : (fun (r : RingId) (cfg : Nat) (s : State) => s.fate .host .HOST_RCTX_CFG r = .takes
      ∧ s.rd .HOST_RCTX_STATE_state r = 1 ∨ s.rd .HOST_RCTX_STATE_state r = 3)
      (4) (0) ((smallState [(.SYS_RST_STATUS_boot_ready, 0, 1), (.HOST_RCTX_STATE_state, 4, 1)]).modRing 4 (fun q => { q with fetched := [{ sq := 4 }] })) := by decide

theorem test_RingContexts_4 : (fun (r : RingId) (s : State) => s.rd .HOST_RCTX_STATE_state r = 2
      ∧ s.ringDrained r = true)
      (4) (smallState [(.HOST_RCTX_STATE_state, 4, 2)]) := by decide

theorem test_RingContexts_5 : (fun (off word : Nat) (c : Instr) (s : State) => (c = .sqDoorbell off word ∨ c = .cqDoorbell off word)
      ∧ s.hostUnreachable = false
      ∧ s.on .SYS_RST_STATUS_boot_ready = true
      ∧ off % 4 = 0
      ∧ off < 0x40000
      ∧ s.ringActive (off / 4) = true
      ∧ word / 65536 = off / 4
      ∧ (word % 65536 + 65536 - s.rd .HOST_RCTX_IDX_host_idx (off / 4)) % 65536 ≤ s.ringSize (off / 4)
      ∧ (if s.rd .HOST_RCTX_CFG_kind (off / 4) = 0 then (word % 65536 + 65536 - s.rd .HOST_RCTX_IDX_dev_idx (off / 4)) % 65536
      else (s.rd .HOST_RCTX_IDX_dev_idx (off / 4) + 65536 - word % 65536) % 65536) ≤ s.ringSize (off / 4))
      (16) (0x00040005) (.sqDoorbell 16 0x00040005) (smallState [(.SYS_RST_STATUS_boot_ready, 0, 1), (.HOST_RCTX_STATE_state, 4, 1), (.HOST_RCTX_CFG_log2size, 4, 6)]) := by decide

theorem test_RingContexts_6 : (fun (off word : Nat) (c : Instr) (s : State) => (c = .sqDoorbell off word ∨ c = .cqDoorbell off word)
      ∧ s.hostUnreachable = false
      ∧ s.on .SYS_RST_STATUS_boot_ready = true
      ∧ off % 4 = 0
      ∧ off < 0x40000
      ∧ s.ringActive (off / 4) = false ∨ word / 65536 ≠ off / 4
      ∨ s.ringSize (off / 4) < (word % 65536 + 65536 - s.rd .HOST_RCTX_IDX_host_idx (off / 4)) % 65536
      ∨ s.ringSize (off / 4) < (if s.rd .HOST_RCTX_CFG_kind (off / 4) = 0
      then (word % 65536 + 65536 - s.rd .HOST_RCTX_IDX_dev_idx (off / 4)) % 65536
      else (s.rd .HOST_RCTX_IDX_dev_idx (off / 4) + 65536 - word % 65536) % 65536))
      (16) (0x00050005) (.cqDoorbell 16 0x00050005) (smallState [(.SYS_RST_STATUS_boot_ready, 0, 1), (.HOST_RCTX_STATE_state, 4, 1), (.HOST_RCTX_CFG_log2size, 4, 6)]) := by decide

theorem test_RingContexts_7 : (fun (off word : Nat) (c : Instr) (s : State) => (c = .sqDoorbell off word ∨ c = .cqDoorbell off word)
      ∧ s.hostUnreachable = false
      ∧ s.on .SYS_RST_STATUS_boot_ready = true
      ∧ off % 4 ≠ 0 ∨ 0x40000 ≤ off)
      (17) (5) (.sqDoorbell 17 5) (smallState [(.SYS_RST_STATUS_boot_ready, 0, 1)]) := by decide

theorem test_RingTraffic_1 : (fun (r : RingId) (b : List Byte) (s : State) => s.mayFetch r = true)
      (4) (List.replicate 64 0) (smallState [(.HOST_RCTX_STATE_state, 4, 1), (.HOST_RCTX_CFG_log2size, 4, 6), (.HOST_RCTX_IDX_host_idx, 4, 1), (.HOST_RCTX_LINK_cq, 4, 9), (.HOST_RCTX_CFG_log2size, 9, 6)]) := by decide

theorem test_RingTraffic_2 : (fun (r : RingId) (b : List Byte) (s : State) => s.mayFetch r = true
      ∧ s.ring.all (fun kv => kv.2.fetched.isEmpty) = true
      ∧ s.rd .HOST_RCTX_IDX_dev_idx r = (s.ringOf r).nextCpl
      ∧ s.descEnd (s.checkedDesc r b) ≠ 0)
      (4) (List.replicate 64 255) (smallState [(.HOST_RCTX_STATE_state, 4, 1), (.HOST_RCTX_CFG_log2size, 4, 6), (.HOST_RCTX_IDX_host_idx, 4, 1), (.HOST_RCTX_LINK_cq, 4, 9), (.HOST_RCTX_CFG_log2size, 9, 6)]) := by decide

theorem test_RingTraffic_3 : (fun (r : RingId) (s : State) => s.mayFetch r = true)
      (4) (smallState [(.HOST_RCTX_STATE_state, 4, 1), (.HOST_RCTX_CFG_log2size, 4, 6), (.HOST_RCTX_IDX_host_idx, 4, 1), (.HOST_RCTX_LINK_cq, 4, 9), (.HOST_RCTX_CFG_log2size, 9, 6)]) := by decide

theorem test_RingTraffic_4 : (fun (cq : RingId) (c : Cpl) (rest : List Cpl) (s : State) => (s.ringOf cq).cplq = c :: rest
      ∧ s.ringActive cq = true
      ∧ s.rd .HOST_RCTX_CFG_kind cq = 1
      ∧ s.rd .HOST_RCTX_CFG_gen cq = c.d.cqGen
      ∧ s.cqFull cq = false
      ∧ s.padHeld 6 = false)
      (9) ({ d := { cqGen := 2 } }) ([]) ((smallState [(.HOST_RCTX_STATE_state, 9, 1), (.HOST_RCTX_CFG_log2size, 9, 6), (.HOST_RCTX_CFG_kind, 9, 1), (.HOST_RCTX_CFG_gen, 9, 2)]).modRing 9 (fun q => { q with cplq := [{ d := { cqGen := 2 } }] })) := by decide

theorem test_RingTraffic_5 : (fun (cq : RingId) (c : Cpl) (rest : List Cpl) (s : State) => (s.ringOf cq).cplq = c :: rest
      ∧ s.ringActive cq = false ∨ s.rd .HOST_RCTX_CFG_kind cq ≠ 1 ∨ s.rd .HOST_RCTX_CFG_gen cq ≠ c.d.cqGen)
      (9) ({ d := { cqGen := 2 } }) ([]) ((smallState []).modRing 9 (fun q => { q with cplq := [{ d := { cqGen := 2 } }] })) := by decide

theorem test_RingTraffic_6 : (fun (r : RingId) (s : State) => s.activeCq r 1 = true
      ∧ (s.ringOf r).dropped ≠ 0
      ∧ s.cqOcc r + 2 ≤ s.ringSize r)
      (9) ((smallState [(.HOST_RCTX_STATE_state, 9, 1), (.HOST_RCTX_CFG_log2size, 9, 6), (.HOST_RCTX_CFG_kind, 9, 1), (.HOST_RCTX_CFG_class, 9, 1)]).modRing 9 (fun q => { q with dropped := 3 })) := by decide

theorem test_RingTraffic_7 : (fun (cq : RingId) (s : State) => s.ringActive cq = true
      ∧ s.rd .HOST_RCTX_CFG_kind cq = 1
      ∧ (s.ringOf cq).pend ≠ 0
      ∧ s.rd .HOST_RCTX_IRQ_mod_time cq ≠ 0
      ∧ s.on .HOST_LINK_link_up = true
      ∧ s.padHeld 6 = false)
      (9) ((smallState [(.HOST_RCTX_STATE_state, 9, 1), (.HOST_RCTX_CFG_kind, 9, 1), (.HOST_RCTX_IRQ_mod_time, 9, 5), (.HOST_RCTX_IRQ_vector, 9, 3), (.HOST_LINK_link_up, 0, 1)]).modRing 9 (fun q => { q with pend := 2 }) |> fun s => { s with host := { s.host with maskAll := false, unmasked := [(3, true)] } }) := by decide

theorem test_RingTraffic_8 : (fun (v : Fin 256) (s : State) => s.host.maskAll = false
      ∧ s.on .HOST_LINK_link_up = true
      ∧ s.padHeld 6 = false
      ∧ s.host.msixPend = [(v.val, true)])
      (7) ({ smallState [(.HOST_LINK_link_up, 0, 1)] with host := { maskAll := false, msixPend := [(7, true)] } }) := by decide

theorem test_RingTraffic_10 : (fun (v : Fin 256) (s : State) => s.host.msixPend = [(v.val, true)])
      (7) ({ smallState [] with host := { unmasked := [(7, true)], msixPend := [(7, true)] } }) := by decide

theorem test_RingTraffic_11 : (fun (bar : Fin 6) (write : Bool) (addr size : Nat) (s : State) => Machine.badAccess bar write addr size = true
      ∧ s.hostUnreachable = false
      ∧ s.padHeld 6 = false)
      (2) (false) (2) (4) (smallState []) := by decide

theorem test_RingTraffic_12 : (fun (k : Fin 1024) (s : State) => s.hostUnreachable = false
      ∧ s.on .SYS_RST_STATUS_boot_ready = true
      ∧ s.padHeld 6 = false)
      (7) ({ smallState [(.SYS_RST_STATUS_boot_ready, 0, 1)] with host := { msixTab := [(9, 5)], unmasked := [(7, true)] } }) := by decide

theorem test_RingTraffic_13 : (fun (off : Nat) (s : State) => off % 4 = 0
      ∧ off < 0x40000
      ∧ s.hostUnreachable = false
      ∧ s.on .SYS_RST_STATUS_boot_ready = true
      ∧ s.padHeld 6 = false)
      (8) (smallState [(.HOST_RCTX_IDX_dev_idx, 2, 7), (.SYS_RST_STATUS_boot_ready, 0, 1)]) := by decide

theorem test_RingTraffic_14 : (fun (c : Instr) (s : State) => s.wf = true
      ∧ c = .pcieLinkDown ∨ c = .pcieHotReset ∨ c = .pcieFlr)
      (.pcieFlr) (smallState [(.HOST_LINK_link_up, 0, 1), (.HOST_RCTX_STATE_state, 4, 1)]) := by decide

theorem test_HostCommands_1 : (fun (r : RingId) (d : Desc) (s : State) => s.headDesc r 0 = some d)
      (4) ({ sq := 4 }) ((smallState []).modRing 4 (fun q => { q with fetched := [{ sq := 4 }] })) := by decide

theorem test_HostCommands_2 : (fun (r : RingId) (d : Desc) (data : BufRead) (c : Instr) (s : State) => (c = .flashRead r ∧ s.headDesc r 6 = some d ∨ c = .flashWrite r data ∧ s.headDesc r 7 = some d
      ∨ c = .flashErase r ∧ s.headDesc r 8 = some d))
      (4) ({ sq := 4, opcode := 7, len := 2, param1 := 0x1000000 }) ({ bytes := [1, 2] }) (.flashWrite 4 { bytes := [1, 2] }) ((smallState [(.HOST_RCTX_CFG_priv, 4, 1)]).modRing 4 (fun q => { q with fetched := [{ sq := 4, opcode := 7, len := 2, param1 := 0x1000000 }] })) := by decide

theorem test_HostCommands_3 : (fun (r : RingId) (n : Nat) (o : FlashOp) (s : State) => s.flashOf r = some o
      ∧ o.d.opcode = 7
      ∧ o.stop = false
      ∧ s.padHeld 4 = false)
      (4) (0) ({ d := { sq := 4, opcode := 7, len := 2, param1 := 0x1000000 }, data := [1, 2] }) ({ smallState [] with host := { flashOps := [{ d := { sq := 4, opcode := 7, len := 2, param1 := 0x1000000 }, data := [1, 2] }] } }) := by decide

theorem test_HostCommands_4 : (fun (r : RingId) (n : Nat) (o : FlashOp) (s : State) => s.flashOf r = some o
      ∧ o.d.opcode = 8
      ∧ o.stop = false
      ∧ s.padHeld 4 = false)
      (4) (0) ({ d := { sq := 4, opcode := 8, param0 := 1, param1 := 0x1000000 } }) ({ smallState [] with host := { flashOps := [{ d := { sq := 4, opcode := 8, param0 := 1, param1 := 0x1000000 } }] } }) := by decide

theorem test_HostCommands_5 : (fun (r : RingId) (n : Nat) (o : FlashOp) (s : State) => s.flashOf r = some o
      ∧ o.d.opcode = 6
      ∧ o.stop = false
      ∧ s.padHeld 4 = false
      ∧ s.padHeld 6 = false)
      (4) (0) ({ d := { sq := 4, opcode := 6, len := 4, param1 := 16 } }) ({ smallState [] with host := { flashOps := [{ d := { sq := 4, opcode := 6, len := 4, param1 := 16 } }] } }) := by decide

theorem test_HostCommands_6 : (fun (r : RingId) (n : Nat) (o : FlashOp) (s : State) => s.flashOf r = some o
      ∧ o.stop = true)
      (4) (3) ({ d := { sq := 4, opcode := 6, len := 4, param1 := 16 }, stop := true }) ({ smallState [] with host := { flashOps := [{ d := { sq := 4, opcode := 6, len := 4, param1 := 16 }, stop := true }] } }) := by decide

theorem test_HostCommands_7 : (fun (r : RingId) (n : Nat) (o : FlashOp) (s : State) => s.flashOf r = some o
      ∧ o.stop = false
      ∧ s.padHeld 4 = true)
      (4) (3) ({ d := { sq := 4, opcode := 6, len := 4, param1 := 16 } }) ({ smallState [(.PWR_PAD_held, 0, 16), (.PWR_RAIL_rail_ok, 0, 127)] with host := { flashOps := [{ d := { sq := 4, opcode := 6, len := 4, param1 := 16 } }] } }) := by decide

theorem test_HostCommands_8 : (fun (o : FlashOp) (s : State) => s.host.flashOps.head? = some o)
      ({ d := { sq := 4, opcode := 6 } }) ({ smallState [] with host := { flashOps := [{ d := { sq := 4, opcode := 6 } }] } }) := by decide

theorem test_HostCommands_9 : (fun (r : RingId) (d : Desc) (data : BufRead) (n : Nat) (s : State) => s.headDesc r 0x20 = some d
      ∧ s.ohbEngine r = some n
      ∧ data.err = false)
      (4) ({ sq := 4, opcode := 0x20, len := 2 }) ({ bytes := [1, 2] }) (1) ((smallState [(.HOST_OHB_BIND_tx_ring, 1, 4), (.HOST_RCTX_CFG_class, 4, 2)]).modRing 4 (fun q => { q with fetched := [{ sq := 4, opcode := 0x20, len := 2 }] })) := by decide

theorem test_HostCommands_10 : (fun (r : RingId) (d : Desc) (data : BufRead) (s : State) => s.headDesc r 0x20 = some d)
      (4) ({ sq := 4, opcode := 0x20, len := 2 }) ({ bytes := [1], err := true }) ((smallState [(.HOST_OHB_BIND_tx_ring, 1, 4), (.HOST_RCTX_CFG_class, 4, 2)]).modRing 4 (fun q => { q with fetched := [{ sq := 4, opcode := 0x20, len := 2 }] })) := by decide

theorem test_HostCommands_11 : (fun (r : RingId) (d : Desc) (s : State) => s.headDesc r 0x21 = some d)
      (4) ({ sq := 4, opcode := 0x21, len := 2 }) ((smallState [(.HOST_RCTX_CFG_class, 4, 3)]).modRing 4 (fun q => { q with fetched := [{ sq := 4, opcode := 0x21, len := 2 }] })) := by decide

theorem test_ModeRequests_1 : (fun (r : RingId) (d : Desc) (m : Remembered) (s : State) => s.headDesc r 1 = some d
      ∧ s.mode.mem.find? (fun m => m.tag == fieldOf d.param0 16 16) = some m)
      (4) ({ sq := 4, opcode := 1, param0 := 0x70001 }) ({ tag := 7, status := 1, detail := 9 }) ({ smallState [] with mode := { mem := [{ tag := 7, status := 1, detail := 9 }] } } |>.modRing 4 (fun q => { q with fetched := [{ sq := 4, opcode := 1, param0 := 0x70001 }] })) := by decide

theorem test_ModeRequests_2 : (fun (r : RingId) (d : Desc) (e : ModeErr) (s : State) => s.headDesc r 1 = some d
      ∧ s.mode.mem.find? (fun m => m.tag == fieldOf d.param0 16 16) = none
      ∧ d.param0.testBit 8 = false
      ∧ s.modeCheck d.param0 = some e)
      (4) ({ sq := 4, opcode := 1, param0 := 0x70001 }) ({ reason := 10, obj := 0xFF }) ({ smallState [] with fuse := { lc0 := 1, lc1 := 1, lc2 := 1 } } |>.modRing 4 (fun q => { q with fetched := [{ sq := 4, opcode := 1, param0 := 0x70001 }] })) := by decide

theorem test_ModeRequests_3 : (fun (r : RingId) (d : Desc) (s : State) => s.headDesc r 1 = some d
      ∧ s.mode.mem.find? (fun m => m.tag == fieldOf d.param0 16 16) = none
      ∧ d.param0.testBit 8 = true)
      (4) ({ sq := 4, opcode := 1, param0 := 0x70101 }) ((smallState []).modRing 4 (fun q => { q with fetched := [{ sq := 4, opcode := 1, param0 := 0x70101 }] })) := by decide

theorem test_ModeRequests_4 : (fun (r : RingId) (d : Desc) (s : State) => s.headDesc r 1 = some d
      ∧ s.mode.mem.find? (fun m => m.tag == fieldOf d.param0 16 16) = none
      ∧ d.param0.testBit 8 = false
      ∧ s.modeCheck d.param0 = none
      ∧ s.modeSame s.staged (d.param0 % 16) (fieldOf d.param0 4 2) = false
      ∧ s.modeNow = 0 ∨ d.param0 % 16 = 0 ∨ d.param0 % 16 = 5 ∨ fieldOf d.param0 4 2 ≠ s.role)
      (4) ({ sq := 4, opcode := 1, param0 := 0x70004 }) (smallState [] |>.modRing 4 (fun q => { q with fetched := [{ sq := 4, opcode := 1, param0 := 0x70004 }] })) := by decide

theorem test_ModeRequests_5 : (fun (r : RingId) (d : Desc) (s : State) => s.headDesc r 1 = some d
      ∧ s.mode.mem.find? (fun m => m.tag == fieldOf d.param0 16 16) = none
      ∧ d.param0.testBit 8 = false
      ∧ s.modeCheck d.param0 = none
      ∧ s.modeSame s.staged (d.param0 % 16) (fieldOf d.param0 4 2) = false
      ∧ s.modeNow ≠ 0
      ∧ d.param0 % 16 ≠ 0
      ∧ d.param0 % 16 ≠ 5
      ∧ fieldOf d.param0 4 2 = s.role
      ∧ s.waitEngs (d.param0 % 16) ≠ [])
      (4) ({ sq := 4, opcode := 1, param0 := 0x70002 }) ((((((smallState [(.SYS_MODE_mode, 0, 1), (.LE_PROFILE_prof_active, 0, 5), (.LE_PROFILE_prof_staged, 0, 5)]).modTx 0 (fun x => { x with on := true })).modRing 4 (fun q => { q with fetched := [{ sq := 4, opcode := 1, param0 := 0x70002 }] })) |> fun s => { s with fuse := { lc0 := 1, lc1 := 1, lc2 := 1 } }))) := by decide

theorem test_ModeRequests_6 : (fun (r : RingId) (d : Desc) (s : State) => s.headDesc r 1 = some d
      ∧ s.mode.mem.find? (fun m => m.tag == fieldOf d.param0 16 16) = none
      ∧ d.param0.testBit 8 = false
      ∧ s.modeCheck d.param0 = none
      ∧ s.modeSame s.staged (d.param0 % 16) (fieldOf d.param0 4 2) = false
      ∧ s.modeNow ≠ 0
      ∧ d.param0 % 16 ≠ 0
      ∧ d.param0 % 16 ≠ 5
      ∧ fieldOf d.param0 4 2 = s.role
      ∧ s.modeNow ≠ 5
      ∧ s.waitEngs (d.param0 % 16) = [])
      (4) ({ sq := 4, opcode := 1, param0 := 0x70002 }) ((((smallState [(.SYS_MODE_mode, 0, 1), (.LE_PROFILE_prof_active, 0, 5), (.LE_PROFILE_prof_staged, 0, 5)]).modRing 4 (fun q => { q with fetched := [{ sq := 4, opcode := 1, param0 := 0x70002 }] })) |> fun s => { s with fuse := { lc0 := 1, lc1 := 1, lc2 := 1 } })) := by decide

theorem test_ModeRequests_7 : (fun (r : RingId) (d : Desc) (s : State) => s.headDesc r 1 = some d
      ∧ s.mode.mem.find? (fun m => m.tag == fieldOf d.param0 16 16) = none
      ∧ d.param0.testBit 8 = false
      ∧ s.modeCheck d.param0 = none
      ∧ s.modeSame s.staged (d.param0 % 16) (fieldOf d.param0 4 2) = true)
      (4) ({ sq := 4, opcode := 1, param0 := 0x70000 }) (((smallState []).modRing 4 (fun q => { q with fetched := [{ sq := 4, opcode := 1, param0 := 0x70000 }] }))) := by decide

theorem test_ModeRequests_8 : (fun (x : Transition) (s : State) => s.mode.tr = some x
      ∧ x.left = []
      ∧ s.modeNow ≠ 5 ∨ s.pair.loaded = true)
      ({ d := some { sq := 4 }, par := 0x70001 }) ({ smallState [(.SYS_MODE_busy, 0, 1), (.SYS_MODE_mode, 0, 1)] with mode := { tr := some { d := some { sq := 4 }, par := 0x70001 } } }) := by decide

theorem test_ModeRequests_9 : (fun (s : State) => s.mode.resume = true
      ∧ s.awake = true)
      ({ smallState [(.SYS_MODE_mode, 0, 1)] with mode := { held := true, resume := true } }) := by decide

theorem test_PowerStates_1 : (fun (r : RingId) (d : Desc) (s : State) => s.headDesc r 3 = some d
      ∧ s.mode.pwrMem.find? (fun m => m.tag == fieldOf d.param0 16 16) = none)
      (4) ({ sq := 4, opcode := 3, param0 := 7 }) ((smallState []).modRing 4 (fun q => { q with fetched := [{ sq := 4, opcode := 3, param0 := 7 }] })) := by decide

theorem test_PowerStates_2 : (fun (rtc tod st : Nat) (s : State) => s.pwr.entry = some st
      ∧ st = 2 ∨ st = 3 ∨ st = 4)
      (99) (5) (3) ({ smallState [(.PWR_STATUS_busy, 0, 1)] with pwr := { entry := some 3 } }) := by decide

theorem test_PowerStates_3 : (fun (st : Nat) (s : State) => s.pwr.exitFrom = some st
      ∧ (st = 3 → s.pin.mainEn = true)
      ∧ s.pwr.clockQ = [])
      (2) ({ smallState [(.PWR_STATUS_busy, 0, 1), (.PWR_STATUS_state, 0, 2)] with pwr := { exitFrom := some 2 } }) := by decide

theorem test_PowerStates_4 : (fun (seen : List (Nat × Nat)) (rtc : Nat) (s : State) => (seen.zip [700, 750, 900, 1200, 1800, 3300]).all (fun x => decide (93 * x.2 ≤ 100 * x.1.1 ∧ 100 * x.1.1 ≤ 107 * x.2
      ∧ 93 * x.2 ≤ 100 * x.1.2 ∧ 100 * x.1.2 ≤ 107 * x.2)) = true)
      ([(700, 700), (700, 800)]) (99) (smallState [(.PWR_RAIL_rail_ok, 0, 127)]) := by decide

theorem test_PowerStates_5 : (fun (seen : List (Nat × Nat)) (rtc : Nat) (s : State) => s.railsBad (railsOut seen) rtc ≠ 0)
      ([(700, 700), (690, 691)]) (99) (smallState [(.PWR_RAIL_rail_ok, 0, 127), (.HOST_LINK_link_up, 0, 1)]) := by decide

theorem test_PowerStates_6 : (fun (seen : List (Nat × Nat)) (rtc : Nat) (s : State) => s.pwr.failed = false
      ∧ s.pwr.up = 0
      ∧ s.powerNow ≤ 2)
      ([(700, 700), (690, 691)]) (99) (smallState [(.PWR_RAIL_rail_ok, 0, 127)]) := by decide

theorem test_PowerStates_7 : (fun (s : State) => s.powerNow = 4 ∨ s.pwr.failed = true ∨ s.pwr.up ≠ 0)
      ({ smallState [(.PWR_STATUS_state, 0, 4)] with pin := { mainEn := true } }) := by decide

theorem test_PowerStates_8 : (fun (s : State) => s.pwr.up = 1)
      ({ smallState [] with pwr := { up := 1 } }) := by decide

theorem test_PowerStates_9 : (fun (rails rtc : Nat) (s : State) => s.mainRising = true
      ∧ s.pin.mainEn = true
      ∧ rails &&& 0x2D ≠ 0)
      (1) (99) ({ smallState [] with pwr := { up := 2 }, pin := { mainEn := true } }) := by decide

theorem test_PowerStates_10 : (fun (s : State) => s.mainRising = true
      ∧ s.pin.mainEn = false)
      ({ smallState [] with pwr := { up := 2, tries := 2 }, pin := { mainEn := false } }) := by decide

theorem test_WakeAndPads_1 : (fun (n : Eng) (seen : List Bool) (c : Instr) (f : Fld) (s : State) => s.wakeState.isSome = true
      ∧ (c = .wakeLine n seen ∧ f = .PWR_WAKE_SRC_line ∧ s.hasEng n = true ∧ s.inService n = true
      ∧ s.wakeMode (fieldOf (s.rd .PWR_WAKE_CFG_line_mode) (2 * n) 2) seen = true
      ∨ c = .wakePin ∧ f = .PWR_WAKE_SRC_pin ∧ s.on .PWR_WAKE_CFG_pin_en = true
      ∨ c = .wakeRtc (s.rtcAlarm % 2 ^ 47) ∧ f = .PWR_WAKE_SRC_rtc ∧ s.on .PWR_CEL_CTRL_rtc_wake = true
      ∧ s.rtcAlarm < 2 ^ 47))
      (1) (List.replicate 40 true) (.wakeLine 1 (List.replicate 40 true)) (.PWR_WAKE_SRC_line) (smallState [(.PWR_STATUS_state, 0, 2), (.LE_PROFILE_prof_active, 1, 5), (.PWR_WAKE_CFG_line_mode, 0, 4)]) := by decide

theorem test_WakeAndPads_2 : (fun (p : PortId) (seen : List Bool) (s : State) => s.wakeState = some 2
      ∧ s.typeOf p ≠ 0
      ∧ s.wakeMode (s.rd .PWR_WAKE_CFG_client_mode) seen = true)
      (5) (List.replicate 40 true) (smallState [(.PWR_STATUS_state, 0, 2), (.CLI_PORT_CFG_type_active, 5, 1), (.PWR_WAKE_CFG_client_mode, 0, 1)]) := by decide

theorem test_WakeAndPads_4 : (fun (val : Nat) (n : Eng) (s : State) => s.fate .host .PWR_WAKE_TX 0 = .takes)
      (0x442) (1) (smallState [(.SYS_RST_STATUS_boot_ready, 0, 1), (.LE_PROFILE_prof_active, 1, 5)]) := by decide

theorem test_WakeAndPads_5 : (fun (n : Eng) (s : State) => s.hasEng n = true)
      (1) ((smallState [(.PWR_WAKE_TX_wake_eng, 0, 2)]).modTx 1 (fun x => { x with wakePat := true })) := by decide

theorem test_WakeAndPads_6 : (fun (grps : Nat) (s : State) => s.fate .host .PWR_PAD 0 = .takes
      ∧ s.rd .PWR_PAD_held < 64)
      (5) (smallState [(.SYS_RST_STATUS_boot_ready, 0, 1), (.PWR_PAD_held, 0, 63)]) := by decide

theorem test_WakeAndPads_7 : (fun (n : Eng) (s : State) => (s.rd .PWR_RAIL_rail_ok).testBit 4 = true)
      (1) ((smallState [(.PWR_RAIL_rail_ok, 0, 127), (.PWR_PAD_held, 0, 63), (.SYS_RST_STATUS_boot_ready, 0, 1)])) := by decide

theorem test_CellarAndLog_1 : (fun (rq : Requester) (val : Nat) (r : Rg) (i : Nat) (s : State) => regAt (r.addr i) = some (r, i)
      ∧ r.cellarRw = true
      ∧ s.fate rq r i = .crosses)
      (.host) (5) (.PWR_CEL_CTRL) (0) (smallState [(.SYS_RST_STATUS_boot_ready, 0, 1)]) := by decide

theorem test_CellarAndLog_2 : (fun (f : Fld) (i v : Nat) (rest : List (Nat × Nat)) (s : State) => s.cel.pend = (f.info.rg.addr i, v) :: rest
      ∧ regAt (f.info.rg.addr i) = some (f.info.rg, i)
      ∧ f.info.acc = .rw)
      (.PWR_CEL_CTRL_tamper_en) (0) (0xF) ([]) ({ smallState [] with cel := { pend := [(Rg.PWR_CEL_CTRL.addr 0, 0xF)] } }) := by decide

theorem test_CellarAndLog_5 : (fun (mv rtc : Nat) (s : State) => s.on .PWR_CEL_STATUS_on_bat = true)
      (1700) (99) (smallState [(.PWR_CEL_STATUS_on_bat, 0, 1)]) := by decide

theorem test_CellarAndLog_6 : (fun (inputs ticks rtc : Nat) (s : State) => ticks < 32)
      (1) (31) (99) (smallState [(.PWR_CEL_CTRL_tamper_en, 0, 1)]) := by decide

theorem test_CellarAndLog_7 : (fun (inputs ticks rtc : Nat) (l : LockId) (s : State) => s.on .PWR_CEL_CTRL_tamper_en = true
      ∧ inputs % 4 ≠ 0
      ∧ 32 ≤ ticks)
      (1) (32) (99) (5) ((smallState [(.PWR_CEL_CTRL_tamper_en, 0, 1)]).modLock 5 (fun k => { k with cur := { key := some 7 } })) := by decide

theorem test_CellarAndLog_8 : (fun (s : State) => s.awake = true
      ∧ s.on .HOST_LINK_link_up = true)
      ({ smallState [(.HOST_LINK_link_up, 0, 1)] with cel := { log := [{ code := 7 }] } }) := by decide

theorem test_CellarAndLog_9 : (fun (f : Fld) (i : Nat) (s : State) => f.info.rg.info.dom = .cellar)
      (.PWR_CEL_STATUS_cel_valid) (0) (smallState [(.PWR_CEL_STATUS_cel_valid, 0, 1)]) := by decide

theorem test_CellarAndLog_10 : (fun (rtc ce te : Nat) (s : State) => s.cel.entryRec = some (ce, te)
      ∧ s.awake = true
      ∧ s.pwr.todDue = true)
      (700) (500) (65536) ({ smallState [] with cel := { entryRec := some (500, 65536) }, pwr := { todDue := true } }) := by decide

theorem test_ResetsAndBoot_1 : (fun (s : State) => s.pwr.up = 2
      ∧ s.pin.mainEn = true)
      ({ smallState [(.SYS_MODE_mode, 0, 1)] with pwr := { up := 2, upPin := true }, pin := { mainEn := true } }) := by decide

theorem test_ResetsAndBoot_2 : (fun (ns : Nat) (s : State) => 10000 ≤ ns
      ∧ s.powerNow ≤ 2
      ∧ s.pwr.failed = false
      ∧ s.pwr.up = 0)
      (20000) (smallState [(.SYS_MODE_mode, 0, 1)]) := by decide

theorem test_ResetsAndBoot_3 : (fun (ns : Nat) (s : State) => 10000 ≤ ns
      ∧ 3 ≤ s.powerNow
      ∧ s.mainRising = false
      ∧ (s.rd .PWR_RAIL_rail_ok).testBit 1 = true
      ∧ (s.rd .PWR_RAIL_rail_ok).testBit 4 = true)
      (20000) (smallState [(.PWR_STATUS_state, 0, 3), (.PWR_RAIL_rail_ok, 0, 0x12)]) := by decide

theorem test_ResetsAndBoot_4 : (fun (ns : Nat) (s : State) => 1000 ≤ ns
      ∧ ns < 10000
      ∧ s.sec.lcPend = none)
      (5000) (smallState []) := by decide

theorem test_ResetsAndBoot_5 : (fun (ns : Nat) (s : State) => ns < 1000)
      (999) (smallState []) := by decide

theorem test_ResetsAndBoot_6 : (fun (rq : Requester) (s : State) => s.fate rq .SYS_RESET 0 = .takes)
      (.ctl) (smallState [(.SYS_MODE_mode, 0, 1)]) := by decide

theorem test_ResetsAndBoot_7 : (fun (rq : Requester) (mask : Nat) (n : Eng) (s : State) => s.fate rq .SYS_RESET 0 = .takes
      ∧ s.privileged rq = true
      ∧ (mask % 16).testBit n = true
      ∧ s.hasEng n = true)
      (.ctl) (6) (1) (smallState [(.LE_STATUS_dsp_lock, 1, 1)]) := by decide

theorem test_ResetsAndBoot_8 : (fun (rq : Requester) (mask : Nat) (s : State) => s.fate rq .SYS_RESET 0 = .takes
      ∧ s.privileged rq = false
      ∧ mask % 16 ≠ 0)
      (.host) (6) (smallState [(.SYS_RST_STATUS_boot_ready, 0, 1)]) := by decide

theorem test_ResetsAndBoot_9 : (fun (obs : BootObs) (s : State) => s.on .SYS_RST_STATUS_boot_ready = false
      ∧ s.hostUnreachable = false
      ∧ s.pwr.up = 0)
      ({}) (smallState []) := by decide

theorem test_ResetsAndBoot_10 : (fun (obs : BootObs) (k : Nat) (b : BankObs) (s : State) => s.on .SYS_RST_STATUS_boot_ready = false
      ∧ s.hostUnreachable = false
      ∧ s.pwr.up = 0
      ∧ s.bankRun obs = some (k, b)
      ∧ s.lcState = 3)
      ({ bank1 := { signed := true, version := 9, flRun := 4, flFloor := 2 } }) (1) ({ signed := true, version := 9, flRun := 4, flFloor := 2 }) ({ smallState [] with fuse := { lc0 := 3, lc1 := 3, lc2 := 3 } }) := by decide

theorem test_Lifecycle_1 : (fun (rq : Requester) (c : Instr) (req : Nat) (s : State) => s.fate rq .SEC_LC_CTRL 0 = .takes
      ∧ s.privileged rq = true
      ∧ (c = .lcReqProvision rq ∧ req = 1 ∨ c = .lcReqSeal rq ∧ req = 2 ∨ c = .lcReqReturn rq ∧ req = 3))
      (.ctl) (.lcReqSeal .ctl) (2) ({ smallState [] with fuse := { lc0 := 1, lc1 := 1, lc2 := 1 } }) := by decide

theorem test_Lifecycle_2 : (fun (rq : Requester) (c : Instr) (s : State) => s.privileged rq = false
      ∧ (c = .lcReqProvision rq ∨ c = .lcReqSeal rq ∨ c = .lcReqReturn rq ∨ c = .rbRaise rq))
      (.test) (.lcReqSeal .test) ({ smallState [(.SYS_RST_STATUS_boot_ready, 0, 1)] with fuse := { lc0 := 1, lc1 := 1, lc2 := 1 } }) := by decide

theorem test_Lifecycle_3 : (fun (c : Nat) (b : List Byte) (s : State) => s.sec.lcPend = some (c, b))
      (2) ([]) ({ smallState [(.SEC_STATE_dbg_level, 0, 1)] with fuse := { lc0 := 1, lc1 := 1, lc2 := 1 }, sec := { lcPend := some (2, []) } }) := by decide

theorem test_Lifecycle_4 : (fun (s : State) => s.fate .host .SEC_STATE 0 = .takes)
      (smallState [(.SYS_RST_STATUS_boot_ready, 0, 1), (.SEC_STATE_host_priv, 0, 1)]) := by decide

theorem test_Lifecycle_5 : (fun (rq : Requester) (s : State) => s.fate rq .SEC_LC_CTRL 0 = .takes
      ∧ s.privileged rq = true
      ∧ s.sec.runRb < 256)
      (.ctl) ({ smallState [] with fuse := { rbFloor := 3 }, sec := { runRb := 5 } }) := by decide

theorem test_TrapdoorCommands_1 : (fun (pcie : Bool) (s : State) => s.fate (portRq pcie) .SEC_TRAP_CTRL 0 = .takes)
      (true) (smallState [(.SYS_RST_STATUS_boot_ready, 0, 1)]) := by decide

theorem test_TrapdoorCommands_3 : (fun (pcie : Bool) (s : State) => s.fate (portRq pcie) .SEC_TRAP_CTRL 0 = .takes
      ∧ s.sec.trap.pend = none
      ∧ (pcie = true → s.sec.trap.session ≠ some false))
      (true) (smallState [(.SYS_RST_STATUS_boot_ready, 0, 1)]) := by decide

theorem test_TrapdoorCommands_4 : (fun (s : State) => s.fate .host .SEC_TRAP_CTRL 0 = .takes
      ∧ (s.sec.trap.pend.any (fun x => !x.1) || s.sec.trap.pend.isNone && s.sec.trap.session == some false) = true)
      ({ smallState [(.SYS_RST_STATUS_boot_ready, 0, 1)] with sec := { trap := { session := some false } } }) := by decide

theorem test_TrapdoorCommands_5 : (fun (s : State) => s.fate .test .SEC_TRAP_CTRL 0 = .takes
      ∧ s.sec.trap.pend.any (fun x => x.1) = true)
      ({ smallState [(.SYS_RST_STATUS_boot_ready, 0, 1)] with sec := { trap := { pend := some (true, [], true) } } }) := by decide

theorem test_TrapdoorCommands_6 : (fun (s : State) => s.fate .test .SEC_TRAP_CTRL 0 = .takes
      ∧ s.fate .host .SEC_TRAP_CTRL 0 = .takes
      ∧ s.sec.trap.pend = none)
      (smallState [(.SYS_RST_STATUS_boot_ready, 0, 1)]) := by decide

theorem test_TrapdoorCommands_7 : (fun (pcie : Bool) (s : State) => s.fate (portRq pcie) .SEC_TRAP_CTRL 0 = .takes
      ∧ s.sec.trap.pend.any (fun x => x.1 == pcie) = true)
      (true) ({ smallState [(.SYS_RST_STATUS_boot_ready, 0, 1)] with sec := { trap := { pend := some (true, [], true) } } }) := by decide

theorem test_TrapdoorCommands_8 : (fun (pcie : Bool) (b : List Byte) (good : Bool) (s : State) => s.sec.trap.pend = some (pcie, b, good))
      (true) ([]) (false) ({ smallState [] with sec := { trap := { pend := some (true, [], false) } } }) := by decide

theorem test_TrapdoorCommands_9 : (fun (pcie : Bool) (s : State) => s.fate (portRq pcie) .SEC_TRAP_CTRL 0 = .takes)
      (true) ({ smallState [(.SYS_RST_STATUS_boot_ready, 0, 1), (.SEC_STATE_dbg_level, 0, 1), (.SEC_STATE_dbg_port, 0, 1)] with sec := { trap := { session := some true } } }) := by decide

theorem test_TrapdoorCommands_10 : (fun (s : State) => s.dbgLevel ≠ 0)
      ({ smallState [(.SEC_STATE_dbg_level, 0, 2)] with sec := { trap := { session := some false } } }) := by decide

theorem test_ShelfCommands_1 : (fun (r : RingId) (d : Desc) (data : BufRead) (a fails : Nat) (s : State) => s.headDesc r 4 = some d
      ∧ fails < 3
      ∧ d.param1 + d.len ≤ 1048576
      ∧ s.stageOrder d.param1 = true
      ∧ data.err = false
      ∧ data.bytes.length = d.len)
      (4) ({ sq := 4, opcode := 4, len := 4 }) ({ bytes := [1, 2, 3, 4] }) (5) (2) ((smallState [(.HOST_RCTX_CFG_class, 4, 4), (.HOST_RCTX_CFG_priv, 4, 1)]).modRing 4 (fun q => { q with fetched := [{ sq := 4, opcode := 4, len := 4 }] })) := by decide

theorem test_ShelfCommands_2 : (fun (r : RingId) (d : Desc) (data : BufRead) (fails : Nat) (s : State) => s.headDesc r 4 = some d
      ∧ 1048576 < d.param1 + d.len ∨ s.stageOrder d.param1 = false ∨ data.err = true)
      (4) ({ sq := 4, opcode := 4, len := 4, param1 := 8 }) ({}) (0) ((smallState [(.HOST_RCTX_CFG_class, 4, 4), (.HOST_RCTX_CFG_priv, 4, 1)]).modRing 4 (fun q => { q with fetched := [{ sq := 4, opcode := 4, len := 4, param1 := 8 }] })) := by decide

theorem test_ShelfCommands_3 : (fun (r : RingId) (d : Desc) (data : BufRead) (fails : Nat) (s : State) => s.headDesc r 4 = some d
      ∧ 3 ≤ fails
      ∧ d.param1 + d.len ≤ 1048576
      ∧ s.stageOrder d.param1 = true
      ∧ data.err = false)
      (4) ({ sq := 4, opcode := 4, len := 4 }) ({ bytes := [1, 2, 3, 4] }) (3) ((smallState [(.HOST_RCTX_CFG_class, 4, 4), (.HOST_RCTX_CFG_priv, 4, 1)]).modRing 4 (fun q => { q with fetched := [{ sq := 4, opcode := 4, len := 4 }] })) := by decide

theorem test_ShelfCommands_4 : (fun (r : RingId) (d : Desc) (fails : Nat) (s : State) => s.headDesc r 5 = some d)
      (4) ({ sq := 4, opcode := 5, param0 := 7 }) (0) ((smallState [(.HOST_RCTX_CFG_class, 4, 4), (.HOST_RCTX_CFG_priv, 4, 1)]).modRing 4 (fun q => { q with fetched := [{ sq := 4, opcode := 5, param0 := 7 }] })) := by decide

theorem test_RegisterWrites_1 : (fun (rq : Requester) (r : Rg) (i : Nat) (f : Fld) (addr val : Nat) (s : State) => addr < 0x1000000
      ∧ addr % 4 = 0
      ∧ inDebug addr = false
      ∧ s.ctxBusy addr = false
      ∧ regAt addr = some (r, i)
      ∧ s.fate rq r i = .takes
      ∧ r.plain = true
      ∧ s.namesAbsent r i (val % 2 ^ 32) = false
      ∧ f.info.rg = r)
      (.host) (.PERF_HK_MASK) (0) (.PERF_HK_MASK_hk_mask) (0x60008) (0xABCDEF01) (smallState [(.SYS_RST_STATUS_boot_ready, 0, 1)]) := by decide

theorem test_RegisterWrites_2 : (fun (rq : Requester) (r : Rg) (i addr val : Nat) (s : State) => addr < 0x1000000
      ∧ addr % 4 = 0
      ∧ inDebug addr = false
      ∧ s.ctxBusy addr = false
      ∧ regAt addr = some (r, i)
      ∧ s.fate rq r i = .takes
      ∧ s.namesAbsent r i (val % 2 ^ 32) = true)
      (.host) (.TIM_DPLL_CTRL) (1) (0x30220) (8) ({ smallState [(.SYS_RST_STATUS_boot_ready, 0, 1)] with fuse := { part := .skv4800 } }) := by decide

theorem test_RegisterWrites_3 : (fun (rq : Requester) (r : Rg) (i : Nat) (f : Fld) (j addr val : Nat) (s : State) => addr < 0x1000000
      ∧ addr % 4 = 0
      ∧ inDebug addr = false
      ∧ s.ctxBusy addr = false
      ∧ regAt addr = some (r, i)
      ∧ s.fate rq r i = .takes
      ∧ r.plain = true
      ∧ f.info.rg ≠ r ∨ j ≠ i)
      (.host) (.PERF_HK_MASK) (0) (.PERF_EVT_ROUTE_en) (2) (0x60008) (0xABCDEF01) (smallState [(.SYS_RST_STATUS_boot_ready, 0, 1)]) := by decide

theorem test_RegisterWrites_4 : (fun (rq : Requester) (r : Rg) (i addr val : Nat) (s : State) => addr < 0x1000000
      ∧ addr % 4 = 0
      ∧ inDebug addr = false
      ∧ s.ctxBusy addr = false
      ∧ regAt addr = some (r, i))
      (.host) (.LE_EQ_CR_CTRL) (1) (0x200024) (7) (smallState [(.SYS_RST_STATUS_boot_ready, 0, 1), (.SYS_MODE_mode, 0, 5)]) := by decide

theorem test_RegisterWrites_5 : (fun (rq : Requester) (addr val : Nat) (s : State) => addr < 0x1000000
      ∧ addr % 4 ≠ 0
      ∧ s.hostUnreachable = false)
      (.host) (0x60006) (7) (smallState []) := by decide

theorem test_RegisterWrites_6 : (fun (rq : Requester) (ring k val : Nat) (f : Fld) (s : State) => ring < 0x10000
      ∧ k < 8
      ∧ s.rd .HOST_RCTX_STATE_state ring = 2
      ∧ s.reaches rq .HOST_RCTX_CFG = true)
      (.host) (5) (0) (7) (.HOST_RCTX_CFG_log2size) (smallState [(.SYS_RST_STATUS_boot_ready, 0, 1), (.HOST_RCTX_STATE_state, 5, 2)]) := by decide

theorem test_RegisterWrites_7 : (fun (rq : Requester) (k val : Nat) (s : State) => k < 1024
      ∧ k % 4 ≠ 3
      ∧ s.hostUnreachable = false
      ∧ s.on .SYS_RST_STATUS_boot_ready = true)
      (.host) (9) (5) (smallState [(.SYS_RST_STATUS_boot_ready, 0, 1)]) := by decide

theorem test_RegisterWrites_8 : (fun (rq : Requester) (v val : Nat) (s : State) => v < 256
      ∧ s.hostUnreachable = false
      ∧ s.on .SYS_RST_STATUS_boot_ready = true)
      (.host) (9) (6) (smallState [(.SYS_RST_STATUS_boot_ready, 0, 1)]) := by decide

theorem test_RegisterWrites_9 : (fun (rq : Requester) (addr val : Nat) (s : State) => addr % 4 = 0
      ∧ inDebug addr = true)
      (.ctl) (0xA00010) (5) (smallState []) := by decide

theorem test_ReadsThatAct_1 : (fun (rq : Requester) (n : Eng) (s : State) => s.hostUnreachable = false
      ∧ s.readable rq .LE_FEC_TEST n = true
      ∧ s.padHeld 6 = false)
      (.host) (1) (smallState [(.SYS_RST_STATUS_boot_ready, 0, 1), (.LE_FEC_TEST_test_err, 1, 9)]) := by decide

theorem test_ReadsThatAct_2 : (fun (tod : Nat) (s : State) => s.hostUnreachable = false
      ∧ s.readable .host .TIM_TOD_NS 0 = true
      ∧ s.padHeld 6 = false)
      (123456789) (smallState [(.SYS_RST_STATUS_boot_ready, 0, 1)]) := by decide

theorem test_ReadsThatAct_3 : (fun (rtc : Nat) (s : State) => s.hostUnreachable = false
      ∧ s.readable .host .PWR_CEL_RTC_LO 0 = true
      ∧ rtc < 2 ^ 47
      ∧ s.padHeld 6 = false)
      (0x500000009) (smallState [(.SYS_RST_STATUS_boot_ready, 0, 1)]) := by decide

theorem test_ReadsThatAct_4 : (fun (rq : Requester) (n : Eng) (x : Nat) (c : Instr) (s : State) => s.hostUnreachable = false
      ∧ (c = .testErrRead rq n ∧ s.readable rq .LE_FEC_TEST n = false
      ∨ c = .todNsRead x ∧ s.readable .host .TIM_TOD_NS 0 = false
      ∨ c = .rtcLoRead x ∧ s.readable .host .PWR_CEL_RTC_LO 0 = false))
      (.test) (1) (7) (.testErrRead .test 1) (smallState []) := by decide

theorem test_SnapshotsAndRecords_1 : (fun (tod : Nat) (c : Instr) (cause : Nat) (s : State) => (c = .snapNow tod ∧ cause = 4 ∧ s.fate .host .PERF_INV_CTRL 0 = .takes
      ∨ c = .snapPeriod tod ∧ cause = 2 ∧ s.rd .PERF_INV_CTRL_snap_period ≠ 0)
      ∧ tod < todMod)
      (123456) (.snapNow 123456) (4) (smallState [(.SYS_RST_STATUS_boot_ready, 0, 1)]) := by decide

theorem test_SnapshotsAndRecords_2 : (fun (tod : Nat) (s : State) => s.rd .PERF_INV_CTRL_snap_period = 0)
      (123456) (smallState [(.PERF_INV_CTRL_snap_period, 0, 0)]) := by decide

theorem test_SnapshotsAndRecords_3 : (fun (tod : Nat) (x : Walk) (s : State) => s.perf.walk = some x)
      (99) ({ cause := 2 }) ({ smallState [] with perf := { walk := some { cause := 2 }, heldWalk := some 5 } }) := by decide

theorem test_SnapshotsAndRecords_4 : (fun (s : State) => s.perf.hkN ≠ 0
      ∧ s.rd .PERF_TLM_CTRL_hk_ring ≠ 0xFFFF)
      ({ smallState [(.PERF_TLM_CTRL_hk_ring, 0, 5)] with perf := { hkN := 2 } }) := by decide

theorem test_SnapshotsAndRecords_5 : (fun (s : State) => s.perf.hkN = 0 ∨ s.rd .PERF_TLM_CTRL_hk_ring = 0xFFFF)
      ({ smallState [(.PERF_TLM_CTRL_hk_ring, 0, 0xFFFF)] with perf := { hkN := 2 } }) := by decide

theorem test_SnapshotsAndRecords_6 : (fun (val : Nat) (s : State) => s.fate .host .PERF_CNT_SEL 0 = .takes)
      (3) ({ smallState [(.SYS_RST_STATUS_boot_ready, 0, 1)] with cnt := [(3, 0x500000007)] }) := by decide

theorem test_SnapshotsAndRecords_7 : (fun (n : Eng) (r : Nat) (m : ProtMsg) (l : List ProtMsg) (s : State) => s.hasEng n = true
      ∧ (s.rxOf n).protQ = m :: l
      ∧ m.code = 3
      ∧ s.evRoute 1 = some r
      ∧ s.padHeld 6 = false)
      (1) (9) ({ code := 3 }) ([]) ((smallState [(.HOST_RCTX_STATE_state, 9, 1), (.HOST_RCTX_CFG_log2size, 9, 6), (.HOST_RCTX_CFG_kind, 9, 1), (.HOST_RCTX_CFG_class, 9, 1), (.PERF_EVT_ROUTE_en, 1, 1), (.PERF_EVT_ROUTE_ring, 1, 9)]).modRx 1 (fun x => { x with protQ := [{ code := 3 }] })) := by decide

theorem test_SnapshotsAndRecords_8 : (fun (n : Eng) (m : ProtMsg) (l : List ProtMsg) (s : State) => s.hasEng n = true
      ∧ (s.rxOf n).protQ = m :: l
      ∧ m.code = 3
      ∧ s.evRoute 1 = none
      ∧ s.evGone 1 = false)
      (1) ({ code := 3 }) ([]) ({ smallState [(.HOST_LINK_link_up, 0, 1), (.SYS_IRQ_MASK_en, 0, 0x100)] with host := { unmasked := [(0, true)] } } |>.modRx 1 (fun x => { x with protQ := [{ code := 3 }] })) := by decide

theorem test_SnapshotsAndRecords_9 : (fun (pll r : Nat) (s : State) => s.evRoute 3 = some r
      ∧ s.padHeld 6 = false
      ∧ s.cqFull r = false
      ∧ (s.ringOf r).dropped = 0)
      (2) (9) ((smallState [(.HOST_RCTX_STATE_state, 9, 1), (.HOST_RCTX_CFG_log2size, 9, 6), (.HOST_RCTX_CFG_kind, 9, 1), (.HOST_RCTX_CFG_class, 9, 1), (.PERF_EVT_ROUTE_en, 3, 1), (.PERF_EVT_ROUTE_ring, 3, 9)])) := by decide

theorem test_SnapshotsAndRecords_10 : (fun (val : Nat) (s : State) => s.fate .host .SYS_IRQ_MASK 0 = .takes
      ∧ s.host.maskAll = false
      ∧ s.padHeld 6 = false
      ∧ SMap.get false s.host.unmasked 0 = true
      ∧ s.on .HOST_LINK_link_up = true)
      (0x100) ({ smallState [(.SYS_RST_STATUS_boot_ready, 0, 1), (.HOST_LINK_link_up, 0, 1), (.PAIR_EV_sel, 0, 1)] with host := { unmasked := [(0, true)] } }) := by decide

theorem test_SnapshotsAndRecords_11 : (fun (val : Nat) (s : State) => s.fate .host .PAIR_EV 0 = .takes
      ∧ s.host.maskAll = false
      ∧ s.padHeld 6 = false
      ∧ SMap.get false s.host.unmasked 0 = true
      ∧ s.on .HOST_LINK_link_up = true
      ∧ Fld.PAIR_EV_sel.part (val % 2 ^ 32) = 1)
      (0xFFFFFFFF) ({ smallState [(.SYS_RST_STATUS_boot_ready, 0, 1), (.HOST_LINK_link_up, 0, 1), (.PAIR_EV_sel, 0, 1), (.HOST_EV_db_bad, 0, 1), (.SYS_IRQ_MASK_en, 0, 0x80)] with host := { unmasked := [(0, true)] } }) := by decide

theorem test_LocalFaults_1 : (fun (arr : SramArr) (word bits : Nat) (s : State) => bits ≠ 0
      ∧ (∀ n, arr = .fec n → s.hasEng n = true))
      (.pool) (7) (1) (smallState []) := by decide

theorem test_LocalFaults_2 : (fun (n : Eng) (word bits : Nat) (s : State) => 2 ≤ bits
      ∧ s.role = 0
      ∧ s.hasEng n = true)
      (1) (7) (2) (smallState []) := by decide

theorem test_LocalFaults_3 : (fun (word bits g x : Nat) (s : State) => 2 ≤ bits
      ∧ s.role = 0
      ∧ SMap.get 0 s.bins (word / 8192) = g + 1
      ∧ s.grpTrib g = some x)
      (7) (2) (0) (3) ({ smallState [(.FAB_TRIB_STATUS_active, 3, 1)] with bins := [(0, 1)], trib := [(3, { grp := some 0 })] }) := by decide

theorem test_LocalFaults_4 : (fun (x : Fin 17) (who : Nat) (s : State) => (1 ≤ x.val ∧ x.val ≤ 7 ∨ x.val = 10)
      ∧ s.cntValid (if x.val = 7 then 513 else if x.val = 5 ∨ x.val = 6 then cPort (who % 64) 5 else cEng (who % 4) 21) = true)
      (1) (2) (smallState []) := by decide

theorem test_LocalFaults_5 : (fun (addr : Nat) (r : Rg) (i block stage : Nat) (n : Eng) (c : Instr) (k : Nat) (s : State) => (c = .parityScan (.reg addr stage) ∧ k = 550 ∧ regAt addr = some (r, i) ∧ s.absentReg r i = false
      ∨ c = .parityScan (.engine n stage) ∧ k = cEng n 24 ∧ s.hasEng n = true
      ∨ c = .parityScan (.stage block stage) ∧ k = 551))
      (0x200024) (.LE_EQ_CR_CTRL) (1) (2) (3) (0) (.parityScan (.reg 0x200024 3)) (550) (smallState []) := by decide

theorem test_LocalFaults_6 : (fun (n : Eng) (lane : PortId) (x : Nat) (c : Instr) (s : State) => (c = .clockLoss x ∨ c = .crossingSlip 3 x ∨ c = .parityScan (.stage x x) ∨ c = .laneTxFault lane ∧ s.laneActive lane = true
      ∨ c = .txMonitorFault n ∧ s.hasEng n = true ∧ s.on .LE_TX_CTRL_tx_active n = true
      ∨ c = .sramScrub .pool x 2))
      (1) (2) (3) (.clockLoss 3) (smallState [(.SYS_MODE_role, 0, 1), (.PAIR_STATUS_ready, 0, 1), (.PAIR_STATUS_link_state, 0, 2)]) := by decide

theorem test_LocalFaults_7 : (fun (s : State) => s.sec.restart = false)
      (smallState []) := by decide

theorem test_LocalFaults_8 : (fun (n : Eng) (s : State) => s.sec.restart = true)
      (2) ({ smallState [(.LE_PROFILE_prof_active, 2, 5), (.PLACE_ENG_STATUS_sw_state, 2, 2)] with sec := { restart := true }, pin := { aliveOut := false } }) := by decide

theorem test_HkSequences_1 : (fun (c : Instr) (s : State) => (c = .hkStartReq true ∧ s.on .HK_CTRL_start_pin_en = true))
      (.hkStartReq true) (smallState [(.HK_CTRL_start_pin_en, 0, 1)]) := by decide

theorem test_HkSequences_2 : (fun (c : Instr) (s : State) => (c = .hkUrgentReq true ∧ s.on .HK_CTRL_urg_pin_en = true))
      (.hkUrgentReq true) ({ smallState [(.HK_CTRL_urg_pin_en, 0, 1)] with hk := { reg := true, slot := 2 } }) := by decide

theorem test_HkSequences_3 : (fun (c : Instr) (o : SyncObs) (s : State) => (c = .hkStartReq true ∧ s.on .HK_CTRL_start_pin_en = false
      ∨ c = .hkUrgentReq true ∧ s.on .HK_CTRL_urg_pin_en = false ∨ c = .hkSyncCmd o ∧ o.pin = true ∧ o.early = false ∧ s.on .HK_CTRL_sync_pin_en = false))
      (.hkSyncCmd { pin := true }) ({ pin := true }) (smallState []) := by decide

theorem test_HkSequences_4 : (fun (c : HkChId) (o : SyncObs) (s : State) => s.on .HK_CTRL_sync_pin_en = true
      ∧ s.compat = false
      ∧ o.pin = true)
      (3) ({ pin := true }) ((smallState [(.HK_CTRL_sync_pin_en, 0, 1)]).modHkCh 3 (fun h => { h with seq := 5 })) := by decide

theorem test_HkSequences_5 : (fun (c : Instr) (o : SyncObs) (f : Fld) (s : State) => s.fate .host .HK_CTRL 0 = .takes
      ∧ (c = .hkStartReq false ∧ f = .HK_CTRL_seq_go ∨ c = .hkUrgentReq false ∧ f = .HK_CTRL_inj_go
      ∨ c = .hkSyncCmd o ∧ o.pin = false ∧ f = .HK_CTRL_sync_now ∨ c = .hkSeqStop ∧ f = .HK_CTRL_seq_stop)
      ∧ s.on .HK_CTRL_compat_en = false)
      (.hkStartReq false) ({ }) (.HK_CTRL_seq_go) ({ smallState [(.SYS_RST_STATUS_boot_ready, 0, 1)] with hk := { reg := true } }) := by decide

theorem test_HkSequences_6 : (fun (s : State) => s.converting = none ∨ s.hk.left = 0 ∨ (s.continuous = true ∧ s.hk.stopReq = true))
      ({ smallState [] with hk := { reg := true } }) := by decide

theorem test_HkSequences_7 : (fun (s : State) => s.converting.isSome = true
      ∧ s.hk.left ≠ 0
      ∧ s.continuous = false ∨ s.hk.stopReq = false)
      ({ smallState [(.HK_CH_CFG_en, 3, 1), (.HK_SEQ_chan, 0, 3), (.HK_SEQ_count, 0, 2)] with hk := { reg := true, left := 2 } }) := by decide

theorem test_HkSequences_8 : (fun (s : State) => s.fate .host .HK_CTRL 0 = .takes
      ∧ s.on .HK_CTRL_compat_en = false)
      ({ smallState [(.SYS_RST_STATUS_boot_ready, 0, 1)] with hk := { reg := true, slot := 3 } }) := by decide

theorem test_HkSequences_9 : (fun (s : State) => s.fate .host .HK_CTRL 0 = .takes
      ∧ s.on .HK_CTRL_compat_en = true)
      (smallState [(.SYS_RST_STATUS_boot_ready, 0, 1), (.HK_CTRL_compat_en, 0, 1)]) := by decide

theorem test_HkChannels_1 : (fun (c : HkChId) (o : HkObs) (s : State) => s.converting = some c.val
      ∧ s.hk.left ≠ 0)
      (3) ({ code := 100 }) ({ smallState [(.HK_CH_CFG_en, 3, 1), (.HK_SEQ_chan, 0, 3), (.HK_SEQ_count, 0, 2)] with hk := { reg := true, left := 2 } }) := by decide

theorem test_HkChannels_2 : (fun (c : HkChId) (s : State) => s.hostUnreachable = false
      ∧ s.readable .host .HK_CH_RAW c = true
      ∧ s.padHeld 6 = false)
      (3) (smallState [(.SYS_RST_STATUS_boot_ready, 0, 1), (.HK_CH_RAW_seq, 3, 5)]) := by decide

theorem test_HkChannels_3 : (fun (c : HkChId) (cfg flt : Nat) (s : State) => s.fate .host .HK_CH_CFG c = .takes
      ∧ s.fate .host .HK_CH_FLT c = .takes)
      (3) (0x200001) (0x12) (smallState [(.SYS_RST_STATUS_boot_ready, 0, 1)]) := by decide

theorem test_HkChannels_4 : (fun (c : HkChId) (s : State) => s.fate .host .HK_CH_CFG c = .takes
      ∧ s.rd .HK_CH_CFG_in_mode c < 2)
      (3) (smallState [(.SYS_RST_STATUS_boot_ready, 0, 1), (.HK_CH_CFG_in_mode, 3, 1)]) := by decide

theorem test_HkChannels_5 : (fun (c : HkChId) (s : State) => s.fate .host .HK_CH_CFG c = .takes)
      (3) (smallState [(.SYS_RST_STATUS_boot_ready, 0, 1)]) := by decide

theorem test_HkChannels_6 : (fun (c : HkChId) (s : State) => s.on .HK_CH_STATUS_rst_closed c = true)
      (3) (smallState [(.HK_CH_STATUS_rst_closed, 3, 1)]) := by decide

theorem test_HkChannels_7 : (fun (c : HkChId) (s : State) => s.on .HK_CH_STATUS_clamp_live c = false)
      (3) (smallState []) := by decide

theorem test_HkChannels_8 : (fun (c : HkChId) (early : Bool) (s : State) => s.on .HK_CH_STATUS_clamp_live c = true)
      (3) (false) (smallState [(.HK_CH_STATUS_clamp_live, 3, 1), (.HK_CH_CFG_in_mode, 3, 1)]) := by decide

theorem test_HkChannels_9 : (fun (c : HkChId) (meas : Nat) (limit : Bool) (s : State) => s.on .HK_CH_CFG_en c = true
      ∧ (s.rd .HK_CH_CFG_exc_mode c = 1 ∨ s.rd .HK_CH_CFG_exc_mode c = 2)
      ∧ (s.hkCh c).excBad ≤ 3
      ∧ (s.hkCh c).excGood ≤ 3)
      (3) (0) (true) ((smallState [(.HK_CH_CFG_en, 3, 1), (.HK_CH_CFG_exc_mode, 3, 1)]).modHkCh 3 (fun h => { h with excBad := 2 })) := by decide

theorem test_HkOutputs_1 : (fun (k : AoutId) (c : Instr) (f : Fld) (s : State) => (c = .aoutOvervolt k ∧ f = .HK_AOUT_STATUS_ov ∧ s.on .HK_AOUT_STATUS_ov k = false
      ∨ c = .aoutIlim k ∧ f = .HK_AOUT_STATUS_ilim ∧ s.on .HK_AOUT_STATUS_driving k = true))
      (1) (.aoutOvervolt 1) (.HK_AOUT_STATUS_ov) (smallState [(.HK_AOUT_CTRL_en, 1, 1), (.HK_AOUT_STATUS_driving, 1, 1)]) := by decide

theorem test_HkOutputs_2 : (fun (a b : AoutId) (s : State) => a < b
      ∧ s.on .HK_AOUT_CTRL_en a = true
      ∧ s.on .HK_AOUT_CTRL_en b = true
      ∧ s.on .HK_AOUT_STATUS_ilim a = true
      ∧ s.on .HK_AOUT_STATUS_ilim b = true)
      (0) (2) (smallState [(.HK_AOUT_CTRL_en, 0, 1), (.HK_AOUT_CTRL_en, 2, 1), (.HK_AOUT_STATUS_ilim, 0, 1), (.HK_AOUT_STATUS_ilim, 2, 1)]) := by decide

theorem test_HkOutputs_3 : (fun (k : AoutId) (good back : List Bool) (s : State) => s.on .HK_AOUT_STATUS_wired k = false)
      (1) ([false, true]) ([false, true]) (smallState [(.HK_AOUT_CTRL_en, 1, 1), (.HK_AOUT_STATUS_ilim, 1, 1), (.HK_AOUT_STATUS_ov, 1, 1)]) := by decide

theorem test_HkOutputs_4 : (fun (s : State) => s.on .HK_ALM_CTRL_alm_asserted = true)
      (smallState [(.HK_ALM_CTRL_alm_asserted, 0, 1)]) := by decide

theorem test_HkOutputs_5 : (fun (s : State) => s.on .HK_ALM_CTRL_alm_asserted = false
      ∧ s.on .HK_ALM_CTRL_alm_stuck = false)
      (smallState []) := by decide

theorem test_HkOutputs_6 : (fun (n : Eng) (s : State) => s.fate .host .CAL_CTRL 0 = .takes)
      (1) ({ smallState [(.SYS_RST_STATUS_boot_ready, 0, 1), (.SYS_MODE_mode, 0, 4)] with cal := { conv := [(1, 2)] } }) := by decide

theorem test_SensorBusDiscovery_1 : (fun (s : State) => s.fate .host .HK_I3C_CTRL 0 = .takes)
      (smallState [(.SYS_RST_STATUS_boot_ready, 0, 1)]) := by decide

theorem test_SensorBusDiscovery_2 : (fun (s : State) => s.fate .host .HK_I3C_CTRL 0 = .takes)
      (smallState [(.SYS_RST_STATUS_boot_ready, 0, 1), (.HK_I3C_CTRL_i3c_en, 0, 1), (.HK_I3C_STATUS_disc_state, 0, 3)]) := by decide

theorem test_SensorBusDiscovery_3 : (fun (pid bcr dcr aged j : Nat) (s : State) => s.disc = 1
      ∧ s.padHeld 4 = false
      ∧ j < 16
      ∧ s.tgtIndex (pid % 2 ^ 48) aged = some j)
      (0x123456789ABC) (5) (6) (1) (0) (smallState [(.HK_I3C_STATUS_disc_state, 0, 1)]) := by decide

theorem test_SensorBusDiscovery_4 : (fun (pid aged j : Nat) (s : State) => (upTo 16).all (fun k => decide (s.rd .HK_I3C_TGT_INFO_addr k = 0 ∨ s.tgtPid k ≠ pid)) = true
      ∧ s.tgtIndex pid aged = some j)
      (7) (0) (2) (smallState [(.HK_I3C_TGT_INFO_present, 0, 1), (.HK_I3C_TGT_INFO_present, 1, 1)]) := by decide

theorem test_SensorBusDiscovery_5 : (fun (pid bcr dcr aged : Nat) (s : State) => s.disc ≠ 1 ∨ s.tgtIndex (pid % 2 ^ 48) aged = none)
      (0x123456789ABC) (5) (6) (0) ((upTo 16).foldl (fun t j => t.modTgt j (fun x => { x with freed := 3 })) (smallState [(.HK_I3C_STATUS_disc_state, 0, 1)])) := by decide

theorem test_SensorBusDiscovery_6 : (fun (s : State) => s.disc = 1
      ∧ s.padHeld 4 = false)
      (smallState [(.HK_I3C_STATUS_disc_state, 0, 1)]) := by decide

theorem test_SensorBusDiscovery_7 : (fun (c : Instr) (s : State) => (c = .i3cRoundAbort ∧ s.disc = 1 ∨ c = .i3cHotJoin ∧ s.disc = 2)
      ∧ s.padHeld 4 = false
      ∧ s.rd .HK_I3C_STATUS_restarts < 8)
      (.i3cRoundAbort) (smallState [(.HK_I3C_STATUS_disc_state, 0, 1), (.HK_I3C_STATUS_restarts, 0, 7)]) := by decide

theorem test_SensorBusDiscovery_8 : (fun (s : State) => s.disc = 3
      ∧ s.padHeld 4 = false)
      (smallState [(.HK_I3C_STATUS_disc_state, 0, 3), (.HK_I3C_CTRL_hj_en, 0, 1)]) := by decide

theorem test_SensorBusDiscovery_9 : (fun (s : State) => s.disc = 1
      ∧ s.padHeld 4 = false
      ∧ s.rd .HK_I3C_STATUS_present_mask = 0xFFFF)
      (smallState [(.HK_I3C_STATUS_disc_state, 0, 1), (.HK_I3C_STATUS_present_mask, 0, 0xFFFF)]) := by decide

theorem test_SensorBusDiscovery_10 : (fun (s : State) => s.disc = 2)
      (smallState [(.HK_I3C_STATUS_disc_state, 0, 2)]) := by decide

theorem test_SensorBusDiscovery_11 : (fun (j : Fin 16) (s : State) => s.fate .host .HK_I3C_CTRL 0 = .takes
      ∧ s.rd .HK_I3C_CTRL_i3c_en = 1
      ∧ s.disc ≠ 0)
      (3) (smallState [(.SYS_RST_STATUS_boot_ready, 0, 1), (.HK_I3C_TGT_INFO_present, 3, 1), (.HK_I3C_STATUS_disc_state, 0, 4), (.HK_I3C_CTRL_i3c_en, 0, 1)]) := by decide

theorem test_SensorBusDiscovery_12 : (fun (ack : List Bool) (j : Nat) (s : State) => s.disc = 3
      ∧ s.padHeld 4 = false
      ∧ j < 16
      ∧ s.on .HK_I3C_TGT_INFO_present j = true)
      ([]) (3) ((smallState [(.HK_I3C_STATUS_disc_state, 0, 3), (.HK_I3C_TGT_INFO_present, 3, 1), (.HK_I3C_STATUS_present_mask, 0, 8)]).modTgt 3 (fun t => { t with nacks := 2 })) := by decide

theorem test_SensorBusTransfers_1 : (fun (r : RingId) (d : Desc) (data : BufRead) (s : State) => s.headDesc r 9 = some d)
      (4) ({ sq := 4, opcode := 9, len := 2, param0 := 3 }) ({ bytes := [1, 2] }) ((smallState [(.HOST_RCTX_CFG_class, 4, 4), (.HK_I3C_STATUS_disc_state, 0, 3), (.HK_I3C_TGT_INFO_present, 3, 1)]).modRing 4 (fun q => { q with fetched := [{ sq := 4, opcode := 9, len := 2, param0 := 3 }] })) := by decide

theorem test_SensorBusTransfers_2 : (fun (r : RingId) (data : BufRead) (s : State) => s.ring.all (fun kv => kv.2.fetched.isEmpty) = true)
      (4) ({}) ((smallState []).modRing 4 (fun q => { q with nextCpl := 9 })) := by decide

theorem test_SensorBusTransfers_3 : (fun (res : I3cRes) (o : I3cOp) (s : State) => s.xferOf res.sq = some o
      ∧ s.padHeld 4 = false)
      ({ sq := 4, sent := 2 }) ({ d := { sq := 4, opcode := 9, len := 2, param0 := 3 } }) ({ smallState [(.HOST_RCTX_CFG_class, 4, 4)] with host := { i3cOps := [{ d := { sq := 4, opcode := 9, len := 2, param0 := 3 } }] } }) := by decide

theorem test_SensorBusTransfers_4 : (fun (o : I3cOp) (s : State) => s.host.i3cOps.head? = some o)
      ({ d := { sq := 4, opcode := 9, len := 2, param0 := 3 } }) ({ smallState [(.HOST_RCTX_CFG_class, 4, 4)] with host := { i3cOps := [{ d := { sq := 4, opcode := 9, len := 2, param0 := 3 } }] } }) := by decide

theorem test_StepRunsTheQueue_2 : (fun (s : State) => s.pending = [])
      (smallState []) := by decide

theorem test_TablesStayCanonical_1 : (fun (s t : State) => s.wf = true
      ∧ step s = .next t)
      (smallState [(.SYS_MODE_mode, 0, 1)]) (smallState [(.SYS_MODE_mode, 0, 1)]) := ⟨by decide, rfl⟩

theorem test_DieStaysFixed_1 : (fun (s t : State) => step s = .next t)
      (smallState []) (smallState []) := rfl

theorem test_RegistersOutsideTheFrame_1 : (fun (c : Instr) (f : Fld) (i : Nat) (s : State) => c.touches f.info.rg = false)
      (.clockLoss 1) (.LE_STATUS_acq_state) (0) (smallState []) := by decide

theorem test_PartsOutsideTheFrame_1 : (fun (c : Instr) (k : Comp) (s : State) => k ∉ c.parts)
      (.snapPeriod 1) (.eng) (smallState []) := by decide

theorem test_OtherEnginesKeep_1 : (fun (n m : Eng) (f : Fld) (l : List Nat) (k : Nat) (x : Int) (c : Instr) (s : State) => m ≠ n
      ∧ f.info.rg.isLe = true
      ∧ (c = .clipWindow n l k ∨ c = .acqCdSearchEnd n l ∨ c = .acqClkLock n x ∨ c = .acqClkTimeout n ∨ c = .acqEqConverge n
      ∨ c = .acqEqTimeout n ∨ c = .acqCarLock n x k ∨ c = .acqCarTimeout n ∨ c = .acqHoldRelock n x k
      ∨ c = .acqHoldTimeout n ∨ c = .fecReadingReport n ∨ c = .testSyncBlock n l ∨ c = .testErrRead .host n))
      (1) (2) (.LE_STATUS_acq_state) ([]) (5) (-5) (.acqCdSearchEnd 1 []) (smallState [(.LE_STATUS_acq_state, 1, 2)]) := by decide

theorem test_OtherEnginesKeep_2 : (fun (n m : Eng) (f : Fld) (o : MarginObs) (p : PosObs) (c : Instr) (s : State) => m ≠ n
      ∧ f.info.rg.isLe = true
      ∧ (c = .marginCompute n o ∨ c = .positionDecode n p))
      (1) (2) (.LE_STATUS_acq_state) ({}) ({}) (.marginCompute 1 {}) (smallState []) := by decide

theorem test_FlashOutsideTheRange_1 : (fun (r : RingId) (o : FlashOp) (n a : Nat) (s : State) => s.flashOf r = some o
      ∧ s.padHeld 4 = false)
      (4) ({ d := { sq := 4, opcode := 7, param1 := 0x1000000 }, data := [1, 2] }) (0) (5) ({ smallState [] with host := { flashOps := [{ d := { sq := 4, opcode := 7, param1 := 0x1000000 }, data := [1, 2] }] } }) := by decide

theorem test_FlashOutsideTheRange_2 : (fun (r : RingId) (data : BufRead) (fails : Nat) (a : Nat) (s : State) => a < shelfBase s.shelfTarget ∨ shelfBase s.shelfTarget + 0x100000 ≤ a)
      (4) ({}) (0) (5) (smallState []) := by decide

theorem test_FlashOutsideTheRange_3 : (fun (r : RingId) (fails : Nat) (a : Nat) (s : State) => a < shelfBase s.shelfTarget ∨ shelfBase s.shelfTarget + 128 ≤ a)
      (4) (0) (5) (smallState []) := by decide

theorem test_AbsentEngineWindows_1 : (fun (rq : Requester) (addr val : Nat) (s : State) => s.fuse.part = .skv4800
      ∧ 0x300000 ≤ addr
      ∧ addr < 0x500000
      ∧ addr % 4 = 0)
      (.host) (0x300024) (7) ({ smallState [(.SYS_RST_STATUS_boot_ready, 0, 1)] with fuse := { part := .skv4800 } }) := by decide

theorem test_AbsentEngineWindows_2 : (fun (addr : Nat) (r : Rg) (i : Nat) (s : State) => s.fuse.part = .skv4800
      ∧ 0x300000 ≤ addr
      ∧ addr < 0x500000
      ∧ regAt addr = some (r, i))
      (0x300024) (.LE_EQ_CR_CTRL) (2) ({ smallState [] with fuse := { part := .skv4800 } }) := by decide

theorem test_AbsentEngineWindows_3 : (fun (rq : Requester) (n : Eng) (s : State) => s.fuse.part = .skv4800
      ∧ 2 ≤ n.val
      ∧ s.hostUnreachable = false
      ∧ s.padHeld 6 = false)
      (.host) (2) ({ smallState [(.SYS_RST_STATUS_boot_ready, 0, 1)] with fuse := { part := .skv4800 } }) := by decide

theorem test_ModeAfterReset_1 : (fun (rq : Requester) (val : Nat) (c : Instr) (s : State) => s.fate rq .SYS_RESET 0 = .takes
      ∧ s.privileged rq = true
      ∧ (c = .warmReset rq ∨ c = .regWrite rq 0x20 val ∧ val % 2 = 1))
      (.ctl) (1) (.warmReset .ctl) (smallState [(.SYS_MODE_mode, 0, 3), (.SYS_MODE_role, 0, 1)]) := by decide

theorem test_ModeAfterReset_2 : (fun (ns : Nat) (s : State) => 10000 ≤ ns
      ∧ s.powerNow ≤ 2
      ∧ s.pwr.failed = false
      ∧ s.pwr.up = 0)
      (10000) (smallState [(.SYS_MODE_mode, 0, 3), (.SYS_MODE_role, 0, 1)]) := by decide

theorem test_ModeAfterReset_3 : (fun (s : State) => s.pwr.up = 2
      ∧ s.pin.mainEn = true)
      ({ smallState [(.SYS_MODE_mode, 0, 3)] with pwr := { up := 2 }, pin := { mainEn := true } }) := by decide

theorem test_ModeAfterReset_4 : (fun (rq : Requester) (val : Nat) (c : Instr) (s : State) => (c = .engineReset rq val ∨ c = .regWrite rq 0x20 val ∧ val % 2 = 0))
      (.ctl) (3) (.engineReset .ctl 3) (smallState [(.SYS_MODE_mode, 0, 3), (.LE_PROFILE_prof_active, 0, 5)]) := by decide

theorem test_CheckOnly_1 : (fun (r : RingId) (d : Desc) (s : State) => s.headDesc r 1 = some d
      ∧ d.param0.testBit 8 = true)
      (4) ({ sq := 4, opcode := 1, param0 := 0x70101 }) ((smallState []).modRing 4 (fun q => { q with fetched := [{ sq := 4, opcode := 1, param0 := 0x70101 }] })) := by decide

theorem test_PmSyncRefused_1 : (fun (tod : Nat) (s : State) => s.on .PERF_PM_SYNC_pm_sync_en = true
      ∧ (s.tim.pmEdge.map (fun e => decide (todElapsed e tod ≤ todSec * 9 / 10))).getD false = false
      ∧ 50000000 < (s.pmDelta tod).natAbs)
      (19660800000000) (smallState [(.PERF_PM_SYNC_pm_sync_en, 0, 1)]) := by decide

theorem test_ShadowDropsWrites_1 : (fun (addr val : Nat) (r : Rg) (i : Nat) (s : State) => s.modeNow = 5
      ∧ addr % 4 = 0
      ∧ addr < 0x800000
      ∧ regAt addr = some (r, i)
      ∧ r.mirrored = true
      ∧ s.reaches .host r = true
      ∧ s.absentReg r i = false)
      (0x200024) (7) (.LE_EQ_CR_CTRL) (1) (smallState [(.SYS_RST_STATUS_boot_ready, 0, 1), (.SYS_MODE_mode, 0, 5)]) := by decide

theorem test_ShadowDropsWrites_2 : (fun (addr val : Nat) (r : Rg) (i : Nat) (f : Fld) (j : Nat) (s : State) => s.modeNow = 5
      ∧ addr % 4 = 0
      ∧ addr < 0x800000
      ∧ regAt addr = some (r, i)
      ∧ r.mirrored = true
      ∧ s.reaches .host r = true
      ∧ s.absentReg r i = false
      ∧ f.info.rg ∉ recordRegs)
      (0x200024) (7) (.LE_EQ_CR_CTRL) (1) (.LE_EQ_CR_CTRL_mu_acq) (1) (smallState [(.SYS_RST_STATUS_boot_ready, 0, 1), (.SYS_MODE_mode, 0, 5)]) := by decide

theorem test_LifecycleCopies_1 : (fun (v : Nat) (s : State) => (s.fuse.lc0 = v ∧ s.fuse.lc1 = v ∨ s.fuse.lc0 = v ∧ s.fuse.lc2 = v ∨ s.fuse.lc1 = v ∧ s.fuse.lc2 = v))
      (2) ({ smallState [] with fuse := { lc0 := 2, lc1 := 1, lc2 := 2 } }) := by decide

theorem test_LifecycleCopies_2 : (fun (v : Nat) (b : List Byte) (s : State) => s.sec.lcPend = some (v, b))
      (2) ([]) ({ smallState [] with fuse := { lc0 := 1, lc1 := 1, lc2 := 1 }, sec := { lcPend := some (2, []) } }) := by decide

theorem test_LifecycleCopies_3 : (fun (old v : Nat) (b : List Byte) (seen : List (Nat × Nat)) (rtc : Nat) (s : State) => s.sec.lcPend = some (v, b)
      ∧ s.lcState = old
      ∧ s.fuse.lc1 = old
      ∧ s.railsBad (railsOut seen) rtc ≠ 0)
      (1) (2) ([]) ([(700, 700), (0, 90)]) (99) ({ smallState [(.PWR_RAIL_rail_ok, 0, 127)] with fuse := { lc0 := 1, lc1 := 1, lc2 := 1 }, sec := { lcPend := some (2, []) } }) := by decide

theorem test_LifecycleCopies_4 : (fun (old v : Nat) (b : List Byte) (ns : Nat) (rq : Requester) (c : Instr) (s : State) => s.sec.lcPend = some (v, b)
      ∧ s.lcState = old
      ∧ s.fuse.lc1 = old
      ∧ (c = .resetPin ns ∨ c = .warmReset rq ∨ c = .coldResetRelease))
      (1) (2) ([]) (10000) (.ctl) (.resetPin 10000) ({ smallState [] with fuse := { lc0 := 1, lc1 := 1, lc2 := 1 }, sec := { lcPend := some (2, []) } }) := by decide

theorem test_CountersThatNeverCount_1 : (fun (k : Nat) (s : State) => (553 < k ∨ k = 537 ∨ (k < 128 ∧ 24 < k % 32)
      ∨ s.fuse.part = .skv4800 ∧ (64 ≤ k ∧ k < 128 ∨ 320 ≤ k ∧ k < 512)))
      (64) ({ smallState [] with fuse := { part := .skv4800 } }) := by decide

theorem test_CountersThatNeverCount_2 : (fun (k : Nat) (c : Instr) (s : State) => s.wf = true
      ∧ s.cntValid k = false)
      (600) (.nop 4) (smallState []) := by decide

theorem test_CountersThatNeverCount_3 : (fun (k : Nat) (s : State) => s.fate .host .PERF_CNT_SEL 0 = .takes
      ∧ k < 1024
      ∧ s.cntValid k = false)
      (600) (smallState [(.SYS_RST_STATUS_boot_ready, 0, 1)]) := by decide

theorem test_CountersThatNeverCount_4 : (fun (k tod : Nat) (x : Walk) (d : Desc) (s : State) => k < 768
      ∧ s.cntValid k = false
      ∧ s.perf.walk = some x
      ∧ s.rd .PERF_TLM_CTRL_cnt_ring ≠ 0xFFFF
      ∧ s.tlmBuf (s.rd .PERF_TLM_CTRL_cnt_ring) = some d
      ∧ s.padHeld 6 = false)
      (600) (99) ({ cnt := [(3, 1)] }) ({ sq := 5, cq := 9, len := 6208 }) ({ smallState [(.PERF_TLM_CTRL_cnt_ring, 0, 5), (.HOST_RCTX_STATE_state, 5, 1), (.HOST_RCTX_CFG_class, 5, 3), (.HOST_RCTX_CFG_log2size, 9, 6)] with perf := { walk := some { cnt := [(3, 1)] } } } |>.modRing 5 (fun q => { q with rxq := [{ sq := 5, cq := 9, len := 6208 }] })) := by decide

theorem test_BeforeBootReady_1 : (fun (rq : Requester) (addr val : Nat) (s : State) => rq ≠ .ctl
      ∧ s.on .SYS_RST_STATUS_boot_ready = false
      ∧ 0x10000 ≤ addr
      ∧ addr < 0x1000000
      ∧ addr % 4 = 0)
      (.host) (0x60008) (7) (smallState []) := by decide

theorem test_BeforeBootReady_2 : (fun (rq : Requester) (n : Eng) (ch : HkChId) (x : Nat) (c : Instr) (s : State) => rq ≠ .ctl
      ∧ s.on .SYS_RST_STATUS_boot_ready = false
      ∧ s.hostUnreachable = false
      ∧ (c = .testErrRead rq n ∨ c = .hkRawRead ch ∨ c = .todNsRead x ∨ c = .rtcLoRead x))
      (.host) (1) (3) (5) (.testErrRead .host 1) (smallState []) := by decide

theorem test_BeforeBootReady_3 : (fun (rq : Requester) (ns : Nat) (c : Instr) (s : State) => (c = .warmReset rq ∧ s.fate rq .SYS_RESET 0 = .takes ∧ s.privileged rq = true
      ∨ c = .resetPin ns ∧ 10000 ≤ ns ∧ s.powerNow ≤ 2 ∧ s.pwr.failed = false ∧ s.pwr.up = 0
      ∨ c = .coldResetRelease ∧ s.pwr.up = 2 ∧ s.pin.mainEn = true))
      (.ctl) (10000) (.warmReset .ctl) (smallState [(.SYS_RST_STATUS_boot_ready, 0, 1)]) := by decide

theorem test_BeforeBootReady_4 : (fun (obs : BootObs) (s : State) => s.on .SYS_RST_STATUS_boot_ready = false
      ∧ s.hostUnreachable = false
      ∧ s.pwr.up = 0)
      ({}) (smallState []) := by decide

end
end

section
/-! Register accesses: which registers stand in the windows of LE2 and LE3, what an access to an absent one does
(00_scope.md R2), and a write of HK_SEQ that changes another register (12_housekeeping.md R417, R441). -/
namespace Sys2Proof.Machine

/-! ### Addresses (17_register_map.md R536) -/

/-- An instance that a register's address pattern answers lies there and is one of its instances. -/
theorem Rg.at_eq_some {r : Rg} {addr i : Nat} (h : r.at addr = some i) : r.addr i = addr ∧ i < r.info.count := by
  simp only [Rg.at, Option.ite_none_right_eq_some, Option.some.injEq, Bool.and_eq_true, decide_eq_true_eq,
    beq_iff_eq] at h
  obtain ⟨⟨⟨⟨hbase, hstride⟩, hcount⟩, -⟩, rfl⟩ := h
  refine ⟨?_, hcount⟩
  have hmul := Nat.div_mul_cancel (Nat.dvd_of_mod_eq_zero hstride)
  simp only [Rg.addr, hmul]
  omega

theorem regAt_eq_some {addr i : Nat} {r : Rg} (h : regAt addr = some (r, i)) : r.at addr = some i := by
  obtain ⟨q, -, hq⟩ := List.exists_of_findSome?_eq_some h
  obtain ⟨j, hj, e⟩ := Option.map_eq_some_iff.mp hq
  cases e
  exact hj

/-- A line engine's register stands once in the window of each engine, 0x100000 bytes apart from LE0 on; every other one
lies with all its instances below the windows of LE2 and LE3, or above them. -/
def Rg.placed (r : Rg) : Bool :=
  if r.isLe then r.info.stride == 0x100000 && decide (r.info.base < 0x200000)
  else decide (r.info.base + r.info.count * r.info.stride < 0x300000) || decide (0x500000 ≤ r.info.base)

theorem Rg.placed_all (r : Rg) : r.placed = true := by cases r <;> decide

/-- A register in the windows of LE2 and LE3 is a line engine's, of an engine from LE2 on. -/
theorem Rg.isLe_of_addr {r : Rg} {i : Nat} (hcount : i < r.info.count) (lo : 0x300000 ≤ r.addr i) (hi : r.addr i < 0x500000) :
    r.isLe = true ∧ 2 ≤ i := by
  have hp := r.placed_all
  unfold Rg.placed at hp
  unfold Rg.addr at lo hi
  split at hp
  case isTrue hle =>
    simp only [Bool.and_eq_true, beq_iff_eq, decide_eq_true_eq] at hp
    obtain ⟨hstride, hbase⟩ := hp
    rw [hstride] at lo
    exact ⟨hle, by omega⟩
  case isFalse =>
    simp only [Bool.or_eq_true, decide_eq_true_eq] at hp
    have hlast : i * r.info.stride ≤ r.info.count * r.info.stride := Nat.mul_le_mul_right _ hcount.le
    omega

/-! ### Absent engines (00_scope.md R2, R3) -/

section
variable {s : State} (hpart : s.fuse.part = .skv4800)
include hpart

theorem State.absentReg_of_isLe {r : Rg} {i : Nat} (hle : r.isLe = true) (hi : 2 ≤ i) : s.absentReg r i = true := by
  simp [State.absentReg, hpart, hle, hi]

theorem State.absentReg_of_regAt {addr i : Nat} {r : Rg} (h : regAt addr = some (r, i)) (lo : 0x300000 ≤ addr)
    (hi : addr < 0x500000) : s.absentReg r i = true := by
  obtain ⟨rfl, hcount⟩ := Rg.at_eq_some (regAt_eq_some h)
  obtain ⟨hle, hi2⟩ := Rg.isLe_of_addr hcount lo hi
  exact s.absentReg_of_isLe hpart hle hi2

end

theorem State.regTake_absent (s : State) (rq : Requester) {r : Rg} {i : Nat} (val : Nat) (h : s.absentReg r i = true) :
    s.regTake rq r i val = s := by
  have hfate : s.fate rq r i = .ignored := by simp [State.fate, h]
  simp only [State.regTake, hfate]

theorem State.regRead_absent (s : State) {r : Rg} {i : Nat} (h : s.absentReg r i = true) : s.regRead r i = 0 := by
  unfold State.regRead
  exact if_pos h

theorem State.testErrRead_absent (s : State) (rq : Requester) {n : Nat} (h : s.absentReg .LE_FEC_TEST n = true)
    (hreach : s.hostUnreachable = false) : s.testErrRead rq n = s.emit (.rdData 0) := by
  have hread : s.readable rq .LE_FEC_TEST n = false := by simp [State.readable, h]
  simp [State.testErrRead, State.answer, hread, hreach]

/-- An aligned write to BAR0 below the contexts of the rings and the debug window reaches the register that stands
there, if one does. -/
theorem State.regWrite_below_contexts (s : State) (rq : Requester) {addr : Nat} (val : Nat) (hal : addr % 4 = 0)
    (hlt : addr < 0x800000) :
    s.regWrite rq addr val = (regAt addr).elim s (fun x => s.regTake rq x.1 x.2 val) := by
  have hbar : ¬ 0x1000000 ≤ addr := by omega
  have hdebug : inDebug addr = false := by simp [inDebug]; omega
  have hctx : s.ctxBusy addr = false := by simp [State.ctxBusy]; omega
  unfold State.regWrite
  simp only [if_neg hbar, hal, hdebug, hctx, bne_self_eq_false, Bool.false_eq_true, if_false]
  cases regAt addr <;> rfl

/-- Settles O53: every register in these windows is one that the part lacks, so that no access reaches it. -/
theorem absentEngineWindows : Obligations.AbsentEngineWindows := by
  refine ⟨?write, ?read, ?testErr⟩
  case write =>
    intro rq addr val s hpart lo hi hal
    refine ⟨s.regWrite rq addr val, rfl, ?_⟩
    rw [s.regWrite_below_contexts rq val hal (by omega)]
    cases hreg : regAt addr with
    | none => rfl
    | some x => exact s.regTake_absent rq val (State.absentReg_of_regAt hpart hreg lo hi)
  case read =>
    intro addr r i s hpart lo hi hreg
    exact s.regRead_absent (State.absentReg_of_regAt hpart hreg lo hi)
  case testErr =>
    intro rq n s hpart hn hreach hpad
    refine ⟨s.testErrRead rq n, rfl, ?_⟩
    rw [s.testErrRead_absent rq (State.absentReg_of_isLe hpart rfl hn) hreach]
    simp [State.emit, outGroup, hpad]

/-! ### A write of HK_SEQ (12_housekeeping.md R417, R441) -/

/-- The device after boot, with channel 3 enabled, slot 0 of the regular sequence on channel 3, and the sequence
started: three register writes of the host. -/
def seqOnChannel3 : State :=
  (((State.reset.wr .SYS_RST_STATUS_boot_ready 0 1).regWrite .host 0x40160 1).regWrite .host 0x40500 3).regWrite
    .host 0x40000 2

section
set_option maxRecDepth 8000

theorem fate_hkSeq_seqOnChannel3 : seqOnChannel3.fate .host .HK_SEQ 0 = .takes := by decide

theorem idle_seqOnChannel3 : seqOnChannel3.rd .HK_STATUS_idle = 0 := by decide

/-- With no channel in the slot in progress the converter stands idle, and HK_STATUS shows it. -/
theorem idle_after_hkSeq_write : (seqOnChannel3.regWrite .host 0x40500 63).rd .HK_STATUS_idle = 1 := by decide

end

/-- Refutes O35: HK_SEQ is among the registers whose write is held to do no more than its access types, but the write
that takes the channel out of the slot in progress changes HK_STATUS too, whose idle rises. -/
theorem not_registerWrites : ¬ Obligations.RegisterWrites := by
  intro h
  obtain ⟨-, -, hother, -⟩ := h
  obtain ⟨t, ht, hkeep⟩ := hother .host .HK_SEQ 0 .HK_STATUS_idle 0 0x40500 63 seqOnChannel3 (by decide) (by decide)
    (by decide) (by decide) (by rfl) fate_hkSeq_seqOnChannel3 (by decide) (Or.inl (by decide))
  cases ht
  rw [idle_seqOnChannel3] at hkeep
  exact absurd (idle_after_hkSeq_write.symm.trans hkeep) (by decide)

end Sys2Proof.Machine
end

section
/-! The state right after reset, what a reset leaves of SYS_MODE, and check_only under a remembered tag (02_modes.md R34,
R38, R40). -/
namespace Sys2Proof.Machine

/-! ### The state right after reset (02_modes.md R34; 17_register_map.md R543) -/

/-- At reset no register is listed, so that each field reads the reset value of its table. -/
theorem State.rd_reset (f : Fld) (i : Nat) : State.reset.rd f i = f.info.rst := rfl

/-- Settles O46: the tables of the reset state are empty, and every other part stands at its default. -/
theorem resetState : Obligations.ResetState := by
  refine ⟨?device, ?tables, State.rd_reset⟩
  case device => exact ⟨rfl, rfl, rfl, rfl, rfl, rfl, rfl, rfl, rfl⟩
  case tables => exact fun _ m _ => ⟨rfl, State.rd_reset .SEC_MEAS_meas m, rfl⟩

/-! ### What leaves SYS_MODE as it was -/

/-- The footprint of every part and of every register but SYS_MODE. -/
def besideSysMode : Nat := 0xfffffffffffffffffffffffffffffbffffffffffffffffffffffffffffffffffffffff

theorem besideSysMode_sysMode : besideSysMode.testBit Rg.SYS_MODE.ctorIdx = false := by decide

/-- A change beside SYS_MODE leaves its fields. -/
theorem Spec.sysMode {s t : State} (h : Spec besideSysMode s t) {f : Fld} (hf : f.info.rg = .SYS_MODE) (i : Nat) :
    t.rd f i = s.rd f i :=
  h.rd f i (hf ▸ besideSysMode_sysMode)

theorem Spec.modeNow {s t : State} (h : Spec besideSysMode s t) : t.modeNow = s.modeNow := h.sysMode rfl 0
theorem Spec.role {s t : State} (h : Spec besideSysMode s t) : t.role = s.role := h.sysMode rfl 0

/-! ### The mode after a reset (02_modes.md R34; 17_register_map.md R543, R544) -/

theorem SMap.get_filter_kept {α : Type} (d : α) (m : SMap α) {p : Nat × α → Bool} {k : Nat} (h : ∀ v, p (k, v) = true) :
    SMap.get d (m.filter p) k = SMap.get d m k := by
  induction m with
  | nil => rfl
  | cons x m ih =>
    obtain ⟨a, b⟩ := x
    rw [List.filter_cons]
    by_cases e : k = a
    · subst e
      simp [h, SMap.get]
    · split <;> simp [SMap.get, e, ih]

theorem SMap.get_filter_dropped {α : Type} (d : α) (m : SMap α) {p : Nat × α → Bool} {k : Nat} (h : ∀ v, p (k, v) = false) :
    SMap.get d (m.filter p) k = d := by
  induction m with
  | nil => rfl
  | cons x m ih =>
    obtain ⟨a, b⟩ := x
    rw [List.filter_cons]
    by_cases e : k = a
    · subst e
      simpa [h] using ih
    · split <;> simp [SMap.get, e, ih]

/-- A field that a reset does not keep reads its reset value. -/
theorem State.rd_of_dropped {s t : State} {ids : List Nat} {f : Fld} (i : Nat) (hf : ids.contains f.ctorIdx = false)
    (h : t.regs = s.regs.filter (fun kv => ids.contains (kv.1 % 1024))) : t.rd f i = f.info.rst := by
  unfold State.rd
  rw [h]
  exact SMap.get_filter_dropped _ _ (fun _ => by simpa only [Fld.key_mod] using hf)

/-- SETUP and UNPAIRED are the reset values of SYS_MODE. -/
def State.inSetup (s : State) : Prop := s.modeNow = 0 ∧ s.role = 0

theorem State.inSetup_of_spec {s t : State} (h : Spec besideSysMode s t) (hs : s.inSetup) : t.inSetup :=
  ⟨h.modeNow.trans hs.1, h.role.trans hs.2⟩

theorem State.warmReset_inSetup (s : State) : s.warmReset.inSetup := by
  unfold State.warmReset State.warmCore
  extract_lets +onlyGivenNames ids h t
  have ht : t.inSetup :=
    ⟨State.rd_of_dropped (s := s.burnCut) (ids := warmKeeps) 0 (by decide) rfl,
      State.rd_of_dropped (s := s.burnCut) (ids := warmKeeps) 0 (by decide) rfl⟩
  refine State.inSetup_of_spec ?_ ht
  refine Spec.wrs_cons (Spec.wrs_cons (Spec.wrs_nil ?_))
  exact Spec.step (State.wr_spec _ _ _ _) rfl (Spec.step (State.wr_spec _ _ _ _) rfl
    (Spec.step (State.keepCounters_spec _ _) rfl Spec.refl))

theorem State.coldReset_inSetup (s : State) (byPin : Bool) : (s.coldReset byPin).inSetup := by
  unfold State.coldReset State.coldCore
  extract_lets +onlyGivenNames ids t
  have ht : t.inSetup :=
    ⟨State.rd_of_dropped (s := s.burnCut) (ids := domIds (fun d => d == .cellar)) 0 (by decide) rfl,
      State.rd_of_dropped (s := s.burnCut) (ids := domIds (fun d => d == .cellar)) 0 (by decide) rfl⟩
  refine State.inSetup_of_spec ?_ ht
  refine Spec.wrs_cons (Spec.wrs_cons (Spec.wrs_cons (Spec.wrs_nil ?_)))
  exact Spec.step (State.wr_spec _ _ _ _) rfl (Spec.step (State.wr_spec _ _ _ _) rfl
    (Spec.step (State.wr_spec _ _ _ _) rfl Spec.refl))

/-- The registers of the ENGINE domain of one engine return to their reset values, and SYS_MODE is none of them. -/
theorem State.rd_engineFilter (s : State) (n : Nat) {f : Fld} (i : Nat)
    (hf : (domIds (fun d => d == .engine)).contains f.ctorIdx = false) :
    ({ s with regs := s.regs.filter (fun kv => !((domIds (fun d => d == .engine)).contains (kv.1 % 1024)
        && kv.1 / 1024 == n)) } : State).rd f i = s.rd f i :=
  SMap.get_filter_kept _ _ (fun _ => by simp only [Fld.key_mod, hf, Bool.false_and, Bool.not_false])

/-- The mode and the role of two states are the same. -/
def State.sameMode (s t : State) : Prop := t.modeNow = s.modeNow ∧ t.role = s.role

theorem State.sameMode_refl (s : State) : s.sameMode s := ⟨rfl, rfl⟩
theorem State.sameMode_trans {s t u : State} (h : s.sameMode t) (g : t.sameMode u) : s.sameMode u :=
  ⟨g.1.trans h.1, g.2.trans h.2⟩
theorem Spec.sameMode {s t : State} (h : Spec besideSysMode s t) : s.sameMode t := ⟨h.modeNow, h.role⟩

theorem State.engineReset_sameMode (s : State) (n : Nat) : s.sameMode (s.engineReset n) := by
  unfold State.engineReset
  extract_lets +onlyGivenNames active s1 ids s2 s3 x s4 s5 s6 s7 s8
  have h1 : s.sameMode s1 := Spec.sameMode (Spec.step (State.acqStop_spec _ _) rfl Spec.refl)
  have h2 : s1.sameMode s2 := ⟨s1.rd_engineFilter n 0 (by decide), s1.rd_engineFilter n 0 (by decide)⟩
  refine State.sameMode_trans (State.sameMode_trans h1 h2) (Spec.sameMode ?_)
  have h3 : Spec besideSysMode s2 s3 := Spec.step (State.keepCounters_spec _ _) rfl Spec.refl
  have h4 : Spec besideSysMode s2 s4 :=
    Spec.step (State.modFec_spec _ _ _) rfl (Spec.step (State.modAcq_spec _ _ _) rfl h3)
  have h6 : Spec besideSysMode s2 s6 :=
    Spec.step (State.modPm_spec _ _ _) rfl (Spec.step (State.modRx_spec _ _ _) rfl h4)
  have h7 : Spec besideSysMode s2 s7 := by
    refine Spec.wrs_cons (Spec.wrs_cons (Spec.wrs_cons (Spec.wrs_nil ?_)))
    exact Spec.step (State.wr_spec _ _ _ _) rfl (Spec.step (State.wr_spec _ _ _ _) rfl
      (Spec.step (State.wr_spec _ _ _ _) rfl h6))
  have h8 : Spec besideSysMode s2 s8 := Spec.step (State.addShadow_spec _ _ _ _ _) rfl h7
  exact Spec.step (State.ttAged_spec _ _) rfl (Spec.step (State.fabRefresh_spec _) rfl
    (Spec.step (State.pinRefresh_spec _ _) rfl (Spec.step (State.acqStart_spec _ _) rfl
      (Spec.step (State.txRefresh_spec _ _) rfl h8))))

theorem State.engineReset_foldl_sameMode (l : List Nat) :
    ∀ s : State, s.sameMode (l.foldl (fun t n => t.engineReset n) s) := by
  induction l with
  | nil => exact State.sameMode_refl
  | cons n l ih =>
    intro s
    rw [List.foldl_cons]
    exact State.sameMode_trans (s.engineReset_sameMode n) (ih _)

theorem State.engineResets_sameMode (s : State) (mask : Nat) : s.sameMode (s.engineResets mask) := by
  unfold State.engineResets
  extract_lets +onlyGivenNames l
  split
  · exact s.sameMode_refl
  · split
    · exact Spec.sameMode (Spec.step (State.raiseReg_spec _ _ _ _) rfl Spec.refl)
    · exact State.engineReset_foldl_sameMode l s

/-! ### A write of SYS_RESET -/

theorem regAt_sysReset : regAt 0x20 = some (.SYS_RESET, 0) := by decide

/-- A write to the address of SYS_RESET reaches it. -/
theorem State.regWrite_sysReset (s : State) (rq : Requester) (val : Nat) :
    s.regWrite rq 0x20 val = s.regTake rq .SYS_RESET 0 val := by
  rw [s.regWrite_below_contexts rq val rfl (by decide), regAt_sysReset]
  rfl

/-- No write of SYS_RESET names an absent resource: eng_rst acts on the engines of the part only. -/
theorem State.regTake_sysReset_takes {s : State} {rq : Requester} (val : Nat) (h : s.fate rq .SYS_RESET 0 = .takes) :
    s.regTake rq .SYS_RESET 0 val = s.sysResetWrite rq (val % 2 ^ 32) := by
  have habsent : s.namesAbsent .SYS_RESET 0 (val % 2 ^ 32) = false := by simp [State.namesAbsent]
  simp only [State.regTake, h, State.regAct, habsent, Bool.false_eq_true, if_false, State.regEffect]

/-- A write of SYS_RESET has no effect, or takes effect at once: no pair mirrors it, it has its clock in NAP, and it does
not lie in the cellar. -/
theorem State.fate_sysReset (s : State) (rq : Requester) :
    s.fate rq .SYS_RESET 0 = .ignored ∨ s.fate rq .SYS_RESET 0 = .takes := by
  have hmirrored : Rg.SYS_RESET.mirrored = false := by decide
  have hclock : Rg.SYS_RESET.unclocked = false := by decide
  have hdom : (Rg.SYS_RESET.info.dom == .cellar) = false := by decide
  simp only [State.fate, hmirrored, hclock, hdom, Bool.and_false, Bool.false_eq_true, if_false]
  split
  · exact Or.inl rfl
  · exact Or.inr rfl

theorem testBit_zero_mod_two_pow_32 (val : Nat) : (val % 2 ^ 32).testBit 0 = decide (val % 2 = 1) := by
  rw [Nat.testBit_zero, Nat.mod_mod_of_dvd val (by decide)]

/-- A privileged write of SYS_RESET with bit 0 set that takes effect is a WARM reset. -/
theorem State.regTake_sysReset_warm {s : State} {rq : Requester} {val : Nat} (hfate : s.fate rq .SYS_RESET 0 = .takes)
    (hpriv : s.privileged rq = true) (hval : val % 2 = 1) : s.regTake rq .SYS_RESET 0 val = s.warmReset := by
  simp only [State.regTake_sysReset_takes val hfate, State.sysResetWrite, hpriv, Bool.not_true, Bool.false_eq_true,
    if_false, testBit_zero_mod_two_pow_32, hval, decide_true, if_true]

/-- A write of SYS_RESET with bit 0 clear changes neither the mode nor the role. -/
theorem State.regTake_sysReset_sameMode (s : State) (rq : Requester) {val : Nat} (hval : val % 2 = 0) :
    s.sameMode (s.regTake rq .SYS_RESET 0 val) := by
  rcases s.fate_sysReset rq with hfate | hfate
  · simpa only [State.regTake, hfate] using s.sameMode_refl
  · have hbit : (val % 2 ^ 32).testBit 0 = false := by
      rw [testBit_zero_mod_two_pow_32, hval]
      rfl
    rw [State.regTake_sysReset_takes val hfate, State.sysResetWrite, hbit]
    split
    · exact Spec.sameMode (Spec.step (State.raiseReg_spec _ _ _ _) rfl Spec.refl)
    · exact s.engineResets_sameMode _

/-- The word that ENGINE_RESET writes leaves bit 0 clear: SYS_RESET holds no RW field. -/
theorem State.fieldWord_engRst (s : State) (mask : Nat) :
    s.fieldWord .SYS_RESET_eng_rst 0 mask = mask % 2 ^ 4 * 2 ^ 4 := rfl

/-- Settles O54: SETUP and UNPAIRED are the reset values of SYS_MODE, which a WARM and a COLD reset do not keep; it is no
register of the ENGINE domain, and nothing else in an ENGINE reset writes it. -/
theorem modeAfterReset : Obligations.ModeAfterReset := by
  refine ⟨?warm, ?pin, ?powerUp, ?engine⟩
  case warm =>
    rintro rq val c s hfate hpriv (rfl | ⟨rfl, hval⟩)
    · refine ⟨s.warmReset, ?_, s.warmReset_inSetup⟩
      exact congrArg Host.Outcome.next (State.regTake_sysReset_warm hfate hpriv rfl)
    · refine ⟨s.warmReset, ?_, s.warmReset_inSetup⟩
      exact congrArg Host.Outcome.next ((s.regWrite_sysReset rq val).trans (State.regTake_sysReset_warm hfate hpriv hval))
  case pin =>
    intro ns s hns hpower hfailed hup
    refine ⟨s.coldReset true, congrArg Host.Outcome.next ?_, s.coldReset_inSetup true⟩
    simp [hns, State.pinReset, hpower, hfailed, hup]
  case powerUp =>
    intro s hup hmain
    refine ⟨s.coldReset s.pwr.upPin, congrArg Host.Outcome.next ?_, s.coldReset_inSetup _⟩
    simp [hup, hmain]
  case engine =>
    rintro rq val c s (rfl | ⟨rfl, hval⟩)
    · exact ⟨_, rfl, s.regTake_sysReset_sameMode rq (by rw [s.fieldWord_engRst]; omega)⟩
    · refine ⟨s.regWrite rq 0x20 val, rfl, ?_⟩
      rw [s.regWrite_sysReset]
      exact s.regTake_sysReset_sameMode rq hval

/-! ### check_only and the remembered tags (02_modes.md R38, R40) -/

section
set_option maxRecDepth 8000

/-- A MODE_SET with check_only under the tag 7. -/
def checkOnlyTag7 : Desc := { sq := 4, opcode := 1, param0 := 0x70101 }

/-- The device remembers the completions of the tags 8 and 7, of which 8 was the last, and the MODE_SET above waits in
ring 4. -/
def rememberedTags : State :=
  ({ State.reset.wr .SYS_MODE_last_tag 0 8 with mode := { mem := [{ tag := 8, status := 1 }, { tag := 7, status := 1 }] } }
    : State).modRing 4 (fun q => { q with fetched := [checkOnlyTag7] })

theorem headDesc_rememberedTags : rememberedTags.headDesc 4 1 = some checkOnlyTag7 := by decide

theorem lastTag_rememberedTags : rememberedTags.rd .SYS_MODE_last_tag = 8 := by decide

/-- The remembered completion is answered again, and last_tag shows its tag. -/
theorem lastTag_after_checkOnlyTag7 : ∀ t, exec (.modeSet 4) rememberedTags = .next t → t.rd .SYS_MODE_last_tag = 7 := by
  rintro t h
  cases h
  decide

end

/-- Refutes O55: a MODE_SET whose tag is remembered is answered as before with check_only set too, and last_tag, a field
of SYS_MODE, takes its tag. -/
theorem not_checkOnly : ¬ Obligations.CheckOnly := by
  intro h
  obtain ⟨t, ht, -, -, hregs, -⟩ := h 4 checkOnlyTag7 rememberedTags headDesc_rememberedTags (by decide)
  have hkeep : t.rd .SYS_MODE_last_tag = rememberedTags.rd .SYS_MODE_last_tag := by simp only [State.rd, hregs]
  rw [lastTag_after_checkOnlyTag7 t ht, lastTag_rememberedTags] at hkeep
  exact absurd hkeep (by decide)

end Sys2Proof.Machine
end

section
/-! What a mode request does: how its checks and its kinds of end depend on the state, what SYS_MODE shows of a transition,
what of the mode machine and of the maps outlasts a commit, and the clauses of O27 (02_modes.md R36 to R71). -/
namespace Sys2Proof.Machine

/-! ### The kinds of end of a MODE_SET (02_modes.md R36 to R40) -/

section
variable {r : RingId} {d : Desc} {s : State} (hd : s.headDesc r 1 = some d)
include hd

theorem State.settle_of_headDesc : s.settle r 1 = s := by simp [State.settle, hd]

theorem exec_modeSet_remembered {m : Remembered}
    (hm : s.mode.mem.find? (fun m => m.tag == fieldOf d.param0 16 16) = some m) :
    exec (.modeSet r) s = .next (((s.popDesc r).wr .SYS_MODE_last_tag 0 m.tag).done d m.status m.detail) := by
  refine congrArg Host.Outcome.next ?_
  simp only [State.settle_of_headDesc hd, hd, State.popDesc_mode, hm]

section
variable (hm : s.mode.mem.find? (fun m => m.tag == fieldOf d.param0 16 16) = none)
include hm

theorem exec_modeSet_checkOnly (hc : d.param0.testBit 8 = true) :
    exec (.modeSet r) s = .next ((s.popDesc r).modeCheckOnly d d.param0) := by
  refine congrArg Host.Outcome.next ?_
  simp only [State.settle_of_headDesc hd, hd, State.popDesc_mode, hm, hc, if_true]

theorem exec_modeSet_request (hc : d.param0.testBit 8 = false) :
    exec (.modeSet r) s = .next ((s.popDesc r).modeRequest (some d) d.param0) := by
  refine congrArg Host.Outcome.next ?_
  simp only [State.settle_of_headDesc hd, hd, State.popDesc_mode, hm, hc, Bool.false_eq_true, if_false]

end
end

/-- What the checks find does not depend on the rings, so that taking the descriptor changes none of it. -/
theorem State.modeCheck_popDesc (s : State) (r w : Nat) : (s.popDesc r).modeCheck w = s.modeCheck w := rfl

theorem State.modeRequest_refused {s : State} {w : Nat} {e : ModeErr} (d : Option Desc) (h : s.modeCheck w = some e) :
    s.modeRequest d w = s.modeRefused d w e := by
  simp only [State.modeRequest, h]

theorem State.modeRequest_same {s : State} {w : Nat} (d : Option Desc) (h : s.modeCheck w = none)
    (hsame : s.modeSame s.staged (w % 16) (fieldOf w 4 2) = true) : s.modeRequest d w = s.modeDone d w 0 (s.modeOk w) := by
  simp only [State.modeRequest, h, hsame, if_true]

theorem State.modeRequest_starts {s : State} {w : Nat} (d : Option Desc) (h : s.modeCheck w = none)
    (hdiff : s.modeSame s.staged (w % 16) (fieldOf w 4 2) = false) :
    s.modeRequest d w = (s.mirror 0xFF 0 (changeRec 2 (beBytes 4 w))).modeStart d w
      (if w % 16 == 0 || w % 16 == 5 then {} else s.staged) := by
  simp only [State.modeRequest, h, hdiff, Bool.false_eq_true, if_false]

/-- A request that its checks let through has a legal mode and role in its word (R36, R58). -/
theorem State.legal_of_modeCheck {s : State} {w : Nat} (h : s.modeCheck w = none) :
    badModeWord w = false ∧ roleLegal (w % 16) (fieldOf w 4 2) = true := by
  simp only [State.modeCheck, errDev] at h
  split at h
  · cases h
  · split at h
    · cases h
    · rename_i hword
      split at h
      · cases h
      · rename_i hlegal
        exact ⟨by simpa using hword, by simpa using hlegal⟩

/-- The mode of a legal word is a mode code; SETUP leaves the device UNPAIRED, and SHADOW is STANDBY (R33, R35). -/
theorem mode_lt_of_legal {w : Nat} (h : badModeWord w = false) : w % 16 < 6 := by
  simp only [badModeWord, Bool.or_eq_false_iff, decide_eq_false_iff_not] at h
  obtain ⟨⟨⟨hmode, -⟩, -⟩, -⟩ := h
  omega

theorem role_of_setup {role : Nat} (h : roleLegal 0 role = true) : role = 0 := by simpa [roleLegal] using h
theorem role_of_shadow {role : Nat} (h : roleLegal 5 role = true) : role = 2 := by simpa [roleLegal] using h

theorem fieldOf_lt (n lo w : Nat) : fieldOf n lo w < 2 ^ w := Nat.mod_lt _ (Nat.two_pow_pos w)

/-! ### Refused, repeated and checked requests (02_modes.md R38 to R40, R60, R61) -/

/-- A MODE_SET that completes is remembered and shown in last_tag. -/
theorem State.modeDone_ended (s : State) (d : Desc) (w status detail : Nat) :
    (s.modeDone (some d) w status detail).ended d status detail 0 := State.done_ended _ _ _ _ _

theorem State.rd_modeDone (s : State) (d : Desc) (w status detail : Nat) (f : Fld) (i : Nat) :
    (s.modeDone (some d) w status detail).rd f i = (s.wr .SYS_MODE_last_tag 0 (fieldOf w 16 16)).rd f i :=
  State.rd_done _ _ _ _ _ _ _

theorem State.modeDone_lastTag (s : State) (d : Desc) (w status detail : Nat) :
    (s.modeDone (some d) w status detail).rd .SYS_MODE_last_tag = fieldOf w 16 16 := by
  rw [State.rd_modeDone, State.rd_wr_self]
  exact Nat.mod_mod _ _

/-- The tag that a completion shows lies beside the mode, the role and busy. -/
theorem State.rd_modeDone_ne (s : State) (d : Option Desc) (w status detail : Nat) {f : Fld} (i : Nat)
    (hf : .SYS_MODE_last_tag ≠ f) : (s.modeDone d w status detail).rd f i = s.rd f i := by
  cases d with
  | none => rfl
  | some d => rw [State.rd_modeDone, State.rd_wr_ne _ _ _ _ hf]

theorem State.modeDone_tr (s : State) (d : Option Desc) (w status detail : Nat) :
    (s.modeDone d w status detail).mode.tr = s.mode.tr := by
  cases d with
  | none => rfl
  | some d => simp [State.modeDone]

theorem State.modeDone_cnt (s : State) (d : Option Desc) (w status detail : Nat) :
    (s.modeDone d w status detail).cnt = s.cnt := by
  cases d with
  | none => rfl
  | some d => simp [State.modeDone]

/-- A completion changes no register. -/
theorem State.flushCpl_regs (n : Nat) : ∀ (s : State) (r : Nat), (s.flushCpl n r).regs = s.regs := by
  induction n with
  | zero => exact fun _ _ => rfl
  | succ n ih =>
    intro s r
    unfold State.flushCpl
    extract_lets +onlyGivenNames q
    split
    · rfl
    · exact ih _ _

theorem State.done_regs (s : State) (d : Desc) (status detail moved : Nat) : (s.done d status detail moved).regs = s.regs :=
  State.flushCpl_regs _ _ _

/-- A checked request ends in its completion alone, which tells what the checks found (R40). -/
theorem State.modeCheckOnly_eq (s : State) (d : Desc) (w : Nat) :
    ∃ status detail, s.modeCheckOnly d w = s.done d status detail
      ∧ (∀ e, s.modeCheck w = some e → status = 1 ∧ detail = s.modeDetail e (w % 16) (fieldOf w 4 2))
      ∧ (s.modeCheck w = none → status = 0 ∧ detail = s.modeOk w) := by
  unfold State.modeCheckOnly
  cases s.modeCheck w with
  | none => exact ⟨_, _, rfl, nofun, fun _ => ⟨rfl, rfl⟩⟩
  | some e => exact ⟨_, _, rfl, fun _ he => Option.some.inj he ▸ ⟨rfl, rfl⟩, nofun⟩

/-- A refused request raises MODE_REFUSED, counts in counter 534 and leaves the mode (R60). -/
theorem State.modeRefused_ends (s : State) (d : Desc) (w : Nat) (e : ModeErr) :
    let t := s.modeRefused (some d) w e
    t.ended d 1 (s.modeDetail e (w % 16) (fieldOf w 4 2)) 0 ∧ t.modeNow = s.modeNow ∧ t.role = s.role
      ∧ t.cntOf 534 = (s.cntOf 534 + 1) % 2 ^ 48 ∧ (t.rd .PERF_EV_ev).testBit 2 = true
      ∧ t.rd .SYS_MODE_last_tag = fieldOf w 16 16 := by
  unfold State.modeRefused
  extract_lets +onlyGivenNames detail u t
  have hu : Spec recMask s u := State.raiseCountPerf_spec _ _ _ _ _
  have hcount : u.cntOf 534 = (s.cntOf 534 + 1) % 2 ^ 48 := by
    rw [State.cntOf_raiseCount _ _ _ _ _ _ (by decide) (by decide) (by simp [State.cntValid])]
    simp [State.cntValid]
  have hbit : u.perfBit 2 := State.perfBit_count (by decide) _ _ (State.perfBit_raise _ .modeRefused _)
  refine ⟨State.modeDone_ended _ _ _ _ _, ?_, ?_, ?_, ?_, State.modeDone_lastTag _ _ _ _ _⟩
  · exact (State.rd_modeDone_ne _ _ _ _ _ _ (by decide)).trans (hu.rd _ _ rfl)
  · exact (State.rd_modeDone_ne _ _ _ _ _ _ (by decide)).trans (hu.rd _ _ rfl)
  · exact (State.cntOf_congr (State.modeDone_cnt _ _ _ _ _) _).trans hcount
  · exact State.perfBit_of_rd hbit (State.rd_modeDone_ne _ _ _ _ _ _ (by decide))

/-! ### What SYS_MODE shows of a transition (02_modes.md R63, R67) -/

/-- SYS_MODE shows a mode, a role, and a transition in progress. -/
structure State.Shows (s : State) (mode role : Nat) : Prop where
  mode : s.modeNow = mode
  role : s.role = role
  busy : s.rd .SYS_MODE_busy = 1

theorem State.Shows.keep {s t : State} {mode role : Nat} (h : s.Shows mode role) (g : Spec besideSysMode s t) :
    t.Shows mode role :=
  ⟨g.modeNow.trans h.mode, g.role.trans h.role, (g.sysMode rfl 0).trans h.busy⟩

/-- Beside its write of the mode and the role, a change of them leaves SYS_MODE. -/
theorem State.setMode_after (s : State) (mode role : Nat) :
    Spec besideSysMode ((s.wr .SYS_MODE_mode 0 mode).wr .SYS_MODE_role 0 role) (s.setMode mode role) := by
  unfold State.setMode
  extract_lets +onlyGivenNames was changed s1 s2 pair s3 s4
  have h2 : Spec besideSysMode s1 s2 := Spec.ite (Spec.step (State.leaveMaintenance_spec _) rfl Spec.refl) Spec.refl
  have h4 : Spec besideSysMode s1 s4 := Spec.step (State.actRefresh_spec _) rfl (Spec.set_pair rfl h2)
  exact Spec.ite (Spec.step (State.raiseReg_spec _ _ _ _) rfl h4) h4

theorem State.setMode_shows {s : State} {mode role : Nat} (hbusy : s.rd .SYS_MODE_busy = 1) (hmode : mode < 6)
    (hrole : role < 4) : (s.setMode mode role).Shows mode role := by
  refine State.Shows.keep ⟨?_, ?_, ?_⟩ (s.setMode_after mode role)
  · rw [State.modeNow, State.rd_wr_ne _ _ _ _ (by decide), State.rd_wr_self]
    exact Nat.mod_eq_of_lt (show mode < 2 ^ 4 by omega)
  · rw [State.role, State.rd_wr_self]
    exact Nat.mod_eq_of_lt (show role < 2 ^ 2 by omega)
  · rw [State.rd_wr_ne _ _ _ _ (by decide), State.rd_wr_ne _ _ _ _ (by decide), hbusy]

/-- The last part of a commit takes the mode and the role, outside SHADOW. -/
theorem State.commitRest_shows {s : State} (x : Staged) {mode role : Nat} (hbusy : s.rd .SYS_MODE_busy = 1)
    (hshadow : s.modeNow ≠ 5) (hmode : mode < 6) (hrole : role < 4) : (s.commitRest x mode role).Shows mode role := by
  unfold State.commitRest
  extract_lets +onlyGivenNames was s1 s2 s3 pair s4
  have h1 : Spec besideSysMode s s1 := Spec.ite (Spec.step (State.endMux_spec _) rfl Spec.refl) Spec.refl
  have h2 : Spec besideSysMode s s2 := Spec.step (State.commitClients_spec _ _ _) rfl h1
  have h3 : Spec besideSysMode s s3 := Spec.ite (Spec.step (State.beginMux_spec _) rfl h2) h2
  have h4 : s4.Shows mode role := by
    have hnot : ¬ (s3.modeNow == 5) = true := by rw [h3.modeNow, beq_iff_eq]; exact hshadow
    dsimp only [s4]
    rw [if_neg hnot]
    exact State.setMode_shows ((h3.sysMode rfl 0).trans hbusy) hmode hrole
  exact h4.keep (Spec.step (State.placeShowAll_spec _) rfl (Spec.step (State.fabRefresh_spec _) rfl Spec.refl))

theorem State.commitEng_foldl_spec (l : List Nat) (x : Staged) (mode : Nat) (s : State) :
    Spec besideSysMode s (l.foldl (fun u n => u.commitEng x mode n) s) :=
  Spec.fold l (fun _ _ => Spec.step (State.commitEng_spec _ _ _ _) rfl Spec.refl) Spec.refl

/-- A request that commits when its checks pass takes its mode and role at once (R63, R67). -/
theorem State.commitNow_shows {s : State} (x : Staged) {mode role : Nat} (hbusy : s.rd .SYS_MODE_busy = 1)
    (hmode : mode < 6) (hrole : role < 4) (hlegal : roleLegal mode role = true) :
    (s.commitNow x mode role).Shows mode role := by
  unfold State.commitNow
  extract_lets +onlyGivenNames was entered placed s1 s2
  have h1 : s1.Shows mode role := by
    dsimp only [s1]
    split
    · rename_i hsetup
      obtain rfl := eq_of_beq hsetup
      obtain rfl := role_of_setup hlegal
      refine State.setMode_shows ?_ (by decide) (by decide)
      refine Eq.trans (Spec.sysMode ?_ rfl 0) hbusy
      exact Spec.step (State.commitClients_spec _ _ _) rfl (State.commitEng_foldl_spec _ _ _ _)
    · split
      · rename_i hshadow
        obtain rfl := eq_of_beq hshadow
        obtain rfl := role_of_shadow hlegal
        have hclear : Spec besideSysMode s s.mirrorClear := Spec.step (State.mirrorClear_spec s) rfl Spec.refl
        have hset : (s.mirrorClear.setMode 5 2).Shows 5 2 :=
          State.setMode_shows ((hclear.sysMode rfl 0).trans hbusy) (by decide) (by decide)
        exact hset.keep (Spec.step (State.d0Follow_spec _) rfl Spec.refl)
      · rename_i hshadow
        have hplaced : placed.Shows mode role :=
          (State.setMode_shows hbusy hmode hrole).keep (State.commitEng_foldl_spec _ x mode entered)
        exact State.commitRest_shows x hplaced.busy (by rw [hplaced.mode]; simpa using hshadow) hmode hrole
  have h2 : s2.Shows mode role := by
    dsimp only [s2]
    split
    · exact h1.keep (Spec.step (State.d0LeaveFollow_spec _) rfl (Spec.step (State.mirrorClear_spec _) rfl Spec.refl))
    · exact h1
  exact h2.keep (Spec.step (State.engRefresh_spec _) rfl Spec.refl)

/-- A transition whose engines have all committed takes its mode and role, outside SHADOW. -/
theorem State.commitLast_shows {s : State} (t : Transition) (hbusy : s.rd .SYS_MODE_busy = 1) (hshadow : s.modeNow ≠ 5)
    (hmode : t.par % 16 < 6) : (s.commitLast t).Shows (t.par % 16) (fieldOf t.par 4 2) :=
  (State.commitRest_shows t.st hbusy hshadow hmode (fieldOf_lt _ _ 2)).keep
    (Spec.step (State.engRefresh_spec _) rfl Spec.refl)

/-! ### What a commit leaves of the mode machine (02_modes.md R63, R71) -/

/-- The mode machine is as it was, but for its mark that unplaced demands are to be tried again. -/
def ModeKept (s t : State) : Prop := ∃ b, t.mode = { s.mode with retry := b }

namespace ModeKept
variable {s t u : State}

theorem tr (h : ModeKept s t) : t.mode.tr = s.mode.tr := by obtain ⟨b, e⟩ := h; rw [e]
theorem held (h : ModeKept s t) : t.mode.held = s.mode.held := by obtain ⟨b, e⟩ := h; rw [e]
theorem resume (h : ModeKept s t) : t.mode.resume = s.mode.resume := by obtain ⟨b, e⟩ := h; rw [e]

theorem refl : ModeKept s s := ⟨s.mode.retry, rfl⟩

theorem trans (h : ModeKept s t) (g : ModeKept t u) : ModeKept s u := by
  obtain ⟨b, e⟩ := h
  obtain ⟨c, f⟩ := g
  exact ⟨c, by rw [f, e]⟩

/-- One more operation that leaves the mode machine so. -/
theorem step (g : ModeKept t u) (h : ModeKept s t) : ModeKept s u := h.trans g

/-- One more operation, which has the mode machine not in its footprint. -/
theorem spec {F : Nat} (g : Spec F t u) (hF : F.testBit (256 + Comp.mode.ctorIdx) = false) (h : ModeKept s t) : ModeKept s u :=
  h.trans ⟨t.mode.retry, g.keep .mode hF⟩

theorem wrs (l : List (Fld × Nat × Nat)) (h : ModeKept s t) : ModeKept s (t.wrs l) := by
  induction l generalizing t with
  | nil => exact h
  | cons x l ih => exact ih (spec (State.wr_spec _ _ _ _) (x.1.bit_high _) h)

theorem raiseReg (f : Fld) (i : Nat) (a : EvArg) (h : ModeKept s t) : ModeKept s (t.raiseReg f i a) := by
  refine spec (State.raiseReg_spec _ _ _ _) ?_ h
  rw [Fld.evBit, Nat.testBit_or, Nat.testBit_or, Fld.bit_high]
  decide

theorem ite {c : Prop} [Decidable c] (h : ModeKept s t) (g : ModeKept s u) : ModeKept s (if c then t else u) := by
  split <;> assumption

theorem fold {α : Type} {k : State → α → State} (l : List α) (hk : ∀ t x, ModeKept t (k t x)) (h : ModeKept s t) :
    ModeKept s (l.foldl k t) := by
  induction l generalizing t with
  | nil => exact h
  | cons x l ih => exact ih (h.trans (hk t x))

end ModeKept

section
variable (s : State)

/-- An engine that becomes unpinned marks the unplaced demands. -/
theorem State.pinRefresh_modeKept (n : Nat) : ModeKept s (s.pinRefresh n) := by
  delta State.pinRefresh
  extract_lets +onlyGivenNames c mode s1
  refine ModeKept.spec (State.wr_spec _ _ _ _) (Fld.bit_high _ _) ?_
  exact ModeKept.ite ⟨true, rfl⟩ ModeKept.refl

theorem State.setSw_modeKept (n st : Nat) : ModeKept s (s.setSw n st) := by
  delta State.setSw
  refine ModeKept.step (State.pinRefresh_modeKept _ _) ?_
  exact ModeKept.spec (State.wr_spec _ _ _ _) (Fld.bit_high _ _) ModeKept.refl

theorem State.txMapShow_modeKept (n : Nat) : ModeKept s (s.txMapShow n) := by
  delta State.txMapShow
  extract_lets +onlyGivenNames m
  refine ModeKept.step (State.pinRefresh_modeKept _ _) ?_
  exact ModeKept.wrs _ ModeKept.refl

theorem State.setMaps_modeKept (n : Nat) (tx rx : Slots) : ModeKept s (s.setMaps n tx rx) := by
  delta State.setMaps
  extract_lets +onlyGivenNames s1 s2 s3 s4
  have h2 : ModeKept s s2 := ModeKept.spec (State.modRx_spec _ _ _) rfl (ModeKept.spec (State.modTx_spec _ _ _) rfl ModeKept.refl)
  have h4 : ModeKept s s4 := ModeKept.wrs _ (ModeKept.spec (State.modSk_spec _ _ _) rfl h2)
  clear_value s4
  refine ModeKept.spec (State.rxMapShow_spec _ _) rfl ?_
  refine ModeKept.step (State.txMapShow_modeKept _ _) ?_
  exact ModeKept.step (State.setSw_modeKept _ _ _) h4

theorem State.setLevel_modeKept (n lvl : Nat) : ModeKept s (s.setLevel n lvl) := by
  delta State.setLevel
  extract_lets +onlyGivenNames changed s1
  have h1 : ModeKept s s1 := by
    refine ModeKept.step (State.pinRefresh_modeKept _ _) ?_
    exact ModeKept.spec (State.wr_spec _ _ _ _) (Fld.bit_high _ _) (ModeKept.spec (State.modTx_spec _ _ _) rfl ModeKept.refl)
  exact ModeKept.ite (ModeKept.raiseReg _ _ _ h1) h1

theorem State.txStart_modeKept (n : Nat) : ModeKept s (s.txStart n) := by
  delta State.txStart
  extract_lets +onlyGivenNames s1 s2 s3 s4
  have h1 : ModeKept s s1 :=
    ModeKept.spec (State.dacShow_spec _ _) rfl (ModeKept.spec (State.wr_spec _ _ _ _) (Fld.bit_high _ _) ModeKept.refl)
  have h2 : ModeKept s s2 := ModeKept.spec (State.modFec_spec _ _ _) rfl h1
  have h3 : ModeKept s s3 := ModeKept.spec (State.modTx_spec _ _ _) rfl h2
  have h4 : ModeKept s s4 :=
    ModeKept.spec (State.shareDrop_spec _ _) rfl (ModeKept.ite (ModeKept.spec (State.anchor_spec _ _) rfl h3) h3)
  exact ModeKept.ite h2 (ModeKept.ite (ModeKept.step (State.setLevel_modeKept _ _ _) h4) h4)

theorem State.txRefresh_modeKept (n : Nat) : ModeKept s (s.txRefresh n) :=
  ModeKept.ite (s.txStart_modeKept n) (ModeKept.ite (ModeKept.spec (State.txStop_spec _ _) rfl ModeKept.refl)
    (ModeKept.spec (State.dacShow_spec _ _) rfl ModeKept.refl))

theorem State.engRefresh_modeKept : ModeKept s s.engRefresh :=
  ModeKept.fold _ (fun _ _ => ModeKept.step (State.txRefresh_modeKept _ _)
    (ModeKept.spec (State.acqStart_spec _ _) rfl ModeKept.refl)) ModeKept.refl

theorem State.chanDown_modeKept (n : Nat) : ModeKept s (s.chanDown n) := by
  delta State.chanDown
  extract_lets +onlyGivenNames s1
  have h1 : ModeKept s s1 := ModeKept.spec (State.modSk_spec _ _ _) rfl ModeKept.refl
  refine ModeKept.ite h1 (ModeKept.raiseReg _ _ _ ?_)
  exact ModeKept.step (State.pinRefresh_modeKept _ _) (ModeKept.spec (State.wr_spec _ _ _ _) (Fld.bit_high _ _) h1)

theorem State.engOut_modeKept (n : Nat) : ModeKept s (s.engOut n) := by
  delta State.engOut
  extract_lets +onlyGivenNames s1 s2 s3 s4 s5 s6 s7
  have h1 : ModeKept s s1 := ModeKept.spec (State.applyAllShadows_spec _ _) rfl ModeKept.refl
  have h2 : ModeKept s s2 := ModeKept.ite (ModeKept.spec (State.txStop_spec _ _) rfl h1) h1
  have h3 : ModeKept s s3 :=
    ModeKept.spec (State.dropFmtFar_spec _ _) rfl (ModeKept.spec (State.excessClear_spec _ _) rfl
      (ModeKept.spec (State.clearDefects_spec _ _) rfl (ModeKept.spec (State.acqStop_spec _ _) rfl h2)))
  have h5 : ModeKept s s5 := ModeKept.spec (State.modTx_spec _ _ _) rfl
    (ModeKept.step (State.chanDown_modeKept _ _) (ModeKept.spec (State.decSpoil_spec _ _) rfl h3))
  have h6 : ModeKept s s6 := ModeKept.spec (State.modSk_spec _ _ _) rfl
    (ModeKept.step (State.setMaps_modeKept _ _ _ _) (ModeKept.spec (State.modRx_spec _ _ _) rfl h5))
  have h7 : ModeKept s s7 := ModeKept.wrs _ h6
  clear_value s7
  refine ModeKept.step (State.pinRefresh_modeKept _ _) ?_
  exact ModeKept.spec (State.showProf_spec _ _ _) rfl (ModeKept.spec (State.modPm_spec _ _ _) rfl h7)

theorem State.engIn_modeKept (x : Staged) (mode n : Nat) : ModeKept s (s.engIn x mode n) := by
  delta State.engIn
  extract_lets +onlyGivenNames m s1
  have h1 : ModeKept s s1 := ModeKept.step (State.setMaps_modeKept _ _ _ _)
    (ModeKept.spec (State.showProf_spec _ _ _) rfl (ModeKept.spec (State.modPm_spec _ _ _) rfl ModeKept.refl))
  refine ModeKept.step (State.txRefresh_modeKept _ _) ?_
  exact ModeKept.spec (State.acqStart_spec _ _) rfl (ModeKept.spec (State.decRestart_spec _ _) rfl h1)

theorem State.engChange_modeKept (x : Staged) (mode n : Nat) : ModeKept s (s.engChange x mode n) := by
  delta State.engChange
  extract_lets +onlyGivenNames lpn s1 s2 s3 s4 s5 s6 s7
  have h2 : ModeKept s s2 := ModeKept.spec (State.showProf_spec _ _ _) rfl
    (ModeKept.spec (State.acqStop_spec _ _) rfl ModeKept.refl)
  have h3 : ModeKept s s3 := ModeKept.step (State.setMaps_modeKept _ _ _ _) h2
  have h4 : ModeKept s s4 := ModeKept.spec (State.shareDrop_spec _ _) rfl (ModeKept.spec (State.modTx_spec _ _ _) rfl h3)
  have h5 : ModeKept s s5 := ModeKept.spec (State.decRestart_spec _ _) rfl (ModeKept.spec (State.modFec_spec _ _ _) rfl h4)
  have h6 : ModeKept s s6 := ModeKept.spec (State.acqStart_spec _ _) rfl (ModeKept.spec (State.winRestart_spec _ _) rfl h5)
  have h7 : ModeKept s s7 := ModeKept.spec (State.modRx_spec _ _ _) rfl (ModeKept.spec (State.modTx_spec _ _ _) rfl h6)
  exact ModeKept.ite (ModeKept.wrs _ h7) (ModeKept.ite h6 (ModeKept.step (State.setLevel_modeKept _ _ _) h6))

theorem State.replace_modeKept (x : Staged) (mode n : Nat) : ModeKept s (s.replace x mode n) :=
  ModeKept.ite (s.setMaps_modeKept _ _ _) ModeKept.refl

theorem State.commitEng_modeKept (x : Staged) (mode n : Nat) : ModeKept s (s.commitEng x mode n) := by
  delta State.commitEng
  extract_lets +onlyGivenNames p old was s1 s2 t
  have h1 : ModeKept s s1 := ModeKept.wrs _ ModeKept.refl
  have h2 : ModeKept s s2 := ModeKept.ite (ModeKept.spec (State.modRx_spec _ _ _) rfl h1) h1
  have ht : ModeKept s t := ModeKept.ite (ModeKept.step (State.engChange_modeKept _ _ _ _) h2)
    (ModeKept.step (State.replace_modeKept _ _ _ _) h2)
  refine ModeKept.ite (ModeKept.ite h2 (ModeKept.step (State.engOut_modeKept _ _) h2)) ?_
  exact ModeKept.ite (ModeKept.step (State.engIn_modeKept _ _ _ _) h2)
    (ModeKept.ite (ModeKept.raiseReg _ _ _ ht) ht)

/-- A tributary that goes OUT lets the unplaced demands be tried again. -/
theorem State.tribOut_modeKept (t : Nat) : ModeKept s (s.tribOut t) := by
  delta State.tribOut
  extract_lets +onlyGivenNames grp s1 s2 s3 s4 s5
  clear_value grp
  have h1 : ModeKept s s1 := ModeKept.spec (State.dlmHunt_spec _ _) rfl ModeKept.refl
  have h2 : ModeKept s s2 := by
    dsimp only [s2]
    split
    · exact ModeKept.spec (State.modGrp_spec _ _ _) rfl h1
    · exact h1
  have h3 : ModeKept s s3 := ModeKept.wrs _ (ModeKept.spec (State.modTrib_spec _ _ _) rfl h2)
  have h4 : ModeKept s s4 := by
    dsimp only [s4]
    split
    · exact ModeKept.spec (State.alignShow_spec _ _) rfl h3
    · exact h3
  have h5 : ModeKept s s5 := ModeKept.spec (State.placeShow_spec _ _ _ _) rfl h4
  exact h5.trans ⟨true, rfl⟩

theorem State.commitClients_modeKept (x : Staged) (mode : Nat) : ModeKept s (s.commitClients x mode) := by
  delta State.commitClients
  extract_lets +onlyGivenNames was gone s1 s2 s3 s4
  have h1 : ModeKept s s1 := ModeKept.fold _ State.tribOut_modeKept ModeKept.refl
  have h2 : ModeKept s s2 := ModeKept.fold _ (fun _ _ => ModeKept.spec (State.commitPort_spec _ _ _ _) rfl ModeKept.refl) h1
  have h3 : ModeKept s s3 :=
    ModeKept.fold _ (fun _ _ => ModeKept.spec (State.commitTrib_spec _ _ _ _ _) rfl ModeKept.refl) h2
  have h4 : ModeKept s s4 := ModeKept.fold _ (fun _ _ => ModeKept.ite
    (ModeKept.spec (State.lineFault_spec _ _ _) rfl ModeKept.refl) ModeKept.refl) h3
  clear_value s4
  refine ModeKept.spec (State.bridgeRefresh_spec _) rfl (ModeKept.spec (State.clientsAfter_spec _ _) rfl ?_)
  exact ModeKept.spec (State.placeShowAll_spec _) rfl (ModeKept.spec (State.ozPlace_spec _) rfl h4)

theorem State.endMux_modeKept : ModeKept s s.endMux :=
  ModeKept.fold _ (fun _ _ => ModeKept.ite ModeKept.refl
    (ModeKept.step (State.setMaps_modeKept _ _ _ _) (State.chanDown_modeKept _ _))) ModeKept.refl

theorem State.commitRest_modeKept (x : Staged) (mode role : Nat) : ModeKept s (s.commitRest x mode role) := by
  delta State.commitRest
  extract_lets +onlyGivenNames was s1 s2 s3 pair s4
  have h1 : ModeKept s s1 := ModeKept.ite s.endMux_modeKept ModeKept.refl
  have h2 : ModeKept s s2 := ModeKept.step (State.commitClients_modeKept _ _ _) h1
  have h3 : ModeKept s s3 := ModeKept.ite (ModeKept.spec (State.beginMux_spec _) rfl h2) h2
  have h4 : ModeKept s s4 := ModeKept.ite (h3.trans ⟨s3.mode.retry, rfl⟩) (ModeKept.spec (State.setMode_spec _ _ _) rfl h3)
  clear_value s4
  exact ModeKept.spec (State.placeShowAll_spec _) rfl (ModeKept.spec (State.fabRefresh_spec _) rfl h4)

theorem State.commitLast_modeKept (t : Transition) : ModeKept s (s.commitLast t) :=
  ModeKept.step (State.engRefresh_modeKept _) (s.commitRest_modeKept _ _ _)

theorem State.withdrawAll_modeKept : ModeKept s s.withdrawAll :=
  ModeKept.fold _ (fun _ _ => ModeKept.ite (ModeKept.step (State.setSw_modeKept _ _ _)
    (ModeKept.spec (State.withdraw_spec _ _) rfl ModeKept.refl)) ModeKept.refl) ModeKept.refl

end

/-! ### A transition begins (02_modes.md R63, R66, R67) -/

/-- A transition before the commits of its engines that have one at once. -/
def State.transOpen (s : State) (t : Transition) : State :=
  let u : State := { s with mode := { s.mode with tr := some t } }
  if u.frozen then u.withdrawAll else u

/-- The state in which the engines of no SFM have committed. -/
def State.transIdle (s : State) (t : Transition) : State :=
  let u := s.transOpen t
  ((upTo u.engines).filter (fun n => !t.left.contains n)).foldl (fun u n => u.commitEng t.st (t.par % 16) n) u

theorem State.transBegin_eq (s : State) (t : Transition) :
    s.transBegin t = if t.left.isEmpty then (s.transIdle t).commitLast t else s.transIdle t := rfl

theorem State.transOpen_tr (s : State) (t : Transition) : (s.transOpen t).mode.tr = some t := by
  unfold State.transOpen
  extract_lets +onlyGivenNames mode u
  exact (ModeKept.ite u.withdrawAll_modeKept ModeKept.refl).tr

theorem State.transIdle_modeKept (s : State) (t : Transition) : ModeKept (s.transOpen t) (s.transIdle t) :=
  ModeKept.fold _ (fun _ _ => State.commitEng_modeKept _ _ _ _) ModeKept.refl

theorem State.transBegin_tr (s : State) (t : Transition) : (s.transBegin t).mode.tr = some t := by
  rw [State.transBegin_eq]
  exact (ModeKept.ite (ModeKept.step (State.commitLast_modeKept _ _) (s.transIdle_modeKept t)) (s.transIdle_modeKept t)).tr.trans
    (s.transOpen_tr t)

/-- Until its last engine has committed, a transition leaves SYS_MODE. -/
theorem State.transIdle_spec (s : State) (t : Transition) : Spec besideSysMode s (s.transIdle t) := by
  have hopen : Spec besideSysMode s (s.transOpen t) := by
    unfold State.transOpen
    extract_lets +onlyGivenNames mode u
    have hu : Spec besideSysMode s u := Spec.set_mode rfl Spec.refl
    exact Spec.ite (Spec.step (State.withdrawAll_spec _) rfl hu) hu
  exact hopen.trans (State.commitEng_foldl_spec _ _ _ _)

/-! ### An accepted request begins (02_modes.md R63, R67; log entry 155) -/

/-- The request commits when its checks pass: a start, a stop, an entry into SHADOW, or a change of role. -/
def State.commitsAtOnce (s : State) (w : Nat) : Prop :=
  s.modeNow = 0 ∨ w % 16 = 0 ∨ w % 16 = 5 ∨ fieldOf w 4 2 ≠ s.role

theorem State.modeStart_now {s : State} {w : Nat} (d : Option Desc) (x : Staged) (h : s.commitsAtOnce w) :
    s.modeStart d w x =
      let t := (s.wr .SYS_MODE_busy 0 1).commitNow x (w % 16) (fieldOf w 4 2)
      { t with mode := { t.mode with tr := some { d := d, par := w, st := x } } } := by
  unfold State.modeStart
  refine if_pos ?_
  simpa [State.commitsAtOnce, or_assoc] using h

theorem State.modeStart_waits {s : State} {w : Nat} (d : Option Desc) (x : Staged) (h : ¬ s.commitsAtOnce w) :
    s.modeStart d w x = (s.wr .SYS_MODE_busy 0 1).transBegin
      { d := d, par := w, left := (s.wr .SYS_MODE_busy 0 1).waitEngs (w % 16), st := x } := by
  unfold State.modeStart
  refine if_neg ?_
  simpa [State.commitsAtOnce, or_assoc, not_or] using h

/-- The engines that a transition waits for depend on the engines, their service and the mode in effect. -/
theorem State.waitEngs_congr {s t : State} (hfuse : t.fuse = s.fuse) (heng : t.eng = s.eng)
    (hservice : ∀ n, t.inService n = s.inService n) (hmode : t.opMode = s.opMode) (mode : Nat) :
    t.waitEngs mode = s.waitEngs mode := by
  have hcount : t.engines = s.engines := by simp only [State.engines, hfuse]
  simp only [State.waitEngs, hcount, hservice, hmode, State.txOf_congr heng, State.skOf_congr heng]

theorem State.waitEngs_busy (s : State) (v mode : Nat) : (s.wr .SYS_MODE_busy 0 v).waitEngs mode = s.waitEngs mode := by
  refine State.waitEngs_congr (s.wr_fuse _ _ _) (s.wr_eng _ _ _) (fun n => ?_) ?_ mode
  · simp [State.inService, State.prof, State.rd_wr_ne]
  · simp [State.opMode, State.modeNow, State.rd_wr_ne]

theorem State.sendMir_mirMode (s : State) (eng target : Nat) (gens : List (Nat × Nat)) (frag : List Byte) :
    (s.sendMir eng target gens frag).pair.mirMode = s.pair.mirMode := by
  unfold State.sendMir
  extract_lets +onlyGivenNames q cell pair t
  have hpair : (t.sendCellOf 0 cell gens).pair = t.pair := (State.sendCellOf_spec t 0 cell gens).keep .pair rfl
  rw [hpair]

/-- Mirroring a record leaves the mode of the mirror. -/
theorem State.mirror_mirMode (s : State) (eng target : Nat) (rec0 : List Byte) :
    (s.mirror eng target rec0).pair.mirMode = s.pair.mirMode := by
  unfold State.mirror
  split
  · rfl
  · exact List.foldlRecOn (motive := fun t : State => t.pair.mirMode = s.pair.mirMode) _ _ rfl
      (fun t ht k _ => (t.sendMir_mirMode _ _ _ _).trans ht)

theorem State.rd_mirror (s : State) (eng target : Nat) (rec0 : List Byte) (f : Fld) (i : Nat) :
    (s.mirror eng target rec0).rd f i = s.rd f i :=
  Spec.rd_part (F := 0x202000) (s.mirror_spec eng target rec0) f i

theorem State.opMode_mirror (s : State) (eng target : Nat) (rec0 : List Byte) :
    (s.mirror eng target rec0).opMode = s.opMode := by
  unfold State.opMode State.modeNow
  rw [State.rd_mirror, State.mirror_mirMode]

theorem State.waitEngs_mirror (s : State) (eng target : Nat) (rec0 : List Byte) (mode : Nat) :
    (s.mirror eng target rec0).waitEngs mode = s.waitEngs mode := by
  have hspec := s.mirror_spec eng target rec0
  refine State.waitEngs_congr (hspec.keep .fuse rfl) (hspec.keep .eng rfl) (fun n => ?_) (s.opMode_mirror _ _ _) mode
  simp only [State.inService, State.prof, State.rd_mirror]

section
variable {s : State} {w : Nat} (d : Desc) (h : s.modeCheck w = none)
  (hdiff : s.modeSame s.staged (w % 16) (fieldOf w 4 2) = false)
include h hdiff

/-- One that commits at once takes its mode and its role, and its transition waits for no engine. -/
theorem State.modeRequest_now (hnow : s.commitsAtOnce w) :
    let t := s.modeRequest (some d) w
    t.modeNow = w % 16 ∧ t.role = fieldOf w 4 2 ∧ t.rd .SYS_MODE_busy = 1
      ∧ t.mode.tr.map (fun x => (x.d, x.left)) = some (some d, []) := by
  obtain ⟨hword, hlegal⟩ := State.legal_of_modeCheck h
  generalize hm : s.mirror 0xFF 0 (changeRec 2 (beBytes 4 w)) = m
  have hmnow : m.commitsAtOnce w := by
    simpa only [State.commitsAtOnce, State.modeNow, State.role, ← hm, State.rd_mirror] using hnow
  have hshow : ∀ x, ((m.wr .SYS_MODE_busy 0 1).commitNow x (w % 16) (fieldOf w 4 2)).Shows (w % 16) (fieldOf w 4 2) :=
    fun x => State.commitNow_shows x (State.rd_wr_self _ _ _ _) (mode_lt_of_legal hword) (fieldOf_lt _ _ 2) hlegal
  rw [State.modeRequest_starts _ h hdiff, hm, State.modeStart_now _ _ hmnow]
  exact ⟨(hshow _).mode, (hshow _).role, (hshow _).busy, rfl⟩

/-- One that does not begins a transition, from a busy state with the mode and the role that the request found. -/
theorem State.modeRequest_transition (hnow : ¬ s.commitsAtOnce w) :
    ∃ (m : State) (x : Staged), s.modeRequest (some d) w
        = m.transBegin { d := some d, par := w, left := s.waitEngs (w % 16), st := x }
      ∧ m.Shows s.modeNow s.role := by
  generalize hm : s.mirror 0xFF 0 (changeRec 2 (beBytes 4 w)) = m
  have hrd : ∀ f, m.rd f = s.rd f := fun f => hm ▸ s.rd_mirror _ _ _ f 0
  have hmnow : ¬ m.commitsAtOnce w := by
    simpa only [State.commitsAtOnce, State.modeNow, State.role, hrd] using hnow
  have hwait : (m.wr .SYS_MODE_busy 0 1).waitEngs (w % 16) = s.waitEngs (w % 16) := by
    rw [State.waitEngs_busy, ← hm, State.waitEngs_mirror]
  refine ⟨m.wr .SYS_MODE_busy 0 1, if w % 16 == 0 || w % 16 == 5 then {} else s.staged, ?_, ⟨?_, ?_, ?_⟩⟩
  · rw [State.modeRequest_starts _ h hdiff, hm, State.modeStart_waits _ _ hmnow, hwait]
  · exact (State.rd_wr_ne _ _ _ _ (by decide)).trans (hrd _)
  · exact (State.rd_wr_ne _ _ _ _ (by decide)).trans (hrd _)
  · exact State.rd_wr_self _ _ _ _

/-- While engines of the part have an SFM to wait for, the transition waits for them. -/
theorem State.modeRequest_waits (hnow : ¬ s.commitsAtOnce w) (hwait : s.waitEngs (w % 16) ≠ []) :
    let t := s.modeRequest (some d) w
    t.modeNow = s.modeNow ∧ t.rd .SYS_MODE_busy = 1
      ∧ t.mode.tr.map (fun x => (x.d, x.left)) = some (some d, s.waitEngs (w % 16)) := by
  obtain ⟨m, x, heq, hshow⟩ := State.modeRequest_transition d h hdiff hnow
  have hne : (s.waitEngs (w % 16)).isEmpty = false := by simpa using hwait
  rw [heq]
  refine ⟨?_, ?_, by rw [State.transBegin_tr]; rfl⟩
  all_goals simp only [State.transBegin_eq, hne, Bool.false_eq_true, if_false]
  · exact (hshow.keep (m.transIdle_spec _)).mode
  · exact (hshow.keep (m.transIdle_spec _)).busy

/-- Where no engine has an SFM to wait for, it takes its mode when its checks pass. -/
theorem State.modeRequest_idle (hnow : ¬ s.commitsAtOnce w) (hshadow : s.modeNow ≠ 5) (hwait : s.waitEngs (w % 16) = []) :
    let t := s.modeRequest (some d) w
    t.modeNow = w % 16 ∧ t.role = s.role ∧ t.rd .SYS_MODE_busy = 1
      ∧ t.mode.tr.map (fun x => (x.d, x.left)) = some (some d, []) := by
  obtain ⟨m, x, heq, hshow⟩ := State.modeRequest_transition d h hdiff hnow
  obtain ⟨hword, -⟩ := State.legal_of_modeCheck h
  have hrole : fieldOf w 4 2 = s.role := by
    by_contra hne
    exact hnow (.inr (.inr (.inr hne)))
  have hidle := hshow.keep (m.transIdle_spec { d := some d, par := w, left := [], st := x })
  have hlast := State.commitLast_shows { d := some d, par := w, left := [], st := x } hidle.busy
    (hidle.mode ▸ hshadow) (mode_lt_of_legal hword)
  have htr := m.transBegin_tr { d := some d, par := w, left := [], st := x }
  rw [heq, hwait]
  refine ⟨hlast.mode, hlast.role.trans hrole, hlast.busy, ?_⟩
  rw [htr]
  rfl

end

/-! ### The maps of a held mode that resumes (02_modes.md R71; 07_placement.md R242) -/

/-- Every engine has the maps in force that it had. -/
def MapsKept (s t : State) : Prop := ∀ n, (t.txOf n).map = (s.txOf n).map ∧ (t.rxOf n).map = (s.rxOf n).map

namespace MapsKept
variable {s t u : State}

theorem refl : MapsKept s s := fun _ => ⟨rfl, rfl⟩

/-- One more operation that leaves the maps in force. -/
theorem step (g : MapsKept t u) (h : MapsKept s t) : MapsKept s u := fun n =>
  ⟨(g n).1.trans (h n).1, (g n).2.trans (h n).2⟩

/-- One more operation, which has the engines not in its footprint. -/
theorem spec {F : Nat} (g : Spec F t u) (hF : F.testBit (256 + Comp.eng.ctorIdx) = false) (h : MapsKept s t) : MapsKept s u :=
  step (fun n => have heng := g.keep .eng hF
    ⟨congrArg EngTx.map (State.txOf_congr heng n), congrArg EngRx.map (State.rxOf_congr heng n)⟩) h

theorem wr (f : Fld) (i v : Nat) (h : MapsKept s t) : MapsKept s (t.wr f i v) :=
  spec (State.wr_spec _ _ _ _) (f.bit_high _) h

theorem raiseReg (f : Fld) (i : Nat) (a : EvArg) (h : MapsKept s t) : MapsKept s (t.raiseReg f i a) := by
  refine spec (State.raiseReg_spec _ _ _ _) ?_ h
  rw [Fld.evBit, Nat.testBit_or, Nat.testBit_or, Fld.bit_high]
  decide

theorem modAcq (n : Nat) (g : EngAcq → EngAcq) (h : MapsKept s t) : MapsKept s (t.modAcq n g) :=
  step (fun k => by simp) h

theorem modFec (n : Nat) (g : EngFec → EngFec) (h : MapsKept s t) : MapsKept s (t.modFec n g) :=
  step (fun k => by simp) h

theorem modTx (n : Nat) {g : EngTx → EngTx} (hg : ∀ x, (g x).map = x.map) (h : MapsKept s t) : MapsKept s (t.modTx n g) := by
  refine step (fun k => ⟨?_, by simp⟩) h
  by_cases hk : n = k
  · subst hk
    rw [State.txOf_modTx, hg]
  · rw [State.txOf_modTx_ne _ _ hk]

theorem ite {c : Prop} [Decidable c] (h : MapsKept s t) (g : MapsKept s u) : MapsKept s (if c then t else u) := by
  split <;> assumption

theorem fold {α : Type} {k : State → α → State} (l : List α) (hk : ∀ t x, MapsKept t (k t x)) (h : MapsKept s t) :
    MapsKept s (l.foldl k t) := by
  induction l generalizing t with
  | nil => exact h
  | cons x l ih => exact ih (step (hk t x) h)

end MapsKept

section
variable (s : State)

theorem State.acqStart_mapsKept (n : Nat) : MapsKept s (s.acqStart n) :=
  MapsKept.ite (MapsKept.wr _ _ _ (MapsKept.modAcq _ _ MapsKept.refl)) MapsKept.refl

theorem State.setLevel_mapsKept (n lvl : Nat) : MapsKept s (s.setLevel n lvl) := by
  delta State.setLevel
  extract_lets +onlyGivenNames changed s1
  have h1 : MapsKept s s1 := by
    refine MapsKept.spec (State.pinRefresh_spec _ _) rfl (MapsKept.wr _ _ _ ?_)
    exact MapsKept.modTx n (fun _ => rfl) MapsKept.refl
  exact MapsKept.ite (MapsKept.raiseReg _ _ _ h1) h1

theorem State.anchor_mapsKept (n : Nat) : MapsKept s (s.anchor n) := by
  refine MapsKept.spec (State.tick_spec _) rfl (MapsKept.modFec _ _ ?_)
  exact MapsKept.modTx n (fun _ => rfl) MapsKept.refl

theorem State.txStart_mapsKept (n : Nat) : MapsKept s (s.txStart n) := by
  delta State.txStart
  extract_lets +onlyGivenNames s1 s2 s3 s4
  have h1 : MapsKept s s1 := MapsKept.spec (State.dacShow_spec _ _) rfl (MapsKept.wr _ _ _ MapsKept.refl)
  have h2 : MapsKept s s2 := MapsKept.modFec _ _ h1
  have h3 : MapsKept s s3 := MapsKept.modTx n (fun _ => rfl) h2
  have h4 : MapsKept s s4 :=
    MapsKept.spec (State.shareDrop_spec _ _) rfl (MapsKept.ite (MapsKept.step (State.anchor_mapsKept _ _) h3) h3)
  exact MapsKept.ite h2 (MapsKept.ite (MapsKept.step (State.setLevel_mapsKept _ _ _) h4) h4)

theorem State.txStop_mapsKept (n : Nat) : MapsKept s (s.txStop n) := by
  delta State.txStop
  extract_lets +onlyGivenNames s1
  have h1 : MapsKept s s1 := MapsKept.spec (State.dacShow_spec _ _) rfl (MapsKept.wr _ _ _ MapsKept.refl)
  refine MapsKept.spec (State.calStop_spec _ _ _) rfl (MapsKept.spec (State.shareDrop_spec _ _) rfl ?_)
  exact MapsKept.modTx n (fun _ => rfl) h1

theorem State.txRefresh_mapsKept (n : Nat) : MapsKept s (s.txRefresh n) :=
  MapsKept.ite (s.txStart_mapsKept n) (MapsKept.ite (s.txStop_mapsKept n)
    (MapsKept.spec (State.dacShow_spec _ _) rfl MapsKept.refl))

/-- Starting receivers and transmitters leaves the maps in force. -/
theorem State.engRefresh_mapsKept : MapsKept s s.engRefresh :=
  MapsKept.fold _ (fun _ _ => MapsKept.step (State.txRefresh_mapsKept _ _) (State.acqStart_mapsKept _ _)) MapsKept.refl

/-- The maps put in force are those of their engine, and the other engines keep theirs. -/
theorem State.maps_setMaps (n m : Nat) (tx rx : Slots) :
    ((s.setMaps n tx rx).txOf m).map = (if n = m then tx else (s.txOf m).map)
      ∧ ((s.setMaps n tx rx).rxOf m).map = (if n = m then rx else (s.rxOf m).map) := by
  delta State.setMaps
  extract_lets +onlyGivenNames s1 s2 s3 s4
  have h2 : (s2.txOf m).map = (if n = m then tx else (s.txOf m).map)
      ∧ (s2.rxOf m).map = (if n = m then rx else (s.rxOf m).map) := by
    by_cases h : n = m
    · subst h
      simp [s2, s1]
    · simp [s2, s1, h, State.txOf_modTx_ne, State.rxOf_modRx_ne]
  have h4 : MapsKept s2 s4 := by
    refine MapsKept.wr _ _ _ (MapsKept.wr _ _ _ (MapsKept.step (fun k => ?_) MapsKept.refl))
    simp [s3]
  have hshow : MapsKept s2 (((s4.setSw n 0).txMapShow n).rxMapShow n) :=
    MapsKept.spec (State.rxMapShow_spec _ _) rfl (MapsKept.spec (State.txMapShow_spec _ _) rfl
      (MapsKept.spec (State.setSw_spec _ _ _) rfl h4))
  exact ⟨(hshow m).1.trans h2.1, (hshow m).2.trans h2.2⟩

end

/-- What putting maps in force can change: the engines, what shows of their maps, and the mode machine's mark. -/
def mapsFrame : Nat := 0x10100000000000000000000000000000000000000000000000000000600000000001

/-- A fresh map depends on nothing that putting maps in force changes. -/
theorem State.freshMap_of_spec {s t : State} (h : Spec mapsFrame s t) : t.freshMap = s.freshMap := by
  have hmask : ∀ g, t.rd .FAB_GRP_CTRL_member_mask g = s.rd .FAB_GRP_CTRL_member_mask g := fun g => h.rd _ g rfl
  have hgen : ∀ k, t.tribGen k = s.tribGen k := fun k => h.rd _ k rfl
  have hcarrier : t.carrierEngs = s.carrierEngs := by
    funext c
    simp only [State.carrierEngs, hmask]
  have hshare : t.fixedShare = s.fixedShare := by
    funext x n c
    simp only [State.fixedShare, State.slotsFor, hcarrier, State.portOf_congr (h.keep .port rfl)]
  funext x mode n gen
  simp only [State.freshMap, State.fixedTab, hshare, hgen]

/-- An engine takes the map of a start. -/
def State.takeFresh (s : State) (x : Staged) (n : Nat) : State :=
  s.setMaps n (s.freshMap x s.modeNow n 0) (s.freshMap x s.modeNow n 0)

theorem State.takeFresh_spec (s : State) (x : Staged) (n : Nat) : Spec mapsFrame s (s.takeFresh x n) :=
  Spec.step (State.setMaps_spec _ _ _ _) rfl Spec.refl

theorem State.maps_takeFresh (s : State) (x : Staged) (k n : Nat) :
    ((s.takeFresh x k).txOf n).map = (if k = n then s.freshMap x s.modeNow k 0 else (s.txOf n).map)
      ∧ ((s.takeFresh x k).rxOf n).map = (if k = n then s.freshMap x s.modeNow k 0 else (s.rxOf n).map) := by
  unfold State.takeFresh
  exact s.maps_setMaps _ _ _ _

/-- Of engines that take the maps of a start in turn, each ends with the map that it would take first. -/
theorem State.takeFresh_foldl (x : Staged) {n : Nat} {m : Slots} (l : List Nat) : ∀ s : State,
    s.freshMap x s.modeNow n 0 = m → n ∈ l ∨ (s.txOf n).map = m ∧ (s.rxOf n).map = m →
    let t := l.foldl (fun u k => u.takeFresh x k) s
    (t.txOf n).map = m ∧ (t.rxOf n).map = m := by
  induction l with
  | nil => exact fun _ _ h => h.resolve_left (List.not_mem_nil)
  | cons k l ih =>
    intro s hfresh h
    have hspec := s.takeFresh_spec x k
    have hmode : (s.takeFresh x k).modeNow = s.modeNow := hspec.rd _ 0 rfl
    obtain ⟨htx, hrx⟩ := s.maps_takeFresh x k n
    rw [List.foldl_cons]
    refine ih (s.takeFresh x k) (by rw [State.freshMap_of_spec hspec, hmode, hfresh]) ?_
    by_cases hk : k = n
    · subst hk
      right
      rw [if_pos rfl, hfresh] at htx hrx
      exact ⟨htx, hrx⟩
    · rw [if_neg hk] at htx hrx
      refine h.imp (fun hmem => (List.mem_cons.mp hmem).resolve_left (fun e => hk e.symm)) (fun hmap => ?_)
      exact ⟨htx.trans hmap.1, hrx.trans hmap.2⟩

/-! ### A held mode resumes (02_modes.md R71) -/

/-- The held mode is no longer held. -/
def State.unheld (s : State) : State := { s with mode := { s.mode with held := false, resume := false, retry := true } }

/-- The engines in service have taken the maps of a start. -/
def State.resumeMaps (s : State) : State :=
  ((upTo s.engines).filter (fun n => s.inService n)).foldl (fun u n => u.takeFresh s.inForce n) s.unheld

/-- The clients are sent to again. -/
def State.resumeClients (s : State) : State :=
  let t := (upTo s.ports).foldl (fun u p => u.wr .CLI_PORT_STATUS_tx_on p (b2n (u.typeOf p != 0))) s
  t.clientStart t.txPorts

theorem exec_heldModeResume {s : State} (hresume : s.mode.resume = true) (hawake : s.awake = true) :
    exec .heldModeResume s = .next s.resumeMaps.resumeClients.engRefresh.placeShowAll := by
  refine congrArg Host.Outcome.next (if_neg ?_)
  simp [hresume, hawake]

theorem State.resumeMaps_spec (s : State) : Spec mapsFrame s s.resumeMaps :=
  Spec.fold _ (fun _ _ => State.takeFresh_spec _ _ _) (Spec.set_mode (mode := s.mode) rfl Spec.refl)

theorem State.resumeMaps_modeKept (s : State) : ModeKept s.unheld s.resumeMaps :=
  ModeKept.fold _ (fun _ _ => State.setMaps_modeKept _ _ _ _) ModeKept.refl

/-- Each engine in service is on the map of a start. -/
theorem State.resumeMaps_maps {s : State} {n : Nat} (hn : s.hasEng n = true) (hservice : s.inService n = true) :
    (s.resumeMaps.txOf n).map = s.freshMap s.inForce s.modeNow n 0
      ∧ (s.resumeMaps.rxOf n).map = s.freshMap s.inForce s.modeNow n 0 := by
  have hmem : n ∈ (upTo s.engines).filter (fun n => s.inService n) :=
    List.mem_filter.mpr ⟨List.mem_range.mpr (of_decide_eq_true hn), hservice⟩
  exact State.takeFresh_foldl s.inForce _ s.unheld rfl (.inl hmem)

/-- Sending to the clients again touches what shows of their transmitters, and sends. -/
theorem State.resumeClients_spec (s : State) :
    Spec 0x2000000000000000000000000000000000000000000000000000000000000200000000 s s.resumeClients := by
  unfold State.resumeClients
  extract_lets +onlyGivenNames t
  refine Spec.step (State.clientStart_spec _ _) rfl ?_
  exact Spec.fold _ (fun _ _ => Spec.step (State.wr_spec _ _ _ _) rfl Spec.refl) Spec.refl

/-- What follows the maps of a held mode that resumes: clients, transmitters, and the placement shown. -/
def State.resumeRest (s : State) : State := s.resumeClients.engRefresh.placeShowAll

theorem State.resumeRest_spec (s : State) : Spec besideSysMode s s.resumeRest :=
  Spec.step (State.placeShowAll_spec _) rfl (Spec.step (State.engRefresh_spec _) rfl
    (Spec.step s.resumeClients_spec rfl Spec.refl))

theorem State.resumeRest_modeKept (s : State) : ModeKept s s.resumeRest :=
  ModeKept.spec (State.placeShowAll_spec s.resumeClients.engRefresh) rfl (ModeKept.step (State.engRefresh_modeKept _)
    (ModeKept.spec s.resumeClients_spec rfl ModeKept.refl))

theorem State.resumeRest_mapsKept (s : State) : MapsKept s s.resumeRest :=
  MapsKept.spec (State.placeShowAll_spec _) rfl (MapsKept.step (State.engRefresh_mapsKept _)
    (MapsKept.spec s.resumeClients_spec rfl MapsKept.refl))

theorem heldModeResume_ends {s : State} (hresume : s.mode.resume = true) (hawake : s.awake = true) :
    Ends .heldModeResume s fun t => t.mode.held = false ∧ t.mode.resume = false ∧ t.modeNow = s.modeNow
      ∧ ∀ n : Eng, s.hasEng n = true → s.inService n = true →
          (t.txOf n).map = s.freshMap s.inForce s.modeNow n 0 ∧ (t.rxOf n).map = (t.txOf n).map := by
  have hmode := ModeKept.step s.resumeMaps.resumeRest_modeKept s.resumeMaps_modeKept
  refine ⟨s.resumeMaps.resumeRest, exec_heldModeResume hresume hawake, hmode.held, hmode.resume, ?_, ?_⟩
  · exact s.resumeMaps.resumeRest_spec.modeNow.trans (s.resumeMaps_spec.rd _ 0 rfl)
  · intro n hn hservice
    obtain ⟨htx, hrx⟩ := State.resumeMaps_maps hn hservice
    obtain ⟨htx', hrx'⟩ := s.resumeMaps.resumeRest_mapsKept n
    exact ⟨htx'.trans htx, (hrx'.trans hrx).trans (htx'.trans htx).symm⟩

/-! ### A transition is complete (02_modes.md R63, R67) -/

theorem exec_modeSetComplete {x : Transition} {s : State} (htr : s.mode.tr = some x) (hleft : x.left = [])
    (hloaded : s.modeNow ≠ 5 ∨ s.pair.loaded = true) :
    exec .modeSetComplete s = .next ((({ s with mode := { s.mode with tr := none } } : State).wr .SYS_MODE_busy 0 0).modeDone
      x.d x.par 0 (s.modeOk x.par)) := by
  refine congrArg Host.Outcome.next ?_
  simp only [htr]
  refine if_neg ?_
  rcases hloaded with h | h <;> simp [hleft, h]

theorem modeSetComplete_ends {x : Transition} {s : State} (htr : s.mode.tr = some x) (hleft : x.left = [])
    (hloaded : s.modeNow ≠ 5 ∨ s.pair.loaded = true) :
    Ends .modeSetComplete s fun t => t.mode.tr = none ∧ t.rd .SYS_MODE_busy = 0
      ∧ ∀ d, x.d = some d → t.ended d 0 (s.modeOk x.par) 0 ∧ t.rd .SYS_MODE_last_tag = fieldOf x.par 16 16 := by
  refine ⟨_, exec_modeSetComplete htr hleft hloaded, State.modeDone_tr _ _ _ _ _, ?_, ?_⟩
  · exact (State.rd_modeDone_ne _ _ _ _ _ _ (by decide)).trans (State.rd_wr_self _ _ _ _)
  · rintro d hd
    rw [hd]
    exact ⟨State.modeDone_ended _ _ _ _ _, State.modeDone_lastTag _ _ _ _ _⟩

/-- Settles O27: each clause is an end of MODE_SET, of a transition, or of a held mode, as the lemmas above give it. -/
theorem modeRequests : Obligations.ModeRequests := by
  refine ⟨?remembered, ?refused, ?checkOnly, ?now, ?waits, ?idle, ?same, ?complete, ?resume⟩
  case remembered =>
    intro r d m s hd hm
    refine ⟨_, exec_modeSet_remembered hd hm, State.done_ended _ _ _ _ _, ?_, ?_⟩
    · simp [State.modeNow, State.rd_wr_ne]
    · simp
  case refused =>
    intro r d e s hd hm hc he
    refine ⟨_, exec_modeSet_request hd hm hc, ?_⟩
    rw [State.modeRequest_refused _ ((s.modeCheck_popDesc r _).trans he)]
    obtain ⟨hended, hmode, hrole, hcount, hevent, htag⟩ := (s.popDesc r).modeRefused_ends d d.param0 e
    exact ⟨hended, hmode, hrole, hcount, hevent, htag⟩
  case checkOnly =>
    intro r d s hd hm hc
    obtain ⟨status, detail, heq, hfails, hpasses⟩ := (s.popDesc r).modeCheckOnly_eq d d.param0
    refine ⟨_, exec_modeSet_checkOnly hd hm hc, ?_⟩
    rw [heq]
    refine ⟨State.done_regs _ _ _ _ _, by simp, fun e he => ?_, fun he => ?_⟩
    · obtain ⟨rfl, rfl⟩ := hfails e he
      exact State.done_ended _ _ _ _ _
    · obtain ⟨rfl, rfl⟩ := hpasses he
      exact State.done_ended _ _ _ _ _
  case now =>
    intro r d s hd hm hc hcheck hdiff hnow
    exact ⟨_, exec_modeSet_request hd hm hc, State.modeRequest_now d
      ((s.modeCheck_popDesc r _).trans hcheck) hdiff hnow⟩
  case waits =>
    intro r d s hd hm hc hcheck hdiff h0 hsetup hshadow hrole hwait
    refine ⟨_, exec_modeSet_request hd hm hc, State.modeRequest_waits d
      ((s.modeCheck_popDesc r _).trans hcheck) hdiff ?_ hwait⟩
    exact fun h => h.elim h0 (·.elim hsetup (·.elim hshadow (· hrole)))
  case idle =>
    intro r d s hd hm hc hcheck hdiff h0 hsetup hshadow hrole h5 hwait
    refine ⟨_, exec_modeSet_request hd hm hc, State.modeRequest_idle d
      ((s.modeCheck_popDesc r _).trans hcheck) hdiff ?_ h5 hwait⟩
    exact fun h => h.elim h0 (·.elim hsetup (·.elim hshadow (· hrole)))
  case same =>
    intro r d s hd hm hc hcheck hsame
    refine ⟨_, exec_modeSet_request hd hm hc, ?_⟩
    rw [State.modeRequest_same _ ((s.modeCheck_popDesc r _).trans hcheck) hsame]
    refine ⟨State.modeDone_ended _ _ _ _ _, ?_, ?_, State.modeDone_lastTag _ _ _ _ _⟩
    · exact State.rd_modeDone_ne _ _ _ _ _ _ (by decide)
    · exact State.modeDone_tr _ _ _ _ _
  case complete => exact fun x s htr hleft hloaded => modeSetComplete_ends htr hleft hloaded
  case resume => exact fun s hresume hawake => heldModeResume_ends hresume hawake

end Sys2Proof.Machine
end

section
/-! The acquisition machine of a line engine: how it goes on and falls back, what a window of signal power, of clipped samples
and a margin computation show (03_line_engine.md R86 to R114). -/
namespace Sys2Proof.Machine

/-! ### Commands, events and counters -/

/-- A command that acts where a test holds ends in the state that it acts to. -/
theorem ends_of_guard {c : Instr} {s t u : State} {b : Bool} {P : State → Prop}
    (hexec : exec c s = ok (if b then t else u)) (hb : b = true) (h : P t) : Ends c s P :=
  ⟨t, by rw [hexec, if_pos hb]; rfl, h⟩

/-- An event sets no bit but its own. -/
theorem State.rd_raiseReg_ne (s : State) {f g : Fld} (i j : Nat) (a : EvArg) (h : recMask.testBit g.info.rg.ctorIdx = false)
    (hne : f ≠ g) : (s.raiseReg f i a).rd g j = s.rd g j := by
  rw [State.rd_raiseReg _ _ _ _ _ _ h, if_neg fun e => hne e.1]

/-- An event that is counted sets its bit, in whichever order the two come. -/
theorem State.rd_raiseCount_self (s : State) (f : Fld) (i : Nat) (a : EvArg) (k n : Nat)
    (h : recMask.testBit f.info.rg.ctorIdx = false) (hw : f.info.w = 1) : (s.raiseCount (.reg f i) a k n).rd f i = 1 := by
  unfold State.raiseCount
  split
  · rw [State.rd_count _ _ _ _ _ h]
    exact State.rd_raiseReg_self _ _ _ _ h hw
  · exact State.rd_raiseReg_self _ _ _ _ h hw

/-- Which counters count depends on the part alone. -/
theorem State.cntValid_congr {s t : State} (h : t.fuse = s.fuse) (k : Nat) : t.cntValid k = s.cntValid k := by
  unfold State.cntValid State.hasEng State.hasPort State.engines State.ports
  rw [h]

/-- The first counter of an engine of the part, its acquisition failures, counts. -/
theorem State.cntValid_cEng {s : State} {n : Nat} (hn : s.hasEng n = true) : s.cntValid (cEng n 0) = true := by
  have hlt : n < s.engines := of_decide_eq_true hn
  have hengines : s.engines ≤ 4 := by unfold State.engines; split <;> decide
  have hdiv : (32 * n + 0) / 32 = n := by omega
  have hmod : (32 * n + 0) % 32 = 0 := by omega
  unfold State.cntValid cEng
  rw [if_pos (by omega), hdiv, hmod, hn]
  rfl

theorem cEng_zero_not_mem_evCounters (n : Nat) : cEng n 0 ∉ evCounters := by
  simp only [cEng, evCounters, List.mem_cons, List.not_mem_nil, or_false]
  omega

/-! ### Lock is gained (R101, R103, R109) -/

theorem State.reqUsed_acqOf (s : State) (n m : Nat) : (s.reqUsed n).acqOf m = s.acqOf m :=
  State.acqOf_congr ((s.reqUsed_spec n).keep .eng rfl) m

theorem State.gainLock_shows (s : State) (n : Nat) :
    (s.gainLock n).rd .LE_STATUS_acq_state n = 6 ∧ (s.gainLock n).rd .LE_STATUS_dsp_lock n = 1
      ∧ (s.gainLock n).rd .LE_STATUS_EV_lock_gained n = 1 ∧ (s.gainLock n).rd .LE_MARGIN_margin_valid n = 0 := by
  unfold State.gainLock
  refine ⟨?_, ?_, State.rd_raiseReg_self _ _ _ _ rfl rfl, ?_⟩ <;> rw [State.rd_raiseReg_ne _ _ _ _ rfl (by decide)]
  · simp [State.decRestart, State.winRestart, State.setAcq, State.rd_wr]
    decide
  · simp [State.decRestart, State.winRestart, State.rd_wr]
    decide
  · simp [State.decRestart, State.winRestart]

theorem State.gainLock_acqOf (s : State) (n : Nat) : (s.gainLock n).acqOf n =
    { s.acqOf n with frozen := false, winCnt := 0, snrHist := [], gmiHist := [] } := by
  simp [State.gainLock, State.decRestart, State.winRestart, State.setAcq]

/-- Settles O1: each clause is one row of the table of R101, and the two that gain lock share what gaining it shows. -/
theorem acquisitionGoesOn : Obligations.AcquisitionGoesOn := by
  refine ⟨?search, ?clk, ?eq, ?car, ?hold⟩
  case search =>
    intro n tone s hacq
    refine ends_of_guard rfl hacq ⟨State.rd_wr_self _ _ _ _, ?_⟩
    simp [State.setAcq]
  case clk =>
    intro n ppb s hacq hppb
    refine ends_of_guard rfl (by simp [hacq, hppb]) ⟨State.rd_wr_self _ _ _ _, ?_⟩
    simp [State.setAcq]
  case eq =>
    intro n s hacq
    refine ends_of_guard rfl hacq ⟨State.rd_wr_self _ _ _ _, ?_⟩
    simp [State.setAcq]
  case car =>
    intro n fo snrMin s hacq hfo hsnr
    refine ends_of_guard rfl (by simp [hacq, hfo, hsnr]) ?_
    obtain ⟨hstate, hlock, hev, hmargin⟩ := State.gainLock_shows ((s.reqUsed n).modAcq n fun a => { a with fo := fo }) n
    refine ⟨hstate, hlock, hev, hmargin, ?_⟩
    simp [State.gainLock_acqOf]
  case hold =>
    intro n fo snrMin s hacq hsig hsnr
    refine ends_of_guard rfl (by simp [hacq, hsig, hsnr]) ?_
    obtain ⟨hstate, hlock, hev, -⟩ := State.gainLock_shows ((s.reqUsed n).modAcq n fun a => { a with fo := fo }) n
    refine ⟨hstate, hlock, hev, ?_, ?_⟩ <;> simp [State.gainLock_acqOf]

/-! ### A search begins, and a failure leads to one (R90, R92, R101) -/

/-- The state that a new search begins in: CLK_ACQ with cd_mode FIXED and a hint within range (R92, R101). -/
def State.searchEntry (s : State) (n : Nat) : Nat :=
  if s.rd .LE_CDC_CTRL_cd_mode n = 2 ∧ (s.rdInt .LE_CDC_CTRL_cd_hint n).natAbs ≤ cdRange (s.prof n) then 3 else 2

theorem State.enterSearch_acqState (s : State) (n : Nat) :
    (s.enterSearch n).rd .LE_STATUS_acq_state n = s.searchEntry n := by
  unfold State.enterSearch State.searchEntry
  by_cases hmode : s.rd .LE_CDC_CTRL_cd_mode n = 2
  · by_cases hhint : (s.rdInt .LE_CDC_CTRL_cd_hint n).natAbs ≤ cdRange (s.prof n)
    · simp [hmode, hhint, State.setAcq, Nat.not_lt.mpr hhint]; decide
    · simp [hmode, hhint, State.setAcq, Nat.lt_of_not_le hhint]; decide
  · simp [hmode, State.setAcq]; decide

/-- What leaves the dispersion control and the profile alone leaves the state that a search begins in. -/
theorem State.searchEntry_of_spec {F : Nat} {s t : State} (h : Spec F s t) (n : Nat)
    (hctrl : F.testBit Rg.LE_CDC_CTRL.ctorIdx = false) (hprof : F.testBit Rg.LE_PROFILE.ctorIdx = false) :
    t.searchEntry n = s.searchEntry n := by
  have hrd : ∀ f : Fld, f.info.rg = .LE_CDC_CTRL → t.rd f n = s.rd f n := fun f hf => h.rd f n (hf ▸ hctrl)
  have hp : t.prof n = s.prof n := h.rd .LE_PROFILE_prof_active n hprof
  unfold State.searchEntry State.rdInt
  rw [hrd .LE_CDC_CTRL_cd_mode rfl, hrd .LE_CDC_CTRL_cd_hint rfl, hp]

/-- An acquisition failure is raised and counted, and leads to a search. -/
theorem State.acqFail_shows {s : State} {n : Nat} (hn : s.hasEng n = true) :
    (s.acqFail n).rd .LE_STATUS_acq_state n = s.searchEntry n ∧ (s.acqFail n).rd .LE_STATUS_EV_acq_fail n = 1
      ∧ (s.acqFail n).cntOf (cEng n 0) = (s.cntOf (cEng n 0) + 1) % 2 ^ 48 := by
  unfold State.acqFail
  refine ⟨?_, ?_, ?_⟩
  · rw [State.enterSearch_acqState, State.searchEntry_of_spec (s.raiseCountReg_spec _ _ _ _ _) n rfl rfl]
  · rw [(State.enterSearch_spec _ _).rd _ _ rfl, State.rd_raiseCount_self _ _ _ _ _ _ rfl rfl]
  · rw [State.cntOf_congr ((State.enterSearch_spec _ _).keep .cnt rfl), State.cntOf_raiseCount _ _ _ _ _ _
      (cEng_zero_not_mem_evCounters n) (cEng_zero_not_mem_evCounters n), if_pos ⟨State.cntValid_cEng hn, rfl⟩]
    exact State.cntValid_congr (s.raiseReg_fuse _ _ _) _

/-! ### Lock is lost (R95, R101, R110, R114) -/

/-- The readings that show lock, as they fall with it (R95, R110, R114). -/
def lockReadings (n : Nat) : List (Fld × Nat × Nat) :=
  [(.LE_STATUS_dsp_lock, n, 0), (.LE_STATUS_est_converged, n, 0), (.LE_MARGIN_margin_valid, n, 0),
    (.LE_CD_EST_cd_valid, n, 0), (.LE_FO_EST_fo_valid, n, 0), (.LE_FEC_STATUS_decoding, n, 0)]

/-- Beside the readings that show lock, its fall touches the estimators, the framer and what an event bears on. -/
theorem State.dropLock_after (s : State) (n : Nat) :
    Spec 0xb10c1c00000000000000000000000022000000050000000a0000000000000000100000 (s.wrs (lockReadings n)) (s.dropLock n) := by
  unfold State.dropLock
  refine Spec.step (State.rxLost_spec _ _) rfl ?_
  refine Spec.step (State.modFec_spec _ _ _) rfl ?_
  refine Spec.step (State.decSpoil_spec _ _) rfl ?_
  refine Spec.step (State.wr_spec _ _ _ _) rfl ?_
  exact Spec.step (State.calStop_spec _ _ _) rfl Spec.refl

/-- Of LE_STATUS, its events and the estimates, leaving LOCKED changes the state, the readings that show lock, and LOCK_LOST. -/
theorem State.rd_unlock (s : State) (n : Nat) {f : Fld} (hf : f ≠ .LE_STATUS_EV_lock_lost)
    (hrg : f.info.rg ∈ [Rg.LE_STATUS, .LE_STATUS_EV, .LE_CD_EST, .LE_FO_EST]) :
    (s.unlock n).rd f n = ((s.setAcq n 7).wrs (lockReadings n)).rd f n := by
  have hmask : recMask.testBit f.info.rg.ctorIdx = false
      ∧ Nat.testBit 0xb10c1c00000000000000000000000022000000050000000a0000000000000000100000 f.info.rg.ctorIdx = false := by
    simp only [List.mem_cons, List.not_mem_nil, or_false] at hrg
    rcases hrg with h | h | h | h <;> rw [h] <;> decide
  unfold State.unlock
  rw [State.rd_raiseReg_ne _ _ _ _ hmask.1 hf.symm, (State.dropLock_after _ _).rd _ _ hmask.2]
  rfl

theorem State.unlock_shows (s : State) (n : Nat) :
    (s.unlock n).rd .LE_STATUS_acq_state n = 7 ∧ (s.unlock n).rd .LE_STATUS_dsp_lock n = 0
      ∧ (s.unlock n).rd .LE_STATUS_est_converged n = 0 ∧ (s.unlock n).rd .LE_CD_EST_cd_valid n = 0
      ∧ (s.unlock n).rd .LE_FO_EST_fo_valid n = 0 ∧ (s.unlock n).rd .LE_STATUS_EV_lock_lost n = 1 := by
  refine ⟨?_, ?_, ?_, ?_, ?_, State.rd_raiseReg_self _ _ _ _ rfl rfl⟩ <;>
    rw [State.rd_unlock _ _ (by decide) (by decide)] <;> simp [lockReadings, State.setAcq, State.rd_wr]
  decide

theorem State.hasEng_of_inAcq {s : State} {n st : Nat} (h : s.inAcq n st = true) : s.hasEng n = true :=
  (Bool.and_eq_true_iff.mp h).1

/-- The end of HOLD (R101). -/
theorem exec_acqHoldTimeout {n : Eng} {s : State} (hacq : s.inAcq n 7 = true) :
    exec (.acqHoldTimeout n) s = ok (if s.on .LE_STATUS_sig_present n then
      (s.modAcq n fun a => { a with frozen := false }).enterSearch n
    else (s.modAcq n fun a => { a with frozen := false }).setAcq n 1) :=
  congrArg ok (if_pos hacq)

/-- Settles O2: a time-out is an acquisition failure, LOCKED is left by an unlock, and HOLD ends by the signal that there is. -/
theorem acquisitionFallsBack : Obligations.AcquisitionFallsBack := by
  refine ⟨?timeout, ?unlock, ?hold⟩
  case timeout =>
    rintro n s c (⟨hacq, rfl⟩ | ⟨hacq, rfl⟩ | ⟨hacq, rfl⟩)
    all_goals exact ends_of_guard rfl hacq (State.acqFail_shows (State.hasEng_of_inAcq hacq))
  case unlock =>
    intro n why s hacq hmust
    exact ends_of_guard rfl (by rw [hacq, hmust]; rfl) ((s.reqUsed n).unlock_shows n)
  case hold =>
    intro n s hacq
    refine ⟨_, exec_acqHoldTimeout hacq, fun hsig => ?_, fun hsig => ?_⟩
    · rw [hsig]
      exact State.rd_wr_self _ _ _ _
    · rw [if_pos hsig]
      exact State.enterSearch_acqState _ _

/-! ### The signal rises and falls (R86, R101) -/

theorem State.unlock_keeps (s : State) (n : Nat) {f : Fld} (hf : f = .LE_STATUS_sig_present ∨ f = .LE_STATUS_EV_sig_lost) :
    (s.unlock n).rd f n = s.rd f n := by
  rcases hf with rfl | rfl <;>
  · rw [State.rd_unlock _ _ (by decide) (by decide)]
    simp [lockReadings, State.setAcq, State.rd_wr]

theorem State.enterSearch_sigPresent (s : State) (n : Nat) :
    (s.enterSearch n).rd .LE_STATUS_sig_present n = s.rd .LE_STATUS_sig_present n := by
  unfold State.enterSearch
  extract_lets hint mode out t
  split <;> simp [State.setAcq, State.rd_wr, t]

theorem State.sigRise_present (s : State) (n : Nat) : (s.sigRise n).rd .LE_STATUS_sig_present n = 1 := by
  have hrise : ((s.wr .LE_STATUS_sig_present n 1).clearLos n).rd .LE_STATUS_sig_present n = 1 :=
    ((State.clearLos_spec _ _).rd _ _ rfl).trans (State.rd_wr_self _ _ _ _)
  unfold State.sigRise
  dsimp only
  split
  · rw [State.enterSearch_sigPresent, hrise]
  · exact hrise

/-- A fall of sig_present shows with its event, whatever the acquisition machine does then. -/
theorem State.sigFall_shows (s : State) (n : Nat) :
    (s.sigFall n).rd .LE_STATUS_sig_present n = 0 ∧ (s.sigFall n).rd .LE_STATUS_EV_sig_lost n = 1 := by
  unfold State.sigFall
  extract_lets fallen t st
  have hfallen : fallen.rd .LE_STATUS_sig_present n = 0 ∧ fallen.rd .LE_STATUS_EV_sig_lost n = 1 := by
    unfold fallen
    rw [(State.declareLos_spec _ _).rd _ _ rfl, (State.declareLos_spec _ _).rd _ _ rfl,
      State.rd_raiseReg_ne _ _ _ _ rfl (by decide), (State.calStop_spec _ _ _).rd _ _ rfl, State.rd_wr_self]
    exact ⟨rfl, State.rd_raiseReg_self _ _ _ _ rfl rfl⟩
  clear_value fallen
  have hshown : t.rd .LE_STATUS_sig_present n = 0 ∧ t.rd .LE_STATUS_EV_sig_lost n = 1 := by
    simpa only [t, State.rd_modTx] using hfallen
  clear_value t
  split
  · simpa [State.setAcq, State.rd_wr] using hshown
  · split
    · simpa [State.unlock_keeps] using hshown
    · exact hshown

/-! ### Windows of signal power (R86, R87) -/

/-- The runs of windows after one more (R86): one that was in progress when a threshold was written does not count. -/
def EngAcq.window (a : EngAcq) (thr : Int × Int) (pwr : Int) : EngAcq :=
  if a.sigSkip then { a with sigSkip := false }
  else { a with sigHi := if thr.1 ≤ pwr then min 10 (a.sigHi + 1) else 0,
                sigLo := if pwr < thr.2 then min 10 (a.sigLo + 1) else 0 }

theorem State.sigWindow_eq {s : State} {n : Nat} (pwr : Int) (hn : s.hasEng n = true) (hrun : s.rd .LE_STATUS_acq_state n ≠ 0) :
    s.sigWindow n pwr =
      if ((s.acqOf n).window (s.sigThr n) pwr).sigHi == 10 && !s.on .LE_STATUS_sig_present n then
        (s.modAcq n (·.window (s.sigThr n) pwr)).sigRise n
      else if ((s.acqOf n).window (s.sigThr n) pwr).sigLo == 10 && s.on .LE_STATUS_sig_present n then
        (s.modAcq n (·.window (s.sigThr n) pwr)).sigFall n
      else s.modAcq n (·.window (s.sigThr n) pwr) := by
  unfold State.sigWindow
  rw [if_neg (by simp [hn, hrun]), ← State.acqOf_modAcq s n (·.window (s.sigThr n) pwr)]
  rfl

theorem State.sigThr_lt (s : State) (n : Nat) : (s.sigThr n).2 < (s.sigThr n).1 := by
  unfold State.sigThr
  dsimp only
  split <;> omega

theorem sigWindow_rises {n : Eng} {pwr : Int} {s : State} (hn : s.hasEng n = true) (hrun : s.rd .LE_STATUS_acq_state n ≠ 0)
    (hpwr : (s.sigThr n).1 ≤ pwr) (hhi : 9 ≤ (s.acqOf n).sigHi) (hskip : (s.acqOf n).sigSkip = false) :
    (s.sigWindow n pwr).rd .LE_STATUS_sig_present n ≠ 0 := by
  have hlt := s.sigThr_lt n
  have hten : ((s.acqOf n).window (s.sigThr n) pwr).sigHi = 10 := by
    simp [EngAcq.window, hskip, hpwr]
    omega
  have hlow : ((s.acqOf n).window (s.sigThr n) pwr).sigLo = 0 := by
    simp [EngAcq.window, hskip]
    omega
  rw [State.sigWindow_eq pwr hn hrun, hten, hlow]
  cases hon : s.on .LE_STATUS_sig_present n
  · simp [State.sigRise_present]
  · simpa [State.on] using hon

theorem sigWindow_falls {n : Eng} {pwr : Int} {s : State} (hn : s.hasEng n = true) (hrun : s.rd .LE_STATUS_acq_state n ≠ 0)
    (hpwr : pwr < (s.sigThr n).2) (hlo : 9 ≤ (s.acqOf n).sigLo) (hskip : (s.acqOf n).sigSkip = false)
    (hon : s.on .LE_STATUS_sig_present n = true) :
    s.sigWindow n pwr = (s.modAcq n (·.window (s.sigThr n) pwr)).sigFall n := by
  have hten : ((s.acqOf n).window (s.sigThr n) pwr).sigLo = 10 := by
    simp [EngAcq.window, hskip, hpwr]
    omega
  rw [State.sigWindow_eq pwr hn hrun, hten, hon]
  simp

theorem State.modAcq_congr {s : State} {n : Nat} {g h : EngAcq → EngAcq} (e : g (s.acqOf n) = h (s.acqOf n)) :
    s.modAcq n g = s.modAcq n h := by
  unfold State.modAcq State.modEng
  change g (s.engOf n).acq = h (s.engOf n).acq at e
  dsimp only
  rw [e]

theorem sigWindow_skips {n : Eng} (pwr : Int) {s : State} (hn : s.hasEng n = true) (hrun : s.rd .LE_STATUS_acq_state n ≠ 0)
    (hskip : (s.acqOf n).sigSkip = true) (hhi : (s.acqOf n).sigHi ≠ 10) (hlo : (s.acqOf n).sigLo ≠ 10) :
    s.sigWindow n pwr = s.modAcq n fun a => { a with sigSkip := false } := by
  have hwindow : (s.acqOf n).window (s.sigThr n) pwr = { s.acqOf n with sigSkip := false } := if_pos hskip
  rw [State.sigWindow_eq pwr hn hrun, hwindow, if_neg (by simp [hhi]), if_neg (by simp [hlo])]
  exact State.modAcq_congr hwindow

/-! ### Windows of clipped samples (R88) -/

/-- CLIP_WINDOW in an engine whose converters run. -/
theorem exec_clipWindow {n : Eng} {s : State} (clipped : List Nat) (samples : Nat) (hn : s.hasEng n = true)
    (hrun : s.rd .LE_STATUS_acq_state n ≠ 0) :
    exec (.clipWindow n clipped samples) s = ok
      (if (clipped.any fun k => decide (samples < 10000 * k)) && !s.on .LE_STATUS_clip n then
        (s.wr .LE_STATUS_clip n (b2n (clipped.any fun k => decide (samples < 10000 * k)))).raiseReg .LE_STATUS_EV_clip_seen n
          { obj := n }
      else s.wr .LE_STATUS_clip n (b2n (clipped.any fun k => decide (samples < 10000 * k)))) :=
  congrArg ok (if_neg (by simp [hn, hrun]))

theorem b2n_mod_two (b : Bool) : b2n b % 2 ^ 1 = b2n b := by cases b <;> rfl

theorem clipWindow_ends {n : Eng} {s : State} (clipped : List Nat) (samples : Nat) (hn : s.hasEng n = true)
    (hrun : s.rd .LE_STATUS_acq_state n ≠ 0) : Ends (.clipWindow n clipped samples) s fun t =>
      t.rd .LE_STATUS_clip n = b2n (clipped.any fun k => decide (samples < 10000 * k))
        ∧ ((clipped.any fun k => decide (samples < 10000 * k)) = true → s.rd .LE_STATUS_clip n = 0 →
            t.rd .LE_STATUS_EV_clip_seen n = 1) := by
  refine ⟨_, exec_clipWindow clipped samples hn hrun, ?_⟩
  generalize (clipped.any fun k => decide (samples < 10000 * k)) = c
  have hclip : (s.wr .LE_STATUS_clip n (b2n c)).rd .LE_STATUS_clip n = b2n c :=
    (State.rd_wr_self _ _ _ _).trans (b2n_mod_two c)
  split
  · exact ⟨(State.rd_raiseReg_ne _ _ _ _ rfl (by decide)).trans hclip, fun _ _ => State.rd_raiseReg_self _ _ _ _ rfl rfl⟩
  next hrise => exact ⟨hclip, fun hc hwas => absurd (by simp [hc, State.on, hwas]) hrise⟩

/-! ### What a margin computation leaves to the acquisition and to the Storekeeper (R107; 04_nurnauri_fec.md R137) -/

/-- The acquisition and the Storekeeper's records of an engine are as they were, as an end of a FEC window leaves them. -/
def AcqSkKept (n : Nat) (s t : State) : Prop := t.acqOf n = s.acqOf n ∧ t.skOf n = s.skOf n

namespace AcqSkKept

variable {n : Nat} {s t u : State}

theorem refl : AcqSkKept n s s := ⟨rfl, rfl⟩

theorem step (g : AcqSkKept n t u) (h : AcqSkKept n s t) : AcqSkKept n s u := ⟨g.1.trans h.1, g.2.trans h.2⟩

theorem spec {F : Nat} (g : Spec F t u) (hF : F.testBit (256 + Comp.eng.ctorIdx) = false) (h : AcqSkKept n s t) :
    AcqSkKept n s u :=
  step ⟨State.acqOf_congr (g.keep .eng hF) n, State.skOf_congr (g.keep .eng hF) n⟩ h

theorem modFec (m : Nat) (g : EngFec → EngFec) (h : AcqSkKept n s t) : AcqSkKept n s (t.modFec m g) :=
  step ⟨State.acqOf_modFec_any _ _ _ _, State.skOf_modFec_any _ _ _ _⟩ h

theorem raiseReg (f : Fld) (i : Nat) (a : EvArg) (h : AcqSkKept n s t) : AcqSkKept n s (t.raiseReg f i a) :=
  step ⟨State.acqOf_raiseReg _ _ _ _ _, State.skOf_raiseReg _ _ _ _ _⟩ h

theorem wrs (l : List (Fld × Nat × Nat)) (h : AcqSkKept n s t) : AcqSkKept n s (t.wrs l) := by
  induction l generalizing t with
  | nil => exact h
  | cons x l ih => exact ih h

theorem ite {c : Prop} [Decidable c] (h : AcqSkKept n s t) (g : AcqSkKept n s u) : AcqSkKept n s (if c then t else u) := by
  split
  · exact h
  · exact g

end AcqSkKept

section
variable (n : Nat) (s : State)

theorem State.excessClear_acqSkKept (m : Nat) : AcqSkKept n s (s.excessClear m) :=
  .spec (State.fabRefresh_spec _) rfl (.modFec _ _ (.wrs [(.LE_FEC_STATUS_fec_excess, m, 0)] .refl))

theorem State.excessEval_acqSkKept (m : Nat) (valid : Bool) (unc cws k : Nat) :
    AcqSkKept n s (s.excessEval m valid unc cws k) := by
  unfold State.excessEval
  refine .ite (.modFec _ _ .refl) (.ite ?_ ?_)
  · exact .ite (.raiseReg _ _ _ (.step (State.excessClear_acqSkKept _ _ _) (.modFec _ _ .refl))) (.modFec _ _ .refl)
  · refine .ite (.raiseReg _ _ _ (.spec (State.fabRefresh_spec _) rfl ?_)) (.modFec _ _ .refl)
    exact .wrs [(.LE_FEC_STATUS_fec_excess, m, 1)] (.modFec _ _ (.modFec _ _ .refl))

theorem State.fecWindowClose_acqSkKept (m : Nat) : AcqSkKept n s (s.fecWindowClose m) := by
  unfold State.fecWindowClose
  refine .modFec _ _ (.step (State.excessEval_acqSkKept _ _ _ _ _ _ _) ?_)
  exact .ite (.modFec _ _ .refl) (.raiseReg _ _ _ (.modFec _ _ .refl))

theorem State.fecReveal_acqSkKept (m : Nat) : AcqSkKept n s (s.fecReveal m) := by
  unfold State.fecReveal
  split
  · exact .modFec _ _ (.wrs _ .refl)
  · exact .refl

theorem State.fecComputed_acqSkKept (m : Nat) : AcqSkKept n s (s.fecComputed m) := by
  unfold State.fecComputed
  refine .ite (State.fecReveal_acqSkKept _ _ _) (.modFec _ _ ?_)
  exact .step (State.fecReveal_acqSkKept _ _ _) (State.fecWindowClose_acqSkKept _ _ _)

end

/-! ### Margin readings (R107 to R114) -/

theorem clampInt_bounds {lo hi : Int} (h : lo ≤ hi) (x : Int) : lo ≤ clampInt lo hi x ∧ clampInt lo hi x ≤ hi := by
  unfold clampInt
  split
  · omega
  · split <;> omega

theorem State.reqUsed_skOf (s : State) (n m : Nat) : (s.reqUsed n).skOf m = s.skOf m :=
  State.skOf_congr ((s.reqUsed_spec n).keep .eng rfl) m

theorem State.requestCheck_eng (s : State) (n : Nat) : (s.requestCheck n).eng = s.eng :=
  (s.requestCheck_spec n).keep .eng rfl

theorem State.marginCompute_records (s : State) (n : Nat) (m : MarginObs) :
    ((s.marginCompute n m).acqOf n).snrHist = ((m.snr : Int) :: (s.acqOf n).snrHist).take 10
      ∧ ((s.marginCompute n m).skOf n).ownRseq = ((s.skOf n).ownRseq + 1) % 256 := by
  unfold State.marginCompute
  rw [State.acqOf_congr (State.requestCheck_eng _ _), State.skOf_congr (State.requestCheck_eng _ _), State.acqOf_modSk,
    State.skOf_modSk, (State.fecComputed_acqSkKept _ _ _).1, (State.fecComputed_acqSkKept _ _ _).2]
  simp [State.reqUsed_acqOf, State.reqUsed_skOf]

/-- After a margin computation's own readings, it touches those of the FEC window, the Storekeeper's record and a pilot
request. -/
theorem State.marginEnd_spec (s : State) (n : Nat) (g : EngSk → EngSk) :
    Spec 0xb00cdc00000000000000000000000022000000040000000a000000000000a00003f000 s
      (((s.fecComputed n).modSk n g).requestCheck n) := by
  refine Spec.step (State.requestCheck_spec _ _) rfl ?_
  refine Spec.step (State.modSk_spec _ _ _) rfl ?_
  exact Spec.step (State.fecComputed_spec _ _) rfl Spec.refl

theorem State.marginCompute_readings (s : State) (n : Nat) (m : MarginObs) :
    let h := ((m.snr : Int) :: (s.acqOf n).snrHist).take 10
    (s.marginCompute n m).rd .LE_SNR_snr_est n = (meanNear h).toNat % 2 ^ 16
      ∧ (s.marginCompute n m).rdInt .LE_MARGIN_snr_margin n = clampInt (-32768) 32767 (meanNear h - s.snrReqNow n)
      ∧ (s.marginCompute n m).rd .LE_CD_EST_cd_valid n = 1 ∧ (s.marginCompute n m).rd .LE_FO_EST_fo_valid n = 1 := by
  intro h
  unfold State.marginCompute
  extract_lets +onlyGivenNames req greq sHist snr gmi sGmi conv sConv sValid sSnr sMargin sTrack sCd sFo sShown
  have hsnr : snr = meanNear h := by
    simp only [snr, sHist, State.acqOf_modAcq, State.reqUsed_acqOf, h]
  have hkeep : ∀ f : Fld, .LE_FO_EST_fo_est ≠ f → .LE_CD_EST_cd_est ≠ f → .LE_MARGIN_gmi_margin ≠ f →
      Nat.testBit 0xb00cdc00000000000000000000000022000000040000000a000000000000a00003f000 f.info.rg.ctorIdx = false →
      ((sShown.modSk n fun k => { k with ownRseq := (k.ownRseq + 1) % 256 }).requestCheck n).rd f n = sSnr.rd f n := by
    intro f hfo hcd hgmi hend
    calc _ = (sFo.wrInt .LE_FO_EST_fo_est n _).rd f n := (State.marginEnd_spec _ _ _).rd f n hend
      _ = sFo.rd f n := State.rd_wr_ne _ _ _ _ hfo
      _ = sCd.rd f n := State.rd_modAcq _ _ _ _ _
      _ = sTrack.rd f n := State.rd_wr_ne _ _ _ _ hcd
      _ = sMargin.rd f n := State.rd_modAcq _ _ _ _ _
      _ = sSnr.rd f n := State.rd_wr_ne _ _ _ _ hgmi
  have hvalid : ∀ f : Fld, .LE_MARGIN_snr_margin ≠ f → .LE_SNR_snr_req ≠ f → sSnr.rd f n = sValid.rd f n :=
    fun f hmargin hreq => (State.rd_wr_ne _ _ _ _ hmargin).trans (State.rd_wr_ne _ _ _ _ hreq)
  have hmargin : sSnr.rdInt .LE_MARGIN_snr_margin n = clampInt (-32768) 32767 (snr - req) := by
    obtain ⟨lo, hi⟩ := clampInt_bounds (lo := -32768) (hi := 32767) (by decide) (snr - req)
    have hw : Fld.LE_MARGIN_snr_margin.info.w = 16 := rfl
    unfold State.rdInt sSnr State.wrInt
    rw [State.rd_wr_self, hw]
    exact ofTwos_toTwos (w := 16) (by decide) (by norm_num; exact lo) (by norm_num; exact Int.lt_add_one_of_le hi)
  have hest : sValid.rd .LE_SNR_snr_est n = snr.toNat % 2 ^ 16 := by
    simp [sValid, State.rd_wr]
    rfl
  have hcd : sValid.rd .LE_CD_EST_cd_valid n = 1 := by
    simp [sValid, State.rd_wr]
    decide
  have hfo : sValid.rd .LE_FO_EST_fo_valid n = 1 := by
    simp [sValid, State.rd_wr]
    decide
  rw [hsnr] at hest hmargin
  refine ⟨?_, ?_, ?_, ?_⟩
  · rw [hkeep _ (by decide) (by decide) (by decide) rfl, hvalid _ (by decide) (by decide), hest]
  · unfold State.rdInt at hmargin ⊢
    rw [hkeep _ (by decide) (by decide) (by decide) rfl, hmargin]
  · rw [hkeep _ (by decide) (by decide) (by decide) rfl, hvalid _ (by decide) (by decide), hcd]
  · rw [hkeep _ (by decide) (by decide) (by decide) rfl, hvalid _ (by decide) (by decide), hfo]

/-- The margin readings reach the Storekeeper. -/
theorem marginReport_ends {n : Eng} {s : State} (hn : s.hasEng n = true) (hservice : s.inService n = true) :
    Ends (.marginReport n) s fun t =>
      (t.skOf n).ownMargin = s.regVal .LE_MARGIN n ∧ (t.skOf n).ownRseq = (s.skOf n).ownRseq :=
  ends_of_guard rfl (by rw [hn, hservice]; rfl) (by simp)

/-- Settles O3: each clause is what one window, computation or report shows. -/
theorem signalWindows : Obligations.SignalWindows := by
  refine ⟨?rises, ?falls, ?skips, ?clips, ?computes, ?reports⟩
  case rises =>
    intro n pwr s hn hrun hpwr hhi hskip
    exact ⟨_, rfl, sigWindow_rises hn hrun hpwr hhi hskip⟩
  case falls =>
    intro n pwr s hn hrun hpwr hlo hskip hon
    exact ⟨_, congrArg ok (sigWindow_falls hn hrun hpwr hlo hskip hon), State.sigFall_shows _ _⟩
  case skips =>
    intro n pwr s hn hrun hskip hhi hlo
    exact ⟨_, rfl, sigWindow_skips pwr hn hrun hskip hhi hlo⟩
  case clips => exact fun n clipped samples s hn hrun => clipWindow_ends clipped samples hn hrun
  case computes =>
    intro n m s hacq
    obtain ⟨hhist, hrseq⟩ := s.marginCompute_records n m
    obtain ⟨hest, hmargin, hcd, hfo⟩ := s.marginCompute_readings n m
    exact ends_of_guard rfl hacq ⟨hhist, hest, hmargin, hcd, hfo, hrseq⟩
  case reports => exact fun n s hn hservice => marginReport_ends hn hservice

end Sys2Proof.Machine
end

section
/-! A received frame of a regenerating engine on its way to the partner engine (01_architecture.md R14, R15;
06_tributary_mapping.md R229), which no event of the first engine's decoder leaves alone. -/
namespace Sys2Proof.Machine

/-! ### A position enters the decoder (04_nurnauri_fec.md R125) -/

/-- What leaves the mode and the transmit control alone leaves the loopback. -/
theorem State.loopback_of_spec {F : Nat} {s t : State} (h : Spec F s t) (n : Nat)
    (hmode : F.testBit Rg.SYS_MODE.ctorIdx = false) (hctrl : F.testBit Rg.LE_TX_CTRL.ctorIdx = false) :
    t.loopback n = s.loopback n := by
  unfold State.loopback State.modeNow
  rw [h.rd .SYS_MODE_mode 0 hmode, h.rd .LE_TX_CTRL_lb_mode n hctrl]

/-- Showing and counting whether a position is decoded changes no engine. -/
theorem State.fecArrive_engOf (s : State) (n : Nat) (zero : Bool) (m : Nat) : (s.fecArrive n zero).engOf m = s.engOf m := by
  unfold State.fecArrive
  split <;> simp

/-- A position that enters a window that is not full, where no loopback is in force, leaves the framer, the transmitters and
what the decoder has made for the frames that wait as they were. -/
theorem State.positionTime_filling {s : State} {n : Nat} (p : PosObs) (hloop : s.loopback n = 0)
    (hwin : (s.fecOf n).win.length < 64) :
    (s.positionTime n p).txOf = s.txOf ∧ (s.positionTime n p).rxOf = s.rxOf
      ∧ ((s.positionTime n p).fecOf n).outQ = (s.fecOf n).outQ := by
  have hfec : ∀ z, (s.fecArrive n z).fecOf n = s.fecOf n := fun z => congrArg Engine.fec (s.fecArrive_engOf n z n)
  have htx : ∀ z m, (s.fecArrive n z).txOf m = s.txOf m := fun z m => congrArg Engine.tx (s.fecArrive_engOf n z m)
  have hrx : ∀ z m, (s.fecArrive n z).rxOf m = s.rxOf m := fun z m => congrArg Engine.rx (s.fecArrive_engOf n z m)
  have hfar : ∀ z, (s.fecArrive n z).loopback n = 0 := fun z =>
    (State.loopback_of_spec (s.fecArrive_spec n z) n rfl rfl).trans hloop
  unfold State.positionTime State.posEnter
  refine ⟨funext fun m => ?_, funext fun m => ?_, ?_⟩ <;> simp [hloop, hfar, hfec, htx, hrx, Nat.not_le.mpr hwin]

/-! ### A frame is handed over to the partner engine (06_tributary_mapping.md R229) -/

/-- In REGENERATOR a received frame goes to the transmitter of the partner engine (06_tributary_mapping.md R229). -/
theorem State.rxHandOver_regenQ {s : State} {n : Nat} (p : RxPend) (plain : List Byte) (hmode : s.modeNow = 3)
    (hon : (s.txOf (partner n)).on = true) :
    ((s.rxHandOver n p plain).txOf (partner n)).regenQ.length = (s.txOf (partner n)).regenQ.length + 1 := by
  unfold State.rxHandOver
  dsimp only
  rw [if_neg (by simp [hmode, hon]), State.txOf_modTx]
  split
  next hempty => rw [List.isEmpty_iff.mp (Bool.and_eq_true_iff.mp hempty).1]; rfl
  · exact List.length_append

theorem State.rxHandOver_modeNow (s : State) (n : Nat) (p : RxPend) (plain : List Byte) :
    (s.rxHandOver n p plain).modeNow = s.modeNow := ((s.rxHandOver_spec n p plain).mono rfl).modeNow

/-- In REGENERATOR no payload goes to the tributaries. -/
theorem State.rxSlots_regenerator {s : State} (n : Nat) (p : RxPend) (plain : List Byte) (hmode : s.modeNow = 3) :
    s.rxSlots n p plain = s := if_pos (by simp [hmode])

/-- A frame whose overhead carries the uncorrectable mark, and is therefore not read, is handed over as any other. -/
theorem State.rxOverhead_regenQ {s : State} {n : Nat} {p : RxPend} (v6 : List Byte) (hmode : s.modeNow = 3)
    (hon : (s.txOf (partner n)).on = true) (hmark : p.ohMark = true) (hfn : p.fn ≠ 255) :
    ((s.rxOverhead n p v6).txOf (partner n)).regenQ.length = (s.txOf (partner n)).regenQ.length + 1 := by
  have hhand : ∀ (u : State) plain, u.modeNow = s.modeNow → u.txOf (partner n) = s.txOf (partner n) →
      (((u.rxHandOver n p plain).rxSlots n p plain).txOf (partner n)).regenQ.length
        = (s.txOf (partner n)).regenQ.length + 1 := by
    intro u plain hu htx
    rw [State.rxSlots_regenerator _ _ _ ((u.rxHandOver_modeNow n p plain).trans (hu.trans hmode)),
      State.rxHandOver_regenQ p plain (hu.trans hmode) (by rw [htx, hon]), htx]
  unfold State.rxOverhead
  simp only [hmark, if_true, beq_iff_eq, hfn, if_false]
  apply hhand
  · unfold State.rxBlocks
    split <;> rfl
  · unfold State.rxBlocks
    split <;> simp

/-- So it is by the cipher's stage, where the engine does not cipher. -/
theorem State.rxProcess_regenQ {s : State} {n : Nat} {p : RxPend} (hmode : s.modeNow = 3)
    (hon : (s.txOf (partner n)).on = true) (hclear : s.ciphering n = false) (hmark : p.ohMark = true) (hfn : p.fn ≠ 255) :
    ((s.rxProcess n p).txOf (partner n)).regenQ.length = (s.txOf (partner n)).regenQ.length + 1 := by
  have hplain : s.rxProcess n p = s.rxOverhead n p p.pay := by
    unfold State.rxProcess State.rxDecrypt
    simp [hclear]
  rw [hplain, State.rxOverhead_regenQ _ hmode hon hmark hfn]

/-! ### A frame passes the look-ahead (01_architecture.md R14; 05_line_framing.md R166) -/

theorem State.rxProcess_modeNow (s : State) (n : Nat) (p : RxPend) : (s.rxProcess n p).modeNow = s.modeNow :=
  ((s.rxProcess_spec n p).mono rfl).modeNow

/-- A regenerating engine evaluates no marker. -/
theorem State.rxLateMark_regenerator {s : State} (n : Nat) (m : MkSeen) (hmode : s.modeNow = 3) : s.rxLateMark n m = s :=
  if_neg (by simp [hmode])

/-- A frame beyond the first three that enters a full look-ahead in REGENERATOR: the oldest leaves it and is processed. -/
theorem State.rxTake_full {s : State} {n : Nat} {p o a b : RxPend} (hmode : s.modeNow = 3)
    (hlook : (s.rxOf n).look = [o, a, b]) (hfn : 3 ≤ p.fn) :
    s.rxTake n p = (s.modRx n fun x => { x with look := [a, b, p] }).rxProcess n o := by
  have hfirst : ¬ p.fn = 0 := by omega
  have hearly : ¬ p.fn < 3 := by omega
  unfold State.rxTake
  simp only [beq_iff_eq, hfirst, hearly, hlook, List.cons_append, List.nil_append, List.length_cons, List.length_nil, if_false]
  exact State.rxLateMark_regenerator _ _ ((State.rxProcess_modeNow _ _ _).trans hmode)

/-- With the positions of the oldest frame that waits decoded, that frame enters the look-ahead. -/
theorem State.frameReady_ready {s : State} {n : Nat} {p : RxPend} {rest : List RxPend} (hwait : (s.rxOf n).wait = p :: rest)
    (hready : posPerFrame (s.prof n) ≤ (s.fecOf n).outQ.length) :
    ∃ (u : State) (q : RxPend), s.frameReady n = u.rxTake n q ∧ q.fn = p.fn ∧ (u.rxOf n).look = (s.rxOf n).look
      ∧ u.txOf = s.txOf ∧ u.regs = s.regs := by
  unfold State.frameReady
  rw [hwait]
  dsimp only
  rw [if_neg (Nat.not_lt.mpr hready)]
  exact ⟨_, _, rfl, rfl, by simp, funext fun m => by simp, rfl⟩

/-- The oldest frame of the look-ahead goes to the partner's transmitter when a later one that waits is complete. -/
theorem State.frameReady_regenQ {s : State} {n : Nat} {w o a b : RxPend} {rest : List RxPend} (hmode : s.modeNow = 3)
    (hon : (s.txOf (partner n)).on = true) (hclear : s.ciphering n = false) (hwait : (s.rxOf n).wait = w :: rest)
    (hready : posPerFrame (s.prof n) ≤ (s.fecOf n).outQ.length) (hlook : (s.rxOf n).look = [o, a, b]) (hw : 3 ≤ w.fn)
    (hmark : o.ohMark = true) (ho : o.fn ≠ 255) :
    ((s.frameReady n).txOf (partner n)).regenQ.length = (s.txOf (partner n)).regenQ.length + 1 := by
  obtain ⟨u, q, hu, hq, hulook, htx, hregs⟩ := State.frameReady_ready hwait hready
  have hrd : ∀ f i, u.rd f i = s.rd f i := fun f i => by unfold State.rd; rw [hregs]
  have humode : u.modeNow = 3 := (hrd _ _).trans hmode
  have huclear : u.ciphering n = false := (congrArg (· == 1) (hrd _ _)).trans hclear
  rw [hu, State.rxTake_full humode (hulook.trans hlook) (hq ▸ hw), ← htx, ← State.txOf_modRx_any u n (partner n)]
  exact State.rxProcess_regenQ humode (by simpa [htx] using hon) huclear hmark ho

/-! ### Two engines that regenerate -/

theorem exec_positionDecode_lpn {n : Eng} {s : State} (p : PosObs) (hn : s.hasEng n = true) (hservice : s.inService n = true)
    (hlpn : s.lpn n = true) : exec (.positionDecode n p) s = .next ((s.positionTime n p).frameReady n) :=
  congrArg Host.Outcome.next ((if_neg (by simp [hn, hservice])).trans (if_pos hlpn))

/-- In REGENERATOR with LP-N12 on engines 0 and 1 and the transmitter of engine 1 on: engine 0 holds frames 5 to 7 in its
look-ahead, the first of them with its overhead uncorrectable, and has decoded the positions of frame 8, which waits. -/
def regenerating : State :=
  (((State.reset.wrs [(.SYS_MODE_mode, 0, 3), (.LE_PROFILE_prof_active, 0, 5), (.LE_PROFILE_prof_active, 1, 5)]).modTx 1
    (fun x => { x with on := true })).modRx 0 (fun x =>
      { x with look := [{ fn := 5, ohMark := true }, { fn := 6 }, { fn := 7 }], wait := [{ fn := 8 }] })).modFec 0
    (fun f => { f with outQ := List.replicate 3 ([], []) })

theorem regenerating_frameReady :
    (((regenerating.positionTime 0 {}).frameReady 0).txOf 1).regenQ.length = (regenerating.txOf 1).regenQ.length + 1 := by
  have hspec := regenerating.positionTime_spec 0 {}
  obtain ⟨htx, hrx, hout⟩ := State.positionTime_filling (s := regenerating) (n := 0) {} (by decide) (by decide)
  rw [← htx]
  refine State.frameReady_regenQ (n := 0) (w := { fn := 8 }) (o := { fn := 5, ohMark := true }) (a := { fn := 6 })
    (b := { fn := 7 }) (rest := []) ?_ ?_ ?_ ?_ ?_ ?_ (by decide) rfl (by decide)
  · exact (hspec.rd .SYS_MODE_mode 0 rfl).trans (by decide)
  · rw [htx]
    decide
  · exact (congrArg (· == 1) (hspec.rd .CIPH_ENG_CTRL_use_active 0 rfl)).trans (by decide)
  · rw [hrx]
    rfl
  · rw [hout, show (regenerating.positionTime 0 {}).prof 0 = regenerating.prof 0 from hspec.rd .LE_PROFILE_prof_active 0 rfl]
    decide
  · rw [hrx]
    rfl

/-- Refutes O51: in REGENERATOR the position that completes a received frame brings an earlier one to the transmitter of the
partner engine, whose frames that wait are part of that engine's state. -/
theorem not_otherEnginesKeep : ¬ Obligations.OtherEnginesKeep := by
  rintro ⟨-, h⟩
  obtain ⟨t, ht, -, hkeep⟩ := h 0 1 .LE_STATUS_acq_state {} {} _ regenerating (by decide) rfl (Or.inr rfl)
  rw [exec_positionDecode_lpn {} (by decide) (by decide) (by decide)] at ht
  obtain rfl := Host.Outcome.next.inj ht
  have hlen := regenerating_frameReady
  have htx : ((regenerating.positionTime 0 {}).frameReady 0).txOf 1 = regenerating.txOf 1 := congrArg Engine.tx hkeep
  rw [htx] at hlen
  exact absurd hlen (Nat.ne_of_lt (Nat.lt_succ_self _))

end Sys2Proof.Machine
end

section
/-! Reads that change state: what a read of TIM_TOD_NS answers while a parity error of the register stands (09_timing.md
R346; 16_counters_and_events.md R532; log entry 232). -/
namespace Sys2Proof.Machine

/-- A read by a requester reaches its register, and its answer leaves the block (15_security_and_config.md R498;
14_power_and_cellar.md R474; 17_register_map.md R545). -/
structure State.Answers (s : State) (rq : Requester) (r : Rg) (i : Nat) (act : State → State) : Prop where
  reach : s.hostUnreachable = false
  readable : s.readable rq r i = true
  pad : (act s).padHeld 6 = false

/-- Such a read answers with what the register reads after the read's effect. -/
theorem State.Answers.out {s : State} {rq : Requester} {r : Rg} {i : Nat} {act : State → State} (h : s.Answers rq r i act) :
    (s.answer rq r i act).out = .rdData ((act s).regRead r i) :: (act s).out := by
  have hopen : ¬ (act s).padHeld (outGroup (.rdData ((act s).regRead r i))) = true := by
    rw [show outGroup (.rdData ((act s).regRead r i)) = 6 from rfl, h.pad]
    decide
  simp [State.answer, State.emit, h.reach, h.readable, hopen]

/-- After boot, at ToD 0, with the error that PARITY_SCAN records of bit 0 of TIM_TOD_NS, a read-only field. -/
def todFlipped : State := (State.reset.wr .SYS_RST_STATUS_boot_ready 0 1).roFlip .TIM_TOD_NS 0 (Rg.TIM_TOD_NS.addr 0) 0

/-- The read at ToD 0 updates the register to the value that it held, and answers with bit 0 in error. -/
theorem todFlipped_out : (todFlipped.todNsRead 0).out = .rdData 1 :: todFlipped.out :=
  State.Answers.out ⟨by decide, by decide, by decide⟩

/-- Refutes O36: a read of TIM_TOD_NS answers with the bit that a parity error has turned over, not with the nanoseconds,
where its update of the register leaves the value at which the error was found. -/
theorem not_readsThatAct : ¬ Obligations.ReadsThatAct := by
  rintro ⟨-, hns, -⟩
  obtain ⟨t, ht, -, hout, -⟩ := hns 0 todFlipped (by decide) (by decide) (by decide)
  obtain rfl : todFlipped.todNsRead 0 = t := Host.Outcome.next.inj ht
  rw [todFlipped_out] at hout
  exact absurd hout (by decide)

end Sys2Proof.Machine
end

section
/-! The decoder of an engine in NEAR_DIG, which takes the positions of the engine's own transmitter and none of the line's
(03_line_engine.md R116; 04_nurnauri_fec.md R131; log entry 165). -/
namespace Sys2Proof.Machine

/-! ### A position whose inputs are zero (04_nurnauri_fec.md R131) -/

theorem fecBits_pos (rate : Nat) : 0 < fecBits rate := by
  unfold fecBits
  split <;> decide

/-- A position without inputs enters with zeros. -/
theorem fecEnter_nil_zero (rate : Nat) : (fecEnter rate []).zero = true := by
  simp [fecEnter]

/-- A position enters with an input other than zero where its first input is one. -/
theorem fecEnter_cons_zero (rate : Nat) {v : Int} (l : List Int) (hv : five v ≠ 0) : (fecEnter rate (v :: l)).zero = false := by
  obtain ⟨k, hk⟩ := Nat.exists_eq_succ_of_ne_zero (fecBits_pos rate).ne'
  simp [fecEnter, hk, hv]

/-! ### What a position shows in NEAR_DIG (03_line_engine.md R116; 04_nurnauri_fec.md R149) -/

theorem State.fecArrive_decoding (s : State) (n : Nat) (zero : Bool) :
    (s.fecArrive n zero).rd .LE_FEC_STATUS_decoding n = b2n !zero := by
  cases zero
  · exact State.rd_wr_self _ _ _ _
  · exact (State.rd_count _ _ _ _ _ rfl).trans (State.rd_wr_self _ _ _ _)

/-- In NEAR_DIG decoding shows the oldest own position that waits, whatever the line brings; one that enters a window which is
not full leaves the framer as it was. -/
theorem State.positionTime_nearDig {s : State} {n : Nat} (p : PosObs) (hnear : s.loopback n = 1)
    (hwin : (s.fecOf n).win.length < 64) :
    (s.positionTime n p).rd .LE_FEC_STATUS_decoding n
      = b2n !(fecEnter (s.fecRate n) (s.softBits n (loopLlr (s.fecOf n).loopPos))).zero
      ∧ (s.positionTime n p).rxOf n = s.rxOf n := by
  have hfar : ∀ (g : EngFec → EngFec) z, ((s.modFec n g).fecArrive n z).loopback n = 1 := fun g z =>
    (State.loopback_of_spec ((s.modFec n g).fecArrive_spec n z) n rfl rfl).trans hnear
  have hfec : ∀ (u : State) z, (u.fecArrive n z).fecOf n = u.fecOf n := fun u z => congrArg Engine.fec (u.fecArrive_engOf n z n)
  have hrx : ∀ (u : State) z, (u.fecArrive n z).rxOf n = u.rxOf n := fun u z => congrArg Engine.rx (u.fecArrive_engOf n z n)
  unfold State.positionTime State.posEnter
  refine ⟨?_, ?_⟩ <;> simp [hnear, hfar, hfec, hrx, Nat.not_le.mpr hwin, State.fecArrive_decoding]

theorem State.frameReady_of_no_wait {s : State} {n : Nat} (h : (s.rxOf n).wait = []) : s.frameReady n = s := by
  unfold State.frameReady
  rw [h]

/-! ### An engine in NEAR_DIG whose transmitter has sent nothing -/

/-- In MAINTENANCE engine 0, on LP-N12, is in NEAR_DIG with a signal and locked, and no position of its own waits. -/
def nearDigSilent : State :=
  State.reset.wrs [(.SYS_MODE_mode, 0, 4), (.LE_TX_CTRL_lb_mode, 0, 1), (.LE_PROFILE_prof_active, 0, 5),
    (.LE_STATUS_dsp_lock, 0, 1), (.LE_STATUS_sig_present, 0, 1)]

theorem nearDigSilent_softBits (l : List Int) : nearDigSilent.softBits 0 l = l.map five := if_pos (by decide)

/-- No own position waits, so that the position which enters is not decoded. -/
theorem nearDigSilent_decoding (p : PosObs) :
    ((nearDigSilent.positionTime 0 p).frameReady 0).rd .LE_FEC_STATUS_decoding 0 = 0 := by
  obtain ⟨hdecoding, hrx⟩ := State.positionTime_nearDig (s := nearDigSilent) (n := 0) p (by decide) (by decide)
  rw [State.frameReady_of_no_wait (by rw [hrx]; decide), hdecoding, nearDigSilent_softBits]
  exact congrArg (b2n !·) (fecEnter_nil_zero _)

/-- Refutes O4: in NEAR_DIG the decoder takes the own positions, so that an input other than zero on the line shows as not
decoded where none of them waits. -/
theorem not_fecReadings : ¬ Obligations.FecReadings := by
  rintro ⟨henter, -⟩
  obtain ⟨t, ht, hdecoding, -⟩ := henter 0 { llr := [5] } nearDigSilent (by decide) (by decide) (by decide) (by decide)
  rw [exec_positionDecode_lpn _ (by decide) (by decide) (by decide)] at ht
  obtain rfl := Host.Outcome.next.inj ht
  have hline : (fecEnter (nearDigSilent.fecRate 0) (nearDigSilent.softBits 0 [5])).zero = false := by
    rw [nearDigSilent_softBits]
    exact fecEnter_cons_zero _ _ (by decide)
  change ((nearDigSilent.positionTime 0 _).frameReady 0).rd .LE_FEC_STATUS_decoding 0
    = b2n !(fecEnter (nearDigSilent.fecRate 0) (nearDigSilent.softBits 0 [5])).zero at hdecoding
  rw [nearDigSilent_decoding, hline] at hdecoding
  exact absurd hdecoding (by decide)

end Sys2Proof.Machine
end

section
/-! Intervals of performance monitoring: what a boundary latches and starts, and what an edge at PM_SYNC does by its distance
from the nearest boundary (05_line_framing.md R185 to R192). -/
namespace Sys2Proof.Machine

/-! ### The inventory walk and events (16_counters_and_events.md R521, R525) -/

/-- An event begins and ends no walk. -/
theorem State.raiseN_walk : ∀ n (s : State) e a, (State.raiseN n s e a).perf.walk = s.perf.walk := by
  intro n
  induction n with
  | zero => exact fun _ _ _ => rfl
  | succ n ih =>
    intro s e a
    unfold State.raiseN
    extract_lets +onlyGivenNames count sev seq s1 src s2
    have h2 : s2.perf.walk = s.perf.walk := by
      have h1 : s1.perf = s.perf := by cases e <;> exact State.setEv_perf _ _ _ _
      change s1.perf.walk = s.perf.walk
      rw [h1]
    have hcount : ∀ t k, (count t k).perf.walk = t.perf.walk := by
      intro t k
      dsimp only [count]
      split
      · rw [ih, State.bump_perf]
      · rw [State.bump_perf]
    clear_value count s2
    split
    · split
      · rw [hcount, State.setEv_perf, h2]
      · exact h2
    · extract_lets +onlyGivenNames key
      split
      · exact (hcount _ _).trans h2
      · split
        · rw [hcount, State.setEv_perf, State.modRing_perf, h2]
        · exact (congrArg PerfSt.walk ((State.writeEntry_spec _ _ _ _ _).keep .perf rfl)).trans h2

/-! ### Tests on an instant that may be unset

Their predicates stay variables here, so that the kernel need not evaluate a comparison of instants in 2^-16 ns. -/

section
variable {α : Type} {o : Option α} {p : α → Bool}

theorem getD_map_of_eq_some (p : α → Bool) {a : α} (h : o = some a) : (o.map p).getD false = p a := by
  rw [h]
  rfl

theorem getD_map_eq_false (h : ∀ a, o = some a → p a = false) : (o.map p).getD false = false := by
  cases o with
  | none => rfl
  | some a => exact h a rfl

theorem of_all_eq_some {a : α} (h : o.all p = true) (ha : o = some a) : p a = true := by
  rw [ha] at h
  exact h

end

/-! ### Edges at PM_SYNC (R188 to R191) -/

theorem foldHalf_bounds (x : Int) : -250000000 < foldHalf x ∧ foldHalf x ≤ 250000000 := by
  have hpos : 0 ≤ x % 500000000 := Int.emod_nonneg _ (by decide)
  have hlt : x % 500000000 < 500000000 := Int.emod_lt_of_pos _ (by decide)
  unfold foldHalf halfSec2ns
  dsimp only [Int.reduceMul]
  split <;> omega

/-- An edge at `tod` lies within 900 ms of the last one (R188). -/
def State.edgeSoon (s : State) (tod : Nat) : Bool :=
  (s.tim.pmEdge.map (fun e => decide (todElapsed e tod ≤ todSec * 9 / 10))).getD false

theorem State.edgeSoon_of_none {s : State} (tod : Nat) (h : s.tim.pmEdge = none) : s.edgeSoon tod = false := by
  simp [State.edgeSoon, h]

theorem State.edgeSoon_of_some {s : State} {tod e : Nat} (h : s.tim.pmEdge = some e)
    (hsoon : todElapsed e tod ≤ todSec * 9 / 10) : s.edgeSoon tod = true :=
  (getD_map_of_eq_some _ h).trans (decide_eq_true hsoon)

theorem State.edgeSoon_of_apart {s : State} {tod : Nat}
    (h : (s.tim.pmEdge.all fun e => decide (todSec * 9 / 10 < todElapsed e tod)) = true) : s.edgeSoon tod = false := by
  refine getD_map_eq_false fun e he => ?_
  have hapart := of_all_eq_some h he
  exact decide_eq_false (Nat.not_le.mpr (of_decide_eq_true hapart))

/-- The state in which an edge is acted on, which is the last one from here on. -/
def State.atEdge (s : State) (tod : Nat) : State :=
  { s.atTod tod with tim := { (s.atTod tod).tim with pmEdge := some tod } }

/-- The boundaries move by the distance of an edge (R189). -/
def State.pmMoved (s : State) (tod : Nat) : State :=
  (s.atEdge tod).wrInt .PERF_PM_OFFSET_pm_offset 0 (foldHalf (s.rdInt .PERF_PM_OFFSET_pm_offset + s.pmDelta tod))

/-- An edge is refused for its distance (R190). -/
def State.pmRefused (s : State) (tod : Nat) : State :=
  ((s.atEdge tod).setEv .PERF_PM_SYNC_pm_sync_refused 0).raise (.perf .pmSyncRefused) { arg := some (toTwos 64 (s.pmDelta tod)) }

section
variable {tod : Nat} {s : State} (hen : s.on .PERF_PM_SYNC_pm_sync_en = true)
include hen

theorem exec_pmSyncEdge_ignored (hsoon : s.edgeSoon tod = true) : exec (.pmSyncEdge tod) s =
    .next ((s.atTod tod).wr .PERF_PM_SYNC_pm_sync_ignored 0 (satNat 16 (s.rd .PERF_PM_SYNC_pm_sync_ignored + 1))) :=
  congrArg ok ((if_neg (by simp [hen])).trans (if_pos hsoon))

theorem exec_pmSyncEdge_refused (hsoon : s.edgeSoon tod = false) (hfar : 50000000 < (s.pmDelta tod).natAbs) :
    exec (.pmSyncEdge tod) s = .next (s.pmRefused tod) :=
  congrArg ok ((if_neg (by simp [hen])).trans ((if_neg (Bool.eq_false_iff.mp hsoon)).trans (if_pos hfar)))

theorem exec_pmSyncEdge_moves (hsoon : s.edgeSoon tod = false) (hnear : (s.pmDelta tod).natAbs ≤ 50000000) :
    exec (.pmSyncEdge tod) s = .next (if s.pmDelta tod < 0 then (s.pmMoved tod).pmEnd tod else s.pmMoved tod) :=
  congrArg ok ((if_neg (by simp [hen])).trans ((if_neg (Bool.eq_false_iff.mp hsoon)).trans (if_neg (Nat.not_lt.mpr hnear))))

end

/-- A refused edge shows in its bit and its event, moves no boundary, and ends no interval (R190). -/
theorem State.pmRefused_shows (s : State) (tod : Nat) :
    (s.pmRefused tod).rd .PERF_PM_SYNC_pm_sync_refused = 1 ∧ ((s.pmRefused tod).rd .PERF_EV_ev).testBit 12 = true
      ∧ (s.pmRefused tod).rd .PERF_PM_OFFSET_pm_offset = s.rd .PERF_PM_OFFSET_pm_offset
      ∧ (s.pmRefused tod).tim.pmPrev = s.tim.pmPrev ∧ (s.pmRefused tod).eng = s.eng
      ∧ (s.pmRefused tod).perf.walk = s.perf.walk := by
  have hspec : Spec recMask _ (s.pmRefused tod) := State.raisePerf_spec _ _ _
  refine ⟨?_, State.perfBit_raise _ _ _, ?_, ?_, ?_, ?_⟩
  · rw [hspec.rd _ _ rfl, State.rd_setEv, if_pos ⟨rfl, rfl⟩]
    rfl
  · rw [hspec.rd _ _ rfl, State.rd_setEv, if_neg (by decide)]
    rfl
  · have htim := hspec.keep .tim rfl
    rw [show _ = _ from htim, State.setEv_tim]
    rfl
  · exact (hspec.keep .eng rfl).trans (State.setEv_eng _ _ _ _)
  · exact (State.raiseN_walk _ _ _ _).trans (congrArg PerfSt.walk (State.setEv_perf _ _ _ _))

/-- Settles O56: pm_sync_refused and PM_SYNC_REFUSED rise, and an event touches neither pm_offset nor an interval nor a walk. -/
theorem pmSyncRefused : Obligations.PmSyncRefused := by
  intro tod s hen hsoon hfar
  obtain ⟨hbit, hev, hoffset, hprev, heng, hwalk⟩ := s.pmRefused_shows tod
  exact ⟨_, exec_pmSyncEdge_refused hen hsoon hfar, hbit, hev, congrArg (ofTwos _) hoffset, hprev, heng, hwalk⟩

/-! ### The end of an interval (R185 to R187) -/

theorem satNat_lt (w n : Nat) : satNat w n < 2 ^ w := by
  have := Nat.two_pow_pos w
  unfold satNat
  split <;> omega

/-- Of engine `n`, every field and the counts of the interval in progress are the same in two states. -/
structure State.SamePm (n : Nat) (s t : State) : Prop where
  rd : ∀ f, t.rd f n = s.rd f n
  pm : t.pmOf n = s.pmOf n

theorem State.SamePm.trans {n : Nat} {s t u : State} (h : s.SamePm n t) (g : t.SamePm n u) : s.SamePm n u :=
  ⟨fun f => (g.rd f).trans (h.rd f), g.pm.trans h.pm⟩

/-- The bit errors and the errored blocks of engine `n` are latched, a new interval of it begins, and pm_seq moves on. -/
structure State.PmLatched (n : Nat) (s t : State) : Prop where
  bip : t.rd .LE_PM_BIP_bip_err n = satNat 32 (s.pmOf n).bip
  eb : t.rd .LE_PM_EB_eb n = satNat 32 (s.pmOf n).eb
  newBip : (t.pmOf n).bip = 0
  newEb : (t.pmOf n).eb = 0
  seq : t.rd .LE_PM_SEC_pm_seq n = (s.rd .LE_PM_SEC_pm_seq n + 1) % 2 ^ (Fld.info .LE_PM_SEC_pm_seq).w

theorem State.PmLatched.congr {n : Nat} {r s t u : State} (h : s.PmLatched n t) (hr : r.SamePm n s) (hu : t.SamePm n u) :
    r.PmLatched n u where
  bip := by rw [hu.rd, h.bip, hr.pm]
  eb := by rw [hu.rd, h.eb, hr.pm]
  newBip := by rw [hu.pm, h.newBip]
  newEb := by rw [hu.pm, h.newEb]
  seq := by rw [hu.rd, h.seq, hr.rd]

theorem State.pmLatch_latched (s : State) (n len : Nat) : s.PmLatched n (s.pmLatch n len) := by
  have hcut : ∀ x, satNat 32 x % 2 ^ 32 = satNat 32 x := fun x => Nat.mod_eq_of_lt (satNat_lt 32 x)
  unfold State.pmLatch
  constructor <;> simp [State.rd_wr, -Nat.reducePow]
  · exact hcut _
  · exact hcut _

theorem State.pmLatch_samePm (s : State) {m n : Nat} (len : Nat) (h : m ≠ n) : s.SamePm n (s.pmLatch m len) := by
  unfold State.pmLatch
  constructor
  · intro f
    simp [State.rd_wr, h]
  · simp [State.pmOf_modPm_ne, h]

/-- Every engine in service among those listed latches. -/
def State.pmLatches (s : State) (len : Nat) (l : List Nat) : State :=
  l.foldl (fun t n => if t.inService n then t.pmLatch n len else t) s

theorem State.pmLatches_samePm {n : Nat} (len : Nat) {l : List Nat} (h : n ∉ l) (s : State) : s.SamePm n (s.pmLatches len l) := by
  induction l generalizing s with
  | nil => exact ⟨fun _ => rfl, rfl⟩
  | cons m l ih =>
    obtain ⟨hm, hl⟩ := not_or.mp (List.mem_cons.not.mp h)
    refine State.SamePm.trans ?_ (ih hl _)
    dsimp only
    split
    · exact s.pmLatch_samePm len (Ne.symm hm)
    · exact ⟨fun _ => rfl, rfl⟩

theorem State.pmLatches_latched {n : Nat} (len : Nat) {l : List Nat} (hmem : n ∈ l) (hnodup : l.Nodup) {s : State}
    (hservice : s.inService n = true) : s.PmLatched n (s.pmLatches len l) := by
  induction l generalizing s with
  | nil => cases hmem
  | cons m l ih =>
    obtain ⟨hm, hl⟩ := List.nodup_cons.mp hnodup
    by_cases e : m = n
    · subst e
      refine (s.pmLatch_latched m len).congr ⟨fun _ => rfl, rfl⟩ ?_
      simpa only [State.pmLatches, List.foldl_cons, hservice, if_true] using State.pmLatches_samePm len hm _
    · have hfirst : s.SamePm n (if s.inService m then s.pmLatch m len else s) := by
        split
        · exact s.pmLatch_samePm len e
        · exact ⟨fun _ => rfl, rfl⟩
      have hservice' : State.inService (if s.inService m then s.pmLatch m len else s) n = true :=
        (congrArg (· != 0) (hfirst.rd _)).trans hservice
      exact (ih ((List.mem_cons.mp hmem).resolve_left (Ne.symm e)) hl hservice').congr hfirst ⟨fun _ => rfl, rfl⟩

/-- The engines of the part have latched, and the next interval begins at `tod`. -/
def State.pmTurned (s : State) (tod : Nat) : State :=
  let t := s.pmLatches (todElapsed s.tim.pmPrev tod / 65536000) (upTo s.engines)
  { t with tim := { t.tim with pmPrev := tod, stepAt := none } }

/-- After that, the end of an interval brings summary records, and a walk where it is asked for. -/
theorem State.pmEnd_after (s : State) (tod : Nat) :
    Spec 0xb00c0c00000000000000000000000022000000000000000a0000000000000000000000 (s.pmTurned tod) (s.pmEnd tod) :=
  Spec.ite (Spec.step (State.startWalk_spec _ _ _) rfl (State.summaries_spec _)) (State.summaries_spec _)

theorem State.pmEnd_latched {s : State} {n : Nat} (tod : Nat) (hn : s.hasEng n = true) (hservice : s.inService n = true) :
    s.PmLatched n (s.pmEnd tod) := by
  have hafter := s.pmEnd_after tod
  have heng : (s.pmEnd tod).pmOf n = (s.pmTurned tod).pmOf n := State.pmOf_congr (hafter.keep .eng rfl) n
  have hlatched : ∀ len, s.PmLatched n (s.pmLatches len (upTo s.engines)) := fun len =>
    State.pmLatches_latched len (List.mem_range.mpr (of_decide_eq_true hn)) List.nodup_range hservice
  have hturned : s.PmLatched n (s.pmTurned tod) := (hlatched _).congr ⟨fun _ => rfl, rfl⟩ ⟨fun _ => rfl, rfl⟩
  exact {
    bip := (hafter.rd _ _ rfl).trans hturned.bip
    eb := (hafter.rd _ _ rfl).trans hturned.eb
    newBip := by rw [heng, hturned.newBip]
    newEb := by rw [heng, hturned.newEb]
    seq := (hafter.rd _ _ rfl).trans hturned.seq }

theorem State.pmEnd_pmPrev (s : State) (tod : Nat) : (s.pmEnd tod).tim.pmPrev = tod :=
  congrArg TimSt.pmPrev ((s.pmEnd_after tod).keep .tim rfl)

theorem State.pmLatches_tim (s : State) (len : Nat) (l : List Nat) : (s.pmLatches len l).tim = s.tim :=
  (Spec.fold l (fun t n => Spec.ite (t.pmLatch_spec n len) Spec.refl) Spec.refl).keep .tim rfl

/-- The end of an interval leaves the last edge as it was. -/
theorem State.pmEnd_pmEdge (s : State) (tod : Nat) : (s.pmEnd tod).tim.pmEdge = s.tim.pmEdge := by
  have hturned : (s.pmTurned tod).tim.pmEdge = s.tim.pmEdge := by
    change (s.pmLatches _ _).tim.pmEdge = _
    rw [State.pmLatches_tim]
  exact (congrArg TimSt.pmEdge ((s.pmEnd_after tod).keep .tim rfl)).trans hturned

/-- A boundary that counts (R187). -/
theorem exec_pmBoundary_ends {tod : Nat} {s : State} (hdue : s.pmDue tod = true)
    (hstep : (s.tim.stepAt.all fun a => decide (todSec / 10 ≤ todElapsed a tod)) = true) :
    exec (.pmBoundary tod) s = .next ((s.atTod tod).pmEnd tod) := by
  refine congrArg ok ((if_neg (by simp [hdue])).trans ?_)
  cases hat : s.tim.stepAt with
  | none => rfl
  | some a =>
    have hlate := of_all_eq_some hstep hat
    exact if_neg (Nat.not_lt.mpr (of_decide_eq_true hlate))

/-! ### The boundaries move (R189) -/

theorem State.rdInt_pmMoved (s : State) (tod : Nat) : (s.pmMoved tod).rdInt .PERF_PM_OFFSET_pm_offset
    = foldHalf (s.rdInt .PERF_PM_OFFSET_pm_offset + s.pmDelta tod) := by
  obtain ⟨hlo, hhi⟩ := foldHalf_bounds (s.rdInt .PERF_PM_OFFSET_pm_offset + s.pmDelta tod)
  unfold State.pmMoved
  rw [State.rdInt_eq, State.rd_wrInt, if_pos ⟨rfl, rfl⟩]
  generalize foldHalf _ = x at hlo hhi
  exact ofTwos_toTwos (w := 32) (by decide) (by norm_num; omega) (by norm_num; omega)

/-- Settles O8: a boundary ends the interval of every engine in service, and an edge does one of three things by its distance
from the last edge and from the nearest boundary. -/
theorem performanceIntervals : Obligations.PerformanceIntervals := by
  refine ⟨?boundary, ?ignored, ?moves, ?refused⟩
  case boundary =>
    intro n tod s hn hservice hdue hstep
    have h : s.PmLatched n ((s.atTod tod).pmEnd tod) :=
      (State.pmEnd_latched (s := s.atTod tod) tod hn hservice).congr ⟨fun _ => rfl, rfl⟩ ⟨fun _ => rfl, rfl⟩
    exact ⟨_, exec_pmBoundary_ends hdue hstep, h.bip, h.eb, h.newBip, h.newEb, h.seq, State.pmEnd_pmPrev _ _⟩
  case ignored =>
    intro tod e s hen hedge hsoon
    refine ⟨_, exec_pmSyncEdge_ignored hen (State.edgeSoon_of_some hedge hsoon), ?_, ?_⟩
    · rw [State.rd_wr_self]
      exact Nat.mod_eq_of_lt (satNat_lt 16 _)
    · exact State.rd_wr_ne _ _ _ _ (by decide)
  case moves =>
    intro tod s hen hapart hnear
    refine ⟨_, exec_pmSyncEdge_moves hen (State.edgeSoon_of_apart hapart) hnear, ?_⟩
    by_cases hbefore : s.pmDelta tod < 0
    · simp only [if_pos hbefore]
      refine ⟨?_, State.pmEnd_pmEdge _ _, State.pmEnd_pmPrev _ _, fun hpos => absurd hbefore (Int.not_lt.mpr hpos)⟩
      rw [← s.rdInt_pmMoved]
      exact congrArg (ofTwos _) ((State.pmEnd_spec _ _).rd _ _ rfl)
    · simp only [if_neg hbefore]
      exact ⟨s.rdInt_pmMoved tod, rfl, rfl, fun _ => rfl⟩
  case refused =>
    intro tod s hen hedge hfar
    obtain ⟨hbit, hev, hoffset, -⟩ := s.pmRefused_shows tod
    exact ⟨_, exec_pmSyncEdge_refused hen (State.edgeSoon_of_none tod hedge) hfar, hbit, hev, hoffset⟩

end Sys2Proof.Machine
end

section
/-! The protection messages of a line: each is taken from the queue of its engine and acted on by its code, and the message sent
follows (05_line_framing.md R168 to R171; 08_pair_protection.md R295, R306). -/
namespace Sys2Proof.Machine

/-! ### The message that an engine sends (05_line_framing.md R169) -/

section
variable (s : State) (n : Nat)

@[simp] theorem State.protRefresh_regs : (s.protRefresh n).regs = s.regs := by
  unfold State.protRefresh State.protSend
  dsimp only
  split <;> rfl

@[simp] theorem State.rxOf_protRefresh (m : Nat) : (s.protRefresh n).rxOf m = s.rxOf m := by
  unfold State.protRefresh State.protSend
  dsimp only
  split
  · rfl
  · exact State.rxOf_modTx_any _ _ _ _

@[simp] theorem State.suspect_protRefresh : ((s.protRefresh n).txOf n).suspect = (s.txOf n).suspect := by
  unfold State.protRefresh State.protSend
  dsimp only
  split
  · rfl
  · simp

/-- The message sent comes to carry the code that is wanted. -/
theorem State.protRefresh_code : ((s.protRefresh n).txOf n).prot.code = s.protWant n := by
  unfold State.protRefresh State.protSend
  dsimp only
  split
  next h => exact (eq_of_beq h).symm
  · simp

/-! ### Taking an accepted message -/

@[simp] theorem State.protTake_regs : (s.protTake n).regs = s.regs := rfl

@[simp] theorem State.protQ_protTake : ((s.protTake n).rxOf n).protQ = (s.rxOf n).protQ.drop 1 := by
  simp [State.protTake]

theorem State.rd_protTake (f : Fld) (i : Nat) : (s.protTake n).rd f i = s.rd f i := rfl

end

section
variable {n : Eng} {s : State} {m : ProtMsg} {l : List ProtMsg} (hn : s.hasEng n = true) (hq : (s.rxOf n).protQ = m :: l)

include hn hq in
/-- The head of the queue is the message that a command stands for. -/
theorem State.protHead_of_code {p : Nat → Bool} (hcode : p m.code = true) : s.protHead n p = true := by
  unfold State.protHead
  rw [hq]
  simp [hn, hcode]

include hq in
/-- A message that is taken leaves the queue, whatever of the block outside the engines changes after that. -/
theorem State.protQ_taken {t : State} (ht : t.eng = (s.protTake n).eng) : ((t.protRefresh n).rxOf n).protQ = l := by
  rw [State.rxOf_protRefresh, State.rxOf_congr ht, State.protQ_protTake, hq]
  rfl

end

/-! ### An ACTIVE stands down (08_pair_protection.md R295, R301) -/

/-- A change to SHADOW as STANDBY shows in SYS_MODE. -/
theorem State.setMode_shadow (s : State) : (s.setMode 5 2).role = 2 ∧ (s.setMode 5 2).modeNow = 5 := by
  rw [(s.setMode_after 5 2).role, (s.setMode_after 5 2).modeNow]
  exact ⟨State.rd_wr_self _ _ _ _, (State.rd_wr_ne _ _ _ _ (by decide)).trans (State.rd_wr_self _ _ _ _)⟩

/-- An ACTIVE that stands down for a fault is STANDBY in SHADOW, and marked as faulted. -/
theorem State.standDown_shows (s : State) {cause : Nat} (hcause : cause ≠ 0) :
    (s.standDown cause).role = 2 ∧ (s.standDown cause).modeNow = 5 ∧ (s.standDown cause).rd .PAIR_STATUS_faulted = 1 := by
  unfold State.standDown
  extract_lets +onlyGivenNames was s1 s2 s3
  obtain ⟨hrole, hmode⟩ := s1.mirrorClear.setMode_shadow
  have h3 : ∀ f i, s3.rd f i = (s2.wr .PAIR_STATUS_faulted 0 1).rd f i := by
    intro f i
    dsimp only [s3]
    rw [if_neg (by simpa using hcause)]
    rfl
  have hafter : Spec 0xf04cde00000000000000000000000022000000000000000a000400200000a200000000 s3 (s3.clientTx false).d0Follow :=
    Spec.step (State.d0Follow_spec _) rfl (Spec.step (State.clientTx_spec _ _) rfl Spec.refl)
  have hready : ∀ f i, .PAIR_STATUS_ready ≠ f → (((s3.clientTx false).d0Follow).wr .PAIR_STATUS_ready 0 0).rd f i
      = (s3.clientTx false).d0Follow.rd f i := fun f i hf => State.rd_wr_ne _ _ _ _ hf
  refine ⟨?_, ?_, ?_⟩
  · rw [State.role, hready _ _ (by decide), hafter.rd _ _ rfl, h3, State.rd_wr_ne _ _ _ _ (by decide)]
    exact hrole
  · rw [State.modeNow, hready _ _ (by decide), hafter.rd _ _ rfl, h3, State.rd_wr_ne _ _ _ _ (by decide)]
    exact hmode
  · rw [hready _ _ (by decide), hafter.rd _ _ rfl, h3, State.rd_wr_self]
    rfl

section
variable {s : State} {cause : Nat} (hrole : s.role = 1)
include hrole

/-- A fault of an ACTIVE with a ready peer, with nothing in force that holds the pair, ends in a RELINQUISH. -/
theorem State.faultYield_relinquish (hlink : s.linkUp = true) (hready : s.on .PAIR_STATUS_ready = true)
    (hlockout : s.lockout = false) (hforce : s.pair.force = false) :
    s.faultYield cause = (s.standDown cause).sendCmd none 4 cause 0 0 := by
  unfold State.faultYield
  rw [if_pos (by simp [hrole]), if_pos (by simp [hlink, hready, hlockout, hforce])]

/-- Without one, or under a lockout, it is reported. -/
theorem State.faultYield_report (h : s.on .PAIR_STATUS_ready = false ∨ s.lockout = true) :
    s.faultYield cause = s.raiseReg .PAIR_EV_unprot_fault := by
  unfold State.faultYield
  rw [if_pos (by simp [hrole]), if_neg (by rcases h with h | h <;> simp [h])]

end

/-! ### Each message (08_pair_protection.md R306) -/

section
variable {n : Eng} {s : State} {m : ProtMsg} {l : List ProtMsg} (hn : s.hasEng n = true) (hq : (s.rxOf n).protQ = m :: l)
include hn hq

theorem exec_protNr (hcode : m.code = 0) : exec (.protNr n) s = .next ((s.protTake n).protRefresh n) :=
  congrArg ok (if_pos (State.protHead_of_code hn hq (by simp [hcode])))

theorem exec_protTxSuspect_active (hcode : m.code = 1) (hrole : s.role = 1) :
    exec (.protTxSuspect n) s = .next ((s.protTake n).faultYield 2) :=
  congrArg ok ((if_pos (State.protHead_of_code hn hq (by simp [hcode]))).trans (if_pos (beq_iff_eq.mpr hrole)))

theorem exec_protTxSuspect_other (hcode : m.code = 1) (hrole : s.role ≠ 1) : exec (.protTxSuspect n) s =
    .next (((s.protTake n).modTx n fun x => { x with unprotTx := true }).protRefresh n) :=
  congrArg ok ((if_pos (State.protHead_of_code hn hq (by simp [hcode]))).trans (if_neg (mt beq_iff_eq.mp hrole)))

theorem exec_protSwitched (hcode : m.code = 2) : exec (.protSwitched n) s =
    .next ((((s.protTake n).raiseReg .PAIR_EV_far_switched 0 { obj := n }).ttDiscard n).protRefresh n) :=
  congrArg ok (if_pos (State.protHead_of_code hn hq (by simp [hcode])))

theorem exec_protUnprotected (hcode : m.code = 3) : exec (.protUnprotected n) s =
    .next (((s.protTake n).raiseReg .PAIR_EV_far_unprot 0 { obj := n }).protRefresh n) :=
  congrArg ok (if_pos (State.protHead_of_code hn hq (by simp [hcode])))

theorem exec_protBadCode (hcode : 3 < m.code) :
    exec (.protBadCode n) s = .next (((s.protTake n).count 519).protRefresh n) :=
  congrArg ok (if_pos (State.protHead_of_code hn hq (by simp [hcode])))

end

/-- UNPROTECTED is wanted for a far TX_SUSPECT that is answered, where no takeover and no suspicion of its own come before it. -/
theorem State.protWant_unprotected {s : State} {n : Nat} (hsw : (s.txOf n).swLeft = 0) (hsuspect : (s.txOf n).suspect = false)
    (hunprot : (s.txOf n).unprotTx = true) : s.protWant n = 3 := by
  simp [State.protWant, hsw, hsuspect, hunprot]

theorem State.rd_protRefresh (s : State) (n : Nat) (f : Fld) (i : Nat) : (s.protRefresh n).rd f i = s.rd f i := by
  simp only [State.rd, State.protRefresh_regs]

/-- Settles O7: each message leaves its queue and acts by its code, and the two timed conditions set what they stand for. -/
theorem protectionMessages : Obligations.ProtectionMessages := by
  refine ⟨?nr, ?other, ?active, ?switched, ?unprotected, ?badCode, ?ackTimeout, ?suspectStart⟩
  case nr =>
    intro n s m l hn hq hcode
    refine ⟨_, exec_protNr hn hq hcode, State.protQ_taken hq rfl, ?_, ?_, ?_⟩
    · rw [State.protRefresh_regs, State.protTake_regs]
    · exact ((s.protTake n).protRefresh_spec n).keep .cnt rfl
    · exact ((s.protTake n).protRefresh_spec n).keep .perf rfl
  case other =>
    intro n s m l hn hq hcode hrole hsw hsuspect
    refine ⟨_, exec_protTxSuspect_other hn hq hcode hrole, ?_, ?_⟩
    · rw [State.rxOf_protRefresh, State.rxOf_modTx_any, State.protQ_protTake, hq]
      rfl
    · rw [State.protRefresh_code]
      exact State.protWant_unprotected (by simp [State.protTake, hsw]) (by simp [State.protTake, hsuspect]) (by simp)
  case active =>
    intro n s m l hn hq hcode hrole
    refine ⟨_, exec_protTxSuspect_active hn hq hcode hrole, fun hlink hready hlockout hforce => ?_, fun hreport => ?_⟩
    · obtain ⟨hrole', hmode, hfaulted⟩ := (s.protTake n).standDown_shows (cause := 2) (by decide)
      rw [State.faultYield_relinquish (s := s.protTake n) hrole hlink hready hlockout hforce]
      have hsend := ((s.protTake n).standDown 2).sendCmd_spec none 4 2 0 0
      exact ⟨(hsend.rd _ _ rfl).trans hrole', (hsend.rd _ _ rfl).trans hmode, (hsend.rd _ _ rfl).trans hfaulted⟩
    · rw [State.faultYield_report (s := s.protTake n) hrole hreport]
      refine ⟨?_, ?_, State.rd_raiseReg_self _ _ _ _ rfl rfl⟩
      · rw [State.rxOf_congr (State.raiseReg_eng _ _ _ _), State.protQ_protTake, hq]
        rfl
      · exact (State.rd_raiseReg_ne _ _ _ _ rfl (by decide)).trans hrole
  case switched =>
    intro n s m l hn hq hcode
    refine ⟨_, exec_protSwitched hn hq hcode, State.protQ_taken hq ?_, ?_⟩
    · exact ((State.ttDiscard_spec _ _).keep .eng rfl).trans (State.raiseReg_eng _ _ _ _)
    · rw [State.rd_protRefresh, (State.ttDiscard_spec _ _).rd _ _ rfl]
      exact State.rd_raiseReg_self _ _ _ _ rfl rfl
  case unprotected =>
    intro n s m l hn hq hcode
    refine ⟨_, exec_protUnprotected hn hq hcode, State.protQ_taken hq (State.raiseReg_eng _ _ _ _), ?_⟩
    rw [State.rd_protRefresh]
    exact State.rd_raiseReg_self _ _ _ _ rfl rfl
  case badCode =>
    intro n s m l hn hq hcode
    refine ⟨_, exec_protBadCode hn hq hcode, State.protQ_taken hq (State.count_eng _ _ _), ?_⟩
    rw [State.cntOf_congr ((State.protRefresh_spec _ _).keep .cnt rfl), State.cntOf_count _ _ _ _ (by decide)]
    exact if_pos ⟨rfl, rfl⟩
  case ackTimeout =>
    intro n s hn hon hacked hlost
    refine ends_of_guard rfl (by simp [hn, hon, hacked, hlost]) ⟨?_, State.rd_raiseReg_self _ _ _ _ rfl rfl⟩
    rw [State.txOf_congr (State.raiseReg_eng _ _ _ _), State.txOf_modTx]
  case suspectStart =>
    intro n s hlpn hsig hframe
    refine ends_of_guard rfl (by simp [hlpn, hsig, hframe]) ?_
    rw [State.suspect_protRefresh, State.txOf_modTx]

end Sys2Proof.Machine
end

section
/-! The framer of an engine in NEAR_DIG on an interoperable profile, whose frames are the engine's own (03_line_engine.md R116). -/
namespace Sys2Proof.Machine

/-- In NEAR_DIG a frame of the line leaves an interoperable engine as it was where none of its own waits. -/
theorem exec_rxFrame_nearDig_silent (n : Eng) (f : RxFrameObs) {s : State} (hnear : s.loopback n = 1) (hprof : s.lpn n = false)
    (hown : (s.txOf n).loopI = []) : exec (.rxFrame n f) s = .next s := by
  change execRxFrame n f s = _
  unfold execRxFrame
  rw [hnear, hprof, hown]
  exact congrArg _ (ite_self s)

/-- In MAINTENANCE engine 0, on an interoperable profile, is in NEAR_DIG and locked, and no frame of its own waits. -/
def nearDigInterop : State :=
  State.reset.wrs [(.SYS_MODE_mode, 0, 4), (.LE_TX_CTRL_lb_mode, 0, 1), (.LE_PROFILE_prof_active, 0, 1),
    (.LE_STATUS_dsp_lock, 0, 1)]

/-- Refutes O6: in NEAR_DIG an aligned frame of the line does not set in_frame of an interoperable engine, which takes its own
frames only. -/
theorem not_receiveFraming : ¬ Obligations.ReceiveFraming := by
  rintro ⟨-, -, -, -, hinterop, -⟩
  obtain ⟨t, ht, hin⟩ := hinterop 0 { aligned := true } nearDigInterop (by decide) (by decide) (by decide) (by decide)
  rw [exec_rxFrame_nearDig_silent 0 _ (by decide) (by decide) (by decide)] at ht
  obtain rfl : nearDigInterop = t := Host.Outcome.next.inj ht
  exact absurd hin (by decide)

end Sys2Proof.Machine
end

section
/-! The bridge of a SHADOW ahead of the frame that it taps (05_line_framing.md R150; 08_pair_protection.md R291, R292). -/
namespace Sys2Proof.Machine

/-! ### A frame only adds to what has left -/

theorem State.emit_suffix (s : State) (o : Out) : s.out <:+ (s.emit o).out := by
  unfold State.emit
  split
  · exact List.suffix_rfl
  · exact List.suffix_cons _ _

/-- Where nothing had left before, the first to leave is the oldest output. -/
theorem head?_drop_of_suffix {o : Out} {l : List Out} (h : [o] <:+ l) : (l.drop (l.length - 0 - 1)).head? = some o := by
  rw [Nat.sub_zero, show l.drop (l.length - 1) = [o] from (List.suffix_iff_eq_drop.mp h).symm]
  rfl

theorem State.emitSymbols_suffix (s : State) (n : Nat) (coded : List Bool) : s.out <:+ (s.emitSymbols n coded).out :=
  State.emit_suffix (s.dacDrive n _ _).2 _

theorem State.sendPosition_suffix (s : State) (n : Nat) (data : List Bool) : s.out <:+ (s.sendPosition n data).out := by
  unfold State.sendPosition
  split
  · exact s.emitSymbols_suffix n _
  · exact List.suffix_rfl
  · exact List.suffix_rfl

theorem State.sendPositions_suffix (s : State) (n rate : Nat) (frame : List Byte) :
    s.out <:+ (s.sendPositions n rate frame).out :=
  List.foldlRecOn (motive := fun t : State => s.out <:+ t.out) _ _ List.suffix_rfl
    fun t ht d _ => ht.trans (t.sendPosition_suffix n d)

theorem State.frameOut_suffix (s : State) (n rate : Nat) (frame : List Byte) : s.out <:+ (s.frameOut n rate frame).out := by
  unfold State.frameOut
  split
  · exact (s.emit_suffix _).trans (State.sendPositions_suffix _ n rate frame)
  · exact State.sendPositions_suffix (s.modTx n _) n rate frame
  · exact s.sendPositions_suffix n rate frame

theorem State.sendFrame_suffix (s : State) (n fn rate : Nat) (oh cf pay : List Byte) (bip : Nat) :
    s.out <:+ (s.sendFrame n fn rate oh cf pay bip).out :=
  s.frameOut_suffix n rate _

/-- What left while the payload was gathered stands behind the frame. -/
theorem State.ownFrame_suffix {s : State} {n : Nat} (gmp : List GmpMeas) (hbusy : s.idles n = false) :
    (s.payload n gmp).2.out <:+ (s.ownFrame n gmp).out := by
  unfold State.ownFrame
  rw [hbusy]
  calc (s.payload n gmp).2.out
    _ = ((s.payload n gmp).2.txSlip n (s.payload n gmp).1).2.out := ((State.txSlip_spec _ _ _).keep .out rfl).symm
    _ = (State.encrypt _ n (scramble _)).2.out := ((State.encrypt_spec _ _ _).keep .out rfl).symm
    _ <:+ _ := State.sendFrame_suffix _ _ _ _ _ _ _ _

/-! ### What a tributary's container sends on the bridge (08_pair_protection.md R292) -/

/-- The entry that takes a copy in sends nothing. -/
theorem State.container_out (s : State) (t c : Nat) (gmp : List GmpMeas) :
    (s.container t c gmp).2.out = ((s.ownContainer t c gmp).2.sendCopies t false (s.ownContainer t c gmp).1).out := by
  unfold State.container
  split
  split <;> simp only [State.modPair_out, *]

/-- The map of one tributary, in no group, sends what the container of the tributary sends. -/
theorem State.payload_out_of_tribs_eq {s : State} {n t : Nat} (gmp : List GmpMeas) (hmap : (s.stMap n .mapper).tribs = [t])
    (hgrp : s.tribGrp t = none) :
    (s.payload n gmp).2.out
      = (s.container t (36 * (s.slotsIn (s.stMap n .mapper) t).length) gmp).2.out := by
  unfold State.payload
  extract_lets m f
  rw [show m.tribs = [t] from hmap]
  change (s.frameBytes n t gmp).2.out = _
  unfold State.frameBytes
  rw [hgrp]

theorem Slots.tribs_singleton (g r k t tg : Nat) :
    ({ gen := g, rate := r, tab := [(k, { on := true, trib := t, gen := tg })] } : Slots).tribs = [t] :=
  List.mergeSort_singleton t

/-! ### TX_FRAME of a SHADOW with a bridge -/

/-- A message that is sent already is not sent anew. -/
theorem State.protRefresh_of_sent {s : State} {n : Nat} (h : s.protWant n = (s.txOf n).prot.code) : s.protRefresh n = s :=
  if_pos (beq_iff_eq.mpr h)

/-- A frame of a Vosko engine that takes no frames over and is not in the FEC test is its own. -/
theorem exec_txFrame_own {n : Eng} (gmp : List GmpMeas) {s : State} (hen : s.hasEng n = true) (hprof : s.lpn n = true)
    (hon : (s.txOf n).on = true) (hsfm : ((s.txOf n).fn == 0 && !(s.txOf n).sfm) = false) (hmode : s.modeNow ≠ 3)
    (htest : (s.fecTest n && s.on .LE_TX_CTRL_tx_active n) = false) :
    exec (.txFrame n gmp) s = .next ((s.protRefresh n).ownFrame n gmp) := by
  have hmode' : ((s.protRefresh n).modeNow == 3) = false := by
    rw [State.modeNow, State.rd_protRefresh]
    exact beq_false_of_ne hmode
  change execTxFrame n gmp s = _
  unfold execTxFrame
  simp [hen, hprof, hon, hsfm, htest, hmode', ok]

/-- In SHADOW engine 0, on LP-N12, sends the frames of one tributary, which a bridge taps on its client
side; lane 0 of the pair link is up. -/
def bridgedShadow : State :=
  (State.reset.wrs [(.SYS_MODE_mode, 0, 5), (.LE_PROFILE_prof_active, 0, 5), (.FAB_TRIB_STATUS_active, 0, 1),
    (.FAB_TRIB_STATUS_slots_req, 0, 1), (.PAIR_BRIDGE_admitted, 0, 1), (.PAIR_STATUS_lanes_up, 0, 1),
    (.PAIR_CTRL_lane_en, 0, 1)]).modTx 0 (fun x =>
      { x with on := true, sfm := true, map := { rate := 1, tab := [(0, { on := true, trib := 0, gen := 0 })] } })

section
set_option maxRecDepth 8000

/-- The copy goes over lane 0; it is IDLE blocks, as the client has brought none. -/
theorem bridgedShadow_payload_out : (bridgedShadow.payload 0 []).2.out = [.copy 0 [0] (idleFill 36) false false] := by
  rw [State.payload_out_of_tribs_eq [] (Slots.tribs_singleton ..) (by decide), State.container_out]
  decide

end

/-- Refutes O12: the first thing that leaves as a SHADOW sends a frame is the copy of a bridged tributary, and the frame
with its alignment word comes after it. -/
theorem not_transmitSuperframes : ¬ Obligations.TransmitSuperframes := by
  rintro ⟨-, hframe, -⟩
  obtain ⟨t, ht, -, -, hfirst, -⟩ := hframe 0 [] bridgedShadow (by decide) (by decide) (by decide) (by decide) (by decide)
    (by decide) (by decide) (by decide) (by decide)
  rw [exec_txFrame_own [] (by decide) (by decide) (by decide) (by decide) (by decide) (by decide),
    State.protRefresh_of_sent (by decide)] at ht
  have hsuffix := State.ownFrame_suffix (s := bridgedShadow) (n := 0) [] (by decide)
  rw [bridgedShadow_payload_out, show bridgedShadow.ownFrame 0 [] = t from Host.Outcome.next.inj ht] at hsuffix
  rw [show bridgedShadow.out.length = 0 from rfl, head?_drop_of_suffix hsuffix] at hfirst
  exact absurd hfirst (by decide)

end Sys2Proof.Machine
end

section
/-! The placement channel and the switch machine of an engine: what a SHADOW takes of a valid block (07_placement.md R245, R263),
and the engine that commits as its last stage answers the marker (02_modes.md R64, R66; 01_architecture.md R28). -/
namespace Sys2Proof.Machine

/-! ### A valid block (00_scope.md R568; 07_placement.md R244, R245) -/

theorem crc32Byte_lt_two_pow {r : Nat} (hr : r < 2 ^ 32) (b : Byte) : crc32Byte r b.toNat < 2 ^ 32 := by
  refine List.foldlRecOn (motive := (· < 2 ^ 32)) _ _ (Nat.xor_lt_two_pow hr (by omega)) fun a ha _ _ => ?_
  split
  · exact Nat.xor_lt_two_pow (by omega) (by decide)
  · omega

theorem crc32_lt_two_pow (bs : List Byte) : crc32 bs < 2 ^ 32 :=
  Nat.xor_lt_two_pow
    (List.foldlRecOn (motive := (· < 2 ^ 32)) _ _ (by decide) fun _ hr b _ => crc32Byte_lt_two_pow hr b) (by decide)

/-- Four bytes hold a word. -/
theorem fromLE_leBytes_four {n : Nat} (hn : n < 2 ^ 32) : fromLE (leBytes 4 n) = n := by
  simp only [leBytes, fromLE, BitVec.toNat_ofNat]
  omega

/-- A block of 2,044 bytes with the right first three, and its CRC behind it, is valid. -/
theorem blockValid_append_crc {b : List Byte} (hlen : b.length = 2044) (hhead : b.take 3 = [0x5A, 0x7E, 0x01]) :
    blockValid (b ++ leBytes 4 (crc32 b)) false = true := by
  have hcrc : (leBytes 4 (crc32 b)).length = 4 := rfl
  have hfirst : slice (b ++ leBytes 4 (crc32 b)) 0 3 = [0x5A, 0x7E, 0x01] := by
    rw [slice, List.drop_zero, List.take_append_of_le_length (by omega), hhead]
  have hbody : slice (b ++ leBytes 4 (crc32 b)) 0 2044 = b := by rw [slice, List.drop_zero, List.take_left' hlen]
  have htail : slice (b ++ leBytes 4 (crc32 b)) 2044 4 = leBytes 4 (crc32 b) := by
    rw [slice, List.drop_left' hlen, List.take_of_length_le hcrc.le]
  simp [blockValid, hfirst, hbody, htail, fromLE_leBytes_four (crc32_lt_two_pow b), hlen, hcrc]

/-! ### A valid block in SHADOW (07_placement.md R248, R263) -/

theorem State.skOf_mirror (s : State) (eng target : Nat) (rec0 : List Byte) (n : Nat) :
    (s.mirror eng target rec0).skOf n = s.skOf n :=
  State.skOf_congr ((s.mirror_spec eng target rec0).keep .eng rfl) n

theorem State.skOf_manTake (s : State) (n : Nat) (b : List Byte) (m : Nat) : (s.manTake n b).skOf m = s.skOf m := by
  unfold State.manTake
  extract_lets
  split
  · exact State.skOf_modRx_any _ _ _ _
  · rfl

theorem State.modeNow_manTake (s : State) (n : Nat) (b : List Byte) : (s.manTake n b).modeNow = s.modeNow :=
  (s.manTake_spec n b).rd _ _ rfl

/-- A SHADOW decides on the mirrored inputs: a valid block of its own line moves nothing of its Storekeeper. -/
theorem State.skOf_placeBlockIn_shadow {s : State} {n : Nat} {b : List Byte} {mark : Bool} (hmode : s.modeNow = 5)
    (hchan : s.hasChan n = true) (hvalid : blockValid b mark = true) (m : Nat) :
    (s.placeBlockIn n b mark).skOf m = s.skOf m := by
  have hshadow : ((s.mirror n 0 (placeIn n 1 (slice b 0 20))).manTake n b).modeNow = 5 := by
    rw [State.modeNow_manTake, State.modeNow, State.rd_mirror]
    exact hmode
  simp only [State.placeBlockIn, hchan, hvalid, hshadow, Bool.not_true, Bool.false_eq_true, if_false, beq_self_eq_true,
    if_true, State.skOf_manTake, State.skOf_mirror]

/-- A SHADOW with a mirrored MUXPONDER, whose engine 0 runs LP-N12. -/
def shadowOfMuxponder : State :=
  (State.reset.wrs [(.SYS_MODE_mode, 0, 5), (.LE_PROFILE_prof_active, 0, 5)]).modPair (fun p => { p with mirMode := 2 })

/-- The bytes of a placement block before its CRC, with nothing in its fields. -/
def emptyBlock : List Byte := [0x5A, 0x7E, 0x01] ++ List.replicate 2041 0

theorem emptyBlock_valid : blockValid (emptyBlock ++ leBytes 4 (crc32 emptyBlock)) false = true :=
  blockValid_append_crc (by rw [emptyBlock, List.length_append, List.length_replicate]; rfl) rfl

theorem exec_placeBlockRx {n : Eng} {b : List Byte} (mark : Bool) (s : State) (hb : b ≠ []) :
    exec (.placeBlockRx n b mark) s = .next (s.placeBlockIn n b mark) :=
  congrArg Host.Outcome.next (if_pos (by simpa using hb))

theorem ne_nil_of_blockValid {b : List Byte} {mark : Bool} (h : blockValid b mark = true) : b ≠ [] := by
  rintro rfl
  simp [blockValid] at h

/-- Refutes O13: in SHADOW a valid block leaves the Storekeeper's DONE of the far end as it was, here not known yet. -/
theorem not_placementChannel : ¬ Obligations.PlacementChannel := by
  rintro ⟨-, hvalid, -⟩
  obtain ⟨t, ht, -, hdone, -⟩ := hvalid 0 _ shadowOfMuxponder (by decide) emptyBlock_valid rfl
  rw [exec_placeBlockRx _ _ (ne_nil_of_blockValid emptyBlock_valid)] at ht
  obtain rfl := Host.Outcome.next.inj ht
  rw [State.skOf_placeBlockIn_shadow (by decide) (by decide) emptyBlock_valid] at hdone
  cases hdone

/-! ### An engine that goes OUT at its commit (02_modes.md R64, R66) -/

theorem State.rd_pinRefresh_ne (s : State) (n : Nat) {f : Fld} (i : Nat) (hf : .PLACE_ENG_STATUS_pin_cause ≠ f) :
    (s.pinRefresh n).rd f i = s.rd f i := by
  unfold State.pinRefresh
  extract_lets c mode u
  rw [State.rd_wr_ne _ _ _ _ hf]
  dsimp only [u]
  split <;> rfl

theorem State.swState_modSk (s : State) (m : Nat) (g : EngSk → EngSk) (n : Nat) : (s.modSk m g).swState n = s.swState n := rfl

theorem State.swState_setSw_idle (s : State) (n : Nat) : (s.setSw n 0).swState n = 0 := by
  unfold State.setSw State.swState
  rw [State.rd_pinRefresh_ne _ _ _ (by decide), State.rd_wr_self, Nat.zero_mod]

theorem State.swState_setMaps (s : State) (n : Nat) (tx rx : Slots) : (s.setMaps n tx rx).swState n = 0 := by
  unfold State.setMaps
  extract_lets s1 s2 s3 s4
  refine Eq.trans ?_ (s4.swState_setSw_idle n)
  simp [State.rxMapShow, State.txMapShow, State.swState, State.rd_wr_ne, State.rd_pinRefresh_ne]

/-- The switch machine of an engine that goes OUT stands idle. -/
theorem State.swState_engOut (s : State) (n : Nat) : (s.engOut n).swState n = 0 := by
  unfold State.engOut
  extract_lets s1 s2 s3 s4 s5 s6 s7
  have h6 : s6.swState n = 0 := by simp only [s6, State.swState_modSk, State.swState_setMaps]
  rw [← h6]
  simp [s7, State.showProf, State.swState, State.rd_wr_ne, State.rd_pinRefresh_ne]

theorem State.swState_commitEng_out {s : State} {x : Staged} {n : Nat} (mode : Nat) (hx : stProf x n = 0)
    (hprof : s.prof n ≠ 0) : (s.commitEng x mode n).swState n = 0 := by
  unfold State.commitEng
  extract_lets p old was s1 s2 t
  rw [if_pos (beq_iff_eq.mpr hx), if_neg (by simpa using hprof)]
  exact State.swState_engOut _ _

theorem State.commitAtSfm_of_committed {s : State} {x : Transition} {n : Nat} (htr : s.mode.tr = some x) (hn : n ∉ x.left) :
    s.commitAtSfm n = s := by
  simp [State.commitAtSfm, htr, hn]

/-- The commit of an engine that goes OUT, while another is still to commit, leaves its switch machine idle. -/
theorem State.swState_commitAtSfm_out {s : State} {x : Transition} {n m : Nat} (htr : s.mode.tr = some x) (hn : n ∈ x.left)
    (hm : m ∈ x.left) (hne : m ≠ n) (hanswered : (s.skOf n).markerOut = false) (hx : stProf x.st n = 0)
    (hprof : s.prof n ≠ 0) : (s.commitAtSfm n).swState n = 0 := by
  have hwaits : (x.left.filter (· != n)).isEmpty = false := by
    simpa using ⟨m, hm, hne⟩
  simp only [State.commitAtSfm, htr, hanswered, hwaits, List.contains_iff_mem.mpr hn, Bool.not_true, Bool.and_false,
    Bool.or_false, Bool.false_eq_true, if_false]
  have hready := fun u l => (Spec.step (State.fabRefresh_spec _) rfl
    (State.commitReady_spec u x.st (x.par % 16) l)).rd .PLACE_ENG_STATUS_sw_state n rfl
  exact (hready _ _).trans (State.swState_commitEng_out _ hx hprof)

/-- Where every other engine has committed or waits for its SFM, the last one commits alone. -/
theorem State.commitIdle_last {s : State} {x : Transition} {n : Nat} (htr : s.mode.tr = some x) (heng : s.engines = n + 1)
    (hothers : ∀ k < n, k ∉ x.left ∨ (s.txOf k).on = true) (hoff : (s.txOf n).on = false) :
    s.commitIdle = s.commitAtSfm n := by
  have hfirst : (upTo n).foldl (fun u k => if (u.txOf k).on then u else u.commitAtSfm k) s = s := by
    refine List.foldlRecOn (motive := (· = s)) _ _ rfl ?_
    rintro _ rfl k hk
    rcases hothers k (List.mem_range.mp hk) with hleft | hon
    · rw [State.commitAtSfm_of_committed htr hleft, ite_self]
    · exact if_pos hon
  unfold State.commitIdle
  rw [heng, show upTo (n + 1) = upTo n ++ [n] from List.range_succ, List.foldl_append, hfirst]
  simp [hoff]

/-- A transition from MUXPONDER to TRANSPONDER in which engines 1 and 3 are still to commit: engine 1 transmits and waits for
its SFM, engine 3 is to go OUT, its transmitter is off, and of the answers to its marker that of the framer alone is missing. -/
def lastAnswerMissing : State :=
  let s := (State.reset.wrs [(.SYS_MODE_mode, 0, 2), (.LE_PROFILE_prof_active, 3, 5), (.PLACE_ENG_STATUS_sw_state, 3, 2)]).modTx 1
    (fun x => { x with on := true })
  let s := s.modSk 3 (fun k =>
    { k with man := some { gen := 7 }, markerOut := true, mkGen := 7, mkFar := true, mkRep := [.mapper, .fabric, .cipher] })
  { s with mode := { s.mode with tr := some { par := 1, left := [1, 3] } } }

/-- The mismatch of the framer is the last answer that engine 3 waits for. -/
def lastAnswerCame : State := lastAnswerMissing.stageReport 3 .framer .mismatch

theorem exec_lastAnswer : exec (.mapStageReport 3 .framer .mismatch) lastAnswerMissing = .next lastAnswerCame.commitIdle := rfl

theorem tr_lastAnswerCame : lastAnswerCame.mode.tr = some { par := 1, left := [1, 3] } := by decide

/-- Refutes O14: the engine whose last stage answers its marker with a mismatch has no transmitter on, so that it commits at
once, and its switch machine is idle where the statement has the resynchronisation loading. -/
theorem not_placementSwitch : ¬ Obligations.PlacementSwitch := by
  rintro ⟨-, -, -, -, -, hmismatch, -⟩
  obtain ⟨t, ht, hsw, -⟩ := hmismatch 3 .framer lastAnswerMissing (by decide) (by decide) (by decide) (by decide)
  rw [exec_lastAnswer, State.commitIdle_last (n := 3) tr_lastAnswerCame (by decide) (by decide) (by decide)] at ht
  obtain rfl := Host.Outcome.next.inj ht
  have hidle : (lastAnswerCame.commitAtSfm 3).swState 3 = 0 :=
    State.swState_commitAtSfm_out (m := 1) tr_lastAnswerCame (by decide) (by decide) (by decide) (by decide) (by decide)
      (by decide)
  exact absurd (hidle.symm.trans hsw) (by decide)

end Sys2Proof.Machine
end

section
/-! Writes of the host to mirrored registers in SHADOW: each is dropped and counted (08_pair_protection.md R285). -/
namespace Sys2Proof.Machine

/-- The drop of a mirrored register comes before everything that its write would do; no mirrored register is one that
only the privileged requester may write. -/
theorem State.fate_shadow {s : State} {r : Rg} {i : Nat} (hmode : s.modeNow = 5) (hmir : r.mirrored = true)
    (hreach : s.reaches .host r = true) (habs : s.absentReg r i = false) : s.fate .host r i = .dropped := by
  have hpriv : r.privileged = false := by
    have hne : r ≠ .SEC_LC_CTRL ∧ r ≠ .CIPH_LOCK_CTRL := by
      constructor <;> rintro rfl <;> exact absurd hmir (by decide)
    simp [Rg.privileged, hne]
  simp [State.fate, hreach, habs, hpriv, hmode, hmir]

theorem State.regWrite_shadow {s : State} {addr i : Nat} {r : Rg} (val : Nat) (hmode : s.modeNow = 5) (hal : addr % 4 = 0)
    (hlt : addr < 0x800000) (hreg : regAt addr = some (r, i)) (hmir : r.mirrored = true)
    (hreach : s.reaches .host r = true) (habs : s.absentReg r i = false) : s.regWrite .host addr val = s.count 517 := by
  have hfate := State.fate_shadow hmode hmir hreach habs
  rw [s.regWrite_below_contexts .host val hal hlt, hreg]
  simp only [Option.elim_some, State.regTake, hfate, State.shadowDrop]

/-- Short of its top, a counter counts in its own table, beside what a walk in progress sees of it. -/
theorem State.count_below_top {s : State} {k : Nat} (h : s.cntOf k + 1 < 2 ^ 48) :
    { s.count k with cnt := [], wlog := [] } = { s with cnt := [], wlog := [] } := by
  have hwraps : s.wraps k 1 = false := by simp [State.wraps]; omega
  unfold State.count State.bump
  simp only [hwraps, Bool.false_eq_true, if_false]
  split <;> rfl

/-- The registers of an event's record are those of its footprint. -/
theorem recMask_testBit_register (r : Rg) : recMask.testBit r.ctorIdx = decide (r ∈ recordRegs) := by cases r <;> rfl

/-- Settles O57: the write ends where its count does. -/
theorem shadowDropsWrites : Obligations.ShadowDropsWrites := by
  refine ⟨?parts, ?registers⟩
  case parts =>
    intro addr val r i s hmode hal hlt hreg hmir hreach habs
    refine ⟨s.count 517, congrArg _ (State.regWrite_shadow val hmode hal hlt hreg hmir hreach habs), ?_, State.count_below_top,
      by simp, by simp, by simp, by simp, by simp, by simp⟩
    rw [State.cntOf_count _ _ _ _ (by decide), if_pos ⟨by simp [State.cntValid], rfl⟩]
  case registers =>
    intro addr val r i f j s hmode hal hlt hreg hmir hreach habs hf
    exact ⟨s.count 517, congrArg _ (State.regWrite_shadow val hmode hal hlt hreg hmir hreach habs),
      State.rd_count _ _ _ _ _ ((recMask_testBit_register _).trans (decide_eq_false hf))⟩

end Sys2Proof.Machine
end

section
/-! A counter at its top: the next count wraps it, which PERF_WRAP shows and COUNTER_WRAP reports
(16_counters_and_events.md R520), so that a command that counts changes more than the count. -/
namespace Sys2Proof.Machine

theorem exec_mirRx_taken {s : State} {m : MirCell} (h : (s.modeNow == 5 && s.linkState != 0 && cellOk 2 m.bytes) = true) :
    exec (.mirRx m) s = .next (s.mirTake m) := congrArg ok (if_pos h)

theorem exec_cmdClear_taken {s : State} {cell : List Byte} (h : s.cmdIn cell 0 = true) :
    exec (.cmdClear cell) s = .next (s.cmdTake cell (s.forwardErr 0) (fun t => t.switchAct none 0 0)) :=
  congrArg ok (if_pos h)

/-- A SHADOW in training whose PAIR_STALE stands at its top. -/
def staleAtTop : State :=
  { (State.reset.wr .SYS_MODE_mode 0 5).wr .PAIR_STATUS_link_state 0 1 with cnt := [(516, 2 ^ 48 - 1)] }

/-- A MIR cell with no content whose mir_seq lies half the range away from the 0 of a SHADOW that has applied none. -/
def mirHalfAway : MirCell := { bytes := mkCell 2 [0x80] }

theorem wrap_after_mirHalfAway : (staleAtTop.mirTake mirHalfAway).rd .PERF_WRAP_wrap 16 = 16 := by decide +kernel

/-- Refutes O16: a message half the range away is discarded and counted, but the count that wraps PAIR_STALE writes
PERF_WRAP too. -/
theorem not_mirrorAndImage : ¬ Obligations.MirrorAndImage := by
  rintro ⟨-, -, -, hnotLater, -⟩
  obtain ⟨t, ht, -, hregs, -⟩ := hnotLater mirHalfAway staleAtTop (by decide) (by decide)
    (by decide +kernel) (by decide +kernel)
  rw [exec_mirRx_taken (by decide +kernel)] at ht
  obtain rfl := Host.Outcome.next.inj ht
  have hwrap : (staleAtTop.mirTake mirHalfAway).rd .PERF_WRAP_wrap 16 = staleAtTop.rd .PERF_WRAP_wrap 16 :=
    congrArg (fun m => SMap.get (Fld.PERF_WRAP_wrap).info.rst m (Fld.PERF_WRAP_wrap.key 16)) hregs
  exact absurd (wrap_after_mirHalfAway.symm.trans hwrap) (by decide)

/-- A member in training that has accepted the request of number 7, whose PAIR_CMD_DUP stands at its top, and whose vector 0
is sent when an event of the PERF catalogue comes. -/
def dupAtTop : State :=
  let s := State.reset.wrs [(.PAIR_STATUS_link_state, 0, 1), (.PAIR_STATUS_lanes_up, 0, 1), (.HOST_LINK_link_up, 0, 1),
    (.SYS_IRQ_MASK_en, 0, 64)]
  { s with cnt := [(518, 2 ^ 48 - 1)], host := { s.host with unmasked := [(0, true)] }, pair := { s.pair with cmdIn := some 7 } }

/-- CLEAR, numbered 7. -/
def clearAgain : List Byte := mkCell 4 [0, 7]

/-- The vector leaves ahead of the acknowledgement. -/
theorem out_after_clearAgain : (dupAtTop.cmdTake clearAgain (dupAtTop.forwardErr 0) (fun t => t.switchAct none 0 0)).out
    = [.cell 0 (mkCell 5 [0, 7, 0, 1]), .msix 0] := by decide +kernel

/-- Refutes O17: a request already accepted is answered again, but the count that wraps PAIR_CMD_DUP raises COUNTER_WRAP,
whose interrupt leaves the block beside the answer. -/
theorem not_switchCommands : ¬ Obligations.SwitchCommands := by
  rintro ⟨-, -, -, -, hdup, -⟩
  obtain ⟨t, ht, -, -, -, hout⟩ := hdup clearAgain (.cmdClear clearAgain) dupAtTop (by decide) (by decide +kernel)
    (.inl ⟨rfl, by decide +kernel⟩) (by decide +kernel)
  rw [exec_cmdClear_taken (by decide +kernel)] at ht
  obtain rfl := Host.Outcome.next.inj ht
  have hlen := congrArg List.length (out_after_clearAgain.symm.trans (hout (by decide) (by decide)))
  exact absurd hlen (by decide)

end Sys2Proof.Machine
end

section
/-! PAIR_SWITCH, bridge selection and laser matching: what a descriptor finds, what standing down leaves of the pair link, and
what each engine's match shows (08_pair_protection.md R287, R292, R295, R301, R302). -/
namespace Sys2Proof.Machine

/-! ### One bit of a word -/

theorem testBit_add_two_pow {v k : Nat} (h : v.testBit k = false) (j : Nat) :
    (v + 2 ^ k).testBit j = (decide (j = k) || v.testBit j) := by
  rcases Nat.lt_trichotomy j k with hj | rfl | hj
  · rw [Nat.add_comm, Nat.testBit_two_pow_add_gt hj, decide_eq_false (by omega), Bool.false_or]
  · rw [Nat.add_comm, Nat.testBit_two_pow_add_eq, h]
    simp
  · obtain ⟨i, rfl⟩ : ∃ i, j = i + (k + 1) := ⟨j - (k + 1), by omega⟩
    have hbit : v / 2 ^ k % 2 = 0 := by
      have := h
      rw [Nat.testBit_eq_decide_div_mod_eq, decide_eq_false_iff_not] at this
      omega
    have hhigh : (v + 2 ^ k) / 2 ^ (k + 1) = v / 2 ^ (k + 1) := by
      rw [Nat.pow_succ, ← Nat.div_div_eq_div_mul, ← Nat.div_div_eq_div_mul, Nat.add_div_right _ (Nat.two_pow_pos k)]
      omega
    rw [Nat.testBit_add, Nat.testBit_add, hhigh, decide_eq_false (by omega), Bool.false_or]

theorem testBit_sub_two_pow {v k : Nat} (h : v.testBit k = true) (j : Nat) :
    (v - 2 ^ k).testBit j = (!decide (j = k) && v.testBit j) := by
  obtain ⟨w, rfl⟩ := Nat.exists_eq_add_of_le (Nat.ge_two_pow_of_testBit h)
  have hw : w.testBit k = false := by simpa [Nat.testBit_two_pow_add_eq] using h
  rw [Nat.add_sub_cancel_left, Nat.add_comm, testBit_add_two_pow hw]
  by_cases hj : j = k
  · simp [hj, hw]
  · simp [hj]

theorem testBit_setBit (v k : Nat) (b : Bool) (j : Nat) : (setBit v k b).testBit j = if j = k then b else v.testBit j := by
  unfold setBit
  split
  case isTrue h =>
    split
    case isTrue hj => rw [hj, eq_of_beq h]
    case isFalse => rfl
  case isFalse h =>
    cases b with
    | true => rw [if_pos rfl, testBit_add_two_pow (by simpa using h)]; by_cases hj : j = k <;> simp [hj]
    | false => rw [if_neg (by decide), testBit_sub_two_pow (by simpa using h)]; by_cases hj : j = k <;> simp [hj]

/-! ### Cells and completions -/

section
variable (s : State)

@[simp] theorem State.rd_sendCell (k : Nat) (cell : List Byte) (f : Fld) (i : Nat) : (s.sendCell k cell).rd f i = s.rd f i :=
  (s.sendCell_spec k cell).rd_part (F := 2097152) f i

@[simp] theorem State.sendCell_pair (k : Nat) (cell : List Byte) : (s.sendCell k cell).pair = s.pair :=
  (s.sendCell_spec k cell).keep .pair rfl

@[simp] theorem State.rd_swDone (d : Desc) (status detail : Nat) (f : Fld) (i : Nat) :
    (s.swDone d status detail).rd f i = s.rd f i := State.rd_done _ _ _ _ _ _ _

@[simp] theorem State.swDone_pair (d : Desc) (status detail : Nat) : (s.swDone d status detail).pair = s.pair :=
  State.done_pair _ _ _ _ _

theorem State.swDone_ended (d : Desc) (status detail : Nat) : (s.swDone d status detail).ended d status detail 0 :=
  State.done_ended _ _ _ _ _

@[simp] theorem State.rd_sendCmd (d : Option Desc) (req cause tag origin : Nat) (f : Fld) (i : Nat) :
    (s.sendCmd d req cause tag origin).rd f i = s.rd f i := State.rd_sendCell _ _ _ _ _

/-- The CMD cell that a request goes in (R304). -/
def State.cmdCell (req cause tag origin : Nat) : List Byte :=
  mkCell 4 (beBytes 2 s.pair.cmdSeq ++ beBytes 1 req ++ beBytes 1 cause ++ beBytes 2 tag ++ beBytes 1 origin)

theorem State.sendCmd_pair (d : Option Desc) (req cause tag origin : Nat) : (s.sendCmd d req cause tag origin).pair
    = { s.pair with cmdSeq := (s.pair.cmdSeq + 1) % 65536,
                    cmdOut := some { d := d, cell := s.cmdCell req cause tag origin, sends := 1 } } :=
  State.sendCell_pair _ _ _

theorem State.cmdCell_request {req : Nat} (cause tag origin : Nat) (h : req < 256) :
    byteAt (s.cmdCell req cause tag origin) 3 = req := by
  simp [State.cmdCell, mkCell, byteAt, beBytes, leBytes, padTo, Nat.mod_eq_of_lt h]

end

/-! ### An ACTIVE stands down (R295, R301) -/

section
variable (s : State) (cause : Nat)

/-- Standing down ends a transition and clears the mirror. -/
def State.yielding : State := (s.modeAbort.modPair (fun p => { p with dyingTx := false, shFault := [] })).mirrorClear

/-- SYS_MODE, the pair's part and what PAIR_STATUS shows of a fault follow. -/
def State.yielded : State :=
  let t := (s.yielding.setMode 5 2).modPair (fun p =>
    { p with mirMode := s.modeNow, mirHeld := [], mirOut := [], bulkTx := false, hold1s := (cause == 0), force := false })
  if cause == 0 then t else (t.wr .PAIR_STATUS_faulted 0 1).modPair (fun p => { p with cause := cause })

theorem State.standDown_eq : s.standDown cause = (((s.yielded cause).clientTx false).d0Follow).wr .PAIR_STATUS_ready 0 0 := rfl

/-- The last steps leave the pair link's registers and its part but ready. -/
theorem State.standDown_after :
    Spec 0xf04cde00000000000000000000000022000000000000000a000400200000a200000000 (s.yielded cause)
      (((s.yielded cause).clientTx false).d0Follow) :=
  Spec.step (State.d0Follow_spec _) rfl (Spec.step (State.clientTx_spec _ _) rfl Spec.refl)

theorem State.standDown_ready : (s.standDown cause).rd .PAIR_STATUS_ready = 0 := by
  rw [State.standDown_eq, State.rd_wr_self, Nat.zero_mod]

theorem State.standDown_pair : (s.standDown cause).pair = (s.yielded cause).pair := by
  rw [State.standDown_eq, State.wr_pair]
  exact (s.standDown_after cause).keep .pair rfl

theorem State.setMode_pair (mode role : Nat) :
    (s.setMode mode role).pair = { s.pair with dyingTx := s.pair.dyingTx && role == 1 } := by
  unfold State.setMode
  extract_lets +onlyGivenNames was changed s1 s2 pair s3 s4
  have h2 : s2.pair = s.pair := by
    dsimp only [s2]
    split
    · exact (State.leaveMaintenance_spec _).keep .pair rfl
    · rfl
  have h4 : s4.pair = { s.pair with dyingTx := s.pair.dyingTx && role == 1 } := by
    rw [(State.actRefresh_spec _).keep .pair rfl, ← h2]
  split
  · rw [State.raiseReg_pair, h4]
  · exact h4

theorem State.rd_yielded (f : Fld) (i : Nat) (hf : .PAIR_STATUS_faulted ≠ f) :
    (s.yielded cause).rd f i = (s.yielding.setMode 5 2).rd f i := by
  unfold State.yielded
  split <;> simp only [State.rd_modPair, State.rd_wr_ne _ _ _ _ hf]

theorem State.rd_standDown (f : Fld) (i : Nat)
    (h : Nat.testBit 0xf04cde00000000000000000000000022000000000000000a000400200000a200000000 f.info.rg.ctorIdx = false)
    (hready : .PAIR_STATUS_ready ≠ f) : (s.standDown cause).rd f i = (s.yielded cause).rd f i := by
  rw [State.standDown_eq, State.rd_wr_ne _ _ _ _ hready, (s.standDown_after cause).rd f i h]

/-- A member that has stood down is STANDBY in SHADOW. -/
theorem State.standDown_shadow : (s.standDown cause).role = 2 ∧ (s.standDown cause).modeNow = 5 := by
  simp only [State.role, State.modeNow]
  rw [s.rd_standDown cause _ _ rfl (by decide), s.rd_standDown cause _ _ rfl (by decide),
    s.rd_yielded cause _ _ (by decide), s.rd_yielded cause _ _ (by decide)]
  exact State.setMode_shadow _

theorem State.standDown_hold1s : (s.standDown cause).pair.hold1s = (cause == 0) := by
  rw [State.standDown_pair]
  unfold State.yielded
  split <;> rfl


end

/-! ### A PAIR_SWITCH descriptor (R302) -/

theorem State.settle_of_head {s : State} {r op : Nat} {d : Desc} (hd : s.headDesc r op = some d) : s.settle r op = s := by
  simp [State.settle, hd]

/-- The command of each request that R302 names. -/
def pairSwitchInstr (r : RingId) (req : Fin 4) : Instr :=
  match req with
  | 0 => .pairSwitchClear r
  | 1 => .pairSwitchLockout r
  | 2 => .pairSwitchForce r
  | _ => .pairSwitchManual r

section
variable {s : State} {r : RingId} {d : Desc} (hd : s.headDesc r 2 = some d)
include hd

theorem State.headSwitch_of_head {p : Nat → Bool} (hp : p (d.param0 % 16) = true) : s.headSwitch r p = some d := by
  simp [State.headSwitch, hd, hp]

theorem exec_pairSwitchInstr {req : Fin 4} (hreq : d.param0 % 16 = req.val) :
    exec (pairSwitchInstr r req) s = .next ((s.popDesc r).pairSwitch d req) := by
  have hhead : s.headSwitch r (· == req.val) = some d := State.headSwitch_of_head hd (by simp [hreq])
  refine Eq.trans ?_ (congrArg ok (a₁ := (match s.headSwitch r (· == req.val) with
    | none => s
    | some d => (s.popDesc r).pairSwitch d req)) (by rw [hhead]))
  conv => rhs; rw [← State.settle_of_head hd]
  fin_cases req <;> rfl

theorem exec_pairSwitchReserved (hreq : 3 < d.param0 % 16) :
    exec (.pairSwitchReserved r) s = .next ((s.popDesc r).pairSwitch d (d.param0 % 16)) := by
  refine congrArg ok ?_
  simp only [State.settle_of_head hd, State.headSwitch_of_head hd (p := fun q => decide (3 < q)) (by simpa using hreq)]

end

section
variable {s : State} {d : Desc} (hmem : s.mode.swMem.find? (fun m => m.tag == fieldOf d.param0 16 16) = none)
include hmem

theorem State.pairSwitch_badCode {req : Nat} (hreq : 3 < req) : s.pairSwitch d req = s.swDone d 1 5 := by
  simp [State.pairSwitch, hmem, hreq]

section
variable (hres : fieldOf d.param0 4 12 = 0) {req : Nat} (hreq : req ≤ 3)
include hres hreq

theorem State.pairSwitch_unpaired (h : s.linkUp = false ∨ s.role = 0) : s.pairSwitch d req = s.swDone d 1 1 := by
  have hcond : (!s.linkUp || s.role == 0) = true := by simpa using h
  simp [State.pairSwitch, hmem, hres, Nat.not_lt.mpr hreq, hcond]

section
variable (hlink : s.linkUp = true)
include hlink

theorem State.pairSwitch_active (hrole : s.role = 1) (herr : s.switchErr req = 0) : s.pairSwitch d req
    = if req ≤ 1 then (s.switchAct none req (fieldOf d.param0 16 16)).swDone d 0 0
      else s.switchAct (some d) req (fieldOf d.param0 16 16) := by
  simp [State.pairSwitch, hmem, hres, Nat.not_lt.mpr hreq, hlink, hrole, herr]

theorem State.pairSwitch_shadow (hrole : s.role = 2) (hfree : s.pair.cmdOut = none) :
    s.pairSwitch d req = s.sendCmd (some d) req 0 (fieldOf d.param0 16 16) 1 := by
  simp [State.pairSwitch, hmem, hres, Nat.not_lt.mpr hreq, hlink, hrole, hfree]

end
end
end

theorem State.switchErr_low (s : State) {req : Nat} (h : req ≤ 1) : s.switchErr req = 0 := if_pos h

/-- Taking the descriptor changes nothing that a switch request meets. -/
theorem State.switchErr_popDesc (s : State) (r req : Nat) : (s.popDesc r).switchErr req = s.switchErr req := rfl
theorem State.role_popDesc (s : State) (r : Nat) : (s.popDesc r).role = s.role := rfl
theorem State.linkUp_popDesc (s : State) (r : Nat) : (s.popDesc r).linkUp = s.linkUp := rfl

/-- FORCE and MANUAL hand over. -/
theorem State.switchAct_handsOver (s : State) (d : Option Desc) {req : Nat} (tag : Nat) (h : 2 ≤ req) :
    s.switchAct d req tag = (s.standDown 0).sendCmd d req 0 tag 0 := by
  match req, h with
  | _ + 2, _ => rfl

theorem State.handOver_shows (s : State) (d : Desc) (req tag : Nat) :
    let t := (s.standDown 0).sendCmd (some d) req 0 tag 0
    t.role = 2 ∧ t.modeNow = 5 ∧ t.rd .PAIR_STATUS_ready = 0 ∧ t.pair.hold1s = true ∧ t.pair.cmdOut.map (·.d) = some (some d) := by
  obtain ⟨hrole, hmode⟩ := s.standDown_shadow 0
  refine ⟨(State.rd_sendCmd ..).trans hrole, (State.rd_sendCmd ..).trans hmode,
    (State.rd_sendCmd ..).trans (s.standDown_ready 0), ?_, ?_⟩
  · rw [State.sendCmd_pair]
    exact s.standDown_hold1s 0
  · rw [State.sendCmd_pair]
    rfl

/-- CLEAR and LOCKOUT take effect at once. -/
theorem State.switchAct_lockout (s : State) (req : Fin 2) (tag : Nat) :
    (s.switchAct none req tag).rd .PAIR_STATUS_lockout = req ∧ (req = 0 → (s.switchAct none req tag).pair.force = false) := by
  match req with
  | 0 => exact ⟨State.rd_wr_self s .PAIR_STATUS_lockout 0 0, fun _ => rfl⟩
  | 1 => exact ⟨State.rd_wr_self s .PAIR_STATUS_lockout 0 1, fun h => absurd h (by decide)⟩

/-! ### The bridge (R292) -/

section
variable (s : State) (k v : Nat)

/-- What the ACTIVE does when it changes to or from a copy, beside the write of `selected`, leaves the entries of the bridge. -/
theorem State.rd_bridgeUse (f : Fld) (i : Nat) (hf : f.info.rg = .PAIR_BRIDGE) :
    (s.bridgeUse k v).rd f i = (s.wr .PAIR_BRIDGE_selected k v).rd f i := by
  unfold State.bridgeUse
  extract_lets t u
  have hu : u.rd f i = (s.wr .PAIR_BRIDGE_selected k v).rd f i := (State.copyClear_spec _ _).rd f i (by rw [hf]; rfl)
  rw [State.rd_raiseReg _ _ _ _ _ _ (by rw [hf]; rfl), if_neg (by rintro ⟨rfl, -⟩; exact absurd hf (by decide)), ← hu]
  split
  · exact (State.dlmHunt_spec _ _).rd f i (by rw [hf]; rfl)
  · rfl

theorem State.bridgeUse_selected : (s.bridgeUse k v).rd .PAIR_BRIDGE_selected k = v % 2 :=
  (s.rd_bridgeUse k v _ _ rfl).trans (State.rd_wr_self _ _ _ _)

theorem State.bridgeUse_raises : (s.bridgeUse k v).rd .PAIR_EV_sel = 1 := State.rd_raiseReg_self _ _ _ _ rfl rfl

end

/-! ### Laser matching (R287) -/

/-- The bytes of PAIR_MATCH: the write of one leaves the others. -/
theorem fieldOf_set_byte (old b : Nat) {n m : Nat} (hn : n < 4) (hm : m < 4) (hb : b < 2 ^ 8) :
    fieldOf ((old - fieldOf old (8 * n) 8 * 2 ^ (8 * n) + b * 2 ^ (8 * n)) % 2 ^ 32) (8 * m) 8
      = if m = n then b else fieldOf old (8 * m) 8 := by
  unfold fieldOf
  interval_cases n <;> interval_cases m <;> simp <;> omega

/-- What laser matching shows and keeps of an engine: its byte of PAIR_MATCH, whether it is valid, and the tuning so far. -/
structure State.SameMatch (n : Nat) (s t : State) : Prop where
  byte : t.dfOf n = s.dfOf n
  valid : t.pair.dfV.testBit n = s.pair.dfV.testBit n
  tune : SMap.get 0 t.pair.tune n = SMap.get 0 s.pair.tune n

namespace State.SameMatch
variable {n : Nat} {s t u : State}
theorem refl : s.SameMatch n s := ⟨rfl, rfl, rfl⟩
theorem trans (h : s.SameMatch n t) (g : t.SameMatch n u) : s.SameMatch n u :=
  ⟨g.byte.trans h.byte, g.valid.trans h.valid, g.tune.trans h.tune⟩
end State.SameMatch

section
variable (s : State) {n : Nat}

/-- A match changes nothing that the difference of the carriers depends on. -/
theorem State.laserMatch_peer (m : Nat) : (s.laserMatch m).pair.peer = s.pair.peer := by
  unfold State.laserMatch
  split
  · rfl
  · extract_lets old byte t u
    split
    · rw [State.emit_pair]; rfl
    · rfl

theorem State.dfNow_laserMatch (m k : Nat) : (s.laserMatch m).dfNow k = s.dfNow k := by
  have h := State.laserMatch_spec s m
  unfold State.dfNow State.linkUp State.on State.rdInt
  rw [h.rd _ _ rfl, h.rd _ _ rfl, h.rd _ _ rfl, s.laserMatch_peer m]

theorem State.laserMatch_some {m : Nat} {df : Int} (hdf : s.dfNow m = some df) :
    let old := s.rd .PAIR_MATCH_df
    (s.laserMatch m).rd .PAIR_MATCH_df
        = (old - fieldOf old (8 * m) 8 * 2 ^ (8 * m) + toTwos 8 (clampInt (-127) 127 df) * 2 ^ (8 * m)) % 2 ^ 32
      ∧ (s.laserMatch m).pair.dfV = setBit s.pair.dfV m true
      ∧ (s.laserMatch m).pair.tune = if 25 < df.natAbs then SMap.mod 0 s.pair.tune m (· + df) else s.pair.tune := by
  unfold State.laserMatch
  rw [hdf]
  dsimp only
  split
  · rw [State.rd_emit, State.emit_pair, State.rd_modPair, State.rd_modPair, State.rd_wr_self]
    exact ⟨rfl, rfl, rfl⟩
  · rw [State.rd_modPair, State.rd_wr_self]
    exact ⟨rfl, rfl, rfl⟩

theorem toTwos_lt (w : Nat) (x : Int) : toTwos w x < 2 ^ w := by
  have h := Int.emod_lt_of_pos x (b := (2 ^ w : Nat)) (by exact_mod_cast Nat.two_pow_pos w)
  have g := Int.emod_nonneg x (b := (2 ^ w : Nat)) (by exact_mod_cast (Nat.two_pow_pos w).ne')
  unfold toTwos
  omega

theorem State.laserMatch_other {m : Nat} (hn : n < 4) (hm : m < 4) (hne : n ≠ m) : s.SameMatch n (s.laserMatch m) := by
  cases hdf : s.dfNow m with
  | none =>
    have e : s.laserMatch m = s.modPair (fun p => { p with dfV := setBit p.dfV m false }) := by simp only [State.laserMatch, hdf]
    rw [e]
    exact ⟨rfl, (testBit_setBit _ _ _ _).trans (if_neg hne), rfl⟩
  | some df =>
    obtain ⟨hreg, hvalid, htune⟩ := s.laserMatch_some hdf
    refine ⟨?_, ?_, ?_⟩
    · rw [State.dfOf, State.dfOf, hreg, fieldOf_set_byte _ _ hm hn (toTwos_lt 8 _), if_neg hne]
    · rw [hvalid, testBit_setBit, if_neg hne]
    · rw [htune]
      split
      · exact SMap.get_mod_ne _ _ _ hne.symm
      · rfl

/-- The match of an engine with both readings valid. -/
structure State.Matched (n : Nat) (df : Int) (s t : State) : Prop where
  byte : t.dfOf n = clampInt (-127) 127 df
  valid : t.pair.dfV.testBit n = true
  tune : SMap.get 0 t.pair.tune n = SMap.get 0 s.pair.tune n + (if 25 < df.natAbs then df else 0)

theorem State.Matched.congr {df : Int} {r s t u : State} (h : s.Matched n df t) (hr : r.SameMatch n s) (hu : t.SameMatch n u) :
    r.Matched n df u :=
  ⟨hu.byte.trans h.byte, hu.valid.trans h.valid, hu.tune.trans (h.tune.trans (by rw [hr.tune]))⟩

theorem State.laserMatch_self {df : Int} (hn : n < 4) (hdf : s.dfNow n = some df) : s.Matched n df (s.laserMatch n) := by
  obtain ⟨hreg, hvalid, htune⟩ := s.laserMatch_some hdf
  refine ⟨?_, ?_, ?_⟩
  · have hb := clampInt_bounds (lo := -127) (hi := 127) (by decide) df
    rw [State.dfOf, hreg, fieldOf_set_byte _ _ hn hn (toTwos_lt 8 _), if_pos rfl, ← Nat.mod_eq_of_lt (toTwos_lt 8 _)]
    exact ofTwos_toTwos (by decide) (by omega) (by omega)
  · rw [hvalid, testBit_setBit, if_pos rfl]
  · rw [htune]
    split
    · exact SMap.get_mod_self _ _ _ _
    · rw [Int.add_zero]

theorem State.laserMatch_fold_other {l : List Nat} (hn : n < 4) (hl : ∀ m ∈ l, m < 4) (hnl : n ∉ l) :
    ∀ s : State, s.SameMatch n (l.foldl (fun t m => t.laserMatch m) s) ∧ (l.foldl (fun t m => t.laserMatch m) s).dfNow n = s.dfNow n := by
  induction l with
  | nil => exact fun s => ⟨.refl, rfl⟩
  | cons m l ih =>
    intro s
    rw [List.forall_mem_cons] at hl
    rw [List.mem_cons, not_or] at hnl
    obtain ⟨hsame, hdf⟩ := ih hl.2 hnl.2 (s.laserMatch m)
    exact ⟨(s.laserMatch_other hn hl.1 hnl.1).trans hsame, hdf.trans (s.dfNow_laserMatch m n)⟩

theorem State.laserMatch_fold {l : List Nat} {df : Int} (hl : ∀ m ∈ l, m < 4) (hnodup : l.Nodup) (hmem : n ∈ l)
    (hdf : s.dfNow n = some df) : s.Matched n df (l.foldl (fun t m => t.laserMatch m) s) := by
  have hn := hl n hmem
  obtain ⟨before, after, rfl⟩ := List.append_of_mem hmem
  simp only [List.mem_append, List.mem_cons] at hl
  have hb : n ∉ before := fun h => (List.nodup_append.mp hnodup).2.2 n h n List.mem_cons_self rfl
  have ha : n ∉ after := (List.nodup_cons.mp (List.nodup_append.mp hnodup).2.1).1
  obtain ⟨hbefore, hdf1⟩ := State.laserMatch_fold_other hn (fun m h => hl m (.inl h)) hb s
  rw [List.foldl_append, List.foldl_cons]
  have hself := State.laserMatch_self _ hn (hdf1.trans hdf)
  exact hself.congr hbefore (State.laserMatch_fold_other hn (fun m h => hl m (.inr (.inr h))) ha _).1

end

theorem State.engines_le (s : State) : s.engines ≤ 4 := by
  unfold State.engines
  split <;> decide

theorem State.servedEngs_nodup (s : State) : s.servedEngs.Nodup := List.nodup_range.filter _

theorem State.mem_servedEngs {s : State} {n : Nat} : n ∈ s.servedEngs ↔ s.hasEng n = true ∧ s.inService n = true := by
  simp [State.servedEngs, upTo, State.hasEng]

@[simp] theorem State.readyRefresh_pair (s : State) : s.readyRefresh.pair = s.pair := rfl

theorem State.rd_readyRefresh_ne (s : State) {f : Fld} (i : Nat) (hf : .PAIR_STATUS_ready ≠ f) : s.readyRefresh.rd f i = s.rd f i :=
  State.rd_wr_ne _ _ _ _ hf

theorem pairSwitch_handsOver {r : RingId} {req : Fin 4} (hover : 2 ≤ req.val) {d : Desc} {s : State} (hd : s.headDesc r 2 = some d)
    (hreq : d.param0 % 16 = req.val) (hres : fieldOf d.param0 4 12 = 0)
    (hmem : s.mode.swMem.find? (fun m => m.tag == fieldOf d.param0 16 16) = none) (hlink : s.linkUp = true) (hrole : s.role = 1)
    (herr : s.switchErr req = 0) : Ends (pairSwitchInstr r req) s fun t => t.role = 2 ∧ t.modeNow = 5
      ∧ t.rd .PAIR_STATUS_ready = 0 ∧ t.pair.hold1s = true ∧ t.pair.cmdOut.map (·.d) = some (some d) := by
  refine ⟨_, exec_pairSwitchInstr hd hreq, ?_⟩
  rw [State.pairSwitch_active (s := s.popDesc r) hmem hres (by omega) hlink hrole herr, if_neg (by omega),
    State.switchAct_handsOver _ _ _ hover]
  exact State.handOver_shows _ d _ _

/-- Settles O18: each clause by what its command leaves of PAIR_STATUS, PAIR_BRIDGE, PAIR_MATCH and the pair's part. -/
theorem switchDescriptors : Obligations.SwitchDescriptors := by
  refine ⟨?unpaired, ?acts, ?handsOver, ?forwards, ?reserved, ?select, ?restore, ?laser⟩
  case unpaired =>
    intro r d s hd hres hmem hcut hreq
    obtain ⟨req, hval⟩ : ∃ req : Fin 4, d.param0 % 16 = req.val := ⟨⟨d.param0 % 16, by omega⟩, rfl⟩
    have hinstr : (match d.param0 % 16 with
        | 0 => Instr.pairSwitchClear r | 1 => .pairSwitchLockout r | 2 => .pairSwitchForce r | _ => .pairSwitchManual r)
          = pairSwitchInstr r req := by
      rw [hval]
      fin_cases req <;> rfl
    refine Eq.mpr (congrArg (fun c => Ends c s _) hinstr) ⟨_, exec_pairSwitchInstr hd hval, ?_⟩
    rw [State.pairSwitch_unpaired (s := s.popDesc r) hmem hres (by omega) hcut]
    exact ⟨State.swDone_ended _ _ _ _, State.rd_swDone _ _ _ _ _ _⟩
  case acts =>
    intro r req d s hd hreq hres hmem hlink hrole
    have hinstr : (if req = 0 then Instr.pairSwitchClear r else .pairSwitchLockout r) = pairSwitchInstr r (req.castLE (by decide)) := by
      fin_cases req <;> rfl
    refine Eq.mpr (congrArg (fun c => Ends c s _) hinstr) ⟨_, exec_pairSwitchInstr hd hreq, ?_⟩
    obtain ⟨hlockout, hforce⟩ := (s.popDesc r).switchAct_lockout req (fieldOf d.param0 16 16)
    have hlow : req.val ≤ 1 := by omega
    rw [Fin.val_castLE, State.pairSwitch_active (s := s.popDesc r) hmem hres (by omega) hlink hrole (State.switchErr_low _ hlow),
      if_pos hlow]
    exact ⟨(State.rd_swDone ..).trans hlockout, State.swDone_ended .., fun h => (congrArg _ (State.swDone_pair ..)).trans (hforce h)⟩
  case handsOver =>
    intro r force d s hd hreq hres hmem hlink hrole herr
    cases force with
    | true => exact pairSwitch_handsOver (req := 2) (by decide) hd hreq hres hmem hlink hrole herr
    | false => exact pairSwitch_handsOver (req := 3) (by decide) hd hreq hres hmem hlink hrole herr
  case forwards =>
    intro r req d s hd hreq hres hmem hlink hrole hfree
    refine ⟨_, exec_pairSwitchInstr hd hreq, ?_⟩
    rw [State.pairSwitch_shadow (s := s.popDesc r) hmem hres (by omega) hlink hrole hfree]
    dsimp only
    rw [State.sendCmd_pair]
    exact ⟨(State.rd_sendCmd ..).trans hrole, rfl, rfl, congrArg some (State.cmdCell_request _ _ _ _ (by omega))⟩
  case reserved =>
    intro r d s hd hreq hmem
    refine ⟨_, exec_pairSwitchReserved hd hreq, ?_⟩
    rw [State.pairSwitch_badCode (s := s.popDesc r) hmem hreq]
    exact ⟨State.swDone_ended .., State.rd_swDone ..⟩
  case select =>
    intro k copy s hsf hrole hlink hadm hsel hfail
    refine ⟨(s.bridgeUse k 1).copyIn k copy.bytes, congrArg ok ?_, ?_, ?_⟩
    · simp [hrole, hlink, hadm, hsf, hsel, hfail]
    · rw [(State.copyIn_spec _ _ _).rd _ _ rfl, State.bridgeUse_selected]
    · rw [(State.copyIn_spec _ _ _).rd _ _ rfl, State.bridgeUse_raises]
  case restore =>
    intro k s hrole hsel hgood
    refine ⟨s.bridgeUse k 0, congrArg ok (if_pos ?_), State.bridgeUse_selected _ _ _, State.bridgeUse_raises _ _ _⟩
    simp [hrole, hsel, hgood]
  case laser =>
    intro n df s hmode hawake heng hserv hdf
    have hlt : ∀ m ∈ s.servedEngs, m < 4 := fun m hm =>
      (of_decide_eq_true (State.mem_servedEngs.mp hm).1).trans_le s.engines_le
    have h := State.laserMatch_fold s hlt s.servedEngs_nodup (State.mem_servedEngs.mpr ⟨heng, hserv⟩) hdf
    refine ⟨_, congrArg ok (if_pos (by simp [hmode, hawake])), ?_, h.valid, h.tune⟩
    rw [← h.byte, State.dfOf, State.rd_readyRefresh_ne _ _ (by decide)]
    rfl

end Sys2Proof.Machine
end

section
/-! The state of the pair link: which of its registers each step of forming the pair, bridging, taking over and standing down
leaves as they were, and what a heartbeat shows (08_pair_protection.md R268 to R275, R294). -/
namespace Sys2Proof.Machine

/-! ### What an operation leaves of the link's registers -/

/-- The registers of the pair link. -/
def linkRegs : List Rg := [.PAIR_CTRL, .PAIR_STATUS, .PAIR_LEVEL, .PAIR_EV]

/-- The registers of the pair link hold what they held, but for some fields. -/
def LinkKept (but : List Fld) (s t : State) : Prop := ∀ f i, f.info.rg ∈ linkRegs → f ∉ but → t.rd f i = s.rd f i

namespace LinkKept
variable {but : List Fld} {s t u : State}

theorem refl : LinkKept but s s := fun _ _ _ _ => rfl

theorem trans (h : LinkKept but s t) (g : LinkKept but t u) : LinkKept but s u := fun f i hf hb =>
  (g f i hf hb).trans (h f i hf hb)

theorem mono {less : List Fld} (h : LinkKept less s t) (hl : less ⊆ but) : LinkKept but s t := fun f i hf hb =>
  h f i hf fun hm => hb (hl hm)

/-- One more operation whose footprint holds none of these registers. -/
theorem spec {F : Nat} (g : Spec F t u) (hF : ∀ r ∈ linkRegs, F.testBit r.ctorIdx = false) (h : LinkKept but s t) :
    LinkKept but s u := h.trans fun f i hf _ => g.rd f i (hF _ hf)

theorem wr {f : Fld} (i v : Nat) (hf : f ∈ but) (h : LinkKept but s t) : LinkKept but s (t.wr f i v) :=
  h.trans fun _ _ _ hb => State.rd_wr_ne _ _ _ _ fun e => hb (e ▸ hf)

theorem raiseReg {f : Fld} (i : Nat) (a : EvArg) (hf : f ∈ but) (h : LinkKept but s t) : LinkKept but s (t.raiseReg f i a) :=
  h.trans fun g j hg hb => by
    have hrec : ∀ r ∈ linkRegs, recMask.testBit r.ctorIdx = false := by decide
    exact State.rd_raiseReg_ne _ _ _ _ (hrec _ hg) fun e => hb (e ▸ hf)

theorem ite {c : Prop} [Decidable c] (h : LinkKept but s t) (g : LinkKept but s u) : LinkKept but s (if c then t else u) := by
  split <;> assumption

end LinkKept

@[simp] theorem State.pair_modPair (s : State) (g : PairSt → PairSt) : (s.modPair g).pair = g s.pair := rfl

/-! ### Bridging (R291) -/

/-- Dropping an entry of the bridge raises PAIR_SEL at most. -/
theorem State.bridgeDrop_linkKept (s : State) (k : Nat) : LinkKept [.PAIR_EV_sel] s (s.bridgeDrop k) := by
  unfold State.bridgeDrop
  extract_lets +onlyGivenNames t was s1 s2
  have h1 : LinkKept [.PAIR_EV_sel] s s1 :=
    .spec (State.copyClear_spec _ _) (by decide) (.spec (State.wr_spec _ _ _ _) (by decide) (.spec (State.wr_spec _ _ _ _) (by decide) .refl))
  have h2 : LinkKept [.PAIR_EV_sel] s s2 :=
    .ite (.ite (.spec (State.sfOut_spec _ _) (by decide) h1) (.ite h1 (.spec (State.dlmHunt_spec _ _) (by decide) h1))) h1
  exact .ite h1 (.raiseReg _ _ (by decide) h2)

/-- What bringing the bridge up to date may change of the link's registers. -/
def bridgeFlds : List Fld := [.PAIR_EV_sel, .PAIR_EV_bridge_drop, .PAIR_STATUS_bridged_slots]

/-- What it may change of the pair link: those fields, and of the pair's part the copies and the entries that do not fit. -/
structure State.Bridged (s t : State) : Prop where
  regs : LinkKept bridgeFlds s t
  part : ∃ q o, t.pair = { s.pair with copyQ := q, bridgeOut := o }

namespace State.Bridged
variable {s t u : State}

theorem refl : s.Bridged s := ⟨.refl, _, _, rfl⟩

theorem trans (h : s.Bridged t) (g : t.Bridged u) : s.Bridged u := by
  obtain ⟨_, _, e⟩ := h.part
  obtain ⟨q, o, e'⟩ := g.part
  exact ⟨h.regs.trans g.regs, q, o, by rw [e', e]⟩

theorem out (o : SMap Bool) : s.Bridged { s with pair := { s.pair with bridgeOut := o } } := ⟨fun _ _ _ _ => rfl, _, _, rfl⟩

theorem raiseDrop (a : EvArg) : s.Bridged (s.raiseReg .PAIR_EV_bridge_drop 0 a) :=
  ⟨.raiseReg _ _ (by decide) .refl, _, _, State.raiseReg_pair _ _ _ _⟩

theorem drop (s : State) (k : Nat) : s.Bridged (s.bridgeDrop k) := by
  refine ⟨(s.bridgeDrop_linkKept k).mono (by decide), ?_⟩
  unfold State.bridgeDrop
  extract_lets +onlyGivenNames t was s1 s2
  have h1 : s1.pair = { s.pair with copyQ := SMap.set [] s.pair.copyQ k [] } := by
    dsimp only [s1, State.copyClear]
    split <;> rfl
  have h2 : s2.pair = s1.pair := by
    dsimp only [s2]
    split
    · split
      · exact (State.sfOut_spec _ _).keep .pair rfl
      · split
        · rfl
        · exact (State.dlmHunt_spec _ _).keep .pair rfl
    · rfl
  split
  · exact ⟨_, _, h1⟩
  · exact ⟨_, _, (State.raiseReg_pair _ _ _ _).trans (h2.trans h1)⟩

end State.Bridged

theorem State.bridgeRefresh_bridged (s : State) : s.Bridged s.bridgeRefresh := by
  unfold State.bridgeRefresh
  extract_lets +onlyGivenNames room
  split
  rename_i sum t hfold
  have ht : s.Bridged t := by
    change s.Bridged (sum, t).2
    rw [← hfold]
    refine List.foldlRecOn (motive := fun p : Nat × State => s.Bridged p.2) _ _ .refl fun p hp k _ => hp.trans ?_
    obtain ⟨n, u⟩ := p
    dsimp -zeta only
    extract_lets +onlyGivenNames req out was v
    split
    · exact (State.Bridged.drop u k).trans (.out _)
    · split
      · exact State.Bridged.trans ⟨.spec (State.wr_spec _ _ _ _) (by decide) .refl, _, _, rfl⟩ (.out _)
      · have hv : u.Bridged v := (State.Bridged.drop u k).trans (.out _)
        split
        · exact hv
        · exact hv.trans (.raiseDrop _)
  exact ht.trans ⟨.wr _ _ (by decide) .refl, _, _, rfl⟩

/-! ### A takeover (R294, R297) -/

section
variable (s : State)

/-- The SHADOW accepts: the mode machine ends, SYS_MODE and the pair's part follow. -/
def State.accepting : State :=
  (s.modeAbort.setMode (if s.pair.mirMode == 0 then s.pair.peer.mode else s.pair.mirMode) 1).modPair (fun p =>
    { p with loaded := false, late := false, hold1s := false, bulkTx := false, mirOut := [], dyingTx := false, shFault := [] })

/-- Lines, clients and clocks follow. -/
def State.tookOver : State :=
  let t := s.accepting.actRefresh
  let t := t.servedEngs.foldl (fun t n => (t.modTx n (fun x => { x with swLeft := 9 })).protSend n 2 (t.txOf n).psc) t
  (t.clientTx true).d0Takeover.engRefresh

theorem State.takeover_eq (h : s.role = 2) : s.takeover
    = s.tookOver.readyRefresh.raiseReg .PAIR_EV_takeover 0 { arg := some (b2n (!s.on .PAIR_STATUS_ready)) } := by
  unfold State.takeover
  rw [if_neg (by simp [h])]
  rfl

theorem State.tookOver_after :
    Spec 0xf15cde00000000000000000000000022000000050000000a000400200020a200300022 s.accepting s.tookOver := by
  unfold State.tookOver
  extract_lets t u
  refine Spec.step (State.engRefresh_spec _) rfl (Spec.step (State.d0Takeover_spec _) rfl (Spec.step (State.clientTx_spec _ _) rfl ?_))
  refine Spec.fold _ (fun v n => ?_) (Spec.step (State.actRefresh_spec _) rfl Spec.refl)
  exact Spec.step (State.protSend_spec _ _ _ _) rfl (Spec.step (State.modTx_spec _ _ _) rfl Spec.refl)

theorem State.accepting_linkKept : LinkKept [] s s.accepting :=
  .spec (State.modPair_spec _ _) (by decide) (.spec (State.setMode_spec _ _ _) (by decide)
    (.spec (State.modeAbort_spec _) (by decide) .refl))

theorem State.tookOver_linkKept : LinkKept [] s s.tookOver :=
  .spec s.tookOver_after (by decide) s.accepting_linkKept

/-- The pair's part after a takeover: as it was, but for what belongs to a SHADOW or to a sender of the mirror. -/
theorem State.accepting_pair : s.accepting.pair = { s.pair with
    loaded := false, late := false, hold1s := false, bulkTx := false, mirOut := [], dyingTx := false, shFault := [] } := by
  unfold State.accepting
  rw [State.pair_modPair, State.setMode_pair, (State.modeAbort_spec _).keep .pair rfl]

theorem State.takeover_linkKept : LinkKept [.PAIR_STATUS_ready, .PAIR_EV_takeover] s s.takeover := by
  by_cases h : s.role = 2
  · rw [s.takeover_eq h]
    exact .raiseReg _ _ (by decide) (.wr _ _ (by decide) (s.tookOver_linkKept.mono (by decide)))
  · rw [State.takeover, if_pos (by simpa using h)]
    exact .refl

section
variable (h : s.role = 2)
include h

theorem State.takeover_pair : s.takeover.pair = { s.pair with
    loaded := false, late := false, hold1s := false, bulkTx := false, mirOut := [], dyingTx := false, shFault := [] } := by
  rw [s.takeover_eq h, State.raiseReg_pair, State.readyRefresh_pair, s.tookOver_after.keep .pair rfl, s.accepting_pair]

theorem State.takeover_shows : s.takeover.role = 1 ∧ s.takeover.rd .PAIR_EV_takeover = 1 := by
  rw [s.takeover_eq h]
  refine ⟨?_, State.rd_raiseReg_self _ _ _ _ rfl rfl⟩
  rw [State.role, State.rd_raiseReg_ne _ _ _ _ rfl (by decide), State.rd_readyRefresh_ne _ _ (by decide), s.tookOver_after.rd _ _ rfl]
  exact ((State.setMode_after _ _ _).role).trans (State.rd_wr_self _ _ _ _)

end

/-! ### The SHADOW judges (R294) -/

/-- What judging may change of the link's registers. -/
def judgeFlds : List Fld := [.PAIR_STATUS_ready, .PAIR_EV_takeover, .PAIR_EV_link_down, .PAIR_EV_alive_fault]

theorem State.judge_linkKept : LinkKept judgeFlds s s.judge :=
  .ite .refl (.ite (s.takeover_linkKept.mono (by decide)) (.ite (.raiseReg _ _ (by decide) .refl)
    (.ite (.raiseReg _ _ (by decide) .refl) .refl)))

theorem State.judge_other (h : s.role ≠ 2) : s.judge = s := if_pos (by simpa using h)

section
variable (h : s.role = 2)
include h

theorem State.judge_takesOver (hgone : s.pair.dying = true ∨ s.pair.hbLost = true ∧ s.on .PAIR_STATUS_peer_alive = false) :
    s.judge = s.takeover := by
  unfold State.judge
  rw [if_neg (by simp [h]), if_pos (by simpa using hgone)]

section
variable (hdying : s.pair.dying = false)
include hdying

theorem State.judge_linkDown (hlost : s.pair.hbLost = true) (halive : s.on .PAIR_STATUS_peer_alive = true) :
    s.judge = s.raiseReg .PAIR_EV_link_down := by simp [State.judge, h, hdying, hlost, halive]

theorem State.judge_aliveFault (hlost : s.pair.hbLost = false) (halive : s.on .PAIR_STATUS_peer_alive = false) :
    s.judge = s.raiseReg .PAIR_EV_alive_fault := by simp [State.judge, h, hdying, hlost, halive]

end
end
end

/-! ### Lanes and the ALIVE wire (R268, R273) -/

section
variable {s : State}

theorem State.on_eq_false {f : Fld} {i : Nat} (h : s.on f i = false) : s.rd f i = 0 := by simpa [State.on] using h

theorem exec_peerAliveLost_falls (h : s.on .PAIR_STATUS_peer_alive = true) :
    exec .peerAliveLost s = .next (s.wr .PAIR_STATUS_peer_alive 0 0).judge := congrArg ok (if_pos h)

theorem State.rd_bridgeRefresh (s : State) {f : Fld} (i : Nat) (hf : f.info.rg ∈ linkRegs) (hb : f ∉ bridgeFlds) :
    s.bridgeRefresh.rd f i = s.rd f i := s.bridgeRefresh_bridged.regs f i hf hb

theorem State.laneDown_lane (s : State) (k : LaneId) :
    ((s.wr .PAIR_STATUS_lanes_up 0 (s.rd .PAIR_STATUS_lanes_up - 2 ^ k.val)).bridgeRefresh.rd .PAIR_STATUS_lanes_up).testBit k
      = false ∨ (s.rd .PAIR_STATUS_lanes_up).testBit k = false := by
  cases h : (s.rd .PAIR_STATUS_lanes_up).testBit k with
  | false => exact .inr rfl
  | true =>
    left
    rw [State.rd_bridgeRefresh _ _ (by decide) (by decide), State.rd_wr_self, Nat.testBit_mod_two_pow, testBit_sub_two_pow h]
    simp

theorem State.laneUp_lane (s : State) (k : LaneId) (h : (s.rd .PAIR_STATUS_lanes_up).testBit k = false) :
    ((s.wr .PAIR_STATUS_lanes_up 0 (s.rd .PAIR_STATUS_lanes_up + 2 ^ k.val)).bridgeRefresh.rd .PAIR_STATUS_lanes_up).testBit k
      = true := by
  have hw : k.val < (Fld.PAIR_STATUS_lanes_up).info.w := k.isLt
  rw [State.rd_bridgeRefresh _ _ (by decide) (by decide), State.rd_wr_self, Nat.testBit_mod_two_pow, testBit_add_two_pow h]
  simp [hw]

end

/-! ### pair_en (R274) -/

section
variable (s : State)

/-- The word of a write of pair_en alone. -/
theorem State.fieldWord_pairEn (v : Bool) : (s.fieldWord .PAIR_CTRL_pair_en 0 (b2n v) % 2 ^ 32).testBit 0 = v := by
  have h : s.fieldWord .PAIR_CTRL_pair_en 0 (b2n v)
      = b2n v % 2 ^ 1 * 2 ^ 0 + s.rd .PAIR_CTRL_tx_suspect_en % 2 ^ 1 * 2 ^ 1 + s.rd .PAIR_CTRL_lane_en % 2 ^ 8 * 2 ^ 8 := rfl
  have hv : b2n v < 2 := by cases v <;> decide
  have hbit : s.fieldWord .PAIR_CTRL_pair_en 0 (b2n v) % 2 ^ 32 % 2 = b2n v := by omega
  rw [Nat.testBit_zero, hbit]
  cases v <;> rfl

/-- What a write of PAIR_CTRL does before it comes to pair_en. -/
def State.pairCtrlLanes (val : Nat) : State :=
  (s.wr .PAIR_CTRL_tx_suspect_en 0 (fieldOf val 1 1)).laneEnWrite (fieldOf val 8 8)

theorem State.pairCtrlLanes_linkKept (val : Nat) :
    LinkKept ([.PAIR_CTRL_tx_suspect_en, .PAIR_CTRL_lane_en, .PAIR_STATUS_lanes_up] ++ bridgeFlds) s (s.pairCtrlLanes val) := by
  unfold State.pairCtrlLanes State.laneEnWrite
  extract_lets t up
  have h : LinkKept ([.PAIR_CTRL_tx_suspect_en, .PAIR_CTRL_lane_en, .PAIR_STATUS_lanes_up] ++ bridgeFlds) s t :=
    .wr _ _ (by decide) (.wr _ _ (by decide) .refl)
  exact .ite h ((LinkKept.wr _ _ (by decide) h).trans ((State.bridgeRefresh_bridged _).regs.mono (List.subset_append_right _ _)))

theorem State.pairCtrlLanes_role (val : Nat) : (s.pairCtrlLanes val).role = s.role :=
  ((State.laneEnWrite_spec _ _).rd .SYS_MODE_role 0 rfl).trans (State.rd_wr_ne _ _ _ _ (by decide))

theorem exec_pairEnWrite {s : State} (v : Bool) (h : s.fate .host .PAIR_CTRL 0 = .takes) : exec (.pairEnWrite v) s
    = .next ((s.pairCtrlLanes (s.fieldWord .PAIR_CTRL_pair_en 0 (b2n v) % 2 ^ 32)).pairEnWrite v) := by
  have hword := s.fieldWord_pairEn v
  have htake : s.fieldWrite .host .PAIR_CTRL_pair_en 0 (b2n v)
      = s.regAct .host .PAIR_CTRL 0 (s.fieldWord .PAIR_CTRL_pair_en 0 (b2n v) % 2 ^ 32) := by
    have hrg : (Fld.PAIR_CTRL_pair_en).info.rg = .PAIR_CTRL := rfl
    simp only [State.fieldWrite, State.regTake, hrg, h]
  refine congrArg ok (htake.trans ?_)
  generalize s.fieldWord .PAIR_CTRL_pair_en 0 (b2n v) % 2 ^ 32 = w at hword ⊢
  subst hword
  exact if_neg (by simp [State.namesAbsent])

end

theorem State.pairEnWrite_trains {s : State} (h : s.linkState = 0) :
    (s.pairEnWrite true).rd .PAIR_CTRL_pair_en = 1 ∧ (s.pairEnWrite true).linkState = 1
      ∧ (s.pairEnWrite true).pair.hbLost = true := by
  unfold State.pairEnWrite
  rw [if_pos rfl, if_neg (by simp [h])]
  rw [State.linkState, State.rd_modPair, State.rd_modPair, State.rd_wr_self, State.rd_wr_ne _ _ _ _ (by decide), State.rd_wr_self]
  exact ⟨rfl, rfl, rfl⟩

theorem State.pairEnWrite_paired {s : State} (h : s.role ≠ 0) : s.pairEnWrite false = s := by
  unfold State.pairEnWrite
  rw [if_neg (by decide), if_pos (by simpa using h)]

theorem State.pairEnWrite_stops {s : State} (h : s.role = 0) :
    (s.pairEnWrite false).rd .PAIR_CTRL_pair_en = 0 ∧ (s.pairEnWrite false).linkState = 0
      ∧ (s.pairEnWrite false).rd .PAIR_STATUS_lanes_up = 0 := by
  have hafter : ∀ (t : State), LinkKept bridgeFlds t (t.bridgeRefresh.setMember 0) := fun t =>
    .spec (State.setMember_spec _ _) (by decide) t.bridgeRefresh_bridged.regs
  unfold State.pairEnWrite
  rw [if_neg (by decide), if_neg (by simp [h])]
  extract_lets t
  refine ⟨?_, ?_, ?_⟩
  · rw [hafter _ .PAIR_CTRL_pair_en 0 (by decide) (by decide)]
    simp [State.wrs, State.rd_wr]
  · rw [State.linkState, hafter _ .PAIR_STATUS_link_state 0 (by decide) (by decide)]
    simp [State.wrs, State.rd_wr]
  · rw [hafter _ .PAIR_STATUS_lanes_up 0 (by decide) (by decide)]
    simp [State.wrs, State.rd_wr]

/-! ### The heartbeat is lost (R272, R274, R294) -/

/-- What the link does first: it returns to training, and nothing that is being sent goes on. -/
def State.hbGone (s : State) : State :=
  let t := (s.modPair (fun p => { p with hbLost := true, hbRun := 0 })).wrs
    [(.PAIR_STATUS_link_state, 0, 1), (.PAIR_LEVEL_fl_agreed, 0, 0)]
  ((t.raiseReg .PAIR_EV_hb_lost).modPair (fun p => { p with mirOut := [], bulkTx := false })).bridgeRefresh

theorem exec_hbLost {s : State} (hlink : s.linkState = 2) (hlost : s.pair.hbLost = false) :
    exec .hbLost s = .next s.hbGone.judge.d0LeaveFollow.readyRefresh := by
  have htrain : ∀ t : State, t = s.modPair (fun p => { p with hbLost := true, hbRun := 0 }) → (t.linkState != 2) = false := by
    rintro _ rfl
    rw [State.linkState, State.rd_modPair]
    simpa [State.linkState] using hlink
  show execHbLost s = _
  unfold execHbLost
  rw [if_neg (by simp [hlink, hlost])]
  extract_lets t u v
  rw [if_neg (by simp [htrain t rfl])]
  rfl

section
variable (s : State)

theorem State.hbGone_linkKept :
    LinkKept ([.PAIR_STATUS_link_state, .PAIR_LEVEL_fl_agreed, .PAIR_EV_hb_lost] ++ bridgeFlds) s s.hbGone := by
  unfold State.hbGone
  extract_lets t
  refine LinkKept.trans ?_ ((State.bridgeRefresh_bridged _).regs.mono (List.subset_append_right _ _))
  exact .spec (State.modPair_spec _ _) (by decide) (.raiseReg _ _ (by decide) (.wr _ _ (by decide) (.wr _ _ (by decide)
    (.spec (State.modPair_spec _ _) (by decide) .refl))))

theorem State.hbGone_shows : s.hbGone.linkState = 1 ∧ s.hbGone.rd .PAIR_LEVEL_fl_agreed = 0 ∧ s.hbGone.rd .PAIR_EV_hb_lost = 1 := by
  unfold State.hbGone
  extract_lets t
  refine ⟨?_, ?_, ?_⟩
  · rw [State.linkState, State.rd_bridgeRefresh _ _ (by decide) (by decide), State.rd_modPair,
      State.rd_raiseReg_ne _ _ _ _ rfl (by decide)]
    simp only [t, State.wrs_cons, State.wrs_nil]
    rw [State.rd_wr_ne _ _ _ _ (by decide), State.rd_wr_self]
    rfl
  · rw [State.rd_bridgeRefresh _ _ (by decide) (by decide), State.rd_modPair, State.rd_raiseReg_ne _ _ _ _ rfl (by decide)]
    simp [t, State.wrs]
  · rw [State.rd_bridgeRefresh _ _ (by decide) (by decide), State.rd_modPair, State.rd_raiseReg_self _ _ _ _ rfl rfl]

theorem State.hbGone_pair : s.hbGone.pair.hbLost = true ∧ s.hbGone.pair.mirOut = [] ∧ s.hbGone.pair.dying = s.pair.dying := by
  unfold State.hbGone
  extract_lets t
  obtain ⟨q, o, e⟩ := (State.bridgeRefresh_bridged ((t.raiseReg .PAIR_EV_hb_lost).modPair
    (fun p => { p with mirOut := [], bulkTx := false }))).part
  rw [e, State.pair_modPair, State.raiseReg_pair]
  exact ⟨rfl, rfl, rfl⟩

theorem State.hbGone_role : s.hbGone.role = s.role := by
  unfold State.hbGone
  extract_lets t
  rw [State.role, (State.bridgeRefresh_spec _).rd .SYS_MODE_role 0 rfl, State.rd_modPair, State.rd_raiseReg_ne _ _ _ _ rfl (by decide)]
  simp [t, State.wrs, State.rd_wr, State.role]

/-- Judging keeps that the heartbeat is lost and that no message waits. -/
theorem State.judge_pair : s.judge.pair.hbLost = s.pair.hbLost ∧ (s.pair.mirOut = [] → s.judge.pair.mirOut = []) := by
  unfold State.judge
  by_cases h : s.role = 2
  · rw [if_neg (by simp [h])]
    split
    · rw [s.takeover_pair h]
      exact ⟨rfl, fun _ => rfl⟩
    · split
      · rw [State.raiseReg_pair]
        exact ⟨rfl, id⟩
      · split
        · rw [State.raiseReg_pair]
          exact ⟨rfl, id⟩
        · exact ⟨rfl, id⟩
  · rw [if_pos (by simpa using h)]
    exact ⟨rfl, id⟩

/-- What the rest of HB_LOST leaves: DPLL0 and readiness follow. -/
theorem State.hbLost_tail : LinkKept [.PAIR_STATUS_ready] s s.d0LeaveFollow.readyRefresh ∧ s.d0LeaveFollow.readyRefresh.pair = s.pair
    ∧ s.d0LeaveFollow.readyRefresh.role = s.role :=
  ⟨.wr _ _ (by decide) (.spec (State.d0LeaveFollow_spec _) (by decide) .refl),
    (State.readyRefresh_pair _).trans ((State.d0LeaveFollow_spec _).keep .pair rfl),
    (State.rd_readyRefresh_ne _ _ (by decide)).trans ((State.d0LeaveFollow_spec _).rd .SYS_MODE_role 0 rfl)⟩

end
/-! ### Steps of the link -/

/-- A fall of ALIVE leaves every register of the link but peer_alive and what judging may change. -/
theorem exec_peerAliveLost (s : State) : Ends .peerAliveLost s fun t => t.rd .PAIR_STATUS_peer_alive = 0
    ∧ (s.role ≠ 2 → t.role = s.role) := by
  cases halive : s.on .PAIR_STATUS_peer_alive with
  | false => exact ⟨s, congrArg ok (if_neg (by simp [halive])), State.on_eq_false halive, fun _ => rfl⟩
  | true =>
    refine ⟨_, exec_peerAliveLost_falls halive, ?_, fun h => ?_⟩
    · rw [State.judge_linkKept _ _ 0 (by decide) (by decide), State.rd_wr_self, Nat.zero_mod]
    · have hrole : (s.wr .PAIR_STATUS_peer_alive 0 0).role = s.role := State.rd_wr_ne _ _ _ _ (by decide)
      rw [State.judge_other _ (hrole ▸ h), hrole]

/-- A SHADOW that sees ALIVE fall takes over where the heartbeats have ended too, and reports the fault where they have not. -/
theorem exec_peerAliveLost_shadow {s : State} (hrole : s.role = 2) (halive : s.on .PAIR_STATUS_peer_alive = true)
    (hdying : s.pair.dying = false) : Ends .peerAliveLost s fun t =>
      (s.pair.hbLost = true → t.role = 1 ∧ t.rd .PAIR_EV_takeover = 1)
        ∧ (s.pair.hbLost = false → t.role = 2 ∧ t.rd .PAIR_EV_alive_fault = 1) := by
  have hrole' : (s.wr .PAIR_STATUS_peer_alive 0 0).role = 2 := (State.rd_wr_ne _ _ _ _ (by decide)).trans hrole
  have hgone : (s.wr .PAIR_STATUS_peer_alive 0 0).on .PAIR_STATUS_peer_alive = false := by simp [State.on, State.rd_wr_self]
  have hpair : (s.wr .PAIR_STATUS_peer_alive 0 0).pair = s.pair := State.wr_pair ..
  refine ⟨_, exec_peerAliveLost_falls halive, fun hlost => ?_, fun hlost => ?_⟩
  · rw [State.judge_takesOver _ hrole' (.inr ⟨hpair ▸ hlost, hgone⟩)]
    exact State.takeover_shows _ hrole'
  · rw [State.judge_aliveFault _ hrole' (hpair ▸ hdying) (hpair ▸ hlost) hgone]
    exact ⟨(State.rd_raiseReg_ne _ _ _ _ rfl (by decide)).trans hrole', State.rd_raiseReg_self _ _ _ _ rfl rfl⟩

theorem exec_pairLaneDown (s : State) (k : LaneId) :
    Ends (.pairLaneDown k) s fun t => (t.rd .PAIR_STATUS_lanes_up).testBit k = false := by
  cases hup : (s.rd .PAIR_STATUS_lanes_up).testBit k with
  | false => exact ⟨s, congrArg ok (if_neg (by simp [hup])), hup⟩
  | true => exact ⟨_, congrArg ok (if_pos hup), (s.laneDown_lane k).resolve_right (by simp [hup])⟩

theorem exec_pairLaneUp {s : State} {k : LaneId} (hlink : s.linkState ≠ 0) (hen : (s.rd .PAIR_CTRL_lane_en).testBit k = true) :
    Ends (.pairLaneUp k) s fun t => (t.rd .PAIR_STATUS_lanes_up).testBit k = true := by
  cases hup : (s.rd .PAIR_STATUS_lanes_up).testBit k with
  | true => exact ⟨s, congrArg ok (if_neg (by simp [hup])), hup⟩
  | false => exact ⟨_, congrArg ok (if_pos (by simp [hlink, hen, hup])), s.laneUp_lane k hup⟩

section
variable {s : State} (htakes : s.fate .host .PAIR_CTRL 0 = .takes)
include htakes

theorem exec_pairEnWrite_trains (hlink : s.linkState = 0) : Ends (.pairEnWrite true) s fun t =>
    t.rd .PAIR_CTRL_pair_en = 1 ∧ t.linkState = 1 ∧ t.pair.hbLost = true :=
  ⟨_, exec_pairEnWrite true htakes,
    State.pairEnWrite_trains ((s.pairCtrlLanes_linkKept _ .PAIR_STATUS_link_state 0 (by decide) (by decide)).trans hlink)⟩

theorem exec_pairEnWrite_ends : Ends (.pairEnWrite false) s fun t =>
    (s.role = 0 → t.rd .PAIR_CTRL_pair_en = 0 ∧ t.linkState = 0 ∧ t.rd .PAIR_STATUS_lanes_up = 0)
      ∧ (s.role ≠ 0 → t.rd .PAIR_CTRL_pair_en = s.rd .PAIR_CTRL_pair_en ∧ t.linkState = s.linkState) := by
  refine ⟨_, exec_pairEnWrite false htakes, fun h => State.pairEnWrite_stops ((s.pairCtrlLanes_role _).trans h), fun h => ?_⟩
  have hkept := s.pairCtrlLanes_linkKept (s.fieldWord .PAIR_CTRL_pair_en 0 (b2n false) % 2 ^ 32)
  rw [State.pairEnWrite_paired (by rwa [State.pairCtrlLanes_role])]
  exact ⟨hkept _ _ (by decide) (by decide), hkept .PAIR_STATUS_link_state 0 (by decide) (by decide)⟩

end

/-- HB_LOST on a link that is UP (R272, R274, R294). -/
theorem exec_hbLost_up {s : State} (hlink : s.linkState = 2) (hlost : s.pair.hbLost = false) : Ends .hbLost s fun t =>
    t.linkState = 1 ∧ t.pair.hbLost = true ∧ t.rd .PAIR_LEVEL_fl_agreed = 0 ∧ t.rd .PAIR_EV_hb_lost = 1
      ∧ t.pair.mirOut = [] ∧ (s.role = 2 → s.on .PAIR_STATUS_peer_alive = false → t.role = 1)
      ∧ (s.role = 2 → s.on .PAIR_STATUS_peer_alive = true → s.pair.dying = false → t.role = 2 ∧ t.rd .PAIR_EV_link_down = 1) := by
  obtain ⟨htrain, hagreed, hraised⟩ := s.hbGone_shows
  obtain ⟨hgone, hout, hdying⟩ := s.hbGone_pair
  obtain ⟨hjlost, hjout⟩ := s.hbGone.judge_pair
  obtain ⟨htail, htpair, htrole⟩ := s.hbGone.judge.hbLost_tail
  have hjudge : LinkKept judgeFlds s.hbGone s.hbGone.judge.d0LeaveFollow.readyRefresh :=
    s.hbGone.judge_linkKept.trans (htail.mono (by decide))
  have halive : s.hbGone.on .PAIR_STATUS_peer_alive = s.on .PAIR_STATUS_peer_alive :=
    congrArg (· != 0) (s.hbGone_linkKept _ _ (by decide) (by decide))
  refine ⟨_, exec_hbLost hlink hlost, ?_, ?_, ?_, ?_, ?_, fun h ha => ?_, fun h ha hd => ?_⟩
  · exact (hjudge .PAIR_STATUS_link_state 0 (by decide) (by decide)).trans htrain
  · rw [htpair, hjlost, hgone]
  · exact (hjudge _ _ (by decide) (by decide)).trans hagreed
  · exact (hjudge _ _ (by decide) (by decide)).trans hraised
  · rw [htpair, hjout hout]
  · have hrole : s.hbGone.role = 2 := s.hbGone_role.trans h
    rw [htrole, State.judge_takesOver _ hrole (.inr ⟨hgone, halive.trans ha⟩)]
    exact (State.takeover_shows _ hrole).1
  · have hrole : s.hbGone.role = 2 := s.hbGone_role.trans h
    rw [htrole, htail _ _ (by decide) (by decide), State.judge_linkDown _ hrole (hdying.trans hd) hgone (halive.trans ha)]
    exact ⟨(State.rd_raiseReg_ne _ _ _ _ rfl (by decide)).trans hrole, State.rd_raiseReg_self _ _ _ _ rfl rfl⟩

/-- A cell that R270 or R304 discards is counted. -/
theorem exec_badCellRx_counts {cell : List Byte} {unc : Bool} (s : State)
    (h : unc = true ∨ (∀ k : Fin 9, cellOk k cell = false) ∨ byteAt cell 0 = 4 ∧ 4 < byteAt cell 3) :
    Ends (.badCellRx cell unc) s fun t => t.cntOf 514 = (s.cntOf 514 + 1) % 2 ^ 48 := by
  have hbad : (unc || !cellOk (byteAt cell 0) cell || decide (8 < byteAt cell 0)
      || (byteAt cell 0 == 4 && decide (4 < byteAt cell 3))) = true := by
    rcases h with rfl | hcrc | ⟨htyp, hreq⟩
    · simp
    · by_cases hres : 8 < byteAt cell 0
      · simp [hres]
      · have := hcrc ⟨byteAt cell 0, by omega⟩
        simp [this]
    · simp [htyp, hreq]
  refine ⟨s.count 514, congrArg ok (if_pos hbad), ?_⟩
  exact (State.cntOf_count _ _ _ _ (by decide)).trans (if_pos ⟨by simp [State.cntValid], rfl⟩)

/-! ### A heartbeat goes out (R271, R273) -/

/-- Where a list ends in two parts, the last is what is left after the length of the rest, and the one before it stands there. -/
theorem suffix_parts {α : Type} {l base out : List α} (h : l ++ base <:+ out) : base.length + l.length ≤ out.length
    ∧ out.drop (out.length - base.length) = base
    ∧ (out.drop (out.length - base.length - l.length)).take l.length = l := by
  have hlen := h.length_le
  have hdrop := List.suffix_iff_eq_drop.mp h
  rw [List.length_append] at hlen hdrop
  refine ⟨by omega, (List.suffix_iff_eq_drop.mp ((List.suffix_append _ _).trans h)).symm, ?_⟩
  rw [show out.length - base.length - l.length = out.length - (l.length + base.length) by omega, ← hdrop, List.take_left]

/-- A cell of a byte and a word of two bytes shows its type and that word. -/
theorem mkCell_shows (typ x q : Nat) (rest : List Byte) : byteAt (mkCell typ (beBytes 1 x ++ (beBytes 2 q ++ rest))) 0 = typ % 256
    ∧ cellField (mkCell typ (beBytes 1 x ++ (beBytes 2 q ++ rest))) 2 2 = q % 65536 := by
  refine ⟨rfl, ?_⟩
  change (0 * 256 + (BitVec.ofNat 8 (q / 256)).toNat) * 256 + (BitVec.ofNat 8 q).toNat = q % 65536
  rw [BitVec.toNat_ofNat, BitVec.toNat_ofNat]
  omega

section
variable (s : State)

theorem State.hbCell_shows : byteAt s.hbCell 0 = 1 ∧ cellField s.hbCell 2 2 = s.pair.hbSeq % 65536 := by
  unfold State.hbCell
  extract_lets bits engs
  simp only [List.append_assoc]
  exact mkCell_shows _ _ _ _

theorem State.emit_out {o : Out} (h : s.padHeld (outGroup o) = false) : (s.emit o).out = o :: s.out :=
  congrArg State.out (if_neg (by simp [h]))

theorem State.padHeld_emit (o : Out) (g : Nat) : (s.emit o).padHeld g = s.padHeld g :=
  congrArg (Nat.testBit · g) (s.rd_emit o _ 0)

theorem State.sendAll_out (cell : List Byte) (h : s.padHeld 2 = false) :
    (s.sendAll cell).out = (s.lanesUp.reverse.map fun k => Out.cell k cell) ++ s.out := by
  have hfold : ∀ (l : List Nat) (t : State), t.padHeld 2 = false →
      (l.foldl (fun t k => t.emit (.cell k cell)) t).out = (l.reverse.map fun k => Out.cell k cell) ++ t.out := by
    intro l
    induction l with
    | nil => exact fun _ _ => rfl
    | cons k l ih =>
      intro t ht
      rw [List.foldl_cons, ih _ ((t.padHeld_emit _ 2).trans ht), t.emit_out (o := .cell k cell) ht]
      simp
  exact hfold _ _ h

theorem State.sendCellOf_suffix (k : Nat) (cell : List Byte) (gens : List (Nat × Nat)) : s.out <:+ (s.sendCellOf k cell gens).out := by
  unfold State.sendCellOf
  extract_lets l
  split
  · exact List.suffix_rfl
  · exact State.emit_suffix _ _

/-- An image only adds to what has left, and leaves of the pair's part all but the sending of the mirror. -/
theorem State.sendImageOn_suffix (k : Nat) : s.out <:+ (s.sendImageOn k).out :=
  List.foldlRecOn (motive := fun t : State => s.out <:+ t.out) _ _ List.suffix_rfl
    fun t ht _ _ => ht.trans (t.sendCellOf_suffix _ _ _)

theorem State.sendImageOn_pair (k : Nat) : (s.sendImageOn k).pair = { s.pair with
    bulkTx := true, bulkBase := s.pair.mirSeq, bulkTick := 0, bulkSends := k + 1, mirOut := [] } :=
  List.foldlRecOn (motive := fun t : State => t.pair = { s.pair with
      bulkTx := true, bulkBase := s.pair.mirSeq, bulkTick := 0, bulkSends := k + 1, mirOut := [] }) _ _ rfl
    fun t ht _ _ => ((t.sendCellOf_spec _ _ _).keep .pair rfl).trans ht

/-- What HB_TICK does before the cell goes out. -/
def State.hbReady : State := (s.modPair (fun p => { p with
  gap := (if p.mirHeld.isEmpty || !p.loaded then 0 else min 8 (p.gap + 1)),
  bulkTick := (if p.bulkTx then p.bulkTick + 1 else 0) })).readyRefresh

theorem State.lanesUp_hbReady : s.hbReady.lanesUp = s.lanesUp := by
  have h : ∀ f, .PAIR_STATUS_ready ≠ f → s.hbReady.rd f 0 = s.rd f 0 := fun f hf => State.rd_readyRefresh_ne _ _ hf
  rw [State.lanesUp, h _ (by decide), h _ (by decide)]
  rfl

theorem State.padHeld_hbReady (g : Nat) : s.hbReady.padHeld g = s.padHeld g :=
  congrArg (Nat.testBit · g) (State.rd_readyRefresh_ne _ _ (by decide))

end

theorem exec_hbTick {s : State} (hlink : s.linkState ≠ 0) (hawake : s.awake = true) (hpad : s.padHeld 2 = false) :
    Ends .hbTick s fun t => t.pair.hbSeq = (s.pair.hbSeq + 1) % 65536
      ∧ (s.lanesUp.reverse.map fun k => Out.cell k s.hbReady.hbCell) ++ s.out <:+ t.out := by
  refine ⟨_, congrArg ok (if_neg (by simp [hlink, hawake])), ?_⟩
  have hsent : (s.hbReady.sendAll s.hbReady.hbCell).out = (s.lanesUp.reverse.map fun k => Out.cell k s.hbReady.hbCell) ++ s.out := by
    rw [State.sendAll_out _ _ ((s.padHeld_hbReady 2).trans hpad), s.lanesUp_hbReady]
    rfl
  have hpair : (s.hbReady.sendAll s.hbReady.hbCell).pair.hbSeq = s.pair.hbSeq := by
    rw [(State.sendAll_spec _ _).keep .pair rfl]
    rfl
  extract_lets t u v
  have hv : v.pair.hbSeq = (s.pair.hbSeq + 1) % 65536 ∧ v.out = (s.lanesUp.reverse.map fun k => Out.cell k s.hbReady.hbCell) ++ s.out :=
    ⟨congrArg (fun q => (q + 1) % 65536) hpair, hsent⟩
  obtain ⟨hseq, hout⟩ := hv
  split
  · exact ⟨(congrArg PairSt.hbSeq (v.sendImageOn_pair _)).trans hseq, hout ▸ v.sendImageOn_suffix _⟩
  · exact ⟨hseq, hout ▸ List.suffix_rfl⟩

/-- What an observer reads of a cell that left: its lane, its type and the word of R271 that counts the heartbeats. -/
theorem exec_hbTick_shows {s : State} (hlink : s.linkState ≠ 0) (hawake : s.awake = true) (hpad : s.padHeld 2 = false) :
    Ends .hbTick s fun t =>
        t.pair.hbSeq = (s.pair.hbSeq + 1) % 65536 ∧ s.out.length + s.lanesUp.length ≤ t.out.length
        ∧ t.out.drop (t.out.length - s.out.length) = s.out
        ∧ ((t.out.drop (t.out.length - s.out.length - s.lanesUp.length)).take s.lanesUp.length).map (fun o => match o with
            | .cell k b => (k, byteAt b 0, cellField b 2 2) | _ => (9, 0, 0))
          = s.lanesUp.reverse.map fun k => (k, 1, s.pair.hbSeq % 65536) := by
  obtain ⟨t, ht, hseq, hout⟩ := exec_hbTick hlink hawake hpad
  obtain ⟨hlen, hdrop, hcells⟩ := suffix_parts hout
  obtain ⟨htyp, hword⟩ := s.hbReady.hbCell_shows
  have hn : (s.lanesUp.reverse.map fun k => Out.cell k s.hbReady.hbCell).length = s.lanesUp.length := by simp
  rw [hn] at hlen hcells
  refine ⟨t, ht, hseq, hlen, hdrop, ?_⟩
  rw [hcells, List.map_map]
  refine List.map_congr_left fun k _ => ?_
  show (k, byteAt s.hbReady.hbCell 0, cellField s.hbReady.hbCell 2 2) = _
  rw [htyp, hword]
  rfl

/-! ### What the steps of a heartbeat leave -/

/-- Of the link's registers all but some fields, and the peer as the last heartbeat shows it, stand. -/
structure State.ShowsKept (but : List Fld) (s t : State) : Prop where
  regs : LinkKept but s t
  peer : t.pair.peer = s.pair.peer

namespace State.ShowsKept
variable {but : List Fld} {s t u : State}

theorem refl : State.ShowsKept but s s := ⟨.refl, rfl⟩

theorem trans (h : State.ShowsKept but s t) (g : State.ShowsKept but t u) : State.ShowsKept but s u :=
  ⟨h.regs.trans g.regs, g.peer.trans h.peer⟩

theorem mono {less : List Fld} (h : State.ShowsKept less s t) (hl : less ⊆ but) : State.ShowsKept but s t :=
  ⟨h.regs.mono hl, h.peer⟩

theorem ite {c : Prop} [Decidable c] (h : State.ShowsKept but s t) (g : State.ShowsKept but s u) :
    State.ShowsKept but s (if c then t else u) := by
  split <;> assumption

end State.ShowsKept

/-- Readiness and the fault of a member that stands down. -/
def standFlds : List Fld := [.PAIR_STATUS_ready, .PAIR_STATUS_faulted]

section
variable (s : State)

theorem State.bridgeRefresh_showsKept : State.ShowsKept bridgeFlds s s.bridgeRefresh := by
  obtain ⟨q, o, e⟩ := s.bridgeRefresh_bridged.part
  exact ⟨s.bridgeRefresh_bridged.regs, by rw [e]⟩

theorem State.sendImage_showsKept : State.ShowsKept [] s s.sendImage :=
  ⟨.spec (State.sendImage_spec _) (by decide) .refl, (congrArg PairSt.peer (s.sendImageOn_pair 0) :)⟩

theorem State.actRefresh_showsKept : State.ShowsKept [] s s.actRefresh :=
  ⟨.spec (State.actRefresh_spec _) (by decide) .refl, (congrArg PairSt.peer ((State.actRefresh_spec s).keep .pair rfl) :)⟩

theorem State.yielding_showsKept : State.ShowsKept standFlds s s.yielding := by
  have h : LinkKept standFlds s s.modeAbort := .spec (State.modeAbort_spec _) (by decide) .refl
  exact ⟨.wr _ _ (by decide) (h.trans fun _ _ _ _ => rfl), (congrArg PairSt.peer ((State.modeAbort_spec s).keep .pair rfl) :)⟩

theorem State.yielded_showsKept (cause : Nat) : State.ShowsKept standFlds s (s.yielded cause) := by
  have h : State.ShowsKept standFlds s (s.yielding.setMode 5 2) :=
    s.yielding_showsKept.trans ⟨.spec (State.setMode_spec _ _ _) (by decide) .refl, by rw [State.setMode_pair]⟩
  unfold State.yielded
  extract_lets t
  have ht : State.ShowsKept standFlds s t := ⟨.spec (State.modPair_spec _ _) (by decide) h.regs, h.peer⟩
  exact .ite ht ⟨.spec (State.modPair_spec _ _) (by decide) (.wr _ _ (by decide) ht.regs), ht.peer⟩

theorem State.standDown_showsKept (cause : Nat) : State.ShowsKept standFlds s (s.standDown cause) := by
  obtain ⟨hregs, hpeer⟩ := s.yielded_showsKept cause
  exact ⟨.wr _ _ (by decide) (.spec (s.standDown_after cause) (by decide) hregs), by rw [State.standDown_pair, hpeer]⟩

theorem State.mirAcked_showsKept (ack : Nat) (q : Option Nat) : State.ShowsKept [] s (s.mirAcked ack q) := by
  refine ⟨.spec (State.mirAcked_spec _ _ _) (by decide) .refl, ?_⟩
  unfold State.mirAcked
  extract_lets hit past left t
  split
  · exact (State.sendImage_showsKept t).peer
  · rfl

theorem State.mirror_peer (eng target : Nat) (rec0 : List Byte) : (s.mirror eng target rec0).pair.peer = s.pair.peer := by
  unfold State.mirror
  split
  · rfl
  · exact List.foldlRecOn (motive := fun t : State => t.pair.peer = s.pair.peer) _ _ rfl
      fun t ht _ _ => (congrArg PairSt.peer ((State.sendCellOf_spec _ 0 _ _).keep .pair rfl)).trans ht

theorem State.tryIssue_showsKept (n : Nat) : State.ShowsKept [] s (s.tryIssue n) := by
  refine ⟨.spec (State.tryIssue_spec _ _) (by decide) .refl, ?_⟩
  unfold State.tryIssue
  extract_lets k
  split
  · rfl
  · split
    · extract_lets t
      have ht : t.pair = s.pair := ((State.setSw_spec _ _ _).keep .pair rfl).trans ((State.mkIssue_spec _ _ _ _).keep .pair rfl)
      rw [State.mirror_peer, ht]
    · rfl

theorem State.setMember_peer (v : Nat) : (s.setMember v).pair.peer = s.pair.peer :=
  List.foldlRecOn (motive := fun t : State => t.pair.peer = s.pair.peer) _ _ rfl
    fun t ht _ _ => (congrArg PairSt.peer (t.wr_pair _ _ _)).trans ht

theorem State.pairProve_showsKept (id : PeerId) : State.ShowsKept [] s (s.pairProve id) := by
  refine ⟨.spec (State.pairProve_spec _ _) (by decide) .refl, ?_⟩
  unfold State.pairProve
  extract_lets own good t u
  have hu : u.pair.peer = s.pair.peer := State.setMember_peer t _
  split
  · exact hu
  · rw [State.raiseReg_pair, hu]

end

/-! ### The comparison (R275) -/

section
variable (s : State) (id : PeerId)

/-- The lower of the two levels that the members run. -/
def State.levelMet : Nat := min (s.rd .PAIR_LEVEL_fl_run) s.pair.peer.flRun

/-- Why the peer is refused, 0 where it is not. -/
def State.refuseCause : Nat :=
  if s.pair.peer.variant != s.partCode then 1
  else if s.levelMet < s.rd .PAIR_LEVEL_fl_floor || s.levelMet < s.pair.peer.flFloor then 2 else 0

/-- The link goes UP: the proof of the identities and the bridge follow. -/
def State.pairMet : State :=
  (((s.wr .PAIR_STATUS_refuse_cause 0 s.refuseCause).wrs
    [(.PAIR_STATUS_link_state, 0, 2), (.PAIR_LEVEL_fl_agreed, 0, s.levelMet)]).pairProve id).bridgeRefresh

theorem State.pairCompare_refuses (h : s.refuseCause ≠ 0) : s.pairCompare id
    = ((s.wr .PAIR_STATUS_refuse_cause 0 s.refuseCause).wr .PAIR_STATUS_link_state 0 3).raiseReg .PAIR_EV_refused :=
  if_pos (bne_iff_ne.mpr h)

theorem State.pairCompare_meets (h : s.refuseCause = 0) : s.pairCompare id
    = if (s.pairMet id).mirroring then (s.pairMet id).sendImage else s.pairMet id :=
  if_neg fun hc => bne_iff_ne.mp hc h

/-- The fields in which a comparison shows its outcome. -/
def compareFlds : List Fld :=
  [.PAIR_STATUS_refuse_cause, .PAIR_STATUS_link_state, .PAIR_LEVEL_fl_agreed, .PAIR_EV_refused] ++ bridgeFlds

theorem State.pairMet_showsKept : State.ShowsKept compareFlds s (s.pairMet id) := by
  refine State.ShowsKept.trans ?_ ((State.bridgeRefresh_showsKept _).mono (List.subset_append_right _ _))
  refine State.ShowsKept.trans ?_ ((State.pairProve_showsKept _ id).mono (List.nil_subset _))
  exact ⟨.wr _ _ (by decide) (.wr _ _ (by decide) (.wr _ _ (by decide) .refl)), rfl⟩

theorem State.pairCompare_showsKept : State.ShowsKept compareFlds s (s.pairCompare id) := by
  by_cases h : s.refuseCause = 0
  · rw [s.pairCompare_meets id h]
    exact .ite ((s.pairMet_showsKept id).trans ((State.sendImage_showsKept _).mono (List.nil_subset _))) (s.pairMet_showsKept id)
  · rw [s.pairCompare_refuses id h]
    exact ⟨.raiseReg _ _ (by decide) (.wr _ _ (by decide) (.wr _ _ (by decide) .refl)),
      by rw [State.raiseReg_pair, State.wr_pair, State.wr_pair]⟩

/-- Members that meet bring the link UP at the level they agree on. -/
theorem State.pairCompare_up (h : s.refuseCause = 0) (hrun : s.pair.peer.flRun < 2 ^ 8) :
    (s.pairCompare id).linkState = 2 ∧ (s.pairCompare id).rd .PAIR_LEVEL_fl_agreed = s.levelMet := by
  have hafter : ∀ t : State, LinkKept bridgeFlds t (t.pairProve id).bridgeRefresh := fun t =>
    ((t.pairProve_showsKept id).regs.mono (List.nil_subset _)).trans (State.bridgeRefresh_showsKept _).regs
  have hmet : (s.pairMet id).rd .PAIR_STATUS_link_state = 2 ∧ (s.pairMet id).rd .PAIR_LEVEL_fl_agreed = s.levelMet := by
    have hlt : s.levelMet < 2 ^ 8 := (min_le_right _ _).trans_lt hrun
    unfold State.pairMet
    rw [hafter _ .PAIR_STATUS_link_state 0 (by decide) (by decide), hafter _ .PAIR_LEVEL_fl_agreed 0 (by decide) (by decide),
      State.wrs_cons, State.wrs_cons, State.wrs_nil, State.rd_wr_self, State.rd_wr_ne _ _ _ _ (by decide), State.rd_wr_self]
    exact ⟨rfl, Nat.mod_eq_of_lt hlt⟩
  have hlast : LinkKept [] (s.pairMet id) (if (s.pairMet id).mirroring then (s.pairMet id).sendImage else s.pairMet id) :=
    .ite (State.sendImage_showsKept _).regs .refl
  rw [s.pairCompare_meets id h]
  exact ⟨(hlast .PAIR_STATUS_link_state 0 (by decide) (by decide)).trans hmet.1, (hlast _ _ (by decide) (by decide)).trans hmet.2⟩

/-- Members that do not meet refuse each other. -/
theorem State.pairCompare_refused {cause : Nat} (h : s.refuseCause = cause) (hne : cause ≠ 0) (hlt : cause < 4) :
    (s.pairCompare id).linkState = 3 ∧ (s.pairCompare id).rd .PAIR_STATUS_refuse_cause = cause
      ∧ (s.pairCompare id).rd .PAIR_EV_refused = 1 := by
  subst h
  rw [s.pairCompare_refuses id hne]
  refine ⟨?_, ?_, State.rd_raiseReg_self _ _ _ _ rfl rfl⟩
  · exact (State.rd_raiseReg_ne _ _ _ _ rfl (by decide)).trans (State.rd_wr_self _ _ _ _)
  · rw [State.rd_raiseReg_ne _ _ _ _ rfl (by decide), State.rd_wr_ne _ _ _ _ (by decide), State.rd_wr_self]
    exact Nat.mod_eq_of_lt hlt

end

/-! ### A heartbeat arrives (R271, R272, R274) -/

/-- A heartbeat is not one that has come before. -/
def hbFresh (was now : Peer) : Bool := !was.seen || now.seq != was.seq

/-- The heartbeats in a row, with one more. -/
def hbRuns (was now : Peer) (k : Nat) : Nat :=
  if !hbFresh was now then k else if was.seen && now.seq == (was.seq + 1) % 65536 then min 4 (k + 1) else 1

section
variable (s : State)

/-- The peer as the cell shows it. -/
def State.hbSeen (c : List Byte) : State :=
  let now := peerOf c
  let t := s.modPair (fun p => { p with
    peer := now, dying := p.dying && !hbFresh s.pair.peer now, hbRun := hbRuns s.pair.peer now p.hbRun })
  let t := t.wr .PAIR_LEVEL_peer_fl_run 0 now.flRun
  if t.modeNow == 5 then t.wr .PAIR_STATUS_lockout 0 (b2n (now.health.testBit 2)) else t

/-- The link forms: training ends in a comparison, and a refused peer that has changed is compared again. -/
def State.hbForm (id : PeerId) (was now : Peer) : State :=
  if s.pair.hbLost && decide (4 ≤ s.pair.hbRun) then
    let t := s.modPair (fun p => { p with hbLost := false })
    if t.linkState == 1 then t.pairCompare id else t
  else if s.linkState == 3 && was.seen
      && (now.variant != was.variant || now.flRun != was.flRun || now.flFloor != was.flFloor) then s.pairCompare id
  else s

/-- A peer that has come into SHADOW is sent the image. -/
def State.hbImage (was : Peer) : State := if s.mirroring && was.mode != 5 && was.seen then s.sendImage else s

/-- Of two members that are ACTIVE the one that has sent DYING stands down; alone it takes PAIR_ACT again. -/
def State.hbRoles (now : Peer) : State :=
  if s.mustStandDown then s.standDown 4
  else if s.pair.dyingTx && !s.sec.restart && s.linkUp && now.role != 1 then
    (s.modPair (fun p => { p with dyingTx := false })).actRefresh
  else s

/-- What the peer acknowledges is freed, and markers that waited for it set out. -/
def State.hbAcked (now : Peer) : State :=
  if s.role == 1 && s.linkUp then
    let t := s.modPair (fun p => { p with
      bulkTx := p.bulkTx && serLater ((p.bulkBase + 2 ^ 32 - 1) % 2 ^ 32) now.mirAck })
    let t := t.mirAcked now.mirAck none
    (upTo t.engines).foldl (fun u n => u.tryIssue n) t
  else s

/-- What follows the forming of the link. -/
def State.hbFollow (was now : Peer) : State := (((s.hbImage was).hbRoles now).hbAcked now).readyRefresh

theorem State.hbTake_eq (c : List Byte) (id : PeerId) :
    s.hbTake c id = ((s.hbSeen c).hbForm id s.pair.peer (peerOf c)).hbFollow s.pair.peer (peerOf c) := rfl

theorem State.hbImage_showsKept (was : Peer) : State.ShowsKept standFlds s (s.hbImage was) :=
  .ite (s.sendImage_showsKept.mono (List.nil_subset _)) .refl

theorem State.hbRoles_showsKept (now : Peer) : State.ShowsKept standFlds s (s.hbRoles now) := by
  refine .ite (s.standDown_showsKept 4) (.ite (State.ShowsKept.mono (less := []) ?_ (List.nil_subset _)) .refl)
  exact State.ShowsKept.trans ⟨.spec (State.modPair_spec _ _) (by decide) .refl, rfl⟩ (State.actRefresh_showsKept _)

theorem State.hbAcked_showsKept (now : Peer) : State.ShowsKept standFlds s (s.hbAcked now) := by
  unfold State.hbAcked
  extract_lets t u
  have ht : State.ShowsKept [] s t := ⟨.spec (State.modPair_spec _ _) (by decide) .refl, rfl⟩
  have hu : State.ShowsKept [] s u := ht.trans (t.mirAcked_showsKept _ _)
  refine .ite (State.ShowsKept.mono (less := []) ?_ (List.nil_subset _)) .refl
  exact List.foldlRecOn (motive := State.ShowsKept [] s) _ _ hu fun v hv n _ => hv.trans (v.tryIssue_showsKept n)

theorem State.hbFollow_showsKept (was now : Peer) : State.ShowsKept standFlds s (s.hbFollow was now) := by
  have h := (s.hbImage_showsKept was).trans
    ((State.hbRoles_showsKept _ now).trans (State.hbAcked_showsKept _ now))
  exact h.trans ⟨.wr _ _ (by decide) .refl, rfl⟩

theorem State.hbForm_showsKept (id : PeerId) (was now : Peer) : State.ShowsKept compareFlds s (s.hbForm id was now) := by
  unfold State.hbForm
  extract_lets t
  have ht : State.ShowsKept compareFlds s t := ⟨.spec (State.modPair_spec _ _) (by decide) .refl, rfl⟩
  exact .ite (.ite (ht.trans (t.pairCompare_showsKept id)) ht) (.ite (s.pairCompare_showsKept id) .refl)

/-- Four heartbeats in a row end training in a comparison. -/
theorem State.hbForm_compares {s : State} (id : PeerId) (was now : Peer) (hlink : s.linkState = 1) (hlost : s.pair.hbLost = true)
    (hrun : 4 ≤ s.pair.hbRun) : s.hbForm id was now = (s.modPair (fun p => { p with hbLost := false })).pairCompare id := by
  unfold State.hbForm
  rw [if_pos (by simp [hlost, hrun])]
  extract_lets t
  refine if_pos ?_
  have ht : t.linkState = 1 := hlink
  simp [ht]

section
variable (c : List Byte)

theorem State.hbSeen_linkKept : LinkKept [.PAIR_LEVEL_peer_fl_run, .PAIR_STATUS_lockout] s (s.hbSeen c) := by
  unfold State.hbSeen
  extract_lets now t u
  have hu : LinkKept [.PAIR_LEVEL_peer_fl_run, .PAIR_STATUS_lockout] s u :=
    .wr _ _ (by decide) (.spec (State.modPair_spec _ _) (by decide) .refl)
  exact .ite (.wr _ _ (by decide) hu) hu

theorem State.hbSeen_fuse : (s.hbSeen c).fuse = s.fuse := by
  unfold State.hbSeen
  extract_lets now t u
  split <;> rfl

theorem State.hbSeen_pair : (s.hbSeen c).pair.peer = peerOf c ∧ (s.hbSeen c).pair.hbLost = s.pair.hbLost
    ∧ (s.hbSeen c).pair.hbRun = hbRuns s.pair.peer (peerOf c) s.pair.hbRun := by
  unfold State.hbSeen
  extract_lets now t u
  split <;> exact ⟨rfl, rfl, rfl⟩

theorem byteAt_lt (i : Nat) : byteAt c i < 2 ^ 8 := BitVec.isLt _

theorem State.hbSeen_level : (s.hbSeen c).rd .PAIR_LEVEL_peer_fl_run = byteAt c 5 := by
  unfold State.hbSeen
  extract_lets now t u
  have hu : u.rd .PAIR_LEVEL_peer_fl_run = byteAt c 5 := (State.rd_wr_self _ _ _ _).trans (Nat.mod_eq_of_lt (byteAt_lt c 5))
  split
  · exact (State.rd_wr_ne _ _ _ _ (by decide)).trans hu
  · exact hu

/-- A valid heartbeat shows the peer, whatever else follows it. -/
theorem State.hbTake_shows (id : PeerId) :
    (s.hbTake c id).pair.peer = peerOf c ∧ (s.hbTake c id).rd .PAIR_LEVEL_peer_fl_run = byteAt c 5 := by
  obtain ⟨hpeer, -, -⟩ := s.hbSeen_pair c
  have hform := (s.hbSeen c).hbForm_showsKept id s.pair.peer (peerOf c)
  have hfollow := ((s.hbSeen c).hbForm id s.pair.peer (peerOf c)).hbFollow_showsKept s.pair.peer (peerOf c)
  rw [s.hbTake_eq, hfollow.peer, hform.peer, hfollow.regs _ _ (by decide) (by decide), hform.regs _ _ (by decide) (by decide)]
  exact ⟨hpeer, s.hbSeen_level c⟩

end

/-- What a comparison meets when the fourth heartbeat in a row ends training. -/
def State.hbMet (c : List Byte) : State := (s.hbSeen c).modPair (fun p => { p with hbLost := false })

end

section
variable {s : State} {c : List Byte}

theorem State.hbMet_levelMet : (s.hbMet c).levelMet = min (s.rd .PAIR_LEVEL_fl_run) (byteAt c 5) := by
  obtain ⟨hpeer, -, -⟩ := s.hbSeen_pair c
  show min ((s.hbSeen c).rd .PAIR_LEVEL_fl_run) (s.hbSeen c).pair.peer.flRun = _
  rw [hpeer, s.hbSeen_linkKept c _ _ (by decide) (by decide)]
  rfl

theorem State.hbMet_refuseCause : (s.hbMet c).refuseCause
    = if byteAt c 4 != s.partCode then 1
      else if (s.hbMet c).levelMet < s.rd .PAIR_LEVEL_fl_floor || (s.hbMet c).levelMet < byteAt c 6 then 2 else 0 := by
  obtain ⟨hpeer, -, -⟩ := s.hbSeen_pair c
  have hfloor : (s.hbMet c).rd .PAIR_LEVEL_fl_floor = s.rd .PAIR_LEVEL_fl_floor :=
    s.hbSeen_linkKept c _ _ (by decide) (by decide)
  have hpart : (s.hbMet c).partCode = s.partCode := by
    have hfuse : (s.hbMet c).fuse = s.fuse := s.hbSeen_fuse c
    rw [State.partCode, hfuse]
    rfl
  have hpeer' : (s.hbMet c).pair.peer = peerOf c := hpeer
  rw [State.refuseCause, hpeer', hfloor, hpart]
  rfl

/-- The fourth heartbeat in a row. -/
structure State.Fourth (s : State) (c : List Byte) : Prop where
  link : s.linkState = 1
  lost : s.pair.hbLost = true
  run : s.pair.hbRun = 3
  seen : s.pair.peer.seen = true
  next : cellField c 2 2 = (s.pair.peer.seq + 1) % 65536
  fresh : cellField c 2 2 ≠ s.pair.peer.seq

variable (id : PeerId)

/-- What the comparison shows stands when the heartbeat has been taken. -/
theorem State.hbTake_compares (h : s.Fourth c) (f : Fld) (i : Nat) (hf : f.info.rg ∈ linkRegs) (hb : f ∉ standFlds) :
    (s.hbTake c id).rd f i = ((s.hbMet c).pairCompare id).rd f i := by
  obtain ⟨hpeer, hlost, hrun⟩ := s.hbSeen_pair c
  have hseq : (peerOf c).seq = cellField c 2 2 := rfl
  have hfour : 4 ≤ (s.hbSeen c).pair.hbRun := by
    rw [hrun, hbRuns, if_neg (by simp [hbFresh, hseq, h.fresh]), if_pos (by simp [h.seen, hseq, h.next]), h.run]
    decide
  have hlink : (s.hbSeen c).linkState = 1 := (s.hbSeen_linkKept c .PAIR_STATUS_link_state 0 (by decide) (by decide)).trans h.link
  have hform : (s.hbSeen c).hbForm id s.pair.peer (peerOf c) = (s.hbMet c).pairCompare id :=
    State.hbForm_compares id s.pair.peer (peerOf c) hlink (hlost.trans h.lost) hfour
  rw [s.hbTake_eq, hform]
  exact (((s.hbMet c).pairCompare id).hbFollow_showsKept s.pair.peer (peerOf c)).regs f i hf hb

theorem exec_hbRx {s : State} {c : List Byte} (hlink : s.linkState ≠ 0) (hok : cellOk 1 c = true) :
    exec (.hbRx c id) s = .next (s.hbTake c id) := congrArg ok (if_pos (by simp [hlink, hok]))

/-- The fourth heartbeat of a peer that meets this member brings the link UP. -/
theorem State.hbTake_up (h : s.Fourth c) (hpart : byteAt c 4 = s.partCode)
    (hfloor : s.rd .PAIR_LEVEL_fl_floor ≤ min (s.rd .PAIR_LEVEL_fl_run) (byteAt c 5))
    (hpeer : byteAt c 6 ≤ min (s.rd .PAIR_LEVEL_fl_run) (byteAt c 5)) :
    (s.hbTake c id).linkState = 2 ∧ (s.hbTake c id).rd .PAIR_LEVEL_fl_agreed = min (s.rd .PAIR_LEVEL_fl_run) (byteAt c 5) := by
  have hcause : (s.hbMet c).refuseCause = 0 := by
    rw [State.hbMet_refuseCause, State.hbMet_levelMet, if_neg (by simp [hpart]), if_neg (by simp; omega)]
  have hrun : (s.hbMet c).pair.peer.flRun < 2 ^ 8 := by
    have : (s.hbMet c).pair.peer = peerOf c := (s.hbSeen_pair c).1
    rw [this]
    exact byteAt_lt c 5
  obtain ⟨hup, hagreed⟩ := (s.hbMet c).pairCompare_up id hcause hrun
  rw [State.linkState, State.hbTake_compares id h _ _ (by decide) (by decide), State.hbTake_compares id h _ _ (by decide) (by decide)]
  exact ⟨hup, hagreed.trans State.hbMet_levelMet⟩

/-- The fourth heartbeat of a peer that does not meet this member ends in REFUSED with its cause. -/
theorem State.hbTake_refused (h : s.Fourth c) {cause : Nat} (hcause : (s.hbMet c).refuseCause = cause) (hne : cause ≠ 0)
    (hlt : cause < 4) : (s.hbTake c id).linkState = 3 ∧ (s.hbTake c id).rd .PAIR_STATUS_refuse_cause = cause
      ∧ (s.hbTake c id).rd .PAIR_EV_refused = 1 := by
  rw [State.linkState, State.hbTake_compares id h _ _ (by decide) (by decide), State.hbTake_compares id h _ _ (by decide) (by decide),
    State.hbTake_compares id h _ _ (by decide) (by decide)]
  exact (s.hbMet c).pairCompare_refused id hcause hne hlt

end

/-- Settles O15: each step of the link by what it writes; a heartbeat by its stages, of which those after the comparison
leave what it shows. -/
theorem pairLinkState : Obligations.PairLinkState := by
  refine ⟨?aliveLost, ?shadowAliveLost, ?aliveGained, ?laneDown, ?laneUp, ?enable, ?disable, ?tick, ?seen, ?otherPart, ?levels,
    ?lost, ?badCell⟩
  case aliveLost =>
    intro s hrole
    obtain ⟨t, ht, halive, hkept⟩ := exec_peerAliveLost s
    exact ⟨t, ht, halive, hkept hrole⟩
  case shadowAliveLost =>
    intro s hrole halive hdying
    obtain ⟨t, ht, hfalls, -⟩ := exec_peerAliveLost s
    obtain ⟨u, hu, hjudged⟩ := exec_peerAliveLost_shadow hrole halive hdying
    obtain rfl : t = u := Host.Outcome.next.inj (ht.symm.trans hu)
    exact ⟨t, ht, hfalls, hjudged⟩
  case aliveGained => exact fun s => ⟨_, rfl, State.rd_wr_self _ _ _ _⟩
  case laneDown => exact fun k s => exec_pairLaneDown s k
  case laneUp => exact fun k s hlink hen => exec_pairLaneUp hlink hen
  case enable => exact fun s htakes hlink => exec_pairEnWrite_trains htakes hlink
  case disable => exact fun s htakes => exec_pairEnWrite_ends htakes
  case tick => exact fun s hlink hawake hpad => exec_hbTick_shows hlink hawake hpad
  case seen =>
    intro c id s hlink hok
    obtain ⟨hpeer, hlevel⟩ := s.hbTake_shows c id
    refine ⟨_, exec_hbRx id hlink hok, hpeer, hlevel, fun htrain hlost hrun hseen hnext hfresh hpart hfloor hpfloor => ?_⟩
    exact State.hbTake_up id ⟨htrain, hlost, hrun, hseen, hnext, hfresh⟩ hpart hfloor hpfloor
  case otherPart =>
    intro c id s htrain hok hlost hrun hseen hnext hfresh hpart
    refine ⟨_, exec_hbRx id (by omega) hok, ?_⟩
    refine State.hbTake_refused id ⟨htrain, hlost, hrun, hseen, hnext, hfresh⟩ ?_ (by decide) (by decide)
    rw [State.hbMet_refuseCause, if_pos (by simpa using hpart)]
  case levels =>
    intro c id s htrain hok hlost hrun hseen hnext hfresh hpart hlow
    refine ⟨_, exec_hbRx id (by omega) hok, ?_⟩
    refine State.hbTake_refused id ⟨htrain, hlost, hrun, hseen, hnext, hfresh⟩ ?_ (by decide) (by decide)
    rw [State.hbMet_refuseCause, State.hbMet_levelMet, if_neg (by simp [hpart]), if_pos (by simpa using hlow)]
  case lost => exact fun s hlink hlost => exec_hbLost_up hlink hlost
  case badCell => exact fun cell unc s h => exec_badCellRx_counts s h

end Sys2Proof.Machine
end

section
/-! What steps of timing leave: the events they raise stay, what has left the block is only added to, and steering the clocks
changes of the timing part the output of DPLL0 alone (09_timing.md R321 to R336). -/
namespace Sys2Proof.Machine

/-! ### Messages and event records -/

/-- What a message or an event record does outside its registers: it adds to what has left the block, and of the host's part
it changes the pending vectors alone. -/
structure State.Emits (s t : State) : Prop where
  out : s.out <:+ t.out
  host : ∃ p, t.host = { s.host with msixPend := p }

namespace State.Emits
variable {s t u : State}

theorem of_eq (ho : t.out = s.out) (hh : t.host = s.host) : s.Emits t := ⟨ho ▸ List.suffix_rfl, s.host.msixPend, hh⟩

theorem refl : s.Emits s := of_eq rfl rfl

theorem trans (h : s.Emits t) (g : t.Emits u) : s.Emits u := by
  obtain ⟨p, e⟩ := h.host
  obtain ⟨q, e'⟩ := g.host
  exact ⟨h.out.trans g.out, q, by rw [e', e]⟩

/-- One more operation that sends nothing. -/
theorem keep (h : s.Emits t) (ho : u.out = t.out) (hh : u.host = t.host) : s.Emits u := h.trans (of_eq ho hh)

theorem of_spec {F : Nat} (g : Spec F s t) (hout : F.testBit 277 = false) (hhost : F.testBit 267 = false) : s.Emits t :=
  of_eq (g.keep .out hout) (g.keep .host hhost)

theorem ref10Seq (h : s.Emits t) : t.host.ref10Seq = s.host.ref10Seq := by
  obtain ⟨p, e⟩ := h.host
  rw [e]

end State.Emits

section
variable (s : State)

theorem State.emit_emits (o : Out) : s.Emits (s.emit o) := ⟨s.emit_suffix o, s.host.msixPend, s.emit_host o⟩

theorem State.sendVector_emits (v : Nat) : s.Emits (s.sendVector v) := by
  unfold State.sendVector
  split
  · exact ⟨List.suffix_rfl, _, rfl⟩
  · split
    · exact s.emit_emits _
    · exact .refl

theorem State.setEv_emits (f : Fld) (i v : Nat) : s.Emits (s.setEv f i v) := by
  have h : s.Emits (s.wr f i v) := .of_eq rfl rfl
  unfold State.setEv
  dsimp only
  split
  · exact h.trans (State.sendVector_emits _ _)
  · exact h

theorem State.writeEntry_emits (r : Nat) (head tail : List Byte) (now : Bool) : s.Emits (s.writeEntry r head tail now) := by
  unfold State.writeEntry
  extract_lets +onlyGivenNames p t u
  have hu : s.Emits u := (s.emit_emits _).trans (.of_eq rfl rfl)
  split
  · refine State.Emits.trans ?_ (State.sendVector_emits _ _)
    exact hu.keep rfl rfl
  · exact hu

end

theorem State.raiseN_emits : ∀ n (s : State) e a, s.Emits (State.raiseN n s e a) := by
  intro n
  induction n with
  | zero => exact fun _ _ _ => .refl
  | succ n ih =>
    intro s e a
    unfold State.raiseN
    extract_lets +onlyGivenNames count sev seq s1 src s2
    have h2 : s.Emits s2 := by
      have h1 : s.Emits s1 := by cases e <;> exact s.setEv_emits _ _ _
      exact h1.trans (.of_eq rfl rfl)
    have hcount : ∀ (t : State) k, t.Emits (count t k) := by
      intro t k
      have hb : t.Emits (t.bump k 1) := .of_spec (t.bump_spec k 1) rfl rfl
      dsimp only [count]
      split
      · exact hb.trans (ih _ _ _)
      · exact hb
    clear_value count s2
    split
    · split
      · exact (h2.trans (State.setEv_emits _ _ _ _)).trans (hcount _ _)
      · exact h2
    · extract_lets +onlyGivenNames key
      split
      · refine State.Emits.trans ?_ (hcount _ _)
        exact h2.keep rfl rfl
      · split
        · refine State.Emits.trans (State.Emits.trans ?_ (State.setEv_emits _ _ _ _)) (hcount _ _)
          exact h2.keep rfl rfl
        · refine State.Emits.trans ?_ (State.writeEntry_emits _ _ _ _ _)
          exact h2.keep rfl rfl

theorem State.raiseReg_emits (s : State) (f : Fld) (i : Nat) (a : EvArg) : s.Emits (s.raiseReg f i a) :=
  State.raiseN_emits 4 s _ a

/-! ### Events of timing -/

/-- The bit of an event stays set while events are raised. -/
theorem State.rd_raiseReg_stays (s : State) {f g : Fld} (i j : Nat) (a : EvArg)
    (hrec : recMask.testBit g.info.rg.ctorIdx = false) (hw : f.info.w = 1) (h : s.rd g j = 1) : (s.raiseReg f i a).rd g j = 1 := by
  rw [State.rd_raiseReg _ _ _ _ _ _ hrec]
  split
  case isTrue e =>
    obtain ⟨rfl, rfl⟩ := e
    rw [h, hw]
    rfl
  case isFalse => exact h

/-- The registers of timing lie outside what an event record changes. -/
theorem recMask_timEv : recMask.testBit (Rg.TIM_EV).ctorIdx = false := by decide

/-- Raised events of timing stay, what has left is only added to, and tod_trace moves from TRACEABLE alone. -/
structure State.Goes (s t : State) : Prop where
  raised : ∀ f i, f.info.rg = .TIM_EV → s.rd f i = 1 → t.rd f i = 1
  trace : s.rd .TIM_DPLL0_STATUS_tod_trace ≠ 1 → t.rd .TIM_DPLL0_STATUS_tod_trace = s.rd .TIM_DPLL0_STATUS_tod_trace
  emits : s.Emits t

namespace State.Goes
variable {s t u : State}

theorem refl : s.Goes s := ⟨fun _ _ _ h => h, fun _ => rfl, .refl⟩

theorem trans (h : s.Goes t) (g : t.Goes u) : s.Goes u where
  raised f i hf hs := g.raised f i hf (h.raised f i hf hs)
  trace hs := by
    have ht := h.trace hs
    exact (g.trace (ht ▸ hs)).trans ht
  emits := h.emits.trans g.emits

/-- What bears on neither the events of timing nor the state of DPLL0, and sends nothing. -/
theorem of_spec {F : Nat} (g : Spec F s t) (hev : F.testBit (Rg.TIM_EV).ctorIdx = false)
    (hd0 : F.testBit (Rg.TIM_DPLL0_STATUS).ctorIdx = false) (hout : F.testBit 277 = false) (hhost : F.testBit 267 = false) :
    s.Goes t where
  raised f i hf hs := (g.rd f i (hf ▸ hev)).trans hs
  trace _ := g.rd _ _ hd0
  emits := .of_spec g hout hhost

theorem wr {f : Fld} (i v : Nat) (hev : f.info.rg ≠ .TIM_EV) (htr : f ≠ .TIM_DPLL0_STATUS_tod_trace) : s.Goes (s.wr f i v) where
  raised g _ hg hs := (State.rd_wr_ne _ _ _ _ fun e : f = g => hev (e ▸ hg)).trans hs
  trace _ := State.rd_wr_ne _ _ _ _ htr
  emits := .of_eq rfl rfl

theorem raiseReg {f : Fld} (i : Nat) (a : EvArg) (hf : f.info.rg = .TIM_EV) (hw : f.info.w = 1) : s.Goes (s.raiseReg f i a) where
  raised _ _ hg hs := State.rd_raiseReg_stays _ _ _ _ (hg ▸ recMask_timEv) hw hs
  trace _ := State.rd_raiseReg_ne _ _ _ _ rfl (by rintro rfl; cases hf)
  emits := State.raiseReg_emits _ _ _ _

end State.Goes

/-! ### Steering the clocks -/

/-- What steering the clocks may change of the timing part: the model, the output of DPLL0 and the hold timer. -/
structure State.Steered (but : List Fld) (s t : State) : Prop where
  goes : s.Goes t
  rd : ∀ f i, recMask.testBit f.info.rg.ctorIdx = false → f.info.rg ≠ .TIM_EV → f ∉ but → t.rd f i = s.rd f i
  tim : ∃ m f e h b, t.tim = { s.tim with model := m, freq0 := f, entry := e, holdS := h, build := b }

namespace State.Steered
variable {but : List Fld} {s t u : State}

theorem refl : s.Steered but s := ⟨.refl, fun _ _ _ _ _ => rfl, _, _, _, _, _, rfl⟩

theorem trans (h : s.Steered but t) (g : t.Steered but u) : s.Steered but u := by
  obtain ⟨_, _, _, _, _, e⟩ := h.tim
  obtain ⟨m, f, en, ho, b, e'⟩ := g.tim
  exact ⟨h.goes.trans g.goes, fun k i hrec hev hk => (g.rd k i hrec hev hk).trans (h.rd k i hrec hev hk),
    m, f, en, ho, b, by rw [e', e]⟩

theorem tim_step {m : Model} {f : Int} {e ho : Nat} {b : Bool} (h : s.Steered but t) : s.Steered but
    { t with tim := { t.tim with model := m, freq0 := f, entry := e, holdS := ho, build := b } } :=
  h.trans ⟨⟨fun _ _ _ h => h, fun _ => rfl, .of_eq rfl rfl⟩, fun _ _ _ _ _ => rfl, _, _, _, _, _, rfl⟩

theorem mono {less : List Fld} (h : s.Steered less t) (hl : less ⊆ but) : s.Steered but t :=
  ⟨h.goes, fun f i hrec hev hf => h.rd f i hrec hev fun hm => hf (hl hm), h.tim⟩

theorem ite {c : Prop} [Decidable c] (h : s.Steered but t) (g : s.Steered but u) : s.Steered but (if c then t else u) := by
  split <;> assumption

theorem fold {α : Type} {k : State → α → State} (l : List α) (hk : ∀ (t : State) x, t.Steered but (k t x)) :
    s.Steered but (l.foldl k s) :=
  List.foldlRecOn (motive := fun t : State => s.Steered but t) _ _ .refl fun _ ht x _ => ht.trans (hk _ x)

/-- One more operation, which changes other parts. -/
theorem part {F : Nat} (g : Spec (F <<< 256) t u) (htim : (F <<< 256).testBit 270 = false)
    (hout : (F <<< 256).testBit 277 = false) (hhost : (F <<< 256).testBit 267 = false) (h : s.Steered but t) : s.Steered but u :=
  h.trans ⟨⟨fun f i _ hs => (g.rd_part f i).trans hs, fun _ => g.rd_part _ _, .of_spec g hout hhost⟩, fun f i _ _ _ => g.rd_part f i,
    _, _, _, _, _, g.keep .tim htim⟩

theorem wr {f : Fld} (i v : Nat) (hf : f ∈ but) (hev : f.info.rg ≠ .TIM_EV) (htr : f ≠ .TIM_DPLL0_STATUS_tod_trace)
    (h : s.Steered but t) : s.Steered but (t.wr f i v) :=
  h.trans ⟨.wr i v hev htr, fun _ _ _ _ hg => State.rd_wr_ne _ _ _ _ fun e => hg (e ▸ hf), _, _, _, _, _, rfl⟩

theorem raiseReg {f : Fld} (i : Nat) (a : EvArg) (hf : f.info.rg = .TIM_EV) (hw : f.info.w = 1) (h : s.Steered but t) :
    s.Steered but (t.raiseReg f i a) :=
  h.trans ⟨.raiseReg i a hf hw, fun _ _ hrec hev _ => State.rd_raiseReg_ne _ _ _ _ hrec fun e => hev (e ▸ hf), _, _, _, _, _,
    t.raiseReg_tim f i a⟩

theorem refOf (h : s.Steered but t) (i : Nat) : t.refOf i = s.refOf i := by
  obtain ⟨_, _, _, _, _, e⟩ := h.tim
  unfold State.refOf
  rw [e]

end State.Steered

/-- The fields by which the state of DPLL0 shows. -/
def d0Flds : List Fld := [.TIM_DPLL0_STATUS_d0_state, .TIM_DPLL0_STATUS_model_ready, .TIM_DPLL0_STATUS_tod_trace]

/-- The fields that selection brings up to date. -/
def selFlds : List Fld := d0Flds ++ [.TIM_REF_STATUS_qual_eff, .TIM_DPLL0_STATUS_freq_src, .TIM_DPLL0_STATUS_time_src,
  .TIM_DPLL_STATUS_dk_state]

section
variable (s : State)

theorem State.clkRefresh_steered : s.Steered [] s.clkRefresh := .part (F := 2) s.clkRefresh_spec rfl rfl rfl .refl

theorem State.clampRefresh_steered : s.Steered [] s.clampRefresh := by
  refine s.clkRefresh_steered.trans (.fold _ fun t n => ?_)
  extract_lets +onlyGivenNames f c was u
  have hu : t.Steered [] u := .part (F := 16) (t.modTx_spec _ _) rfl rfl rfl .refl
  exact .ite (.raiseReg _ _ rfl rfl hu) hu

theorem State.rd_setTrace (v : Nat) : (s.setTrace v).rd .TIM_DPLL0_STATUS_tod_trace = v % 2 ^ 2 := by
  unfold State.setTrace
  dsimp only
  split <;> exact State.rd_wr_self _ _ _ _

theorem State.rd_setTrace_ne (v : Nat) {f : Fld} (i : Nat) (h : .TIM_DPLL0_STATUS_tod_trace ≠ f) :
    (s.setTrace v).rd f i = s.rd f i := by
  unfold State.setTrace
  dsimp only
  split <;> exact State.rd_wr_ne _ _ _ _ h

theorem State.traceCheck_steered : s.Steered [.TIM_DPLL0_STATUS_tod_trace] s.traceCheck := by
  unfold State.traceCheck
  split
  case isTrue h =>
    have htr : s.rd .TIM_DPLL0_STATUS_tod_trace = 1 := by
      simp only [Bool.and_eq_true, beq_iff_eq] at h
      exact h.1.2
    refine ⟨⟨fun f i hf hs => ?_, fun hne => absurd htr hne, .of_eq rfl rfl⟩, fun f i _ _ hf => ?_, _, _, _, _, _, rfl⟩
    · exact (s.rd_setTrace_ne _ _ (by rintro rfl; cases hf)).trans hs
    · exact s.rd_setTrace_ne _ _ fun e => hf (List.mem_singleton.mpr e.symm)
  case isFalse => exact .refl

/-- Once its state is written, a move of DPLL0 changes no other field than model_ready and tod_trace. -/
theorem State.setD0_after (st : Nat) : (s.wr .TIM_DPLL0_STATUS_d0_state 0 st).Steered
    [.TIM_DPLL0_STATUS_model_ready, .TIM_DPLL0_STATUS_tod_trace] (s.setD0 st) := by
  unfold State.setD0
  extract_lets +onlyGivenNames s1 s1m m s2 s3 f m3 s4
  have h2 : s1.Steered [.TIM_DPLL0_STATUS_model_ready, .TIM_DPLL0_STATUS_tod_trace] s2 :=
    .ite (.tim_step (.wr _ _ (by decide) (by decide) (by decide) .refl)) .refl
  have h3 := h2.trans (.ite (.part (F := 4194304) (State.tick_spec _) rfl rfl rfl .refl) .refl : s2.Steered _ s3)
  have h4 : s1.Steered _ s4 := .tim_step h3
  exact (h4.trans (s4.traceCheck_steered.mono (by decide))).trans (s4.traceCheck.clampRefresh_steered.mono (List.nil_subset _))

theorem State.setD0_steered (st : Nat) : s.Steered d0Flds (s.setD0 st) :=
  State.Steered.trans (.wr _ _ (by decide) (by decide) (by decide) .refl) ((s.setD0_after st).mono (by decide))

theorem State.setD0_d0 {st : Nat} (h : st < 2 ^ 3) : (s.setD0 st).d0 = st :=
  ((s.setD0_after st).rd _ 0 rfl (by decide) (by decide)).trans ((State.rd_wr_self _ _ _ _).trans (Nat.mod_eq_of_lt h))

theorem State.d0Resume_steered : s.Steered d0Flds s.d0Resume :=
  (State.Steered.tim_step (s.setD0_steered _)).trans ((State.clampRefresh_steered _).mono (List.nil_subset _))

theorem State.d0Lose_steered : s.Steered d0Flds s.d0Lose :=
  (State.Steered.raiseReg _ _ rfl rfl .refl).trans (State.setD0_steered _ _)

theorem State.d0Source_steered : s.Steered d0Flds s.d0Source := by
  unfold State.d0Source
  dsimp only
  split
  · exact .tim_step (.ite (s.setD0_steered 1) .refl)
  · exact .ite s.d0Lose_steered .refl

theorem State.qualRefresh_steered : s.Steered [.TIM_REF_STATUS_qual_eff] s.qualRefresh :=
  .fold _ fun _ _ => .ite (.wr _ _ (by decide) (by decide) (by decide) .refl) .refl

theorem State.dkRefreshAll_steered : s.Steered [.TIM_DPLL_STATUS_dk_state] s.dkRefreshAll := by
  refine .fold _ fun t j => ?_
  have hgo : ∀ v, t.Steered [.TIM_DPLL_STATUS_dk_state] (t.wr .TIM_DPLL_STATUS_dk_state j v) :=
    fun v => .wr _ _ (by decide) (by decide) (by decide) .refl
  exact .ite (hgo 0) (.ite (.ite (hgo 1) .refl) (.ite (hgo 3) .refl))

/-! ### Selection (R321) -/

/-- What selection does once the sources are chosen. -/
def State.sourcesTaken (f t : Nat) : State :=
  let fChg := f != s.freqSrc
  let chg := fChg || t != s.timeSrc
  let s := s.wrs [(.TIM_DPLL0_STATUS_freq_src, 0, f), (.TIM_DPLL0_STATUS_time_src, 0, t)]
  let s := if chg then s.raiseReg .TIM_EV_sel_chg else s
  let s := if fChg then s.d0Source else s
  s.dkRefreshAll.traceCheck

theorem State.timSelect_eq : s.timSelect = s.qualRefresh.sourcesTaken
    (s.qualRefresh.pickSrc s.qualRefresh.freqSrc s.qualRefresh.candF)
    (s.qualRefresh.pickSrc s.qualRefresh.timeSrc s.qualRefresh.candT) := rfl

/-- The fields that follow the sources. -/
def followFlds : List Fld := d0Flds ++ [.TIM_DPLL_STATUS_dk_state]

theorem State.sourcesTaken_follows (f t : Nat) : State.Steered followFlds
    (s.wrs [(.TIM_DPLL0_STATUS_freq_src, 0, f), (.TIM_DPLL0_STATUS_time_src, 0, t)]) (s.sourcesTaken f t) := by
  unfold State.sourcesTaken
  extract_lets +onlyGivenNames fChg chg s1 s2 s3
  have h2 : s1.Steered followFlds s2 := .ite (.raiseReg _ _ rfl rfl .refl) .refl
  have h3 : s1.Steered followFlds s3 := .ite (h2.trans (s2.d0Source_steered.mono (by decide))) h2
  exact (h3.trans (s3.dkRefreshAll_steered.mono (by decide))).trans ((State.traceCheck_steered _).mono (by decide))

theorem State.timSelect_steered : s.Steered selFlds s.timSelect := by
  rw [State.timSelect_eq]
  refine State.Steered.trans ?_ ((State.sourcesTaken_follows _ _ _).mono (by decide))
  exact .wr _ _ (by decide) (by decide) (by decide)
    (.wr _ _ (by decide) (by decide) (by decide) (s.qualRefresh_steered.mono (by decide)))

theorem State.bestRef_eq_or_mem (l : List Nat) : s.bestRef l = 15 ∨ s.bestRef l ∈ l :=
  List.foldlRecOn (motive := fun b : Nat => b = 15 ∨ b ∈ l) l _ (.inl rfl) fun b hb i hi => by
    split
    · exact .inr hi
    · exact hb

/-- A source that is picked is a candidate. -/
theorem State.pickSrc_eq_or_mem (src : Nat) (l : List Nat) : s.pickSrc src l = 15 ∨ s.pickSrc src l ∈ l := by
  have hbest := s.bestRef_eq_or_mem l
  unfold State.pickSrc
  dsimp only
  split
  · exact .inl rfl
  · split
    · exact hbest
    · rename_i hsrc
      split
      · exact hbest
      · split
        · exact hbest
        · exact .inr (by simpa using hsrc)

variable {s}

theorem State.mem_candF {i : Nat} (h : i ∈ s.candF) : i < 12 ∧ s.rd .TIM_REF_STATUS_qualified i ≠ 0 := by
  simp only [State.candF, upTo, List.mem_filter, List.mem_range, Bool.and_eq_true, State.on, bne_iff_ne] at h
  exact ⟨h.1, h.2.1.2⟩

theorem State.pickSrc_ne {i src : Nat} {l : List Nat} (hl : l ⊆ s.candF) (hi : i < 12)
    (hq : s.rd .TIM_REF_STATUS_qualified i = 0) : s.pickSrc src l % 2 ^ 4 ≠ i := by
  rcases s.pickSrc_eq_or_mem src l with h | h
  · omega
  · obtain ⟨hlt, hne⟩ := State.mem_candF (hl h)
    rintro rfl
    rw [Nat.mod_eq_of_lt (by omega)] at hq
    exact hne hq

/-- Selection leaves no source that is not qualified. -/
theorem State.timSelect_sources {i : Nat} (hi : i < 12) (hq : s.rd .TIM_REF_STATUS_qualified i = 0) :
    s.timSelect.freqSrc ≠ i ∧ s.timSelect.timeSrc ≠ i := by
  have hq' : s.qualRefresh.rd .TIM_REF_STATUS_qualified i = 0 :=
    (s.qualRefresh_steered.rd _ i rfl (by decide) (by decide)).trans hq
  rw [State.timSelect_eq]
  generalize s.qualRefresh = x at hq'
  constructor
  · rw [State.freqSrc, (x.sourcesTaken_follows _ _).rd _ 0 rfl (by decide) (by decide), State.wrs_cons, State.wrs_cons,
      State.wrs_nil, State.rd_wr_ne _ _ _ _ (by decide), State.rd_wr_self]
    exact State.pickSrc_ne (List.Subset.refl _) hi hq'
  · rw [State.timeSrc, (x.sourcesTaken_follows _ _).rd _ 0 rfl (by decide) (by decide), State.wrs_cons, State.wrs_cons,
      State.wrs_nil, State.rd_wr_self]
    exact State.pickSrc_ne (fun _ h => List.mem_of_mem_filter h) hi hq'

end

end Sys2Proof.Machine
end

section
/-! The time of day: second boundaries, sets, steps and the edges of PPS inputs, and the writes of loop_open and pstep
(09_timing.md R310 to R330). -/
namespace Sys2Proof.Machine

/-! ### What a second that goes on leaves of the time of day (R323, R326, R340) -/

/-- Time goes on without a step: no set comes or goes, and events and messages are only added. -/
structure State.TimeRuns (s t : State) : Prop where
  goes : s.Goes t
  tod : t.tim.tod = s.tim.tod
  pend : t.tim.setPend = s.tim.setPend

namespace State.TimeRuns
variable {s t u : State}

theorem refl : s.TimeRuns s := ⟨.refl, rfl, rfl⟩

theorem trans (h : s.TimeRuns t) (g : t.TimeRuns u) : s.TimeRuns u :=
  ⟨h.goes.trans g.goes, g.tod.trans h.tod, g.pend.trans h.pend⟩

theorem of_steered {but : List Fld} (h : s.Steered but t) : s.TimeRuns t := by
  obtain ⟨_, _, _, _, _, e⟩ := h.tim
  exact ⟨h.goes, by rw [e], by rw [e]⟩

theorem ite {c : Prop} [Decidable c] (h : s.TimeRuns t) (g : s.TimeRuns u) : s.TimeRuns (if c then t else u) := by
  split <;> assumption

theorem fold {α : Type} {k : State → α → State} (l : List α) (hk : ∀ (t : State) x, t.TimeRuns (k t x)) :
    s.TimeRuns (l.foldl k s) :=
  List.foldlRecOn (motive := fun t : State => s.TimeRuns t) _ _ .refl fun _ ht x _ => ht.trans (hk _ x)

end State.TimeRuns

section
variable (s : State)

theorem State.ttAged_timeRuns (n : Nat) : s.TimeRuns (s.ttAged n) := by
  unfold State.ttAged
  extract_lets +onlyGivenNames s1 s2
  have h1 : s.TimeRuns s1 := ⟨.of_spec (s.modRef_spec _ _) rfl rfl rfl rfl, rfl, rfl⟩
  have h2 : s1.TimeRuns s2 := .ite ⟨.wr _ _ (by decide) (by decide), rfl, rfl⟩ .refl
  exact (h1.trans h2).trans (.of_steered s2.timSelect_steered)

theorem State.ttSecond_timeRuns : s.TimeRuns s.ttSecond :=
  .fold _ fun t n => .ite .refl
    (State.TimeRuns.trans ⟨.of_spec (t.modRx_spec n _) rfl rfl rfl rfl, rfl, rfl⟩ (State.ttAged_timeRuns _ n))

theorem State.ttMean_timeRuns : s.TimeRuns s.ttMean := by
  refine ⟨.of_spec s.ttMean_spec rfl rfl rfl rfl, ?_, ?_⟩ <;> unfold State.ttMean <;> dsimp only <;> split <;> rfl

theorem State.learnStep_timeRuns : s.TimeRuns s.learnStep := by
  refine ⟨.of_spec s.learnStep_spec rfl rfl rfl rfl, ?_, ?_⟩ <;> unfold State.learnStep <;> split <;> rfl

theorem State.secondPass_timeRuns : s.TimeRuns s.secondPass := by
  unfold State.secondPass
  extract_lets +onlyGivenNames e f m t1 t2
  have h1 : s.TimeRuns t1 := ⟨⟨fun _ _ _ h => h, fun _ => rfl, .of_eq rfl rfl⟩, rfl, rfl⟩
  have h2 : t1.TimeRuns t2 := by
    refine State.TimeRuns.trans ?_ (State.learnStep_timeRuns _)
    exact .ite ⟨.of_spec t1.tick_spec rfl rfl rfl rfl, rfl, rfl⟩ .refl
  refine (h1.trans h2).trans (.fold _ fun t j => ?_)
  extract_lets +onlyGivenNames u
  have hu : t.TimeRuns u := ⟨.of_spec (t.pstepRun_spec j) rfl rfl rfl rfl, rfl, rfl⟩
  exact .ite (hu.trans ⟨⟨fun _ _ _ h => h, fun _ => rfl, .of_eq rfl rfl⟩, rfl, rfl⟩) hu

/-- Of the timing part a slew changes what moves ToD in this second alone. -/
theorem State.timeSlew_tim : ∃ v, s.timeSlew.tim = { s.tim with slew := v } := by
  unfold State.timeSlew
  split
  · exact ⟨0, rfl⟩
  · split
    · exact ⟨0, rfl⟩
    · exact ⟨_, rfl⟩

theorem State.timeSlew_timeRuns : s.TimeRuns s.timeSlew := by
  obtain ⟨_, e⟩ := s.timeSlew_tim
  exact ⟨.of_spec s.timeSlew_spec rfl rfl rfl rfl, by rw [e], by rw [e]⟩

/-- The register shows the time error, where there is one. -/
def State.errShown : State := s.timeErr.elim s fun e => s.wrInt .TIM_DPLL0_STATUS_time_err 0 (errNs e)

theorem State.errShown_timeRuns : s.TimeRuns s.errShown := by
  unfold State.errShown
  cases s.timeErr with
  | none => exact .refl
  | some e => exact ⟨.wr _ _ (by decide) (by decide), rfl, rfl⟩

/-- The second goes on after its boundary: REF11's means, the averages and the slew. -/
def State.secondGoesOn : State := s.ttSecond.ttMean.secondPass.errShown.timeSlew.clampRefresh

theorem State.secondGoesOn_timeRuns : s.TimeRuns s.secondGoesOn :=
  ((((s.ttSecond_timeRuns.trans (State.ttMean_timeRuns _)).trans (State.secondPass_timeRuns _)).trans
    (State.errShown_timeRuns _)).trans (State.timeSlew_timeRuns _)).trans (.of_steered (State.clampRefresh_steered _))

end

/-! ### Steps of the time of day (R312, R313) -/

theorem foldSec_eq_zero {a b : Nat} (ha : a < 2 ^ 48) (hb : b < 2 ^ 48) (h : foldSec ((a : Int) - b) = 0) : a = b := by
  unfold foldSec at h
  dsimp only at h
  split at h <;> omega

/-- Two times of day without a difference are the same. -/
theorem eq_of_todDiff_eq_zero {a b : Nat} (ha : a < todMod) (hb : b < todMod) (h : todDiff a b = 0) : a = b := by
  have hsec : todSec = 65536000000000 := rfl
  unfold todMod at ha hb
  unfold todDiff at h
  rw [hsec] at ha hb h
  have hfold : foldSec ((a / 65536000000000 : Nat) - (b / 65536000000000 : Nat)) = 0 := by
    generalize foldSec _ = q at h ⊢
    omega
  have hquot := foldSec_eq_zero (by omega) (by omega) hfold
  rw [hfold] at h
  omega

theorem todAdd_lt (a : Nat) (d : Int) : todAdd a d < todMod := by
  have hpos : (0 : Int) < (todMod : Nat) := by decide
  have hlt := Int.emod_lt_of_pos ((a : Int) + d) hpos
  have hnonneg := Int.emod_nonneg ((a : Int) + d) hpos.ne'
  unfold todAdd
  omega

theorem State.stepTod_tod {s : State} {new : Nat} (hnew : new < todMod) (hs : s.tim.tod < todMod) :
    (s.stepTod new).tim.tod = new := by
  unfold State.stepTod
  extract_lets d m t
  split
  case isTrue h => exact (eq_of_todDiff_eq_zero hnew hs (eq_of_beq h)).symm
  case isFalse => rw [State.raiseReg_tim]

section
variable (s : State)

theorem State.stepTod_pend (new : Nat) : (s.stepTod new).tim.setPend = s.tim.setPend := by
  unfold State.stepTod
  extract_lets d m t
  split
  · rfl
  · rw [State.raiseReg_tim]

theorem State.stepTod_goes (new : Nat) : s.Goes (s.stepTod new) := by
  unfold State.stepTod
  extract_lets d m t
  split
  · exact .refl
  · have ht : s.Goes t := ⟨fun _ _ _ h => h, fun _ => rfl, .of_eq rfl rfl⟩
    exact ht.trans (.raiseReg _ _ rfl rfl)

theorem State.stepTod_raises {new : Nat} (h : todDiff new s.tim.tod ≠ 0) : (s.stepTod new).rd .TIM_EV_tod_step = 1 := by
  unfold State.stepTod
  extract_lets d m t
  rw [if_neg (by simpa using h)]
  exact State.rd_raiseReg_self _ _ _ _ rfl rfl

/-! ### A second boundary (R310, R311, R314) -/

/-- The count passes the boundary at `new`, and a debug session counts with it. -/
def State.todPassed (new : Nat) : State :=
  let t := s.slewDone.atTod new
  let t := if todMod ≤ new then t.raiseReg .TIM_EV_tod_wrap else t
  t.wr .SEC_STATE_session_s 0 (t.rd .SEC_STATE_session_s - 1)

/-- A pending set loads. -/
def State.todLoaded (new : Nat) : State := ({ s with tim := { s.tim with setPend := none } }.stepTod new).setTrace 0

/-- The second begins at `new`, or at the captured seconds of a pending set. -/
def State.secondBegins (new : Nat) : State :=
  match s.tim.setPend with
  | none => s.todPassed new
  | some v => (s.todPassed new).todLoaded (v % 2 ^ 48 * todSec)

theorem State.todPassed_tim (new : Nat) : (s.todPassed new).tim = (s.slewDone.atTod new).tim := by
  unfold State.todPassed
  extract_lets t1 t2
  rw [State.wr_tim]
  dsimp only [t2]
  split
  · exact State.raiseReg_tim _ _ _ _
  · rfl

theorem State.todPassed_tod (new : Nat) : (s.todPassed new).tim.tod = new % todMod := by
  rw [State.todPassed_tim]
  rfl

theorem State.todPassed_pend (new : Nat) : (s.todPassed new).tim.setPend = s.tim.setPend := by
  rw [State.todPassed_tim]
  rfl

theorem State.todPassed_wraps {new : Nat} (h : todMod ≤ new) : (s.todPassed new).rd .TIM_EV_tod_wrap = 1 := by
  unfold State.todPassed
  extract_lets t1 t2
  rw [State.rd_wr_ne _ _ _ _ (by decide)]
  dsimp only [t2]
  rw [if_pos h]
  exact State.rd_raiseReg_self _ _ _ _ rfl rfl

theorem State.todPassed_padHeld (new g : Nat) : (s.todPassed new).padHeld g = s.padHeld g := by
  refine congrArg (Nat.testBit · g) ?_
  unfold State.todPassed
  extract_lets t1 t2
  rw [State.rd_wr_ne _ _ _ _ (by decide)]
  dsimp only [t2]
  split
  · exact State.rd_raiseReg_ne _ _ _ _ rfl (by decide)
  · rfl

theorem State.setTrace_tod (v : Nat) : (s.setTrace v).tim.tod = s.tim.tod := by
  unfold State.setTrace
  dsimp only
  split <;> rfl

theorem State.setTrace_pend (v : Nat) : (s.setTrace v).tim.setPend = s.tim.setPend := by
  unfold State.setTrace
  dsimp only
  split <;> rfl

theorem State.todLoaded_tod {new : Nat} (hnew : new < todMod) (hs : s.tim.tod < todMod) : (s.todLoaded new).tim.tod = new :=
  (State.setTrace_tod _ _).trans (State.stepTod_tod hnew hs)

theorem State.todLoaded_pend (new : Nat) : (s.todLoaded new).tim.setPend = none :=
  (State.setTrace_pend _ _).trans (State.stepTod_pend _ _)

theorem State.todLoaded_trace (new : Nat) : (s.todLoaded new).rd .TIM_DPLL0_STATUS_tod_trace = 0 := State.rd_setTrace _ _

theorem State.todLoaded_wraps {new : Nat} (h : s.rd .TIM_EV_tod_wrap = 1) : (s.todLoaded new).rd .TIM_EV_tod_wrap = 1 :=
  (State.rd_setTrace_ne _ _ _ (by decide)).trans ((State.stepTod_goes _ _).raised _ _ rfl h)

theorem State.todLoaded_padHeld (new g : Nat) : (s.todLoaded new).padHeld g = s.padHeld g :=
  congrArg (Nat.testBit · g) ((State.rd_setTrace_ne _ _ _ (by decide)).trans ((State.stepTod_spec _ _).rd _ _ rfl))

variable {s}

theorem State.secondBegins_none (new : Nat) (h : s.tim.setPend = none) : s.secondBegins new = s.todPassed new := by
  unfold State.secondBegins
  rw [h]

theorem State.secondBegins_some (new : Nat) {v : Nat} (h : s.tim.setPend = some v) :
    s.secondBegins new = (s.todPassed new).todLoaded (v % 2 ^ 48 * todSec) := by
  unfold State.secondBegins
  rw [h]

theorem State.secondBegins_wraps {new : Nat} (h : todMod ≤ new) : (s.secondBegins new).rd .TIM_EV_tod_wrap = 1 := by
  cases hpend : s.tim.setPend with
  | none =>
    rw [State.secondBegins_none _ hpend]
    exact s.todPassed_wraps h
  | some v =>
    rw [State.secondBegins_some _ hpend]
    exact State.todLoaded_wraps _ (s.todPassed_wraps h)

theorem State.secondBegins_padHeld (s : State) (new g : Nat) : (s.secondBegins new).padHeld g = s.padHeld g := by
  rw [← s.todPassed_padHeld new g]
  cases hpend : s.tim.setPend with
  | none => rw [State.secondBegins_none _ hpend]
  | some v =>
    rw [State.secondBegins_some _ hpend]
    exact State.todLoaded_padHeld _ _ _

/-- What a boundary with a pending set loads. -/
theorem State.secondBegins_loads (new : Nat) {v : Nat} (h : s.tim.setPend = some v) :
    (s.secondBegins new).tim.tod = v % 2 ^ 48 * todSec ∧ (s.secondBegins new).tim.setPend = none
      ∧ (s.secondBegins new).rd .TIM_DPLL0_STATUS_tod_trace = 0 := by
  rw [State.secondBegins_some _ h]
  have hload : v % 2 ^ 48 * todSec < todMod :=
    Nat.mul_lt_mul_of_pos_right (Nat.mod_lt _ (Nat.two_pow_pos 48)) (by decide)
  generalize v % 2 ^ 48 * todSec = load at hload
  refine ⟨State.todLoaded_tod _ hload ?_, State.todLoaded_pend _ _, State.todLoaded_trace _ _⟩
  rw [State.todPassed_tod]
  exact Nat.mod_lt _ (by decide)

theorem exec_todSecond {new : Nat} (hboot : s.on .SYS_RST_STATUS_boot_ready = true)
    (hnew : (s.tim.tod / todSec + 1) * todSec = new) :
    exec .todSecond s = .next ((s.secondBegins new).emit (.pps (s.secondBegins new).tim.tod)).secondGoesOn := by
  change execTodSecond s = _
  unfold execTodSecond
  rw [hnew]
  extract_lets _ t1 t2 t3 m t4 t5 t6 t7
  have hbegins : t4 = s.secondBegins new := rfl
  have hpps : t5 = t4.emit (.pps t4.tim.tod) := if_pos hboot
  clear_value t5
  have hshown : t7 = t6.errShown := by
    clear_value t6
    dsimp only [t7]
    unfold State.errShown
    cases t6.timeErr <;> rfl
  rw [hshown]
  dsimp only [t6]
  rw [hpps, hbegins]
  rfl

end

/-! ### Edges of PPS inputs (R316) -/

@[simp] theorem State.refOf_modRef (s : State) (i : Nat) (g : RefSt → RefSt) : (s.modRef i g).refOf i = g (s.refOf i) :=
  SMap.get_mod_self _ _ _ _

theorem State.refOf_modRef_ne (s : State) {i j : Nat} (g : RefSt → RefSt) (h : i ≠ j) : (s.modRef i g).refOf j = s.refOf j :=
  SMap.get_mod_ne _ _ _ h

theorem exec_ppsEdge_shows (i : Fin 2) (tod : Nat) {s : State} (h : s.on .TIM_REF_CFG_pps_en i = true) :
    Ends (.ppsEdge i tod) s fun t => (t.refOf i).phase = fold25 (roundUp ((tod % todMod % todSec : Nat) * 1000) 1638400
      - 4 * s.rdInt .TIM_REF_CFG_in_delay i) ∧ t.tim.tod = tod % todMod := by
  refine ⟨_, congrArg ok (if_pos h), ?_, rfl⟩
  rw [State.measured, State.refOf_modRef, State.refOf_modRef]
  rfl

/-! ### tod_set (R314, R336) -/

/-- Mirroring a write to the other member changes no register. -/
theorem State.rd_mirroredHostWrite (s : State) (rq : Requester) {r : Rg} (i val : Nat) (h : r.boundary = false) (f : Fld) (j : Nat) :
    (s.mirroredHostWrite rq r i val).rd f j = (s.mirroredWrite rq r i val none).rd f j := by
  unfold State.mirroredHostWrite
  rw [h]
  exact (State.mirrorReg_spec _ _ _ _ _).rd_part (F := 0x202000) f j

theorem exec_todSet {s : State} (hi : Nat) (h : s.fate .host .TIM_TOD_SEC_HI 0 = .takes) : ∃ u : State,
    exec (.todSet hi) s = .next u.todSet ∧ ∀ f i, u.rd f i = (s.wr .TIM_TOD_SEC_HI_sec_hi 0 (hi % 65536)).rd f i := by
  have hword : (hi % 65536 + 2 ^ 31) % 2 ^ 32 = hi % 65536 + 2 ^ 31 := Nat.mod_eq_of_lt (by omega)
  have hset : (hi % 65536 + 2 ^ 31).testBit 31 = true := by
    rw [Nat.testBit_eq_decide_div_mod_eq]
    exact decide_eq_true (by omega)
  have hpart : (Fld.TIM_TOD_SEC_HI_sec_hi).part (hi % 65536 + 2 ^ 31) = hi % 65536 := by
    change (hi % 65536 + 2 ^ 31) / 2 ^ 0 % 2 ^ 16 = hi % 65536
    omega
  have htake : s.regTake .host .TIM_TOD_SEC_HI 0 (hi % 65536 + 2 ^ 31) = s.todHiWrite .host (hi % 65536 + 2 ^ 31) := by
    have habsent : s.namesAbsent .TIM_TOD_SEC_HI 0 (hi % 65536 + 2 ^ 31) = false := by simp [State.namesAbsent]
    simp only [State.regTake, h, hword, State.regAct, habsent, Bool.false_eq_true, if_false, State.regEffect]
  refine ⟨_, congrArg ok (htake.trans (if_pos hset)), fun f i => ?_⟩
  rw [State.rd_mirroredHostWrite _ _ _ _ rfl]
  exact congrArg (fun v => (s.wr .TIM_TOD_SEC_HI_sec_hi 0 v).rd f i) hpart

theorem State.todSet_shows (s : State) : s.todSet.rd .TIM_DPLL0_STATUS_tod_trace = 0 ∧
    s.todSet.tim.setPend = some (s.rd .TIM_TOD_SEC_HI_sec_hi * 2 ^ 32 + s.rd .TIM_TOD_SEC_LO_sec_lo) := by
  refine ⟨s.rd_setTrace 0, congrArg some ?_⟩
  rw [s.rd_setTrace_ne 0 _ (by decide), s.rd_setTrace_ne 0 _ (by decide)]

theorem exec_todSet_captures {s : State} (hi : Nat) (h : s.fate .host .TIM_TOD_SEC_HI 0 = .takes) :
    Ends (.todSet hi) s fun t => t.tim.setPend = some (hi % 65536 * 2 ^ 32 + s.rd .TIM_TOD_SEC_LO_sec_lo)
      ∧ t.rd .TIM_DPLL0_STATUS_tod_trace = 0 := by
  obtain ⟨u, hexec, hu⟩ := exec_todSet hi h
  obtain ⟨htrace, hpend⟩ := u.todSet_shows
  refine ⟨_, hexec, ?_, htrace⟩
  rw [hpend, hu, hu, State.rd_wr_self, State.rd_wr_ne _ _ _ _ (by decide)]
  change some (hi % 65536 % 65536 * 2 ^ 32 + _) = _
  rw [Nat.mod_mod]

/-! ### loop_open (R324, R328) -/

/-- What a write of TIM_DPLL0_CTRL does before it comes to loop_open. -/
def State.d0Settings (s : State) (w : Nat) : State := s.writeRw .TIM_DPLL0_CTRL 0 w [.TIM_DPLL0_CTRL_loop_open]

/-- The settings of DPLL0 beside loop_open. -/
def d0SettingFlds : List Fld :=
  [.TIM_DPLL0_CTRL_fbw, .TIM_DPLL0_CTRL_tbw, .TIM_DPLL0_CTRL_lock_thr, .TIM_DPLL0_CTRL_step_thr]

theorem State.d0Settings_eq (s : State) (w : Nat) :
    s.d0Settings w = d0SettingFlds.foldl (fun t f => t.wr f 0 (f.part w)) s := rfl

theorem State.rd_d0Settings (s : State) (w : Nat) {f : Fld} (i : Nat) (hf : f ∉ d0SettingFlds) :
    (s.d0Settings w).rd f i = s.rd f i := by
  rw [State.d0Settings_eq]
  exact List.foldlRecOn (motive := fun t : State => t.rd f i = s.rd f i) _ _ rfl
    fun t ht g hg => (t.rd_wr_ne _ _ _ fun e : g = f => hf (e ▸ hg)).trans ht

theorem State.privileged_congr {s t : State} (h : ∀ f, f.info.rg = .SEC_STATE → t.rd f = s.rd f) (rq : Requester) :
    t.privileged rq = s.privileged rq := by
  cases rq with
  | ctl => rfl
  | test => simp only [State.privileged, h .SEC_STATE_dbg_level rfl, h .SEC_STATE_dbg_port rfl]
  | host => simp only [State.privileged, State.on, h .SEC_STATE_host_priv rfl]

/-- The word of a write of loop_open alone. -/
theorem State.fieldWord_loopOpen (s : State) (v : Bool) :
    (s.fieldWord .TIM_DPLL0_CTRL_loop_open 0 (b2n v) % 2 ^ 32).testBit 0 = v := by
  have h : s.fieldWord .TIM_DPLL0_CTRL_loop_open 0 (b2n v)
      = b2n v % 2 ^ 1 * 2 ^ 0 + s.rd .TIM_DPLL0_CTRL_fbw % 2 ^ 2 * 2 ^ 1 + s.rd .TIM_DPLL0_CTRL_tbw % 2 ^ 2 * 2 ^ 3
        + s.rd .TIM_DPLL0_CTRL_lock_thr % 2 ^ 8 * 2 ^ 8 + s.rd .TIM_DPLL0_CTRL_step_thr % 2 ^ 16 * 2 ^ 16 := rfl
  have hv : b2n v < 2 := by cases v <;> decide
  have hbit : s.fieldWord .TIM_DPLL0_CTRL_loop_open 0 (b2n v) % 2 ^ 32 % 2 = b2n v := by omega
  rw [Nat.testBit_zero, hbit]
  cases v <;> rfl

theorem exec_loopOpenWrite {s : State} {rq : Requester} (v : Bool) (h : s.fate rq .TIM_DPLL0_CTRL 0 = .takes) : ∃ w u,
    exec (.loopOpenWrite rq v) s = .next u ∧ ∀ f i, u.rd f i = ((s.d0Settings w).loopOpenWrite rq v).rd f i := by
  have hword := s.fieldWord_loopOpen v
  have htake : s.fieldWrite rq .TIM_DPLL0_CTRL_loop_open 0 (b2n v)
      = s.regAct rq .TIM_DPLL0_CTRL 0 (s.fieldWord .TIM_DPLL0_CTRL_loop_open 0 (b2n v) % 2 ^ 32) := by
    have hrg : (Fld.TIM_DPLL0_CTRL_loop_open).info.rg = .TIM_DPLL0_CTRL := rfl
    simp only [State.fieldWrite, State.regTake, hrg, h]
  generalize s.fieldWord .TIM_DPLL0_CTRL_loop_open 0 (b2n v) % 2 ^ 32 = w at hword htake
  subst hword
  have habsent : ¬ s.namesAbsent .TIM_DPLL0_CTRL 0 w = true := by simp [State.namesAbsent]
  have heffect : s.regEffect rq .TIM_DPLL0_CTRL 0 w = s.mirroredHostWrite rq .TIM_DPLL0_CTRL 0 w := rfl
  exact ⟨w, _, congrArg ok (htake.trans ((if_neg habsent).trans heffect)), State.rd_mirroredHostWrite s rq 0 w rfl⟩

section
variable {s : State} {rq : Requester}

theorem State.loopOpenWrite_dropped (v : Bool) (h : s.privileged rq = false) :
    s.loopOpenWrite rq v = s.raiseReg .TIM_EV_priv_drop := if_pos (by simp [h])

/-- What a privileged write of loop_open changes beside it. -/
theorem State.loopOpenWrite_after (v : Bool) (h : s.privileged rq = true) :
    (s.wr .TIM_DPLL0_CTRL_loop_open 0 (b2n v)).Steered d0Flds (s.loopOpenWrite rq v) := by
  unfold State.loopOpenWrite
  rw [if_neg (by simp [h])]
  exact .ite (State.setD0_steered _ _) (.ite (State.d0Resume_steered _) .refl)

theorem State.d0Resume_acquires (h : s.freqSrc ≠ 15) : s.d0Resume.d0 = 1 := by
  unfold State.d0Resume
  rw [if_pos (by simpa using h)]
  exact ((State.clampRefresh_steered _).rd _ 0 rfl (by decide) (by decide)).trans (s.setD0_d0 (by decide))

theorem State.loopOpenWrite_opens (h : s.privileged rq = true) (h5 : s.d0 ≠ 5) : (s.loopOpenWrite rq true).d0 = 4 := by
  unfold State.loopOpenWrite
  rw [if_neg (by simp [h])]
  dsimp only
  by_cases h4 : s.d0 = 4
  · rw [if_neg (by simp [h4]), if_neg (by simp)]
    exact (State.rd_wr_ne _ _ _ _ (by decide)).trans h4
  · rw [if_pos (by simp [h4, h5])]
    exact State.setD0_d0 _ (by decide)

theorem State.loopOpenWrite_closes (h : s.privileged rq = true) (h4 : s.d0 = 4) (hsrc : s.freqSrc ≠ 15) :
    (s.loopOpenWrite rq false).d0 = 1 := by
  unfold State.loopOpenWrite
  rw [if_neg (by simp [h])]
  dsimp only
  rw [if_neg (by simp), if_pos (by simp [h4])]
  exact State.d0Resume_acquires ((State.rd_wr_ne _ _ _ _ (by decide)).trans_ne hsrc)

theorem exec_loopOpenWrite_obeys (v : Bool) (h : s.fate rq .TIM_DPLL0_CTRL 0 = .takes) :
    Ends (.loopOpenWrite rq v) s fun t =>
      (s.privileged rq = false → t.rd .TIM_DPLL0_CTRL_loop_open = s.rd .TIM_DPLL0_CTRL_loop_open
        ∧ t.rd .TIM_EV_priv_drop = 1 ∧ t.d0 = s.d0)
      ∧ (s.privileged rq = true → t.rd .TIM_DPLL0_CTRL_loop_open = b2n v
        ∧ (v = true → s.d0 ≠ 5 → t.d0 = 4)
        ∧ (v = false → s.d0 = 4 → s.freqSrc ≠ 15 → t.d0 = 1)) := by
  obtain ⟨w, u, hexec, hu⟩ := exec_loopOpenWrite v h
  have hd0 : (s.d0Settings w).d0 = s.d0 := s.rd_d0Settings w 0 (by decide)
  have hfreq : (s.d0Settings w).freqSrc = s.freqSrc := s.rd_d0Settings w 0 (by decide)
  have hpriv : (s.d0Settings w).privileged rq = s.privileged rq :=
    State.privileged_congr (fun f hf => s.rd_d0Settings w 0 fun hm => by
      have hrg : ∀ g ∈ d0SettingFlds, g.info.rg ≠ .SEC_STATE := by decide
      exact hrg f hm hf) rq
  refine ⟨_, hexec, fun hp => ?_, fun hp => ?_⟩
  · rw [← hpriv] at hp
    have hut : u.d0 = ((s.d0Settings w).loopOpenWrite rq v).d0 := hu _ _
    rw [hut, hu, hu, State.loopOpenWrite_dropped v hp]
    refine ⟨?_, State.rd_raiseReg_self _ _ _ _ rfl rfl, ?_⟩
    · exact (State.rd_raiseReg_ne _ _ _ _ rfl (by decide)).trans (s.rd_d0Settings w 0 (by decide))
    · exact (State.rd_raiseReg_ne _ _ _ _ rfl (by decide)).trans hd0
  · rw [← hpriv] at hp
    have hut : u.d0 = ((s.d0Settings w).loopOpenWrite rq v).d0 := hu _ _
    rw [hut, hu]
    refine ⟨?_, ?_, ?_⟩
    · rw [(State.loopOpenWrite_after v hp).rd _ 0 rfl (by decide) (by decide), State.rd_wr_self]
      exact b2n_mod_two v
    · rintro rfl h5
      exact State.loopOpenWrite_opens hp (hd0 ▸ h5)
    · rintro rfl h4 hsrc
      exact State.loopOpenWrite_closes hp (hd0.trans h4) (hfreq ▸ hsrc)

end

/-! ### pstep (R330) -/

theorem exec_dpllPstep {s : State} (k : Fin 5) {ps : Int} (h : s.fate .host .TIM_DPLL_PSTEP k = .takes)
    (hlo : -2 ^ 31 ≤ ps) (hhi : ps < 2 ^ 31) : exec (.dpllPstep k ps) s = .next (s.dpllPstep k ps) := by
  have habsent : s.namesAbsent .TIM_DPLL_PSTEP k (toTwos 32 ps % 2 ^ 32) = false := by simp [State.namesAbsent]
  have htake : s.regTake .host .TIM_DPLL_PSTEP k (toTwos 32 ps) = s.dpllPstep k (ofTwos 32 (toTwos 32 ps % 2 ^ 32)) := by
    simp only [State.regTake, h, State.regAct, habsent, Bool.false_eq_true, if_false, State.regEffect]
  rw [ofTwos_toTwos (by decide) hlo hhi] at htake
  exact congrArg ok htake

theorem State.dpllPstep_shows (s : State) (j : Nat) (ps : Int) :
    (SMap.get {} (s.dpllPstep j ps).tim.dpll (j + 1)).rem
        = clampInt (-1000000000) 1000000000 ((SMap.get {} (s.pstepRun j).tim.dpll (j + 1)).rem + ps)
      ∧ (s.dpllPstep j ps).rd .TIM_DPLL_STATUS_step_busy j
        = b2n ((SMap.get {} (s.dpllPstep j ps).tim.dpll (j + 1)).rem != 0) := by
  unfold State.dpllPstep
  extract_lets t r
  rw [(State.clkRefresh_spec _).keep .tim rfl, (State.clkRefresh_spec _).rd _ _ rfl, State.rd_wr_self, State.wr_tim,
    SMap.get_mod_self]
  exact ⟨rfl, b2n_mod_two _⟩

/-- Settles O19: a second is its boundary, PPS_OUT, and what goes on after it, which moves the time of day no more; the writes
come to their registers' effects, and the other commands act where their tests hold. -/
theorem timeOfDay : Obligations.TimeOfDay := by
  refine ⟨?second, ?set, ?edge, ?step, ?loopOpen, ?pstep, ?pstepDone⟩
  case second =>
    intro s hpad hboot
    generalize hnew : (s.tim.tod / todSec + 1) * todSec = new
    refine ⟨_, exec_todSecond hboot hnew, ?_⟩
    have hruns := ((s.secondBegins new).emit (.pps (s.secondBegins new).tim.tod)).secondGoesOn_timeRuns
    have htod := hruns.tod
    have hpend := hruns.pend
    rw [State.emit_tim] at htod hpend
    refine ⟨fun hnone => ?_, fun v hv => ?_, ?_, fun hwraps => ?_⟩
    · rw [htod, State.secondBegins_none new hnone, State.todPassed_tod]
    · obtain ⟨hload, hdone, htrace⟩ := State.secondBegins_loads new hv
      have hemit := State.rd_emit (s.secondBegins new) (.pps (s.secondBegins new).tim.tod) .TIM_DPLL0_STATUS_tod_trace 0
      rw [htrace] at hemit
      refine ⟨htod.trans hload, hpend.trans hdone, fun _ => (hruns.goes.trace ?_).trans hemit⟩
      rw [hemit]
      decide
    · have hout := State.emit_out (s := s.secondBegins new) (o := .pps (s.secondBegins new).tim.tod)
        ((s.secondBegins_padHeld new 3).trans hpad)
      refine hruns.goes.emits.out.subset ?_
      rw [htod, hout]
      exact List.mem_cons_self
    · exact hruns.goes.raised _ _ rfl ((State.rd_emit _ _ _ _).trans (State.secondBegins_wraps hwraps))
  case set => exact fun hi s h => exec_todSet_captures hi h
  case edge => exact fun i tod s h => exec_ppsEdge_shows i tod h
  case step =>
    intro e s hsrc h4 h5 hdiscard hfar htod
    refine ⟨_, congrArg ok (if_pos (by simp [hsrc, h4, h5, hdiscard, hfar])), ?_, State.rd_wr_self _ _ _ _, fun hdiff => ?_⟩
    · exact State.stepTod_tod (todAdd_lt _ _) htod
    · exact (State.rd_wr_ne _ _ _ _ (by decide)).trans (s.stepTod_raises hdiff)
  case loopOpen => exact fun rq v s h _ => exec_loopOpenWrite_obeys v h
  case pstep => exact fun k ps s h hlo hhi => ⟨_, exec_dpllPstep k h hlo hhi, s.dpllPstep_shows k ps⟩
  case pstepDone =>
    intro k s
    refine ⟨_, rfl, ?_, ?_⟩
    · rw [(State.clkRefresh_spec _).rd _ _ rfl, State.rd_wr_self, Nat.zero_mod]
    · rw [(State.clkRefresh_spec _).keep .tim rfl, State.wr_tim, SMap.get_mod_self]

end Sys2Proof.Machine
end

section
/-! References and the DPLLs: how a reference fails and is qualified, what lock and unlock move, the holdover model, tod_trace
and the samples of REF10 (09_timing.md R317 to R336; 11_host_rings.md R398). -/
namespace Sys2Proof.Machine

/-! ### A reference fails (R318, R346) -/

/-- What a failed reference shows: its code, no qualification, and it is no source. -/
structure State.RefDown (t : State) (i code : Nat) : Prop where
  qualified : t.rd .TIM_REF_STATUS_qualified i = 0
  fail : t.rd .TIM_REF_STATUS_fail i = code
  freqSrc : t.freqSrc ≠ i
  timeSrc : t.timeSrc ≠ i

section
variable {s : State} {i code : Nat}

theorem State.refFail_down (hi : i < 12) (hcode : code < 2 ^ 2) : (s.refFail i code).RefDown i code := by
  unfold State.refFail
  extract_lets was s1 s2 s3
  have hraised : s1.Steered [] s3 := .ite (.raiseReg _ _ rfl rfl (.ite (.raiseReg _ _ rfl rfl .refl) .refl))
    (.ite (.raiseReg _ _ rfl rfl .refl) .refl)
  have hqualified : s3.rd .TIM_REF_STATUS_qualified i = 0 := by
    rw [hraised.rd _ _ rfl (by decide) List.not_mem_nil]
    dsimp only [s1]
    rw [State.wrs_cons, State.wrs_cons, State.wrs_cons, State.wrs_nil, State.rd_wr_ne _ _ _ _ (by decide),
      State.rd_wr_ne _ _ _ _ (by decide), State.rd_wr_self, Nat.zero_mod]
  have hfail : s3.rd .TIM_REF_STATUS_fail i = code := by
    rw [hraised.rd _ _ rfl (by decide) List.not_mem_nil]
    exact (State.rd_wr_self _ _ _ _).trans (Nat.mod_eq_of_lt hcode)
  obtain ⟨hfreq, htime⟩ := State.timSelect_sources hi hqualified
  exact ⟨(s3.timSelect_steered.rd _ _ rfl (by decide) (by decide)).trans hqualified,
    (s3.timSelect_steered.rd _ _ rfl (by decide) (by decide)).trans hfail, hfreq, htime⟩

/-- The failure of a reference that was qualified raises TIM_REF_CHG, that of REF11 TIM_TT_LOST too. -/
theorem State.refFail_raises (h : s.rd .TIM_REF_STATUS_qualified i = 1) : (s.refFail i code).rd .TIM_EV_ref_chg = 1
    ∧ (i = 11 → (s.refFail i code).rd .TIM_EV_tt_lost = 1) := by
  unfold State.refFail
  extract_lets was s1 s2 s3
  have hwas : was = true := by simp [was, State.on, h]
  have hchg : s2.rd .TIM_EV_ref_chg = 1 := by
    dsimp only [s2]
    rw [if_pos hwas]
    exact State.rd_raiseReg_self _ _ _ _ rfl rfl
  have hgoes : s2.Goes s3 := (State.Steered.ite (but := []) (.raiseReg _ _ rfl rfl .refl) .refl).goes
  refine ⟨s3.timSelect_steered.goes.raised _ _ rfl (hgoes.raised _ _ rfl hchg), fun h11 => ?_⟩
  refine s3.timSelect_steered.goes.raised _ _ rfl ?_
  dsimp only [s3]
  rw [if_pos (by simp [hwas, h11])]
  exact State.rd_raiseReg_self _ _ _ _ rfl rfl

end

theorem faultCode_lt (why : RefFault) : faultCode why < 2 ^ 2 := by cases why <;> simp [faultCode]

/-- Beside the reference's own frequency, a measured offset changes what the register shows of it alone. -/
theorem State.refOffset_after (s : State) (i : Nat) (ppb : Int) : (s.modRef i fun r => { r with freq := ppb }).Steered
    [.TIM_REF_STATUS_offset, .TIM_REF_STATUS_wtr_run] (s.refOffset i ppb) := by
  unfold State.refOffset
  extract_lets s1 s2
  have h1 : (s.modRef i fun r => { r with freq := ppb }).Steered [.TIM_REF_STATUS_offset, .TIM_REF_STATUS_wtr_run] s1 :=
    .wr (f := .TIM_REF_STATUS_offset) _ _ (by decide) (by decide) (by decide) .refl
  have h2 := h1.trans (.ite (.wr _ _ (by decide) (by decide) (by decide) .refl) .refl : s1.Steered _ s2)
  exact h2.trans (s2.clampRefresh_steered.mono (List.nil_subset _))

section
variable (s : State) (i : Nat) (ppb : Int)

/-- The qualities are brought up to date and the offset of a reference is measured. -/
def State.refMeasured : State := s.qualRefresh.refOffset i ppb

theorem State.rd_refMeasured {f : Fld} (j : Nat) (hrec : recMask.testBit f.info.rg.ctorIdx = false) (hev : f.info.rg ≠ .TIM_EV)
    (hf : f ∉ [.TIM_REF_STATUS_offset, .TIM_REF_STATUS_wtr_run]) : (s.refMeasured i ppb).rd f j = s.qualRefresh.rd f j :=
  ((s.qualRefresh.refOffset_after i ppb).rd f j hrec hev hf).trans (State.rd_modRef _ _ _ _ _)

theorem State.refOf_refMeasured : (s.refMeasured i ppb).refOf i = { s.refOf i with freq := ppb } := by
  rw [← s.qualRefresh_steered.refOf i]
  exact ((s.qualRefresh.refOffset_after i ppb).refOf i).trans (State.refOf_modRef _ _ _)

theorem State.rxOf_clampRefresh (n : Nat) : s.clampRefresh.rxOf n = s.rxOf n :=
  List.foldlRecOn (motive := fun t : State => t.rxOf n = s.rxOf n) _ _ (State.rxOf_congr (s.clkRefresh_spec.keep .eng rfl) n)
    fun t ht k _ => by
      extract_lets f c was u
      have hu : u.rxOf n = s.rxOf n := (State.rxOf_modTx_any _ _ _ _).trans ht
      split
      · exact (State.rxOf_congr (State.raiseReg_eng _ _ _ _) n).trans hu
      · exact hu

theorem State.rxOf_refOffset (n : Nat) : (s.refOffset i ppb).rxOf n = s.rxOf n := by
  unfold State.refOffset
  extract_lets s1 s2
  have h1 : s1.rxOf n = s.rxOf n := rfl
  have h2 : s2.rxOf n = s1.rxOf n := by
    dsimp only [s2]
    split <;> rfl
  exact (s2.rxOf_clampRefresh n).trans (h2.trans h1)

theorem State.refOffset_oddSeen : (s.refOffset i ppb).tim.oddSeen = s.tim.oddSeen := by
  obtain ⟨_, _, _, _, _, e⟩ := (s.refOffset_after i ppb).tim
  rw [e]
  rfl

theorem State.qualRefresh_oddSeen : s.qualRefresh.tim.oddSeen = s.tim.oddSeen := by
  obtain ⟨_, _, _, _, _, e⟩ := s.qualRefresh_steered.tim
  rw [e]

theorem State.refMeasured_fuse : (s.refMeasured i ppb).fuse = s.fuse :=
  ((s.qualRefresh.refOffset_spec i ppb).keep .fuse rfl).trans (s.qualRefresh_spec.keep .fuse rfl)

theorem State.refNoQual_refMeasured : (s.refMeasured i ppb).refNoQual i = s.qualRefresh.refNoQual i := by
  unfold State.refNoQual
  rw [State.rd_refMeasured _ _ _ _ rfl (by decide) (by decide), State.rd_refMeasured _ _ _ _ rfl (by decide) (by decide)]

/-- The fields by which the activity of a reference shows. -/
def activityFlds : List Fld := [.TIM_REF_CFG_freq_code, .TIM_REF_CFG_src_port, .CLI_PORT_STATUS_rx_lock, .LE_STATUS_dsp_lock,
  .LE_FRM_STATUS_fmt_tx, .TIM_TT_CTRL_tt_engine]

theorem State.hasEng_congr {s t : State} (h : t.fuse = s.fuse) (n : Nat) : t.hasEng n = s.hasEng n := by
  unfold State.hasEng State.engines
  rw [h]

theorem State.refInactive_congr {s t : State} (hrd : ∀ f ∈ activityFlds, ∀ j, t.rd f j = s.rd f j) (hfuse : t.fuse = s.fuse)
    (hrx : ∀ n, t.rxOf n = s.rxOf n) (hodd : t.tim.oddSeen = s.tim.oddSeen) : t.refInactive i = s.refInactive i := by
  have hcode := hrd .TIM_REF_CFG_freq_code (by decide)
  have hport := hrd .TIM_REF_CFG_src_port (by decide)
  have hrxLock := hrd .CLI_PORT_STATUS_rx_lock (by decide)
  have hdspLock := hrd .LE_STATUS_dsp_lock (by decide)
  have hlevel := hrd .LE_FRM_STATUS_fmt_tx (by decide)
  have heng := hrd .TIM_TT_CTRL_tt_engine (by decide)
  unfold State.refInactive State.lineRefValid State.ttEngine State.on
  dsimp only
  rw [hcode, hport, hrxLock, State.hasEng_congr hfuse, hdspLock (i - 6), heng, hdspLock, hrx, hlevel, hodd]

theorem State.refInactive_refMeasured : (s.refMeasured i ppb).refInactive i = s.refInactive i := by
  have hrx : ∀ n, (s.refMeasured i ppb).rxOf n = s.rxOf n := fun n =>
    (s.qualRefresh.rxOf_refOffset i ppb n).trans (State.rxOf_congr (s.qualRefresh_spec.keep .eng rfl) n)
  have hodd : (s.refMeasured i ppb).tim.oddSeen = s.tim.oddSeen :=
    (s.qualRefresh.refOffset_oddSeen i ppb).trans s.qualRefresh_oddSeen
  refine State.refInactive_congr i (fun f hf j => ?_) (s.refMeasured_fuse i ppb) hrx hodd
  have hkept : ∀ f ∈ activityFlds, recMask.testBit f.info.rg.ctorIdx = false ∧ f.info.rg ≠ .TIM_EV
      ∧ f ∉ [Fld.TIM_REF_STATUS_offset, .TIM_REF_STATUS_wtr_run] ∧ f ∉ [Fld.TIM_REF_STATUS_qual_eff] := by decide
  obtain ⟨hrec, hev, hf1, hf2⟩ := hkept f hf
  exact (s.rd_refMeasured i ppb j hrec hev hf1).trans (s.qualRefresh_steered.rd f j hrec hev hf2)

end

/-- A reported fault that holds fails its reference, once qualities and offset are up to date. -/
theorem exec_refFail {i : RefId} {why : RefFault} {s : State} (hi : s.hasRef i = true)
    (h : s.qualRefresh.faultHolds i why = true) : ∃ u : State, exec (.refFail i why) s = .next (u.refFail i (faultCode why))
      ∧ u.rd .TIM_REF_STATUS_qualified i = s.rd .TIM_REF_STATUS_qualified i := by
  have hhas : ¬ (!s.hasRef i) = true := by simp [hi]
  have hkept := s.qualRefresh_steered.rd .TIM_REF_STATUS_qualified i rfl (by decide) (by decide)
  cases why with
  | quality => exact ⟨_, congrArg ok ((if_neg hhas).trans (if_pos h)), hkept⟩
  | freq ppb =>
    have hfar : ∀ t : State, t.faultHolds i (.freq ppb) = (decide (i.val < 10) && decide (12000 < ppb.natAbs)) := fun _ => rfl
    rw [hfar] at h
    exact ⟨s.refMeasured i ppb, congrArg ok ((if_neg hhas).trans (if_pos ((hfar _).trans h))),
      (s.rd_refMeasured i ppb i rfl (by decide) (by decide)).trans hkept⟩
  | activity => exact ⟨_, congrArg ok ((if_neg hhas).trans (if_pos h)), hkept⟩

/-! ### A reference is qualified (R319) -/

/-- A reference that is free of failure. -/
structure State.RefFree (s : State) (i : RefId) (ppb : Int) : Prop where
  present : s.hasRef i = true
  waits : s.on .TIM_REF_STATUS_qualified i = false
  quality : s.qualRefresh.refNoQual i = false
  active : s.refInactive i = false
  near : i.val < 10 → ppb.natAbs ≤ 10000

/-- How long a reference waits for its qualification. -/
def State.refWait (s : State) (i : Nat) : Nat := if (s.refOf i).ever then s.rd .TIM_SEL_CTRL_wtr else 10

/-- A reference is qualified, and selection follows. -/
def State.refTaken (s : State) (i : Nat) : State :=
  let s := s.wrs [(.TIM_REF_STATUS_qualified, i, 1), (.TIM_REF_STATUS_wtr_run, i, 0), (.TIM_REF_STATUS_fail, i, 0)]
  ((s.modRef i (fun r => { r with ever := true })).raiseReg .TIM_EV_ref_chg 0 { obj := i }).timSelect

section
variable {s : State} {i : RefId} {ppb : Int}

theorem State.refWait_refMeasured : (s.refMeasured i ppb).refWait i = s.refWait i := by
  unfold State.refWait
  rw [State.refOf_refMeasured, State.rd_refMeasured _ _ _ _ rfl (by decide) (by decide),
    s.qualRefresh_steered.rd _ _ rfl (by decide) (by decide)]

theorem exec_refQualify (secs : Nat) (h : s.RefFree i ppb) : exec (.refQualify i ppb secs) s
    = .next (if secs < s.refWait i then (s.refMeasured i ppb).wr .TIM_REF_STATUS_wtr_run i 1 else (s.refMeasured i ppb).refTaken i) := by
  have hquality := (s.refNoQual_refMeasured i ppb).trans h.quality
  have hactive := (s.refInactive_refMeasured i ppb).trans h.active
  have hnear : (decide (i.val < 10) && decide (10000 < ppb.natAbs)) = false := by
    have := h.near
    simp only [Bool.and_eq_false_iff, decide_eq_false_iff_not]
    omega
  rw [← State.refWait_refMeasured (ppb := ppb)]
  refine congrArg ok ((if_neg (by simp [h.present, h.waits])).trans (if_neg ?_))
  change ¬ ((s.refMeasured i ppb).refNoQual i || (s.refMeasured i ppb).refInactive i || _) = true
  rw [hquality, hactive, hnear]
  decide

theorem State.refTaken_shows (s : State) (i : Nat) : (s.refTaken i).rd .TIM_REF_STATUS_qualified i = 1
    ∧ (s.refTaken i).rd .TIM_REF_STATUS_fail i = 0 ∧ (s.refTaken i).rd .TIM_REF_STATUS_wtr_run i = 0
    ∧ (s.refTaken i).rd .TIM_EV_ref_chg = 1 ∧ ((s.refTaken i).refOf i).freq = (s.refOf i).freq := by
  unfold State.refTaken
  extract_lets s1
  have hselect := (State.Steered.raiseReg (f := .TIM_EV_ref_chg) 0 { obj := i } rfl rfl .refl).trans
    (State.timSelect_steered ((s1.modRef i fun r => { r with ever := true }).raiseReg .TIM_EV_ref_chg 0 { obj := i }))
  have hrd : ∀ f, recMask.testBit f.info.rg.ctorIdx = false → f.info.rg ≠ .TIM_EV → f ∉ selFlds → _ = s1.rd f i :=
    fun f hrec hev hf => (hselect.rd f i hrec hev hf).trans (State.rd_modRef _ _ _ _ _)
  refine ⟨?_, ?_, ?_, ?_, ?_⟩
  · rw [hrd _ rfl (by decide) (by decide)]
    dsimp only [s1]
    rw [State.wrs_cons, State.wrs_cons, State.wrs_cons, State.wrs_nil, State.rd_wr_ne _ _ _ _ (by decide),
      State.rd_wr_ne _ _ _ _ (by decide), State.rd_wr_self]
    rfl
  · rw [hrd _ rfl (by decide) (by decide)]
    exact State.rd_wr_self _ _ _ _
  · rw [hrd _ rfl (by decide) (by decide)]
    exact (State.rd_wr_ne _ _ _ _ (by decide)).trans (State.rd_wr_self _ _ _ _)
  · exact (State.timSelect_steered _).goes.raised _ _ rfl (State.rd_raiseReg_self _ _ _ _ rfl rfl)
  · rw [hselect.refOf, State.refOf_modRef]
    rfl

theorem exec_refQualify_qualifies {secs : Nat} (h : s.RefFree i ppb) (hwait : s.refWait i ≤ secs) :
    Ends (.refQualify i ppb secs) s fun t => t.rd .TIM_REF_STATUS_qualified i = 1 ∧ t.rd .TIM_REF_STATUS_fail i = 0
      ∧ t.rd .TIM_REF_STATUS_wtr_run i = 0 ∧ t.rd .TIM_EV_ref_chg = 1 ∧ (t.refOf i).freq = ppb := by
  obtain ⟨hqualified, hfail, hrun, hchg, hfreq⟩ := (s.refMeasured i ppb).refTaken_shows i
  refine ⟨_, (exec_refQualify secs h).trans (congrArg _ (if_neg (by omega))), hqualified, hfail, hrun, hchg, hfreq.trans ?_⟩
  rw [State.refOf_refMeasured]

theorem exec_refQualify_waits {secs : Nat} (h : s.RefFree i ppb) (hwait : secs < s.refWait i) :
    Ends (.refQualify i ppb secs) s fun t => t.rd .TIM_REF_STATUS_qualified i = 0 ∧ t.rd .TIM_REF_STATUS_wtr_run i = 1 := by
  refine ⟨_, (exec_refQualify secs h).trans (congrArg _ (if_pos hwait)), ?_, State.rd_wr_self _ _ _ _⟩
  rw [State.rd_wr_ne _ _ _ _ (by decide), State.rd_refMeasured _ _ _ _ rfl (by decide) (by decide),
    s.qualRefresh_steered.rd _ _ rfl (by decide) (by decide)]
  exact State.on_eq_false h.waits

end

/-! ### Lock and unlock (R324, R329) -/

/-- DPLL `k` moves from one state to another. -/
def State.dpllMove (s : State) (k was now : Nat) : State :=
  if k = 0 then if s.d0 == was then s.setD0 now else s
  else if s.rd .TIM_DPLL_STATUS_dk_state (k - 1) == was then s.wr .TIM_DPLL_STATUS_dk_state (k - 1) now else s

theorem State.dpllMove_shows {s : State} {k was now : Nat} (hnow : now < 2 ^ 3) (h0 : k = 0 → s.d0 = was)
    (hk : k ≠ 0 → s.rd .TIM_DPLL_STATUS_dk_state (k - 1) = was) : (k = 0 → (s.dpllMove k was now).d0 = now)
      ∧ (k ≠ 0 → (s.dpllMove k was now).rd .TIM_DPLL_STATUS_dk_state (k - 1) = now) := by
  unfold State.dpllMove
  refine ⟨fun h => ?_, fun h => ?_⟩
  · rw [if_pos h, if_pos (by simp [h0 h])]
    exact s.setD0_d0 hnow
  · rw [if_neg h, if_pos (by simp [hk h]), State.rd_wr_self]
    exact Nat.mod_eq_of_lt hnow

/-! ### Samples of REF10 (R317; 11_host_rings.md R398) -/

section
variable {s : State} {r : RingId} {d : Desc}

theorem exec_timeSample (hd : s.headDesc r 0x40 = some d) : exec (.timeSample r) s = .next ((s.popDesc r).timeSample d) := by
  change execTimeSample r s = _
  simp only [execTimeSample, State.settle_of_head hd, hd]
  rfl

/-- The instant that a sample names. -/
def sampleInstant (d : Desc) : Nat := ofStamp88 (fromLE (slice d.cls 0 11))

/-- The number of a sample. -/
def sampleSeq (d : Desc) : Nat := fromLE (slice d.cls 22 2)

theorem State.timeSample_refused (h : 2 * todSec < (todDiff (sampleInstant d) s.tim.tod).natAbs) : s.timeSample d = s.refuse d 1 :=
  if_pos h

/-- What a sample near the present sets, before its descriptor completes. -/
def State.sampleTaken (s : State) (d : Desc) : State :=
  (({ s with host := { s.host with ref10Seq := some (sampleSeq d) } }.modRef 10 (fun r =>
    { r with sample := ofTwos 64 (fromLE (slice d.cls 12 8)), adv := byteAt d.cls 20 % 16 })).measured 10).timSelect

theorem State.timeSample_taken (hnear : (todDiff (sampleInstant d) s.tim.tod).natAbs ≤ 2 * todSec)
    (hnew : s.host.ref10Seq ≠ some (sampleSeq d)) : s.timeSample d = (s.sampleTaken d).done d :=
  (if_neg (Nat.not_lt.mpr hnear)).trans (if_neg fun h => hnew (eq_of_beq h))

theorem State.sampleTaken_shows (s : State) (d : Desc) :
    ((s.sampleTaken d).refOf 10).sample = ofTwos 64 (fromLE (slice d.cls 12 8))
      ∧ (s.sampleTaken d).host.ref10Seq = some (sampleSeq d) := by
  unfold State.sampleTaken
  refine ⟨?_, (State.timSelect_steered _).goes.emits.ref10Seq⟩
  rw [(State.timSelect_steered _).refOf, State.measured, State.refOf_modRef, State.refOf_modRef]

theorem exec_timeSample_ends (hd : s.headDesc r 0x40 = some d) : Ends (.timeSample r) s fun t =>
    (2 * todSec < (todDiff (sampleInstant d) s.tim.tod).natAbs → t.ended d 1 1 0)
      ∧ ((todDiff (sampleInstant d) s.tim.tod).natAbs ≤ 2 * todSec → s.host.ref10Seq ≠ some (sampleSeq d) →
          t.ended d 0 0 0 ∧ (t.refOf 10).sample = ofTwos 64 (fromLE (slice d.cls 12 8))
            ∧ t.host.ref10Seq = some (sampleSeq d)) := by
  refine ⟨_, exec_timeSample hd, ?_⟩
  rw [← s.popDesc_tim r]
  refine ⟨fun hfar => ?_, fun hnear hnew => ?_⟩
  · rw [State.timeSample_refused hfar]
    exact State.refuse_ended _ _ _
  · rw [State.timeSample_taken hnear hnew]
    obtain ⟨hsample, hseq⟩ := (s.popDesc r).sampleTaken_shows d
    refine ⟨State.done_ended _ _ _ _ _, ?_, ?_⟩
    · rw [State.refOf, (State.done_spec _ _ _ _ _).keep .tim rfl]
      exact hsample
    · rw [(State.done_spec _ _ _ _ _).keep .host rfl]
      exact hseq

end

/-- Settles O20: every move of a reference ends in selection, which leaves its own bits, the events and the references, and
takes no source that is not qualified. -/
theorem timingReferences : Obligations.TimingReferences := by
  refine ⟨?fails, ?qualifies, ?waits, ?locks, ?learns, ?traced, ?expires, ?sample⟩
  case fails =>
    intro i why s hi hholds
    obtain ⟨u, hexec, hkept⟩ := exec_refFail hi hholds
    obtain ⟨hqualified, hfail, hfreq, htime⟩ := u.refFail_down i.isLt (faultCode_lt why)
    exact ⟨_, hexec, hqualified, hfail, hfreq, htime, fun h => (State.refFail_raises (hkept.trans h)).1⟩
  case qualifies =>
    exact fun i ppb secs s hi hno hquality hactive hnear hwait => exec_refQualify_qualifies ⟨hi, hno, hquality, hactive, hnear⟩ hwait
  case waits =>
    exact fun i ppb secs s hi hno hquality hactive hnear hwait => exec_refQualify_waits ⟨hi, hno, hquality, hactive, hnear⟩ hwait
  case locks =>
    rintro k c v s (⟨rfl, rfl⟩ | ⟨rfl, rfl⟩) h0 hk
    · exact ⟨s.dpllMove k 1 2, rfl, State.dpllMove_shows (by decide) h0 hk⟩
    · exact ⟨s.dpllMove k 2 1, rfl, State.dpllMove_shows (by decide) h0 hk⟩
  case learns =>
    rintro m c s hlearning (rfl | ⟨rfl, hready⟩)
    · refine ⟨_, congrArg ok (if_pos hlearning), rfl, ?_, nofun⟩
      exact (State.rd_wr_self s .TIM_DPLL0_STATUS_model_ready 0 1).trans_ne (by decide)
    · refine ⟨_, congrArg ok (if_pos (by rw [hlearning, hready]; rfl)), rfl, ?_, fun _ => rfl⟩
      exact bne_iff_ne.mp hready
  case traced =>
    intro e s hquality hlocked hnear
    by_cases htrace : s.rd .TIM_DPLL0_STATUS_tod_trace = 1
    · exact ⟨s, congrArg ok (if_neg (by simp [htrace])), htrace⟩
    · exact ⟨_, congrArg ok (if_pos (by simpa [hlocked, hnear, htrace] using hquality)), s.rd_setTrace 1⟩
  case expires =>
    intro s htrace h5 hlimit
    refine ⟨_, congrArg ok (if_pos (by simp [htrace, h5, hlimit])), ?_, State.rd_raiseReg_self _ _ _ _ rfl rfl⟩
    exact (State.rd_raiseReg_ne _ _ _ _ rfl (by decide)).trans (s.rd_setTrace 3)
  case sample => exact fun r d s hd => exec_timeSample_ends hd

end Sys2Proof.Machine
end

section
/-! Time over the fibre: what a used block leaves, which blocks are not used, and how a held dispersion and the discarding after
a far switch end (09_timing.md R338 to R346). -/
namespace Sys2Proof.Machine

/-! ### A used block (R338 to R342) -/

/-- The quality that a block carries. -/
def ttQuality (blk : List Byte) : Nat := byteAt blk 0 / 4 % 16

section
variable (s : State)

/-- A block is stamped with its superframe and gives the reference of its engine its quality. -/
def State.ttStamped (n : Nat) (blk : List Byte) (sfm : Nat) : State :=
  let rx : Stamp := { psc := fromBE (slice blk 2 2), tod := todAdd sfm (-(of10ps (s.rdInt .TIM_TT_CFG_rx_ext n))) }
  let s := { s with tim := { s.tim with rxSt := SMap.mod [] s.tim.rxSt n (fun l => (rx :: l).take 64) } }
  (s.modRx n (fun x => { x with ttAge := 0 })).modRef (6 + n) (fun r => { r with adv := ttQuality blk, rxOk := true })

/-- A block on the engine of REF11 shows in TIM_TT_STATUS and in the quality of REF11. -/
def State.ttShown (blk : List Byte) : State :=
  (s.wrs [(.TIM_TT_STATUS_tt_rx_ok, 0, 1), (.TIM_TT_STATUS_far_qual, 0, ttQuality blk),
    (.TIM_TT_STATUS_far_trace, 0, byteAt blk 0 % 4)]).modRef 11 (fun r => { r with adv := ttQuality blk })

/-- REF11 learns from a block: the far end's frequency and dispersion of an odd one, a sample of an even one. -/
def State.ttLearned (n : Nat) (blk : List Byte) : State :=
  if fromBE (slice blk 2 2) % 2 = 1 then
    { s with tim := { s.tim with oddSeen := true, farNu := fromBE (slice blk 4 4), farCd := ofTwos 24 (fromBE (slice blk 8 3)),
                                 farCdV := byteAt blk 11 % 2 == 1 } }.dtauRefresh
  else
    let s := s.dtauRefresh
    match s.theta2 n blk with
    | none => s
    | some t => if s.tim.discard then s else { s with tim := { s.tim with samples := s.tim.samples ++ [t] } }

/-- A used block, up to selection. -/
def State.ttTaken (n : Nat) (blk : List Byte) (sfm : Nat) : State :=
  let s := s.ttStamped n blk sfm
  if s.ttEngine != n then s else (s.ttShown blk).ttLearned n blk

theorem State.ttUsed_eq (n : Nat) (blk : List Byte) (sfm : Nat) : s.ttUsed n blk sfm = (s.ttTaken n blk sfm).timSelect := rfl

theorem State.ttStamped_refOf (n : Nat) (blk : List Byte) (sfm : Nat) :
    (s.ttStamped n blk sfm).refOf (6 + n) = { s.refOf (6 + n) with adv := ttQuality blk, rxOk := true } :=
  State.refOf_modRef _ _ _

theorem State.ttStamped_rxSt (n : Nat) (blk : List Byte) (sfm : Nat) :
    ((SMap.get [] (s.ttStamped n blk sfm).tim.rxSt n).head?.map (·.psc)) = some (fromBE (slice blk 2 2)) := by
  obtain ⟨x, hx, hrx⟩ : ∃ x : Stamp, x.psc = fromBE (slice blk 2 2)
      ∧ (s.ttStamped n blk sfm).tim.rxSt = SMap.mod [] s.tim.rxSt n fun l => (x :: l).take 64 := ⟨_, rfl, rfl⟩
  rw [hrx, SMap.get_mod_self, ← hx]
  rfl

theorem State.ttShown_shows (blk : List Byte) : (s.ttShown blk).rd .TIM_TT_STATUS_tt_rx_ok = 1
    ∧ (s.ttShown blk).rd .TIM_TT_STATUS_far_qual = ttQuality blk
    ∧ (s.ttShown blk).rd .TIM_TT_STATUS_far_trace = byteAt blk 0 % 4 := by
  unfold State.ttShown
  rw [State.rd_modRef, State.rd_modRef, State.rd_modRef, State.wrs_cons, State.wrs_cons, State.wrs_cons, State.wrs_nil]
  refine ⟨?_, ?_, ?_⟩
  · rw [State.rd_wr_ne _ _ _ _ (by decide), State.rd_wr_ne _ _ _ _ (by decide), State.rd_wr_self]
    rfl
  · rw [State.rd_wr_ne _ _ _ _ (by decide), State.rd_wr_self]
    exact Nat.mod_mod _ _
  · rw [State.rd_wr_self]
    exact Nat.mod_mod _ _

theorem State.rd_dtauRefresh {f : Fld} (i : Nat) (hf : .TIM_TT_STATUS_cd_hold ≠ f) : s.dtauRefresh.rd f i = s.rd f i :=
  State.rd_wr_ne _ _ _ _ hf

theorem State.rd_ttLearned (n : Nat) (blk : List Byte) {f : Fld} (i : Nat) (hf : .TIM_TT_STATUS_cd_hold ≠ f) :
    (s.ttLearned n blk).rd f i = s.rd f i := by
  unfold State.ttLearned
  split
  · exact State.rd_dtauRefresh _ _ hf
  · dsimp only
    split
    · exact s.rd_dtauRefresh _ hf
    · split
      · exact s.rd_dtauRefresh _ hf
      · exact s.rd_dtauRefresh _ hf

/-- What REF11 learns leaves the references and the stamps, and adds no sample while samples are discarded. -/
theorem State.ttLearned_keeps (n : Nat) (blk : List Byte) : (s.ttLearned n blk).tim.ref = s.tim.ref
    ∧ (s.ttLearned n blk).tim.rxSt = s.tim.rxSt
    ∧ (s.tim.discard = true → (s.ttLearned n blk).tim.samples = s.tim.samples) := by
  have hdiscard : s.dtauRefresh.tim.discard = s.tim.discard := rfl
  unfold State.ttLearned
  split
  case isTrue => exact ⟨rfl, rfl, fun _ => rfl⟩
  case isFalse =>
    dsimp only
    split
    · exact ⟨rfl, rfl, fun _ => rfl⟩
    · split
      case isTrue => exact ⟨rfl, rfl, fun _ => rfl⟩
      case isFalse h => exact ⟨rfl, rfl, fun hd => absurd (hdiscard.trans hd) h⟩

end

/-- What a used block of engine `n` leaves. -/
structure State.TtUse (s : State) (n : Nat) (blk : List Byte) (t : State) : Prop where
  rxOk : (t.refOf (6 + n)).rxOk = true
  adv : (t.refOf (6 + n)).adv = ttQuality blk
  stamp : ((SMap.get [] t.tim.rxSt n).head?.map (·.psc)) = some (fromBE (slice blk 2 2))
  shown : s.ttEngine = n → t.rd .TIM_TT_STATUS_tt_rx_ok = 1 ∧ t.rd .TIM_TT_STATUS_far_qual = ttQuality blk
    ∧ t.rd .TIM_TT_STATUS_far_trace = byteAt blk 0 % 4
  samples : s.tim.discard = true → t.tim.samples = s.tim.samples

section
variable {s : State} {n : Nat} {blk : List Byte} {sfm : Nat}

theorem State.ttTaken_use (hn : n < 4) : s.TtUse n blk (s.ttTaken n blk sfm) := by
  have href := s.ttStamped_refOf n blk sfm
  have hstamp := s.ttStamped_rxSt n blk sfm
  have hsamples : (s.ttStamped n blk sfm).tim.samples = s.tim.samples := rfl
  have hdiscard : (s.ttStamped n blk sfm).tim.discard = s.tim.discard := rfl
  have heng : (s.ttStamped n blk sfm).ttEngine = s.ttEngine := rfl
  unfold State.ttTaken
  generalize s.ttStamped n blk sfm = u at *
  dsimp only
  rw [heng]
  split
  case isTrue h => exact ⟨by rw [href], by rw [href], hstamp, fun e => absurd e (bne_iff_ne.mp h), fun _ => hsamples⟩
  case isFalse =>
    obtain ⟨hrefs, hrxSt, hkept⟩ := (u.ttShown blk).ttLearned_keeps n blk
    have href' : (((u.ttShown blk).ttLearned n blk).refOf (6 + n)) = u.refOf (6 + n) := by
      rw [State.refOf, hrefs]
      exact State.refOf_modRef_ne _ _ (by omega)
    refine ⟨by rw [href', href], by rw [href', href], ?_, fun _ => ?_, fun hd => ?_⟩
    · rw [hrxSt]
      exact hstamp
    · rw [State.rd_ttLearned _ _ _ _ (by decide), State.rd_ttLearned _ _ _ _ (by decide), State.rd_ttLearned _ _ _ _ (by decide)]
      exact u.ttShown_shows blk
    · exact (hkept (hdiscard.trans hd)).trans hsamples

/-- Selection leaves what a used block left. -/
theorem State.TtUse.timSelect {t : State} (h : s.TtUse n blk t) : s.TtUse n blk t.timSelect := by
  obtain ⟨hrxOk, hadv, hstamp, hshown, hsamples⟩ := h
  have hselect := t.timSelect_steered
  generalize t.timSelect = u at *
  have hrd : ∀ f ∈ [Fld.TIM_TT_STATUS_tt_rx_ok, .TIM_TT_STATUS_far_qual, .TIM_TT_STATUS_far_trace], u.rd f = t.rd f := by
    have hfar : ∀ f ∈ [Fld.TIM_TT_STATUS_tt_rx_ok, .TIM_TT_STATUS_far_qual, .TIM_TT_STATUS_far_trace],
        recMask.testBit f.info.rg.ctorIdx = false ∧ f.info.rg ≠ .TIM_EV ∧ f ∉ selFlds := by decide
    intro f hf
    obtain ⟨hrec, hev, hsel⟩ := hfar f hf
    exact hselect.rd f 0 hrec hev hsel
  rw [← hselect.refOf] at hrxOk hadv
  rw [← hrd _ (by decide), ← hrd _ (by decide), ← hrd _ (by decide)] at hshown
  obtain ⟨_, _, _, _, _, htim⟩ := hselect.tim
  refine ⟨hrxOk, hadv, ?_, hshown, fun hd => ?_⟩
  · rw [htim]
    exact hstamp
  · rw [htim]
    exact hsamples hd

theorem State.ttUsed_use (hn : n < 4) : s.TtUse n blk (s.ttUsed n blk sfm) := by
  rw [State.ttUsed_eq]
  exact (State.ttTaken_use hn).timSelect

end

/-! ### Which blocks are used (R338) -/

/-- No bytes are no good block: their CRC is not 0. -/
theorem ne_nil_of_crc {blk : List Byte} (h : crc16 (slice blk 0 30) = fromBE (slice blk 30 2)) : blk ≠ [] := by
  rintro rfl
  exact absurd h (by decide)

section
variable {s : State} {n : Eng} {blk : List Byte} {mark : Bool}

theorem exec_ttBlockRx (h : blk ≠ []) : exec (.ttBlockRx n blk mark) s = .next (s.ttTake n blk mark (s.rxOf n).sfmTod) :=
  congrArg ok (if_pos (by simpa using h))

theorem State.ttTake_used (sfm : Nat) (hlpn : s.lpn n = true) (hlvl : 2 ≤ (s.rxOf n).lvl)
    (hcrc : crc16 (slice blk 0 30) = fromBE (slice blk 30 2)) : s.ttTake n blk false sfm = s.ttUsed n blk sfm :=
  if_pos (by simp [hlpn, hlvl, hcrc])

theorem State.ttTake_unused (sfm : Nat)
    (h : mark = true ∨ crc16 (slice blk 0 30) ≠ fromBE (slice blk 30 2) ∨ (s.rxOf n).lvl < 2) : s.ttTake n blk mark sfm = s := by
  refine if_neg fun hgood => ?_
  simp only [Bool.and_eq_true, decide_eq_true_eq, Bool.not_eq_true', beq_iff_eq] at hgood
  obtain ⟨⟨⟨_, hlvl⟩, hmark⟩, hcrc⟩ := hgood
  rcases h with h | h | h
  · exact absurd (hmark.symm.trans h) (by decide)
  · exact h hcrc
  · omega

end

/-- Settles O21: a good block is used, which selection leaves as it is; the others are dropped, and a held dispersion is a
failure of REF11. -/
theorem timeTransfer : Obligations.TimeTransfer := by
  refine ⟨?used, ?unused, ?held, ?discarded⟩
  case used =>
    intro n blk s hlpn hlvl hcrc
    obtain ⟨hrxOk, hadv, hstamp, hshown, hsamples⟩ := s.ttUsed_use (blk := blk) (sfm := (s.rxOf n).sfmTod) n.isLt
    rw [← State.ttTake_used _ hlpn hlvl hcrc] at hrxOk hadv hstamp hshown hsamples
    exact ⟨_, exec_ttBlockRx (ne_nil_of_crc hcrc), hrxOk, hadv, hstamp, hshown, hsamples⟩
  case unused => exact fun n blk mark s hblk h => ⟨_, exec_ttBlockRx hblk, State.ttTake_unused _ h⟩
  case held =>
    intro s hheld
    obtain ⟨hqualified, hfail, hfreq, htime⟩ := s.refFail_down (i := 11) (code := 1) (by decide) (by decide)
    exact ⟨_, congrArg ok (if_pos hheld), hqualified, hfail, hfreq, htime, fun h => (State.refFail_raises h).2 rfl⟩
  case discarded => exact fun s => ⟨_, rfl, rfl⟩

end Sys2Proof.Machine
end

section
/-! KEY commands: what a locker shows in its status register, and how each op passes its checks or is refused
(10_cipher.md R362, R365, R366; 11_host_rings.md R399). -/
namespace Sys2Proof.Machine

/-! ### A locker in its status register (10_cipher.md R362, R371) -/

/-- The fields of CIPH_LOCKn_STATUS that show the slots of a locker. -/
def slotFlds : List Fld :=
  [.CIPH_LOCK_STATUS_cur_valid, .CIPH_LOCK_STATUS_nxt_valid, .CIPH_LOCK_STATUS_cur_kgen, .CIPH_LOCK_STATUS_nxt_kgen]

/-- CIPH_LOCKn_STATUS shows these slots of a locker. -/
structure State.ShowsSlots (s : State) (l : Nat) (k : Locker) : Prop where
  curValid : s.rd .CIPH_LOCK_STATUS_cur_valid l = b2n k.cur.key.isSome
  nxtValid : s.rd .CIPH_LOCK_STATUS_nxt_valid l = b2n k.nxt.key.isSome
  curKgen : s.rd .CIPH_LOCK_STATUS_cur_kgen l = k.cur.kgen % 2 ^ 8
  nxtKgen : s.rd .CIPH_LOCK_STATUS_nxt_kgen l = k.nxt.kgen % 2 ^ 8

theorem State.ShowsSlots.congr {s t : State} {l : Nat} {k : Locker} (h : s.ShowsSlots l k) (e : ∀ f i, t.rd f i = s.rd f i) :
    t.ShowsSlots l k := by
  obtain ⟨hcur, hnxt, hcurKgen, hnxtKgen⟩ := h
  exact ⟨(e _ _).trans hcur, (e _ _).trans hnxt, (e _ _).trans hcurKgen, (e _ _).trans hnxtKgen⟩

section
variable (s : State) (l : Nat) (g : Locker → Locker)

theorem State.lockShow_shows : (s.lockShow l).ShowsSlots l (s.lockOf l) := by
  unfold State.lockShow
  constructor <;> simp only [State.wrs_cons, State.wrs_nil, State.rd_wr, reduceCtorEq, false_and, and_self, if_false, if_true]
  case curValid => exact b2n_mod_two _
  case nxtValid => exact b2n_mod_two _
  case curKgen => rfl
  case nxtKgen => rfl

/-- Showing the slots of a locker leaves the other fields. -/
theorem State.rd_lockShow {f : Fld} (i : Nat) (hf : f ∉ slotFlds) : (s.lockShow l).rd f i = s.rd f i := by
  simp only [slotFlds, List.mem_cons, List.not_mem_nil, or_false, not_or] at hf
  obtain ⟨hcur, hnxt, hcurKgen, hnxtKgen⟩ := hf
  simp [State.lockShow, State.rd_wr_ne, Ne.symm hcur, Ne.symm hnxt, Ne.symm hcurKgen, Ne.symm hnxtKgen]

@[simp] theorem State.lockShow_lock : (s.lockShow l).lock = s.lock := (s.lockShow_spec l).keep .lock rfl

@[simp] theorem State.rd_mirrorLocker (f : Fld) (i : Nat) : (s.mirrorLocker l).rd f i = s.rd f i :=
  Spec.rd_part (F := 0x202000) (s.mirrorLocker_spec l) f i

@[simp] theorem State.mirrorLocker_lock : (s.mirrorLocker l).lock = s.lock := (s.mirrorLocker_spec l).keep .lock rfl

theorem State.lockOf_keySet : (s.keySet l g).lockOf l = g (s.lockOf l) := by
  have hlock : (s.keySet l g).lock = (s.modLock l g).lock := by simp [State.keySet]
  rw [State.lockOf_congr hlock, State.lockOf_modLock]

theorem State.keySet_shows : (s.keySet l g).ShowsSlots l (g (s.lockOf l)) := by
  have h := ((s.modLock l g).lockShow_shows l).congr fun f i => ((s.modLock l g).lockShow l).rd_mirrorLocker l f i
  rwa [State.lockOf_modLock] at h

theorem State.rd_keySet {f : Fld} (i : Nat) (hf : f ∉ slotFlds) : (s.keySet l g).rd f i = s.rd f i := by
  rw [State.keySet, State.rd_mirrorLocker, State.rd_lockShow _ _ _ hf, State.rd_modLock]

end

/-! ### How a KEY command ends (R366) -/

/-- A refusal ends the command with its code and leaves the lockers. -/
theorem State.keyRefuse_ends (s : State) (d : Desc) (e : Nat) :
    (s.keyRefuse d e).ended d 1 e 0 ∧ (s.keyRefuse d e).lock = s.lock := by
  refine ⟨State.refuse_ended _ _ _, ?_⟩
  unfold State.keyRefuse
  split <;> simp

section
variable {s : State} {d : Desc}

/-- A key that no check stops is unwrapped into NXT. -/
theorem State.keyLoad_unwraps {data : BufRead} {key : Nat} (herr : data.err = false) (hpass : s.keyErr d = 0)
    (hkey : s.fuse.kek.bind (fun kek => keyUnwrap kek data.bytes) = some key) (hlen : d.len = 40) :
    s.keyLoad d data = (s.keySet (keyLocker d.param0)
      fun k => { k with nxt := { key := some key, kgen := keyGen d.param0 } }).done d 0 0 40 := by
  obtain ⟨kek, hkek, hunwrap⟩ := Option.bind_eq_some_iff.mp hkey
  simp [State.keyLoad, herr, hpass, hkek, hunwrap, hlen]

/-- A key that does not unwrap, or is not wrapped in 40 bytes, is refused UNWRAP. -/
theorem State.keyLoad_unwrap_fails {data : BufRead} (herr : data.err = false) (hpass : s.keyErr d = 0)
    (hkey : s.fuse.kek.bind (fun kek => keyUnwrap kek data.bytes) = none ∨ d.len ≠ 40) :
    s.keyLoad d data = s.keyRefuse d 9 := by
  unfold State.keyLoad
  rw [if_neg (by simp [herr])]
  simp only [hpass, bne_self_eq_false, Bool.false_eq_true, if_false]
  cases hkek : s.fuse.kek with
  | none => rfl
  | some kek =>
    cases hunwrap : keyUnwrap kek data.bytes with
    | none => simp only [hunwrap]
    | some key =>
      have hlen : d.len ≠ 40 := by simpa [hkek, hunwrap] using hkey
      simp only [hunwrap]
      exact if_pos (bne_iff_ne.mpr hlen)

theorem State.keyLoad_refused {data : BufRead} (herr : data.err = false) (hfail : s.keyErr d ≠ 0) :
    s.keyLoad d data = s.keyRefuse d (s.keyErr d) := by
  simp [State.keyLoad, herr, hfail]

/-- A locker without the key of the slot that an ERASE names. -/
def Locker.erased (k : Locker) (slot : Nat) : Locker := if slot = 0 then { k with cur := {} } else { k with nxt := {} }

/-- NXT holds a key where a PROMOTE passes its checks. -/
theorem State.nxt_isSome_of_keyErr (hop : keyOp d.param0 = 3) (hpass : s.keyErr d = 0) :
    (s.lockOf (keyLocker d.param0)).nxt.key.isSome = true := by
  by_contra hempty
  have hnone : (s.lockOf (keyLocker d.param0)).nxt.key.isNone = true := by simpa using hempty
  simp [State.keyErr, hop, hnone, ite_eq_iff] at hpass

/-! ### The commands take the descriptor at the head of their ring (R365) -/

variable {r : RingId} (hd : s.headDesc r 0x30 = some d)
include hd

theorem State.headKey_of_head {ops : Nat → Bool} (hop : ops (keyOp d.param0) = true) : s.headKey r ops = some d := by
  simp [State.headKey, hd, hop]

theorem exec_keyLoad (data : BufRead) (hop : keyOp d.param0 = 1) :
    exec (.keyLoad r data) s = .next ((s.popDesc r).keyLoad d data) := by
  change execKeyLoad r data s = _
  simp only [execKeyLoad, State.settle_of_head hd, State.headKey_of_head (ops := (· == 1)) hd (by simp [hop])]
  rfl

theorem exec_keyErase (hop : keyOp d.param0 = 2) : exec (.keyErase r) s = .next (if s.keyErr d != 0
    then (s.popDesc r).keyRefuse d (s.keyErr d)
    else ((s.popDesc r).keySet (keyLocker d.param0) fun k => k.erased (keySlot d.param0)).done d) := by
  change execKeyErase r s = _
  simp only [execKeyErase, State.settle_of_head hd, State.headKey_of_head (ops := (· == 2)) hd (by simp [hop]),
    Locker.erased, beq_iff_eq]
  rfl

theorem exec_keyPromote (hop : keyOp d.param0 = 3) : exec (.keyPromote r) s = .next (if s.keyErr d != 0
    then (s.popDesc r).keyRefuse d (s.keyErr d) else ((s.popDesc r).promote (keyLocker d.param0)).done d) := by
  change execKeyPromote r s = _
  simp only [execKeyPromote, State.settle_of_head hd, State.headKey_of_head (ops := (· == 3)) hd (by simp [hop])]
  rfl

theorem exec_keyReservedOp (hop : keyOp d.param0 = 0 ∨ 3 < keyOp d.param0) :
    exec (.keyReservedOp r) s = .next ((s.popDesc r).keyRefuse d 1) := by
  change execKeyReservedOp r s = _
  simp only [execKeyReservedOp, State.settle_of_head hd,
    State.headKey_of_head (ops := fun op => op == 0 || decide (3 < op)) hd (by simpa using hop)]
  rfl

end

/-- Serving a ring changes nothing that the checks of R366 look at. -/
theorem State.keyErr_popDesc (s : State) (r : Nat) (d : Desc) : (s.popDesc r).keyErr d = s.keyErr d := rfl

/-- One whose check fails is refused with its code. -/
theorem exec_key_refused {r : RingId} {d : Desc} {s : State} (hd : s.headDesc r 0x30 = some d) {data : BufRead} {c : Instr}
    (hc : c = .keyLoad r data ∧ data.err = false ∧ keyOp d.param0 = 1
      ∨ c = .keyErase r ∧ keyOp d.param0 = 2 ∨ c = .keyPromote r ∧ keyOp d.param0 = 3) (hfail : s.keyErr d ≠ 0) :
    exec c s = .next ((s.popDesc r).keyRefuse d (s.keyErr d)) := by
  rcases hc with ⟨rfl, herr, hop⟩ | ⟨rfl, hop⟩ | ⟨rfl, hop⟩
  · exact (exec_keyLoad hd data hop).trans (congrArg _ (State.keyLoad_refused herr hfail))
  · rw [exec_keyErase hd hop, if_pos (bne_iff_ne.mpr hfail)]
  · rw [exec_keyPromote hd hop, if_pos (bne_iff_ne.mpr hfail)]

/-- Settles O22: serving the ring leaves what the checks look at, so that each command goes on as they say, and a locker
that changes is shown and mirrored without a further change. -/
theorem keyCommands : Obligations.KeyCommands := by
  refine ⟨?loads, ?unread, ?refused, ?erases, ?promotes, ?reserved⟩
  case loads =>
    intro r d data s hd hop herr hpass
    refine ⟨_, exec_keyLoad hd data hop, ?_⟩
    rw [← s.popDesc_fuse r]
    rw [← s.keyErr_popDesc r d] at hpass
    refine ⟨fun hbad => ?_, fun key hkey hlen => ?_⟩
    · rw [State.keyLoad_unwrap_fails herr hpass hbad]
      exact (s.popDesc r).keyRefuse_ends d 9
    · rw [State.keyLoad_unwraps herr hpass hkey hlen, State.lockOf_done, State.rd_done, State.rd_done, State.lockOf_keySet]
      have hshows := (s.popDesc r).keySet_shows (keyLocker d.param0)
        fun k => { k with nxt := { key := some key, kgen := keyGen d.param0 } }
      exact ⟨State.done_ended _ _ _ _ _, rfl, rfl, hshows.nxtValid,
        hshows.nxtKgen.trans (Nat.mod_eq_of_lt (fieldOf_lt _ 24 8))⟩
  case unread =>
    intro r d data s hd hop herr
    refine ⟨_, exec_keyLoad hd data hop, ?_⟩
    rw [State.keyLoad, if_pos herr]
    exact ⟨State.done_ended _ _ _ _ _, by simp⟩
  case refused =>
    exact fun r d data c s hd hc hfail => ⟨_, exec_key_refused hd hc hfail, (s.popDesc r).keyRefuse_ends d _⟩
  case erases =>
    intro r d s hd hop hpass
    refine ⟨_, (exec_keyErase hd hop).trans (congrArg _ (if_neg (by simp [hpass]))), State.done_ended _ _ _ _ _, ?_⟩
    rw [State.lockOf_done, State.rd_done, State.rd_done, State.lockOf_keySet]
    refine ⟨rfl, ?_⟩
    have hshows := (s.popDesc r).keySet_shows (keyLocker d.param0) fun k => k.erased (keySlot d.param0)
    split
    case isTrue hslot => exact hshows.curValid.trans (by rw [Locker.erased, if_pos hslot]; rfl)
    case isFalse hslot => exact hshows.nxtValid.trans (by rw [Locker.erased, if_neg hslot]; rfl)
  case promotes =>
    intro r d s hd hop hpass
    refine ⟨_, (exec_keyPromote hd hop).trans (congrArg _ (if_neg (by simp [hpass]))), State.done_ended _ _ _ _ _, ?_⟩
    have hkey := State.nxt_isSome_of_keyErr hop hpass
    rw [State.lockOf_done, State.rd_done, State.rd_done, State.promote, State.lockOf_keySet]
    refine ⟨rfl, rfl, ?_, (State.keySet_shows _ _ _).curValid.trans (congrArg b2n hkey)⟩
    rw [State.rd_keySet _ _ _ _ (by decide), State.rd_wr_self]
    exact Nat.mod_eq_of_lt (Nat.lt_succ_of_le (Nat.sub_le _ _))
  case reserved => exact fun r d s hd hop => ⟨_, exec_keyReservedOp hd hop, (s.popDesc r).keyRefuse_ends d 1⟩

end Sys2Proof.Machine
end

section
/-! The cipher beside the keys: release of a locker, the key phase flip, the entropy source and the halt
(10_cipher.md R362, R367, R369 to R371). -/
namespace Sys2Proof.Machine

/-! ### Writes of one field (17_register_map.md R537) -/

theorem State.fieldWrite_takes {s : State} {rq : Requester} {f : Fld} {i : Nat} (v : Nat)
    (h : s.fate rq f.info.rg i = .takes) :
    s.fieldWrite rq f i v = s.regAct rq f.info.rg i (s.fieldWord f i v % 2 ^ 32) := by
  simp only [State.fieldWrite, State.regTake, h]

/-- The word of a write of one field adds to it the register's other RW fields as they are held; each field comes with its
place and its width. -/
theorem State.fieldWord_eq (s : State) {f : Fld} (i v : Nat) {lo w : Nat} {l : List (Fld × Nat × Nat)}
    (hf : (f.info.lo, f.info.w) = (lo, w)) (hl : (f.info.rg.fields.filter (fun g => g.info.acc == .rw && g != f)).map
      (fun g => (g, g.info.lo, g.info.w)) = l) :
    s.fieldWord f i v = l.foldl (fun a x => a + s.rd x.1 i % 2 ^ x.2.2 * 2 ^ x.2.1) (v % 2 ^ w * 2 ^ lo) := by
  obtain ⟨rfl, rfl⟩ := Prod.mk.inj hf
  rw [← hl, List.foldl_map, State.fieldWord]

/-- A word whose settings lie above bit 0 writes 0 there. -/
theorem testBit_zero_of_above {word k : Nat} (h : word = 0 % 2 ^ 1 * 2 ^ 0 + k % 2 ^ 16 * 2 ^ 16) : (word % 2 ^ 32).testBit 0 = false := by
  have hbit : word % 2 ^ 32 % 2 = 0 := by omega
  rw [Nat.testBit_zero, hbit]
  rfl

/-- A word whose settings lie below and above bit 5 writes 1 there. -/
theorem testBit_five_of_around {word a b c d : Nat}
    (h : word = 1 % 2 ^ 1 * 2 ^ 5 + a % 2 ^ 2 * 2 ^ 0 + b % 2 ^ 1 * 2 ^ 4 + c % 2 ^ 4 * 2 ^ 12 + d % 2 ^ 4 * 2 ^ 16) :
    (word % 2 ^ 32).testBit 5 = true := by
  rw [Nat.testBit_eq_decide_div_mod_eq]
  exact decide_eq_true (by omega)

/-- A write of the RW fields of a register leaves every field of another access type. -/
theorem State.rd_writeRw_of_not_rw (s : State) (r : Rg) (i v : Nat) (but : List Fld) {f : Fld} (j : Nat)
    (hf : f.info.acc ≠ .rw) : (s.writeRw r i v but).rd f j = s.rd f j := by
  refine List.foldlRecOn (motive := fun t : State => t.rd f j = s.rd f j) _ _ rfl fun t ht g hg => ?_
  have hrw : g.info.acc = .rw := by
    have := (List.mem_filter.mp hg).2
    simp only [Bool.and_eq_true, beq_iff_eq] at this
    exact this.1
  exact (t.rd_wr_ne _ _ _ fun e : g = f => hf (e ▸ hrw)).trans ht

/-! ### Release of a locker (R362, R371) -/

section
variable (s : State) (l : Nat)

theorem State.lockOf_release : (s.release l).lockOf l = {} := by
  have hlock : (s.release l).lock = (s.modLock l fun _ => {}).lock := by simp [State.release, State.purge]
  rw [State.lockOf_congr hlock, State.lockOf_modLock]

theorem State.rd_release {f : Fld} (i : Nat) (hf : f ∉ slotFlds) (hgen : .CIPH_LOCK_STATUS_lgen ≠ f) :
    (s.release l).rd f i = s.rd f i := by
  rw [State.release, State.rd_wr_ne _ _ _ _ hgen, State.purge, State.rd_lockShow _ _ _ hf, State.rd_modLock]

theorem State.release_shows : (s.release l).ShowsSlots l {} := by
  have h : (s.purge l).ShowsSlots l {} := by
    have h := (s.modLock l fun _ => {}).lockShow_shows l
    rwa [State.lockOf_modLock] at h
  obtain ⟨hcur, hnxt, hcurKgen, hnxtKgen⟩ := h
  exact ⟨(State.rd_wr_ne _ _ _ _ (by decide)).trans hcur, (State.rd_wr_ne _ _ _ _ (by decide)).trans hnxt,
    (State.rd_wr_ne _ _ _ _ (by decide)).trans hcurKgen, (State.rd_wr_ne _ _ _ _ (by decide)).trans hnxtKgen⟩

theorem State.release_lgen : (s.release l).rd .CIPH_LOCK_STATUS_lgen l = (s.rd .CIPH_LOCK_STATUS_lgen l + 1) % 256 := by
  rw [State.release, State.rd_wr_self, State.purge, State.rd_lockShow _ _ _ (by decide), State.rd_modLock]
  rfl

theorem State.fieldWord_lockEn : (s.fieldWord .CIPH_LOCK_CTRL_lock_en l 0 % 2 ^ 32).testBit 0 = false := by
  apply testBit_zero_of_above (k := s.rd .CIPH_LOCK_CTRL_key_ring l)
  rw [s.fieldWord_eq (f := .CIPH_LOCK_CTRL_lock_en) (lo := 0) (w := 1) l 0 (l := [(.CIPH_LOCK_CTRL_key_ring, 16, 16)]) rfl rfl,
    List.foldl_cons, List.foldl_nil]

end

/-- A release that takes effect goes by a write of lock_en, whose other field is written as well. -/
theorem exec_lockerRelease {s : State} {rq : Requester} {l : LockId} (h : s.fate rq .CIPH_LOCK_CTRL l = .takes) :
    ∃ w, exec (.lockerRelease rq l) s
      = .next ((s.writeRw .CIPH_LOCK_CTRL l w [.CIPH_LOCK_CTRL_lock_en]).lockEnWrite l false) := by
  have hword := s.fieldWord_lockEn l
  have htake := State.fieldWrite_takes (f := .CIPH_LOCK_CTRL_lock_en) 0 h
  generalize s.fieldWord .CIPH_LOCK_CTRL_lock_en l 0 % 2 ^ 32 = w at hword htake
  have habsent : ¬ s.namesAbsent .CIPH_LOCK_CTRL l w = true := by simp [State.namesAbsent]
  have heffect : s.regEffect rq .CIPH_LOCK_CTRL l w
      = (s.writeRw .CIPH_LOCK_CTRL l w [.CIPH_LOCK_CTRL_lock_en]).lockEnWrite l (w.testBit 0) := rfl
  rw [hword] at heffect
  exact ⟨w, congrArg ok (htake.trans ((if_neg habsent).trans heffect))⟩

theorem exec_lockerRelease_unprivileged {s : State} {rq : Requester} (l : LockId) (h : s.privileged rq = false) :
    exec (.lockerRelease rq l) s = .next s := by
  have hfate : s.fate rq .CIPH_LOCK_CTRL l = .ignored := by simp [State.fate, Rg.privileged, h]
  have hwrite : s.fieldWrite rq .CIPH_LOCK_CTRL_lock_en l 0 = s := by
    have hrg : (Fld.CIPH_LOCK_CTRL_lock_en).info.rg = .CIPH_LOCK_CTRL := rfl
    simp only [State.fieldWrite, State.regTake, hrg, hfate]
  exact congrArg ok hwrite

/-! ### The key phase flip (R367) -/

/-- No locker of the engine lacks a key where every one holds it. -/
theorem State.kpLacks_eq_false_iff (s : State) (n : Nat) : s.kpLacks n = false
    ↔ (s.engLockers n).all (fun l => (s.slotFor l (1 - s.rd .CIPH_ENG_CTRL_tx_kp n)).key.isSome) = true := by
  simp [State.kpLacks, Option.isSome_iff_ne_none]

theorem State.engLockers_congr {s t : State} {n : Nat} (htxMap : (t.txOf n).map = (s.txOf n).map)
    (htxNext : (t.txOf n).next = (s.txOf n).next) (hrx : t.rxOf n = s.rxOf n) (htrib : t.trib = s.trib) :
    t.engLockers n = s.engLockers n := by
  simp only [State.engLockers, State.lockerOf, htxMap, htxNext, hrx, State.tribOf_congr htrib]

/-- Whether a locker lacks a key depends on the engine's lockers, their slots and two fields that no write changes. -/
theorem State.kpLacks_congr {s t : State} {n : Nat} (hlockers : t.engLockers n = s.engLockers n) (hlock : t.lock = s.lock)
    (hro : ∀ f j, f.info.acc = .ro → t.rd f j = s.rd f j) : t.kpLacks n = s.kpLacks n := by
  simp only [State.kpLacks, State.slotFor, hlockers, State.lockOf_congr hlock, hro .CIPH_ENG_CTRL_tx_kp n rfl,
    hro .CIPH_LOCK_STATUS_cur_phase _ rfl]

section
variable (s : State) (n : Nat)

theorem State.addShadow_any (k : ShadowKey) (v : Int) (target : Option Nat) :
    (((s.addShadow n k v target).txOf n).shadows.any fun h => decide (h.what = k)) = true := by
  rw [State.addShadow, State.txOf_modTx]
  exact List.any_eq_true.mpr ⟨⟨k, v, target⟩, by simp, by simp⟩

/-- A pending shadow changes no map of its engine. -/
theorem State.engLockers_addShadow (k : ShadowKey) (v : Int) (target : Option Nat) :
    (s.addShadow n k v target).engLockers n = s.engLockers n := by
  have htx : ((s.addShadow n k v target).txOf n).map = (s.txOf n).map
      ∧ ((s.addShadow n k v target).txOf n).next = (s.txOf n).next := by
    rw [State.addShadow, State.txOf_modTx]
    exact ⟨rfl, rfl⟩
  exact State.engLockers_congr htx.1 htx.2 (State.rxOf_modTx _ _ _) (State.modTx_trib _ _ _)

/-- With none pending, a flip waits for the next SFM where no locker lacks the key of the other phase, and is refused where
one does. -/
theorem State.kpFlip_shows {s : State} {n : Nat} (target : Option Nat) (hpend : s.on .CIPH_ENG_CTRL_kp_pend n = false) :
    (s.kpFlip n target).rd .CIPH_ENG_CTRL_tx_kp n = s.rd .CIPH_ENG_CTRL_tx_kp n
      ∧ (s.kpLacks n = false → (s.kpFlip n target).rd .CIPH_ENG_CTRL_kp_pend n = 1
        ∧ (((s.kpFlip n target).txOf n).shadows.any fun h => decide (h.what = .kpFlip)) = true)
      ∧ (s.kpLacks n = true → (s.kpFlip n target).rd .CIPH_ENG_CTRL_kp_pend n = 0
        ∧ (s.kpFlip n target).rd .CIPH_EV_kp_refused = 1) := by
  unfold State.kpFlip State.kpFlips
  cases hlacks : s.kpLacks n with
  | false =>
    rw [if_neg (by decide), if_pos (by simp [hpend])]
    refine ⟨?_, fun _ => ⟨?_, State.addShadow_any _ _ _ _ _⟩, nofun⟩
    · exact (State.rd_modTx _ _ _ _ _).trans (State.rd_wr_ne _ _ _ _ (by decide))
    · exact (State.rd_modTx _ _ _ _ _).trans (State.rd_wr_self _ _ _ _)
  | true =>
    rw [if_pos rfl]
    refine ⟨State.rd_raiseReg_ne _ _ _ _ rfl (by decide), nofun, fun _ => ⟨?_, State.rd_raiseReg_self _ _ _ _ rfl rfl⟩⟩
    exact (State.rd_raiseReg_ne _ _ _ _ rfl (by decide)).trans (by simpa [State.on] using hpend)

/-- What a write of CIPH_ENGn_CTRL does before it comes to kp_flip. -/
def State.ciphSettings (val : Nat) (target : Option Nat) : State :=
  let t := s.writeRw .CIPH_ENG_CTRL n val
  if s.rd .CIPH_ENG_CTRL_end_sel n == fieldOf val 4 1 then t else t.addShadow n .endSel (fieldOf val 4 1) target

theorem State.ciphCtrlWrite_eq (val : Nat) (target : Option Nat) : s.ciphCtrlWrite n val target
    = if val.testBit 5 then (s.ciphSettings n val target).kpFlip n target else s.ciphSettings n val target := rfl

theorem State.rd_ciphSettings (val : Nat) (target : Option Nat) {f : Fld} (j : Nat) (hf : f.info.acc = .ro) :
    (s.ciphSettings n val target).rd f j = s.rd f j := by
  have hwrite := s.rd_writeRw_of_not_rw .CIPH_ENG_CTRL n val [] j (f := f) (by simp [hf])
  unfold State.ciphSettings
  dsimp only
  split
  · exact hwrite
  · exact (State.rd_modTx _ _ _ _ _).trans hwrite

/-- The settings leave the lockers and the maps, so that a flip finds what it found before them. -/
theorem State.kpLacks_ciphSettings (val : Nat) (target : Option Nat) :
    (s.ciphSettings n val target).kpLacks n = s.kpLacks n := by
  have hspec := s.writeRw_spec .CIPH_ENG_CTRL n val []
  have heng : (s.writeRw .CIPH_ENG_CTRL n val).eng = s.eng := hspec.keep .eng rfl
  have htx := State.txOf_congr heng n
  have hlockers := State.engLockers_congr (congrArg (·.map) htx) (congrArg (·.next) htx) (State.rxOf_congr heng n)
    (hspec.keep .trib rfl)
  refine State.kpLacks_congr ?maps ?locks fun f j hf => s.rd_ciphSettings n val target j hf
  case maps =>
    unfold State.ciphSettings
    dsimp only
    split
    · exact hlockers
    · exact (State.engLockers_addShadow _ _ _ _ _).trans hlockers
  case locks =>
    unfold State.ciphSettings
    dsimp only
    split <;> exact hspec.keep .lock rfl

theorem State.fieldWord_kpFlip : (s.fieldWord .CIPH_ENG_CTRL_kp_flip n 1 % 2 ^ 32).testBit 5 = true := by
  apply testBit_five_of_around (a := s.rd .CIPH_ENG_CTRL_use_staged n) (b := s.rd .CIPH_ENG_CTRL_end_sel n)
    (c := s.rd .CIPH_ENG_CTRL_auth_set n) (d := s.rd .CIPH_ENG_CTRL_auth_clr n)
  rw [s.fieldWord_eq (f := .CIPH_ENG_CTRL_kp_flip) (lo := 5) (w := 1) n 1
    (l := [(.CIPH_ENG_CTRL_use_staged, 0, 2), (.CIPH_ENG_CTRL_end_sel, 4, 1), (.CIPH_ENG_CTRL_auth_set, 12, 4),
      (.CIPH_ENG_CTRL_auth_clr, 16, 4)]) rfl rfl, List.foldl_cons, List.foldl_cons, List.foldl_cons, List.foldl_cons,
    List.foldl_nil]

end

/-- Mirroring a write of CIPH_ENGn_CTRL changes no engine and no register. -/
theorem State.mirroredHostWrite_ciphEngCtrl (s : State) (n val : Nat) :
    (s.mirroredHostWrite .host .CIPH_ENG_CTRL n val).eng = (s.ciphCtrlWrite n val (s.newTarget n)).eng
      ∧ ∀ f i, (s.mirroredHostWrite .host .CIPH_ENG_CTRL n val).rd f i = (s.ciphCtrlWrite n val (s.newTarget n)).rd f i :=
  ⟨(State.mirrorReg_spec _ _ _ _ _).keep .eng rfl, (State.mirrorReg_spec _ _ _ _ _).rd_part (F := 0x202000)⟩

theorem State.regAct_ciphEngCtrl (s : State) (n val : Nat) :
    s.regAct .host .CIPH_ENG_CTRL n val = s.mirroredHostWrite .host .CIPH_ENG_CTRL n val := by
  have habsent : ¬ s.namesAbsent .CIPH_ENG_CTRL n val = true := by simp [State.namesAbsent]
  have heffect : s.regEffect .host .CIPH_ENG_CTRL n val = s.mirroredHostWrite .host .CIPH_ENG_CTRL n val := rfl
  exact (if_neg habsent).trans heffect

/-- A flip that takes effect is made after the settings written with it, and mirrored. -/
theorem exec_kpFlip {s : State} {n : Eng} (h : s.fate .host .CIPH_ENG_CTRL n = .takes) : ∃ w target u,
    exec (.kpFlip n) s = .next u ∧ u.eng = ((s.ciphSettings n w target).kpFlip n target).eng
      ∧ ∀ f i, u.rd f i = ((s.ciphSettings n w target).kpFlip n target).rd f i := by
  have hword := s.fieldWord_kpFlip n
  have htake := State.fieldWrite_takes (f := .CIPH_ENG_CTRL_kp_flip) 1 h
  generalize s.fieldWord .CIPH_ENG_CTRL_kp_flip n 1 % 2 ^ 32 = w at hword htake
  have hctrl := (s.ciphCtrlWrite_eq n w (s.newTarget n)).trans (if_pos hword)
  have hmirror := s.mirroredHostWrite_ciphEngCtrl n w
  rw [hctrl] at hmirror
  exact ⟨w, s.newTarget n, _, congrArg ok (htake.trans (s.regAct_ciphEngCtrl n w)), hmirror⟩

/-- Settles O23: a release and a flip are writes of one field, whose other fields leave the lockers and the maps; a halt
and a failing test raise their own bits. -/
theorem cipherControl : Obligations.CipherControl := by
  refine ⟨?releases, ?unprivileged, ?flips, ?reseeds, ?fails, ?halts⟩
  case releases =>
    intro rq l s hfate
    obtain ⟨w, hexec⟩ := exec_lockerRelease hfate
    refine ⟨_, hexec, ?_⟩
    dsimp only
    have hgen := (s.writeRw_spec .CIPH_LOCK_CTRL l w [.CIPH_LOCK_CTRL_lock_en]).rd .CIPH_LOCK_STATUS_lgen l rfl
    generalize s.writeRw .CIPH_LOCK_CTRL l w [.CIPH_LOCK_CTRL_lock_en] = u at hgen
    rw [State.lockEnWrite, if_neg (by decide), State.lockOf_congr (State.mirrorLocker_lock _ _)]
    simp only [State.rd_mirrorLocker]
    have hshows := (u.wr .CIPH_LOCK_CTRL_lock_en l (b2n false)).release_shows l
    refine ⟨?_, State.lockOf_release _ _, hshows.curValid, hshows.nxtValid, ?_⟩
    · rw [State.rd_release _ _ _ (by decide) (by decide), State.rd_wr_self]
      rfl
    · rw [State.release_lgen, State.rd_wr_ne _ _ _ _ (by decide), hgen]
  case unprivileged => exact fun rq l s h => ⟨s, exec_lockerRelease_unprivileged l h, rfl⟩
  case flips =>
    intro n s hfate hpend
    obtain ⟨w, target, u, hexec, heng, hu⟩ := exec_kpFlip hfate
    refine ⟨u, hexec, ?_⟩
    have hkp := s.rd_ciphSettings n w target (f := .CIPH_ENG_CTRL_tx_kp) n rfl
    have hoff : (s.ciphSettings n w target).on .CIPH_ENG_CTRL_kp_pend n = false := by
      rwa [State.on, s.rd_ciphSettings n w target n rfl]
    have h := State.kpFlip_shows target hoff
    rw [s.kpLacks_ciphSettings, State.kpLacks_eq_false_iff, hkp, ← hu, ← hu, ← hu, ← State.txOf_congr heng] at h
    exact h
  case reseeds => exact fun pass s => ⟨_, rfl, rfl⟩
  case fails =>
    exact fun s => ⟨_, rfl, congrArg SecSt.reseedOk (State.raiseReg_sec _ _ _ _), State.rd_raiseReg_self _ _ _ _ rfl rfl⟩
  case halts =>
    intro s hreseed hoff
    refine ⟨_, congrArg ok (if_neg (by simp [hreseed, hoff])), ?_, State.rd_raiseReg_self _ _ _ _ rfl rfl⟩
    rw [State.rd_raiseReg_ne _ _ _ _ rfl (by decide), State.rd_wr_self]
    rfl

end Sys2Proof.Machine
end

section
/-! What the record of an event and the counters it bears on leave of the registers and of the rings, field by field
(11_host_rings.md R400; 16_counters_and_events.md R520, R525 to R530). -/
namespace Sys2Proof.Machine

/-- The fields that the record of an event may change: its ring's count, what shows of a counter that wraps, and the bits of a
record that is discarded or dropped. -/
def recordFlds : List Fld :=
  [.HOST_RCTX_IDX_dev_idx, .PERF_WRAP_wrap, .PERF_EV_ev, .HOST_EV_stale_cpl, .HOST_EV_evt_drop]

/-- What a ring holds beside its count of records dropped and of entries since its last message. -/
def ringWork (q : RingSt) : RingSt := { q with dropped := 0, pend := 0 }

/-- From s to t events have been recorded: beside the fields `but` and those of the records no field has changed, and no ring
but in what it counts of records and of entries. -/
structure State.Records (but : List Fld) (s t : State) : Prop where
  rd : ∀ f i, f ∉ but ++ recordFlds → t.rd f i = s.rd f i
  ring : ∀ k, ringWork (t.ringOf k) = ringWork (s.ringOf k)

theorem State.rd_bump_ne (s : State) (k n : Nat) {f : Fld} (i : Nat) (hf : .PERF_WRAP_wrap ≠ f) :
    (s.bump k n).rd f i = s.rd f i := by
  unfold State.bump
  split
  · rfl
  · dsimp only
    split
    · exact State.rd_wr_ne _ _ _ _ hf
    · rfl

namespace State.Records
variable {but : List Fld} {s t u : State}

theorem refl : s.Records but s := ⟨fun _ _ _ => rfl, fun _ => rfl⟩

theorem trans (h : s.Records but t) (g : t.Records but u) : s.Records but u :=
  ⟨fun f i hf => (g.rd f i hf).trans (h.rd f i hf), fun k => (g.ring k).trans (h.ring k)⟩

theorem keep (h : s.Records but t) (hr : ∀ f i, u.rd f i = t.rd f i) (hq : u.ring = t.ring) : s.Records but u :=
  h.trans ⟨fun f i _ => hr f i, fun k => congrArg ringWork (State.ringOf_congr hq k)⟩

theorem wr {f : Fld} (i v : Nat) (hf : f ∈ but ++ recordFlds) (h : s.Records but t) : s.Records but (t.wr f i v) :=
  h.trans ⟨fun _ _ hg => State.rd_wr_ne _ _ _ _ fun e => hg (e ▸ hf), fun _ => rfl⟩

theorem setEv {f : Fld} (i v : Nat) (hf : f ∈ but ++ recordFlds) (h : s.Records but t) : s.Records but (t.setEv f i v) := by
  refine (h.wr i v hf).keep (fun g j => ?_) (State.setEv_ring ..)
  rw [State.rd_setEv, State.rd_wr]

theorem modRing (k : Nat) (g : RingSt → RingSt) (hg : ∀ q, ringWork (g q) = ringWork q) (h : s.Records but t) :
    s.Records but (t.modRing k g) := by
  refine h.trans ⟨fun _ _ _ => rfl, fun j => ?_⟩
  by_cases hj : k = j
  · subst hj
    rw [State.ringOf_modRing, hg]
  · rw [State.ringOf_modRing_ne _ _ hj]

theorem bump (k n : Nat) (h : s.Records but t) : s.Records but (t.bump k n) :=
  h.trans ⟨fun _ i hf => State.rd_bump_ne _ _ _ i fun e => hf (e ▸ List.mem_append_right _ (by decide)),
    fun _ => congrArg ringWork (State.ringOf_bump ..)⟩

theorem writeEntry (r : Nat) (head tail : List Byte) (now : Bool) (h : s.Records but t) :
    s.Records but (t.writeEntry r head tail now) := by
  unfold State.writeEntry
  extract_lets +onlyGivenNames p x y
  have hx : s.Records but x := (h.keep (State.rd_emit _ _) (State.emit_ring ..)).wr _ _ (List.mem_append_right _ (by decide))
  have hy : s.Records but y := hx.modRing r (fun q => { q with pend := q.pend + 1 }) fun _ => rfl
  split
  · exact (hy.modRing r (fun q => { q with pend := 0 }) fun _ => rfl).keep (State.rd_sendVector _ _) (State.sendVector_ring ..)
  · exact hy

theorem ite {c : Prop} [Decidable c] (h : s.Records but t) (g : s.Records but u) : s.Records but (if c then t else u) := by
  split <;> assumption

theorem fold {α : Type} {k : State → α → State} (l : List α) (hk : ∀ (t : State) x, t.Records but (k t x)) (h : s.Records but t) :
    s.Records but (l.foldl k t) :=
  List.foldlRecOn (motive := s.Records but) l k h fun t ht x _ => ht.trans (hk t x)

/-- Events: what holds once the event's own bit is set holds once it is recorded. -/
theorem raiseN : ∀ (n : Nat) {s t : State} (e : Ev) (a : EvArg), s.Records but (t.evBit e) → (n = 0 → s.Records but t) →
    s.Records but (State.raiseN n t e a) := by
  intro n
  induction n with
  | zero => exact fun _ _ _ h => h rfl
  | succ n ih =>
    intro s t e a hbit _
    unfold State.raiseN
    extract_lets +onlyGivenNames count sev seq t1 src t2
    have h2 : s.Records but t2 := hbit.keep (fun _ _ => rfl) rfl
    have hcount : ∀ x k, s.Records but x → s.Records but (count x k) := by
      intro x k hx
      have hb := hx.bump k 1
      exact ite (ih _ _ (hb.setEv _ _ (List.mem_append_right _ (by decide))) fun _ => hb) hb
    have hperf : ∀ p, s.Records but { t2 with perf := p } := fun _ => h2.keep (fun _ _ => rfl) rfl
    clear_value count t2
    split
    · exact ite (hcount _ _ (h2.setEv _ _ (List.mem_append_right _ (by decide)))) h2
    · extract_lets +onlyGivenNames key
      refine ite (hcount _ _ (hperf _)) (ite (hcount _ _ ?_) ?_)
      · exact (h2.modRing _ (fun q => { q with dropped := q.dropped + 1 }) fun _ => rfl).setEv _ _ (List.mem_append_right _ (by decide))
      · exact (hperf _).writeEntry _ _ _ _

theorem raiseReg {f : Fld} (i : Nat) (a : EvArg) (hf : f ∈ but ++ recordFlds) (h : s.Records but t) :
    s.Records but (t.raiseReg f i a) := raiseN 4 _ a (h.setEv _ _ hf) nofun

theorem count (k n : Nat) (h : s.Records but t) : s.Records but (t.count k n) :=
  ite (raiseN 4 _ _ ((h.bump k n).setEv _ _ (List.mem_append_right _ (by decide))) nofun) (h.bump k n)

theorem stale (h : s.Records but t) : s.Records but t.stale :=
  (h.setEv _ _ (List.mem_append_right _ (by decide))).count _ _

/-- What waits in a ring waits there still. -/
theorem queues (h : s.Records but t) (k : Nat) : (t.ringOf k).fetched = (s.ringOf k).fetched
    ∧ (t.ringOf k).rxq = (s.ringOf k).rxq ∧ (t.ringOf k).cplq = (s.ringOf k).cplq := by
  have hfetched := congrArg RingSt.fetched (h.ring k)
  have hrxq := congrArg RingSt.rxq (h.ring k)
  have hcplq := congrArg RingSt.cplq (h.ring k)
  exact ⟨hfetched, hrxq, hcplq⟩

end State.Records

section
variable (s : State) {f g : Fld} (i j : Nat) (a : EvArg)

/-- The bit of an event of the host's block is set by it. -/
theorem State.rd_raiseReg_raised (hf : f ∉ recordFlds) (hw : f.info.w = 1) : (s.raiseReg f i a).rd f i = 1 := by
  have h : (s.setEv f i (s.rd f i ||| 1)).Records [] (s.raiseReg f i a) := State.Records.raiseN 4 (.reg f i) a .refl nofun
  rw [h.rd f i hf, State.rd_setEv, if_pos ⟨rfl, rfl⟩, hw, Nat.pow_one, Nat.or_mod_two_eq_one]
  exact .inr rfl

theorem State.rd_raiseReg_kept (hg : g ∉ recordFlds) (hne : f ≠ g) : (s.raiseReg f i a).rd g j = s.rd g j :=
  ((State.Records.refl (but := [f])).raiseReg i a (by simp)).rd g j (by simp [hg, hne.symm])

theorem State.rd_raiseCount_raised (k n : Nat) (hf : f ∉ recordFlds) (hw : f.info.w = 1) :
    (s.raiseCount (.reg f i) a k n).rd f i = 1 := by
  unfold State.raiseCount
  split
  · rw [((State.Records.refl (but := [])).count k n).rd f i hf]
    exact s.rd_raiseReg_raised i a hf hw
  · exact State.rd_raiseReg_raised _ i a hf hw

theorem State.rd_raiseCount_kept (k n : Nat) (hg : g ∉ recordFlds) (hne : f ≠ g) :
    (s.raiseCount (.reg f i) a k n).rd g j = s.rd g j := by
  have hcount : ∀ t : State, (t.count k n).rd g j = t.rd g j := fun t => ((State.Records.refl (but := [])).count k n).rd g j hg
  unfold State.raiseCount
  split
  · exact (hcount _).trans (s.rd_raiseReg_kept i j a hg hne)
  · exact (State.rd_raiseReg_kept _ i j a hg hne).trans (hcount s)

end

end Sys2Proof.Machine
end

section
/-! One step runs the command at the front of the queue (11_host_rings.md R394; 02_modes.md R67). -/
namespace Sys2Proof.Machine

theorem step_of_queued (c : Instr) (rest : List Instr) (s : State) :
    step { s with pending := c :: rest } = exec c { s with pending := rest } := rfl

theorem step_of_idle {s : State} (h : s.pending = []) : step s = .next s := by
  unfold step
  rw [h]

/-- Settles O44: the two cases of the queue are those of a step. -/
theorem stepRunsTheQueue : Obligations.StepRunsTheQueue := ⟨step_of_queued, fun _ => step_of_idle⟩

end Sys2Proof.Machine
end

section
/-! The commands of a host ring that act on the flash, the overhead queues and the posted buffers (11_host_rings.md R391 to
R405). -/
namespace Sys2Proof.Machine

/-! ### Bytes of the flash (R405) -/

theorem flashByte_flashProgram_outside {j : Nat} (bs : List Byte) : ∀ (m : List Host.Cell) (a n : Nat),
    j < a ∨ a + bs.length ≤ j → flashByte (flashProgram m a n bs) j = flashByte m j := by
  induction bs with
  | nil => exact fun _ _ _ _ => rfl
  | cons b bs ih =>
    intro m a n h
    rw [List.length_cons] at h
    rw [flashProgram, ih _ _ _ (by omega)]
    exact SMap.get_set_ne _ _ _ (by omega)

/-- Programming gives an erased byte its value. -/
theorem flashByte_flashProgram_erased (bs : List Byte) : ∀ (m : List Host.Cell) (a n i : Nat), i < bs.length →
    flashByte m (a + i) = 0xFF → flashByte (flashProgram m a n bs) (a + i) = bs.getD i 0 := by
  induction bs with
  | nil => exact fun _ _ _ _ hi => absurd hi (Nat.not_lt_zero _)
  | cons b bs ih =>
    intro m a n i hi herased
    rw [flashProgram]
    cases i with
    | zero =>
      rw [flashByte_flashProgram_outside _ _ _ _ (.inl (by omega)), flashByte, Nat.add_zero, SMap.get_set_self]
      exact if_pos herased
    | succ i =>
      have hi' : i < bs.length := Nat.lt_of_succ_lt_succ hi
      have hindex : a + (i + 1) = a + 1 + i := by omega
      rw [hindex] at herased ⊢
      refine (ih _ _ _ _ hi' ?_).trans (List.getD_cons_succ ..).symm
      exact (SMap.get_set_ne _ _ _ (by omega)).trans herased

theorem flashByte_flashErase (m : List Host.Cell) (a len j : Nat) :
    flashByte (flashErase m a len) j = if a ≤ j ∧ j < a + len then 0xFF else flashByte m j := by
  split
  case isTrue h => exact SMap.get_filter_dropped _ _ fun _ => by simp; omega
  case isFalse h => exact SMap.get_filter_kept _ _ fun _ => by simp; omega

/-! ### A flash command starts (R405) -/

section
variable {s : State} {r : RingId} {d : Desc}

/-- What FLASH_READ, FLASH_WRITE and FLASH_ERASE do where their descriptor stands at the head of the ring. -/
theorem exec_flash_starts {data : BufRead} {c : Instr}
    (hc : c = .flashRead r ∧ s.headDesc r 6 = some d ∨ c = .flashWrite r data ∧ s.headDesc r 7 = some d
      ∨ c = .flashErase r ∧ s.headDesc r 8 = some d) : ∃ read, exec c s = .next (s.flashStart d read) := by
  rcases hc with ⟨rfl, hd⟩ | ⟨rfl, hd⟩ | ⟨rfl, hd⟩
  · refine ⟨{}, ?_⟩
    change execFlashRead r s = _
    simp only [execFlashRead, State.settle_of_head hd, hd]
    rfl
  · refine ⟨data, ?_⟩
    change execFlashWrite r data s = _
    simp only [execFlashWrite, State.settle_of_head hd, hd]
    rfl
  · refine ⟨{}, ?_⟩
    change execFlashErase r s = _
    simp only [execFlashErase, State.settle_of_head hd, hd]
    rfl

/-- The state with a command of the flash in execution. -/
def State.flashBegun (s : State) (d : Desc) (data : BufRead) : State :=
  let t := s.popDesc d.sq
  { t with host := { t.host with
    flashOps := t.host.flashOps ++ [{ d := d, data := data.bytes.take d.len, err := data.err }] } }

theorem State.flashStart_eq (s : State) (d : Desc) (data : BufRead) : s.flashStart d data =
    if s.fuse.flashSize < (s.flashRange d).1 + (s.flashRange d).2 then (s.popDesc d.sq).refuse d 2
    else if d.opcode != 6 && s.flashProtected (s.flashRange d).1 (s.flashRange d).2 then (s.popDesc d.sq).refuse d 1
    else s.flashBegun d data := rfl

theorem State.flashBegun_last (s : State) (d : Desc) (data : BufRead) :
    (s.flashBegun d data).host.flashOps.getLast?.map (·.d) = some d := by
  rw [State.flashBegun, List.getLast?_concat]
  rfl

/-- A command inside the flash and outside what is protected starts, another is refused RANGE or PROTECTED. -/
theorem State.flashStart_ends (s : State) (d : Desc) (data : BufRead) :
    (s.fuse.flashSize < (s.flashRange d).1 + (s.flashRange d).2 →
        (s.flashStart d data).ended d 1 2 0 ∧ (s.flashStart d data).fuse = s.fuse)
      ∧ ((s.flashRange d).1 + (s.flashRange d).2 ≤ s.fuse.flashSize → d.opcode ≠ 6 →
          s.flashProtected (s.flashRange d).1 (s.flashRange d).2 = true →
          (s.flashStart d data).ended d 1 1 0 ∧ (s.flashStart d data).fuse = s.fuse)
      ∧ ((s.flashRange d).1 + (s.flashRange d).2 ≤ s.fuse.flashSize →
          (d.opcode = 6 ∨ s.flashProtected (s.flashRange d).1 (s.flashRange d).2 = false) →
          (s.flashStart d data).host.flashOps.getLast?.map (·.d) = some d) := by
  rw [State.flashStart_eq]
  refine ⟨fun hrange => ?_, fun hrange hop hprot => ?_, fun hrange hfree => ?_⟩
  · rw [if_pos hrange]
    exact ⟨State.refuse_ended _ _ _, by simp⟩
  · rw [if_neg (Nat.not_lt.mpr hrange), if_pos (by simp [hop, hprot])]
    exact ⟨State.refuse_ended _ _ _, by simp⟩
  · rw [if_neg (Nat.not_lt.mpr hrange), if_neg (by rcases hfree with hop | hprot <;> simp [*])]
    exact s.flashBegun_last d data

end

/-! ### A flash command ends (R383, R405) -/

/-- Status in which a flash command ends: ABORTED when a disable stopped it, 6 after an error of the read of its buffer. -/
def flashStatus (o : FlashOp) : Nat := if o.stop then 7 else if o.err then 6 else 0

/-- What a flash command has done of its whole when it ends: all of it, unless a disable stopped it. -/
def flashReached (o : FlashOp) (n whole : Nat) : Nat := if o.stop then min n whole else whole

section
variable {s : State} {o : FlashOp}

theorem State.flashRange_bytes {d : Desc} (hop : d.opcode ≠ 8) : s.flashRange d = (d.param1, d.len) :=
  if_neg (by simpa using hop)

theorem State.flashEnd_eq (s : State) (o : FlashOp) (n : Nat) : s.flashEnd o n =
    if o.d.opcode == 6 then
      ((s.flashGone o.d.sq).emit (.dma o.d.addr (flashBytes s.fuse.flash (s.flashRange o.d).1 (flashReached o n (s.flashRange o.d).2)))).done
        o.d (flashStatus o) 0 (flashReached o n (s.flashRange o.d).2)
    else if o.d.opcode == 7 then
      ((s.flashGone o.d.sq).flashChange o.d o.data (flashReached o n o.data.length)).done o.d (flashStatus o) 0
        (flashReached o n o.data.length)
    else ((s.flashGone o.d.sq).flashChange o.d [] (flashReached o n o.d.param0)).done o.d (flashStatus o)
      (if o.stop then flashReached o n o.d.param0 else 0) := rfl

theorem State.flashEnd_read (n : Nat) (hop : o.d.opcode = 6) : s.flashEnd o n =
    ((s.flashGone o.d.sq).emit (.dma o.d.addr (flashBytes s.fuse.flash o.d.param1 (flashReached o n o.d.len)))).done o.d (flashStatus o) 0
      (flashReached o n o.d.len) := by
  rw [State.flashEnd_eq, if_pos (by simp [hop]), State.flashRange_bytes (by simp [hop])]

theorem State.flashEnd_write (n : Nat) (hop : o.d.opcode = 7) : s.flashEnd o n =
    ((s.flashGone o.d.sq).flashChange o.d o.data (flashReached o n o.data.length)).done o.d (flashStatus o) 0
      (flashReached o n o.data.length) := by
  rw [State.flashEnd_eq, if_neg (by simp [hop]), if_pos (by simp [hop])]

theorem State.flashEnd_erase (n : Nat) (hop : o.d.opcode = 8) : s.flashEnd o n =
    ((s.flashGone o.d.sq).flashChange o.d [] (flashReached o n o.d.param0)).done o.d (flashStatus o)
      (if o.stop then flashReached o n o.d.param0 else 0) := by
  rw [State.flashEnd_eq, if_neg (by simp [hop]), if_neg (by simp [hop])]

/-- Programming `k` bytes of a command. -/
theorem State.flashChange_write (data : List Byte) (k : Nat) (hop : o.d.opcode = 7) :
    (s.flashChange o.d data k).fuse = { s.fuse with flash := flashProgram s.fuse.flash o.d.param1 s.free (data.take k) } := by
  have hrange : s.flashRange o.d = (o.d.param1, o.d.len) := State.flashRange_bytes (by simp [hop])
  unfold State.flashChange
  rw [hrange]
  exact congrArg State.fuse (if_pos (by simp [hop]))

/-- Erasing `k` units of a command. -/
theorem State.flashChange_erase (data : List Byte) (k : Nat) (hop : o.d.opcode = 8) : (s.flashChange o.d data k).fuse
    = { s.fuse with flash := flashErase s.fuse.flash (s.flashRange o.d).1 (k * s.fuse.eraseUnit) } :=
  congrArg State.fuse ((if_neg (by simp [hop])).trans (if_pos (by simp [hop])))

theorem State.flashOf_congr {t : State} (h : t.host = s.host) (r : Nat) : t.flashOf r = s.flashOf r := by
  rw [State.flashOf, State.flashOf, h]

theorem State.flashOf_flashGone (s : State) (r : Nat) : (s.flashGone r).flashOf r = none := by
  simp [State.flashOf, State.flashGone, List.find?_eq_none]

/-- A command that has changed the flash and completed is in execution no more. -/
theorem State.flashOf_changed (s : State) (r : Nat) (d : Desc) (data : List Byte) (k status detail moved : Nat) :
    (((s.flashGone r).flashChange d data k).done d status detail moved).flashOf r = none := by
  rw [State.flashOf_congr (State.done_host _ _ _ _ _), State.flashOf_congr ((State.flashChange_spec _ _ _ _).keep .host rfl)]
  exact s.flashOf_flashGone r

theorem State.flashOf_flashEnd (s : State) (o : FlashOp) (n : Nat) : (s.flashEnd o n).flashOf o.d.sq = none := by
  rw [State.flashEnd_eq]
  split
  · rw [State.flashOf_congr (State.done_host _ _ _ _ _), State.flashOf_congr (State.emit_host _ _)]
    exact s.flashOf_flashGone _
  · split <;> exact State.flashOf_changed ..

theorem State.fuse_flashEnd_read (n : Nat) (hop : o.d.opcode = 6) : (s.flashEnd o n).fuse = s.fuse := by
  rw [State.flashEnd_read n hop, State.done_fuse, State.emit_fuse]
  rfl

theorem State.flash_flashEnd_write (n : Nat) (hop : o.d.opcode = 7) : (s.flashEnd o n).fuse.flash
    = flashProgram s.fuse.flash o.d.param1 s.free (o.data.take (flashReached o n o.data.length)) := by
  rw [State.flashEnd_write n hop, State.done_fuse, State.flashChange_write _ _ hop]
  rfl

theorem State.flash_flashEnd_erase (n : Nat) (hop : o.d.opcode = 8) : (s.flashEnd o n).fuse.flash
    = flashErase s.fuse.flash (s.flashRange o.d).1 (flashReached o n o.d.param0 * s.fuse.eraseUnit) := by
  rw [State.flashEnd_erase n hop, State.done_fuse, State.flashChange_erase _ _ hop]
  rfl

theorem State.sq_of_flashOf {r : Nat} (h : s.flashOf r = some o) : o.d.sq = r := by
  simpa using List.find?_some h

variable {r : RingId} {n : Nat} (ho : s.flashOf r = some o)
include ho

theorem exec_flashOpDone_moves (hpad : s.padHeld 4 = false) : exec (.flashOpDone { sq := r, n := n }) s = .next (s.flashEnd o n) := by
  change execFlashOpDone { sq := r, n := n } s = _
  simp only [execFlashOpDone, ho, hpad]
  rfl

theorem exec_flashOpDone_stopped (hstop : o.stop = true) : exec (.flashOpDone { sq := r, n := n }) s
    = .next (s.flashEnd o (if s.padHeld 4 then 0 else n)) := by
  change execFlashOpDone { sq := r, n := n } s = _
  simp only [execFlashOpDone, ho, hstop]
  cases s.padHeld 4 <;> rfl

theorem exec_flashOpDone_waits (hpad : s.padHeld 4 = true) (hstop : o.stop = false) :
    exec (.flashOpDone { sq := r, n := n }) s = .next s := by
  change execFlashOpDone { sq := r, n := n } s = _
  simp only [execFlashOpDone, ho, hpad, hstop]
  rfl

theorem flashWrite_completes (hop : o.d.opcode = 7) (hstop : o.stop = false) (hpad : s.padHeld 4 = false) :
    Ends (.flashOpDone { sq := r, n := n }) s fun t =>
      t.flashOf r = none ∧ t.ended o.d (if o.err then 6 else 0) 0 o.data.length
        ∧ ∀ i, i < o.data.length → flashByte s.fuse.flash (o.d.param1 + i) = 0xFF →
            flashByte t.fuse.flash (o.d.param1 + i) = o.data.getD i 0 := by
  have hstatus : flashStatus o = if o.err then 6 else 0 := by rw [flashStatus, hstop]; rfl
  have hwhole : flashReached o n o.data.length = o.data.length := by rw [flashReached, hstop]; rfl
  refine ⟨_, exec_flashOpDone_moves ho hpad, ?_, ?_, fun i hi herased => ?_⟩
  · rw [← State.sq_of_flashOf ho]
    exact s.flashOf_flashEnd o n
  · rw [State.flashEnd_write n hop, hstatus, hwhole]
    exact State.done_ended _ _ _ _ _
  · rw [State.flash_flashEnd_write n hop, hwhole, List.take_length]
    exact flashByte_flashProgram_erased _ _ _ _ _ hi herased

theorem flashErase_completes (hop : o.d.opcode = 8) (hstop : o.stop = false) (hpad : s.padHeld 4 = false) :
    Ends (.flashOpDone { sq := r, n := n }) s fun t => t.flashOf r = none ∧ t.ended o.d (if o.err then 6 else 0) 0 0
      ∧ ∀ i, i < (s.flashRange o.d).2 → flashByte t.fuse.flash ((s.flashRange o.d).1 + i) = 0xFF := by
  have hstatus : flashStatus o = if o.err then 6 else 0 := by rw [flashStatus, hstop]; rfl
  have hwhole : flashReached o n o.d.param0 = o.d.param0 := by rw [flashReached, hstop]; rfl
  have hlen : (s.flashRange o.d).2 = o.d.param0 * s.fuse.eraseUnit := congrArg Prod.snd (if_pos (by simp [hop]))
  refine ⟨_, exec_flashOpDone_moves ho hpad, ?_, ?_, fun i hi => ?_⟩
  · rw [← State.sq_of_flashOf ho]
    exact s.flashOf_flashEnd o n
  · rw [State.flashEnd_erase n hop, hstatus, hstop]
    exact State.done_ended _ _ _ _ _
  · rw [State.flash_flashEnd_erase n hop, hwhole, flashByte_flashErase, if_pos (by omega)]

theorem flashRead_completes (hop : o.d.opcode = 6) (hstop : o.stop = false) (hbus : s.padHeld 4 = false) (hhost : s.padHeld 6 = false) :
    Ends (.flashOpDone { sq := r, n := n }) s fun t => t.ended o.d (if o.err then 6 else 0) 0 o.d.len
      ∧ t.out = .dma o.d.addr (flashBytes s.fuse.flash o.d.param1 o.d.len) :: s.out ∧ t.fuse = s.fuse := by
  have hstatus : flashStatus o = if o.err then 6 else 0 := by rw [flashStatus, hstop]; rfl
  have hwhole : flashReached o n o.d.len = o.d.len := by rw [flashReached, hstop]; rfl
  refine ⟨_, exec_flashOpDone_moves ho hbus, ?_, ?_, State.fuse_flashEnd_read n hop⟩
  · rw [State.flashEnd_read n hop, hstatus, hwhole]
    exact State.done_ended _ _ _ _ _
  · rw [State.flashEnd_read n hop, State.done_out, hwhole]
    exact State.emit_out (s.flashGone o.d.sq) hhost

/-- One that a disable stopped ends with what it had done, and with nothing where its pads were held. -/
theorem flashStopped_completes (hstop : o.stop = true) : Ends (.flashOpDone { sq := r, n := n }) s fun t =>
    let k := if s.padHeld 4 then 0 else n
    t.flashOf r = none
      ∧ (o.d.opcode = 6 → t.ended o.d 7 0 (min k (s.flashRange o.d).2))
      ∧ (o.d.opcode = 7 → t.ended o.d 7 0 (min k o.data.length))
      ∧ (o.d.opcode = 8 → t.ended o.d 7 (min k o.d.param0) 0) := by
  refine ⟨_, exec_flashOpDone_stopped ho hstop, ?_⟩
  generalize (if s.padHeld 4 then 0 else n) = k
  have hstatus : flashStatus o = 7 := if_pos hstop
  have hpart : ∀ whole, flashReached o k whole = min k whole := fun whole => if_pos hstop
  refine ⟨?_, fun hop => ?_, fun hop => ?_, fun hop => ?_⟩
  · rw [← State.sq_of_flashOf ho]
    exact s.flashOf_flashEnd o k
  · rw [State.flashEnd_read k hop, hstatus, hpart, State.flashRange_bytes (by simp [hop])]
    exact State.done_ended _ _ _ _ _
  · rw [State.flashEnd_write k hop, hstatus, hpart]
    exact State.done_ended _ _ _ _ _
  · rw [State.flashEnd_erase k hop, hstatus, hpart, hstop]
    exact State.done_ended _ _ _ _ _

end

/-- How much of a command that takes too long was done, which the spec does not state (log entry 72). -/
def State.flashLate (s : State) (o : FlashOp) : Nat :=
  if s.padHeld 4 then 0
  else (Config.freeWord s.free).toNat % ((if o.d.opcode == 8 then o.d.param0 else o.data.length) + 1)

theorem exec_flashTimeout {s : State} {o : FlashOp} (ho : s.host.flashOps.head? = some o) : exec .flashTimeout s
    = .next ((((s.flashGone o.d.sq).tick).flashChange o.d o.data (s.flashLate o)).done o.d 8 1) := by
  change execFlashTimeout s = _
  simp only [execFlashTimeout, ho]
  rfl

theorem flashTimeout_completes {s : State} {o : FlashOp} (ho : s.host.flashOps.head? = some o) :
    Ends .flashTimeout s fun t => t.flashOf o.d.sq = none ∧ t.ended o.d 8 1 0 :=
  ⟨_, exec_flashTimeout ho, State.flashOf_changed s.tick _ _ _ _ _ _ _, State.done_ended _ _ _ _ _⟩

/-! ### NOP, OHB_TX and RX_BUF (R391, R395 to R397) -/

section
variable {s : State} {r : RingId} {d : Desc}

theorem exec_nop (hd : s.headDesc r 0 = some d) : exec (.nop r) s = .next ((s.popDesc r).done d) := by
  change execNop r s = _
  simp only [execNop, State.settle_of_head hd, hd]
  rfl

theorem exec_rxBuf (hd : s.headDesc r 0x21 = some d) :
    exec (.rxBuf r) s = .next ((s.popDesc r).modRing r fun q => { q with rxq := q.rxq ++ [d] }) := by
  change execRxBuf r s = _
  simp only [execRxBuf, State.settle_of_head hd, hd]
  rfl

/-- Serving a ring takes the head of what it has fetched, and changes nothing else of any ring. -/
theorem State.ringOf_popDesc (s : State) (r : Nat) :
    (s.popDesc r).ringOf r = { s.ringOf r with fetched := (s.ringOf r).fetched.drop 1 } :=
  s.ringOf_modRing r fun q => { q with fetched := q.fetched.drop 1 }

variable (hd : s.headDesc r 0x20 = some d) {data : BufRead}
include hd

theorem exec_ohbTx_unbound (hengine : s.ohbEngine r = none) : exec (.ohbTx r data) s = .next ((s.popDesc r).refuse d 1) := by
  change execOhbTx r data s = _
  simp only [execOhbTx, State.settle_of_head hd, hd, hengine]
  rfl

theorem exec_ohbTx_unread {n : Nat} (hengine : s.ohbEngine r = some n) (herr : data.err = true) :
    exec (.ohbTx r data) s = .next ((s.popDesc r).done d 6 0 data.bytes.length) := by
  change execOhbTx r data s = _
  simp only [execOhbTx, State.settle_of_head hd, hd, hengine, herr]
  rfl

theorem exec_ohbTx_queued {n : Nat} (hengine : s.ohbEngine r = some n) (herr : data.err = false) :
    exec (.ohbTx r data) s = .next ((s.popDesc r).modTx n fun x =>
      { x with ohb := x.ohb ++ [{ d := d, data := padTo d.len data.bytes, tod := s.tim.tod }] }) := by
  change execOhbTx r data s = _
  simp only [execOhbTx, State.settle_of_head hd, hd, hengine, herr]
  rfl

end

/-- Settles O26: a command takes the descriptor at the head of its ring, and a flash command ends by its opcode, with all of its
work done or with what a disable left it. -/
theorem hostCommands : Obligations.HostCommands := by
  refine ⟨?nop, ?starts, ?writes, ?erases, ?reads, ?stopped, ?waits, ?late, ?queued, ?turnedAway, ?posted⟩
  case nop => exact fun r d s hd => ⟨_, exec_nop hd, State.done_ended _ _ _ _ _⟩
  case starts =>
    intro r d data c s hc
    obtain ⟨read, hexec⟩ := exec_flash_starts hc
    exact ⟨_, hexec, s.flashStart_ends d read⟩
  case writes =>
    intro r n o s ho hop hstop hpad
    obtain ⟨t, hexec, hgone, hended, hbytes⟩ := flashWrite_completes ho hop hstop hpad
    exact ⟨t, hexec, hgone, hended, fun _ => hbytes⟩
  case erases => exact fun r n o s ho hop hstop hpad => flashErase_completes ho hop hstop hpad
  case reads => exact fun r n o s ho hop hstop hbus hhost => flashRead_completes ho hop hstop hbus hhost
  case stopped => exact fun r n o s ho hstop => flashStopped_completes ho hstop
  case waits => exact fun r n o s ho hstop hpad => ⟨s, exec_flashOpDone_waits ho hpad hstop, rfl⟩
  case late => exact fun o s ho => flashTimeout_completes ho
  case queued =>
    intro r d data n s hd hengine herr
    refine ⟨_, exec_ohbTx_queued hd hengine herr, ?_⟩
    dsimp only
    rw [State.txOf_modTx, State.txOf_popDesc]
  case turnedAway =>
    intro r d data s hd
    cases hengine : s.ohbEngine r with
    | none => exact ⟨_, exec_ohbTx_unbound hd hengine, fun _ => State.refuse_ended _ _ _, fun h => absurd rfl h⟩
    | some n =>
      cases herr : data.err with
      | true => exact ⟨_, exec_ohbTx_unread hd hengine herr, nofun, fun _ _ => State.done_ended _ _ _ _ _⟩
      | false => exact ⟨_, exec_ohbTx_queued hd hengine herr, nofun, nofun⟩
  case posted =>
    intro r d s hd
    refine ⟨_, exec_rxBuf hd, ?_⟩
    dsimp only
    rw [State.ringOf_modRing, State.ringOf_popDesc]

end Sys2Proof.Machine
end

section
/-! The target of a SHELF_WRITE: a write at offset 0 erases the target, so that the shelf it names is found again afterwards
(15_security_and_config.md R512). -/
namespace Sys2Proof.Machine

/-- A write that keeps the order of R512, fits its shelf and reads back as it was written. -/
theorem exec_shelfWrite_taken {s : State} {r : RingId} {d : Desc} {data : BufRead} {fails : Nat} (hd : s.headDesc r 4 = some d)
    (hfit : ¬ 1048576 < d.param1 + d.len) (horder : (s.popDesc r).stageOrder d.param1 = true) (herr : data.err = false)
    (hverified : unverified fails = false) : exec (.shelfWrite r data fails) s
      = .next (((s.popDesc r).shelfTake d.param1 (data.bytes.take d.len)).done d 0 0 (data.bytes.take d.len).length) := by
  change execShelfWrite r data fails s = _
  simp only [execShelfWrite, State.settle_of_head hd, hd, hfit, horder, herr, hverified]
  rfl

/-- A SHELF_WRITE at offset 0 of a header and one byte of body. -/
def headerAndByte : Desc := { sq := 4, opcode := 4, len := 129 }

/-- The bytes that it writes. -/
def zeros : BufRead := { bytes := List.replicate 129 0 }

/-- Shelf A is named current but not valid, Shelf B valid, and the SHELF_WRITE above waits in ring 4. -/
def namedNotValid : State :=
  (State.reset.wrs [(.SEC_SHELF_STATUS_b_valid, 0, 1), (.HOST_RCTX_CFG_priv, 4, 1)]).modRing 4 fun q =>
    { q with fetched := [headerAndByte] }

theorem headDesc_namedNotValid : namedNotValid.headDesc 4 4 = some headerAndByte := by decide

/-- The target is Shelf B. -/
theorem shelfTarget_namedNotValid : namedNotValid.shelfTarget = 1 := by decide

/-- Once Shelf B is erased no shelf is valid, and the byte of body goes to Shelf A. -/
theorem byte_in_shelfA : flashByte ((namedNotValid.popDesc (4 : RingId)).shelfTake headerAndByte.param1
    (zeros.bytes.take headerAndByte.len)).fuse.flash (shelfBase 0 + 128) = 0 := by decide +kernel

theorem erased_namedNotValid : flashByte namedNotValid.fuse.flash (shelfBase 0 + 128) = 0xFF := by decide

/-- Refutes O52: where the shelf named current is not valid, erasing the target, which is the valid one, moves the target to the
other shelf, and the bytes behind the header are programmed there. -/
theorem not_flashOutsideTheRange : ¬ Obligations.FlashOutsideTheRange := by
  rintro ⟨-, hwrite, -⟩
  obtain ⟨t, ht, hbyte⟩ := hwrite 4 zeros 0 (shelfBase 0 + 128) namedNotValid
    (by rw [shelfTarget_namedNotValid]; decide)
  rw [exec_shelfWrite_taken headDesc_namedNotValid (by decide) (by decide) rfl rfl] at ht
  obtain rfl := Host.Outcome.next.inj ht
  rw [State.done_fuse] at hbyte
  exact absurd (byte_in_shelfA.symm.trans (hbyte.trans erased_namedNotValid)) (by decide)

end Sys2Proof.Machine
end

section
/-! The count of stale completions at its top: the count that wraps it raises COUNTER_WRAP, whose own record may be discarded as
stale and counted (11_host_rings.md R385; 16_counters_and_events.md R520, R528). -/
namespace Sys2Proof.Machine

theorem exec_completionWrite_discarded {s : State} {cq : RingId} {c : Cpl} {rest : List Cpl} (hwait : (s.ringOf cq).cplq = c :: rest)
    (hgone : s.ringActive cq = false) :
    exec (.completionWrite cq) s = .next (s.modRing cq fun q => { q with cplq := rest }).stale := by
  change execCompletionWrite cq s = _
  simp only [execCompletionWrite, hwait, hgone]
  rfl

/-- HOST_STALE_CPL stands at its top, a completion waits for ring 5, which is DISABLED, and events of severity INFO are routed to
ring 9, an EVT CQ that is QUIESCING. -/
def infoRouteGone : State :=
  let s := State.reset.wrs [(.HOST_RCTX_CFG_kind, 9, 1), (.HOST_RCTX_CFG_class, 9, 1), (.HOST_RCTX_STATE_state, 9, 2),
    (.PERF_EVT_ROUTE_en, 0, 1), (.PERF_EVT_ROUTE_ring, 0, 9)]
  { s with cnt := [(522, 2 ^ 48 - 1)] }.modRing 5 fun q => { q with cplq := [{}] }

theorem cplq_infoRouteGone : (infoRouteGone.ringOf (5 : RingId)).cplq = [{}] := by decide

/-- The completion wraps the count to 0, and the record of COUNTER_WRAP counts again. -/
theorem stale_after_completion : (infoRouteGone.modRing (5 : RingId) fun q => { q with cplq := [] }).stale.cntOf 522 = 1 := by
  decide +kernel

/-- Refutes O25: a completion that is discarded counts once as it says, but where that count wraps, the record of COUNTER_WRAP
that goes to a ring being disabled is discarded and counted too. -/
theorem not_ringTraffic : ¬ Obligations.RingTraffic := by
  rintro ⟨-, -, -, -, hdiscards, -⟩
  have hgone : infoRouteGone.ringActive (5 : RingId) = false := by decide
  obtain ⟨t, ht, -, -, hcount⟩ := hdiscards 5 {} [] infoRouteGone cplq_infoRouteGone (.inl hgone)
  rw [exec_completionWrite_discarded cplq_infoRouteGone hgone] at ht
  obtain rfl := Host.Outcome.next.inj ht
  exact absurd (stale_after_completion.symm.trans hcount) (by decide +kernel)

end Sys2Proof.Machine
end

section
/-! Contexts of rings and their doorbells: enable, disable, the end of a disable, and the writes of a doorbell (11_host_rings.md
R380 to R387). -/
namespace Sys2Proof.Machine

/-! ### What is fetched, and what has ended, while descriptors complete (R383, R394) -/

section
variable (s : State)

theorem State.fetched_modRing (j k : Nat) {g : RingSt → RingSt} (hg : ∀ q, (g q).fetched = q.fetched) :
    ((s.modRing j g).ringOf k).fetched = (s.ringOf k).fetched := by
  by_cases hk : j = k
  · subst hk
    rw [State.ringOf_modRing, hg]
  · rw [State.ringOf_modRing_ne _ _ hk]

theorem State.fetched_complete (c : Cpl) (k : Nat) : ((s.complete c).ringOf k).fetched = (s.ringOf k).fetched := by
  have hflush : ∀ n (t : State) r, ((State.flushCpl n t r).ringOf k).fetched = (t.ringOf k).fetched := by
    intro n
    induction n with
    | zero => exact fun _ _ => rfl
    | succ n ih =>
      intro t r
      unfold State.flushCpl
      dsimp only
      split
      · rfl
      · rw [ih, State.fetched_modRing, State.fetched_modRing] <;> exact fun _ => rfl
  refine (hflush _ _ _).trans (s.fetched_modRing _ _ ?_)
  exact fun _ => rfl

theorem State.fetched_abortAll (l : List Desc) (k : Nat) : ((s.abortAll l).ringOf k).fetched = (s.ringOf k).fetched :=
  List.foldlRecOn (motive := fun t : State => (t.ringOf k).fetched = (s.ringOf k).fetched) l _ rfl
    fun t ht _ _ => (t.fetched_complete _ k).trans ht

theorem State.fetched_ohbAbort (r k : Nat) : ((s.ohbAbort r).ringOf k).fetched = (s.ringOf k).fetched :=
  List.foldlRecOn (motive := fun t : State => (t.ringOf k).fetched = (s.ringOf k).fetched) (upTo 4) _ rfl
    fun _ ht _ _ => (State.fetched_abortAll _ _ k).trans ht

variable {s} {d : Desc} {status detail moved : Nat}

/-- A descriptor that has ended still has when another completes. -/
theorem State.ended_complete (c : Cpl) (h : s.ended d status detail moved) : (s.complete c).ended d status detail moved := by
  obtain ⟨x, hx, rfl, hrest⟩ := h
  refine ⟨x, State.flushCpl_keeps _ _ _ ?_, rfl, hrest⟩
  have hring : ∀ k, x ∈ (s.ringOf k).held → x ∈ ((s.modRing c.d.sq fun q => { q with held := q.held ++ [c] }).ringOf k).held := by
    intro k hk
    by_cases hsq : c.d.sq = k
    · subst hsq
      rw [State.ringOf_modRing]
      exact List.mem_append_left _ hk
    · rwa [State.ringOf_modRing_ne _ _ hsq]
  have hcplq : ∀ k, ((s.modRing c.d.sq fun q => { q with held := q.held ++ [c] }).ringOf k).cplq = (s.ringOf k).cplq := by
    intro k
    by_cases hsq : c.d.sq = k
    · subst hsq
      rw [State.ringOf_modRing]
    · rw [State.ringOf_modRing_ne _ _ hsq]
  rw [hcplq]
  exact (List.mem_append.mp hx).elim (fun h => List.mem_append_left _ (hring _ h)) (List.mem_append_right _)

theorem State.ended_abortAll (l : List Desc) (h : s.ended d status detail moved) : (s.abortAll l).ended d status detail moved :=
  List.foldlRecOn (motive := fun t : State => t.ended d status detail moved) l _ h fun _ ht _ _ => State.ended_complete _ ht

end

/-- Every descriptor of a list that is aborted ends ABORTED. -/
theorem State.abortAll_ended {d : Desc} {l : List Desc} (hd : d ∈ l) (s : State) : (s.abortAll l).ended d 7 0 0 := by
  induction l generalizing s with
  | nil => cases hd
  | cons x l ih =>
    rcases List.mem_cons.mp hd with rfl | hd
    · exact State.ended_abortAll l (s.done_ended d 7 0 0)
    · exact ih hd _

/-! ### Enable (R381, R382) -/

/-- The ring with the fields of a written CFG word, before its enable is checked. -/
def State.cfgTaken (s : State) (r cfg : Nat) : State := cfgFields.foldl (fun t f => t.wr f r (f.part cfg)) s

theorem State.rd_cfgTaken (s : State) (r cfg : Nat) {f : Fld} (i : Nat) (hf : f ∉ cfgFields) : (s.cfgTaken r cfg).rd f i = s.rd f i :=
  List.foldlRecOn (motive := fun t : State => t.rd f i = s.rd f i) cfgFields _ rfl
    fun t ht g hg => (t.rd_wr_ne _ _ _ fun e : g = f => hf (e ▸ hg)).trans ht

theorem State.cfgTaken_log2size (s : State) (r cfg : Nat) :
    (s.cfgTaken r cfg).rd .HOST_RCTX_CFG_log2size r = (Fld.HOST_RCTX_CFG_log2size).part cfg := by
  change (((((_ : State).wr .HOST_RCTX_CFG_log2size r _).wr .HOST_RCTX_CFG_priv r _).wr .HOST_RCTX_CFG_gen r _).rd
    .HOST_RCTX_CFG_log2size r) = _
  rw [State.rd_wr_ne _ _ _ _ (by decide), State.rd_wr_ne _ _ _ _ (by decide), State.rd_wr_self]
  exact Nat.mod_eq_of_lt (fieldOf_lt _ _ _)

/-- The fields of CFG that an enable takes stand above its bit 0. -/
theorem part_enableWord {cfg : Nat} (hcfg : cfg < 2 ^ 32) {f : Fld} (hf : f ∈ cfgFields) :
    f.part ((cfg / 2 * 2 + 1) % 2 ^ 32) = f.part cfg := by
  have habove : ∀ f ∈ cfgFields, 1 ≤ f.info.lo := by decide
  obtain ⟨k, hk⟩ := Nat.exists_eq_add_of_le (habove f hf)
  have hword : (cfg / 2 * 2 + 1) % 2 ^ 32 / 2 = cfg / 2 := by omega
  simp only [Fld.part, fieldOf, hk, Nat.pow_add, Nat.pow_one, ← Nat.div_div_eq_div_mul, hword]

theorem State.cfgTaken_enableWord (s : State) (r : Nat) {cfg : Nat} (hcfg : cfg < 2 ^ 32) :
    s.cfgTaken r ((cfg / 2 * 2 + 1) % 2 ^ 32) = s.cfgTaken r cfg :=
  List.foldl_ext _ _ _ fun t f hf => by rw [part_enableWord hcfg hf]

theorem State.regTake_rctxCfg {s : State} {rq : Requester} {r : Nat} (val : Nat) (h : s.fate rq .HOST_RCTX_CFG r = .takes) :
    s.regTake rq .HOST_RCTX_CFG r val = s.ringCfgWrite rq r (val % 2 ^ 32) := by
  have habsent : ¬ s.namesAbsent .HOST_RCTX_CFG r (val % 2 ^ 32) = true := by simp [State.namesAbsent]
  simp only [State.regTake, h]
  exact if_neg habsent

theorem exec_ringEnable {s : State} {rq : Requester} {r : RingId} (cfg : Nat) (h : s.fate rq .HOST_RCTX_CFG r = .takes) :
    exec (.ringEnable rq r cfg) s = .next (s.ringEnable rq r ((cfg / 2 * 2 + 1) % 2 ^ 32)) :=
  congrArg ok ((State.regTake_rctxCfg _ h).trans (if_pos (by omega)))

section
variable {s : State} {rq : Requester} {r cfg : Nat}

theorem State.ringEnable_busy (h : s.rd .HOST_RCTX_STATE_state r ≠ 0) :
    s.ringEnable rq r cfg = s.raiseReg .HOST_EV_ctx_bad 0 { obj := r } := if_pos (by simpa using h)

theorem State.ringEnable_refused (h : s.rd .HOST_RCTX_STATE_state r = 0) (herr : (s.cfgTaken r cfg).enableErr rq r ≠ 0) :
    s.ringEnable rq r cfg = (((s.cfgTaken r cfg).wr .HOST_RCTX_CFG_en r 0).wr .HOST_RCTX_STATE_err r
      ((s.cfgTaken r cfg).enableErr rq r)).raiseReg .HOST_EV_ctx_bad 0 { obj := r } :=
  (if_neg (by simp [h])).trans (if_pos (bne_iff_ne.mpr herr))

theorem State.rd_withHost (s : State) (h : HostSt) (f : Fld) (i : Nat) : State.rd { s with host := h } f i = s.rd f i := rfl

/-- The registers of a ring that becomes ACTIVE. -/
def State.ringStarted (s : State) (r : Nat) : State :=
  s.wrs [(.HOST_RCTX_CFG_en, r, 1), (.HOST_RCTX_STATE_state, r, 1), (.HOST_RCTX_STATE_err, r, 0),
    (.HOST_RCTX_IDX_host_idx, r, 0), (.HOST_RCTX_IDX_dev_idx, r, 0)]

theorem State.ringEnable_accepted (h : s.rd .HOST_RCTX_STATE_state r = 0) (herr : (s.cfgTaken r cfg).enableErr rq r = 0) :
    ∃ host g, s.ringEnable rq r cfg = { (s.cfgTaken r cfg).ringStarted r with host := host }.modRing r g := by
  have hstate : ¬ (s.rd .HOST_RCTX_STATE_state r != 0) = true := by simp [h]
  have hpass : ¬ ((s.cfgTaken r cfg).enableErr rq r != 0) = true := by simp [herr]
  exact ⟨_, _, (if_neg hstate).trans (if_neg hpass)⟩

/-- The code of a failing check fits its field. -/
theorem State.enableErr_lt (s : State) (rq : Requester) (r : Nat) : s.enableErr rq r < 2 ^ 4 := by
  unfold State.enableErr
  dsimp only
  repeat' split
  all_goals decide

/-- A ring whose checks pass is ACTIVE, its counts at 0. -/
theorem State.ringEnable_accepted_shows (h : s.rd .HOST_RCTX_STATE_state r = 0) (herr : (s.cfgTaken r cfg).enableErr rq r = 0) :
    (s.ringEnable rq r cfg).rd .HOST_RCTX_STATE_state r = 1 ∧ (s.ringEnable rq r cfg).rd .HOST_RCTX_CFG_en r = 1
      ∧ (s.ringEnable rq r cfg).rd .HOST_RCTX_STATE_err r = 0 ∧ (s.ringEnable rq r cfg).rd .HOST_RCTX_IDX_host_idx r = 0
      ∧ (s.ringEnable rq r cfg).rd .HOST_RCTX_IDX_dev_idx r = 0
      ∧ (s.ringEnable rq r cfg).rd .HOST_RCTX_CFG_log2size r = (Fld.HOST_RCTX_CFG_log2size).part cfg := by
  obtain ⟨host, g, e⟩ := State.ringEnable_accepted h herr
  have hrd : ∀ f i, (s.ringEnable rq r cfg).rd f i = ((s.cfgTaken r cfg).ringStarted r).rd f i := fun f i => by
    rw [e, State.rd_modRing, State.rd_withHost]
  simp only [hrd, State.ringStarted, State.wrs_cons, State.wrs_nil, State.rd_wr, reduceCtorEq, false_and, true_and, if_false, if_true]
  exact ⟨rfl, rfl, rfl, rfl, rfl, s.cfgTaken_log2size r cfg⟩

/-- A ring whose checks fail stays DISABLED with the code of the first. -/
theorem State.ringEnable_refused_shows (h : s.rd .HOST_RCTX_STATE_state r = 0) (herr : (s.cfgTaken r cfg).enableErr rq r ≠ 0) :
    (s.ringEnable rq r cfg).rd .HOST_RCTX_STATE_state r = 0 ∧ (s.ringEnable rq r cfg).rd .HOST_RCTX_CFG_en r = 0
      ∧ (s.ringEnable rq r cfg).rd .HOST_RCTX_STATE_err r = (s.cfgTaken r cfg).enableErr rq r
      ∧ (s.ringEnable rq r cfg).rd .HOST_EV_ctx_bad = 1 := by
  rw [State.ringEnable_refused h herr]
  have hkept : ∀ (t : State) (f : Fld), f ∉ recordFlds → .HOST_EV_ctx_bad ≠ f →
      (t.raiseReg .HOST_EV_ctx_bad 0 { obj := r }).rd f r = t.rd f r := fun t f hf hne => t.rd_raiseReg_kept 0 r _ hf hne
  refine ⟨?_, ?_, ?_, State.rd_raiseReg_raised _ _ _ (by decide) rfl⟩
  · rw [hkept _ _ (by decide) (by decide), State.rd_wr_ne _ _ _ _ (by decide), State.rd_wr_ne _ _ _ _ (by decide),
      s.rd_cfgTaken r cfg r (by decide), h]
  · rw [hkept _ _ (by decide) (by decide), State.rd_wr_ne _ _ _ _ (by decide), State.rd_wr_self]
    rfl
  · rw [hkept _ _ (by decide) (by decide), State.rd_wr_self]
    exact Nat.mod_eq_of_lt (State.enableErr_lt _ _ _)

end

/-! ### Disable (R381, R383) -/

theorem exec_ringDisable {s : State} {r : RingId} (cfg : Nat) (h : s.fate .host .HOST_RCTX_CFG r = .takes) :
    exec (.ringDisable r cfg) s = .next (s.ringDisable r (cfg / 2 * 2 % 2 ^ 32)) :=
  congrArg ok ((State.regTake_rctxCfg _ h).trans (if_neg (by omega)))

/-- A disable that changes other fields is reported, and the ring follows R383 all the same. -/
theorem State.ringDisable_quiesces {s : State} {r : Nat} (cfg : Nat)
    (h : s.rd .HOST_RCTX_STATE_state r = 1 ∨ s.rd .HOST_RCTX_STATE_state r = 3) :
    ∃ u, s.ringDisable r cfg = u.ringQuiesce r ∧ s.Records [.HOST_EV_ctx_bad] u :=
  ⟨_, if_pos (by simpa using h), .ite .refl (.raiseReg 0 _ (by decide) .refl)⟩

/-- What a ring that is being disabled shows. -/
def State.showsQuiescing (s : State) (r : Nat) : Prop := s.rd .HOST_RCTX_STATE_state r = 2 ∧ s.rd .HOST_RCTX_CFG_en r = 0

/-- A ring as a disable finds it, its registers changed. -/
def State.quiescing (s : State) (r : Nat) : State := (s.wr .HOST_RCTX_CFG_en r 0).wr .HOST_RCTX_STATE_state r 2

theorem State.quiescing_shows (s : State) (r : Nat) : (s.quiescing r).showsQuiescing r :=
  ⟨State.rd_wr_self _ _ _ _, (State.rd_wr_ne _ _ _ _ (by decide)).trans (State.rd_wr_self _ _ _ _)⟩

theorem State.rd_kind_quiescing (s : State) (r i : Nat) : (s.quiescing r).rd .HOST_RCTX_CFG_kind i = s.rd .HOST_RCTX_CFG_kind i :=
  (State.rd_wr_ne _ _ _ _ (by decide)).trans (State.rd_wr_ne _ _ _ _ (by decide))

theorem State.showsQuiescing.keep {s t : State} {r : Nat} (h : s.showsQuiescing r) (hrd : ∀ f i, t.rd f i = s.rd f i) :
    t.showsQuiescing r := ⟨(hrd _ _).trans h.1, (hrd _ _).trans h.2⟩

/-- An SQ as a disable leaves it, apart from its commands in execution, which are to stop. -/
def State.sqAborted (s : State) (r : Nat) : State :=
  (((s.quiescing r).modRing r fun q => { q with fetched := [], rxq := [] }).ohbAbort r).abortAll
    ((s.ringOf r).rxq ++ (s.ringOf r).fetched)

theorem State.ringQuiesce_sq {s : State} {r : Nat} (hkind : s.rd .HOST_RCTX_CFG_kind r = 0) :
    ∃ h, s.ringQuiesce r = { s.sqAborted r with host := h } :=
  ⟨_, if_pos (beq_iff_eq.mpr ((s.rd_kind_quiescing r r).trans hkind))⟩

/-- An SQ: what has not started completes ABORTED. -/
theorem State.ringQuiesce_sq_shows {s : State} {r : Nat} (hkind : s.rd .HOST_RCTX_CFG_kind r = 0) :
    (s.ringQuiesce r).showsQuiescing r ∧ ((s.ringQuiesce r).ringOf r).fetched = []
      ∧ ∀ d ∈ (s.ringOf r).rxq ++ (s.ringOf r).fetched, (s.ringQuiesce r).ended d 7 0 0 := by
  obtain ⟨h, e⟩ := State.ringQuiesce_sq hkind
  rw [e]
  have hshows : (s.sqAborted r).showsQuiescing r := by
    refine ((s.quiescing_shows r).keep fun f i => ?_)
    exact ((State.abortAll_spec _ _).rd_part (F := 0x400) f i).trans ((State.ohbAbort_spec _ _).rd_part (F := 0x410) f i)
  have hfetched : ((s.sqAborted r).ringOf r).fetched = [] := by
    rw [State.sqAborted, State.fetched_abortAll, State.fetched_ohbAbort, State.ringOf_modRing]
  exact ⟨hshows, hfetched, fun d hd => State.ended_ring (State.abortAll_ended hd _) rfl⟩

/-- What a CQ that is being disabled shows, and that nothing waits for it. -/
def State.cqQuiesced (s : State) (r : Nat) : Prop := s.showsQuiescing r ∧ (s.ringOf r).cplq = []

theorem State.cqQuiesced.records {but : List Fld} {s t : State} {r : Nat} (h : s.cqQuiesced r) (g : s.Records but t)
    (hstate : .HOST_RCTX_STATE_state ∉ but) (hen : .HOST_RCTX_CFG_en ∉ but) : t.cqQuiesced r :=
  ⟨⟨(g.rd _ _ (by simp [hstate, recordFlds])).trans h.1.1, (g.rd _ _ (by simp [hen, recordFlds])).trans h.1.2⟩,
    (g.queues r).2.2.trans h.2⟩

theorem State.dropCplq_quiesced {s : State} {r : Nat} (h : s.showsQuiescing r) : (s.dropCplq r).cqQuiesced r := by
  have hempty : (s.modRing r fun q => { q with cplq := [] }).cqQuiesced r :=
    ⟨h, congrArg RingSt.cplq (s.ringOf_modRing r fun q => { q with cplq := [] })⟩
  exact hempty.records (but := []) (.fold _ (fun _ _ => .stale .refl) .refl) (by simp) (by simp)

/-- An SQ that loses its CQ changes no other ring. -/
theorem State.cqQuiesced.ringError {s : State} {r k : Nat} (err : Nat) (h : s.cqQuiesced r) (hk : k ≠ r) : (s.ringError k err).cqQuiesced r := by
  refine State.cqQuiesced.records (but := [.HOST_EV_ring_err])
    (s := (s.wr .HOST_RCTX_STATE_state k 3).wr .HOST_RCTX_STATE_err k err) ?_ (.raiseReg 0 _ (by decide) .refl) (by decide) (by decide)
  obtain ⟨⟨hstate, hen⟩, hcplq⟩ := h
  refine ⟨⟨?_, ?_⟩, hcplq⟩
  · rw [State.rd_wr_ne _ _ _ _ (by decide), State.rd_wr_inst _ _ _ _ hk, hstate]
  · rw [State.rd_wr_ne _ _ _ _ (by decide), State.rd_wr_ne _ _ _ _ (by decide), hen]

theorem State.ringQuiesce_cq {s : State} {r : Nat} (hkind : s.rd .HOST_RCTX_CFG_kind r ≠ 0) : (s.ringQuiesce r).cqQuiesced r := by
  have hkind' : (s.quiescing r).rd .HOST_RCTX_CFG_kind r ≠ 0 := by rwa [State.rd_kind_quiescing]
  have hdrop := State.dropCplq_quiesced (s.quiescing_shows r)
  have hcq : ((s.quiescing r).dropCplq r).rd .HOST_RCTX_CFG_kind r ≠ 0 := by
    rwa [(State.dropCplq_spec _ _).rd _ _ rfl]
  have hquiesce : s.ringQuiesce r = _ := if_neg fun h => hkind' (beq_iff_eq.mp h)
  rw [hquiesce]
  refine List.foldlRecOn (motive := fun t : State => t.cqQuiesced r) _ _ hdrop fun t ht k hk => ht.ringError 8 ?_
  rintro rfl
  have hsq := (List.mem_filter.mp hk).2
  simp only [Bool.and_eq_true, beq_iff_eq] at hsq
  exact hcq hsq.1

/-! ### Doorbells (R386, R387) -/

section
variable {s : State} {off word : Nat}

/-- The doorbell moves its ring's count: it names a ring that is ACTIVE, and stays within its size. -/
def State.doorbellOk (s : State) (off word : Nat) : Prop :=
  s.ringActive (off / 4) = true ∧ word / 65536 = off / 4
    ∧ (word % 65536 + 65536 - s.rd .HOST_RCTX_IDX_host_idx (off / 4)) % 65536 ≤ s.ringSize (off / 4)
    ∧ (if s.rd .HOST_RCTX_CFG_kind (off / 4) = 0 then (word % 65536 + 65536 - s.rd .HOST_RCTX_IDX_dev_idx (off / 4)) % 65536
        else (s.rd .HOST_RCTX_IDX_dev_idx (off / 4) + 65536 - word % 65536) % 65536) ≤ s.ringSize (off / 4)

/-- A doorbell's ring takes its count or the doorbell is counted. -/
theorem State.doorbell_place (hreach : s.hostUnreachable = false) (hboot : s.on .SYS_RST_STATUS_boot_ready = true)
    (hoff : off % 4 = 0) (hin : off < 0x40000) :
    (s.doorbellOk off word → s.doorbell off word = s.wr .HOST_RCTX_IDX_host_idx (off / 4) (word % 65536))
      ∧ (¬ s.doorbellOk off word → s.doorbell off word = s.raiseCount (.reg .HOST_EV_db_bad 0) { obj := off / 4 } 521) := by
  have hopen : ¬ (s.hostUnreachable || !s.on .SYS_RST_STATUS_boot_ready) = true := by simp [hreach, hboot]
  have hplace : ¬ (off % 4 != 0 || decide (0x40000 ≤ off)) = true := by simp [hoff, hin]
  refine ⟨fun hok => ?_, fun hbad => ?_⟩
  · exact (if_neg hopen).trans ((if_neg hplace).trans (if_pos (by simpa [State.doorbellOk, and_assoc] using hok)))
  · exact (if_neg hopen).trans ((if_neg hplace).trans (if_neg (by simpa [State.doorbellOk, and_assoc] using hbad)))

theorem State.doorbell_bad (hreach : s.hostUnreachable = false) (hboot : s.on .SYS_RST_STATUS_boot_ready = true)
    (hbad : off % 4 ≠ 0 ∨ 0x40000 ≤ off) : s.doorbell off word = s.accBad :=
  (if_neg (by simp [hreach, hboot])).trans (if_pos (by simpa using hbad))

theorem exec_doorbell {c : Instr} (hc : c = .sqDoorbell off word ∨ c = .cqDoorbell off word) : exec c s = .next (s.doorbell off word) := by
  rcases hc with rfl | rfl <;> rfl

/-- An event of a host ring that is counted, by the counters 520 and 521. -/
theorem State.cntOf_raiseCount_host (s : State) {f : Fld} (i : Nat) (a : EvArg) {k : Nat} (hk : k = 520 ∨ k = 521) :
    (s.raiseCount (.reg f i) a k).cntOf k = (s.cntOf k + 1) % 2 ^ 48 := by
  have hev : k ∉ evCounters := by rcases hk with rfl | rfl <;> decide
  have hvalid : s.cntValid k = true := by rcases hk with rfl | rfl <;> rfl
  have hfuse : (s.raise (.reg f i) a).fuse = s.fuse := (s.raiseReg_spec f i a).keep .fuse (f.recBit_part 0 rfl rfl)
  rw [State.cntOf_raiseCount _ _ _ _ _ _ hev hev (State.cntValid_congr hfuse k), if_pos ⟨hvalid, rfl⟩]

end

/-- Settles O24: an enable and a disable write the registers of their ring, which no record of an event changes, and a doorbell
moves its ring's count or is counted. -/
theorem ringContexts : Obligations.RingContexts := by
  refine ⟨?enables, ?busy, ?disables, ?drained, ?moves, ?counted, ?astray⟩
  case enables =>
    intro rq r cfg s hfate hcfg hstate
    refine ⟨_, exec_ringEnable cfg hfate, ?_⟩
    have htaken := s.cfgTaken_enableWord r hcfg
    have hsize := part_enableWord hcfg (f := .HOST_RCTX_CFG_log2size) (by decide)
    have herrs : (cfgFields.foldl (fun u f => u.wr f r (f.part cfg)) s).enableErr rq r
        = (s.cfgTaken r ((cfg / 2 * 2 + 1) % 2 ^ 32)).enableErr rq r := congrArg (State.enableErr · rq r) htaken.symm
    dsimp only
    rw [herrs]
    refine ⟨fun herr => ?_, State.ringEnable_refused_shows hstate⟩
    obtain ⟨hactive, hen, hcode, hhost, hdev, hlog2⟩ := State.ringEnable_accepted_shows hstate herr
    exact ⟨hactive, hen, hcode, hhost, hdev, hlog2.trans hsize⟩
  case busy =>
    intro rq r cfg s hfate hstate
    refine ⟨_, exec_ringEnable cfg hfate, ?_⟩
    rw [State.ringEnable_busy hstate]
    exact ⟨State.rd_raiseReg_raised _ _ _ (by decide) rfl, State.rd_raiseReg_kept _ _ _ _ (by decide) (by decide)⟩
  case disables =>
    intro r cfg s hfate hstate
    obtain ⟨u, hdisable, hu⟩ := State.ringDisable_quiesces (cfg / 2 * 2 % 2 ^ 32) hstate
    refine ⟨_, (exec_ringDisable cfg hfate).trans (congrArg _ hdisable), ?_⟩
    have hkind : u.rd .HOST_RCTX_CFG_kind r = s.rd .HOST_RCTX_CFG_kind r := hu.rd _ _ (by decide)
    obtain ⟨hfetched, hrxq, -⟩ := hu.queues r
    rw [← hkind, ← hfetched, ← hrxq]
    by_cases hsq : u.rd .HOST_RCTX_CFG_kind r = 0
    · obtain ⟨⟨hstate, hen⟩, hempty, hended⟩ := State.ringQuiesce_sq_shows hsq
      exact ⟨hstate, hen, fun _ => ⟨hempty, hended⟩, fun hcq => absurd (hsq.symm.trans hcq) (by decide)⟩
    · obtain ⟨⟨hstate, hen⟩, hempty⟩ := State.ringQuiesce_cq hsq
      exact ⟨hstate, hen, fun h => absurd h hsq, fun _ => hempty⟩
  case drained =>
    exact fun r s hstate hdrained => ⟨_, congrArg ok (if_pos (by simp [hstate, hdrained])), State.rd_wr_self _ _ _ _⟩
  case moves =>
    intro off word c s hc hreach hboot hoff hin hactive hname hstep hfar
    have hok : s.doorbellOk off word := ⟨hactive, hname, hstep, hfar⟩
    refine ⟨_, exec_doorbell hc, ?_⟩
    rw [(State.doorbell_place hreach hboot hoff hin).1 hok]
    exact (State.rd_wr_self _ _ _ _).trans (Nat.mod_mod _ _)
  case counted =>
    intro off word c s hc hreach hboot hoff hin hnot
    have hbad : ¬ s.doorbellOk off word := by
      rintro ⟨hactive, hname, hstep, hfar⟩
      rcases hnot with h | h | h | h
      · exact absurd (hactive.symm.trans h) (by decide)
      · exact h hname
      · exact absurd hstep (Nat.not_le.mpr h)
      · exact absurd hfar (Nat.not_le.mpr h)
    refine ⟨_, exec_doorbell hc, ?_⟩
    rw [(State.doorbell_place hreach hboot hoff hin).2 hbad]
    exact ⟨State.rd_raiseCount_raised _ _ _ _ _ (by decide) rfl, State.cntOf_raiseCount_host _ _ _ (.inr rfl),
      State.rd_raiseCount_kept _ _ _ _ _ _ (by decide) (by decide)⟩
  case astray =>
    intro off word c s hc hreach hboot hbad
    refine ⟨_, exec_doorbell hc, ?_⟩
    rw [State.doorbell_bad hreach hboot hbad]
    exact ⟨State.rd_raiseCount_raised _ _ _ _ _ (by decide) rfl, State.cntOf_raiseCount_host _ _ _ (.inl rfl)⟩

end Sys2Proof.Machine
end
